-- ==== Sys2Proof/Word.lean ====
section
/-! DEFINITION. The word types of the block: bytes, 32-bit registers (R3) and 64-bit notice and record words (R262, R365). -/

namespace Sys2Proof

/-- One byte. -/
abbrev Byte := BitVec 8

/-- A register: 32 bits (R3). -/
abbrev Word := BitVec 32

/-- A notice or record word: 64 bits (R262, R365). -/
abbrev DWord := BitVec 64

end Sys2Proof
end

