-- ==== Sys2Proof/Base.lean ====
section
/-! DEFINITION. The plain types that commands and state share: ports, owners, severities, modes, access paths, recorder records and NOR contents. -/

namespace Sys2Proof

/-- A Type-C port: 0 is UP, 1–15 are DP1–DP15. -/
abbrev PortId := Fin 16

/-- A ring VI, V0–V63. -/
abbrev RingId := Fin 64

/-- A classic VI, C0–C4. -/
abbrev ClassicId := Fin 5

/-- Who holds a port (R9). Reserved codes have no constructor: the device never reports one. -/
inductive Owner where
  | none
  | classic (c : ClassicId)
  | ring (v : RingId)
  deriving DecidableEq, Repr

/-- The 7-bit owner code (R9). -/
def Owner.code : Owner → Nat
  | .none => 0
  | .classic c => 1 + c.val
  | .ring v => 0x40 + v.val

/-- The owner a 7-bit code names; none of these for a reserved code (R9). -/
def Owner.ofCode (x : Nat) : Option Owner :=
  if x = 0 then some .none
  else if h : 1 ≤ x ∧ x ≤ 5 then some (.classic ⟨x - 1, by omega⟩)
  else if h : 0x40 ≤ x ∧ x ≤ 0x7F then some (.ring ⟨x - 0x40, by omega⟩)
  else Option.none

/-- Severity levels (R10). -/
inductive Sev where
  | info
  | notice
  | warning
  | critical
  deriving DecidableEq, Repr

/-- The two-bit severity code (R10). -/
def Sev.code : Sev → Nat
  | .info => 0
  | .notice => 1
  | .warning => 2
  | .critical => 3

/-- The twelve modes (R51). -/
inductive Mode where
  | off
  | seating
  | inrush
  | boot
  | standalone
  | managed
  | brownout
  | holdup
  | suspend
  | standby
  | quarantine
  | ret
  deriving DecidableEq, Repr

/-- The mode code of R51. -/
def Mode.code : Mode → Nat
  | .off => 0
  | .seating => 1
  | .inrush => 2
  | .boot => 3
  | .standalone => 4
  | .managed => 5
  | .brownout => 6
  | .holdup => 7
  | .suspend => 8
  | .standby => 9
  | .quarantine => 10
  | .ret => 11

/-- The masters that reach set-up space: the SPI target, the PF through BAR0, the VI page of a bound function, a bound queue pair, and the Scribe function (R34, R244). -/
inductive Path where
  | spi
  | pf
  | viPage (v : RingId)
  | qp (v : RingId)
  | scribe
  deriving DecidableEq, Repr

/-- A protected power path: the card input or a port. -/
inductive PowerPath where
  | input
  | port (n : PortId)
  deriving DecidableEq, Repr

/-- The two rings of the recorder store (R369, R374). -/
inductive Ring where
  | high
  | low
  deriving DecidableEq, Repr

/-- A recorder record (R364). Its CHAIN is assigned when it is committed to its ring. -/
structure Rec where
  seq : Option Nat
  code : Nat
  sev : Sev
  kind : Nat
  localTime : Bool
  stroke : Nat
  location : Nat
  level : Nat
  port : PortId
  subject : Owner
  suppressed : Nat
  payload : List DWord
  chain : Word
  deriving DecidableEq, Repr

/-- One slot of a sector: a record, how far its programming went (R375), and whether its bytes still pass their CRC. -/
structure NorRec where
  record : Rec
  crc : Word
  intact : Bool
  committed : Bool
  deriving DecidableEq, Repr

/-- A 64 KiB sector of the recorder store (R374). -/
structure Sector where
  headerOk : Bool
  blank : Bool
  eraseOk : Bool
  inUse : Bool
  closed : Bool
  condemned : Bool
  bad : Bool
  ring : Option Ring
  firstSeq : Nat
  eraseCount : Nat
  lastSeq : Nat
  recordCount : Nat
  sealTag : BitVec 128
  slots : List NorRec
  broken : Bool
  deriving DecidableEq, Repr

/-- A sector as delivered: erased, with no header. -/
def Sector.blankSector : Sector :=
  { headerOk := false, blank := true, eraseOk := false, inUse := false, closed := false, condemned := false,
    bad := false, ring := Option.none, firstSeq := 0, eraseCount := 0, lastSeq := 0, recordCount := 0,
    sealTag := BitVec.allOnes 128, slots := [], broken := false }

/-- An image slot of the NOR (R389): its header, its body, and what only outside parties fix about the body:
whether its signature verifies under the key concerned (R415), its security version, and the settings a configuration
body spells (the image format is not in the spec). -/
structure ImgSlot where
  magic : Word
  eraseOk : Bool
  writing : Bool
  commit : Bool
  generation : Word
  length : Nat
  crc : Word
  format : BitVec 16
  body : List Word
  signed : Bool
  svn : Nat
  /-- The build number of a firmware body (R50 FW_BUILD). -/
  build : Word
  /-- The engines whose firmware fails verification (R21). -/
  badEngines : List (Fin 96)
  settings : List (Nat × Word)
  deriving DecidableEq, Repr

/-- A slot that holds nothing. -/
def ImgSlot.erased : ImgSlot :=
  { magic := BitVec.allOnes 32, eraseOk := false, writing := false, commit := false, generation := BitVec.allOnes 32,
    length := 0, crc := BitVec.allOnes 32, format := BitVec.allOnes 16, body := [], signed := false, svn := 0, build := 0, badEngines := [], settings := [] }

/-- What only outside parties fix about an image as written: whether the NOR took and kept it, its signature's verdict, its security version, its format and build numbers, the engines whose firmware fails verification and, for a configuration, the settings it spells (R21, R395, R415). -/
structure ImgVerdict where
  written : Bool
  intact : Bool
  signed : Bool
  svn : Nat
  format : BitVec 16
  build : Word
  badEngines : List (Fin 96)
  settings : List (Nat × Word)
  deriving DecidableEq, Repr, Inhabited

/-- One committed key set of the key store (R417): its generation, whether it verifies, and the keys. -/
structure KeySet where
  generation : Nat
  committed : Bool
  verifies : Bool
  keys : List (Nat × List Word)
  deriving DecidableEq, Repr

/-- The external NOR's contents but for the recorder store: the two directory copies, the firmware slots, the configuration slots and the two key-store sectors (R388, R389, R417). -/
structure NorView where
  dir0 : List Byte
  dir1 : List Byte
  fwA : ImgSlot
  fwB : ImgSlot
  cfgA : ImgSlot
  cfgB : ImgSlot
  keys0 : Option KeySet
  keys1 : Option KeySet
  deriving DecidableEq, Repr

/-- The NOR as shipped: nothing in it. -/
def NorView.empty : NorView :=
  { dir0 := [], dir1 := [], fwA := .erased, fwB := .erased, cfgA := .erased, cfgB := .erased, keys0 := Option.none, keys1 := Option.none }

/-- The ring a fetch reads: the command ring, or the transfer ring of a context (R101). -/
inductive FetchRing where
  | cmd
  | xfer (ctx : Nat)
  deriving DecidableEq, Repr

end Sys2Proof
end

