-- ==== Sys2Proof/Syntax.lean ====
section
/-! DEFINITION. The commands of the block: one constructor per row of the opcode table, in the table's order. Every command carries first the Stroke stamp of the moment it happens (R343, in model time), then what the outside party supplies with it. -/

namespace Sys2Proof

/-- The kinds of input loss (R317). -/
inductive LossKind where
  | undervoltage
  | reverse
  | seat
  | overvoltage
  deriving DecidableEq, Repr

/-- A BAR window (R34, R42): the PF's BAR0, or the VI page of function f (0 the PF's BAR2, 1–15 the VFs' BAR0). -/
inductive BarWindow where
  | bar0
  | page (f : Fin 16)
  deriving DecidableEq, Repr

/-- The three head registers of the board queue (R268). -/
inductive HeadWord where
  | info
  | lo
  | hi
  deriving DecidableEq, Repr

/-- How a record's programming ends (R375): every step done, a program failure, or a supply collapse after that many steps. -/
inductive NorResult where
  | done
  | failed
  | collapsed (steps : Fin 4)
  deriving DecidableEq, Repr

/-- The word an ECC error was found in (R405, R406), with its place. -/
inductive EccSite where
  | context (ctx : Nat) (loc : Nat)
  | device (port : PortId) (dev : Nat) (loc : Nat)
  | viContext (v : RingId) (loc : Nat)
  | qpContext (q : Fin 128) (loc : Nat)
  | engine (e : Fin 96) (loc : Nat)
  | ligature (n : PortId) (loc : Nat)
  | margin (queue : Fin 65) (index : Nat) (loc : Nat)
  | palRam (seq : Nat) (loc : Nat)
  | descriptors (loc : Nat)
  | prpTable (mac : Nat) (seqno : Nat) (loc : Nat)
  | keySram (v : RingId) (loc : Nat)
  deriving DecidableEq, Repr

/-- What a USB transaction belongs to: an endpoint, the attach preview, or the SET_ADDRESS of ADDRESS_DEVICE. For these two it stands for a whole request (R168, R171, R175). Under a classic owner: a transaction a Ligature runs on its FS or LS bus (R235, R236), or an IN token to the Scribe function (R244). -/
inductive BusWho where
  | ep (ctx : Nat)
  | preview
  | addressing
  | lig (periodic : Bool) (addr ep : Nat) (isIn : Bool)
  | funcIn
  deriving DecidableEq, Repr

/-- How a USB transaction ended on the wire (R175, R177, R180). -/
inductive BusResult where
  | data (bytes : List Byte) (toggleOk : Bool)
  | ack
  | nak
  | nyet
  | nrdy
  | erdy
  | stall
  | error
  | babble (bytes : List Byte)
  | splitAccepted
  deriving DecidableEq, Repr

/-- What a read of host memory was for: entries of a ring, or the OUT data of a context's transfer (R131, R140). -/
inductive ReadFor where
  | entries (ring : FetchRing)
  | outData (ctx : Nat)
  deriving DecidableEq, Repr


/-- A received Ethernet frame, as far as the block looks at it (R134, R137, R138, R150): whether its FCS is good and a buffer was free, its VID if tagged, its source, its RCT (sequence number, and whether it names LAN B), whether it is a PRP supervision frame, the queue-pair slot it is for, its CE mark, its priority and how full the buffer of that priority then is. -/
structure EthFrame where
  fcsOk : Bool
  buffered : Bool
  vid : Option Nat
  src : Nat
  rct : Option (Nat × Bool)
  supervision : Bool
  slot : Option (Fin 128)
  ce : Bool
  prio : Fin 8
  fill : Nat
  bytes : List Byte
  deriving DecidableEq, Repr

/-- A CM REQ (R143, R144): the Service ID and the REQ's own fields, and its private data. A memory region is its base, its length and its key. -/
structure CmReq where
  serviceId : DWord
  version : Nat
  vi : RingId
  mrCount : Nat
  nonce : List Byte
  regions : List (Nat × Nat × Word)
  respRes : Nat
  pmtu : Nat
  ackTimeout : Nat
  retry : Nat
  deriving DecidableEq, Repr

/-- Whom a request of a classic host addresses: a hub half, or the Scribe function (R215, R219, R242). -/
inductive HubHalf where
  | usb2
  | ss
  | func
  deriving DecidableEq, Repr

/-- The link settings of a hub port that SET_PORT_FEATURE stores (R223). -/
inductive PmFeature where
  | u1Timeout
  | u2Timeout
  | wakeMask
  | forceLinkPm
  deriving DecidableEq, Repr

/-- A split transaction that reaches a Ligature (R235, R236): periodic or not, its key, and for a periodic one its frame, its microframe Y and its payload. -/
structure Split where
  periodic : Bool
  addr : Nat
  ep : Nat
  type : Nat
  isIn : Bool
  frame : Nat
  y : Nat
  payload : Nat
  deriving DecidableEq, Repr

/-- What a CC pin reads as (R281). -/
inductive CcPin where
  | openPin
  | rd
  | ra
  | short
  | overV
  deriving DecidableEq, Repr

/-- The codes of CC_STATUS (R281). -/
def CcPin.code : CcPin → Nat
  | .openPin => 0
  | .rd => 1
  | .ra => 2
  | .short => 3
  | .overV => 4

/-- The partner's answers to a DR_Swap of the device (R238). -/
inductive SwapAnswer where
  | accept
  | wait
  | reject
  | notSupported
  deriving DecidableEq, Repr

/-- A message the policy did not expect: an Accept, which answers the device's Soft_Reset where one is open, or another (R289, R307). -/
inductive PdRx where
  | accept
  | other
  deriving DecidableEq, Repr

/-- A message that is acknowledged and not answered: a sink Alert, a Not_Supported, or another (R292). -/
inductive PdIgnored where
  | alert
  | notSupported
  | plain
  deriving DecidableEq, Repr

/-- BIST modes (R292). -/
inductive BistMode where
  | carrier
  | testData
  | other
  deriving DecidableEq, Repr

/-- The commands: one constructor per row of the opcode table. `t` is the command's Stroke stamp in model time. -/
inductive Instr where
  /-- R314: VIN_PRE rises above 18 V: Reservoir starts keeping state and the input path enters SEATING. -/
  | vinPreRise (t : Nat) (vin : Nat)
  /-- R314: VIN_PRE falls below 16 V: Reservoir resets to OFF and every Reservoir latch clears. -/
  | vinPreCollapse (t : Nat)
  /-- R315: Both seat pins have been asserted for 20 ms with VIN_PRE at or above 34 V, so the path enters INRUSH. -/
  | seatStable (t : Nat) (vin : Nat)
  /-- R316: A seat pin has been released for 10 µs: the count restarts in SEATING, the path reseats from LOST, RETRY_WAIT or LATCHED, and it is an input loss in INRUSH or ON. -/
  | seatRelease (t : Nat) (pinB : Bool)
  /-- R315: VIN_PRE minus VOUT falls below 0.5 V, so the gate is fully enhanced, the input curve is armed and the path enters ON. -/
  | inrushDone (t : Nat) (vin vout : Nat)
  /-- R315: The inrush timer expires, which is an input trip to RETRY_WAIT with LOSS_CAUSE 7. -/
  | inrushTimerExpiry (t : Nat)
  /-- R317: Undervoltage, reverse current, a seat release or overvoltage is stamped P1: the gate is pulled off, PFW_N goes low and Hold-up follows. -/
  | inputLoss (t : Nat) (cause : LossKind) (vin : Nat) (amps : Int)
  /-- R315: VIN_PRE returns to 34–77 V while the path is in LOST and seated, so the path re-enters INRUSH without counting a retry. -/
  | inputReturn (t : Nat) (vin : Nat)
  /-- R315: The input retry wait ends: the path retries into INRUSH or, with its retries used up, latches. -/
  | inputRetryWaitExpiry (t : Nat) (vin : Nat)
  /-- R315: After 60 s in ON without a trip, the input RETRIES count is cleared. -/
  | inputRetryClear (t : Nat)
  /-- R315: IN_CTRL.CLEAR takes a LATCHED input path back to SEATING with its retries cleared. -/
  | inClear (t : Nat) (path : Path)
  /-- R332: IN_CTRL.CLEAR_FET_FAIL starts a 10 ms run of the input pass-device checks. -/
  | inClearFetFail (t : Nat) (path : Path)
  /-- R318: The input path has been ON for 10 ms with VOUT at or above 34 V, so PG is released. -/
  | pgRelease (t : Nat) (vout : Nat)
  /-- R318: VOUT falls below PG_FALL_V, so PG is driven low. -/
  | pgFall (t : Nat) (vout : Nat)
  /-- R338: VIN_PRE has stayed below EW_V for 20 µs: the STAT outputs are driven, shares are recomputed and Brownout begins. -/
  | earlyWarning (t : Nat) (vin : Nat)
  /-- R318: VIN_PRE has stayed above EW_V plus EW_HYST for 100 ms: EW clears, BUDGET_W applies again and Brownout ends. -/
  | earlyWarningClear (t : Nat) (vin : Nat)
  /-- R305: A port's Alert has been acknowledged or has failed, or 25 ms have passed, so the port's shed action proceeds by re-offer or hard-shed. -/
  | shedWaitExpiry (t : Nat) (port : PortId)
  /-- R396: The Hold-up flush ends: PARKED is set, or a warm Boot starts if the input is back ON with PG released. -/
  | holdupFlushComplete (t : Nat)
  /-- R384: While parked in Hold-up, the input path reaches ON and PG is released, so a warm Boot starts. -/
  | parkedInputRestored (t : Nat)
  /-- R432: VAUX has been below 10.0 V for 10 µs: every port pair is switched off hard and handled as hard-shed. -/
  | vauxFall (t : Nat)
  /-- R432: VAUX has stood at 10.5 V or more for 10 ms, so the ports start again. -/
  | vauxRecover (t : Nat)
  /-- R433: A Folio rail has been below its level for 2 µs: Folio becomes unpowered and Reservoir sees a link loss. -/
  | folioRailFail (t : Nat)
  /-- R387: The Folio rails are in range and RESET_N is high, so Folio leaves reset and Boot begins. -/
  | folioResetRelease (t : Nat) (nor : Option NorView)
  /-- R440: RESET_N has been low for 10 µs or more, so a warm Boot starts. -/
  | resetNPulse (t : Nat) (nor : Option NorView)
  /-- R17: The die-to-die link comes up in Boot and the Reservoir events stamped in local time are copied into Palimpsest. -/
  | d2dLinkFirstUp (t : Nat)
  /-- R16: A 64-bit link frame arrives: it is checked with CRC-8 and retransmitted if it fails. -/
  | d2dFrame (t : Nat) (payload : List Byte) (crc : Byte)
  /-- R16: Every 1 ms, Folio resynchronises Reservoir's copy of the Stroke counter. -/
  | strokeResync (t : Nat)
  /-- R18: 20 µs pass without a valid frame: Reservoir holds the paths, and Folio reports class 6 and enters Quarantine unless in Hold-up. -/
  | d2dLinkLost (t : Nat)
  /-- R18: 50 ms after the link is declared lost, Reservoir switches off every port VBUS path with the hard discharge. -/
  | linkLossHoldExpiry (t : Nat)
  /-- R18: The link comes back, and Folio's pending switch-off commands reach the held ports. -/
  | d2dLinkRestored (t : Nat)
  /-- R390: The configuration is applied and the boot scan is done: the Inkwell key is drawn and the mode leaves Boot. -/
  | bootEnd (t : Nat)
  /-- R377: The background scan for holes finishes and records 0x0007. -/
  | gapScanComplete (t : Nat)
  /-- R393: MODE_CTRL.MANAGED takes Standalone to Managed, and ring VIs become eligible. -/
  | modeManaged (t : Nat) (path : Path)
  /-- R398: MODE_CTRL.SUSPEND suspends the ring trees and stops the engine clocks. -/
  | modeSuspend (t : Nat) (path : Path)
  /-- R398: Every suspension has completed and the engine clocks have stopped, so the mode is Suspend. -/
  | suspendReached (t : Nat)
  /-- R400: MODE_CTRL.STANDBY switches off ports, forfeits VIs, persists records and powers down Folio. -/
  | modeStandby (t : Nat) (path : Path)
  /-- R400: Standby entry completes once the records have been persisted. -/
  | standbyReached (t : Nat)
  /-- R399: MODE_CTRL.WAKE ends Suspend, or starts a warm Boot from Standby. -/
  | modeWake (t : Nat) (path : Path)
  /-- R394: MODE_CTRL.REBOOT persists the records and starts a warm Boot. -/
  | modeReboot (t : Nat) (path : Path)
  /-- R400: A sink attaches in Standby on a port in STANDBY_WAKE, so a warm Boot starts. -/
  | standbyWakeAttach (t : Nat) (port : PortId)
  /-- R395: IMG_CTRL.OPEN_FW starts erasing the unused firmware slot. -/
  | imgOpenFw (t : Nat) (path : Path)
  /-- R395: IMG_CTRL.OPEN_CFG starts erasing the unused configuration slot. -/
  | imgOpenCfg (t : Nat) (path : Path)
  /-- R395: The slot is erased and verified, MAGIC, ERASE_OK and WRITING are programmed, and BUSY clears. -/
  | imgEraseDone (t : Nat) (ok : Bool)
  /-- R382: A write to IMG_DATA appends 4 B to the open image body. -/
  | imgDataWrite (t : Nat) (path : Path) (value : Word)
  /-- R395: IMG_CTRL.COMMIT reads the body back, checks its CRC and Seal, and programs the header and COMMIT. -/
  | imgCommit (t : Nat) (path : Path) (verdict : ImgVerdict)
  /-- R395: IMG_CTRL.ABANDON leaves the slot uncommitted with RESULT 3. -/
  | imgAbandon (t : Nat) (path : Path)
  /-- R36: A whole SPI read frame performs a register read and returns a token, the data and the CRC. -/
  | spiReadFrame (t : Nat) (addr : BitVec 24)
  /-- R36: A whole SPI write frame is CRC-checked and accepted or refused with a token. -/
  | spiWriteFrame (t : Nat) (addr : BitVec 24) (data : Word) (crc : Byte)
  /-- R38: A frame whose first byte is neither 0x3B nor 0xD2 gets token 0x3C and is ignored. -/
  | spiUnknownCommand (t : Nat) (first : Byte)
  /-- R40: SPI_CS_N is released: a write not yet complete is discarded and an unfinished read has no effect. -/
  | spiCsRelease (t : Nat)
  /-- R42: A BAR read TLP of 1–4 bytes within one DWORD is performed against set-up space. -/
  | barRead (t : Nat) (win : BarWindow) (offset : BitVec 22) (lanes : BitVec 4)
  /-- R42: A posted BAR write is accepted, or ignored as a partial write. -/
  | barWrite (t : Nat) (win : BarWindow) (offset : BitVec 22) (data : Word) (lanes : BitVec 4)
  /-- R45: An access exceeds its stall bound: it fails with 0xA5 or 0xFFFF_FFFF and TIMEOUT is set. -/
  | accessTimeout (t : Nat) (path : Path) (addr : BitVec 24) (isWrite : Bool)
  /-- R448: A write to a register with no row of its own is taken, either IMM or held until its boundary. -/
  | registerWrite (t : Nat) (path : Path) (addr : BitVec 24) (value : Word)
  /-- R48: A read of an RC register returns the reader's copy and clears that copy. -/
  | rcRead (t : Nat) (path : Path) (addr : BitVec 24)
  /-- R49: Reading the low word of a 64-bit pair latches the high word for that path. -/
  | pairLowRead (t : Nat) (path : Path) (addr : BitVec 24)
  /-- R44: A write to PF_TRUST_CTRL changes the privilege of the PF at once. -/
  | pfTrustWrite (t : Nat) (path : Path) (value : Word)
  /-- R447: A port's microframe starts: UF writes apply and Ductus plans the slot. -/
  | ufBoundary (t : Nat) (port : PortId)
  /-- R447: Microframe 0 of a port's frame starts and FR writes apply. -/
  | frBoundary (t : Nat) (port : PortId)
  /-- R447: A BRK period starts on a Stroke tick that is a multiple of 5, and curve, derate and class V values apply. -/
  | brkBoundary (t : Nat)
  /-- R447: An Ethernet frame ends, and PKT writes apply. -/
  | pktBoundary (t : Nat) (eth : Fin 2)
  /-- R288: A port reaches a PD idle point, and pending PDI writes, share changes and capability resends proceed. -/
  | pdIdlePoint (t : Nat) (port : PortId)
  /-- R58: A write to an EPOCH register joins the shared staging set. -/
  | epochStageWrite (t : Nat) (path : Path) (addr : BitVec 24) (value : Word)
  /-- R58: RUBRIC_CTRL.COMMIT applies the staged values, increments the epoch and sets BUSY, or is refused. -/
  | rubricCommit (t : Nat) (path : Path)
  /-- R58: RUBRIC_CTRL.ABORT discards the staging set with result 4. -/
  | rubricAbort (t : Nat) (path : Path)
  /-- R58: Rubric copies every DOMAIN_CRC into COMMITTED_CRC, publishes the digest and clears BUSY and DIRTY. -/
  | commitComplete (t : Nat)
  /-- R56: Rubric updates a domain's CRC after an applied value changes, and DIRTY follows. -/
  | domainCrcUpdate (t : Nat) (domain : Fin 27)
  /-- R65: A write to PORTn.OWN_ASSIGN requests that the port go to an owner at once. -/
  | ownAssign (t : Nat) (path : Path) (port : PortId) (value : Word)
  /-- R70: The Scribe resolves every P4 event of the tick for a port into a new owner or none. -/
  | portDecision (t : Nat) (port : PortId)
  /-- R72: A ring VI's lease reaches its expiry tick and a P4 expiry is stamped. -/
  | leaseExpiry (t : Nat) (port : PortId)
  /-- R77: At U the old owner's transfers end, stashes pass on, the snapshot is built and STATE becomes OWNED. -/
  | handoverComplete (t : Nat) (port : PortId)
  /-- R87: At U a port with no owner keeps VBUS, suspends its tree and releases admissions and stashes. -/
  | orphanKeptEntry (t : Nat) (port : PortId)
  /-- R88: At U a port with no owner switches VBUS off, removes Rp and releases all tree state. -/
  | orphanOffEntry (t : Nat) (port : PortId)
  /-- R89: The reset of a port changing to or from a classic owner ends, and it passes to OWNED or an orphan state. -/
  | resettingComplete (t : Nat) (port : PortId) (ssFirst : Bool)
  /-- R96: VI_CTRL.ENABLE going from 0 to 1 checks the ring configuration and resets the ring positions and sequences. -/
  | viEnable (t : Nat) (v : RingId) (value : Word)
  /-- R96: VI_CTRL.ENABLE going from 1 to 0 stops fetching, releases ports and cancels transfers and commands. -/
  | viDisable (t : Nat) (v : RingId) (value : Word)
  /-- R97: A 256 B SEND on a RoCEv2 queue pair loads the VI configuration block. -/
  | viConfigSend (t : Nat) (q : Fin 128) (bytes : List Byte)
  /-- R101: A command doorbell starts a fetch of the command ring up to TAIL or the first lap mismatch. -/
  | cmdDb (t : Nat) (v : RingId) (value : Word)
  /-- R115: An event doorbell frees event slots, and held entries are written in order. -/
  | evtDb (t : Nat) (v : RingId) (value : Word)
  /-- R73: The lease-renewal doorbell renews the leases of the ports in its mask. -/
  | leaseDb (t : Nat) (v : RingId) (value : Word)
  /-- R101: A transfer doorbell starts a transfer ring fetch for a context, or is ignored and counted. -/
  | transferDb (t : Nat) (v : RingId) (slot : Fin 48) (value : Word)
  /-- R100: A write to a reserved doorbell offset is ignored and counted. -/
  | reservedDoorbell (t : Nat) (v : RingId) (offset : Nat)
  /-- R101: Fetched entries arrive and are checked, and transfers or commands start, or fail with DESCRIPTOR_ERROR or REMOTE_ACCESS_ERROR. -/
  | ringFetchComplete (t : Nat) (v : RingId) (ring : FetchRing) (entries : List (List Byte)) (failed : Bool)
  /-- R109: NOOP_CMD completes with SUCCESS. -/
  | noopCmd (t : Nat) (v : RingId) (slot : Nat)
  /-- R71: CLAIM stamps a P4 claim on a port, completing SUCCESS or NOT_OWNER. -/
  | claim (t : Nat) (v : RingId) (slot : Nat)
  /-- R109: RELEASE gives up a port as a P4 release. -/
  | release (t : Nat) (v : RingId) (slot : Nat)
  /-- R73: RENEW_LEASE renews the leases of the masked ports the VI owns. -/
  | renewLease (t : Nat) (v : RingId) (slot : Nat)
  /-- R167: RESET_PORT resets the USB 2.0 path and hot-resets SuperSpeed, releasing all device state. -/
  | resetPort (t : Nat) (v : RingId) (slot : Nat)
  /-- R167: RESET_PORT with WARM 1 warm-resets the SuperSpeed link along with the USB 2.0 reset. -/
  | resetPortWarm (t : Nat) (v : RingId) (slot : Nat)
  /-- R167: A RESET_PORT whose paths have not finished by 500 ms completes. -/
  | resetPortTimeout (t : Nat) (port : PortId)
  /-- R186: SUSPEND_PORT with RESUME 0 stops transactions and SOF and sends the link to U3. -/
  | suspendPort (t : Nat) (v : RingId) (slot : Nat)
  /-- R186: The lines have been idle for 3 ms and U3 is reached, or 10 ms pass, so the suspend completes with LINK 2. -/
  | suspendComplete (t : Nat) (port : PortId) (u3 : Bool)
  /-- R186: SUSPEND_PORT with RESUME 1 drives resume K and brings SuperSpeed out of U3. -/
  | resumePort (t : Nat) (v : RingId) (slot : Nat)
  /-- R186: After 20 ms of resume K the Nib sends the EOP and SOF restarts. -/
  | resumeSignalEnd (t : Nat) (port : PortId)
  /-- R186: 10 ms after resume signalling ends, the command completes and the work continues. -/
  | resumeComplete (t : Nat) (port : PortId)
  /-- R171: ADDRESS_DEVICE checks its parameters, allocates an address and context, and sends SET_ADDRESS. -/
  | addressDevice (t : Nat) (v : RingId) (slot : Nat)
  /-- R171: 2 ms after SET_ADDRESS, the record is marked addressed and the command completes. -/
  | setAddressRecovery (t : Nat) (port : PortId)
  /-- R109: DISABLE_DEVICE releases a device, its endpoints, admissions, address and stash. -/
  | disableDevice (t : Nat) (v : RingId) (slot : Nat)
  /-- R205: CONFIGURE_ENDPOINT allocates a context and decides any periodic admission. -/
  | configureEndpoint (t : Nat) (v : RingId) (slot : Nat)
  /-- R109: BIND_ENDPOINT_RING binds a transfer ring to a context, leaving it stopped. -/
  | bindEndpointRing (t : Nat) (v : RingId) (slot : Nat)
  /-- R109: STOP_ENDPOINT cancels the transfer in flight after the transaction in progress. -/
  | stopEndpoint (t : Nat) (v : RingId) (slot : Nat) (onWire : Bool)
  /-- R109: RESET_ENDPOINT clears a halt and resets the toggle or sequence number. -/
  | resetEndpoint (t : Nat) (v : RingId) (slot : Nat)
  /-- R109: DISABLE_ENDPOINT releases a context, its admission and its stash. -/
  | disableEndpoint (t : Nat) (v : RingId) (slot : Nat)
  /-- R120: SET_READ_AHEAD with ENABLE 1 enables read-ahead polling, or is refused. -/
  | setReadAhead (t : Nat) (v : RingId) (slot : Nat)
  /-- R120: SET_READ_AHEAD with ENABLE 0 stops polling and keeps the stash. -/
  | readAheadOff (t : Nat) (v : RingId) (slot : Nat)
  /-- R109: QUERY_PORT writes the port state in snapshot layout to a host buffer. -/
  | queryPort (t : Nat) (v : RingId) (slot : Nat)
  /-- R109: QUERY_VI writes the VI status part to a host buffer. -/
  | queryVi (t : Nat) (v : RingId) (slot : Nat)
  /-- R123: REPLAY rewrites retained completions from FROM_SEQ, together with their data where it is still held. -/
  | replay (t : Nat) (v : RingId) (slot : Nat)
  /-- R124: RESUME sets the event position, replays, clears RESYNC, delivers notices and restarts fetching. -/
  | resume (t : Nat) (v : RingId) (slot : Nat)
  /-- R175: A USB transaction on the wire ends with its handshake or data, updating error counts and ending or retrying the transfer. -/
  | busTransaction (t : Nat) (port : PortId) (who : BusWho) (result : BusResult)
  /-- R175: No response arrives within the turnaround limit, so the transaction is errored. -/
  | turnaroundTimeout (t : Nat) (port : PortId) (who : BusWho)
  /-- R116: INTERVAL µs pass after the first entry not yet signalled, so the MSI-X vector is raised. -/
  | msixIntervalExpiry (t : Nat) (v : RingId)
  /-- R117: An ACK for RDMA WRITEs arrives, releasing the completions held behind it. -/
  | rdmaAckReceived (t : Nat) (v : RingId) (upTo : Nat) (all : Bool)
  /-- R140: RDMA READ response data for descriptors or OUT data arrives. -/
  | rdmaReadResponse (t : Nat) (v : RingId) (what : ReadFor) (data : List (List Byte))
  /-- R131: A PCIe DMA read completes, or fails by Completion Timeout, UR, CA or poison. -/
  | dmaReadCompletion (t : Nat) (v : RingId) (what : ReadFor) (data : List (List Byte)) (failed : Bool)
  /-- R118: 500 ms after reset, a preview still running ends with RESULT 3. -/
  | previewTimeLimit (t : Nat) (port : PortId)
  /-- R127: A write to VI_BIND binds or rebinds a ring VI, forfeiting it if the binding changes. -/
  | viBindWrite (t : Nat) (path : Path) (v : RingId) (value : Word)
  /-- R132: An FLR of a function forfeits its VI and resets its configuration, with PF_TRUST reset for the PF. -/
  | flr (t : Nat) (fn : Fin 16)
  /-- R85: VF Enable is cleared or NumVFs removes VFs, so their VIs forfeit. -/
  | vfEnableClear (t : Nat) (numVfs : Nat)
  /-- R132: A PCIe hot reset or link down forfeits every PCIe-bound VI. -/
  | pcieLinkDown (t : Nat)
  /-- R154: Bus Master Enable is cleared on a bound function, so its VI becomes Unreachable. -/
  | bmeClear (t : Nat) (fn : Fin 16)
  /-- R156: Bus Master Enable is set again, so UNREACHABLE clears and RESYNC is set. -/
  | bmeSet (t : Nat) (fn : Fin 16)
  /-- R133: Every PERIOD_MS the PF issues a PTM request and updates the PCIe owner-clock reference. -/
  | ptmRequest (t : Nat) (ok : Bool) (ownerNs : Nat) (phase : Vector Int 64)
  /-- R138: An Ethernet frame is checked, passed through PRP duplicate discard, and delivered or dropped. -/
  | ethFrameReceived (t : Nat) (portB : Bool) (frame : EthFrame)
  /-- R138: A duplicate-table entry expires 400 ms after it was made. -/
  | prpEntryExpiry (t : Nat)
  /-- R137: Every LIFE_CHECK_MS a supervision frame is sent on both LANs. -/
  | prpSupervisionSend (t : Nat)
  /-- R139: Block lock has been lost for 10 ms, or no frame has arrived for three life-check intervals, so the LAN goes down. -/
  | lanDown (t : Nat) (portB : Bool) (lockLost : Bool)
  /-- R143: A CM REQ is checked and answered with REJ, or with REP from a free slot. -/
  | cmReq (t : Nat) (portB : Bool) (req : CmReq)
  /-- R143: No RTU arrives within 100 ms, so the REP is resent, or after three resends the slot returns to Reset. -/
  | repRetryTimeout (t : Nat) (q : Fin 128)
  /-- R145: An RTU is authenticated and binds the slot, or re-establishes an Unreachable VI. -/
  | cmRtu (t : Nat) (q : Fin 128) (hostMac : List Byte)
  /-- R143: A DREQ on a bound slot is answered with DREP and forfeits the VI. -/
  | cmDreq (t : Nat) (q : Fin 128)
  /-- R148: An RDMA WRITE Only to the doorbell area delivers doorbells, or is refused with a NAK. -/
  | roceDoorbellWrite (t : Nat) (q : Fin 128) (rkey : Word) (addr : Nat) (bytes : List Byte)
  /-- R149: The ACK timer expires: the device resends, or after its retries moves the slot to Error and the VI to Unreachable. -/
  | ackTimeout (t : Nat) (q : Fin 128)
  /-- R149: A NAK other than a PSN sequence error moves the slot to Error with cause 2. -/
  | nakReceived (t : Nat) (q : Fin 128)
  /-- R140: A PSN sequence-error NAK makes the device retransmit. -/
  | psnSequenceNak (t : Nat) (q : Fin 128)
  /-- R157: HOLD_S seconds pass while an Unreachable VI owns no port, so its held IN data is released. -/
  | unreachableHoldExpiry (t : Nat) (v : RingId)
  /-- R135: QP_CTRL.RESET returns a slot to Reset and forfeits any bound VI. -/
  | qpReset (t : Nat) (path : Path) (q : Fin 128)
  /-- R150: A CNP lowers the slot's rate, if 50 µs have passed since the last decrease. -/
  | cnpReceived (t : Nat) (q : Fin 128)
  /-- R150: 55 µs pass without a CNP, so the slot's rate rises by INC_STEP. -/
  | ccRateIncrease (t : Nat) (q : Fin 128)
  /-- R151: A PFC frame pauses or resumes sending on its priority. -/
  | pfcFrameReceived (t : Nat) (portB : Bool) (enable : Nat) (xoff : Nat)
  /-- R152: An accepted Sync updates PTP time, the RoCEv2 timelines and the Stroke discipline. -/
  | ptpSyncAccepted (t : Nat) (timeNs : Nat) (offset : Int) (masters : Nat) (phase : Vector Int 64)
  /-- R152: No Sync is accepted for 4 s: LOCKED clears, with failover if FAILOVER is set. -/
  | ptpLockTimeout (t : Nat)
  /-- R212: Setting VI_TIME_CTRL.FREE_RUN, or a change of binding, takes the timeline to FREE_RUN. -/
  | freeRunSet (t : Nat) (v : RingId)
  /-- R213: A port's boundaries coincide with its timeline's, so SLEWING clears. -/
  | portSlewComplete (t : Nat) (port : PortId)
  /-- R200: An eligible endpoint's age reaches AGE_MS, so it is promoted. -/
  | endpointPromotion (t : Nat) (ctx : Nat)
  /-- R207: LEAD_US plus JITTER_US before an interval, the held OUT data for it is fetched. -/
  | isochDataFetch (t : Nat) (ctx : Nat)
  /-- R164: D± have shown a connection for 100 ms, so the root USB 2.0 reset starts. -/
  | usb2ConnectDebounced (t : Nat) (port : PortId) (low : Bool)
  /-- R164: Every 12 ms SuperSpeed receiver detection runs, and training starts on detection. -/
  | receiverDetect (t : Nat) (port : PortId) (found gen2 : Bool)
  /-- R164: The SuperSpeed link reaches U0, which ends reset for that path. -/
  | ssU0Entry (t : Nat) (port : PortId) (gen2 : Bool)
  /-- R164: U0 is not reached within 400 ms, so SuperSpeed is marked failed for this attach. -/
  | ssTrainingTimeout (t : Nat) (port : PortId)
  /-- R165: The device's chirp K ends, so the Nib drives K-J chirps. -/
  | deviceChirpSeen (t : Nat) (port : PortId) (startUs tenths : Nat)
  /-- R165: 50 ms after the start of SE0 the reset ends, and SOF or keep-alives start. -/
  | rootResetEnd (t : Nat) (port : PortId)
  /-- R165: 10 ms after reset the first other transaction may be issued. -/
  | resetRecoveryEnd (t : Nat) (port : PortId)
  /-- R179: Babble past a microframe or EOF disables the USB 2.0 path. -/
  | babbleDetected (t : Nat) (port : PortId) (ctx : Option Nat)
  /-- R191: A USB 2.0 disconnect on the root port ends transfers with PORT_GONE and releases devices. -/
  | usb2Disconnect (t : Nat) (port : PortId)
  /-- R191: The SuperSpeed link is lost without recovery within 400 ms, so its path's work ends. -/
  | ssLinkLost (t : Nat) (port : PortId)
  /-- R181: The Nib's CLEAR_TT_BUFFER completes or fails, and splits resume or a WARNING is recorded. -/
  | clearTtBufferDone (t : Nat) (port : PortId) (ok : Bool)
  /-- R185: L1_IDLE passes with no work, so the Nib sends the LPM token. -/
  | l1Entry (t : Nat) (port : PortId) (acked : Bool)
  /-- R185: U1_TIMEOUT of idle passes, so the root port requests U1. -/
  | u1Entry (t : Nat) (port : PortId) (byDevice : Bool)
  /-- R185: U2_TIMEOUT of idle passes, so the root port requests U2. -/
  | u2Entry (t : Nat) (port : PortId) (byDevice : Bool)
  /-- R185: 1 s after a NYET or STALL to the LPM token, the device may be asked again. -/
  | lpmRefusalHoldExpiry (t : Nat) (port : PortId)
  /-- R187: Resume signalling from a suspended tree is completed by the Nib and notified. -/
  | remoteWake (t : Nat) (port : PortId) (ss : Bool)
  /-- R189: Every 1 ms the Nib probes the USB 2.0 lines, declaring stuck after 10 ms of failures. -/
  | stuckProbe (t : Nat) (port : PortId) (failed connects : Bool)
  /-- R190: The back-off wait ends and 10 probes retest the lines. -/
  | stuckRetest (t : Nat) (port : PortId) (passed : Bool)
  /-- R225: The classic hub returns its status, with HUB_LOCAL_POWER in Brownout or Hold-up. -/
  | getHubStatus (t : Nat) (c : ClassicId)
  /-- R223: CLEAR_HUB_FEATURE clears a hub change bit in this VI's view. -/
  | clearHubFeature (t : Nat) (c : ClassicId) (feature : Nat)
  /-- R223: SET_HUB_FEATURE is answered with STALL. -/
  | setHubFeature (t : Nat) (c : ClassicId)
  /-- R224: GET_PORT_STATUS returns the actual state, or empty for a port not owned. -/
  | getPortStatus (t : Nat) (c : ClassicId) (n : PortId) (ss : Bool)
  /-- R232: SET_PORT_FEATURE(PORT_RESET) runs the downstream reset on an owned port. -/
  | setPortReset (t : Nat) (c : ClassicId) (n : PortId) (ss : Bool)
  /-- R232: 15 ms after SE0 the downstream reset ends and its change bits are set. -/
  | classicPortResetEnd (t : Nat) (n : PortId)
  /-- R223: SET_PORT_FEATURE(BH_PORT_RESET) warm-resets the downstream SuperSpeed link. -/
  | setBhPortReset (t : Nat) (c : ClassicId) (n : PortId)
  /-- R232: A classic SuperSpeed reset has not reached U0 within 100 ms and completes with PORT_ENABLE clear. -/
  | ssPortResetTimeout (t : Nat) (n : PortId)
  /-- R223: SET_PORT_FEATURE(PORT_SUSPEND) selectively suspends an owned port. -/
  | setPortSuspend (t : Nat) (c : ClassicId) (n : PortId)
  /-- R223: CLEAR_PORT_FEATURE(PORT_SUSPEND) resumes an owned port. -/
  | clearPortSuspend (t : Nat) (c : ClassicId) (n : PortId)
  /-- R223: CLEAR_PORT_FEATURE(PORT_ENABLE) disables the USB 2.0 path. -/
  | clearPortEnable (t : Nat) (c : ClassicId) (n : PortId)
  /-- R225: SET_PORT_FEATURE(PORT_POWER) sets the view's bit and releases the paths. -/
  | setPortPower (t : Nat) (c : ClassicId) (n : PortId)
  /-- R225: CLEAR_PORT_FEATURE(PORT_POWER) clears the view's bit and holds the paths disconnected. -/
  | clearPortPower (t : Nat) (c : ClassicId) (n : PortId)
  /-- R223: SET_PORT_FEATURE(PORT_TEST) places an owned port in test mode. -/
  | setPortTest (t : Nat) (c : ClassicId) (n : PortId)
  /-- R223: SET_PORT_FEATURE(PORT_INDICATOR) is answered with STALL. -/
  | setPortIndicator (t : Nat) (c : ClassicId) (n : PortId)
  /-- R223: SET_PORT_FEATURE(PORT_LINK_STATE) moves the downstream link state. -/
  | setPortLinkState (t : Nat) (c : ClassicId) (n : PortId) (state : Nat)
  /-- R223: The U1 or U2 timeout, remote-wake mask or FORCE_LINKPM_ACCEPT is applied or stored in the view. -/
  | setPortLinkPmFeature (t : Nat) (c : ClassicId) (n : PortId) (feature : PmFeature) (value : Nat)
  /-- R223: CLEAR_PORT_FEATURE(C_PORT_*) clears a change bit in this VI's view. -/
  | clearPortChange (t : Nat) (c : ClassicId) (n : PortId) (ss : Bool) (bit : Nat)
  /-- R223: GET_PORT_ERR_COUNT returns the actual count, or 0 for a port not owned. -/
  | getPortErrCount (t : Nat) (c : ClassicId) (n : PortId)
  /-- R223: SET_HUB_DEPTH sets this VI's hub depth, with STALL above 4. -/
  | setHubDepth (t : Nat) (c : ClassicId) (depth : Nat)
  /-- R237: A hub CLEAR_TT_BUFFER request frees the matching Ligature buffer. -/
  | clearTtBuffer (t : Nat) (c : ClassicId) (n : PortId) (addr ep type : Nat) (isIn : Bool)
  /-- R237: RESET_TT empties the Ligature's buffers and queues and clears STOPPED. -/
  | resetTt (t : Nat) (c : ClassicId) (n : PortId)
  /-- R237: STOP_TT stops the Ligature after the current transaction. -/
  | stopTt (t : Nat) (c : ClassicId) (n : PortId)
  /-- R237: GET_TT_STATE is answered with STALL. -/
  | getTtState (t : Nat) (c : ClassicId) (n : PortId)
  /-- R219: The hub returns a device, configuration, BOS, hub or string descriptor of this VI. -/
  | getDescriptor (t : Nat) (c : ClassicId) (half : HubHalf) (type index len : Nat)
  /-- R222: SET_DESCRIPTOR is answered with STALL. -/
  | setDescriptor (t : Nat) (c : ClassicId)
  /-- R226: SET_CONFIGURATION configures a hub half and clears every PORT_POWER bit. -/
  | setConfiguration (t : Nat) (c : ClassicId) (half : HubHalf) (value : Nat)
  /-- R237: SET_INTERFACE selects single-TT or multi-TT operation. -/
  | setInterface (t : Nat) (c : ClassicId) (half : HubHalf) (alt : Nat)
  /-- R233: SE0 from the upstream host is recognised as reset, and the device drives chirp K. -/
  | upstreamResetRecognised (t : Nat) (c : ClassicId) (ss : Bool)
  /-- R233: After 3 ms of idle in HS, the device reverts to FS to test for reset. -/
  | hsIdleReversion (t : Nat) (c : ClassicId)
  /-- R233: The device's 2.0 ms chirp K ends and it watches for host chirps. -/
  | chirpKEnd (t : Nat) (c : ClassicId)
  /-- R233: The sixth host chirp is seen, so HS terminations are enabled. -/
  | hostChirpSixth (t : Nat) (c : ClassicId)
  /-- R233: No host chirps come within 2.0 ms, so the device stays at FS. -/
  | hostChirpTimeout (t : Nat) (c : ClassicId)
  /-- R241: The upstream reset ends: the classic VI forfeits and its claims are reissued. -/
  | upstreamResetEnd (t : Nat) (c : ClassicId) (ss : Bool)
  /-- R235: A start-split takes a Ligature buffer or queue entry, or is NAKed or dropped. -/
  | ssplitReceived (t : Nat) (n : PortId) (split : Split)
  /-- R235: A complete-split is answered with NYET, the result, ERR or nothing. -/
  | csplitReceived (t : Nat) (n : PortId) (split : Split)
  /-- R235: A non-periodic result unfetched for 10 ms is discarded and counted. -/
  | ligatureResultExpiry (t : Nat) (n : PortId)
  /-- R236: A periodic result still held after microframe Y + 3 is discarded. -/
  | periodicResultDiscard (t : Nat) (n : PortId) (frame uf : Nat)
  /-- R238: Within 20 ms of UP's first explicit contract, the device sends DR_Swap. -/
  | upDrSwapSend (t : Nat)
  /-- R238: 100 ms after a Wait, DR_Swap is sent again, up to ten sendings. -/
  | drSwapRetry (t : Nat)
  /-- R238: The partner's Accept, Wait, Reject or Not_Supported answers the device's DR_Swap on UP. -/
  | drSwapAnswer (t : Nat) (id : Fin 8) (answer : SwapAnswer)
  /-- R239: A received DR_Swap is accepted or refused by the table, creating or ending a classic VI. -/
  | drSwap (t : Nat) (port : PortId) (id : Fin 8)
  /-- R245: An OUT packet to the Scribe function queues its requests, or is STALLed. -/
  | funcOutPacket (t : Nat) (bytes : List Byte)
  /-- R244: A Scribe function request with OP 1 reads set-up space without privilege. -/
  | funcRead (t : Nat)
  /-- R244: A Scribe function request with OP 2 writes set-up space without privilege. -/
  | funcWrite (t : Nat)
  /-- R244: A Scribe function request with OP 3 is echoed. -/
  | funcEcho (t : Nat)
  /-- R245: CLEAR_FEATURE(ENDPOINT_HALT) clears a function endpoint's halt and toggle. -/
  | funcClearHalt (t : Nat) (isIn : Bool)
  /-- R251: A waiting Inkwell block request is granted once room or the limit allows. -/
  | blockGrant (t : Nat) (owner : Owner) (ctx : Option Nat) (need : Nat)
  /-- R248: A 125 µs bank cycle window begins and the periodic and asynchronous counts restart. -/
  | bankWindow (t : Nat)
  /-- R255: A 100 µs monitor window closes and hot banks are judged. -/
  | conflictWindow (t : Nat) (grants demands : List Nat)
  /-- R276: Every HB_MS a heartbeat notice goes to the board and every enabled ring VI. -/
  | heartbeat (t : Nat)
  /-- R272: Scriptorium moves a whole notice from a VI queue into its event ring when room exists. -/
  | noticeDelivery (t : Nat) (v : RingId)
  /-- R268: A read of the board head registers opens the head notice. -/
  | bcHeadRead (t : Nat) (path : Path) (which : HeadWord)
  /-- R269: BC_POP removes the head word, closing the notice at its END. -/
  | bcPop (t : Nat) (path : Path)
  /-- R269: BC_POP.SKIP removes the rest of the open notice. -/
  | bcSkip (t : Nat) (path : Path)
  /-- R271: BC_FLUSH empties the board queue. -/
  | bcFlush (t : Nat) (path : Path)
  /-- R273: BC_IRQ_ACK clears IRQ_PENDING and releases IRQ_N. -/
  | bcIrqAck (t : Nat) (path : Path)
  /-- R274: 1 µs after release, IRQ_N is sampled and LINE_HELD is set if it is still low. -/
  | irqLineSample (t : Nat) (low : Bool)
  /-- R274: IRQ_N reads high again, so LINE_HELD clears and the line is redriven if pending. -/
  | irqLineHigh (t : Nat)
  /-- R287: Rd, Ra/Ra or Rd/Rd appears on an unattached port, so ATTACH_WAIT starts. -/
  | ccPatternAppear (t : Nat) (port : PortId) (cc1 cc2 : CcPin)
  /-- R287: The pattern is lost during ATTACH_WAIT, so the port returns to UNATTACHED. -/
  | ccPatternLost (t : Nat) (port : PortId) (cc1 cc2 : CcPin)
  /-- R284: The pattern has been stable for 150 ms: the attach is stamped and the converter enabled, or an accessory is recognised. -/
  | attachDebounceEnd (t : Nat) (port : PortId)
  /-- R284: The converter output is in range, so the VBUS switch and any VCONN turn on. -/
  | vbusSwitchOn (t : Nat) (port : PortId) (isp : Nat)
  /-- R284: Receptacle VBUS reaches 4.75 V, so STARTUP ends and Nib bring-up begins. -/
  | vsafe5vReached (t : Nat) (port : PortId) (vbus : Nat)
  /-- R294: VCONN has been on for 50 ms, so cable discovery starts. -/
  | vconnStable (t : Nat) (port : PortId)
  /-- R294: 45 ms without an ACK, so Discover Identity on SOP' is resent. -/
  | cableDiscoveryRetry (t : Nat) (port : PortId)
  /-- R284: Source_Capabilities is sent, first within 200 ms of vSafe5V. -/
  | sourceCapsSend (t : Nat) (port : PortId)
  /-- R284: 150 ms pass without a GoodCRC, so the capabilities are resent, up to 50 sendings. -/
  | sourceCapsRetry (t : Nat) (port : PortId)
  /-- R289: A GoodCRC acknowledges a sent message and advances the policy. -/
  | goodcrcReceived (t : Nat) (port : PortId) (prime : Bool)
  /-- R289: No GoodCRC comes within 1.0 ms, so the message is resent, or it fails after three sendings. -/
  | goodcrcTimeout (t : Nat) (port : PortId) (prime : Bool)
  /-- R287: No request comes within 30 ms in NEGOTIATE, so a hard reset follows. -/
  | senderResponseTimeout (t : Nat) (port : PortId)
  /-- R299: A Request is judged against the capabilities last sent and answered with Accept or Reject. -/
  | request (t : Nat) (port : PortId) (id : Fin 8) (rdo : Word) (rev2 : Bool)
  /-- R299: An EPR_Request is judged in EPR mode, or rejected outside it. -/
  | eprRequest (t : Nat) (port : PortId) (id : Fin 8) (rdo pdo : Word)
  /-- R300: 30 ms after the Accept's GoodCRC, VSET starts moving to the new contract. -/
  | transitionStart (t : Nat) (port : PortId)
  /-- R300: VBUS has been within the new window for 1 ms, so PS_RDY is sent and the contract updated. -/
  | psRdySend (t : Nat) (port : PortId) (vbus : Nat)
  /-- R287: PS_RDY is not sent within the transition bound, so a hard reset follows. -/
  | transitionBoundMissed (t : Nat) (port : PortId)
  /-- R291: 18 ms after Rp drops to SinkTxNG, the device starts its own message sequence. -/
  | sinkTxWaitEnd (t : Nat) (port : PortId)
  /-- R292: Get_Source_Cap is answered with capabilities, and during reclaim it also requests restoration. -/
  | getSourceCap (t : Nat) (port : PortId) (id : Fin 8)
  /-- R307: A received Soft_Reset is accepted, MessageIDs reset and capabilities resent. -/
  | softReset (t : Nat) (port : PortId)
  /-- R289: An unexpected message is a protocol error, leading to a soft or hard reset. -/
  | pdMessageUnexpected (t : Nat) (port : PortId) (id : Fin 8) (msg : PdRx)
  /-- R307: A received Hard Reset starts the hard reset sequence. -/
  | hardResetReceived (t : Nat) (port : PortId)
  /-- R307: 30 ms into a hard reset, VBUS and VCONN are switched off with discharge. -/
  | hardResetVbusOff (t : Nat) (port : PortId)
  /-- R307: 800 ms after vSafe0V, vSafe5V and VCONN are restored and STARTUP is re-entered. -/
  | srcRecoverEnd (t : Nat) (port : PortId)
  /-- R287: After 30 ms of open CC, the port enters UNATTACHED. -/
  | errorRecoveryEnd (t : Nat) (port : PortId)
  /-- R301: EPR_Mode (Enter) is acknowledged and, where the cable allows, succeeds, or it fails. -/
  | eprModeEnter (t : Nat) (port : PortId) (id : Fin 8)
  /-- R301: EPR_Mode (Exit) gets SPR capabilities or a hard reset. -/
  | eprModeExit (t : Nat) (port : PortId) (id : Fin 8)
  /-- R302: EPR_KeepAlive is answered with EPR_KeepAlive_Ack. -/
  | eprKeepalive (t : Nat) (port : PortId) (id : Fin 8)
  /-- R292: EPR_Get_Source_Cap is answered with EPR capabilities or Not_Supported. -/
  | eprGetSourceCap (t : Nat) (port : PortId) (id : Fin 8)
  /-- R302: In EPR mode, no sink message for 900 ms, so Hard Reset is sent. -/
  | eprKeepaliveTimeout (t : Nat) (port : PortId)
  /-- R302: In a PPS contract, no Request for 13.5 s, so Hard Reset is sent. -/
  | ppsTimeout (t : Nat) (port : PortId)
  /-- R306: Get_Status is answered with a Status message. -/
  | getStatus (t : Nat) (port : PortId) (id : Fin 8)
  /-- R292: Get_PPS_Status is answered with measurements or Not_Supported. -/
  | getPpsStatus (t : Nat) (port : PortId) (id : Fin 8)
  /-- R292: Get_Source_Info is answered with Source_Info. -/
  | getSourceInfo (t : Nat) (port : PortId) (id : Fin 8)
  /-- R292: Get_Revision is answered with Revision 3.2. -/
  | getRevision (t : Nat) (port : PortId) (id : Fin 8)
  /-- R292: Get_Source_Cap_Extended is answered with Source_Capabilities_Extended. -/
  | getSourceCapExtended (t : Nat) (port : PortId) (id : Fin 8)
  /-- R292: Get_Manufacturer_Info is answered with the VID, PID and string. -/
  | getManufacturerInfo (t : Nat) (port : PortId) (id : Fin 8)
  /-- R292: A message the device does not support is answered with Not_Supported and recorded. -/
  | unsupportedMessage (t : Nat) (port : PortId) (id : Fin 8) (type : Nat)
  /-- R292: Ping, GotoMin, sink status messages and a sink Alert are acknowledged and ignored. -/
  | ignoredMessage (t : Nat) (port : PortId) (id : Fin 8) (kind : PdIgnored)
  /-- R292: BIST Carrier Mode or Test Data is accepted at vSafe5V. -/
  | bist (t : Nat) (port : PortId) (id : Fin 8) (mode : BistMode)
  /-- R293: Discover Identity on SOP is answered with ACK and four VDOs. -/
  | discoverIdentity (t : Nat) (port : PortId) (id : Fin 8)
  /-- R293: The other structured VDMs on SOP are answered with NAK. -/
  | structuredVdmNak (t : Nat) (port : PortId) (id : Fin 8)
  /-- R295: The cable's ACK to Discover Identity classifies it, and the capabilities are rebuilt. -/
  | cableIdentityAck (t : Nat) (port : PortId) (id : Fin 8) (vdo : Word)
  /-- R305: At the next PDI after the wait, an eligible port sends Alert Source Input Change. -/
  | alertSend (t : Nat) (port : PortId)
  /-- R304: Near-zero load has lasted RECLAIM_S, so all but 15 W of the share is offered back. -/
  | reclaimTimer (t : Nat) (port : PortId)
  /-- R304: Current above 50 mA for 1 s asks for the share to be restored. -/
  | reclaimRestore (t : Nat) (port : PortId)
  /-- R303: PD_CTRL.SEND_CAPS resends the capabilities at the next PDI. -/
  | pdSendCaps (t : Nat) (path : Path) (port : PortId)
  /-- R307: PD_CTRL.HARD_RESET makes the device send Hard Reset. -/
  | pdHardReset (t : Nat) (path : Path) (port : PortId)
  /-- R307: PD_CTRL.ERROR_RECOVERY forces ERROR_RECOVERY. -/
  | pdErrorRecovery (t : Nat) (path : Path) (port : PortId)
  /-- R309: The sink's Rd disappears, and a 15 ms debounce starts. -/
  | detachDebounceStart (t : Nat) (port : PortId) (cc1 cc2 : CcPin)
  /-- R309: The 15 ms debounce ends: the detach is stamped P2, VBUS goes off with discharge and the contract ends. -/
  | ccDetach (t : Nat) (port : PortId)
  /-- R309: Receptacle VBUS falls below vSafe0V, so the port enters UNATTACHED. -/
  | vsafe0vReached (t : Nat) (port : PortId) (vbus : Nat)
  /-- R285: Every 10 ms a low pin is probed with the 3.0 A source, and 100 ms of shorts lead to a fault or an attach without VCONN. -/
  | ccShortProbe (t : Nat) (port : PortId) (pin2 shorted : Bool)
  /-- R285: A CC pin above 5.5 V for 10 µs is a CC fault at once. -/
  | ccOvervoltage (t : Nat) (port : PortId) (pin2 : Bool)
  /-- R285: Every 1 s a 10 ms retest runs, and the fault clears if both pins read open. -/
  | ccFaultRetest (t : Nat) (port : PortId) (cc1 cc2 : CcPin)
  /-- R286: 2 ms of overcurrent or undervoltage switches VCONN off and resets or rebuilds the contract. -/
  | vconnFault (t : Nat) (port : PortId) (ma : Nat)
  /-- R323: DPn_ISP enters 4.75–5.50 V, so the pre-switch checks start. -/
  | converterReady (t : Nat) (port : PortId) (isp : Nat)
  /-- R323: The 1 ms pre-switch checks pass, so the gate ramps VBUS up. -/
  | preswitchCheckDone (t : Nat) (port : PortId) (isp mid : Nat)
  /-- R322: Every 1 ms the VSET code is trimmed one step toward the target. -/
  | vsetTrim (t : Nat) (port : PortId) (isp : Nat)
  /-- R326: Every 1 µs a path's breaker integrates its current and trips at 2^24. -/
  | breakerEval (t : Nat) (path : PowerPath) (sample : Int) (v1 v2 v3 : Nat)
  /-- R327: The current crosses the fast-trip threshold, so the gate discharges within 200 ns and a P0 trip follows. -/
  | fastTrip (t : Nat) (path : PowerPath)
  /-- R328: In PPS, every 10 µs or 4 µs the code steps down or up to limit current. -/
  | ppsCurrentLimitStep (t : Nat) (port : PortId) (amps : Int)
  /-- R329: Every 1 ms the FET temperature is read or modelled, and the derate factor is recomputed. -/
  | thermalUpdate (t : Nat) (port : PortId) (reading : Int) (meanSquare : Nat) (dieTemp : Int)
  /-- R332: A pass-pair check holds for its time: FET_FAIL latches, FET_FAIL_N goes low and Quarantine follows. -/
  | passDeviceFault (t : Nat) (path : PowerPath) (check : Fin 5)
  /-- R332: FUSE_CTRL.CLEAR_FET_FAIL re-enables the converter to rerun the port checks. -/
  | clearFetFail (t : Nat) (path : Path) (port : PortId)
  /-- R332: The 10 ms clear check ends, clearing the fault or leaving it latched. -/
  | fetClearCheckEnd (t : Nat) (path : PowerPath) (failed : Bool)
  /-- R334: FUSE_CTRL.CLEAR_LATCH clears LATCHED and RETRIES. -/
  | clearLatch (t : Nat) (path : Path) (port : PortId)
  /-- R334: The off time ends with retry allowed, so the path is restored as a counted retry. -/
  | portRetry (t : Nat) (port : PortId)
  /-- R334: After 60 s on without a trip, the port's RETRIES clears. -/
  | portRetryClear (t : Nat) (port : PortId)
  /-- R337: A waiting share increase applies once committed power allows. -/
  | shareIncreaseApply (t : Nat) (port : PortId)
  /-- R337: A shed or hard-shed port whose share and mode allow has its VBUS restored. -/
  | shedRestore (t : Nat) (port : PortId)
  /-- R352: TIME_SAMPLE.SAMPLE latches the Stroke count and PTP time of one cycle. -/
  | timeSample (t : Nat) (path : Path)
  /-- R358: Every 10 µs engine frequencies are chosen and the voltage may rise. -/
  | dvfsUpdate (t : Nat) (cluster : Fin 24) (need0 need1 need2 need3 : Nat) (slack : Nat) (stretches : Nat)
  /-- R358: Every 1 ms with enough slack throughout, the cluster voltage drops 5 mV. -/
  | dvfsVoltageDown (t : Nat) (cluster : Fin 24) (slack : Nat) (overV : Bool) (temp : Int)
  /-- R360: Adjacent regions differ by over 30 °C for 10 ms, so the hotter region's FMAX is capped. -/
  | regionTempCap (t : Nat) (region : Fin 4) (temp other : Int)
  /-- R360: The difference stays below 25 °C for 1 s, so the cap lifts. -/
  | regionTempUncap (t : Nat) (region : Fin 4) (temp : Int)
  /-- R362: Every 100 µs one equaliser coefficient of a lane may step within bounds. -/
  | eqAdaptStep (t : Nat) (lane : Fin 23) (coef : Fin 5) (up : Bool) (height width : Nat)
  /-- R375: A record's slot header, bytes and COMMIT are programmed to NOR. -/
  | recordCommit (t : Nat) (result : NorResult)
  /-- R375: The oldest closed sector is condemned, erased and re-headed to keep a reserve. -/
  | sectorRecycle (t : Nat) (ring : Ring) (ok : Bool)
  /-- R370: A rate bucket gains a token, with a suppression summary when it is full again. -/
  | bucketRefill (t : Nat) (code : Nat) (port : PortId)
  /-- R371: Every SUM_S the electrical summaries and any loss summary are recorded. -/
  | summaryPeriodClose (t : Nat)
  /-- R380: PAL_CTRL.FREEZE stops recycling and records a marker. -/
  | palFreeze (t : Nat) (path : Path)
  /-- R380: PAL_CTRL.UNFREEZE resumes recycling unless RETURN_LOCK is set. -/
  | palUnfreeze (t : Nat) (path : Path)
  /-- R380: PAL_CTRL.VERIFY recomputes the SEAL_TAG of a selected sector. -/
  | palVerify (t : Nat) (path : Path)
  /-- R380: The verification ends with DONE and PASS or NOT_CLOSED. -/
  | palVerifyDone (t : Nat)
  /-- R380: PAL_READ_CTRL.LOAD fetches the record PAL_READ_SEQ into the window. -/
  | palLoad (t : Nat) (path : Path)
  /-- R380: PAL_READ_CTRL.NEXT loads the nearest retained SEQ above. -/
  | palNext (t : Nat) (path : Path)
  /-- R380: PAL_READ_CTRL.PREV loads the nearest retained SEQ below. -/
  | palPrev (t : Nat) (path : Path)
  /-- R380: The loaded record is in the window and READY sets. -/
  | recordLoadReady (t : Nat)
  /-- R405: A 60 min corrected-error window ends and the block counts restart. -/
  | eccWindow (t : Nat)
  /-- R406: An uncorrectable word is contained according to what it holds. -/
  | eccUncorrectable (t : Nat) (site : EccSite)
  /-- R407: An engine watchdog expires, so the engine restarts or its cluster fails. -/
  | watchdogExpiry (t : Nat) (engine : Fin 96)
  /-- R407: The restarted engine resumes its work. -/
  | engineRestartComplete (t : Nat) (engine : Fin 96)
  /-- R409: A region or Reservoir has been above 115 or 125 °C for 10 ms, holding at FMIN or quarantining. -/
  | temperatureExceeded (t : Nat) (place : Fin 5) (temp : Int)
  /-- R409: The temperature falls below 105 °C, clearing the cause and the hold. -/
  | temperatureCleared (t : Nat) (place : Fin 5) (temp : Int)
  /-- R412: QUAR_CTRL.EXIT leaves Quarantine if no cause remains, or is refused. -/
  | quarExit (t : Nat) (path : Path)
  /-- R415: SEAL_CTRL.ADVANCE_FLOOR blows fuses to raise FLOOR to the running SVN. -/
  | advanceFloor (t : Nat) (path : Path)
  /-- R419: SEAL_CTRL.RETURN_ARM sets RETURN_ARMED for 600 s. -/
  | returnArm (t : Nat) (path : Path)
  /-- R419: SEAL_CTRL.RETURN_DISARM clears RETURN_ARMED. -/
  | returnDisarm (t : Nat) (path : Path)
  /-- R419: 600 s after arming, RETURN_ARMED lapses. -/
  | returnArmLapse (t : Nat)
  /-- R417: SEAL_KEY_CTRL.LOAD starts writing a new key set with the VI's key. -/
  | keyLoad (t : Nat) (path : Path) (v : RingId)
  /-- R417: SEAL_KEY_CTRL.WITHDRAW starts writing a key set without the VI's key. -/
  | keyWithdraw (t : Nat) (path : Path) (v : RingId)
  /-- R416: SEAL_KEY_CTRL.FUSE_OWNER fuses the owner key hash. -/
  | fuseOwner (t : Nat) (path : Path)
  /-- R418: The key set commit completes, and the key takes effect or lapses with forfeiture. -/
  | keySetCommitted (t : Nat) (ok : Bool)
  /-- R420: The host reads the gate function, which issues a nonce, UNIQUE_ID and RETURN_ARMED. -/
  | gateNonceRead (t : Nat)
  /-- R420: The host writes a 140 B authorisation, which the device receives for verification. -/
  | gateAuthorisation (t : Nat) (nonce : List Word) (uid : DWord) (scope : Nat)
  /-- R420: Verification ends: on failure it STALLs, with SCOPE 1 it enters Return, with SCOPE 2 it clears RETURN_LOCK. -/
  | gateVerifyDone (t : Nat) (signed : Bool)
  /-- R420: A nonce expires 60 s after it was issued. -/
  | gateNonceExpiry (t : Nat)
  /-- R229: The upstream of a classic VI suspends, so its owned ports stop receiving its SOF and CVI_STATUS.SUSPENDED sets. -/
  | upstreamSuspend (t : Nat) (c : ClassicId)
  /-- R399: Resume signalling from a classic VI's upstream host resumes its hub and is a wake source from Suspend. -/
  | upstreamResume (t : Nat) (c : ClassicId)
  /-- R229: An LPM token from a classic host is answered ACK or NYET by the USB 2.0 hub half, depending on its owned ports. -/
  | upstreamLpmToken (t : Nat) (c : ClassicId)
  /-- R242: A classic VI's upstream SuperSpeed link reaches or leaves U0, changing SS_LINK and the hub half on which the Scribe function attaches. -/
  | upstreamSsLinkChange (t : Nat) (c : ClassicId) (up : Bool)
  /-- R127: The host sets VF Enable or NumVFs so bound VFs exist, and their VIs become eligible, with home returns decided in that tick. -/
  | vfEnableSet (t : Nat) (numVfs : Nat)
  /-- R132: An FLR completes within 100 ms and the function, still bound to the same VI, is usable again. -/
  | flrComplete (t : Nat) (fn : Fin 16) (msixOn : Bool)
  /-- R390: The PCIe link finishes training, and after link down or hot reset its functions can carry VIs again. -/
  | pcieLinkUp (t : Nat) (speed width : Nat) (bme msixOn : Nat) (ptm : Bool)
  /-- R405: A single-bit SECDED error is corrected on a read or by the scrub and counted, with a class 1 report when the window's threshold is passed. -/
  | eccCorrected (t : Nat) (site : EccSite)
  /-- R332: DPn_ISP has not entered 4.75–5.50 V within 100 ms of a CLEAR_FET_FAIL, so the clear fails and DPn_EN returns low with code 0. -/
  | fetClearWindowTimeout (t : Nat) (port : PortId)
  /-- R406: The classic-hub descriptor store finishes reloading from the configuration image, and descriptor requests stop drawing STALL. -/
  | descriptorStoreReloaded (t : Nat)
  /-- R406: A key hit by an uncorrectable key-SRAM error finishes reloading from the key store, and RTUs checked after it can pass. -/
  | keyReloaded (t : Nat) (v : RingId)
  deriving DecidableEq, Repr

end Sys2Proof
end

