-- ==== Sys2Proof/Config.lean ====
section
/-! DEFINITION. What an implementation fixes and the values the spec leaves free: constants with no body, so no proof can see a value. -/

namespace Sys2Proof.Config

/-- A fresh value the spec leaves open, drawn at a counter of State (keys, nonces, random waits and every unstated value). -/
opaque freeWord : Nat → Word

/-- SEAL_TAG: the first 16 bytes of HMAC-SHA-256 under the fused recorder key over a sector's bytes (R376). -/
opaque sealTag : List Byte → BitVec 128

/-- The first three bytes of HMAC-SHA-256 under a VI key over the byte 0x4B (R416). -/
opaque keyCheck : List Word → BitVec 24

/-- The HMAC-SHA-256 tag of an authenticated connection message under a VI key (R145). -/
opaque authTag : List Word → List Byte → List Word

/-- The fused device number (R50, R414). -/
opaque uniqueId : DWord

/-- The manufacturer (1) and product (2) strings that a configuration image body holds (R222): the image's format is not in the spec. -/
opaque hubString : List Word → Nat → List Nat

/-- What the NOR, the signature and the format of an image body come to where the commit is given through the register itself: the words written and a draw number (R395, R415). -/
opaque imageVerdict : List Word → Nat → ImgVerdict

/-- Whether the configuration disables a downstream port (R75): the spec names no field that does, so it is a free function of the applied registers and the port. -/
opaque portDisabled : List (Nat × Word) → Nat → Bool

end Sys2Proof.Config
end

