-- ==== Sys2Proof/Machine/Bits.lean ====
section
/-! DEFINITION. Bit fields, packing, saturation and two's complement: the helpers every register view and message layout uses (R3, R48). -/

namespace Sys2Proof.Machine

/-- The field of `n` bits of `w` whose lowest bit is `lo` (R3: bit 0 is the least significant). -/
def fld (w : Word) (lo n : Nat) : Nat := (w.toNat / 2 ^ lo) % 2 ^ n

/-- Bit `i` of a register. -/
def bitOf (w : Word) (i : Nat) : Bool := fld w i 1 == 1

/-- 1 for a set flag, 0 for a clear one. -/
def bnat (b : Bool) : Nat := if b then 1 else 0

/-- The sum of the fields, each a pair of its lowest bit and its value. -/
def packNat : List (Nat × Nat) → Nat
  | [] => 0
  | (lo, v) :: rest => v * 2 ^ lo + packNat rest

/-- A register made of fields, each given by its lowest bit and its value. -/
def pack (fields : List (Nat × Nat)) : Word := BitVec.ofNat 32 (packNat fields)

/-- A 64-bit word made of fields. -/
def pack64 (fields : List (Nat × Nat)) : DWord := BitVec.ofNat 64 (packNat fields)

/-- Replace the field of `n` bits at `lo` by `v`. -/
def setFld (w : Word) (lo n v : Nat) : Word :=
  BitVec.ofNat 32 (w.toNat - fld w lo n * 2 ^ lo + (v % 2 ^ n) * 2 ^ lo)

/-- The two's complement value of the low `n` bits of `x`. -/
def sgn (n x : Nat) : Int :=
  let y := x % 2 ^ n
  if y ≥ 2 ^ (n - 1) then (y : Int) - (2 ^ n : Nat) else (y : Int)

/-- The low `n` bits of an integer, as two's complement. -/
def unsgn (n : Nat) (x : Int) : Nat := (x % (2 ^ n : Nat)).toNat

/-- An integer limited to the range of an `n`-bit two's complement field, in that field's bits. -/
def satSgn (n : Nat) (x : Int) : Nat :=
  let hi : Int := (2 ^ (n - 1) : Nat) - 1
  let lo : Int := -((2 ^ (n - 1) : Nat) : Int)
  unsgn n (if x > hi then hi else if x < lo then lo else x)

/-- A count held in `n` bits, saturating at all ones (R48). -/
def satN (n x : Nat) : Nat := min x (2 ^ n - 1)

/-- The low 32 bits of a number. -/
def loW (x : Nat) : Word := BitVec.ofNat 32 x

/-- Bits 63:32 of a number. -/
def hiW (x : Nat) : Word := BitVec.ofNat 32 (x / 2 ^ 32)

/-- The value, or the default where it lies outside the range the spec states. -/
def inRange (lo hi dflt x : Nat) : Nat := if lo ≤ x ∧ x ≤ hi then x else dflt

/-- Integer division rounded up. -/
def cdiv (a b : Nat) : Nat := (a + b - 1) / b

/-- The four bytes of a register, lowest address first (R3: little-endian). -/
def bytesLE (w : Word) : List Byte :=
  [BitVec.ofNat 8 w.toNat, BitVec.ofNat 8 (w.toNat / 256), BitVec.ofNat 8 (w.toNat / 65536), BitVec.ofNat 8 (w.toNat / 16777216)]

/-- The low `n` bytes of a number, lowest first. -/
def natBytesLE : Nat → Nat → List Byte
  | 0, _ => []
  | n + 1, x => BitVec.ofNat 8 x :: natBytesLE n (x / 256)

/-- The number whose bytes, most significant first, are the list (SPI fields, R36). -/
def bytesBE (bs : List Byte) : Nat := bs.foldl (fun a b => a * 256 + b.toNat) 0

/-- The number whose bytes, least significant first, are the list (R3). -/
def bytesToNatLE : List Byte → Nat
  | [] => 0
  | b :: rest => b.toNat + 256 * bytesToNatLE rest

/-- Whether bit `i` of a mask is set. -/
def maskBit (m i : Nat) : Bool := (m / 2 ^ i) % 2 == 1

/-- A mask with bit `i` set or cleared. -/
def putBit (m i : Nat) (b : Bool) : Nat :=
  if maskBit m i then (if b then m else m - 2 ^ i) else (if b then m + 2 ^ i else m)

end Sys2Proof.Machine
end

