-- ==== Sys2Proof/Machine/Crc.lean ====
section
/-! DEFINITION. The check codes: CRC-8 of the SPI target (R37), CRC-16/CCITT-FALSE of descriptors, CRC-32C of records and images (R364), CRC-64 of ECMA-182 for the Rubric digest (R56). -/

namespace Sys2Proof.Machine

/-- One step of a CRC register of `n` bits, most significant bit first. -/
def crcStep (n poly r : Nat) : Nat :=
  if r / 2 ^ (n - 1) % 2 = 1 then Nat.xor (r * 2 % 2 ^ n) poly else r * 2 % 2 ^ n

/-- Eight steps after a byte has been folded into the top of the register. -/
def crcByte (n poly r : Nat) (b : Byte) : Nat :=
  let r0 := Nat.xor r (b.toNat * 2 ^ (n - 8))
  crcStep n poly (crcStep n poly (crcStep n poly (crcStep n poly
    (crcStep n poly (crcStep n poly (crcStep n poly (crcStep n poly r0)))))))

/-- A CRC over bytes, most significant bit first, with no reflection and no final XOR. -/
def crcMsb (n poly init : Nat) (bs : List Byte) : Nat := bs.foldl (crcByte n poly) init

/-- CRC-8 with polynomial 0x07, initial value 0, no reflection (R37). -/
def crc8 (bs : List Byte) : Byte := BitVec.ofNat 8 (crcMsb 8 0x07 0 bs)

/-- CRC-16/CCITT-FALSE: polynomial 0x1021, initial value 0xFFFF, no reflection. -/
def crc16 (bs : List Byte) : BitVec 16 := BitVec.ofNat 16 (crcMsb 16 0x1021 0xFFFF bs)

/-- CRC-64 of ECMA-182 with initial value zero (R56). -/
def crc64 (bs : List Byte) : DWord := BitVec.ofNat 64 (crcMsb 64 0x42F0E1EBA9EA3693 0 bs)

/-- The bits of a byte in the reverse order. -/
def revByte (b : Byte) : Byte :=
  BitVec.ofNat 8 ((List.range 8).foldl (fun a i => a * 2 + (b.toNat / 2 ^ i) % 2) 0)

/-- The bits of a 32-bit number in the reverse order. -/
def rev32 (x : Nat) : Nat := (List.range 32).foldl (fun a i => a * 2 + (x / 2 ^ i) % 2) 0

/-- CRC-32C: polynomial 0x1EDC_6F41, reflected input and output, initial and final value all ones (R364). -/
def crc32c (bs : List Byte) : Word :=
  BitVec.ofNat 32 (Nat.xor (rev32 (crcMsb 32 0x1EDC6F41 0xFFFFFFFF (bs.map revByte))) 0xFFFFFFFF)

/-- CRC-32C with another initial value, given as the reflected register holds it (R253). -/
def crc32cFrom (init : Nat) (bs : List Byte) : Word :=
  BitVec.ofNat 32 (Nat.xor (rev32 (crcMsb 32 0x1EDC6F41 (rev32 init) (bs.map revByte))) 0xFFFFFFFF)

end Sys2Proof.Machine
end

