-- ==== Sys2Proof/Machine/RegMap.lean ====
section
/-! DEFINITION. The register map: one row per register or register array of the spec's own maps (R50, R64, R68, R94, R98, R125, R130, R135, R160, R194, R195, R197, R216, R249, R263, R278, R312, R319, R320, R348, R356, R361, R379, R382, R404, R416). The value of a row is its Reset column; where that is CFG, the image builder's default of R392 and of the register's own rule. -/

namespace Sys2Proof.Machine

/-- Where a row's offset counts from: a block of set-up space, every port block, or every VI page (R34). -/
inductive RegSpace where
  | block
  | port
  | viPage
  deriving DecidableEq, Repr

/-- The access codes of R6 that the maps use; PRIV is a separate flag. -/
inductive Access where
  | rw
  | ro
  | rc
  | w1p
  deriving DecidableEq, Repr

/-- The Applies at codes of R7. -/
inductive Applies where
  | imm
  | uf
  | fr
  | pdi
  | brk
  | pkt
  | epoch
  deriving DecidableEq, Repr

/-- One row of the map: `count` registers at `base + stride × i`. -/
structure RegRow where
  space : RegSpace
  base : Nat
  stride : Nat
  count : Nat
  acc : Access
  priv : Bool
  /-- The bits a write changes; the others are reserved or read-only (R3). -/
  mask : Word
  dflt : Word
  applies : Applies
  digested : Bool
  deriving DecidableEq, Repr

/-- Rows of the register map, part 1. -/
def regRows1 : List RegRow :=
  [
   ⟨.block, 0x0, 4, 1, .ro, false, 0x0, 0xA471664, .imm, false⟩,  -- R50 DEVICE_ID
   ⟨.block, 0x4, 4, 1, .ro, false, 0x0, 0x101, .imm, false⟩,  -- R50 SILICON_REV
   ⟨.block, 0x8, 4, 1, .ro, false, 0x0, 0x0, .imm, false⟩,  -- R50 FW_SET
   ⟨.block, 0xC, 4, 1, .ro, false, 0x0, 0x0, .imm, false⟩,  -- R50 FW_BUILD
   ⟨.block, 0x10, 4, 1, .ro, false, 0x0, 0x0, .imm, false⟩,  -- R50 UNIQUE_ID_LO
   ⟨.block, 0x14, 4, 1, .ro, false, 0x0, 0x0, .imm, false⟩,  -- R50 UNIQUE_ID_HI
   ⟨.block, 0x20, 4, 1, .ro, false, 0x0, 0x3, .imm, false⟩,  -- R50 MODE
   ⟨.block, 0x30, 4, 1, .rw, true, 0x1, 0x0, .imm, true⟩,  -- R50 PF_TRUST_CTRL
   ⟨.block, 0x40, 4, 1, .ro, false, 0x0, 0x0, .imm, false⟩,  -- R50 STROKE_LO
   ⟨.block, 0x44, 4, 1, .ro, false, 0x0, 0x0, .imm, false⟩,  -- R50 STROKE_HI
   ⟨.block, 0x100, 4, 1, .rc, true, 0x0, 0x0, .imm, false⟩,  -- R50 ACCESS_STATUS
   ⟨.block, 0x104, 4, 1, .rc, true, 0x0, 0x0, .imm, false⟩,  -- R50 ACCESS_FAIL_ADDR
   ⟨.block, 0x108, 4, 1, .rc, true, 0x0, 0x0, .imm, false⟩,  -- R50 PRIV_DENY_COUNT
   ⟨.block, 0x10C, 4, 1, .rc, true, 0x0, 0x0, .imm, false⟩,  -- R50 SPI_CRC_COUNT
   ⟨.block, 0x200, 4, 1, .w1p, true, 0x0, 0x0, .imm, false⟩,  -- R50 RUBRIC_CTRL
   ⟨.block, 0x204, 4, 1, .rw, true, 0xFFFFFFFF, 0x0, .imm, false⟩,  -- R50 RUBRIC_EXPECT
   ⟨.block, 0x208, 4, 1, .ro, false, 0x0, 0x0, .imm, false⟩,  -- R50 RUBRIC_EPOCH
   ⟨.block, 0x20C, 4, 1, .ro, false, 0x0, 0x0, .imm, false⟩,  -- R50 RUBRIC_STATUS
   ⟨.block, 0x210, 4, 1, .ro, false, 0x0, 0x0, .imm, false⟩,  -- R50 DIGEST_LO
   ⟨.block, 0x214, 4, 1, .ro, false, 0x0, 0x0, .imm, false⟩,  -- R50 DIGEST_HI
   ⟨.block, 0x218, 4, 1, .ro, false, 0x0, 0x0, .imm, false⟩,  -- R50 COMMIT_STROKE_LO
   ⟨.block, 0x21C, 4, 1, .ro, false, 0x0, 0x0, .imm, false⟩,  -- R50 COMMIT_STROKE_HI
   ⟨.block, 0x300, 8, 27, .ro, false, 0x0, 0x0, .imm, false⟩,  -- R50 DOMAIN_CRC_LO(d)
   ⟨.block, 0x304, 8, 27, .ro, false, 0x0, 0x0, .imm, false⟩,  -- R50 DOMAIN_CRC_HI(d)
   ⟨.block, 0x400, 8, 27, .ro, false, 0x0, 0x0, .imm, false⟩,  -- R50 COMMITTED_CRC_LO(d)
   ⟨.block, 0x404, 8, 27, .ro, false, 0x0, 0x0, .imm, false⟩,  -- R50 COMMITTED_CRC_HI(d)
   ⟨.port, 0x200, 4, 1, .rw, true, 0xF7F7F, 0xA0001, .imm, true⟩,  -- R64 PORTn.OWN_CFG
   ⟨.port, 0x204, 4, 1, .w1p, true, 0x0, 0x0, .imm, false⟩,  -- R64 PORTn.OWN_ASSIGN
   ⟨.port, 0x208, 4, 1, .ro, false, 0x0, 0x0, .imm, false⟩,  -- R64 PORTn.OWN_STATUS
   ⟨.port, 0x20C, 4, 1, .ro, false, 0x0, 0x0, .imm, false⟩,  -- R64 PORTn.LEASE_LEFT
   ⟨.port, 0x210, 4, 1, .rc, true, 0x0, 0x0, .imm, false⟩,  -- R64 PORTn.CLAIM_LOG
   ⟨.block, 0x71000, 8, 64, .rw, true, 0xFFFF00F3, 0x1F40000, .imm, true⟩,  -- R68 VI_OWN_POLICY(v)
   ⟨.block, 0x71004, 8, 64, .rw, true, 0xFFFE, 0x0, .imm, true⟩,  -- R68 VI_CLAIM_MASK(v)
   ⟨.block, 0xA1000, 8, 5, .rw, true, 0xF1, 0x0, .imm, true⟩,  -- R68 CVI_OWN_POLICY(c)
   ⟨.block, 0xA1004, 8, 5, .rw, true, 0xFFFE, 0x0, .imm, true⟩,  -- R68 CVI_CLAIM_MASK(c)
   ⟨.viPage, 0x100, 4, 1, .rw, false, 0x7, 0x0, .imm, false⟩,  -- R94 VI_CTRL
   ⟨.viPage, 0x108, 4, 1, .rw, false, 0xFFFFFFC0, 0x0, .imm, false⟩,  -- R94 CMD_RING_LO
   ⟨.viPage, 0x10C, 4, 1, .rw, false, 0xFFFFFFFF, 0x0, .imm, false⟩,  -- R94 CMD_RING_HI
   ⟨.viPage, 0x110, 4, 1, .rw, false, 0x1F, 0x0, .imm, false⟩,  -- R94 CMD_RING_SIZE
   ⟨.viPage, 0x118, 4, 1, .rw, false, 0xFFFFFFC0, 0x0, .imm, false⟩  -- R94 EVT_RING_LO
  ]

/-- Rows of the register map, part 2. -/
def regRows2 : List RegRow :=
  [
   ⟨.viPage, 0x11C, 4, 1, .rw, false, 0xFFFFFFFF, 0x0, .imm, false⟩,  -- R94 EVT_RING_HI
   ⟨.viPage, 0x120, 4, 1, .rw, false, 0x1F, 0x0, .imm, false⟩,  -- R94 EVT_RING_SIZE
   ⟨.viPage, 0x128, 4, 1, .rw, false, 0xFFFFFFC0, 0x0, .imm, false⟩,  -- R94 SNAP_BUF_LO
   ⟨.viPage, 0x12C, 4, 1, .rw, false, 0xFFFFFFFF, 0x0, .imm, false⟩,  -- R94 SNAP_BUF_HI
   ⟨.viPage, 0x130, 4, 1, .rw, false, 0xFFFFFFFF, 0x0, .imm, false⟩,  -- R94 SNAP_BUF_BYTES
   ⟨.viPage, 0x138, 4, 1, .rw, false, 0xFFFFFFC0, 0x0, .imm, false⟩,  -- R94 PREVIEW_BUF_LO
   ⟨.viPage, 0x13C, 4, 1, .rw, false, 0xFFFFFFFF, 0x0, .imm, false⟩,  -- R94 PREVIEW_BUF_HI
   ⟨.viPage, 0x140, 4, 1, .rw, false, 0x7FFFFFF, 0x0, .imm, false⟩,  -- R94 EVT_MOD
   ⟨.viPage, 0x800, 4, 1, .ro, false, 0x0, 0x0, .imm, false⟩,  -- R98 VI_STATUS
   ⟨.viPage, 0x804, 4, 1, .ro, false, 0x0, 0x0, .imm, false⟩,  -- R98 NEXT_SEQ
   ⟨.viPage, 0x808, 4, 1, .ro, false, 0x0, 0x0, .imm, false⟩,  -- R98 OLDEST_SEQ
   ⟨.viPage, 0x80C, 4, 1, .ro, false, 0x0, 0x10000, .imm, false⟩,  -- R98 CMD_HEAD
   ⟨.viPage, 0x810, 4, 1, .ro, false, 0x0, 0x10000, .imm, false⟩,  -- R98 EVT_TAIL
   ⟨.viPage, 0x814, 4, 1, .ro, false, 0x0, 0x0, .imm, false⟩,  -- R98 INFLIGHT
   ⟨.viPage, 0x818, 4, 1, .ro, false, 0x0, 0x0, .imm, false⟩,  -- R98 DB_IGNORED
   ⟨.viPage, 0x81C, 4, 1, .ro, false, 0x0, 0x0, .imm, false⟩,  -- R98 DESC_ERRORS
   ⟨.viPage, 0x820, 4, 1, .ro, false, 0x0, 0x0, .imm, false⟩,  -- R98 OWNED_MASK
   ⟨.viPage, 0x840, 4, 15, .ro, false, 0x0, 0x0, .imm, false⟩,  -- R98 PORT_VIEW(n)
   ⟨.viPage, 0x880, 4, 15, .ro, false, 0x0, 0x0, .imm, false⟩,  -- R98 PORT_POWER(n)
   ⟨.viPage, 0x8C0, 4, 15, .ro, false, 0x0, 0x0, .imm, false⟩,  -- R98 PORT_LEASE(n)
   ⟨.block, 0x72000, 4, 64, .rw, true, 0xFF0001F3, 0x3C000000, .imm, true⟩,  -- R125 VI_BIND(v)
   ⟨.block, 0x90000, 4, 1, .rw, true, 0xFFFFFFFF, 0xA470A47, .epoch, true⟩,  -- R130 PCIE_VENDOR
   ⟨.block, 0x90004, 4, 1, .rw, true, 0xFFFFFFFF, 0x16651664, .epoch, true⟩,  -- R130 PCIE_DEVICE
   ⟨.block, 0x90010, 4, 1, .ro, false, 0x0, 0x0, .imm, false⟩,  -- R130 PCIE_STATUS
   ⟨.block, 0x90020, 4, 1, .rw, true, 0x7F, 0xA, .imm, true⟩,  -- R130 PTM_CTRL
   ⟨.block, 0x90024, 4, 1, .ro, false, 0x0, 0x0, .imm, false⟩,  -- R130 PTM_STATUS
   ⟨.block, 0x90030, 4, 1, .rc, true, 0x0, 0x0, .imm, false⟩,  -- R130 DMA_ERRORS
   ⟨.block, 0x80000, 256, 2, .rw, true, 0xF, 0x0, .epoch, true⟩,  -- R135 ETH_CFG(p)
   ⟨.block, 0x80004, 256, 2, .ro, false, 0x0, 0x0, .imm, false⟩,  -- R135 ETH_STATUS(p)
   ⟨.block, 0x80008, 256, 2, .rc, true, 0x0, 0x0, .imm, false⟩,  -- R135 ETH_FEC_CORR(p)
   ⟨.block, 0x8000C, 256, 2, .rc, true, 0x0, 0x0, .imm, false⟩,  -- R135 ETH_FEC_UNCORR(p)
   ⟨.block, 0x80010, 256, 2, .rc, true, 0x0, 0x0, .imm, false⟩,  -- R135 ETH_RX_DROP(p)
   ⟨.block, 0x80200, 4, 1, .rw, true, 0xFFFFFFFF, 0x0, .epoch, true⟩,  -- R135 NODE_MAC_LO
   ⟨.block, 0x80204, 4, 1, .rw, true, 0xFFFF, 0x0, .epoch, true⟩,  -- R135 NODE_MAC_HI
   ⟨.block, 0x80208, 4, 1, .rw, true, 0xFFFFFFFF, 0x0, .epoch, true⟩,  -- R135 NODE_IPV4
   ⟨.block, 0x80210, 4, 4, .rw, true, 0xFFFFFFFF, 0x0, .epoch, true⟩,  -- R135 NODE_IPV6(i)
   ⟨.block, 0x80220, 4, 1, .rw, true, 0x3FFFFFFF, 0x0, .pkt, true⟩,  -- R135 VLAN_CFG
   ⟨.block, 0x80300, 4, 1, .rw, true, 0xFFFFFF01, 0x7D00000, .epoch, true⟩,  -- R135 PRP_CFG
   ⟨.block, 0x80304, 4, 1, .ro, false, 0x0, 0x0, .imm, false⟩,  -- R135 PRP_STATUS
   ⟨.block, 0x80308, 4, 1, .rc, true, 0x0, 0x0, .imm, false⟩  -- R135 PRP_DUP_EVICT
  ]

/-- Rows of the register map, part 3. -/
def regRows3 : List RegRow :=
  [
   ⟨.block, 0x8030C, 4, 1, .rc, true, 0x0, 0x0, .imm, false⟩,  -- R135 PRP_DUP_DISCARD
   ⟨.block, 0x80400, 4, 1, .rw, true, 0x1FFFF, 0xE4A0, .epoch, true⟩,  -- R135 ROCE_CFG
   ⟨.block, 0x80408, 4, 1, .rw, true, 0xFFFFFFFF, 0x0, .epoch, true⟩,  -- R135 SERVICE_ID_LO
   ⟨.block, 0x8040C, 4, 1, .rw, true, 0xFFFFFFFF, 0x0, .epoch, true⟩,  -- R135 SERVICE_ID_HI
   ⟨.block, 0x80410, 4, 1, .rw, true, 0x1FFFF07, 0x1010401, .imm, true⟩,  -- R135 CC_CFG
   ⟨.block, 0x80800, 8, 128, .ro, false, 0x0, 0x0, .imm, false⟩,  -- R135 QP_STATUS(q)
   ⟨.block, 0x80804, 8, 128, .w1p, true, 0x0, 0x0, .imm, false⟩,  -- R135 QP_CTRL(q)
   ⟨.block, 0x80C00, 4, 1, .rw, true, 0xFF0F, 0x0, .epoch, true⟩,  -- R135 PTP_CFG
   ⟨.block, 0x80C04, 4, 1, .ro, false, 0x0, 0x0, .imm, false⟩,  -- R135 PTP_STATUS
   ⟨.block, 0x80C08, 4, 1, .ro, false, 0x0, 0x0, .imm, false⟩,  -- R135 PTP_OFFSET
   ⟨.port, 0x400, 4, 1, .rw, true, 0x1FF, 0x1F7, .uf, true⟩,  -- R160 PORTn.NIB_CFG
   ⟨.port, 0x404, 4, 1, .rw, true, 0xFFFFFFF, 0x40A0410, .uf, true⟩,  -- R160 PORTn.NIB_LPM_CFG
   ⟨.port, 0x408, 4, 1, .ro, false, 0x0, 0x0, .imm, false⟩,  -- R160 PORTn.NIB_STATUS
   ⟨.port, 0x40C, 4, 1, .rc, true, 0x0, 0x0, .imm, false⟩,  -- R160 PORTn.NIB_ERR_COUNT
   ⟨.port, 0x410, 4, 1, .rc, true, 0x0, 0x0, .imm, false⟩,  -- R160 PORTn.NIB_EVENT_COUNT
   ⟨.port, 0x414, 4, 1, .ro, false, 0x0, 0x0, .imm, false⟩,  -- R160 PORTn.NIB_STUCK_LEFT
   ⟨.port, 0x600, 4, 1, .rw, true, 0x7F, 0x64, .uf, true⟩,  -- R194 PORTn.DUCTUS_CFG
   ⟨.port, 0x604, 4, 1, .ro, false, 0x0, 0x0, .imm, false⟩,  -- R194 PORTn.DUCTUS_LOAD
   ⟨.port, 0x608, 4, 1, .ro, false, 0x0, 0x0, .imm, false⟩,  -- R194 PORTn.DUCTUS_AGE
   ⟨.port, 0x60C, 4, 1, .rc, true, 0x0, 0x0, .imm, false⟩,  -- R194 PORTn.DUCTUS_COUNT
   ⟨.port, 0x610, 4, 1, .ro, false, 0x0, 0x0, .imm, false⟩,  -- R194 PORTn.TIMELINE
   ⟨.block, 0x64000, 4, 1, .ro, false, 0x0, 0x0, .imm, false⟩,  -- R195 GD_SPACE
   ⟨.block, 0x64004, 4, 1, .ro, false, 0x0, 0x0, .imm, false⟩,  -- R195 GD_BANK_PEAK
   ⟨.block, 0x64008, 4, 1, .rc, true, 0x0, 0x0, .imm, false⟩,  -- R195 GD_REFUSED
   ⟨.block, 0x64100, 4, 64, .rw, true, 0xFF0F, 0x1404, .imm, true⟩,  -- R195 VI_SCHED(v)
   ⟨.block, 0x64200, 8, 64, .rw, true, 0xFF, 0x41, .imm, true⟩,  -- R195 TL_CTRL(v)
   ⟨.block, 0x64204, 8, 64, .ro, false, 0x0, 0x0, .imm, false⟩,  -- R195 TL_STATUS(v)
   ⟨.block, 0x64500, 4, 1, .rw, true, 0xFFFFFFFF, 0x0, .imm, false⟩,  -- R195 TL_FREEZE_LO
   ⟨.block, 0x64504, 4, 1, .rw, true, 0xFFFFFFFF, 0x0, .imm, false⟩,  -- R195 TL_FREEZE_HI
   ⟨.block, 0x64600, 4, 64, .ro, false, 0x0, 0x0, .imm, false⟩,  -- R195 TL_PHASE(v)
   ⟨.viPage, 0x144, 4, 1, .rw, false, 0x1, 0x0, .imm, false⟩,  -- R197 VI_TIME_CTRL
   ⟨.viPage, 0x148, 4, 1, .ro, false, 0x0, 0x0, .imm, false⟩,  -- R197 VI_TIME_STATUS
   ⟨.block, 0xA0000, 4, 1, .rw, true, 0x3, 0x2, .epoch, true⟩,  -- R216 CH_CFG
   ⟨.block, 0xA0004, 4, 1, .rw, true, 0xFFFFFFFF, 0x16640A47, .epoch, true⟩,  -- R216 CH_USB_ID
   ⟨.block, 0xA0008, 4, 1, .rw, true, 0xFFFFFFFF, 0x16671660, .epoch, true⟩,  -- R216 CH_USB_ID2
   ⟨.block, 0xA0010, 4, 4, .rw, true, 0xFF, 0x0, .epoch, true⟩,  -- R216 SERVICE_CFG(c)
   ⟨.block, 0xA0020, 4, 1, .rw, true, 0x1E, 0x0, .imm, false⟩,  -- R216 SERVICE_GATE
   ⟨.block, 0xA0040, 4, 5, .ro, false, 0x0, 0x0, .imm, false⟩,  -- R216 CVI_STATUS(c)
   ⟨.block, 0xA0060, 4, 1, .ro, false, 0x0, 0x0, .imm, false⟩,  -- R216 FUNC_STATUS
   ⟨.block, 0xA0100, 4, 15, .ro, false, 0x0, 0x0, .imm, false⟩  -- R216 LIG_STATUS(n)
  ]

/-- Rows of the register map, part 4. -/
def regRows4 : List RegRow :=
  [
   ⟨.block, 0xA0140, 4, 15, .rc, true, 0x0, 0x0, .imm, false⟩,  -- R216 LIG_COUNT(n)
   ⟨.block, 0x60000, 4, 1, .rw, true, 0x77F, 0x419, .imm, true⟩,  -- R249 INK_CFG
   ⟨.block, 0x60008, 4, 1, .rw, true, 0x1, 0x0, .imm, false⟩,  -- R249 INK_FREEZE
   ⟨.block, 0x60010, 4, 1, .ro, false, 0x0, 0x0, .imm, false⟩,  -- R249 INK_STATUS
   ⟨.block, 0x60014, 4, 1, .ro, false, 0x0, 0x0, .imm, false⟩,  -- R249 INK_AVG_OCC
   ⟨.block, 0x60018, 4, 1, .rc, true, 0x0, 0x0, .imm, false⟩,  -- R249 INK_PEAK
   ⟨.block, 0x6001C, 4, 1, .rc, true, 0x0, 0x0, .imm, false⟩,  -- R249 INK_WAITS
   ⟨.block, 0x60020, 4, 1, .rc, true, 0x0, 0x0, .imm, false⟩,  -- R249 INK_CONFLICT
   ⟨.block, 0x60100, 4, 64, .rw, true, 0x1FFF1FFF, 0x100100, .imm, true⟩,  -- R249 INK_VI(v)
   ⟨.block, 0x60200, 4, 5, .rw, true, 0x1FFF1FFF, 0x400200, .imm, true⟩,  -- R249 INK_CVI(c)
   ⟨.block, 0x60300, 4, 64, .ro, false, 0x0, 0x0, .imm, false⟩,  -- R249 INK_VI_USE(v)
   ⟨.block, 0x60400, 4, 5, .ro, false, 0x0, 0x0, .imm, false⟩,  -- R249 INK_CVI_USE(c)
   ⟨.block, 0x50000, 4, 1, .rw, true, 0x1FFFF, 0x3E8, .imm, true⟩,  -- R263 MARGIN_CFG
   ⟨.block, 0x50004, 4, 1, .rw, true, 0x71FFF, 0x50001, .imm, true⟩,  -- R263 BC_IRQ_CFG
   ⟨.block, 0x50008, 4, 1, .w1p, true, 0x0, 0x0, .imm, false⟩,  -- R263 BC_IRQ_ACK
   ⟨.block, 0x5000C, 4, 1, .ro, true, 0x0, 0x0, .imm, false⟩,  -- R263 MARGIN_STATUS
   ⟨.block, 0x50010, 4, 1, .ro, true, 0x0, 0x0, .imm, false⟩,  -- R263 BC_COUNT_LO
   ⟨.block, 0x50014, 4, 1, .ro, true, 0x0, 0x0, .imm, false⟩,  -- R263 BC_COUNT_HI
   ⟨.block, 0x50018, 4, 1, .ro, true, 0x0, 0x0, .imm, false⟩,  -- R263 BC_TOTAL
   ⟨.block, 0x50020, 4, 1, .ro, true, 0x0, 0x0, .imm, false⟩,  -- R263 BC_HEAD_INFO
   ⟨.block, 0x50024, 4, 1, .ro, true, 0x0, 0x0, .imm, false⟩,  -- R263 BC_HEAD_LO
   ⟨.block, 0x50028, 4, 1, .ro, true, 0x0, 0x0, .imm, false⟩,  -- R263 BC_HEAD_HI
   ⟨.block, 0x5002C, 4, 1, .w1p, true, 0x0, 0x0, .imm, false⟩,  -- R263 BC_POP
   ⟨.block, 0x50030, 4, 1, .w1p, true, 0x0, 0x0, .imm, false⟩,  -- R263 BC_FLUSH
   ⟨.block, 0x50034, 4, 1, .rc, true, 0x0, 0x0, .imm, false⟩,  -- R263 BC_LOST
   ⟨.block, 0x50038, 4, 1, .rc, true, 0x0, 0x0, .imm, false⟩,  -- R263 MARGIN_ECC
   ⟨.block, 0x50100, 4, 64, .ro, true, 0x0, 0x0, .imm, false⟩,  -- R263 VI_Q_STATUS(v)
   ⟨.block, 0x50200, 4, 64, .rc, true, 0x0, 0x0, .imm, false⟩,  -- R263 VI_Q_LOST(v)
   ⟨.port, 0x4000, 4, 1, .rw, true, 0x1FFFFFF, 0x100644E, .pdi, true⟩,  -- R278 PORTn.PD_CFG
   ⟨.port, 0x4004, 4, 1, .ro, false, 0x0, 0x0, .imm, false⟩,  -- R278 PORTn.PD_STATUS
   ⟨.port, 0x4008, 4, 1, .ro, false, 0x0, 0x0, .imm, false⟩,  -- R278 PORTn.PD_RDO
   ⟨.port, 0x400C, 4, 1, .ro, false, 0x0, 0x0, .imm, false⟩,  -- R278 PORTn.PD_CONTRACT
   ⟨.port, 0x4010, 4, 1, .ro, false, 0x0, 0x0, .imm, false⟩,  -- R278 PORTn.PD_CABLE_VDO
   ⟨.port, 0x4014, 4, 1, .rc, true, 0x0, 0x0, .imm, false⟩,  -- R278 PORTn.PD_COUNT
   ⟨.port, 0x4018, 4, 1, .rc, true, 0x0, 0x0, .imm, false⟩,  -- R278 PORTn.PD_COUNT2
   ⟨.port, 0x401C, 4, 1, .w1p, true, 0x0, 0x0, .imm, false⟩,  -- R278 PORTn.PD_CTRL
   ⟨.port, 0x4020, 4, 11, .ro, false, 0x0, 0x0, .imm, false⟩,  -- R278 PORTn.PD_SRC_PDO(i)
   ⟨.port, 0xC000, 4, 1, .ro, false, 0x0, 0x0, .imm, false⟩,  -- R278 PORTn.CC_STATUS
   ⟨.port, 0xC004, 4, 1, .ro, false, 0x0, 0x0, .imm, false⟩,  -- R278 PORTn.VCONN_MEAS
   ⟨.port, 0xC008, 4, 1, .rc, true, 0x0, 0x0, .imm, false⟩  -- R278 PORTn.CC_FAULT_LOG
  ]

/-- Rows of the register map, part 5. -/
def regRows5 : List RegRow :=
  [
   ⟨.block, 0x20000, 4, 1, .rw, true, 0xFFF0FFF, 0x7800F0, .imm, true⟩,  -- R312 BUDGET_CFG
   ⟨.block, 0x20004, 4, 1, .ro, false, 0x0, 0x0, .imm, false⟩,  -- R312 BUDGET_STATUS
   ⟨.block, 0x20008, 4, 1, .ro, false, 0x0, 0x0, .imm, false⟩,  -- R312 SHED_STATUS
   ⟨.block, 0x2000C, 4, 1, .rw, true, 0xF, 0x0, .imm, true⟩,  -- R312 STAT_CFG
   ⟨.block, 0x20010, 4, 1, .rc, true, 0x0, 0x0, .imm, false⟩,  -- R312 POWER_EVENTS
   ⟨.block, 0x28000, 4, 1, .rw, true, 0xFFFFFFFF, 0xA3145064, .epoch, true⟩,  -- R312 IN_CFG
   ⟨.block, 0x28004, 4, 1, .rw, true, 0x3FFFFFF, 0xDC514A, .epoch, true⟩,  -- R312 IN_LEVELS
   ⟨.block, 0x28008, 4, 1, .rw, true, 0xFFFF, 0x1388, .epoch, true⟩,  -- R312 IN_FAST
   ⟨.block, 0x28010, 4, 1, .ro, false, 0x0, 0x0, .imm, false⟩,  -- R312 IN_STATUS
   ⟨.block, 0x28014, 4, 1, .ro, false, 0x0, 0x0, .imm, false⟩,  -- R312 IN_VOLTS
   ⟨.block, 0x28018, 4, 1, .ro, false, 0x0, 0x0, .imm, false⟩,  -- R312 IN_AMPS
   ⟨.block, 0x28020, 4, 1, .rw, true, 0xFFFFFFFF, 0x0, .epoch, true⟩,  -- R312 IN_CURVE(k)
   ⟨.block, 0x28024, 4, 1, .rw, true, 0xFFFFFFFF, 0x0, .epoch, true⟩,  -- R312 IN_CURVE(k)
   ⟨.block, 0x28028, 4, 1, .rw, true, 0xFFFFFFFF, 0x0, .epoch, true⟩,  -- R312 IN_CURVE(k)
   ⟨.block, 0x2802C, 4, 1, .rw, true, 0xFFFFFFFF, 0x0, .epoch, true⟩,  -- R312 IN_CURVE(k)
   ⟨.block, 0x28030, 4, 1, .rw, true, 0xFFFFFFFF, 0x0, .epoch, true⟩,  -- R312 IN_CURVE(k)
   ⟨.block, 0x28034, 4, 1, .rw, true, 0xFFFFFFFF, 0x0, .epoch, true⟩,  -- R312 IN_CURVE(k)
   ⟨.block, 0x28038, 4, 1, .rw, true, 0xFFFFFFFF, 0x0, .epoch, true⟩,  -- R312 IN_CURVE(k)
   ⟨.block, 0x2803C, 4, 1, .rw, true, 0xFFFFFFFF, 0x0, .epoch, true⟩,  -- R312 IN_CURVE(k)
   ⟨.block, 0x28040, 4, 1, .w1p, true, 0x0, 0x0, .imm, false⟩,  -- R312 IN_CTRL
   ⟨.port, 0x800, 4, 1, .rw, true, 0xFFFF01FF, 0xA0000C8, .imm, true⟩,  -- R319 PORTn.POWER_CFG
   ⟨.port, 0x804, 4, 1, .rw, true, 0x1FFFFFF7, 0xD6B460, .imm, true⟩,  -- R319 PORTn.THERM_CFG
   ⟨.port, 0x808, 4, 1, .rw, true, 0xFFFFFFFF, 0x25864050, .imm, true⟩,  -- R319 PORTn.THERM_MODEL
   ⟨.port, 0x80C, 4, 1, .rw, true, 0xFFFFFF, 0x809664, .imm, true⟩,  -- R319 PORTn.THERM_LIMITS
   ⟨.port, 0x810, 4, 1, .ro, false, 0x0, 0x0, .imm, false⟩,  -- R319 PORTn.POWER_STATUS
   ⟨.port, 0x814, 4, 1, .ro, false, 0x0, 0x0, .imm, false⟩,  -- R319 PORTn.FET_TEMP
   ⟨.port, 0x818, 4, 1, .rc, true, 0x0, 0x0, .imm, false⟩,  -- R319 PORTn.POWER_COUNT
   ⟨.port, 0x8000, 4, 1, .rw, true, 0x1FFFF, 0x1A432, .epoch, true⟩,  -- R320 PORTn.FUSE_CFG
   ⟨.port, 0x8004, 4, 1, .rw, true, 0xFFFF, 0x3E8, .epoch, true⟩,  -- R320 PORTn.FUSE_FAST
   ⟨.port, 0x8010, 4, 1, .ro, false, 0x0, 0x0, .imm, false⟩,  -- R320 PORTn.FUSE_STATUS
   ⟨.port, 0x8014, 4, 1, .ro, false, 0x0, 0x0, .imm, false⟩,  -- R320 PORTn.PATH_VOLTS
   ⟨.port, 0x8018, 4, 1, .ro, false, 0x0, 0x0, .imm, false⟩,  -- R320 PORTn.PATH_AMPS
   ⟨.port, 0x801C, 4, 1, .ro, false, 0x0, 0x0, .imm, false⟩,  -- R320 PORTn.FUSE_ACC
   ⟨.port, 0x8020, 4, 1, .rw, true, 0xFFFFFFFF, 0xAF420140, .epoch, true⟩,  -- R320 PORTn.FUSE_CURVE0–FUSE_CURVE7
   ⟨.port, 0x8024, 4, 1, .rw, true, 0xFFFFFFFF, 0x8F420180, .epoch, true⟩,  -- R320 PORTn.FUSE_CURVE0–FUSE_CURVE7
   ⟨.port, 0x8028, 4, 1, .rw, true, 0xFFFFFFFF, 0x5C350200, .epoch, true⟩,  -- R320 PORTn.FUSE_CURVE0–FUSE_CURVE7
   ⟨.port, 0x802C, 4, 1, .rw, true, 0xFFFFFFFF, 0x29C40300, .epoch, true⟩,  -- R320 PORTn.FUSE_CURVE0–FUSE_CURVE7
   ⟨.port, 0x8030, 4, 1, .rw, true, 0xFFFFFFFF, 0x0, .epoch, true⟩,  -- R320 PORTn.FUSE_CURVE0–FUSE_CURVE7
   ⟨.port, 0x8034, 4, 1, .rw, true, 0xFFFFFFFF, 0x0, .epoch, true⟩,  -- R320 PORTn.FUSE_CURVE0–FUSE_CURVE7
   ⟨.port, 0x8038, 4, 1, .rw, true, 0xFFFFFFFF, 0x0, .epoch, true⟩  -- R320 PORTn.FUSE_CURVE0–FUSE_CURVE7
  ]

/-- Rows of the register map, part 6. -/
def regRows6 : List RegRow :=
  [
   ⟨.port, 0x803C, 4, 1, .rw, true, 0xFFFFFFFF, 0x0, .epoch, true⟩,  -- R320 PORTn.FUSE_CURVE0–FUSE_CURVE7
   ⟨.port, 0x8040, 4, 1, .w1p, true, 0x0, 0x0, .imm, false⟩,  -- R320 PORTn.FUSE_CTRL
   ⟨.port, 0x8044, 4, 1, .ro, false, 0x0, 0x0, .imm, false⟩,  -- R320 PORTn.VSET_STATUS
   ⟨.block, 0x800, 4, 1, .rw, true, 0xFF, 0x64, .imm, true⟩,  -- R348 STROKE_DISC_CFG
   ⟨.block, 0x804, 4, 1, .ro, false, 0x0, 0x0, .imm, false⟩,  -- R348 STROKE_DISC_STATUS
   ⟨.block, 0x808, 4, 1, .ro, false, 0x0, 0x0, .imm, false⟩,  -- R348 STROKE_OFFSET
   ⟨.block, 0x80C, 4, 1, .rw, true, 0x1, 0x0, .imm, false⟩,  -- R348 STROKE_FREEZE
   ⟨.block, 0x810, 4, 1, .w1p, true, 0x0, 0x0, .imm, false⟩,  -- R348 TIME_SAMPLE
   ⟨.block, 0x814, 4, 1, .ro, true, 0x0, 0x0, .imm, false⟩,  -- R348 SAMPLE_STROKE_LO
   ⟨.block, 0x818, 4, 1, .ro, true, 0x0, 0x0, .imm, false⟩,  -- R348 SAMPLE_STROKE_HI
   ⟨.block, 0x81C, 4, 1, .ro, true, 0x0, 0x0, .imm, false⟩,  -- R348 SAMPLE_PTP_SEC_LO
   ⟨.block, 0x820, 4, 1, .ro, true, 0x0, 0x0, .imm, false⟩,  -- R348 SAMPLE_PTP_SEC_HI
   ⟨.block, 0x824, 4, 1, .ro, true, 0x0, 0x0, .imm, false⟩,  -- R348 SAMPLE_PTP_NS
   ⟨.block, 0x30000, 8, 24, .rw, true, 0x7F3F, 0x300C, .imm, true⟩,  -- R356 CL_CFG(c)
   ⟨.block, 0x30004, 8, 24, .ro, false, 0x0, 0x0, .imm, false⟩,  -- R356 CL_STATUS(c)
   ⟨.block, 0x30100, 4, 96, .ro, false, 0x0, 0x0, .imm, false⟩,  -- R356 ENG_FREQ(e)
   ⟨.block, 0x30300, 4, 1, .rw, true, 0xFFFFFF, 0x0, .imm, false⟩,  -- R356 DVFS_FREEZE
   ⟨.block, 0x30304, 4, 1, .rc, true, 0x0, 0x0, .imm, false⟩,  -- R356 DVFS_EVENTS
   ⟨.block, 0x30310, 4, 5, .ro, false, 0x0, 0x0, .imm, false⟩,  -- R356 REGION_TEMP(q)
   ⟨.block, 0x30400, 8, 23, .ro, false, 0x0, 0x0, .imm, false⟩,  -- R361 EQ_STATUS(l)
   ⟨.block, 0x30404, 8, 23, .ro, false, 0x0, 0x0, .imm, false⟩,  -- R361 EQ_TAPS(l)
   ⟨.block, 0x30500, 4, 1, .rw, true, 0x7FFFFF, 0x0, .imm, false⟩,  -- R361 EQ_FREEZE
   ⟨.block, 0x30504, 4, 1, .rw, true, 0xF0F, 0x804, .imm, true⟩,  -- R361 EQ_CFG
   ⟨.block, 0x40000, 4, 1, .rw, true, 0x7F1FFF, 0x81258, .imm, true⟩,  -- R379 PAL_CFG
   ⟨.block, 0x40004, 4, 1, .rw, true, 0xFFFFFF, 0x3E808, .imm, true⟩,  -- R379 PAL_RATE
   ⟨.block, 0x40008, 4, 1, .ro, true, 0x0, 0x0, .imm, false⟩,  -- R379 PAL_NOR_BASE
   ⟨.block, 0x4000C, 4, 1, .ro, true, 0x0, 0x0, .imm, false⟩,  -- R379 PAL_NOR_SIZE
   ⟨.block, 0x40010, 4, 1, .w1p, true, 0x0, 0x0, .imm, false⟩,  -- R379 PAL_CTRL
   ⟨.block, 0x40014, 4, 1, .ro, true, 0x0, 0x0, .imm, false⟩,  -- R379 PAL_STATUS
   ⟨.block, 0x40018, 4, 1, .ro, true, 0x0, 0x0, .imm, false⟩,  -- R379 PAL_NEXT_SEQ
   ⟨.block, 0x4001C, 4, 1, .ro, true, 0x0, 0x0, .imm, false⟩,  -- R379 PAL_COMMITTED_SEQ
   ⟨.block, 0x40020, 4, 1, .ro, true, 0x0, 0x0, .imm, false⟩,  -- R379 PAL_OLDEST_HIGH
   ⟨.block, 0x40024, 4, 1, .ro, true, 0x0, 0x0, .imm, false⟩,  -- R379 PAL_OLDEST_LOW
   ⟨.block, 0x40028, 4, 1, .rc, true, 0x0, 0x0, .imm, false⟩,  -- R379 PAL_LOSS
   ⟨.block, 0x4002C, 4, 1, .rc, true, 0x0, 0x0, .imm, false⟩,  -- R379 PAL_SUPPRESSED
   ⟨.block, 0x40030, 4, 1, .rc, true, 0x0, 0x0, .imm, false⟩,  -- R379 PAL_NOR_ERRORS
   ⟨.block, 0x40044, 4, 1, .rw, true, 0xFFFFFFFF, 0xC8000000, .imm, true⟩,  -- R379 PAL_HIST(Q)
   ⟨.block, 0x40048, 4, 1, .rw, true, 0xFFFFFFFF, 0x3A98FC18, .imm, true⟩,  -- R379 PAL_HIST(Q)
   ⟨.block, 0x4004C, 4, 1, .rw, true, 0xFFFFFFFF, 0xC80FD80, .imm, true⟩,  -- R379 PAL_HIST(Q)
   ⟨.block, 0x40050, 4, 1, .rw, true, 0xFFFFFFFF, 0x1F400000, .imm, true⟩  -- R379 PAL_HIST(Q)
  ]

/-- Rows of the register map, part 7. -/
def regRows7 : List RegRow :=
  [
   ⟨.block, 0x40054, 4, 1, .rw, true, 0xFFFFFFFF, 0x1F400000, .imm, true⟩,  -- R379 PAL_HIST(Q)
   ⟨.block, 0x40058, 4, 1, .rw, true, 0xFFFFFFFF, 0x15E0FCE0, .imm, true⟩,  -- R379 PAL_HIST(Q)
   ⟨.block, 0x4005C, 4, 1, .rw, true, 0xFFFFFFFF, 0xC80FD80, .imm, true⟩,  -- R379 PAL_HIST(Q)
   ⟨.block, 0x40100, 4, 1, .rw, true, 0xFFFFFFFF, 0x0, .imm, false⟩,  -- R379 PAL_READ_SEQ
   ⟨.block, 0x40104, 4, 1, .w1p, true, 0x0, 0x0, .imm, false⟩,  -- R379 PAL_READ_CTRL
   ⟨.block, 0x40108, 4, 1, .ro, true, 0x0, 0x0, .imm, false⟩,  -- R379 PAL_READ_STATUS
   ⟨.block, 0x40110, 4, 1, .rw, true, 0x1FFF, 0x0, .imm, false⟩,  -- R379 PAL_VERIFY_SEL
   ⟨.block, 0x40114, 4, 1, .ro, true, 0x0, 0x0, .imm, false⟩,  -- R379 PAL_VERIFY_RESULT
   ⟨.block, 0x48000, 4, 128, .ro, true, 0x0, 0x0, .imm, false⟩,  -- R379 PAL_WINDOW
   ⟨.block, 0x1000, 4, 1, .w1p, true, 0x0, 0x0, .imm, false⟩,  -- R382 MODE_CTRL
   ⟨.block, 0x1004, 4, 1, .rw, true, 0xFFFF0001, 0x10000, .imm, true⟩,  -- R382 MODE_CFG
   ⟨.block, 0x1008, 4, 1, .ro, false, 0x0, 0x0, .imm, false⟩,  -- R382 MODE_STATUS
   ⟨.block, 0x100C, 4, 1, .ro, false, 0x0, 0x0, .imm, false⟩,  -- R382 BOOT_STATUS
   ⟨.block, 0x1010, 4, 1, .ro, false, 0x0, 0x0, .imm, false⟩,  -- R382 HOLDUP_REQ
   ⟨.block, 0x1014, 4, 1, .rc, true, 0x0, 0x0, .imm, false⟩,  -- R382 MODE_COUNT
   ⟨.block, 0x1020, 4, 1, .w1p, true, 0x0, 0x0, .imm, false⟩,  -- R382 IMG_CTRL
   ⟨.block, 0x1024, 4, 1, .rw, true, 0xFFFFFFFF, 0x0, .imm, false⟩,  -- R382 IMG_DATA
   ⟨.block, 0x1028, 4, 1, .ro, false, 0x0, 0x0, .imm, false⟩,  -- R382 IMG_STATUS
   ⟨.block, 0x2000, 4, 1, .ro, false, 0x0, 0x0, .imm, false⟩,  -- R404 BLOT_FAULT_LO
   ⟨.block, 0x2004, 4, 1, .ro, false, 0x0, 0x0, .imm, false⟩,  -- R404 BLOT_FAULT_HI
   ⟨.block, 0x2008, 4, 1, .rw, true, 0xFFFF, 0x10, .imm, true⟩,  -- R404 BLOT_ECC_CFG
   ⟨.block, 0x2010, 4, 8, .rc, true, 0x0, 0x0, .imm, false⟩,  -- R404 ECC_COUNT(b)
   ⟨.block, 0x2030, 4, 1, .rc, true, 0x0, 0x0, .imm, false⟩,  -- R404 WDOG_COUNT
   ⟨.block, 0x2034, 4, 1, .ro, false, 0x0, 0x0, .imm, false⟩,  -- R404 CLUSTER_FAILED
   ⟨.block, 0x2038, 4, 1, .ro, false, 0x0, 0x0, .imm, false⟩,  -- R404 QUAR_STATUS
   ⟨.block, 0x203C, 4, 1, .w1p, true, 0x0, 0x0, .imm, false⟩,  -- R404 QUAR_CTRL
   ⟨.block, 0x10000, 4, 1, .ro, false, 0x0, 0x0, .imm, false⟩,  -- R416 SEAL_STATUS
   ⟨.block, 0x10004, 4, 1, .ro, false, 0x0, 0x0, .imm, false⟩,  -- R416 SEAL_SVN
   ⟨.block, 0x10008, 4, 1, .w1p, true, 0x0, 0x0, .imm, false⟩,  -- R416 SEAL_CTRL
   ⟨.block, 0x10010, 4, 1, .w1p, true, 0x0, 0x0, .imm, false⟩,  -- R416 SEAL_KEY_CTRL
   ⟨.block, 0x10014, 4, 1, .ro, false, 0x0, 0x0, .imm, false⟩,  -- R416 SEAL_KEY_RESULT
   ⟨.block, 0x10020, 4, 8, .rw, true, 0xFFFFFFFF, 0x0, .imm, false⟩,  -- R416 SEAL_KEY_DATA(i)
   ⟨.block, 0x10100, 4, 64, .ro, false, 0x0, 0x0, .imm, false⟩  -- R416 SEAL_KEY_STATUS(v)
  ]

/-- The whole register map. -/
def regRows : List RegRow := regRows1 ++ regRows2 ++ regRows3 ++ regRows4 ++ regRows5 ++ regRows6 ++ regRows7

/-- The base of port n's block (R34). -/
def portBase (n : Nat) : Nat := 0x100000 + n * 0x10000

/-- The base of ring VI v's page (R34). -/
def viBase (v : Nat) : Nat := 0x200000 + v * 0x1000

/-- Split an address into its space, its index (port or VI) and the offset a row of that space counts from. -/
def splitAddr (a : Nat) : RegSpace × Nat × Nat :=
  if a < 0x100000 then (.block, 0, a)
  else if a < 0x200000 then (.port, (a - 0x100000) / 0x10000, a % 0x10000)
  else if a < 0x240000 then (.viPage, (a - 0x200000) / 0x1000, a % 0x1000)
  else (.block, 0, a)

/-- Whether a row covers the offset. -/
def RegRow.covers (r : RegRow) (sp : RegSpace) (off : Nat) : Bool :=
  r.space == sp && r.base ≤ off && (off - r.base) % r.stride == 0 && (off - r.base) / r.stride < r.count

/-- Offsets reserved in UP's port block: ownership, Nib and Ductus registers (R64, R160, R194). -/
def upReserved (a : Nat) : Bool := decide (0x100200 ≤ a) && decide (a < 0x100800)

/-- The row of an address; none for a reserved or unimplemented one (R6). -/
def findRow (a : Nat) : Option RegRow :=
  let k := splitAddr a
  if upReserved a then none else regRows.find? (fun r => r.covers k.1 k.2.2)

/-- What a register that nothing has changed reads as: its row's value, and zero at a reserved address (R5, R6). -/
def mapReset (a : Nat) : Word :=
  match findRow a with
  | some r => r.dflt
  | none => 0

/-- Every address of one row of the map, in ascending order within the row. -/
def RegRow.addrs (r : RegRow) : List Nat :=
  let offs := (List.range r.count).map (fun i => r.base + r.stride * i)
  match r.space with
  | .block => offs
  | .port => (List.range 16).flatMap (fun n => offs.map (fun o => portBase n + o))
  | .viPage => (List.range 64).flatMap (fun v => offs.map (fun o => viBase v + o))

end Sys2Proof.Machine
end

