-- ==== Sys2Proof/Machine/Types.lean ====
section
/-! DEFINITION. The structures State is made of, block by block, each field with the rule that names it. Plain data throughout. -/

namespace Sys2Proof.Machine

/-- The PD messages the device sends (R292, R293, R301, R305, R307), on SOP unless the name says otherwise. -/
inductive PdMsg where
  | sourceCaps (objs : List Word)
  | eprSourceCaps (objs : List Word)
  | accept
  | reject
  | psRdy
  | softReset
  | hardReset
  | alert (ado : Word)
  | drSwap
  | notSupported
  | status (powerStatus : Nat)
  | ppsStatus (mv : Nat) (ma : Int)
  | sourceInfo (maxPdp presentPdp reportedPdp : Nat)
  | revision (rmdo : Word)
  | sourceCapsExt (vid pid : Nat) (fw : Word) (hw sprPdp eprPdp : Nat)
  | manufacturerInfo (vid pid : Nat)
  | eprMode (action reason : Nat)
  | eprKeepAliveAck
  | vdmAck (vdos : List Word)
  | vdmNak
  | discoverIdentityCable
  | wait
  | goodCrc
  deriving DecidableEq, Repr

/-! ### Set-up space -/

/-- A sparse register store: (address, value) pairs, addresses rising, none equal to the map's own value (R46). -/
abbrev RegFile := List (Nat × Word)

/-- A buffered write waiting for its boundary (R7, R8): its register, its value, the tick it was accepted in and the tick its block took it in. -/
structure PendWrite where
  addr : Nat
  value : Word
  accepted : Nat
  taken : Nat
  deriving DecidableEq, Repr

/-- One privileged path's copy of every RC register (R6): what a read returns, and what has been stamped in the current tick and counts towards the next read (R48). -/
structure RcCopy where
  settled : RegFile
  fresh : RegFile
  deriving DecidableEq, Repr

/-- A latched high word (R49): the path, the address of the high word, the value. -/
structure PairLatch where
  path : Path
  addr : Nat
  value : Word
  deriving DecidableEq, Repr

/-- A staged EPOCH write (R58). -/
structure StagedWrite where
  addr : Nat
  value : Word
  tick : Nat
  deriving DecidableEq, Repr

/-- The Rubric unit (R56–R60). -/
structure Rubric where
  epoch : Word
  busy : Bool
  dirty : Bool
  lastResult : Nat
  digest : DWord
  commitStroke : Nat
  domainCrc : Vector DWord 27
  committedCrc : Vector DWord 27
  /-- The tick T of the commit in progress, in model time (R58). -/
  commitTick : Nat
  /-- Values of class V registers that the commit in progress has still to apply (R58). -/
  classV : List StagedWrite
  /-- The path that wrote the commit, for its record (R372 0x0109). -/
  committer : Path
  /-- Domains whose applied values the commit in progress did not move but another write did (R60). -/
  foreign : List Nat
  deriving DecidableEq, Repr

/-! ### The die-to-die link and Reservoir's buffer -/

/-- The die-to-die link as Folio and Reservoir see it (R17, R18). -/
inductive LinkPhase where
  | notYetUp
  | up
  | lost
  deriving DecidableEq, Repr

/-- The link's state: its phase, when the loss was declared, and whether the 50 ms hold still runs (R18). -/
structure Link where
  phase : LinkPhase
  lostAt : Nat
  holding : Bool
  lastFrame : Nat
  deriving DecidableEq, Repr

/-- An event Reservoir stamped in local time before the link came up (R17). -/
structure LocalEvent where
  stamp : Nat
  code : Nat
  sev : Sev
  port : PortId
  location : Nat
  level : Nat
  params : List Word
  deriving DecidableEq, Repr

/-! ### Palimpsest -/

/-- A record in RAM (R368): whether it is committed, and whether step 2 of R375 has begun for it. -/
structure RamRec where
  record : Rec
  persisted : Bool
  started : Bool
  deriving DecidableEq, Repr

/-- A rate bucket of a (CODE, PORT) key that is not full or holds a suppressed count (R370). -/
structure Bucket where
  code : Nat
  port : PortId
  sev : Sev
  tokens : Nat
  nextGain : Nat
  suppressed : Nat
  first : Nat
  last : Nat
  deriving DecidableEq, Repr

/-- The running extremes of one channel of an electrical summary (R371). -/
structure SumAcc where
  channel : Nat
  quantity : Nat
  started : Nat
  taken : Bool
  min : Int
  max : Int
  total : Int
  samples : Nat
  minAt : Nat
  maxAt : Nat
  bins : List Nat
  deriving DecidableEq, Repr

/-- The readout window and its status (R379, R380). -/
structure Readout where
  loading : Bool
  ready : Bool
  found : Bool
  fromNor : Bool
  uncommitted : Bool
  crcOk : Bool
  chainOk : Bool
  length : Nat
  window : List DWord
  verifying : Bool
  verifyDone : Bool
  verifyPass : Bool
  verifyNotClosed : Bool
  verifySector : Nat
  deriving DecidableEq, Repr

/-- The recorder: RAM, sequence, buckets, store (R364–R380). -/
structure Pal where
  ram : List RamRec
  nextSeq : Nat
  /-- Highest SEQ committed; none on a blank store. -/
  committedSeq : Option Nat
  buckets : List Bucket
  /-- Records displaced since the last loss summary, by severity code (R368). -/
  losses : List Nat
  frozen : Bool
  flushing : Bool
  full : Bool
  norFail : Bool
  scanDone : Bool
  returnLock : Bool
  /-- Whether a 0x0002 marker of the flush in progress exists already (R378). -/
  flushMarked : Bool
  high : List Sector
  low : List Sector
  /-- Sector index being erased, and whether the erase is suspended (R375). -/
  erasing : Option Nat
  eraseSuspended : Bool
  sums : List SumAcc
  sumDue : Nat
  /-- The tick of the last flush marker's ASSIGNED value, kept for the next Boot (R367). -/
  assigned : Option Nat
  readout : Readout
  gapScanning : Bool
  deriving DecidableEq, Repr

/-! ### Margin -/

/-- A notice (R262): its header fields and its later words; words already popped of an open notice. -/
structure Notice where
  type : Nat
  prio : Sev
  port : PortId
  subject : Owner
  stroke : Nat
  body : List DWord
  deriving DecidableEq, Repr

/-- One Margin queue (R261): its notices in entry order, and the losses the next heartbeat reports (R276). -/
structure NoticeQueue where
  notices : List Notice
  lostSinceHb : Nat
  deriving DecidableEq, Repr

/-- Margin: 65 queues, the open notice of the board queue, the interrupt (R261–R276). Queue 64 is the board's. -/
structure Margin where
  queues : Vector NoticeQueue 65
  /-- The board queue's open notice, if any, and the index of its head word (R268, R269). -/
  opened : Option Notice
  wordIndex : Nat
  aborted : Bool
  irqPending : Bool
  irqArmed : Bool
  lineHeld : Bool
  hbDue : Nat
  deriving DecidableEq, Repr

/-! ### Stroke time and the adaptive loops -/

/-- The discipline states (R351). -/
inductive DiscState where
  | freeRun
  | acquiring
  | locked
  | holdover
  deriving DecidableEq, Repr

/-- The Stroke discipline (R348–R352). Rates are in units of 0.01 ppm; times in ns. -/
structure Disc where
  state : DiscState
  corr : Int
  freq : Rat
  offset : Int
  anchorPtp : Int
  anchorStroke : Nat
  lastSync : Nat
  firstDone : Bool
  goodRun : Nat
  badRun : Nat
  sampleStroke : Nat
  sampleSec : Nat
  sampleNs : Nat
  sampleValid : Bool
  deriving DecidableEq, Repr

/-- One cluster's loop (R357–R360): voltage in 5 mV units, slack in percent, temperature in °C. -/
structure Cluster where
  volt : Nat
  slack : Nat
  temp : Int
  capped : Bool
  heldMin : Bool
  failed : Bool
  /-- Stroke ticks of the engine restarts of the last 600 s (R408). -/
  restarts : List Nat
  deriving DecidableEq, Repr

/-- One engine: its frequency and the one its work requires, in 25 MHz units, and whether it is restarting (R356, R407). -/
structure Engine where
  freq : Nat
  required : Nat
  restarting : Bool
  deriving DecidableEq, Repr

/-- One receive lane's equaliser (R361, R362). -/
structure EqLane where
  ctle : Nat
  baseCtle : Nat
  taps : Vector Int 4
  baseTaps : Vector Int 4
  adapting : Bool
  eyeHeight : Nat
  eyeWidth : Nat
  lastStep : Nat
  deriving DecidableEq, Repr

/-! ### Modes and images -/

/-- The image write in progress (R395). -/
structure ImgWrite where
  opened : Bool
  busy : Bool
  cfg : Bool
  slotB : Bool
  result : Nat
  words : List Word
  /-- IMG_DATA writes that wait for the erase (R395 step 1). -/
  waiting : List Word
  deriving DecidableEq, Repr

/-- The mode unit (R382–R400). -/
structure Modes where
  mode : Mode
  prev : Mode
  lastReq : Nat
  parked : Bool
  warm : Bool
  defaults : Bool
  fwSlotB : Bool
  cfgSlotB : Bool
  fwFallback : Bool
  cfgFallback : Bool
  dirCopy1 : Bool
  uncommitted : Bool
  hold : Nat
  bootMs : Nat
  bootStart : Nat
  /-- The engines run and the configuration is applied: steps 4–7 of R390 are done. -/
  booted : Bool
  tpp : Nat
  tbp : Nat
  beforeBrownout : Mode
  beforeSuspend : Mode
  beforeQuarantine : Mode
  suspending : Bool
  standingBy : Bool
  /-- Ports whose trees the device suspended itself, to be resumed at the end of Suspend (R398). -/
  selfSuspended : Nat
  /-- The tick of the last wake source, with which a request of the same tick is abandoned (R386). -/
  wokenAt : Option Nat
  deriving DecidableEq, Repr

/-! ### Blotter and Seal -/

/-- A fault latched in Reservoir while Folio is in Standby (R410). -/
inductive HeldFault where
  | portFet (n : PortId)
  | inputFet (check : Word)
  | heat
  deriving DecidableEq, Repr

/-- Blotter (R402–R412). -/
structure Blotter where
  faultLoc : Nat
  faultLevel : Nat
  faultClass : Nat
  faultValid : Bool
  /-- Corrected errors of each block in its current window, and whether class 1 was reported in it (R405). -/
  window : Vector Nat 8
  reported : Vector Bool 8
  windowEnd : Nat
  /-- Bit n: port n quarantined (R404). -/
  portMask : Nat
  inputQ : Bool
  hosts : Bool
  classic : Bool
  causeFet : Bool
  causeLink : Bool
  causeTemp : Bool
  causeCluster : Bool
  /-- Bit q: Folio region q is the source of the temperature cause; bit 4: Reservoir (R409). -/
  hotMask : Nat
  descriptorsReloading : Bool
  /-- VIs whose key is being reloaded (R406). -/
  keysReloading : List Nat
  /-- Faults that Reservoir latched in Standby, to be recorded and to take effect when the warm Boot that ends it ends (R410). -/
  held : List HeldFault
  deriving DecidableEq, Repr

/-- A key-store operation in progress (R416, R417). -/
inductive KeyOp where
  | load (v : RingId) (key : List Word)
  | withdraw (v : RingId)
  deriving DecidableEq, Repr

/-- Seal: fuses, keys and the Return gate (R414–R421). -/
structure Seal where
  uniqueId : DWord
  floor : Nat
  returnCount : Nat
  ownerKey : Option (List Word)
  svn : Nat
  fwSet : Word
  fwBuild : Word
  armed : Bool
  armedAt : Nat
  keys : Vector (Option (List Word)) 64
  keyData : Vector Word 8
  keyOp : Option KeyOp
  keyResult : Nat
  keyGeneration : Nat
  /-- The outstanding nonce and the tick it was issued in (R420). -/
  nonce : Option (List Word)
  nonceAt : Nat
  gateStalled : Bool
  /-- An authorisation under verification: whether it carries the outstanding nonce, its UNIQUE_ID, its SCOPE (R420). -/
  auth : Option (Bool × DWord × Nat)
  deriving DecidableEq, Repr

/-! ### The power paths -/

/-- The input path's states (R313, R315). -/
inductive InState where
  | off
  | seating
  | inrush
  | on
  | lost
  | retryWait
  | latched
  deriving DecidableEq, Repr

/-- A run of the pass-device checks for CLEAR_FET_FAIL (R332). -/
inductive FetClear where
  | idle
  | waiting (since : Nat)
  | checking (since : Nat)
  deriving DecidableEq, Repr

/-- The card input (R312–R318). Voltages and currents are in 10 mV and 10 mA units. -/
structure InputPath where
  state : InState
  since : Nat
  seatA : Bool
  seatB : Bool
  pg : Bool
  ew : Bool
  pfw : Bool
  fetFail : Bool
  retries : Nat
  lossCause : Nat
  vinPre : Nat
  vout : Nat
  amps : Int
  mid : Nat
  acc : Nat
  gateOn : Bool
  curveBad : Bool
  clear : FetClear
  deriving DecidableEq, Repr

/-- FUSE_STATUS.PATH (R321). -/
inductive PathPhase where
  | off
  | switching
  | on
  | tripped
  | fetFault
  | held
  deriving DecidableEq, Repr

/-- The steps of a switch-on (R323). -/
inductive SwitchStep where
  | idle
  | converter
  | checks
  | ramp
  deriving DecidableEq, Repr

/-- A port's power path and its Ferrule policy (R319–R337). -/
structure PortPower where
  phase : PathPhase
  step : SwitchStep
  gateOn : Bool
  curveBad : Bool
  band : Nat
  vbusMv : Nat
  ispMv : Nat
  midMv : Nat
  ampsMa : Int
  acc : Nat
  /-- Consecutive 1 µs samples below −500 mA (R326). -/
  revRun : Nat
  vset : Nat
  /-- The code of the target voltage, before trim and current limit. -/
  nominal : Nat
  enable : Bool
  discharge : Bool
  /-- The gate was pulled off with 1.0 A or more (R324). -/
  hardOff : Bool
  retries : Nat
  latched : Bool
  shed : Bool
  /-- VBUS was switched off by shed, hard-shed or VAUX, to be restored under R337. -/
  shedOff : Bool
  retryDue : Option Nat
  lastCause : Nat
  fetFail : Bool
  sensorFault : Bool
  gateStart : Nat
  onSince : Nat
  offSince : Nat
  /-- The share in force, in half watts, and the share allocated, of which an increase may wait (R336, R337). -/
  share : Nat
  shareWanted : Nat
  temp : Int
  rise : Rat
  derate : Nat
  deratePending : Nat
  clear : FetClear
  deriving DecidableEq, Repr

/-! ### Type-C and Power Delivery -/

/-- The policy states of R287. -/
inductive PdState where
  | disabled
  | unattached
  | attachWait
  | accessory
  | startup
  | sendCaps
  | implicit
  | negotiate
  | transition
  | ready
  | hardReset
  | errorRecovery
  | powerOff
  | ccFault
  | debugUp
  deriving DecidableEq, Repr

/-- The STATE code of PD_STATUS (R280, R287). -/
def PdState.code : PdState → Nat
  | .disabled => 0
  | .unattached => 1
  | .attachWait => 2
  | .accessory => 3
  | .startup => 4
  | .sendCaps => 5
  | .implicit => 6
  | .negotiate => 7
  | .transition => 8
  | .ready => 9
  | .hardReset => 10
  | .errorRecovery => 11
  | .powerOff => 12
  | .ccFault => 13
  | .debugUp => 14

/-- The PD contract in force (R280): none or implicit, or one of the three kinds, with its voltage in mV and its current in 10 mA. -/
structure Contract where
  kind : Nat
  mv : Nat
  ma10 : Nat
  rdo : Word
  /-- The object it was requested from, and its position (R299, R301). -/
  pdo : Word
  pos : Nat
  deriving DecidableEq, Repr

/-- No explicit contract. -/
def Contract.none : Contract := { kind := 0, mv := 0, ma10 := 0, rdo := 0, pdo := 0, pos := 0 }

/-- What follows the GoodCRC of the message the device has sent (R287, R289). -/
inductive PdThen where
  | nothing
  /-- The capabilities: NEGOTIATE. -/
  | negotiate
  /-- The Accept of a request: the 30 ms of R300. -/
  | transition
  /-- The Reject of a request whose contract is no longer offered: Hard Reset. -/
  | hardReset
  /-- The Accept of a Soft_Reset: the capabilities. -/
  | caps
  /-- A Soft_Reset: its Accept is awaited. -/
  | softWait
  /-- EPR_Mode (Enter Acknowledged): the decision. -/
  | eprDecide
  /-- An Alert: the port's shed action may proceed. -/
  | alert
  /-- A DR_Swap: its answer is awaited. -/
  | swap
  deriving DecidableEq, Repr

/-- Where a hard reset stands (R307). -/
inductive HrPhase where
  | idle
  | waitOff
  | waitSafe0
  | recover
  deriving DecidableEq, Repr

/-- Where the Alert of an early warning stands on a port (R305): `waiting` and `sent` hold the port's shed back, `due` is to be sent with no shed waiting for it. -/
inductive AlertPhase where
  | none
  | due
  | waiting
  | sent
  | ended
  deriving DecidableEq, Repr

/-- A port's Type-C and PD state (R278–R309). -/
structure PortPd where
  state : PdState
  orient : Bool
  raSeen : Bool
  partner : Nat
  cable : Nat
  eprMode : Bool
  contract : Contract
  ufp : Bool
  rev2 : Bool
  /-- The objects of the capabilities last sent, by position from 1 (R278, R297). -/
  sent : List Word
  pdp : Nat
  /-- Capabilities are to be rebuilt and sent at the next PDI (R303). -/
  capsPending : Bool
  /-- They are to be sent whether or not they differ (R303). -/
  capsForced : Bool
  sendings : Nat
  /-- The message the device has sent and whose GoodCRC is awaited, and how often it was sent (R289). -/
  awaiting : Option PdMsg
  tries : Nat
  thenDo : PdThen
  /-- The same on SOP' (R294). -/
  awaitP : Option PdMsg
  triesP : Nat
  msgIdTx : Nat
  msgIdRx : Option Nat
  msgIdTxP : Nat
  msgIdRxP : Option Nat
  hardResets : Nat
  msgSeen : Bool
  explicitSince : Bool
  /-- The request accepted, its transition's start once begun, and the contract it leads to (R299, R300). -/
  next : Option Contract
  acceptAcked : Nat
  transitionStart : Option Nat
  rpNow : Nat
  /-- Rp is at SinkTxNG since this tick (R291). -/
  sinkTxNg : Option Nat
  /-- Capabilities, and before them an EPR_Mode (Exit), that the device is to send of its own accord (R291, R301, R303). -/
  capsReady : Bool
  exitDue : Bool
  /-- The capabilities in SEND_CAPS are EPR_Source_Capabilities, and when they were last sent, or the Reject before them (R284, R287). -/
  capsEpr : Bool
  capsAt : Nat
  /-- A Soft_Reset of the device's own waits for its Accept since this tick (R307). -/
  softAt : Option Nat
  /-- Enter Acknowledged has gone out and the decision is open (R301). -/
  eprAt : Option Nat
  /-- The device's DR_Swap on UP (R238): its sendings, whether one is due, when the one outstanding was acknowledged, when a Wait came, and whether no more follow. -/
  swapTries : Nat
  swapDue : Bool
  swapAt : Option Nat
  swapWait : Option Nat
  swapOver : Bool
  /-- A Request has come since attach or hard reset (R289). -/
  firstReq : Bool
  discoveries : Nat
  discovering : Bool
  discAt : Nat
  cableVdo : Word
  vconnOn : Bool
  vconnPin : Bool
  vconnBarred : Bool
  vconnMa : Nat
  vconnSince : Nat
  reclaim : Bool
  lastMsg : Nat
  lastRequest : Nat
  cc1 : Nat
  cc2 : Nat
  safe0 : Bool
  shortMs : Nat
  patternSince : Nat
  /-- The attach debounce has ended but R284 step 2 still waits for its conditions. -/
  attachHeld : Bool
  detachSince : Option Nat
  detaching : Bool
  hrPhase : HrPhase
  hrSince : Nat
  alert : AlertPhase
  stateSince : Nat
  lowSince : Option Nat
  highSince : Option Nat
  deriving DecidableEq, Repr

/-! ### Ownership -/

/-- The port ownership states (R66). -/
inductive OwnState where
  | free
  | owned
  | handover
  | resetting
  | orphanKept
  | orphanOff
  | service
  | barred
  deriving DecidableEq, Repr

/-- The STATE code of OWN_STATUS (R66). -/
def OwnState.code : OwnState → Nat
  | .free => 0
  | .owned => 1
  | .handover => 2
  | .resetting => 3
  | .orphanKept => 4
  | .orphanOff => 5
  | .service => 6
  | .barred => 7

/-- A P4 event stamped for a port and not yet resolved (R70). -/
inductive P4Event where
  | assign (target : Owner)
  | claim (who : Owner)
  | release (who : Owner)
  | expiry (who : RingId)
  | forfeit (who : Owner)
  | home
  deriving DecidableEq, Repr

/-- A port's ownership (R66, R70–R82). -/
structure Own where
  owner : Owner
  state : OwnState
  generation : Nat
  /-- The expiry tick of a ring owner's lease (R72). -/
  expiry : Option Nat
  prevOwner : Owner
  cause : Nat
  decidedAt : Nat
  events : List P4Event
  /-- Transfers the old owner lost at the change (R77). -/
  endedCount : Nat
  /-- IN data discarded since the port became ownerless (R84). -/
  discarded : Nat
  /-- The old owner's work has still to end at U (R77, R78). -/
  unsettled : Bool
  /-- Frame and microframe of the incoming owner's timeline at the decision (R82 FRAME). -/
  frameT : Nat
  deriving DecidableEq, Repr

/-! ### PTP -/

/-- The PTP time receiver (R152): time in ns since the PTP epoch at a model tick. -/
structure Ptp where
  locked : Bool
  portB : Bool
  failedOver : Bool
  masters : Nat
  offset : Int
  lastSync : Nat
  timeNs : Nat
  timeAt : Nat
  deriving DecidableEq, Repr

end Sys2Proof.Machine
end

