-- ==== Sys2Proof/Machine/HostTypes.lean ====
section
/-! DEFINITION. The structures of the host side of State: USB trees and Nibs, rings and completions, transports, timelines, Inkwell, the classic hubs, and what leaves the block. Plain data throughout. -/

namespace Sys2Proof.Machine

/-! ### USB trees and endpoints -/

/-- A device record (R83): an addressed device on a port. -/
structure Device where
  port : PortId
  addr : Nat
  speed : Nat
  parent : Nat
  parentPort : Nat
  state : Nat
  suspended : Bool
  config : Nat
  hub : Bool
  /-- A hub whose bDeviceProtocol is 0x02, as its device descriptor showed (R173). -/
  multiCapable : Bool
  mtt : Bool
  wake : Bool
  lpm : Bool
  u1 : Bool
  u2 : Bool
  tier : Nat
  vid : Nat
  pid : Nat
  bcd : Nat
  ttAddr : Nat
  ttPort : Nat
  route : Nat
  deriving DecidableEq, Repr

/-- Whether an endpoint runs (R102, R109, R176). -/
inductive EpRun where
  | stopped
  | running
  | halted
  deriving DecidableEq, Repr

/-- A transfer ring's binding (R109): its place, its next index to fetch and the lap expected there. -/
structure Binding where
  base : Nat
  log2 : Nat
  index : Nat
  lap : Bool
  /-- A faulty chain stopped the endpoint: it runs again only once it is bound again (R106). -/
  dead : Bool
  deriving DecidableEq, Repr

/-- A fetched transfer descriptor (R103, R104), with the ring index and the lap of its slot. -/
structure Td where
  kind : Nat
  buffer : Nat
  length : Nat
  setup : List Byte
  target : Nat
  asap : Bool
  chain : Bool
  zlp : Bool
  quiet : Bool
  slot : Nat
  lap : Bool
  deriving DecidableEq, Repr

/-- A transfer: a whole fetched chain (R105), and how far it got. -/
structure Transfer where
  v : RingId
  tds : List Td
  fetchedAt : Nat
  /-- Bytes moved: received and written for IN, acknowledged by the device for OUT (R174). -/
  done : Nat
  /-- Control transfers: 0 setup, 1 data, 2 status (R177). -/
  stage : Nat
  cerr : Nat
  /-- OUT data fetched and not yet acknowledged by the device (R251), in order. -/
  held : List Byte
  /-- OUT bytes asked of the host so far (R131, R140). -/
  asked : Nat
  /-- A failed read: no data beyond what is held will come (R131). -/
  cut : Bool
  stashed : Bool
  /-- IN data put into host memory: (write number, address, bytes) (R117, R122). -/
  wrote : List (Nat × Nat × List Byte)
  /-- The interval of an ISOCH descriptor, once fixed, as a slot count of the timeline (R207). -/
  interval : Option Nat
  /-- Its last packet was sent and the zero-length packet of R103 is due. -/
  zlpDue : Bool
  /-- The code with which it completes as soon as its turn comes: a NOOP, a faulty chain, or a descriptor fetched by an owner after it lost the port (R78, R104, R106). -/
  preset : Option Nat
  /-- A transaction of it has run (R155). -/
  begun : Bool
  deriving DecidableEq, Repr

/-- An item of a read-ahead stash (R121, R183): a packet, or the marker of an event with its completion code. -/
inductive StashItem where
  | packet (bytes : List Byte)
  | mark (code : Nat)
  deriving DecidableEq, Repr

/-- A periodic admission (R205): its charges by schedule slot, its phase and period in slots, its Inkwell space, its bank cycles in units of 2^-18 per 125 µs, its pieces (bank, blocks), and its charge on a TT (hub, port or 0, charge). -/
structure Admission where
  slots : List (Nat × Nat)
  period : Nat
  phase : Nat
  space : Nat
  cycles : Nat
  pieces : List (Nat × Nat)
  tt : Option (Nat × Nat × Nat)
  deriving DecidableEq, Repr

/-- An endpoint context (R84, R109, R111). -/
structure Endpoint where
  ctx : Nat
  port : PortId
  dev : Nat
  epAddr : Nat
  type : Nat
  maxPacket : Nat
  interval : Nat
  burst : Nat
  mult : Nat
  bpi : Nat
  lead : Nat
  jitter : Nat
  bound : Option Binding
  run : EpRun
  toggle : Nat
  ra : Bool
  raCredit : Nat
  stash : List StashItem
  discarded : Nat
  /-- The chain being fetched, whose last descriptor has not come (R105). -/
  chain : List Td
  /-- Entries the doorbells so far still let the device fetch, and whether a request for some is outstanding (R101). -/
  fetch : Nat
  busy : Bool
  /-- Transfers fetched and not completed, oldest first (R107). -/
  queue : List Transfer
  admission : Option Admission
  /-- A split accepted by the TT whose result has not come (R181). -/
  splitOpen : Bool
  /-- A CLEAR_TT_BUFFER for it is outstanding (R181). -/
  ttWait : Bool
  /-- Its age up to the last change of eligibility, since when it counts, and whether it is promoted (R200). -/
  age : Nat
  ageSince : Option Nat
  promoted : Bool
  /-- The last interval an ISOCH descriptor was given (R207). -/
  lastInterval : Option Nat
  /-- Errors left to the read-ahead poll (R175, R183). -/
  cerr : Nat
  /-- A SuperSpeed endpoint that drew NRDY waits for ERDY; a HS bulk OUT that drew NAK or NYET is followed by PING (R177). -/
  erdyWait : Bool
  ping : Bool
  /-- STOP_ENDPOINT waits for the transaction in progress: (VI, command slot). -/
  stopping : Option (RingId × Nat)
  deriving DecidableEq, Repr

/-! ### Nibs -/

/-- The root USB 2.0 path (R164, R165, R179, R189), with the tick of each timed step. -/
inductive Usb2Phase where
  | idle
  | reset (since : Nat)
  | recovery (since : Nat)
  | active
  | disabled
  | stuck
  deriving DecidableEq, Repr

/-- The root SuperSpeed path (R164, R167, R185, R186). -/
inductive SsPhase where
  | off
  | detect
  | training (since : Nat)
  | u0
  | u1
  | u2
  | u3
  | resetting (since : Nat)
  | failed
  deriving DecidableEq, Repr

/-- Where a suspend or a resume of the tree stands (R186). -/
inductive SuspPhase where
  | awake
  | entering (since : Nat)
  | suspended
  | resumeK (since : Nat)
  | resuming (since : Nat)
  deriving DecidableEq, Repr

/-- An attach preview in progress (R168): the path, the step 1–3, the packet size, its errors left, and the bytes kept. -/
structure Preview where
  ss : Bool
  step : Nat
  mps : Nat
  cerr : Nat
  dev : List Byte
  cfg : List Byte
  since : Nat
  deriving DecidableEq, Repr

/-- ADDRESS_DEVICE in progress (R171): who asked, the record it makes, its packet size and context, and the recovery's start. -/
structure Addressing where
  v : RingId
  slot : Nat
  device : Device
  mps : Nat
  ctx : Nat
  cerr : Nat
  recoverAt : Option Nat
  deriving DecidableEq, Repr

/-- A CLEAR_TT_BUFFER the Nib issues itself (R181). -/
structure TtJob where
  hub : Nat
  ttPort : Nat
  ctx : Nat
  deriving DecidableEq, Repr

/-- A port's Nibs (R159–R191). -/
structure Nib where
  connect : Bool
  speed2 : Nat
  phase2 : Usb2Phase
  /-- 0 no chirp, 1 the device's chirp K was seen, 2 the Nib chirps (R165). -/
  chirp : Nat
  /-- The USB 2.0 root device is in the Default state at address 0. -/
  default2 : Bool
  phaseS : SsPhase
  speedS : Nat
  defaultS : Bool
  susp : SuspPhase
  /-- The SUSPEND_PORT in execution, and one that waits behind a remote wake (R188). -/
  suspCmd : Option (RingId × Nat)
  suspNext : Option (RingId × Nat)
  waking : Bool
  resetCmd : Option (RingId × Nat)
  resetAt : Nat
  wait2 : Bool
  waitS : Bool
  preview : Option Preview
  attachCount : Nat
  backoff : Nat
  retestAt : Nat
  probeFails : Nat
  addressing : Option Addressing
  lastAddr : Nat
  l1 : Bool
  l1Hold : Option Nat
  idleSince : Nat
  tt : List TtJob
  /-- The port's bus microframe count modulo 16,384 (R208), and the tick of its last boundary. -/
  busUf : Nat
  ufAt : Nat
  /-- The timeline followed, the slew in progress and OFFSET_UF (R194, R213). -/
  tlOwner : Owner
  slewing : Bool
  offsetUf : Nat
  deriving DecidableEq, Repr

/-! ### Ring VIs -/

/-- A completion (R112): what it answers and what it carries; the IN data it reports, where Inkwell still holds it (R122); the event entries written before it was (R122). -/
structure Completion where
  seq : Nat
  code : Nat
  length : Nat
  source : Nat
  slot : Nat
  port : Nat
  isCmd : Bool
  stashed : Bool
  data : List (Nat × List Byte)
  dataLost : Nat
  mark : Option Nat
  deriving DecidableEq, Repr

/-- An event-ring entry (R112, R113). -/
inductive EvtEntry where
  | completion (c : Completion) (replayed : Bool)
  | word (value : DWord) (seqno idx : Nat)
  deriving DecidableEq, Repr

/-- An entry that is due and not yet written (R115, R117): it waits for the acknowledgement of this RDMA WRITE, and CRITICAL notices are signalled at once. -/
structure DueEntry where
  entry : EvtEntry
  needAck : Nat
  urgent : Bool
  deriving DecidableEq, Repr

/-- A fetched command (R103, R108): its ring slot, its TYPE, its parameter words, and whether it is in execution. -/
structure CmdEntry where
  slot : Nat
  type : Nat
  words : List Word
  started : Bool
  deriving DecidableEq, Repr

/-- A ring VI (R94–R124, R154–R157). -/
structure Vi where
  enabled : Bool
  unreachable : Bool
  unreachableAt : Nat
  resync : Bool
  evtFull : Bool
  cfgError : Bool
  nextSeq : Nat
  cmdHead : Nat
  cmdLap : Bool
  /-- Entries the doorbells so far still let the device fetch, and whether a request for some is outstanding (R101). -/
  cmdFetch : Nat
  cmdBusy : Bool
  cmds : List CmdEntry
  evtTail : Nat
  evtLap : Bool
  /-- Event slots the host has not freed (R115), and entries written since ENABLE. -/
  evtUsed : Nat
  evtCount : Nat
  dbIgnored : Nat
  descErrors : Nat
  due : List DueEntry
  window : List Completion
  noticeSeq : Nat
  unsignalled : Nat
  unsignalledAt : Nat
  /-- RDMA WRITEs of data issued and acknowledged (R117). -/
  issued : Nat
  acked : Nat
  qp : Option (Fin 128)
  dataReleased : Bool
  authenticated : Bool
  /-- The tick of its last forfeiture (R86). -/
  forfeitAt : Option Nat
  deriving DecidableEq, Repr

/-! ### Transports -/

/-- The states of a queue-pair slot (R142). -/
inductive QpState where
  | reset
  | connecting
  | ready
  | error
  deriving DecidableEq, Repr

/-- A memory region of a RoCEv2 host (R144, R147). -/
structure Region where
  va : Nat
  len : Nat
  rkey : Word
  deriving DecidableEq, Repr

/-- A queue-pair slot (R140–R150). Rates are in units of 10 Mb/s. -/
structure Qp where
  state : QpState
  vi : RingId
  lastPort : Bool
  cause : Nat
  regions : List Region
  rkey : Word
  hostNonce : List Byte
  devNonce : List Byte
  psn : Word
  ackExp : Nat
  retry : Nat
  retryLeft : Nat
  depth : Nat
  pmtu : Nat
  repSends : Nat
  repAt : Nat
  /-- When the oldest unacknowledged request was sent. -/
  oldestAt : Option Nat
  rate : Nat
  lastDec : Option Nat
  lastInc : Nat
  lastCnpSent : Option Nat
  deriving DecidableEq, Repr

/-- An Ethernet port (R134, R139, R151). -/
structure EthPort where
  link : Bool
  lock : Bool
  fec : Bool
  lanUp : Bool
  lastFrame : Nat
  /-- Priorities on which the peer has paused sending, and those on which this port has sent XOFF (R151). -/
  paused : Nat
  xoff : Nat
  deriving DecidableEq, Repr

/-- An entry of the duplicate-discard table (R138). -/
structure PrpEntry where
  mac : Nat
  seqno : Nat
  at_ : Nat
  deriving DecidableEq, Repr

/-- The Ethernet side that is not in registers: the node's PRP counter, the duplicate table oldest first, supervision frames heard (R137, R138). -/
structure Prp where
  seqno : Nat
  table : List PrpEntry
  supervisionHeard : Nat
  lastSupervision : Nat
  deriving DecidableEq, Repr

/-- An MSI-X table entry (R129): address, data, and its mask bit. -/
structure MsixEntry where
  addr : Nat
  data : Word
  masked : Bool
  deriving DecidableEq, Repr

/-- The PCIe endpoint (R128–R133). The masks have one bit for each function, 0 the PF. -/
structure Pcie where
  link : Bool
  speed : Nat
  width : Nat
  numVfs : Nat
  vfEnable : Bool
  bme : Nat
  /-- Functions under FLR, and when it began. -/
  flr : Nat
  flrAt : Nat
  ptmEnable : Bool
  ptmValid : Bool
  ptmFails : Nat
  ptmFailed : Nat
  ptmLast : Nat
  msixOn : Nat
  msix : Vector (Vector MsixEntry 8) 16
  msixPending : Vector Nat 16
  deriving DecidableEq, Repr

/-! ### Timelines -/

/-- The states of a timeline (R212). -/
inductive TlState where
  | freeRun
  | acquiring
  | locked
  | holdover
  deriving DecidableEq, Repr

/-- A ring VI's timeline (R196, R208–R212). Adjustments are in units of 2^-8 HS bit time, the phase in ns; `start` is the tick at which frame 0 fell. -/
structure Timeline where
  state : TlState
  refValid : Bool
  fnOffset : Nat
  adj : Int
  freq : Rat
  phase : Int
  good : Nat
  bad : Nat
  start : Nat
  deriving DecidableEq, Repr

/-! ### Inkwell -/

/-- An asynchronous block in use (R253): its owner, its context (none for classic and system buffers), its bank, and whether the current key placed it. -/
structure Block where
  owner : Owner
  ctx : Option Nat
  bank : Nat
  gen : Nat
  deriving DecidableEq, Repr

/-- A request for blocks that waits (R251). -/
structure InkWait where
  owner : Owner
  ctx : Option Nat
  need : Nat
  deriving DecidableEq, Repr

/-- Inkwell (R246–R256). -/
structure Ink where
  key : Word
  keyGen : Nat
  /-- A key drawn at a trip, and the tick from which it governs (R256). -/
  nextKey : Option (Word × Nat)
  blocks : List Block
  waits : List InkWait
  /-- The block serial number of each owner code (R253). -/
  serials : Vector Nat 128
  hotRun : Nat
  /-- Cycles of each bank in the current 125 µs window: periodic and asynchronous (R248). -/
  periodic : Vector Nat 64
  async : Vector Nat 64
  minOver : Bool
  /-- Live payload bytes over the last second, newest first: (tick, bytes from then on) (R249). -/
  occ : List (Nat × Nat)
  deriving DecidableEq, Repr

/-! ### Classic hubs -/

/-- What a classic VI's hub shows of one port: wPortStatus and wPortChange of its two halves, and the stored link settings (R223–R227). -/
structure CView where
  power : Bool
  status2 : BitVec 16
  change2 : BitVec 16
  statusS : BitVec 16
  changeS : BitVec 16
  u1 : Nat
  u2 : Nat
  wakeMask : Nat
  forceLpm : Bool
  deriving DecidableEq, Repr

/-- The upstream reset handshake (R233). -/
inductive UpPhase where
  | run
  | reverted (since : Nat)
  | chirpK (since : Nat)
  | watch (since : Nat)
  | hs
  | fs
  deriving DecidableEq, Repr

/-- A classic VI (R214–R218, R226, R233). -/
structure Cvi where
  exists_ : Bool
  upstream : PortId
  config2 : Nat
  configS : Nat
  multiTt : Bool
  addr2 : Nat
  addrS : Nat
  depth : Nat
  speed2 : Nat
  ssLink : Bool
  suspended : Bool
  inReset : Bool
  up : UpPhase
  changePower : Bool
  changeOver : Bool
  ceasedAt : Option Nat
  /-- The tick of its last forfeiture (R86). -/
  forfeitAt : Option Nat
  deriving DecidableEq, Repr

/-- What a hub port of a classic owner is doing (R223, R232): a USB 2.0 reset since a tick, the device's chirp seen in it, a SuperSpeed reset (since, warm), test mode. -/
structure CPort where
  reset2 : Option Nat
  chirp : Bool
  resetS : Option (Nat × Bool)
  test : Bool
  deriving DecidableEq, Repr

/-- The answers of a hub or of the Scribe function to its host. -/
inductive HubReply where
  | ack
  | stall
  | nak
  | nyet
  | err
  | silent
  | data (bytes : List Byte)
  deriving DecidableEq, Repr

/-- A non-periodic Ligature buffer (R235): its key, its result once held and since when. -/
structure LigBuf where
  addr : Nat
  ep : Nat
  type : Nat
  isIn : Bool
  result : Option HubReply
  heldAt : Nat
  deriving DecidableEq, Repr

/-- A periodic split in the pipeline (R236): its key, its frame, the microframe Y of its transaction, its payload, its result. -/
structure LigPer where
  addr : Nat
  ep : Nat
  isIn : Bool
  frame : Nat
  y : Nat
  payload : Nat
  dropped : Bool
  result : Option HubReply
  deriving DecidableEq, Repr

/-- A port's Ligature (R234–R237). -/
structure Lig where
  bufs : List LigBuf
  per : List LigPer
  frame : Nat
  load : Nat
  stopped : Bool
  deriving DecidableEq, Repr

/-- A request of the Scribe function (R244). -/
structure FuncReq where
  op : Nat
  tag : Nat
  addr : Nat
  data : Word
  ok : Bool
  deriving DecidableEq, Repr

/-- The Scribe function (R242–R245). -/
structure Func where
  state : Nat
  outHalt : Bool
  inHalt : Bool
  queue : List FuncReq
  replies : List (List Byte)
  onSs : Bool
  deriving DecidableEq, Repr

/-! ### What leaves the block -/

/-- What the device drives on the lines of a port, or of a classic upstream. -/
inductive LineAct where
  | se0
  | chirpKJ
  | chirpK
  | sofStart
  | sofStop
  | resumeK
  | eop
  | toU3
  | toU0
  | receiverDetect
  | train (gen2 : Bool)
  | hotReset
  | warmReset
  | lpmToken (besl : Nat)
  | requestU1
  | requestU2
  | probe
  | testMode
  | ssDisabled
  | pullUp
  | hsTerminations
  | fsIdle
  deriving DecidableEq, Repr

/-- Communication manager messages (R143–R146). -/
inductive CmMsg where
  | rej (reason : Nat)
  | rep (slot : Fin 128) (v : RingId) (psn : Word) (depth : Nat) (nonce mac : List Byte) (rkey status nextSeq : Word)
  | dreq
  | drep
  deriving DecidableEq, Repr

/-- What the last command sent out of the block, towards whom, in order. -/
inductive Out where
  /-- The SPI target's reply after its filler bytes: the token and what follows it (R38). -/
  | spi (bytes : List Byte)
  /-- A BAR read's completion data, in the lanes asked for (R42). -/
  | barData (value : Word)
  /-- A register value handed to the path that read it. -/
  | regData (path : Path) (value : Word)
  /-- A die-to-die frame that failed its check is asked for again (R16). -/
  | d2dRetry
  /-- A PD message on a port. -/
  | pd (port : PortId) (msg : PdMsg)
  /-- BIST on a port's CC pin: Carrier Mode, or Test Data received (R292). -/
  | bist (port : PortId) (carrier : Bool)
  /-- A request for ring entries, at an address, so many entries (R101). -/
  | fetch (v : RingId) (ring : FetchRing) (addr count : Nat)
  /-- A request for OUT data (R131, R140). -/
  | readHost (v : RingId) (ctx : Nat) (addr count : Nat)
  /-- Data written to a host's memory. -/
  | writeHost (v : RingId) (addr : Nat) (bytes : List Byte)
  /-- An event-ring entry written: its slot and its 16 bytes (R112, R113). -/
  | event (v : RingId) (slot : Nat) (bytes : List Byte)
  /-- An MSI-X message of a function (R116). -/
  | msix (fn : Fin 16) (vector : Nat)
  /-- A control request of the device's own on a port: the device address and the setup bytes. -/
  | control (port : PortId) (addr : Nat) (setup : List Byte)
  /-- An OUT data packet on a port's bus. -/
  | busOut (port : PortId) (ctx : Nat) (bytes : List Byte)
  /-- A handshake or a token the Nib sends. -/
  | poll (port : PortId) (ctx : Nat)
  /-- A line state on a port. -/
  | line (port : PortId) (act : LineAct)
  /-- A line state on a classic VI's upstream. -/
  | upLine (c : ClassicId) (act : LineAct)
  /-- A hub's or its function's answer to its classic host. -/
  | hub (c : ClassicId) (reply : HubReply)
  /-- Traffic passed on between a classic VI's upstream and a port. -/
  | toPort (n : PortId) (bytes : List Byte)
  /-- A communication manager message through a slot, or to a requester that has none. -/
  | cm (slot : Option (Fin 128)) (msg : CmMsg)
  /-- A RoCEv2 acknowledgement, a NAK with its cause (1 sequence, 2 remote access, 3 invalid request), a CNP, a resend. -/
  | ack (slot : Fin 128)
  | rnak (slot : Fin 128) (cause : Nat)
  | cnp (slot : Fin 128)
  | resend (slot : Fin 128)
  /-- A frame delivered from an Ethernet port to what it is for. -/
  | deliver (bytes : List Byte)
  /-- A PRP supervision frame on a LAN, with the node's sequence number (R137). -/
  | supervision (portB : Bool) (seqno : Nat)
  /-- An XOFF or XON this port sends on a priority (R151). -/
  | pfc (portB : Bool) (prio : Nat) (off : Bool)
  /-- A PTM request (R133). -/
  | ptmRequest
  /-- The Return gate's answers (R420): a nonce with UNIQUE_ID and RETURN_ARMED, or a STALL, or the acceptance of an authorisation. -/
  | gate (nonce : List Word) (uid : DWord) (armed : Bool)
  | gateStall
  | gateAck
  deriving DecidableEq, Repr

end Sys2Proof.Machine
end

