-- ==== Sys2Proof/Machine/Initial.lean ====
section
/-! DEFINITION. The value of every structure of State at reset: unpowered, with the reset values of the spec's maps, and zero, empty or idle where the spec states none (assumption 3). -/

namespace Sys2Proof.Machine

/-- Both copies of the RC registers, clear (R48). -/
def rcCopy0 : RcCopy := { settled := [], fresh := [] }

/-- Rubric before the first epoch (R56–R60). -/
def rubric0 : Rubric :=
  { epoch := 0, busy := false, dirty := false, lastResult := 0, digest := 0, commitStroke := 0, domainCrc := Vector.replicate 27 0,
    committedCrc := Vector.replicate 27 0, commitTick := 0, classV := [], committer := .spi, foreign := [] }

/-- The link before it first comes up (R17). -/
def link0 : Link := { phase := .notYetUp, lostAt := 0, holding := false, lastFrame := 0 }

/-- The readout window, empty (R379). -/
def readout0 : Readout :=
  { loading := false, ready := false, found := false, fromNor := false, uncommitted := false, crcOk := false, chainOk := false, length := 0,
    window := [], verifying := false, verifyDone := false, verifyPass := false, verifyNotClosed := false, verifySector := 0 }

/-- The recorder, empty (R364–R380). -/
def pal0 : Pal :=
  { ram := [], nextSeq := 0, committedSeq := none, buckets := [], losses := [0, 0, 0, 0], frozen := false, flushing := false, full := false,
    norFail := false, scanDone := false, returnLock := false, flushMarked := false, high := [], low := [], erasing := none,
    eraseSuspended := false, sums := [], sumDue := 0, assigned := none, readout := readout0, gapScanning := false }

/-- Margin, empty; the threshold can raise an interrupt once Folio runs (R261–R276). -/
def margin0 : Margin :=
  { queues := Vector.replicate 65 { notices := [], lostSinceHb := 0 }, opened := none, wordIndex := 0, aborted := false,
    irqPending := false, irqArmed := false, lineHeld := false, hbDue := 0 }

/-- The Stroke discipline in FREE_RUN (R351). -/
def disc0 : Disc :=
  { state := .freeRun, corr := 0, freq := 0, offset := 0, anchorPtp := 0, anchorStroke := 0, lastSync := 0, firstDone := false, goodRun := 0,
    badRun := 0, sampleStroke := 0, sampleSec := 0, sampleNs := 0, sampleValid := false }

/-- A cluster that has not run (R357). -/
def cluster0 : Cluster := { volt := 0, slack := 0, temp := 0, capped := false, heldMin := false, failed := false, restarts := [] }

/-- An engine that has not run (R356). -/
def engine0 : Engine := { freq := 0, required := 0, restarting := false }

/-- A lane that has not trained (R361). -/
def lane0 : EqLane :=
  { ctle := 0, baseCtle := 0, taps := Vector.replicate 4 0, baseTaps := Vector.replicate 4 0, adapting := false, eyeHeight := 0, eyeWidth := 0, lastStep := 0 }

/-- The mode unit in Off (R381). -/
def modes0 : Modes :=
  { mode := .off, prev := .off, lastReq := 0, parked := false, warm := false, defaults := false, fwSlotB := false, cfgSlotB := false,
    fwFallback := false, cfgFallback := false, dirCopy1 := false, uncommitted := false, hold := 0, bootMs := 0, bootStart := 0, booted := false,
    tpp := 0, tbp := 0, beforeBrownout := .off, beforeSuspend := .off, beforeQuarantine := .off, suspending := false, standingBy := false, selfSuspended := 0, wokenAt := none }

/-- No image write (R395). -/
def img0 : ImgWrite := { opened := false, busy := false, cfg := false, slotB := false, result := 0, words := [], waiting := [] }

/-- Blotter, with no fault (R402–R412). -/
def blot0 : Blotter :=
  { faultLoc := 0, faultLevel := 0, faultClass := 0, faultValid := false, window := Vector.replicate 8 0, reported := Vector.replicate 8 false,
    windowEnd := 0, portMask := 0, inputQ := false, hosts := false, classic := false, causeFet := false, causeLink := false, causeTemp := false,
    causeCluster := false, hotMask := 0, descriptorsReloading := false, keysReloading := [], held := [] }

/-- Seal with no keys; the device number is fused and its value free (R414–R421). -/
def seal0 : Seal :=
  { uniqueId := Config.uniqueId, floor := 0, returnCount := 0, ownerKey := none, svn := 0, fwSet := 0, fwBuild := 0, armed := false, armedAt := 0,
    keys := Vector.replicate 64 none, keyData := Vector.replicate 8 0, keyOp := none, keyResult := 0, keyGeneration := 0, nonce := none,
    nonceAt := 0, gateStalled := false, auth := none }

/-- The card input, off (R313). -/
def input0 : InputPath :=
  { state := .off, since := 0, seatA := false, seatB := false, pg := false, ew := false, pfw := false, fetFail := false, retries := 0,
    lossCause := 0, vinPre := 0, vout := 0, amps := 0, mid := 0, acc := 0, gateOn := false, curveBad := false, clear := .idle }

/-- A port's power path, off; the derate factor is 256, no derating (R329). -/
def power0 : PortPower :=
  { phase := .off, step := .idle, gateOn := false, curveBad := false, band := 0, vbusMv := 0, ispMv := 0, midMv := 0, ampsMa := 0, acc := 0, revRun := 0,
    vset := 0, nominal := 0, enable := false, discharge := false, hardOff := false, retries := 0, latched := false, shed := false, shedOff := false,
    retryDue := none, lastCause := 0, fetFail := false, sensorFault := false, gateStart := 0, onSince := 0, offSince := 0, share := 0,
    shareWanted := 0, temp := 0, rise := 0, derate := 256, deratePending := 256, clear := .idle }

/-- A port's Type-C and PD state: disabled, nothing attached (R287). -/
def pd0 : PortPd :=
  { state := .disabled, orient := false, raSeen := false, partner := 0, cable := 0, eprMode := false, contract := .none, ufp := false, rev2 := false,
    sent := [], pdp := 0, capsPending := false, capsForced := false, sendings := 0, awaiting := none, tries := 0, thenDo := .nothing, awaitP := none, triesP := 0, msgIdTx := 0, msgIdRx := none, msgIdTxP := 0,
    msgIdRxP := none, hardResets := 0, msgSeen := false, explicitSince := false, next := none, acceptAcked := 0, transitionStart := none, rpNow := 0,
    sinkTxNg := none, capsReady := false, exitDue := false, capsEpr := false, capsAt := 0, softAt := none, eprAt := none, swapTries := 0, swapDue := false,
    swapAt := none, swapWait := none, swapOver := false, firstReq := false, discoveries := 0, discovering := false, discAt := 0, cableVdo := 0, vconnOn := false, vconnPin := false, vconnBarred := false,
    vconnMa := 0, vconnSince := 0, reclaim := false, lastMsg := 0, lastRequest := 0, cc1 := 0, cc2 := 0, safe0 := false, shortMs := 0,
    patternSince := 0, attachHeld := false, detachSince := none, detaching := false, hrPhase := .idle, hrSince := 0, alert := .none, stateSince := 0,
    lowSince := none, highSince := none }

/-- PTP, not locked (R152). -/
def ptp0 : Ptp := { locked := false, portB := false, failedOver := false, masters := 0, offset := 0, lastSync := 0, timeNs := 0, timeAt := 0 }

/-- A port with no owner (R66). -/
def own0 : Own :=
  { owner := .none, state := .free, generation := 0, expiry := none, prevOwner := .none, cause := 0, decidedAt := 0, events := [], endedCount := 0, discarded := 0, unsettled := false,
    frameT := 0 }

/-- A port's Nibs, with nothing connected (R163). -/
def nib0 : Nib :=
  { connect := false, speed2 := 0, phase2 := .idle, chirp := 0, default2 := false, phaseS := .off, speedS := 0, defaultS := false, susp := .awake,
    suspCmd := none, suspNext := none, waking := false, resetCmd := none, resetAt := 0, wait2 := false, waitS := false, preview := none,
    attachCount := 0, backoff := 0, retestAt := 0, probeFails := 0, addressing := none, lastAddr := 0, l1 := false, l1Hold := none, idleSince := 0,
    tt := [], busUf := 0, ufAt := 0, tlOwner := .none, slewing := false, offsetUf := 0 }

/-- A ring VI, disabled; the expected laps are 1 (R98). -/
def vi0 : Vi :=
  { enabled := false, unreachable := false, unreachableAt := 0, resync := false, evtFull := false, cfgError := false, nextSeq := 0, cmdHead := 0,
    cmdLap := true, cmdFetch := 0, cmdBusy := false, cmds := [], evtTail := 0, evtLap := true, evtUsed := 0, evtCount := 0, dbIgnored := 0, descErrors := 0, due := [],
    window := [], noticeSeq := 0, unsignalled := 0, unsignalledAt := 0, issued := 0, acked := 0, qp := none, dataReleased := false, authenticated := false, forfeitAt := none }

/-- A queue-pair slot in Reset (R142). -/
def qp0 : Qp :=
  { state := .reset, vi := 0, lastPort := false, cause := 0, regions := [], rkey := 0, hostNonce := [], devNonce := [], psn := 0, ackExp := 0,
    retry := 0, retryLeft := 0, depth := 0, pmtu := 0, repSends := 0, repAt := 0, oldestAt := none, rate := 0, lastDec := none, lastInc := 0, lastCnpSent := none }

/-- An Ethernet port with no link (R135). -/
def eth0 : EthPort := { link := false, lock := false, fec := false, lanUp := false, lastFrame := 0, paused := 0, xoff := 0 }

/-- PRP with an empty table (R138). -/
def prp0 : Prp := { seqno := 0, table := [], supervisionHeard := 0, lastSupervision := 0 }

/-- The PCIe endpoint with no link; every MSI-X vector masked, as the PCIe family resets it (assumption 5). -/
def pcie0 : Pcie :=
  { link := false, speed := 0, width := 0, numVfs := 0, vfEnable := false, bme := 0, flr := 0, flrAt := 0, ptmEnable := false, ptmValid := false,
    ptmFails := 0, ptmFailed := 0, ptmLast := 0, msixOn := 0, msix := Vector.replicate 16 (Vector.replicate 8 { addr := 0, data := 0, masked := true }),
    msixPending := Vector.replicate 16 0 }

/-- A timeline in FREE_RUN (R196). -/
def timeline0 : Timeline := { state := .freeRun, refValid := false, fnOffset := 0, adj := 0, freq := 0, phase := 0, good := 0, bad := 0, start := 0 }

/-- Inkwell, empty (R246–R256). -/
def ink0 : Ink :=
  { key := 0, keyGen := 0, nextKey := none, blocks := [], waits := [], serials := Vector.replicate 128 0, hotRun := 0, periodic := Vector.replicate 64 0,
    async := Vector.replicate 64 0, minOver := false, occ := [] }

/-- A classic VI's view of a port with nothing connected, its SuperSpeed link in Rx.Detect (R224). -/
def cview0 : CView := { power := false, status2 := 0, change2 := 0, statusS := 0xA0, changeS := 0, u1 := 0, u2 := 0, wakeMask := 0, forceLpm := false }

/-- A classic VI that does not exist (R218). -/
def cvi0 : Cvi :=
  { exists_ := false, upstream := 0, config2 := 0, configS := 0, multiTt := false, addr2 := 0, addrS := 0, depth := 0, speed2 := 0, ssLink := false,
    suspended := false, inReset := false, up := .run, changePower := false, changeOver := false, ceasedAt := none, forfeitAt := none }

/-- A hub port at rest (R223). -/
def cport0 : CPort := { reset2 := none, chirp := false, resetS := none, test := false }

/-- An empty Ligature (R236). -/
def lig0 : Lig := { bufs := [], per := [], frame := 0, load := 0, stopped := false }

/-- The Scribe function in the Default state (R242). -/
def func0 : Func := { state := 1, outHalt := false, inHalt := false, queue := [], replies := [], onSs := false }

end Sys2Proof.Machine
end

