-- ==== Sys2Proof/Machine/State.lean ====
section
/-! DEFINITION. The state of the block, its reset, and the reasons a command can stop. -/

namespace Sys2Proof.Machine

/-- The output pins whose level follows combinationally from the rest of the state (R273, R318, R332). `true` means the pin is driven low. -/
structure Pins where
  pg : Bool
  pfwN : Bool
  statA : Bool
  statB : Bool
  fetFailN : Bool
  irqN : Bool
  inGate : Bool
  deriving DecidableEq, Repr

/-- The whole block. -/
structure State where
  /-- Model time in Stroke ticks of 200 ns since the model's start: the stamp of the latest command (R8, R343). The model's own field. -/
  now : Nat
  /-- The commands that wait, first in, first out. -/
  pending : List Instr
  /-- What the last command sent out of the block. The model's own field. -/
  out : List Out
  /-- How many free values have been drawn. The model's own field. -/
  freeCtr : Nat
  /-- When each 1 s limit last let an occurrence through: (condition, tick) (R370). -/
  limits : List (Nat × Nat)
  /-- Folio has power and is out of reset (R387). -/
  folioOn : Bool
  /-- The tick of model time at which the Stroke counter was 0 (R341). -/
  strokeBase : Nat
  /-- The Stroke tick of the last resynchronisation of Reservoir's copy (R16). -/
  resyncAt : Nat
  regs : RegFile
  rcSpi : RcCopy
  rcPf : RcCopy
  pairs : List PairLatch
  writes : List PendWrite
  staged : List StagedWrite
  rubric : Rubric
  /-- PF_TRUST_CTRL.SET_BY_SPI (R52). -/
  trustBySpi : Bool
  /-- The PF_TRUST value of the configuration image, to which an FLR returns (R44). -/
  trustConfigured : Bool
  link : Link
  localEvents : List LocalEvent
  localLost : Nat
  pal : Pal
  margin : Margin
  disc : Disc
  clusters : Vector Cluster 24
  engines : Vector Engine 96
  regionTemp : Vector Int 5
  lanes : Vector EqLane 23
  modes : Modes
  img : ImgWrite
  nor : NorView
  blot : Blotter
  sealUnit : Seal
  input : InputPath
  /-- VAUX stands above its level (R432). -/
  vauxOk : Bool
  power : Vector PortPower 16
  pd : Vector PortPd 16
  ptp : Ptp
  own : Vector Own 16
  vis : Vector Vi 64
  /-- The device records of all ports (R83). -/
  devices : List Device
  /-- The endpoint contexts in use, of 65,536 (R84). -/
  eps : List Endpoint
  nibs : Vector Nib 16
  qps : Vector Qp 128
  eth : Vector EthPort 2
  prp : Prp
  pcie : Pcie
  timelines : Vector Timeline 64
  ink : Ink
  cvis : Vector Cvi 5
  /-- The view classic VI c has of hub port n, at index 16 c + n (R215). -/
  cviews : Vector CView 80
  cports : Vector CPort 16
  ligs : Vector Lig 16
  func : Func
  pins : Pins
  deriving DecidableEq, Repr

/-- Why a command stops with a fault. No meaning of this model raises one: every command of the table has an effect or leaves the block as it stands. -/
inductive Fault where
  deriving DecidableEq, Repr

/-- Why a command is refused. -/
inductive Refusal where
  /-- Raised by the dispatch for a command that has no meaning yet; safe, since nothing is claimed of it. -/
  | notModelled (mnemonic : String)
  deriving DecidableEq, Repr

/-- The block right after reset: unpowered, every register at its reset value, nothing pending (R5, R314, R381). -/
def State.reset : State :=
  { now := 0, pending := [], out := [], freeCtr := 0, limits := [], folioOn := false, strokeBase := 0, resyncAt := 0, regs := [],
    rcSpi := rcCopy0, rcPf := rcCopy0, pairs := [], writes := [], staged := [], rubric := rubric0, trustBySpi := false, trustConfigured := false,
    link := link0, localEvents := [], localLost := 0, pal := pal0, margin := margin0, disc := disc0, clusters := Vector.replicate 24 cluster0,
    engines := Vector.replicate 96 engine0, regionTemp := Vector.replicate 5 0, lanes := Vector.replicate 23 lane0, modes := modes0, img := img0,
    nor := NorView.empty, blot := blot0, sealUnit := seal0, input := input0, vauxOk := false, power := Vector.replicate 16 power0,
    pd := Vector.replicate 16 pd0, ptp := ptp0, own := Vector.replicate 16 own0, vis := Vector.replicate 64 vi0, devices := [], eps := [],
    nibs := Vector.replicate 16 nib0, qps := Vector.replicate 128 qp0, eth := Vector.replicate 2 eth0, prp := prp0, pcie := pcie0,
    timelines := Vector.replicate 64 timeline0, ink := ink0, cvis := Vector.replicate 5 cvi0, cviews := Vector.replicate 80 cview0,
    cports := Vector.replicate 16 cport0, ligs := Vector.replicate 16 lig0, func := func0,
    pins := { pg := false, pfwN := false, statA := false, statB := false, fetFailN := false, irqN := false, inGate := false } }

end Sys2Proof.Machine
end

