-- ==== Sys2Proof/Machine/Regs.lean ====
section
/-! DEFINITION. The register store and the per-path copies of the RC registers (R6, R46, R48). -/

namespace Sys2Proof.Machine

/-- The entry of an address, if listed. -/
def RegFile.find (f : RegFile) (a : Nat) : Option Word := (f.find? (fun e => e.1 == a)).map (·.2)

/-- The value at an address, `d` where none is listed. -/
def RegFile.get (f : RegFile) (a : Nat) (d : Word) : Word := (f.find a).getD d

/-- Write `v` at `a` and keep the canonical form: addresses rising, no entry equal to the default `d` of its address. -/
def RegFile.put (a : Nat) (v d : Word) : RegFile → RegFile
  | [] => if v = d then [] else [(a, v)]
  | (b, w) :: rest =>
    if b < a then (b, w) :: RegFile.put a v d rest
    else if b = a then (if v = d then rest else (a, v) :: rest)
    else (if v = d then (b, w) :: rest else (a, v) :: (b, w) :: rest)

/-- The canonical form: addresses strictly rising above `lo`, and no entry equal to what an unlisted address reads as. -/
def RegFile.wfFrom (dflt : Nat → Word) : Option Nat → RegFile → Bool
  | _, [] => true
  | lo, (a, v) :: rest =>
    (match lo with
     | none => true
     | some b => decide (b < a)) && !(v == dflt a) && RegFile.wfFrom dflt (some a) rest

/-- The canonical form of a register store. -/
def RegFile.wf (dflt : Nat → Word) (f : RegFile) : Bool := f.wfFrom dflt none

/-- The applied value of a register (R6, R46). -/
def reg (s : State) (a : Nat) : Word := s.regs.get a (mapReset a)

/-- Apply a value to a register. -/
def setReg (s : State) (a : Nat) (v : Word) : State := { s with regs := RegFile.put a v (mapReset a) s.regs }

/-- A field of an applied register. -/
def rfld (s : State) (a lo n : Nat) : Nat := fld (reg s a) lo n

/-- The address of a register of port n's block. -/
def portReg (n : PortId) (off : Nat) : Nat := portBase n.val + off

/-- A field of a register of port n's block. -/
def pfld (s : State) (n : PortId) (off lo k : Nat) : Nat := rfld s (portReg n off) lo k

/-- How the fields of an RC register accumulate. -/
inductive RcKind where
  /-- Counters of these widths, lowest field first, each saturating at all ones. -/
  | counts (widths : List Nat)
  /-- Flags, each set and kept. -/
  | flags
  /-- The latest value replaces the earlier one. -/
  | latest
  /-- The greatest value is kept. -/
  | peak
  /-- PORTn.CLAIM_LOG: the most recent refusal, and a saturating count in the bits from 16 up (R67). -/
  | claimLog
  /-- INK_CONFLICT: a saturating 16-bit count, and the latest bank above it (R249). -/
  | conflict
  deriving DecidableEq, Repr

/-- The kind of the RC register at an address. -/
def rcKind (a : Nat) : RcKind :=
  let k := splitAddr a
  match k.1, k.2.2 with
  | .block, 0x100 => .flags
  | .block, 0x104 => .latest
  | .block, 0x108 => .counts [32]
  | .block, 0x10C => .counts [32]
  | .block, 0x1014 => .counts [8, 8, 8, 8]
  | .block, 0x2030 => .counts [16]
  | .block, 0x20010 => .counts [8, 8, 8, 8]
  | .block, 0x30304 => .counts [16, 16]
  | .block, 0x40028 => .counts [8, 8, 8, 8]
  | .block, 0x4002C => .counts [32]
  | .block, 0x40030 => .counts [8, 8, 8]
  | .block, 0x50034 => .counts [8, 8, 8, 8]
  | .block, 0x50038 => .counts [16, 16]
  | .block, 0x60018 => .peak
  | .block, 0x6001C => .counts [32]
  | .block, 0x60020 => .conflict
  | .block, 0x64008 => .counts [8, 8, 8, 8]
  | .block, off =>
    if 0x2010 ≤ off ∧ off < 0x2030 then .counts [16, 16]
    else if 0x50200 ≤ off ∧ off < 0x50300 then .counts [8, 8, 8, 8]
    else if 0xA0140 ≤ off ∧ off < 0xA0180 then .counts [8, 8, 8, 8]
    else .counts [32]
  | .port, 0x210 => .claimLog
  | .port, 0x410 => .counts [8, 8, 8, 8]
  | .port, 0x4014 => .counts [8, 8, 8, 8]
  | .port, 0x4018 => .counts [8, 8, 8, 8]
  | .port, 0xC008 => .counts [8, 8]
  | .port, 0x818 => .counts [8, 8, 8, 8]
  | .port, _ => .counts [16, 16]
  | .viPage, _ => .counts [32]

/-- Add saturating fields of the given widths, from bit `lo` up. -/
def addCounts : List Nat → Nat → Word → Word → Nat
  | [], _, _, _ => 0
  | n :: rest, lo, x, y => satN n (fld x lo n + fld y lo n) * 2 ^ lo + addCounts rest (lo + n) x y

/-- Fold what was stamped later, `y`, into what is held, `x`. -/
def rcMerge (k : RcKind) (x y : Word) : Word :=
  match k with
  | .counts ws => BitVec.ofNat 32 (addCounts ws 0 x y)
  | .flags => x ||| y
  | .latest => if y = 0 then x else y
  | .peak => if fld x 0 13 < fld y 0 13 then y else x
  | .claimLog =>
    if y = 0 then x else BitVec.ofNat 32 (fld y 0 16 + satN 16 (fld x 16 16 + fld y 16 16) * 2 ^ 16)
  | .conflict =>
    if y = 0 then x else BitVec.ofNat 32 (satN 16 (fld x 0 16 + fld y 0 16) + fld y 16 6 * 2 ^ 16)

/-- Stamp an addition to an RC register of one copy. -/
def RcCopy.add (c : RcCopy) (a : Nat) (v : Word) : RcCopy :=
  { c with fresh := RegFile.put a (rcMerge (rcKind a) (c.fresh.get a 0) v) 0 c.fresh }

/-- Fold what an earlier tick stamped into what a read returns (R48). -/
def RcCopy.fold (c : RcCopy) : RcCopy :=
  { settled := c.fresh.foldl (fun f e => RegFile.put e.1 (rcMerge (rcKind e.1) (f.get e.1 0) e.2) 0 f) c.settled, fresh := [] }

/-- Stamp an addition to an RC register in both paths' copies (R6). -/
def rcAdd (s : State) (a : Nat) (v : Word) : State :=
  { s with rcSpi := s.rcSpi.add a v, rcPf := s.rcPf.add a v }

/-- Stamp one count in the field at bit `lo` of an RC counter register. -/
def rcCount (s : State) (a lo : Nat) : State := rcAdd s a (BitVec.ofNat 32 (2 ^ lo))

/-- Stamp an addition in one path's copy only; the other paths own none (R53). -/
def rcAddPath (s : State) (p : Path) (a : Nat) (v : Word) : State :=
  match p with
  | .spi => { s with rcSpi := s.rcSpi.add a v }
  | .pf => { s with rcPf := s.rcPf.add a v }
  | _ => s

/-- What a path's copy of an RC register reads as (R48). -/
def rcValue (s : State) (p : Path) (a : Nat) : Word :=
  match p with
  | .spi => s.rcSpi.settled.get a 0
  | .pf => s.rcPf.settled.get a 0
  | _ => 0

/-- Clear a path's copy of an RC register, but for what the current tick has stamped (R48). -/
def rcClear (s : State) (p : Path) (a : Nat) : State :=
  match p with
  | .spi => { s with rcSpi := { s.rcSpi with settled := RegFile.put a 0 0 s.rcSpi.settled } }
  | .pf => { s with rcPf := { s.rcPf with settled := RegFile.put a 0 0 s.rcPf.settled } }
  | _ => s

end Sys2Proof.Machine
end

