-- ==== Sys2Proof/Machine/Ops.lean ====
section
/-! DEFINITION. The operations every meaning is written over: the frame of a command, free values, time, vectors of like things. -/

namespace Sys2Proof.Machine

/-- Ticks of 200 ns in a microsecond, a millisecond and a second (R341, R347). -/
def ticksUs (n : Nat) : Nat := 5 * n
def ticksMs (n : Nat) : Nat := 5000 * n
def ticksS (n : Nat) : Nat := 5000000 * n

/-- Replace one of a fixed number of like things. -/
def vmod {α : Type} {n : Nat} (v : Vector α n) (i : Fin n) (f : α → α) : Vector α n := v.set i.val (f (v.get i)) i.isLt

/-- The Stroke count of the current moment: ticks since the always-on domain left reset (R341). -/
def stroke (s : State) : Nat := (s.now - s.strokeBase) % 2 ^ 64

/-- A free value, and the state in which the next draw gives another. -/
def draw (s : State) : Word × State := (Config.freeWord s.freeCtr, { s with freeCtr := s.freeCtr + 1 })

/-- Several free values in a row. -/
def drawMany : Nat → State → List Word × State
  | 0, s => ([], s)
  | n + 1, s =>
    let d := draw s
    let r := drawMany n d.2
    (d.1 :: r.1, r.2)

/-- Send something out of the block. -/
def emit (s : State) (o : Out) : State := { s with out := s.out ++ [o] }

/-- Whether a limit of one occurrence in any 1 s lets this one through (R370). -/
def limitOk (s : State) (key : Nat) : Bool :=
  match s.limits.find? (fun e => e.1 == key) with
  | some e => decide (e.2 + ticksS 1 ≤ s.now)
  | none => true

/-- Note that a limited occurrence was let through now. -/
def limitMark (s : State) (key : Nat) : State :=
  { s with limits := (key, s.now) :: s.limits.filter (fun e => e.1 != key) }

/-- The command's moment comes: time moves on to its stamp, never back (R341), what earlier ticks stamped in RC registers becomes readable (R48), and the outputs of the last command are gone. -/
def begin (t : Nat) (s : State) : State :=
  if s.now < t then { s with now := t, out := [], rcSpi := s.rcSpi.fold, rcPf := s.rcPf.fold }
  else { s with out := [] }

/-- Complete notices of the board queue with priority at least MIN_PRIO (R273). -/
def irqCount (s : State) : Nat :=
  let minPrio := rfld s 0x50004 16 2
  ((s.margin.queues.get 64).notices.filter (fun n => decide (minPrio ≤ n.prio.code))).length
    + (match s.margin.opened with
       | some n => if minPrio ≤ n.prio.code then 1 else 0
       | none => 0)

/-- BC_IRQ_CFG.THRESHOLD; 0 is treated as 1 (R264). -/
def irqThreshold (s : State) : Nat := max 1 (rfld s 0x50004 0 13)

/-- The raising and re-arming of the board interrupt (R273). Nothing moves while Folio is off. -/
def settleIrq (s : State) : State :=
  if ¬ s.folioOn then s
  else if irqCount s < irqThreshold s then { s with margin := { s.margin with irqArmed := true } }
  else if s.margin.irqArmed then { s with margin := { s.margin with irqArmed := false, irqPending := true } }
  else s

/-- STAT_A or STAT_B for a SEL field (R318). -/
def statPin (s : State) (sel : Nat) : Bool :=
  if sel = 1 then !s.input.pg else if sel = 2 then s.input.ew || s.input.pfw else false

/-- Whether any path holds a pass-device fault (R332). -/
def anyFetFail (s : State) : Bool := s.input.fetFail || s.power.toList.any (fun p => p.fetFail)

/-- The pins that follow from the rest of the state (R273, R318, R332). In Off Reservoir drives none (R401). -/
def pinsOf (s : State) : Pins :=
  { pg := decide (s.input.state ≠ .off) && !s.input.pg
    pfwN := s.input.pfw
    statA := statPin s (rfld s 0x2000C 0 2)
    statB := statPin s (rfld s 0x2000C 2 2)
    fetFailN := anyFetFail s
    irqN := s.folioOn && s.margin.irqPending && rfld s 0x50004 18 1 == 1
    inGate := s.input.gateOn }

/-- The outputs settle at the end of a command. -/
def settle (s : State) : State :=
  let s1 := settleIrq s
  { s1 with pins := pinsOf s1 }

/-- The frame of every command: its moment comes, its effect takes place, the outputs settle. A command never moves time past its stamp and never touches the queue. -/
def act (t : Nat) (s : State) (f : State → State) : Host.Outcome State Fault Refusal :=
  let s1 := begin t s
  .next { settle (f s1) with now := s1.now, pending := s.pending }

/-- Do `f` only where the guard holds: an event whose condition does not hold leaves the block as it stands. -/
def when (g : Bool) (s : State) (f : State → State) : State := if g then f s else s

/-- Apply `f` to every port in ascending order (R345). -/
def eachPort (s : State) (f : State → PortId → State) : State := (List.finRange 16).foldl f s

/-- Apply `f` to every ring VI in ascending order. -/
def eachRing (s : State) (f : State → RingId → State) : State := (List.finRange 64).foldl f s

/-- Apply `f` to every classic VI in ascending order. -/
def eachClassic (s : State) (f : State → ClassicId → State) : State := (List.finRange 5).foldl f s

/-- The cluster of an engine (R20). -/
def engineCluster (e : Fin 96) : Fin 24 := ⟨e.val / 4, by omega⟩

/-- An engine works: it is neither restarting nor in a failed cluster (R407, R408). -/
def engineOn (s : State) (e : Fin 96) : Bool := !(s.engines.get e).restarting && !(s.clusters.get (engineCluster e)).failed

/-- A tile of the cluster that serves port n works: 0 asynchronous Nib, 1 periodic Nib, 2 Ductus, 3 Ferrule. UP has no cluster of its own (R20). -/
def tileOn (s : State) (n : PortId) (tile : Fin 4) : Bool :=
  if h : n.val = 0 then true else engineOn s ⟨4 * (n.val - 1) + tile.val, by omega⟩

/-- The 40-bit location code of a place at a level: every field finer than the level is all ones (R24, R25). -/
def location (level d q cc t mm w b : Nat) : Nat :=
  let f := fun (need width v : Nat) => if level ≤ need then v else 2 ^ width - 1
  packNat [(39, f 6 1 d), (37, f 5 2 q), (32, f 4 5 cc), (28, f 3 4 t), (22, f 2 6 mm), (9, f 1 13 w), (0, f 1 9 b)]

/-- The Rubric domain of a register (R55). -/
def domainOf (a : Nat) : Nat := if a < 0x100000 then a / 0x10000 else if a < 0x200000 then 11 + (a - 0x100000) / 0x10000 else 27

/-- Whether a register is digested (R54). -/
def digested (a : Nat) : Bool :=
  match findRow a with
  | some r => r.digested
  | none => false

/-- An applied value moves other than by a commit; while a commit is in progress the domain is remembered (R60). -/
def setApplied (s : State) (a : Nat) (v : Word) : State :=
  if s.rubric.busy && digested a && reg s a != v && !s.rubric.foreign.contains (domainOf a) then
    setReg { s with rubric := { s.rubric with foreign := s.rubric.foreign ++ [domainOf a] } } a v
  else setReg s a v

end Sys2Proof.Machine
end

