-- ==== Sys2Proof/Machine/Operands.lean ====
section
/-! DEFINITION. The configuration fields as the block takes them: each field of its register, with the value the spec treats it as where it is written outside its range. -/

namespace Sys2Proof.Machine

/-! ### Recorder (R379) -/

def palSumS (s : State) : Nat := inRange 10 3600 600 (rfld s 0x40000 0 12)
def palSumEn (s : State) : Bool := rfld s 0x40000 12 1 == 1
def palFlushCapKib (s : State) : Nat := inRange 1 64 8 (rfld s 0x40000 16 7)
def palBurst (s : State) : Nat := inRange 1 255 8 (rfld s 0x40004 0 8)
def palRefillMs (s : State) : Nat := inRange 1 60000 1000 (rfld s 0x40004 8 16)

/-- The default histogram limits of quantity Q (R371). -/
def histDefault (q : Nat) : Int × Int :=
  match q with
  | 1 => (0, 51200)
  | 2 => (-1000, 15000)
  | 3 => (-640, 3200)
  | 6 => (-800, 5600)
  | 7 => (-640, 3200)
  | _ => (0, 8000)

/-- LO and HI of quantity Q, signed where the quantity is; HI not above LO is treated as the default (R371, R379). -/
def palHist (s : State) (q : Nat) : Int × Int :=
  let w := reg s (0x40040 + 4 * q)
  let rd : Nat → Int := fun x => if q = 2 ∨ q = 3 ∨ q = 6 ∨ q = 7 then sgn 16 x else (x : Int)
  let lo := rd (fld w 0 16)
  let hi := rd (fld w 16 16)
  if hi ≤ lo then histDefault q else (lo, hi)

/-! ### Margin (R264) -/

def hbMs (s : State) : Nat := inRange 100 60000 1000 (rfld s 0x50000 0 16)

/-- The path MARGIN_CFG.BC_READER selects (R264). -/
def bcReader (s : State) : Path := if rfld s 0x50000 16 1 = 1 then .pf else .spi

/-! ### Stroke and the loops (R348, R357, R361) -/

def discEn (s : State) : Bool := rfld s 0x800 0 1 == 1
def discKp (s : State) : Nat := rfld s 0x800 1 3
def discKi (s : State) : Nat := rfld s 0x800 4 4
def discFrozen (s : State) : Bool := rfld s 0x80C 0 1 == 1

def clFmin (s : State) (c : Fin 24) : Nat := inRange 12 48 12 (rfld s (0x30000 + 8 * c.val) 0 6)
def clFixed (s : State) (c : Fin 24) : Bool := rfld s (0x30000 + 8 * c.val) 14 1 == 1
def dvfsFrozen (s : State) (c : Fin 24) : Bool := rfld s 0x30300 c.val 1 == 1

/-- FMAX as treated, and capped at 36 while CAPPED (R357, R360); a cluster held at FMIN by R409 has no higher bound. -/
def clFmax (s : State) (c : Fin 24) : Nat :=
  let f := max (clFmin s c) (inRange 12 48 48 (rfld s (0x30000 + 8 * c.val) 8 6))
  let cl := s.clusters.get c
  if cl.heldMin then clFmin s c else if cl.capped then max (clFmin s c) (min f 36) else f

def eqCtleBound (s : State) : Nat := inRange 1 15 4 (rfld s 0x30504 0 4)
def eqDfeBound (s : State) : Nat := inRange 1 15 8 (rfld s 0x30504 8 4)
def eqFrozen (s : State) (l : Fin 23) : Bool := rfld s 0x30500 l.val 1 == 1

/-! ### Modes and Blotter (R383, R404) -/

def autoManaged (s : State) : Bool := rfld s 0x1004 0 1 == 1
def standbyWake (s : State) (n : PortId) : Bool := rfld s 0x1004 (16 + n.val) 1 == 1
def eccThresh (s : State) : Nat := let x := rfld s 0x2008 0 16; if x = 0 then 16 else x

/-! ### The card input (R313), currents in 10 mA and voltages in 10 mV -/

def budgetW (s : State) : Nat := rfld s 0x20000 0 12
def brownoutW (s : State) : Nat := rfld s 0x20000 16 12
def inTimer (s : State) : Nat := inRange 1 255 20 (rfld s 0x28000 16 8)
def inRetry (s : State) : Nat := rfld s 0x28000 24 3
def inCool (s : State) : Nat := inRange 10 26 20 (rfld s 0x28000 27 5)
def ewV (s : State) : Nat := 10 * inRange 300 500 330 (rfld s 0x28004 0 10)
def ewHyst (s : State) : Nat := 10 * inRange 5 63 20 (rfld s 0x28004 10 6)
def pgFallV (s : State) : Nat := 10 * inRange 180 340 220 (rfld s 0x28004 16 10)

/-! ### Port power (R321) -/

def shedPrio (s : State) (n : PortId) : Nat := pfld s n 0x800 0 4
def hardShed (s : State) (n : PortId) : Bool := pfld s n 0x800 4 1 == 1
def autoRetryBit (s : State) (n : PortId) : Bool := pfld s n 0x800 5 1 == 1
def retryMax (s : State) (n : PortId) : Nat := pfld s n 0x800 6 3
def guaranteeW (s : State) (n : PortId) : Nat := inRange 0 240 0 (pfld s n 0x800 16 8)
def retryOff (s : State) (n : PortId) : Nat := inRange 1 255 10 (pfld s n 0x800 24 8)
def thermSource (s : State) (n : PortId) : Nat := let x := pfld s n 0x804 0 2; if x = 3 then 0 else x
def ambFromDie (s : State) (n : PortId) : Bool := pfld s n 0x804 2 1 == 1
def tAmb (s : State) (n : PortId) : Nat := inRange 0 125 70 (pfld s n 0x804 4 8)
def r25 (s : State) (n : PortId) : Nat := inRange 1 1023 80 (pfld s n 0x808 0 10)
def rth (s : State) (n : PortId) : Nat := inRange 1 2047 400 (pfld s n 0x808 10 11)
def thermTau (s : State) (n : PortId) : Nat := inRange 1 2047 300 (pfld s n 0x808 21 11)
def tStart (s : State) (n : PortId) : Nat := inRange 25 175 100 (pfld s n 0x80C 0 8)

/-- T_TRIP: T_START + 10 to 200 °C; outside it, 150, or T_START + 10 while T_START exceeds 140 (R321). -/
def tTrip (s : State) (n : PortId) : Nat :=
  let a := tStart s n
  inRange (a + 10) 200 (if 140 < a then a + 10 else 150) (pfld s n 0x80C 8 8)

/-- D_MIN, 64–256; the field of eight bits holds 256 as no value, so a value below 64 is treated as 128 (R321). -/
def dMin (s : State) (n : PortId) : Nat := inRange 64 256 128 (pfld s n 0x80C 16 8)
def curveRel (s : State) (n : PortId) : Bool := pfld s n 0x8000 10 1 == 1
def portCool (s : State) (n : PortId) : Nat := inRange 10 26 20 (pfld s n 0x8000 11 5)
def derateEn (s : State) (n : PortId) : Bool := pfld s n 0x8000 16 1 == 1
def fuseFast (s : State) (n : PortId) : Nat := let x := pfld s n 0x8004 0 16; if x = 0 then 1000 else x
def inFast (s : State) : Nat := let x := rfld s 0x28008 0 16; if x = 0 then 5000 else x

/-- A breaker breakpoint: CURRENT, and the trip time MANT × 2^EXP in µs, 0 when unused (R325). -/
def breakpoint (w : Word) : Nat × Nat := (fld w 0 16, fld w 16 12 * 2 ^ fld w 28 4)

/-- The eight breakpoints of a path's curve in force. -/
def curveOf (s : State) (p : PowerPath) : List (Nat × Nat) :=
  match p with
  | .input => (List.range 8).map (fun k => breakpoint (reg s (0x28020 + 4 * k)))
  | .port n => (List.range 8).map (fun k => breakpoint (reg s (portReg n (0x8020 + 4 * k))))

/-- A curve is valid when its used breakpoints come first, at least one, with thresholds strictly ascending and times not increasing (R325). -/
def curveAscends : List (Nat × Nat) → Bool
  | (c1, t1) :: (c2, t2) :: rest => decide (c1 < c2) && decide (t2 ≤ t1) && curveAscends ((c2, t2) :: rest)
  | _ => true

def curveValid (bps : List (Nat × Nat)) : Bool :=
  let used := bps.takeWhile (fun b => b.2 != 0)
  !used.isEmpty && (bps.drop used.length).all (fun b => b.2 == 0) && curveAscends used

end Sys2Proof.Machine
end

