-- ==== Sys2Proof/Machine/HostViews.lean ====
section
/-! DEFINITION. What the host side of the block reads as: ownership, Nibs, Ductus, Inkwell, transports, ring VIs, classic hubs (R66, R98, R99, R142, R163, R194–R196, R218, R236, R243, R249). -/

namespace Sys2Proof.Machine

/-! ### Ring VIs and their bindings -/

/-- A register of a VI page (R94). -/
def viReg (s : State) (v : RingId) (off : Nat) : Word := reg s (viBase v.val + off)

/-- VI_BIND(v).KIND; 3 is treated as 0 (R126). -/
def viKind (s : State) (v : RingId) : Nat := let k := rfld s (0x72000 + 4 * v.val) 0 2; if k = 3 then 0 else k

/-- VI_BIND(v).FUNCTION (R126). -/
def viFn (s : State) (v : RingId) : Fin 16 := ⟨rfld s (0x72000 + 4 * v.val) 4 4, by unfold rfld fld; exact Nat.mod_lt _ (by decide)⟩

/-- Whether a VI is carried by RoCEv2. -/
def viRoce (s : State) (v : RingId) : Bool := viKind s v == 2

/-- VI_CTRL.CHECK_EN (R95). -/
def checkEn (s : State) (v : RingId) : Bool := bitOf (viReg s v 0x100) 1

/-- The base of a VI's ring from its two registers, low bits [5:0] reserved (R94). -/
def ringBase (s : State) (v : RingId) (off : Nat) : Nat := (viReg s v off).toNat / 64 * 64 + (viReg s v (off + 4)).toNat * 2 ^ 32

/-- k of the command ring and of the event ring (R94). -/
def cmdLog (s : State) (v : RingId) : Nat := fld (viReg s v 0x110) 0 5
def evtLog (s : State) (v : RingId) : Nat := fld (viReg s v 0x120) 0 5

/-- The endpoint at a context index. -/
def findEp (s : State) (ctx : Nat) : Option Endpoint := s.eps.find? (fun e => e.ctx == ctx)

/-- Whether a VI owns a port. -/
def viOwns (s : State) (v : RingId) (n : PortId) : Bool := (s.own.get n).owner == .ring v

/-- The transfers of a VI fetched and not completed (R98, R107). -/
def inflight (s : State) (v : RingId) : Nat := (s.eps.map (fun e => (e.queue.filter (fun x => x.v == v)).length)).sum

/-! ### Ownership (R66, R64) -/

/-- PORTn.OWN_STATUS (R66). -/
def ownStatus (s : State) (n : PortId) : Word :=
  let o := s.own.get n
  pack [(0, o.owner.code), (8, o.state.code), (16, o.generation % 65536)]

/-- PORTn.LEASE_LEFT (R64). -/
def leaseLeft (s : State) (n : PortId) : Word :=
  let o := s.own.get n
  match o.owner with
  | .none => 0
  | .classic _ => 0xFFFFFFFF
  | .ring _ => loW ((o.expiry.getD 0) - s.now)

/-! ### Nibs (R163, R82) -/

/-- The root SuperSpeed link is in U0, U1 or U2 (R163). -/
def ssUp (b : Nib) : Bool := b.phaseS == .u0 || b.phaseS == .u1 || b.phaseS == .u2

/-- A root path is being reset. -/
def nibResetting (b : Nib) : Bool :=
  (match b.phase2 with
   | .reset _ => true
   | _ => false) || (match b.phaseS with
   | .resetting _ => true
   | _ => false)

/-- The tree is suspended, or resuming (R186: LINK is 2 once suspended, and 1 again when the resume completes). -/
def nibSuspended (b : Nib) : Bool :=
  match b.susp with
  | .suspended => true
  | .resumeK _ => true
  | .resuming _ => true
  | _ => false

/-- LINK, in the codes of R82. -/
def linkCode (b : Nib) : Nat :=
  if b.phase2 = .stuck then 5
  else if nibResetting b then 4
  else if nibSuspended b then 2
  else if b.phase2 = .disabled then 3
  else if ssUp b || b.connect then 1 else 0

/-- The port speed (R166). -/
def speedCode (b : Nib) : Nat := if ssUp b then b.speedS else b.speed2

/-- The device records of a port. -/
def portDevices (s : State) (n : PortId) : List Device := s.devices.filter (fun d => d.port == n)

/-- The endpoints of a port. -/
def portEps (s : State) (n : PortId) : List Endpoint := s.eps.filter (fun e => e.port == n)

/-- PORTn.NIB_STATUS (R163). -/
def nibStatus (s : State) (n : PortId) : Word :=
  let b := s.nibs.get n
  pack [(0, linkCode b), (4, speedCode b), (8, satN 7 (portDevices s n).length), (15, bnat (ssUp b)), (16, bnat b.connect),
        (17, bnat b.preview.isSome), (20, satN 4 b.backoff)]

/-! ### Ductus (R194–R196, R204, R205) -/

/-- The record of an endpoint's device. -/
def epDevice (s : State) (e : Endpoint) : Option Device := s.devices.find? (fun d => d.port == e.port && d.addr == e.dev)

/-- Whether an endpoint is on the port's SuperSpeed path. -/
def epSs (s : State) (e : Endpoint) : Bool :=
  match epDevice s e with
  | some d => decide (4 ≤ d.speed)
  | none => false

/-- The slot budget of a root-link speed (R204). -/
def slotBudget (speed : Nat) : Nat :=
  match speed with
  | 1 => 1300
  | 2 => 10800
  | 3 => 48000
  | 4 => 56250
  | _ => 136363

/-- The root-link speed of one path of a port. -/
def pathSpeed (s : State) (n : PortId) (ss : Bool) : Nat := if ss then (s.nibs.get n).speedS else (s.nibs.get n).speed2

/-- The charge of schedule slot k on one path of a port (R205). -/
def slotCharge (s : State) (n : PortId) (ss : Bool) (k : Nat) : Nat :=
  ((portEps s n).map (fun e =>
    match e.admission with
    | some a => if epSs s e = ss then ((a.slots.filter (fun x => x.1 == k)).map (·.2)).sum else 0
    | none => 0)).sum

/-- Admitted periodic endpoints of a port. -/
def admittedCount (s : State) (n : PortId) : Nat := ((portEps s n).filter (fun e => e.admission.isSome)).length

/-- PORTn.DUCTUS_LOAD (R194). -/
def ductusLoad (s : State) (n : PortId) : Word :=
  let mille := fun (ss : Bool) => ((List.range 32).map (fun k => cdiv (1000 * slotCharge s n ss k) (slotBudget (pathSpeed s n ss)))).foldl max 0
  pack [(0, satN 10 (max (mille false) (mille true))), (16, satN 10 (admittedCount s n))]

/-- An endpoint's age in ticks (R200). -/
def epAge (s : State) (e : Endpoint) : Nat :=
  e.age + (match e.ageSince with
    | some t => s.now - t
    | none => 0)

/-- PORTn.DUCTUS_AGE (R194). -/
def ductusAge (s : State) (n : PortId) : Word :=
  let es := (portEps s n).filter (fun e => e.ageSince.isSome)
  pack [(0, satN 16 ((es.map (fun e => epAge s e / 5000)).foldl max 0)), (16, satN 12 ((portEps s n).filter (fun e => e.promoted)).length)]

/-- PORTn.TIMELINE (R194). -/
def timelineReg (s : State) (n : PortId) : Word :=
  let b := s.nibs.get n
  pack [(0, b.tlOwner.code), (7, bnat b.slewing), (8, b.offsetUf % 16384)]

/-- Periodic Inkwell space admitted, in bytes (R205). -/
def admittedSpace (s : State) : Nat := (s.eps.map (fun e =>
  match e.admission with
  | some a => a.space
  | none => 0)).sum

/-- The periodic reservation of a bank, in units of 2^-18 cycle per 125 µs (R205). -/
def bankReserved (s : State) (b : Nat) : Nat := (s.eps.map (fun e =>
  match e.admission with
  | some a => if a.pieces.any (fun p => p.1 == b) then a.cycles else 0
  | none => 0)).sum

/-- The bank with the highest reservation, the lowest on a tie. -/
def peakBank (s : State) : Nat := (List.range 64).foldl (fun best b => if bankReserved s best < bankReserved s b then b else best) 0

/-- TL_FREEZE bit v (R195). -/
def tlFrozen (s : State) (v : RingId) : Bool :=
  if v.val < 32 then bitOf (reg s 0x64500) v.val else bitOf (reg s 0x64504) (v.val - 32)

/-- TL_STATUS.STATE (R196). -/
def TlState.code : TlState → Nat
  | .freeRun => 0
  | .acquiring => 1
  | .locked => 2
  | .holdover => 3

/-- TL_STATUS(v) (R196). -/
def tlStatus (s : State) (v : RingId) : Word :=
  let t := s.timelines.get v
  pack [(0, t.state.code), (2, bnat (tlFrozen s v)), (3, bnat t.refValid), (4, t.fnOffset % 2048), (16, satSgn 16 t.adj)]

/-- VI_SCHED(v): WEIGHT and AGE_MS as treated (R195). -/
def viWeight (s : State) (v : RingId) : Nat := max 1 (rfld s (0x64100 + 4 * v.val) 0 4)
def viAgeMs (s : State) (v : RingId) : Nat := max 1 (rfld s (0x64100 + 4 * v.val) 8 8)

/-! ### Inkwell (R249, R250) -/

/-- The owners that draw on the shared pool. -/
def poolOwners : List Owner := (List.finRange 64).map Owner.ring ++ (List.finRange 5).map Owner.classic

/-- The limits register of an owner. -/
def inkReg (s : State) (x : Owner) : Word :=
  match x with
  | .ring v => reg s (0x60100 + 4 * v.val)
  | .classic c => reg s (0x60200 + 4 * c.val)
  | .none => 0

/-- LIMIT_KIB. -/
def inkLimit (s : State) (x : Owner) : Nat := fld (inkReg s x) 0 13

/-- MIN_KIB as treated: at most LIMIT_KIB, and 0 while MIN_OVER (R250). -/
def inkMin (s : State) (x : Owner) : Nat := if s.ink.minOver then 0 else min (fld (inkReg s x) 16 13) (inkLimit s x)

/-- Blocks an owner holds (R251). -/
def usedBlocks (s : State) (x : Owner) : Nat := (s.ink.blocks.filter (fun b => b.owner == x)).length

/-- Blocks of the shared pool in use: all but those of the device's own reserve (R247). -/
def poolUsed (s : State) : Nat := (s.ink.blocks.filter (fun b => b.owner != .none)).length

/-- Bytes a list of data writes holds. -/
def dataBytes (d : List (Nat × List Byte)) : Nat := (d.map (fun x => x.2.length)).sum

/-- Bytes VI v holds only for replay (R122). -/
def retainedBytes (s : State) (v : RingId) : Nat := ((s.vis.get v).window.map (fun c => dataBytes c.data)).sum

/-- Bytes of a stash. -/
def stashBytes (st : List StashItem) : Nat := (st.map (fun i =>
  match i with
  | .packet bs => bs.length
  | .mark _ => 0)).sum

/-- Live payload bytes of an endpoint (R251). -/
def epBytes (e : Endpoint) : Nat := stashBytes e.stash + (e.queue.map (fun x => x.held.length + dataBytes (x.wrote.map (·.2)))).sum

/-- Live payload bytes in all of Inkwell (R249). -/
def liveBytes (s : State) : Nat :=
  (s.eps.map epBytes).sum + ((List.finRange 64).map (fun v => retainedBytes s v)).sum + 16 * (s.func.queue.length + s.func.replies.length)

/-- The sum of (level × duration) over the last second of a history, newest first. -/
def occIntegral (now : Nat) : Nat → List (Nat × Nat) → Nat
  | _, [] => 0
  | until_, (t, bytes) :: rest =>
    let lo := max t (now - 5000000)
    (if lo < until_ then bytes * (until_ - lo) else 0) + occIntegral now (min until_ t) rest

/-- INK_AVG_OCC (R249). -/
def inkAvg (s : State) : Nat := occIntegral s.now s.now s.ink.occ / 5000000

/-- INK_STATUS (R250). -/
def inkStatus (s : State) : Word :=
  pack [(0, satN 13 (cdiv (poolUsed s) 2)), (13, bnat s.ink.minOver), (14, rfld s 0x60008 0 1), (16, s.ink.keyGen % 65536)]

/-! ### Transports (R130, R135, R142) -/

/-- The STATE code of QP_STATUS (R142). -/
def QpState.code : QpState → Nat
  | .reset => 0
  | .connecting => 1
  | .ready => 2
  | .error => 3

/-- QP_STATUS(q) (R142). -/
def qpStatus (s : State) (q : Fin 128) : Word :=
  let x := s.qps.get q
  pack [(0, x.state.code), (8, x.vi.val), (14, bnat ((s.vis.get x.vi).qp == some q)), (15, bnat x.lastPort), (16, x.cause)]

/-- PCIE_STATUS (R130). -/
def pcieStatus (s : State) : Word :=
  let p := s.pcie
  pack [(0, bnat p.link), (1, p.speed % 8), (4, p.width % 16), (8, p.numVfs % 16), (12, bnat p.vfEnable)]

/-- VI_BIND(v) with its read-only fields (R126). -/
def viBind (s : State) (v : RingId) : Word :=
  let w := (reg s (0x72000 + 4 * v.val)).toNat
  match (s.vis.get v).qp with
  | some q => BitVec.ofNat 32 (w + q.val * 2 ^ 16 + 2 ^ 23)
  | none => BitVec.ofNat 32 w

/-! ### The VI status part (R98, R99) -/

/-- VI_STATUS (R98). -/
def viStatus (s : State) (v : RingId) : Word :=
  let x := s.vis.get v
  pack [(0, bnat x.enabled), (1, bnat x.unreachable), (2, bnat x.resync), (3, bnat x.evtFull), (4, bnat x.cfgError),
        (5, bnat (decide (73728 ≤ (viReg s v 0x130).toNat)))]

/-- OLDEST_SEQ: the oldest of the retained completions, NEXT_SEQ where there is none (R98, R122). -/
def oldestSeqOf (x : Vi) : Nat :=
  match x.window with
  | c :: _ => c.seq
  | [] => x.nextSeq

/-- Whether a sink is attached on a port's CC pins (R82, R99). -/
def sinkAttached (s : State) (n : PortId) : Bool :=
  !(s.pd.get n).detaching && match (s.pd.get n).state with
  | .startup => true
  | .sendCaps => true
  | .implicit => true
  | .negotiate => true
  | .transition => true
  | .ready => true
  | .hardReset => true
  | .powerOff => true
  | .debugUp => true
  | _ => false

/-- The VBUS switch of a port is on. -/
def vbusOn (s : State) (n : PortId) : Bool := (s.power.get n).phase == .on

/-- The breaker or the fast trip has latched (R99). -/
def portTripped (s : State) (n : PortId) : Bool := (s.power.get n).phase == .tripped || (s.power.get n).latched

/-- An explicit contract is in force. -/
def explicitContract (s : State) (n : PortId) : Bool := (s.pd.get n).contract.kind != 0

/-- The implicit current of an Rp level, in 10 mA (R325). -/
def rpMa10 (level : Nat) : Nat := if level = 0 then 90 else if level = 1 then 150 else if level = 2 then 300 else 0

/-- The voltage in force, in mV: that of the explicit contract, else 5 V while the VBUS pair is on, else none (R278, R325). -/
def contractMv (s : State) (n : PortId) : Nat :=
  let c := (s.pd.get n).contract
  if c.kind != 0 then c.mv else if (s.power.get n).gateOn then 5000 else 0

/-- The current in force, in 10 mA. -/
def contractMa10 (s : State) (n : PortId) : Nat :=
  let c := (s.pd.get n).contract
  if c.kind != 0 then c.ma10 else if (s.power.get n).gateOn then rpMa10 (s.pd.get n).rpNow else 0

/-- PORT_VIEW(n) of VI v: what OWN_STATUS reads where v owns the port or sees every owner (R99). -/
def portView (s : State) (v : RingId) (n : PortId) : Word :=
  if viOwns s v n || rfld s (0x71000 + 8 * v.val) 1 1 == 1 then ownStatus s n else 0

/-- PORT_POWER(n) of VI v (R99). -/
def portPower (s : State) (v : RingId) (n : PortId) : Word :=
  if viOwns s v n then
    let b := s.nibs.get n
    pack [(0, bnat (sinkAttached s n)), (1, bnat (vbusOn s n)), (2, bnat (explicitContract s n)), (3, bnat (portTripped s n)),
          (4, bnat (s.power.get n).shed), (8, linkCode b), (12, speedCode b), (16, satN 16 (contractMv s n))]
  else 0

/-- OWNED_MASK (R98). -/
def ownedMask (s : State) (v : RingId) : Word := pack ((List.finRange 16).map (fun n => (n.val, bnat (n.val != 0 && viOwns s v n))))

/-- The status part of a VI page (R98), and VI_TIME_STATUS (R197). -/
def viewVi (s : State) (v : RingId) (off : Nat) : Word :=
  let x := s.vis.get v
  if off = 0x148 then tlStatus s v
  else if off = 0x800 then viStatus s v
  else if off = 0x804 then loW x.nextSeq
  else if off = 0x808 then loW (oldestSeqOf x)
  else if off = 0x80C then pack [(0, x.cmdHead % 65536), (16, bnat x.cmdLap)]
  else if off = 0x810 then pack [(0, x.evtTail % 65536), (16, bnat x.evtLap)]
  else if off = 0x814 then loW (satN 11 (inflight s v))
  else if off = 0x818 then loW (satN 32 x.dbIgnored)
  else if off = 0x81C then loW (satN 32 x.descErrors)
  else if off = 0x820 then ownedMask s v
  else if h : 0x840 ≤ off ∧ off < 0x87C then portView s v ⟨(off - 0x840) / 4 + 1, by omega⟩
  else if h : 0x880 ≤ off ∧ off < 0x8BC then portPower s v ⟨(off - 0x880) / 4 + 1, by omega⟩
  else if h : 0x8C0 ≤ off ∧ off < 0x8FC then
    let n : PortId := ⟨(off - 0x8C0) / 4 + 1, by omega⟩
    if viOwns s v n then leaseLeft s n else 0
  else 0

/-! ### Classic hubs (R218, R236, R243) -/

/-- DP15 is the Scribe function (R216, R242). -/
def dp15Function (s : State) : Bool := rfld s 0xA0000 0 1 == 1

/-- CVI_STATUS(c) (R218). -/
def cviStatus (s : State) (c : ClassicId) : Word :=
  let x := s.cvis.get c
  pack ([(0, bnat x.exists_), (1, bnat (x.config2 != 0 || x.configS != 0)), (2, bnat x.ssLink), (3, x.speed2), (6, bnat x.suspended),
         (7, bnat x.inReset), (8, x.upstream.val)]
        ++ (List.finRange 16).map (fun n => (16 + n.val, bnat (n.val != 0 && (s.own.get n).owner == .classic c))))

/-- FUNC_STATUS (R243). -/
def funcStatus (s : State) : Word :=
  let o := (s.own.get 15).owner
  let present := dp15Function s && (match o with
    | .classic _ => true
    | _ => false)
  pack [(0, bnat present), (1, bnat (s.func.state == 3)), (2, bnat s.func.outHalt), (3, bnat s.func.inHalt), (4, satN 6 s.func.queue.length),
        (16, if present then o.code else 0)]

/-- The Ligature carries the port's traffic: a classic owner whose upstream runs at HS, and an FS or LS device (R230). -/
def ligActive (s : State) (n : PortId) : Bool :=
  match (s.own.get n).owner with
  | .classic c => (s.own.get n).state == .owned && (s.cvis.get c).speed2 == 3 && (s.nibs.get n).connect && decide ((s.nibs.get n).speed2 ≤ 2)
  | _ => false

/-- LIG_STATUS(n) (R236). -/
def ligStatus (s : State) (n : PortId) : Word :=
  let l := s.ligs.get n
  pack [(0, l.bufs.length), (5, bnat (ligActive s n)), (6, bnat l.stopped), (8, satN 11 l.load)]

/-! ### By address -/

/-- The host-side registers of a port block. -/
def viewPortHost (s : State) (n : PortId) (off : Nat) : Word :=
  if off = 0x208 then ownStatus s n
  else if off = 0x20C then leaseLeft s n
  else if off = 0x408 then nibStatus s n
  else if off = 0x414 then
    let b := s.nibs.get n
    if b.backoff = 0 then 0 else loW (satN 16 (cdiv (b.retestAt - s.now) 5000))
  else if off = 0x604 then ductusLoad s n
  else if off = 0x608 then ductusAge s n
  else if off = 0x610 then timelineReg s n
  else 0

/-- The read-only registers of the Inkwell and context store block (R195, R249). -/
def viewInk (s : State) (a : Nat) : Word :=
  if a = 0x60010 then inkStatus s
  else if a = 0x60014 then loW (satN 25 (inkAvg s))
  else if h : 0x60300 ≤ a ∧ a < 0x60400 then
    let v : RingId := ⟨(a - 0x60300) / 4, by omega⟩
    pack [(0, satN 13 (cdiv (usedBlocks s (.ring v)) 2)), (16, satN 13 (cdiv (retainedBytes s v) 1024))]
  else if h : 0x60400 ≤ a ∧ a < 0x60414 then
    pack [(0, satN 13 (cdiv (usedBlocks s (.classic ⟨(a - 0x60400) / 4, by omega⟩)) 2))]
  else if a = 0x64000 then loW (satN 14 (cdiv (admittedSpace s) 1024))
  else if a = 0x64004 then let b := peakBank s; pack [(0, satN 15 (cdiv (bankReserved s b) (2 ^ 18))), (16, b)]
  else if h : 0x64204 ≤ a ∧ a < 0x64400 then tlStatus s ⟨(a - 0x64204) / 8, by omega⟩
  else if h : 0x64600 ≤ a ∧ a < 0x64700 then BitVec.ofNat 32 (satSgn 32 (s.timelines.get ⟨(a - 0x64600) / 4, by omega⟩).phase)
  else 0

/-- The read-only registers of the Quire and PCIe blocks (R130, R135). -/
def viewQuire (s : State) (a : Nat) : Word :=
  if h : a = 0x80004 ∨ a = 0x80104 then
    let e := s.eth.get (if a = 0x80004 then 0 else 1)
    pack [(0, bnat e.link), (1, bnat e.lock), (2, bnat e.fec), (3, bnat e.lanUp)]
  else if a = 0x80304 then pack [(0, bnat (s.eth.get 0).lanUp), (1, bnat (s.eth.get 1).lanUp), (16, satN 13 s.prp.table.length)]
  else if h : 0x80800 ≤ a ∧ a < 0x80C00 then qpStatus s ⟨(a - 0x80800) / 8, by omega⟩
  else if a = 0x80C04 then pack [(0, bnat s.ptp.locked), (1, bnat s.ptp.portB), (2, bnat s.ptp.failedOver), (8, satN 4 s.ptp.masters)]
  else if a = 0x80C08 then BitVec.ofNat 32 (satSgn 32 s.ptp.offset)
  else if a = 0x90010 then pcieStatus s
  else if a = 0x90024 then pack [(0, bnat s.pcie.ptmEnable), (1, bnat s.pcie.ptmValid), (16, satN 16 s.pcie.ptmFailed)]
  else 0

/-- The read-only registers of the classic hub block (R216). -/
def viewHub (s : State) (a : Nat) : Word :=
  if h : 0xA0040 ≤ a ∧ a < 0xA0054 then cviStatus s ⟨(a - 0xA0040) / 4, by omega⟩
  else if a = 0xA0060 then funcStatus s
  else if h : 0xA0100 ≤ a ∧ a < 0xA013C then ligStatus s ⟨(a - 0xA0100) / 4 + 1, by omega⟩
  else 0

end Sys2Proof.Machine
end

