-- ==== Sys2Proof/Machine/Flags.lean ====
section
/-! DEFINITION. What each read-only register reads as: every status word and flag of the maps, computed from the state (R50–R60, R98, R196, R264, R280, R313, R321, R348, R357, R379, R383, R404, R416). -/

namespace Sys2Proof.Machine

/-- Whether an address is held in Reservoir: stall class V (R34). -/
def classV (a : Nat) : Bool :=
  let k := splitAddr a
  (decide (0x28000 ≤ a) && decide (a < 0x30000)) || (k.1 == .port && decide (0x8000 ≤ k.2.2))

/-- RUBRIC_STATUS (R60). -/
def rubricStatus (s : State) : Word :=
  pack [(0, bnat s.rubric.busy), (1, bnat s.rubric.dirty), (2, bnat (!s.staged.isEmpty)), (4, s.rubric.lastResult)]

/-- MODE as software can see it: 3 or higher, since Folio is unpowered in the others (R51). -/
def modeReg (s : State) : Word := loW (max 3 s.modes.mode.code)

/-- HOLDUP_REQ in ms: 3 ms + 4 t_PP + (32 FLUSH_CAP_KIB + 2)(2 t_BP + 2 t_PP), rounded up; t_PP in 25 µs units, t_BP in 5 µs units (R396). -/
def holdupReq (s : State) : Nat :=
  let pp := 25 * s.modes.tpp
  let bp := 5 * s.modes.tbp
  cdiv (3000 + 4 * pp + (32 * palFlushCapKib s + 2) * (2 * bp + 2 * pp)) 1000

/-- MODE_STATUS (R383). -/
def modeStatus (s : State) : Word :=
  pack [(0, s.modes.prev.code), (4, s.modes.lastReq), (7, bnat s.modes.parked), (8, bnat s.modes.warm), (9, bnat s.modes.defaults)]

/-- BOOT_STATUS (R383). -/
def bootStatus (s : State) : Word :=
  let m := s.modes
  pack [(0, bnat m.fwSlotB), (1, bnat m.cfgSlotB), (2, bnat m.fwFallback), (3, bnat m.cfgFallback), (4, bnat m.dirCopy1),
        (5, bnat m.uncommitted), (6, m.hold), (8, satN 10 m.bootMs)]

/-- IMG_STATUS (R395). -/
def imgStatus (s : State) : Word :=
  pack [(0, bnat s.img.opened), (1, bnat s.img.busy), (2, bnat s.img.cfg), (3, bnat s.img.slotB), (4, s.img.result),
        (8, satN 13 (s.img.words.length / 256))]

/-- Bit c of CLUSTER_FAILED (R404). -/
def clusterFailedWord (s : State) : Word := pack ((List.finRange 24).map (fun c => (c.val, bnat (s.clusters.get c).failed)))

/-- QUAR_STATUS (R404). -/
def quarStatus (s : State) : Word :=
  let b := s.blot
  pack [(0, b.portMask), (16, bnat b.inputQ), (17, bnat b.hosts), (18, bnat b.classic), (24, bnat b.causeFet), (25, bnat b.causeLink),
        (26, bnat b.causeTemp), (27, bnat b.causeCluster)]

/-- BLOT_FAULT_HI (R404). -/
def blotFaultHi (s : State) : Word :=
  pack [(0, s.blot.faultLoc / 2 ^ 32), (8, s.blot.faultLevel), (11, s.blot.faultClass), (15, bnat s.blot.faultValid)]

/-- STROKE_DISC_STATUS (R348). -/
def discStatus (s : State) : Word :=
  let st : Nat := match s.disc.state with
    | .freeRun => 0
    | .acquiring => 1
    | .locked => 2
    | .holdover => 3
  pack [(0, st), (2, bnat (discFrozen s)), (16, satSgn 16 s.disc.corr)]

/-- The read-only registers of the global block. -/
def viewGlobal (s : State) (a : Nat) : Word :=
  if a = 0x0 then 0x0A471664
  else if a = 0x4 then 0x101
  else if a = 0x8 then s.sealUnit.fwSet
  else if a = 0xC then s.sealUnit.fwBuild
  else if a = 0x10 then loW s.sealUnit.uniqueId.toNat
  else if a = 0x14 then hiW s.sealUnit.uniqueId.toNat
  else if a = 0x20 then modeReg s
  else if a = 0x40 then loW (stroke s)
  else if a = 0x44 then hiW (stroke s)
  else if a = 0x208 then s.rubric.epoch
  else if a = 0x20C then rubricStatus s
  else if a = 0x210 then loW s.rubric.digest.toNat
  else if a = 0x214 then hiW s.rubric.digest.toNat
  else if a = 0x218 then loW s.rubric.commitStroke
  else if a = 0x21C then hiW s.rubric.commitStroke
  else if h : 0x300 ≤ a ∧ a < 0x300 + 8 * 27 then
    let c := (s.rubric.domainCrc[(a - 0x300) / 8]'(by omega)).toNat
    if a % 8 = 0 then loW c else hiW c
  else if h : 0x400 ≤ a ∧ a < 0x400 + 8 * 27 then
    let c := (s.rubric.committedCrc[(a - 0x400) / 8]'(by omega)).toNat
    if a % 8 = 0 then loW c else hiW c
  else if a = 0x804 then discStatus s
  else if a = 0x808 then BitVec.ofNat 32 (satSgn 32 s.disc.offset)
  else if a = 0x814 then loW s.disc.sampleStroke
  else if a = 0x818 then hiW s.disc.sampleStroke
  else if a = 0x81C then loW s.disc.sampleSec
  else if a = 0x820 then BitVec.ofNat 32 (s.disc.sampleSec / 2 ^ 32 % 2 ^ 16)
  else if a = 0x824 then pack [(0, s.disc.sampleNs % 2 ^ 30), (31, bnat s.disc.sampleValid)]
  else if a = 0x1008 then modeStatus s
  else if a = 0x100C then bootStatus s
  else if a = 0x1010 then loW (satN 16 (holdupReq s))
  else if a = 0x1028 then imgStatus s
  else if a = 0x2000 then loW s.blot.faultLoc
  else if a = 0x2004 then blotFaultHi s
  else if a = 0x2034 then clusterFailedWord s
  else if a = 0x2038 then quarStatus s
  else 0

/-- SEAL_STATUS.ARM_LEFT_S: whole seconds of the 600 s that are left (R416, R419). -/
def armLeft (s : State) : Nat :=
  if s.sealUnit.armed then cdiv (s.sealUnit.armedAt + ticksS 600 - s.now) (ticksS 1) else 0

/-- The read-only registers of the Seal block (R416). -/
def viewSeal (s : State) (a : Nat) : Word :=
  let u := s.sealUnit
  if a = 0x10000 then
    pack [(0, bnat u.ownerKey.isSome), (1, bnat u.armed), (2, bnat s.pal.returnLock), (8, u.returnCount), (16, armLeft s)]
  else if a = 0x10004 then pack [(0, u.svn % 256), (8, u.floor % 256)]
  else if a = 0x10014 then pack [(0, bnat u.keyOp.isSome), (4, u.keyResult)]
  else if h : 0x10100 ≤ a ∧ a < 0x10200 then
    match u.keys[(a - 0x10100) / 4]'(by omega) with
    | some k => pack [(0, 1), (8, (Config.keyCheck k).toNat)]
    | none => 0
  else 0

/-- IN_STATUS.STATE (R313). -/
def InState.code : InState → Nat
  | .off => 0
  | .seating => 1
  | .inrush => 2
  | .on => 3
  | .lost => 4
  | .retryWait => 5
  | .latched => 6

/-- IN_STATUS (R313). -/
def inStatus (s : State) : Word :=
  let i := s.input
  pack [(0, i.state.code), (3, bnat i.pg), (4, bnat i.ew), (5, bnat i.pfw), (6, bnat i.fetFail), (7, bnat (i.seatA && i.seatB)),
        (8, i.retries), (11, i.lossCause)]

/-- The committed power of a port in units of 10 µW: the greater of its share in force and the power of its contract in force (R337). -/
def committedU (s : State) (n : PortId) : Nat :=
  let c := (s.pd.get n).contract
  max (50000 * (s.power.get n).share) (if c.kind = 0 then 0 else c.mv * c.ma10)

/-- Committed power in whole watts. -/
def committedW (s : State) (n : PortId) : Nat := committedU s n / 100000

/-- The share in whole watts, as SHARE_W shows it. -/
def shareW (s : State) (n : PortId) : Nat := (s.power.get n).share / 2

/-- The brownout budget is in force: in Brownout, and in Quarantine while the early warning stands, where R338 still acts (R336, R384). -/
def brownoutBudget (s : State) : Bool := s.modes.mode == .brownout || (s.modes.mode == .quarantine && s.input.ew)

/-- The budget in force (R336). -/
def budgetInForce (s : State) : Nat := if brownoutBudget s then brownoutW s else budgetW s

/-- The sum of committed power over all ports (R337). -/
def committedTotal (s : State) : Nat := ((List.finRange 16).map (committedU s)).sum

/-- The read-only registers of the input and global power block (R312). -/
def viewInput (s : State) (a : Nat) : Word :=
  if a = 0x20004 then pack [(0, satN 12 (committedTotal s / 100000)), (16, budgetInForce s)]
  else if a = 0x20008 then pack ((List.finRange 16).map (fun n => (n.val, bnat (s.power.get n).shed)))
  else if a = 0x28010 then inStatus s
  else if a = 0x28014 then pack [(0, satN 16 s.input.vinPre), (16, satN 16 s.input.vout)]
  else if a = 0x28018 then BitVec.ofNat 32 (satSgn 16 s.input.amps)
  else 0

/-- The read-only registers of the domains block (R356, R361). -/
def viewDomains (s : State) (a : Nat) : Word :=
  if h : 0x30000 ≤ a ∧ a < 0x30000 + 8 * 24 then
    let i : Fin 24 := ⟨(a - 0x30000) / 8, by omega⟩
    let c := s.clusters.get i
    pack [(0, c.volt), (8, c.slack), (16, satSgn 8 c.temp), (24, bnat (dvfsFrozen s i)), (25, bnat c.capped)]
  else if h : 0x30100 ≤ a ∧ a < 0x30100 + 4 * 96 then
    let e := s.engines[(a - 0x30100) / 4]'(by omega)
    pack [(0, e.freq), (8, e.required)]
  else if h : 0x30310 ≤ a ∧ a < 0x30324 then
    BitVec.ofNat 32 (satSgn 16 (s.regionTemp[(a - 0x30310) / 4]'(by omega)))
  else if h : 0x30400 ≤ a ∧ a < 0x30400 + 8 * 23 then
    let i : Fin 23 := ⟨(a - 0x30400) / 8, by omega⟩
    let l := s.lanes.get i
    if a % 8 = 0 then
      let off := fun (x b : Int) (w : Nat) => decide (x - b ≥ (w : Int)) || decide (b - x ≥ (w : Int))
      let atBound := off (l.ctle : Int) (l.baseCtle : Int) (eqCtleBound s)
        || (List.finRange 4).any (fun k => off (l.taps.get k) (l.baseTaps.get k) (eqDfeBound s))
      pack [(0, l.ctle), (5, bnat (l.adapting && !eqFrozen s i)), (6, bnat atBound), (8, l.eyeHeight), (16, l.eyeWidth)]
    else pack ((List.finRange 4).map (fun k => (8 * k.val, satSgn 8 (l.taps.get k))))
  else 0

/-- The records of a ring's sectors, in slot order. -/
def ringRecs (secs : List Sector) : List NorRec := secs.flatMap (fun x => if x.condemned then [] else x.slots)

/-- The oldest SEQ a ring retains (R379). -/
def oldestSeq (secs : List Sector) : Option Nat :=
  (ringRecs secs).foldl (fun b r =>
    if r.committed then
      match b, r.record.seq with
      | none, x => x
      | some m, some x => some (min m x)
      | some m, none => some m
    else b) none

/-- The read-only registers of the Palimpsest block (R379). -/
def viewPal (s : State) (a : Nat) : Word :=
  let p := s.pal
  let r := p.readout
  if a = 0x40008 ∨ a = 0x4000C then reg s a
  else if a = 0x40014 then
    pack [(0, bnat p.frozen), (1, bnat p.flushing), (2, bnat p.full), (3, bnat p.norFail), (4, bnat p.scanDone), (5, bnat p.returnLock),
          (16, satN 11 (cdiv ((p.ram.map (fun x => if x.persisted then 0 else 32 + 8 * x.record.payload.length)).sum) 1024))]
  else if a = 0x40018 then loW p.nextSeq
  else if a = 0x4001C then loW (p.committedSeq.getD 0)
  else if a = 0x40020 then loW ((oldestSeq p.high).getD 0)
  else if a = 0x40024 then loW ((oldestSeq p.low).getD 0)
  else if a = 0x40108 then
    pack [(0, bnat r.ready), (1, bnat r.found), (2, bnat r.fromNor), (3, bnat r.uncommitted), (4, bnat r.crcOk), (5, bnat r.chainOk), (8, r.length % 128)]
  else if a = 0x40114 then pack [(0, bnat r.verifyDone), (1, bnat r.verifyPass), (2, bnat r.verifyNotClosed)]
  else if 0x48000 ≤ a ∧ a < 0x48200 then
    let w := (r.window.getD ((a - 0x48000) / 8) 0).toNat
    if a % 8 = 0 then loW w else hiW w
  else 0

/-- The words of a notice: its header and its later words (R262). -/
def Notice.words (n : Notice) : Nat := 1 + n.body.length

/-- Word i of a notice, with END in its last word (R262). -/
def Notice.word (n : Notice) (i : Nat) : DWord :=
  let last := n.body.length
  let fin := if i = last then 2 ^ 63 else 0
  if i = 0 then
    BitVec.ofNat 64 (packNat [(0, n.type), (8, n.prio.code), (10, last), (14, n.port.val), (18, n.subject.code), (25, n.stroke % 2 ^ 38)] + fin)
  else BitVec.ofNat 64 ((n.body.getD (i - 1) 0).toNat % 2 ^ 63 + fin)

/-- Every notice of the board queue, the open one first. -/
def boardNotices (s : State) : List Notice := s.margin.opened.toList ++ (s.margin.queues.get 64).notices

/-- Words in use in the board queue: popped words are free (R269). -/
def boardWords (s : State) : Nat :=
  (match s.margin.opened with
   | some n => n.words - s.margin.wordIndex
   | none => 0) + (((s.margin.queues.get 64).notices.map Notice.words).sum)

/-- The first of the oldest notices of the highest priority (R268). -/
def topNotice (q : List Notice) : Option Notice :=
  q.foldl (fun best n =>
    match best with
    | none => some n
    | some b => if b.prio.code < n.prio.code then some n else some b) none

/-- The head of the board queue: the notice and the index of its head word (R268). -/
def boardHead (s : State) : Option (Notice × Nat) :=
  match s.margin.opened with
  | some n => some (n, s.margin.wordIndex)
  | none => (topNotice (s.margin.queues.get 64).notices).map (fun n => (n, 0))

/-- BC_HEAD_INFO (R264). -/
def bcHeadInfo (s : State) : Word :=
  match boardHead s with
  | some (_, i) => pack [(0, i), (3, 1), (4, bnat s.margin.opened.isSome), (5, bnat s.margin.aborted)]
  | none => pack [(5, bnat s.margin.aborted)]

/-- The read-only registers of the Margin block (R263). -/
def viewMargin (s : State) (a : Nat) : Word :=
  let cnt := fun (p : Sev) => satN 13 ((boardNotices s).filter (fun n => n.prio == p)).length
  let m := s.margin
  if a = 0x5000C then pack [(0, bnat m.irqPending), (1, bnat m.irqArmed), (2, bnat m.lineHeld)]
  else if a = 0x50010 then pack [(0, cnt .info), (16, cnt .notice)]
  else if a = 0x50014 then pack [(0, cnt .warning), (16, cnt .critical)]
  else if a = 0x50018 then pack [(0, satN 13 (boardNotices s).length), (16, boardWords s)]
  else if a = 0x50020 then bcHeadInfo s
  else if a = 0x50024 then
    match boardHead s with
    | some (n, i) => loW (n.word i).toNat
    | none => 0
  else if a = 0x50028 then
    match boardHead s with
    | some (n, i) => hiW (n.word i).toNat
    | none => 0
  else if h : 0x50100 ≤ a ∧ a < 0x50200 then
    let q := s.margin.queues[(a - 0x50100) / 4]'(by omega)
    pack [(0, satN 11 (q.notices.map Notice.words).sum), (16, satN 10 q.notices.length)]
  else 0

/-- FUSE_STATUS.PATH (R321). -/
def PathPhase.code : PathPhase → Nat
  | .off => 0
  | .switching => 1
  | .on => 2
  | .tripped => 3
  | .fetFault => 4
  | .held => 5

/-- POWER_STATUS (R321). -/
def powerStatus (s : State) (n : PortId) : Word :=
  let p := s.power.get n
  pack [(0, satN 8 (shareW s n)), (8, satN 8 (committedW s n)), (16, p.retries), (19, bnat p.latched), (20, bnat p.shed), (21, bnat p.retryDue.isSome),
        (22, p.lastCause), (25, bnat p.fetFail), (26, bnat p.sensorFault)]

/-- PD_STATUS (R280). -/
def pdStatus (s : State) (n : PortId) : Word :=
  let d := s.pd.get n
  pack [(0, d.state.code), (4, bnat d.orient), (5, bnat d.raSeen), (6, d.partner), (8, d.cable), (10, bnat d.eprMode), (11, d.contract.kind),
        (13, bnat d.ufp), (14, bnat d.rev2), (16, satN 8 (shareW s n)), (24, d.pdp % 256)]

/-- CC_STATUS (R281). -/
def ccStatus (s : State) (n : PortId) : Word :=
  let d := s.pd.get n
  pack [(0, d.cc1), (3, d.cc2), (6, d.rpNow), (8, bnat d.vconnOn), (9, bnat d.vconnPin), (10, bnat d.safe0)]

/-- The power, PD and CC registers of port n (R278, R319, R320). -/
def viewPortPower (s : State) (n : PortId) (off : Nat) : Word :=
  let p := s.power.get n
  let d := s.pd.get n
  if off = 0x810 then powerStatus s n
  else if off = 0x814 then pack [(0, satSgn 16 p.temp), (16, p.derate)]
  else if off = 0x8010 then pack [(0, p.phase.code), (3, bnat p.gateOn), (4, bnat p.curveBad), (8, p.band)]
  else if off = 0x8014 then pack [(0, satN 16 p.vbusMv), (16, satN 16 p.ispMv)]
  else if off = 0x8018 then pack [(0, satSgn 16 p.ampsMa), (16, satN 16 p.midMv)]
  else if off = 0x801C then pack [(0, satN 25 p.acc)]
  else if off = 0x8044 then pack [(0, p.vset), (12, bnat p.enable), (13, bnat p.discharge), (16, satSgn 8 (((p.vset : Int) - p.nominal) * 1000 / max 1 p.nominal))]
  else if off = 0x4004 then pdStatus s n
  else if off = 0x4008 then d.contract.rdo
  else if off = 0x400C then pack [(0, satN 16 (contractMv s n)), (16, satN 16 (contractMa10 s n))]
  else if off = 0x4010 then d.cableVdo
  else if 0x4020 ≤ off ∧ off < 0x404C then d.sent.getD ((off - 0x4020) / 4) 0
  else if off = 0xC000 then ccStatus s n
  else if off = 0xC004 then pack [(0, satN 16 d.vconnMa)]
  else 0

/-- Whether the power domain that holds a status register is switched off (R46). -/
def domainOff (s : State) (a : Nat) : Bool :=
  let k := splitAddr a
  let asleep := s.modes.mode == .standby && !s.modes.standingBy
  let coreOff := s.modes.mode == .holdup || asleep
  match k.1 with
  | .port => coreOff && decide (k.2.2 < 0x8000)
  | .viPage => coreOff
  | .block => (coreOff && decide (0x60000 ≤ a)) || (asleep && (decide (0x10000 ≤ a) && decide (a < 0x28000) || decide (0x40000 ≤ a) && decide (a < 0x50000)))

/-- The queue-pair slot VI v is bound to. -/
def viSlot (s : State) (v : RingId) : Option (Fin 128) := (s.vis.get v).qp

/-- What an address reads as, RC registers apart (R6). -/
def regView (s : State) (a : Nat) : Word :=
  match findRow a with
  | none => 0
  | some r =>
    match r.acc with
    | .w1p => 0
    | .rc => 0
    | .rw =>
      if 0x10020 ≤ a ∧ a < 0x10040 then 0
      else if h : 0x72000 ≤ a ∧ a < 0x72100 then viBind s ⟨(a - 0x72000) / 4, by omega⟩
      else if a = 0x30 then pack [(0, rfld s 0x30 0 1), (1, bnat s.trustBySpi)]
      else reg s a
    | .ro =>
      if a < 0x10000 then viewGlobal s a
      else if a < 0x20000 then viewSeal s a
      else if a < 0x30000 then viewInput s a
      else if a < 0x40000 then viewDomains s a
      else if a < 0x50000 then viewPal s a
      else if a < 0x60000 then viewMargin s a
      else if a < 0x70000 then viewInk s a
      else if a < 0xA0000 then viewQuire s a
      else if a < 0x100000 then viewHub s a
      else if h : 0x100000 ≤ a ∧ a < 0x200000 then
        let n : PortId := ⟨(a - 0x100000) / 0x10000, by omega⟩
        let off := a % 0x10000
        if 0x200 ≤ off ∧ off < 0x800 then viewPortHost s n off else viewPortPower s n off
      else if h : 0x200000 ≤ a ∧ a < 0x240000 then viewVi s ⟨(a - 0x200000) / 0x1000, by omega⟩ (a % 0x1000)
      else 0

end Sys2Proof.Machine
end

