-- ==== Sys2Proof/Machine/Recorder.lean ====
section
/-! DEFINITION. Raising a record (R364–R373, R449): location, rate limit, capture, displacement; and the bytes of a record. -/

namespace Sys2Proof.Machine

/-! ### Places (R20, R26, R27, R449) -/

/-- The region of cluster c (R20). -/
def clusterRegion (c : Nat) : Nat :=
  if c < 15 then c / 4 else if c = 15 ∨ c = 18 then 0 else if c = 16 ∨ c = 19 then 1 else if c = 17 ∨ c = 20 then 2 else 3

/-- A tile of a Folio engine cluster, at level 3. -/
def engineTile (c t : Nat) : Nat × Nat := (location 3 0 (clusterRegion c) c t 0 0 0, 3)

/-- A Folio cluster, at level 4. -/
def clusterPlace (c : Nat) : Nat × Nat := (location 4 0 (clusterRegion c) c 0 0 0 0, 4)

/-- A system tile of cluster 30, at level 3 (R26). -/
def systemTile (t : Nat) : Nat × Nat := (location 3 0 3 30 t 0 0 0, 3)

/-- A tile of a Reservoir port block, at level 3 (R27). -/
def portBlockTile (n : PortId) (t : Nat) : Nat × Nat := (location 3 1 0 n.val t 0 0 0, 3)

/-- The breaker tile of a path (R27, R449). -/
def pathTile (p : PowerPath) (t : Nat) : Nat × Nat :=
  match p with
  | .port n => portBlockTile n t
  | .input => (location 3 1 1 0 t 0 0 0, 3)

/-- A tile of the cluster that serves port n; UP has none, and the global engines of cluster 23 stand in (R13, R15). -/
def portEngineTile (n : PortId) (t : Nat) : Nat × Nat :=
  if n.val = 0 then engineTile 23 (if t = 2 then 3 else 2) else engineTile (n.val - 1) t

/-- The PHY tile of port n: its region and its index in cluster 28 (R26, R449). -/
def phyTile (n : PortId) : Nat × Nat := if n.val = 0 then (3, 3) else ((n.val - 1) / 4, (n.val - 1) % 4)

/-- The PD/CC logic of port n, macro 3 of its PHY tile, at level 2. -/
def pdMacro (n : PortId) : Nat × Nat :=
  let p := phyTile n
  (location 2 0 p.1 28 p.2 3 0 0, 2)

/-- The tile of an access path (R449). -/
def accessTile (p : Path) : Nat × Nat :=
  match p with
  | .spi => systemTile 2
  | .pf => systemTile 6
  | .viPage _ => systemTile 6
  | .qp _ => systemTile 7
  | .scribe => systemTile 5

/-- The source of a record, by its code and port, for the codes whose row of R449 needs no more. -/
def recPlace (code : Nat) (n : PortId) : Nat × Nat :=
  if code ≤ 0x000A then engineTile 23 0
  else if code = 0x0107 then systemTile 5
  else if code = 0x0108 ∨ code = 0x0701 then engineTile 23 3
  else if code = 0x0109 then engineTile 22 2
  else if code ≤ 0x0203 then clusterPlace 21
  else if code ≤ 0x0205 then (location 6 0 0 0 0 0 0 0, 6)
  else if code = 0x0206 then portEngineTile n 2
  else if code ≤ 0x0302 then portBlockTile n 1
  else if code = 0x0303 ∨ code = 0x0306 then portBlockTile n 6
  else if code = 0x0304 then portBlockTile n 2
  else if code = 0x0305 ∨ code = 0x0315 then portEngineTile n 3
  else if code = 0x0316 then (location 4 1 1 1 0 0 0 0, 4)
  else if code ≤ 0x0317 then (location 4 1 1 0 0 0 0 0, 4)
  else if code ≤ 0x0405 then portBlockTile n 4
  else if code ≤ 0x040C then pdMacro n
  else if code ≤ 0x0502 then portEngineTile n 0
  else if code = 0x0601 then systemTile 7
  else if code ≤ 0x0604 then engineTile 20 3
  else if code ≤ 0x0704 then systemTile 1
  else if code = 0x0801 ∨ code = 0x0901 then systemTile 0
  else engineTile 23 0

/-! ### Snapshot sets (R373) -/

inductive SnapSet where
  | none
  | a
  | b
  | c
  | d
  | e
  | f
  | g (cluster : Nat)
  | h
  deriving DecidableEq, Repr

/-- The registers a set captures, in the order listed (R373). -/
def snapAddrs (s : State) (set : SnapSet) (n : PortId) (subject : Owner) : List Nat :=
  let p := portReg n
  let bind : List Nat := match subject with
    | .ring v => [0x72000 + 4 * v.val]
    | _ => []
  match set with
  | .none => []
  | .a => [p 0x8010, p 0x8014, p 0x8018, p 0x801C, p 0x8044, p 0x814, p 0x810, p 0x4004, p 0x400C, p 0x208, 0x20004]
  | .b => [0x28010, 0x28014, 0x28018, 0x20004, 0x20008, 0x20] ++ (List.range 5).map (fun q => 0x30310 + 4 * q)
  | .c => [p 0x4004, p 0x4008, p 0x400C, p 0x4010, p 0xC000, p 0xC004, p 0x8014, p 0x8018]
  | .d => [p 0x208, p 0x200, p 0x20C] ++ bind
  | .e => [p 0x408, p 0x414, p 0x208, p 0x4004]
  | .f =>
    bind ++ (match subject with
      | .ring v => match viSlot s v with
        | some q => [0x80800 + 8 * q.val]
        | none => []
      | _ => []) ++ [0x80304, 0x80004, 0x80104, 0x80C04]
  | .g c => [0x804, 0x808] ++ (if c < 24 then [0x30004 + 8 * c] else []) ++ (List.range 5).map (fun q => 0x30310 + 4 * q)
  | .h => [0x20, 0x28010, 0x20004, 0x208, 0x20C, 0x210, 0x214]

/-- One captured entry: class V registers of sets A and B are latched by Reservoir in the stamp tick (R365). -/
def snapEntry (s : State) (set : SnapSet) (a : Nat) : DWord :=
  let latched := (set == .a || set == .b) && classV a
  let off := domainOff s a
  pack64 [(0, a), (24, bnat latched), (25, bnat off), (32, if off then 0xFFFFFFFF else (regView s a).toNat)]

/-- Parameter i of a code (R365). -/
def paramEntry (i : Nat) (w : Word) : DWord := pack64 [(0, 0xFFFF00 + i), (32, w.toNat)]

/-- The parameter entries of a record, numbered from 0. -/
def paramEntries (ps : List Word) : List DWord := (ps.zipIdx).map (fun p => paramEntry p.2 p.1)

/-! ### A record's bytes -/

/-- The length of a record in bytes: a header and trailer of 32 and its payload (R364). -/
def recBytes (r : Rec) : Nat := 32 + 8 * r.payload.length

/-- The bytes of a record before its CRC field (R364). -/
def recSerial (r : Rec) : List Byte :=
  natBytesLE 4 (r.seq.getD 0) ++ natBytesLE 2 r.code
    ++ natBytesLE 1 (r.sev.code + r.kind * 4 + bnat r.localTime * 16) ++ natBytesLE 1 ((recBytes r) / 8)
    ++ natBytesLE 8 r.stroke
    ++ natBytesLE 8 (r.location + r.level * 2 ^ 40 + r.port.val * 2 ^ 43 + r.subject.code * 2 ^ 47 + satN 10 r.suppressed * 2 ^ 54)
    ++ r.payload.flatMap (fun w => natBytesLE 8 w.toNat)
    ++ natBytesLE 4 r.chain.toNat

/-- A record's CRC-32C (R364). -/
def recCrc (r : Rec) : Word := crc32c (recSerial r)

/-! ### RAM (R368) -/

/-- Bytes of the unpersisted records. -/
def unpersisted (ram : List RamRec) : Nat := (ram.map (fun r => if r.persisted then 0 else (recBytes r.record))).sum

/-- The limit on unpersisted records: FLUSH_CAP_KIB, or the whole RAM while persistence is halted (R368). -/
def ramLimit (s : State) : Nat := if s.pal.full || s.pal.norFail then 1048576 else 1024 * palFlushCapKib s

/-- The oldest unpersisted record of the lowest severity present whose programming has not begun. -/
def victim (ram : List RamRec) : Option RamRec :=
  let cands := ram.filter (fun r => !r.persisted && !r.started)
  cands.foldl (fun best r =>
    match best with
    | none => some r
    | some b => if r.record.sev.code < b.record.sev.code then some r else some b) none

/-- Remove the first record equal to r. -/
def eraseRam (ram : List RamRec) (r : RamRec) : List RamRec := ram.erase r

/-- Count a displaced record (R368). -/
def countLoss (s : State) (sv : Sev) : State :=
  rcCount { s with pal := { s.pal with losses := s.pal.losses.set sv.code (s.pal.losses.getD sv.code 0 + 1) } } 0x40028 (8 * sv.code)

/-- Make room for a record of severity sv and the given size: the state, and whether the new record is taken (R368). -/
def makeRoom : Nat → State → Sev → Nat → State × Bool
  | 0, s, _, _ => (s, true)
  | fuel + 1, s, sv, size =>
    if unpersisted s.pal.ram + size ≤ ramLimit s then (s, true)
    else match victim s.pal.ram with
      | none => (countLoss s sv, false)
      | some c =>
        if sv.code < c.record.sev.code then (countLoss s sv, false)
        else makeRoom fuel (countLoss { s with pal := { s.pal with ram := eraseRam s.pal.ram c } } c.record.sev) sv size

/-- Evict cached persisted records, oldest first, while the RAM would be over its size (R368). -/
def evictCache : Nat → List RamRec → Nat → List RamRec
  | 0, ram, _ => ram
  | fuel + 1, ram, size =>
    if (ram.map (fun r => (recBytes r.record))).sum + size ≤ 1048576 then ram
    else match ram.find? (fun r => r.persisted) with
      | none => ram
      | some r => evictCache fuel (eraseRam ram r) size

/-- Put a built record in RAM with the next SEQ; before the boot scan has resumed SEQ it is held without one (R367). -/
def pushRecord (s : State) (r : Rec) : State :=
  let m := makeRoom (s.pal.ram.length + 1) s r.sev (recBytes r)
  if m.2 then
    let s1 := m.1
    let ram := evictCache (s1.pal.ram.length + 1) s1.pal.ram (recBytes r)
    if s1.pal.scanDone then
      { s1 with pal := { s1.pal with ram := ram ++ [{ record := { r with seq := some s1.pal.nextSeq }, persisted := false, started := false }],
                                     nextSeq := (s1.pal.nextSeq + 1) % 2 ^ 32 } }
    else { s1 with pal := { s1.pal with ram := ram ++ [{ record := { r with seq := none }, persisted := false, started := false }] } }
  else m.1

/-- A record as raised now. -/
def mkRec (s : State) (code : Nat) (sev : Sev) (kind : Nat) (n : PortId) (subject : Owner) (place : Nat × Nat) (suppressed : Nat) (payload : List DWord) : Rec :=
  { seq := none, code := code, sev := sev, kind := kind, localTime := false, stroke := stroke s, location := place.1, level := place.2,
    port := n, subject := subject, suppressed := suppressed, payload := payload.take 60, chain := 0 }

/-- Record a marker: never rate-limited (R366, R370). -/
def marker (s : State) (code : Nat) (sev : Sev) (ps : List Word) : State :=
  pushRecord s (mkRec s code sev 3 0 .none (engineTile 23 0) 0 (paramEntries ps))

/-! ### Rate limits (R370) -/

/-- The size of a bucket and its refill interval in ticks, for a severity. -/
def bucketSize (s : State) (sv : Sev) : Nat := if sv = .critical then 64 else palBurst s
def bucketInterval (s : State) (sv : Sev) : Nat := if sv = .critical then 78125 else ticksMs (palRefillMs s)

/-- Use a token of the key's bucket: the state, whether the record is admitted, and the suppressed count it carries. -/
def takeToken (s : State) (code : Nat) (n : PortId) (sv : Sev) : State × Bool × Nat :=
  match s.pal.buckets.find? (fun b => b.code == code && b.port == n) with
  | none =>
    let b : Bucket := { code := code, port := n, sev := sv, tokens := bucketSize s sv - 1, nextGain := s.now + bucketInterval s sv,
                        suppressed := 0, first := 0, last := 0 }
    ({ s with pal := { s.pal with buckets := s.pal.buckets ++ [b] } }, true, 0)
  | some b =>
    let put := fun (b' : Bucket) => { s with pal := { s.pal with buckets := s.pal.buckets.map (fun x => if x.code == code && x.port == n then b' else x) } }
    if 0 < b.tokens then
      (put { b with tokens := b.tokens - 1, suppressed := 0, nextGain := if b.tokens = bucketSize s sv then s.now + bucketInterval s sv else b.nextGain }, true, b.suppressed)
    else
      (rcCount (put { b with suppressed := b.suppressed + 1, first := if b.suppressed = 0 then stroke s else b.first, last := stroke s }) 0x4002C 0, false, 0)

/-! ### Raising -/

/-- Record an event (KIND 0) of Folio, at a place given by the caller. -/
def recordAt (s : State) (place : Nat × Nat) (code : Nat) (sev : Sev) (n : PortId) (subject : Owner) (set : SnapSet) (ps : List Word) : State :=
  if ¬ s.folioOn then s
  else
    let tk := takeToken s code n sev
    if tk.2.1 then
      pushRecord tk.1 (mkRec s code sev 0 n subject place tk.2.2 ((snapAddrs s set n subject).map (snapEntry s set) ++ paramEntries ps))
    else tk.1

/-- Record an event (KIND 0) of Folio at the place R449 gives its code. -/
def record (s : State) (code : Nat) (sev : Sev) (n : PortId) (subject : Owner) (set : SnapSet) (ps : List Word) : State :=
  recordAt s (recPlace code n) code sev n subject set ps

/-- Reservoir stamps in local time: the link has not come up yet in this power-up of Folio (R17). -/
def unlinked (s : State) : Bool := s.link.phase == .notYetUp || !s.folioOn

/-- Record an event that Reservoir stamps: before the link first comes up it goes to Reservoir's own buffer of 64, the oldest overwritten (R17). -/
def recordRes (s : State) (place : Nat × Nat) (code : Nat) (sev : Sev) (n : PortId) (set : SnapSet) (ps : List Word) : State :=
  if unlinked s then
    let ev : LocalEvent := { stamp := s.now, code := code, sev := sev, port := n, location := place.1, level := place.2, params := ps }
    if 64 ≤ s.localEvents.length then
      { s with localEvents := s.localEvents.drop 1 ++ [ev], localLost := s.localLost + 1 }
    else { s with localEvents := s.localEvents ++ [ev] }
  else recordAt s place code sev n .none set ps

/-- Record at most once in any 1 s for the condition `key` (R370). -/
def recordLimited (s : State) (key : Nat) (f : State → State) : State := if limitOk s key then f (limitMark s key) else s

end Sys2Proof.Machine
end

