-- ==== Sys2Proof/Machine/Notices.lean ====
section
/-! DEFINITION. Raising a notice (R262–R267, R276, R277): recipients, displacement, the board interrupt's CRITICAL rule. -/

namespace Sys2Proof.Machine

/-- The board controller's queue (R261). -/
def boardQueue : Fin 65 := 64

/-- The queue of a ring VI. -/
def viQueue (v : RingId) : Fin 65 := ⟨v.val, by omega⟩

/-- The size of a queue in words (R261). -/
def queueSize (q : Fin 65) : Nat := if q.val = 64 then 8192 else 1920

/-- Words in use in a queue. -/
def queueWords (s : State) (q : Fin 65) : Nat :=
  if q.val = 64 then boardWords s else ((s.margin.queues.get q).notices.map Notice.words).sum

/-- Replace a queue. -/
def setQueue (s : State) (q : Fin 65) (f : NoticeQueue → NoticeQueue) : State :=
  { s with margin := { s.margin with queues := vmod s.margin.queues q f } }

/-- Count a lost notice: in the queue's LOST register, in its next heartbeat, and once in any 1 s in the recorder (R267). -/
def lostNotice (s : State) (q : Fin 65) (p : Sev) : State :=
  let a := if q.val = 64 then 0x50034 else 0x50200 + 4 * q.val
  let s1 := rcCount (setQueue s q (fun x => { x with lostSinceHb := x.lostSinceHb + 1 })) a (8 * p.code)
  recordLimited s1 (1000 + q.val) (fun u => record u 0x0702 .warning 0 .none .none [loW q.val])

/-- The oldest unopened notice of the lowest priority present (R267). -/
def lowestNotice (q : List Notice) : Option Notice :=
  q.foldl (fun best n =>
    match best with
    | none => some n
    | some b => if n.prio.code < b.prio.code then some n else some b) none

/-- The displacement loop of R267: the state, and whether the notice entered. -/
def enterLoop : Nat → State → Fin 65 → Notice → State × Bool
  | 0, s, _, _ => (s, false)
  | fuel + 1, s, q, n =>
    if queueWords s q + n.words ≤ queueSize q then
      (setQueue s q (fun x => { x with notices := x.notices ++ [n] }), true)
    else
      match lowestNotice (s.margin.queues.get q).notices with
      | none => (lostNotice s q n.prio, false)
      | some c =>
        if n.prio.code < c.prio.code then (lostNotice s q n.prio, false)
        else enterLoop fuel (lostNotice (setQueue s q (fun x => { x with notices := x.notices.erase c })) q c.prio) q n

/-- A notice enters one queue whole (R265–R267). A ring VI whose ENABLE is 0 gets none, uncounted (R265). A CRITICAL notice that enters the board queue sets IRQ_PENDING (R273). -/
def enterQueue (s : State) (q : Fin 65) (n : Notice) : State × Bool :=
  if h : q.val < 64 then
    if (s.vis.get ⟨q.val, h⟩).enabled then enterLoop ((s.margin.queues.get q).notices.length + 1) s q n else (s, false)
  else
    let r := enterLoop ((s.margin.queues.get q).notices.length + 1) s q n
    if r.2 && n.prio == .critical then ({ r.1 with margin := { r.1.margin with irqPending := true } }, true) else r

/-- A notice stamped now. -/
def mkNotice (s : State) (type : Nat) (prio : Sev) (n : PortId) (subject : Owner) (body : List DWord) : Notice :=
  { type := type, prio := prio, port := n, subject := subject, stroke := stroke s, body := body }

/-- Raise a notice to its recipients, in the order given. Nothing is raised while Folio is off. -/
def notice (s : State) (type : Nat) (prio : Sev) (n : PortId) (subject : Owner) (body : List DWord) (dest : List (Fin 65)) : State :=
  if ¬ s.folioOn then s
  else dest.foldl (fun u q => (enterQueue u q (mkNotice s type prio n subject body)).1) s

/-- The owner of a port as a recipient: a ring VI, since classic VIs receive no notices (R261). -/
def toOwner (s : State) (n : PortId) : List (Fin 65) :=
  match (s.own.get n).owner with
  | .ring v => [viQueue v]
  | _ => []

/-- Every ring VI with VISIBILITY set (R277). -/
def toVisible (s : State) : List (Fin 65) :=
  (List.finRange 64).filterMap (fun v => if rfld s (0x71000 + 8 * v.val) 1 1 = 1 then some (viQueue v) else none)

/-- Owner, visible and board, each once (R277). -/
def toAll (s : State) (n : PortId) : List (Fin 65) :=
  let o := toOwner s n
  o ++ (toVisible s).filter (fun q => !o.contains q) ++ [boardQueue]

/-- Every enabled ring VI (R277). -/
def toEnabled (s : State) : List (Fin 65) :=
  (List.finRange 64).filterMap (fun v => if (s.vis.get v).enabled then some (viQueue v) else none)

/-- A power notice, TYPE 0x0C, with the path's voltage and current (R277). -/
def powerNotice (s : State) (n : PortId) (event : Nat) : State :=
  let p := s.power.get n
  let prio : Sev := if event = 1 ∨ event = 2 ∨ event = 3 ∨ event = 5 then .critical
    else if event = 6 ∨ event = 9 ∨ event = 10 ∨ event = 11 then .warning else .info
  notice s 0x0C prio n (s.own.get n).owner [pack64 [(0, event), (4, satN 16 p.vbusMv), (20, satSgn 16 (p.ampsMa / 10))]] (toAll s n)

/-- A detach notice, TYPE 0x06 (R277). -/
def detachNotice (s : State) (n : PortId) (reason path ended : Nat) : State :=
  notice s 0x06 .notice n (s.own.get n).owner [pack64 [(0, reason), (3, path), (8, satN 16 ended)]] (toAll s n)

/-- A port state notice, TYPE 0x07 (R277). -/
def portStateNotice (s : State) (n : PortId) (event link speed : Nat) : State :=
  notice s 0x07 (if event = 4 then .warning else .info) n (s.own.get n).owner [pack64 [(0, event), (3, link), (7, speed)]] (toAll s n)

/-- A heartbeat into one queue: an earlier one that is not open is removed, its LOST added to the new one's (R266, R276). -/
def heartbeatInto (s : State) (q : Fin 65) : State :=
  let qu := s.margin.queues.get q
  let old := qu.notices.filter (fun n => n.type == 0x01)
  let oldLost := (old.map (fun n => (n.body.getD 2 0).toNat / 2 ^ 37 % 2 ^ 16)).sum
  let lost := satN 16 (qu.lostSinceHb + oldLost)
  let dg := s.rubric.digest.toNat
  let body := [BitVec.ofNat 64 (dg % 2 ^ 32), BitVec.ofNat 64 (dg / 2 ^ 32),
               pack64 [(0, s.rubric.epoch.toNat), (32, bnat s.rubric.dirty), (33, s.modes.mode.code), (37, lost)]]
  let s1 := setQueue s q (fun x => { x with notices := x.notices.filter (fun n => n.type != 0x01) })
  let r := enterQueue s1 q (mkNotice s 0x01 .info 0 .none body)
  if r.2 then setQueue r.1 q (fun x => { x with lostSinceHb := 0 })
  else setQueue r.1 q (fun x => { x with lostSinceHb := x.lostSinceHb + oldLost })

end Sys2Proof.Machine
end

