-- ==== Sys2Proof/Machine/Store.lean ====
section
/-! DEFINITION. The NOR store of the recorder (R374–R378): committing a record, closing and recycling sectors, failures, the boot scan, the flush marker. -/

namespace Sys2Proof.Machine

/-- Bytes a sector holds for slots, after its header (R374). -/
def sectorRoom : Nat := 65536 - 64

/-- Bytes of a sector's slots in use: an 8 B slot header with each record. -/
def sectorUsed (x : Sector) : Nat := (x.slots.map (fun r => 8 + recBytes r.record)).sum

/-- The bytes a sector's tag covers: its records, as found (R376). -/
def sectorBytes (x : Sector) : List Byte := x.slots.flatMap (fun r => recSerial r.record ++ natBytesLE 4 r.crc.toNat)

/-- The ring a severity goes to (R369). -/
def ringOf (sv : Sev) : Ring := if 2 ≤ sv.code then .high else .low

/-- The sectors of a ring. -/
def ringSectors (s : State) (r : Ring) : List Sector :=
  match r with
  | .high => s.pal.high
  | .low => s.pal.low

/-- Replace the sectors of a ring. -/
def setRing (s : State) (r : Ring) (xs : List Sector) : State :=
  match r with
  | .high => { s with pal := { s.pal with high := xs } }
  | .low => { s with pal := { s.pal with low := xs } }

/-- The ring's current sector: in use, not closed, not bad. -/
def currentIdx (xs : List Sector) : Option Nat := xs.findIdx? (fun x => x.inUse && !x.closed && !x.bad)

/-- A sector ready to be taken. -/
def sectorReady (x : Sector) : Bool := x.eraseOk && !x.inUse && !x.bad && !x.condemned

/-- How many blank sectors a ring has. -/
def blankCount (xs : List Sector) : Nat := (xs.filter sectorReady).length

/-- The next blank sector after index i, round the ring. -/
def nextBlank (xs : List Sector) (i : Nat) : Option Nat :=
  ((List.range xs.length).map (fun k => (i + 1 + k) % max 1 xs.length)).find? (fun j => match xs[j]? with
    | some x => sectorReady x
    | none => false)

/-- Close a sector with its tag (R374, R376). -/
def closeSector (x : Sector) : Sector :=
  { x with closed := true, lastSeq := ((x.slots.getLast?).bind (fun r => r.record.seq)).getD 0, recordCount := x.slots.length,
           sealTag := Config.sealTag (sectorBytes x) }

/-- The CRC of the previous record committed to the ring (R376). -/
def ringChain (xs : List Sector) : Word :=
  let recs := (xs.flatMap (fun x => x.slots)).filter (fun r => r.committed)
  match recs.foldl (fun b r =>
      match b with
      | none => some r
      | some (m : NorRec) => if m.record.seq.getD 0 < r.record.seq.getD 0 then some r else some m) none with
  | some r => r.crc
  | none => 0

/-- Which record is persisted next: a flush marker first, then by severity, then in SEQ order (R367). -/
def nextToPersist (ram : List RamRec) : Option RamRec :=
  let un := ram.filter (fun r => !r.persisted && r.record.seq.isSome)
  match un.find? (fun r => r.record.code == 0x0002) with
  | some r => some r
  | none => un.foldl (fun best r =>
    match best with
    | none => some r
    | some b => if b.record.sev.code < r.record.sev.code then some r else some b) none

/-- The index of the sector a record of that many bytes goes to, and the ring as it then is: the current sector, or the next blank one when it does not fit (R374). A frozen store keeps each ring's reserve outside a hold-up flush (R380). -/
def sectorFor (s : State) (r : Ring) (size seq : Nat) : Option (Nat × List Sector) :=
  let xs := ringSectors s r
  let fits := fun (i : Nat) => match xs[i]? with
    | some x => decide (sectorUsed x + 8 + size ≤ sectorRoom)
    | none => false
  let take := fun (ys : List Sector) (from_ : Nat) =>
    if s.pal.frozen && s.modes.mode != .holdup && decide (blankCount ys ≤ 1) then none
    else (nextBlank ys from_).map (fun j => (j, ys.modify j (fun x => { x with inUse := true, blank := false, ring := some r, firstSeq := seq })))
  match currentIdx xs with
  | some i => if fits i then some (i, xs) else take (xs.modify i closeSector) i
  | none => take xs (xs.length - 1)

/-- Mark a RAM record. -/
def markRam (s : State) (r : RamRec) (f : RamRec → RamRec) : State :=
  { s with pal := { s.pal with ram := s.pal.ram.map (fun x => if x == r then f x else x) } }

/-- The number of sectors of a ring that can still be used. -/
def usable (xs : List Sector) : Nat := (xs.filter (fun x => !x.bad)).length

/-- The store index of sector i of a ring: the high ring comes first (R374). -/
def storeIndex (s : State) (r : Ring) (i : Nat) : Nat :=
  match r with
  | .high => i
  | .low => s.pal.high.length + i

/-- A program or erase failed: the sector is BAD, the failure is recorded, and NOR_FAIL sets when a ring has fewer than two usable sectors left (R375). Operation 0 is a program, 1 an erase. -/
def norFailure (s : State) (r : Ring) (i op : Nat) : State :=
  let xs := (ringSectors s r).modify i (fun x => { x with bad := true })
  let s1 := setRing s r xs
  let failed := decide (usable s1.pal.high < 2) || decide (usable s1.pal.low < 2)
  let s2 := rcCount (rcCount s1 0x40030 (8 * op)) 0x40030 16
  let newly := failed && !s.pal.norFail
  marker { s2 with pal := { s2.pal with norFail := s2.pal.norFail || failed } } 0x0009
    (if newly then .critical else .warning) [loW (storeIndex s r i), loW op]

/-- Program one record into its ring as far as `steps` of R375 steps 2–4 went: 1 the slot header, 2 the record bytes, 3 COMMIT. Nothing happens where persistence is halted; FULL sets where a frozen ring has no sector left (R380). -/
def programRecord (s : State) (r : RamRec) (steps : Nat) : State :=
  let ring := ringOf r.record.sev
  let rc : Rec := { r.record with chain := ringChain (ringSectors s ring) }
  let size := recBytes rc
  match sectorFor s ring size (rc.seq.getD 0) with
  | none => { s with pal := { s.pal with full := true } }
  | some (i, xs) =>
    if steps = 0 then setRing s ring xs
    else
      let slot : NorRec := { record := rc, crc := recCrc rc, intact := decide (2 ≤ steps), committed := decide (3 ≤ steps) }
      let s1 := setRing s ring (xs.modify i (fun x => { x with slots := x.slots ++ [slot] }))
      if steps < 3 then markRam s1 r (fun x => { x with started := true })
      else
        let s2 := markRam s1 r (fun x => { x with persisted := true, started := true, record := rc })
        let sq := rc.seq.getD 0
        { s2 with pal := { s2.pal with
            committedSeq := some (match s2.pal.committedSeq with
              | some m => max m sq
              | none => sq)
            assigned := if rc.code = 0x0002 then some (((rc.payload.headD 0).toNat / 2 ^ 32)) else s2.pal.assigned } }

/-- Whether anything may be programmed: the store has not failed, and Folio runs the recorder (R375, R380, R407). -/
def canPersist (s : State) : Bool :=
  s.folioOn && !s.pal.norFail && (s.modes.mode != .standby || s.modes.standingBy) && engineOn s 92 && engineOn s 93

/-- Persist one record completely. -/
def persistOne (s : State) : State :=
  match nextToPersist s.pal.ram with
  | some r => if canPersist s then programRecord s r 3 else s
  | none => s

/-- Persist every unpersisted record, in order (R394, R400, R421). -/
def persistAll : Nat → State → State
  | 0, s => s
  | k + 1, s =>
    match nextToPersist s.pal.ram with
    | some _ => if canPersist s && !s.pal.full then persistAll k (persistOne s) else s
    | none => s

def persistEverything (s : State) : State := persistAll (s.pal.ram.length + 8) s

/-- The flush marker 0x0002, unless one of this flush exists already (R378). -/
def flushMarker (s : State) : State :=
  if s.pal.flushMarked then s
  else
    let s1 := marker s 0x0002 .warning [loW (s.pal.nextSeq + (2 ^ 32 - 1)), loW (unpersisted s.pal.ram), loW s.modes.mode.code]
    { s1 with pal := { s1.pal with flushMarked := true } }

/-- Whether a flush is complete: nothing is left unpersisted, or persistence has stopped. -/
def flushDone (s : State) : Bool := s.pal.norFail || s.pal.full || (nextToPersist s.pal.ram).isNone

/-- The oldest closed sector of a ring, by FIRST_SEQ (R375). -/
def oldestClosed (xs : List Sector) : Option Nat :=
  let c := (xs.zipIdx).filter (fun p => p.1.closed && !p.1.bad && !p.1.condemned)
  (c.foldl (fun b p =>
    match b with
    | none => some p
    | some (m : Sector × Nat) => if p.1.firstSeq < m.1.firstSeq then some p else some m) none).map (·.2)

/-- An erased sector with a fresh header (R375). -/
def erasedSector (x : Sector) : Sector :=
  { Sector.blankSector with headerOk := true, eraseOk := true, eraseCount := x.eraseCount + 1 }

/-! ### Summaries (R371) -/

/-- An accumulator that has taken no sample. -/
def newSum (s : State) (q ch : Nat) : SumAcc :=
  { channel := ch, quantity := q, started := s.now, taken := false, min := 0, max := 0, total := 0, samples := 0, minAt := 0, maxAt := 0, bins := List.replicate 16 0 }

/-- The channel's accumulator, new where none is open. -/
def sumFor (s : State) (ch q : Nat) : SumAcc :=
  match s.pal.sums.find? (fun x => x.channel == ch && x.quantity == q) with
  | some x => x
  | none => newSum s q ch

/-- The histogram bin of a sample (R371). -/
def histBin (lo hi x : Int) : Nat := ((16 * (x - lo)) / (hi - lo)).toNat.min 15

/-- Take a sample of a channel; `ms` says that it is a 1 ms sample, which the mean and the bins count (R371). -/
def sample (s : State) (ch q : Nat) (x : Int) (ms : Bool) : State :=
  let a := sumFor s ch q
  let h := palHist s q
  let fresh := a.taken = false
  let a1 : SumAcc := { a with
    taken := true
    min := if fresh ∨ x < a.min then x else a.min
    minAt := if fresh ∨ x < a.min then stroke s else a.minAt
    max := if fresh ∨ a.max < x then x else a.max
    maxAt := if fresh ∨ a.max < x then stroke s else a.maxAt
    total := if ms then a.total + x else a.total
    samples := if ms then a.samples + 1 else a.samples
    bins := if ms then a.bins.modify (histBin h.1 h.2 x) (· + 1) else a.bins }
  { s with pal := { s.pal with sums := a1 :: s.pal.sums.filter (fun y => !(y.channel == ch && y.quantity == q)) } }

/-- The port a channel's summary names: ports 0–15, and 0 for the input and the regions (R364, R371). -/
def chanPort (ch : Nat) : PortId := if h : ch < 16 then ⟨ch, h⟩ else 0

/-- The KIND 1 record of one accumulator, of 128 B (R371). -/
def summaryRecord (s : State) (a : SumAcc) : State :=
  let ms := (s.now - a.started) / 5000
  let mean : Int := if a.samples = 0 then 0 else a.total / (a.samples : Int)
  let bins := (List.range 8).map (fun i => pack64 [(0, (a.bins.getD (2 * i) 0) % 2 ^ 32), (32, (a.bins.getD (2 * i + 1) 0) % 2 ^ 32)])
  let body := [pack64 [(0, a.channel), (8, a.quantity), (32, ms % 2 ^ 32)],
               pack64 [(0, unsgn 16 a.min), (16, unsgn 16 a.max), (32, unsgn 16 mean)],
               BitVec.ofNat 64 a.minAt, BitVec.ofNat 64 a.maxAt] ++ bins
  pushRecord s (mkRec s (0x0B00 + a.quantity) .info 1 (chanPort a.channel) .none (engineTile 23 0) 0 body)

/-- The channels of a quantity (R371). -/
def channelsOf (q : Nat) : List Nat :=
  if q ≤ 3 then List.range 16 else if q ≤ 6 then [16] else [17, 18, 19, 20, 21]

/-- Close the summaries of some quantities: one record for each channel while SUM_EN is 1, and a new period starts (R371, R378). -/
def closeSummaries (s : State) (qs : List Nat) : State :=
  let s1 := if palSumEn s then qs.foldl (fun u q => (channelsOf q).foldl (fun v ch => summaryRecord v (sumFor v ch q)) u) s else s
  let fresh := qs.flatMap (fun q => (channelsOf q).map (newSum s q))
  { s1 with pal := { s1.pal with sums := fresh ++ s1.pal.sums.filter (fun a => !qs.contains a.quantity) } }

/-- The pre-flush of an early warning and of Hold-up: the marker first, the summaries of quantities 4–7 early, then persistence (R378). -/
def preFlush (s : State) : State :=
  let s1 := flushMarker s
  let s2 := closeSummaries s1 [4, 5, 6, 7]
  { s2 with pal := { s2.pal with flushing := true } }

/-! ### The boot scan (R377) -/

/-- The sectors named by a committed 0x0008 marker that have not been taken into use since (R377 step 2). -/
def namedCondemned (s : State) (r : Ring) (i : Nat) (x : Sector) : Bool :=
  (s.pal.high ++ s.pal.low).any (fun y => y.slots.any (fun n =>
    n.committed && n.record.code == 0x0008 && (n.record.payload.headD 0).toNat / 2 ^ 32 == storeIndex s r i
      && (!x.inUse || decide (x.firstSeq ≤ n.record.seq.getD 0))))

/-- One sector after the scan, and whether it was erased again (R377 steps 2–4). -/
def scanSector (s : State) (r : Ring) (i : Nat) (x : Sector) : Sector × Bool :=
  if x.bad then (x, false)
  else if x.condemned || (x.inUse && namedCondemned s r i x) then (erasedSector x, true)
  else if x.blank && !x.headerOk then ({ x with headerOk := true, eraseOk := true }, false)
  else if !x.headerOk then (erasedSector x, true)
  else if x.inUse && !x.closed && x.broken then (closeSector x, false)
  else (x, false)

/-- Scan one ring: its sectors, and how many were erased again. -/
def scanRing (s : State) (r : Ring) : List Sector × Nat :=
  let ys := ((ringSectors s r).zipIdx).map (fun p => scanSector s r p.2 p.1)
  (ys.map (·.1), (ys.filter (·.2)).length)

/-- The highest SEQ committed in the store. -/
def storeHighest (secs : List Sector) : Option Nat :=
  (secs.flatMap (fun x => x.slots)).foldl (fun b r =>
    if r.committed then
      match b, r.record.seq with
      | none, x => x
      | some m, some x => some (max m x)
      | some m, none => some m
    else b) none

/-- The ASSIGNED value of the last committed flush marker (R367). -/
def storeAssigned (secs : List Sector) : Option Nat :=
  ((secs.flatMap (fun x => x.slots)).foldl (fun (b : Option (Nat × Nat)) r =>
    if r.committed && r.record.code == 0x0002 then
      let q := r.record.seq.getD 0
      let v := (r.record.payload.headD 0).toNat / 2 ^ 32
      match b with
      | some (m, w) => if m < q then some (q, v) else some (m, w)
      | none => some (q, v)
    else b) none).map (·.2)

/-- The scan: sectors made ready, SEQ resumed, the 0x0001 marker recorded, then the records held without a SEQ take theirs (R367, R377). -/
def bootScan (s : State) : State :=
  let h := scanRing s .high
  let l := scanRing s .low
  let secs := h.1 ++ l.1
  let slots := secs.flatMap (fun x => x.slots)
  let hi := storeHighest secs
  let resume := match hi, storeAssigned secs with
    | none, none => 0
    | some a, none => (a + 1) % 2 ^ 32
    | none, some b => (b + 1) % 2 ^ 32
    | some a, some b => (max a b + 1) % 2 ^ 32
  let unc := (slots.filter (fun r => !r.committed && r.intact)).length
  let bad := (slots.filter (fun r => !r.intact)).length
  let waiting := s.pal.ram
  let s1 : State := { s with pal := { s.pal with high := h.1, low := l.1, nextSeq := resume, committedSeq := hi, scanDone := true, ram := [] } }
  let s2 := marker s1 0x0001 .notice [match hi with
    | some a => loW a
    | none => 0xFFFFFFFF, loW resume, loW unc, loW bad, loW (h.2 + l.2), loW s.localLost]
  let s3 := waiting.foldl (fun u r => pushRecord u r.record) s2
  { s3 with pal := { s3.pal with gapScanning := true } }

end Sys2Proof.Machine
end

