-- ==== Sys2Proof/Machine/Access.lean ====
section
/-! DEFINITION. Privilege and the refusals of set-up accesses (R41–R46, R53). -/

namespace Sys2Proof.Machine

/-- The number of a path in a record's parameter 1: its VI, 0 where it has none (R372 0x0101). -/
def pathIndex : Path → Nat
  | .viPage v => v.val
  | .qp v => v.val
  | _ => 0

/-- The code of a path in a record's parameter 0 (R372 0x0101). -/
def pathCode : Path → Nat
  | .spi => 0
  | .pf => 1
  | .viPage _ => 2
  | .qp _ => 3
  | .scribe => 4

/-- The privileged masters: the SPI target always, the PF while PF_TRUST is 1 (R44). -/
def privileged (s : State) (p : Path) : Bool :=
  match p with
  | .spi => true
  | .pf => rfld s 0x30 0 1 == 1
  | _ => false

/-- The parameters of an access record (R372 0x0101–0x0105). -/
def accessParams (p : Path) (a : Nat) : List Word := [loW (pathCode p), loW (pathIndex p), loW a]

/-- A record about an access on a path (R372, R449). -/
def accessRecord (s : State) (code : Nat) (p : Path) (a : Nat) (more : List Word) : State :=
  recordAt s (accessTile p) code .warning 0 (match p with
    | .viPage v => .ring v
    | .qp v => .ring v
    | _ => .none) .none (accessParams p a ++ more)

/-- A PRIV access by a master that is not privileged: recorded and counted; nothing else happens (R44). -/
def privDenied (s : State) (p : Path) (a : Nat) : State :=
  accessRecord (rcCount s 0x108 0) 0x0101 p a []

/-- A configuration write the device ignores is recorded with its value (R372 0x0105). -/
def writeIgnored (s : State) (p : Path) (a : Nat) (v : Word) : State := accessRecord s 0x0105 p a [v]

/-- Set a bit of a path's copy of ACCESS_STATUS (R53). -/
def accessFault (s : State) (p : Path) (bit : Nat) : State := rcAddPath s p 0x100 (BitVec.ofNat 32 (2 ^ bit))

/-- A failed access: TIMEOUT and ACCESS_FAIL_ADDR in the path's copy, and a record (R45). -/
def accessTimeout (s : State) (p : Path) (a : Nat) : State :=
  accessRecord (rcAddPath (accessFault s p 2) p 0x104 (pack [(0, a), (31, 1)])) 0x0102 p a []

/-- A command that a privileged master gives through the register at an address: its effect where Folio runs and the master is privileged, the denial of R44 otherwise. -/
def privCmd (t : Nat) (p : Path) (a : Nat) (s : State) (f : State → State) : Host.Outcome State Fault Refusal :=
  act t s fun u => when u.folioOn u fun w => if privileged w p then f w else privDenied w p a

end Sys2Proof.Machine
end

