-- ==== Sys2Proof/Machine/PalimpsestCmds.lean ====
section
/-! DEFINITION. The recorder's commands and events: opcode-table rows GAP_SCAN_COMPLETE and RECORD_COMMIT to RECORD_LOAD_READY. -/

namespace Sys2Proof.Machine

/-- A record's slot header, bytes and COMMIT are programmed to NOR; a failure marks the sector BAD, a collapse leaves what was programmed (R375). -/
def execRecordCommit (t : Nat) (result : NorResult) (s : State) : Host.Outcome State Fault Refusal :=
  act t s fun s =>
    match nextToPersist s.pal.ram with
    | none => { s with pal := { s.pal with flushing := false } }
    | some r =>
      when (canPersist s) s fun s =>
        match result with
        | .done => programRecord s r 3
        | .collapsed k => programRecord s r k.val
        | .failed =>
          let ring := ringOf r.record.sev
          match sectorFor s ring (recBytes r.record) (r.record.seq.getD 0) with
          | some (i, xs) => norFailure (setRing s ring xs) ring i 0
          | none => { s with pal := { s.pal with full := true } }

/-- The oldest closed sector is condemned, erased and re-headed where a ring has no other blank sector left; not while the store is frozen, nor in Brownout or Hold-up (R375). -/
def execSectorRecycle (t : Nat) (ring : Ring) (ok : Bool) (s : State) : Host.Outcome State Fault Refusal :=
  act t s fun s =>
    when (canPersist s && !s.pal.frozen && s.modes.mode != .brownout && s.modes.mode != .holdup
          && decide (blankCount (ringSectors s ring) ≤ 1)) s fun s =>
      match oldestClosed (ringSectors s ring) with
      | none => s
      | some i =>
        let s1 := marker s 0x0008 .info [loW (storeIndex s ring i), loW (match ring with
          | .high => 1
          | .low => 2)]
        let s2 := match s1.pal.ram.getLast? with
          | some r => if r.record.code = 0x0008 ∧ r.record.sev = .info ∧ r.persisted = false then programRecord s1 r 3 else s1
          | none => s1
        if ok then
          let s3 := setRing s2 ring ((ringSectors s2 ring).modify i erasedSector)
          { s3 with pal := { s3.pal with full := false } }
        else norFailure (setRing s2 ring ((ringSectors s2 ring).modify i (fun x => { x with condemned := true }))) ring i 1

/-- A rate bucket gains a token once its interval has passed; when it is full again with a suppressed count, the suppression summary is recorded (R370). -/
def execBucketRefill (t : Nat) (code : Nat) (port : PortId) (s : State) : Host.Outcome State Fault Refusal :=
  act t s fun s =>
    match s.pal.buckets.find? (fun b => b.code == code && b.port == port) with
    | none => s
    | some b =>
      when (decide (b.nextGain ≤ s.now)) s fun s =>
        let others := s.pal.buckets.filter (fun x => !(x.code == code && x.port == port))
        if b.tokens + 1 < bucketSize s b.sev then
          { s with pal := { s.pal with buckets := others ++ [{ b with tokens := b.tokens + 1, nextGain := s.now + bucketInterval s b.sev }] } }
        else
          let s1 : State := { s with pal := { s.pal with buckets := others } }
          if b.suppressed = 0 then s1
          else pushRecord s1 (mkRec s1 b.code b.sev 2 b.port .none (engineTile 23 0) 0
            (paramEntries [loW b.suppressed, loW b.first, hiW b.first, loW b.last, hiW b.last]))

/-- Every SUM_S a loss summary is recorded where records were displaced, and while SUM_EN is 1 the electrical summaries (R371). -/
def execSummaryPeriodClose (t : Nat) (s : State) : Host.Outcome State Fault Refusal :=
  act t s fun s =>
    when (s.folioOn && decide (s.pal.sumDue ≤ s.now)) s fun s =>
      let s1 := if s.pal.losses.any (fun x => x != 0) then
          let u := marker s 0x0003 .warning (s.pal.losses.map loW)
          { u with pal := { u.pal with losses := [0, 0, 0, 0] } }
        else s
      let s2 := closeSummaries s1 [1, 2, 3, 4, 5, 6, 7]
      { s2 with pal := { s2.pal with sumDue := s.pal.sumDue + ticksS (palSumS s) } }

/-- The effect of PAL_CTRL.FREEZE (R380). -/
def palFreeze (s : State) (p : Path) : State :=
  marker { s with pal := { s.pal with frozen := true } } 0x0004 .notice [loW (pathCode p)]

/-- PAL_CTRL.FREEZE stops recycling and records a marker (R380). -/
def execPalFreeze (t : Nat) (path : Path) (s : State) : Host.Outcome State Fault Refusal :=
  privCmd t path 0x40010 s fun s => palFreeze s path

/-- The effect of PAL_CTRL.UNFREEZE: freezing is reversed unless RETURN_LOCK is set; a marker is recorded (R380). -/
def palUnfreeze (s : State) (p : Path) : State :=
  marker { s with pal := { s.pal with frozen := s.pal.returnLock, full := if s.pal.returnLock then s.pal.full else false } } 0x0005 .notice [loW (pathCode p)]

/-- PAL_CTRL.UNFREEZE (R380). -/
def execPalUnfreeze (t : Nat) (path : Path) (s : State) : Host.Outcome State Fault Refusal :=
  privCmd t path 0x40010 s fun s => palUnfreeze s path

/-- The effect of PAL_CTRL.VERIFY: the verification of the selected sector begins (R380). -/
def palVerify (s : State) : State :=
  { s with pal := { s.pal with readout := { s.pal.readout with verifying := true, verifyDone := false, verifyPass := false, verifyNotClosed := false,
                                                               verifySector := rfld s 0x40110 0 13 } } }

/-- PAL_CTRL.VERIFY (R380). -/
def execPalVerify (t : Nat) (path : Path) (s : State) : Host.Outcome State Fault Refusal :=
  privCmd t path 0x40010 s palVerify

/-- The sector at an index of the store, the high ring first (R374). -/
def storeSector (s : State) (i : Nat) : Option Sector := (s.pal.high ++ s.pal.low)[i]?

/-- The verification ends with DONE, and PASS or NOT_CLOSED (R380). -/
def execPalVerifyDone (t : Nat) (s : State) : Host.Outcome State Fault Refusal :=
  act t s fun s =>
    when (s.folioOn && s.pal.readout.verifying) s fun s =>
      let r := s.pal.readout
      let done := { r with verifying := false, verifyDone := true }
      let r' := match storeSector s r.verifySector with
        | some x =>
          if x.closed && !x.condemned then { done with verifyPass := x.sealTag == Config.sealTag (sectorBytes x) && x.slots.all (fun y => y.intact) }
          else { done with verifyNotClosed := true }
        | none => { done with verifyNotClosed := true }
      { s with pal := { s.pal with readout := r' } }

/-- Every SEQ retained, in RAM or in NOR. -/
def retainedSeqs (s : State) : List Nat :=
  s.pal.ram.filterMap (fun r => r.record.seq) ++ (ringRecs s.pal.high ++ ringRecs s.pal.low).filterMap (fun r => if r.intact then r.record.seq else none)

/-- A load begins: READY drops until the record is in the window (R380). -/
def startLoad (s : State) : State :=
  { s with pal := { s.pal with readout := { s.pal.readout with loading := true, ready := false } } }

/-- PAL_READ_CTRL.LOAD fetches the record PAL_READ_SEQ (R380). -/
def execPalLoad (t : Nat) (path : Path) (s : State) : Host.Outcome State Fault Refusal :=
  privCmd t path 0x40104 s startLoad

/-- NEXT: the nearest retained SEQ above PAL_READ_SEQ is written there and loaded; FOUND 0 where none is retained (R380). -/
def palNext (s : State) : State :=
  let q := (reg s 0x40100).toNat
  match ((retainedSeqs s).filter (fun x => decide (q < x))).min? with
  | some x => startLoad (setReg s 0x40100 (loW x))
  | none => { s with pal := { s.pal with readout := { s.pal.readout with loading := false, ready := true, found := false, length := 0, window := [] } } }

/-- PREV: the nearest retained SEQ below (R380). -/
def palPrev (s : State) : State :=
  let q := (reg s 0x40100).toNat
  match ((retainedSeqs s).filter (fun x => decide (x < q))).max? with
  | some x => startLoad (setReg s 0x40100 (loW x))
  | none => { s with pal := { s.pal with readout := { s.pal.readout with loading := false, ready := true, found := false, length := 0, window := [] } } }

/-- PAL_READ_CTRL.NEXT (R380). -/
def execPalNext (t : Nat) (path : Path) (s : State) : Host.Outcome State Fault Refusal :=
  privCmd t path 0x40104 s palNext

/-- PAL_READ_CTRL.PREV (R380). -/
def execPalPrev (t : Nat) (path : Path) (s : State) : Host.Outcome State Fault Refusal :=
  privCmd t path 0x40104 s palPrev

/-- The words of a record in the window: its header words, its payload, its CHAIN and CRC (R364). -/
def recWords (r : Rec) (crc : Word) : List DWord :=
  [BitVec.ofNat 64 (bytesToNatLE ((recSerial r).take 8)), BitVec.ofNat 64 r.stroke,
   BitVec.ofNat 64 (bytesToNatLE (((recSerial r).drop 16).take 8))] ++ r.payload ++ [pack64 [(0, r.chain.toNat), (32, crc.toNat)]]

/-- The committed record before slot r in its ring, by SEQ: the ring predecessor (R380). -/
def ringPredecessor (s : State) (sv : Sev) (seq : Nat) : Option NorRec :=
  ((ringRecs (ringSectors s (ringOf sv))).filter (fun x => x.committed && decide (x.record.seq.getD 0 < seq))).foldl (fun b r =>
    match b with
    | none => some r
    | some (m : NorRec) => if m.record.seq.getD 0 < r.record.seq.getD 0 then some r else some m) none

/-- CHAIN_OK: the record's CHAIN is the CRC of its ring predecessor (R380). -/
def chainOk (s : State) (r : Rec) : Bool :=
  match ringPredecessor s r.sev (r.seq.getD 0) with
  | some x => x.crc == r.chain
  | none => false

/-- The loaded record is in the window and READY sets; a readout that needs NOR waits while a flush runs (R378, R380). -/
def execRecordLoadReady (t : Nat) (s : State) : Host.Outcome State Fault Refusal :=
  act t s fun s =>
    when (s.folioOn && s.pal.readout.loading) s fun s =>
      let q := (reg s 0x40100).toNat
      let put := fun (r : Readout) => ({ s with pal := { s.pal with readout := r } } : State)
      let base := { s.pal.readout with loading := false, ready := true, found := true }
      match s.pal.ram.find? (fun r => r.record.seq == some q) with
      | some r =>
        put { base with fromNor := false, uncommitted := !r.persisted, crcOk := true, chainOk := chainOk s r.record,
                        length := recBytes r.record / 8, window := recWords r.record (recCrc r.record) }
      | none =>
        when (!s.pal.flushing) s fun s =>
          match (ringRecs s.pal.high ++ ringRecs s.pal.low).find? (fun x => x.record.seq == some q) with
          | some x =>
            put { base with fromNor := true, uncommitted := !x.committed, crcOk := x.intact && x.crc == recCrc x.record, chainOk := chainOk s x.record,
                            length := recBytes x.record / 8, window := recWords x.record x.crc }
          | none => put { base with found := false, fromNor := false, uncommitted := false, crcOk := false, chainOk := false, length := 0, window := [] }

/-- The background scan for holes finishes and records 0x0007: the SEQs between the oldest retained one and the last before this Boot that no record carries (R377). -/
def execGapScanComplete (t : Nat) (s : State) : Host.Outcome State Fault Refusal :=
  act t s fun s =>
    when (s.folioOn && s.pal.gapScanning && s.pal.scanDone) s fun s =>
      let low := match oldestSeq s.pal.high, oldestSeq s.pal.low with
        | some a, some b => min a b
        | some a, none => a
        | none, some b => b
        | none, none => s.pal.nextSeq
      let have_ := retainedSeqs s
      let holes := ((List.range (s.pal.nextSeq - low)).filter (fun i => !have_.contains (low + i))).length
      marker { s with pal := { s.pal with gapScanning := false } } 0x0007 .notice [loW holes, loW low]

end Sys2Proof.Machine
end

