-- ==== Sys2Proof/Machine/Inkwell.lean ====
section
/-! DEFINITION. Inkwell: the pool and its blocks, per-VI limits, the bank hash, the conflict monitor (R246–R257), with rows BANK_WINDOW and CONFLICT_WINDOW. -/

namespace Sys2Proof.Machine

/-- Blocks of 512 B in the shared pool, and in the device's own reserve (R246, R247). -/
def poolBlocks : Nat := 7680
def reserveBlocks : Nat := 512

/-- The Inkwell banks serve requests: not in Hold-up or Standby, where their domains are off (R30, R396, R400). -/
def inkOn (s : State) : Bool := s.folioOn && s.modes.mode != .holdup && s.modes.mode != .standby

/-- The space other owners are still guaranteed, in blocks (R251). -/
def othersGuaranteed (s : State) (x : Owner) : Nat :=
  ((poolOwners.filter (fun y => y != x)).map (fun y => 2 * inkMin s y - usedBlocks s y)).sum

/-- A key drawn at a trip governs from its tick (R256). -/
def keyNow (s : State) : State :=
  match s.ink.nextKey with
  | some (k, t) => if t ≤ s.now then { s with ink := { s.ink with key := k, nextKey := none } } else s
  | none => s

/-- Note a change of the live payload for the average of R249; what is older than a second is forgotten. -/
def noteLive (s : State) : State :=
  let recent := s.ink.occ.takeWhile (fun e => decide (s.now < e.1 + 5000000))
  let older := (s.ink.occ.drop recent.length).take 1
  { s with ink := { s.ink with occ := (s.now, liveBytes s) :: (recent ++ older) } }

/-- Asynchronous blocks in use in a bank. -/
def bankUse (s : State) (b : Nat) : Nat := (s.ink.blocks.filter (fun k => k.bank == b)).length

/-- The bank a block goes to: that of its hash, or the next one with a free block (R253). -/
def placeBank (s : State) (x : Owner) (ctx : Option Nat) (serial : Nat) : Nat :=
  let h := crc32cFrom s.ink.key.toNat (natBytesLE 1 x.code ++ [0] ++ natBytesLE 2 (ctx.getD 0xFFFF) ++ natBytesLE 4 serial)
  let b := h.toNat % 64
  (((List.range 64).map (fun k => (b + k) % 64)).find? (fun i => decide (bankUse s i < 128))).getD b

/-- Place so many blocks for an owner's context (R253). -/
def placeBlocks : Nat → State → Owner → Option Nat → State
  | 0, s, _, _ => s
  | k + 1, s, x, ctx =>
    let i : Fin 128 := ⟨x.code % 128, Nat.mod_lt _ (by decide)⟩
    let serial := s.ink.serials.get i
    let b : Block := { owner := x, ctx := ctx, bank := placeBank s x ctx serial, gen := s.ink.keyGen }
    placeBlocks k { s with ink := { s.ink with blocks := s.ink.blocks ++ [b], serials := vmod s.ink.serials i (fun n => (n + 1) % 2 ^ 32) } } x ctx

/-- Free the oldest blocks of a context, so many of them. -/
def freeOldest : Nat → List Block → Owner → Option Nat → List Block
  | 0, bs, _, _ => bs
  | k + 1, bs, x, ctx =>
    match bs.find? (fun b => b.owner == x && b.ctx == ctx) with
    | some b => freeOldest k (bs.erase b) x ctx
    | none => bs

/-- Free blocks of a context. -/
def freeBlocks (s : State) (k : Nat) (x : Owner) (ctx : Option Nat) : State :=
  { s with ink := { s.ink with blocks := freeOldest k s.ink.blocks x ctx } }

/-- Payload bytes of a context that are charged to a VI: its endpoint's but for one in an admitted periodic buffer, and the data VI v retains of it (R251). -/
def ctxBytes (s : State) (ctx : Nat) : Nat :=
  (match findEp s ctx with
   | some e => if e.admission.isSome then 0 else epBytes e
   | none => 0) + ((List.finRange 64).map (fun v =>
    (((s.vis.get v).window.filter (fun c => !c.isCmd && c.source == ctx)).map (fun c => dataBytes c.data)).sum)).sum

/-- Whether a context's endpoint has nothing to move: it is gone, or it has no transfer and no read-ahead. -/
def idleCtx (s : State) (ctx : Nat) : Bool :=
  match findEp s ctx with
  | some e => e.queue.isEmpty && !e.ra
  | none => true

/-- Payload of a context changed from `before` bytes: blocks it no longer needs are free at once; blocks it needs beyond those granted are taken (R251). Where its endpoint has nothing to move, only the blocks its bytes fill stay, and no request of it waits. -/
def settleCtx (before : Nat) (s : State) (x : Owner) (ctx : Nat) : State :=
  let after := ctxBytes s ctx
  let held := (s.ink.blocks.filter (fun b => b.ctx == some ctx)).length
  let idle := idleCtx s ctx
  let spare := if idle then held - cdiv after 512 else if after < before then cdiv before 512 - cdiv after 512 else 0
  let s1 := freeBlocks { s with ink := { s.ink with waits := if idle then s.ink.waits.filter (fun w => w.ctx != some ctx) else s.ink.waits } } spare x (some ctx)
  noteLive (placeBlocks (if after < before then 0 else cdiv after 512 - held) s1 x (some ctx))

/-- Release an owner's retained replay data, oldest first, until `need` blocks fit its limit or none is left (R251). -/
def releaseRetained : Nat → State → RingId → Nat → State
  | 0, s, _, _ => s
  | k + 1, s, v, need =>
    if usedBlocks s (.ring v) + need ≤ 2 * inkLimit s (.ring v) then s
    else
      match (s.vis.get v).window.findIdx? (fun c => !c.data.isEmpty) with
      | none => s
      | some i =>
        let c := ((s.vis.get v).window[i]?).getD { seq := 0, code := 0, length := 0, source := 0, slot := 0, port := 0, isCmd := false, stashed := false, data := [], dataLost := 0, mark := none }
        let before := ctxBytes s c.source
        let s1 : State := { s with vis := vmod s.vis v (fun x => { x with window := x.window.modify i (fun c => { c with data := [], dataLost := dataBytes c.data }) }) }
        releaseRetained k (settleCtx before s1 (.ring v) c.source) v need

/-- Whether an allocation can be granted now (R251). The device's own buffers draw on the reserve of R247. -/
def canGrant (s : State) (x : Owner) (need : Nat) : Bool :=
  if x = .none then decide (usedBlocks s .none + need ≤ reserveBlocks)
  else decide (usedBlocks s x + need ≤ 2 * inkLimit s x) && decide (need + othersGuaranteed s x ≤ poolBlocks - poolUsed s)

/-- Whether a promoted endpoint's request waits that this one may not pass (R201). -/
def promotedWaits (s : State) (x : Owner) (ctx : Option Nat) : Bool :=
  let promoted := fun (c : Option Nat) => match c.bind (findEp s) with
    | some e => e.promoted
    | none => false
  !promoted ctx && s.ink.waits.any (fun w => promoted w.ctx && !(w.owner == x && w.ctx == ctx) && canGrant s w.owner w.need)

/-- A block request is decided (R251): granted, or it waits, which counts once for each owner in any 1 s (R249). -/
def requestBlocks (s : State) (x : Owner) (ctx : Option Nat) (need : Nat) : State :=
  let s1 := keyNow s
  let s2 := match x with
    | .ring v => releaseRetained 256 s1 v need
    | _ => s1
  let others := s2.ink.waits.filter (fun w => !(w.owner == x && w.ctx == ctx))
  if canGrant s2 x need && !promotedWaits s2 x ctx then
    let s3 := placeBlocks need { s2 with ink := { s2.ink with waits := others } } x ctx
    rcAdd s3 0x60018 (loW (satN 13 (cdiv (poolUsed s3) 2)))
  else
    let s3 : State := { s2 with ink := { s2.ink with waits := others ++ [{ owner := x, ctx := ctx, need := need }] } }
    if limitOk s3 (1300 + x.code) then rcCount (limitMark s3 (1300 + x.code)) 0x6001C 0 else s3

/-- Count cycles on a bank: a periodic request within the 25,000 of the window counts as periodic, any other as asynchronous (R248). -/
def bankCycles (s : State) (periodic : Bool) (b : Fin 64) (n : Nat) : State :=
  if periodic && decide (s.ink.periodic.get b < 25000) then { s with ink := { s.ink with periodic := vmod s.ink.periodic b (· + n) } }
  else { s with ink := { s.ink with async := vmod s.ink.async b (· + n) } }

/-- A window of 125 µs begins on each Stroke tick that is a multiple of 625, and the counts restart (R248). -/
def execBankWindow (t : Nat) (s : State) : Host.Outcome State Fault Refusal :=
  act t s fun s => when (inkOn s && decide (stroke s % 625 = 0)) s fun s =>
    { s with ink := { s.ink with periodic := Vector.replicate 64 0, async := Vector.replicate 64 0 } }

/-- CONFLICT_PCT and CONFLICT_WINDOWS as treated (R250). -/
def conflictPct (s : State) : Nat := inRange 5 75 25 (rfld s 0x60000 0 7)
def conflictWindows (s : State) : Nat := let x := rfld s 0x60000 8 3; if x = 0 then 4 else x

/-- Whether a bank is hot in a window: 95 % of its asynchronous cycles granted, and its share of the demand (R255). -/
def hotBank (s : State) (grants demands : List Nat) (b : Nat) : Bool :=
  decide (57000 ≤ grants.getD b 0) && decide (conflictPct s * demands.sum ≤ 100 * demands.getD b 0)

/-- The monitor trips: a new key unless frozen, the counts, the record and the notice (R256). -/
def conflictTrip (s : State) (bank : Nat) : State :=
  let frozen := rfld s 0x60008 0 1 == 1
  let s1 := rcAdd { s with ink := { s.ink with hotRun := 0 } } 0x60020 (pack [(0, 1), (16, bank)])
  let s2 := if frozen then s1
    else
      let d := draw s1
      { d.2 with ink := { d.2.ink with nextKey := some (d.1, s.now + 500), keyGen := (s.ink.keyGen + 1) % 65536 } }
  let s3 := record s2 0x0701 .notice 0 .none .none [loW bank, loW s2.ink.keyGen]
  notice s3 0x10 .notice 0 .none [pack64 [(0, bank), (6, s2.ink.keyGen), (22, bnat frozen)]] [boardQueue]

/-- A 100 µs monitor window closes: `grants` and `demands` are G and D of each bank (R255, R256). -/
def execConflictWindow (t : Nat) (grants demands : List Nat) (s : State) : Host.Outcome State Fault Refusal :=
  act t s fun s => when (inkOn s && decide (stroke s % 500 = 0)) s fun s =>
    let s0 := keyNow s
    let hot := (List.range 64).filter (hotBank s0 grants demands)
    match hot with
    | [] => { s0 with ink := { s0.ink with hotRun := 0 } }
    | b0 :: _ =>
      let run := s0.ink.hotRun + 1
      if conflictWindows s0 ≤ run then
        conflictTrip s0 (hot.foldl (fun best b => if demands.getD best 0 < demands.getD b 0 then b else best) b0)
      else { s0 with ink := { s0.ink with hotRun := run } }

/-- MIN_OVER: whether the applied minimums sum to more than the pool; setting it is recorded (R250). -/
def evalMinOver (s : State) : State :=
  let total := (poolOwners.map (fun x => min (fld (inkReg s x) 16 13) (inkLimit s x))).sum
  let exceeds := decide (3840 < total)
  let s1 : State := { s with ink := { s.ink with minOver := exceeds } }
  if exceeds && !s.ink.minOver then record s1 0x0108 .warning 0 .none .none [] else s1

end Sys2Proof.Machine
end

