-- ==== Sys2Proof/Machine/Rings.lean ====
section
/-! DEFINITION. Host memory, completions, the event ring, MSI-X: the operations every ring VI's work is written over (R100–R117, R122, R147), with rows NOTICE_DELIVERY, MSIX_INTERVAL_EXPIRY and RDMA_ACK_RECEIVED. -/

namespace Sys2Proof.Machine

/-! ### Completion codes (R11, R110) -/

def ccSuccess : Nat := 0x00
def ccShort : Nat := 0x01
def ccStall : Nat := 0x02
def ccBabble : Nat := 0x03
def ccTransaction : Nat := 0x04
def ccMissed : Nat := 0x05
def ccOverrun : Nat := 0x06
def ccUnderrun : Nat := 0x07
def ccCancelled : Nat := 0x08
def ccLeaseLost : Nat := 0x09
def ccNotOwner : Nat := 0x0A
def ccDescriptor : Nat := 0x0B
def ccRemote : Nat := 0x0C
def ccAdmission : Nat := 0x0D
def ccPortGone : Nat := 0x0E
def ccExhausted : Nat := 0x0F
def ccUnknown : Nat := 0x10
def ccParam : Nat := 0x11
def ccBusy : Nat := 0x12
def ccReadAhead : Nat := 0x13
def ccTooSmall : Nat := 0x14
def ccPartial : Nat := 0x15
def ccResync : Nat := 0x16

/-! ### Updates -/

/-- Change one ring VI. -/
def setVi (s : State) (v : RingId) (f : Vi → Vi) : State := { s with vis := vmod s.vis v f }

/-- Change one endpoint. -/
def setEp (s : State) (ctx : Nat) (f : Endpoint → Endpoint) : State := { s with eps := s.eps.map (fun e => if e.ctx == ctx then f e else e) }

/-- Change one port's Nibs. -/
def setNib (s : State) (n : PortId) (f : Nib → Nib) : State := { s with nibs := vmod s.nibs n f }

/-- Change one port's ownership. -/
def setOwn (s : State) (n : PortId) (f : Own → Own) : State := { s with own := vmod s.own n f }

/-- Change one queue-pair slot. -/
def setQp (s : State) (q : Fin 128) (f : Qp → Qp) : State := { s with qps := vmod s.qps q f }

/-! ### Host memory (R131, R147) -/

/-- Whether an access lies within what the VI's transport reaches: any address on PCIe, one region on RoCEv2 (R147). -/
def reaches (s : State) (v : RingId) (addr len : Nat) : Bool :=
  if viRoce s v then
    match (s.vis.get v).qp with
    | some q => (s.qps.get q).regions.any (fun r => decide (r.va ≤ addr) && decide (addr + len ≤ r.va + r.len))
    | none => false
  else true

/-- Bus Master Enable of the VI's function, for a PCIe VI (R130, R132). -/
def busMaster (s : State) (v : RingId) : Bool := maskBit s.pcie.bme (viFn s v).val

/-- A request was sent on a VI's queue pair: the ACK timer runs from the oldest one unacknowledged (R149). -/
def noteSent (s : State) (v : RingId) : State :=
  match (s.vis.get v).qp with
  | some q => setQp s q (fun x => { x with oldestAt := some (x.oldestAt.getD s.now) })
  | none => s

/-- Write to a host's memory: posted on PCIe, blocked and counted without Bus Master Enable; a numbered RDMA WRITE on RoCEv2 (R117, R130, R131). -/
def hostWrite (s : State) (v : RingId) (addr : Nat) (bytes : List Byte) : State :=
  if viRoce s v then noteSent (setVi (emit s (.writeHost v addr bytes)) v (fun x => { x with issued := x.issued + 1 })) v
  else if busMaster s v then emit s (.writeHost v addr bytes)
  else rcCount s 0x90030 16

/-- The number of the write just issued, 0 where none is acknowledged (R117). -/
def writeNo (s : State) (v : RingId) : Nat := if viRoce s v then (s.vis.get v).issued else 0

/-! ### MSI-X (R116, R129) -/

/-- Raise the vector EVT_MOD names: a message, or its pending bit where it is masked or MSI-X is off (R129). -/
def raiseMsix (s : State) (v : RingId) : State :=
  let f := viFn s v
  let i : Fin 8 := ⟨fld (viReg s v 0x140) 24 3, by unfold fld; exact Nat.mod_lt _ (by decide)⟩
  let s1 := setVi s v (fun x => { x with unsignalled := 0 })
  if maskBit s.pcie.msixOn f.val && !((s.pcie.msix.get f).get i).masked then emit s1 (.msix f i.val)
  else { s1 with pcie := { s1.pcie with msixPending := vmod s1.pcie.msixPending f (fun m => Nat.lor m (2 ^ i.val)) } }

/-- An entry was written: the moderation of R116. -/
def signalEntry (s : State) (v : RingId) (urgent : Bool) : State :=
  if viKind s v = 1 then
    let s1 := setVi s v (fun x => { x with unsignalled := x.unsignalled + 1, unsignalledAt := if x.unsignalled = 0 then s.now else x.unsignalledAt })
    if urgent || decide (max 1 (fld (viReg s v 0x140) 16 8) ≤ (s1.vis.get v).unsignalled) then raiseMsix s1 v else s1
  else s

/-! ### The event ring (R112–R117) -/

/-- The 16 bytes of an entry but for its lap and its CHECK: 14 bytes whose byte 12 has the lap clear. -/
def entryBody (e : EvtEntry) : List Byte :=
  match e with
  | .completion c replayed =>
    natBytesLE 4 c.seq ++ natBytesLE 3 c.length ++ natBytesLE 1 c.code ++ natBytesLE 2 c.source ++ natBytesLE 2 c.slot
      ++ natBytesLE 1 ((if c.isCmd then 2 else 1) * 2 + bnat replayed * 16 + bnat c.stashed * 32) ++ natBytesLE 1 c.port
  | .word w q i => natBytesLE 8 w.toNat ++ natBytesLE 2 q ++ natBytesLE 1 i ++ [0] ++ natBytesLE 1 (3 * 2) ++ [0]

/-- The whole entry (R112, R113). -/
def entryBytes (check lap : Bool) (e : EvtEntry) : List Byte :=
  let b := (entryBody e).modify 12 (fun x => BitVec.ofNat 8 (x.toNat + bnat lap))
  b ++ natBytesLE 2 (if check then (crc16 b).toNat else 0)

/-- The slots of a VI's event ring. -/
def evtSlots (s : State) (v : RingId) : Nat := 2 ^ evtLog s v

/-- Write an entry into the next slot (R112, R115). -/
def writeEntry (s : State) (v : RingId) (d : DueEntry) : State :=
  let x := s.vis.get v
  let bytes := entryBytes (checkEn s v) x.evtLap d.entry
  let size := evtSlots s v
  let s1 := if viRoce s v then noteSent (emit s (.event v x.evtTail bytes)) v
    else if busMaster s v then emit s (.event v x.evtTail bytes) else rcCount s 0x90030 16
  let s2 := setVi s1 v (fun y => { y with
    evtTail := if y.evtTail + 1 = size then 0 else y.evtTail + 1
    evtLap := if y.evtTail + 1 = size then !y.evtLap else y.evtLap
    evtUsed := y.evtUsed + 1
    evtCount := y.evtCount + 1
    window := match d.entry with
      | .completion c _ => y.window.map (fun k => if k.seq == c.seq then { k with mark := some y.evtCount } else k)
      | .word _ _ _ => y.window })
  signalEntry s2 v d.urgent

/-- No slot is free: EVT_FULL, recorded at its first occurrence in any 1 s (R115). -/
def eventFull (s : State) (v : RingId) : State :=
  if (s.vis.get v).evtFull then s
  else recordLimited (setVi s v (fun x => { x with evtFull := true })) (1400 + v.val)
    (fun u => record u 0x0204 .warning 0 (.ring v) .none [loW v.val])

/-- Write the entries that are due, in order, while the write each waits for is acknowledged and a slot is free (R115, R117). -/
def flushDue : Nat → State → RingId → State
  | 0, s, _ => s
  | k + 1, s, v =>
    let x := s.vis.get v
    if x.unreachable || !x.enabled then s
    else
      match x.due with
      | [] => s
      | d :: rest =>
        if d.needAck ≤ x.acked then
          if x.evtUsed < evtSlots s v then flushDue k (writeEntry (setVi s v (fun y => { y with due := rest })) v d) v
          else eventFull s v
        else s

/-- Write what can be written. -/
def flushEvents (s : State) (v : RingId) : State := flushDue ((s.vis.get v).due.length + 1) s v

/-- Entries become due. -/
def pushDue (s : State) (v : RingId) (ds : List DueEntry) : State :=
  flushEvents (setVi s v (fun x => { x with due := x.due ++ ds })) v

/-! ### Notices into an event ring (R113, R272) -/

/-- Scriptorium moves the oldest notice of a VI's queue into its event ring when the ring has a free slot for every word and no completion waits (R113, R115, R117, R272); not while the VI is Unreachable or in RESYNC (R124, R155), nor in Hold-up (R396). -/
def deliverNotice (s : State) (v : RingId) : State :=
  let x := s.vis.get v
  match (s.margin.queues.get (viQueue v)).notices with
  | [] => s
  | n :: rest =>
    if x.enabled && !x.unreachable && !x.resync && x.due.isEmpty && decide (x.evtUsed + n.words ≤ evtSlots s v) then
      let s1 := setQueue s (viQueue v) (fun q => { q with notices := rest })
      let ds := (List.range n.words).map (fun i => ({ entry := .word (n.word i) x.noticeSeq i, needAck := 0, urgent := n.prio == .critical && i + 1 == n.words } : DueEntry))
      pushDue (setVi s1 v (fun y => { y with noticeSeq := (y.noticeSeq + 1) % 65536 })) v ds
    else if x.enabled && !x.unreachable && !x.resync && decide (evtSlots s v < x.evtUsed + n.words) then eventFull s v
    else s

/-- Entries enter the event ring in the order of their stamps (R117): the notices stamped in earlier ticks that fit go in before what falls due now; nothing goes to a host in Hold-up or Standby (R396, R400). -/
def deliverEarlier : Nat → State → RingId → State
  | 0, s, _ => s
  | k + 1, s, v =>
    match (s.margin.queues.get (viQueue v)).notices with
    | [] => s
    | n :: _ =>
      if n.stroke < stroke s ∧ (s.vis.get v).evtUsed + n.words ≤ evtSlots s v ∧ s.modes.mode ≠ .holdup ∧ s.modes.mode ≠ .standby then
        deliverEarlier k (deliverNotice s v) v
      else s

/-- Deliver a VI's waiting notices as far as they go (R124, R400). -/
def deliverAll : Nat → State → RingId → State
  | 0, s, _ => s
  | k + 1, s, v => if (s.margin.queues.get (viQueue v)).notices.isEmpty then s else deliverAll k (deliverNotice s v) v

/-- The notices that go in before an entry that falls due now. -/
def earlierNotices (s : State) (v : RingId) : State := deliverEarlier ((s.margin.queues.get (viQueue v)).notices.length) s v

/-- The last 256 completions are kept; the oldest leaves with its data (R122). -/
def windowPush (s : State) (v : RingId) (c : Completion) : State :=
  let x := s.vis.get v
  let w := x.window ++ [c]
  if w.length ≤ 256 then setVi s v (fun y => { y with window := w })
  else
    match x.window with
    | old :: _ =>
      let before := ctxBytes s old.source
      let s1 := setVi s v (fun y => { y with window := w.drop 1 })
      if old.data.isEmpty then s1 else settleCtx before s1 (.ring v) old.source
    | [] => s

/-- A completion falls due: it takes NEXT_SEQ, enters the window, and is written when R115 and R117 allow; while the VI is Unreachable it stays unwritten (R114, R122, R155). A VI without rings gets none (R86). -/
def complete (s : State) (v : RingId) (c : Completion) (needAck : Nat) : State :=
  if ¬ (s.vis.get v).enabled then s
  else
    let c1 := { c with seq := (s.vis.get v).nextSeq }
    let s1 := windowPush (setVi s v (fun x => { x with nextSeq := (x.nextSeq + 1) % 2 ^ 32 })) v c1
    if (s1.vis.get v).unreachable then s1
    else pushDue (earlierNotices s1 v) v [{ entry := .completion c1 false, needAck := needAck, urgent := false }]

/-- A command's completion (R109, R112): its entry leaves the queue of fetched commands. -/
def completeCmd (s : State) (v : RingId) (slot type code result : Nat) (n : PortId) : State :=
  let s1 := setVi s v (fun x => { x with
    cmds := x.cmds.filter (fun e => e.slot != slot)
    descErrors := if code = ccDescriptor then x.descErrors + 1 else x.descErrors })
  complete s1 v { seq := 0, code := code, length := result % 2 ^ 24, source := type, slot := slot, port := n.val, isCmd := true, stashed := false,
                  data := [], dataLost := 0, mark := none } 0

/-- The TYPE of a fetched command, by its slot. -/
def cmdAt (s : State) (v : RingId) (slot : Nat) : Option CmdEntry := (s.vis.get v).cmds.find? (fun e => e.slot == slot)

/-- Complete the command in a slot with a code and a RESULT. -/
def finishCmd (s : State) (v : RingId) (slot code result : Nat) (n : PortId) : State :=
  match cmdAt s v slot with
  | some e => completeCmd s v slot e.type code result n
  | none => s

/-- Whether an endpoint moves data towards the host. -/
def epIn (e : Endpoint) : Bool := decide (0x80 ≤ e.epAddr)

/-- The total LENGTH of a transfer (R105). -/
def xferLen (x : Transfer) : Nat := (x.tds.map (fun d => d.length)).sum

/-- Whether a control transfer's data stage runs towards the host (R104). -/
def setupIn (x : Transfer) : Bool :=
  match x.tds.find? (fun d => d.kind == 2) with
  | some d => decide (128 ≤ (d.setup.headD 0).toNat)
  | none => false

/-- Whether a transfer moves IN data. -/
def xferIn (e : Endpoint) (x : Transfer) : Bool := if e.type = 0 then setupIn x else epIn e

/-- The last descriptor of a transfer. -/
def lastTd (x : Transfer) : Option Td := x.tds.getLast?

/-- A transfer leaves its endpoint's queue and its completion falls due: none for a QUIET transfer that ends with SUCCESS (R105). Data towards the host is retained with the completion (R122). -/
def endTransfer (s : State) (ctx : Nat) (x : Transfer) (code len : Nat) : State :=
  match findEp s ctx with
  | none => s
  | some e =>
    let s1 := setEp s ctx (fun y => { y with queue := y.queue.erase x })
    let s2 := if code = ccTransaction then rcCount s1 (portReg e.port 0x40C) 16
      else if code = ccMissed then rcCount s1 (portReg e.port 0x60C) 0 else s1
    let last := lastTd x
    let quiet := (match last with
      | some d => d.quiet
      | none => false) && code == ccSuccess
    let s3 := if code = ccDescriptor then setVi s2 x.v (fun y => { y with descErrors := y.descErrors + 1 }) else s2
    if quiet then s3
    else complete s3 x.v { seq := 0, code := code, length := len % 2 ^ 24, source := ctx, slot := (last.map (·.slot)).getD 0, port := e.port.val,
                           isCmd := false, stashed := x.stashed, data := x.wrote.map (·.2), dataLost := 0, mark := none }
                         ((x.wrote.map (·.1)).foldl max 0)

/-- End a transfer and settle the Inkwell space of its context. -/
def endAndSettle (s : State) (ctx : Nat) (x : Transfer) (code len : Nat) : State :=
  settleCtx (ctxBytes s ctx) (endTransfer s ctx x code len) (.ring x.v) ctx

/-- Bytes moved to or from host memory (R109, R112). -/
def movedBytes (x : Transfer) : Nat := x.done

/-- End every transfer of an endpoint that a test picks, in ring order: the state and how many. -/
def endQueue (s : State) (ctx : Nat) (pick : Transfer → Bool) (code : Nat) : State × Nat :=
  match findEp s ctx with
  | none => (s, 0)
  | some e =>
    let xs := e.queue.filter pick
    (xs.foldl (fun u x => endAndSettle u ctx x (if x.preset = some ccNotOwner then ccNotOwner else code) (movedBytes x)) s, xs.length)

/-! ### Ages (R199, R200) -/

/-- The size of an endpoint's packets: bits [10:0] of MAX_PACKET on USB 2.0 (R177). -/
def pktSize (s : State) (e : Endpoint) : Nat := if epSs s e then e.maxPacket else e.maxPacket % 2048

/-- Room for one maximum packet in the blocks granted to a context, or in its admitted buffer (R174, R207). -/
def inRoom (s : State) (e : Endpoint) : Bool :=
  match e.admission with
  | some a => decide (epBytes e + pktSize s e ≤ a.space)
  | none => decide (ctxBytes s e.ctx + pktSize s e ≤ 512 * (s.ink.blocks.filter (fun b => b.ctx == some e.ctx)).length)

/-- The length of a transfer's next packet. -/
def nextLen (s : State) (e : Endpoint) (x : Transfer) : Nat := min (pktSize s e) (xferLen x - x.done)

/-- What a transfer's next transaction needs is in Inkwell (R174). -/
def dataReady (s : State) (e : Endpoint) (x : Transfer) : Bool :=
  if x.preset.isSome then false
  else if e.type = 0 ∧ x.stage ≠ 1 then true
  else if xferIn e x then inRoom s e
  else x.zlpDue || decide (nextLen s e x ≤ x.held.length)

/-- The TT an endpoint is reached through: the hub, and its port on a multi-TT hub (R180). -/
def ttOf (s : State) (e : Endpoint) : Option (Nat × Nat) :=
  match epDevice s e with
  | none => none
  | some d =>
    if d.ttAddr = 0 then none
    else
      match s.devices.find? (fun h => h.port == e.port && h.addr == d.ttAddr) with
      | some h => some (d.ttAddr, if h.mtt then d.ttPort else 0)
      | none => some (d.ttAddr, 0)

/-- A TT takes a non-periodic split only while fewer than two are outstanding (R180). -/
def splitFree (s : State) (e : Endpoint) : Bool :=
  match ttOf s e with
  | none => true
  | some k => e.splitOpen || decide (((portEps s e.port).filter (fun y => y.splitOpen && (y.type == 0 || y.type == 2) && ttOf s y == some k)).length < 2)

/-- An endpoint runs: started, with a ring that needs no rebinding. -/
def epRuns (e : Endpoint) : Bool :=
  e.run == .running && (match e.bound with
    | some b => !b.dead
    | none => false)

/-- Whether an asynchronous endpoint is eligible for a transaction (R199). -/
def eligible (s : State) (e : Endpoint) : Bool :=
  match e.queue with
  | [] => false
  | x :: _ =>
    (e.type == 0 || e.type == 2) && epRuns e && !e.ttWait && !e.erdyWait && (s.nibs.get e.port).susp == .awake
      && !(s.vis.get x.v).unreachable && dataReady s e x && splitFree s e

/-- An endpoint's age runs while it is eligible and stands otherwise (R200). -/
def refreshAge (s : State) (e : Endpoint) : Endpoint :=
  let el := eligible s e
  match el, e.ageSince with
  | true, none => { e with ageSince := some s.now }
  | false, some t => { e with age := e.age + (s.now - t), ageSince := none }
  | _, _ => e

/-- Bring every endpoint's age up to date. -/
def refreshAges (s : State) : State := { s with eps := s.eps.map (refreshAge s) }

/-! ### NOTICE_DELIVERY and the moderation interval (R116, R272) -/

/-- NOTICE_DELIVERY (R272). -/
def execNoticeDelivery (t : Nat) (v : RingId) (s : State) : Host.Outcome State Fault Refusal :=
  act t s fun s => when (s.folioOn && s.modes.mode != .holdup && s.modes.mode != .standby) s fun s => deliverNotice s v

/-- INTERVAL µs after the first entry not yet signalled the vector is raised (R116). -/
def execMsixIntervalExpiry (t : Nat) (v : RingId) (s : State) : Host.Outcome State Fault Refusal :=
  act t s fun s =>
    let x := s.vis.get v
    when (s.folioOn && viKind s v == 1 && decide (0 < x.unsignalled)
          && decide (x.unsignalledAt + ticksUs (fld (viReg s v 0x140) 0 16) ≤ s.now)) s fun s => raiseMsix s v

/-- An ACK for RDMA WRITEs up to number `upTo`: what they held leaves, and the completions behind them are written (R117); the ACK timer stops when nothing is outstanding (R149). -/
def execRdmaAckReceived (t : Nat) (v : RingId) (upTo : Nat) (all : Bool) (s : State) : Host.Outcome State Fault Refusal :=
  act t s fun s => when (s.folioOn && viRoce s v && (s.vis.get v).qp.isSome) s fun s =>
    let s1 := setVi s v (fun x => { x with acked := max x.acked (min x.issued upTo) })
    let s2 := match (s1.vis.get v).qp with
      | some q => setQp s1 q (fun x => { x with oldestAt := if all then none else some s.now, retryLeft := x.retry })
      | none => s1
    flushEvents s2 v

end Sys2Proof.Machine
end

