-- ==== Sys2Proof/Machine/Trees.lean ====
section
/-! DEFINITION. What the end of a bus, of a device or of an endpoint does to the work on it: transfers ended, stashes discarded, records and admissions released, hub views cleared (R107, R121, R191, R206, R225, R227). -/

namespace Sys2Proof.Machine

/-! ### Classic views (R223–R227) -/

/-- The index of classic VI c's view of hub port n (R215). -/
def viewIdx (c : ClassicId) (n : PortId) : Fin 80 := ⟨16 * c.val + n.val, by omega⟩

/-- Change one view. -/
def setView (s : State) (c : ClassicId) (n : PortId) (f : CView → CView) : State := { s with cviews := vmod s.cviews (viewIdx c n) f }

/-- Change one classic VI. -/
def setCvi (s : State) (c : ClassicId) (f : Cvi → Cvi) : State := { s with cvis := vmod s.cvis c f }

/-- Change one hub port. -/
def setCPort (s : State) (n : PortId) (f : CPort → CPort) : State := { s with cports := vmod s.cports n f }

/-- Bit i of a 16-bit status. -/
def bit16 (w : BitVec 16) (i : Nat) : Bool := (w.toNat / 2 ^ i) % 2 == 1

/-- Set or clear bit i of a 16-bit status. -/
def put16 (w : BitVec 16) (i : Nat) (b : Bool) : BitVec 16 :=
  BitVec.ofNat 16 (if b then Nat.lor w.toNat (2 ^ i) else w.toNat - (if bit16 w i then 2 ^ i else 0))

/-- The classic VI that owns a port, if one does. -/
def classicOwner (s : State) (n : PortId) : Option ClassicId :=
  match (s.own.get n).owner with
  | .classic c => some c
  | _ => none

/-- A disconnect in the owning view of one path: every status bit but the latched over-current clears, the link returns to Rx.Detect, and the connection change is set (R224, R225). -/
def viewDisconnect (s : State) (n : PortId) (ss : Bool) : State :=
  match classicOwner s n with
  | none => s
  | some c => setView s c n (fun w =>
      if ss then
        if bit16 w.statusS 0 then { w with statusS := put16 0xA0 3 (bit16 w.statusS 3), changeS := put16 w.changeS 0 true } else w
      else
        if bit16 w.status2 0 then { w with status2 := put16 0 3 (bit16 w.status2 3), change2 := put16 w.change2 0 true } else w)

/-- The over-current state in the owning view: set while a trip is latched; the change is set on both edges (R225). -/
def viewOverCurrent (s : State) (n : PortId) (on : Bool) : State :=
  match classicOwner s n with
  | none => s
  | some c => setView s c n (fun w =>
      if bit16 w.status2 3 == on then w
      else { w with status2 := put16 w.status2 3 on, change2 := put16 w.change2 3 true, statusS := put16 w.statusS 3 on, changeS := put16 w.changeS 3 true })

/-- HUB_LOCAL_POWER changed: C_HUB_LOCAL_POWER sets in every classic VI (R225). -/
def viewLocalPower (s : State) : State :=
  eachClassic s (fun u c => if (u.cvis.get c).exists_ then setCvi u c (fun x => { x with changePower := true }) else u)

/-- A Ligature is emptied (R237). -/
def emptyLig (s : State) (n : PortId) : State := { s with ligs := vmod s.ligs n (fun _ => lig0) }

/-! ### Stashes and endpoints -/

/-- The owner whose blocks a context holds, the port's owner where it holds none. -/
def ctxOwner (s : State) (e : Endpoint) : Owner :=
  match s.ink.blocks.find? (fun b => b.ctx == some e.ctx) with
  | some b => b.owner
  | none => (s.own.get e.port).owner

/-- IN data of a context was discarded: counted for the snapshot and reported to the owner (R84, R121, R192). -/
def noteDiscard (s : State) (e : Endpoint) (bytes reason : Nat) : State :=
  if bytes = 0 then s
  else
    let s1 := setEp s e.ctx (fun y => { y with discarded := (y.discarded + bytes) % 2 ^ 24 })
    let s2 := setOwn s1 e.port (fun o => { o with discarded := o.discarded + bytes })
    notice s2 0x0A .notice e.port (s.own.get e.port).owner [pack64 [(0, e.ctx), (16, bytes % 2 ^ 24), (40, reason)]] (toOwner s e.port)

/-- An endpoint's stash is discarded (R121). -/
def dropStash (s : State) (ctx reason : Nat) : State :=
  match findEp s ctx with
  | none => s
  | some e =>
    let s1 := settleCtx (ctxBytes s ctx) (setEp s ctx (fun y => { y with stash := [] })) (ctxOwner s e) ctx
    noteDiscard s1 e (stashBytes e.stash) reason

/-- A context, its admission and its stash are released; its transfers end with the code given (R109, R206). The count is of transfers ended. -/
def releaseEp (s : State) (ctx code reason : Nat) : State × Nat :=
  let owner := match findEp s ctx with
    | some e => ctxOwner s e
    | none => .none
  let r := endQueue s ctx (fun _ => true) code
  let s1 := dropStash r.1 ctx reason
  let s2 : State := { s1 with eps := s1.eps.filter (fun e => e.ctx != ctx) }
  (settleCtx (ctxBytes s2 ctx) s2 owner ctx, r.2)

/-- Release every endpoint a test picks. -/
def releaseEps (s : State) (pick : Endpoint → Bool) (code reason : Nat) : State × Nat :=
  (s.eps.filter pick).foldl (fun acc e =>
    let r := releaseEp acc.1 e.ctx code reason
    (r.1, acc.2 + r.2)) (s, 0)

/-- The device, its endpoints, admissions and address are released (R109). -/
def releaseDevice (s : State) (n : PortId) (addr code reason : Nat) : State :=
  let r := releaseEps s (fun e => e.port == n && e.dev == addr) code reason
  { r.1 with devices := r.1.devices.filter (fun d => !(d.port == n && d.addr == addr)) }

/-- Every record, endpoint, admission and stash on one path of a port is released (R191). -/
def releasePath (s : State) (n : PortId) (ss : Bool) (code reason : Nat) : State × Nat :=
  let r := releaseEps s (fun e => e.port == n && epSs s e == ss) code reason
  ({ r.1 with devices := r.1.devices.filter (fun d => !(d.port == n && decide (4 ≤ d.speed) == ss)) }, r.2)

/-- Everything on a port is released (R88, R109 RESET_PORT). -/
def releaseTree (s : State) (n : PortId) (code reason : Nat) : State × Nat :=
  let r := releaseEps s (fun e => e.port == n) code reason
  ({ r.1 with devices := r.1.devices.filter (fun d => d.port != n) }, r.2)

/-! ### Nibs -/

/-- The root USB 2.0 path has nothing connected; a stuck line stays declared (R189, R191). -/
def nibDown2 (b : Nib) : Nib :=
  { b with connect := false, speed2 := 0, chirp := 0, default2 := false, phase2 := if b.phase2 = .stuck then .stuck else .idle, l1 := false, wait2 := false }

/-- The root SuperSpeed path has nothing connected; receiver detection may run again where VBUS allows. -/
def nibDownS (b : Nib) : Nib := { b with speedS := 0, defaultS := false, phaseS := .off, waitS := false }

/-- The back-off of a stuck line is cleared (R190). -/
def clearStuck (b : Nib) : Nib :=
  { b with backoff := 0, retestAt := 0, probeFails := 0, phase2 := if b.phase2 = .stuck then .idle else b.phase2 }

/-- A preview on a path that goes away ends with no slot and no notice (R169). -/
def dropPreview (b : Nib) (ss : Bool) : Nib :=
  match b.preview with
  | some p => if p.ss = ss then { b with preview := none } else b
  | none => b

/-- Complete a command that a Nib executes, if it has one. -/
def finishOpt (s : State) (c : Option (RingId × Nat)) (code result : Nat) (n : PortId) : State :=
  match c with
  | some (v, slot) => finishCmd s v slot code result n
  | none => s

/-- The commands in execution on a port end with PORT_GONE (R109, R167). -/
def abortCmds (s : State) (n : PortId) : State :=
  let b := s.nibs.get n
  let s1 := finishOpt s b.resetCmd ccPortGone 0 n
  let s2 := finishOpt s1 b.suspCmd ccPortGone 0 n
  let s3 := finishOpt s2 b.suspNext ccPortGone 0 n
  let s4 := finishOpt s3 (b.addressing.map (fun a => (a.v, a.slot))) ccPortGone 0 n
  setNib s4 n (fun x => { x with resetCmd := none, suspCmd := none, suspNext := none, addressing := none, waking := false })

/-- One path of a port ends: its transfers with PORT_GONE, its records released, its preview dropped; a detach notice where it had a root connection (R191, R192). -/
def pathGone (s : State) (n : PortId) (ss : Bool) (reason : Nat) : State :=
  let b := s.nibs.get n
  let had := if ss then ssUp b || b.phaseS == .u3 || b.defaultS else b.connect
  let r := releasePath s n ss ccPortGone 4
  let s1 := match (r.1.nibs.get n).addressing with
    | some a => if decide (4 ≤ a.device.speed) == ss then
        setNib (finishCmd r.1 a.v a.slot ccPortGone 0 n) n (fun x => { x with addressing := none })
      else r.1
    | none => r.1
  let s2 := viewDisconnect s1 n ss
  let s3 := setNib s2 n (fun x => dropPreview (if ss then nibDownS x else nibDown2 x) ss)
  if had then detachNotice s3 n reason (bnat ss) r.2 else s3

/-- VBUS went off, or the sink detached: both paths end, the commands in execution with them, and suspend state is gone (R191). -/
def busGone (s : State) (n : PortId) (reason : Nat) : State :=
  let b := s.nibs.get n
  let any := b.connect || ssUp b || b.phaseS == .u3 || b.defaultS
  let s0 := abortCmds s n
  let s1 := pathGone (pathGone s0 n false reason) n true reason
  let s2 := setNib s1 n (fun x => { x with susp := .awake, tt := [], preview := none })
  let s3 := setCPort s2 n (fun _ => cport0)
  if !any && (reason == 1 || reason == 5 || reason == 6 || reason == 4 || reason == 7) then detachNotice s3 n reason 0 0 else s3

/-- The attach notice of a root device (R192, R277 TYPE 0x05). -/
def attachNotice (s : State) (n : PortId) (ss written : Bool) (result : Nat) : State :=
  let b := s.nibs.get n
  notice s 0x05 .info n (s.own.get n).owner
    [pack64 [(0, if ss then b.speedS else b.speed2), (3, bnat ss), (4, bnat written), (5, result), (8, b.attachCount % 65536)]] (toOwner s n)

end Sys2Proof.Machine
end

