-- ==== Sys2Proof/Machine/Owners.lean ====
section
/-! DEFINITION. Who may hold a port, and what the loss of one does: eligibility, forfeiture, the end of an owner's work, classic VIs coming and going (R63, R72, R77, R85, R86, R90, R91, R240). -/

namespace Sys2Proof.Machine

/-! ### Eligibility (R63, R393, R408) -/

/-- The mode held before Brownout, Suspend or Quarantine, or the mode itself. -/
def baseMode (s : State) : Mode :=
  match s.modes.mode with
  | .brownout => s.modes.beforeBrownout
  | .suspend => s.modes.beforeSuspend
  | .quarantine =>
    match s.modes.beforeQuarantine with
    | .brownout => s.modes.beforeBrownout
    | .suspend => s.modes.beforeSuspend
    | m => m
  | m => m

/-- A PCIe function is enabled: the link is up, it is not under FLR, and a VF exists (R85, R127, R132). -/
def fnEnabled (s : State) (f : Fin 16) : Bool :=
  s.pcie.link && !maskBit s.pcie.flr f.val && (f.val == 0 || (s.pcie.vfEnable && decide (f.val ≤ s.pcie.numVfs)))

/-- A ring VI is bound to an enabled function, or to a queue pair ready to send (R63). -/
def viBound (s : State) (v : RingId) : Bool :=
  if viKind s v = 1 then fnEnabled s (viFn s v)
  else if viKind s v = 2 then
    match (s.vis.get v).qp with
    | some q => (s.qps.get q).state == .ready
    | none => false
  else false

/-- VI_BIND(v).AUTH_REQ, of a RoCEv2 VI (R126). -/
def authReq (s : State) (v : RingId) : Bool := viKind s v == 2 && rfld s (0x72000 + 4 * v.val) 8 1 == 1

/-- Whether a ring VI may acquire port n in this tick (R63). -/
def eligibleRing (s : State) (v : RingId) (n : PortId) : Bool :=
  let x := s.vis.get v
  baseMode s == .managed && viBound s v && (!authReq s v || x.authenticated) && !x.unreachable && x.forfeitAt != some s.now && !s.blot.hosts
    && !(n.val == 15 && dp15Function s)

/-- Whether a classic VI may acquire a port in this tick (R63). -/
def eligibleClassic (s : State) (c : ClassicId) : Bool :=
  let x := s.cvis.get c
  x.exists_ && !x.inReset && x.ceasedAt != some s.now && x.forfeitAt != some s.now && !s.blot.classic

/-- Whether an owner may acquire port n in this tick. -/
def eligibleFor (s : State) (w : Owner) (n : PortId) : Bool :=
  match w with
  | .none => false
  | .ring v => eligibleRing s v n
  | .classic c => eligibleClassic s c

/-! ### P4 events -/

/-- Stamp a P4 event for a port (R70). UP has no owner. -/
def stampP4 (s : State) (n : PortId) (e : P4Event) : State :=
  if n.val = 0 then s else setOwn s n (fun o => { o with events := o.events ++ [e] })

/-- OWN_CFG.HOME, SUCCESSOR, ORPHAN_OFF, CLAIMABLE, SWAP_SUCCESSOR and RECLAIM_HOME (R65). -/
def ownHome (s : State) (n : PortId) : Owner := (Owner.ofCode (pfld s n 0x200 0 7)).getD .none
def ownSuccessor (s : State) (n : PortId) : Owner := (Owner.ofCode (pfld s n 0x200 8 7)).getD .none
def orphanOff (s : State) (n : PortId) : Bool := pfld s n 0x200 16 1 == 1
def claimable (s : State) (n : PortId) : Bool := pfld s n 0x200 17 1 == 1
def swapSuccessor (s : State) (n : PortId) : Bool := pfld s n 0x200 18 1 == 1
def reclaimHome (s : State) (n : PortId) : Bool := pfld s n 0x200 19 1 == 1

/-- The ownership policy of a VI: CLAIM_RIGHT and CLAIM_RANK, and its claim mask (R68, R69). -/
def ownPolicy (s : State) (w : Owner) : Word :=
  match w with
  | .none => 0
  | .ring v => reg s (0x71000 + 8 * v.val)
  | .classic c => reg s (0xA1000 + 8 * c.val)

def claimRight (s : State) (w : Owner) : Bool := bitOf (ownPolicy s w) 0
def claimRank (s : State) (w : Owner) : Nat := fld (ownPolicy s w) 4 4

def claimMask (s : State) (w : Owner) : Nat :=
  match w with
  | .none => 0
  | .ring v => rfld s (0x71004 + 8 * v.val) 0 16
  | .classic c => rfld s (0xA1004 + 8 * c.val) 0 16

/-- LEASE_PERIOD in ms; an image value outside 1–60,000 is treated as the default (R69). -/
def leasePeriod (s : State) (v : RingId) : Nat := inRange 1 60000 500 (rfld s (0x71000 + 8 * v.val) 16 16)

/-- A VI became eligible: the return home of every ownerless port whose HOME it is falls in this tick (R70). -/
def homeStamp (s : State) (w : Owner) : State :=
  eachPort s (fun u n =>
    if (u.own.get n).owner == .none && ownHome u n == w && w != .none && reclaimHome u n then stampP4 u n .home else u)

/-- Every port is decided in this tick (R393). -/
def homeStampAll (s : State) : State := eachPort s (fun u n => if (u.own.get n).owner == .none then stampP4 u n .home else u)

/-- A VI forfeits: every port it holds loses it in this tick, and it acquires none in it (R85). -/
def forfeit (s : State) (w : Owner) : State :=
  let s1 := match w with
    | .ring v => setVi s v (fun x => { x with forfeitAt := some s.now })
    | .classic c => setCvi s c (fun x => { x with forfeitAt := some s.now })
    | .none => s
  eachPort s1 (fun u n => if (u.own.get n).owner == w && w != .none then stampP4 u n (.forfeit w) else u)

/-- The rings of a VI are gone with its function or queue pair: what was due to it is counted in a record, nothing more is written, its queue is flushed and its replay window is dropped (R86, R271). -/
def ringsGone (s : State) (v : RingId) : State :=
  let x := s.vis.get v
  let ports := ((List.finRange 16).filter (fun n => (s.own.get n).owner == .ring v)).length
  let dueN := (x.due.filter (fun d => match d.entry with
    | .completion _ _ => true
    | .word _ _ _ => false)).length
  let count := dueN + inflight s v + (x.cmds.filter (fun c => c.started)).length + ports + ((s.margin.queues.get (viQueue v)).notices.filter (fun n => n.type == 3)).length
  let s1 := if count = 0 then s else record s 0x0202 .notice 0 (.ring v) .d [loW v.val, loW count]
  let s2 := setQueue s1 (viQueue v) (fun q => { q with notices := [] })
  let freed := (s2.vis.get v).window.foldl (fun u c =>
    if c.data.isEmpty then u
    else
      let before := ctxBytes u c.source
      settleCtx before (setVi u v (fun y => { y with window := y.window.filter (fun k => k.seq != c.seq) })) (.ring v) c.source) s2
  setVi freed v (fun y => { y with enabled := false, due := [], cmds := [], cmdFetch := 0, window := [], evtFull := false, resync := false,
                                   unsignalled := 0 })

/-! ### Splits left behind (R181) -/

/-- The setup bytes of CLEAR_TT_BUFFER for an endpoint behind a TT port. -/
def clearTtSetup (e : Endpoint) (ttPort : Nat) : List Byte :=
  let value := e.epAddr % 16 + e.dev * 16 + e.type * 2048 + (if epIn e then 32768 else 0)
  natBytesLE 1 0x23 ++ natBytesLE 1 8 ++ natBytesLE 2 value ++ natBytesLE 2 ttPort ++ natBytesLE 2 0

/-- A control or bulk split is abandoned with its result not received: the Nib clears the TT's buffer, and no further split goes to that TT port for the endpoint meanwhile (R181). -/
def abandonSplit (s : State) (ctx : Nat) : State :=
  match findEp s ctx with
  | none => s
  | some e =>
    match epDevice s e with
    | none => s
    | some d =>
      if e.splitOpen && (e.type == 0 || e.type == 2) && d.ttAddr != 0 then
        let s1 := setEp s ctx (fun y => { y with splitOpen := false, ttWait := true })
        let s2 := rcCount s1 (portReg e.port 0x410) 24
        emit (setNib s2 e.port (fun b => { b with tt := b.tt ++ [{ hub := d.ttAddr, ttPort := d.ttPort, ctx := ctx }] }))
          (.control e.port d.ttAddr (clearTtSetup e d.ttPort))
      else setEp s ctx (fun y => { y with splitOpen := false })

/-! ### The end of an owner's work (R77, R79) -/

/-- IN data a transfer has received that its host has not acknowledged, by packets (R77, R117). -/
def unackedData (s : State) (x : Transfer) : List (List Byte) :=
  (x.wrote.filter (fun w => decide ((s.vis.get x.v).acked < w.1))).map (fun w => w.2.2)

/-- The ring VI whose work stands on a port ends it at U: transfers end with LEASE_LOST, counting what moved; IN data not yet with the old host becomes the stash, charged to whoever comes; endpoints stop and lose their rings (R77, R79, R252). -/
def handoverEp (newOwner : Owner) (acc : State × Nat) (ctx : Nat) : State × Nat :=
  match findEp acc.1 ctx with
  | none => acc
  | some e =>
    let s0 := acc.1
    let carried := e.queue.flatMap (fun x => if xferIn e x then unackedData s0 x else [])
    let trim := fun (x : Transfer) =>
      if xferIn e x then
        let lost := ((unackedData s0 x).map List.length).sum
        { x with wrote := x.wrote.filter (fun w => decide (w.1 ≤ (s0.vis.get x.v).acked)), done := x.done - lost }
      else x
    let s1 := abandonSplit (setEp s0 ctx (fun y => { y with queue := y.queue.map trim })) ctx
    let r := endQueue s1 ctx (fun _ => true) ccLeaseLost
    let s2 := setEp r.1 ctx (fun y => { y with
      stash := carried.map StashItem.packet ++ y.stash
      run := if y.run = .halted then .halted else .stopped
      bound := none, chain := [], fetch := 0, stopping := none })
    let owned := fun (b : Block) => if b.ctx = some ctx then { b with owner := newOwner } else b
    let s3 : State := { s2 with ink := { s2.ink with blocks := s2.ink.blocks.map owned, waits := s2.ink.waits.filter (fun w => w.ctx != some ctx) } }
    (settleCtx (ctxBytes s1 ctx) s3 newOwner ctx, acc.2 + r.2)

/-- All of an owner's work on a port ends: the state and the number of transfers ended (R77). A classic owner's Ligature is emptied (R237). -/
def endOldWork (s : State) (n : PortId) (newOwner : Owner) : State × Nat :=
  let r := ((portEps s n).map (fun e => e.ctx)).foldl (handoverEp newOwner) (s, 0)
  (emptyLig r.1 n, r.2)

/-- The commands of a VI held or in execution on a port it no longer owns complete with NOT_OWNER (R75, R78). The Nib's own use of them ends too. -/
def dropOwnerCmds (s : State) (n : PortId) : State :=
  let b := s.nibs.get n
  let s1 := finishOpt s b.resetCmd ccNotOwner 0 n
  let s2 := finishOpt s1 b.suspCmd ccNotOwner 0 n
  let s3 := finishOpt s2 b.suspNext ccNotOwner 0 n
  let s4 := finishOpt s3 (b.addressing.map (fun a => (a.v, a.slot))) ccNotOwner 0 n
  setNib s4 n (fun x => { x with resetCmd := none, suspCmd := none, suspNext := none, addressing := none })

/-! ### Notices of a change (R78, R277) -/

/-- The ownership-change notice to visible VIs and the board. -/
def ownerChangeNotice (s : State) (n : PortId) (old : Owner) : State :=
  let o := s.own.get n
  notice s 0x04 .info n o.owner [pack64 [(0, old.code), (7, o.owner.code), (14, o.state.code), (18, o.generation % 65536), (34, o.cause)]]
    (toVisible s ++ [boardQueue])

/-- The ownership-lost notice to a ring VI that held the port. -/
def ownerLostNotice (s : State) (n : PortId) (old : Owner) (ended : Nat) : State :=
  let o := s.own.get n
  match old with
  | .ring v => notice s 0x03 .notice n old [pack64 [(0, o.cause), (3, o.owner.code), (10, o.generation % 65536), (26, satN 16 ended)]] [viQueue v]
  | _ => s

/-- Microframes of VI v's timeline since its frame 0, at nominal intervals (R208). -/
def timelineUf (s : State) (v : RingId) : Nat := (s.now - (s.timelines.get v).start) / 625

/-- Its frame number in bits [10:0] and its microframe in [13:11] (R82, R104). -/
def timelineFrame (s : State) (v : RingId) : Nat :=
  let u := timelineUf s v
  u / 8 % 2048 + u % 8 * 2048

/-- OWNER changes in this tick: GENERATION, the previous owner and the cause are kept, the lease starts, the change is recorded and notified (R66, R72, R78). -/
def changeOwner (s : State) (n : PortId) (next : Owner) (st : OwnState) (cause : Nat) : State :=
  let o := s.own.get n
  let s1 := setOwn s n (fun o => { o with
    owner := next, state := st, generation := (o.generation + 1) % 65536, cause := cause, decidedAt := s.now
    prevOwner := if o.state = .handover ∨ o.state = .resetting ∨ o.unsettled then o.prevOwner else o.owner
    unsettled := true, frameT := match next with
      | .ring v => timelineFrame s v
      | _ => 0
    expiry := match next with
      | .ring v => some (s.now + 5000 * leasePeriod s v)
      | _ => none })
  let s2 := record s1 0x0201 .notice n next .d [loW o.owner.code, loW cause]
  ownerChangeNotice s2 n o.owner

/-- The holder loses a port outright, with no successor: its work ends at once and the port takes a state without an owner (R75, R91). -/
def loseOutright (s : State) (n : PortId) (st : OwnState) (cause : Nat) : State :=
  let old := (s.own.get n).owner
  if old = .none then setOwn s n (fun o => { o with state := st, events := [] })
  else
    let s1 := changeOwner s n .none st cause
    let r := endOldWork s1 n .none
    let s2 := dropOwnerCmds r.1 n
    ownerLostNotice (setOwn s2 n (fun o => { o with events := [], endedCount := r.2, unsettled := false })) n old r.2

/-! ### Classic VIs (R90, R91, R226, R240) -/

/-- The upstream of C0 is UP; that of C1–C4 is the service port it was created on. -/
def upstreamOf (s : State) (c : ClassicId) : PortId := (s.cvis.get c).upstream

/-- The classic VI whose upstream a port carries. -/
def upstreamVi (s : State) (n : PortId) : Option ClassicId := (List.finRange 5).find? (fun c => (s.cvis.get c).exists_ && (s.cvis.get c).upstream == n)

/-- A classic VI comes into being on an upstream: its view starts afresh, a service port loses its owner, the claims of R90 are stamped and home returns to it are decided. -/
def createClassic (s : State) (c : ClassicId) (up : PortId) : State :=
  let s1 := setCvi s c (fun x => { cvi0 with exists_ := true, upstream := up, ceasedAt := x.ceasedAt })
  let s2 : State := { s1 with cviews := Vector.ofFn (fun i => if i.val / 16 = c.val then cview0 else s1.cviews.get i) }
  let s3 := if up.val = 0 then s2 else loseOutright s2 up .service 7
  let w := Owner.classic c
  let s4 := if claimRight s3 w then
      eachPort s3 (fun u n => if maskBit (claimMask u w) n.val && n.val != 0 then stampP4 u n (.claim w) else u)
    else s3
  homeStamp s4 w

/-- A classic VI ceases: it forfeits its ports, and a service port becomes FREE again with its decision in the same tick (R75, R85, R91, R240). -/
def ceaseClassic (s : State) (c : ClassicId) : State :=
  let x := s.cvis.get c
  if ¬ x.exists_ then s
  else
    let s1 := forfeit s (.classic c)
    let s2 := setCvi s1 c (fun _ => { cvi0 with ceasedAt := some s.now, forfeitAt := some s.now, upstream := x.upstream })
    let s3 := { s2 with func := if (s.own.get 15).owner = .classic c ∧ dp15Function s then func0 else s2.func }
    if x.upstream.val = 0 then s3
    else if (s3.own.get x.upstream).state = .service then stampP4 (setOwn s3 x.upstream (fun o => { o with state := .free, cause := 0 })) x.upstream .home
    else s3

/-- The service upstream, or UP's, on a port ends (R240). -/
def endUpstream (s : State) (n : PortId) : State :=
  match upstreamVi s n with
  | some c => ceaseClassic s c
  | none => s

end Sys2Proof.Machine
end

