-- ==== Sys2Proof/Machine/Ports.lean ====
section
/-! DEFINITION. A port's power and its PD policy: the operations that trips, sheds, resets, attach and detach share (R287–R310, R321–R340). -/

namespace Sys2Proof.Machine

/-- Change one port's power path. -/
def setPower (s : State) (n : PortId) (f : PortPower → PortPower) : State := { s with power := vmod s.power n f }

/-- Change one port's PD state. -/
def setPd (s : State) (n : PortId) (f : PortPd → PortPd) : State := { s with pd := vmod s.pd n f }

/-- Move a port's policy to a state. -/
def pdState (s : State) (n : PortId) (st : PdState) : State := setPd s n (fun d => { d with state := st, stateSince := s.now })

/-! ### PD_CFG as treated (R279) -/

def rpLevel (s : State) (n : PortId) : Nat := min 2 (pfld s n 0x4000 0 2)
def pdEn (s : State) (n : PortId) : Bool := pfld s n 0x4000 2 1 == 1
def ppsEn (s : State) (n : PortId) : Bool := pfld s n 0x4000 3 1 == 1
def eprEn (s : State) (n : PortId) : Bool := pfld s n 0x4000 4 1 == 1
def avsEn (s : State) (n : PortId) : Bool := pfld s n 0x4000 5 1 == 1 && eprEn s n
def vconnEn (s : State) (n : PortId) : Bool := pfld s n 0x4000 6 1 == 1
def unconstrained (s : State) (n : PortId) : Bool := pfld s n 0x4000 7 1 == 1
def maxW (s : State) (n : PortId) : Nat := min 240 (max 15 (pfld s n 0x4000 8 8))
def reclaimS (s : State) (n : PortId) : Nat := pfld s n 0x4000 16 8
def alertEn (s : State) (n : PortId) : Bool := pfld s n 0x4000 24 1 == 1

/-! ### Rp (R298) -/

/-- The implicit power of an Rp level in half watts. -/
def implicitHalf (level : Nat) : Nat := if level = 0 then 9 else if level = 1 then 15 else 30

/-- The highest Rp level up to RP_LEVEL whose implicit power fits the share; the default always does (R298). -/
def rpFor (s : State) (n : PortId) : Nat :=
  let share := (s.power.get n).share
  if rpLevel s n = 2 ∧ 30 ≤ share then 2 else if 1 ≤ rpLevel s n ∧ 15 ≤ share then 1 else 0

/-- Rp carries collision avoidance: a Revision 3 partner in an explicit contract (R291). -/
def collisionAvoid (s : State) (n : PortId) : Bool := explicitContract s n && !(s.pd.get n).rev2

/-- Present Rp as the state asks: none while disabled, in CC_FAULT or in ERROR_RECOVERY, SinkTxOk or SinkTxNG under R291, else the level of R298. -/
def rpLevelNow (s : State) (n : PortId) : Nat :=
  let d := s.pd.get n
  if d.state = .disabled ∨ d.state = .ccFault ∨ d.state = .errorRecovery then 3
  else if d.state = .debugUp then 0
  else if collisionAvoid s n then (if d.sinkTxNg.isSome then 1 else 2)
  else rpFor s n

/-- Set the Rp presented to what the state asks. -/
def presentRp (s : State) (n : PortId) : State :=
  let r := rpLevelNow s n
  setPd s n (fun d => { d with rpNow := r })

/-! ### PD idle points and the device's own sequences (R288, R291) -/

/-- No atomic message sequence is in progress on SOP or SOP'. -/
def noSequence (d : PortPd) : Bool :=
  d.awaiting.isNone && d.awaitP.isNone && d.softAt.isNone && d.eprAt.isNone && d.swapAt.isNone

/-- The port is at a PD idle point. -/
def pdIdle (s : State) (n : PortId) : Bool :=
  let d := s.pd.get n
  noSequence d && match d.state with
    | .ready => true
    | .implicit => true
    | .unattached => true
    | .accessory => true
    | .debugUp => true
    | .disabled => true
    | .powerOff => true
    | .ccFault => true
    | _ => false

/-- Something of the device's own is to be sent. -/
def ownDue (d : PortPd) : Bool := d.alert == .waiting || d.alert == .due || d.capsReady || d.exitDue || d.swapDue

/-- At a PDI in READY: Rp goes to SinkTxNG where a sequence of the device's own is due, and back to SinkTxOk after the last (R291). -/
def kickOwn (s : State) (n : PortId) : State :=
  let d := s.pd.get n
  if ¬ (collisionAvoid s n ∧ d.state = .ready ∧ !d.detaching ∧ pdIdle s n) then s
  else if ownDue d then (if d.sinkTxNg.isSome then s else presentRp (setPd s n (fun d => { d with sinkTxNg := some s.now })) n)
  else presentRp (setPd s n (fun d => { d with sinkTxNg := none })) n

/-- The 18 ms of R291 have passed, or collision avoidance does not apply. -/
def mayStartOwn (s : State) (n : PortId) : Bool :=
  let d := s.pd.get n
  d.state == .ready && !d.detaching && pdIdle s n && (!collisionAvoid s n || match d.sinkTxNg with
    | some t => decide (t + ticksMs 18 ≤ s.now)
    | none => false)

/-! ### Capabilities (R296, R297) -/

/-- A fixed PDO (R297). -/
def fixedPdo (mv ma : Nat) : Word := pack [(0, ma / 10), (10, mv / 50)]

/-- An SPR PPS APDO, with its Power Limited bit. -/
def ppsPdo (loMv hiMv ma : Nat) (limited : Bool) : Word := pack [(0, ma / 50), (8, loMv / 100), (17, hiMv / 100), (27, bnat limited), (30, 3)]

/-- An EPR AVS APDO. -/
def avsPdo (loMv hiMv pdp : Nat) : Word := pack [(0, pdp), (8, loMv / 100), (17, hiMv / 100), (28, 1), (30, 3)]

/-- pdp: whole watts of the share up to MAX_W, and 15 W while reclaimed (R296, R304). -/
def capsPdp (s : State) (n : PortId) : Nat :=
  let p := min (maxW s n) (shareW s n)
  if (s.pd.get n).reclaim then min p 15 else p

/-- A current limited by the pdp at a voltage, in mA. -/
def ppMa (pdp mv cap : Nat) : Nat := min cap (1000000 * pdp / mv)

/-- An enabled SERVICE_CFG slot names the port (R217). -/
def serviceSlot (s : State) (n : PortId) : Option (Fin 5) :=
  (List.finRange 5).find? (fun c => c.val != 0 && rfld s (0xA000C + 4 * c.val) 0 4 == n.val && rfld s (0xA000C + 4 * c.val) 4 1 == 1 && n.val != 0
    && !(n.val == 15 && dp15Function s))

/-- The flags of the first PDO (R297). -/
def firstFlags (s : State) (n : PortId) : Nat :=
  packNat [(23, bnat (eprEn s n && decide (100 < maxW s n))), (25, bnat (n.val == 0 || (serviceSlot s n).isSome)), (26, 1), (27, bnat (unconstrained s n))]

/-- The voltages above 5 V that the pdp allows. -/
def sprVolts (pdp : Nat) : List Nat :=
  (if 15 < pdp then [9000] else []) ++ (if 27 < pdp then [15000] else []) ++ (if 45 < pdp then [20000] else [])

/-- The SPR list (R296). -/
def sprCaps (s : State) (n : PortId) : List Word :=
  let pdp := capsPdp s n
  let d := s.pd.get n
  let icab := if 2 ≤ d.cable then 5000 else 3000
  let five := BitVec.ofNat 32 ((fixedPdo 5000 (ppMa pdp 5000 3000)).toNat + firstFlags s n)
  let vtop := ((sprVolts pdp).getLast?).getD 5000
  let ipps := ppMa pdp vtop icab / 50 * 50
  let vmax := if vtop = 5000 then 5900 else if vtop = 9000 then 11000 else if vtop = 15000 then 16000 else 21000
  five :: (sprVolts pdp).map (fun v => fixedPdo v (ppMa pdp v (if v = 20000 then icab else 3000)))
    ++ (if ppsEn s n && !d.rev2 then [ppsPdo 3300 vmax ipps (decide (1000000 * pdp < vmax * ipps))] else [])

/-- The EPR list (R296). -/
def eprCaps (s : State) (n : PortId) : List Word :=
  let pdp := capsPdp s n
  let volts := [28000] ++ (if 140 < pdp then [36000] else []) ++ (if 180 < pdp then [48000] else [])
  volts.map (fun v => fixedPdo v (ppMa pdp v 5000)) ++ (if avsEn s n then [avsPdo 15000 ((volts.getLast?).getD 28000) pdp] else [])

/-- The objects of the capabilities, by position: the SPR list, and in EPR mode the EPR list from position 8 (R297). -/
def buildCaps (s : State) (n : PortId) (epr : Bool) : List Word :=
  let spr := sprCaps s n
  if epr then spr ++ List.replicate (7 - spr.length) 0 ++ eprCaps s n else spr

/-- The capabilities are to be rebuilt, and sent at the next PDI where they differ, or always (R303). -/
def markCaps (s : State) (n : PortId) (force : Bool) : State := setPd s n (fun d => { d with capsPending := true, capsForced := d.capsForced || force })

/-- The share changed: the capabilities follow, but a Revision 2.0 partner sees it only through Rp (R303). -/
def markShare (s : State) (n : PortId) : State := if (s.pd.get n).rev2 then s else markCaps s n false

/-! ### The state of a connection -/

/-- The contract and EPR mode end, with whatever sequence was in progress (R287). -/
def endContract (s : State) (n : PortId) : State :=
  setPd s n (fun d => { d with contract := .none, eprMode := false, next := none, transitionStart := none, awaiting := none, thenDo := .nothing, awaitP := none,
                               capsReady := false, exitDue := false, softAt := none, eprAt := none, swapDue := false, swapAt := none, swapWait := none,
                               capsPending := false, capsForced := false, sinkTxNg := none, alert := .none, lowSince := none, highSince := none, reclaim := false })

/-- The policy state of a port with nothing attached, in a given state; what the CC pins and the receptacle read, and the capabilities last sent (R278, R280), stay. -/
def clearPd (s : State) (n : PortId) (st : PdState) : State :=
  setPd s n (fun d => { pd0 with state := st, stateSince := s.now, cc1 := d.cc1, cc2 := d.cc2, safe0 := d.safe0, vconnMa := d.vconnMa, sent := d.sent, pdp := d.pdp })

/-- VCONN off (R286). -/
def vconnOff (s : State) (n : PortId) : State := setPd s n (fun d => { d with vconnOn := false })

/-! ### Switching VBUS (R323, R324) -/

/-- The gate is pulled off; active discharge runs while the receptacle is above 0.5 V; the code is 250 and DPn_EN high, ready for the next switch-on (R324). -/
def gateOff (s : State) (n : PortId) (hard : Bool) (phase : PathPhase) : State :=
  setPower s n (fun p => { p with gateOn := false, hardOff := hard, phase := phase, step := .idle, vset := 250, nominal := 250, enable := true,
                                  discharge := decide (500 < p.vbusMv), offSince := s.now })

/-- DPn_EN low and code 0 (R322). -/
def converterOff (s : State) (n : PortId) : State := setPower s n (fun p => { p with enable := false, vset := 0, nominal := 0 })

/-- VBUS is on, or a switch-on runs. -/
def pathLive (s : State) (n : PortId) : Bool :=
  let p := s.power.get n
  p.gateOn || p.phase == .on || p.phase == .switching || p.phase == .held

/-- Ports start only while VAUX stands, the link is up and no pass device of the port has failed (R18, R332, R431). -/
def mayStart (s : State) (n : PortId) : Bool :=
  s.vauxOk && s.link.phase == .up && !(s.power.get n).fetFail && !maskBit s.blot.portMask n.val

/-- A switch-on begins: code 250, DPn_EN high, and the converter's output is awaited (R323 steps 1 and 2). -/
def switchOn (s : State) (n : PortId) : State :=
  let s1 := setPower s n (fun p => { p with phase := .switching, step := .converter, vset := 250, nominal := 250, enable := true, gateStart := s.now })
  viewOverCurrent s1 n false

/-! ### The power budget (R336, R337) -/

/-- A port's need in half watts (R336, R411). -/
def needHalf (s : State) (n : PortId) : Nat :=
  let d := s.pd.get n
  let p := s.power.get n
  if d.state = .disabled ∨ d.state = .accessory ∨ d.state = .ccFault ∨ p.latched ∨ p.fetFail ∨ maskBit s.blot.portMask n.val = true then 0
  else if d.state = .unattached ∨ d.state = .attachWait ∨ d.state = .debugUp ∨ d.detaching then implicitHalf (rpLevel s n)
  else if d.reclaim then 30 else 2 * maxW s n

/-- Ports by shed priority, highest first, then by number (R336). -/
def powerOrder (s : State) : List PortId := (List.range 16).reverse.flatMap (fun k => (List.finRange 16).filter (fun n => shedPrio s n == k))

/-- One pass of the allocation: each port in turn takes what it wants of what is left. -/
def allocPass (want : PortId → Nat) : List PortId → Nat → List (PortId × Nat) → List (PortId × Nat) × Nat
  | [], b, acc => (acc, b)
  | n :: rest, b, acc => allocPass want rest (b - min (want n) b) (acc ++ [(n, min (want n) b)])

/-- What a pass gave a port. -/
def given (l : List (PortId × Nat)) (n : PortId) : Nat := ((l.filter (fun x => x.1 == n)).map (·.2)).sum

/-- The shares of R336, in half watts. -/
def allocation (s : State) : List (PortId × Nat) :=
  let order := powerOrder s
  let r1 := allocPass (fun n => min (needHalf s n) (2 * guaranteeW s n)) order (2 * budgetInForce s) []
  let r2 := allocPass (fun n => needHalf s n - given r1.1 n) order r1.2 []
  order.map (fun n => (n, given r1.1 n + given r2.1 n))

/-- SHED clears, with EVENT 7, when the share is back at its need (R337). -/
def clearShed (s : State) (n : PortId) : State :=
  let p := s.power.get n
  if p.shed && decide (needHalf s n ≤ p.share) then powerNotice (setPower s n (fun p => { p with shed := false })) n 7 else s

/-- A waiting increase applies when committed power stays within the budget in force (R337). -/
def applyIncrease (s : State) (n : PortId) : State :=
  let p := s.power.get n
  if p.share < p.shareWanted then
    let c := (s.pd.get n).contract
    let after := max (50000 * p.shareWanted) (if c.kind = 0 then 0 else c.mv * c.ma10)
    if committedTotal s - committedU s n + after ≤ 100000 * budgetInForce s then
      clearShed (markShare (setPower s n (fun p => { p with share := p.shareWanted })) n) n
    else s
  else s

/-- A shed is counted, flagged, recorded and notified (R312, R319, R337, R338). -/
def noteShed (s : State) (n : PortId) : State :=
  let s1 := rcCount (rcCount (setPower s n (fun p => { p with shed := true })) (portReg n 0x818) 24) 0x20010 24
  powerNotice (record s1 0x0315 .notice n (s.own.get n).owner .a []) n 6

/-- The connection loses VBUS with its sink attached: POWER_OFF, the contract ends, the bus is gone (R191, R287). -/
def powerOffPort (s : State) (n : PortId) (reason : Nat) : State :=
  busGone (presentRp (endContract (pdState (vconnOff s n) n .powerOff) n) n) n reason

/-- A port is switched off to shed it, to be restored under R337 (R296, R324, R338, R432). -/
def shedOff (s : State) (n : PortId) (hard : Bool) : State :=
  let s1 := gateOff s n hard .off
  let s2 := setPower s1 n (fun p => { p with shedOff := true, retryDue := none })
  noteShed (powerOffPort s2 n 5) n

/-- Whether a port's shed waits for its Alert (R305). -/
def alertWaits (s : State) (n : PortId) : Bool := (s.pd.get n).alert == .waiting || (s.pd.get n).alert == .sent

/-- A connection that VBUS can be taken from: attached and on. -/
def connected (s : State) (n : PortId) : Bool := sinkAttached s n && pathLive s n

/-- A quarantined path that Reservoir holds while the die-to-die link is lost: Folio cannot command it (R18, R411). -/
def heldByLoss (s : State) (n : PortId) : Bool := s.link.phase == .lost && maskBit s.blot.portMask n.val

/-- The shares are allocated anew: a lowered share applies at once, an increase where the budget allows; an attached port left with less than 5 W loses VBUS, unless its Alert is awaited first (R336, R337, R305). -/
def recomputeShares (s : State) : State :=
  let al := allocation s
  let s1 := eachPort s (fun u n =>
    let g := given al n
    let u1 := setPower u n (fun p => { p with shareWanted := g, share := min p.share g })
    if g < (u.power.get n).share then markShare u1 n else u1)
  let s2 := (powerOrder s1).foldl applyIncrease s1
  let s3 := eachPort s2 (fun u n =>
    if decide ((u.power.get n).share < 10) && connected u n && (u.pd.get n).state != .debugUp && decide ((u.power.get n).share < (s.power.get n).share) && !alertWaits u n && !heldByLoss u n
    then shedOff u n false else u)
  eachPort s3 clearShed

/-! ### Trips and retries (R326, R327, R330, R333–R335, R340) -/

/-- Auto-retry applies (R333). -/
def autoRetry (s : State) (n : PortId) : Bool := autoRetryBit s n && decide (maxW s n ≤ 60) && !eprEn s n

/-- The off time before a retry, in ticks (R334, R335). -/
def offTime (s : State) (n : PortId) : Nat :=
  let p := s.power.get n
  let base := retryOff s n * ticksMs 100
  if autoRetry s n && decide (s.now - p.gateStart < ticksS 1) then max base (49 * (s.now - p.gateStart)) else base

/-- After a trip the port waits for a retry or latches (R333, R334); a pass-device fault or Quarantine leaves none (R340, R411). -/
def scheduleRetry (s : State) (n : PortId) : State :=
  let p := s.power.get n
  if p.fetFail || maskBit s.blot.portMask n.val then s
  else if autoRetry s n || decide (p.retries < retryMax s n) then
    setPower s n (fun q => { q with retryDue := some (s.now + offTime s n) })
  else
    let s1 := setPower s n (fun q => { q with latched := true, retryDue := none })
    let s2 := record s1 0x0305 .warning n (s.own.get n).owner .a []
    recomputeShares (powerNotice s2 n 5)

/-- A breaker, fast or over-temperature trip: the gate is pulled off hard, it is counted and recorded, work ends with PORT_GONE, the notice follows, then the retry rule (R324, R326, R327, R330). -/
def tripPort (s : State) (n : PortId) (cause : Nat) (place : Nat × Nat) : State :=
  let s1 := rcCount s (portReg n 0x818) (if cause = 2 then 8 else 0)
  let s2 := recordRes s1 place (0x0300 + cause) .critical n .a []
  let s3 := setPower (gateOff s2 n true .tripped) n (fun p => { p with lastCause := cause, shedOff := false })
  let s4 := viewOverCurrent (powerOffPort s3 n 4) n true
  let s5 := powerNotice s4 n (if cause = 2 then 2 else 1)
  scheduleRetry s5 n

/-! ### Resets, detach and faults -/

/-- The data role is the source's own again, and a classic VI on the port ceases (R240, R307). -/
def dropRole (s : State) (n : PortId) : State := endUpstream (setPd s n (fun d => { d with ufp := false })) n

/-- ERROR_RECOVERY: the CC pins open for 30 ms, VBUS and VCONN off, the contract over (R287, R307). -/
def errorRecovery (s : State) (n : PortId) : State :=
  let live := pathLive s n
  let s1 := if live then gateOff s n false .off else s
  let s2 := presentRp (endContract (pdState (vconnOff s1 n) n .errorRecovery) n) n
  let s3 := dropRole (setPd s2 n (fun d => { d with hardResets := 0, hrPhase := .idle, partner := 0 })) n
  if live then busGone s3 n 6 else s3

/-- A PD hard reset, sent or received: counted, recorded; VBUS and VCONN go off 30 ms later. The second in a row with no PD message since leads to ERROR_RECOVERY; where none has come since attach, IMPLICIT follows it (R287, R307). -/
def startHardReset (s : State) (n : PortId) (received : Bool) : State :=
  let d := s.pd.get n
  if d.state = .hardReset ∨ d.state = .errorRecovery ∨ d.state = .disabled ∨ d.state = .ccFault then s
  else
    let s1 := rcCount s (portReg n 0x4014) (if received then 8 else 0)
    let s2 := record s1 0x0406 .notice n (s.own.get n).owner .c [loW (bnat received)]
    let s3 := if received then s2 else emit s2 (.pd n .hardReset)
    let s4 := dropRole (endContract (setPd s3 n (fun d => { d with hardResets := d.hardResets + 1, msgIdTx := 0, msgIdRx := none, msgIdTxP := 0, msgIdRxP := none,
                                                                        rev2 := false, firstReq := false, discovering := false, discoveries := 0, swapTries := 0, swapOver := false })) n) n
    if 1 ≤ d.hardResets ∧ d.msgSeen then errorRecovery s4 n
    else presentRp (setPd (pdState s4 n .hardReset) n (fun d => { d with hrPhase := .waitOff, hrSince := s.now })) n

/-- The port goes DISABLED: CC open, VBUS and VCONN off, the converter down; what was attached is gone (R287, R322). -/
def disablePort (s : State) (n : PortId) (hard : Bool) (reason : Nat) : State :=
  if (s.pd.get n).state = .disabled then s
  else
    let had := sinkAttached s n || pathLive s n
    let s1 := converterOff (gateOff s n hard (if (s.power.get n).fetFail then .fetFault else .off)) n
    let s2 := setPower s1 n (fun p => { p with retryDue := none, shedOff := false })
    let s3 := presentRp (clearPd (if s.modes.mode = .holdup then s2 else dropRole s2 n) n .disabled) n
    if had then busGone s3 n reason else s3

/-- A DISABLED port runs again: UNATTACHED with its Rp, the converter ready (R287, R324). -/
def enablePort (s : State) (n : PortId) : State :=
  if (s.pd.get n).state = .disabled then
    let s1 := if (s.power.get n).fetFail then s else setPower s n (fun p => { p with enable := true, vset := 250, nominal := 250 })
    presentRp (clearPd s1 n .unattached) n
  else s

/-- The conditions that hold a port DISABLED (R287, R400). -/
def mustDisable (s : State) (n : PortId) : Bool :=
  let st := (s.own.get n).state
  let modeOk := match s.modes.mode with
    | .standalone => true
    | .managed => true
    | .brownout => true
    | .suspend => true
    | .quarantine => true
    | .standby => standbyWake s n && !s.modes.standingBy
    | .ret => n.val == 0 && (s.pd.get n).state == .debugUp
    | _ => false
  !modeOk || st == .barred || st == .orphanOff || (n.val == 15 && dp15Function s)

/-- Bring every port's policy in line with the mode and its ownership (R287). -/
def applyPortModes (s : State) (hard : Bool) (reason : Nat) : State :=
  eachPort s (fun u n => if mustDisable u n then disablePort u n hard reason else enablePort u n)

/-- A CC fault: no VBUS, no VCONN, Rp removed; counted, recorded, notified (R285). -/
def ccFault (s : State) (n : PortId) : State :=
  let live := pathLive s n
  let s1 := if live then gateOff s n false .off else s
  let s2 := presentRp (endContract (pdState (vconnOff s1 n) n .ccFault) n) n
  let s3 := rcCount s2 (portReg n 0xC008) 0
  let s4 := recordRes s3 (recPlace 0x0401 n) 0x0401 .warning n .c []
  let s5 := dropRole (setPd s4 n (fun d => { d with partner := 0 })) n
  let s6 := if live then busGone s5 n 1 else s5
  recomputeShares (powerNotice s6 n 9)

/-- What a detach ends besides VBUS: retries and latches, the shed flag's restoration, classic upstreams (R309, R333, R334). A quarantined port stays latched by Quarantine (R411). -/
def detachPower (s : State) (n : PortId) : State :=
  setPower s n (fun p => { p with retryDue := none, retries := 0, latched := false, shedOff := false, phase := if p.fetFail then .fetFault else .off })

end Sys2Proof.Machine
end

