-- ==== Sys2Proof/Machine/Board.lean ====
section
/-! DEFINITION. The operations of the whole board: mode changes, fault reports, Quarantine, Hold-up, Brownout, Suspend (R384–R412). -/

namespace Sys2Proof.Machine

/-! ### Mode changes (R384, R277, R225) -/

/-- The two modes in which HUB_LOCAL_POWER reads 1 (R225). -/
def lowPower (m : Mode) : Bool := m == .brownout || m == .holdup

/-- Change the mode: PREV, the record 0x0901 and the mode notice, all in the tick of the cause; nothing where the mode is already that. -/
def enterMode (s : State) (m : Mode) : State :=
  let old := s.modes.mode
  if old = m then s
  else
    let s1 : State := { s with modes := { s.modes with mode := m, prev := old } }
    let prio : Sev := if m = .brownout ∨ m = .holdup ∨ m = .quarantine then .warning else .notice
    let s2 := record s1 0x0901 prio 0 .none .h [loW old.code, loW m.code]
    let s3 := notice s2 0x11 prio 0 .none [pack64 [(0, old.code), (4, m.code)]] (boardQueue :: toEnabled s2)
    if lowPower old == lowPower m then s3 else viewLocalPower s3

/-- While Folio is unpowered the mode follows the input path; nothing is recorded (R381). -/
def followInput (s : State) : State :=
  if s.folioOn then s
  else
    let m : Mode := match s.input.state with
      | .off => .off
      | .inrush => .inrush
      | .on => .inrush
      | _ => .seating
    if m = s.modes.mode then s else { s with modes := { s.modes with mode := m, prev := s.modes.mode } }

/-- The modes in which the policy of R287 runs and P1 events act. -/
def working (s : State) : Bool :=
  match s.modes.mode with
  | .standalone => true
  | .managed => true
  | .brownout => true
  | .suspend => true
  | .quarantine => true
  | _ => false

/-- A mode request is refused (R385, R398): LAST_REQ, and the count where the code is 2. -/
def refuseMode (s : State) (code : Nat) : State :=
  let s1 : State := { s with modes := { s.modes with lastReq := code } }
  if code = 2 then rcCount s1 0x1014 24 else s1

/-! ### Trees suspended and resumed (R186) -/

/-- SOF stops and the link goes towards U3 (R186 steps 1–3). -/
def treeSuspend (s : State) (n : PortId) : State :=
  let b := s.nibs.get n
  let s1 := setNib s n (fun x => { x with susp := .entering s.now, l1 := false })
  let s2 := if b.connect then emit s1 (.line n .sofStop) else s1
  refreshAges (if ssUp b then emit s2 (.line n .toU3) else s2)

/-- Resume K for 20 ms, and SuperSpeed out of U3 (R186). -/
def treeResume (s : State) (n : PortId) : State :=
  let b := s.nibs.get n
  let s1 := setNib s n (fun x => { x with susp := .resumeK s.now })
  let s2 := if b.connect then emit s1 (.line n .resumeK) else s1
  if b.phaseS == .u3 then emit s2 (.line n .toU0) else s2

/-- Resume the trees the device suspended itself for Suspend (R398). -/
def resumeOwn (s : State) : State :=
  let s1 := eachPort s (fun u n =>
    if maskBit s.modes.selfSuspended n.val && (nibSuspended (u.nibs.get n) || (match (u.nibs.get n).susp with
      | .entering _ => true
      | _ => false)) then treeResume u n else u)
  { s1 with modes := { s1.modes with selfSuspended := 0 } }

/-- A wake source of R399: a Suspend entry in progress is abandoned with LAST_REQ 4; in Suspend the device returns to the mode before it and resumes its own trees. -/
def wakeSource (s : State) : State :=
  let s1 : State := { s with modes := { s.modes with wokenAt := some s.now } }
  if s.modes.suspending then
    resumeOwn { s1 with modes := { s1.modes with suspending := false, lastReq := 4 } }
  else if s.modes.mode = .suspend then resumeOwn (enterMode s1 s.modes.beforeSuspend)
  else s1

/-! ### Fault reports (R402, R403) -/

/-- Blotter records a report, notifies the board and loads BLOT_FAULT (R402). -/
def faultReport (s : State) (place : Nat × Nat) (cls : Nat) (sv : Sev) (n : PortId) : State :=
  if ¬ s.folioOn then s
  else
    let s1 := recordAt s place (0x0A00 + cls) sv n .none .none []
    let s2 := notice s1 0x12 sv n .none [pack64 [(0, place.1), (40, place.2), (43, cls)]] [boardQueue]
    { s2 with blot := { s2.blot with faultLoc := place.1, faultLevel := place.2, faultClass := cls, faultValid := true } }

/-! ### Quarantine (R410, R411) -/

/-- A quarantined port is switched off with the hard discharge, PORT_GONE and EVENT 11 (R411). UP stays in DEBUG_UP (R287). -/
def quarantineOff (s : State) (n : PortId) : State :=
  if ¬ pathLive s n then s
  else
    let s1 := gateOff s n true (if (s.power.get n).fetFail then .fetFault else .off)
    let s2 := if (s.pd.get n).state = .debugUp then s1 else powerOffPort s1 n 4
    powerNotice s2 n 11

/-- The ports newly in the scope lose their power, unless that waits for the link (R411). -/
def quarantinePorts (s : State) (old : Nat) (defer : Bool) : State :=
  let s1 := eachPort s (fun u n =>
    if maskBit u.blot.portMask n.val && !maskBit old n.val then
      let u1 := setPower u n (fun p => { p with retryDue := none })
      if ¬ defer then quarantineOff u1 n
      else if pathLive u1 n then setPower u1 n (fun p => { p with lastCause := 5, phase := if p.phase = .on then .held else p.phase }) else u1
    else u)
  recomputeShares s1

/-- Quarantine is entered from the working modes, or its scope widens; in other modes the cause stays latched without a transition (R410). -/
def enterQuarantine (s : State) (mask : Nat) (defer : Bool) : State :=
  let old := s.blot.portMask
  let s1 : State := { s with blot := { s.blot with portMask := Nat.lor old (mask % 65536) } }
  let enters := working s && s.modes.mode != .quarantine
  let s2 := if enters then
      enterMode { s1 with modes := { s1.modes with beforeQuarantine := s.modes.mode, suspending := false } } .quarantine
    else s1
  quarantinePorts s2 old defer

/-- Every port, UP included. -/
def allPorts : Nat := 65535

/-- A VI class out of service forfeits: every ring VI, or every classic VI ceases (R408). -/
def forfeitRings (s : State) : State := eachRing s (fun u v => forfeit u (.ring v))
def ceaseAll (s : State) : State := eachClassic s ceaseClassic

/-- The port a port cluster serves; 0 for the others (R408). -/
def clusterPort (c : Fin 24) : PortId := if h : c.val < 15 then ⟨c.val + 1, by omega⟩ else 0

/-- A cluster fails: its engines stop until the next Boot, and its scope is quarantined (R408). Verification at Boot reports class 4, repeated restarts class 5. -/
def clusterFail (s : State) (c : Fin 24) (cls : Nat) (place : Nat × Nat) : State :=
  if (s.clusters.get c).failed then s
  else
    let s1 : State := { s with clusters := vmod s.clusters c (fun x => { x with failed := true })
                               engines := Vector.ofFn (fun e => if e.val / 4 = c.val then { s.engines.get e with restarting := false } else s.engines.get e)
                               blot := { s.blot with causeCluster := true } }
    let s2 := faultReport s1 place cls .critical (clusterPort c)
    if c.val < 15 then enterQuarantine s2 (2 ^ (c.val + 1)) false
    else if c.val < 21 then forfeitRings (enterQuarantine { s2 with blot := { s2.blot with hosts := true } } 0 false)
    else if c.val = 21 then ceaseAll (enterQuarantine { s2 with blot := { s2.blot with classic := true } } 0 false)
    else enterQuarantine s2 allPorts false

/-- The pass-device cause follows the latched faults: it is set while any path holds one (R332, R412). -/
def passCause (s : State) : State :=
  { s with blot := { s.blot with causeFet := anyFetFail s } }

/-! ### Brownout (R338, R384) -/

/-- The shed action of a port: VBUS off, or reduced capabilities (R338 step 4). -/
def shedPort (s : State) (n : PortId) : State :=
  if hardShed s n then shedOff s n false
  else markShare (noteShed s n) n

/-- Whether the share of a port fell below its contract, or below what it must have (R338). -/
def belowContract (s : State) (n : PortId) : Bool :=
  let d := s.pd.get n
  let need := if d.contract.kind = 0 then 0 else d.contract.mv * d.contract.ma10
  connected s n && d.state != .debugUp && decide (50000 * (s.power.get n).share < need)

/-- A port sends an Alert: enabled, Revision 3, in an explicit contract (R305). -/
def sendsAlert (s : State) (n : PortId) : Bool := alertEn s n && explicitContract s n && !(s.pd.get n).rev2

/-- The order of R338 after an early warning: budget in force, Alerts or immediate sheds, then the pre-flush. Shares are lowered before the Alert, every port that can take one is sent one, and a port to be shed is shed only after it. -/
def brownoutSheds (s : State) : State :=
  let s1 := eachPort s (fun u n => if connected u n && sendsAlert u n then kickOwn (setPd u n (fun d => { d with alert := .waiting })) n else u)
  let s2 := recomputeShares s1
  eachPort s2 (fun u n =>
    if belowContract u n then (if alertWaits u n then u else if (u.pd.get n).state = .powerOff then u else shedPort u n)
    else if alertWaits u n then setPd u n (fun d => { d with alert := .due }) else u)

/-- Brownout begins: counted, from Standalone, Managed or Suspend; in Suspend the engines restart and the trees stay suspended (R384). -/
def enterBrownout (s : State) : State :=
  let m := s.modes.mode
  let s1 := rcCount { s with modes := { s.modes with beforeBrownout := if m = .suspend then s.modes.beforeSuspend else m, suspending := false } } 0x1014 0
  enterMode s1 .brownout

/-- Brownout ends: back to the mode before it, or before Suspend, with the device's own suspensions resumed (R384, R398). -/
def leaveBrownout (s : State) : State := resumeOwn (enterMode s s.modes.beforeBrownout)

/-! ### Hold-up (R339, R396) -/

/-- An open image write is abandoned with RESULT 3 (R395). -/
def abandonImage (s : State) : State :=
  if s.img.opened then { s with img := { s.img with opened := false, busy := false, waiting := [], result := 3 } } else s

/-- The pre-flush of an early warning, or of Hold-up, where Folio runs it (R378). -/
def startFlush (s : State) : State := if s.folioOn then preFlush s else s

/-- Hold-up begins in the tick of the input loss: every port off hard, detach notices with REASON 5, an open image write abandoned, then the flush (R339, R396, R395). Standby keeps its mode (R400). -/
def enterHoldup (s : State) : State :=
  if ¬ s.folioOn then s
  else if s.modes.mode = .standby ∨ s.modes.mode = .holdup then s
  else
    let s1 := rcCount (abandonImage { s with modes := { s.modes with suspending := false, parked := false } }) 0x1014 8
    let s2 := enterMode s1 .holdup
    let s3 := applyPortModes s2 true 5
    startFlush s3

end Sys2Proof.Machine
end

