-- ==== Sys2Proof/Machine/InputCmds.lean ====
section
/-! DEFINITION. The card input: opcode-table rows VIN_PRE_RISE to SHED_WAIT_EXPIRY, VAUX_FALL and VAUX_RECOVER (R305, R314–R318, R332, R338, R432). Voltages and currents are in 10 mV and 10 mA units. -/

namespace Sys2Proof.Machine

/-- Change the input path. -/
def setInput (s : State) (f : InputPath → InputPath) : State := { s with input := f s.input }

/-- An event of POWER_EVENTS: counted at once, or when it is copied in at Boot (R312). -/
def powerEvent (s : State) (lo : Nat) : State := if unlinked s then s else rcCount s 0x20010 lo

/-- Both short pins read asserted (R313). -/
def seated (s : State) : Bool := s.input.seatA && s.input.seatB

/-- The gate ramps under the inrush limit and the timer starts (R315). -/
def startInrush (s : State) (vin : Nat) : State :=
  followInput (setInput s (fun i => { i with state := .inrush, since := s.now, gateOn := true, vinPre := vin }))

/-- The path returns to SEATING: gate off, PG low, RETRIES cleared (R315, R318). -/
def reseat (s : State) : State :=
  followInput (setInput s (fun i => { i with state := .seating, since := s.now, gateOn := false, retries := 0, pg := false }))

/-- An input loss, stamped P1: gate off, PFW_N low, counted, recorded, then Hold-up (R317). -/
def loseInput (s : State) (cause : Nat) : State :=
  let s1 := setInput s (fun i => { i with state := .lost, since := s.now, gateOn := false, pfw := true, lossCause := cause })
  enterHoldup (followInput (recordRes (powerEvent s1 8) (recPlace 0x0313 0) 0x0313 .warning 0 .b [loW cause]))

/-- An input trip: breaker 5, fast trip 6, inrush timer 7 (R315). -/
def tripInput (s : State) (cause : Nat) : State :=
  let code := if cause = 7 then 0x0310 else 0x0311
  let s1 := setInput s (fun i => { i with state := .retryWait, since := s.now, gateOn := false, pfw := true, lossCause := cause })
  enterHoldup (followInput (recordRes (powerEvent s1 16) (recPlace code 0) code .critical 0 .b []))

/-- VIN_PRE rises above 18 V: Reservoir starts keeping its state, and the path is in SEATING (R314, R315). -/
def execVinPreRise (t : Nat) (vin : Nat) (s : State) : Host.Outcome State Fault Refusal :=
  act t s fun s => when (s.input.state == .off && decide (1800 < vin)) s fun s =>
    followInput (setInput s (fun i => { i with state := .seating, since := s.now, vinPre := vin }))

/-- A time of the input path: until the link first comes up Reservoir's own oscillator measures it, and it may end 5 % early (R17, R314). -/
def inputTime (s : State) (ticks : Nat) : Nat := if s.link.phase = .notYetUp then ticks * 19 / 20 else ticks

/-- What Reservoir holds of a port goes with its reset; what Folio holds stays (R314). -/
def resetPortPower (p : PortPower) : PortPower :=
  { power0 with retries := p.retries, latched := p.latched, shed := p.shed, shedOff := p.shedOff, retryDue := p.retryDue, lastCause := p.lastCause
                share := p.share, shareWanted := p.shareWanted, temp := p.temp, rise := p.rise }

/-- The temperature cause: some place is still hot enough to hold one (R409). -/
def heatCause (s : State) : State := { s with blot := { s.blot with causeTemp := decide (s.blot.hotMask ≠ 0) } }

/-- VIN_PRE below 16 V: Reservoir resets to OFF, its registers to their map values, and every Reservoir latch clears (R314, R332). -/
def collapseReservoir (s : State) : State :=
  let s1 : State := { s with input := input0, power := Vector.map resetPortPower s.power, vauxOk := false, regs := s.regs.filter (fun e => !classV e.1)
                             localEvents := [], localLost := 0, blot := { s.blot with hotMask := putBit s.blot.hotMask 4 false } }
  followInput (heatCause (passCause s1))

/-- VIN_PRE falls below 16 V (R314). -/
def execVinPreCollapse (t : Nat) (s : State) : Host.Outcome State Fault Refusal :=
  act t s fun s => when (s.input.state != .off) s collapseReservoir

/-- Both seat pins asserted for 20 ms with VIN_PRE at or above 34 V: INRUSH, unless an input pass-device fault is latched (R315). -/
def execSeatStable (t : Nat) (vin : Nat) (s : State) : Host.Outcome State Fault Refusal :=
  act t s fun s => when (s.input.state == .seating) s fun s =>
    let s1 := setInput s (fun i => { i with seatA := true, seatB := true, vinPre := vin })
    when (decide (3400 ≤ vin) && !s.input.fetFail) s1 fun s => startInrush s vin

/-- A seat pin released for 10 µs: the count restarts, the path reseats, or the input is lost with cause 3 (R315–R317). -/
def execSeatRelease (t : Nat) (pinB : Bool) (s : State) : Host.Outcome State Fault Refusal :=
  act t s fun s => when (s.input.state != .off) s fun s =>
    let s1 := setInput s (fun i => if pinB then { i with seatB := false } else { i with seatA := false })
    match s.input.state with
    | .off => s1
    | .seating => setInput s1 (fun i => { i with since := s.now })
    | .inrush => loseInput s1 3
    | .on => loseInput s1 3
    | .lost => reseat s1
    | .retryWait => reseat s1
    | .latched => reseat s1

/-- VIN_PRE minus VOUT below 0.5 V: the gate is fully enhanced, the input curve armed, PFW_N released (R315, R318). -/
def execInrushDone (t : Nat) (vin vout : Nat) (s : State) : Host.Outcome State Fault Refusal :=
  act t s fun s => when (s.input.state == .inrush && decide (vin < vout + 50)) s fun s =>
    followInput (setInput s (fun i => { i with state := .on, since := s.now, gateOn := true, pfw := false, vinPre := vin, vout := vout }))

/-- The inrush timer expires (R315). -/
def execInrushTimerExpiry (t : Nat) (s : State) : Host.Outcome State Fault Refusal :=
  act t s fun s => when (s.input.state == .inrush && decide (s.input.since + inputTime s (inTimer s * ticksMs 10) ≤ s.now)) s fun s => tripInput s 7

/-- LOSS_CAUSE of an input loss (R313). -/
def LossKind.cause : LossKind → Nat
  | .undervoltage => 1
  | .reverse => 2
  | .seat => 3
  | .overvoltage => 4

/-- Whether the reading is past the level of its cause (R317). -/
def lossReached (k : LossKind) (vin : Nat) (amps : Int) : Bool :=
  match k with
  | .undervoltage => decide (vin < 3000)
  | .reverse => decide (amps < -200)
  | .seat => true
  | .overvoltage => decide (8000 < vin)

/-- An input loss in INRUSH or ON (R317). -/
def execInputLoss (t : Nat) (cause : LossKind) (vin : Nat) (amps : Int) (s : State) : Host.Outcome State Fault Refusal :=
  act t s fun s => when ((s.input.state == .inrush || s.input.state == .on) && lossReached cause vin amps) s fun s =>
    loseInput (setInput s (fun i => { i with vinPre := vin, amps := amps })) (LossKind.cause cause)

/-- VIN_PRE back at 34–77 V in LOST, and seated: INRUSH, with no retry counted (R315). -/
def execInputReturn (t : Nat) (vin : Nat) (s : State) : Host.Outcome State Fault Refusal :=
  act t s fun s => when (s.input.state == .lost && seated s && decide (3400 ≤ vin) && decide (vin ≤ 7700) && !s.input.fetFail) s fun s => startInrush s vin

/-- 10 × TIMER, and at least 1 s, after a trip: a counted retry, or LATCHED with the retries used up (R315). -/
def execInputRetryWaitExpiry (t : Nat) (vin : Nat) (s : State) : Host.Outcome State Fault Refusal :=
  act t s fun s => when (s.input.state == .retryWait && decide (s.input.since + inputTime s (max (inTimer s * ticksMs 100) (ticksS 1)) ≤ s.now)) s fun s =>
    if s.input.retries < inRetry s then
      when (seated s && decide (3400 ≤ vin) && !s.input.fetFail) s fun s =>
        startInrush (setInput s (fun i => { i with retries := i.retries + 1 })) vin
    else
      recordRes (setInput s (fun i => { i with state := .latched, since := s.now })) (recPlace 0x0312 0) 0x0312 .critical 0 .b []

/-- RETRIES clears after 60 s in ON without a trip (R315). -/
def execInputRetryClear (t : Nat) (s : State) : Host.Outcome State Fault Refusal :=
  act t s fun s => when (s.input.state == .on && decide (s.input.since + inputTime s (ticksS 60) ≤ s.now)) s fun s => setInput s (fun i => { i with retries := 0 })

/-- IN_CTRL.CLEAR: a LATCHED path goes back to SEATING (R315). -/
def inputClear (s : State) : State := if s.input.state = .latched then reseat s else s

/-- IN_CTRL.CLEAR (R315). -/
def execInClear (t : Nat) (path : Path) (s : State) : Host.Outcome State Fault Refusal :=
  privCmd t path 0x28040 s inputClear

/-- IN_CTRL.CLEAR_FET_FAIL: the input checks run for 10 ms; below 34 V the clear fails (R332). -/
def inputFetClear (s : State) : State :=
  if s.input.fetFail && decide (3400 ≤ s.input.vinPre) then setInput s (fun i => { i with clear := .checking s.now }) else s

/-- IN_CTRL.CLEAR_FET_FAIL (R332). -/
def execInClearFetFail (t : Nat) (path : Path) (s : State) : Host.Outcome State Fault Refusal :=
  privCmd t path 0x28040 s inputFetClear

/-- PG is released: the path has been ON for 10 ms and VOUT is at or above 34 V (R318). -/
def execPgRelease (t : Nat) (vout : Nat) (s : State) : Host.Outcome State Fault Refusal :=
  act t s fun s => when (s.input.state == .on && decide (s.input.since + inputTime s (ticksMs 10) ≤ s.now) && decide (3400 ≤ vout)) s fun s =>
    setInput s (fun i => { i with pg := true, vout := vout })

/-- VOUT falls below PG_FALL_V: PG is driven low (R318). -/
def execPgFall (t : Nat) (vout : Nat) (s : State) : Host.Outcome State Fault Refusal :=
  act t s fun s => when (s.input.pg && decide (vout < pgFallV s)) s fun s => setInput s (fun i => { i with pg := false, vout := vout })

/-- The pre-flush begins once every shed action has been issued (R338 step 5). -/
def flushAfterSheds (s : State) : State :=
  if s.input.ew && !s.pal.flushMarked && (List.finRange 16).all (fun n => !alertWaits s n && (s.pd.get n).alert != .ended) then startFlush s else s

/-- The early warning (P1): STAT outputs, the count, the record; Brownout from Standalone, Managed or Suspend, and the sheds of R338, which Quarantine runs too (R338, R384, R386). -/
def execEarlyWarning (t : Nat) (vin : Nat) (s : State) : Host.Outcome State Fault Refusal :=
  act t s fun s => when (s.input.state != .off && !s.input.ew && decide (vin < ewV s)) s fun s =>
    let s1 := recordRes (powerEvent (setInput s (fun i => { i with ew := true, vinPre := vin })) 0) (recPlace 0x0314 0) 0x0314 .warning 0 .b []
    match s.modes.mode with
    | .standalone => flushAfterSheds (brownoutSheds (enterBrownout (wakeSource s1)))
    | .managed => flushAfterSheds (brownoutSheds (enterBrownout (wakeSource s1)))
    | .suspend => flushAfterSheds (brownoutSheds (enterBrownout s1))
    | .quarantine => flushAfterSheds (brownoutSheds s1)
    | _ => s1

/-- VIN_PRE above EW_V + EW_HYST for 100 ms: BUDGET_W applies again, Brownout ends, and the Alerts are sent again (R305, R318, R338). -/
def execEarlyWarningClear (t : Nat) (vin : Nat) (s : State) : Host.Outcome State Fault Refusal :=
  act t s fun s => when (s.input.ew && decide (ewV s + ewHyst s < vin)) s fun s =>
    let s1 := setInput s (fun i => { i with ew := false, vinPre := vin })
    let s2 : State := { s1 with pal := { s1.pal with flushMarked := false } }
    let again := fun (u : State) => eachPort u (fun w n => if connected w n && sendsAlert w n then kickOwn (setPd w n (fun d => { d with alert := .due })) n else w)
    match s.modes.mode with
    | .brownout => recomputeShares (again (leaveBrownout s2))
    | .quarantine => recomputeShares s2
    | _ => s2

/-- The Alert of a port was acknowledged or failed, or 25 ms have passed: its shed action proceeds (R305, R338 step 4). An Alert not yet sent stays due. -/
def execShedWaitExpiry (t : Nat) (port : PortId) (s : State) : Host.Outcome State Fault Refusal :=
  act t s fun s => when (s.folioOn && (s.pd.get port).alert != .none && (s.pd.get port).alert != .due) s fun s =>
    let s1 := setPd s port (fun d => { d with alert := if d.alert = .waiting then .due else .none })
    let s2 := if brownoutBudget s1 && connected s1 port && decide ((s1.power.get port).share < 10) then shedOff s1 port false
      else if brownoutBudget s1 && belowContract s1 port then shedPort s1 port
      else s1
    flushAfterSheds s2

/-- VAUX below 10.0 V for 10 µs: every port pair goes off hard and is handled as hard-shed; one record 0x0316 (R432). -/
def execVauxFall (t : Nat) (s : State) : Host.Outcome State Fault Refusal :=
  act t s fun s => when s.vauxOk s fun s =>
    let s1 := recordRes { s with vauxOk := false } (recPlace 0x0316 0) 0x0316 .warning 0 .b []
    eachPort s1 (fun u n =>
      if pathLive u n then
        if ¬ u.folioOn then gateOff u n true .off
        else if (u.pd.get n).state = .debugUp then setPower (gateOff u n true .off) n (fun p => { p with shedOff := true })
        else shedOff u n true
      else u)

/-- VAUX has stood at 10.5 V or more for 10 ms: the ports may start again (R431, R432). -/
def execVauxRecover (t : Nat) (s : State) : Host.Outcome State Fault Refusal :=
  act t s fun s => when (s.input.state != .off) s fun s => { s with vauxOk := true }

end Sys2Proof.Machine
end

