-- ==== Sys2Proof/Machine/PathCmds.lean ====
section
/-! DEFINITION. The power paths: opcode-table rows CONVERTER_READY to SHED_RESTORE, VBUS_SWITCH_ON and FET_CLEAR_WINDOW_TIMEOUT (R284, R322–R337). Port voltages are in mV and port currents in mA; the input's in 10 mV and 10 mA. -/

namespace Sys2Proof.Machine

/-- DPn_ISP lies within 4.75–5.50 V (R323). -/
def inWindow (isp : Nat) : Bool := decide (4750 ≤ isp) && decide (isp ≤ 5500)

/-- The Ferrule engine of a port (R20, R15). -/
def ferruleOf (n : PortId) : Fin 96 := if h : n.val = 0 then 94 else ⟨4 * (n.val - 1) + 3, by omega⟩

/-- The port's Ferrule engine works: it is neither restarting nor in a failed cluster (R407, R408). -/
def ferruleRuns (s : State) (n : PortId) : Bool :=
  s.folioOn && !(s.engines.get (ferruleOf n)).restarting && !(s.clusters.get ⟨(ferruleOf n).val / 4, by have := (ferruleOf n).isLt; omega⟩).failed

/-- VCONN is due: Ra was seen, it is enabled, and no fault or short bars it until detach (R284–R286, R294). -/
def vconnDue (s : State) (n : PortId) : Bool := (s.pd.get n).raSeen && vconnEn s n && !(s.pd.get n).vconnBarred

/-- VCONN on, in the tick the VBUS switch turns on (R284 step 3). -/
def vconnWith (s : State) (n : PortId) : State :=
  if vconnDue s n && (s.pd.get n).state == .startup then setPd s n (fun d => { d with vconnOn := true, vconnSince := s.now }) else s

/-- The gate is driven and the receptacle ramps up (R323 step 4). -/
def gateDrive (s : State) (n : PortId) : State :=
  vconnWith (setPower s n (fun p => { p with step := .ramp, gateOn := true, hardOff := false, discharge := false, gateStart := s.now })) n

/-- DPn_ISP enters 4.75–5.50 V: the checks of a switch-on start, or those of a CLEAR_FET_FAIL (R323 step 2, R332). -/
def execConverterReady (t : Nat) (port : PortId) (isp : Nat) (s : State) : Host.Outcome State Fault Refusal :=
  act t s fun s => when (inWindow isp) s fun s =>
    let s1 := setPower s port (fun p => { p with ispMv := isp })
    match (s.power.get port).clear with
    | .waiting _ => setPower s1 port (fun p => { p with clear := .checking s.now })
    | _ => when ((s.power.get port).step == .converter && mayStart s port) s1 fun s => setPower s port (fun p => { p with step := .checks, gateStart := s.now })

/-- The pre-switch checks have run for 1 ms with no fault: the gate is driven (R323, R331). -/
def execPreswitchCheckDone (t : Nat) (port : PortId) (isp mid : Nat) (s : State) : Host.Outcome State Fault Refusal :=
  act t s fun s => when ((s.power.get port).step == .checks && mayStart s port && decide (2 * mid < isp)) s fun s =>
    gateDrive (setPower s port (fun p => { p with ispMv := isp, midMv := mid })) port

/-- The converter's output is within range and the checks have had their 1 ms: the VBUS switch turns on, and VCONN where due in the same tick (R284 step 3). -/
def execVbusSwitchOn (t : Nat) (port : PortId) (isp : Nat) (s : State) : Host.Outcome State Fault Refusal :=
  act t s fun s =>
    let p := s.power.get port
    when (p.step == .checks && inWindow isp && mayStart s port && decide (p.gateStart + ticksMs 1 ≤ s.now)) s fun s =>
      gateDrive (setPower s port (fun p => { p with ispMv := isp })) port

/-- The greatest code a port may hold, 49.00 V (R322). -/
def vsetMax : Nat := 2450

/-- Every 1 ms in a steady contract the code is trimmed one step towards the target, within ±2 % of the nominal code (R322). -/
def execVsetTrim (t : Nat) (port : PortId) (isp : Nat) (s : State) : Host.Outcome State Fault Refusal :=
  act t s fun s =>
    let p := s.power.get port
    let steady := p.phase == .on && explicitContract s port && (s.pd.get port).transitionStart.isNone
    when (steady && ferruleRuns s port) s fun s =>
      setPower s port (fun p =>
        let up := if isp < 20 * p.nominal then min (min vsetMax (p.nominal + 2 * p.nominal / 100)) (p.vset + 1)
          else if 20 * p.nominal < isp then max (p.nominal - 2 * p.nominal / 100) (p.vset - 1) else p.vset
        { p with ispMv := isp, vset := up })

/-! ### Breakers (R325–R327) -/

/-- I_ref in mA: the contract's current, at least 0.50 A (R325). -/
def iRef (s : State) (n : PortId) : Nat := max 500 (10 * (if explicitContract s n then (s.pd.get n).contract.ma10 else rpMa10 (s.pd.get n).rpNow))

/-- Whether a current is at or above a breakpoint's threshold, derated, on a path (R325, R326). -/
def exceeds (s : State) (p : PowerPath) (current : Nat) (i : Int) : Bool :=
  match p with
  | .input => decide ((current : Int) ≤ i)
  | .port n =>
    let d := if derateEn s n then (s.power.get n).derate else 256
    let thr := if curveRel s n then current * iRef s n else 2560 * current
    decide ((thr * d : Nat) ≤ i * 65536)

/-- The highest used breakpoint exceeded, by index. -/
def topBand (s : State) (p : PowerPath) (i : Int) : Option Nat :=
  ((curveOf s p).zipIdx.filter (fun b => b.1.2 != 0 && exceeds s p b.1.1 i)).getLast?.map (·.2)

/-- One step of the integrator: charge, or cooling (R326). -/
def integrate (s : State) (p : PowerPath) (acc : Nat) (band : Option Nat) : Nat :=
  match band with
  | some k => min (2 ^ 25 - 1) (acc + 2 ^ 24 / ((curveOf s p).getD k (0, 1)).2)
  | none =>
    let shift := match p with
      | .input => inCool s
      | .port n => portCool s n
    acc - acc / 2 ^ shift

/-- Summaries run once Boot has ended. -/
def summed (s : State) (ch q : Nat) (x : Int) : State :=
  if s.folioOn && s.modes.booted then sample s ch q x (stroke s % 5000 == 0) else s

/-- The 1 µs sample of a port: receptacle VBUS, DPn_ISP, DPn_MID and the current (R15, R326). -/
def samplePort (s : State) (n : PortId) (i : Int) (vbus isp mid : Nat) : State :=
  let band := if (s.power.get n).gateOn then topBand s (.port n) i else none
  let acc := integrate s (.port n) (s.power.get n).acc band
  let s1 := setPower s n (fun p => { p with
    ampsMa := i, vbusMv := vbus, ispMv := isp, midMv := mid, acc := acc
    band := match band with
      | some k => k + 1
      | none => 0
    revRun := if i < -500 then p.revRun + 1 else 0
    discharge := if p.gateOn then p.discharge else decide (500 < vbus) })
  let since := fun (hold : Bool) (x : Option Nat) => if hold then some (x.getD s.now) else none
  let s2 := setPd s1 n (fun d => { d with
    safe0 := decide (vbus < 800), lowSince := since (decide (i < 50) && explicitContract s n) d.lowSince
    highSince := since (decide (50 < i) && d.reclaim) d.highSince })
  summed (summed s2 n.val 1 vbus) n.val 2 i

/-- A breaker trip of a port is due: the integrator is full, or −500 mA has lasted 100 µs (R326). -/
def breakerDue (p : PortPower) : Bool := p.gateOn && (decide (2 ^ 24 ≤ p.acc) || decide (100 ≤ p.revRun))

/-- A trip while Folio is unpowered is Reservoir's alone (R14). -/
def tripPath (s : State) (n : PortId) (cause : Nat) (place : Nat × Nat) : State :=
  if s.folioOn then tripPort s n cause place
  else setPower (recordRes (gateOff s n true .tripped) place (0x0300 + cause) .critical n .none []) n (fun p => { p with lastCause := cause })

/-- Every 1 µs each path's breaker is evaluated on its sample; the command carries the voltages sampled with it (R15, R326). -/
def execBreakerEval (t : Nat) (path : PowerPath) (sample : Int) (v1 v2 v3 : Nat) (s : State) : Host.Outcome State Fault Refusal :=
  act t s fun s => when (s.input.state != .off) s fun s =>
    match path with
    | .port n =>
      let s1 := samplePort s n sample v1 v2 v3
      if breakerDue (s1.power.get n) then tripPath s1 n 1 (pathTile (.port n) 1) else s1
    | .input =>
      let band := if s.input.gateOn then topBand s .input sample else none
      let acc := integrate s .input s.input.acc band
      let s1 := setInput s (fun i => { i with amps := sample, vinPre := v1, vout := v2, mid := v3, acc := acc })
      let s2 := summed (summed (summed s1 16 4 v1) 16 5 v2) 16 6 sample
      if s2.input.state == .on && decide (2 ^ 24 ≤ acc) then tripInput s2 5 else s2

/-- The fast trip, stamped P0 (R327). -/
def execFastTrip (t : Nat) (path : PowerPath) (s : State) : Host.Outcome State Fault Refusal :=
  act t s fun s =>
    match path with
    | .port n => when (s.power.get n).gateOn s fun s => tripPath s n 2 (pathTile (.port n) 1)
    | .input => when (s.input.state == .on) s fun s => tripInput s 6

/-- In a PPS contract the code steps down every 10 µs while the current is more than 150 mA above the request, and back up to the target every 4 µs (R328). -/
def execPpsCurrentLimitStep (t : Nat) (port : PortId) (amps : Int) (s : State) : Host.Outcome State Fault Refusal :=
  act t s fun s =>
    let c := (s.pd.get port).contract
    when ((s.power.get port).gateOn && c.kind == 2) s fun s =>
      setPower s port (fun p =>
        let lim : Int := 10 * c.ma10 + 150
        { p with ampsMa := amps, vset := if lim < amps then max 165 (p.vset - 1) else if amps < lim then min p.nominal (p.vset + 1) else p.vset })

/-! ### Temperature (R329, R330) -/

/-- One step of the model: the new rise, and the temperature in °C it used. -/
def modelStep (s : State) (n : PortId) (meanSquare : Nat) (dieTemp : Int) : Rat × Rat :=
  let rise := (s.power.get n).rise
  let amb : Rat := if ambFromDie s n then (dieTemp : Rat) / 16 else (tAmb s n : Rat)
  let temp := amb + rise
  let r : Rat := ((r25 s n : Nat) : Rat) / 10000 * (1 + 4 / 1000 * (temp - 25))
  let p : Rat := ((meanSquare : Nat) : Rat) / 1000000 * r
  (rise + (p * ((rth s n : Nat) : Rat) / 10 - rise) / (((thermTau s n : Nat) : Rat) * 100), temp)

/-- The derate factor in 1/256 for a temperature in 1/16 °C, rounded down (R330). -/
def derateFor (s : State) (n : PortId) (temp : Int) : Nat :=
  let a : Int := 16 * tStart s n
  let b : Int := 16 * tTrip s n
  if temp ≤ a then 256
  else if b ≤ temp then dMin s n
  else (256 - (256 - (dMin s n : Int)) * (temp - a) / (b - a)).toNat

/-- The temperature of a port is taken: derating is recomputed, and at T_TRIP a live path trips with cause 3, from Reservoir with direct sensing, from the Ferrule engine with the model (R330). -/
def takeTemp (s : State) (n : PortId) (temp : Int) (direct : Bool) : State :=
  let d := derateFor s n temp
  let s1 := summed (setPower s n (fun p => { p with temp := temp, deratePending := d })) n.val 3 temp
  if (s1.power.get n).gateOn && decide (16 * (tTrip s n : Int) ≤ temp) then
    tripPath s1 n 3 (if direct then pathTile (.port n) 6 else portEngineTile n 3)
  else s1

/-- Every 1 ms the FET temperature is read or modelled. `reading` is the direct sensor's, in 1/16 °C; one outside −55 to +200 °C is a sensor fault, and the model takes over (R329). -/
def execThermalUpdate (t : Nat) (port : PortId) (reading : Int) (meanSquare : Nat) (dieTemp : Int) (s : State) : Host.Outcome State Fault Refusal :=
  act t s fun s => when s.folioOn s fun s =>
    let bad := decide (reading < -880) || decide (3200 < reading)
    let direct := thermSource s port != 0 && !(s.power.get port).sensorFault
    if direct && !bad then takeTemp s port reading true
    else
      let s1 := if direct then
          recordRes (setPower s port (fun p => { p with sensorFault := true })) (recPlace 0x0306 port) 0x0306 .warning port .a []
        else s
      when (s1.link.phase == .up && ferruleRuns s1 port) s1 fun s =>
        let m := modelStep s port meanSquare dieTemp
        takeTemp (setPower s port (fun p => { p with rise := m.1 })) port (m.2 * 16).floor false

/-! ### Pass devices (R331, R332) -/

/-- A fault that arises in Standby is kept in Reservoir until the warm Boot that ends it ends (R410). -/
def holdFault (s : State) (f : HeldFault) : State := { s with blot := { s.blot with held := s.blot.held ++ [f] } }

/-- Folio's part of a port's pass-device fault: the notice, class 8, Quarantine of the path (R332, R403). -/
def reportPortFet (s : State) (n : PortId) : State :=
  enterQuarantine (faultReport (powerNotice s n 3) (pathTile (.port n) 2) 8 .critical n) (2 ^ n.val) false

/-- Folio's part of the input's pass-device fault (R332, R403). -/
def reportInputFet (s : State) : State :=
  enterQuarantine (faultReport { s with blot := { s.blot with inputQ := true } } (pathTile .input 2) 8 .critical 0) 0 false

/-- A port's pass-device fault latches (R332). -/
def portFetFault (s : State) (n : PortId) : State :=
  let latch := fun (u : State) => passCause (setPower u n (fun p => { p with
    fetFail := true, lastCause := 4, phase := .fetFault, step := .idle, gateOn := false, enable := false, vset := 0, nominal := 0, clear := .idle, retryDue := none, shedOff := false }))
  if s.folioOn && s.modes.mode == .standby then holdFault (latch s) (.portFet n)
  else
    let s3 := latch (recordRes s (recPlace 0x0304 n) 0x0304 .critical n .a [])
    if ¬ s.folioOn then s3
    else
      let s4 := if (s.pd.get n).state = .startup then powerOffPort s3 n 4 else s3
      reportPortFet s4 n

/-- The input's pass-device fault latches; which check failed is recorded, under a number the spec does not give (R332, R372). -/
def inputFetFault (s : State) : State :=
  let d := draw s
  let s1 := passCause (setInput d.2 (fun i => { i with fetFail := true, clear := .idle }))
  if s.folioOn && s.modes.mode == .standby then holdFault s1 (.inputFet d.1)
  else
    let s2 := recordRes s1 (recPlace 0x0317 0) 0x0317 .critical 0 .b [d.1]
    if ¬ s.folioOn then s2 else reportInputFet s2

/-- A check of R331 has held for its time, the gate being off: checks 0–2 are the port's, 3 and 4 the input's. -/
def execPassDeviceFault (t : Nat) (path : PowerPath) (check : Fin 5) (s : State) : Host.Outcome State Fault Refusal :=
  act t s fun s => when (s.input.state != .off) s fun s =>
    match path with
    | .port n => when (decide (check.val < 3) && !(s.power.get n).gateOn && !(s.power.get n).fetFail) s fun s => portFetFault s n
    | .input => when (decide (3 ≤ check.val) && !s.input.gateOn && !s.input.fetFail) s inputFetFault

/-- FUSE_CTRL.CLEAR_FET_FAIL: code 250, DPn_EN high with the gate off, and the window is awaited (R332). -/
def portFetClear (s : State) (n : PortId) : State :=
  if (s.power.get n).fetFail then setPower s n (fun p => { p with vset := 250, nominal := 250, enable := true, clear := .waiting s.now }) else s

/-- FUSE_CTRL.CLEAR_FET_FAIL (R332). -/
def execClearFetFail (t : Nat) (path : Path) (port : PortId) (s : State) : Host.Outcome State Fault Refusal :=
  privCmd t path (portReg port 0x8040) s fun s => portFetClear s port

/-- A clear that fails: the fault stays, DPn_EN returns low and the code 0 (R332). -/
def fetClearFails (s : State) (n : PortId) : State :=
  setPower s n (fun p => { p with clear := .idle, enable := false, vset := 0, nominal := 0 })

/-- The 10 ms of checks end: the fault clears if none failed (R332). -/
def execFetClearCheckEnd (t : Nat) (path : PowerPath) (failed : Bool) (s : State) : Host.Outcome State Fault Refusal :=
  act t s fun s =>
    match path with
    | .port n =>
      match (s.power.get n).clear with
      | .checking since => when (decide (since + ticksMs 10 ≤ s.now)) s fun s =>
          if failed then fetClearFails s n
          else
            let off := (s.pd.get n).state == .disabled
            let s1 := passCause (setPower s n (fun p => { p with clear := .idle, fetFail := false, phase := .off }))
            recomputeShares (if off then converterOff s1 n else s1)
      | _ => s
    | .input =>
      match s.input.clear with
      | .checking since => when (decide (since + ticksMs 10 ≤ s.now)) s fun s =>
          if failed then setInput s (fun i => { i with clear := .idle }) else passCause (setInput s (fun i => { i with clear := .idle, fetFail := false }))
      | _ => s

/-- DPn_ISP has not entered the window within 100 ms of a clear: it fails (R332). -/
def execFetClearWindowTimeout (t : Nat) (port : PortId) (s : State) : Host.Outcome State Fault Refusal :=
  act t s fun s =>
    match (s.power.get port).clear with
    | .waiting since => when (decide (since + ticksMs 100 ≤ s.now)) s fun s => fetClearFails s port
    | _ => s

/-! ### Retry and restoration (R333–R337) -/

/-- VBUS is restored to a port: STARTUP from the switch-on, and a sink that takes it for a fresh attach (R287, R310, R323); UP in DEBUG_UP stays there. -/
def restorePath (s : State) (n : PortId) : State :=
  let s0 := setPd s n (fun d => { d with msgIdTx := 0, msgIdRx := none, msgIdTxP := 0, msgIdRxP := none, firstReq := false, sendings := 0,
                                         discovering := false, discoveries := 0 })
  let s1 := setPower s0 n (fun p => { p with retryDue := none, shedOff := false })
  let s2 := if (s.pd.get n).state = .debugUp then s1 else presentRp (pdState s1 n .startup) n
  switchOn s2 n

/-- A sink waits for VBUS: POWER_OFF, or UP's debug accessory. -/
def waitsForVbus (s : State) (n : PortId) : Bool := !(s.pd.get n).detaching && ((s.pd.get n).state == .powerOff || (s.pd.get n).state == .debugUp) && !pathLive s n

/-- FUSE_CTRL.CLEAR_LATCH: LATCHED and RETRIES clear; an attached sink starts at STARTUP without a counted retry once its share is there (R334, R411). -/
def portClearLatch (s : State) (n : PortId) : State :=
  let was := (s.power.get n).latched
  let s1 := setPower s n (fun p => { p with latched := false, retries := 0, shedOff := p.shedOff || was })
  let s2 := if was then viewOverCurrent (recomputeShares s1) n false else s1
  if was && waitsForVbus s2 n && decide (10 ≤ (s2.power.get n).share) && mayStart s2 n then restorePath s2 n else s2

/-- FUSE_CTRL.CLEAR_LATCH (R334). -/
def execClearLatch (t : Nat) (path : Path) (port : PortId) (s : State) : Host.Outcome State Fault Refusal :=
  privCmd t path (portReg port 0x8040) s fun s => portClearLatch s port

/-- The conditions under which a pending retry may run (R333, R407). -/
def retryAllowed (s : State) (n : PortId) : Bool :=
  let p := s.power.get n
  working s && mayStart s n && decide (10 ≤ p.share) && !p.latched && ferruleRuns s n && waitsForVbus s n
    && (p.lastCause != 3 || decide (p.temp ≤ 16 * ((tTrip s n : Int) - 20)))

/-- A retry: counted, EVENT 4, back to STARTUP; a limited one uses up a retry (R333, R334). -/
def execPortRetry (t : Nat) (port : PortId) (s : State) : Host.Outcome State Fault Refusal :=
  act t s fun s =>
    match (s.power.get port).retryDue with
    | none => s
    | some due => when (decide (due ≤ s.now) && retryAllowed s port) s fun s =>
        let s1 := rcCount s (portReg port 0x818) 16
        let s2 := if autoRetry s port then s1 else setPower s1 port (fun p => { p with retries := p.retries + 1 })
        restorePath (powerNotice s2 port 4) port

/-- RETRIES clears after 60 s on without a trip (R334). -/
def execPortRetryClear (t : Nat) (port : PortId) (s : State) : Host.Outcome State Fault Refusal :=
  act t s fun s =>
    let p := s.power.get port
    when (s.folioOn && p.phase == .on && decide (p.onSince + ticksS 60 ≤ s.now)) s fun s => setPower s port (fun p => { p with retries := 0 })

/-- A waiting increase applies once committed power allows (R337). -/
def execShareIncreaseApply (t : Nat) (port : PortId) (s : State) : Host.Outcome State Fault Refusal :=
  act t s fun s => when (ferruleRuns s port) s fun s => applyIncrease s port

/-- VBUS is restored to a shed or hard-shed port (R337). -/
def execShedRestore (t : Nat) (port : PortId) (s : State) : Host.Outcome State Fault Refusal :=
  act t s fun s =>
    let p := s.power.get port
    let ok := p.shedOff && decide (10 ≤ p.share) && !(hardShed s port && s.modes.mode == .brownout) && waitsForVbus s port
      && !p.latched && mayStart s port && working s && ferruleRuns s port
    when ok s fun s => clearShed (restorePath s port) port

end Sys2Proof.Machine
end

