-- ==== Sys2Proof/Machine/Nibs.lean ====
section
/-! DEFINITION. The Nibs' shared operations: root resets, previews, attach, the report of a connection, the snapshot image and the suspension of a tree (R81–R84, R118, R119, R161–R170, R186). -/

namespace Sys2Proof.Machine

/-! ### NIB_CFG and NIB_LPM_CFG as treated (R161, R162) -/

def errLimit (s : State) (n : PortId) : Nat := let x := pfld s n 0x400 0 2; if x = 0 then 3 else x
def maxSpeed (s : State) (n : PortId) : Nat := inRange 2 5 5 (pfld s n 0x400 2 3)
def l1En (s : State) (n : PortId) : Bool := pfld s n 0x400 5 1 == 1
def u1En (s : State) (n : PortId) : Bool := pfld s n 0x400 6 1 == 1
def u2En (s : State) (n : PortId) : Bool := pfld s n 0x400 7 1 == 1
def stuckEn (s : State) (n : PortId) : Bool := pfld s n 0x400 8 1 == 1

/-- Idle ticks before a U1, U2 or L1 request; none where requests are disabled. -/
def u1Idle (s : State) (n : PortId) : Option Nat := let x := pfld s n 0x404 0 8; if 1 ≤ x ∧ x ≤ 127 then some (ticksUs x) else none
def u2Idle (s : State) (n : PortId) : Option Nat := let x := pfld s n 0x404 8 8; if 1 ≤ x ∧ x ≤ 254 then some (ticksUs (256 * x)) else none
def l1Idle (s : State) (n : PortId) : Option Nat := let x := pfld s n 0x404 16 8; if 1 ≤ x then some (ticksUs (100 * x)) else none
def besl (s : State) (n : PortId) : Nat := pfld s n 0x404 24 4

/-- The ring VI that owns a port, if one does. -/
def ringOwner (s : State) (n : PortId) : Option RingId :=
  match (s.own.get n).owner with
  | .ring v => some v
  | _ => none

/-! ### What a classic owner sees (R224–R227) -/

/-- Whether a device is connected on a path of the port. -/
def pathConnected (b : Nib) (ss : Bool) : Bool := if ss then ssUp b else b.connect

/-- What a classic owner has on a path of its port: the device there, or the Scribe function on DP15 (R242). -/
def shownConnected (s : State) (n : PortId) (ss : Bool) : Bool :=
  if n.val = 15 ∧ dp15Function s then s.func.onSs == ss else pathConnected (s.nibs.get n) ss

/-- The connection on a path is reported in the owning view while PORT_POWER is 1 (R225–R227). -/
def viewConnect (s : State) (n : PortId) (ss : Bool) : State :=
  match classicOwner s n with
  | none => s
  | some c =>
    let w := s.cviews.get (viewIdx c n)
    if !w.power || !shownConnected s n ss then s
    else if ss then setView s c n (fun w => { w with statusS := put16 (put16 0 0 true) 1 true, changeS := put16 w.changeS 0 true })
    else setView s c n (fun w => { w with status2 := put16 (put16 w.status2 0 true) 9 ((s.nibs.get n).speed2 == 1), change2 := put16 w.change2 0 true })

/-- The Scribe function attaches on the hub half its owner's upstream calls for, in the Default state (R242). -/
def attachFunc (s : State) (n : PortId) : State :=
  match classicOwner s n with
  | some c => if n.val = 15 ∧ dp15Function s then { s with func := { func0 with onSs := (s.cvis.get c).ssLink } } else s
  | none => s

/-- Both paths are reported. -/
def viewConnectBoth (s : State) (n : PortId) : State := viewConnect (viewConnect (attachFunc s n) n false) n true

/-! ### Resets of the root port (R165, R167, R89) -/

/-- SE0 on the USB 2.0 path (R165 step 1). -/
def reset2 (s : State) (n : PortId) : State :=
  emit (setNib s n (fun b => { b with phase2 := .reset s.now, chirp := 0, default2 := false, l1 := false, speed2 := if b.connect then b.speed2 else 0 })) (.line n .se0)

/-- A hot or warm reset of the SuperSpeed link. A warm reset also tries a link again that was given up (R164, R167). -/
def resetS (s : State) (n : PortId) (warm : Bool) : State :=
  let b := s.nibs.get n
  let up := ssUp b || (warm && b.phaseS == .u3)
  if up then emit (setNib s n (fun x => { x with phaseS := .resetting s.now, defaultS := false })) (.line n (if warm then .warmReset else .hotReset))
  else if warm && decide (4 ≤ maxSpeed s n) then emit (setNib s n (fun x => { x with phaseS := .detect })) (.line n .warmReset)
  else s

/-- Both paths are reset; a path that has something to reset is waited for (R89, R167). -/
def resetBoth (s : State) (n : PortId) (warm : Bool) : State :=
  let s1 := resetS (reset2 (setNib s n (fun b => { clearStuck b with susp := .awake, tt := [], waking := false })) n) n warm
  let b := s1.nibs.get n
  let waitS := match b.phaseS with
    | .resetting _ => true
    | .detect => warm
    | _ => false
  setNib s1 n (fun b => { b with wait2 := true, waitS := waitS })

/-- RESET_PORT completes when both paths have finished: the speed, and a port state notice (R109, R167, R192). -/
def finishReset (s : State) (n : PortId) (force : Bool) : State :=
  let b := s.nibs.get n
  match b.resetCmd with
  | none => s
  | some (v, slot) =>
    if force || (!b.wait2 && !b.waitS) then
      let s1 := setNib s n (fun x => { x with resetCmd := none, wait2 := false, waitS := false })
      portStateNotice (finishCmd s1 v slot ccSuccess (speedCode b) n) n 1 (linkCode b) (speedCode b)
    else s

/-! ### Preview (R118, R119, R168–R170) -/

/-- The base of a VI's preview buffer (R94). -/
def previewBuf (s : State) (v : RingId) : Nat := ringBase s v 0x138

/-- Preview takes place for a VI: PREVIEW_EN, and a buffer that its transport reaches (R118, R147). -/
def previewOn (s : State) (v : RingId) : Bool :=
  bitOf (viReg s v 0x100) 2 && previewBuf s v != 0 && reaches s v (previewBuf s v) 7680 && !(s.vis.get v).unreachable

/-- The bytes of a standard GET_DESCRIPTOR request. -/
def getDescriptor (type index len : Nat) : List Byte :=
  natBytesLE 1 0x80 ++ natBytesLE 1 6 ++ natBytesLE 1 index ++ natBytesLE 1 type ++ natBytesLE 2 0 ++ natBytesLE 2 len

/-- The request of a preview step (R168). -/
def previewRequest (step : Nat) : List Byte :=
  if step = 1 then getDescriptor 1 0 8 else if step = 2 then getDescriptor 1 0 18 else getDescriptor 2 0 255

/-- Send the request of the step the preview has come to. -/
def previewSend (s : State) (n : PortId) : State :=
  match (s.nibs.get n).preview with
  | some p => emit s (.control n 0 (previewRequest p.step))
  | none => s

/-- A preview starts at the end of a path's reset (R168); on the USB 2.0 path its first request waits for the 10 ms of R165. -/
def startPreview (s : State) (n : PortId) (ss : Bool) : State :=
  let b := s.nibs.get n
  let fs := !ss && b.speed2 == 2
  let mps := if ss then 512 else if b.speed2 = 3 then 64 else 8
  let s1 := setNib s n (fun x => { x with preview := some { ss := ss, step := if fs then 1 else 2, mps := mps, cerr := errLimit s n,
                                                             dev := [], cfg := [], since := s.now } })
  if ss || b.phase2 == .active then previewSend s1 n else s1

/-- A byte list padded with zeros to a length. -/
def padTo (k : Nat) (bs : List Byte) : List Byte := (bs ++ List.replicate k 0).take k

/-- The preview slot of a port (R119). -/
def previewSlot (b : Nib) (p : Preview) (result : Nat) : List Byte :=
  padTo 512 (natBytesLE 1 p.dev.length ++ natBytesLE 1 p.cfg.length ++ natBytesLE 1 result ++ natBytesLE 1 (if p.ss then b.speedS else b.speed2)
    ++ natBytesLE 2 b.attachCount ++ [0, 0] ++ padTo 18 p.dev ++ padTo 255 p.cfg)

/-- The preview ends: the slot is written for whoever owns the port now, then the attach notice goes out (R118, R169). -/
def endPreview (s : State) (n : PortId) (result : Nat) : State :=
  let b := s.nibs.get n
  match b.preview with
  | none => s
  | some p =>
    let s1 := setNib s n (fun x => { x with preview := none })
    match ringOwner s n with
    | some v =>
      if previewOn s v then
        attachNotice (hostWrite s1 v (previewBuf s v + (n.val - 1) * 512) (previewSlot b p result)) n p.ss true result
      else attachNotice s1 n p.ss false 0
    | none => s1

/-- The other root path has come through its reset already (R168). -/
def otherPathUp (b : Nib) (ss : Bool) : Bool :=
  if ss then b.phase2 == .active || (match b.phase2 with
    | .recovery _ => true
    | _ => false)
  else ssUp b

/-- A root device has been reset in bring-up: preview, or the attach notice without one (R118, R166, R192). -/
def attachRoot (s : State) (n : PortId) (ss : Bool) : State :=
  match ringOwner s n with
  | none => s
  | some v =>
    let b := s.nibs.get n
    if previewOn s v && b.preview.isNone && !otherPathUp b ss then startPreview s n ss else attachNotice s n ss false 0

/-- A device record of the root device on a path. -/
def rootRecord (s : State) (n : PortId) (ss : Bool) : Bool := (portDevices s n).any (fun d => d.tier == 1 && decide (4 ≤ d.speed) == ss)

/-- A device found attached and not addressed when a ring VI is installed is reset and reported (R75, R118). -/
def foundAttached (s : State) (n : PortId) : State :=
  let b := s.nibs.get n
  let two := b.connect && !b.default2 && b.phase2 == .idle && !rootRecord s n false
  let sup := ssUp b && !b.defaultS && !rootRecord s n true
  let s1 := if two then reset2 s n else s
  if sup then resetS s1 n false else s1

/-! ### The snapshot (R81–R84) -/

/-- POWER of the snapshot header. -/
def snapPower (s : State) (n : PortId) : Nat :=
  packNat [(0, bnat (vbusOn s n)), (1, bnat (explicitContract s n)), (2, bnat (portTripped s n)), (3, bnat (s.power.get n).shed), (4, bnat (sinkAttached s n))]

/-- A device's endpoints. -/
def devEps (s : State) (d : Device) : List Endpoint := (portEps s d.port).filter (fun e => e.dev == d.addr)

/-- The device records of a port, by address. -/
def sortedDevices (s : State) (n : PortId) : List Device := (portDevices s n).mergeSort (fun a b => decide (a.addr ≤ b.addr))

/-- A device record (R83); `first` is the index of its first endpoint record. -/
def deviceBytes (s : State) (d : Device) (first : Nat) : List Byte :=
  let susp := d.suspended || nibSuspended (s.nibs.get d.port)
  padTo 32 (natBytesLE 1 d.addr ++ natBytesLE 1 d.speed ++ natBytesLE 1 d.parent ++ natBytesLE 1 d.parentPort
    ++ natBytesLE 1 (d.state + 128 * bnat susp) ++ natBytesLE 1 d.config
    ++ natBytesLE 1 (packNat [(0, bnat d.hub), (1, bnat d.mtt), (2, bnat d.wake), (3, bnat d.lpm), (4, bnat (d.u1 || d.u2))])
    ++ natBytesLE 1 d.tier ++ natBytesLE 2 d.vid ++ natBytesLE 2 d.pid ++ natBytesLE 2 d.bcd ++ natBytesLE 1 d.ttAddr ++ natBytesLE 1 d.ttPort
    ++ natBytesLE 4 d.route ++ natBytesLE 2 first ++ natBytesLE 1 (devEps s d).length)

/-- An endpoint record (R84). -/
def endpointBytes (e : Endpoint) : List Byte :=
  let st : Nat := match e.run with
    | .stopped => 1
    | .running => 0
    | .halted => 2
  natBytesLE 1 e.dev ++ natBytesLE 1 e.epAddr ++ natBytesLE 1 (e.type + 16 * st) ++ natBytesLE 1 e.toggle ++ natBytesLE 2 e.ctx
    ++ natBytesLE 2 e.maxPacket ++ natBytesLE 3 (stashBytes e.stash) ++ natBytesLE 1 (bnat e.ra + 2 * bnat e.admission.isSome)
    ++ natBytesLE 3 e.discarded ++ natBytesLE 1 e.interval

/-- The device records with the running endpoint index. -/
def deviceRecords (s : State) : List Device → Nat → List Byte
  | [], _ => []
  | d :: rest, i => deviceBytes s d i ++ deviceRecords s rest (i + (devEps s d).length)

/-- What only the occasion fixes of a snapshot header (R82). -/
structure SnapInfo where
  cause : Nat
  prev : Nat
  next : Nat
  stroke : Nat
  flags : Nat
  frame : Nat
  ended : Nat

/-- The snapshot image of a port, with its CHECK (R81–R84). -/
def snapshotBytes (s : State) (n : PortId) (i : SnapInfo) : List Byte :=
  let ds := sortedDevices s n
  let es := ds.flatMap (devEps s)
  let b := s.nibs.get n
  let o := s.own.get n
  let size := 64 + 32 * ds.length + 16 * es.length
  let head := padTo 62 (natBytesLE 2 1 ++ natBytesLE 1 n.val ++ natBytesLE 1 i.cause ++ natBytesLE 1 i.prev ++ natBytesLE 1 i.next ++ natBytesLE 2 o.generation
    ++ natBytesLE 8 i.stroke ++ natBytesLE 2 ds.length ++ natBytesLE 2 es.length ++ natBytesLE 4 size
    ++ natBytesLE 1 (snapPower s n) ++ natBytesLE 1 (linkCode b) ++ natBytesLE 1 (speedCode b) ++ natBytesLE 1 i.flags
    ++ natBytesLE 4 ((if explicitContract s n then (s.pd.get n).contract.rdo else 0)).toNat ++ natBytesLE 2 (satN 16 (contractMv s n))
    ++ natBytesLE 2 (satN 16 (contractMa10 s n)) ++ natBytesLE 4 ((portEps s n).map (fun e => stashBytes e.stash)).sum ++ natBytesLE 4 o.discarded
    ++ natBytesLE 2 i.frame ++ natBytesLE 2 i.ended)
  let body := deviceRecords s ds 0 ++ es.flatMap endpointBytes
  head ++ natBytesLE 2 (crc16 (head ++ [0, 0] ++ body)).toNat ++ body

/-- The takeover: the snapshot is written where a buffer of the VI holds it, then the takeover notice (R81, R277). -/
def takeover (s : State) (n : PortId) (v : RingId) (treeReset : Bool) : State :=
  let o := s.own.get n
  let es := portEps s n
  let flags := packNat [(0, bnat treeReset), (1, bnat (decide (0 < (es.map (fun e => stashBytes e.stash)).sum))),
                        (2, bnat (es.any (fun e => e.admission.isSome))), (3, bnat (decide (0 < o.endedCount)))]
  let bytes := snapshotBytes s n { cause := o.cause, prev := o.prevOwner.code, next := o.owner.code, stroke := (o.decidedAt - s.strokeBase) % 2 ^ 64,
                                   flags := flags, frame := o.frameT, ended := satN 16 o.endedCount }
  let base := ringBase s v 0x128
  let fits := decide (bytes.length ≤ (viReg s v 0x130).toNat) && reaches s v base (viReg s v 0x130).toNat && !(s.vis.get v).unreachable
  let s1 := if fits then hostWrite s v base bytes else s
  notice s1 0x02 .notice n o.owner
    [pack64 [(0, o.cause), (3, o.prevOwner.code), (10, o.owner.code), (17, o.generation % 65536), (33, bnat fits), (34, flags)],
     pack64 [(0, bytes.length)]] [viQueue v]

end Sys2Proof.Machine
end

