-- ==== Sys2Proof/Machine/OwnershipCmds.lean ====
section
/-! DEFINITION. Ownership: opcode-table rows OWN_ASSIGN to RESETTING_COMPLETE (R65–R91). -/

namespace Sys2Proof.Machine

/-- OWN_ASSIGN with bit 31 set requests an owner; a reserved owner code is ignored and recorded (R9, R65). -/
def ownAssign (s : State) (p : Path) (n : PortId) (value : Word) : State :=
  if ¬ bitOf value 31 then s
  else
    match Owner.ofCode (fld value 0 7) with
    | some w => stampP4 s n (.assign w)
    | none => writeIgnored s p (portReg n 0x204) value

/-- PORTn.OWN_ASSIGN (R65). In port block 0 the offset is reserved. -/
def execOwnAssign (t : Nat) (path : Path) (port : PortId) (value : Word) (s : State) : Host.Outcome State Fault Refusal :=
  privCmd t path (portReg port 0x204) s fun s => ownAssign s path port value

/-- A ring owner's lease reaches its expiry tick, and the expiry is stamped P4 (R72). -/
def execLeaseExpiry (t : Nat) (port : PortId) (s : State) : Host.Outcome State Fault Refusal :=
  act t s fun s =>
    let o := s.own.get port
    match o.owner, o.expiry with
    | .ring v, some e => when (s.folioOn && decide (e ≤ s.now) && !o.events.contains (.expiry v)) s fun s => stampP4 s port (.expiry v)
    | _, _ => s

/-! ### The decision (R70) -/

/-- None of the Scribe's engines restarts, and its cluster has not failed (R407, R408). -/
def scribeSound (s : State) : Bool :=
  !(s.clusters.get 21).failed && (List.finRange 4).all (fun k => !(s.engines.get ⟨84 + k.val, by omega⟩).restarting)

/-- The Scribe's engines run: it decides in no mode without cores, nor while one of them restarts, nor once its cluster has failed (R396, R400, R407, R408). -/
def scribeRuns (s : State) : Bool :=
  s.folioOn && s.modes.mode != .boot && s.modes.mode != .holdup && s.modes.mode != .standby && scribeSound s

/-- Enter a refused request in CLAIM_LOG (R67). -/
def refuseClaim (s : State) (n : PortId) (who : Owner) (reason : Nat) : State :=
  rcAdd s (portReg n 0x210) (pack [(0, who.code), (8, reason), (16, 1)])

/-- Why a claim fails before it is compared: rights, mask, CLAIMABLE, DP15 held for the Scribe function, eligibility (R67, R70); 0 where it does not. -/
def claimReason (s : State) (n : PortId) (w : Owner) : Nat :=
  let ring : Bool := match w with
    | .ring _ => true
    | _ => false
  if ¬ claimRight s w then 1
  else if !maskBit (claimMask s w) n.val || !claimable s n || (n.val == 15 && dp15Function s && ring) then 2
  else if ¬ eligibleFor s w n then 6 else 0

/-- The claims of a decision, the assignment targets and the cause by which the holder loses the port. -/
def claimsOf (evs : List P4Event) : List Owner := evs.filterMap (fun e => match e with
  | .claim w => some w
  | _ => none)

def assignsOf (evs : List P4Event) : List Owner := evs.filterMap (fun e => match e with
  | .assign w => some w
  | _ => none)

/-- CAUSE 1 expiry, 2 release, 3 forfeiture: the first by which the holder loses the port in this tick. -/
def lossOf (evs : List P4Event) (holder : Owner) : Option Nat :=
  (evs.filterMap (fun e => match e with
    | .expiry v => if holder = .ring v then some 1 else none
    | .release w => if holder = w ∧ w ≠ .none then some 2 else none
    | .forfeit w => if holder = w ∧ w ≠ .none then some 3 else none
    | _ => none)).head?

/-- A refused request of a decision: who, and why. -/
abbrev Refusals := List (Owner × Nat)

/-- What a decision comes to: the next owner, the cause, whether a successor took over, and the refusals in order. -/
structure Verdict where
  next : Owner
  cause : Nat
  takeover : Bool
  refused : Refusals

/-- The winner among valid claims: the highest rank, on equal rank the lowest owner code (R70). -/
def bestClaim (s : State) (ws : List Owner) : Option Owner :=
  ws.foldl (fun best w =>
    match best with
    | none => some w
    | some b => if claimRank s b < claimRank s w ∨ (claimRank s b = claimRank s w ∧ w.code < b.code) then some w else some b) none

/-- The decision of R70 for a port that can have an owner. -/
def judge (s : State) (n : PortId) (holder : Owner) (evs : List P4Event) : Verdict :=
  let claims := claimsOf evs
  match (assignsOf evs).getLast? with
  | some target =>
    let refused := claims.map (fun w => (w, 5))
    if target != .none && !eligibleFor s target n then { next := holder, cause := 0, takeover := false, refused := refused ++ [(target, 7)] }
    else { next := target, cause := 5, takeover := false, refused := refused }
  | none =>
    let loss := lossOf evs holder
    let suc := ownSuccessor s n
    let base : Verdict :=
      match loss with
      | none => { next := holder, cause := 0, takeover := false, refused := [] }
      | some c =>
        if suc != .none && suc != holder && eligibleFor s suc n then { next := suc, cause := c, takeover := true, refused := [] }
        else { next := .none, cause := c, takeover := false, refused := [] }
    let judged := (claims.filter (fun w => !(w == holder && loss.isNone))).map (fun w => (w, claimReason s n w))
    let bad := judged.filter (fun x => x.2 != 0)
    let valid := (judged.filter (fun x => x.2 == 0)).map (·.1)
    let afterClaims : Verdict :=
      match bestClaim s valid with
      | none => { base with refused := bad }
      | some w =>
        let others := (valid.filter (fun x => x != w)).map (fun x => (x, 4))
        if base.next = .none ∨ claimRank s base.next < claimRank s w then { next := w, cause := 4, takeover := false, refused := bad ++ others }
        else { base with refused := bad ++ others ++ [(w, 3)] }
    if afterClaims.next = .none && reclaimHome s n && eligibleFor s (ownHome s n) n then
      { afterClaims with next := ownHome s n, cause := 6, takeover := false }
    else afterClaims

/-- A lease starts or is renewed now (R72). -/
def startLease (s : State) (n : PortId) : State :=
  match (s.own.get n).owner with
  | .ring v => setOwn s n (fun o => { o with expiry := some (s.now + 5000 * leasePeriod s v) })
  | _ => s

/-! ### The transition (R75, R77, R80, R88, R89) -/

/-- Whether an owner is a classic VI. -/
def isClassic : Owner → Bool
  | .classic _ => true
  | _ => false

/-- What the classic view of a lost port becomes in the decision tick; a reset or test mode on the port ends (R227). -/
def viewLost (s : State) (n : PortId) : State :=
  match classicOwner s n with
  | none => s
  | some c => setCPort (setView s c n (fun w =>
      { w with status2 := 0, change2 := put16 w.change2 0 true, statusS := 0xA0, changeS := put16 w.changeS 0 true })) n (fun _ => cport0)

/-- The work of the owner before ends now, with its ownership-lost notice (R77, R78). -/
def settleOld (s : State) (n : PortId) : State :=
  let o := s.own.get n
  if ¬ o.unsettled then s
  else
    let r := endOldWork s n o.owner
    let s1 := setOwn r.1 n (fun x => { x with unsettled := false, endedCount := r.2 })
    if o.prevOwner = o.owner then s1 else ownerLostNotice s1 n o.prevOwner r.2

/-- RESETTING begins: the old work ends, nothing of the tree survives, and both paths are reset (R77, R89, R237, R242). -/
def beginResetting (s : State) (n : PortId) : State :=
  let s1 := settleOld s n
  let s2 := (releaseTree s1 n ccLeaseLost 3).1
  let s3 := if n.val = 15 ∧ dp15Function s2 then { s2 with func := func0 } else s2
  emptyLig (resetBoth (abortCmds (setNib s3 n (fun b => { b with preview := none })) n) n true) n

/-- The state a port without an owner takes. -/
def orphanState (s : State) (n : PortId) : OwnState := if orphanOff s n then .orphanOff else .orphanKept

/-- OWNER changes: the transition of R75 starts. SUCCESSOR becomes the previous owner at a takeover where SWAP_SUCCESSOR asks for it (R80). -/
def transition (s : State) (n : PortId) (v : Verdict) : State :=
  let o := s.own.get n
  let resetting := o.state == .resetting || isClassic o.owner || isClassic v.next
  let st : OwnState := if resetting then .resetting else if v.next = .none then orphanState s n else .handover
  let s1 := changeOwner (viewLost s n) n v.next st v.cause
  let s2 := if v.takeover && swapSuccessor s n && o.owner != .none then
      setApplied s1 (portReg n 0x200) (setFld (reg s1 (portReg n 0x200)) 8 7 o.owner.code)
    else s1
  let s3 := dropOwnerCmds s2 n
  let s4 := if o.state = .orphanOff ∧ ¬ mustDisable s3 n then recomputeShares (enablePort s3 n) else s3
  if resetting && o.state != .resetting then beginResetting s4 n else s4

/-- The CLAIM and RELEASE commands of the tick complete (R71, R109). -/
def answerClaims (s : State) (n : PortId) (holder : Owner) (refused : Refusals) : State :=
  eachRing s (fun u v =>
    ((u.vis.get v).cmds.filter (fun e => e.started && fld (e.words.getD 2 0) 0 4 == n.val && (e.type == 0x21 || e.type == 0x22))).foldl (fun w e =>
      if e.type = 0x21 then
        let ok := viOwns w v n
        completeCmd w v e.slot 0x21 (if ok then ccSuccess else ccNotOwner) (if ok then 0 else ((refused.find? (fun x => x.1 == .ring v)).map (·.2)).getD 0) n
      else completeCmd w v e.slot 0x22 (if holder = .ring v then ccSuccess else ccNotOwner) 0 n) u)

/-- One port's decision (R70). -/
def decidePort (s : State) (n : PortId) : State :=
  let o := s.own.get n
  let evs := o.events
  let s0 := setOwn s n (fun o => { o with events := [] })
  if o.state = .service ∨ o.state = .barred then
    let refused := (claimsOf evs ++ assignsOf evs).map (fun w => (w, 8))
    answerClaims (refused.foldl (fun u r => refuseClaim u n r.1 r.2) s0) n .none refused
  else
    let v := judge s0 n o.owner evs
    let s1 := v.refused.foldl (fun u r => refuseClaim u n r.1 r.2) s0
    let renews := (claimsOf evs).contains o.owner && o.owner != .none && (lossOf evs o.owner).isNone && (assignsOf evs).isEmpty
    let s2 := if v.next != o.owner then transition s1 n v
      else if renews || (lossOf evs o.owner).isSome then startLease s1 n
      else s1
    answerClaims s2 n o.owner v.refused

/-- The forfeitures of the tick in which hosts are dropped are decided in that tick, where the Scribe's engines are sound (R85, R394, R400). -/
def decideNow (s : State) : State :=
  if scribeSound s then eachPort s (fun u n => if (u.own.get n).events.isEmpty then u else decidePort u n) else s

/-- The Scribe resolves every P4 event stamped for the port into one decision (R70). -/
def execPortDecision (t : Nat) (port : PortId) (s : State) : Host.Outcome State Fault Refusal :=
  act t s fun s => when (scribeRuns s && !(s.own.get port).events.isEmpty) s fun s => decidePort s port

/-! ### Completion of the transitions -/

/-- The port follows its owner's timeline from now on, and slews onto it (R213). -/
def followTimeline (s : State) (n : PortId) : State :=
  match (s.own.get n).owner with
  | .ring v =>
    let b := s.nibs.get n
    let start := (s.timelines.get v).start
    let off := b.ufAt - start
    let near := (off + 312) / 625
    let apart := off % 625 != 0
    setNib s n (fun x => { x with tlOwner := .ring v, slewing := apart, offsetUf := (b.busUf + 16384 - near % 16384) % 16384 })
  | _ => setNib s n (fun x => { x with tlOwner := .none, slewing := false, offsetUf := 0 })

/-- The bytes discarded while the port had no owner were reported; the counts start again (R82, R84). -/
def clearDiscards (s : State) (n : PortId) : State :=
  let s1 := setOwn s n (fun o => { o with discarded := 0 })
  { s1 with eps := s1.eps.map (fun e => if e.port == n then { e with discarded := 0 } else e) }

/-- The port is OWNED. -/
def becomeOwned (s : State) (n : PortId) : State := setOwn s n (fun o => { o with state := .owned, unsettled := false })

/-- At U the old work ends, the snapshot and the notices go out, and the port is OWNED (R75–R82). -/
def completeHandover (s : State) (n : PortId) : State :=
  match (s.own.get n).owner with
  | .ring v =>
    let s1 := followTimeline (becomeOwned (settleOld s n) n) n
    foundAttached (clearDiscards (takeover s1 n v false) n) n
  | _ => s

/-- HANDOVER completes at U (R77). -/
def execHandoverComplete (t : Nat) (port : PortId) (s : State) : Host.Outcome State Fault Refusal :=
  act t s fun s =>
    let o := s.own.get port
    when (s.folioOn && o.state == .handover && decide (o.decidedAt < s.now)) s fun s => completeHandover s port

/-- The tree of an ownerless port is kept and suspended; its admissions and stashes go (R87). -/
def keepOrphan (s : State) (n : PortId) : State :=
  let s1 := (portEps s n).foldl (fun u e => dropStash u e.ctx 5) s
  let s2 : State := { s1 with eps := s1.eps.map (fun e => if e.port == n then { e with admission := none } else e) }
  let b := s2.nibs.get n
  let s3 := followTimeline s2 n
  if (b.connect || ssUp b) && b.susp == .awake then treeSuspend s3 n else s3

/-- An ownerless port is switched off: nothing of the tree is kept, VBUS and Rp go, and a stuck line's back-off ends (R88, R190). -/
def dropOrphan (s : State) (n : PortId) : State :=
  let s1 := (releaseTree s n ccLeaseLost 5).1
  recomputeShares (disablePort (followTimeline (setNib s1 n clearStuck) n) n false 7)

/-- At U a port without an owner keeps VBUS and suspends (R87). -/
def execOrphanKeptEntry (t : Nat) (port : PortId) (s : State) : Host.Outcome State Fault Refusal :=
  act t s fun s =>
    let o := s.own.get port
    when (s.folioOn && o.state == .orphanKept && o.unsettled && decide (o.decidedAt < s.now)) s fun s => keepOrphan (settleOld s port) port

/-- At U a port without an owner is switched off (R88). -/
def execOrphanOffEntry (t : Nat) (port : PortId) (s : State) : Host.Outcome State Fault Refusal :=
  act t s fun s =>
    let o := s.own.get port
    when (s.folioOn && o.state == .orphanOff && o.unsettled && decide (o.decidedAt < s.now)) s fun s => dropOrphan (settleOld s port) port

/-- The attach notices of the devices a reset has left, the preview on the path whose reset ended first (R75, R168). -/
def reportAttached (s : State) (n : PortId) (v : RingId) (ssFirst : Bool) : State :=
  let b := s.nibs.get n
  let one := fun (u : State) (ss first : Bool) =>
    if ¬ pathConnected b ss then u
    else if first && previewOn u v then startPreview u n ss else attachNotice u n ss false 0
  let both := b.connect && ssUp b
  one (one s false (!both || !ssFirst)) true (!both || ssFirst)

/-- The reset of a port that changes to or from a classic owner has ended: it passes to whoever holds it (R75, R89, R227). -/
def completeResetting (s : State) (n : PortId) (ssFirst : Bool) : State :=
  let s1 := setNib (settleOld s n) n (fun b => { b with wait2 := false, waitS := false })
  match (s1.own.get n).owner with
  | .ring v => reportAttached (clearDiscards (takeover (followTimeline (becomeOwned s1 n) n) n v true) n) n v ssFirst
  | .classic _ => viewConnectBoth (clearDiscards (followTimeline (becomeOwned s1 n) n) n) n
  | .none =>
    let st := orphanState s1 n
    let s2 := setOwn s1 n (fun o => { o with state := st, unsettled := false })
    if st = .orphanOff then dropOrphan s2 n else keepOrphan s2 n

/-- RESETTING ends once both paths are through their reset, and within 130 ms of the decision (R89). -/
def execResettingComplete (t : Nat) (port : PortId) (ssFirst : Bool) (s : State) : Host.Outcome State Fault Refusal :=
  act t s fun s =>
    let o := s.own.get port
    let b := s.nibs.get port
    when (s.folioOn && o.state == .resetting && decide (o.decidedAt < s.now)
          && ((!b.wait2 && !b.waitS) || decide (o.decidedAt + ticksMs 130 ≤ s.now))) s fun s => completeResetting s port ssFirst

end Sys2Proof.Machine
end

