-- ==== Sys2Proof/Machine/Timelines.lean ====
section
/-! DEFINITION. The timelines of ring VIs and their discipline loop (R196, R208–R212), with row FREE_RUN_SET. -/

namespace Sys2Proof.Machine

/-- Change one timeline. -/
def setTl (s : State) (v : RingId) (f : Timeline → Timeline) : State := { s with timelines := vmod s.timelines v f }

/-- The timeline notice, TYPE 0x0B, to the VI and the board (R212, R277). -/
def tlNotice (s : State) (v : RingId) (reanchor : Bool) (oldFn : Nat) : State :=
  let t := s.timelines.get v
  notice s 0x0B (if t.state = .holdover then .warning else .info) 0 (.ring v)
    [pack64 [(0, t.state.code), (2, bnat reanchor), (3, t.fnOffset % 2048), (14, oldFn % 2048), (25, satSgn 16 t.adj)]] [viQueue v, boardQueue]

/-- A change of STATE, with its notice (R212). -/
def tlMove (s : State) (v : RingId) (st : TlState) : State :=
  tlNotice (setTl s v (fun t => { t with state := st, good := 0, bad := 0 })) v false (s.timelines.get v).fnOffset

/-- To FREE_RUN: ADJ 0, and the frame counter goes on (R210, R212). -/
def tlFreeRun (s : State) (v : RingId) : State :=
  if (s.timelines.get v).state = .freeRun then s
  else tlMove (setTl s v (fun t => { t with adj := 0, freq := 0, fnOffset := 0 })) v .freeRun

/-- VI_TIME_CTRL.FREE_RUN. -/
def freeRunBit (s : State) (v : RingId) : Bool := bitOf (viReg s v 0x144) 0

/-- The FN_OFFSET at which the current frame number stands against an owner time in ns (R210). -/
def anchorFn (s : State) (v : RingId) (ownerNs : Nat) : Nat := (timelineUf s v / 8 + 2048 - ownerNs / 1000000 % 2048) % 2048

/-- The reference of a timeline is valid, with the owner time and the unwrapped phase error of this update (R211, R212). -/
def tlReference (s : State) (v : RingId) (ownerNs : Nat) (e : Int) : State :=
  let t := s.timelines.get v
  let s1 := setTl s v (fun t => { t with refValid := true })
  match t.state with
  | .freeRun =>
    if freeRunBit s v then s1
    else tlMove (setTl s1 v (fun t => { t with fnOffset := anchorFn s v ownerNs })) v .acquiring
  | .holdover =>
    if decide (e.natAbs ≤ 62500) then tlMove s1 v .acquiring
    else tlNotice (setTl s1 v (fun t => { t with state := .acquiring, good := 0, bad := 0, fnOffset := anchorFn s v ownerNs })) v true t.fnOffset
  | _ => s1

/-- The reference is gone: ADJ is held at the frequency term (R212). -/
def tlLost (s : State) (v : RingId) : State :=
  let t := s.timelines.get v
  let s1 := setTl s v (fun t => { t with refValid := false })
  match t.state with
  | .acquiring => tlMove (setTl s1 v (fun t => { t with adj := (256 * t.freq).floor })) v .holdover
  | .locked => tlMove (setTl s1 v (fun t => { t with adj := (256 * t.freq).floor })) v .holdover
  | _ => s1

/-- ADJ limited to ±30 bit times, in units of 2^-8 (R196, R211). -/
def clampAdj (x : Int) : Int := max (-7680) (min 7680 x)

/-- The loop of R211: the new frequency term and the new ADJ for a phase error in ns and a period of m microframes. -/
def tlLoop (t : Timeline) (kp ki m : Nat) (e : Int) : Rat × Int :=
  if decide (2000 < e.natAbs) then
    let target : Int := if 0 < e then 7680 else -7680
    let step : Int := 256 * (m : Int)
    (t.freq, if t.adj < target then min target (t.adj + step) else max target (t.adj - step))
  else
    let per : Rat := ((e : Rat) / (2083 / 1000)) / ((max 1 m : Nat) : Rat)
    let freq := t.freq + per / ((2 ^ ki : Nat) : Rat)
    (freq, clampAdj ((256 * (freq + per / ((2 ^ kp : Nat) : Rat))).floor))

/-- One reference update of a timeline (R211, R212). A frozen loop updates only the phase. -/
def tlUpdate (s : State) (v : RingId) (ownerNs m : Nat) (e : Int) : State :=
  if ¬ (s.vis.get v).enabled then s
  else
    let s0 := setTl s v (fun t => { t with phase := e })
    if tlFrozen s v then setTl s0 v (fun t => { t with refValid := true })
    else
      let s1 := tlReference s0 v ownerNs e
      let t := s1.timelines.get v
      if t.state = .freeRun then s1
      else
        let kp := min 7 (rfld s (0x64200 + 8 * v.val) 0 4)
        let ki := rfld s (0x64200 + 8 * v.val) 4 4
        let l := tlLoop t kp ki m e
        let s2 := setTl s1 v (fun t => { t with
          freq := l.1, adj := l.2
          good := if e.natAbs ≤ 500 then t.good + 1 else 0
          bad := if 2000 < e.natAbs then t.bad + 1 else 0 })
        let t2 := s2.timelines.get v
        if t2.state = .acquiring ∧ 8 ≤ t2.good then tlMove s2 v .locked
        else if t2.state = .locked ∧ 2 ≤ t2.bad then tlMove s2 v .acquiring
        else s2

/-- The ring VIs a clock serves: those bound to PCIe by PTM, those on RoCEv2 by PTP (R210). -/
def clockedVis (s : State) (kind : Nat) : List RingId := (List.finRange 64).filter (fun v => viKind s v == kind)

/-- Setting VI_TIME_CTRL.FREE_RUN takes the timeline to FREE_RUN (R197, R212). -/
def execFreeRunSet (t : Nat) (v : RingId) (s : State) : Host.Outcome State Fault Refusal :=
  act t s fun s => when s.folioOn s fun s => tlFreeRun (setReg s (viBase v.val + 0x144) 1) v

end Sys2Proof.Machine
end

