-- ==== Sys2Proof/Machine/Transfers.lean ====
section
/-! DEFINITION. Ring fetches and transfers: requests for entries and OUT data, the start of a transfer, IN data into host memory, the stash, stops and halts (R101–R107, R121, R131, R174–R178, R183, R184, R207), with row BLOCK_GRANT. -/

namespace Sys2Proof.Machine

/-! ### Requests for ring entries (R101, R107, R115, R124) -/

/-- Whether the device fetches for a VI now. -/
def mayFetch (s : State) (v : RingId) (ring : FetchRing) : Bool :=
  let x := s.vis.get v
  x.enabled && !x.unreachable && !x.evtFull && decide (inflight s v < 1024) && (ring == .cmd || !x.resync)

/-- What a ring's next request would be: whether one is outstanding, the entries it may take, the next index, the ring's base and its size. -/
def fetchPlan (s : State) (v : RingId) (ring : FetchRing) : Bool × Nat × Nat × Nat × Nat :=
  match ring with
  | .cmd =>
    let x := s.vis.get v
    (x.cmdBusy, x.cmdFetch, x.cmdHead, ringBase s v 0x108, 2 ^ cmdLog s v)
  | .xfer ctx =>
    match findEp s ctx with
    | some e =>
      match e.bound with
      | some b => if e.run = .running ∧ ¬ b.dead then (e.busy, e.fetch, b.index, b.base, 2 ^ b.log2) else (true, 0, 0, 0, 1)
      | none => (true, 0, 0, 0, 1)
    | none => (true, 0, 0, 0, 1)

/-- Set whether a request is outstanding on a ring. -/
def setBusy (s : State) (v : RingId) (ring : FetchRing) (b : Bool) : State :=
  match ring with
  | .cmd => setVi s v (fun x => { x with cmdBusy := b })
  | .xfer ctx => setEp s ctx (fun e => { e with busy := b })

/-- No doorbell asks for more entries of a ring. -/
def stopFetch (s : State) (v : RingId) (ring : FetchRing) : State :=
  match ring with
  | .cmd => setVi s v (fun x => { x with cmdFetch := 0, cmdBusy := false })
  | .xfer ctx => setEp s ctx (fun e => { e with fetch := 0, busy := false })

/-- A ring fetch failed on the transport: the slot completes with REMOTE_ACCESS_ERROR and is fetched again on the next doorbell (R106). The TYPE of a command that did not arrive is a free value. -/
def fetchFailed (s : State) (v : RingId) (ring : FetchRing) : State :=
  let s1 := stopFetch s v ring
  match ring with
  | .cmd =>
    let d := draw s1
    complete d.2 v { seq := 0, code := ccRemote, length := 0, source := d.1.toNat % 256, slot := (s.vis.get v).cmdHead, port := 0, isCmd := true,
                     stashed := false, data := [], dataLost := 0, mark := none } 0
  | .xfer ctx =>
    match findEp s ctx with
    | some e =>
      complete s1 v { seq := 0, code := ccRemote, length := 0, source := ctx, slot := (e.bound.map (·.index)).getD 0, port := e.port.val,
                      isCmd := false, stashed := false, data := [], dataLost := 0, mark := none } 0
    | none => s1

/-- Ask for the next entries of a ring, up to 8 and up to its end, where the doorbells and R107, R115 and R124 let the device (R101). A request outside the VI's regions fails with none sent (R147). -/
def startFetch (s : State) (v : RingId) (ring : FetchRing) : State :=
  let p := fetchPlan s v ring
  let n := min (min 8 p.2.1) (p.2.2.2.2 - p.2.2.1)
  let addr := p.2.2.2.1 + 32 * p.2.2.1
  if p.1 || n == 0 || !mayFetch s v ring then s
  else if reaches s v addr (32 * n) then
    let s1 := emit (setBusy s v ring true) (.fetch v ring addr n)
    if viRoce s v then noteSent s1 v else s1
  else fetchFailed s v ring

/-- The contexts bound by VI v. -/
def viCtxs (s : State) (v : RingId) : List Nat :=
  (s.eps.filter (fun e => e.bound.isSome && (viOwns s v e.port))).map (fun e => e.ctx)

/-- Fetching goes on for a VI whose hindrance has passed. -/
def kickFetch (s : State) (v : RingId) : State := (viCtxs s v).foldl (fun u c => startFetch u v (.xfer c)) (startFetch s v .cmd)

/-! ### Dequeue index, stops and halts (R109, R131, R174, R176) -/

/-- The slot and lap of the first descriptor not yet completed: the dequeue index. -/
def dequeue (e : Endpoint) : Nat × Bool :=
  match (e.queue.flatMap (fun x => x.tds) ++ e.chain) with
  | d :: _ => (d.slot, d.lap)
  | [] =>
    match e.bound with
    | some b => (b.index, b.lap)
    | none => (0, true)

/-- Chains fetched and not started are dropped and fetched again from the dequeue index. -/
def unfetch (e : Endpoint) : Endpoint :=
  let d := dequeue e
  { e with queue := [], chain := [], fetch := 0, busy := false, bound := e.bound.map (fun b => { b with index := d.1, lap := d.2 }) }

/-- The endpoint stands stopped at its dequeue index. -/
def stopEp (s : State) (ctx : Nat) : State :=
  setEp s ctx (fun e => { unfetch e with run := if e.run = .halted then .halted else .stopped, lastInterval := none, erdyWait := false })

/-- A bulk or interrupt endpoint is halted (R176). -/
def haltEp (s : State) (ctx : Nat) : State :=
  setEp s ctx (fun e => { unfetch e with run := .halted, erdyWait := false, ping := false })

/-! ### Scattering a transfer's bytes over its buffers (R105) -/

/-- Whether a descriptor has a buffer. -/
def hasBuffer (d : Td) : Bool := d.kind == 1 || d.kind == 3 || d.kind == 5

/-- The pieces of `len` bytes of a transfer from byte `off` of its buffers: address and length. -/
def pieces : List Td → Nat → Nat → List (Nat × Nat)
  | [], _, _ => []
  | d :: rest, off, len =>
    if ¬ hasBuffer d ∨ d.length ≤ off then pieces rest (if hasBuffer d then off - d.length else off) len
    else
      let n := min len (d.length - off)
      if n = 0 then [] else (d.buffer + off, n) :: pieces rest 0 (len - n)

/-- Whether every buffer of a transfer lies in what the VI's transport reaches (R147). -/
def buffersReach (s : State) (x : Transfer) : Bool := x.tds.all (fun d => !hasBuffer d || d.length == 0 || reaches s x.v d.buffer d.length)

/-! ### Data -/

/-- Change the transfer of an endpoint that equals x. -/
def setXfer (s : State) (ctx : Nat) (x y : Transfer) : State := setEp s ctx (fun e => { e with queue := e.queue.map (fun z => if z = x then y else z) })

/-- IN data of a transfer goes to host memory: issued at once where the VI is reachable, kept for the replay where it is not (R117, R155). The transfer as it stands afterwards. -/
def writeIn (s : State) (x : Transfer) (bytes : List Byte) : State × Transfer :=
  let ps := pieces x.tds x.done bytes.length
  let r := ps.foldl (fun (acc : State × Transfer × List Byte) p =>
    let bs := acc.2.2.take p.2
    let s1 := if (s.vis.get x.v).unreachable then acc.1 else hostWrite acc.1 x.v p.1 bs
    let no := if (s.vis.get x.v).unreachable then 0 else writeNo s1 x.v
    (s1, { acc.2.1 with wrote := acc.2.1.wrote ++ [(no, p.1, bs)] }, acc.2.2.drop p.2)) (s, x, bytes)
  (r.1, { r.2.1 with done := x.done + bytes.length })

/-- Outstanding OUT bytes: asked of the host and not arrived. -/
def outstanding (x : Transfer) : Nat := x.asked - (x.done + x.held.length)

/-- Space an endpoint's Inkwell blocks or admitted buffer leave for OUT data. -/
def outRoom (s : State) (e : Endpoint) : Nat :=
  let asked := (e.queue.map outstanding).sum
  match e.admission with
  | some a => a.space - epBytes e - asked
  | none => 512 * (s.ink.blocks.filter (fun b => b.ctx == some e.ctx)).length - ctxBytes s e.ctx - asked

/-- Ask the host for a transfer's OUT data, as far as there is room (R131, R140, R174). -/
def askOut (s : State) (ctx : Nat) (x : Transfer) : State :=
  match findEp s ctx with
  | none => s
  | some e =>
    let n := min (xferLen x - x.asked) (outRoom s e)
    if xferIn e x || x.cut || n == 0 || x.preset.isSome || (s.vis.get x.v).unreachable then s
    else
      let s1 := setXfer s ctx x { x with asked := x.asked + n }
      let s2 := (pieces x.tds x.asked n).foldl (fun u p => emit u (.readHost x.v ctx p.1 p.2)) s1
      if viRoce s x.v then noteSent s2 x.v else s2

/-! ### The end of a transfer and the start of the next -/

/-- Whether a code halts the endpoint (R176, R177). -/
def halts (e : Endpoint) (code : Nat) : Bool :=
  (e.type == 2 || e.type == 3) && (code == ccStall || code == ccBabble || code == ccTransaction)

/-- A transfer ends with a code on its own account: the endpoint halts, stops or goes on as the code asks (R106, R131, R174, R176). -/
def concludeXfer (s : State) (ctx : Nat) (x : Transfer) (code : Nat) : State :=
  match findEp s ctx with
  | none => s
  | some e =>
    let s0 := if code = ccTransaction then abandonSplit s ctx else setEp s ctx (fun y => { y with splitOpen := false })
    let s1 := endAndSettle s0 ctx x code (if code = ccDescriptor ∨ code = ccNotOwner then 0 else x.done)
    if halts e code then haltEp s1 ctx
    else if code = ccDescriptor then
      let first := (x.tds.head?).map (fun d => (d.slot, d.lap))
      setEp (stopEp s1 ctx) ctx (fun y => { y with bound := y.bound.map (fun b =>
        { b with index := (first.map (·.1)).getD b.index, lap := (first.map (·.2)).getD b.lap, dead := true }) })
    else if code = ccRemote ∧ ¬ xferIn e x then stopEp s1 ctx
    else s1

/-- What one stashed item does to the transfer that takes it (R121, R183, R184). -/
def takeStash (s : State) (ctx : Nat) (x : Transfer) : State × Bool :=
  match findEp s ctx with
  | none => (s, false)
  | some e =>
    match e.stash with
    | [] => (s, false)
    | .mark code :: rest =>
      let y := { x with stashed := true }
      let s1 := setEp (setXfer s ctx x y) ctx (fun z => { z with stash := rest })
      (haltEp (concludeXfer s1 ctx y code) ctx, true)
    | .packet bs :: rest =>
      let room := xferLen x - x.done
      let before := ctxBytes s ctx
      let s1 := setEp s ctx (fun z => { z with stash := rest })
      let w := writeIn s1 x (bs.take room)
      let y := { w.2 with stashed := true, begun := true }
      let s2 := settleCtx before (setXfer w.1 ctx x y) (.ring x.v) ctx
      if room < bs.length then
        let s3 := endAndSettle s2 ctx y ccBabble y.done
        (match findEp s3 ctx with
         | some e3 => noteDiscard s3 e3 (bs.length - room) 6
         | none => s3, true)
      else if y.done = xferLen y then (concludeXfer s2 ctx y ccSuccess, true)
      else if bs.length < pktSize s e then (concludeXfer s2 ctx y ccShort, true)
      else (s2, true)

/-- Run what the head of a queue can do without the bus: preset completions, empty IN transfers, stashed data, a request for OUT data (R104, R121, R131, R174). -/
def runHead : Nat → State → Nat → State
  | 0, s, _ => s
  | k + 1, s, ctx =>
    match findEp s ctx with
    | none => s
    | some e =>
      match e.queue with
      | [] => s
      | x :: _ =>
        if ¬ epRuns e ∨ e.type = 1 then s
        else
          match x.preset with
          | some code => runHead k (concludeXfer s ctx x code) ctx
          | none =>
            if xferIn e x && e.type != 0 && xferLen x == 0 then runHead k (concludeXfer s ctx x ccSuccess) ctx
            else if e.type = 2 ∧ xferIn e x then
              let r := takeStash s ctx x
              if r.2 then runHead k r.1 ctx else s
            else if !xferIn e x && x.cut && decide (x.held.length < nextLen s e x) then runHead k (concludeXfer s ctx x ccRemote) ctx
            else if xferIn e x then s
            else askOut s ctx x

/-- Whether an endpoint is to be polled ahead of descriptors, room and ERDY apart (R120, R183). -/
def raWanted (s : State) (e : Endpoint) : Bool :=
  e.ra && e.type == 2 && epIn e && e.run != .halted && (!epRuns e || e.queue.isEmpty)
    && !e.stash.any (fun i => match i with
      | .mark _ => true
      | .packet _ => false)
    && decide (stashBytes e.stash + pktSize s e < e.raCredit * 1024)

/-- Blocks an endpoint needs beyond those it holds: for one maximum packet of an IN transfer or of a read-ahead poll, or for OUT data up to the 4 KiB of one request of R201 (R174, R251). An admitted endpoint has its own buffer. -/
def wantBlocks (s : State) (e : Endpoint) : Nat :=
  let held := (s.ink.blocks.filter (fun b => b.ctx == some e.ctx)).length
  let used := ctxBytes s e.ctx
  let poll := if raWanted s e then cdiv (used + pktSize s e) 512 - held else 0
  match e.queue with
  | [] => if e.admission.isSome then 0 else poll
  | x :: _ =>
    if e.admission.isSome || e.type == 1 then 0
    else if !epRuns e then poll
    else if x.preset.isSome || ((s.vis.get x.v).unreachable && !x.begun) then 0
    else if xferIn e x then
      if e.type == 0 && (x.stage != 1 || xferLen x == 0) then 0 else cdiv (used + pktSize s e) 512 - held
    else if x.cut then 0
    else
      let coming := (e.queue.map outstanding).sum
      let rest := min (4096 - (x.held.length + outstanding x)) (xferLen x - x.asked)
      if rest = 0 then 0 else cdiv (used + coming + rest) 512 - held

/-- The request for those blocks, decided at once or left waiting (R251). -/
def claimRoom (s : State) (ctx : Nat) : State :=
  match findEp s ctx with
  | none => s
  | some e =>
    let need := wantBlocks s e
    if need == 0 || !inkOn s then s
    else requestBlocks s (match e.queue with
      | x :: _ => if epRuns e then .ring x.v else ctxOwner s e
      | [] => ctxOwner s e) (some ctx) need

/-- Run the head of a context's queue as far as it goes, ask for the room it needs, then fetch on where room came free (R107, R174, R251). -/
def advance (s : State) (ctx : Nat) : State :=
  match findEp s ctx with
  | none => s
  | some e =>
    let s1 := runHead (2 * e.queue.length + e.stash.length + 2) s ctx
    let s2 := if idleCtx s1 ctx then settleCtx (ctxBytes s1 ctx) s1 (ctxOwner s1 e) ctx else runHead 1 (claimRoom s1 ctx) ctx
    refreshAges (match ringOwner s2 e.port with
      | some v => kickFetch s2 v
      | none => s2)

/-- A transfer ends on its own account, and the next one starts. -/
def finishXfer (s : State) (ctx : Nat) (x : Transfer) (code : Nat) : State := advance (concludeXfer s ctx x code) ctx

/-! ### Isochronous intervals (R203, R207) -/

/-- Microframes in one slot of an endpoint: 8 at FS and LS and through a TT, 1 otherwise (R203). -/
def slotUf (s : State) (e : Endpoint) : Nat :=
  match epDevice s e with
  | some d => if d.speed ≤ 2 then 8 else 1
  | none => 1

/-- The first due interval of a periodic endpoint that begins at or after a microframe of its owner's timeline. -/
def nextDue (s : State) (e : Endpoint) (uf : Nat) : Nat :=
  let unit := slotUf s e
  match e.admission with
  | none => cdiv uf unit * unit
  | some a =>
    let s0 := cdiv uf unit
    (s0 + (a.phase + a.period - s0 % a.period) % a.period) * unit

/-- The tick at which a microframe of VI v's timeline begins. -/
def ufTick (s : State) (v : RingId) (uf : Nat) : Nat := (s.timelines.get v).start + 625 * uf

/-- The interval an ISOCH descriptor names (R207): none where it has begun by now or was claimed before. -/
def resolveIsoch (s : State) (e : Endpoint) (v : RingId) (d : Td) : Option Nat × Nat :=
  let cur := timelineUf s v
  let unit := slotUf s e
  let delta : Int := ((d.target % 2048 + 3072 - cur / 8 % 2048) % 2048 : Nat) - 1024
  let point : Int := 8 * ((cur / 8 : Nat) + delta) + (if unit = 8 then 0 else (d.target / 2048 : Nat))
  let due :=
    if d.asap then
      match e.lastInterval, e.admission with
      | some l, some a => l + a.period * unit
      | some l, none => l + unit
      | none, _ => nextDue s e (cdiv (s.now + ticksUs e.lead - (s.timelines.get v).start) 625)
    else nextDue s e point.toNat
  let claimed := e.queue.any (fun x => x.interval == some due) || (!d.asap && e.lastInterval == some due)
  if decide (due ≤ cur) || claimed || (!d.asap && decide (point < 0)) then (none, due) else (some due, due)

/-- An ISOCH descriptor takes its interval, or completes with MISSED_SERVICE (R178, R207). -/
def placeIsoch (s : State) (ctx : Nat) (x : Transfer) : State :=
  match findEp s ctx, x.tds with
  | some e, d :: _ =>
    let r := resolveIsoch s e x.v d
    let s1 := setEp s ctx (fun y => { y with lastInterval := some r.2 })
    match r.1 with
    | some i => setXfer s1 ctx x { x with interval := some i }
    | none => endAndSettle s1 ctx x ccMissed 0
  | _, _ => s

/-! ### BLOCK_GRANT -/

/-- The payload of an owner's path that is no endpoint's, a classic SuperSpeed path or the device's own, has left Inkwell: its blocks are free. -/
def pathDrained (s : State) (owner : Owner) : State :=
  freeBlocks s (s.ink.blocks.filter (fun b => b.owner == owner && b.ctx == none)).length owner none

/-- A block request is granted once room and the limit allow; OUT data that waited for it is asked for (R251, R253, R174). A request for no endpoint is for all that its path holds from now on. -/
def execBlockGrant (t : Nat) (owner : Owner) (ctx : Option Nat) (need : Nat) (s : State) : Host.Outcome State Fault Refusal :=
  act t s fun s => when (inkOn s) s fun s =>
    match ctx with
    | some c => when (findEp s c).isSome s fun s => advance (requestBlocks s owner ctx need) c
    | none => requestBlocks (pathDrained s owner) owner none need

end Sys2Proof.Machine
end

