-- ==== Sys2Proof/Machine/Vis.lean ====
section
/-! DEFINITION. A ring VI's page and its life: writes to its configuration part, enabling, disabling, doorbells, reachability, the loss of its transport (R73, R94–R97, R100–R102, R115, R122, R127, R142, R147, R154–R157). -/

namespace Sys2Proof.Machine

/-! ### The configuration part -/

/-- Write a register of a VI's configuration part. -/
def setPage (s : State) (v : RingId) (off : Nat) (w : Word) : State := setReg s (viBase v.val + off) w

/-- The configuration part returns to its reset values (R127, R132). -/
def resetPage (s : State) (v : RingId) : State :=
  { s with regs := s.regs.filter (fun e => !(decide (viBase v.val + 0x100 ≤ e.1) && decide (e.1 < viBase v.val + 0x800))) }

/-- The replay window is emptied, with the data it retains (R96, R122). -/
def clearWindow (s : State) (v : RingId) : State :=
  (s.vis.get v).window.foldl (fun u c =>
    if c.data.isEmpty then u
    else
      let before := ctxBytes u c.source
      settleCtx before (setVi u v (fun y => { y with window := y.window.filter (fun k => k.seq != c.seq) })) (.ring v) c.source)
    (setVi s v (fun y => { y with window := y.window.filter (fun c => !c.data.isEmpty) }))

/-- Whether two spans of addresses overlap. -/
def spansMeet (a m b n : Nat) : Bool := decide (a < b + n) && decide (b < a + m)

/-- The check of ENABLE: sizes, overlap, and the regions of a RoCEv2 VI (R92, R96, R147). A base is aligned by its reserved bits. -/
def ringsOk (s : State) (v : RingId) : Bool :=
  let kc := cmdLog s v
  let ke := evtLog s v
  let c := ringBase s v 0x108
  let e := ringBase s v 0x118
  decide (4 ≤ kc) && decide (kc ≤ 16) && decide (4 ≤ ke) && decide (ke ≤ 16)
    && !spansMeet c (32 * 2 ^ kc) e (16 * 2 ^ ke) && reaches s v c (32 * 2 ^ kc) && reaches s v e (16 * 2 ^ ke)

/-- ENABLE goes to 1 with a configuration that passes: positions and sequences start afresh, the queue is flushed, the VI's timeline starts at frame 0, and what it is home for may come to it (R96, R98, R208, R210, R271). -/
def enableVi (s : State) (v : RingId) : State :=
  let s1 := clearWindow s v
  let s2 := setVi s1 v (fun x => { x with
    enabled := true, cfgError := false, resync := false, evtFull := false, nextSeq := 0, cmdHead := 0, cmdLap := true, cmdFetch := 0, cmdBusy := false
    cmds := [], evtTail := 0, evtLap := true, evtUsed := 0, evtCount := 0, dbIgnored := 0, descErrors := 0, due := [], window := [], noticeSeq := 0
    unsignalled := 0 })
  let s3 := setQueue s2 (viQueue v) (fun q => { q with notices := [] })
  homeStamp (setTl s3 v (fun _ => { timeline0 with start := s.now })) (.ring v)

/-- The Nibs forget the commands of a VI. -/
def dropNibCmds (s : State) (v : RingId) : State :=
  eachPort s (fun u n => setNib u n (fun b =>
    let keep := fun (c : Option (RingId × Nat)) => c.filter (fun x => x.1 != v)
    { b with resetCmd := keep b.resetCmd, suspCmd := keep b.suspCmd, suspNext := keep b.suspNext, addressing := b.addressing.filter (fun a => a.v != v) }))

/-- ENABLE goes to 0: fetching stops, every port is released, transfers and commands complete with CANCELLED where the ring has room, and the VI is disabled (R96). -/
def disableVi (s : State) (v : RingId) : State :=
  let ctxs := (s.eps.filter (fun e => e.queue.any (fun x => x.v == v) || viOwns s v e.port)).map (fun e => e.ctx)
  let s1 := ctxs.foldl (fun u c => stopEp (endQueue (abandonSplit u c) c (fun x => x.v == v) ccCancelled).1 c) (dropNibCmds s v)
  let s2 := (s1.vis.get v).cmds.foldl (fun u e => completeCmd u v e.slot e.type ccCancelled 0 ((finOf e).getD 0)) s1
  let s3 := eachPort s2 (fun u n => if viOwns u v n then stampP4 u n (.release (.ring v)) else u)
  refreshAges (setVi s3 v (fun x => { x with enabled := false, due := [], evtFull := false, resync := false, cmdFetch := 0, cmdBusy := false, cmds := [], unsignalled := 0 }))
where
  /-- The port a command of a cancelled list names in its word at 0x08, where its type names one there. -/
  finOf (e : CmdEntry) : Option PortId :=
    if (decide (0x21 ≤ e.type) && decide (e.type ≤ 0x26) && e.type != 0x23) || e.type == 0x2E then
      some ⟨fld (e.words.getD 2 0) 0 4, by unfold fld; exact Nat.mod_lt _ (by decide)⟩
    else none

/-- A write to VI_CTRL (R95, R96). -/
def writeViCtrl (s : State) (p : Path) (v : RingId) (value : Word) : State :=
  let old := viReg s v 0x100
  let new := value &&& 7
  if bitOf old 0 then
    let s1 := if bitOf new 1 == bitOf old 1 then s else writeIgnored s p (viBase v.val + 0x100) value
    let s2 := setPage s1 v 0x100 (setFld new 1 1 (fld old 1 1))
    if bitOf new 0 then s2 else disableVi s2 v
  else
    let s1 := setPage s v 0x100 new
    if ¬ bitOf new 0 then s1
    else if ringsOk s1 v then enableVi s1 v
    else setVi (setPage s1 v 0x100 (setFld new 0 1 0)) v (fun x => { x with cfgError := true })

/-- Whether a page offset holds a ring base or size. -/
def ringOffset (off : Nat) : Bool := off == 0x108 || off == 0x10C || off == 0x110 || off == 0x118 || off == 0x11C || off == 0x120

/-- A write to a register of the configuration part (R94, R96, R197). -/
def writePage (s : State) (p : Path) (v : RingId) (off : Nat) (value : Word) : State :=
  match findRow (viBase v.val + off) with
  | none => s
  | some r =>
    if r.acc != .rw then s
    else if off = 0x100 then writeViCtrl s p v value
    else if ringOffset off && bitOf (viReg s v 0x100) 0 then writeIgnored s p (viBase v.val + off) value
    else if off = 0x144 then
      let s1 := setPage s v off (value &&& r.mask)
      if bitOf value 0 then tlFreeRun s1 v else s1
    else setPage s v off (value &&& r.mask)

/-! ### Doorbells (R100–R102) -/

/-- A doorbell is ignored and counted (R102). -/
def ignoreDb (s : State) (v : RingId) : State := setVi s v (fun x => { x with dbIgnored := x.dbIgnored + 1 })

/-- Entries up to a tail: up to the index before it, or a whole ring where it equals the index (R101). -/
def upTo (tail idx size : Nat) : Nat := if tail % size = idx then size else (tail + size - idx) % size

/-- CMD_DB (R101). -/
def cmdDb (s : State) (v : RingId) (value : Word) : State :=
  let x := s.vis.get v
  startFetch (setVi s v (fun y => { y with cmdFetch := max y.cmdFetch (upTo (fld value 0 16) x.cmdHead (2 ^ cmdLog s v)) })) v .cmd

/-- IN data of a retained completion whose entry HEAD has passed leaves Inkwell (R122). -/
def releasePassed (s : State) (v : RingId) : State :=
  let x := s.vis.get v
  let freed := x.evtCount - x.evtUsed
  (x.window.filter (fun c => !c.data.isEmpty && (match c.mark with
    | some m => decide (m < freed)
    | none => false))).foldl (fun u c =>
      settleCtx (ctxBytes u c.source)
        (setVi u v (fun y => { y with window := y.window.map (fun k => if k.seq == c.seq then { k with data := [], dataLost := dataBytes k.data } else k) }))
        (.ring v) c.source) s

/-- EVT_DB: slots before HEAD are free, what they reported is released, held entries are written in order, and fetching goes on (R100, R115, R122). A HEAD outside the ring names no slot and is ignored. -/
def evtDb (s : State) (v : RingId) (value : Word) : State :=
  let x := s.vis.get v
  let size := evtSlots s v
  let head := fld value 0 16
  if size ≤ head then ignoreDb s v
  else
    let d := (x.evtTail + size - head) % size
    let used := if d = 0 ∧ bitOf value 16 ≠ x.evtLap then size else d
    let s1 := releasePassed (setVi s v (fun y => { y with evtUsed := min y.evtUsed used })) v
    let roomy := decide ((s1.vis.get v).evtUsed < size)
    kickFetch (flushEvents (if roomy then setVi s1 v (fun y => { y with evtFull := false }) else s1) v) v

/-- Renew the leases of the ports of a mask that the VI owns and whose expiry has not come: the state, and the ports renewed (R72, R73). -/
def renewLeases (s : State) (v : RingId) (mask : Nat) : State × Nat :=
  let ns := (List.finRange 16).filter (fun n => n.val != 0 && maskBit mask n.val && viOwns s v n && (match (s.own.get n).expiry with
    | some e => decide (s.now < e)
    | none => false))
  (ns.foldl startLease s, packNat (ns.map (fun n => (n.val, 1))))

/-- The ring VI whose rings a port's contexts are bound to: until U the old owner's (R78, R102). -/
def bindHolder (s : State) (n : PortId) : Owner :=
  let o := s.own.get n
  if o.unsettled ∧ o.state = .handover then o.prevOwner else o.owner

/-- TRANSFER_DB: ignored under R102, or a fetch of the context's ring; a stopped endpoint starts again. It is a wake source (R399). -/
def transferDb (s : State) (v : RingId) (value : Word) : State :=
  let ctx := fld value 0 16
  match findEp s ctx with
  | none => ignoreDb s v
  | some e =>
    match e.bound with
    | none => ignoreDb s v
    | some b =>
      if bindHolder s e.port != .ring v || e.run == .halted || b.dead then ignoreDb s v
      else
        let s1 := wakeSource s
        let s2 := setEp s1 ctx (fun y => { y with run := .running, fetch := max y.fetch (upTo (fld value 16 16) b.index (2 ^ b.log2)) })
        advance (startFetch s2 v (.xfer ctx)) ctx

/-- One DWORD written to a VI's doorbell area (R100). While ENABLE is 0 it is ignored and counted (R102). -/
def doorbell (s : State) (v : RingId) (off : Nat) (value : Word) : State :=
  if ¬ (s.vis.get v).enabled then ignoreDb s v
  else if off = 0 then cmdDb s v value
  else if off = 4 then evtDb s v value
  else if off = 8 then (renewLeases s v (fld value 0 16)).1
  else if 0x40 ≤ off ∧ off < 0x100 then transferDb s v value
  else ignoreDb s v

/-! ### Reachability (R154–R157) -/

/-- The reachability notice and record of a VI (R154, R277 TYPE 0x0D). -/
def reachNotice (s : State) (v : RingId) (entered : Bool) (cause : Nat) : State :=
  notice s 0x0D (if entered then .warning else .info) 0 (.ring v) [pack64 [(0, bnat entered), (1, cause)]] [boardQueue]

/-- A VI becomes Unreachable (R154, R155): no ring is fetched, and an OUT transfer whose data cannot come ends after what is held. -/
def enterUnreachable (s : State) (v : RingId) (cause : Nat) : State :=
  if (s.vis.get v).unreachable then s
  else
    let s1 := setVi s v (fun x => { x with unreachable := true, unreachableAt := s.now, dataReleased := false, cmdFetch := 0, cmdBusy := false })
    let cutX := fun (e : Endpoint) (x : Transfer) =>
      if x.v = v ∧ ¬ xferIn e x ∧ x.begun ∧ x.done + x.held.length < xferLen x then { x with cut := true } else x
    let s2 : State := { s1 with eps := s1.eps.map (fun e =>
      if viOwns s1 v e.port then { e with fetch := 0, busy := false, queue := e.queue.map (cutX e) } else e) }
    let s3 := record s2 0x0205 .warning 0 (.ring v) .f [loW v.val, loW cause]
    let s4 := reachNotice s3 v true cause
    refreshAges ((viCtxs s4 v).foldl (fun u c => runHead ((((findEp u c).map (fun e => e.queue.length)).getD 0) * 2 + 2) u c) s4)

/-- A VI leaves Unreachable, into RESYNC (R124, R156). It may be the home of an ownerless port again (R70). -/
def leaveUnreachable (s : State) (v : RingId) (cause : Nat) : State :=
  if ¬ (s.vis.get v).unreachable then s
  else
    let s1 := setVi s v (fun x => { x with unreachable := false, resync := true })
    refreshAges (homeStamp (reachNotice s1 v false cause) (.ring v))

/-! ### The loss of a transport (R85, R86, R127, R132, R142) -/

/-- The transport of a ring VI is gone for good: it forfeits, its rings no longer exist, and its configuration part returns to reset values (R85, R86, R127, R132). -/
def transportLost (s : State) (v : RingId) : State :=
  let s1 := resetPage (ringsGone (dropNibCmds (forfeit s (.ring v)) v) v) v
  setVi s1 v (fun x => { x with unreachable := false, authenticated := false, issued := 0, acked := 0, cmdBusy := false })

/-- A slot returns to Reset; ERROR_CAUSE keeps why (R142). -/
def freeSlot (s : State) (q : Fin 128) (cause : Nat) : State := setQp s q (fun _ => { qp0 with cause := cause })

/-- Whether a slot is its VI's current one (R142 BOUND). -/
def slotBound (s : State) (q : Fin 128) : Bool := (s.vis.get (s.qps.get q).vi).qp == some q

/-- A slot enters Error with a cause; a bound one forfeits its VI (R85, R148, R149). -/
def slotError (s : State) (q : Fin 128) (cause : Nat) : State :=
  let v := (s.qps.get q).vi
  let s1 := setQp s q (fun x => { x with state := .error, cause := cause, oldestAt := none })
  if slotBound s q then transportLost s1 v else s1

/-- A slot is disconnected or reset: a bound one forfeits its VI, which then holds no slot, and the slot returns to Reset (R85, R127, R142, R143). -/
def disconnectSlot (s : State) (q : Fin 128) (cause : Nat) : State :=
  let v := (s.qps.get q).vi
  if slotBound s q then freeSlot (setVi (transportLost s v) v (fun x => { x with qp := none })) q cause else freeSlot s q cause

/-- VI_BIND changes KIND or FUNCTION of a bound VI: forfeiture, the page at reset, the window emptied, the slot disconnected by DREQ, the timeline in FREE_RUN (R127, R212). -/
def unbindVi (s : State) (v : RingId) : State :=
  let s1 := tlFreeRun (transportLost s v) v
  match (s1.vis.get v).qp with
  | some q => freeSlot (setVi (emit s1 (.cm (some q) .dreq)) v (fun x => { x with qp := none })) q 5
  | none => s1

end Sys2Proof.Machine
end

