-- ==== Sys2Proof/Machine/RingCmds.lean ====
section
/-! DEFINITION. Ring VIs: opcode-table rows VI_ENABLE to RING_FETCH_COMPLETE (R93–R107, R131, R140). -/

namespace Sys2Proof.Machine

/-- A write of VI_CTRL that takes ENABLE from 0 to 1 (R96). -/
def execViEnable (t : Nat) (v : RingId) (value : Word) (s : State) : Host.Outcome State Fault Refusal :=
  act t s fun s => when (inkOn s && !bitOf (viReg s v 0x100) 0 && bitOf value 0) s fun s => writeViCtrl s (.viPage v) v value

/-- A write of VI_CTRL that takes ENABLE from 1 to 0 (R96). -/
def execViDisable (t : Nat) (v : RingId) (value : Word) (s : State) : Host.Outcome State Fault Refusal :=
  act t s fun s => when (inkOn s && bitOf (viReg s v 0x100) 0 && !bitOf value 0) s fun s => writeViCtrl s (.viPage v) v value

/-! ### VI_CONFIG_SEND (R97, R148) -/

/-- The register of a configuration block at a page offset. -/
def blockWord (bytes : List Byte) (off : Nat) : Word := BitVec.ofNat 32 (bytesToNatLE ((bytes.drop (off - 0x100)).take 4))

/-- One register of a configuration block: a ring value equal to the one in force is taken without effect or record while ENABLE is 1 (R97). -/
def applyBlockWord (s : State) (v : RingId) (bytes : List Byte) (off : Nat) : State :=
  let w := blockWord bytes off
  if ringOffset off && bitOf (viReg s v 0x100) 0 && (w &&& (match findRow (viBase v.val + off) with
    | some r => r.mask
    | none => 0)) == viReg s v off then s
  else writePage s (.qp v) v off w

/-- The whole block: 0x104 up in ascending order, then VI_CTRL (R97). -/
def applyBlock (s : State) (v : RingId) (bytes : List Byte) : State :=
  let s1 := ((List.range 63).map (fun i => 0x104 + 4 * i)).foldl (fun u off => applyBlockWord u v bytes off) s
  writePage s1 (.qp v) v 0x100 (blockWord bytes 0x100)

/-- A request the responder refuses: a NAK, and the slot enters Error (R148). -/
def refuseRequest (s : State) (q : Fin 128) (nak cause : Nat) : State := slotError (emit s (.rnak q nak)) q cause

/-- A SEND on a bound slot that is ready to send: a block of 256 B is applied, any other length is an invalid request (R97, R148). -/
def execViConfigSend (t : Nat) (q : Fin 128) (bytes : List Byte) (s : State) : Host.Outcome State Fault Refusal :=
  act t s fun s => when (inkOn s && slotBound s q && (s.qps.get q).state == .ready) s fun s =>
    if bytes.length = 256 then emit (applyBlock s (s.qps.get q).vi bytes) (.ack q) else refuseRequest s q 3 3

/-! ### Doorbells -/

/-- CMD_DB (R101). -/
def execCmdDb (t : Nat) (v : RingId) (value : Word) (s : State) : Host.Outcome State Fault Refusal :=
  act t s fun s => when (inkOn s) s fun s => doorbell s v 0 value

/-- EVT_DB (R115). -/
def execEvtDb (t : Nat) (v : RingId) (value : Word) (s : State) : Host.Outcome State Fault Refusal :=
  act t s fun s => when (inkOn s) s fun s => doorbell s v 4 value

/-- LEASE_DB (R73). -/
def execLeaseDb (t : Nat) (v : RingId) (value : Word) (s : State) : Host.Outcome State Fault Refusal :=
  act t s fun s => when (inkOn s) s fun s => doorbell s v 8 value

/-- TRANSFER_DB(i): all 48 have the same meaning (R100–R102). -/
def execTransferDb (t : Nat) (v : RingId) (slot : Fin 48) (value : Word) (s : State) : Host.Outcome State Fault Refusal :=
  act t s fun s => when (inkOn s) s fun s => doorbell s v (0x40 + 4 * slot.val) value

/-- A write to a reserved doorbell offset (R100, R102). -/
def execReservedDoorbell (t : Nat) (v : RingId) (offset : Nat) (s : State) : Host.Outcome State Fault Refusal :=
  act t s fun s => when (inkOn s && decide (0x0C ≤ offset) && decide (offset < 0x40)) s fun s => doorbell s v offset 0

/-! ### Fetched entries -/

/-- A byte of an entry. -/
def entryByte (bs : List Byte) (i : Nat) : Nat := (bs.getD i 0).toNat

/-- A little-endian field of an entry. -/
def entryLE (bs : List Byte) (off len : Nat) : Nat := bytesToNatLE ((bs.drop off).take len)

/-- The LAP of an entry (R103). -/
def entryLap (bs : List Byte) : Bool := entryByte bs 0x1C % 2 == 1

/-- CHECK holds, or CHECK_EN is 0 (R103). -/
def entryCheckOk (s : State) (v : RingId) (bs : List Byte) : Bool :=
  !checkEn s v || entryLE bs 0x1E 2 == (crc16 (bs.take 0x1E)).toNat

/-- A descriptor as read; one whose CHECK fails has no TYPE (R103, R104, R106). -/
def readTd (ok : Bool) (bs : List Byte) (slot : Nat) (lap : Bool) : Td :=
  let fl := entryByte bs 0x1C
  { kind := if ok then entryByte bs 0x1D else 0, buffer := entryLE bs 0 8, length := entryLE bs 8 3, setup := bs.take 8,
    target := entryLE bs 0x0C 2 % 16384, asap := maskBit (entryLE bs 0x0C 2) 15, chain := maskBit fl 1, zlp := maskBit fl 2, quiet := maskBit fl 3,
    slot := slot, lap := lap }

/-- TYPEs valid for an endpoint type: control 0, isochronous 1, bulk 2, interrupt 3 (R104, R106). -/
def validKind (type kind : Nat) : Bool :=
  if type = 0 then kind == 2 || kind == 3 || kind == 4 || kind == 6
  else if type = 1 then kind == 5 || kind == 6
  else kind == 1 || kind == 6

/-- A control transfer is SETUP, then DATA, then STATUS (R105). -/
def controlOrder : List Td → Bool
  | d :: rest => d.kind == 2 && (match rest.reverse with
    | l :: mid => l.kind == 4 && mid.all (fun m => m.kind == 3)
    | [] => false)
  | [] => false

/-- A SETUP whose request is SET_ADDRESS (R172). -/
def isSetAddress (d : Td) : Bool := d.kind == 2 && (d.setup.getD 0 0).toNat % 128 / 32 == 0 && (d.setup.getD 1 0).toNat == 5

/-- A faulty chain (R105, R106, R172). A NOOP is a transfer alone. -/
def chainBad (e : Endpoint) (tds : List Td) : Bool :=
  let noop := tds.any (fun d => d.kind == 6)
  tds.any (fun d => !validKind e.type d.kind) || (tds.getLast?.map (fun d => d.chain)).getD false
    || (noop && tds.length != 1) || (e.type == 0 && !noop && !controlOrder tds) || tds.any isSetAddress
    || decide (16777215 < (tds.map (fun d => if hasBuffer d then d.length else 0)).sum)

/-- The transfer a whole chain makes; a faulty one, a NOOP, or one fetched for a VI that lost the port completes in its turn (R78, R104–R106). -/
def mkXfer (s : State) (v : RingId) (e : Endpoint) (tds : List Td) : Transfer :=
  let preset : Option Nat :=
    if chainBad e tds then some ccDescriptor
    else if ¬ viOwns s v e.port then some ccNotOwner
    else if tds.any (fun d => d.kind == 6) then some ccSuccess
    else none
  let bare : Transfer :=
    { v := v, tds := tds, fetchedAt := s.now, done := 0, stage := 0, cerr := errLimit s e.port, held := [], asked := 0, cut := false,
      stashed := false, wrote := [], interval := none, zlpDue := false, preset := preset, begun := false }
  if preset.isNone && !buffersReach s bare then { bare with preset := some ccRemote } else bare

/-- A whole chain has come: the transfer joins its endpoint's queue and, where its turn is now, starts (R105). -/
def startChain (s : State) (v : RingId) (ctx : Nat) (tds : List Td) : State :=
  match findEp s ctx with
  | none => s
  | some e =>
    let x := mkXfer s v e tds
    let s1 := setEp s ctx (fun y => { y with queue := y.queue ++ [x], chain := [] })
    if x.preset.isSome then (if e.queue.isEmpty then concludeXfer s1 ctx x (x.preset.getD 0) else s1)
    else if e.type = 1 then placeIsoch s1 ctx x
    else s1

/-- One entry of a transfer ring: the state, and whether the fetch goes on (R101, R105, R107). -/
def takeTd (s : State) (v : RingId) (ctx : Nat) (bs : List Byte) : State × Bool :=
  match findEp s ctx with
  | none => (s, false)
  | some e =>
    match e.bound with
    | none => (s, false)
    | some b =>
      if ¬ epRuns e ∨ e.fetch = 0 ∨ 1024 ≤ inflight s v then (s, false)
      else if entryLap bs != b.lap then (setEp s ctx (fun y => { y with fetch := 0 }), false)
      else
        let size := 2 ^ b.log2
        let nb := if b.index + 1 = size then { b with index := 0, lap := !b.lap } else { b with index := b.index + 1 }
        let d := readTd (entryCheckOk s v bs) bs b.index b.lap
        let tds := e.chain ++ [d]
        let s1 := setEp s ctx (fun y => { y with bound := some nb, fetch := y.fetch - 1, chain := tds })
        if d.chain && decide (tds.length < 64) && d.kind != 5 then (s1, true) else (startChain s1 v ctx tds, true)

/-- The eight words of an entry. -/
def entryWords (bs : List Byte) : List Word := (List.range 8).map (fun i => BitVec.ofNat 32 (entryLE bs (4 * i) 4))

/-- Commands that execute in RESYNC (R110, R124). -/
def resyncOk (type : Nat) : Bool := type == 0x20 || type == 0x23 || type == 0x2F || type == 0x31

/-- One entry of the command ring (R93, R103, R106, R110). A command other than NOOP_CMD, RENEW_LEASE and QUERY_VI is a wake source (R398, R399). -/
def takeCmd (s : State) (v : RingId) (bs : List Byte) : State × Bool :=
  let x := s.vis.get v
  if x.cmdFetch = 0 then (s, false)
  else if entryLap bs != x.cmdLap then (setVi s v (fun y => { y with cmdFetch := 0 }), false)
  else
    let wraps := x.cmdHead + 1 = 2 ^ cmdLog s v
    let s1 := setVi s v (fun y => { y with cmdHead := if wraps then 0 else y.cmdHead + 1, cmdLap := if wraps then !y.cmdLap else y.cmdLap, cmdFetch := y.cmdFetch - 1 })
    let type := entryByte bs 0x1D
    if type < 0x20 ∨ 0x31 < type ∨ entryCheckOk s v bs = false then (completeCmd s1 v x.cmdHead type ccDescriptor 0 0, true)
    else if x.resync ∧ resyncOk type = false then (completeCmd s1 v x.cmdHead type ccResync 0 0, true)
    else
      let s2 := if type = 0x20 ∨ type = 0x23 ∨ type = 0x2F then s1 else wakeSource s1
      (setVi s2 v (fun y => { y with cmds := y.cmds ++ [{ slot := x.cmdHead, type := type, words := entryWords bs, started := false }] }), true)

/-- Take the entries of a request in order, as far as the fetch goes. -/
def takeEntries (s : State) (v : RingId) (ring : FetchRing) : List (List Byte) → State
  | [] => s
  | bs :: rest =>
    let r := match ring with
      | .cmd => takeCmd s v bs
      | .xfer ctx => takeTd s v ctx bs
    if r.2 then takeEntries r.1 v ring rest else r.1

/-- Whether a request for entries of a ring is outstanding. -/
def fetchBusy (s : State) (v : RingId) (ring : FetchRing) : Bool :=
  match ring with
  | .cmd => (s.vis.get v).cmdBusy
  | .xfer ctx =>
    match findEp s ctx with
    | some e => e.busy && bindHolder s e.port == .ring v
    | none => false

/-- The entries of a request arrive, or the request fails (R101, R106). -/
def fetchComplete (s : State) (v : RingId) (ring : FetchRing) (entries : List (List Byte)) (failed : Bool) : State :=
  if failed then fetchFailed s v ring
  else
    let s1 := takeEntries (setBusy s v ring false) v ring (entries.take 8)
    match ring with
    | .cmd => startFetch s1 v ring
    | .xfer ctx => advance (startFetch s1 v ring) ctx

/-- RING_FETCH_COMPLETE (R101): nothing is fetched for an Unreachable VI (R155). -/
def execRingFetchComplete (t : Nat) (v : RingId) (ring : FetchRing) (entries : List (List Byte)) (failed : Bool) (s : State) :
    Host.Outcome State Fault Refusal :=
  act t s fun s => when (inkOn s && (s.vis.get v).enabled && !(s.vis.get v).unreachable && fetchBusy s v ring) s fun s => fetchComplete s v ring entries failed

end Sys2Proof.Machine
end

