-- ==== Sys2Proof/Machine/StrokeCmds.lean ====
section
/-! DEFINITION. Stroke time and the adaptive loops: rows STROKE_RESYNC, TIME_SAMPLE to EQ_ADAPT_STEP (R16, R352, R358–R362). -/

namespace Sys2Proof.Machine

/-- Every 1 ms Folio resynchronises Reservoir's copy of the counter (R16). -/
def execStrokeResync (t : Nat) (s : State) : Host.Outcome State Fault Refusal :=
  act t s fun s => when (s.folioOn && s.link.phase == .up) s fun s => { s with resyncAt := stroke s }

/-- PTP time now, in ns: that of the last Sync and the ticks since (R152, R341). -/
def ptpNow (s : State) : Nat := s.ptp.timeNs + 200 * (s.now - s.ptp.timeAt)

/-- TIME_SAMPLE.SAMPLE latches the Stroke count and the PTP time of one cycle; VALID only while PTP is locked (R352). -/
def timeSample (s : State) : State :=
  { s with disc := { s.disc with sampleStroke := stroke s, sampleSec := ptpNow s / 1000000000, sampleNs := ptpNow s % 1000000000, sampleValid := s.ptp.locked } }

/-- TIME_SAMPLE (R352). -/
def execTimeSample (t : Nat) (path : Path) (s : State) : Host.Outcome State Fault Refusal :=
  privCmd t path 0x810 s timeSample

/-- The engines of a cluster. -/
def engineOf (c : Fin 24) (k : Fin 4) : Fin 96 := ⟨4 * c.val + k.val, by omega⟩

/-- Change one cluster. -/
def setCluster (s : State) (c : Fin 24) (f : Cluster → Cluster) : State := { s with clusters := vmod s.clusters c f }

/-- Change one engine. -/
def setEngine (s : State) (e : Fin 96) (f : Engine → Engine) : State := { s with engines := vmod s.engines e f }

/-- A cluster voltage within 0.55–0.80 V, in 5 mV units (R358). -/
def clampVolt (v : Nat) : Nat := min 160 (max 110 v)

/-- The frequency the loop chooses: the required one within FMIN and FMAX, or FMAX where FIXED (R358). -/
def chosenFreq (s : State) (c : Fin 24) (need : Nat) : Nat :=
  if clFixed s c then clFmax s c else min (clFmax s c) (max (clFmin s c) need)

/-- One engine's part of the 10 µs loop: a raise waits until slack at the new frequency is at least 10 % (R358). -/
def loopEngine (c : Fin 24) (slack : Nat) (s : State) (k : Fin 4) (need : Nat) : State :=
  setEngine s (engineOf c k) (fun e =>
    let f := chosenFreq s c need
    { e with required := need % 64, freq := if e.freq < f ∧ slack < 10 then e.freq else f })

/-- Every 10 µs the engines' frequencies are chosen and the voltage rises where slack is short; stretched cycles are counted; a frozen cluster keeps both (R358, R359). `slack` is the least slack at the frequencies chosen. -/
def execDvfsUpdate (t : Nat) (cluster : Fin 24) (need0 need1 need2 need3 : Nat) (slack : Nat) (stretches : Nat) (s : State) : Host.Outcome State Fault Refusal :=
  act t s fun s =>
    when (s.folioOn && !(s.clusters.get cluster).failed) s fun s =>
      let s0 := rcAdd s 0x30304 (loW (satN 16 stretches))
      let s1 := setCluster s0 cluster (fun c => { c with slack := min 100 slack })
      if dvfsFrozen s cluster then
        [(0, need0), (1, need1), (2, need2), (3, need3)].foldl (fun u p =>
          setEngine u (engineOf cluster p.1) (fun e => { e with required := p.2 % 64 })) s1
      else
        let s2 := [((0 : Fin 4), need0), (1, need1), (2, need2), (3, need3)].foldl (fun u p => loopEngine cluster slack u p.1 p.2) s1
        if slack < 10 then setCluster s2 cluster (fun c => { c with volt := clampVolt (c.volt + 1) }) else s2

/-- Every 1 ms: enough slack throughout lowers the voltage by 5 mV; stretches above 1 % override a freeze, raise the voltage, are counted and recorded (R358, R359). -/
def execDvfsVoltageDown (t : Nat) (cluster : Fin 24) (slack : Nat) (overV : Bool) (temp : Int) (s : State) : Host.Outcome State Fault Refusal :=
  act t s fun s =>
    when (s.folioOn && !(s.clusters.get cluster).failed) s fun s =>
      let s1 := setCluster s cluster (fun c => { c with slack := min 100 slack, temp := temp })
      if dvfsFrozen s cluster then
        if overV then
          let s2 := rcCount (setCluster s1 cluster (fun c => { c with volt := clampVolt (c.volt + 1) })) 0x30304 16
          recordAt s2 (clusterPlace cluster.val) 0x0802 .warning 0 .none (.g cluster.val) [loW cluster.val]
        else s1
      else if 20 ≤ slack then setCluster s1 cluster (fun c => { c with volt := clampVolt (c.volt - 1) })
      else s1

/-- The clusters of a Folio region (R20). -/
def regionClusters (q : Nat) : List (Fin 24) := (List.finRange 24).filter (fun c => clusterRegion c.val == q)

/-- A region, or Reservoir as place 4, reads a temperature in 1/16 °C (R356). -/
def setRegionTemp (s : State) (q : Fin 5) (temp : Int) : State := { s with regionTemp := s.regionTemp.set q.val temp }

/-- Two places are adjacent: region 0 to 1 and 2, region 3 to 1 and 2, Reservoir to region 3 (R360). -/
def adjacent (a b : Nat) : Bool :=
  [(0, 1), (0, 2), (3, 1), (3, 2), (4, 3), (1, 0), (2, 0), (1, 3), (2, 3), (3, 4)].contains (a, b)

/-- Adjacent places differ by over 30 °C for 10 ms: FMAX of the hotter Folio region's clusters is capped at 900 MHz, recorded once for each cluster (R360). `other` is the cooler neighbour's reading. -/
def execRegionTempCap (t : Nat) (region : Fin 4) (temp other : Int) (s : State) : Host.Outcome State Fault Refusal :=
  act t s fun s =>
    let s0 := setRegionTemp s ⟨region.val, by omega⟩ temp
    when (s.folioOn && decide (other + 480 < temp)) s0 fun s =>
      (regionClusters region.val).foldl (fun u c =>
        let u1 := setCluster u c (fun x => { x with capped := true })
        let u2 := [(0 : Fin 4), 1, 2, 3].foldl (fun w k => setEngine w (engineOf c k) (fun e => { e with freq := min e.freq (clFmax u1 c) })) u1
        if (u.clusters.get c).capped then u2
        else recordAt u2 (clusterPlace c.val) 0x0803 .warning 0 .none (.g c.val) [loW c.val]) s

/-- The difference has stayed below 25 °C for 1 s: the cap is lifted (R360). -/
def execRegionTempUncap (t : Nat) (region : Fin 4) (temp : Int) (s : State) : Host.Outcome State Fault Refusal :=
  act t s fun s =>
    when s.folioOn s fun s =>
      (regionClusters region.val).foldl (fun u c => setCluster u c (fun x => { x with capped := false }))
        (setRegionTemp s ⟨region.val, by omega⟩ temp)

/-- One background adaptation step of a lane: at most one coefficient by one step every 100 µs, within its bound of the base, reverted when the eye height falls by more than 4 mV; a frozen lane holds its coefficients while its status updates (R362). -/
def execEqAdaptStep (t : Nat) (lane : Fin 23) (coef : Fin 5) (up : Bool) (height width : Nat) (s : State) : Host.Outcome State Fault Refusal :=
  act t s fun s =>
    let l := s.lanes.get lane
    when (s.folioOn && l.adapting) s fun s =>
      let seen : EqLane := { l with eyeWidth := width % 64 }
      let put := fun (x : EqLane) => ({ s with lanes := s.lanes.set lane.val x } : State)
      if eqFrozen s lane ∨ s.now < l.lastStep + ticksUs 100 then put { seen with eyeHeight := height % 256 }
      else if height + 2 < l.eyeHeight then put { seen with lastStep := s.now }
      else
        let d : Int := if up then 1 else -1
        let stepped : EqLane :=
          match coef with
          | ⟨0, _⟩ =>
            let x : Int := (l.ctle : Int) + d
            if 0 ≤ x ∧ x ≤ 31 ∧ (x - l.baseCtle).natAbs ≤ eqCtleBound s then { seen with ctle := x.toNat } else seen
          | ⟨k + 1, h⟩ =>
            let i : Fin 4 := ⟨k, by omega⟩
            let x := l.taps.get i + d
            if (x - l.baseTaps.get i).natAbs ≤ eqDfeBound s then { seen with taps := l.taps.set i.val x i.isLt } else seen
        put { stepped with eyeHeight := height % 256, lastStep := s.now }

end Sys2Proof.Machine
end

