-- ==== Sys2Proof/Machine/Transport.lean ====
section
/-! DEFINITION. Quire: opcode-table rows VI_BIND_WRITE to PORT_SLEW_COMPLETE and VF_ENABLE_SET to PCIE_LINK_UP (R85, R126–R157, R196, R210–R213, R348–R351). -/

namespace Sys2Proof.Machine

/-! ### VI_BIND (R126, R127) -/

/-- KIND and FUNCTION of a VI_BIND value, KIND 3 as 0; FUNCTION counts for a PCIe function only. -/
def bindOf (w : Word) : Nat × Nat :=
  let k := if fld w 0 2 = 3 then 0 else fld w 0 2
  (k, if k = 1 then fld w 4 4 else 0)

/-- The address of VI_BIND(v). -/
def bindAddr (v : RingId) : Nat := 0x72000 + 4 * v.val

/-- The ring VI bound to a PCIe function, if one is. -/
def fnVi (s : State) (f : Fin 16) : Option RingId := (List.finRange 64).find? (fun v => viKind s v == 1 && viFn s v == f)

/-- A write of VI_BIND: one that binds a function of another VI is ignored; a change of binding is forfeiture and takes the timeline to FREE_RUN; a VI bound anew may be the home of an ownerless port (R70, R127, R212). -/
def viBindWrite (s : State) (p : Path) (v : RingId) (value : Word) : State :=
  let a := bindAddr v
  let new := value &&& 0xFF0001F3
  let old := bindOf (reg s a)
  let b := bindOf new
  let taken := b.1 = 1 ∧ ((List.finRange 64).any (fun u => u != v && viKind s u == 1 && (viFn s u).val == b.2)) = true
  if taken then writeIgnored s p a value
  else if b = old then setApplied s a new
  else
    let s1 := if old.1 = 0 then tlFreeRun s v else unbindVi s v
    homeStamp (setApplied s1 a new) (.ring v)

/-- VI_BIND_WRITE (R127). -/
def execViBindWrite (t : Nat) (path : Path) (v : RingId) (value : Word) (s : State) : Host.Outcome State Fault Refusal :=
  privCmd t path (bindAddr v) s fun s => viBindWrite s path v value

/-! ### PCIe (R85, R129–R133) -/

/-- Change the PCIe endpoint. -/
def setPcie (s : State) (f : Pcie → Pcie) : State := { s with pcie := f s.pcie }

/-- Every vector of a function masked, nothing pending, MSI-X and Bus Master Enable off, as a reset of a PCIe function leaves them. -/
def resetFn (s : State) (f : Fin 16) : State :=
  setPcie s (fun p => { p with bme := putBit p.bme f.val false, msixOn := putBit p.msixOn f.val false
                               msix := vmod p.msix f (fun _ => Vector.replicate 8 { addr := 0, data := 0, masked := true })
                               msixPending := vmod p.msixPending f (fun _ => 0) })

/-- The VI bound to a function loses its transport. -/
def fnLost (s : State) (f : Fin 16) : State :=
  match fnVi s f with
  | some v => transportLost s v
  | none => s

/-- The VIs of VFs numbered above k lose their transport. -/
def vfsLost (s : State) (k : Nat) : State :=
  (List.finRange 16).foldl (fun u f => if decide (k < f.val) && s.pcie.vfEnable && decide (f.val ≤ s.pcie.numVfs) then fnLost u f else u) s

/-- PF_TRUST returns to its configured value (R44, R52). -/
def trustRestored (s : State) : State :=
  setApplied { s with trustBySpi := false } 0x30 (setFld (reg s 0x30) 0 1 (bnat s.trustConfigured))

/-- FLR of an enabled function; that of the PF clears VF Enable and restores PF_TRUST (R132). -/
def execFlr (t : Nat) (fn : Fin 16) (s : State) : Host.Outcome State Fault Refusal :=
  act t s fun s => when (s.folioOn && fnEnabled s fn) s fun s =>
    let s1 := resetFn (fnLost s fn) fn
    let s2 := setPcie s1 (fun p => { p with flr := putBit p.flr fn.val true, flrAt := s.now })
    if fn.val = 0 then trustRestored (setPcie (vfsLost s2 0) (fun p => { p with vfEnable := false })) else s2

/-- A function's VI may be the home of an ownerless port again (R70). -/
def fnHome (s : State) (f : Fin 16) : State :=
  match fnVi s f with
  | some v => homeStamp s (.ring v)
  | none => s

/-- An FLR completes; the function, still bound to the same VI, is usable again, with MSI-X as its host then enables it (R132). -/
def execFlrComplete (t : Nat) (fn : Fin 16) (msixOn : Bool) (s : State) : Host.Outcome State Fault Refusal :=
  act t s fun s => when (s.folioOn && maskBit s.pcie.flr fn.val) s fun s =>
    fnHome (setPcie s (fun p => { p with flr := putBit p.flr fn.val false, msixOn := putBit p.msixOn fn.val msixOn })) fn

/-- VF Enable is cleared (0), or NumVFs falls to a lower number: the VIs of the VFs removed forfeit (R85). -/
def execVfEnableClear (t : Nat) (numVfs : Nat) (s : State) : Host.Outcome State Fault Refusal :=
  act t s fun s => when (s.folioOn && s.pcie.vfEnable && decide (numVfs < s.pcie.numVfs ∨ numVfs = 0)) s fun s =>
    setPcie (vfsLost s numVfs) (fun p => if numVfs = 0 then { p with vfEnable := false } else { p with numVfs := numVfs })

/-- VF Enable is set, or NumVFs rises: the VIs of the VFs that now exist become eligible (R70, R127). -/
def execVfEnableSet (t : Nat) (numVfs : Nat) (s : State) : Host.Outcome State Fault Refusal :=
  act t s fun s => when (s.folioOn && s.pcie.link && !maskBit s.pcie.flr 0 && decide (1 ≤ numVfs) && decide (numVfs ≤ 15)
                         && (!s.pcie.vfEnable || decide (s.pcie.numVfs ≤ numVfs))) s fun s =>
    let s1 := setPcie s (fun p => { p with vfEnable := true, numVfs := numVfs })
    (List.finRange 16).foldl (fun u f => if decide (1 ≤ f.val) && decide (f.val ≤ numVfs) then fnHome u f else u) s1

/-- Hot reset or link down: every PCIe-bound VI forfeits (R132). -/
def pcieDown (s : State) : State :=
  let s1 := (List.finRange 16).foldl fnLost s
  setPcie s1 (fun _ => pcie0)

/-- The PCIe link goes down, or is hot-reset (R132). -/
def execPcieLinkDown (t : Nat) (s : State) : Host.Outcome State Fault Refusal :=
  act t s fun s => when (s.folioOn && s.pcie.link) s pcieDown

/-- The PCIe link trains, at a speed and width, and its host configures the functions: Bus Master Enable, MSI-X, PTM (R128, R129, R133, R390). -/
def execPcieLinkUp (t : Nat) (speed width : Nat) (bme msixOn : Nat) (ptm : Bool) (s : State) : Host.Outcome State Fault Refusal :=
  act t s fun s => when (s.folioOn && !s.pcie.link && decide (1 ≤ speed) && decide (speed ≤ 4) && (width == 1 || width == 2 || width == 4)) s fun s =>
    let s1 := setPcie s (fun _ => { pcie0 with link := true, speed := speed, width := width, bme := bme % 65536, msixOn := msixOn % 65536, ptmEnable := ptm
                                               ptmLast := s.now })
    (List.finRange 16).foldl fnHome s1

/-- Bus Master Enable is cleared: the function's VI becomes Unreachable (R132, R154). -/
def execBmeClear (t : Nat) (fn : Fin 16) (s : State) : Host.Outcome State Fault Refusal :=
  act t s fun s => when (s.folioOn && fnEnabled s fn && maskBit s.pcie.bme fn.val) s fun s =>
    let s1 := setPcie s (fun p => { p with bme := putBit p.bme fn.val false })
    match fnVi s fn with
    | some v => enterUnreachable s1 v 2
    | none => s1

/-- Bus Master Enable is set again (R132, R156). -/
def execBmeSet (t : Nat) (fn : Fin 16) (s : State) : Host.Outcome State Fault Refusal :=
  act t s fun s => when (s.folioOn && fnEnabled s fn && !maskBit s.pcie.bme fn.val) s fun s =>
    let s1 := setPcie s (fun p => { p with bme := putBit p.bme fn.val true })
    match fnVi s fn with
    | some v => leaveUnreachable s1 v 4
    | none => s1

/-! ### PTM (R133, R210, R211) -/

/-- PTM_CTRL.PERIOD_MS as treated. -/
def ptmMs (s : State) : Nat := inRange 1 100 10 (rfld s 0x90020 0 7)

/-- One reference update of every VI a clock serves. `phase` is the unwrapped phase error of each VI in ns, `m` the period in microframes. -/
def clockUpdate (s : State) (kind ownerNs m : Nat) (phase : Vector Int 64) : State :=
  (clockedVis s kind).foldl (fun u v => tlUpdate u v ownerNs m (phase.get v)) s

/-- The reference of every VI a clock serves is gone. -/
def clockLost (s : State) (kind : Nat) : State := (clockedVis s kind).foldl tlLost s

/-- Every PERIOD_MS a PTM request goes out; its dialogue gives a context, or fails, and the third failure in a row ends the reference (R133). -/
def execPtmRequest (t : Nat) (ok : Bool) (ownerNs : Nat) (phase : Vector Int 64) (s : State) : Host.Outcome State Fault Refusal :=
  act t s fun s => when (s.folioOn && s.pcie.link && s.pcie.ptmEnable && decide (s.pcie.ptmLast + ticksMs (ptmMs s) ≤ s.now)) s fun s =>
    let s1 := emit (setPcie s (fun p => { p with ptmLast := s.now })) .ptmRequest
    if ok then clockUpdate (setPcie s1 (fun p => { p with ptmValid := true, ptmFails := 0 })) 1 ownerNs (8 * ptmMs s) phase
    else
      let fails := s.pcie.ptmFails + 1
      let s2 := setPcie s1 (fun p => { p with ptmFails := fails, ptmFailed := satN 16 (p.ptmFailed + 1) })
      if 3 ≤ fails ∧ s.pcie.ptmValid then clockLost (setPcie s2 (fun p => { p with ptmValid := false })) 1 else s2

/-! ### Ethernet and PRP (R134–R139) -/

/-- An Ethernet port's index. -/
def ethIdx (portB : Bool) : Fin 2 := if portB then 1 else 0

/-- Change an Ethernet port. -/
def setEth (s : State) (b : Bool) (f : EthPort → EthPort) : State := { s with eth := vmod s.eth (ethIdx b) f }

def ethEn (s : State) (b : Bool) : Bool := rfld s (0x80000 + 0x100 * bnat b) 0 1 == 1
def eth25 (s : State) (b : Bool) : Bool := rfld s (0x80000 + 0x100 * bnat b) 1 1 == 1

/-- ETH_CFG.FEC as treated (R136). -/
def ethFec (s : State) (b : Bool) : Nat :=
  let f := rfld s (0x80000 + 0x100 * bnat b) 2 2
  if f = 3 ∨ (f = 2 ∧ eth25 s b = false) then 0 else f

def prpEn (s : State) : Bool := rfld s 0x80300 0 1 == 1
def lifeCheckMs (s : State) : Nat := inRange 100 10000 2000 (rfld s 0x80300 16 16)

/-- Whether a port is used: PRP, or port A alone (R137). -/
def ethUsed (s : State) (b : Bool) : Bool := s.folioOn && ethEn s b && (prpEn s || !b)

/-- A change of a LAN's state: the record, and the notice to the board (R139). -/
def lanChange (s : State) (b up : Bool) : State :=
  let s1 := setEth s b (fun e => { e with lanUp := up })
  notice (record s1 0x0601 .notice 0 .none .f [loW (bnat b)]) 0x0E .notice 0 .none [pack64 [(0, bnat b), (1, bnat up)]] [boardQueue]

/-- A frame of the right LAN identifier keeps the LAN up, or brings it up (R139). -/
def lanHeard (s : State) (b : Bool) : State :=
  let s1 := setEth s b (fun e => { e with lastFrame := s.now })
  if (s.eth.get (ethIdx b)).lanUp then s1 else lanChange s1 b true

/-- Flow control as the receive buffer of a priority fills (R151). -/
def bufferLevel (s : State) (b : Bool) (prio fill : Nat) : State :=
  let off := maskBit (s.eth.get (ethIdx b)).xoff prio
  if ¬ maskBit (rfld s 0x80220 16 8) prio then s
  else if 73728 < fill ∧ off = false then emit (setEth s b (fun e => { e with xoff := putBit e.xoff prio true })) (.pfc b prio true)
  else if fill < 49152 ∧ off then emit (setEth s b (fun e => { e with xoff := putBit e.xoff prio false })) (.pfc b prio false)
  else s

/-- CC_CFG as treated (R150), rates in 10 Mb/s units. -/
def ccEn (s : State) : Bool := rfld s 0x80410 24 1 == 1
def ccShift (s : State) : Nat := inRange 1 4 1 (rfld s 0x80410 0 3)
def ccInc (s : State) : Nat := rfld s 0x80410 8 8
def ccMin (s : State) : Nat := 10 * rfld s 0x80410 16 8

/-- The line rate of the port a slot is heard on. -/
def lineRate (s : State) (q : Fin 128) : Nat := if eth25 s (s.qps.get q).lastPort then 2500 else 1000

/-- A CNP for a packet marked CE, at most one per slot in any 50 µs (R150). -/
def markedCe (s : State) (q : Fin 128) : State :=
  let ok := match (s.qps.get q).lastCnpSent with
    | some x => decide (x + ticksUs 50 ≤ s.now)
    | none => true
  if ccEn s && ok then emit (setQp s q (fun x => { x with lastCnpSent := some s.now })) (.cnp q) else s

/-- A frame goes to what it is for: the last port of its slot, a CNP where it is marked, then delivery (R142, R150). -/
def deliverFrame (s : State) (b : Bool) (f : EthFrame) : State :=
  let s1 := match f.slot with
    | some q => if (s.qps.get q).state = .reset then s
      else
        let u := setQp s q (fun x => { x with lastPort := b })
        if f.ce then markedCe u q else u
    | none => s
  bufferLevel (emit s1 (.deliver f.bytes)) b f.prio.val f.fill

/-- Duplicate discard (R138). -/
def dupCheck (s : State) (mac seqno : Nat) : Bool := s.prp.table.any (fun e => e.mac == mac && e.seqno == seqno && decide (s.now < e.at_ + ticksMs 400))

/-- Enter a frame in the duplicate table, the oldest entry evicted when it is full (R138). -/
def dupEnter (s : State) (mac seqno : Nat) : State :=
  let live := s.prp.table.filter (fun e => decide (s.now < e.at_ + ticksMs 400))
  let e : PrpEntry := { mac := mac, seqno := seqno, at_ := s.now }
  if live.length < 4096 then { s with prp := { s.prp with table := live ++ [e] } }
  else rcCount { s with prp := { s.prp with table := live.drop 1 ++ [e] } } 0x80308 0

/-- A frame is received (R134, R137–R139). A good frame shows link, block lock and the FEC in use. -/
def execEthFrameReceived (t : Nat) (portB : Bool) (frame : EthFrame) (s : State) : Host.Outcome State Fault Refusal :=
  act t s fun s => when (ethUsed s portB) s fun s =>
    let drop := fun (u : State) => rcCount u (0x80010 + 0x100 * bnat portB) 0
    let s0 := setEth s portB (fun e => { e with link := true, lock := true, fec := ethFec s portB != 0 })
    let vidOk := match frame.vid with
      | some k => k == rfld s 0x80220 0 12
      | none => true
    if ¬ frame.fcsOk ∨ vidOk = false ∨ frame.buffered = false then drop s0
    else
      match frame.rct with
      | some (seqno, lanB) =>
        let s1 := if prpEn s && lanB == portB then lanHeard s0 portB else s0
        if ¬ prpEn s then deliverFrame s1 portB frame
        else if dupCheck s1 frame.src seqno then rcCount s1 0x8030C 0
        else
          let s2 := dupEnter s1 frame.src seqno
          if frame.supervision then { s2 with prp := { s2.prp with supervisionHeard := s2.prp.supervisionHeard + 1 } } else deliverFrame s2 portB frame
      | none =>
        if frame.supervision then { s0 with prp := { s0.prp with supervisionHeard := s0.prp.supervisionHeard + 1 } } else deliverFrame s0 portB frame

/-- Duplicate-table entries expire 400 ms after they were made (R138). -/
def execPrpEntryExpiry (t : Nat) (s : State) : Host.Outcome State Fault Refusal :=
  act t s fun s => when s.folioOn s fun s => { s with prp := { s.prp with table := s.prp.table.filter (fun e => decide (s.now < e.at_ + ticksMs 400)) } }

/-- Every LIFE_CHECK_MS a supervision frame goes out on both LANs under one sequence number (R137). -/
def execPrpSupervisionSend (t : Nat) (s : State) : Host.Outcome State Fault Refusal :=
  act t s fun s => when (s.folioOn && prpEn s && decide (s.prp.lastSupervision + ticksMs (lifeCheckMs s) ≤ s.now)) s fun s =>
    let s1 := emit (emit s (.supervision false s.prp.seqno)) (.supervision true s.prp.seqno)
    { s1 with prp := { s1.prp with seqno := (s.prp.seqno + 1) % 65536, lastSupervision := s.now } }

/-- Block lock has been lost for 10 ms, or no frame of the LAN came for three LIFE_CHECK_MS (R139). -/
def execLanDown (t : Nat) (portB : Bool) (lockLost : Bool) (s : State) : Host.Outcome State Fault Refusal :=
  act t s fun s =>
    let e := s.eth.get (ethIdx portB)
    when (s.folioOn && (lockLost || (e.lanUp && decide (e.lastFrame + 3 * ticksMs (lifeCheckMs s) ≤ s.now)))) s fun s =>
      let s1 := if lockLost then setEth s portB (fun e => { e with link := false, lock := false, fec := false }) else s
      if e.lanUp then lanChange s1 portB false else s1

/-- PFC frames are obeyed on the priorities of PFC_EN (R151). -/
def execPfcFrameReceived (t : Nat) (portB : Bool) (enable : Nat) (xoff : Nat) (s : State) : Host.Outcome State Fault Refusal :=
  act t s fun s => when (ethUsed s portB) s fun s =>
    let m := Nat.land (enable % 256) (rfld s 0x80220 16 8)
    setEth s portB (fun e => { e with paused := (List.range 8).foldl (fun k i => if maskBit m i then putBit k i (maskBit xoff i) else k) e.paused })

/-! ### Connecting (R143–R146) -/

def roceEn (s : State) : Bool := rfld s 0x80400 0 1 == 1

/-- ROCE_CFG.PMTU in bytes. -/
def rocePmtu (s : State) : Nat := let k := rfld s 0x80400 2 2; if k = 0 then 1024 else if k = 1 then 2048 else 4096

/-- The fixed order in which private data and QPN enter M (R145). -/
def authMessage (q : Fin 128) (v : RingId) (host dev : List Byte) : List Byte :=
  natBytesLE 1 v.val ++ host ++ dev ++ natBytesLE 8 Config.uniqueId.toNat ++ natBytesLE 3 (0x100 + q.val)

/-- The 16-byte tag under a VI's key over a leading byte and M (R145). -/
def authMac (s : State) (lead : Nat) (q : Fin 128) (v : RingId) (host dev : List Byte) : List Byte :=
  ((Config.authTag ((s.sealUnit.keys.get v).getD []) (natBytesLE 1 lead ++ authMessage q v host dev)).flatMap bytesLE).take 16

/-- The reasons for which a REQ is rejected (R146). -/
def rejReasons (s : State) (r : CmReq) : List Nat :=
  let v := r.vi
  let slots := s.qps.toList
  let bound : Bool := match (s.vis.get v).qp with
    | some q => (s.qps.get q).state == .ready && !(s.vis.get v).unreachable
    | none => false
  (if r.version ≠ 1 then [7] else [])
    ++ (if viKind s v ≠ 2 ∨ roceEn s = false then [1] else [])
    ++ (if bound then [2] else [])
    ++ (if slots.any (fun x => x.state == .reset) then [] else [3])
    ++ (if slots.any (fun x => x.state == .connecting && x.vi == v) then [4] else [])
    ++ (if r.mrCount < 1 ∨ 4 < r.mrCount ∨ (r.regions.take r.mrCount).any (fun x => decide (2 ^ 64 < x.1 + x.2.1)) = true then [5] else [])
    ++ (if r.pmtu < 1024 ∨ r.ackTimeout < rfld s 0x80400 4 5 ∨ rfld s 0x80400 9 5 < r.ackTimeout ∨ rfld s 0x80400 14 3 < r.retry then [6] else [])

/-- The REP of a connecting slot (R143, R144). -/
def repMsg (s : State) (q : Fin 128) : CmMsg :=
  let x := s.qps.get q
  let mac := if authReq s x.vi then authMac s 0x52 q x.vi x.hostNonce x.devNonce else List.replicate 16 0
  .rep q x.vi x.psn x.depth x.devNonce mac x.rkey (regView s (viBase x.vi.val + 0x800)) (loW (s.vis.get x.vi).nextSeq)

/-- A REQ that passes takes a free slot, chosen by the device, and is answered with REP (R143). PSN, nonce and key are free values. -/
def acceptReq (s : State) (portB : Bool) (r : CmReq) : State :=
  let d := drawMany 7 s
  let w := fun (i : Nat) => d.1.getD i 0
  let start := (w 6).toNat % 128
  let order := (List.range 128).map (fun k => (start + k) % 128)
  match order.findSome? (fun k => if h : k < 128 then (if (d.2.qps.get ⟨k, h⟩).state = .reset then some (⟨k, h⟩ : Fin 128) else none) else none) with
  | none => d.2
  | some q =>
    let ack := max (rfld s 0x80400 4 5) (min (rfld s 0x80400 9 5) r.ackTimeout)
    let x : Qp :=
      { qp0 with
        state := .connecting, vi := r.vi, lastPort := portB
        regions := (r.regions.take r.mrCount).map (fun m => { va := m.1, len := m.2.1, rkey := m.2.2 })
        rkey := w 5, hostNonce := r.nonce, devNonce := [w 1, w 2, w 3, w 4].flatMap bytesLE, psn := w 0 &&& 0xFFFFFF
        ackExp := ack, retry := min r.retry (rfld s 0x80400 14 3), retryLeft := min r.retry (rfld s 0x80400 14 3), depth := min 16 r.respRes
        pmtu := min r.pmtu (rocePmtu s), repSends := 1, repAt := s.now, rate := if eth25 s portB then 2500 else 1000, lastInc := s.now }
    let s1 := setQp d.2 q (fun _ => x)
    emit s1 (.cm (some q) (repMsg s1 q))

/-- A REQ is checked and answered (R143, R146). Which reason is given where several hold is left open, so it is a free choice among them. -/
def execCmReq (t : Nat) (portB : Bool) (req : CmReq) (s : State) : Host.Outcome State Fault Refusal :=
  act t s fun s => when (ethUsed s portB && req.serviceId.toNat == (reg s 0x80408).toNat + (reg s 0x8040C).toNat * 2 ^ 32) s fun s =>
    match rejReasons s req with
    | [] => acceptReq s portB req
    | [k] => emit s (.cm none (.rej k))
    | k :: rest =>
      let d := draw s
      emit d.2 (.cm none (.rej ((k :: rest).getD (d.1.toNat % (rest.length + 1)) k)))

/-- No RTU within 100 ms: the REP is sent again, up to three times, then the slot returns to Reset and the event is recorded (R143). -/
def execRepRetryTimeout (t : Nat) (q : Fin 128) (s : State) : Host.Outcome State Fault Refusal :=
  act t s fun s =>
    let x := s.qps.get q
    when (s.folioOn && x.state == .connecting && decide (x.repAt + ticksMs 100 ≤ s.now)) s fun s =>
      if x.repSends < 4 then
        let s1 := setQp s q (fun y => { y with repSends := y.repSends + 1, repAt := s.now })
        emit s1 (.cm (some q) (repMsg s1 q))
      else record (freeSlot s q 0) 0x0602 .warning 0 (.ring x.vi) .f [loW q.val]

/-- A valid RTU binds the slot: a re-establishment of an Unreachable VI, or a fresh connection (R143, R156). -/
def bindSlot (s : State) (q : Fin 128) : State :=
  let v := (s.qps.get q).vi
  let s1 := setQp s q (fun y => { y with state := .ready, oldestAt := none })
  let s2 := if (s.vis.get v).unreachable then
      (match (s.vis.get v).qp with
       | some old => if old = q then s1 else freeSlot s1 old 0
       | none => s1)
    else s1
  let s3 := setVi s2 v (fun y => { y with qp := some q, authenticated := y.authenticated || authReq s v })
  if (s.vis.get v).unreachable then leaveUnreachable s3 v 3 else homeStamp s3 (.ring v)

/-- An RTU: authenticated where AUTH_REQ asks (R145), it binds the slot; an invalid one returns the slot to Reset by DREQ. -/
def execCmRtu (t : Nat) (q : Fin 128) (hostMac : List Byte) (s : State) : Host.Outcome State Fault Refusal :=
  act t s fun s =>
    let x := s.qps.get q
    when (s.folioOn && x.state == .connecting) s fun s =>
      let valid := !authReq s x.vi || (!s.blot.keysReloading.contains x.vi.val && (s.sealUnit.keys.get x.vi).isSome && hostMac == authMac s 0x54 q x.vi x.hostNonce x.devNonce)
      if valid then bindSlot s q
      else record (freeSlot (emit s (.cm (some q) .dreq)) q 0) 0x0603 .warning 0 (.ring x.vi) .f [loW q.val]

/-- A DREQ on a bound slot: DREP, and the VI forfeits (R85, R143). -/
def execCmDreq (t : Nat) (q : Fin 128) (s : State) : Host.Outcome State Fault Refusal :=
  act t s fun s => when (s.folioOn && slotBound s q) s fun s => disconnectSlot (emit s (.cm (some q) .drep)) q 5

/-! ### The responder and the requester (R140, R148, R149) -/

/-- An RDMA WRITE Only: doorbells in ascending order, or a refusal with a NAK (R148). -/
def execRoceDoorbellWrite (t : Nat) (q : Fin 128) (rkey : Word) (addr : Nat) (bytes : List Byte) (s : State) : Host.Outcome State Fault Refusal :=
  act t s fun s =>
    let x := s.qps.get q
    when (inkOn s && slotBound s q && x.state == .ready) s fun s =>
      let ok := rkey == x.rkey && addr % 4 == 0 && bytes.length % 4 == 0 && decide (4 ≤ bytes.length) && decide (addr + bytes.length ≤ 256)
      if ok then
        (List.range (bytes.length / 4)).foldl (fun u i =>
          doorbell u x.vi (addr + 4 * i) (BitVec.ofNat 32 (bytesToNatLE ((bytes.drop (4 * i)).take 4)))) (emit s (.ack q))
      else refuseRequest s q 2 4

/-- The least time of the ACK timer of exponent n, in ticks of 200 ns. -/
def ackTicks (n : Nat) : Nat := cdiv (4096 * 2 ^ n) 200

/-- The ACK timer expires: the device resends, or after its retries the slot enters Error and the VI becomes Unreachable (R149, R154). -/
def execAckTimeout (t : Nat) (q : Fin 128) (s : State) : Host.Outcome State Fault Refusal :=
  act t s fun s =>
    let x := s.qps.get q
    match x.oldestAt with
    | none => s
    | some since => when (s.folioOn && x.state == .ready && decide (since + ackTicks x.ackExp ≤ s.now)) s fun s =>
        if 0 < x.retryLeft then emit (setQp s q (fun y => { y with retryLeft := y.retryLeft - 1, oldestAt := some s.now })) (.resend q)
        else
          let s1 := setQp s q (fun y => { y with state := .error, cause := 1, oldestAt := none })
          if slotBound s q then enterUnreachable s1 x.vi 1 else s1

/-- A NAK other than a PSN sequence error (R149). -/
def execNakReceived (t : Nat) (q : Fin 128) (s : State) : Host.Outcome State Fault Refusal :=
  act t s fun s => when (s.folioOn && (s.qps.get q).state == .ready) s fun s => slotError s q 2

/-- A PSN sequence-error NAK: the device retransmits (R140). -/
def execPsnSequenceNak (t : Nat) (q : Fin 128) (s : State) : Host.Outcome State Fault Refusal :=
  act t s fun s => when (s.folioOn && (s.qps.get q).state == .ready && (s.qps.get q).oldestAt.isSome) s fun s =>
    emit (setQp s q (fun y => { y with oldestAt := some s.now })) (.resend q)

/-- QP_CTRL.RESET: the slot returns to Reset, and a bound one forfeits its VI (R85, R135). -/
def qpReset (s : State) (q : Fin 128) : State := if (s.qps.get q).state = .reset then s else disconnectSlot s q 6

/-- QP_RESET (R135). -/
def execQpReset (t : Nat) (path : Path) (q : Fin 128) (s : State) : Host.Outcome State Fault Refusal :=
  privCmd t path (0x80804 + 8 * q.val) s fun s => qpReset s q

/-- HOLD_S as treated (R126). -/
def holdS (s : State) (v : RingId) : Nat := inRange 1 255 60 (rfld s (bindAddr v) 24 8)

/-- An Unreachable VI without a port gives up its held IN data after HOLD_S (R157). -/
def execUnreachableHoldExpiry (t : Nat) (v : RingId) (s : State) : Host.Outcome State Fault Refusal :=
  act t s fun s =>
    let x := s.vis.get v
    when (s.folioOn && x.unreachable && !x.dataReleased && !(List.finRange 16).any (fun n => viOwns s v n)
          && decide (x.unreachableAt + ticksS (holdS s v) ≤ s.now)) s fun s =>
      let freed := (x.window.filter (fun c => !c.data.isEmpty)).foldl (fun u c =>
        settleCtx (ctxBytes u c.source)
          (setVi u v (fun y => { y with window := y.window.map (fun k => if k.seq == c.seq then { k with data := [], dataLost := dataBytes k.data } else k) }))
          (.ring v) c.source) s
      setVi freed v (fun y => { y with dataReleased := true })

/-! ### Congestion (R150) -/

/-- A CNP lowers a slot's rate once 50 µs have passed since the last decrease. -/
def execCnpReceived (t : Nat) (q : Fin 128) (s : State) : Host.Outcome State Fault Refusal :=
  act t s fun s =>
    let x := s.qps.get q
    when (s.folioOn && ccEn s && x.state == .ready) s fun s =>
      let due := match x.lastDec with
        | some k => decide (k + ticksUs 50 ≤ s.now)
        | none => true
      setQp s q (fun y => if due then { y with rate := max (y.rate - y.rate / 2 ^ ccShift s) (ccMin s), lastDec := some s.now, lastInc := s.now }
                          else { y with lastInc := s.now })

/-- 55 µs without a CNP raise it. -/
def execCcRateIncrease (t : Nat) (q : Fin 128) (s : State) : Host.Outcome State Fault Refusal :=
  act t s fun s =>
    let x := s.qps.get q
    when (s.folioOn && ccEn s && x.state == .ready && decide (x.lastInc + ticksUs 55 ≤ s.now)) s fun s =>
      setQp s q (fun y => { y with rate := min (y.rate + ccInc s) (lineRate s q), lastInc := s.now })

/-! ### PTP and the Stroke discipline (R152, R348–R351) -/

/-- Change the discipline. -/
def setDisc (s : State) (f : Disc → Disc) : State := { s with disc := f s.disc }

/-- A change of the discipline's state is recorded (R351). -/
def discMove (s : State) (st : DiscState) : State :=
  record (setDisc s (fun d => { d with state := st, goodRun := 0, badRun := 0 })) 0x0801 .notice 0 .none (.g 24) []

/-- The anchor is latched (R349). -/
def discAnchor (s : State) (timeNs : Nat) : State := setDisc s (fun d => { d with anchorPtp := timeNs, anchorStroke := stroke s })

/-- The correction limited to ±200 ppm, in 0.01 ppm. -/
def clampCorr (x : Int) : Int := max (-20000) (min 20000 x)

/-- The update of R350 for an offset e in ns and an interval i in ns; the frequency term is in 0.01 ppm. -/
def discUpdate (s : State) (timeNs : Nat) (e : Int) (i : Nat) : State :=
  let frozen := discFrozen s
  let rate : Rat := (e : Rat) * 100000000 / ((max 1 i : Nat) : Rat)
  let first := s.disc.state == .acquiring && !s.disc.firstDone
  let big := !first && decide (1000000 < e.natAbs)
  let s1 := setDisc s (fun d => { d with offset := e, firstDone := true })
  let s2 := if big then record (discAnchor s1 timeNs) 0x0801 .notice 0 .none (.g 24) [] else s1
  if frozen then s2
  else setDisc s2 (fun d =>
    let freq := if first then rate else if big then d.freq else d.freq + rate / ((2 ^ discKi s : Nat) : Rat)
    { d with freq := freq, corr := clampCorr ((freq + rate / ((2 ^ discKp s : Nat) : Rat)).floor) })

/-- LOCKED after eight small offsets in a row, ACQUIRING again after two large ones (R351). -/
def discJudge (s : State) (e : Int) : State :=
  let s1 := setDisc s (fun d => { d with goodRun := if e.natAbs ≤ 1000 then d.goodRun + 1 else 0, badRun := if 10000 < e.natAbs then d.badRun + 1 else 0 })
  if s1.disc.state = .acquiring ∧ 8 ≤ s1.disc.goodRun then discMove s1 .locked
  else if s1.disc.state = .locked ∧ 2 ≤ s1.disc.badRun then discMove s1 .acquiring
  else s1

/-- The discipline at an accepted Sync (R349–R351). -/
def discSync (s : State) (timeNs i : Nat) : State :=
  if ¬ discEn s then s
  else if s.disc.state = .freeRun then
    if discFrozen s then s
    else discMove (discAnchor (setDisc s (fun d => { d with corr := 0, freq := 0, offset := 0, firstDone := false })) timeNs) .acquiring
  else
    let e : Int := s.disc.anchorPtp + 200 * ((stroke s : Int) - s.disc.anchorStroke) - timeNs
    if discFrozen s then discUpdate s timeNs e i
    else
      let s1 := if s.disc.state = .holdover then discMove s .acquiring else s
      discJudge (discUpdate s1 timeNs e i) e

/-- The conditions of R349 end: the frequency term is held (R351). -/
def discLost (s : State) : State :=
  if discFrozen s then s
  else if s.disc.state = .acquiring ∨ s.disc.state = .locked then discMove (setDisc s (fun d => { d with corr := clampCorr d.freq.floor })) .holdover else s

/-- EN is set to 0 (R351). -/
def discOff (s : State) : State :=
  if s.disc.state = .freeRun then s else discMove (setDisc s (fun d => { d with corr := 0, freq := 0 })) .freeRun

def ptpEn (s : State) : Bool := rfld s 0x80C00 0 1 == 1
def ptpFailover (s : State) : Bool := rfld s 0x80C00 2 1 == 1

/-- A Sync is accepted on the active port: `timeNs` is the PTP time of its reception, `offset` that from the master (R152, R211, R349). -/
def execPtpSyncAccepted (t : Nat) (timeNs : Nat) (offset : Int) (masters : Nat) (phase : Vector Int 64) (s : State) : Host.Outcome State Fault Refusal :=
  act t s fun s => when (s.folioOn && ptpEn s && ethEn s s.ptp.portB) s fun s =>
    let i := timeNs - s.ptp.timeNs
    let m := max 1 ((s.now - s.ptp.lastSync) / 625)
    let s1 : State := { s with ptp := { s.ptp with locked := true, masters := satN 4 (min masters 8), offset := offset, lastSync := s.now
                                                   timeNs := timeNs, timeAt := s.now } }
    discSync (clockUpdate s1 2 timeNs m phase) timeNs i

/-- PTP is no longer locked: the timelines it serves and the discipline hold over. -/
def ptpUnlock (s : State) : State := discLost (clockLost { s with ptp := { s.ptp with locked := false } } 2)

/-- No Sync for 4 s: LOCKED clears, and with FAILOVER set the device moves to the other port (R152). -/
def execPtpLockTimeout (t : Nat) (s : State) : Host.Outcome State Fault Refusal :=
  act t s fun s => when (s.folioOn && s.ptp.locked && decide (s.ptp.lastSync + ticksS 4 ≤ s.now)) s fun s =>
    let s1 := ptpUnlock s
    if ptpFailover s then record { s1 with ptp := { s1.ptp with portB := !s1.ptp.portB, failedOver := true } } 0x0604 .notice 0 .none .f [loW (bnat (!s1.ptp.portB))]
    else s1

/-! ### Ports and timelines (R213) -/

/-- A port's boundaries coincide with its timeline's: SLEWING clears (R213). -/
def execPortSlewComplete (t : Nat) (port : PortId) (s : State) : Host.Outcome State Fault Refusal :=
  act t s fun s => when (s.folioOn && (s.nibs.get port).slewing) s fun s =>
    match ringOwner s port with
    | some v =>
      let uf := timelineUf s v
      setNib s port (fun b => { b with slewing := false, busUf := (uf + b.offsetUf) % 16384, ufAt := ufTick s v uf })
    | none => setNib s port (fun b => { b with slewing := false })

end Sys2Proof.Machine
end

