-- ==== Sys2Proof/Machine/FaultCmds.lean ====
section
/-! DEFINITION. Blotter and Seal: opcode-table rows ECC_WINDOW to GATE_NONCE_EXPIRY, ECC_CORRECTED, DESCRIPTOR_STORE_RELOADED and KEY_RELOADED (R402–R421). -/

namespace Sys2Proof.Machine

/-! ### Memory errors (R405, R406) -/

/-- The corrected-error block of a place (R405). -/
def eccBlock : EccSite → Fin 8
  | .context _ _ => 0
  | .device _ _ _ => 0
  | .viContext _ _ => 0
  | .qpContext _ _ => 0
  | .engine _ _ => 1
  | .ligature _ _ => 2
  | .margin _ _ _ => 3
  | .palRam _ _ => 4
  | .descriptors _ => 5
  | .prpTable _ _ _ => 6
  | .keySram _ _ => 7

/-- The packed location of a place, at bit level (R24). -/
def eccLoc : EccSite → Nat
  | .context _ l => l % 2 ^ 40
  | .device _ _ l => l % 2 ^ 40
  | .viContext _ l => l % 2 ^ 40
  | .qpContext _ l => l % 2 ^ 40
  | .engine _ l => l % 2 ^ 40
  | .ligature _ l => l % 2 ^ 40
  | .margin _ _ l => l % 2 ^ 40
  | .palRam _ l => l % 2 ^ 40
  | .descriptors l => l % 2 ^ 40
  | .prpTable _ _ l => l % 2 ^ 40
  | .keySram _ l => l % 2 ^ 40

/-- The port an engine serves; the system engines and UP's stand under 0 (R20). -/
def enginePort (e : Fin 96) : PortId := if h : e.val / 4 < 15 then ⟨e.val / 4 + 1, by omega⟩ else 0

/-- The port a memory error concerns, 0 where none does. -/
def eccPort (s : State) : EccSite → PortId
  | .context ctx _ => ((findEp s ctx).map (fun e => e.port)).getD 0
  | .device n _ _ => n
  | .engine e _ => enginePort e
  | .ligature n _ => n
  | _ => 0

/-- ECC_COUNT of a block (R404). -/
def eccReg (b : Fin 8) : Nat := 0x2010 + 4 * b.val

/-- A location at the level of its tile: every finer field all ones (R25). -/
def tileOf (loc : Nat) : Nat := loc / 2 ^ 28 * 2 ^ 28 + (2 ^ 28 - 1)

/-- A whole word: the bit field reads 0x1FF (R23). -/
def wordOf (loc : Nat) : Nat := loc / 512 * 512 + 511

/-- A correction counts in its block, and once Boot has ended in the block's window; the one that passes ECC_THRESH is reported as class 1 (R405). A Margin word counts in MARGIN_ECC too (R275). -/
def eccCorrected (s : State) (site : EccSite) : State :=
  let b := eccBlock site
  let s1 := rcCount s (eccReg b) 0
  let s2 := if b = 3 then rcCount s1 0x50038 0 else s1
  if ¬ s.modes.booted then s2
  else
    let n := s.blot.window.get b + 1
    let passed := decide (eccThresh s < n) && !s.blot.reported.get b
    let s3 : State := { s2 with blot := { s2.blot with window := vmod s2.blot.window b (fun _ => n), reported := vmod s2.blot.reported b (fun r => r || passed) } }
    if passed then faultReport s3 (tileOf (eccLoc site), 3) 1 .warning (eccPort s site) else s3

/-- A single-bit error is corrected, on a read or by the scrub (R23, R405). -/
def execEccCorrected (t : Nat) (site : EccSite) (s : State) : Host.Outcome State Fault Refusal :=
  act t s fun s => when s.folioOn s fun s => eccCorrected s site

/-- A 60 min window ends: every block's count starts at zero, and may report again (R405). -/
def execEccWindow (t : Nat) (s : State) : Host.Outcome State Fault Refusal :=
  act t s fun s => when (s.folioOn && s.modes.booted && decide (s.blot.windowEnd ≤ s.now)) s fun s =>
    { s with blot := { s.blot with window := Vector.replicate 8 0, reported := Vector.replicate 8 false, windowEnd := s.blot.windowEnd + ticksS 3600 } }

/-! ### Engine restarts (R407, R408) -/

/-- The restarts of a cluster within the last 600 s. -/
def recentRestarts (s : State) (c : Fin 24) : List Nat := ((s.clusters.get c).restarts).filter (fun r => decide (s.now ≤ r + ticksS 600))

/-- The next restart in the cluster would be the third within 600 s, and fails it (R408). -/
def thirdRestart (s : State) (e : Fin 96) : Bool := decide (2 ≤ (recentRestarts s (engineCluster e)).length)

/-- The transfer in flight on an endpoint completes with TRANSACTION_ERROR, which halts bulk and interrupt endpoints (R176, R406, R407). -/
def failFlight (s : State) (ctx : Nat) : State :=
  match findEp s ctx with
  | none => s
  | some e =>
    match e.queue with
    | x :: _ => if x.begun then concludeXfer s ctx x ccTransaction else s
    | [] => s

/-- The endpoints a Nib engine runs: control and bulk for the asynchronous Nib of a port, interrupt and isochronous for the periodic one. -/
def nibEps (s : State) (e : Fin 96) : List Nat :=
  if decide (e.val / 4 < 15) && decide (e.val % 4 < 2) then
    ((portEps s (enginePort e)).filter (fun y => (y.type == 1 || y.type == 3) == (e.val % 4 == 1))).map (fun y => y.ctx)
  else []

/-- An engine restarts: counted, its transfers in flight over (R407). -/
def engineRestart (s : State) (e : Fin 96) : State :=
  let c := engineCluster e
  let s1 := rcCount s 0x2030 0
  let s2 : State := { s1 with engines := vmod s1.engines e (fun x => { x with restarting := true })
                              clusters := vmod s1.clusters c (fun x => { x with restarts := recentRestarts s c ++ [s.now] }) }
  (nibEps s2 e).foldl failFlight s2

/-- A watchdog expires: class 3 and a restart, or at the third within 600 s class 5 and the cluster's failure (R407, R408). The engines of a failed cluster are stopped with their watchdogs disarmed. -/
def execWatchdogExpiry (t : Nat) (engine : Fin 96) (s : State) : Host.Outcome State Fault Refusal :=
  act t s fun s => when (s.folioOn && s.modes.mode != .standby && engineOn s engine) s fun s =>
    if thirdRestart s engine then clusterFail s (engineCluster engine) 5 (clusterPlace (engineCluster engine).val)
    else engineRestart (faultReport s (engineTile (engine.val / 4) (engine.val % 4)) 3 .warning (enginePort engine)) engine

/-- The restart completes, and the engine resumes its work (R407). -/
def execEngineRestartComplete (t : Nat) (engine : Fin 96) (s : State) : Host.Outcome State Fault Refusal :=
  act t s fun s => when (s.folioOn && (s.engines.get engine).restarting) s fun s =>
    { s with engines := vmod s.engines engine (fun x => { x with restarting := false }) }

/-! ### Uncorrectable errors (R406) -/

/-- Remove the element at an index. -/
def dropAt {α : Type} (xs : List α) (i : Nat) : List α := xs.take i ++ xs.drop (i + 1)

/-- A notice with an uncorrectable word is discarded whole; the open one leaves ABORTED. Index 0 of the board queue is its open notice, if any (R275). -/
def dropNotice (s : State) (q : Fin 65) (i : Nat) : State :=
  let s1 := rcCount s 0x50038 16
  if q = boardQueue ∧ s.margin.opened.isSome then
    if i = 0 then { s1 with margin := { s1.margin with opened := none, wordIndex := 0, aborted := true } }
    else setQueue s1 q (fun x => { x with notices := dropAt x.notices (i - 1) })
  else setQueue s1 q (fun x => { x with notices := dropAt x.notices i })

/-- A RAM record with an uncorrectable error is discarded; an unpersisted one counts as displaced (R368). -/
def dropRam (s : State) (seq : Nat) : State :=
  match s.pal.ram.find? (fun r => r.record.seq == some seq) with
  | none => s
  | some r =>
    let s1 : State := { s with pal := { s.pal with ram := eraseRam s.pal.ram r } }
    if r.persisted then s1 else countLoss s1 r.record.sev

/-- The containment of an uncorrectable error, by what the word holds (R406). -/
def contain (s : State) : EccSite → State
  | .context ctx _ =>
    match findEp s ctx with
    | none => s
    | some e => haltEp (dropStash (failFlight s e.ctx) ctx 4) ctx
  | .device n dev _ => releaseDevice s n dev ccTransaction 2
  | .viContext v _ => unbindVi s v
  | .qpContext q _ => if slotBound s q then unbindVi s (s.qps.get q).vi else freeSlot s q 0
  | .engine e _ =>
    if ¬ engineOn s e then s
    else if thirdRestart s e then clusterFail s (engineCluster e) 5 (clusterPlace (engineCluster e).val)
    else engineRestart s e
  | .ligature n _ => if n.val = 0 then s else emptyLig s n
  | .margin q i _ => dropNotice s q i
  | .palRam seq _ => dropRam s seq
  | .descriptors _ => { s with blot := { s.blot with descriptorsReloading := true } }
  | .prpTable mac seqno _ =>
    if s.prp.table.any (fun e => e.mac == mac && e.seqno == seqno) then
      rcCount { s with prp := { s.prp with table := s.prp.table.filter (fun e => !(e.mac == mac && e.seqno == seqno)) } } 0x80308 0
    else s
  | .keySram v _ => { s with blot := { s.blot with keysReloading := v.val :: s.blot.keysReloading.filter (fun k => k != v.val) } }

/-- Whether the error fails a cluster, which makes class 2 CRITICAL (R403). -/
def failsCluster (s : State) : EccSite → Bool
  | .engine e _ => engineOn s e && thirdRestart s e
  | _ => false

/-- An uncorrectable error: counted, reported as class 2 on the whole word, contained (R23, R403, R406). -/
def execEccUncorrectable (t : Nat) (site : EccSite) (s : State) : Host.Outcome State Fault Refusal :=
  act t s fun s => when s.folioOn s fun s =>
    let s1 := rcCount s (eccReg (eccBlock site)) 16
    let sv : Sev := if failsCluster s site then .critical else .warning
    contain (faultReport s1 (wordOf (eccLoc site), 1) 2 sv (eccPort s site)) site

/-- The descriptor store has been reloaded: descriptor requests are answered again (R406). -/
def execDescriptorStoreReloaded (t : Nat) (s : State) : Host.Outcome State Fault Refusal :=
  act t s fun s => when s.folioOn s fun s => { s with blot := { s.blot with descriptorsReloading := false } }

/-- A key has been reloaded from the key store: RTUs checked from now on can pass (R406, R417). -/
def execKeyReloaded (t : Nat) (v : RingId) (s : State) : Host.Outcome State Fault Refusal :=
  act t s fun s => when s.folioOn s fun s => { s with blot := { s.blot with keysReloading := s.blot.keysReloading.filter (fun k => k != v.val) } }

/-! ### Temperature (R409) -/

/-- The ports whose cluster or PHY tile lies in a region. -/
def regionPorts (q : Nat) : Nat := ((List.range 16).filter (fun n => decide (if n = 0 then q = 3 else (n - 1) / 4 = q))).foldl (fun m n => m + 2 ^ n) 0

/-- Hold the clusters of a region at FMIN, or release them. -/
def holdRegion (s : State) (q : Nat) (on : Bool) : State :=
  { s with clusters := Vector.ofFn (fun c => if clusterRegion c.val = q then { s.clusters.get c with heldMin := on } else s.clusters.get c) }

/-- A cluster of the region is held already. -/
def regionHeld (s : State) (q : Nat) : Bool := (List.finRange 24).any (fun c => clusterRegion c.val == q && (s.clusters.get c).heldMin)

/-- The temperature cause of a place sets: bits 0–3 the regions, bit 4 Reservoir. -/
def setHot (s : State) (place : Nat) : State := heatCause { s with blot := { s.blot with hotMask := putBit s.blot.hotMask place true } }

/-- A Folio region has been above 115 °C, or 125 °C, for 10 ms. -/
def regionHot (s : State) (q : Nat) (hot : Bool) : State :=
  let held := regionHeld s q
  let place := (location 5 0 q 0 0 0 0 0, 5)
  let s1 := holdRegion s q true
  if hot then
    if maskBit s.blot.hotMask q then s1
    else enterQuarantine (faultReport (setHot s1 q) place 7 .critical 0) (regionPorts q) false
  else if held then s1
  else faultReport s1 place 7 .warning 0

/-- Reservoir has been above 125 °C for 10 ms: it switches off every path itself, and Folio hears of it where it runs (R409, R410). -/
def reservoirHot (s : State) : State :=
  if maskBit s.blot.hotMask 4 then s
  else
    let s1 := setHot s 4
    if ¬ s.folioOn then eachPort s1 (fun u n => if pathLive u n then gateOff u n true .off else u)
    else if s.modes.mode = .standby then holdFault s1 .heat
    else enterQuarantine (faultReport s1 (location 6 1 0 0 0 0 0 0, 6) 7 .critical 0) allPorts false

/-- A place has been above 115 or 125 °C for 10 ms; temperatures in 1/16 °C. Places 0–3 are Folio's regions, 4 is Reservoir. -/
def execTemperatureExceeded (t : Nat) (place : Fin 5) (temp : Int) (s : State) : Host.Outcome State Fault Refusal :=
  act t s fun s =>
    if place.val = 4 then when (s.input.state != .off && decide (2000 < temp)) s reservoirHot
    else when (s.folioOn && s.modes.mode != .standby && decide (1840 < temp)) s fun s => regionHot s place.val (decide (2000 < temp))

/-- Below 105 °C the cause and the hold at FMIN clear (R409). -/
def execTemperatureCleared (t : Nat) (place : Fin 5) (temp : Int) (s : State) : Host.Outcome State Fault Refusal :=
  act t s fun s => when (decide (temp < 1680)) s fun s =>
    let s1 := heatCause { s with blot := { s.blot with hotMask := putBit s.blot.hotMask place.val false } }
    if place.val = 4 then s1 else holdRegion s1 place.val false

/-! ### The exit from Quarantine (R412) -/

/-- Every cause bit of QUAR_STATUS reads 0. -/
def noCause (s : State) : Bool := !s.blot.causeFet && !s.blot.causeLink && !s.blot.causeTemp && !s.blot.causeCluster

/-- The mode that follows Quarantine: Brownout while EW is set, else the one held before (R412). -/
def afterQuarantine (s : State) : Mode :=
  let m := s.modes.beforeQuarantine
  if s.input.ew then .brownout else if m = .brownout then s.modes.beforeBrownout else m

/-- Every port is released: those whose sink waits for VBUS are restored under R337 (R412). -/
def releasePorts (s : State) : State :=
  let s1 : State := { s with blot := { s.blot with portMask := 0, inputQ := false, hosts := false, classic := false } }
  recomputeShares (eachPort s1 (fun u n =>
    let p := u.power.get n
    if waitsForVbus u n && !p.latched && !p.fetFail && p.retryDue.isNone then setPower u n (fun p => { p with shedOff := true }) else u))

/-- QUAR_CTRL.EXIT (R412). -/
def quarExit (s : State) : State :=
  if s.modes.mode != .quarantine || !noCause s then refuseMode s 2
  else
    let m := afterQuarantine s
    let from_ := s.modes.beforeQuarantine
    let s1 : State := if m = .brownout ∧ from_ ≠ .brownout then
        rcCount { s with modes := { s.modes with beforeBrownout := if from_ = .suspend then s.modes.beforeSuspend else from_ } } 0x1014 0
      else s
    releasePorts (enterMode s1 m)

/-- QUAR_CTRL.EXIT (R412). -/
def execQuarExit (t : Nat) (path : Path) (s : State) : Host.Outcome State Fault Refusal :=
  privCmd t path 0x203C s quarExit

/-! ### Seal (R415–R419) -/

/-- Both Seal engines work (R407). -/
def sealOn (s : State) : Bool := engineOn s 88 && engineOn s 89

/-- ADVANCE_FLOOR: the fuses rise to the running SVN, in 63 steps (R414, R415). -/
def advanceFloor (s : State) : State := { s with sealUnit := { s.sealUnit with floor := min 63 (max s.sealUnit.floor s.sealUnit.svn) } }
def returnArm (s : State) : State := { s with sealUnit := { s.sealUnit with armed := true, armedAt := s.now } }
def returnDisarm (s : State) : State := { s with sealUnit := { s.sealUnit with armed := false } }

/-- SEAL_CTRL.ADVANCE_FLOOR (R415). -/
def execAdvanceFloor (t : Nat) (path : Path) (s : State) : Host.Outcome State Fault Refusal :=
  privCmd t path 0x10008 s advanceFloor

/-- SEAL_CTRL.RETURN_ARM (R419). -/
def execReturnArm (t : Nat) (path : Path) (s : State) : Host.Outcome State Fault Refusal :=
  privCmd t path 0x10008 s returnArm

/-- SEAL_CTRL.RETURN_DISARM (R419). -/
def execReturnDisarm (t : Nat) (path : Path) (s : State) : Host.Outcome State Fault Refusal :=
  privCmd t path 0x10008 s returnDisarm

/-- 600 s after arming, RETURN_ARMED lapses (R419). -/
def execReturnArmLapse (t : Nat) (s : State) : Host.Outcome State Fault Refusal :=
  act t s fun s => when (s.folioOn && s.sealUnit.armed && decide (s.sealUnit.armedAt + ticksS 600 ≤ s.now)) s returnDisarm

/-- Change Seal's state. -/
def setSeal (s : State) (f : Seal → Seal) : State := { s with sealUnit := f s.sealUnit }

/-- SEAL_KEY_RESULT takes a result (R416). -/
def keyAnswer (s : State) (code : Nat) : State := setSeal s (fun u => { u with keyResult := code })

/-- LOAD: the write of a key set with the VI's key starts; refused while one is in progress (R416, R417). -/
def keyLoad (s : State) (v : RingId) : State :=
  if s.sealUnit.keyOp.isSome then keyAnswer s 2
  else setSeal s (fun u => { u with keyOp := some (.load v u.keyData.toList), keyResult := 0 })

/-- WITHDRAW: the same without the VI's key (R417). -/
def keyWithdraw (s : State) (v : RingId) : State :=
  if s.sealUnit.keyOp.isSome then keyAnswer s 2 else setSeal s (fun u => { u with keyOp := some (.withdraw v), keyResult := 0 })

/-- FUSE_OWNER: SEAL_KEY_DATA becomes the owner key hash, once (R414, R416). -/
def fuseOwner (s : State) : State :=
  if s.sealUnit.keyOp.isSome then keyAnswer s 2
  else if s.sealUnit.ownerKey.isSome then keyAnswer s 4
  else setSeal s (fun u => { u with ownerKey := some u.keyData.toList, keyResult := 1 })

/-- SEAL_KEY_CTRL.LOAD (R417). -/
def execKeyLoad (t : Nat) (path : Path) (v : RingId) (s : State) : Host.Outcome State Fault Refusal :=
  privCmd t path 0x10010 s fun s => keyLoad s v

/-- SEAL_KEY_CTRL.WITHDRAW (R417). -/
def execKeyWithdraw (t : Nat) (path : Path) (v : RingId) (s : State) : Host.Outcome State Fault Refusal :=
  privCmd t path 0x10010 s fun s => keyWithdraw s v

/-- SEAL_KEY_CTRL.FUSE_OWNER (R416). -/
def execFuseOwner (t : Nat) (path : Path) (s : State) : Host.Outcome State Fault Refusal :=
  privCmd t path 0x10010 s fuseOwner

/-- The keys after an operation, and the VI it concerns. -/
def keysAfter (u : Seal) : KeyOp → RingId × Vector (Option (List Word)) 64
  | .load v k => (v, vmod u.keys v (fun _ => some k))
  | .withdraw v => (v, vmod u.keys v (fun _ => none))

/-- A key sector holds the committed set in use. -/
def keySectorUsed (s : State) (k : Option KeySet) : Bool :=
  match k with
  | some x => x.committed && x.verifies && x.generation == s.sealUnit.keyGeneration
  | none => false

/-- Put a set, or nothing, into the key sector that is not in use (R417). -/
def writeKeySector (s : State) (k : Option KeySet) : State :=
  if keySectorUsed s s.nor.keys0 then { s with nor := { s.nor with keys1 := k } } else { s with nor := { s.nor with keys0 := k } }

/-- A VI's authentication lapses: it forfeits, and its slot is disconnected (R145, R418). -/
def lapseAuth (s : State) (v : RingId) : State :=
  if (s.vis.get v).authenticated then
    match (s.vis.get v).qp with
    | some q => disconnectSlot (emit s (.cm (some q) .dreq)) q 5
    | none => setVi (forfeit s (.ring v)) v (fun x => { x with authenticated := false })
  else s

/-- The commit of a key set completes: the keys take effect in this tick, SEAL_KEY_DATA clears, and the authentication of the VI concerned lapses (R417, R418). -/
def keysCommitted (s : State) (op : KeyOp) : State :=
  let a := keysAfter s.sealUnit op
  let set : KeySet := { generation := s.sealUnit.keyGeneration + 1, committed := true, verifies := true
                        keys := (List.finRange 64).filterMap (fun v => (a.2.get v).map (fun k => (v.val, k))) }
  let s1 := setSeal (writeKeySector s (some set)) (fun u => { u with
    keys := a.2, keyGeneration := u.keyGeneration + 1, keyOp := none, keyResult := 1, keyData := Vector.replicate 8 0 })
  lapseAuth s1 a.1

/-- The commit of a key set completes, or the NOR fails (R416, R417). -/
def execKeySetCommitted (t : Nat) (ok : Bool) (s : State) : Host.Outcome State Fault Refusal :=
  act t s fun s =>
    match s.sealUnit.keyOp with
    | none => s
    | some op => when (s.folioOn && sealOn s) s fun s =>
        if ok then keysCommitted s op else setSeal (writeKeySector s none) (fun u => { u with keyOp := none, keyResult := 3 })

/-! ### The Return gate (R419–R421) -/

/-- The gate function is presented: UP is in DEBUG_UP (R420). -/
def gateOn (s : State) : Bool := s.folioOn && (s.pd.get 0).state == .debugUp && !(s.pd.get 0).detaching

/-- Step 1: the host reads 0x82, and gets a nonce, UNIQUE_ID and RETURN_ARMED, or a STALL after a failure (R420). -/
def execGateNonceRead (t : Nat) (s : State) : Host.Outcome State Fault Refusal :=
  act t s fun s => when (gateOn s && sealOn s) s fun s =>
    if s.sealUnit.gateStalled then emit s .gateStall
    else
      let d := drawMany 8 s
      emit (setSeal d.2 (fun u => { u with nonce := some d.1, nonceAt := s.now })) (.gate d.1 s.sealUnit.uniqueId s.sealUnit.armed)

/-- Step 2: the host writes an authorisation, which spends the nonce and is verified (R420). -/
def execGateAuthorisation (t : Nat) (nonce : List Word) (uid : DWord) (scope : Nat) (s : State) : Host.Outcome State Fault Refusal :=
  act t s fun s => when (gateOn s && s.sealUnit.auth.isNone) s fun s =>
    if s.sealUnit.gateStalled then emit s .gateStall
    else
      let fresh := s.sealUnit.nonce == some nonce && decide (s.now < s.sealUnit.nonceAt + ticksS 60)
      emit (setSeal s (fun u => { u with auth := some (fresh, uid, scope), nonce := none })) .gateAck

/-- Ring VIs lose their transports and classic VIs cease, with nothing written to any host (R394, R400, R421). -/
def dropHosts (s : State) : State :=
  let s1 := ceaseAll (pcieDown s)
  let s2 := eachRing s1 (fun u v => if (u.vis.get v).qp.isSome || (u.vis.get v).enabled then transportLost u v else forfeit u (.ring v))
  { s2 with qps := Vector.replicate 128 qp0, eth := Vector.replicate 2 eth0, vis := Vector.map (fun x => { x with qp := none }) s2.vis }

/-- Every ring VI gets the notices raised for it so far, the mode notice among them, before it forfeits (R400, R421). -/
def lastNotices (s : State) : State := eachRing s (fun u v => deliverAll ((u.margin.queues.get (viQueue v)).notices.length) u v)

/-- UP's debug accessory stays attached, its VBUS off (R287, R421). -/
def upOff (s : State) : State := if pathLive s 0 then gateOff s 0 false .off else s

/-- Return entry, P5 (R421). A Suspend entry in progress is over. -/
def returnEntry (s : State) : State :=
  let s0 : State := { s with modes := { s.modes with suspending := false } }
  let s1 := dropHosts (lastNotices (upOff (applyPortModes (enterMode s0 .ret) false 5)))
  let s2 := persistEverything s1
  let s3 := marker { s2 with pal := { s2.pal with frozen := true, returnLock := true } } 0x0004 .notice [0]
  let s4 := setSeal s3 (fun u => { u with keys := Vector.replicate 64 none, keyOp := none, returnCount := min 16 (u.returnCount + 1) })
  let s5 := setApplied s4 0x30 (reg s4 0x30 &&& 0xFFFFFFFE)
  { s5 with nor := { s5.nor with keys0 := none, keys1 := none } }

/-- SCOPE 2: RETURN_LOCK is cleared by a marker, and the store is frozen no more (R420, R421). -/
def returnRelease (s : State) : State :=
  marker { s with pal := { s.pal with returnLock := false, frozen := false, full := false } } 0x0005 .notice [0]

/-- Return may be entered (R419). -/
def returnOpen (s : State) : Bool :=
  s.sealUnit.armed && (s.modes.mode == .standalone || s.modes.mode == .managed || s.modes.mode == .quarantine)

/-- Steps 3 to 5: verification ends; a failure is class 9, and STALLs until the accessory is reattached (R420). -/
def execGateVerifyDone (t : Nat) (signed : Bool) (s : State) : Host.Outcome State Fault Refusal :=
  act t s fun s =>
    match s.sealUnit.auth with
    | none => s
    | some (fresh, uid, scope) => when (gateOn s && sealOn s) s fun s =>
        let s1 := setSeal s (fun u => { u with auth := none })
        let valid := signed && fresh && uid == s.sealUnit.uniqueId
        if valid && scope == 1 && returnOpen s then returnEntry s1
        else if valid && scope == 2 then returnRelease s1
        else faultReport (setSeal s1 (fun u => { u with gateStalled := true, nonce := none })) (engineTile 22 0) 9 .warning 0

/-- A nonce is valid for 60 s (R420). -/
def execGateNonceExpiry (t : Nat) (s : State) : Host.Outcome State Fault Refusal :=
  act t s fun s => when (s.sealUnit.nonce.isSome && decide (s.sealUnit.nonceAt + ticksS 60 ≤ s.now)) s fun s => setSeal s (fun u => { u with nonce := none })

end Sys2Proof.Machine
end

