-- ==== Sys2Proof/Machine/Hub.lean ====
section
/-! DEFINITION. The classic hubs: what a hub half answers, its descriptors, port power, resets of its ports and of its upstream, the Ligatures and the queue of the Scribe function (R214–R245). -/

namespace Sys2Proof.Machine

/-! ### Answers -/

/-- A classic VI answers its host: it exists and its upstream is not in reset. -/
def clsOn (s : State) (c : ClassicId) : Bool := s.folioOn && (s.cvis.get c).exists_ && !(s.cvis.get c).inReset

/-- Answer the host of a classic VI. -/
def hubSay (s : State) (c : ClassicId) (r : HubReply) : State := emit s (.hub c r)

/-- A port number of a hub request: 1–15. -/
def hubPort (n : PortId) : Bool := n.val != 0

/-- Whether the port counts as owned by the VI in a request (R223). -/
def clsOwns (s : State) (c : ClassicId) (n : PortId) : Bool := hubPort n && (s.own.get n).owner == .classic c && (s.own.get n).state == .owned

/-- The frame of a request for a port: STALL for a port number the hub has not, the effect on an owned port, the other on a port not owned; then the acknowledgement. -/
def portReq (s : State) (c : ClassicId) (n : PortId) (owned other : State → State) : State :=
  if hubPort n then hubSay (if clsOwns s c n then owned s else other s) c .ack else hubSay s c .stall

/-- Two bytes of a 16-bit status. -/
def bytes16 (w : BitVec 16) : List Byte := natBytesLE 2 w.toNat

/-! ### Status (R224, R225) -/

/-- HUB_LOCAL_POWER (R225). -/
def hubLocalPower (s : State) : Bool := lowPower s.modes.mode

/-- wHubStatus and wHubChange of a classic VI. -/
def hubStatusBytes (s : State) (c : ClassicId) : List Byte :=
  let x := s.cvis.get c
  natBytesLE 2 (bnat (hubLocalPower s)) ++ natBytesLE 2 (bnat x.changePower + 2 * bnat x.changeOver)

/-- The port link state of a SuperSpeed hub port, in the codes of USB 3.2. -/
def linkStateCode (s : State) (n : PortId) : Nat :=
  if n.val = 15 ∧ dp15Function s then (if s.func.onSs then 0 else 5)
  else
    match (s.nibs.get n).phaseS with
    | .off => 5
    | .detect => 5
    | .training _ => 7
    | .u0 => 0
    | .u1 => 1
    | .u2 => 2
    | .u3 => 3
    | .resetting _ => 9
    | .failed => 6

/-- wPortStatus and wPortChange of one hub half: the actual state of an owned port, nothing connected on another (R224, R225). -/
def portStatusBytes (s : State) (c : ClassicId) (n : PortId) (ss : Bool) : List Byte :=
  let w := s.cviews.get (viewIdx c n)
  if ss then
    let link := if clsOwns s c n then (if w.power then linkStateCode s n else 4) else 5
    let st := if clsOwns s c n then put16 (put16 (put16 (put16 w.statusS 5 false) 6 false) 7 false) 8 false else 0
    natBytesLE 2 (st.toNat + 32 * link + 512 * bnat w.power) ++ bytes16 w.changeS
  else
    natBytesLE 2 ((if clsOwns s c n then w.status2.toNat else 0) + 256 * bnat w.power) ++ bytes16 w.change2

/-! ### Descriptors (R219–R222, R243) -/

/-- The bytes of a literal list. -/
def lit (xs : List Nat) : List Byte := xs.map (BitVec.ofNat 8)

/-- The device descriptor of a hub half or of the Scribe function. -/
def deviceDescriptor (s : State) (c : ClassicId) (h : HubHalf) : List Byte :=
  let hs := (s.cvis.get c).speed2 == 3
  let onSs := h == .ss || (h == .func && s.func.onSs)
  let cls := if h = .func then 0 else 9
  let proto := if h = .func then 0 else if h = .ss then 3 else if hs then 2 else 0
  let pid := if h = .func then rfld s 0xA0008 16 16 else if h = .ss then rfld s 0xA0004 16 16 else rfld s 0xA0008 0 16
  lit [18, 1] ++ natBytesLE 2 (if onSs then 0x0320 else 0x0210) ++ lit [cls, 0, proto, if onSs then 9 else 64]
    ++ natBytesLE 2 (rfld s 0xA0004 0 16) ++ natBytesLE 2 pid ++ natBytesLE 2 (fld s.sealUnit.fwSet 0 16) ++ lit [1, 2, 3, 1]

/-- A configuration descriptor's first nine bytes. -/
def configHead (total attrs : Nat) : List Byte := lit [9, 2] ++ natBytesLE 2 total ++ lit [1, 1, 0, attrs, 0]

/-- An interface and its interrupt endpoint of a hub half. -/
def hubInterface (alt proto attrs interval : Nat) : List Byte := lit [9, 4, 0, alt, 1, 9, 0, proto, 0] ++ lit [7, 5, 0x81, attrs, 2, 0, interval]

/-- The Scribe function's configuration (R243). -/
def funcConfig (s : State) (c : ClassicId) : List Byte :=
  let mps := if s.func.onSs then 1024 else if (s.cvis.get c).speed2 = 3 then 512 else 64
  let ep := fun (a : Nat) => lit [7, 5, a, 2] ++ natBytesLE 2 mps ++ lit [0] ++ (if s.func.onSs then lit [6, 0x30, 0, 0, 0, 0] else [])
  let body := lit [9, 4, 0, 0, 2, 0xFF, 0, 1, 0] ++ ep 0x01 ++ ep 0x82
  configHead (9 + body.length) 0xC0 ++ body

/-- The configuration of a hub half (R220), or of the function. The endpoint of the SuperSpeed half is of the notification kind, as USB 3.2 has it. -/
def configDescriptor (s : State) (c : ClassicId) (h : HubHalf) : List Byte :=
  match h with
  | .func => funcConfig s c
  | .ss => configHead 31 0xE0 ++ hubInterface 0 0 0x13 12 ++ lit [6, 0x30, 0, 0, 2, 0]
  | .usb2 =>
    if (s.cvis.get c).speed2 = 3 then configHead 41 0xE0 ++ hubInterface 0 1 3 12 ++ hubInterface 1 2 3 12
    else configHead 25 0xE0 ++ hubInterface 0 0 3 255

/-- The BOS descriptor (R221), its sublink attributes laid out as USB 3.2 has them. -/
def bosDescriptor (c : ClassicId) : List Byte :=
  lit [5, 15, 62, 0, 4] ++ lit [7, 16, 2, 2, 0, 0, 0] ++ lit [10, 16, 3, 0, 0x0E, 0, 1, 2, 100, 0]
    ++ lit [20, 16, 4, 0] ++ natBytesLE 8 Config.uniqueId.toNat ++ lit [0x4B, 0x52, 0x56, 0x16, 0x64, 0, 0, 1 + c.val]
    ++ lit [20, 16, 10, 0] ++ natBytesLE 4 0x21 ++ natBytesLE 2 0x1101 ++ lit [0, 0] ++ natBytesLE 4 0x00050031 ++ natBytesLE 4 0x000A4032

/-- The hub descriptor (R222). -/
def hubDescriptor (s : State) (ss : Bool) : List Byte :=
  let dp15 := dp15Function s
  let chars := if dp15 then 0x000D else 0x0009
  let removable := natBytesLE 2 (if dp15 then 0x8000 else 0)
  if ss then lit [12, 0x2A, 15] ++ natBytesLE 2 chars ++ lit [50, 0, 4] ++ natBytesLE 2 500 ++ removable
  else lit [11, 0x29, 15] ++ natBytesLE 2 chars ++ lit [50, 0] ++ removable ++ natBytesLE 2 0xFFFF

/-- An upper-case hexadecimal digit. -/
def hexDigit (x : Nat) : Nat := if x < 10 then 48 + x else 55 + x

/-- A string descriptor of one-byte characters. -/
def stringDescriptor (cs : List Nat) : List Byte := lit [2 + 2 * cs.length, 3] ++ cs.flatMap (fun x => natBytesLE 2 x)

/-- Strings 0–3 (R222): 1 and 2 from the configuration image, or the image builder's defaults. -/
def hubString (s : State) (c : ClassicId) (k : Nat) : Option (List Byte) :=
  let image := if s.modes.cfgSlotB then s.nor.cfgB.body else s.nor.cfgA.body
  if k = 0 then some (lit [4, 3, 9, 4])
  else if k = 1 then some (stringDescriptor (if s.modes.defaults then "Gwyndomor".toList.map Char.toNat else Config.hubString image 1))
  else if k = 2 then some (stringDescriptor (if s.modes.defaults then "KRV1664 Hub".toList.map Char.toNat else Config.hubString image 2))
  else if k = 3 then
    some (stringDescriptor (((List.range 16).reverse.map (fun i => hexDigit (Config.uniqueId.toNat / 16 ^ i % 16))) ++ [45, 67, 48 + c.val]))
  else none

/-- The descriptor a request names, if the half has it. -/
def descriptor (s : State) (c : ClassicId) (h : HubHalf) (type index : Nat) : Option (List Byte) :=
  if type = 1 ∧ index = 0 then some (deviceDescriptor s c h)
  else if type = 2 ∧ index = 0 then some (configDescriptor s c h)
  else if type = 3 then hubString s c index
  else if type = 15 ∧ h ≠ .func then some (bosDescriptor c)
  else if type = 0x29 ∧ h = .usb2 then some (hubDescriptor s false)
  else if type = 0x2A ∧ h = .ss then some (hubDescriptor s true)
  else none

/-! ### Ports of a classic owner (R223, R225, R232) -/

/-- Change a port's view of its classic owner. -/
def ownView (s : State) (n : PortId) (f : CView → CView) : State :=
  match classicOwner s n with
  | some c => setView s c n f
  | none => s

/-- PORT_POWER of an owned port goes to 0: its paths are held off and nothing shows as connected (R225). -/
def holdPaths (s : State) (c : ClassicId) (n : PortId) : State :=
  let s1 := setView s c n (fun w => { w with power := false, status2 := put16 0 3 (bit16 w.status2 3), statusS := put16 0 3 (bit16 w.statusS 3) })
  let s2 := emit (setCPort s1 n (fun _ => cport0)) (.line n .ssDisabled)
  setNib s2 n (fun b => { b with phaseS := .off, speedS := 0, defaultS := false })

/-- Every PORT_POWER bit of a VI's view goes to 0 (R226). -/
def clearPowers (s : State) (c : ClassicId) : State :=
  eachPort s (fun u n =>
    if (u.cviews.get (viewIdx c n)).power then
      (if clsOwns u c n then holdPaths u c n else setView u c n (fun w => { w with power := false }))
    else u)

/-- A port whose paths its classic owner holds off (R225). -/
def pathsHeld (s : State) (n : PortId) : Bool :=
  match classicOwner s n with
  | some c => !(s.cviews.get (viewIdx c n)).power
  | none => false

/-- The upstream of a port's classic owner runs at HS. -/
def upstreamHs (s : State) (n : PortId) : Bool :=
  match classicOwner s n with
  | some c => (s.cvis.get c).speed2 == 3
  | none => false

/-- SE0 for 15 ms on an owned port, or a reset of the Scribe function (R232, R242). -/
def hubReset2 (s : State) (c : ClassicId) (n : PortId) : State :=
  let s1 := setView (setCPort s n (fun p => { p with reset2 := some s.now, chirp := false })) c n (fun w => { w with status2 := put16 (put16 w.status2 4 true) 1 false })
  if n.val = 15 ∧ dp15Function s then { s1 with func := { func0 with onSs := s.func.onSs } } else emit s1 (.line n .se0)

/-- A hot or warm reset of an owned port's SuperSpeed link. -/
def hubResetS (s : State) (c : ClassicId) (n : PortId) (warm : Bool) : State :=
  let s1 := setView (setCPort s n (fun p => { p with resetS := some (s.now, warm) })) c n (fun w => { w with statusS := put16 (put16 w.statusS 4 true) 1 false })
  if n.val = 15 ∧ dp15Function s then { s1 with func := { func0 with onSs := s.func.onSs } }
  else emit (setNib s1 n (fun b => { b with phaseS := .resetting s.now })) (.line n (if warm then .warmReset else .hotReset))

/-- The end of a SuperSpeed reset of a classic port: its change bit, and PORT_ENABLE where the link came to U0 (R232). -/
def hubResetSDone (s : State) (n : PortId) (ok : Bool) : State :=
  match (s.cports.get n).resetS with
  | none => s
  | some (_, warm) =>
    ownView (setCPort s n (fun p => { p with resetS := none })) n (fun w =>
      { w with statusS := put16 (put16 (put16 w.statusS 4 false) 1 ok) 0 (ok || bit16 w.statusS 0), changeS := put16 w.changeS (if warm then 5 else 4) true })

/-- The resume of an owned port is over: PORT_SUSPEND clears and its change bit sets (R223, R229). -/
def hubResumed (s : State) (n : PortId) : State :=
  ownView s n (fun w => if bit16 w.status2 2 then { w with status2 := put16 w.status2 2 false, change2 := put16 w.change2 2 true } else w)

/-! ### The upstream (R226, R233, R241) -/

/-- The upstream of a classic VI is reset: the VI forfeits, and the half concerned returns to the Default state (R85, R226, R241). -/
def upstreamReset (s : State) (c : ClassicId) (ss : Bool) : State :=
  let s1 := clearPowers (forfeit s (.classic c)) c
  setCvi s1 c (fun x =>
    if ss then { x with inReset := true, configS := 0, addrS := 0, depth := 0 }
    else { x with inReset := true, config2 := 0, addr2 := 0, multiTt := false, suspended := false })

/-- The upstream's reset ends: the claims of R90 are stamped again, and home returns decided (R241). -/
def upstreamClaims (s : State) (c : ClassicId) : State :=
  let w := Owner.classic c
  let s1 := setCvi s c (fun x => { x with inReset := false })
  let s2 := if claimRight s1 w then
      eachPort s1 (fun u n => if maskBit (claimMask u w) n.val && n.val != 0 then stampP4 u n (.claim w) else u)
    else s1
  homeStamp s2 w

/-! ### Ligature (R235–R237) -/

/-- Change a Ligature. -/
def setLig (s : State) (n : PortId) (f : Lig → Lig) : State := { s with ligs := vmod s.ligs n f }

/-- LIG_COUNT(n). -/
def ligCount (n : PortId) : Nat := 0xA0140 + 4 * (n.val - 1)

/-- A result as its CSPLIT will show it. -/
def ligReply (r : BusResult) : HubReply :=
  match r with
  | .data bs _ => .data bs
  | .babble _ => .err
  | .ack => .ack
  | .nak => .nak
  | .stall => .stall
  | _ => .err

/-- A transaction that a Ligature ran on its FS or LS bus ends: its result is held for the CSPLIT (R235, R236). A stopped Ligature runs none. -/
def ligXact (s : State) (n : PortId) (periodic : Bool) (addr ep : Nat) (isIn : Bool) (r : BusResult) : State :=
  when (ligActive s n && !(s.ligs.get n).stopped) s fun s =>
    setLig s n (fun l =>
      if periodic then { l with per := l.per.map (fun x =>
          if x.addr = addr ∧ x.ep = ep ∧ x.isIn = isIn ∧ x.dropped = false ∧ x.result = none then { x with result := some (ligReply r) } else x) }
      else { l with bufs := l.bufs.map (fun b =>
          if b.addr = addr ∧ b.ep = ep ∧ b.isIn = isIn ∧ b.result = none then { b with result := some (ligReply r), heldAt := s.now } else b) })

/-- The Ligatures a TT request acts on: the port of wIndex under multi-TT, else those of every port the VI owns (R237). -/
def ttPorts (s : State) (c : ClassicId) (n : PortId) : List PortId :=
  if (s.cvis.get c).multiTt then (if clsOwns s c n then [n] else []) else (List.finRange 16).filter (fun k => clsOwns s c k)

/-! ### The Scribe function (R242–R245) -/

/-- Change the function. -/
def setFunc (s : State) (f : Func → Func) : State := { s with func := f s.func }

/-- The classic VI whose port 15 the function is. -/
def funcOwner (s : State) : Option ClassicId := if dp15Function s && (s.own.get 15).state == .owned then classicOwner s 15 else none

/-- A response of 16 bytes (R244). -/
def funcReply (q : FuncReq) (status : Nat) (data : Word) : List Byte :=
  let body := lit [q.op, q.tag, status, 0] ++ natBytesLE 4 (q.addr % 2 ^ 24) ++ bytesLE data
  body ++ natBytesLE 2 (crc16 body).toNat ++ lit [0, 0]

/-- A request of 16 bytes. -/
def funcReq (bs : List Byte) : FuncReq :=
  { op := (bs.getD 0 0).toNat, tag := (bs.getD 1 0).toNat, addr := bytesToNatLE ((bs.drop 4).take 3), data := BitVec.ofNat 32 (bytesToNatLE ((bs.drop 8).take 4)),
    ok := bytesToNatLE ((bs.drop 12).take 2) == (crc16 (bs.take 12)).toNat }

/-- The head of the queue has been answered. -/
def funcPop (s : State) (reply : List Byte) : State := setFunc s (fun f => { f with queue := f.queue.drop 1, replies := f.replies ++ [reply] })

/-- Requests whose check failed, or whose OP is unknown, are answered in their turn and not performed (R244). -/
def funcDrain : Nat → State → State
  | 0, s => s
  | k + 1, s =>
    match s.func.queue with
    | [] => s
    | q :: _ =>
      if ¬ q.ok then funcDrain k (funcPop s (funcReply q 3 q.data))
      else if q.op < 1 ∨ 3 < q.op then funcDrain k (funcPop s (funcReply q 4 q.data))
      else s

/-- The packet size of the function's endpoints (R243). -/
def funcPacket (s : State) (c : ClassicId) : Nat := if s.func.onSs then 1024 else if (s.cvis.get c).speed2 = 3 then 512 else 64

/-- An IN token to endpoint 0x82: STALL while halted or while its Scribe engine restarts, NAK without a response, else the responses packed up to the packet size (R244, R245). -/
def funcInToken (s : State) : State :=
  match funcOwner s with
  | none => s
  | some c =>
    if s.func.inHalt then hubSay s c .stall
    else if (List.finRange 4).any (fun k => (s.engines.get ⟨84 + k.val, by omega⟩).restarting) then hubSay (setFunc s (fun f => { f with inHalt := true })) c .stall
    else if s.func.replies.isEmpty then hubSay s c .nak
    else
      let k := funcPacket s c / 16
      hubSay (setFunc s (fun f => { f with replies := f.replies.drop k })) c (.data (s.func.replies.take k).flatten)

end Sys2Proof.Machine
end

