-- ==== Sys2Proof/Machine/HubCmds.lean ====
section
/-! DEFINITION. The classic hubs: opcode-table rows GET_HUB_STATUS to PERIODIC_RESULT_DISCARD, FUNC_OUT_PACKET, FUNC_ECHO, FUNC_CLEAR_HALT and UPSTREAM_SUSPEND to UPSTREAM_SS_LINK_CHANGE (R214–R245, R399). -/

namespace Sys2Proof.Machine

/-! ### Hub requests (R223, R225) -/

/-- GET_HUB_STATUS (R225). -/
def execGetHubStatus (t : Nat) (c : ClassicId) (s : State) : Host.Outcome State Fault Refusal :=
  act t s fun s => when (clsOn s c) s fun s => hubSay s c (.data (hubStatusBytes s c))

/-- CLEAR_HUB_FEATURE: C_HUB_LOCAL_POWER is feature 0, C_HUB_OVER_CURRENT feature 1. -/
def execClearHubFeature (t : Nat) (c : ClassicId) (feature : Nat) (s : State) : Host.Outcome State Fault Refusal :=
  act t s fun s => when (clsOn s c) s fun s =>
    if feature = 0 then hubSay (setCvi s c (fun x => { x with changePower := false })) c .ack
    else if feature = 1 then hubSay (setCvi s c (fun x => { x with changeOver := false })) c .ack
    else hubSay s c .stall

/-- SET_HUB_FEATURE: STALL. -/
def execSetHubFeature (t : Nat) (c : ClassicId) (s : State) : Host.Outcome State Fault Refusal :=
  act t s fun s => when (clsOn s c) s fun s => hubSay s c .stall

/-- GET_PORT_STATUS (R224). -/
def execGetPortStatus (t : Nat) (c : ClassicId) (n : PortId) (ss : Bool) (s : State) : Host.Outcome State Fault Refusal :=
  act t s fun s => when (clsOn s c) s fun s => hubSay s c (if hubPort n then .data (portStatusBytes s c n ss) else .stall)

/-- SET_PORT_FEATURE(PORT_RESET): a USB 2.0 reset, or a SuperSpeed hot reset (R223, R232). -/
def execSetPortReset (t : Nat) (c : ClassicId) (n : PortId) (ss : Bool) (s : State) : Host.Outcome State Fault Refusal :=
  act t s fun s => when (clsOn s c) s fun s => portReq s c n (fun s => if ss then hubResetS s c n false else hubReset2 s c n) id

/-- 15 ms after SE0 the reset ends, at HS after the chirps (R232). -/
def execClassicPortResetEnd (t : Nat) (n : PortId) (s : State) : Host.Outcome State Fault Refusal :=
  act t s fun s =>
    match (s.cports.get n).reset2 with
    | none => s
    | some since => when (s.folioOn && decide (since + ticksMs 15 ≤ s.now)) s fun s =>
        let b := s.nibs.get n
        let func := n.val == 15 && dp15Function s
        let conn := shownConnected s n false
        let hs := if func then upstreamHs s n else (s.cports.get n).chirp && upstreamHs s n
        let low := !func && b.speed2 == 1
        let s1 := setCPort s n (fun p => { p with reset2 := none, chirp := false })
        let s2 := if func ∨ ¬ b.connect then s1 else setNib s1 n (fun x => { x with speed2 := if hs then 3 else if low then 1 else 2 })
        ownView s2 n (fun w =>
          { w with status2 := put16 (put16 (put16 (put16 w.status2 4 false) 1 conn) 10 (conn && hs)) 9 (conn && low), change2 := put16 w.change2 4 true })

/-- SET_PORT_FEATURE(BH_PORT_RESET): a warm reset (R223). -/
def execSetBhPortReset (t : Nat) (c : ClassicId) (n : PortId) (s : State) : Host.Outcome State Fault Refusal :=
  act t s fun s => when (clsOn s c) s fun s => portReq s c n (fun s => hubResetS s c n true) id

/-- A SuperSpeed reset that has not reached U0 within 100 ms completes with PORT_ENABLE clear (R232). -/
def execSsPortResetTimeout (t : Nat) (n : PortId) (s : State) : Host.Outcome State Fault Refusal :=
  act t s fun s =>
    match (s.cports.get n).resetS with
    | none => s
    | some (since, _) => when (s.folioOn && decide (since + ticksMs 100 ≤ s.now)) s fun s =>
        hubResetSDone (setNib s n (fun b => { b with phaseS := match b.phaseS with
          | .resetting _ => .off
          | p => p })) n false

/-- SET_PORT_FEATURE(PORT_SUSPEND): the port alone stops and suspends (R223). -/
def execSetPortSuspend (t : Nat) (c : ClassicId) (n : PortId) (s : State) : Host.Outcome State Fault Refusal :=
  act t s fun s => when (clsOn s c) s fun s => portReq s c n (fun s =>
    let w := s.cviews.get (viewIdx c n)
    if bit16 w.status2 1 && !bit16 w.status2 2 then
      let s1 := setView s c n (fun w => { w with status2 := put16 w.status2 2 true })
      emit (setNib s1 n (fun b => { b with susp := .entering s.now, l1 := false })) (.line n .sofStop)
    else s) id

/-- CLEAR_PORT_FEATURE(PORT_SUSPEND): resume signalling; PORT_SUSPEND clears when it is over (R223). -/
def execClearPortSuspend (t : Nat) (c : ClassicId) (n : PortId) (s : State) : Host.Outcome State Fault Refusal :=
  act t s fun s => when (clsOn s c) s fun s => portReq s c n (fun s =>
    if bit16 (s.cviews.get (viewIdx c n)).status2 2 then emit (setNib s n (fun b => { b with susp := .resumeK s.now })) (.line n .resumeK) else s) id

/-- CLEAR_PORT_FEATURE(PORT_ENABLE): the USB 2.0 path is disabled (R223). -/
def execClearPortEnable (t : Nat) (c : ClassicId) (n : PortId) (s : State) : Host.Outcome State Fault Refusal :=
  act t s fun s => when (clsOn s c) s fun s => portReq s c n (fun s => emit (setView s c n (fun w => { w with status2 := put16 w.status2 1 false })) (.line n .sofStop)) id

/-- SET_PORT_FEATURE(PORT_POWER): the bit of the view; on an owned port the paths are released and a connection shows, within the 100 ms of R225. -/
def execSetPortPower (t : Nat) (c : ClassicId) (n : PortId) (s : State) : Host.Outcome State Fault Refusal :=
  act t s fun s => when (clsOn s c) s fun s =>
    let on := fun (u : State) => setView u c n (fun w => { w with power := true })
    portReq s c n (fun s =>
      if (s.cviews.get (viewIdx c n)).power then s else viewConnect (viewConnect (on s) n false) n true) on

/-- CLEAR_PORT_FEATURE(PORT_POWER) (R225). -/
def execClearPortPower (t : Nat) (c : ClassicId) (n : PortId) (s : State) : Host.Outcome State Fault Refusal :=
  act t s fun s => when (clsOn s c) s fun s => portReq s c n (fun s => holdPaths s c n) (fun s => setView s c n (fun w => { w with power := false }))

/-- SET_PORT_FEATURE(PORT_TEST): test mode on this port only (R223). -/
def execSetPortTest (t : Nat) (c : ClassicId) (n : PortId) (s : State) : Host.Outcome State Fault Refusal :=
  act t s fun s => when (clsOn s c) s fun s => portReq s c n (fun s =>
    emit (setCPort (setView s c n (fun w => { w with status2 := put16 w.status2 11 true })) n (fun p => { p with test := true })) (.line n .testMode)) id

/-- SET_PORT_FEATURE(PORT_INDICATOR): STALL. -/
def execSetPortIndicator (t : Nat) (c : ClassicId) (_n : PortId) (s : State) : Host.Outcome State Fault Refusal :=
  act t s fun s => when (clsOn s c) s fun s => hubSay s c .stall

/-- SET_PORT_FEATURE(PORT_LINK_STATE): U0 (0), U3 (3), SS.Disabled (4), Rx.Detect (5); any other is unsupported (R223). -/
def execSetPortLinkState (t : Nat) (c : ClassicId) (n : PortId) (state : Nat) (s : State) : Host.Outcome State Fault Refusal :=
  act t s fun s => when (clsOn s c) s fun s =>
    let b := s.nibs.get n
    let up := ssUp b || b.phaseS == .u3
    if state = 0 then portReq s c n (fun s =>
      if up then
        let s1 := emit (setNib s n (fun b => { b with phaseS := .u0 })) (.line n .toU0)
        if b.phaseS = .u3 then setView s1 c n (fun w => { w with changeS := put16 w.changeS 6 true }) else s1
      else s) id
    else if state = 3 then portReq s c n (fun s => if ssUp b then emit (setNib s n (fun b => { b with phaseS := .u3 })) (.line n .toU3) else s) id
    else if state = 4 then portReq s c n (fun s =>
      emit (setView (setNib s n (fun b => { b with phaseS := .failed, defaultS := false })) c n (fun w => { w with statusS := put16 (put16 w.statusS 0 false) 1 false })) (.line n .ssDisabled)) id
    else if state = 5 then portReq s c n (fun s =>
      if up then s else emit (setNib s n (fun b => { b with phaseS := .detect })) (.line n .receiverDetect)) id
    else hubSay s c .stall

/-- SET_PORT_FEATURE of a link setting: kept in the view, which is what the downstream link follows while the VI owns the port (R223). -/
def execSetPortLinkPmFeature (t : Nat) (c : ClassicId) (n : PortId) (feature : PmFeature) (value : Nat) (s : State) : Host.Outcome State Fault Refusal :=
  act t s fun s => when (clsOn s c) s fun s =>
    let put := fun (u : State) => setView u c n (fun w => match feature with
      | .u1Timeout => { w with u1 := value % 256 }
      | .u2Timeout => { w with u2 := value % 256 }
      | .wakeMask => { w with wakeMask := value % 256 }
      | .forceLinkPm => { w with forceLpm := value != 0 })
    portReq s c n put put

/-- CLEAR_PORT_FEATURE(C_PORT_…): a change bit of the view clears; `bit` is its place in wPortChange (R223). -/
def execClearPortChange (t : Nat) (c : ClassicId) (n : PortId) (ss : Bool) (bit : Nat) (s : State) : Host.Outcome State Fault Refusal :=
  act t s fun s => when (clsOn s c) s fun s =>
    let known := if ss then bit == 0 || (decide (3 ≤ bit) && decide (bit ≤ 7)) else decide (bit ≤ 4)
    let put := fun (u : State) => setView u c n (fun w => if ss then { w with changeS := put16 w.changeS bit false } else { w with change2 := put16 w.change2 bit false })
    if known then portReq s c n put put else hubSay s c .stall

/-- GET_PORT_ERR_COUNT: the actual count of an owned port's link errors, which no command of the block reports, is a free value; 0 for another port (R223). -/
def execGetPortErrCount (t : Nat) (c : ClassicId) (n : PortId) (s : State) : Host.Outcome State Fault Refusal :=
  act t s fun s => when (clsOn s c) s fun s =>
    if ¬ hubPort n then hubSay s c .stall
    else if clsOwns s c n then
      let d := draw s
      hubSay d.2 c (.data (natBytesLE 2 d.1.toNat))
    else hubSay s c (.data (natBytesLE 2 0))

/-- SET_HUB_DEPTH: 0–4 (R223). -/
def execSetHubDepth (t : Nat) (c : ClassicId) (depth : Nat) (s : State) : Host.Outcome State Fault Refusal :=
  act t s fun s => when (clsOn s c) s fun s =>
    if depth ≤ 4 then hubSay (setCvi s c (fun x => { x with depth := depth })) c .ack else hubSay s c .stall

/-! ### TT requests (R237) -/

/-- CLEAR_TT_BUFFER: the buffer of the key frees at once (R237). -/
def execClearTtBuffer (t : Nat) (c : ClassicId) (n : PortId) (addr ep type : Nat) (isIn : Bool) (s : State) : Host.Outcome State Fault Refusal :=
  act t s fun s => when (clsOn s c) s fun s =>
    hubSay ((ttPorts s c n).foldl (fun u k =>
      rcCount (setLig u k (fun l => { l with bufs := l.bufs.filter (fun b => !(b.addr == addr && b.ep == ep && b.type == type && b.isIn == isIn)) })) (ligCount k) 24) s) c .ack

/-- RESET_TT: every buffer and queue is emptied, STOPPED clears (R237). -/
def execResetTt (t : Nat) (c : ClassicId) (n : PortId) (s : State) : Host.Outcome State Fault Refusal :=
  act t s fun s => when (clsOn s c) s fun s => hubSay ((ttPorts s c n).foldl (fun u k => rcCount (emptyLig u k) (ligCount k) 24) s) c .ack

/-- STOP_TT: STOPPED until RESET_TT (R237). -/
def execStopTt (t : Nat) (c : ClassicId) (n : PortId) (s : State) : Host.Outcome State Fault Refusal :=
  act t s fun s => when (clsOn s c) s fun s => hubSay ((ttPorts s c n).foldl (fun u k => setLig u k (fun l => { l with stopped := true })) s) c .ack

/-- GET_TT_STATE: STALL (R237). -/
def execGetTtState (t : Nat) (c : ClassicId) (_n : PortId) (s : State) : Host.Outcome State Fault Refusal :=
  act t s fun s => when (clsOn s c) s fun s => hubSay s c .stall

/-! ### Standard requests (R219–R222, R226, R237, R243) -/

/-- GET_DESCRIPTOR: up to `len` bytes of the descriptor, STALL where the half has none (R219–R222). -/
def execGetDescriptor (t : Nat) (c : ClassicId) (half : HubHalf) (type index len : Nat) (s : State) : Host.Outcome State Fault Refusal :=
  act t s fun s => when (clsOn s c && (half != .func || funcOwner s == some c)) s fun s =>
    if s.blot.descriptorsReloading then hubSay s c .stall
    else
      match descriptor s c half type index with
      | some bs => hubSay s c (.data (bs.take len))
      | none => hubSay s c .stall

/-- SET_DESCRIPTOR: STALL (R222). -/
def execSetDescriptor (t : Nat) (c : ClassicId) (s : State) : Host.Outcome State Fault Refusal :=
  act t s fun s => when (clsOn s c) s fun s => hubSay s c .stall

/-- SET_CONFIGURATION of a hub half: configuration 0 or 1, and every PORT_POWER bit clears (R226); of the function: its Configured or Addressed state, halts left in place (R243, R245). -/
def execSetConfiguration (t : Nat) (c : ClassicId) (half : HubHalf) (value : Nat) (s : State) : Host.Outcome State Fault Refusal :=
  act t s fun s => when (clsOn s c && (half != .func || funcOwner s == some c)) s fun s =>
    if 1 < value then hubSay s c .stall
    else
      match half with
      | .usb2 => hubSay (clearPowers (setCvi s c (fun x => { x with config2 := value, multiTt := false })) c) c .ack
      | .ss => hubSay (clearPowers (setCvi s c (fun x => { x with configS := value })) c) c .ack
      | .func => hubSay (setFunc s (fun f => { f with state := if value = 0 then 2 else 3 })) c .ack

/-- SET_INTERFACE: alternate setting 1 of the USB 2.0 half at HS is multi-TT (R220, R237). -/
def execSetInterface (t : Nat) (c : ClassicId) (half : HubHalf) (alt : Nat) (s : State) : Host.Outcome State Fault Refusal :=
  act t s fun s => when (clsOn s c && (half != .func || funcOwner s == some c)) s fun s =>
    let most := if half = .usb2 ∧ (s.cvis.get c).speed2 = 3 then 1 else 0
    if most < alt then hubSay s c .stall
    else if half = .usb2 then hubSay (setCvi s c (fun x => { x with multiTt := alt == 1 })) c .ack
    else hubSay s c .ack

/-! ### The upstream (R229, R233, R241, R242, R399) -/

/-- The upstream's reset is recognised: 2.5 µs of SE0 at FS, or SE0 100 µs after the reversion from HS; the device drives chirp K (R233). A hot or warm reset of the SuperSpeed upstream is recognised as such. The VI forfeits (R241). -/
def execUpstreamResetRecognised (t : Nat) (c : ClassicId) (ss : Bool) (s : State) : Host.Outcome State Fault Refusal :=
  act t s fun s =>
    let x := s.cvis.get c
    let ready := match x.up with
      | .hs => x.suspended
      | .reverted since => decide (since + ticksUs 100 ≤ s.now)
      | _ => true
    when (s.folioOn && x.exists_ && !x.inReset && (ss || ready)) s fun s =>
      let s1 := upstreamReset s c ss
      if ss then s1 else emit (setCvi s1 c (fun x => { x with up := .chirpK s.now })) (.upLine c .chirpK)

/-- 3 ms of idle in HS: the device reverts to FS to test for reset (R233). -/
def execHsIdleReversion (t : Nat) (c : ClassicId) (s : State) : Host.Outcome State Fault Refusal :=
  act t s fun s =>
    let x := s.cvis.get c
    when (clsOn s c && x.up == .hs && !x.suspended) s fun s => emit (setCvi s c (fun x => { x with up := .reverted s.now })) (.upLine c .pullUp)

/-- The device's chirp K ends after 2.0 ms (R233). -/
def execChirpKEnd (t : Nat) (c : ClassicId) (s : State) : Host.Outcome State Fault Refusal :=
  act t s fun s =>
    match (s.cvis.get c).up with
    | .chirpK since => when (s.folioOn && decide (since + ticksMs 2 ≤ s.now)) s fun s => emit (setCvi s c (fun x => { x with up := .watch s.now })) (.upLine c .fsIdle)
    | _ => s

/-- The sixth host chirp, within 2.0 ms: HS terminations (R233). -/
def execHostChirpSixth (t : Nat) (c : ClassicId) (s : State) : Host.Outcome State Fault Refusal :=
  act t s fun s =>
    match (s.cvis.get c).up with
    | .watch since => when (s.folioOn && decide (s.now ≤ since + ticksMs 2)) s fun s =>
        emit (setCvi s c (fun x => { x with up := .hs, speed2 := 3 })) (.upLine c .hsTerminations)
    | _ => s

/-- No host chirps within 2.0 ms: the device stays at FS (R233). -/
def execHostChirpTimeout (t : Nat) (c : ClassicId) (s : State) : Host.Outcome State Fault Refusal :=
  act t s fun s =>
    match (s.cvis.get c).up with
    | .watch since => when (s.folioOn && decide (since + ticksMs 2 ≤ s.now)) s fun s => setCvi s c (fun x => { x with up := .fs, speed2 := 2 })
    | _ => s

/-- The upstream's reset ends: the device runs at the speed reached, and its claims are issued again (R233, R241). -/
def execUpstreamResetEnd (t : Nat) (c : ClassicId) (ss : Bool) (s : State) : Host.Outcome State Fault Refusal :=
  act t s fun s =>
    let x := s.cvis.get c
    when (s.folioOn && x.exists_ && x.inReset) s fun s =>
      let s1 := if ss then s
        else setCvi s c (fun x => match x.up with
          | .hs => { x with speed2 := 3 }
          | _ => { x with up := .fs, speed2 := 2 })
      upstreamClaims s1 c

/-- The upstream suspends: the ports the VI owns lose its SOF and suspend (R229). -/
def execUpstreamSuspend (t : Nat) (c : ClassicId) (s : State) : Host.Outcome State Fault Refusal :=
  act t s fun s => when (clsOn s c && !(s.cvis.get c).suspended) s fun s =>
    eachPort (setCvi s c (fun x => { x with suspended := true })) (fun u n =>
      if clsOwns u c n && treeThere0 (u.nibs.get n) && (u.nibs.get n).susp == .awake then treeSuspend u n else u)
where
  /-- Something is connected on the port. -/
  treeThere0 (b : Nib) : Bool := b.connect || ssUp b || b.phaseS == .u3

/-- Resume from the upstream's host: the hub and the ports it suspended resume, and Suspend ends (R229, R399). -/
def execUpstreamResume (t : Nat) (c : ClassicId) (s : State) : Host.Outcome State Fault Refusal :=
  act t s fun s => when (clsOn s c && (s.cvis.get c).suspended) s fun s =>
    let s1 := wakeSource (setCvi s c (fun x => { x with suspended := false, up := match x.up with
      | .reverted _ => .hs
      | u => u }))
    eachPort s1 (fun u n =>
      let b := u.nibs.get n
      let asleep := match b.susp with
        | .suspended => true
        | .entering _ => true
        | _ => false
      if clsOwns u c n && asleep && !bit16 (u.cviews.get (viewIdx c n)).status2 2 then treeResume u n else u)

/-- An LPM token: ACK only if every port the VI owns is disconnected, disabled, suspended or in L1 (R229). -/
def execUpstreamLpmToken (t : Nat) (c : ClassicId) (s : State) : Host.Outcome State Fault Refusal :=
  act t s fun s => when (clsOn s c && !(s.cvis.get c).suspended) s fun s =>
    let quiet := (List.finRange 16).all (fun n =>
      let w := s.cviews.get (viewIdx c n)
      !clsOwns s c n || !bit16 w.status2 0 || !bit16 w.status2 1 || bit16 w.status2 2 || (s.nibs.get n).l1)
    hubSay s c (if quiet then .ack else .nyet)

/-- The upstream SuperSpeed link reaches or leaves U0; the Scribe function attaches on the half that follows (R218, R242). -/
def execUpstreamSsLinkChange (t : Nat) (c : ClassicId) (up : Bool) (s : State) : Host.Outcome State Fault Refusal :=
  act t s fun s => when (s.folioOn && (s.cvis.get c).exists_ && (s.cvis.get c).ssLink != up) s fun s =>
    let s1 := setCvi s c (fun x => { x with ssLink := up })
    if funcOwner s1 = some c then viewConnectBoth (viewDisconnect (viewDisconnect s1 15 false) 15 true) 15 else s1

/-! ### Splits (R235, R236) -/

/-- A start-split: a buffer or a place in the queue, NAK, or dropped over budget (R235, R236). -/
def execSsplitReceived (t : Nat) (n : PortId) (split : Split) (s : State) : Host.Outcome State Fault Refusal :=
  act t s fun s =>
    match classicOwner s n with
    | none => s
    | some c => when (clsOn s c && ligActive s n) s fun s =>
        let l := s.ligs.get n
        if split.periodic then
          let load := (if l.frame = split.frame then l.load else 0) + split.payload
          let fits := decide (load ≤ 1157)
          let e : LigPer := { addr := split.addr, ep := split.ep, isIn := split.isIn, frame := split.frame, y := split.y, payload := split.payload,
                              dropped := !fits, result := none }
          let s1 := setLig s n (fun l => { l with per := l.per ++ [e], frame := split.frame, load := if fits then load else load - split.payload })
          if fits then s1 else rcCount s1 (ligCount n) 8
        else
          let same := l.bufs.any (fun b => b.addr == split.addr && b.ep == split.ep && b.type == split.type && b.isIn == split.isIn)
          if same ∨ 16 ≤ l.bufs.length then hubSay (rcCount s (ligCount n) 0) c .nak
          else
            let b : LigBuf := { addr := split.addr, ep := split.ep, type := split.type, isIn := split.isIn, result := none, heldAt := 0 }
            hubSay (setLig s n (fun l => { l with bufs := l.bufs ++ [b] })) c .ack

/-- A complete-split: NYET, the result, ERR for a dropped one, or nothing where no buffer matches (R235, R236). -/
def execCsplitReceived (t : Nat) (n : PortId) (split : Split) (s : State) : Host.Outcome State Fault Refusal :=
  act t s fun s =>
    match classicOwner s n with
    | none => s
    | some c => when (clsOn s c && ligActive s n) s fun s =>
        let l := s.ligs.get n
        if split.periodic then
          match l.per.find? (fun e => e.addr == split.addr && e.ep == split.ep && e.isIn == split.isIn && e.frame == split.frame) with
          | none => hubSay s c .silent
          | some e =>
            if e.dropped then hubSay s c .err
            else
              match e.result with
              | some r => hubSay (setLig s n (fun l => { l with per := l.per.erase e })) c r
              | none => hubSay s c .nyet
        else
          match l.bufs.find? (fun b => b.addr == split.addr && b.ep == split.ep && b.type == split.type && b.isIn == split.isIn) with
          | none => hubSay s c .silent
          | some b =>
            match b.result with
            | some r => hubSay (setLig s n (fun l => { l with bufs := l.bufs.erase b })) c r
            | none => hubSay s c .nyet

/-- Non-periodic results unfetched for 10 ms are discarded and counted (R235). -/
def execLigatureResultExpiry (t : Nat) (n : PortId) (s : State) : Host.Outcome State Fault Refusal :=
  act t s fun s => when (s.folioOn && hubPort n) s fun s =>
    let old := (s.ligs.get n).bufs.filter (fun b => b.result.isSome && decide (b.heldAt + ticksMs 10 ≤ s.now))
    old.foldl (fun u b => rcCount (setLig u n (fun l => { l with bufs := l.bufs.erase b })) (ligCount n) 16) s

/-- Periodic splits past microframe Y + 3 of their frame leave the pipeline; a result still held then is discarded and counted (R236). -/
def execPeriodicResultDiscard (t : Nat) (n : PortId) (frame uf : Nat) (s : State) : Host.Outcome State Fault Refusal :=
  act t s fun s => when (s.folioOn && hubPort n) s fun s =>
    let old := (s.ligs.get n).per.filter (fun e => e.frame != frame || decide (e.y + 3 < uf))
    old.foldl (fun u e =>
      let u1 := setLig u n (fun l => { l with per := l.per.erase e })
      if e.result.isSome then rcCount u1 (ligCount n) 16 else u1) s

/-! ### The Scribe function (R244, R245) -/

/-- An OUT packet: its requests are queued, or it draws STALL and halts the endpoint (R245). -/
def execFuncOutPacket (t : Nat) (bytes : List Byte) (s : State) : Host.Outcome State Fault Refusal :=
  act t s fun s =>
    match funcOwner s with
    | none => s
    | some c => when (clsOn s c && inkOn s && s.func.state == 3) s fun s =>
        let k := bytes.length / 16
        let restarting := (List.finRange 4).any (fun i => (s.engines.get ⟨84 + i.val, by omega⟩).restarting)
        if s.func.outHalt then hubSay s c .stall
        else if restarting ∨ bytes.length % 16 ≠ 0 ∨ 32 < s.func.queue.length + k then hubSay (setFunc s (fun f => { f with outHalt := true })) c .stall
        else
          let reqs := (List.range k).map (fun i => funcReq ((bytes.drop (16 * i)).take 16))
          let s1 := setFunc s (fun f => { f with queue := f.queue ++ reqs })
          hubSay (funcDrain 32 s1) c .ack

/-- The head request has OP 3: it is echoed (R244). -/
def execFuncEcho (t : Nat) (s : State) : Host.Outcome State Fault Refusal :=
  act t s fun s =>
    match s.func.queue with
    | q :: _ => when (scribeRuns s && q.ok && q.op == 3) s fun s => funcDrain 32 (funcPop s (funcReply q 0 q.data))
    | [] => s

/-- CLEAR_FEATURE(ENDPOINT_HALT) to an endpoint of the function (R245). -/
def execFuncClearHalt (t : Nat) (isIn : Bool) (s : State) : Host.Outcome State Fault Refusal :=
  act t s fun s =>
    match funcOwner s with
    | none => s
    | some c => when (clsOn s c) s fun s => hubSay (setFunc s (fun f => if isIn then { f with inHalt := false } else { f with outHalt := false })) c .ack

end Sys2Proof.Machine
end

