-- ==== Sys2Proof/Machine/Pd.lean ====
section
/-! DEFINITION. Power Delivery: sending and receiving messages, capabilities sent, requests judged, contracts made, resets, EPR, cables, swaps, attach and detach (R238–R240, R282–R309). -/

namespace Sys2Proof.Machine

/-! ### Sending (R289) -/

/-- Send a message on SOP: its GoodCRC is awaited, and what follows it is remembered. -/
def sendMsg (s : State) (n : PortId) (m : PdMsg) (next : PdThen) : State :=
  emit (setPd s n (fun d => { d with awaiting := some m, tries := 1, thenDo := next })) (.pd n m)

/-- Send a message on SOP'. -/
def sendPrime (s : State) (n : PortId) (m : PdMsg) : State :=
  emit (setPd s n (fun d => { d with awaitP := some m, triesP := 1 })) (.pd n m)

/-- The capabilities are built and sent (R284 steps 6 and 7, R296, R297). -/
def sendCaps (s : State) (n : PortId) : State :=
  let epr := (s.pd.get n).capsEpr
  let caps := buildCaps s n epr
  let s1 := setPd s n (fun d => { d with sent := caps, pdp := capsPdp s n, sendings := d.sendings + 1, capsAt := s.now })
  sendMsg s1 n (if epr then .eprSourceCaps caps else .sourceCaps caps) .negotiate

/-- SEND_CAPS from READY or on a message: the capabilities of the mode the port is in go out at once (R287, R307). Never from a share below 5 W (R296). -/
def enterCaps (s : State) (n : PortId) : State :=
  let s1 := pdState (setPd s n (fun d => { d with capsEpr := d.eprMode, sendings := 0, capsReady := false, exitDue := false, next := none,
                                                  awaiting := none, softAt := none, eprAt := none, swapAt := none })) n .sendCaps
  if 10 ≤ (s.power.get n).share then sendCaps s1 n else s1

/-- READY, with Rp as R291 asks. -/
def toReady (s : State) (n : PortId) : State := kickOwn (presentRp (pdState s n .ready) n) n

/-- The INFO record of R292 and R299, with the message type. -/
def pdInfo (s : State) (n : PortId) (code type : Nat) : State := record s code .info n (s.own.get n).owner .c [loW type]

/-- Not_Supported, recorded with the type of the message it answers (R292). -/
def notSupported (s : State) (n : PortId) (type : Nat) : State := sendMsg (pdInfo s n 0x040A type) n .notSupported .nothing

/-- A reply that is an extended message; a Revision 2.0 partner gets none (R289). -/
def replyExt (s : State) (n : PortId) (type : Nat) (m : PdMsg) : State :=
  if (s.pd.get n).rev2 then notSupported s n type else sendMsg s n m .nothing

/-- Soft_Reset on a protocol error in READY or NEGOTIATE; in TRANSITION, Hard Reset (R289, R307). -/
def protocolError (s : State) (n : PortId) : State :=
  let d := s.pd.get n
  if d.state = .transition then startHardReset s n false
  else if (d.state = .ready ∨ d.state = .negotiate) ∧ d.softAt.isNone ∧ d.awaiting ≠ some .softReset then
    let s1 := rcCount s (portReg n 0x4014) 16
    sendMsg (setPd s1 n (fun d => { d with msgIdTx := 0, msgIdRx := none, eprAt := none, swapAt := none })) n .softReset .softWait
  else s

/-! ### Receiving (R289) -/

/-- The port hears PD messages: the policy runs, PD is enabled, and VBUS is up with a partner to talk to. -/
def hears (s : State) (n : PortId) : Bool :=
  let d := s.pd.get n
  pdEn s n && !d.detaching && match d.state with
    | .sendCaps => true
    | .implicit => true
    | .negotiate => true
    | .transition => true
    | .ready => true
    | _ => false

/-- A message on SOP: GoodCRC; a repeat of the last MessageID is discarded; in TRANSITION it leads to Hard Reset, and elsewhere it is handled. -/
def heard (s : State) (n : PortId) (id : Fin 8) (f : State → State) : State :=
  when (hears s n) s fun s =>
    let s1 := emit s (.pd n .goodCrc)
    if (s.pd.get n).msgIdRx = some id.val then s1
    else
      let s2 := setPd s1 n (fun d => { d with msgIdRx := some id.val, msgSeen := true, hardResets := 0, lastMsg := s.now })
      if (s.pd.get n).state = .transition then startHardReset s2 n false else f s2

/-! ### Reclaim (R304) -/

/-- The share of a reclaimed port is asked back. -/
def unreclaim (s : State) (n : PortId) : State :=
  if (s.pd.get n).reclaim then
    markShare (recomputeShares (setPd s n (fun d => { d with reclaim := false, highSince := none }))) n
  else s

/-! ### PD idle points (R288, R298, R303) -/

/-- At a PDI: Rp follows the share, and capabilities that differ from those last sent, or that software asked for, are to go out. A Revision 2.0 partner's share acts only through Rp. -/
def pdiWork (s : State) (n : PortId) : State :=
  if ¬ pdIdle s n then s
  else
    let s1 := presentRp s n
    let d := s1.pd.get n
    let go := d.state == .ready && !d.detaching && pdEn s1 n && d.capsPending && decide (10 ≤ (s1.power.get n).share)
      && (d.capsForced || buildCaps s1 n d.eprMode != d.sent)
    let s2 := setPd s1 n (fun d => { d with capsPending := false, capsForced := false, capsReady := d.capsReady || go })
    if go && !collisionAvoid s2 n then enterCaps s2 n else kickOwn s2 n

/-! ### Requests (R299) -/

/-- What a request data object asks for of the capabilities last sent, where it is valid (R299; the fields of a request are those of USB PD). -/
def requested (d : PortPd) (rdo : Word) : Option Contract :=
  let pos := fld rdo 28 4
  let obj := if pos = 0 then 0 else d.sent.getD (pos - 1) 0
  let hi := fld obj 30 2
  if obj = 0 then none
  else if hi = 0 then
    let ma := fld rdo 10 10
    if ma ≤ fld obj 0 10 then some { kind := 1, mv := 50 * fld obj 10 10, ma10 := ma, rdo := rdo, pdo := obj, pos := pos } else none
  else if hi ≠ 3 ∨ d.rev2 then none
  else if fld obj 28 2 = 0 then
    let mv := 20 * fld rdo 9 12
    let ma := fld rdo 0 7
    if 100 * fld obj 8 8 ≤ mv ∧ mv ≤ 100 * fld obj 17 8 ∧ ma ≤ fld obj 0 7 then
      some { kind := 2, mv := mv, ma10 := 5 * ma, rdo := rdo, pdo := obj, pos := pos }
    else none
  else
    let mv := 25 * fld rdo 9 12
    let ma := fld rdo 0 7
    if 100 * fld obj 8 8 ≤ mv ∧ mv ≤ 100 * fld obj 17 9 ∧ mv % 100 = 0 ∧ mv * (50 * ma) ≤ 1000000 * fld obj 0 8 then
      some { kind := 3, mv := mv, ma10 := 5 * ma, rdo := rdo, pdo := obj, pos := pos }
    else none

/-- The voltage and current of two contracts are equal (R300). -/
def sameTerms (a b : Contract) : Bool := a.kind == b.kind && a.mv == b.mv && a.ma10 == b.ma10

/-- PS_RDY goes out: the contract is in force, EVENT 8 is raised, and the port is READY; on UP the first contract calls for a DR_Swap (R238, R287, R300). -/
def psRdy (s : State) (n : PortId) : State :=
  match (s.pd.get n).next with
  | none => s
  | some c =>
    let s1 := sendMsg s n .psRdy .nothing
    let due := n.val == 0 && rfld s 0xA0000 1 1 == 1 && !(s.pd.get n).ufp && (s.pd.get n).swapTries == 0 && !(s.pd.get n).swapOver
    let s2 := setPd s1 n (fun d => { d with contract := c, explicitSince := true, next := none, transitionStart := none, swapDue := d.swapDue || due
                                            lowSince := none })
    toReady (powerNotice s2 n 8) n

/-- A Request or EPR_Request is judged: Accept and TRANSITION, or Reject and what R287 makes of it. -/
def judgeRequest (s : State) (n : PortId) (rdo : Word) (allowed : Bool) : State :=
  let s1 := setPd s n (fun d => { d with lastRequest := s.now, firstReq := true })
  let d := s1.pd.get n
  match (if allowed then requested d rdo else none) with
  | some c =>
    let s2 := if bitOf rdo 26 then pdInfo s1 n 0x040A 2 else s1
    sendMsg (pdState (setPd s2 n (fun d => { d with next := some c, transitionStart := none })) n .transition) n .accept .transition
  | none =>
    let s2 := rcCount s1 (portReg n 0x4018) 8
    if d.contract.kind = 0 then sendMsg (pdState (setPd s2 n (fun d => { d with capsAt := s.now, sendings := 0 })) n .sendCaps) n .reject .nothing
    else if d.sent.contains d.contract.pdo then sendMsg (pdState s2 n .ready) n .reject .nothing
    else sendMsg s2 n .reject .hardReset

/-- A Request, in NEGOTIATE or READY, with the revision it carries (R289, R292). -/
def takeRequest (s : State) (n : PortId) (rdo : Word) (rev2 : Bool) : State :=
  let d := s.pd.get n
  if d.state = .negotiate ∨ d.state = .ready then
    let s1 := if rev2 && !d.firstReq then setPd s n (fun d => { d with rev2 := true }) else s
    judgeRequest s1 n rdo (!d.eprMode)
  else s

/-- An EPR_Request: rejected outside EPR mode, and where its copy differs from the object sent (R292, R299). -/
def takeEprRequest (s : State) (n : PortId) (rdo pdo : Word) : State :=
  let d := s.pd.get n
  let pos := fld rdo 28 4
  if d.state = .negotiate ∨ d.state = .ready then
    judgeRequest s n rdo (d.eprMode && pos != 0 && d.sent.getD (pos - 1) 0 == pdo)
  else s

/-! ### Transitions (R300) -/

/-- A voltage that only EPR offers as a fixed voltage. -/
def eprVolt (mv : Nat) : Bool := decide (20000 < mv)

/-- The voltage a transition starts from: that of the contract in force, or 5 V. -/
def fromMv (d : PortPd) : Nat := if d.contract.kind = 0 then 5000 else d.contract.mv

/-- The bound of a transition in ms (R300). -/
def transitionBound (d : PortPd) (c : Contract) : Nat :=
  let a := fromMv d
  let change := max a c.mv - min a c.mv
  if c.kind = 2 then (if change ≤ 500 then 25 else 260)
  else if c.kind = 3 then (if change ≤ 1000 then 50 else 650)
  else if eprVolt a || eprVolt c.mv then 650 else 260

/-- The window of a contract: vSafe5V for 5 V, ±5 % otherwise (USB PD). -/
def inContractWindow (c : Contract) (mv : Nat) : Bool :=
  if c.kind = 1 ∧ c.mv = 5000 then decide (4750 ≤ mv) && decide (mv ≤ 5500)
  else decide (95 * c.mv ≤ 100 * mv) && decide (100 * mv ≤ 105 * c.mv)

/-! ### EPR (R301) -/

/-- The decision of EPR entry: the cable and VCONN allow it, or they do not. -/
def eprDecide (s : State) (n : PortId) : State :=
  let d := s.pd.get n
  let s1 := setPd s n (fun d => { d with eprAt := none })
  if d.cable ≠ 3 ∨ ¬ d.vconnOn then sendMsg (rcCount s1 (portReg n 0x4018) 16) n (.eprMode 4 1) .nothing
  else sendMsg (markCaps (setPd s1 n (fun d => { d with eprMode := true, lastMsg := s.now })) n true) n (.eprMode 3 0) .nothing

/-- Enter Acknowledged is through: the decision follows, once discovery has ended (R301 step 2). -/
def eprAcked (s : State) (n : PortId) : State :=
  let s1 := setPd s n (fun d => { d with eprAt := some s.now })
  if (s.pd.get n).discovering then s1 else eprDecide s1 n

/-- EPR mode ends, on the sink's word or the cable's: SPR capabilities, or Hard Reset where the contract is EPR (R301). -/
def eprExit (s : State) (n : PortId) (own : Bool) : State :=
  if 8 ≤ (s.pd.get n).contract.pos then startHardReset s n false
  else kickOwn (markCaps (setPd s n (fun d => { d with eprMode := false, exitDue := d.exitDue || own })) n true) n

/-! ### Cables (R294, R295) -/

/-- The classification of an e-marker: VBUS Current Handling, Maximum VBUS Voltage and EPR Capable, where USB PD puts them (R295). -/
def classify (vdo : Word) : Nat :=
  if fld vdo 5 2 = 1 then 1 else if fld vdo 5 2 = 2 then (if fld vdo 9 2 = 3 ∧ bitOf vdo 17 then 3 else 2) else 0

/-- Discovery ends: an EPR entry that waited for it is decided. -/
def discoveryEnd (s : State) (n : PortId) : State :=
  let s1 := setPd s n (fun d => { d with discovering := false })
  if (s.pd.get n).eprAt.isSome then eprDecide s1 n else s1

/-- Discover Identity on SOP' goes out (R294). -/
def discover (s : State) (n : PortId) : State :=
  sendPrime (setPd s n (fun d => { d with discovering := true, discoveries := d.discoveries + 1, discAt := s.now })) n .discoverIdentityCable

/-! ### GoodCRC (R289) -/

/-- The message in flight has been acknowledged: what follows it. -/
def acknowledged (s : State) (n : PortId) : State :=
  let d := s.pd.get n
  let s1 := setPd s n (fun d => { d with awaiting := none, tries := 0, thenDo := .nothing, msgIdTx := (d.msgIdTx + 1) % 8 })
  match d.thenDo with
  | .nothing => kickOwn s1 n
  | .negotiate => if d.state = .sendCaps then pdState s1 n .negotiate else kickOwn s1 n
  | .transition =>
    match d.next with
    | some c => if sameTerms c d.contract then psRdy s1 n else setPd s1 n (fun d => { d with acceptAcked := s.now })
    | none => s1
  | .hardReset => startHardReset s1 n false
  | .caps => enterCaps s1 n
  | .softWait => setPd s1 n (fun d => { d with softAt := some s.now })
  | .eprDecide => eprAcked s1 n
  | .alert => kickOwn (setPd s1 n (fun d => { d with alert := if d.alert = .sent then .ended else d.alert })) n
  | .swap => setPd s1 n (fun d => { d with swapAt := some s.now })

/-- The device's DR_Swap came to nothing (R238): recorded, with the type of the answer, 0 where there was none. -/
def swapRefused (s : State) (n : PortId) (answer : Nat) : State :=
  let s1 := setPd s n (fun d => { d with swapAt := none, swapWait := none, swapDue := false, swapOver := true })
  kickOwn (record s1 0x040B .notice n (s.own.get n).owner .c [loW answer]) n

/-- A message has failed after its third sending (R287, R289). -/
def messageFailed (s : State) (n : PortId) : State :=
  let d := s.pd.get n
  let s1 := rcCount (setPd s n (fun d => { d with awaiting := none, tries := 0, thenDo := .nothing })) (portReg n 0x4014) 24
  match d.thenDo with
  | .negotiate =>
    if d.contract.kind ≠ 0 then startHardReset s1 n false
    else if 50 ≤ d.sendings ∧ ¬ d.explicitSince then pdInfo (presentRp (pdState s1 n .implicit) n) n 0x0409 1
    else s1
  | .transition => startHardReset s1 n false
  | .hardReset => startHardReset s1 n false
  | .caps => startHardReset s1 n false
  | .softWait => startHardReset s1 n false
  | .alert => kickOwn (setPd s1 n (fun d => { d with alert := if d.alert = .sent then .ended else d.alert })) n
  | .swap => swapRefused s1 n 0
  | .nothing => protocolError s1 n
  | .eprDecide => protocolError s1 n

/-! ### Data-role swaps (R238–R240, R308) -/

/-- The device takes the UFP role on a port: Cc comes into being, its upstream presents the pull-up. -/
def becomeUfp (s : State) (n : PortId) (c : ClassicId) : State :=
  emit (createClassic (setPd s n (fun d => { d with ufp := true, swapAt := none, swapDue := false, swapWait := none })) c n) (.upLine c .pullUp)

/-- A partner's DR_Swap on UP in READY: always accepted; one that ends C0 stops the device's own swaps until the next attach or hard reset (R238). -/
def swapOnUp (s : State) : State :=
  let d := s.pd.get 0
  let s1 := sendMsg s 0 .accept .nothing
  if d.ufp then dropRole (setPd s1 0 (fun d => { d with swapOver := true, swapDue := false, swapWait := none })) 0
  else becomeUfp s1 0 0

/-- The row of R239 that answers a DR_Swap on DPn. -/
def swapRow (s : State) (n : PortId) : Nat :=
  if (s.pd.get n).ufp then 1
  else match serviceSlot s n with
    | none => 2
    | some c =>
      let a := rfld s (0xA000C + 4 * c.val) 5 2
      if ¬ (s.modes.mode = .standalone ∨ s.modes.mode = .managed) then 3
      else if a = 0 ∨ a = 3 ∨ (a = 2 ∧ ¬ bitOf (reg s 0xA0020) c.val) then 4
      else if rfld s (0xA000C + 4 * c.val) 7 1 = 1 ∧ (s.own.get n).owner ≠ .none then 5
      else if (s.own.get n).state = .barred then 6
      else if (match (s.cvis.get c).ceasedAt with
        | some x => decide (s.now < x + ticksMs 100)
        | none => false) then 7
      else 8

/-- A partner's DR_Swap on DPn in READY, answered by the first row that holds (R239). -/
def swapOnDp (s : State) (n : PortId) : State :=
  let row := swapRow s n
  if row = 1 then dropRole (sendMsg s n .accept .nothing) n
  else if row = 8 then
    match serviceSlot s n with
    | some c => becomeUfp (sendMsg s n .accept .nothing) n c
    | none => s
  else pdInfo (sendMsg s n (if row = 7 then .wait else .reject) .nothing) n 0x040C row

/-! ### Attach and detach (R283, R284, R309) -/

/-- A sink: Rd on exactly one pin. -/
def sinkPattern (a b : Nat) : Bool := (a == 1) != (b == 1)

/-- A pattern that starts an attach. -/
def attachPattern (a b : Nat) : Bool := sinkPattern a b || (a == 1 && b == 1) || (a == 2 && b == 2)

/-- The attach of a sink is stamped: partner, orientation, powered cable; the converter is enabled; it wakes Suspend (R284 step 2, R399). -/
def attachSink (s : State) (n : PortId) : State :=
  let d := s.pd.get n
  let onTwo := d.cc2 == 1
  let ra := if onTwo then d.cc1 == 2 else d.cc2 == 2
  let s1 := clearPd (wakeSource s) n .startup
  let s2 := setPd s1 n (fun x => { x with orient := onTwo, raSeen := ra, partner := 1, vconnPin := !onTwo, vconnBarred := d.vconnBarred })
  recomputeShares (switchOn (presentRp s2 n) n)

/-- An accessory is recognised (R283, R287). -/
def attachAccessory (s : State) (n : PortId) (audio : Bool) : State :=
  let s1 := setPd (clearPd (wakeSource s) n .accessory) n (fun x => { x with partner := if audio then 2 else 3 })
  let code := if audio then 0x0404 else 0x0405
  recomputeShares (recordRes (presentRp s1 n) (recPlace code n) code (if audio then .info else .notice) n .c [])

/-- UP's debug accessory: vSafe5V at default Rp, where UP may have it (R283, R287); its gate function starts afresh (R420). -/
def attachDebugUp (s : State) : State :=
  let s0 : State := { s with sealUnit := { s.sealUnit with gateStalled := false, nonce := none, auth := none } }
  let s1 := recomputeShares (presentRp (setPd (clearPd s0 0 .debugUp) 0 (fun x => { x with partner := 3 })) 0)
  if 9 ≤ (s1.power.get 0).share ∧ mayStart s1 0 then switchOn s1 0 else setPower s1 0 (fun p => { p with shedOff := true })

/-- The 150 ms have passed: what attaches, or waits for vSafe0V, for its share, or on UP for a mode of R287. -/
def tryAttach (s : State) (n : PortId) : State :=
  let d := s.pd.get n
  let held := setPd s n (fun d => { d with attachHeld := true })
  if sinkPattern d.cc1 d.cc2 then
    if d.safe0 && decide (implicitHalf d.rpNow ≤ (s.power.get n).share) && mayStart s n then attachSink s n else held
  else if d.cc1 = 2 ∧ d.cc2 = 2 then attachAccessory s n true
  else if n.val ≠ 0 then attachAccessory s n false
  else if s.modes.mode = .standalone ∨ s.modes.mode = .managed ∨ s.modes.mode = .quarantine then attachDebugUp s
  else held

/-- UNATTACHED, nothing on the pins remembered but their reading (R287). -/
def toUnattached (s : State) (n : PortId) : State := presentRp (clearPd s n .unattached) n

/-- A detach is stamped: VBUS and VCONN off, the contract over, the share returned, the bus gone; UNATTACHED once VBUS is at vSafe0V (R287, R309). -/
def detach (s : State) (n : PortId) : State :=
  let d := s.pd.get n
  let s0 := wakeSource s
  let s1 := if pathLive s0 n then gateOff s0 n false .off else s0
  let s2 := dropRole s1 n
  let s3 := detachPower s2 n
  let had := sinkAttached s3 n && d.state != .debugUp
  let s4 := presentRp (setPd (clearPd s3 n d.state) n (fun x => { x with detaching := true })) n
  let s5 := if had then busGone s4 n 1 else s4
  let s6 := viewOverCurrent s5 n false
  recomputeShares (if d.safe0 then toUnattached s6 n else s6)

/-- The states a detach is seen in (R287). -/
def detachable (d : PortPd) : Bool :=
  !d.detaching && match d.state with
    | .accessory => true
    | .startup => true
    | .sendCaps => true
    | .implicit => true
    | .negotiate => true
    | .transition => true
    | .ready => true
    | .powerOff => true
    | .debugUp => true
    | _ => false

/-- VCONN fails: off until detach, counted, recorded, notified, CABLE 0 (R286). -/
def vconnFault (s : State) (n : PortId) : State :=
  let d := s.pd.get n
  let s1 := rcCount (setPd (vconnOff s n) n (fun d => { d with vconnBarred := true, cable := 0, discovering := false })) (portReg n 0xC008) 8
  let s2 := powerNotice (recordRes s1 (recPlace 0x0402 n) 0x0402 .warning n .c []) n 10
  if 300 < d.contract.ma10 ∨ d.eprMode then startHardReset s2 n false
  else
    let s3 := markCaps s2 n true
    if d.eprAt.isSome then eprDecide s3 n else s3

end Sys2Proof.Machine
end

