-- ==== Sys2Proof/Machine/PdCmds.lean ====
section
/-! DEFINITION. Type-C and Power Delivery: opcode-table rows UP_DR_SWAP_SEND to DR_SWAP, CC_PATTERN_APPEAR, CC_PATTERN_LOST, and VSAFE5V_REACHED to VCONN_FAULT (R238, R239, R278–R309). Voltages are in mV. -/

namespace Sys2Proof.Machine

/-! ### Data-role swaps (R238, R239) -/

/-- The device's first DR_Swap on UP after an attach or a hard reset (R238, R308). -/
def execUpDrSwapSend (t : Nat) (s : State) : Host.Outcome State Fault Refusal :=
  act t s fun s =>
    let d := s.pd.get 0
    when (d.swapDue && d.swapTries == 0 && !d.ufp && !d.swapOver && mayStartOwn s 0) s fun s =>
      sendMsg (setPd s 0 (fun d => { d with swapDue := false, swapTries := 1 })) 0 .drSwap .swap

/-- Rp as the device holds it for a DR_Swap due 100 ms after a Wait: at SinkTxNG for the 18 ms before (R238, R291). -/
def swapRetryTx (s : State) (w : Nat) : State :=
  if (s.pd.get 0).sinkTxNg.isSome ∨ ¬ collisionAvoid s 0 then s
  else presentRp (setPd s 0 (fun d => { d with sinkTxNg := some (w + ticksMs 82) })) 0

/-- 100 ms after a Wait the DR_Swap goes out again (R238). -/
def execDrSwapRetry (t : Nat) (s : State) : Host.Outcome State Fault Refusal :=
  act t s fun s =>
    let d := s.pd.get 0
    match d.swapWait with
    | some w => when (decide (w + ticksMs 100 ≤ s.now) && decide (d.swapTries < 10) && !d.ufp && !d.swapOver && mayStartOwn (swapRetryTx s w) 0) s fun s =>
        sendMsg (setPd (swapRetryTx s w) 0 (fun d => { d with swapWait := none, swapDue := false, swapTries := d.swapTries + 1 })) 0 .drSwap .swap
    | none => s

/-- The PD message type of an answer. -/
def answerType (a : SwapAnswer) : Nat :=
  match a with
  | .accept => 3
  | .wait => 12
  | .reject => 4
  | .notSupported => 16

/-- The partner answers the device's DR_Swap on UP (R238). -/
def execDrSwapAnswer (t : Nat) (id : Fin 8) (answer : SwapAnswer) (s : State) : Host.Outcome State Fault Refusal :=
  act t s fun s => heard s 0 id fun s =>
    let d := s.pd.get 0
    if d.swapAt.isNone then protocolError s 0
    else
      match answer with
      | .accept => kickOwn (becomeUfp s 0 0) 0
      | .wait =>
        if d.swapTries < 10 then kickOwn (setPd s 0 (fun d => { d with swapAt := none, swapWait := some s.now })) 0
        else swapRefused s 0 (answerType .wait)
      | .reject => swapRefused s 0 (answerType .reject)
      | .notSupported => swapRefused s 0 (answerType .notSupported)

/-- A DR_Swap from the partner: in READY under R238 or R239, else a protocol error (R292). -/
def execDrSwap (t : Nat) (port : PortId) (id : Fin 8) (s : State) : Host.Outcome State Fault Refusal :=
  act t s fun s => heard s port id fun s =>
    if (s.pd.get port).state = .ready then (if port.val = 0 then swapOnUp s else swapOnDp s port)
    else protocolError s port

/-! ### CC patterns (R281–R284, R309) -/

/-- Ra alone: a powered cable with nothing at its far end (R283). -/
def cableAlone (cc1 cc2 : Nat) : Bool := (cc1 == 2 && cc2 == 0) || (cc1 == 0 && cc2 == 2)

/-- A pattern appears. An attachable one starts ATTACH_WAIT; one that comes back within the 15 ms of a detach cancels it; any other is debounced from here (R283, R287, R309). -/
def execCcPatternAppear (t : Nat) (port : PortId) (cc1 cc2 : CcPin) (s : State) : Host.Outcome State Fault Refusal :=
  act t s fun s =>
    let d := s.pd.get port
    let read := fun (u : State) => setPd u port (fun d => { d with cc1 := cc1.code, cc2 := cc2.code })
    let wait := fun (u : State) => setPd u port (fun d => { d with state := .attachWait, stateSince := s.now, patternSince := s.now, attachHeld := false, shortMs := 0 })
    let fits := attachPattern cc1.code cc2.code
    if d.state = .unattached then
      if fits then wait (read s)
      else setPd (read s) port (fun d => { d with raSeen := d.raSeen && cableAlone cc1.code cc2.code, patternSince := s.now })
    else if d.detaching then (if fits then wait (read (clearPd s port .attachWait)) else read s)
    else if d.state = .attachWait then
      if d.cc1 = cc1.code ∧ d.cc2 = cc2.code then s else if fits then wait (read s) else s
    else if detachable d then (if fits then setPd (read s) port (fun d => { d with detachSince := none }) else s)
    else s

/-- The pattern is lost in ATTACH_WAIT (R287). -/
def execCcPatternLost (t : Nat) (port : PortId) (cc1 cc2 : CcPin) (s : State) : Host.Outcome State Fault Refusal :=
  act t s fun s => when ((s.pd.get port).state == .attachWait && !attachPattern cc1.code cc2.code) s fun s =>
    setPd (toUnattached s port) port (fun d => { d with cc1 := cc1.code, cc2 := cc2.code, patternSince := s.now })

/-- The sink's Rd, or the accessory's pattern, is gone: the 15 ms of tPDDebounce start (R309). -/
def execDetachDebounceStart (t : Nat) (port : PortId) (cc1 cc2 : CcPin) (s : State) : Host.Outcome State Fault Refusal :=
  act t s fun s => when (s.folioOn && detachable (s.pd.get port) && !attachPattern cc1.code cc2.code) s fun s =>
    setPd s port (fun d => { d with cc1 := cc1.code, cc2 := cc2.code, detachSince := some (d.detachSince.getD s.now) })

/-- The 15 ms have passed: the detach is stamped P2 (R309). -/
def execCcDetach (t : Nat) (port : PortId) (s : State) : Host.Outcome State Fault Refusal :=
  act t s fun s =>
    match (s.pd.get port).detachSince with
    | some x => when (detachable (s.pd.get port) && decide (x + ticksMs 15 ≤ s.now)) s fun s => detach s port
    | none => s

/-- Receptacle VBUS falls below 0.8 V: a detach is complete, or the 800 ms of a hard reset start (R307, R309). -/
def execVsafe0vReached (t : Nat) (port : PortId) (vbus : Nat) (s : State) : Host.Outcome State Fault Refusal :=
  act t s fun s => when (decide (vbus < 800) && !(s.power.get port).gateOn) s fun s =>
    let s1 := setPd (setPower s port (fun p => { p with vbusMv := vbus, discharge := decide (500 < vbus) })) port (fun d => { d with safe0 := true })
    let d := s1.pd.get port
    if d.detaching then toUnattached s1 port
    else if d.hrPhase = .waitSafe0 then setPd s1 port (fun d => { d with hrPhase := .recover, hrSince := s.now })
    else s1

/-! ### Attach and capabilities (R284, R287) -/

/-- The pattern has been stable for 150 ms, or what then held the attach back is gone (R284 step 2, R287). Ra alone shows as RA_SEEN, and is no attach (R283). In Standby an attach is a wake source instead (R400). -/
def execAttachDebounceEnd (t : Nat) (port : PortId) (s : State) : Host.Outcome State Fault Refusal :=
  act t s fun s =>
    let d := s.pd.get port
    when (decide (d.patternSince + ticksMs 150 ≤ s.now) && working s) s fun s =>
      if d.state = .attachWait then tryAttach s port
      else if d.state = .unattached ∧ cableAlone d.cc1 d.cc2 then setPd s port (fun d => { d with raSeen := true })
      else s

/-- Two hard resets in a row with no PD message since attach (R287). -/
def resetTwice (d : PortPd) : Bool := decide (2 ≤ d.hardResets) && !d.msgSeen

/-- vSafe5V: STARTUP ends, in SEND_CAPS or, without PD or after two hard resets that no PD message came between, in IMPLICIT; the buses come up (R164, R284 step 4, R287). -/
def execVsafe5vReached (t : Nat) (port : PortId) (vbus : Nat) (s : State) : Host.Outcome State Fault Refusal :=
  act t s fun s =>
    let p := s.power.get port
    when (p.step == .ramp && p.gateOn && decide (4750 ≤ vbus)) s fun s =>
      let s1 := setPower s port (fun p => { p with phase := .on, step := .idle, vbusMv := vbus, onSince := s.now })
      let s2 := setPd s1 port (fun d => { d with safe0 := false })
      if (s2.pd.get port).state = .startup then
        if pdEn s2 port && !resetTwice (s2.pd.get port) then pdState (setPd s2 port (fun d => { d with sendings := 0, capsEpr := false, firstReq := false })) port .sendCaps
        else presentRp (pdState (setPd s2 port (fun d => { d with hardResets := 0 })) port .implicit) port
      else s2

/-- The first Source_Capabilities of a connection (R284 step 6). -/
def execSourceCapsSend (t : Nat) (port : PortId) (s : State) : Host.Outcome State Fault Refusal :=
  act t s fun s =>
    let d := s.pd.get port
    when (d.state == .sendCaps && !d.detaching && d.sendings == 0 && !d.firstReq && d.awaiting.isNone && decide (10 ≤ (s.power.get port).share)) s fun s => sendCaps s port

/-- 150 ms later they go out again, up to 50 sendings (R284 step 7, R287). -/
def execSourceCapsRetry (t : Nat) (port : PortId) (s : State) : Host.Outcome State Fault Refusal :=
  act t s fun s =>
    let d := s.pd.get port
    when (d.state == .sendCaps && !d.detaching && (decide (0 < d.sendings) || d.firstReq) && decide (d.sendings < 50) && d.awaiting.isNone
          && decide (d.capsAt + ticksMs 150 ≤ s.now) && decide (10 ≤ (s.power.get port).share)) s fun s => sendCaps s port

/-- A GoodCRC on SOP, or on SOP' (R289). -/
def execGoodcrcReceived (t : Nat) (port : PortId) (prime : Bool) (s : State) : Host.Outcome State Fault Refusal :=
  act t s fun s =>
    let d := s.pd.get port
    if prime then
      when d.awaitP.isSome s fun s => setPd s port (fun d => { d with awaitP := none, triesP := 0, msgIdTxP := (d.msgIdTxP + 1) % 8 })
    else when d.awaiting.isSome s fun s => acknowledged s port

/-- No GoodCRC within 1.0 ms: sent again, up to three sendings in all (R289). -/
def execGoodcrcTimeout (t : Nat) (port : PortId) (prime : Bool) (s : State) : Host.Outcome State Fault Refusal :=
  act t s fun s =>
    let d := s.pd.get port
    if prime then
      match d.awaitP with
      | none => s
      | some m =>
        if d.triesP < 3 then emit (setPd s port (fun d => { d with triesP := d.triesP + 1 })) (.pd port m)
        else rcCount (setPd s port (fun d => { d with awaitP := none, triesP := 0 })) (portReg port 0x4014) 24
    else
      match d.awaiting with
      | none => s
      | some m =>
        if d.tries < 3 then emit (setPd s port (fun d => { d with tries := d.tries + 1 })) (.pd port m)
        else messageFailed s port

/-- 30 ms without the answer awaited: a Request in NEGOTIATE, the Accept of a Soft_Reset, or the answer to a DR_Swap (R238, R287, R307). -/
def execSenderResponseTimeout (t : Nat) (port : PortId) (s : State) : Host.Outcome State Fault Refusal :=
  act t s fun s =>
    let d := s.pd.get port
    let past := fun (x : Nat) => decide (x + ticksMs 30 ≤ s.now)
    match d.softAt, d.swapAt with
    | some x, _ => when (past x) s fun s => startHardReset (setPd s port (fun d => { d with softAt := none })) port false
    | none, some x => when (past x) s fun s => swapRefused s port 0
    | none, none => when (d.state == .negotiate && !d.detaching && d.awaiting.isNone && past d.stateSince) s fun s => startHardReset s port false

/-! ### Requests and transitions (R299, R300) -/

/-- A Request (R299). -/
def execRequest (t : Nat) (port : PortId) (id : Fin 8) (rdo : Word) (rev2 : Bool) (s : State) : Host.Outcome State Fault Refusal :=
  act t s fun s => heard s port id fun s => takeRequest s port rdo rev2

/-- An EPR_Request, with its copy of the object (R299). -/
def execEprRequest (t : Nat) (port : PortId) (id : Fin 8) (rdo pdo : Word) (s : State) : Host.Outcome State Fault Refusal :=
  act t s fun s => heard s port id fun s => takeEprRequest s port rdo pdo

/-- 30 ms after the Accept's GoodCRC, VSET moves to the new contract (R300, R322); the port discharges on the way down (R324). -/
def execTransitionStart (t : Nat) (port : PortId) (s : State) : Host.Outcome State Fault Refusal :=
  act t s fun s =>
    let d := s.pd.get port
    match d.next with
    | none => s
    | some c =>
      when (d.state == .transition && d.awaiting.isNone && d.transitionStart.isNone && decide (d.acceptAcked + ticksMs 30 ≤ s.now)) s fun s =>
        let s1 := setPd s port (fun d => { d with transitionStart := some s.now })
        setPower s1 port (fun p => { p with nominal := c.mv / 20, vset := c.mv / 20, discharge := decide (c.mv + 500 < p.vbusMv) })

/-- VBUS has stood within the new window for 1 ms: PS_RDY (R300). -/
def execPsRdySend (t : Nat) (port : PortId) (vbus : Nat) (s : State) : Host.Outcome State Fault Refusal :=
  act t s fun s =>
    let d := s.pd.get port
    match d.next, d.transitionStart with
    | some c, some x => when (d.state == .transition && inContractWindow c vbus && decide (x + ticksMs 1 ≤ s.now)) s fun s =>
        psRdy (setPower s port (fun p => { p with vbusMv := vbus, discharge := false })) port
    | _, _ => s

/-- The bound of R300 has passed without PS_RDY: counted, recorded, Hard Reset (R287). -/
def execTransitionBoundMissed (t : Nat) (port : PortId) (s : State) : Host.Outcome State Fault Refusal :=
  act t s fun s =>
    let d := s.pd.get port
    match d.next, d.transitionStart with
    | some c, some x => when (d.state == .transition && decide (x + ticksMs (transitionBound d c) ≤ s.now)) s fun s =>
        startHardReset (record (rcCount s (portReg port 0x4018) 24) 0x0408 .warning port (s.own.get port).owner .c []) port false
    | _, _ => s

/-- 18 ms after SinkTxNG the device's own sequence starts: an EPR_Mode (Exit) first where one is due, then the capabilities (R291, R301, R303). -/
def execSinkTxWaitEnd (t : Nat) (port : PortId) (s : State) : Host.Outcome State Fault Refusal :=
  act t s fun s =>
    let d := s.pd.get port
    when (mayStartOwn s port && (d.capsReady || d.exitDue)) s fun s =>
      if d.exitDue then sendMsg (setPd s port (fun d => { d with exitDue := false, capsReady := true })) port (.eprMode 5 0) .nothing
      else enterCaps s port

/-! ### Messages from the sink (R292, R293) -/

/-- Get_Source_Cap: the capabilities of the mode the port is in; it also ends a reclaim (R292, R304). -/
def execGetSourceCap (t : Nat) (port : PortId) (id : Fin 8) (s : State) : Host.Outcome State Fault Refusal :=
  act t s fun s => heard s port id fun s => enterCaps (unreclaim s port) port

/-- Soft_Reset: counted, MessageIDs reset, Accept, then the capabilities; in TRANSITION, Hard Reset (R289, R307). -/
def execSoftReset (t : Nat) (port : PortId) (s : State) : Host.Outcome State Fault Refusal :=
  act t s fun s => when (hears s port) s fun s =>
    let s1 := setPd (emit s (.pd port .goodCrc)) port (fun d => { d with
      msgIdTx := 0, msgIdRx := some 0, msgSeen := true, hardResets := 0, lastMsg := s.now, softAt := none, eprAt := none, swapAt := none })
    if (s.pd.get port).state = .transition then startHardReset s1 port false
    else sendMsg (rcCount s1 (portReg port 0x4014) 16) port .accept .caps

/-- A message the policy did not expect: the Accept of the device's own Soft_Reset, or a protocol error (R289, R307). -/
def execPdMessageUnexpected (t : Nat) (port : PortId) (id : Fin 8) (msg : PdRx) (s : State) : Host.Outcome State Fault Refusal :=
  act t s fun s => heard s port id fun s =>
    if msg = .accept ∧ (s.pd.get port).softAt.isSome then enterCaps (setPd s port (fun d => { d with softAt := none })) port
    else protocolError s port

/-- EPR_Mode (Enter) (R301). -/
def execEprModeEnter (t : Nat) (port : PortId) (id : Fin 8) (s : State) : Host.Outcome State Fault Refusal :=
  act t s fun s => heard s port id fun s =>
    let d := s.pd.get port
    if d.state ≠ .ready ∨ d.rev2 ∨ d.contract.kind = 0 ∨ 8 ≤ d.contract.pos ∨ d.eprMode then protocolError s port
    else if !eprEn s port || decide (maxW s port ≤ 100) then sendMsg s port (.eprMode 4 4) .nothing
    else sendMsg s port (.eprMode 2 0) .eprDecide

/-- EPR_Mode (Exit) from the sink (R301). -/
def execEprModeExit (t : Nat) (port : PortId) (id : Fin 8) (s : State) : Host.Outcome State Fault Refusal :=
  act t s fun s => heard s port id fun s => if (s.pd.get port).eprMode then eprExit s port false else protocolError s port

/-- EPR_KeepAlive (R302). -/
def execEprKeepalive (t : Nat) (port : PortId) (id : Fin 8) (s : State) : Host.Outcome State Fault Refusal :=
  act t s fun s => heard s port id fun s => sendMsg s port .eprKeepAliveAck .nothing

/-- EPR_Get_Source_Cap: the EPR capabilities while EPR_EN is 1; in EPR mode a request follows them, in SPR mode the port stays as it is (R292). It also ends a reclaim (R304). -/
def execEprGetSourceCap (t : Nat) (port : PortId) (id : Fin 8) (s : State) : Host.Outcome State Fault Refusal :=
  act t s fun s => heard s port id fun s =>
    let s1 := unreclaim s port
    if ¬ eprEn s1 port then notSupported s1 port 17
    else if (s1.pd.get port).eprMode then enterCaps s1 port
    else
      let caps := buildCaps s1 port true
      sendMsg (setPd s1 port (fun d => { d with sent := caps, pdp := capsPdp s1 port })) port (.eprSourceCaps caps) .nothing

/-- A keep-alive timeout, P7: counted, recorded, Hard Reset (R302). -/
def keepAliveOut (s : State) (n : PortId) : State :=
  startHardReset (record (rcCount s (portReg n 0x4018) 0) 0x0407 .notice n (s.own.get n).owner .c []) n false

/-- 900 ms in EPR mode without a message (R302). -/
def execEprKeepaliveTimeout (t : Nat) (port : PortId) (s : State) : Host.Outcome State Fault Refusal :=
  act t s fun s => when (hears s port && (s.pd.get port).eprMode && decide ((s.pd.get port).lastMsg + ticksMs 900 ≤ s.now)) s fun s => keepAliveOut s port

/-- 13.5 s in a PPS contract without a Request (R302). -/
def execPpsTimeout (t : Nat) (port : PortId) (s : State) : Host.Outcome State Fault Refusal :=
  act t s fun s => when (hears s port && (s.pd.get port).contract.kind == 2 && decide ((s.pd.get port).lastRequest + ticksMs 13500 ≤ s.now)) s fun s => keepAliveOut s port

/-- The Power Status field of Status (R306, with USB PD's bits): insufficient external power in Brownout or Hold-up, else a share below MAX_W. -/
def powerStatusByte (s : State) (n : PortId) : Nat :=
  if s.modes.mode = .brownout ∨ s.modes.mode = .holdup then 8 else if (s.power.get n).share < 2 * maxW s n then 4 else 0

/-- Get_Status (R306). -/
def execGetStatus (t : Nat) (port : PortId) (id : Fin 8) (s : State) : Host.Outcome State Fault Refusal :=
  act t s fun s => heard s port id fun s => replyExt s port 18 (.status (powerStatusByte s port))

/-- Get_PPS_Status: measurements in a PPS or AVS contract, else Not_Supported (R292). -/
def execGetPpsStatus (t : Nat) (port : PortId) (id : Fin 8) (s : State) : Host.Outcome State Fault Refusal :=
  act t s fun s => heard s port id fun s =>
    if 2 ≤ (s.pd.get port).contract.kind then replyExt s port 20 (.ppsStatus (s.power.get port).vbusMv (s.power.get port).ampsMa) else notSupported s port 20

/-- Get_Source_Info (R292). -/
def execGetSourceInfo (t : Nat) (port : PortId) (id : Fin 8) (s : State) : Host.Outcome State Fault Refusal :=
  act t s fun s => heard s port id fun s => sendMsg s port (.sourceInfo (maxW s port) (s.pd.get port).pdp (s.pd.get port).pdp) .nothing

/-- Get_Revision (R292). -/
def execGetRevision (t : Nat) (port : PortId) (id : Fin 8) (s : State) : Host.Outcome State Fault Refusal :=
  act t s fun s => heard s port id fun s => sendMsg s port (.revision 0x32100000) .nothing

/-- The VID and the PID of the device descriptor (R219): CH_USB_ID[15:0] and, for the USB 2.0 hub, CH_USB_ID2[15:0]. -/
def usbVid (s : State) : Nat := rfld s 0xA0004 0 16
def usbPid (s : State) : Nat := rfld s 0xA0008 0 16

/-- Get_Source_Cap_Extended (R292). -/
def execGetSourceCapExtended (t : Nat) (port : PortId) (id : Fin 8) (s : State) : Host.Outcome State Fault Refusal :=
  act t s fun s => heard s port id fun s =>
    replyExt s port 17 (.sourceCapsExt (usbVid s) (usbPid s) s.sealUnit.fwSet (fld (viewGlobal s 0x4) 0 8) (min (maxW s port) 100) (if eprEn s port then maxW s port else 0))

/-- Get_Manufacturer_Info (R292). -/
def execGetManufacturerInfo (t : Nat) (port : PortId) (id : Fin 8) (s : State) : Host.Outcome State Fault Refusal :=
  act t s fun s => heard s port id fun s => replyExt s port 6 (.manufacturerInfo (usbVid s) (usbPid s))

/-- A message the device does not support (R292). -/
def execUnsupportedMessage (t : Nat) (port : PortId) (id : Fin 8) (type : Nat) (s : State) : Host.Outcome State Fault Refusal :=
  act t s fun s => heard s port id fun s => notSupported s port type

/-- A message that is not answered; an Alert and a Not_Supported are recorded (R292). -/
def execIgnoredMessage (t : Nat) (port : PortId) (id : Fin 8) (kind : PdIgnored) (s : State) : Host.Outcome State Fault Refusal :=
  act t s fun s => heard s port id fun s =>
    match kind with
    | .alert => pdInfo s port 0x040A 6
    | .notSupported => pdInfo s port 0x040A 16
    | .plain => s

/-- BIST Carrier Mode and Test Data are accepted while VBUS is at vSafe5V; other modes are ignored (R292). -/
def execBist (t : Nat) (port : PortId) (id : Fin 8) (mode : BistMode) (s : State) : Host.Outcome State Fault Refusal :=
  act t s fun s => heard s port id fun s =>
    let v := (s.power.get port).vbusMv
    when (mode != .other && decide (4750 ≤ v) && decide (v ≤ 5500)) s fun s => emit s (.bist port (mode == .carrier))

/-- The four VDOs of Discover Identity (R293; the places of the fields are those of USB PD). -/
def identityVdos (s : State) (n : PortId) : List Word :=
  let ufp := (s.pd.get n).ufp
  [pack [(0, rfld s 0xA0004 0 16), (21, 2), (23, bnat (!ufp)), (27, bnat ufp), (30, bnat ufp), (31, bnat (!ufp))],
   0,
   pack [(0, fld s.sealUnit.fwSet 0 16), (16, rfld s 0xA0004 16 16)],
   if ufp then pack [(0, 2), (24, 5), (29, 3)] else pack [(0, n.val), (24, 3), (29, 2)]]

/-- Discover Identity on SOP: ACK (R293). -/
def execDiscoverIdentity (t : Nat) (port : PortId) (id : Fin 8) (s : State) : Host.Outcome State Fault Refusal :=
  act t s fun s => heard s port id fun s => sendMsg s port (.vdmAck (identityVdos s port)) .nothing

/-- The other structured VDMs on SOP: NAK (R293). -/
def execStructuredVdmNak (t : Nat) (port : PortId) (id : Fin 8) (s : State) : Host.Outcome State Fault Refusal :=
  act t s fun s => heard s port id fun s => sendMsg s port .vdmNak .nothing

/-! ### Cables (R294, R295) -/

/-- VCONN has been on for 50 ms: discovery starts (R284 step 5, R294). -/
def execVconnStable (t : Nat) (port : PortId) (s : State) : Host.Outcome State Fault Refusal :=
  act t s fun s =>
    let d := s.pd.get port
    when (s.folioOn && d.vconnOn && d.raSeen && d.discoveries == 0 && decide (d.vconnSince + ticksMs 50 ≤ s.now)) s fun s => discover s port

/-- 45 ms without an ACK: Discover Identity again, up to 4 sendings before the first Source_Capabilities and 20 in all (R294). In the UFP role only discovery already in progress goes on (R308). -/
def execCableDiscoveryRetry (t : Nat) (port : PortId) (s : State) : Host.Outcome State Fault Refusal :=
  act t s fun s =>
    let d := s.pd.get port
    let first := d.state == .startup || (d.state == .sendCaps && d.contract.kind == 0 && d.sendings == 0)
    when (d.discovering && d.vconnOn && d.awaitP.isNone && decide (d.discAt + ticksMs 45 ≤ s.now)) s fun s =>
      if 20 ≤ d.discoveries then discoveryEnd s port
      else when (if first then decide (d.discoveries < 4) else d.contract.kind != 0) s fun s => discover s port

/-- The cable's ACK: its VDO is kept and classifies it; the capabilities follow; a cable no longer EPR capable ends EPR mode (R295, R301, R303). -/
def execCableIdentityAck (t : Nat) (port : PortId) (id : Fin 8) (vdo : Word) (s : State) : Host.Outcome State Fault Refusal :=
  act t s fun s => when (s.folioOn && (s.pd.get port).vconnOn && (s.pd.get port).discovering) s fun s =>
    let s0 := emit s (.pd port .goodCrc)
    if (s.pd.get port).msgIdRxP = some id.val then s0
    else
      let s1 := markCaps (setPd s0 port (fun d => { d with msgIdRxP := some id.val, cableVdo := vdo, cable := classify vdo, awaitP := none })) port false
      let s2 := discoveryEnd s1 port
      if (s.pd.get port).eprMode && classify vdo != 3 then eprExit s2 port true else s2

/-! ### Resets (R287, R307) -/

/-- A Hard Reset from the sink (R307). -/
def execHardResetReceived (t : Nat) (port : PortId) (s : State) : Host.Outcome State Fault Refusal :=
  act t s fun s => when (sinkAttached s port && pdEn s port && (s.pd.get port).state != .debugUp && (s.pd.get port).state != .powerOff) s fun s => startHardReset s port true

/-- 30 ms into a hard reset VBUS and VCONN go off, and the buses with them (R191, R307). -/
def execHardResetVbusOff (t : Nat) (port : PortId) (s : State) : Host.Outcome State Fault Refusal :=
  act t s fun s =>
    let d := s.pd.get port
    when (d.state == .hardReset && d.hrPhase == .waitOff && decide (d.hrSince + ticksMs 30 ≤ s.now)) s fun s =>
      let s1 := vconnOff (gateOff s port false .off) port
      let s2 := setPd s1 port (fun d => { d with hrPhase := if d.safe0 then .recover else .waitSafe0, hrSince := s.now })
      busGone s2 port 6

/-- 800 ms after vSafe0V the port starts again at STARTUP; where its path may not be switched on, it waits in POWER_OFF (R307, R337). -/
def execSrcRecoverEnd (t : Nat) (port : PortId) (s : State) : Host.Outcome State Fault Refusal :=
  act t s fun s =>
    let d := s.pd.get port
    when (d.state == .hardReset && d.hrPhase == .recover && decide (d.hrSince + ticksMs 800 ≤ s.now)) s fun s =>
      let s1 := setPd s port (fun d => { d with hrPhase := .idle, sendings := 0 })
      if mayStart s1 port && decide (10 ≤ (s1.power.get port).share || 9 ≤ (s1.power.get port).share && rpLevel s1 port == 0) then restorePath s1 port
      else presentRp (pdState (setPower s1 port (fun p => { p with shedOff := true })) port .powerOff) port

/-- The CC pins have been open for 30 ms (R287). -/
def execErrorRecoveryEnd (t : Nat) (port : PortId) (s : State) : Host.Outcome State Fault Refusal :=
  act t s fun s => when ((s.pd.get port).state == .errorRecovery && decide ((s.pd.get port).stateSince + ticksMs 30 ≤ s.now)) s fun s =>
    recomputeShares (toUnattached s port)

/-! ### Alert and reclaim (R304, R305) -/

/-- The Alert of an early warning goes out at a PDI, after the wait of R291 (R305). -/
def execAlertSend (t : Nat) (port : PortId) (s : State) : Host.Outcome State Fault Refusal :=
  act t s fun s => when (((s.pd.get port).alert == .waiting || (s.pd.get port).alert == .due) && sendsAlert s port && mayStartOwn s port) s fun s =>
    sendMsg (setPd s port (fun d => { d with alert := if d.alert = .waiting then .sent else .none })) port (.alert 0x20000000) .alert

/-- Below 50 mA for RECLAIM_S: all but 15 W of the share goes back, and the capabilities follow (R304). -/
def execReclaimTimer (t : Nat) (port : PortId) (s : State) : Host.Outcome State Fault Refusal :=
  act t s fun s =>
    let d := s.pd.get port
    match d.lowSince with
    | some x => when (decide (0 < reclaimS s port) && explicitContract s port && !d.reclaim && decide (x + ticksS (reclaimS s port) ≤ s.now)) s fun s =>
        markShare (recomputeShares (setPd s port (fun d => { d with reclaim := true, highSince := none }))) port
    | none => s

/-- Above 50 mA for 1 s: the share is asked back (R304). -/
def execReclaimRestore (t : Nat) (port : PortId) (s : State) : Host.Outcome State Fault Refusal :=
  act t s fun s =>
    match (s.pd.get port).highSince with
    | some x => when ((s.pd.get port).reclaim && decide (x + ticksS 1 ≤ s.now)) s fun s => unreclaim s port
    | none => s

/-! ### PD_CTRL (R278) -/

/-- PD_CTRL.SEND_CAPS. -/
def pdSendCaps (s : State) (n : PortId) : State := markCaps s n true

/-- PD_CTRL.HARD_RESET: while the port has a connection that runs PD. -/
def pdHardReset (s : State) (n : PortId) : State :=
  when (sinkAttached s n && pdEn s n && (s.pd.get n).state != .debugUp && (s.pd.get n).state != .powerOff) s fun s => startHardReset s n false

/-- PD_CTRL.ERROR_RECOVERY: from any state but DISABLED and CC_FAULT (R307). -/
def pdErrorRecovery (s : State) (n : PortId) : State :=
  if (s.pd.get n).state = .disabled ∨ (s.pd.get n).state = .ccFault then s else recomputeShares (errorRecovery s n)

/-- PD_CTRL.SEND_CAPS (R303). -/
def execPdSendCaps (t : Nat) (path : Path) (port : PortId) (s : State) : Host.Outcome State Fault Refusal :=
  privCmd t path (portReg port 0x401C) s fun s => pdSendCaps s port

/-- PD_CTRL.HARD_RESET (R307). -/
def execPdHardReset (t : Nat) (path : Path) (port : PortId) (s : State) : Host.Outcome State Fault Refusal :=
  privCmd t path (portReg port 0x401C) s fun s => pdHardReset s port

/-- PD_CTRL.ERROR_RECOVERY (R307). -/
def execPdErrorRecovery (t : Nat) (path : Path) (port : PortId) (s : State) : Host.Outcome State Fault Refusal :=
  privCmd t path (portReg port 0x401C) s fun s => pdErrorRecovery s port

/-! ### CC and VCONN faults (R285, R286) -/

/-- A probe of a low pin, every 10 ms: shorts that last 100 ms bar VCONN where the other pin shows Rd, and are a CC fault otherwise (R285). -/
def execCcShortProbe (t : Nat) (port : PortId) (pin2 shorted : Bool) (s : State) : Host.Outcome State Fault Refusal :=
  act t s fun s => when (s.folioOn && (s.pd.get port).state != .disabled && (s.pd.get port).state != .ccFault && !(s.pd.get port).vconnBarred) s fun s =>
    if ¬ shorted then setPd s port (fun d => { d with shortMs := 0 })
    else
      let s1 := setPd s port (fun d => if pin2 then { d with cc2 := 3, shortMs := d.shortMs + 10 } else { d with cc1 := 3, shortMs := d.shortMs + 10 })
      let d := s1.pd.get port
      if d.shortMs < 100 then s1
      else if (if pin2 then d.cc1 else d.cc2) = 1 then
        recordRes (setPd (vconnOff s1 port) port (fun d => { d with vconnBarred := true, cable := 0, raSeen := false, discovering := false })) (recPlace 0x0403 port) 0x0403 .warning port .c []
      else ccFault s1 port

/-- A CC pin above 5.5 V for 10 µs (R285). -/
def execCcOvervoltage (t : Nat) (port : PortId) (pin2 : Bool) (s : State) : Host.Outcome State Fault Refusal :=
  act t s fun s => when (s.folioOn && (s.pd.get port).state != .disabled && (s.pd.get port).state != .ccFault) s fun s =>
    ccFault (setPd s port (fun d => if pin2 then { d with cc2 := 4 } else { d with cc1 := 4 })) port

/-- The retest of a CC fault, every 1 s: both pins open for its whole 10 ms clear it (R285). -/
def execCcFaultRetest (t : Nat) (port : PortId) (cc1 cc2 : CcPin) (s : State) : Host.Outcome State Fault Refusal :=
  act t s fun s =>
    let d := s.pd.get port
    when (d.state == .ccFault && decide (max d.stateSince d.patternSince + ticksS 1 ≤ s.now)) s fun s =>
      let s1 := setPd s port (fun d => { d with cc1 := cc1.code, cc2 := cc2.code, patternSince := s.now })
      if cc1 = .openPin ∧ cc2 = .openPin then recomputeShares (toUnattached (detachPower s1 port) port) else s1

/-- VCONN above 350 mA, or below 4.5 V, for 2 ms (R286). -/
def execVconnFault (t : Nat) (port : PortId) (ma : Nat) (s : State) : Host.Outcome State Fault Refusal :=
  act t s fun s => when (s.folioOn && (s.pd.get port).vconnOn) s fun s => vconnFault (setPd s port (fun d => { d with vconnMa := ma })) port

end Sys2Proof.Machine
end

