-- ==== Sys2Proof/Machine/Applied.lean ====
section
/-! DEFINITION. What an applied register value brings about, buffered writes, epoch commits and the Rubric digest (R7–R9, R54–R60, R69, R75, R217, R250, R325, R447). -/

namespace Sys2Proof.Machine

/-! ### Ports that configuration disables (R75) -/

/-- A port goes DISABLED for a reason the detach notice has no code for: its REASON is a free value. -/
def disableOpen (s : State) (n : PortId) : State :=
  let d := draw s
  disablePort d.2 n false (fld d.1 0 3)

/-- Bring a port in line with the configuration: BARRED, its holder losing it as by assignment, or FREE again with its decision in this tick (R75). -/
def barCheck (s : State) (n : PortId) : State :=
  if n.val = 0 then s
  else
    let off := Config.portDisabled s.regs n.val
    let st := (s.own.get n).state
    if off && st != .barred then disableOpen (loseOutright s n .barred 5) n
    else if !off && st == .barred then
      let s1 := stampP4 (setOwn s n (fun o => { o with state := .free })) n .home
      if mustDisable s1 n then s1 else enablePort s1 n
    else s

/-! ### The hooks of applied values -/

/-- The port of an address of a port block. -/
def addrPort (a : Nat) : PortId := ⟨a / 0x10000 % 16, Nat.mod_lt _ (by decide)⟩

/-- What follows when an applied value of a port's block has changed. -/
def afterPort (s : State) (n : PortId) (off : Nat) : State :=
  let s1 := if off = 0x400 then (if stuckEn s n then s else setNib s n clearStuck)
    else if off = 0x800 then recomputeShares s
    else if off = 0x4000 then recomputeShares (presentRp (markCaps s n false) n)
    else s
  barCheck s1 n

/-- DP15_FUNCTION has changed: DP15 stops being an external port, its function in the Default state, or becomes one again (R242). -/
def dp15Changed (s : State) : State :=
  if dp15Function s then
    let s1 := disableOpen { s with func := func0 } 15
    match classicOwner s1 15 with
    | some _ => viewConnectBoth s1 15
    | none => s1
  else
    let s1 : State := { s with func := func0 }
    let s2 := viewDisconnect (viewDisconnect s1 15 false) 15 true
    if mustDisable s2 15 then s2 else enablePort s2 15

/-- PTP_CFG: the port it names, and the end of lock with EN (R152). -/
def ptpChanged (s : State) : State :=
  let s1 : State := { s with ptp := { s.ptp with portB := rfld s 0x80C00 1 1 == 1, failedOver := false } }
  if ptpEn s1 then s1 else ptpUnlock s1

/-- What follows when an applied value of a global block has changed from `old`. -/
def afterBlock (s : State) (old : Word) (a : Nat) : State :=
  if a = 0x800 then (if discEn s then s else discOff s)
  else if a = 0x20000 then recomputeShares s
  else if 0x60100 ≤ a ∧ a < 0x60214 then evalMinOver s
  else if a = 0x80000 then (if ethEn s false then s else setEth s false (fun _ => eth0))
  else if a = 0x80100 then (if ethEn s true then s else setEth s true (fun _ => eth0))
  else if a = 0x80C00 then ptpChanged s
  else if a = 0xA0000 then (if bitOf old 0 == dp15Function s then s else dp15Changed s)
  else s

/-- What follows when an applied value has changed from `old`. -/
def afterApply (s : State) (old : Word) (a : Nat) : State :=
  if 0x100000 ≤ a ∧ a < 0x200000 then afterPort s (addrPort a) (a % 0x10000)
  else if a < 0x100000 then afterBlock s old a
  else s

/-- An IMM or buffered value takes effect (R7, R8). PF_TRUST_CTRL remembers who wrote it (R52); key data is held by Seal (R416). -/
def applyReg (s : State) (p : Path) (a : Nat) (v : Word) : State :=
  if h : 0x72000 ≤ a ∧ a < 0x72100 then viBindWrite s p ⟨(a - 0x72000) / 4, by omega⟩ v
  else if h : 0x10020 ≤ a ∧ a < 0x10040 then setSeal s (fun u => { u with keyData := vmod u.keyData ⟨(a - 0x10020) / 4, by omega⟩ (fun _ => v) })
  else if a = 0x30 then setApplied { s with trustBySpi := p == .spi } a v
  else afterApply (setApplied s a v) (reg s a) a

/-! ### Writes to configuration registers -/

/-- The values a write is ignored for: reserved owner codes, a lease or a limit outside its range (R9, R69, R250). -/
def writeAllowed (a : Nat) (v : Word) : Bool :=
  if 0x100000 ≤ a ∧ a < 0x200000 ∧ a % 0x10000 = 0x200 then (Owner.ofCode (fld v 0 7)).isSome && (Owner.ofCode (fld v 8 7)).isSome
  else if 0x71000 ≤ a ∧ a < 0x71200 ∧ a % 8 = 0 then decide (1 ≤ fld v 16 16) && decide (fld v 16 16 ≤ 60000)
  else if 0x60100 ≤ a ∧ a < 0x60214 then decide (4 ≤ fld v 0 13) && decide (fld v 0 13 ≤ 3840)
  else true

/-- A write to an EPOCH register joins the staging set (R58). -/
def stageWrite (s : State) (a : Nat) (v : Word) : State := { s with staged := s.staged ++ [{ addr := a, value := v, tick := s.now }] }

/-- A write to a configuration register is taken: IMM at once, EPOCH into the staging set, the others held until their boundary (R7, R8, R448). -/
def takeRw (s : State) (p : Path) (r : RegRow) (a : Nat) (value : Word) : State :=
  let v := value &&& r.mask
  if ¬ writeAllowed a v then writeIgnored s p a value
  else
    match r.applies with
    | .imm => applyReg s p a v
    | .epoch => stageWrite s a v
    | _ => { s with writes := s.writes ++ [{ addr := a, value := v, accepted := s.now, taken := s.now }] }

/-- A pending write is of a class and, where it concerns one, of a port. -/
def writeOf (c : Applies) (port : Option PortId) (w : PendWrite) : Bool :=
  (match findRow w.addr with
   | some r => r.applies == c
   | none => false) && (match port with
   | some n => addrPort w.addr == n && decide (0x100000 ≤ w.addr)
   | none => true)

/-- The pending writes a boundary of this tick applies: those accepted and taken in earlier ticks (R8). -/
def dueWrites (s : State) (pick : PendWrite → Bool) : List PendWrite := s.writes.filter (fun w => pick w && decide (w.accepted < s.now) && decide (w.taken < s.now))

/-- Keep only the last of several writes to one register (R447). -/
def lastWrites : List PendWrite → List PendWrite
  | [] => []
  | w :: rest => if rest.any (fun x => x.addr == w.addr) then lastWrites rest else w :: lastWrites rest

/-- A boundary applies what waits for it, in acceptance order (R8, R47, R447). -/
def boundaryApply (s : State) (pick : PendWrite → Bool) : State :=
  let due := dueWrites s pick
  let s1 : State := { s with writes := s.writes.filter (fun w => !(pick w && decide (w.accepted < s.now) && decide (w.taken < s.now))) }
  (lastWrites due).foldl (fun u w => applyReg u .spi w.addr w.value) s1

/-! ### Class V values (R58, R325) -/

/-- Every protected path. -/
def allPaths : List PowerPath := .input :: (List.finRange 16).map PowerPath.port

/-- The registers of a path's curve. -/
def curveRegs : PowerPath → List Nat
  | .input => (List.range 8).map (fun k => 0x28020 + 4 * k)
  | .port n => (List.range 8).map (fun k => portReg n (0x8020 + 4 * k))

/-- The value a set of staged writes gives a register, if any: the last. -/
def stagedValue (ws : List StagedWrite) (a : Nat) : Option Word := (ws.reverse.find? (fun w => w.addr == a)).map (fun w => w.value)

/-- CURVE_BAD of a path. -/
def setCurveBad (s : State) (p : PowerPath) (b : Bool) : State :=
  match p with
  | .input => setInput s (fun i => { i with curveBad := b })
  | .port n => setPower s n (fun x => { x with curveBad := b })

/-- A refused curve is recorded (R325). -/
def curveRefused (s : State) (p : PowerPath) : State :=
  let s1 := setCurveBad s p true
  match p with
  | .input => recordAt s1 (pathTile p 1) 0x0106 .warning 0 .none .b [16]
  | .port n => recordAt s1 (pathTile p 1) 0x0106 .warning n .none .a [loW n.val]

/-- A committed curve applies whole where it is valid, and is discarded where it is not (R325). -/
def applyCurve (ws : List StagedWrite) (s : State) (p : PowerPath) : State :=
  let as_ := curveRegs p
  if as_.all (fun a => (stagedValue ws a).isNone) then s
  else
    let cand := as_.map (fun a => (a, (stagedValue ws a).getD (reg s a)))
    if curveValid (cand.map (fun c => breakpoint c.2)) then setCurveBad (cand.foldl (fun u c => setReg u c.1 c.2) s) p false
    else curveRefused s p

/-- The class V values of a commit apply (R58). -/
def applyClassV (s : State) (ws : List StagedWrite) : State :=
  let curves := allPaths.flatMap curveRegs
  let s1 := (ws.filter (fun w => !curves.contains w.addr)).foldl (fun u w => setReg u w.addr w.value) s
  allPaths.foldl (applyCurve ws) s1

/-! ### The digest (R54–R57) -/

/-- The digested registers of a domain, in ascending address order. -/
def domainAddrs (d : Fin 27) : List Nat :=
  if d.val < 11 then
    ((regRows.filter (fun r => r.digested && r.space == .block)).flatMap RegRow.addrs).filter (fun a => a / 0x10000 == d.val) |>.mergeSort (fun a b => decide (a ≤ b))
  else
    let rs := regRows.filter (fun r => r.digested && r.space == .port)
    ((rs.flatMap (fun r => (List.range r.count).map (fun i => portBase (d.val - 11) + r.base + r.stride * i))).filter (fun a => !upReserved a)).mergeSort (fun a b => decide (a ≤ b))

/-- The byte stream of a domain (R56). -/
def domainBytes (s : State) (d : Fin 27) : List Byte := (domainAddrs d).flatMap (fun a => natBytesLE 3 a ++ bytesLE (reg s a))

/-- The CRC of a domain (R56). -/
def domainCrcNow (s : State) (d : Fin 27) : DWord := crc64 (domainBytes s d)

/-- The device digest over the committed CRCs (R57). -/
def digestOf (committed : Vector DWord 27) : DWord := crc64 ((List.finRange 27).flatMap (fun d => natBytesLE 1 d.val ++ natBytesLE 8 (committed.get d).toNat))

/-- Change Rubric. -/
def setRubric (s : State) (f : Rubric → Rubric) : State := { s with rubric := f s.rubric }

/-- The copy: every DOMAIN_CRC brought up to date and copied, the digest published, BUSY and DIRTY clear (R58, R60). -/
def publish (s : State) : State :=
  let crcs := Vector.ofFn (fun d => domainCrcNow s d)
  setRubric s (fun r => { r with domainCrc := crcs, committedCrc := crcs, digest := digestOf crcs, busy := false, dirty := false, lastResult := 1, classV := [], foreign := [] })

/-- DIRTY while no commit is in progress: some domain differs from its committed CRC (R60). -/
def dirtyNow (r : Rubric) : Bool := (List.finRange 27).any (fun d => r.domainCrc.get d != r.committedCrc.get d)

/-- A DOMAIN_CRC is updated, and DIRTY follows (R56, R60). -/
def updateDomain (s : State) (d : Fin 27) : State :=
  let crc := domainCrcNow s d
  setRubric s (fun r =>
    let r1 : Rubric := { r with domainCrc := vmod r.domainCrc d (fun _ => crc) }
    if r.busy then { r1 with dirty := r.dirty || r.foreign.contains d.val, foreign := r.foreign.filter (fun x => x != d.val) }
    else { r1 with dirty := dirtyNow r1 })

/-! ### Commits (R58, R217) -/

/-- Service slots that a commit treats as disabled are recorded (R217). -/
def serviceCheck (s : State) : State :=
  ((List.finRange 5).filter (fun c => decide (1 ≤ c.val))).foldl (fun u c =>
    let w := rfld u (0xA000C + 4 * c.val) 0 4
    let on := rfld u (0xA000C + 4 * c.val) 4 1 == 1
    let taken := (List.finRange 5).any (fun k => decide (1 ≤ k.val) && decide (k.val < c.val) && rfld u (0xA000C + 4 * k.val) 4 1 == 1 && rfld u (0xA000C + 4 * k.val) 0 4 == w)
    if on && (w == 0 || taken || (w == 15 && dp15Function u)) then record u 0x0107 .warning 0 .none .none [loW c.val] else u) s

/-- The next epoch, which wraps to 1 (R58). -/
def nextEpoch (e : Word) : Word := if e = 0xFFFFFFFF then 1 else e + 1

/-- The registers of a set of staged writes, each once. -/
def stagedAddrs (ws : List StagedWrite) : List Nat := (ws.map (fun w => w.addr)).eraseDups

/-- An accepted commit: the Folio values staged in earlier ticks apply, the class V values wait for their boundary (R58). -/
def acceptCommit (s : State) (p : Path) : State :=
  let due := s.staged.filter (fun w => decide (w.tick < s.now))
  let folio := due.filter (fun w => !classV w.addr)
  let s1 := folio.foldl (fun u w => setReg u w.addr w.value) s
  let s2 := setRubric { s1 with staged := s.staged.filter (fun w => !decide (w.tick < s.now)) } (fun r =>
    { r with epoch := nextEpoch r.epoch, commitStroke := stroke s, commitTick := s.now, busy := true, classV := due.filter (fun w => classV w.addr), committer := p, foreign := [] })
  let s3 := (stagedAddrs folio).foldl (fun u a => afterApply u (reg s a) a) s2
  eachPort (serviceCheck s3) barCheck

/-- RUBRIC_CTRL.COMMIT (R58). -/
def rubricCommit (s : State) (p : Path) : State :=
  if s.rubric.busy then setRubric s (fun r => { r with lastResult := 3 })
  else if reg s 0x204 ≠ s.rubric.epoch then setRubric s (fun r => { r with lastResult := 2 })
  else acceptCommit s p

/-- RUBRIC_CTRL.ABORT (R58). -/
def rubricAbort (s : State) : State := setRubric { s with staged := [] } (fun r => { r with lastResult := 4 })

/-- The commit completes once every value has applied (R58). -/
def commitComplete (s : State) : State :=
  let s1 := publish s
  record s1 0x0109 .info 0 .none .h [loW (pathCode s.rubric.committer)]

/-- The class V values of a commit apply at the first BRK boundary at least 2 µs after it, over a link that is up (R58). -/
def brkCommit (s : State) : State :=
  if s.rubric.busy && !s.rubric.classV.isEmpty && decide (s.rubric.commitTick + 10 ≤ s.now) && s.link.phase == .up then
    setRubric (applyClassV s s.rubric.classV) (fun r => { r with classV := [] })
  else s

end Sys2Proof.Machine
end

