-- ==== Sys2Proof/Machine/Images.lean ====
section
/-! DEFINITION. The image slots of the NOR: which one boots (R389, R415), and the writing of images in service, opcode-table rows IMG_OPEN_FW to IMG_ABANDON (R395). -/

namespace Sys2Proof.Machine

/-- A slot of a kind: firmware or configuration, A or B. -/
def imgSlot (v : NorView) (cfg slotB : Bool) : ImgSlot :=
  if cfg then (if slotB then v.cfgB else v.cfgA) else (if slotB then v.fwB else v.fwA)

/-- Replace a slot. -/
def setSlot (v : NorView) (cfg slotB : Bool) (x : ImgSlot) : NorView :=
  if cfg then (if slotB then { v with cfgB := x } else { v with cfgA := x })
  else (if slotB then { v with fwB := x } else { v with fwA := x })

/-- The MAGIC of a kind (R389). -/
def imgMagic (cfg : Bool) : Word := if cfg then 0x4B525643 else 0x4B525646

/-- CRC-32C over a body of words, little-endian (R389). -/
def bodyCrc (body : List Word) : Word := crc32c (body.flatMap bytesLE)

/-- The slot holds a committed image. -/
def slotCommitted (cfg : Bool) (x : ImgSlot) : Bool := x.magic == imgMagic cfg && x.commit

/-- The body passes its CRC over LENGTH bytes. -/
def slotIntact (x : ImgSlot) : Bool := x.length == 4 * x.body.length && x.crc == bodyCrc x.body

/-- The slot is intact and uncommitted (R383 UNCOMMITTED). -/
def slotUncommitted (cfg : Bool) (x : ImgSlot) : Bool := x.magic == imgMagic cfg && x.eraseOk && x.writing && !x.commit && slotIntact x

/-- Generation a is later than generation b (R389). -/
def laterGen (a b : Word) : Bool := let d := (a - b).toNat; decide (1 ≤ d) && decide (d ≤ 2 ^ 31 - 1)

/-- Seal accepts a body: firmware signed under the root key at or above FLOOR, a configuration signed where an owner key is fused (R415). -/
def sealAccepts (s : State) (cfg signed : Bool) (svn : Nat) : Bool :=
  if cfg then s.sealUnit.ownerKey.isNone || signed else signed && decide (s.sealUnit.floor ≤ svn)

/-- The committed slots of a kind, the later generation first (R389). -/
def slotOrder (v : NorView) (cfg : Bool) : List Bool :=
  let a := imgSlot v cfg false
  let b := imgSlot v cfg true
  match slotCommitted cfg a, slotCommitted cfg b with
  | true, true => if laterGen b.generation a.generation then [true, false] else [false, true]
  | true, false => [false]
  | false, true => [true]
  | false, false => []

/-- The slot boots: its CRC passes and Seal accepts it. -/
def slotPasses (s : State) (cfg slotB : Bool) : Bool :=
  let x := imgSlot s.nor cfg slotB
  slotIntact x && sealAccepts s cfg x.signed x.svn

/-- The slot of a kind that boots, and whether the first choice failed (R389). -/
def chooseSlot (s : State) (cfg : Bool) : Option Bool × Bool :=
  let order := slotOrder s.nor cfg
  (order.find? (slotPasses s cfg), match order with
    | b :: _ => !slotPasses s cfg b
    | [] => false)

/-- The slots tried whose body Seal refuses: those before the one taken, CRC passing (R415). -/
def sealRefusals (s : State) (cfg : Bool) : Nat :=
  ((slotOrder s.nor cfg).takeWhile (fun b => !slotPasses s cfg b)).filter (fun b => slotIntact (imgSlot s.nor cfg b)) |>.length

/-! ### Writing an image (R395) -/

/-- Change the image write. -/
def setImg (s : State) (f : ImgWrite → ImgWrite) : State := { s with img := f s.img }

/-- Change the slot that is being written. -/
def editSlot (s : State) (f : ImgSlot → ImgSlot) : State :=
  { s with nor := setSlot s.nor s.img.cfg s.img.slotB (f (imgSlot s.nor s.img.cfg s.img.slotB)) }

/-- The slot of a kind used at the last Boot. -/
def slotInUse (s : State) (cfg : Bool) : Bool := if cfg then s.modes.cfgSlotB else s.modes.fwSlotB

/-- OPEN: the unused slot starts to be erased; refused with RESULT 5 in other modes and while a write is open (R395). -/
def imgOpen (s : State) (cfg : Bool) : State :=
  if (s.modes.mode == .standalone || s.modes.mode == .managed) && !s.img.opened then
    let b := !slotInUse s cfg
    editSlot (setImg s (fun _ => { opened := true, busy := true, cfg := cfg, slotB := b, result := 0, words := [], waiting := [] })) (fun _ => .erased)
  else setImg s (fun i => { i with result := 5 })

/-- IMG_CTRL.OPEN_FW (R395). -/
def execImgOpenFw (t : Nat) (path : Path) (s : State) : Host.Outcome State Fault Refusal :=
  privCmd t path 0x1020 s fun s => imgOpen s false

/-- IMG_CTRL.OPEN_CFG (R395). -/
def execImgOpenCfg (t : Nat) (path : Path) (s : State) : Host.Outcome State Fault Refusal :=
  privCmd t path 0x1020 s fun s => imgOpen s true

/-- The write ends with a RESULT, the slot left as it is. -/
def imgEnd (s : State) (result : Nat) : State := setImg s (fun i => { i with opened := false, busy := false, waiting := [], result := result })

/-- The erase is done: MAGIC, ERASE_OK and WRITING are programmed, and the words that waited follow; or the NOR failed. An erase waits while Brownout suspends it (R375, R395). -/
def execImgEraseDone (t : Nat) (ok : Bool) (s : State) : Host.Outcome State Fault Refusal :=
  act t s fun s => when (s.folioOn && s.img.opened && s.img.busy && s.modes.mode != .brownout) s fun s =>
    if ok then
      let w := s.img.waiting
      setImg (editSlot s (fun x => { x with magic := imgMagic s.img.cfg, eraseOk := true, writing := true, body := w })) (fun i => { i with busy := false, words := w, waiting := [] })
    else imgEnd s 4

/-- A word of the body arrives; it waits while BUSY (R382, R395). -/
def imgData (s : State) (value : Word) : State :=
  let s1 := setReg s 0x1024 value
  if ¬ s.img.opened then s1
  else if s.img.busy then setImg s1 (fun i => { i with waiting := i.waiting ++ [value] })
  else editSlot (setImg s1 (fun i => { i with words := i.words ++ [value] })) (fun x => { x with body := x.body ++ [value] })

/-- A write to IMG_DATA (R382). -/
def execImgDataWrite (t : Nat) (path : Path) (value : Word) (s : State) : Host.Outcome State Fault Refusal :=
  privCmd t path 0x1024 s fun s => imgData s value

/-- The image is programmed and committed with its header (R395 steps 4 and 5). -/
def imgProgram (s : State) (v : ImgVerdict) : State :=
  let gen := (imgSlot s.nor s.img.cfg (!s.img.slotB)).generation + 1
  editSlot s (fun x => { x with commit := true, generation := gen, length := 4 * s.img.words.length, crc := bodyCrc s.img.words, body := s.img.words
                                format := v.format, signed := v.signed, svn := v.svn, build := v.build, badEngines := v.badEngines, settings := v.settings })

/-- COMMIT: the body is read back, checked and committed; a failed check is RESULT 2, reported as class 9 where Seal refuses it; a NOR failure is RESULT 4 (R395, R415). -/
def imgCommit (s : State) (v : ImgVerdict) : State :=
  if ¬ s.img.opened then s
  else if s.img.busy then setImg s (fun i => { i with result := 5 })
  else if ¬ v.intact then imgEnd s 2
  else if ¬ sealAccepts s s.img.cfg v.signed v.svn then faultReport (imgEnd s 2) (engineTile 22 0) 9 .warning 0
  else if ¬ v.written then imgEnd s 4
  else imgEnd (imgProgram s v) 1

/-- IMG_CTRL.COMMIT (R395). -/
def execImgCommit (t : Nat) (path : Path) (verdict : ImgVerdict) (s : State) : Host.Outcome State Fault Refusal :=
  privCmd t path 0x1020 s fun s => imgCommit s verdict

/-- COMMIT given through the register itself: what the NOR and Seal find is free. -/
def imgCommitFree (s : State) : State := imgCommit { s with freeCtr := s.freeCtr + 1 } (Config.imageVerdict s.img.words s.freeCtr)

/-- IMG_CTRL.ABANDON (R395). -/
def execImgAbandon (t : Nat) (path : Path) (s : State) : Host.Outcome State Fault Refusal :=
  privCmd t path 0x1020 s abandonImage

end Sys2Proof.Machine
end

