-- ==== Sys2Proof/Machine/Boot.lean ====
section
/-! DEFINITION. Boot: the reset of Folio, the boot directory, the images, the configuration as the commit of epoch 1, the end of Boot, and warm Boots (R5, R17, R59, R387–R394, R410). -/

namespace Sys2Proof.Machine

/-! ### What a reset of Folio leaves (R314, R387, R394, R410) -/

/-- The registers of the always-on domain's blocks: the global block and Margin. -/
def alwaysOn (a : Nat) : Bool := decide (a < 0x10000) || (decide (0x50000 ≤ a) && decide (a < 0x60000))

/-- A configuration register with a fixed reset value, whose shadow stands in the always-on domain and is not reloaded from the image (R46, R394): in set-up space these are the ones that are not digested. -/
def keptShadow (a : Nat) : Bool :=
  match findRow a with
  | some r => r.acc == .rw && r.space == .block && !r.digested
  | none => false

/-- One copy of the RC registers after a reset: Reservoir's stay, and over a warm Boot those of the always-on domain. -/
def keepRc (warm : Bool) (c : RcCopy) : RcCopy :=
  let kept := fun (e : Nat × Word) => classV e.1 || (warm && alwaysOn e.1)
  { settled := c.settled.filter kept, fresh := c.fresh.filter kept }

/-- A port's power path after a reset of Folio: the Ferrule policy starts anew, Reservoir's part stays. -/
def keepPower (p : PortPower) : PortPower :=
  { p with retries := 0, latched := false, shed := false, shedOff := false, retryDue := none, lastCause := 0, sensorFault := false, share := 0,
           shareWanted := 0, temp := 0, rise := 0, derate := 256, deratePending := 256 }

/-- A port's PD state after a reset of Folio: DISABLED; what the pins and the receptacle read stays. -/
def keepPd (s : State) (d : PortPd) : PortPd :=
  { pd0 with cc1 := d.cc1, cc2 := d.cc2, safe0 := d.safe0, vconnMa := d.vconnMa, patternSince := d.patternSince, stateSince := s.now }

/-- Folio is reset: cold, or warm with the always-on domain kept. Reservoir, the fuses and the external NOR stay. -/
def folioReset (s : State) (warm : Bool) : State :=
  let z := State.reset
  let blot : Blotter := { blot0 with hotMask := if warm then s.blot.hotMask else putBit 0 4 (maskBit s.blot.hotMask 4), causeFet := s.blot.causeFet
                                     causeLink := warm && s.blot.causeLink, held := s.blot.held }
  let blotW : Blotter := { blot with faultLoc := s.blot.faultLoc, faultLevel := s.blot.faultLevel, faultClass := s.blot.faultClass, faultValid := s.blot.faultValid }
  let mo : Modes := { modes0 with mode := s.modes.mode, prev := s.modes.prev, bootStart := s.now, warm := warm }
  let lock := s.pal.returnLock
  let board := s.margin.queues.get 64
  let u := s.sealUnit
  heatCause { z with
    now := s.now, pending := s.pending, out := s.out, freeCtr := s.freeCtr, limits := s.limits
    folioOn := true
    strokeBase := if warm then s.strokeBase else s.now
    resyncAt := if warm then s.resyncAt else 0
    regs := s.regs.filter (fun e => classV e.1 || (warm && keptShadow e.1))
    rcSpi := keepRc warm s.rcSpi
    rcPf := keepRc warm s.rcPf
    link := if warm then s.link else { s.link with phase := .notYetUp }
    localEvents := s.localEvents, localLost := s.localLost
    pal := { pal0 with high := s.pal.high, low := s.pal.low, returnLock := lock, frozen := lock }
    margin := if warm then { s.margin with queues := Vector.ofFn (fun q => if q.val = 64 then board else { notices := [], lostSinceHb := 0 }) } else margin0
    disc := if warm then s.disc else disc0
    regionTemp := Vector.ofFn (fun q => if warm || q.val == 4 then s.regionTemp.get q else 0)
    modes := if warm then { mo with lastReq := s.modes.lastReq } else mo
    img := if warm then s.img else img0
    nor := s.nor
    blot := if warm then blotW else blot
    sealUnit := { seal0 with uniqueId := u.uniqueId, floor := u.floor, returnCount := u.returnCount, ownerKey := u.ownerKey,
                             keyData := if warm then u.keyData else seal0.keyData }
    input := s.input, vauxOk := s.vauxOk
    power := Vector.map keepPower s.power
    pd := Vector.map (keepPd s) s.pd
    pins := s.pins }

/-! ### The boot directory (R388) -/

/-- A field of so many bytes at an offset. -/
def dirField (d : List Byte) (off n : Nat) : Nat := bytesToNatLE ((d.drop off).take n)

/-- A copy of the directory is valid: its MAGIC and its CRC (R388). -/
def dirValid (d : List Byte) : Bool :=
  decide (256 ≤ d.length) && dirField d 0 4 == 0x4B525644 && decide (dirField d 0xFC 4 = (crc32c (d.take 0xFC)).toNat)

/-- The copy used, and whether it is copy 1. -/
def directory (v : NorView) : Option (List Byte × Bool) :=
  if dirValid v.dir0 then some (v.dir0, false) else if dirValid v.dir1 then some (v.dir1, true) else none

/-- A ring of the recorder store of a given size; sectors new to it are as delivered. -/
def resizeRing (xs : List Sector) (n : Nat) : List Sector := xs.take n ++ List.replicate (n - xs.length) Sector.blankSector

/-- The directory's settings are taken: the recorder store's place and size, the NOR's times. -/
def takeDirectory (s : State) (d : List Byte) (copy1 : Bool) : State :=
  let hi := dirField d 0x16 2 % 2 ^ 13
  let lo := dirField d 0x18 2 % 2 ^ 13
  let s1 := setReg (setReg s 0x40008 (loW (dirField d 0x14 2 % 2 ^ 13))) 0x4000C (pack [(0, hi), (16, lo)])
  let high := resizeRing s.pal.high hi
  let low := resizeRing s.pal.low lo
  { s1 with modes := { s1.modes with tpp := dirField d 0x1A 1, tbp := dirField d 0x1B 1, dirCopy1 := copy1 }
            pal := { s1.pal with high := high, low := low, norFail := decide (usable high < 2) || decide (usable low < 2) } }

/-! ### The images (R21, R389–R392, R415, R417) -/

/-- A refusal by Seal is reported as class 9 (R415). -/
def reportRefusal (s : State) : State := faultReport s (engineTile 22 0) 9 .warning 0

/-- So many refusals. -/
def reportRefusals : Nat → State → State
  | 0, s => s
  | k + 1, s => reportRefusals k (reportRefusal s)

/-- Boot holds (R391). -/
def bootHold (s : State) (code : Nat) : State := { s with modes := { s.modes with hold := code } }

/-- An engine that fails verification: class 4 at its own place, and its cluster fails (R21, R403, R408). -/
def bootEngine (s : State) (e : Fin 96) : State :=
  let c := engineCluster e
  let place := engineTile c.val (e.val % 4)
  if (s.clusters.get c).failed then faultReport s place 4 .critical (clusterPort c) else clusterFail s c 4 place

/-- Every engine that fails verification (R21). -/
def bootEngines (s : State) (bad : List (Fin 96)) : State := bad.foldl bootEngine s

/-- The key sets found, committed ones only, the later generation first (R417). -/
def keySets (v : NorView) : List KeySet :=
  let ks := (v.keys0.toList ++ v.keys1.toList).filter (fun k => k.committed)
  match ks with
  | [a, b] => if a.generation < b.generation then [b, a] else [a, b]
  | _ => ks

/-- The keys of the later committed set that verifies; a set that does not is class 9 (R403, R417). -/
def bootKeys (s : State) : State :=
  let ks := keySets s.nor
  let s1 := reportRefusals ((ks.takeWhile (fun k => !k.verifies)).length) s
  match ks.find? (fun k => k.verifies) with
  | some k => setSeal s1 (fun u => { u with keyGeneration := k.generation, keys := Vector.ofFn (fun v => (k.keys.find? (fun e => e.1 == v.val)).map (·.2)) })
  | none => s1

/-- One setting of an image: a configuration register takes its value (R6, R392). -/
def applySetting (s : State) (e : Nat × Word) : State :=
  match findRow e.1 with
  | some r => if r.acc == .rw && r.space != .viPage then setReg s e.1 (e.2 &&& r.mask) else s
  | none => s

/-- The value a list of settings gives a register, if any: the last. -/
def settingOf (xs : List (Nat × Word)) (a : Nat) : Option Word := (xs.reverse.find? (fun e => e.1 == a)).map (·.2)

/-- A path's curve from the image: taken whole where it is valid, else the one in force stays (R325). `old` is the state before. -/
def bootCurve (old : State) (xs : List (Nat × Word)) (s : State) (p : PowerPath) : State :=
  let as_ := curveRegs p
  let cand := as_.map (fun a => (a, (settingOf xs a).getD (mapReset a)))
  if as_.all (fun a => (settingOf xs a).isNone) then setCurveBad s p false
  else if curveValid (cand.map (fun c => breakpoint c.2)) then setCurveBad (cand.foldl (fun u c => setReg u c.1 c.2) s) p false
  else curveRefused (as_.foldl (fun u a => setReg u a (reg old a)) s) p

/-- The settings of a configuration body come into force; what it does not list takes the image builder's default (R392). -/
def applySettings (s : State) (xs : List (Nat × Word)) : State :=
  let curves := allPaths.flatMap curveRegs
  let s1 : State := { s with regs := s.regs.filter (fun e => !classV e.1) }
  let s2 := (xs.filter (fun e => !curves.contains e.1)).foldl applySetting s1
  allPaths.foldl (bootCurve s xs) s2

/-- The application of the configuration is the commit of epoch 1 (R59). The record's path is not stated for it: a free value. -/
def commitEpochOne (s : State) : State :=
  let s1 := setRubric s (fun r => { r with epoch := 1, commitStroke := stroke s, commitTick := s.now })
  let s2 := eachPort (serviceCheck (evalMinOver s1)) barCheck
  let d := draw (publish s2)
  record { d.2 with trustConfigured := rfld d.2 0x30 0 1 == 1, ptp := { d.2.ptp with portB := rfld d.2 0x80C00 1 1 == 1 } } 0x0109 .info 0 .none .h [d.1]

/-- The configuration slot is chosen and applied, or the built-in defaults (R389, R392). -/
def bootConfig (s : State) : State :=
  let s1 := reportRefusals (sealRefusals s true) s
  match chooseSlot s true with
  | (some b, fb) =>
    commitEpochOne (applySettings { s1 with modes := { s1.modes with cfgSlotB := b, cfgFallback := fb } } (imgSlot s.nor true b).settings)
  | (none, fb) =>
    let s2 := applySettings { s1 with modes := { s1.modes with defaults := true, cfgFallback := fb } } []
    commitEpochOne (marker s2 0x000A .warning [bootStatus s2])

/-- A slot is intact but uncommitted (R383). -/
def anyUncommitted (v : NorView) : Bool :=
  slotUncommitted false v.fwA || slotUncommitted false v.fwB || slotUncommitted true v.cfgA || slotUncommitted true v.cfgB

/-- Steps 3 to 7 of Boot: directory, firmware, engines, keys, configuration, scan (R390). -/
def bootLoad (s : State) : State :=
  match directory s.nor with
  | none => bootHold s 1
  | some (d, copy1) =>
    let s1 := takeDirectory s d copy1
    let s2 := reportRefusals (sealRefusals s1 false) s1
    let s3 : State := { s2 with modes := { s2.modes with uncommitted := anyUncommitted s.nor } }
    match chooseSlot s1 false with
    | (none, fb) => bootScan (bootHold { s3 with modes := { s3.modes with fwFallback := fb } } 2)
    | (some b, fb) =>
      let x := imgSlot s.nor false b
      let s4 : State := { s3 with modes := { s3.modes with fwSlotB := b, fwFallback := fb } }
      let s5 := setSeal s4 (fun u => { u with svn := x.svn, fwSet := x.format.setWidth 32, fwBuild := x.build })
      bootScan (bootConfig (bootKeys (bootEngines s5 x.badEngines)))

/-- The NOR as the board has left it, where it has written it (R391). -/
def takeNor (s : State) (nor : Option NorView) : State :=
  match nor with
  | some v => { s with nor := v }
  | none => s

/-- Folio leaves power-on reset: a cold Boot (R387). -/
def execFolioResetRelease (t : Nat) (nor : Option NorView) (s : State) : Host.Outcome State Fault Refusal :=
  act t s fun s => when (!s.folioOn && s.modes.mode == .inrush) s fun s =>
    bootLoad (takeNor (enterMode (folioReset s false) .boot) nor)

/-! ### Warm Boots (R394) -/

/-- Step 2's effect on a link that stands: the cause of a lost link is over (R410). -/
def linkCause (s : State) : State := if s.link.phase = .up then { s with blot := { s.blot with causeLink := false } } else s

/-- The entry tick of a warm Boot: the records are persisted for REBOOT, hosts and ports are dropped with nothing written to any host, Folio is reset but for the always-on domain, and Boot runs (R394). The records of the tick are records of Boot and are held for its scan (R367). -/
def warmBoot (s : State) (persist : Bool) (nor : Option NorView) : State :=
  let s0 := abandonImage s
  let s1 := if persist then persistEverything s0 else s0
  let s2 := decideNow (eachPort (dropHosts { s1 with pal := { s1.pal with ram := [] } }) disableOpen)
  let s3 := enterMode (rcCount (folioReset s2 true) 0x1014 16) .boot
  bootLoad (takeNor (linkCause (s2.pal.ram.foldl (fun u r => pushRecord u r.record) s3)) nor)

/-! ### The end of Boot (R390, R393, R410) -/

/-- Every rate bucket is full; suppressed counts are recorded (R370). -/
def fillBuckets (s : State) : State :=
  let sup := s.pal.buckets.filter (fun b => b.suppressed != 0)
  let s1 : State := { s with pal := { s.pal with buckets := [] } }
  sup.foldl (fun u b => pushRecord u (mkRec u b.code b.sev 2 b.port .none (engineTile 23 0) 0
    (paramEntries [loW b.suppressed, loW b.first, hiW b.first, loW b.last, hiW b.last]))) s1

/-- A fault that Reservoir latched in Standby is recorded and takes effect (R410). -/
def releaseHeld (s : State) : HeldFault → State
  | .portFet n => reportPortFet (recordAt s (recPlace 0x0304 n) 0x0304 .critical n .none .a []) n
  | .inputFet check => reportInputFet (recordAt s (recPlace 0x0317 0) 0x0317 .critical 0 .none .b [check])
  | .heat => enterQuarantine (faultReport s (location 6 1 0 0 0 0 0 0, 6) 7 .critical 0) allPorts false

/-- The scope of the causes that persist in Reservoir or were latched in Boot. -/
def keptMask (s : State) : Nat :=
  let fet := pack ((List.finRange 16).map (fun n => (n.val, bnat (s.power.get n).fetFail)))
  let heat := ((List.range 4).filter (fun q => maskBit s.blot.hotMask q)).foldl (fun m q => Nat.lor m (regionPorts q)) 0
  Nat.lor (Nat.lor fet.toNat heat) (if maskBit s.blot.hotMask 4 then allPorts else 0)

/-- The periods that start as Boot ends: heartbeat, summaries, the window of corrected errors, every port's bus counter (R208, R276, R371, R405). -/
def startPeriods (s : State) : State :=
  let fresh := [1, 2, 3, 4, 5, 6, 7].flatMap (fun q => (channelsOf q).map (newSum s q))
  { s with margin := { s.margin with hbDue := s.now }
           pal := { s.pal with sumDue := s.now + ticksS (palSumS s), sums := fresh, flushMarked := false }
           blot := { s.blot with window := Vector.replicate 8 0, reported := Vector.replicate 8 false, windowEnd := s.now + ticksS 3600 }
           nibs := Vector.map (fun b => { b with busUf := 0, ufAt := s.now }) s.nibs
           modes := { s.modes with booted := true, bootMs := (s.now - s.modes.bootStart) / ticksMs 1 } }

/-- The mode Boot ends in where no cause stands (R384). -/
def bootTarget (s : State) : Mode := if autoManaged s && !s.modes.defaults then .managed else .standalone

/-- The mode leaves Boot (R384, R410): Quarantine where a cause is latched or persists, and Brownout from the other modes where the early warning stands. -/
def leaveBoot (s : State) : State :=
  let target := bootTarget s
  let s1 := passCause (heatCause { s with blot := { s.blot with portMask := Nat.lor s.blot.portMask (keptMask s), inputQ := s.blot.inputQ || s.input.fetFail } })
  let s2 := if noCause s1 then enterMode s1 target else enterMode { s1 with modes := { s1.modes with beforeQuarantine := target } } .quarantine
  let s3 := eachPort (homeStampAll (recomputeShares (applyPortModes s2 false 0))) presentRp
  if ¬ s.input.ew then s3
  else if noCause s1 then flushAfterSheds (brownoutSheds (enterBrownout s3))
  else flushAfterSheds (brownoutSheds s3)

/-- Boot ends: the Inkwell key is drawn, the periods start, what was held in Standby takes effect, and the mode leaves Boot (R254, R390, R410). -/
def bootEnd (s : State) : State :=
  let d := draw s
  let s1 : State := { d.2 with ink := { d.2.ink with key := d.1, nextKey := none } }
  let s2 := startPeriods (fillBuckets s1)
  let held := s2.blot.held
  leaveBoot (held.foldl releaseHeld { s2 with blot := { s2.blot with held := [] } })

/-- Boot can end: the configuration is applied, the scan is done, the link is up, nothing holds (R390, R391). -/
def bootReady (s : State) : Bool :=
  s.folioOn && s.modes.mode == .boot && s.modes.hold == 0 && !s.modes.booted && s.rubric.epoch != 0 && s.link.phase == .up && s.pal.scanDone

/-- BOOT_END (R390). -/
def execBootEnd (t : Nat) (s : State) : Host.Outcome State Fault Refusal :=
  act t s fun s => when (bootReady s) s bootEnd

end Sys2Proof.Machine
end

