-- ==== Sys2Proof/Machine/Admission.lean ====
section
/-! DEFINITION. Contexts and periodic admission: the charges, the four tests and the record of a refusal (R22, R111, R203–R206). -/

namespace Sys2Proof.Machine

/-! ### Contexts (R22) -/

/-- A context index in use: by an endpoint, or held for an ADDRESS_DEVICE in progress. -/
def ctxUsed (s : State) (c : Nat) : Bool :=
  s.eps.any (fun e => e.ctx == c) || s.nibs.toList.any (fun b => match b.addressing with
    | some a => a.ctx == c
    | none => false)

/-- The first free index at or after `c`, of so many looked at, wrapping past 65,535. -/
def freeFrom (s : State) : Nat → Nat → Option Nat
  | 0, _ => none
  | k + 1, c => if ctxUsed s (c % 65536) then freeFrom s k (c + 1) else some (c % 65536)

/-- A free context: which one the spec leaves open, so the search starts at a free value. -/
def allocCtx (s : State) : State × Option Nat :=
  let d := draw s
  (d.2, freeFrom s (s.eps.length + 17) d.1.toNat)

/-! ### Charges (R204) -/

/-- DUCTUS_CFG.PERIODIC_LIMIT as treated (R194). -/
def periodicLimit (s : State) (n : PortId) : Nat := inRange 10 100 100 (pfld s n 0x600 0 7)

/-- Bits of a payload with worst-case stuffing. -/
def stuffed (n : Nat) : Nat := cdiv (28 * n) 3

/-- The FS charge of one transaction, isochronous or interrupt. -/
def fsCharge (iso : Bool) (n : Nat) : Nat := stuffed n + (if iso then 100 else 120)

/-- The charge of one slot on the root link for an endpoint not behind a TT. -/
def slotCost (speed : Nat) (e : Endpoint) : Nat :=
  let iso := e.type == 1
  let n := e.maxPacket % 2048
  if speed = 1 then stuffed n + 120
  else if speed = 2 then fsCharge iso n
  else if speed = 3 then (e.maxPacket / 2048 % 4 + 1) * (stuffed n + (if iso then 240 else 280))
  else cdiv e.bpi (max 1 e.maxPacket) * (16 * cdiv e.maxPacket 16 + 64)

/-- The charge of a split endpoint on its TT, in FS bit times per frame. -/
def ttCost (low iso : Bool) (n : Nat) : Nat := if low then 8 * (stuffed n + 120) else fsCharge iso n

/-- The HS charges of a split endpoint whose transaction runs in microframe y of a frame: (microframe, charge) (R180, R204). -/
def splitCharges (iso dirIn : Bool) (n y : Nat) : List (Nat × Nat) :=
  let seg := cdiv n 188
  let part := fun k => stuffed (min 188 (n - 188 * k))
  if ¬ dirIn then
    if iso then (List.range (max 1 seg)).map (fun k => (y - 1 + k, 130 + part k))
    else (y - 1, 130 + part 0) :: (List.range 3).map (fun k => (y + 1 + k, 130))
  else
    (y - 1, 130) :: (List.range (if iso then seg + 1 else 3)).map (fun k => (y + 1 + k, 130 + part (if iso then k else 0)))

/-! ### Test 1 -/

/-- A place in the schedule: the phase, and the slots charged. -/
structure Placing where
  phase : Nat
  slots : List (Nat × Nat)

/-- The peak a placing would make. -/
def placePeak (s : State) (n : PortId) (ss : Bool) (slots : List (Nat × Nat)) : Nat :=
  (slots.map (fun x => slotCharge s n ss x.1 + ((slots.filter (fun y => y.1 == x.1)).map (·.2)).sum)).foldl max 0

/-- The charge on a TT in one frame of 32, of the endpoints admitted already. -/
def ttLoad (s : State) (n : PortId) (tt : Nat × Nat) (frame : Nat) : Nat :=
  ((portEps s n).map (fun e =>
    match e.admission with
    | some a =>
      match a.tt with
      | some (h, p, c) => if (h, p) = tt ∧ frame % min a.period 32 = a.phase % min a.period 32 then c else 0
      | none => 0
    | none => 0)).sum

/-- The placings open to an endpoint, in order of phase. -/
def placings (s : State) (n : PortId) (e : Endpoint) (period speed : Nat) (tt : Option (Nat × Nat)) (low : Bool) : List Placing :=
  let q := min period 32
  match tt with
  | none =>
    (List.range q).map (fun f => { phase := f, slots := ((List.range 32).filter (fun k => k % q == f)).map (fun k => (k, slotCost speed e)) })
  | some k =>
    let size := e.maxPacket % 2048
    let cost := ttCost low (e.type == 1) size
    let fits := fun f => (List.range 32).all (fun fr => fr % q != f || decide (ttLoad s n k fr + cost ≤ 10800))
    ((List.range q).filter fits).flatMap (fun f =>
      (List.range 4).map (fun i =>
        let one := splitCharges (e.type == 1) (epIn e) size (i + 1)
        { phase := f, slots := ((List.range 4).filter (fun fr => fr % min q 4 == f % min q 4)).flatMap (fun fr => one.map (fun x => ((8 * fr + x.1) % 32, x.2))) }))

/-- The placing with the least peak, the first on a tie. -/
def bestPlacing (s : State) (n : PortId) (ss : Bool) (ps : List Placing) : Option (Placing × Nat) :=
  ps.foldl (fun best p =>
    let k := placePeak s n ss p.slots
    match best with
    | none => some (p, k)
    | some b => if k < b.2 then some (p, k) else some b) none

/-! ### Tests 2 and 3 -/

/-- The Inkwell space of R205. -/
def admitSpace (e : Endpoint) (tUs : Nat) : Nat := cdiv (e.bpi * (cdiv (if e.type = 1 then e.lead + e.jitter else 0) tUs + 1)) 512 * 512

/-- Periodic blocks in use in a bank. -/
def bankPieces (s : State) (b : Nat) : Nat := (s.eps.map (fun e =>
  match e.admission with
  | some a => ((a.pieces.filter (fun p => p.1 == b)).map (·.2)).sum
  | none => 0)).sum

/-- The blocks of each piece of a buffer, in whole pieces of up to 64 KiB. -/
def pieceBlocks (space : Nat) : List Nat :=
  let n := space / 512
  List.replicate (n / 128) 128 ++ (if n % 128 = 0 then [] else [n % 128])

/-- Banks for the pieces in turn: for each the least reserved bank, the lowest on a tie, that is not yet taken and holds room (R205, R246). -/
def chooseBanks (s : State) : List Nat → List (Nat × Nat) → Option (List (Nat × Nat))
  | [], acc => some acc
  | k :: rest, acc =>
    let open_ := (List.range 64).filter (fun b => !acc.any (fun p => p.1 == b) && decide (bankPieces s b + k ≤ 384))
    match open_.foldl (fun (best : Option Nat) b =>
      match best with
      | none => some b
      | some x => if bankReserved s b < bankReserved s x then some b else some x) none with
    | none => none
    | some b => chooseBanks s rest (acc ++ [(b, k)])

/-- The decision of R205: an admission, or the limiting resource. -/
def admission (s : State) (e : Endpoint) : Nat ⊕ Admission :=
  let n := e.port
  let ss := epSs s e
  let speed := pathSpeed s n ss
  let tt := ttOf s e
  let low := (epDevice s e).any (fun d => d.speed == 1)
  let period := 2 ^ (e.interval - 1)
  let slotUs := if speed ≤ 2 ∨ tt.isSome then 1000 else 125
  let tUs := period * slotUs
  match bestPlacing s n ss (placings s n e period speed tt low) with
  | none => .inl 1
  | some (p, peak) =>
    if slotBudget speed * periodicLimit s n < 100 * peak then .inl 1
    else
      let space := admitSpace e tUs
      if 12582912 < admittedSpace s + space then .inl 2
      else
        let c := 2 * cdiv e.bpi 32 * 125 * 2 ^ 18 / tUs
        match chooseBanks s (pieceBlocks space) [] with
        | none => .inl 3
        | some banks =>
          if banks.any (fun b => decide (25000 * 2 ^ 18 < bankReserved s b.1 + c)) then .inl 3
          else if 512 ≤ admittedCount s n then .inl 4
          else .inr { slots := p.slots, period := period, phase := p.phase, space := space, cycles := c, pieces := banks,
                      tt := tt.map (fun k => (k.1, k.2, ttCost low (e.type == 1) (e.maxPacket % 2048))) }

/-- A refusal is recorded and counted (R195, R205, R372). -/
def refuseAdmission (s : State) (n : PortId) (v : RingId) (resource ctx : Nat) : State :=
  record (rcCount s 0x64008 (8 * (resource - 1))) 0x0206 .info n (.ring v) .none [loW resource, loW ctx]

end Sys2Proof.Machine
end

