-- ==== Sys2Proof/Machine/HostCmds.lean ====
section
/-! DEFINITION. The commands of ring VIs: opcode-table rows NOOP_CMD to RESUME (R71–R73, R108–R111, R120–R124, R167, R171, R186, R203–R206). Each row starts, or carries on, the fetched command in a slot of VI v's command ring. -/

namespace Sys2Proof.Machine

/-! ### Starting a command (R108, R110, R170) -/

/-- A port number of four bits. -/
def portNo (x : Nat) : PortId := ⟨x % 16, Nat.mod_lt _ (by decide)⟩

/-- Word i of a command's parameters: offset 4 × i. -/
def argW (e : CmdEntry) (i : Nat) : Word := e.words.getD i 0

/-- A field of the word at offset 4 × i. -/
def argF (e : CmdEntry) (i lo n : Nat) : Nat := fld (argW e i) lo n

/-- The context a command names at 0x08 [15:0]. -/
def argCtx (e : CmdEntry) : Nat := argF e 2 0 16

/-- Whether a TYPE names a context. -/
def ctxCmd (type : Nat) : Bool := decide (0x29 ≤ type) && decide (type ≤ 0x2D)

/-- The port a command is for; 0 for none (R108, R109, R111). -/
def cmdPort (s : State) (e : CmdEntry) : PortId :=
  if e.type = 0x27 ∨ e.type = 0x28 then portNo (argF e 2 8 4)
  else if ctxCmd e.type then
    match findEp s (argCtx e) with
    | some y => y.port
    | none => 0
  else if (0x21 ≤ e.type ∧ e.type ≤ 0x26 ∧ e.type ≠ 0x23) ∨ e.type = 0x2E then portNo (argF e 2 0 4)
  else 0

/-- A command that may not start yet: a handover or reset of its port is not over, or a preview runs on it (R78, R79, R170). -/
def cmdHeld (s : State) (v : RingId) (e : CmdEntry) : Bool :=
  let n := cmdPort s e
  let o := s.own.get n
  n.val != 0 && ((e.type != 0x21 && o.owner == .ring v && (o.state == .handover || o.state == .resetting)) || (s.nibs.get n).preview.isSome)

/-- The first command in ring order that may start: one whose port no earlier command waits for or uses (R108). -/
def firstStartable (s : State) (v : RingId) : List CmdEntry → List PortId → Option CmdEntry
  | [], _ => none
  | e :: rest, used =>
    let n := cmdPort s e
    if e.started || cmdHeld s v e || (n.val != 0 && used.contains n) then firstStartable s v rest (n :: used) else some e

/-- Mark the command in a slot as in execution. -/
def markStarted (s : State) (v : RingId) (slot : Nat) : State :=
  setVi s v (fun x => { x with cmds := x.cmds.map (fun e => if e.slot = slot then { e with started := true } else e) })

/-- Whether a command refers to a port it must own (R108). -/
def needsOwner (type : Nat) : Bool := decide (0x22 ≤ type) && decide (type ≤ 0x2E) && type != 0x23

/-- The common start of a command: RESYNC, the unknown context, ownership; then its own effect (R108–R110). -/
def startOn (s : State) (v : RingId) (e : CmdEntry) (f : State → CmdEntry → PortId → State) : State :=
  let n := cmdPort s e
  let s1 := markStarted s v e.slot
  if (s.vis.get v).resync && !(e.type == 0x20 || e.type == 0x23 || e.type == 0x2F || e.type == 0x31) then finishCmd s1 v e.slot ccResync 0 n
  else if ctxCmd e.type && (findEp s (argCtx e)).isNone then finishCmd s1 v e.slot ccUnknown 0 n
  else if needsOwner e.type && !(n.val != 0 && viOwns s v n) then finishCmd s1 v e.slot ccNotOwner 0 n
  else f s1 e n

/-- The frame of a command row: the command in the slot is the next to start and has the TYPE the row stands for, told apart where needed by a test on its parameters. -/
def runCmd (t : Nat) (v : RingId) (slot type : Nat) (pick : CmdEntry → Bool) (s : State) (f : State → CmdEntry → PortId → State) :
    Host.Outcome State Fault Refusal :=
  act t s fun s =>
    match firstStartable s v (s.vis.get v).cmds [] with
    | some e => when (inkOn s && e.slot == slot && e.type == type && pick e) s fun s => startOn s v e f
    | none => s

/-- No test on the parameters. -/
def anyArgs (_ : CmdEntry) : Bool := true

/-! ### Ownership and leases -/

/-- NOOP_CMD (R109). -/
def execNoopCmd (t : Nat) (v : RingId) (slot : Nat) (s : State) : Host.Outcome State Fault Refusal :=
  runCmd t v slot 0x20 anyArgs s fun s e _ => finishCmd s v e.slot ccSuccess 0 0

/-- CLAIM: a P4 claim; it completes with its tick's decision. UP has no owner, so a claim on it fails on rights or mask at once (R67, R70, R71). -/
def execClaim (t : Nat) (v : RingId) (slot : Nat) (s : State) : Host.Outcome State Fault Refusal :=
  runCmd t v slot 0x21 anyArgs s fun s e n =>
    if n.val = 0 then finishCmd s v e.slot ccNotOwner (if claimRight s (.ring v) then 2 else 1) n else stampP4 s n (.claim (.ring v))

/-- RELEASE: a P4 release by the owner (R70, R109). -/
def execRelease (t : Nat) (v : RingId) (slot : Nat) (s : State) : Host.Outcome State Fault Refusal :=
  runCmd t v slot 0x22 anyArgs s fun s _ n => stampP4 s n (.release (.ring v))

/-- RENEW_LEASE: RESULT is the mask of the ports renewed (R73). -/
def execRenewLease (t : Nat) (v : RingId) (slot : Nat) (s : State) : Host.Outcome State Fault Refusal :=
  runCmd t v slot 0x23 anyArgs s fun s e _ =>
    let r := renewLeases s v (argF e 2 0 16)
    finishCmd r.1 v e.slot ccSuccess r.2 0

/-! ### The root port (R167, R186) -/

/-- A sink is attached and VBUS is on. -/
def portLit (s : State) (n : PortId) : Bool := sinkAttached s n && vbusOn s n

/-- RESET_PORT: the work on the port ends with CANCELLED, everything on it is released, and both paths are reset (R109, R167, R190). -/
def resetPort (s : State) (v : RingId) (e : CmdEntry) (n : PortId) (warm : Bool) : State :=
  if ¬ portLit s n then finishCmd s v e.slot ccPortGone 0 n
  else
    let s1 := (releaseTree s n ccCancelled 3).1
    resetBoth (setNib s1 n (fun b => { b with resetCmd := some (v, e.slot), resetAt := s.now })) n warm

/-- RESET_PORT with WARM 0. -/
def execResetPort (t : Nat) (v : RingId) (slot : Nat) (s : State) : Host.Outcome State Fault Refusal :=
  runCmd t v slot 0x24 (fun e => argF e 2 8 1 == 0) s fun s e n => resetPort s v e n false

/-- RESET_PORT with WARM 1. -/
def execResetPortWarm (t : Nat) (v : RingId) (slot : Nat) (s : State) : Host.Outcome State Fault Refusal :=
  runCmd t v slot 0x24 (fun e => argF e 2 8 1 == 1) s fun s e n => resetPort s v e n true

/-- 500 ms after it began, a RESET_PORT completes whatever its paths did (R167). -/
def execResetPortTimeout (t : Nat) (port : PortId) (s : State) : Host.Outcome State Fault Refusal :=
  act t s fun s =>
    let b := s.nibs.get port
    when (s.folioOn && b.resetCmd.isSome && decide (b.resetAt + ticksMs 500 ≤ s.now)) s fun s => finishReset s port true

/-- Something of a tree is there to suspend or resume. -/
def treeThere (b : Nib) : Bool := b.connect || ssUp b || b.phaseS == .u3

/-- SUSPEND_PORT with RESUME 0: behind a remote wake it waits; a tree already suspended needs nothing more (R186, R188). -/
def suspendPort (s : State) (v : RingId) (e : CmdEntry) (n : PortId) : State :=
  let b := s.nibs.get n
  if ¬ portLit s n ∨ treeThere b = false then finishCmd s v e.slot ccPortGone 0 n
  else
    match b.susp with
    | .awake => treeSuspend (setNib s n (fun x => { x with suspCmd := some (v, e.slot) })) n
    | .entering _ => setNib s n (fun x => { x with suspCmd := some (v, e.slot) })
    | .suspended => finishCmd s v e.slot ccSuccess 0 n
    | _ => setNib s n (fun x => { x with suspNext := some (v, e.slot) })

/-- SUSPEND_PORT with RESUME 0 (R186). -/
def execSuspendPort (t : Nat) (v : RingId) (slot : Nat) (s : State) : Host.Outcome State Fault Refusal :=
  runCmd t v slot 0x25 (fun e => argF e 2 8 1 == 0) s fun s e n => suspendPort s v e n

/-- SUSPEND_PORT with RESUME 1: a resume that a remote wake began already serves the command too (R186, R188). -/
def execResumePort (t : Nat) (v : RingId) (slot : Nat) (s : State) : Host.Outcome State Fault Refusal :=
  runCmd t v slot 0x25 (fun e => argF e 2 8 1 == 1) s fun s e n =>
    let b := s.nibs.get n
    if ¬ portLit s n ∨ treeThere b = false then finishCmd s v e.slot ccPortGone 0 n
    else
      match b.susp with
      | .awake => finishCmd s v e.slot ccSuccess 0 n
      | .resumeK _ => setNib s n (fun x => { x with suspCmd := some (v, e.slot) })
      | .resuming _ => setNib s n (fun x => { x with suspCmd := some (v, e.slot) })
      | _ => treeResume (setNib s n (fun x => { x with suspCmd := some (v, e.slot) })) n

/-- The suspend in progress on a port is over: LINK 2, and the command's completion and notice where there is one (R186, R192). -/
def suspendDone (s : State) (n : PortId) (u3 : Bool) : State :=
  let b := s.nibs.get n
  let s1 := setNib s n (fun x => { x with susp := .suspended, suspCmd := none, phaseS := if ssUp x && u3 then .u3 else x.phaseS })
  match b.suspCmd with
  | some (v, slot) => portStateNotice (finishCmd s1 v slot ccSuccess 0 n) n 2 2 (speedCode (s1.nibs.get n))
  | none => s1

/-- The lines have been idle for 3 ms and U3 is reached, or 10 ms have passed (R186). -/
def execSuspendComplete (t : Nat) (port : PortId) (u3 : Bool) (s : State) : Host.Outcome State Fault Refusal :=
  act t s fun s =>
    match (s.nibs.get port).susp with
    | .entering since =>
      when (s.folioOn && (decide (since + ticksMs 10 ≤ s.now) || (decide (since + ticksMs 3 ≤ s.now) && (u3 || !ssUp (s.nibs.get port))))) s fun s =>
        suspendDone s port u3
    | _ => s

/-- 20 ms of resume K are over: the EOP, and SOF again (R186). -/
def execResumeSignalEnd (t : Nat) (port : PortId) (s : State) : Host.Outcome State Fault Refusal :=
  act t s fun s =>
    match (s.nibs.get port).susp with
    | .resumeK since =>
      when (s.folioOn && decide (since + ticksMs 20 ≤ s.now)) s fun s =>
        let s1 := setNib s port (fun x => { x with susp := .resuming s.now })
        if (s.nibs.get port).connect then emit (emit s1 (.line port .eop)) (.line port .sofStart) else s1
    | _ => s

/-- The resume of a tree is over: the command completes, or the remote-wake notice goes out, and the work goes on; a suspend that waited behind it begins (R186–R188). -/
def resumeDone (s : State) (n : PortId) : State :=
  let b := s.nibs.get n
  let s1 := setNib s n (fun x => { x with susp := .awake, suspCmd := none, suspNext := none, waking := false, phaseS := if x.phaseS = .u3 then .u0 else x.phaseS
                                          idleSince := s.now })
  let s2 := match b.suspCmd with
    | some (v, slot) => portStateNotice (finishCmd s1 v slot ccSuccess 0 n) n 3 1 (speedCode (s1.nibs.get n))
    | none => if b.waking then notice s1 0x09 .info n (s1.own.get n).owner [pack64 [(0, 0), (1, bnat (b.phaseS == .u3 && !b.connect))]] (toOwner s1 n) else s1
  let s3 := refreshAges (hubResumed s2 n)
  match b.suspNext with
  | some c => treeSuspend (setNib s3 n (fun x => { x with suspCmd := some c })) n
  | none => s3

/-- 10 ms after the end of resume signalling (R186). -/
def execResumeComplete (t : Nat) (port : PortId) (s : State) : Host.Outcome State Fault Refusal :=
  act t s fun s =>
    match (s.nibs.get port).susp with
    | .resuming since => when (s.folioOn && decide (since + ticksMs 10 ≤ s.now)) s fun s => resumeDone s port
    | _ => s

/-! ### Devices (R171, R109) -/

/-- The nearest HS hub at or above a device of a port: its address, and the port of it on the way down. -/
def nearestHs (s : State) (n : PortId) : Nat → Nat → Nat → Option (Nat × Nat)
  | 0, _, _ => none
  | k + 1, addr, via =>
    match s.devices.find? (fun d => d.port == n && d.addr == addr) with
    | none => none
    | some d => if d.hub ∧ d.speed = 3 then some (d.addr, via) else if d.parent = 0 then none else nearestHs s n k d.parent d.parentPort

/-- MAX_PACKET0 valid for a speed, as R168 lists them; the SuperSpeed value is an exponent, 9 for 512 bytes. -/
def maxPacket0Ok (speed mps : Nat) : Bool :=
  match speed with
  | 1 => mps == 8
  | 2 => mps == 8 || mps == 16 || mps == 32 || mps == 64
  | 3 => mps == 64
  | 4 => mps == 9 || mps == 512
  | 5 => mps == 9 || mps == 512
  | _ => false

/-- The record ADDRESS_DEVICE would make, where its parameters pass R171 step 1. -/
def addressRecord (s : State) (e : CmdEntry) (n : PortId) : Option Device :=
  let speed := argF e 2 8 3
  let route := argF e 3 0 20
  let parent := argF e 4 0 7
  let pport := argF e 4 8 8
  let tta := argF e 4 16 7
  let ttp := argF e 4 24 8
  let b := s.nibs.get n
  let mk := fun (tier : Nat) => ({ port := n, addr := 0, speed := speed, parent := parent, parentPort := pport, state := 2, suspended := false, config := 0,
                                   hub := false, multiCapable := false, mtt := false, wake := false, lpm := false, u1 := false, u2 := false, tier := tier,
                                   vid := 0, pid := 0, bcd := 0, ttAddr := tta, ttPort := ttp, route := route } : Device)
  if ¬ maxPacket0Ok speed (argF e 5 0 16) then none
  else if parent = 0 then
    let there := if 4 ≤ speed then b.defaultS && ssUp b && b.speedS == speed else b.default2 && b.connect && b.speed2 == speed
    if pport = 0 ∧ tta = 0 ∧ there then some (mk 1) else none
  else
    match s.devices.find? (fun d => d.port == n && d.addr == parent) with
    | none => none
    | some p =>
      let tier := p.tier + 1
      let taken := s.devices.any (fun d => d.port == n && d.parent == parent && d.parentPort == pport)
      let ssOk := if 4 ≤ speed then decide (4 ≤ p.speed) && (List.range (tier - 1)).all (fun k => route / 16 ^ k % 16 != 0) else decide (p.speed ≤ 3)
      let ttOk := match (if speed ≤ 2 then nearestHs s n 7 parent pport else none) with
        | some (h, via) => tta == h && ttp == via
        | none => tta == 0
      if p.hub && !taken && decide (tier ≤ 6) && ssOk && ttOk then some (mk tier) else none

/-- The first free address after the one last assigned, wrapping from 127 to 1. -/
def freeAddr (s : State) (n : PortId) : Option Nat :=
  ((List.range 127).map (fun i => ((s.nibs.get n).lastAddr + i) % 127 + 1)).find? (fun a => !(portDevices s n).any (fun d => d.addr == a))

/-- The setup bytes of SET_ADDRESS. -/
def setAddressSetup (a : Nat) : List Byte := [0, 5] ++ natBytesLE 2 a ++ natBytesLE 4 0

/-- ADDRESS_DEVICE: parameters, allocation, then SET_ADDRESS at address 0 (R171). -/
def execAddressDevice (t : Nat) (v : RingId) (slot : Nat) (s : State) : Host.Outcome State Fault Refusal :=
  runCmd t v slot 0x26 anyArgs s fun s e n =>
    if ¬ portLit s n then finishCmd s v e.slot ccPortGone 0 n
    else
      match addressRecord s e n with
      | none => finishCmd s v e.slot ccParam 0 n
      | some d =>
        let r := allocCtx s
        match freeAddr s n, r.2 with
        | some a, some c =>
          let mps := argF e 5 0 16
          let pendingA : Addressing :=
            { v := v, slot := e.slot, device := { d with addr := a }, mps := if 4 ≤ d.speed then 512 else mps, ctx := c, cerr := errLimit s n, recoverAt := none }
          emit (setNib r.1 n (fun b => { b with addressing := some pendingA }))
            (.control n 0 (setAddressSetup a))
        | _, _ => finishCmd r.1 v e.slot ccExhausted 0 n

/-- A context with nothing bound to it. -/
def newEp (ctx : Nat) (n : PortId) (dev epAddr type mps : Nat) : Endpoint :=
  { ctx := ctx, port := n, dev := dev, epAddr := epAddr, type := type, maxPacket := mps, interval := 0, burst := 0, mult := 0, bpi := 0, lead := 0, jitter := 0,
    bound := none, run := .stopped, toggle := 0, ra := false, raCredit := 0, stash := [], discarded := 0, chain := [], fetch := 0, busy := false, queue := [],
    admission := none, splitOpen := false, ttWait := false, age := 0, ageSince := none, promoted := false, lastInterval := none, cerr := 0, erdyWait := false,
    ping := false, stopping := none }

/-- 2 ms after SET_ADDRESS the device is addressed, with its endpoint 0 context unbound (R171 step 4). -/
def addressDone (s : State) (n : PortId) (a : Addressing) : State :=
  let d := a.device
  let s1 : State := { s with devices := s.devices ++ [d], eps := s.eps ++ [newEp a.ctx n d.addr 0 0 a.mps] }
  let s2 := setNib s1 n (fun b => { b with
    addressing := none, lastAddr := d.addr
    default2 := if d.parent = 0 ∧ d.speed ≤ 3 then false else b.default2
    defaultS := if d.parent = 0 ∧ 4 ≤ d.speed then false else b.defaultS })
  finishCmd s2 a.v a.slot ccSuccess (d.addr + a.ctx * 256) n

/-- The recovery of 2 ms is over (R171). -/
def execSetAddressRecovery (t : Nat) (port : PortId) (s : State) : Host.Outcome State Fault Refusal :=
  act t s fun s =>
    match (s.nibs.get port).addressing with
    | some a =>
      match a.recoverAt with
      | some r => when (s.folioOn && decide (r + ticksMs 2 ≤ s.now)) s fun s => addressDone s port a
      | none => s
    | none => s

/-- DISABLE_DEVICE (R109): its transfers end with CANCELLED. -/
def execDisableDevice (t : Nat) (v : RingId) (slot : Nat) (s : State) : Host.Outcome State Fault Refusal :=
  runCmd t v slot 0x27 anyArgs s fun s e n =>
    let a := argF e 2 0 7
    if (portDevices s n).any (fun d => d.addr == a) then
      let s1 := ((portEps s n).filter (fun y => y.dev == a)).foldl (fun u y => abandonSplit u y.ctx) s
      refreshAges (finishCmd (releaseDevice s1 n a ccCancelled 2) v e.slot ccSuccess 0 n)
    else finishCmd s v e.slot ccUnknown 0 n

/-! ### Endpoints -/

/-- The endpoint CONFIGURE_ENDPOINT describes (R111). -/
def argEp (e : CmdEntry) (n : PortId) : Endpoint :=
  { newEp 0 n (argF e 2 0 7) (argF e 2 16 8) (argF e 2 24 2) (argF e 3 0 16) with
    interval := argF e 3 16 8, burst := argF e 3 24 4, mult := argF e 3 28 2, bpi := argF e 4 0 24, lead := argF e 5 0 16, jitter := argF e 5 16 16 }

/-- Parameters inside their ranges (R111, R203); an endpoint that has a context already is outside them, as is a maximum packet of no bytes. -/
def argEpOk (s : State) (y : Endpoint) : Bool :=
  y.dev != 0 && y.epAddr % 16 != 0 && y.type != 0 && y.maxPacket != 0 && y.mult != 3
    && (y.type == 2 || (decide (1 ≤ y.interval) && decide (y.interval ≤ 16)))
    && !s.eps.any (fun x => x.port == y.port && x.dev == y.dev && x.epAddr == y.epAddr)

/-- CONFIGURE_ENDPOINT (R111, R203–R205). -/
def configureEp (s : State) (v : RingId) (e : CmdEntry) (n : PortId) : State :=
  let y := argEp e n
  if ¬ argEpOk s y then finishCmd s v e.slot ccParam 0 n
  else if ¬ (portDevices s n).any (fun d => d.addr == y.dev) then finishCmd s v e.slot ccUnknown 0 n
  else
    let r := allocCtx s
    let add := fun (u : State) (z : Endpoint) => finishCmd { u with eps := u.eps ++ [z] } v e.slot ccSuccess z.ctx n
    if y.type = 2 then
      match r.2 with
      | some c => add r.1 { y with ctx := c }
      | none => finishCmd r.1 v e.slot ccExhausted 0 n
    else
      let refuse := fun (k : Nat) => finishCmd (refuseAdmission r.1 n v k (r.2.getD 0xFFFF)) v e.slot ccAdmission k n
      match admission s y, r.2 with
      | .inl k, _ => refuse k
      | .inr _, none => refuse 4
      | .inr a, some c => add r.1 { y with ctx := c, admission := some a }

/-- CONFIGURE_ENDPOINT; it waits while the port's Ductus restarts (R407). -/
def execConfigureEndpoint (t : Nat) (v : RingId) (slot : Nat) (s : State) : Host.Outcome State Fault Refusal :=
  runCmd t v slot 0x28 (fun e => tileOn s (cmdPort s e) 2) s fun s e n => configureEp s v e n

/-- BIND_ENDPOINT_RING (R109): bound and stopped; a halted endpoint stays halted (R79). -/
def execBindEndpointRing (t : Nat) (v : RingId) (slot : Nat) (s : State) : Host.Outcome State Fault Refusal :=
  runCmd t v slot 0x29 anyArgs s fun s e n =>
    let c := argCtx e
    let base := (argW e 0).toNat + (argW e 1).toNat * 2 ^ 32
    let k := argF e 2 16 5
    let deq := argF e 3 0 16
    if k < 4 ∨ 16 < k ∨ base % 64 ≠ 0 ∨ 2 ^ k ≤ deq ∨ reaches s v base (32 * 2 ^ k) = false then finishCmd s v e.slot ccParam 0 n
    else if (findEp s c).any (fun y => y.run == .running) then finishCmd s v e.slot ccBusy 0 n
    else
      finishCmd (setEp s c (fun y => { y with
        bound := some { base := base, log2 := k, index := deq, lap := argF e 3 16 1 == 1, dead := false }
        chain := [], fetch := 0, busy := false, lastInterval := none })) v e.slot ccSuccess 0 n

/-- The blocks of an endpoint that has nothing more to move are free, but for those its bytes fill (R251). -/
def settleIdle (s : State) (ctx : Nat) : State :=
  match findEp s ctx with
  | some e => if idleCtx s ctx then settleCtx (ctxBytes s ctx) s (ctxOwner s e) ctx else s
  | none => s

/-- STOP_ENDPOINT takes effect: the transfer in flight is cancelled, and RESULT gives the dequeue index and lap, which for a context with no ring the spec leaves open (R109, R181). -/
def stopNow (s : State) (v : RingId) (slot ctx : Nat) (n : PortId) : State :=
  let s1 := match (findEp s ctx).bind (fun y => y.queue.head?) with
    | some x => endAndSettle (abandonSplit s ctx) ctx x ccCancelled x.done
    | none => s
  let s2 := setEp (stopEp s1 ctx) ctx (fun y => { y with stopping := none })
  let s3 := refreshAges (settleIdle s2 ctx)
  match (findEp s2 ctx).bind (fun y => y.bound.map (fun _ => dequeue y)) with
  | some d => finishCmd s3 v slot ccSuccess (d.1 + bnat d.2 * 65536) n
  | none =>
    let d := draw s3
    finishCmd d.2 v slot ccSuccess (d.1.toNat % 131072) n

/-- STOP_ENDPOINT; `onWire`: a transaction of the endpoint is in progress, and finishes first (R109). -/
def execStopEndpoint (t : Nat) (v : RingId) (slot : Nat) (onWire : Bool) (s : State) : Host.Outcome State Fault Refusal :=
  runCmd t v slot 0x2A anyArgs s fun s e n =>
    let c := argCtx e
    if onWire && (findEp s c).any (fun y => !y.queue.isEmpty && epRuns y) then setEp s c (fun y => { y with stopping := some (v, e.slot) })
    else stopNow s v e.slot c n

/-- RESET_ENDPOINT: a halted endpoint is stopped with its toggle at 0, and a marker not reached is removed (R109, R183). -/
def execResetEndpoint (t : Nat) (v : RingId) (slot : Nat) (s : State) : Host.Outcome State Fault Refusal :=
  runCmd t v slot 0x2B anyArgs s fun s e n =>
    let clear := fun (y : Endpoint) =>
      if y.run = .halted then
        { y with run := .stopped, toggle := 0, ping := false, erdyWait := false, cerr := errLimit s n
                 stash := y.stash.filter (fun i => match i with
                   | .packet _ => true
                   | .mark _ => false) }
      else y
    finishCmd (setEp s (argCtx e) clear) v e.slot ccSuccess 0 n

/-- DISABLE_ENDPOINT: its transfers end with CANCELLED, its stash is discarded (R109, R121, R206). -/
def execDisableEndpoint (t : Nat) (v : RingId) (slot : Nat) (s : State) : Host.Outcome State Fault Refusal :=
  runCmd t v slot 0x2C anyArgs s fun s e n =>
    refreshAges (finishCmd (releaseEp (abandonSplit s (argCtx e)) (argCtx e) ccCancelled 1).1 v e.slot ccSuccess 0 n)

/-- Why read-ahead is refused; 0 where it is not (R120, R252). -/
def readAheadReason (s : State) (v : RingId) (e : CmdEntry) : Nat :=
  let credit := argF e 3 0 11
  if argF e 2 17 1 = 0 then 1
  else if ¬ (findEp s (argCtx e)).any (fun y => y.type == 2 && epIn y) then 2
  else if credit = 0 ∨ 1024 < credit ∨ inkLimit s (.ring v) < credit then 3 else 0

/-- SET_READ_AHEAD with ENABLE 1 (R120). -/
def execSetReadAhead (t : Nat) (v : RingId) (slot : Nat) (s : State) : Host.Outcome State Fault Refusal :=
  runCmd t v slot 0x2D (fun e => argF e 2 16 1 == 1) s fun s e n =>
    let k := readAheadReason s v e
    if k ≠ 0 then finishCmd s v e.slot ccReadAhead k n
    else finishCmd (claimRoom (setEp s (argCtx e) (fun y => { y with ra := true, raCredit := argF e 3 0 11, cerr := errLimit s n })) (argCtx e)) v e.slot ccSuccess 0 n

/-- SET_READ_AHEAD with ENABLE 0: the stash stays (R120). -/
def execReadAheadOff (t : Nat) (v : RingId) (slot : Nat) (s : State) : Host.Outcome State Fault Refusal :=
  runCmd t v slot 0x2D (fun e => argF e 2 16 1 == 0) s fun s e n =>
    finishCmd (settleIdle (setEp s (argCtx e) (fun y => { y with ra := false })) (argCtx e)) v e.slot ccSuccess 0 n

/-! ### Queries -/

/-- The buffer at offset 0 of a command. -/
def argBuf (e : CmdEntry) : Nat := (argW e 0).toNat + (argW e 1).toNat * 2 ^ 32

/-- QUERY_PORT: the snapshot layout as of now, with CAUSE 0 and this VI on both sides (R109). -/
def execQueryPort (t : Nat) (v : RingId) (slot : Nat) (s : State) : Host.Outcome State Fault Refusal :=
  runCmd t v slot 0x2E anyArgs s fun s e n =>
    let es := portEps s n
    let flags := packNat [(1, bnat (decide (0 < (es.map (fun y => stashBytes y.stash)).sum))), (2, bnat (es.any (fun y => y.admission.isSome)))]
    let code := Owner.code (.ring v)
    let bytes := snapshotBytes s n { cause := 0, prev := code, next := code, stroke := stroke s, flags := flags, frame := timelineFrame s v, ended := 0 }
    if (argW e 3).toNat < bytes.length then finishCmd s v e.slot ccTooSmall bytes.length n
    else if reaches s v (argBuf e) bytes.length then finishCmd (hostWrite s v (argBuf e) bytes) v e.slot ccSuccess bytes.length n
    else finishCmd s v e.slot ccRemote 0 n

/-- QUERY_VI: offsets 0x800–0x8FF of the page (R109). -/
def execQueryVi (t : Nat) (v : RingId) (slot : Nat) (s : State) : Host.Outcome State Fault Refusal :=
  runCmd t v slot 0x2F anyArgs s fun s e _ =>
    let bytes := (List.range 64).flatMap (fun i => bytesLE (regView s (viBase v.val + 0x800 + 4 * i)))
    if reaches s v (argBuf e) 256 then finishCmd (hostWrite s v (argBuf e) bytes) v e.slot ccSuccess 0 0
    else finishCmd s v e.slot ccRemote 0 0

/-! ### Replay (R123, R124) -/

/-- One retained completion is rewritten: its data first where it is still held, REMOTE_ACCESS_ERROR where it is not (R123). -/
def replayOne (s : State) (v : RingId) (c : Completion) : State :=
  let s1 := c.data.foldl (fun u d => hostWrite u v d.1 d.2) s
  let c1 := if c.dataLost = 0 then c else { c with code := ccRemote, length := c.dataLost % 2 ^ 24 }
  pushDue s1 v [{ entry := .completion c1 true, needAck := if c.data.isEmpty then 0 else writeNo s1 v, urgent := false }]

/-- What a replay from a sequence number comes to: its code, its RESULT, and the completions to rewrite (R123). -/
def replayPlan (s : State) (v : RingId) (n : Nat) : Nat × Nat × List Completion :=
  let x := s.vis.get v
  let oldest := oldestSeqOf x
  let d := (n + 2 ^ 32 - oldest) % 2 ^ 32
  let span := (x.nextSeq + 2 ^ 32 - oldest) % 2 ^ 32
  if d ≤ span then (ccSuccess, x.window.length - d, x.window.drop d)
  else
    let before := (oldest + 2 ^ 32 - n) % 2 ^ 32
    if before < 2 ^ 31 then (ccPartial, satN 24 before, x.window) else (ccParam, 0, [])

/-- Rewrite completions in order. -/
def replayAll (s : State) (v : RingId) (cs : List Completion) : State := cs.foldl (fun u c => replayOne u v c) s

/-- REPLAY (R123). -/
def execReplay (t : Nat) (v : RingId) (slot : Nat) (s : State) : Host.Outcome State Fault Refusal :=
  runCmd t v slot 0x30 anyArgs s fun s e _ =>
    let p := replayPlan s v (argW e 2).toNat
    finishCmd (replayAll (earlierNotices s v) v p.2.2) v e.slot p.1 p.2.1 0

/-- RESYNC clears: notices are delivered, and every running transfer ring is fetched again from its dequeue index (R124). -/
def endResync (s : State) (v : RingId) : State :=
  let s1 := setVi s v (fun x => { x with resync := false })
  let s2 := deliverAll ((s1.margin.queues.get (viQueue v)).notices.length) s1 v
  let again := fun (y : Endpoint) => match y.bound with
    | some b => if y.run = .running then { y with fetch := 2 ^ b.log2, busy := false } else y
    | none => y
  let s3 : State := { s2 with eps := s2.eps.map (fun y => if viOwns s2 v y.port then again y else y) }
  refreshAges (kickFetch s3 v)

/-- RESUME: the event position, the replay, its own completion, then the end of RESYNC (R124). An EVT_HEAD outside the ring is an invalid parameter. -/
def execResume (t : Nat) (v : RingId) (slot : Nat) (s : State) : Host.Outcome State Fault Refusal :=
  runCmd t v slot 0x31 anyArgs s fun s e _ =>
    let head := argF e 3 0 16
    let p := replayPlan s v (((argW e 2).toNat + 1) % 2 ^ 32)
    if evtSlots s v ≤ head ∨ p.1 = ccParam then finishCmd s v e.slot ccParam 0 0
    else
      let s1 := setVi s v (fun x => { x with evtTail := head, evtLap := argF e 3 16 1 == 1, evtUsed := 0, evtFull := false, due := [] })
      endResync (finishCmd (replayAll s1 v p.2.2) v e.slot p.1 p.2.1 0) v

end Sys2Proof.Machine
end

