-- ==== Sys2Proof/Machine/Bus.lean ====
section
/-! DEFINITION. What a USB transaction does to the transfer it belongs to: control, bulk, interrupt and isochronous, read-ahead polls, the preview and SET_ADDRESS (R168, R171, R173–R184, R207). -/

namespace Sys2Proof.Machine

/-! ### Records kept current (R173) -/

/-- A byte of a list. -/
def byteAt (bs : List Byte) (i : Nat) : Nat := (bs.getD i 0).toNat

/-- Whether a BOS descriptor's USB 2.0 extension capability shows LPM: the capabilities from a given place on. -/
def bosLpm : Nat → List Byte → Bool
  | 0, _ => false
  | k + 1, bs =>
    let len := byteAt bs 0
    if len = 0 then false
    else if byteAt bs 1 = 0x10 ∧ byteAt bs 2 = 2 then byteAt bs 3 / 2 % 2 == 1
    else bosLpm k (bs.drop len)

/-- What a standard request that completed with SUCCESS shows of a device (R173). -/
def observedDevice (s : State) (d : Device) (setup data : List Byte) : Device :=
  let req := byteAt setup 1
  let value := byteAt setup 2 + 256 * byteAt setup 3
  let index := byteAt setup 4 + 256 * byteAt setup 5
  let w := fun (i : Nat) => byteAt data i + 256 * byteAt data (i + 1)
  match byteAt setup 0 with
  | 0x80 =>
    if req = 6 ∧ value / 256 = 1 ∧ data.length = 18 then
      { d with vid := w 8, pid := w 10, bcd := w 12, hub := byteAt data 4 == 9, multiCapable := byteAt data 4 == 9 && byteAt data 6 == 2 }
    else if req = 6 ∧ value / 256 = 15 ∧ d.tier = 1 ∧ d.speed ≤ 3 then { d with lpm := l1En s d.port && bosLpm data.length (data.drop 5) }
    else d
  | 0x01 => if req = 11 ∧ index = 0 ∧ d.multiCapable then { d with mtt := value == 1 } else d
  | 0x00 =>
    if req = 9 then { d with config := value % 256, state := if value % 256 = 0 then 2 else 3 }
    else if req = 3 ∨ req = 1 then
      (if value = 1 then { d with wake := req == 3 }
       else if value = 48 then { d with u1 := req == 3 }
       else if value = 49 then { d with u2 := req == 3 } else d)
    else d
  | _ => d

/-- The records after a control transfer of an endpoint completed with SUCCESS. -/
def observe (s : State) (e : Endpoint) (x : Transfer) : State :=
  let setup := ((x.tds.head?).map (fun d => d.setup)).getD []
  let data := x.wrote.flatMap (fun w => w.2.2)
  { s with devices := s.devices.map (fun d => if d.port == e.port && d.addr == e.dev then observedDevice s d setup data else d) }

/-! ### Errors and handshakes (R175) -/

/-- A transaction ran well: the error count starts again. -/
def goodXfer (s : State) (e : Endpoint) (x : Transfer) : Transfer := { x with cerr := errLimit s e.port, begun := true }

/-- An errored transaction is counted. -/
def countBusError (s : State) (n : PortId) : State := rcCount s (portReg n 0x40C) 0

/-- An errored transaction of a transfer: it is tried again, or ends with TRANSACTION_ERROR at the limit (R175). -/
def xferError (s : State) (e : Endpoint) (x : Transfer) : State :=
  let s1 := countBusError s e.port
  let y := { x with cerr := x.cerr - 1, begun := true }
  let s2 := setXfer s1 e.ctx x y
  if y.cerr = 0 then concludeXfer s2 e.ctx y ccTransaction else s2

/-- NAK, NYET and NRDY end nothing: the transfer goes on, SuperSpeed waits for ERDY, HS bulk OUT goes on with PING, and a split whose result this is is closed (R175, R177). -/
def xferWaits (s : State) (e : Endpoint) (x : Transfer) (r : BusResult) : State :=
  let s1 := setXfer s e.ctx x (goodXfer s e x)
  match r with
  | .nrdy => setEp s1 e.ctx (fun y => { y with erdyWait := true })
  | .erdy => setEp s1 e.ctx (fun y => { y with erdyWait := false })
  | .splitAccepted => setEp s1 e.ctx (fun y => { y with splitOpen := true })
  | .nyet => if e.splitOpen then s1 else setEp s1 e.ctx (fun y => { y with ping := e.type == 2 && !epIn e })
  | _ =>
    let hs := (epDevice s e).any (fun d => d.speed == 3)
    setEp s1 e.ctx (fun y => { y with splitOpen := false, ping := y.ping || (hs && e.type == 2 && !epIn e) })

/-- The toggle or sequence number advances with a packet (R177, R182). -/
def bumpToggle (s : State) (e : Endpoint) : State :=
  setEp s e.ctx (fun y => { y with toggle := if epSs s e then (y.toggle + 1) % 32 else (y.toggle + 1) % 2, splitOpen := false })

/-! ### IN and OUT data (R174) -/

/-- IN data of a transfer arrives: the state, the transfer as it now stands, and whether the packet was longer than the room. -/
def takeIn (s : State) (e : Endpoint) (x : Transfer) (bs : List Byte) : State × Transfer × Bool :=
  let room := min (xferLen x - x.done) (pktSize s e)
  let before := ctxBytes s e.ctx
  let w := writeIn s (goodXfer s e x) (bs.take room)
  (settleCtx before (setXfer w.1 e.ctx x w.2) (.ring x.v) e.ctx, w.2, decide (room < bs.length))

/-- An IN packet of a bulk or interrupt transfer (R174, R176). -/
def bulkIn (s : State) (e : Endpoint) (x : Transfer) (bs : List Byte) (ok : Bool) : State :=
  if ¬ ok then setXfer s e.ctx x (goodXfer s e x)
  else
    let r := takeIn s e x bs
    let s1 := bumpToggle r.1 e
    if r.2.2 then concludeXfer s1 e.ctx r.2.1 ccBabble
    else if r.2.1.done = xferLen r.2.1 then concludeXfer s1 e.ctx r.2.1 ccSuccess
    else if bs.length < pktSize s e then concludeXfer s1 e.ctx r.2.1 ccShort
    else s1

/-- An OUT packet was taken by the device: its bytes leave Inkwell (R174); a zero-length packet follows where ZLP asks for one (R103). The transfer as it now stands, and whether all of it is sent. -/
def takeOut (s : State) (e : Endpoint) (x : Transfer) : State × Transfer × Bool :=
  let n := nextLen s e x
  let g := goodXfer s e x
  let y := if x.zlpDue then { g with zlpDue := false } else { g with done := x.done + n, held := x.held.drop n }
  let zlp := !x.zlpDue && y.done == xferLen x && decide (0 < xferLen x) && xferLen x % pktSize s e == 0
    && ((lastTd x).map (fun d => d.zlp)).getD false
  let z := { y with zlpDue := zlp }
  let before := ctxBytes s e.ctx
  (settleCtx before (setXfer s e.ctx x z) (.ring x.v) e.ctx, z, z.done == xferLen x && !zlp)

/-- An OUT packet of a bulk or interrupt transfer was acknowledged; at HS an ACK while PING runs only ends the pinging (R177). -/
def bulkOut (s : State) (e : Endpoint) (x : Transfer) (nyet : Bool) : State :=
  if e.ping && !nyet then setEp (setXfer s e.ctx x (goodXfer s e x)) e.ctx (fun y => { y with ping := false })
  else
    let r := takeOut s e x
    let s1 := setEp (bumpToggle r.1 e) e.ctx (fun y => { y with ping := nyet })
    if r.2.2 then concludeXfer s1 e.ctx r.2.1 ccSuccess else s1

/-- The packet an OUT transaction sends. -/
def outPacket (s : State) (e : Endpoint) (x : Transfer) : List Byte := if x.zlpDue then [] else x.held.take (nextLen s e x)

/-- A transaction of a bulk or interrupt transfer. -/
def bulkXact (s : State) (e : Endpoint) (x : Transfer) (r : BusResult) : State :=
  match r with
  | .stall => concludeXfer s e.ctx x ccStall
  | .error => xferError s e x
  | .babble bs => if epIn e then concludeXfer (takeIn s e x bs).1 e.ctx (takeIn s e x bs).2.1 ccBabble else s
  | .data bs ok => if epIn e then bulkIn s e x bs ok else s
  | .ack => if epIn e then s else bulkOut s e x false
  | .nyet => if epIn e || e.splitOpen then xferWaits s e x r else bulkOut s e x true
  | _ => xferWaits s e x r

/-! ### Control transfers (R177) -/

/-- The end of a control transfer: SHORT_PACKET where the device sent less than asked, else SUCCESS, which updates the records (R173, R174). -/
def controlDone (s : State) (e : Endpoint) (x : Transfer) : State :=
  let short := setupIn x && decide (x.done < xferLen x)
  if short then concludeXfer s e.ctx x ccShort else concludeXfer (observe s e x) e.ctx x ccSuccess

/-- The status stage runs IN when there is no IN data stage. -/
def statusIn (x : Transfer) : Bool := !(setupIn x && decide (0 < xferLen x))

/-- A control transaction that moved something: SETUP acknowledged, a data packet, or the status. -/
def controlMoves (s : State) (e : Endpoint) (x : Transfer) (data : Option (List Byte)) : State :=
  let s0 := setEp s e.ctx (fun y => { y with splitOpen := false })
  match x.stage, data with
  | 0, none => setXfer s0 e.ctx x { goodXfer s e x with stage := if xferLen x = 0 then 2 else 1 }
  | 1, some bs =>
    if ¬ setupIn x then s
    else
      let r := takeIn s0 e x bs
      if r.2.2 then concludeXfer r.1 e.ctx r.2.1 ccBabble
      else if r.2.1.done = xferLen x ∨ bs.length < pktSize s e then setXfer r.1 e.ctx r.2.1 { r.2.1 with stage := 2 }
      else r.1
  | 1, none =>
    if setupIn x then s
    else
      let r := takeOut s0 e x
      if r.2.2 then setXfer r.1 e.ctx r.2.1 { r.2.1 with stage := 2 } else r.1
  | 2, some _ => if statusIn x then controlDone (setXfer s0 e.ctx x (goodXfer s e x)) e (goodXfer s e x) else s
  | 2, none => if statusIn x then s else controlDone (setXfer s0 e.ctx x (goodXfer s e x)) e (goodXfer s e x)
  | _, _ => s

/-- A transaction of a control transfer: STALL and TRANSACTION_ERROR end it, and never halt the endpoint. -/
def controlXact (s : State) (e : Endpoint) (x : Transfer) (r : BusResult) : State :=
  match r with
  | .stall => concludeXfer s e.ctx x ccStall
  | .error => xferError s e x
  | .babble bs => if x.stage = 1 ∧ setupIn x then concludeXfer (takeIn s e x bs).1 e.ctx (takeIn s e x bs).2.1 ccBabble else s
  | .data bs ok => if ok then controlMoves s e x (some bs) else setXfer s e.ctx x (goodXfer s e x)
  | .ack => controlMoves s e x none
  | .nyet => if e.splitOpen ∨ x.stage ≠ 1 ∨ setupIn x then xferWaits s e x r else controlMoves s e x none
  | _ => xferWaits s e x r

/-! ### Isochronous endpoints (R178, R207) -/

/-- The microframe of the timeline the port's owner has now. -/
def ownerUf (s : State) (n : PortId) : Nat :=
  match ringOwner s n with
  | some v => timelineUf s v
  | none => 0

/-- The IN data an isochronous transfer has received goes to host memory. -/
def isochWrite (s : State) (e : Endpoint) (x : Transfer) : State × Transfer :=
  let w := writeIn s { x with held := [] } x.held
  (setXfer w.1 e.ctx x w.2, w.2)

/-- An isochronous transfer ends with a code, its data delivered first. -/
def isochEnd (s : State) (e : Endpoint) (x : Transfer) (code : Nat) : State :=
  if epIn e then
    let r := isochWrite s e x
    concludeXfer r.1 e.ctx r.2 code
  else concludeXfer s e.ctx x code

/-- A transaction of an isochronous interval: never retried (R178). -/
def isochXact (s : State) (e : Endpoint) (x : Transfer) (r : BusResult) : State :=
  let put := fun (bs : List Byte) (bad : Bool) =>
    let room := min (xferLen x - x.held.length) (pktSize s e)
    if x.preset.isSome then setXfer s e.ctx x { x with stage := 1 }
    else setXfer s e.ctx x { x with held := x.held ++ bs.take room, stage := 1, preset := if bad || decide (room < bs.length) then some ccBabble else none }
  match r with
  | .data bs _ => if epIn e then put bs false else s
  | .babble bs => if epIn e then put bs true else s
  | .error => isochEnd (countBusError s e.port) e x ccTransaction
  | .ack =>
    if epIn e then s
    else
      let n := nextLen s e x
      setXfer s e.ctx x { x with done := x.done + n, held := x.held.drop n, stage := 1 }
  | _ => s

/-- The code of an isochronous interval that has ended (R178). -/
def isochCode (e : Endpoint) (x : Transfer) : Nat :=
  match x.preset with
  | some c => c
  | none =>
    if x.stage = 0 then ccMissed
    else if epIn e then (if x.held.length < xferLen x then ccShort else ccSuccess)
    else if x.done < xferLen x then ccMissed else ccSuccess

/-- An interval begins: OUT data not all held gives UNDERRUN after a zero-length packet, an IN buffer without room for the interval gives OVERRUN (R178, R207). -/
def isochBegin (s : State) (e : Endpoint) (x : Transfer) : State :=
  if epIn e then
    let space := (e.admission.map (fun a => a.space)).getD 0
    setXfer s e.ctx x { x with begun := true, preset := if decide (space < epBytes e + min e.bpi (xferLen x)) then some ccOverrun else none }
  else if x.held.length < xferLen x then concludeXfer (emit s (.busOut e.port e.ctx [])) e.ctx { x with begun := false } ccUnderrun
  else setXfer s e.ctx x { x with begun := true }

/-- Bring an isochronous endpoint to the present microframe of its owner's timeline: intervals that have ended complete, the one that begins is prepared; descriptors that failed their checks complete in their turn. -/
def isochStep : Nat → State → Nat → State
  | 0, s, _ => s
  | k + 1, s, ctx =>
    match findEp s ctx with
    | none => s
    | some e =>
      match e.queue with
      | [] => s
      | x :: _ =>
        let cur := ownerUf s e.port
        if ¬ epRuns e then s
        else
          match x.interval with
          | none =>
            match x.preset with
            | some c => isochStep k (concludeXfer s ctx x c) ctx
            | none => s
          | some i =>
            if i + slotUf s e ≤ cur then isochStep k (isochEnd s e x (isochCode e x)) ctx
            else if decide (i ≤ cur) && !x.begun && (s.nibs.get e.port).susp == .awake then isochBegin s e x
            else s

/-- Every isochronous endpoint of a port at a microframe's start. Nothing moves while the owner is Unreachable (R155). -/
def isochBoundary (s : State) (n : PortId) : State :=
  match ringOwner s n with
  | none => s
  | some v =>
    if (s.vis.get v).unreachable then s
    else (((portEps s n).filter (fun e => e.type == 1)).map (fun e => e.ctx)).foldl (fun u c =>
      isochStep (2 * ((findEp u c).map (fun e => e.queue.length)).getD 0 + 1) u c) s

/-! ### Read-ahead polls (R120, R182, R183) -/

/-- Whether an endpoint is polled ahead of descriptors now. -/
def raPolls (s : State) (e : Endpoint) : Bool := raWanted s e && inRoom s e && !e.erdyWait

/-- A read-ahead poll: its data, or a marker, joins the stash. -/
def raXact (s : State) (e : Endpoint) (r : BusResult) : State :=
  let mark := fun (u : State) (c : Nat) => setEp u e.ctx (fun y => { y with stash := y.stash ++ [.mark c], splitOpen := false })
  let good := fun (u : State) => setEp u e.ctx (fun y => { y with cerr := errLimit s e.port })
  match r with
  | .data bs ok =>
    if ¬ ok then good s
    else if pktSize s e < bs.length then mark s ccBabble
    else
      let s1 := setEp (bumpToggle (good s) e) e.ctx (fun y => { y with stash := y.stash ++ [.packet bs] })
      settleCtx (ctxBytes s e.ctx) s1 (ctxOwner s e) e.ctx
  | .babble _ => mark s ccBabble
  | .stall => mark s ccStall
  | .error =>
    let s1 := setEp (countBusError s e.port) e.ctx (fun y => { y with cerr := y.cerr - 1 })
    if e.cerr ≤ 1 then mark (abandonSplit s1 e.ctx) ccTransaction else s1
  | .nrdy => setEp (good s) e.ctx (fun y => { y with erdyWait := true })
  | .splitAccepted => setEp (good s) e.ctx (fun y => { y with splitOpen := true })
  | .nyet => good s
  | _ => setEp (good s) e.ctx (fun y => { y with splitOpen := false })

/-! ### One transaction -/

/-- The bus an endpoint is on runs: the tree is awake and its path is up. -/
def busRuns (s : State) (n : PortId) (ss : Bool) : Bool :=
  let b := s.nibs.get n
  b.susp == .awake && (if ss then ssUp b else b.connect && b.phase2 == .active)

/-- Traffic brings the path out of L1, U1 or U2, and its idle time starts again (R185). -/
def busActive (s : State) (n : PortId) (ss : Bool) : State :=
  setNib s n (fun b => { b with idleSince := s.now, l1 := if ss then b.l1 else false, phaseS := if ss && ssUp b then .u0 else b.phaseS })

/-- Whether the head transfer of an endpoint may have a transaction: what R174, R177, R178, R180 and R199 ask, and while its VI is Unreachable only one already begun (R155). -/
def mayTransact (s : State) (e : Endpoint) (x : Transfer) (r : BusResult) : Bool :=
  epRuns e && !e.ttWait && (!(s.vis.get x.v).unreachable || (x.begun && e.type != 3 && e.type != 1))
    && (if e.type = 1 then x.begun && x.interval.isSome
        else dataReady s e x && splitFree s e && (!e.erdyWait || r == .erdy))

/-- The age of an endpoint returns to zero with its transaction (R200). -/
def resetAge (s : State) (ctx : Nat) : State := setEp s ctx (fun e => { e with age := 0, ageSince := none, promoted := false })

/-- A transaction of an endpoint, and what follows it: a STOP_ENDPOINT that waited for it, then the work that can go on (R109, R175). -/
def epXact (s : State) (e : Endpoint) (r : BusResult) : State :=
  let s1 := resetAge (busActive s e.port (epSs s e)) e.ctx
  let s2 := match e.queue with
    | x :: _ =>
      if mayTransact s e x r then
        let sent := !xferIn e x && (e.type != 0 || x.stage == 1) && !e.ping && !e.splitOpen && r != .erdy
        let s0 := if sent then emit s1 (.busOut e.port e.ctx (outPacket s e x)) else s1
        match findEp s0 e.ctx with
        | some e0 => if e.type = 0 then controlXact s0 e0 x r else if e.type = 1 then isochXact s0 e0 x r else bulkXact s0 e0 x r
        | none => s0
      else if raPolls s e then raXact s1 e r else s
    | [] => if raPolls s e then raXact s1 e r else if r = .erdy then setEp s e.ctx (fun y => { y with erdyWait := false }) else s
  match e.stopping with
  | some (v, slot) => stopNow s2 v slot e.ctx e.port
  | none => advance s2 e.ctx

/-! ### The preview and SET_ADDRESS (R168, R171) -/

/-- bMaxPacketSize0 valid for the path a preview runs on (R168). -/
def previewSizeOk (b : Nib) (p : Preview) (mps : Nat) : Bool := if p.ss then mps == 9 else maxPacket0Ok b.speed2 mps

/-- A request of the preview ended. -/
def previewXact (s : State) (n : PortId) (r : BusResult) : State :=
  let b := s.nibs.get n
  match b.preview with
  | none => s
  | some p =>
    let fail := if p.step = 3 then 2 else 1
    let go := fun (q : Preview) => previewSend (setNib s n (fun x => { x with preview := some { q with cerr := errLimit s n } })) n
    match r with
    | .data bs _ =>
      if p.step = 3 then endPreview (setNib s n (fun x => { x with preview := some { p with cfg := bs.take 255 } })) n 0
      else
        let q := if p.step = 1 then { p with mps := byteAt bs 7 } else { p with dev := bs.take 18 }
        if previewSizeOk b p (byteAt bs 7) then go { q with step := p.step + 1 }
        else endPreview (setNib s n (fun x => { x with preview := some q })) n 1
    | .stall => endPreview s n fail
    | .babble _ => endPreview s n fail
    | .error =>
      let s1 := setNib (countBusError s n) n (fun x => { x with preview := some { p with cerr := p.cerr - 1 } })
      if p.cerr ≤ 1 then endPreview s1 n fail else previewSend s1 n
    | _ => s

/-- The SET_ADDRESS of an ADDRESS_DEVICE ended: recovery begins, or the command fails with its code (R171). -/
def addressXact (s : State) (n : PortId) (r : BusResult) : State :=
  match (s.nibs.get n).addressing with
  | none => s
  | some a =>
    let fail := fun (u : State) (code : Nat) => finishCmd (setNib u n (fun x => { x with addressing := none })) a.v a.slot code 0 n
    let ok := setNib s n (fun x => { x with addressing := some { a with recoverAt := some s.now } })
    if a.recoverAt.isSome then s
    else
      match r with
      | .ack => ok
      | .data _ _ => ok
      | .stall => fail s ccStall
      | .error =>
        let s1 := setNib (countBusError s n) n (fun x => { x with addressing := some { a with cerr := a.cerr - 1 } })
        if a.cerr ≤ 1 then fail (rcCount s1 (portReg n 0x40C) 16) ccTransaction else emit s1 (.control n 0 (setAddressSetup a.device.addr))
      | _ => s

/-- A transaction on a port's bus. -/
def busXact (s : State) (n : PortId) (who : BusWho) (r : BusResult) : State :=
  match who with
  | .preview => when ((s.nibs.get n).preview.any (fun p => busRuns s n p.ss)) s fun s => previewXact s n r
  | .addressing => addressXact s n r
  | .lig periodic addr ep isIn => ligXact s n periodic addr ep isIn r
  | .funcIn => when (n.val == 15) s funcInToken
  | .ep ctx =>
    match findEp s ctx with
    | some e => when (e.port == n && busRuns s n (epSs s e)) s fun s => epXact s e r
    | none => s

end Sys2Proof.Machine
end

