-- ==== Sys2Proof/Machine/BusCmds.lean ====
section
/-! DEFINITION. The buses of the ports: opcode-table rows BUS_TRANSACTION, TURNAROUND_TIMEOUT, RDMA_READ_RESPONSE, DMA_READ_COMPLETION, PREVIEW_TIME_LIMIT, ENDPOINT_PROMOTION, ISOCH_DATA_FETCH and USB2_CONNECT_DEBOUNCED to STUCK_RETEST (R131, R140, R164–R191, R200, R207). -/

namespace Sys2Proof.Machine

/-! ### Transactions -/

/-- The Nib whose transaction it would be works: the periodic one for interrupt and isochronous endpoints, the asynchronous one for the rest; a Ligature and the Scribe function need none (R160, R407). -/
def nibServes (s : State) (n : PortId) (who : BusWho) : Bool :=
  match who with
  | .ep ctx =>
    match findEp s ctx with
    | some e => tileOn s n (if e.type = 1 ∨ e.type = 3 then 1 else 0)
    | none => true
  | .preview => tileOn s n 0
  | .addressing => tileOn s n 0
  | .lig _ _ _ _ => true
  | .funcIn => true

/-- A transaction ends on the wire with its handshake or data (R175). -/
def execBusTransaction (t : Nat) (port : PortId) (who : BusWho) (result : BusResult) (s : State) : Host.Outcome State Fault Refusal :=
  act t s fun s => when (inkOn s && nibServes s port who) s fun s => busXact s port who result

/-- No response within the turnaround limit: the transaction is errored (R175). -/
def execTurnaroundTimeout (t : Nat) (port : PortId) (who : BusWho) (s : State) : Host.Outcome State Fault Refusal :=
  act t s fun s => when (inkOn s && nibServes s port who) s fun s => busXact s port who .error

/-- 500 ms after the end of reset a preview still running ends with RESULT 3 (R118, R119). -/
def execPreviewTimeLimit (t : Nat) (port : PortId) (s : State) : Host.Outcome State Fault Refusal :=
  act t s fun s =>
    match (s.nibs.get port).preview with
    | some p => when (inkOn s && decide (p.since + ticksMs 500 ≤ s.now)) s fun s => endPreview s port 3
    | none => s

/-- An eligible endpoint whose age reached AGE_MS of its owner goes first (R200). -/
def execEndpointPromotion (t : Nat) (ctx : Nat) (s : State) : Host.Outcome State Fault Refusal :=
  act t s fun s =>
    match findEp s ctx with
    | some e =>
      match ringOwner s e.port with
      | some v => when (inkOn s && eligible s e && decide (ticksMs (viAgeMs s v) ≤ epAge s e)) s fun s => setEp s ctx (fun y => { y with promoted := true })
      | none => s
    | none => s

/-! ### OUT data (R131, R140, R207) -/

/-- OUT data of a context arrives, or its read failed. -/
def outArrived (s : State) (v : RingId) (ctx : Nat) (data : List Byte) (failed : Bool) : State :=
  match findEp s ctx with
  | none => s
  | some e =>
    match e.queue.find? (fun x => x.v == v && !xferIn e x && decide (0 < outstanding x)) with
    | none => s
    | some x =>
      if failed then
        let y := { x with cut := true, asked := x.done + x.held.length }
        let s1 := setXfer s ctx x y
        if e.type = 1 then concludeXfer s1 ctx y ccRemote else advance s1 ctx
      else
        let before := ctxBytes s ctx
        let s1 := setXfer s ctx x { x with held := x.held ++ data.take (outstanding x) }
        advance (settleCtx before s1 (.ring v) ctx) ctx

/-- A read of host memory answered, for whatever it was for. -/
def readArrived (s : State) (v : RingId) (what : ReadFor) (data : List (List Byte)) (failed : Bool) : State :=
  match what with
  | .entries ring => when ((s.vis.get v).enabled && !(s.vis.get v).unreachable && fetchBusy s v ring) s fun s => fetchComplete s v ring data failed
  | .outData ctx => outArrived s v ctx data.flatten failed

/-- RDMA READ response data: entries of 32 bytes, or OUT data (R140). -/
def execRdmaReadResponse (t : Nat) (v : RingId) (what : ReadFor) (data : List (List Byte)) (s : State) : Host.Outcome State Fault Refusal :=
  act t s fun s => when (inkOn s && viRoce s v && (match (s.vis.get v).qp with
    | some q => (s.qps.get q).state == .ready
    | none => false)) s fun s => readArrived s v what data false

/-- A PCIe DMA read completes, or fails, which is counted (R130, R131). -/
def execDmaReadCompletion (t : Nat) (v : RingId) (what : ReadFor) (data : List (List Byte)) (failed : Bool) (s : State) : Host.Outcome State Fault Refusal :=
  act t s fun s => when (inkOn s && viKind s v == 1 && s.pcie.link) s fun s =>
    readArrived (if failed then rcCount s 0x90030 0 else s) v what data failed

/-- LEAD_US and JITTER_US before an interval its OUT data is asked for (R207). -/
def execIsochDataFetch (t : Nat) (ctx : Nat) (s : State) : Host.Outcome State Fault Refusal :=
  act t s fun s => when (inkOn s) s fun s =>
    match findEp s ctx with
    | none => s
    | some e =>
      when (e.type == 1 && !epIn e && epRuns e) s fun s =>
        (e.queue.filter (fun x => x.asked == 0 && (match x.interval with
          | some i => decide (ufTick s x.v i ≤ s.now + ticksUs (e.lead + e.jitter))
          | none => false))).foldl (fun u x => askOut u ctx x) s

/-! ### Connections (R164, R166) -/

/-- A root connection on a path is counted and goes to whoever holds the port: a ring VI has it reset and reported, a classic VI sees it in its view, a free port tells the board (R75, R118, R164, R225, R277 TYPE 0x0F). -/
def rootConnected (s : State) (n : PortId) (ss : Bool) : State :=
  let s1 := setNib s n (fun b => { b with attachCount := (b.attachCount + 1) % 65536 })
  let b := s1.nibs.get n
  let o := s1.own.get n
  match o.owner with
  | .ring _ =>
    if ss then (if o.state = .resetting then s1 else attachRoot s1 n true)
    else reset2 (if o.state = .resetting then setNib s1 n (fun x => { x with wait2 := true }) else s1) n
  | .classic _ => if o.state = .resetting then s1 else viewConnect s1 n ss
  | .none =>
    if o.state = .free then
      notice s1 0x0F .info n .none [pack64 [(0, if ss then b.speedS else b.speed2), (3, bnat ss)]] [boardQueue]
    else s1

/-- D± have shown a connection for 100 ms (R164). -/
def execUsb2ConnectDebounced (t : Nat) (port : PortId) (low : Bool) (s : State) : Host.Outcome State Fault Refusal :=
  act t s fun s =>
    let b := s.nibs.get port
    when (s.folioOn && port.val != 0 && sinkAttached s port && vbusOn s port && !b.connect && (b.phase2 == .idle || b.phase2 == .disabled)) s fun s =>
      rootConnected (setNib s port (fun x => { x with connect := true, speed2 := if low then 1 else 2, phase2 := .idle, probeFails := 0 })) port false

/-- Receiver detection, every 12 ms: terminations found start training (R164). -/
def execReceiverDetect (t : Nat) (port : PortId) (found gen2 : Bool) (s : State) : Host.Outcome State Fault Refusal :=
  act t s fun s =>
    let b := s.nibs.get port
    when (s.folioOn && port.val != 0 && decide (4 ≤ maxSpeed s port) && sinkAttached s port && vbusOn s port && !pathsHeld s port
          && (b.phaseS == .off || b.phaseS == .detect)) s fun s =>
      let s1 := emit s (.line port .receiverDetect)
      let g := gen2 && maxSpeed s port == 5
      if found then emit (setNib s1 port (fun x => { x with phaseS := .training s.now, speedS := if g then 5 else 4 })) (.line port (.train g))
      else setNib s1 port (fun x => { x with phaseS := .detect })

/-- What the end of a path's reset leads to: RESET_PORT's completion, RESETTING's, or the report of the device (R75, R89, R118, R167). -/
def pathReset (s : State) (n : PortId) (ss fresh : Bool) : State :=
  let s1 := setNib s n (fun b => if ss then { b with waitS := false, defaultS := true } else { b with wait2 := false, default2 := b.connect })
  let b := s1.nibs.get n
  if b.resetCmd.isSome then finishReset s1 n false
  else if fresh then rootConnected s1 n ss
  else
    match (s1.own.get n).owner with
    | .ring _ => if (s1.own.get n).state = .resetting ∨ (if ss then false else !b.connect) = true then s1 else attachRoot s1 n ss
    | _ => s1

/-- The SuperSpeed link reaches U0 (R164): the end of training, of a reset, or of a low-power state. `gen2` is the rate it trained at. -/
def execSsU0Entry (t : Nat) (port : PortId) (gen2 : Bool) (s : State) : Host.Outcome State Fault Refusal :=
  act t s fun s => when (s.folioOn && portLit s port) s fun s =>
    let up := setNib s port (fun x => { x with phaseS := .u0, speedS := if gen2 then 5 else 4, idleSince := s.now })
    match (s.nibs.get port).phaseS with
    | .training _ => pathReset up port true (!rootRecord s port true)
    | .resetting _ => if (s.cports.get port).resetS.isSome then hubResetSDone up port true else pathReset up port true false
    | .u1 => setNib s port (fun x => { x with phaseS := .u0, idleSince := s.now })
    | .u2 => setNib s port (fun x => { x with phaseS := .u0, idleSince := s.now })
    | .u3 => when (nibSuspended (s.nibs.get port) && (s.nibs.get port).susp != .suspended) s fun s => setNib s port (fun x => { x with phaseS := .u0 })
    | _ => s

/-- U0 is not reached within 400 ms: SuperSpeed has failed for this attach (R164, R192). -/
def execSsTrainingTimeout (t : Nat) (port : PortId) (s : State) : Host.Outcome State Fault Refusal :=
  act t s fun s =>
    match (s.nibs.get port).phaseS with
    | .training since => when (s.folioOn && decide (since + ticksMs 400 ≤ s.now)) s fun s =>
        let s1 := rcCount (setNib s port (fun x => { x with phaseS := .failed, speedS := 0, waitS := false })) (portReg port 0x410) 16
        let b := s1.nibs.get port
        finishReset (portStateNotice s1 port 5 (linkCode b) (speedCode b)) port false
    | _ => s

/-! ### The USB 2.0 reset (R165) -/

/-- The device's chirp K ends. `startUs` is when it began after the start of SE0, `tenths` how long it was seen, in 0.1 µs (R165 steps 2 and 3). -/
def execDeviceChirpSeen (t : Nat) (port : PortId) (startUs tenths : Nat) (s : State) : Host.Outcome State Fault Refusal :=
  act t s fun s =>
    let b := s.nibs.get port
    when (s.folioOn && b.speed2 != 1 && decide (3 ≤ maxSpeed s port) && decide (startUs ≤ 7000) && decide (25 ≤ tenths)) s fun s =>
      match (s.cports.get port).reset2, b.phase2 with
      | some since, _ => when (upstreamHs s port && decide (since + ticksUs startUs ≤ s.now)) s fun s => emit (setCPort s port (fun x => { x with chirp := true })) (.line port .chirpKJ)
      | none, .reset since =>
        when (decide (since + ticksUs startUs ≤ s.now) && decide (s.now < since + ticksMs 50)) s fun s =>
          emit (setNib s port (fun x => { x with chirp := 2 })) (.line port .chirpKJ)
      | none, _ => s

/-- When SOF starts after a root reset the port's bus count is set to its owner's timeline (R208). -/
def alignBus (s : State) (n : PortId) : State :=
  match ringOwner s n with
  | some v => setNib s n (fun b => { b with busUf := timelineUf s v % 16384, ufAt := ufTick s v (timelineUf s v), offsetUf := 0, slewing := false })
  | none => s

/-- 50 ms after the start of SE0 the reset ends, at HS after the chirps, and SOF starts (R165 steps 4 and 5). -/
def execRootResetEnd (t : Nat) (port : PortId) (s : State) : Host.Outcome State Fault Refusal :=
  act t s fun s =>
    match (s.nibs.get port).phase2 with
    | .reset since => when (s.folioOn && decide (since + ticksMs 50 ≤ s.now)) s fun s =>
        let s1 := setNib s port (fun b => { b with
          phase2 := if b.connect then .recovery s.now else .idle, chirp := 0
          speed2 := if ¬ b.connect then 0 else if b.chirp = 2 then 3 else if b.speed2 = 3 then 2 else b.speed2 })
        pathReset (alignBus (emit s1 (.line port .sofStart)) port) port false false
    | _ => s

/-- 10 ms later the first other transaction may be issued; a preview that waits sends its first request (R165, R168). -/
def execResetRecoveryEnd (t : Nat) (port : PortId) (s : State) : Host.Outcome State Fault Refusal :=
  act t s fun s =>
    match (s.nibs.get port).phase2 with
    | .recovery since => when (s.folioOn && decide (since + ticksMs 10 ≤ s.now)) s fun s =>
        let s1 := setNib s port (fun b => { b with phase2 := .active, idleSince := s.now })
        if (s1.nibs.get port).preview.any (fun p => !p.ss) then previewSend s1 port else refreshAges s1
    | _ => s

/-! ### The end of a path (R179, R191) -/

/-- End the transfers of an endpoint with a code, and halt it where R176 does. -/
def breakEp (s : State) (ctx code : Nat) : State :=
  match findEp s ctx with
  | none => s
  | some e =>
    if e.queue.isEmpty then s
    else
      let s1 := (endQueue (abandonSplit s ctx) ctx (fun _ => true) code).1
      if halts e code then haltEp s1 ctx else s1

/-- Babble past a microframe's end or the EOF point: the USB 2.0 path is disabled, the babbling transfer ends with BABBLE and the others of the port with TRANSACTION_ERROR (R179). -/
def execBabbleDetected (t : Nat) (port : PortId) (ctx : Option Nat) (s : State) : Host.Outcome State Fault Refusal :=
  act t s fun s =>
    let b := s.nibs.get port
    when (s.folioOn && b.connect && b.phase2 == .active) s fun s =>
      let s1 := rcCount (setNib s port (fun x => { x with phase2 := .disabled, l1 := false })) (portReg port 0x410) 0
      let s2 := match ctx.bind (findEp s1) with
        | some e => if e.port = port then
            (match e.queue with
             | x :: _ => concludeXfer s1 e.ctx x ccBabble
             | [] => s1)
          else s1
        | none => s1
      let s3 := (portEps s2 port).foldl (fun u e => breakEp u e.ctx ccTransaction) s2
      let s4 := match classicOwner s3 port with
        | some c => setView s3 c port (fun w => { w with status2 := put16 w.status2 1 false, change2 := put16 w.change2 1 true })
        | none => s3
      refreshAges (portStateNotice s4 port 4 3 (speedCode (s4.nibs.get port)))

/-- The tree is awake again where nothing of it is left. -/
def settleSusp (s : State) (n : PortId) : State :=
  setNib s n (fun b => if treeThere b then b else { b with susp := .awake })

/-- A USB 2.0 disconnect on the root port (R191). -/
def execUsb2Disconnect (t : Nat) (port : PortId) (s : State) : Host.Outcome State Fault Refusal :=
  act t s fun s => when (s.folioOn && (s.nibs.get port).connect) s fun s => finishReset (settleSusp (pathGone s port false 2) port) port false

/-- The SuperSpeed link is lost without recovery to U0 within 400 ms (R191). -/
def execSsLinkLost (t : Nat) (port : PortId) (s : State) : Host.Outcome State Fault Refusal :=
  act t s fun s =>
    let b := s.nibs.get port
    when (s.folioOn && (ssUp b || b.phaseS == .u3 || (match b.phaseS with
      | .resetting _ => true
      | _ => false))) s fun s => finishReset (settleSusp (pathGone s port true 3) port) port false

/-- The Nib's CLEAR_TT_BUFFER completed or failed; a failure is recorded, and the endpoint waits for RESET_PORT (R181). -/
def execClearTtBufferDone (t : Nat) (port : PortId) (ok : Bool) (s : State) : Host.Outcome State Fault Refusal :=
  act t s fun s =>
    match (s.nibs.get port).tt with
    | [] => s
    | j :: rest => when (inkOn s) s fun s =>
        let s1 := setNib s port (fun b => { b with tt := rest })
        if ok then advance (setEp s1 j.ctx (fun e => { e with ttWait := false })) j.ctx
        else record s1 0x0502 .warning port (s.own.get port).owner .e [loW j.hub, loW j.ttPort]

/-! ### Low power (R185) -/

/-- Nothing is pending on a port: no transfer, no read-ahead poll, no running periodic endpoint. -/
def portIdle (s : State) (n : PortId) : Bool :=
  (portEps s n).all (fun e => e.queue.isEmpty && !raPolls s e && !((e.type == 1 || e.type == 3) && epRuns e))

/-- Whether an idle time has passed; none means that requests are disabled. -/
def idleFor (s : State) (n : PortId) (d : Option Nat) : Bool :=
  match d with
  | some k => decide ((s.nibs.get n).idleSince + k ≤ s.now)
  | none => false

/-- L1_IDLE passes with no work: the LPM token is sent; a device that answers NYET or STALL is left alone for 1 s (R185). -/
def execL1Entry (t : Nat) (port : PortId) (acked : Bool) (s : State) : Host.Outcome State Fault Refusal :=
  act t s fun s =>
    let b := s.nibs.get port
    let lpm := (portDevices s port).any (fun d => d.tier == 1 && decide (d.speed ≤ 3) && d.lpm)
    when (s.folioOn && l1En s port && lpm && busRuns s port false && !b.l1 && b.l1Hold.isNone && portIdle s port && idleFor s port (l1Idle s port)) s fun s =>
      let s1 := emit s (.line port (.lpmToken (besl s port)))
      setNib s1 port (fun x => if acked then { x with l1 := true } else { x with l1Hold := some s.now })

/-- The root port requests U1 after U1_TIMEOUT of idle, or accepts the device's request (R185). -/
def execU1Entry (t : Nat) (port : PortId) (byDevice : Bool) (s : State) : Host.Outcome State Fault Refusal :=
  act t s fun s =>
    let b := s.nibs.get port
    when (s.folioOn && u1En s port && b.phaseS == .u0 && b.susp == .awake && (byDevice || idleFor s port (u1Idle s port))) s fun s =>
      setNib (if byDevice then s else emit s (.line port .requestU1)) port (fun x => { x with phaseS := .u1 })

/-- The same for U2 (R185). -/
def execU2Entry (t : Nat) (port : PortId) (byDevice : Bool) (s : State) : Host.Outcome State Fault Refusal :=
  act t s fun s =>
    let b := s.nibs.get port
    when (s.folioOn && u2En s port && (b.phaseS == .u0 || b.phaseS == .u1) && b.susp == .awake && (byDevice || idleFor s port (u2Idle s port))) s fun s =>
      setNib (if byDevice then s else emit s (.line port .requestU2)) port (fun x => { x with phaseS := .u2 })

/-- 1 s after a refusal of the LPM token the device may be asked again (R185). -/
def execLpmRefusalHoldExpiry (t : Nat) (port : PortId) (s : State) : Host.Outcome State Fault Refusal :=
  act t s fun s =>
    match (s.nibs.get port).l1Hold with
    | some since => when (s.folioOn && decide (since + ticksS 1 ≤ s.now)) s fun s => setNib s port (fun x => { x with l1Hold := none })
    | none => s

/-- Resume signalling from a suspended tree, on either path (R187): completed for a ring owner, told to others where the port is kept without an owner (R87); dropped behind a commanded resume (R188). It is a wake source (R399). -/
def execRemoteWake (t : Nat) (port : PortId) (ss : Bool) (s : State) : Host.Outcome State Fault Refusal :=
  act t s fun s => when (s.folioOn && (s.nibs.get port).susp == .suspended && portLit s port) s fun s =>
    let s1 := wakeSource s
    match (s1.own.get port).owner with
    | .ring _ => if (s1.nibs.get port).susp = .suspended then treeResume (setNib s1 port (fun b => { b with waking := true })) port else s1
    | .classic c => if clsOwns s1 c port then (if (s1.cvis.get c).suspended then emit (treeResume s1 port) (.upLine c .resumeK) else treeResume s1 port) else s1
    | .none =>
      if (s1.own.get port).state = .orphanKept then
        notice (record s1 0x0203 .notice port .none .e []) 0x09 .notice port .none [pack64 [(0, 1), (1, bnat ss)]] (toVisible s1 ++ [boardQueue])
      else s1

/-! ### Stuck lines (R189, R190) -/

/-- The wait after the failed test with BACKOFF_LEVEL k, in seconds. -/
def backoffS (k : Nat) : Nat := min (2 ^ (k - 1)) 64

/-- The stuck-line notice. -/
def stuckNotice (s : State) (n : PortId) : State :=
  let k := (s.nibs.get n).backoff
  notice s 0x08 .warning n (s.own.get n).owner [pack64 [(0, satN 4 k), (16, backoffS k)]] (toAll s n)

/-- A test with BACKOFF_LEVEL k failed: the next wait begins. -/
def stuckWait (s : State) (n : PortId) (k : Nat) : State :=
  stuckNotice (setNib s n (fun b => { b with backoff := k, retestAt := s.now + ticksS (backoffS k) })) n

/-- The USB 2.0 line is stuck (R189). -/
def declareStuck (s : State) (n : PortId) : State :=
  let r := releasePath s n false ccPortGone 4
  let s1 := viewDisconnect r.1 n false
  let s2 := setNib s1 n (fun b => { dropPreview (nibDown2 b) false with phase2 := .stuck, probeFails := 0 })
  let s3 := rcCount s2 (portReg n 0x410) 8
  stuckWait (record s3 0x0501 .warning n (s.own.get n).owner .e []) n 1

/-- A probe of the USB 2.0 lines, or a FS or LS packet that counts as one (R189). A connection that shows in the same tick drops the declaration (R188). -/
def execStuckProbe (t : Nat) (port : PortId) (failed connects : Bool) (s : State) : Host.Outcome State Fault Refusal :=
  act t s fun s =>
    let b := s.nibs.get port
    let quiet := match b.phase2 with
      | .reset _ => false
      | .stuck => false
      | _ => true
    when (s.folioOn && port.val != 0 && stuckEn s port && sinkAttached s port && vbusOn s port && quiet && !(b.connect && b.speed2 == 3)) s fun s =>
      let s1 := if b.connect then s else emit s (.line port .probe)
      if ¬ failed ∨ connects then setNib s1 port (fun x => { x with probeFails := 0 })
      else if b.probeFails + 1 < 10 then setNib s1 port (fun x => { x with probeFails := x.probeFails + 1 })
      else declareStuck s1 port

/-- The back-off is over and ten probes at 1 ms intervals retest the lines (R190). -/
def execStuckRetest (t : Nat) (port : PortId) (passed : Bool) (s : State) : Host.Outcome State Fault Refusal :=
  act t s fun s =>
    let b := s.nibs.get port
    when (s.folioOn && b.phase2 == .stuck && decide (b.retestAt + ticksMs 10 ≤ s.now)) s fun s =>
      let s1 := emit s (.line port .probe)
      if passed then setNib s1 port clearStuck else stuckWait s1 port (satN 4 (b.backoff + 1))

end Sys2Proof.Machine
end

