-- ==== Sys2Proof/Machine/MarginCmds.lean ====
section
/-! DEFINITION. Margin's commands and events: the heartbeat, the board queue and its interrupt (rows HEARTBEAT and BC_HEAD_READ to IRQ_LINE_HIGH). -/

namespace Sys2Proof.Machine

/-- Every HB_MS from the end of Boot a heartbeat goes to the board and to every enabled ring VI (R276). -/
def execHeartbeat (t : Nat) (s : State) : Host.Outcome State Fault Refusal :=
  act t s fun s =>
    when (s.folioOn && s.modes.booted && decide (s.margin.hbDue ≤ s.now)) s fun s =>
      let s1 := (boardQueue :: toEnabled s).foldl heartbeatInto s
      { s1 with margin := { s1.margin with hbDue := s.margin.hbDue + ticksMs (hbMs s) } }

/-- Whether the path is the one BC_READER selects; an access from the other is recorded at INFO (R264). -/
def bcGate (s : State) (p : Path) (f : State → State) : State :=
  if p = bcReader s then f s
  else recordAt s (systemTile 1) 0x0704 .info 0 .none .none [loW (pathCode p)]

/-- Opening the head notice fixes it until it closes (R268). -/
def openHead (s : State) : State :=
  match s.margin.opened with
  | some _ => s
  | none =>
    match topNotice (s.margin.queues.get 64).notices with
    | none => s
    | some n =>
      let s1 := setQueue s boardQueue (fun x => { x with notices := x.notices.erase n })
      { s1 with margin := { s1.margin with opened := some n, wordIndex := 0 } }

/-- The address of a head register (R263). -/
def headAddr : HeadWord → Nat
  | .info => 0x50020
  | .lo => 0x50024
  | .hi => 0x50028

/-- Reading a head register opens the head notice, and returns the head word or its state (R264, R268). -/
def bcHeadRead (s : State) (p : Path) (which : HeadWord) : State × Word :=
  if p = bcReader s then
    let s1 := openHead s
    (s1, regView s1 (headAddr which))
  else (bcGate s p id, 0)

/-- A read of the board head registers (R268); a master that is not privileged reads zero and is recorded (R44). -/
def execBcHeadRead (t : Nat) (path : Path) (which : HeadWord) (s : State) : Host.Outcome State Fault Refusal :=
  act t s fun s => when s.folioOn s fun s =>
    if privileged s path then
      let r := bcHeadRead s path which
      emit r.1 (.regData path r.2)
    else emit (privDenied s path (headAddr which)) (.regData path 0)

/-- POP: the head notice is opened if none is, its head word goes, and at its END it closes; ABORTED clears (R264, R269). -/
def popWord (s : State) : State :=
  let s1 := openHead s
  match s1.margin.opened with
  | none => s
  | some n =>
    let i := s1.margin.wordIndex
    if i + 1 < n.words then { s1 with margin := { s1.margin with wordIndex := i + 1, aborted := false } }
    else { s1 with margin := { s1.margin with opened := none, wordIndex := 0, aborted := false } }

/-- SKIP: the rest of the open notice goes (R269). -/
def skipNotice (s : State) : State := { s with margin := { s.margin with opened := none, wordIndex := 0 } }

/-- BC_POP.POP (R269). -/
def execBcPop (t : Nat) (path : Path) (s : State) : Host.Outcome State Fault Refusal :=
  privCmd t path 0x5002C s fun s => bcGate s path popWord

/-- BC_POP.SKIP (R269). -/
def execBcSkip (t : Nat) (path : Path) (s : State) : Host.Outcome State Fault Refusal :=
  privCmd t path 0x5002C s fun s => bcGate s path skipNotice

/-- BC_FLUSH empties the board queue and sets ABORTED if a notice was open; nothing counts as lost (R271). -/
def flushBoard (s : State) : State :=
  let s1 := setQueue s boardQueue (fun x => { x with notices := [] })
  { s1 with margin := { s1.margin with opened := none, wordIndex := 0, aborted := s.margin.aborted || s.margin.opened.isSome } }

/-- BC_FLUSH (R271). -/
def execBcFlush (t : Nat) (path : Path) (s : State) : Host.Outcome State Fault Refusal :=
  privCmd t path 0x50030 s fun s => bcGate s path flushBoard

/-- BC_IRQ_ACK clears IRQ_PENDING (R273). -/
def irqAck (s : State) : State := { s with margin := { s.margin with irqPending := false } }

/-- BC_IRQ_ACK (R273). -/
def execBcIrqAck (t : Nat) (path : Path) (s : State) : Host.Outcome State Fault Refusal :=
  privCmd t path 0x50008 s irqAck

/-- 1 µs after the device released IRQ_N the line is sampled; a line that still reads low is LINE_HELD, recorded once in any 1 s (R274). -/
def execIrqLineSample (t : Nat) (low : Bool) (s : State) : Host.Outcome State Fault Refusal :=
  act t s fun s =>
    when (s.folioOn && !s.pins.irqN && low) s fun s =>
      recordLimited { s with margin := { s.margin with lineHeld := true } } 1100 (fun u => record u 0x0703 .warning 0 .none .none [])

/-- The line reads high again: LINE_HELD clears, and a pending interrupt drives it low again (R274). -/
def execIrqLineHigh (t : Nat) (s : State) : Host.Outcome State Fault Refusal :=
  act t s fun s => { s with margin := { s.margin with lineHeld := false } }

end Sys2Proof.Machine
end

