-- ==== Sys2Proof/Machine/Modes.lean ====
section
/-! DEFINITION. The die-to-die link and the modes: opcode-table rows HOLDUP_FLUSH_COMPLETE, PARKED_INPUT_RESTORED, FOLIO_RAIL_FAIL, RESET_N_PULSE to LINK_LOSS_HOLD_EXPIRY, D2D_LINK_RESTORED and MODE_MANAGED to STANDBY_WAKE_ATTACH (R16–R18, R384–R386, R393–R400, R433, R440). -/

namespace Sys2Proof.Machine

/-! ### The link (R16–R18) -/

/-- A port's path as Boot leaves it: gate off, DPn_EN low, code 0 (R401). -/
def bootPath (s : State) (n : PortId) : State :=
  converterOff (if pathLive s n then gateOff s n false (if (s.power.get n).fetFail then .fetFault else .off) else s) n

/-- An event stamped in local time is copied into the recorder, its parameters only (R17). -/
def copyLocal (s : State) (e : LocalEvent) : State :=
  pushRecord s { mkRec s e.code e.sev 0 e.port .none (e.location, e.level) 0 (paramEntries e.params) with localTime := true, stroke := e.stamp }

/-- Input losses, trips and early warnings among the copied events are counted (R312). -/
def countLocal (s : State) (e : LocalEvent) : State :=
  if e.code = 0x0313 then rcCount s 0x20010 8
  else if e.code = 0x0310 ∨ e.code = 0x0311 then rcCount s 0x20010 16
  else if e.code = 0x0314 then rcCount s 0x20010 0
  else s

/-- The link comes up in Boot: its marker, then the events stamped in local time (R17, R367, R390). -/
def linkFirstUp (s : State) : State :=
  let evs := s.localEvents
  let s1 : State := { s with link := { phase := .up, lostAt := s.link.lostAt, holding := false, lastFrame := s.now }, blot := { s.blot with causeLink := false }
                             localEvents := [], localLost := 0 }
  let s2 := marker s1 0x0006 .info [loW (stroke s), hiW (stroke s), loW evs.length]
  eachPort (evs.foldl (fun u e => countLocal (copyLocal u e) e) s2) bootPath

/-- D2D_LINK_FIRST_UP (R17). -/
def execD2dLinkFirstUp (t : Nat) (s : State) : Host.Outcome State Fault Refusal :=
  act t s fun s => when (s.folioOn && s.modes.mode == .boot && s.link.phase != .up) s linkFirstUp

/-- A frame of 64 bits is checked with CRC-8; one that fails is asked for again (R16). -/
def execD2dFrame (t : Nat) (payload : List Byte) (crc : Byte) (s : State) : Host.Outcome State Fault Refusal :=
  act t s fun s => when (s.input.state != .off && s.link.phase == .up && decide (payload.length = 8)) s fun s =>
    if crc8 payload = crc then { s with link := { s.link with lastFrame := s.now } } else emit s .d2dRetry

/-- A switch-on that has not begun its gate drive stops, with the gate off, DPn_EN high and the code at 250 (R18). -/
def stopSwitchOn (s : State) (n : PortId) : State :=
  let p := s.power.get n
  if p.step = .converter ∨ p.step = .checks then
    let s1 := setPower s n (fun p => { p with phase := .off, step := .idle, gateOn := false, enable := true, vset := 250, nominal := 250 })
    if (s.pd.get n).state = .startup then powerOffPort s1 n 4 else s1
  else s

/-- 20 µs without a valid frame: Reservoir holds every switch as it is; Folio reports class 6 and quarantines every port, once the link or the 50 ms allow; in Hold-up it is a NOTICE alone (R18, R397, R411). -/
def linkLost (s : State) : State :=
  let s1 := eachPort { s with link := { s.link with phase := .lost, lostAt := s.now, holding := true } } stopSwitchOn
  if s.modes.mode = .holdup then faultReport s1 (systemTile 10) 6 .notice 0
  else
    let s2 := faultReport s1 (systemTile 10) 6 .critical 0
    enterQuarantine { s2 with blot := { s2.blot with causeLink := true } } allPorts true

/-- D2D_LINK_LOST (R18). -/
def execD2dLinkLost (t : Nat) (s : State) : Host.Outcome State Fault Refusal :=
  act t s fun s => when (s.folioOn && s.modes.mode != .standby && s.link.phase == .up && decide (s.link.lastFrame + ticksUs 20 ≤ s.now)) s linkLost

/-- The hold is over: Reservoir switches every path off hard; Folio, where it runs, sees its quarantined ports off (R18, R411). -/
def linkHoldExpiry (s : State) : State :=
  let s1 : State := { s with link := { s.link with holding := false } }
  eachPort s1 (fun u n =>
    if pathLive u n then (if u.folioOn && maskBit u.blot.portMask n.val then quarantineOff u n else if u.folioOn then gateOff u n true .off else converterOff (gateOff u n true .off) n) else u)

/-- LINK_LOSS_HOLD_EXPIRY (R18). -/
def execLinkLossHoldExpiry (t : Nat) (s : State) : Host.Outcome State Fault Refusal :=
  act t s fun s => when (s.link.holding && s.link.phase != .up && decide (s.link.lostAt + ticksMs 50 ≤ s.now)) s linkHoldExpiry

/-- The link is back: its cause clears, and the switch-off commands that waited reach the quarantined ports (R18, R411, R412). -/
def linkRestored (s : State) : State :=
  let s1 : State := { s with link := { s.link with phase := .up, holding := false, lastFrame := s.now }, blot := { s.blot with causeLink := false } }
  eachPort s1 (fun u n => if maskBit u.blot.portMask n.val then quarantineOff u n else u)

/-- D2D_LINK_RESTORED (R18). -/
def execD2dLinkRestored (t : Nat) (s : State) : Host.Outcome State Fault Refusal :=
  act t s fun s => when (s.folioOn && s.link.phase == .lost) s linkRestored

/-- A Folio rail leaves its operating range: Folio is unpowered, the mode follows the input path, Reservoir sees the link lost (R381, R384, R433). -/
def railFail (s : State) : State :=
  let wasUp := s.link.phase == .up
  let s1 := eachPort (folioReset s false) (fun u n => if (u.power.get n).gateOn then u
    else converterOff (setPower u n (fun p => { p with step := .idle, phase := if p.phase = .switching then .off else p.phase })) n)
  followInput { s1 with folioOn := false, link := { s.link with phase := .lost, lostAt := if wasUp then s.now else s.link.lostAt, holding := s.link.holding || wasUp } }

/-- FOLIO_RAIL_FAIL (R433). -/
def execFolioRailFail (t : Nat) (s : State) : Host.Outcome State Fault Refusal :=
  act t s fun s => when s.folioOn s railFail

/-! ### Warm Boots from outside and from Hold-up (R384, R396, R440) -/

/-- RESET_N low for 10 µs or more, in any mode from Boot but Return (R384, R440). -/
def execResetNPulse (t : Nat) (nor : Option NorView) (s : State) : Host.Outcome State Fault Refusal :=
  act t s fun s => when (s.folioOn && s.modes.mode != .ret) s fun s => warmBoot s false nor

/-- The input path is ON and PG released (R384). -/
def inputBack (s : State) : Bool := s.input.state == .on && s.input.pg

/-- The flush is complete: a warm Boot where the input is back, else PARKED (R384, R396). -/
def execHoldupFlushComplete (t : Nat) (s : State) : Host.Outcome State Fault Refusal :=
  act t s fun s => when (s.folioOn && s.modes.mode == .holdup && !s.modes.parked && flushDone s) s fun s =>
    if inputBack s then warmBoot s false none
    else { s with modes := { s.modes with parked := true }, pal := { s.pal with flushing := false } }

/-- Parked, and the input is back: a warm Boot (R384). -/
def execParkedInputRestored (t : Nat) (s : State) : Host.Outcome State Fault Refusal :=
  act t s fun s => when (s.folioOn && s.modes.mode == .holdup && s.modes.parked && inputBack s) s fun s => warmBoot s false none

/-! ### Mode requests (R384–R386, R393, R394, R398–R400) -/

/-- LAST_REQ takes a code. -/
def answerMode (s : State) (code : Nat) : State := { s with modes := { s.modes with lastReq := code } }

/-- MANAGED: from Standalone; ring VIs become eligible and every port is decided (R393). -/
def modeManaged (s : State) : State :=
  if s.modes.mode = .standalone then homeStampAll (enterMode (answerMode s 1) .managed) else refuseMode s 2

/-- MODE_CTRL.MANAGED (R393). -/
def execModeManaged (t : Nat) (path : Path) (s : State) : Host.Outcome State Fault Refusal :=
  privCmd t path 0x1000 s modeManaged

/-- A wake source falls in this tick (R386). -/
def wokenNow (s : State) : Bool := s.modes.wokenAt == some s.now

/-- A port that a ring VI owns carries a tree that is awake. -/
def awakeTree (s : State) (n : PortId) : Bool :=
  let b := s.nibs.get n
  (ringOwner s n).isSome && (b.connect || ssUp b) && !nibSuspended b && !(match b.susp with
    | .entering _ => true
    | _ => false)

/-- Suspend entry begins: the awake trees of ring owners are suspended (R398). -/
def startSuspend (s : State) : State :=
  let mask := pack ((List.finRange 16).map (fun n => (n.val, bnat (awakeTree s n))))
  let s1 : State := { s with modes := { s.modes with suspending := true, selfSuspended := Nat.lor (if s.modes.suspending then s.modes.selfSuspended else 0) mask.toNat } }
  eachPort s1 (fun u n => if awakeTree s n then treeSuspend u n else u)

/-- SUSPEND: from Standalone and Managed, with every classic upstream suspended (R386, R398). -/
def modeSuspend (s : State) : State :=
  if ¬ (s.modes.mode = .standalone ∨ s.modes.mode = .managed) then refuseMode s 2
  else if wokenNow s then answerMode s 4
  else if (List.finRange 5).any (fun c => (s.cvis.get c).exists_ && !(s.cvis.get c).suspended) then answerMode s 3
  else startSuspend s

/-- MODE_CTRL.SUSPEND (R398). -/
def execModeSuspend (t : Nat) (path : Path) (s : State) : Host.Outcome State Fault Refusal :=
  privCmd t path 0x1000 s modeSuspend

/-- Every suspension has completed: the mode is Suspend, and the engines that stop do (R398). -/
def execSuspendReached (t : Nat) (s : State) : Host.Outcome State Fault Refusal :=
  act t s fun s =>
    let done := (List.finRange 16).all (fun n => !(match (s.nibs.get n).susp with
      | .entering _ => maskBit s.modes.selfSuspended n.val
      | _ => false))
    when (s.folioOn && s.modes.suspending && done) s fun s =>
      enterMode (answerMode { s with modes := { s.modes with suspending := false, beforeSuspend := s.modes.mode } } 1) .suspend

/-- Standby entry: the mode and its notice, hosts dropped with nothing written to any, ports off; the records are still to be persisted (R400). -/
def enterStandby (s : State) : State :=
  let s1 := enterMode { abandonImage s with modes := { s.modes with standingBy := true, suspending := false } } .standby
  let s2 := decideNow (dropHosts (lastNotices (eachPort s1 disableOpen)))
  { s2 with pal := { s2.pal with flushing := true } }

/-- STANDBY: from Standalone, Managed and Suspend (R386, R400). -/
def modeStandby (s : State) : State :=
  if ¬ (s.modes.mode = .standalone ∨ s.modes.mode = .managed ∨ s.modes.mode = .suspend) then refuseMode s 2
  else if wokenNow s then answerMode s 4
  else enterStandby s

/-- MODE_CTRL.STANDBY (R400). -/
def execModeStandby (t : Nat) (path : Path) (s : State) : Host.Outcome State Fault Refusal :=
  privCmd t path 0x1000 s modeStandby

/-- The records are persisted: the domains go off, and the ports in STANDBY_WAKE present Rp with no VBUS (R400, R401). -/
def execStandbyReached (t : Nat) (s : State) : Host.Outcome State Fault Refusal :=
  act t s fun s => when (s.folioOn && s.modes.mode == .standby && s.modes.standingBy && flushDone s) s fun s =>
    let s1 : State := { s with modes := { s.modes with standingBy := false, lastReq := 1 }, pal := { s.pal with flushing := false } }
    eachPort (applyPortModes s1 false 0) converterOff

/-- WAKE: out of Suspend, or a warm Boot out of Standby (R385, R399, R400). -/
def modeWake (s : State) : State :=
  if s.modes.mode = .suspend then wakeSource (answerMode s 1)
  else if s.modes.mode = .standby then warmBoot (answerMode s 1) s.modes.standingBy none
  else refuseMode s 2

/-- MODE_CTRL.WAKE (R399). -/
def execModeWake (t : Nat) (path : Path) (s : State) : Host.Outcome State Fault Refusal :=
  privCmd t path 0x1000 s modeWake

/-- REBOOT: the records persisted, then a warm Boot, from every mode but Return (R394). -/
def modeReboot (s : State) : State :=
  if s.modes.mode = .ret then refuseMode s 2 else warmBoot (answerMode s 1) true none

/-- MODE_CTRL.REBOOT (R394). -/
def execModeReboot (t : Nat) (path : Path) (s : State) : Host.Outcome State Fault Refusal :=
  privCmd t path 0x1000 s modeReboot

/-- A sink has attached for 150 ms on a port in STANDBY_WAKE: a warm Boot (R284, R400). -/
def execStandbyWakeAttach (t : Nat) (port : PortId) (s : State) : Host.Outcome State Fault Refusal :=
  act t s fun s =>
    let d := s.pd.get port
    when (s.folioOn && s.modes.mode == .standby && !s.modes.standingBy && standbyWake s port && d.state == .attachWait && sinkPattern d.cc1 d.cc2
          && decide (d.patternSince + ticksMs 150 ≤ s.now)) s fun s => warmBoot s false none

end Sys2Proof.Machine
end

