-- ==== Sys2Proof/Machine/SetupSpace.lean ====
section
/-! DEFINITION. Reads and writes of set-up space by any path: privilege, pairs, RC copies, write-1 actions, VI pages (R3, R6, R34, R35, R40–R53). -/

namespace Sys2Proof.Machine

/-! ### Who may reach what -/

/-- The VI whose page holds an address. -/
def pageVi (a : Nat) : Option RingId := if h : 0x200000 ≤ a ∧ a < 0x240000 then some ⟨(a - 0x200000) / 0x1000, by omega⟩ else none

/-- The path is the bound path of a VI: its page or its queue pair (R43). -/
def boundPath (p : Path) (v : RingId) : Bool := p == .viPage v || p == .qp v

/-- An access to a register is PRIV: by its map entry, by its block, or as another's VI page (R6, R35). -/
def needsPriv (p : Path) (r : RegRow) (a : Nat) : Bool :=
  match pageVi a with
  | some v => !boundPath p v
  | none => r.priv || decide (0x10000 ≤ a)

/-- An access is denied (R44). -/
def denied (s : State) (p : Path) (a : Nat) : Bool :=
  match findRow a with
  | some r => needsPriv p r a && !privileged s p
  | none => false

/-- A class V access over a link that is not up does not complete within its bound (R34, R45). -/
def unreachedV (s : State) (a : Nat) : Bool := classV a && s.link.phase != .up

/-! ### Pairs (R49) -/

/-- The low words of the 64-bit pairs: STROKE, DIGEST, COMMIT_STROKE, DOMAIN_CRC, COMMITTED_CRC, BLOT_FAULT. -/
def pairLow (a : Nat) : Bool :=
  a == 0x40 || a == 0x210 || a == 0x218 || a == 0x2000
    || (decide (0x300 ≤ a) && decide (a < 0x300 + 8 * 27) && a % 8 == 0) || (decide (0x400 ≤ a) && decide (a < 0x400 + 8 * 27) && a % 8 == 0)

/-- The latches of every path and pair but one. -/
def otherLatches (s : State) (p : Path) (a : Nat) : List PairLatch := s.pairs.filter (fun l => !(l.path == p && l.addr == a))

/-- A read of a low word latches the high word for the path. -/
def readLow (s : State) (p : Path) (a : Nat) : State × Word :=
  ({ s with pairs := { path := p, addr := a + 4, value := regView s (a + 4) } :: otherLatches s p (a + 4) }, regView s a)

/-- The first read of the high word after it returns the latched value and releases the latch. -/
def readHigh (s : State) (p : Path) (a : Nat) : State × Word :=
  match s.pairs.find? (fun l => l.path == p && l.addr == a) with
  | some l => ({ s with pairs := otherLatches s p a }, l.value)
  | none => (s, regView s a)

/-! ### Reads -/

/-- A read of a status register. -/
def readStatus (s : State) (p : Path) (a : Nat) : State × Word :=
  if a = 0x50020 then bcHeadRead s p .info
  else if a = 0x50024 then bcHeadRead s p .lo
  else if a = 0x50028 then bcHeadRead s p .hi
  else if pairLow a then readLow s p a
  else if 4 ≤ a ∧ pairLow (a - 4) then readHigh s p a
  else (s, regView s a)

/-- A read that reaches its block: the value, and what the read does (R6, R44, R46, R48, R49). A reserved address and a write-1 register read as zero. -/
def readReg (s : State) (p : Path) (a : Nat) : State × Word :=
  match findRow a with
  | none => (s, 0)
  | some r =>
    if denied s p a then (privDenied s p a, 0)
    else if (r.acc == .ro || r.acc == .rc) && domainOff s a then (accessFault s p 3, 0xFFFFFFFF)
    else match r.acc with
      | .w1p => (s, 0)
      | .rw => (s, regView s a)
      | .rc => (rcClear s p a, rcValue s p a)
      | .ro => readStatus s p a

/-! ### Writes -/

/-- Each bit set does its action, in ascending order. -/
def bitsDo (w : Word) (acts : List (Nat × (State → State))) (s : State) : State := acts.foldl (fun u f => if bitOf w f.1 then f.2 u else u) s

/-- More than one bit of the lowest n is set. -/
def manyBits (w : Word) (n : Nat) : Bool := decide (2 ≤ ((List.range n).filter (fun i => bitOf w i)).length)

/-- MODE_CTRL (R382, R385). -/
def modeCtrl (s : State) (w : Word) : State :=
  if manyBits w 5 then refuseMode s 2
  else bitsDo w [(0, modeManaged), (1, modeSuspend), (2, modeStandby), (3, modeWake), (4, modeReboot)] s

/-- The write-1 registers of the global and Seal blocks. -/
def w1pGlobal (s : State) (p : Path) (a : Nat) (w : Word) : State :=
  if a = 0x200 then (if bitOf w 1 then rubricAbort s else if bitOf w 0 then rubricCommit s p else s)
  else if a = 0x810 then bitsDo w [(0, timeSample)] s
  else if a = 0x1000 then modeCtrl s w
  else if a = 0x1020 then bitsDo w [(0, fun u => imgOpen u false), (1, fun u => imgOpen u true), (2, imgCommitFree), (3, abandonImage)] s
  else if a = 0x203C then bitsDo w [(0, quarExit)] s
  else if a = 0x10008 then bitsDo w [(0, advanceFloor), (1, returnArm), (2, returnDisarm)] s
  else if a = 0x10010 then
    let v : RingId := ⟨fld w 0 6, by unfold fld; exact Nat.mod_lt _ (by decide)⟩
    bitsDo w [(8, fun u => keyLoad u v), (9, fun u => keyWithdraw u v), (10, fuseOwner)] s
  else s

/-- The write-1 registers of the other blocks. -/
def w1pBlock (s : State) (p : Path) (a : Nat) (w : Word) : State :=
  if a = 0x28040 then bitsDo w [(0, inputClear), (1, inputFetClear)] s
  else if a = 0x40010 then bitsDo w [(0, fun u => palFreeze u p), (1, fun u => palUnfreeze u p), (2, palVerify)] s
  else if a = 0x40104 then (if manyBits w 3 then s else bitsDo w [(0, startLoad), (1, palNext), (2, palPrev)] s)
  else if a = 0x50008 then bitsDo w [(0, irqAck)] s
  else if a = 0x5002C then bitsDo w [(0, fun u => bcGate u p popWord), (1, fun u => bcGate u p skipNotice)] s
  else if a = 0x50030 then bitsDo w [(0, fun u => bcGate u p flushBoard)] s
  else if h : 0x80800 ≤ a ∧ a < 0x80800 + 8 * 128 then bitsDo w [(0, fun u => qpReset u ⟨(a - 0x80800) / 8, by omega⟩)] s
  else w1pGlobal s p a w

/-- The write-1 registers of a port's block. -/
def w1pPort (s : State) (p : Path) (n : PortId) (off : Nat) (w : Word) : State :=
  if off = 0x204 then ownAssign s p n w
  else if off = 0x401C then bitsDo w [(0, fun u => pdSendCaps u n), (1, fun u => pdHardReset u n), (2, fun u => pdErrorRecovery u n)] s
  else if off = 0x8040 then bitsDo w [(0, fun u => portClearLatch u n), (1, fun u => portFetClear u n)] s
  else s

/-- A write to a write-1 register: each bit set is an action (R6). -/
def takeW1p (s : State) (p : Path) (a : Nat) (w : Word) : State :=
  if 0x100000 ≤ a ∧ a < 0x200000 then w1pPort s p (addrPort a) (a % 0x10000) w else w1pBlock s p a w

/-- A write to a VI page: through the bound path a doorbell or a configuration register; from any other it is ignored and recorded (R43). -/
def pageWrite (s : State) (p : Path) (v : RingId) (a : Nat) (w : Word) : State :=
  let off := a % 0x1000
  if 0x800 ≤ off then s
  else if boundPath p v then
    when (inkOn s) s fun s => if off < 0x100 then doorbell s v off w else writePage s p v off w
  else accessRecord (accessFault s p 6) 0x0104 p a []

/-- A write that is taken (R6, R7, R43, R44). Reserved addresses and read-only registers ignore it. -/
def setupWrite (s : State) (p : Path) (a : Nat) (w : Word) : State :=
  match pageVi a with
  | some v => pageWrite s p v a w
  | none =>
    match findRow a with
    | none => s
    | some r =>
      if denied s p a then privDenied s p a
      else match r.acc with
        | .ro => s
        | .rc => s
        | .w1p => takeW1p s p a w
        | .rw => if a = 0x1024 then imgData s w else takeRw s p r a w

end Sys2Proof.Machine
end

