-- ==== Sys2Proof/Machine/RegisterCmds.lean ====
section
/-! DEFINITION. Set-up accesses as they come from outside: opcode-table rows SPI_READ_FRAME to DOMAIN_CRC_UPDATE, FUNC_READ and FUNC_WRITE (R36–R49, R58, R244, R447, R448). -/

namespace Sys2Proof.Machine

/-! ### The SPI target (R36–R41) -/

/-- A word, most significant byte first. -/
def bytesMsb (w : Word) : List Byte := (bytesLE w).reverse

/-- A 24-bit address, most significant byte first. -/
def addrMsb (a : BitVec 24) : List Byte := (natBytesLE 3 a.toNat).reverse

/-- The reply to a read: the token, the data, and the CRC over the command, the address and the data (R36, R38). -/
def spiReadReply (token : Byte) (a : BitVec 24) (w : Word) : List Byte := token :: bytesMsb w ++ [crc8 (0x3B :: addrMsb a ++ bytesMsb w)]

/-- The CRC a write frame must carry (R36). -/
def spiWriteCrc (a : BitVec 24) (w : Word) : Byte := crc8 (0xD2 :: addrMsb a ++ bytesMsb w)

/-- An SPI access outside the global block in Boot (R41). -/
def bootRefused (s : State) (a : Nat) : Bool := s.modes.mode == .boot && decide (0x10000 ≤ a)

/-- A whole read frame (R36, R38, R41, R45). -/
def execSpiReadFrame (t : Nat) (addr : BitVec 24) (s : State) : Host.Outcome State Fault Refusal :=
  act t s fun s => when s.folioOn s fun s =>
    if bootRefused s addr.toNat then emit (accessFault s .spi 5) (.spi (spiReadReply 0xA5 addr 0xFFFFFFFF))
    else if unreachedV s addr.toNat then emit (accessTimeout s .spi addr.toNat) (.spi (spiReadReply 0xA5 addr 0xFFFFFFFF))
    else
      let r := readReg s .spi addr.toNat
      emit r.1 (.spi (spiReadReply 0x5A addr r.2))

/-- A whole write frame: its CRC is checked, and the write is accepted or refused with a token (R36, R38, R41, R45, R53). -/
def execSpiWriteFrame (t : Nat) (addr : BitVec 24) (data : Word) (crc : Byte) (s : State) : Host.Outcome State Fault Refusal :=
  act t s fun s => when s.folioOn s fun s =>
    if crc ≠ spiWriteCrc addr data then emit (rcCount (accessFault s .spi 0) 0x10C 0) (.spi [0xC3])
    else if bootRefused s addr.toNat then emit (accessFault s .spi 5) (.spi [0xA5])
    else if unreachedV s addr.toNat then emit (accessTimeout s .spi addr.toNat) (.spi [0xA5])
    else emit (setupWrite s .spi addr.toNat data) (.spi [0x5A])

/-- A frame whose first byte is no command (R38, R53). -/
def execSpiUnknownCommand (t : Nat) (first : Byte) (s : State) : Host.Outcome State Fault Refusal :=
  act t s fun s => when (s.folioOn && first != 0x3B && first != 0xD2) s fun s => emit (accessFault s .spi 1) (.spi [0x3C])

/-- SPI_CS_N is released within a frame: what has been received of it is discarded, and nothing has taken effect (R40). -/
def execSpiCsRelease (t : Nat) (s : State) : Host.Outcome State Fault Refusal := act t s id

/-! ### BARs (R42, R43, R45) -/

/-- The functions answer requests: the link is up, and Boot, Hold-up, Standby and Return leave the endpoint reachable or not (R390, R396, R400, R421). -/
def barOpen (s : State) : Bool := s.folioOn && s.pcie.link && s.modes.booted && s.modes.mode != .holdup && s.modes.mode != .standby && s.modes.mode != .ret

/-- The function behind a window is enabled. -/
def windowOn (s : State) (w : BarWindow) : Bool :=
  match w with
  | .bar0 => fnEnabled s 0
  | .page f => fnEnabled s f

/-- The path and the address of an access through a window: BAR0 maps set-up space, a page that of the VI bound to its function, and a function with none has no register there (R42, R43). -/
def windowTarget (s : State) (w : BarWindow) (offset : Nat) : Option (Path × Nat) :=
  match w with
  | .bar0 => some (.pf, offset / 4 * 4)
  | .page f => (fnVi s f).map (fun v => (.viPage v, viBase v.val + offset % 0x1000 / 4 * 4))

/-- The bytes of a word in the lanes asked for. -/
def laneWord (w : Word) (lanes : BitVec 4) : Word :=
  pack ((List.range 4).map (fun i => (8 * i, if lanes.getLsbD i then fld w (8 * i) 8 else 0)))

/-- A BAR read of 1, 2 or 4 bytes of one DWORD (R42, R45). -/
def execBarRead (t : Nat) (win : BarWindow) (offset : BitVec 22) (lanes : BitVec 4) (s : State) : Host.Outcome State Fault Refusal :=
  act t s fun s => when (barOpen s && windowOn s win && lanes != 0) s fun s =>
    match windowTarget s win offset.toNat with
    | none => emit s (.barData 0)
    | some (p, a) =>
      if unreachedV s a && !denied s p a then emit (accessTimeout s p a) (.barData (laneWord 0xFFFFFFFF lanes))
      else
        let r := readReg s p a
        emit r.1 (.barData (laneWord r.2 lanes))

/-- A BAR write: a full DWORD is accepted, a partial one ignored, counted in the PF copy and recorded (R42, R45). -/
def execBarWrite (t : Nat) (win : BarWindow) (offset : BitVec 22) (data : Word) (lanes : BitVec 4) (s : State) : Host.Outcome State Fault Refusal :=
  act t s fun s => when (barOpen s && windowOn s win && lanes != 0) s fun s =>
    match windowTarget s win offset.toNat with
    | none => s
    | some (p, a) =>
      if lanes ≠ 15 then accessRecord (accessFault s .pf 4) 0x0103 p a []
      else if unreachedV s a && !denied s p a then accessTimeout s p a
      else setupWrite s p a data

/-- What the master of a failed access is told (R38, R45, R244). -/
def failReply (s : State) (p : Path) (a : BitVec 24) (isWrite : Bool) : State :=
  match p with
  | .spi => emit s (.spi (if isWrite then [0xA5] else spiReadReply 0xA5 a 0xFFFFFFFF))
  | .pf => if isWrite then s else emit s (.barData 0xFFFFFFFF)
  | .viPage _ => if isWrite then s else emit s (.barData 0xFFFFFFFF)
  | .qp _ => s
  | .scribe =>
    match s.func.queue with
    | q :: _ => funcDrain 32 (funcPop s (funcReply q 2 0xFFFFFFFF))
    | [] => s

/-- An access has not completed within its bound: it fails, and a write is not applied (R45). -/
def execAccessTimeout (t : Nat) (path : Path) (addr : BitVec 24) (isWrite : Bool) (s : State) : Host.Outcome State Fault Refusal :=
  act t s fun s => when s.folioOn s fun s => failReply (accessTimeout s path addr.toNat) path addr isWrite

/-- A write to a register is taken in its block (R448). -/
def execRegisterWrite (t : Nat) (path : Path) (addr : BitVec 24) (value : Word) (s : State) : Host.Outcome State Fault Refusal :=
  act t s fun s => when s.folioOn s fun s =>
    if path = .spi ∧ bootRefused s addr.toNat then accessFault s .spi 5
    else if unreachedV s addr.toNat && !denied s path addr.toNat then accessTimeout s path addr.toNat
    else setupWrite s path addr.toNat value

/-- The register at an address has an access code. -/
def hasAccess (a : Nat) (c : Access) : Bool :=
  match findRow a with
  | some r => r.acc == c
  | none => false

/-- A read of an RC register returns the reader's copy and clears it (R48). -/
def execRcRead (t : Nat) (path : Path) (addr : BitVec 24) (s : State) : Host.Outcome State Fault Refusal :=
  act t s fun s => when (s.folioOn && hasAccess addr.toNat .rc && !(unreachedV s addr.toNat)) s fun s =>
    let r := readReg s path addr.toNat
    emit r.1 (.regData path r.2)

/-- A read of the low word of a pair (R49). -/
def execPairLowRead (t : Nat) (path : Path) (addr : BitVec 24) (s : State) : Host.Outcome State Fault Refusal :=
  act t s fun s => when (s.folioOn && pairLow addr.toNat) s fun s =>
    let r := readReg s path addr.toNat
    emit r.1 (.regData path r.2)

/-- A write to PF_TRUST_CTRL applies at once (R44, R52). -/
def execPfTrustWrite (t : Nat) (path : Path) (value : Word) (s : State) : Host.Outcome State Fault Refusal :=
  privCmd t path 0x30 s fun s => setupWrite s path 0x30 value

/-! ### Boundaries (R7, R8, R46, R447) -/

/-- A port's Folio domain is powered and its bus counter runs (R46, R447). -/
def portDomainOn (s : State) : Bool := s.folioOn && s.modes.booted && s.modes.mode != .holdup && (s.modes.mode != .standby || s.modes.standingBy)

/-- A port's microframe starts: the counter moves, UF writes apply, and the periodic Nib's isochronous slot is planned (R198, R447). -/
def execUfBoundary (t : Nat) (port : PortId) (s : State) : Host.Outcome State Fault Refusal :=
  act t s fun s => when (portDomainOn s) s fun s =>
    let s1 := setNib s port (fun b => { b with busUf := (b.busUf + 1) % 16384, ufAt := s.now })
    let s2 := boundaryApply s1 (writeOf .uf (some port))
    if tileOn s2 port 1 then isochBoundary s2 port else s2

/-- Microframe 0 of a port's frame starts: FR writes apply (R447). -/
def execFrBoundary (t : Nat) (port : PortId) (s : State) : Host.Outcome State Fault Refusal :=
  act t s fun s => when (portDomainOn s && (s.nibs.get port).busUf % 8 == 0) s fun s => boundaryApply s (writeOf .fr (some port))

/-- Every port's derate factor in force is the latest delivered (R330). -/
def applyDerate (s : State) : State := { s with power := Vector.map (fun p => { p with derate := p.deratePending }) s.power }

/-- A BRK period starts, on a tick that is a multiple of 5: derate factors, BRK writes and the class V values of a commit apply (R58, R330, R447). -/
def execBrkBoundary (t : Nat) (s : State) : Host.Outcome State Fault Refusal :=
  act t s fun s => when (s.folioOn && stroke s % 5 == 0) s fun s => brkCommit (boundaryApply (applyDerate s) (writeOf .brk none))

/-- An Ethernet frame ends, or the port idles: PKT writes apply (R447). -/
def execPktBoundary (t : Nat) (eth : Fin 2) (s : State) : Host.Outcome State Fault Refusal :=
  act t s fun s => when (s.folioOn && s.modes.mode != .holdup && s.modes.mode != .standby && decide (eth.val < 2)) s fun s => boundaryApply s (writeOf .pkt none)

/-- A port reaches a PD idle point: its PDI writes, a share increase that waits and the capabilities to be sent proceed (R288, R303, R337). -/
def execPdIdlePoint (t : Nat) (port : PortId) (s : State) : Host.Outcome State Fault Refusal :=
  act t s fun s => when (s.folioOn && pdIdle s port) s fun s =>
    let s1 := boundaryApply s (writeOf .pdi (some port))
    pdiWork (if ferruleRuns s1 port then applyIncrease s1 port else s1) port

/-! ### Epochs (R56, R58) -/

/-- The register at an address applies at a commit. -/
def isEpoch (a : Nat) : Bool :=
  match findRow a with
  | some r => r.acc == .rw && r.applies == .epoch
  | none => false

/-- A write to an EPOCH register joins the staging set (R58). -/
def execEpochStageWrite (t : Nat) (path : Path) (addr : BitVec 24) (value : Word) (s : State) : Host.Outcome State Fault Refusal :=
  privCmd t path addr.toNat s fun s => when (isEpoch addr.toNat && !unreachedV s addr.toNat) s fun s => setupWrite s path addr.toNat value

/-- RUBRIC_CTRL.COMMIT (R58). -/
def execRubricCommit (t : Nat) (path : Path) (s : State) : Host.Outcome State Fault Refusal :=
  privCmd t path 0x200 s fun s => rubricCommit s path

/-- RUBRIC_CTRL.ABORT (R58). -/
def execRubricAbort (t : Nat) (path : Path) (s : State) : Host.Outcome State Fault Refusal :=
  privCmd t path 0x200 s rubricAbort

/-- The Rubric engine works (R20, R407). -/
def rubricOn (s : State) : Bool := s.folioOn && engineOn s 90

/-- The copy of a commit is made, once every value has applied (R58). -/
def execCommitComplete (t : Nat) (s : State) : Host.Outcome State Fault Refusal :=
  act t s fun s => when (rubricOn s && s.rubric.busy && s.rubric.classV.isEmpty) s commitComplete

/-- A domain's CRC is brought up to date (R56). -/
def execDomainCrcUpdate (t : Nat) (domain : Fin 27) (s : State) : Host.Outcome State Fault Refusal :=
  act t s fun s => when (rubricOn s) s fun s => updateDomain s domain

/-! ### The Scribe function's accesses (R244) -/

/-- The head request has OP 1: the register is read without privilege. -/
def execFuncRead (t : Nat) (s : State) : Host.Outcome State Fault Refusal :=
  act t s fun s =>
    match s.func.queue with
    | q :: _ => when (scribeRuns s && q.ok && q.op == 1) s fun s =>
        let r := readReg s .scribe q.addr
        funcDrain 32 (funcPop r.1 (funcReply q (bnat (denied s .scribe q.addr)) r.2))
    | [] => s

/-- The head request has OP 2: the register is written without privilege. -/
def execFuncWrite (t : Nat) (s : State) : Host.Outcome State Fault Refusal :=
  act t s fun s =>
    match s.func.queue with
    | q :: _ => when (scribeRuns s && q.ok && q.op == 2) s fun s =>
        funcDrain 32 (funcPop (setupWrite s .scribe q.addr q.data) (funcReply q (bnat (denied s .scribe q.addr)) q.data))
    | [] => s

end Sys2Proof.Machine
end

