-- ==== Sys2Proof/Machine/Dispatch.lean ====
section
/-! DEFINITION. The dispatch: one arm per command, each a direct call of its meaning. -/

namespace Sys2Proof.Machine

/-- The effect of a command on everything but the queue. -/
def exec (i : Instr) (s : State) : Host.Outcome State Fault Refusal :=
  match i with
  | .vinPreRise t vin => Sys2Proof.Machine.execVinPreRise t vin s
  | .vinPreCollapse t => Sys2Proof.Machine.execVinPreCollapse t s
  | .seatStable t vin => Sys2Proof.Machine.execSeatStable t vin s
  | .seatRelease t pinB => Sys2Proof.Machine.execSeatRelease t pinB s
  | .inrushDone t vin vout => Sys2Proof.Machine.execInrushDone t vin vout s
  | .inrushTimerExpiry t => Sys2Proof.Machine.execInrushTimerExpiry t s
  | .inputLoss t cause vin amps => Sys2Proof.Machine.execInputLoss t cause vin amps s
  | .inputReturn t vin => Sys2Proof.Machine.execInputReturn t vin s
  | .inputRetryWaitExpiry t vin => Sys2Proof.Machine.execInputRetryWaitExpiry t vin s
  | .inputRetryClear t => Sys2Proof.Machine.execInputRetryClear t s
  | .inClear t path => Sys2Proof.Machine.execInClear t path s
  | .inClearFetFail t path => Sys2Proof.Machine.execInClearFetFail t path s
  | .pgRelease t vout => Sys2Proof.Machine.execPgRelease t vout s
  | .pgFall t vout => Sys2Proof.Machine.execPgFall t vout s
  | .earlyWarning t vin => Sys2Proof.Machine.execEarlyWarning t vin s
  | .earlyWarningClear t vin => Sys2Proof.Machine.execEarlyWarningClear t vin s
  | .shedWaitExpiry t port => Sys2Proof.Machine.execShedWaitExpiry t port s
  | .holdupFlushComplete t => Sys2Proof.Machine.execHoldupFlushComplete t s
  | .parkedInputRestored t => Sys2Proof.Machine.execParkedInputRestored t s
  | .vauxFall t => Sys2Proof.Machine.execVauxFall t s
  | .vauxRecover t => Sys2Proof.Machine.execVauxRecover t s
  | .folioRailFail t => Sys2Proof.Machine.execFolioRailFail t s
  | .folioResetRelease t nor => Sys2Proof.Machine.execFolioResetRelease t nor s
  | .resetNPulse t nor => Sys2Proof.Machine.execResetNPulse t nor s
  | .d2dLinkFirstUp t => Sys2Proof.Machine.execD2dLinkFirstUp t s
  | .d2dFrame t payload crc => Sys2Proof.Machine.execD2dFrame t payload crc s
  | .strokeResync t => Sys2Proof.Machine.execStrokeResync t s
  | .d2dLinkLost t => Sys2Proof.Machine.execD2dLinkLost t s
  | .linkLossHoldExpiry t => Sys2Proof.Machine.execLinkLossHoldExpiry t s
  | .d2dLinkRestored t => Sys2Proof.Machine.execD2dLinkRestored t s
  | .bootEnd t => Sys2Proof.Machine.execBootEnd t s
  | .gapScanComplete t => Sys2Proof.Machine.execGapScanComplete t s
  | .modeManaged t path => Sys2Proof.Machine.execModeManaged t path s
  | .modeSuspend t path => Sys2Proof.Machine.execModeSuspend t path s
  | .suspendReached t => Sys2Proof.Machine.execSuspendReached t s
  | .modeStandby t path => Sys2Proof.Machine.execModeStandby t path s
  | .standbyReached t => Sys2Proof.Machine.execStandbyReached t s
  | .modeWake t path => Sys2Proof.Machine.execModeWake t path s
  | .modeReboot t path => Sys2Proof.Machine.execModeReboot t path s
  | .standbyWakeAttach t port => Sys2Proof.Machine.execStandbyWakeAttach t port s
  | .imgOpenFw t path => Sys2Proof.Machine.execImgOpenFw t path s
  | .imgOpenCfg t path => Sys2Proof.Machine.execImgOpenCfg t path s
  | .imgEraseDone t ok => Sys2Proof.Machine.execImgEraseDone t ok s
  | .imgDataWrite t path value => Sys2Proof.Machine.execImgDataWrite t path value s
  | .imgCommit t path verdict => Sys2Proof.Machine.execImgCommit t path verdict s
  | .imgAbandon t path => Sys2Proof.Machine.execImgAbandon t path s
  | .spiReadFrame t addr => Sys2Proof.Machine.execSpiReadFrame t addr s
  | .spiWriteFrame t addr data crc => Sys2Proof.Machine.execSpiWriteFrame t addr data crc s
  | .spiUnknownCommand t first => Sys2Proof.Machine.execSpiUnknownCommand t first s
  | .spiCsRelease t => Sys2Proof.Machine.execSpiCsRelease t s
  | .barRead t win offset lanes => Sys2Proof.Machine.execBarRead t win offset lanes s
  | .barWrite t win offset data lanes => Sys2Proof.Machine.execBarWrite t win offset data lanes s
  | .accessTimeout t path addr isWrite => Sys2Proof.Machine.execAccessTimeout t path addr isWrite s
  | .registerWrite t path addr value => Sys2Proof.Machine.execRegisterWrite t path addr value s
  | .rcRead t path addr => Sys2Proof.Machine.execRcRead t path addr s
  | .pairLowRead t path addr => Sys2Proof.Machine.execPairLowRead t path addr s
  | .pfTrustWrite t path value => Sys2Proof.Machine.execPfTrustWrite t path value s
  | .ufBoundary t port => Sys2Proof.Machine.execUfBoundary t port s
  | .frBoundary t port => Sys2Proof.Machine.execFrBoundary t port s
  | .brkBoundary t => Sys2Proof.Machine.execBrkBoundary t s
  | .pktBoundary t eth => Sys2Proof.Machine.execPktBoundary t eth s
  | .pdIdlePoint t port => Sys2Proof.Machine.execPdIdlePoint t port s
  | .epochStageWrite t path addr value => Sys2Proof.Machine.execEpochStageWrite t path addr value s
  | .rubricCommit t path => Sys2Proof.Machine.execRubricCommit t path s
  | .rubricAbort t path => Sys2Proof.Machine.execRubricAbort t path s
  | .commitComplete t => Sys2Proof.Machine.execCommitComplete t s
  | .domainCrcUpdate t domain => Sys2Proof.Machine.execDomainCrcUpdate t domain s
  | .ownAssign t path port value => Sys2Proof.Machine.execOwnAssign t path port value s
  | .portDecision t port => Sys2Proof.Machine.execPortDecision t port s
  | .leaseExpiry t port => Sys2Proof.Machine.execLeaseExpiry t port s
  | .handoverComplete t port => Sys2Proof.Machine.execHandoverComplete t port s
  | .orphanKeptEntry t port => Sys2Proof.Machine.execOrphanKeptEntry t port s
  | .orphanOffEntry t port => Sys2Proof.Machine.execOrphanOffEntry t port s
  | .resettingComplete t port ssFirst => Sys2Proof.Machine.execResettingComplete t port ssFirst s
  | .viEnable t v value => Sys2Proof.Machine.execViEnable t v value s
  | .viDisable t v value => Sys2Proof.Machine.execViDisable t v value s
  | .viConfigSend t q bytes => Sys2Proof.Machine.execViConfigSend t q bytes s
  | .cmdDb t v value => Sys2Proof.Machine.execCmdDb t v value s
  | .evtDb t v value => Sys2Proof.Machine.execEvtDb t v value s
  | .leaseDb t v value => Sys2Proof.Machine.execLeaseDb t v value s
  | .transferDb t v slot value => Sys2Proof.Machine.execTransferDb t v slot value s
  | .reservedDoorbell t v offset => Sys2Proof.Machine.execReservedDoorbell t v offset s
  | .ringFetchComplete t v ring entries failed => Sys2Proof.Machine.execRingFetchComplete t v ring entries failed s
  | .noopCmd t v slot => Sys2Proof.Machine.execNoopCmd t v slot s
  | .claim t v slot => Sys2Proof.Machine.execClaim t v slot s
  | .release t v slot => Sys2Proof.Machine.execRelease t v slot s
  | .renewLease t v slot => Sys2Proof.Machine.execRenewLease t v slot s
  | .resetPort t v slot => Sys2Proof.Machine.execResetPort t v slot s
  | .resetPortWarm t v slot => Sys2Proof.Machine.execResetPortWarm t v slot s
  | .resetPortTimeout t port => Sys2Proof.Machine.execResetPortTimeout t port s
  | .suspendPort t v slot => Sys2Proof.Machine.execSuspendPort t v slot s
  | .suspendComplete t port u3 => Sys2Proof.Machine.execSuspendComplete t port u3 s
  | .resumePort t v slot => Sys2Proof.Machine.execResumePort t v slot s
  | .resumeSignalEnd t port => Sys2Proof.Machine.execResumeSignalEnd t port s
  | .resumeComplete t port => Sys2Proof.Machine.execResumeComplete t port s
  | .addressDevice t v slot => Sys2Proof.Machine.execAddressDevice t v slot s
  | .setAddressRecovery t port => Sys2Proof.Machine.execSetAddressRecovery t port s
  | .disableDevice t v slot => Sys2Proof.Machine.execDisableDevice t v slot s
  | .configureEndpoint t v slot => Sys2Proof.Machine.execConfigureEndpoint t v slot s
  | .bindEndpointRing t v slot => Sys2Proof.Machine.execBindEndpointRing t v slot s
  | .stopEndpoint t v slot onWire => Sys2Proof.Machine.execStopEndpoint t v slot onWire s
  | .resetEndpoint t v slot => Sys2Proof.Machine.execResetEndpoint t v slot s
  | .disableEndpoint t v slot => Sys2Proof.Machine.execDisableEndpoint t v slot s
  | .setReadAhead t v slot => Sys2Proof.Machine.execSetReadAhead t v slot s
  | .readAheadOff t v slot => Sys2Proof.Machine.execReadAheadOff t v slot s
  | .queryPort t v slot => Sys2Proof.Machine.execQueryPort t v slot s
  | .queryVi t v slot => Sys2Proof.Machine.execQueryVi t v slot s
  | .replay t v slot => Sys2Proof.Machine.execReplay t v slot s
  | .resume t v slot => Sys2Proof.Machine.execResume t v slot s
  | .busTransaction t port who result => Sys2Proof.Machine.execBusTransaction t port who result s
  | .turnaroundTimeout t port who => Sys2Proof.Machine.execTurnaroundTimeout t port who s
  | .msixIntervalExpiry t v => Sys2Proof.Machine.execMsixIntervalExpiry t v s
  | .rdmaAckReceived t v upTo all => Sys2Proof.Machine.execRdmaAckReceived t v upTo all s
  | .rdmaReadResponse t v what data => Sys2Proof.Machine.execRdmaReadResponse t v what data s
  | .dmaReadCompletion t v what data failed => Sys2Proof.Machine.execDmaReadCompletion t v what data failed s
  | .previewTimeLimit t port => Sys2Proof.Machine.execPreviewTimeLimit t port s
  | .viBindWrite t path v value => Sys2Proof.Machine.execViBindWrite t path v value s
  | .flr t fn => Sys2Proof.Machine.execFlr t fn s
  | .vfEnableClear t numVfs => Sys2Proof.Machine.execVfEnableClear t numVfs s
  | .pcieLinkDown t => Sys2Proof.Machine.execPcieLinkDown t s
  | .bmeClear t fn => Sys2Proof.Machine.execBmeClear t fn s
  | .bmeSet t fn => Sys2Proof.Machine.execBmeSet t fn s
  | .ptmRequest t ok ownerNs phase => Sys2Proof.Machine.execPtmRequest t ok ownerNs phase s
  | .ethFrameReceived t portB frame => Sys2Proof.Machine.execEthFrameReceived t portB frame s
  | .prpEntryExpiry t => Sys2Proof.Machine.execPrpEntryExpiry t s
  | .prpSupervisionSend t => Sys2Proof.Machine.execPrpSupervisionSend t s
  | .lanDown t portB lockLost => Sys2Proof.Machine.execLanDown t portB lockLost s
  | .cmReq t portB req => Sys2Proof.Machine.execCmReq t portB req s
  | .repRetryTimeout t q => Sys2Proof.Machine.execRepRetryTimeout t q s
  | .cmRtu t q hostMac => Sys2Proof.Machine.execCmRtu t q hostMac s
  | .cmDreq t q => Sys2Proof.Machine.execCmDreq t q s
  | .roceDoorbellWrite t q rkey addr bytes => Sys2Proof.Machine.execRoceDoorbellWrite t q rkey addr bytes s
  | .ackTimeout t q => Sys2Proof.Machine.execAckTimeout t q s
  | .nakReceived t q => Sys2Proof.Machine.execNakReceived t q s
  | .psnSequenceNak t q => Sys2Proof.Machine.execPsnSequenceNak t q s
  | .unreachableHoldExpiry t v => Sys2Proof.Machine.execUnreachableHoldExpiry t v s
  | .qpReset t path q => Sys2Proof.Machine.execQpReset t path q s
  | .cnpReceived t q => Sys2Proof.Machine.execCnpReceived t q s
  | .ccRateIncrease t q => Sys2Proof.Machine.execCcRateIncrease t q s
  | .pfcFrameReceived t portB enable xoff => Sys2Proof.Machine.execPfcFrameReceived t portB enable xoff s
  | .ptpSyncAccepted t timeNs offset masters phase => Sys2Proof.Machine.execPtpSyncAccepted t timeNs offset masters phase s
  | .ptpLockTimeout t => Sys2Proof.Machine.execPtpLockTimeout t s
  | .freeRunSet t v => Sys2Proof.Machine.execFreeRunSet t v s
  | .portSlewComplete t port => Sys2Proof.Machine.execPortSlewComplete t port s
  | .endpointPromotion t ctx => Sys2Proof.Machine.execEndpointPromotion t ctx s
  | .isochDataFetch t ctx => Sys2Proof.Machine.execIsochDataFetch t ctx s
  | .usb2ConnectDebounced t port low => Sys2Proof.Machine.execUsb2ConnectDebounced t port low s
  | .receiverDetect t port found gen2 => Sys2Proof.Machine.execReceiverDetect t port found gen2 s
  | .ssU0Entry t port gen2 => Sys2Proof.Machine.execSsU0Entry t port gen2 s
  | .ssTrainingTimeout t port => Sys2Proof.Machine.execSsTrainingTimeout t port s
  | .deviceChirpSeen t port startUs tenths => Sys2Proof.Machine.execDeviceChirpSeen t port startUs tenths s
  | .rootResetEnd t port => Sys2Proof.Machine.execRootResetEnd t port s
  | .resetRecoveryEnd t port => Sys2Proof.Machine.execResetRecoveryEnd t port s
  | .babbleDetected t port ctx => Sys2Proof.Machine.execBabbleDetected t port ctx s
  | .usb2Disconnect t port => Sys2Proof.Machine.execUsb2Disconnect t port s
  | .ssLinkLost t port => Sys2Proof.Machine.execSsLinkLost t port s
  | .clearTtBufferDone t port ok => Sys2Proof.Machine.execClearTtBufferDone t port ok s
  | .l1Entry t port acked => Sys2Proof.Machine.execL1Entry t port acked s
  | .u1Entry t port byDevice => Sys2Proof.Machine.execU1Entry t port byDevice s
  | .u2Entry t port byDevice => Sys2Proof.Machine.execU2Entry t port byDevice s
  | .lpmRefusalHoldExpiry t port => Sys2Proof.Machine.execLpmRefusalHoldExpiry t port s
  | .remoteWake t port ss => Sys2Proof.Machine.execRemoteWake t port ss s
  | .stuckProbe t port failed connects => Sys2Proof.Machine.execStuckProbe t port failed connects s
  | .stuckRetest t port passed => Sys2Proof.Machine.execStuckRetest t port passed s
  | .getHubStatus t c => Sys2Proof.Machine.execGetHubStatus t c s
  | .clearHubFeature t c feature => Sys2Proof.Machine.execClearHubFeature t c feature s
  | .setHubFeature t c => Sys2Proof.Machine.execSetHubFeature t c s
  | .getPortStatus t c n ss => Sys2Proof.Machine.execGetPortStatus t c n ss s
  | .setPortReset t c n ss => Sys2Proof.Machine.execSetPortReset t c n ss s
  | .classicPortResetEnd t n => Sys2Proof.Machine.execClassicPortResetEnd t n s
  | .setBhPortReset t c n => Sys2Proof.Machine.execSetBhPortReset t c n s
  | .ssPortResetTimeout t n => Sys2Proof.Machine.execSsPortResetTimeout t n s
  | .setPortSuspend t c n => Sys2Proof.Machine.execSetPortSuspend t c n s
  | .clearPortSuspend t c n => Sys2Proof.Machine.execClearPortSuspend t c n s
  | .clearPortEnable t c n => Sys2Proof.Machine.execClearPortEnable t c n s
  | .setPortPower t c n => Sys2Proof.Machine.execSetPortPower t c n s
  | .clearPortPower t c n => Sys2Proof.Machine.execClearPortPower t c n s
  | .setPortTest t c n => Sys2Proof.Machine.execSetPortTest t c n s
  | .setPortIndicator t c n => Sys2Proof.Machine.execSetPortIndicator t c n s
  | .setPortLinkState t c n state => Sys2Proof.Machine.execSetPortLinkState t c n state s
  | .setPortLinkPmFeature t c n feature value => Sys2Proof.Machine.execSetPortLinkPmFeature t c n feature value s
  | .clearPortChange t c n ss bit => Sys2Proof.Machine.execClearPortChange t c n ss bit s
  | .getPortErrCount t c n => Sys2Proof.Machine.execGetPortErrCount t c n s
  | .setHubDepth t c depth => Sys2Proof.Machine.execSetHubDepth t c depth s
  | .clearTtBuffer t c n addr ep type isIn => Sys2Proof.Machine.execClearTtBuffer t c n addr ep type isIn s
  | .resetTt t c n => Sys2Proof.Machine.execResetTt t c n s
  | .stopTt t c n => Sys2Proof.Machine.execStopTt t c n s
  | .getTtState t c n => Sys2Proof.Machine.execGetTtState t c n s
  | .getDescriptor t c half type index len => Sys2Proof.Machine.execGetDescriptor t c half type index len s
  | .setDescriptor t c => Sys2Proof.Machine.execSetDescriptor t c s
  | .setConfiguration t c half value => Sys2Proof.Machine.execSetConfiguration t c half value s
  | .setInterface t c half alt => Sys2Proof.Machine.execSetInterface t c half alt s
  | .upstreamResetRecognised t c ss => Sys2Proof.Machine.execUpstreamResetRecognised t c ss s
  | .hsIdleReversion t c => Sys2Proof.Machine.execHsIdleReversion t c s
  | .chirpKEnd t c => Sys2Proof.Machine.execChirpKEnd t c s
  | .hostChirpSixth t c => Sys2Proof.Machine.execHostChirpSixth t c s
  | .hostChirpTimeout t c => Sys2Proof.Machine.execHostChirpTimeout t c s
  | .upstreamResetEnd t c ss => Sys2Proof.Machine.execUpstreamResetEnd t c ss s
  | .ssplitReceived t n split => Sys2Proof.Machine.execSsplitReceived t n split s
  | .csplitReceived t n split => Sys2Proof.Machine.execCsplitReceived t n split s
  | .ligatureResultExpiry t n => Sys2Proof.Machine.execLigatureResultExpiry t n s
  | .periodicResultDiscard t n frame uf => Sys2Proof.Machine.execPeriodicResultDiscard t n frame uf s
  | .upDrSwapSend t => Sys2Proof.Machine.execUpDrSwapSend t s
  | .drSwapRetry t => Sys2Proof.Machine.execDrSwapRetry t s
  | .drSwapAnswer t id answer => Sys2Proof.Machine.execDrSwapAnswer t id answer s
  | .drSwap t port id => Sys2Proof.Machine.execDrSwap t port id s
  | .funcOutPacket t bytes => Sys2Proof.Machine.execFuncOutPacket t bytes s
  | .funcRead t => Sys2Proof.Machine.execFuncRead t s
  | .funcWrite t => Sys2Proof.Machine.execFuncWrite t s
  | .funcEcho t => Sys2Proof.Machine.execFuncEcho t s
  | .funcClearHalt t isIn => Sys2Proof.Machine.execFuncClearHalt t isIn s
  | .blockGrant t owner ctx need => Sys2Proof.Machine.execBlockGrant t owner ctx need s
  | .bankWindow t => Sys2Proof.Machine.execBankWindow t s
  | .conflictWindow t grants demands => Sys2Proof.Machine.execConflictWindow t grants demands s
  | .heartbeat t => Sys2Proof.Machine.execHeartbeat t s
  | .noticeDelivery t v => Sys2Proof.Machine.execNoticeDelivery t v s
  | .bcHeadRead t path which => Sys2Proof.Machine.execBcHeadRead t path which s
  | .bcPop t path => Sys2Proof.Machine.execBcPop t path s
  | .bcSkip t path => Sys2Proof.Machine.execBcSkip t path s
  | .bcFlush t path => Sys2Proof.Machine.execBcFlush t path s
  | .bcIrqAck t path => Sys2Proof.Machine.execBcIrqAck t path s
  | .irqLineSample t low => Sys2Proof.Machine.execIrqLineSample t low s
  | .irqLineHigh t => Sys2Proof.Machine.execIrqLineHigh t s
  | .ccPatternAppear t port cc1 cc2 => Sys2Proof.Machine.execCcPatternAppear t port cc1 cc2 s
  | .ccPatternLost t port cc1 cc2 => Sys2Proof.Machine.execCcPatternLost t port cc1 cc2 s
  | .attachDebounceEnd t port => Sys2Proof.Machine.execAttachDebounceEnd t port s
  | .vbusSwitchOn t port isp => Sys2Proof.Machine.execVbusSwitchOn t port isp s
  | .vsafe5vReached t port vbus => Sys2Proof.Machine.execVsafe5vReached t port vbus s
  | .vconnStable t port => Sys2Proof.Machine.execVconnStable t port s
  | .cableDiscoveryRetry t port => Sys2Proof.Machine.execCableDiscoveryRetry t port s
  | .sourceCapsSend t port => Sys2Proof.Machine.execSourceCapsSend t port s
  | .sourceCapsRetry t port => Sys2Proof.Machine.execSourceCapsRetry t port s
  | .goodcrcReceived t port prime => Sys2Proof.Machine.execGoodcrcReceived t port prime s
  | .goodcrcTimeout t port prime => Sys2Proof.Machine.execGoodcrcTimeout t port prime s
  | .senderResponseTimeout t port => Sys2Proof.Machine.execSenderResponseTimeout t port s
  | .request t port id rdo rev2 => Sys2Proof.Machine.execRequest t port id rdo rev2 s
  | .eprRequest t port id rdo pdo => Sys2Proof.Machine.execEprRequest t port id rdo pdo s
  | .transitionStart t port => Sys2Proof.Machine.execTransitionStart t port s
  | .psRdySend t port vbus => Sys2Proof.Machine.execPsRdySend t port vbus s
  | .transitionBoundMissed t port => Sys2Proof.Machine.execTransitionBoundMissed t port s
  | .sinkTxWaitEnd t port => Sys2Proof.Machine.execSinkTxWaitEnd t port s
  | .getSourceCap t port id => Sys2Proof.Machine.execGetSourceCap t port id s
  | .softReset t port => Sys2Proof.Machine.execSoftReset t port s
  | .pdMessageUnexpected t port id msg => Sys2Proof.Machine.execPdMessageUnexpected t port id msg s
  | .hardResetReceived t port => Sys2Proof.Machine.execHardResetReceived t port s
  | .hardResetVbusOff t port => Sys2Proof.Machine.execHardResetVbusOff t port s
  | .srcRecoverEnd t port => Sys2Proof.Machine.execSrcRecoverEnd t port s
  | .errorRecoveryEnd t port => Sys2Proof.Machine.execErrorRecoveryEnd t port s
  | .eprModeEnter t port id => Sys2Proof.Machine.execEprModeEnter t port id s
  | .eprModeExit t port id => Sys2Proof.Machine.execEprModeExit t port id s
  | .eprKeepalive t port id => Sys2Proof.Machine.execEprKeepalive t port id s
  | .eprGetSourceCap t port id => Sys2Proof.Machine.execEprGetSourceCap t port id s
  | .eprKeepaliveTimeout t port => Sys2Proof.Machine.execEprKeepaliveTimeout t port s
  | .ppsTimeout t port => Sys2Proof.Machine.execPpsTimeout t port s
  | .getStatus t port id => Sys2Proof.Machine.execGetStatus t port id s
  | .getPpsStatus t port id => Sys2Proof.Machine.execGetPpsStatus t port id s
  | .getSourceInfo t port id => Sys2Proof.Machine.execGetSourceInfo t port id s
  | .getRevision t port id => Sys2Proof.Machine.execGetRevision t port id s
  | .getSourceCapExtended t port id => Sys2Proof.Machine.execGetSourceCapExtended t port id s
  | .getManufacturerInfo t port id => Sys2Proof.Machine.execGetManufacturerInfo t port id s
  | .unsupportedMessage t port id type => Sys2Proof.Machine.execUnsupportedMessage t port id type s
  | .ignoredMessage t port id kind => Sys2Proof.Machine.execIgnoredMessage t port id kind s
  | .bist t port id mode => Sys2Proof.Machine.execBist t port id mode s
  | .discoverIdentity t port id => Sys2Proof.Machine.execDiscoverIdentity t port id s
  | .structuredVdmNak t port id => Sys2Proof.Machine.execStructuredVdmNak t port id s
  | .cableIdentityAck t port id vdo => Sys2Proof.Machine.execCableIdentityAck t port id vdo s
  | .alertSend t port => Sys2Proof.Machine.execAlertSend t port s
  | .reclaimTimer t port => Sys2Proof.Machine.execReclaimTimer t port s
  | .reclaimRestore t port => Sys2Proof.Machine.execReclaimRestore t port s
  | .pdSendCaps t path port => Sys2Proof.Machine.execPdSendCaps t path port s
  | .pdHardReset t path port => Sys2Proof.Machine.execPdHardReset t path port s
  | .pdErrorRecovery t path port => Sys2Proof.Machine.execPdErrorRecovery t path port s
  | .detachDebounceStart t port cc1 cc2 => Sys2Proof.Machine.execDetachDebounceStart t port cc1 cc2 s
  | .ccDetach t port => Sys2Proof.Machine.execCcDetach t port s
  | .vsafe0vReached t port vbus => Sys2Proof.Machine.execVsafe0vReached t port vbus s
  | .ccShortProbe t port pin2 shorted => Sys2Proof.Machine.execCcShortProbe t port pin2 shorted s
  | .ccOvervoltage t port pin2 => Sys2Proof.Machine.execCcOvervoltage t port pin2 s
  | .ccFaultRetest t port cc1 cc2 => Sys2Proof.Machine.execCcFaultRetest t port cc1 cc2 s
  | .vconnFault t port ma => Sys2Proof.Machine.execVconnFault t port ma s
  | .converterReady t port isp => Sys2Proof.Machine.execConverterReady t port isp s
  | .preswitchCheckDone t port isp mid => Sys2Proof.Machine.execPreswitchCheckDone t port isp mid s
  | .vsetTrim t port isp => Sys2Proof.Machine.execVsetTrim t port isp s
  | .breakerEval t path sample v1 v2 v3 => Sys2Proof.Machine.execBreakerEval t path sample v1 v2 v3 s
  | .fastTrip t path => Sys2Proof.Machine.execFastTrip t path s
  | .ppsCurrentLimitStep t port amps => Sys2Proof.Machine.execPpsCurrentLimitStep t port amps s
  | .thermalUpdate t port reading meanSquare dieTemp => Sys2Proof.Machine.execThermalUpdate t port reading meanSquare dieTemp s
  | .passDeviceFault t path check => Sys2Proof.Machine.execPassDeviceFault t path check s
  | .clearFetFail t path port => Sys2Proof.Machine.execClearFetFail t path port s
  | .fetClearCheckEnd t path failed => Sys2Proof.Machine.execFetClearCheckEnd t path failed s
  | .clearLatch t path port => Sys2Proof.Machine.execClearLatch t path port s
  | .portRetry t port => Sys2Proof.Machine.execPortRetry t port s
  | .portRetryClear t port => Sys2Proof.Machine.execPortRetryClear t port s
  | .shareIncreaseApply t port => Sys2Proof.Machine.execShareIncreaseApply t port s
  | .shedRestore t port => Sys2Proof.Machine.execShedRestore t port s
  | .timeSample t path => Sys2Proof.Machine.execTimeSample t path s
  | .dvfsUpdate t cluster need0 need1 need2 need3 slack stretches => Sys2Proof.Machine.execDvfsUpdate t cluster need0 need1 need2 need3 slack stretches s
  | .dvfsVoltageDown t cluster slack overV temp => Sys2Proof.Machine.execDvfsVoltageDown t cluster slack overV temp s
  | .regionTempCap t region temp other => Sys2Proof.Machine.execRegionTempCap t region temp other s
  | .regionTempUncap t region temp => Sys2Proof.Machine.execRegionTempUncap t region temp s
  | .eqAdaptStep t lane coef up height width => Sys2Proof.Machine.execEqAdaptStep t lane coef up height width s
  | .recordCommit t result => Sys2Proof.Machine.execRecordCommit t result s
  | .sectorRecycle t ring ok => Sys2Proof.Machine.execSectorRecycle t ring ok s
  | .bucketRefill t code port => Sys2Proof.Machine.execBucketRefill t code port s
  | .summaryPeriodClose t => Sys2Proof.Machine.execSummaryPeriodClose t s
  | .palFreeze t path => Sys2Proof.Machine.execPalFreeze t path s
  | .palUnfreeze t path => Sys2Proof.Machine.execPalUnfreeze t path s
  | .palVerify t path => Sys2Proof.Machine.execPalVerify t path s
  | .palVerifyDone t => Sys2Proof.Machine.execPalVerifyDone t s
  | .palLoad t path => Sys2Proof.Machine.execPalLoad t path s
  | .palNext t path => Sys2Proof.Machine.execPalNext t path s
  | .palPrev t path => Sys2Proof.Machine.execPalPrev t path s
  | .recordLoadReady t => Sys2Proof.Machine.execRecordLoadReady t s
  | .eccWindow t => Sys2Proof.Machine.execEccWindow t s
  | .eccUncorrectable t site => Sys2Proof.Machine.execEccUncorrectable t site s
  | .watchdogExpiry t engine => Sys2Proof.Machine.execWatchdogExpiry t engine s
  | .engineRestartComplete t engine => Sys2Proof.Machine.execEngineRestartComplete t engine s
  | .temperatureExceeded t place temp => Sys2Proof.Machine.execTemperatureExceeded t place temp s
  | .temperatureCleared t place temp => Sys2Proof.Machine.execTemperatureCleared t place temp s
  | .quarExit t path => Sys2Proof.Machine.execQuarExit t path s
  | .advanceFloor t path => Sys2Proof.Machine.execAdvanceFloor t path s
  | .returnArm t path => Sys2Proof.Machine.execReturnArm t path s
  | .returnDisarm t path => Sys2Proof.Machine.execReturnDisarm t path s
  | .returnArmLapse t => Sys2Proof.Machine.execReturnArmLapse t s
  | .keyLoad t path v => Sys2Proof.Machine.execKeyLoad t path v s
  | .keyWithdraw t path v => Sys2Proof.Machine.execKeyWithdraw t path v s
  | .fuseOwner t path => Sys2Proof.Machine.execFuseOwner t path s
  | .keySetCommitted t ok => Sys2Proof.Machine.execKeySetCommitted t ok s
  | .gateNonceRead t => Sys2Proof.Machine.execGateNonceRead t s
  | .gateAuthorisation t nonce uid scope => Sys2Proof.Machine.execGateAuthorisation t nonce uid scope s
  | .gateVerifyDone t signed => Sys2Proof.Machine.execGateVerifyDone t signed s
  | .gateNonceExpiry t => Sys2Proof.Machine.execGateNonceExpiry t s
  | .upstreamSuspend t c => Sys2Proof.Machine.execUpstreamSuspend t c s
  | .upstreamResume t c => Sys2Proof.Machine.execUpstreamResume t c s
  | .upstreamLpmToken t c => Sys2Proof.Machine.execUpstreamLpmToken t c s
  | .upstreamSsLinkChange t c up => Sys2Proof.Machine.execUpstreamSsLinkChange t c up s
  | .vfEnableSet t numVfs => Sys2Proof.Machine.execVfEnableSet t numVfs s
  | .flrComplete t fn msixOn => Sys2Proof.Machine.execFlrComplete t fn msixOn s
  | .pcieLinkUp t speed width bme msixOn ptm => Sys2Proof.Machine.execPcieLinkUp t speed width bme msixOn ptm s
  | .eccCorrected t site => Sys2Proof.Machine.execEccCorrected t site s
  | .fetClearWindowTimeout t port => Sys2Proof.Machine.execFetClearWindowTimeout t port s
  | .descriptorStoreReloaded t => Sys2Proof.Machine.execDescriptorStoreReloaded t s
  | .keyReloaded t v => Sys2Proof.Machine.execKeyReloaded t v s

end Sys2Proof.Machine
end

