-- ==== Sys2Proof/Safety.lean ====
section
/-! DEFINITION. What claims mean by a command that completes, and by a step that keeps a property; the properties kept; what each command may touch. -/

namespace Sys2Proof.Safety

open Sys2Proof.Machine

/-- The command answers a next state with a property. -/
def Completes (c : Instr) (s : State) (post : State → Prop) : Prop := ∃ t, exec c s = .next t ∧ post t

/-- A property that every step keeps, in every state that has it. -/
def KeptByStep (inv : State → Prop) : Prop := ∀ s t, inv s → step s = .next t → inv t

/-! ### Properties that every step keeps -/

/-- The register store and both copies of the RC registers are in their canonical form: addresses rising, no entry equal to what an unlisted address reads as (R6, R48). -/
abbrev CanonicalStores (s : State) : Prop :=
  s.regs.wf mapReset = true ∧ s.rcSpi.settled.wf (fun _ => 0) = true ∧ s.rcSpi.fresh.wf (fun _ => 0) = true
    ∧ s.rcPf.settled.wf (fun _ => 0) = true ∧ s.rcPf.fresh.wf (fun _ => 0) = true

/-- No notice queue holds more words than it has: 1,920 for a ring VI, 8,192 for the board, popped words not counted (R261, R267, R269). -/
abbrev NoticesFit (s : State) : Prop := ∀ q : Fin 65, queueWords s q ≤ queueSize q

/-- The mode that follows the input path while Folio is unpowered (R381). -/
def unpoweredMode : InState → Mode
  | .off => .off
  | .seating => .seating
  | .inrush => .inrush
  | .on => .inrush
  | .lost => .seating
  | .retryWait => .seating
  | .latched => .seating

/-- Standalone or Managed. -/
def ordinary (m : Mode) : Prop := m = .standalone ∨ m = .managed

/-- The mode unit is in order: while Folio is unpowered the mode follows the input path, and while it is powered it is Boot or later (R51, R381); each mode that is left for the one before it holds one it may return to (R384, R412); a Suspend entry is in progress only in Standalone and Managed (R398). -/
structure ModesInOrder (s : State) : Prop where
  unpowered : s.folioOn = false → s.modes.mode = unpoweredMode s.input.state
  powered : s.folioOn = true → 3 ≤ s.modes.mode.code
  suspended : s.modes.mode = .suspend → ordinary s.modes.beforeSuspend
  brownout : s.modes.mode = .brownout → ordinary s.modes.beforeBrownout
  quarantined : s.modes.mode = .quarantine →
    ordinary s.modes.beforeQuarantine ∨ (s.modes.beforeQuarantine = .brownout ∧ ordinary s.modes.beforeBrownout)
      ∨ (s.modes.beforeQuarantine = .suspend ∧ ordinary s.modes.beforeSuspend)
  suspending : s.modes.suspending = true → ordinary s.modes.mode

/-- The modes that may follow each mode (R384, R386): the rows of R384's table, the loss of a Folio rail from every powered mode, and Brownout as Boot ends under the early warning. -/
def modesAfter : Mode → List Mode
  | .off => [.seating, .inrush]
  | .seating => [.off, .inrush]
  | .inrush => [.off, .seating, .boot]
  | .boot => [.standalone, .managed, .quarantine, .brownout, .holdup, .off, .seating, .inrush]
  | .standalone => [.managed, .brownout, .holdup, .suspend, .standby, .quarantine, .ret, .boot, .off, .seating, .inrush]
  | .managed => [.brownout, .holdup, .suspend, .standby, .quarantine, .ret, .boot, .off, .seating, .inrush]
  | .brownout => [.standalone, .managed, .holdup, .quarantine, .boot, .off, .seating, .inrush]
  | .holdup => [.boot, .off, .seating, .inrush]
  | .suspend => [.standalone, .managed, .brownout, .holdup, .standby, .quarantine, .boot, .off, .seating, .inrush]
  | .standby => [.boot, .off, .seating, .inrush]
  | .quarantine => [.standalone, .managed, .brownout, .suspend, .holdup, .ret, .boot, .off, .seating, .inrush]
  | .ret => [.holdup, .off, .seating, .inrush]

/-! ### What a command may touch -/

/-- The commands given through one PRIV register, with their stamp, the master's path and the register's address (R44). -/
def privilegedBy : Instr → Option (Nat × Path × Nat)
  | .inClear t p => some (t, p, 0x28040)
  | .inClearFetFail t p => some (t, p, 0x28040)
  | .modeManaged t p => some (t, p, 0x1000)
  | .modeSuspend t p => some (t, p, 0x1000)
  | .modeStandby t p => some (t, p, 0x1000)
  | .modeWake t p => some (t, p, 0x1000)
  | .modeReboot t p => some (t, p, 0x1000)
  | .imgOpenFw t p => some (t, p, 0x1020)
  | .imgOpenCfg t p => some (t, p, 0x1020)
  | .imgDataWrite t p _ => some (t, p, 0x1024)
  | .imgCommit t p _ => some (t, p, 0x1020)
  | .imgAbandon t p => some (t, p, 0x1020)
  | .pfTrustWrite t p _ => some (t, p, 0x30)
  | .epochStageWrite t p addr _ => some (t, p, addr.toNat)
  | .rubricCommit t p => some (t, p, 0x200)
  | .rubricAbort t p => some (t, p, 0x200)
  | .ownAssign t p port _ => some (t, p, portReg port 0x204)
  | .viBindWrite t p v _ => some (t, p, bindAddr v)
  | .qpReset t p q => some (t, p, 0x80804 + 8 * q.val)
  | .bcHeadRead t p w => some (t, p, headAddr w)
  | .bcPop t p => some (t, p, 0x5002C)
  | .bcSkip t p => some (t, p, 0x5002C)
  | .bcFlush t p => some (t, p, 0x50030)
  | .bcIrqAck t p => some (t, p, 0x50008)
  | .pdSendCaps t p port => some (t, p, portReg port 0x401C)
  | .pdHardReset t p port => some (t, p, portReg port 0x401C)
  | .pdErrorRecovery t p port => some (t, p, portReg port 0x401C)
  | .clearFetFail t p port => some (t, p, portReg port 0x8040)
  | .clearLatch t p port => some (t, p, portReg port 0x8040)
  | .timeSample t p => some (t, p, 0x810)
  | .palFreeze t p => some (t, p, 0x40010)
  | .palUnfreeze t p => some (t, p, 0x40010)
  | .palVerify t p => some (t, p, 0x40010)
  | .palLoad t p => some (t, p, 0x40104)
  | .palNext t p => some (t, p, 0x40104)
  | .palPrev t p => some (t, p, 0x40104)
  | .quarExit t p => some (t, p, 0x203C)
  | .advanceFloor t p => some (t, p, 0x10008)
  | .returnArm t p => some (t, p, 0x10008)
  | .returnDisarm t p => some (t, p, 0x10008)
  | .keyLoad t p _ => some (t, p, 0x10010)
  | .keyWithdraw t p _ => some (t, p, 0x10010)
  | .fuseOwner t p => some (t, p, 0x10010)
  | _ => none

/-- The parts of the block that a frame speaks of: one for each field of State, but for time, the queue and the pins, which other statements cover; the two copies of the RC registers are one part. -/
inductive Piece where
  | out
  | freeCtr
  | limits
  | folioOn
  | strokeBase
  | resyncAt
  | regs
  | rc
  | pairs
  | writes
  | staged
  | rubric
  | trustBySpi
  | trustConfigured
  | link
  | localEvents
  | localLost
  | pal
  | margin
  | disc
  | clusters
  | engines
  | regionTemp
  | lanes
  | modes
  | img
  | nor
  | blot
  | sealUnit
  | input
  | vauxOk
  | power
  | pd
  | ptp
  | own
  | vis
  | devices
  | eps
  | nibs
  | qps
  | eth
  | prp
  | pcie
  | timelines
  | ink
  | cvis
  | cviews
  | cports
  | ligs
  | func
  deriving DecidableEq, Repr

/-- Every part. -/
def Piece.all : List Piece :=
  [.out, .freeCtr, .limits, .folioOn, .strokeBase, .resyncAt, .regs, .rc, .pairs, .writes, .staged, .rubric, .trustBySpi, .trustConfigured, .link, .localEvents, .localLost, .pal,
   .margin, .disc, .clusters, .engines, .regionTemp, .lanes, .modes, .img, .nor, .blot, .sealUnit, .input, .vauxOk, .power, .pd, .ptp, .own, .vis,
   .devices, .eps, .nibs, .qps, .eth, .prp, .pcie, .timelines, .ink, .cvis, .cviews, .cports, .ligs, .func]

/-- Every part but these. -/
def Piece.allBut (ps : List Piece) : List Piece := Piece.all.filter (fun p => !ps.contains p)

/-- A part is as it was. Of the copies of the RC registers: nothing was stamped by the command, though time may have moved what stood stamped into what a read returns (R48). Of Margin: everything but the two bits that the threshold moves at the end of every command (R273). Of what goes out: nothing did. -/
def Piece.same (s u : State) : Piece → Prop
  | .out => u.out = []
  | .freeCtr => u.freeCtr = s.freeCtr
  | .limits => u.limits = s.limits
  | .folioOn => u.folioOn = s.folioOn
  | .strokeBase => u.strokeBase = s.strokeBase
  | .resyncAt => u.resyncAt = s.resyncAt
  | .regs => u.regs = s.regs
  | .rc => (u.rcSpi = s.rcSpi ∧ u.rcPf = s.rcPf) ∨ (u.rcSpi = s.rcSpi.fold ∧ u.rcPf = s.rcPf.fold)
  | .pairs => u.pairs = s.pairs
  | .writes => u.writes = s.writes
  | .staged => u.staged = s.staged
  | .rubric => u.rubric = s.rubric
  | .trustBySpi => u.trustBySpi = s.trustBySpi
  | .trustConfigured => u.trustConfigured = s.trustConfigured
  | .link => u.link = s.link
  | .localEvents => u.localEvents = s.localEvents
  | .localLost => u.localLost = s.localLost
  | .pal => u.pal = s.pal
  | .margin => u.margin.queues = s.margin.queues ∧ u.margin.opened = s.margin.opened ∧ u.margin.wordIndex = s.margin.wordIndex ∧
      u.margin.aborted = s.margin.aborted ∧ u.margin.lineHeld = s.margin.lineHeld ∧ u.margin.hbDue = s.margin.hbDue
  | .disc => u.disc = s.disc
  | .clusters => u.clusters = s.clusters
  | .engines => u.engines = s.engines
  | .regionTemp => u.regionTemp = s.regionTemp
  | .lanes => u.lanes = s.lanes
  | .modes => u.modes = s.modes
  | .img => u.img = s.img
  | .nor => u.nor = s.nor
  | .blot => u.blot = s.blot
  | .sealUnit => u.sealUnit = s.sealUnit
  | .input => u.input = s.input
  | .vauxOk => u.vauxOk = s.vauxOk
  | .power => u.power = s.power
  | .pd => u.pd = s.pd
  | .ptp => u.ptp = s.ptp
  | .own => u.own = s.own
  | .vis => u.vis = s.vis
  | .devices => u.devices = s.devices
  | .eps => u.eps = s.eps
  | .nibs => u.nibs = s.nibs
  | .qps => u.qps = s.qps
  | .eth => u.eth = s.eth
  | .prp => u.prp = s.prp
  | .pcie => u.pcie = s.pcie
  | .timelines => u.timelines = s.timelines
  | .ink => u.ink = s.ink
  | .cvis => u.cvis = s.cvis
  | .cviews => u.cviews = s.cviews
  | .cports => u.cports = s.cports
  | .ligs => u.ligs = s.ligs
  | .func => u.func = s.func

/-- The five groups of commands the frames are stated for. -/
inductive CmdGroup where
  | power
  | board
  | host
  | bus
  | usb
  deriving DecidableEq, Repr

/-- The group of a command: the card input, the paths and the loops; modes, images, registers, recorder, notices, faults and keys; ownership and the rings; the buses and the transports; the classic hub and power delivery. -/
def cmdGroup : Instr → CmdGroup
  | .vinPreRise .. | .vinPreCollapse .. | .seatStable .. | .seatRelease .. | .inrushDone .. | .inrushTimerExpiry .. | .inputLoss .. | .inputReturn ..
  | .inputRetryWaitExpiry .. | .inputRetryClear .. | .inClear .. | .inClearFetFail .. | .pgRelease .. | .pgFall .. | .earlyWarning ..
  | .earlyWarningClear .. | .shedWaitExpiry .. | .vauxFall .. | .vauxRecover .. | .strokeResync .. | .vbusSwitchOn .. | .converterReady ..
  | .preswitchCheckDone .. | .vsetTrim .. | .breakerEval .. | .fastTrip .. | .ppsCurrentLimitStep .. | .thermalUpdate .. | .passDeviceFault ..
  | .clearFetFail .. | .fetClearCheckEnd .. | .clearLatch .. | .portRetry .. | .portRetryClear .. | .shareIncreaseApply .. | .shedRestore ..
  | .timeSample .. | .dvfsUpdate .. | .dvfsVoltageDown .. | .regionTempCap .. | .regionTempUncap .. | .eqAdaptStep .. | .fetClearWindowTimeout .. => .power
  | .holdupFlushComplete .. | .parkedInputRestored .. | .folioRailFail .. | .folioResetRelease .. | .resetNPulse .. | .d2dLinkFirstUp ..
  | .d2dFrame .. | .d2dLinkLost .. | .linkLossHoldExpiry .. | .d2dLinkRestored .. | .bootEnd .. | .gapScanComplete .. | .modeManaged ..
  | .modeSuspend .. | .suspendReached .. | .modeStandby .. | .standbyReached .. | .modeWake .. | .modeReboot .. | .standbyWakeAttach ..
  | .imgOpenFw .. | .imgOpenCfg .. | .imgEraseDone .. | .imgDataWrite .. | .imgCommit .. | .imgAbandon .. | .spiReadFrame .. | .spiWriteFrame ..
  | .spiUnknownCommand .. | .spiCsRelease .. | .barRead .. | .barWrite .. | .accessTimeout .. | .registerWrite .. | .rcRead .. | .pairLowRead ..
  | .pfTrustWrite .. | .ufBoundary .. | .frBoundary .. | .brkBoundary .. | .pktBoundary .. | .pdIdlePoint .. | .epochStageWrite .. | .rubricCommit ..
  | .rubricAbort .. | .commitComplete .. | .domainCrcUpdate .. | .funcRead .. | .funcWrite .. | .heartbeat .. | .bcHeadRead .. | .bcPop ..
  | .bcSkip .. | .bcFlush .. | .bcIrqAck .. | .irqLineSample .. | .irqLineHigh .. | .recordCommit .. | .sectorRecycle .. | .bucketRefill ..
  | .summaryPeriodClose .. | .palFreeze .. | .palUnfreeze .. | .palVerify .. | .palVerifyDone .. | .palLoad .. | .palNext .. | .palPrev ..
  | .recordLoadReady .. | .eccWindow .. | .eccUncorrectable .. | .watchdogExpiry .. | .engineRestartComplete .. | .temperatureExceeded ..
  | .temperatureCleared .. | .quarExit .. | .advanceFloor .. | .returnArm .. | .returnDisarm .. | .returnArmLapse .. | .keyLoad .. | .keyWithdraw ..
  | .fuseOwner .. | .keySetCommitted .. | .gateNonceRead .. | .gateAuthorisation .. | .gateVerifyDone .. | .gateNonceExpiry .. | .eccCorrected ..
  | .descriptorStoreReloaded .. | .keyReloaded .. => .board
  | .ownAssign .. | .portDecision .. | .leaseExpiry .. | .handoverComplete .. | .orphanKeptEntry .. | .orphanOffEntry .. | .resettingComplete ..
  | .viEnable .. | .viDisable .. | .viConfigSend .. | .cmdDb .. | .evtDb .. | .leaseDb .. | .transferDb .. | .reservedDoorbell ..
  | .ringFetchComplete .. | .noopCmd .. | .claim .. | .release .. | .renewLease .. | .resetPort .. | .resetPortWarm .. | .resetPortTimeout ..
  | .suspendPort .. | .suspendComplete .. | .resumePort .. | .resumeSignalEnd .. | .resumeComplete .. | .addressDevice .. | .setAddressRecovery ..
  | .disableDevice .. | .configureEndpoint .. | .bindEndpointRing .. | .stopEndpoint .. | .resetEndpoint .. | .disableEndpoint .. | .setReadAhead ..
  | .readAheadOff .. | .queryPort .. | .queryVi .. | .replay .. | .resume .. | .msixIntervalExpiry .. | .rdmaAckReceived .. | .freeRunSet ..
  | .blockGrant .. | .bankWindow .. | .conflictWindow .. | .noticeDelivery .. => .host
  | .busTransaction .. | .turnaroundTimeout .. | .rdmaReadResponse .. | .dmaReadCompletion .. | .previewTimeLimit .. | .viBindWrite .. | .flr ..
  | .vfEnableClear .. | .pcieLinkDown .. | .bmeClear .. | .bmeSet .. | .ptmRequest .. | .ethFrameReceived .. | .prpEntryExpiry ..
  | .prpSupervisionSend .. | .lanDown .. | .cmReq .. | .repRetryTimeout .. | .cmRtu .. | .cmDreq .. | .roceDoorbellWrite .. | .ackTimeout ..
  | .nakReceived .. | .psnSequenceNak .. | .unreachableHoldExpiry .. | .qpReset .. | .cnpReceived .. | .ccRateIncrease .. | .pfcFrameReceived ..
  | .ptpSyncAccepted .. | .ptpLockTimeout .. | .portSlewComplete .. | .endpointPromotion .. | .isochDataFetch .. | .usb2ConnectDebounced ..
  | .receiverDetect .. | .ssU0Entry .. | .ssTrainingTimeout .. | .deviceChirpSeen .. | .rootResetEnd .. | .resetRecoveryEnd .. | .babbleDetected ..
  | .usb2Disconnect .. | .ssLinkLost .. | .clearTtBufferDone .. | .l1Entry .. | .u1Entry .. | .u2Entry .. | .lpmRefusalHoldExpiry .. | .remoteWake ..
  | .stuckProbe .. | .stuckRetest .. | .vfEnableSet .. | .flrComplete .. | .pcieLinkUp .. => .bus
  | .getHubStatus .. | .clearHubFeature .. | .setHubFeature .. | .getPortStatus .. | .setPortReset .. | .classicPortResetEnd .. | .setBhPortReset ..
  | .ssPortResetTimeout .. | .setPortSuspend .. | .clearPortSuspend .. | .clearPortEnable .. | .setPortPower .. | .clearPortPower ..
  | .setPortTest .. | .setPortIndicator .. | .setPortLinkState .. | .setPortLinkPmFeature .. | .clearPortChange .. | .getPortErrCount ..
  | .setHubDepth .. | .clearTtBuffer .. | .resetTt .. | .stopTt .. | .getTtState .. | .getDescriptor .. | .setDescriptor .. | .setConfiguration ..
  | .setInterface .. | .upstreamResetRecognised .. | .hsIdleReversion .. | .chirpKEnd .. | .hostChirpSixth .. | .hostChirpTimeout ..
  | .upstreamResetEnd .. | .ssplitReceived .. | .csplitReceived .. | .ligatureResultExpiry .. | .periodicResultDiscard .. | .upDrSwapSend ..
  | .drSwapRetry .. | .drSwapAnswer .. | .drSwap .. | .funcOutPacket .. | .funcEcho .. | .funcClearHalt .. | .ccPatternAppear .. | .ccPatternLost ..
  | .attachDebounceEnd .. | .vsafe5vReached .. | .vconnStable .. | .cableDiscoveryRetry .. | .sourceCapsSend .. | .sourceCapsRetry ..
  | .goodcrcReceived .. | .goodcrcTimeout .. | .senderResponseTimeout .. | .request .. | .eprRequest .. | .transitionStart .. | .psRdySend ..
  | .transitionBoundMissed .. | .sinkTxWaitEnd .. | .getSourceCap .. | .softReset .. | .pdMessageUnexpected .. | .hardResetReceived ..
  | .hardResetVbusOff .. | .srcRecoverEnd .. | .errorRecoveryEnd .. | .eprModeEnter .. | .eprModeExit .. | .eprKeepalive .. | .eprGetSourceCap ..
  | .eprKeepaliveTimeout .. | .ppsTimeout .. | .getStatus .. | .getPpsStatus .. | .getSourceInfo .. | .getRevision .. | .getSourceCapExtended ..
  | .getManufacturerInfo .. | .unsupportedMessage .. | .ignoredMessage .. | .bist .. | .discoverIdentity .. | .structuredVdmNak ..
  | .cableIdentityAck .. | .alertSend .. | .reclaimTimer .. | .reclaimRestore .. | .pdSendCaps .. | .pdHardReset .. | .pdErrorRecovery ..
  | .detachDebounceStart .. | .ccDetach .. | .vsafe0vReached .. | .ccShortProbe .. | .ccOvervoltage .. | .ccFaultRetest .. | .vconnFault ..
  | .upstreamSuspend .. | .upstreamResume .. | .upstreamLpmToken .. | .upstreamSsLinkChange .. => .usb

/-- The parts that a command may change, by what the rules of its effect reach: every other part stays as it was. -/
def touches : Instr → List Piece
  | .spiCsRelease .. => []
  | .eccWindow .. | .descriptorStoreReloaded .. | .keyReloaded .. => [.blot]
  | .hostChirpTimeout .. => [.cvis]
  | .engineRestartComplete .. => [.engines]
  | .endpointPromotion .. => [.eps]
  | .pfcFrameReceived .. => [.eth]
  | .funcEcho .. => [.func]
  | .bankWindow .. => [.ink]
  | .inputRetryClear .. | .pgRelease .. | .pgFall .. => [.input]
  | .eqAdaptStep .. => [.lanes]
  | .irqLineHigh .. => [.margin]
  | .portSlewComplete .. | .lpmRefusalHoldExpiry .. => [.nibs]
  | .getHubStatus .. | .setHubFeature .. | .getPortStatus .. | .setPortIndicator .. | .getTtState .. | .getDescriptor .. | .setDescriptor ..
  | .upstreamLpmToken .. => [.out]
  | .leaseExpiry .. => [.own]
  | .palVerifyDone .. | .recordLoadReady .. => [.pal]
  | .ccPatternAppear .. | .ccPatternLost .. | .detachDebounceStart .. => [.pd]
  | .converterReady .. | .vsetTrim .. | .ppsCurrentLimitStep .. | .portRetryClear .. | .fetClearWindowTimeout .. => [.power]
  | .prpEntryExpiry .. => [.prp]
  | .cnpReceived .. | .ccRateIncrease .. => [.qps]
  | .strokeResync .. => [.resyncAt]
  | .domainCrcUpdate .. => [.rubric]
  | .returnArmLapse .. | .gateNonceExpiry .. => [.sealUnit]
  | .vauxRecover .. => [.vauxOk]
  | .temperatureCleared .. => [.clusters, .blot]
  | .regionTempUncap .. => [.clusters, .regionTemp]
  | .imgEraseDone .. => [.img, .nor]
  | .vinPreRise .. | .seatStable .. | .inrushDone .. | .inputReturn .. => [.modes, .input]
  | .clearPortEnable .. | .setPortLinkPmFeature .. | .clearPortChange .. => [.out, .cviews]
  | .clearHubFeature .. | .setHubDepth .. | .setInterface .. | .hsIdleReversion .. | .chirpKEnd .. | .hostChirpSixth .. => [.out, .cvis]
  | .getPortErrCount .. => [.out, .freeCtr]
  | .funcOutPacket .. | .funcClearHalt .. => [.out, .func]
  | .stopTt .. | .csplitReceived .. => [.out, .ligs]
  | .d2dFrame .. => [.out, .link]
  | .resumeSignalEnd .. | .receiverDetect .. | .l1Entry .. | .u1Entry .. | .u2Entry .. | .clearPortSuspend .. => [.out, .nibs]
  | .upDrSwapSend .. | .drSwapRetry .. | .vconnStable .. | .sourceCapsSend .. | .sourceCapsRetry .. | .sinkTxWaitEnd .. | .alertSend .. => [.out, .pd]
  | .prpSupervisionSend .. => [.out, .prp]
  | .psnSequenceNak .. => [.out, .qps]
  | .spiUnknownCommand .. => [.out, .rc]
  | .gateAuthorisation .. => [.out, .sealUnit]
  | .upstreamResetEnd .. => [.own, .cvis]
  | .vfEnableSet .. | .flrComplete .. => [.own, .pcie]
  | .vbusSwitchOn .. | .vsafe0vReached .. | .preswitchCheckDone .. => [.power, .pd]
  | .ligatureResultExpiry .. | .periodicResultDiscard .. => [.rc, .ligs]
  | .recordCommit .. | .sectorRecycle .. | .bucketRefill .. | .summaryPeriodClose .. | .palVerify .. | .palLoad .. => [.rc, .pal]
  | .unreachableHoldExpiry .. => [.vis, .ink]
  | .upstreamSsLinkChange .. => [.cvis, .cviews, .func]
  | .pcieLinkUp .. => [.link, .own, .pcie]
  | .setPortTest .. => [.out, .cviews, .cports]
  | .resetRecoveryEnd .. => [.out, .eps, .nibs]
  | .isochDataFetch .. => [.out, .eps, .qps]
  | .cmReq .. => [.out, .freeCtr, .qps]
  | .gateNonceRead .. => [.out, .freeCtr, .sealUnit]
  | .deviceChirpSeen .. => [.out, .nibs, .cports]
  | .setPortSuspend .. | .setPortLinkState .. => [.out, .nibs, .cviews]
  | .setPortPower .. => [.out, .power, .cviews]
  | .vsafe5vReached .. => [.out, .power, .pd]
  | .clearTtBuffer .. | .resetTt .. | .ssplitReceived .. => [.out, .rc, .ligs]
  | .cableDiscoveryRetry .. => [.out, .rc, .pd]
  | .msixIntervalExpiry .. => [.out, .vis, .pcie]
  | .srcRecoverEnd .. => [.power, .pd, .cviews]
  | .dvfsUpdate .. => [.rc, .clusters, .engines]
  | .dvfsVoltageDown .. => [.rc, .pal, .clusters]
  | .timeSample .. => [.rc, .pal, .disc]
  | .imgAbandon .. => [.rc, .pal, .img]
  | .inClearFetFail .. => [.rc, .pal, .input]
  | .bcPop .. | .bcSkip .. | .bcFlush .. | .bcIrqAck .. => [.rc, .pal, .margin]
  | .ownAssign .. => [.rc, .pal, .own]
  | .pdSendCaps .. => [.rc, .pal, .pd]
  | .clearFetFail .. => [.rc, .pal, .power]
  | .advanceFloor .. | .returnArm .. | .returnDisarm .. | .keyLoad .. | .keyWithdraw .. | .fuseOwner .. => [.rc, .pal, .sealUnit]
  | .commitComplete .. => [.rc, .rubric, .pal]
  | .palNext .. | .palPrev .. => [.regs, .rc, .pal]
  | .gapScanComplete .. | .heartbeat .. | .irqLineSample .. | .palFreeze .. | .palUnfreeze .. => [.limits, .rc, .pal, .margin]
  | .upstreamSuspend .. => [.out, .eps, .nibs, .cvis]
  | .ssPortResetTimeout .. => [.out, .nibs, .cviews, .cports]
  | .accessTimeout .. => [.out, .rc, .pal, .func]
  | .bcHeadRead .. => [.out, .rc, .pal, .margin]
  | .repRetryTimeout .. => [.out, .rc, .pal, .qps]
  | .imgOpenFw .. | .imgOpenCfg .. => [.rc, .pal, .img, .nor]
  | .inClear .. => [.rc, .pal, .modes, .input]
  | .rubricAbort .. => [.rc, .staged, .rubric, .pal]
  | .eccCorrected .. => [.limits, .rc, .pal, .margin, .blot]
  | .setPortReset .. | .classicPortResetEnd .. | .setBhPortReset .. => [.out, .nibs, .cviews, .cports, .func]
  | .clearPortPower .. => [.out, .power, .nibs, .cviews, .cports]
  | .spiReadFrame .. | .barRead .. | .rcRead .. | .pairLowRead .. => [.out, .rc, .pairs, .pal, .margin]
  | .funcRead .. => [.rc, .pairs, .pal, .margin, .func]
  | .regionTempCap .. => [.rc, .pal, .clusters, .engines, .regionTemp]
  | .imgDataWrite .. => [.regs, .rc, .pal, .img, .nor]
  | .conflictWindow .. => [.freeCtr, .limits, .rc, .pal, .margin, .ink]
  | .lanDown .. => [.limits, .rc, .link, .pal, .margin, .eth]
  | .suspendReached .. => [.limits, .rc, .pal, .margin, .modes, .cvis]
  | .shareIncreaseApply .. => [.limits, .rc, .pal, .margin, .power, .pd]
  | .freeRunSet .. => [.limits, .regs, .rc, .pal, .margin, .timelines]
  | .stuckRetest .. => [.out, .limits, .rc, .pal, .margin, .nibs]
  | .modeSuspend .. => [.out, .rc, .pal, .modes, .eps, .nibs]
  | .inputRetryWaitExpiry .. => [.rc, .localEvents, .localLost, .pal, .modes, .input]
  | .ptpSyncAccepted .. | .ptpLockTimeout .. => [.limits, .rc, .pal, .margin, .disc, .ptp, .timelines]
  | .imgCommit .. => [.limits, .rc, .pal, .margin, .img, .nor, .blot]
  | .modeManaged .. => [.limits, .rc, .pal, .margin, .modes, .own, .cvis]
  | .portRetry .. | .shedRestore .. => [.limits, .rc, .pal, .margin, .power, .pd, .cviews]
  | .usb2ConnectDebounced .. => [.out, .limits, .rc, .pal, .margin, .nibs, .cviews]
  | .ptmRequest .. => [.out, .limits, .rc, .pal, .margin, .pcie, .timelines]
  | .rdmaAckReceived .. => [.out, .limits, .rc, .pal, .vis, .qps, .pcie]
  | .setConfiguration .. => [.out, .power, .nibs, .cvis, .cviews, .cports, .func]
  | .d2dLinkFirstUp .. => [.rc, .link, .localEvents, .localLost, .pal, .blot, .power]
  | .bmeSet .. => [.limits, .rc, .pal, .margin, .own, .vis, .eps, .pcie]
  | .remoteWake .. | .upstreamResume .. => [.out, .limits, .rc, .pal, .margin, .modes, .nibs, .cvis]
  | .previewTimeLimit .. => [.out, .limits, .rc, .pal, .margin, .vis, .nibs, .qps]
  | .noticeDelivery .. => [.out, .limits, .rc, .pal, .margin, .vis, .qps, .pcie]
  | .upstreamResetRecognised .. => [.out, .power, .own, .vis, .nibs, .cvis, .cviews, .cports]
  | .vinPreCollapse .. => [.regs, .localEvents, .localLost, .modes, .blot, .input, .vauxOk, .power]
  | .ethFrameReceived .. => [.out, .limits, .rc, .link, .pal, .margin, .qps, .eth, .prp]
  | .cmRtu .. => [.out, .limits, .rc, .pal, .margin, .own, .vis, .eps, .qps]
  | .noopCmd .. | .queryPort .. | .queryVi .. | .replay .. => [.out, .limits, .rc, .pal, .margin, .vis, .qps, .pcie, .ink]
  | .claim .. | .release .. | .renewLease .. => [.out, .limits, .rc, .pal, .margin, .own, .vis, .qps, .pcie, .ink]
  | .bindEndpointRing .. | .resetEndpoint .. | .setReadAhead .. | .readAheadOff .. => [.out, .limits, .rc, .pal, .margin, .vis, .eps, .qps, .pcie, .ink]
  | .resetPortTimeout .. | .suspendComplete .. | .resumePort .. | .ssTrainingTimeout .. => [.out, .limits, .rc, .pal, .margin, .vis, .nibs, .qps, .pcie, .ink]
  | .vfEnableClear .. | .pcieLinkDown .. => [.limits, .regs, .rc, .pal, .margin, .own, .vis, .nibs, .pcie, .ink, .cvis]
  | .nakReceived .. | .qpReset .. => [.limits, .regs, .rc, .pal, .margin, .own, .vis, .nibs, .qps, .ink, .cvis]
  | .configureEndpoint .. | .resume .. => [.out, .freeCtr, .limits, .rc, .pal, .margin, .vis, .eps, .qps, .pcie, .ink]
  | .addressDevice .. => [.out, .freeCtr, .limits, .rc, .pal, .margin, .vis, .nibs, .qps, .pcie, .ink]
  | .suspendPort .. => [.out, .limits, .rc, .pal, .margin, .vis, .eps, .nibs, .qps, .pcie, .ink]
  | .rootResetEnd .. => [.out, .limits, .rc, .pal, .margin, .vis, .nibs, .qps, .pcie, .ink, .cviews]
  | .stopEndpoint .. => [.out, .freeCtr, .limits, .rc, .pal, .margin, .vis, .eps, .nibs, .qps, .pcie, .ink]
  | .disableEndpoint .. | .bmeClear .. | .ackTimeout .. => [.out, .limits, .rc, .pal, .margin, .own, .vis, .eps, .nibs, .qps, .pcie, .ink]
  | .setAddressRecovery .. => [.out, .limits, .rc, .pal, .margin, .vis, .devices, .eps, .nibs, .qps, .pcie, .ink]
  | .resumeComplete .. | .babbleDetected .. => [.out, .limits, .rc, .pal, .margin, .vis, .eps, .nibs, .qps, .pcie, .ink, .cviews]
  | .ssU0Entry .. => [.out, .limits, .rc, .pal, .margin, .vis, .nibs, .qps, .pcie, .ink, .cviews, .cports]
  | .cmDreq .. => [.out, .limits, .regs, .rc, .pal, .margin, .own, .vis, .nibs, .qps, .ink, .cvis]
  | .flr .. => [.limits, .regs, .rc, .rubric, .trustBySpi, .pal, .margin, .own, .vis, .nibs, .pcie, .ink, .cvis]
  | .clearTtBufferDone .. | .blockGrant .. => [.out, .freeCtr, .limits, .rc, .pal, .margin, .own, .vis, .eps, .nibs, .qps, .pcie, .ink]
  | .resetPort .. | .resetPortWarm .. | .disableDevice .. => [.out, .limits, .rc, .pal, .margin, .own, .vis, .devices, .eps, .nibs, .qps, .pcie, .ink]
  | .handoverComplete .. | .orphanKeptEntry .. => [.out, .limits, .rc, .pal, .margin, .own, .vis, .eps, .nibs, .qps, .pcie, .ink, .ligs]
  | .usb2Disconnect .. | .ssLinkLost .. | .stuckProbe .. => [.out, .limits, .rc, .pal, .margin, .own, .vis, .devices, .eps, .nibs, .qps, .pcie, .ink, .cviews]
  | .keySetCommitted .. => [.out, .limits, .regs, .rc, .pal, .margin, .nor, .sealUnit, .own, .vis, .nibs, .qps, .ink, .cvis]
  | .viEnable .. | .viDisable .. => [.out, .limits, .regs, .rc, .pal, .margin, .own, .vis, .eps, .nibs, .qps, .pcie, .timelines, .ink]
  | .viBindWrite .. => [.out, .limits, .regs, .rc, .rubric, .pal, .margin, .own, .vis, .nibs, .qps, .timelines, .ink, .cvis]
  | .cmdDb .. | .evtDb .. | .leaseDb .. | .transferDb .. | .reservedDoorbell .. | .ringFetchComplete .. | .rdmaReadResponse ..
  | .dmaReadCompletion .. => [.out, .freeCtr, .limits, .rc, .pal, .margin, .modes, .own, .vis, .eps, .nibs, .qps, .pcie, .ink, .cvis]
  | .viConfigSend .. => [.out, .limits, .regs, .rc, .pal, .margin, .own, .vis, .eps, .nibs, .qps, .pcie, .timelines, .ink, .cvis]
  | .busTransaction .. | .turnaroundTimeout .. => [.out, .freeCtr, .limits, .rc, .pal, .margin, .own, .vis, .devices, .eps, .nibs, .qps, .pcie, .ink, .ligs, .func]
  | .roceDoorbellWrite .. => [.out, .freeCtr, .limits, .regs, .rc, .pal, .margin, .modes, .own, .vis, .eps, .nibs, .qps, .pcie, .ink, .cvis]
  | .shedWaitExpiry .. | .hardResetVbusOff .. | .reclaimTimer .. | .reclaimRestore .. | .clearLatch .. =>
    [.out, .limits, .rc, .pal, .margin, .power, .pd, .own, .vis, .devices, .eps, .nibs, .qps, .pcie, .ink, .cviews, .cports]
  | .linkLossHoldExpiry .. => [.out, .limits, .rc, .link, .pal, .margin, .power, .pd, .own, .vis, .devices, .eps, .nibs, .qps, .pcie, .ink, .cviews, .cports]
  | .d2dLinkRestored .. => [.out, .limits, .rc, .link, .pal, .margin, .blot, .power, .pd, .own, .vis, .devices, .eps, .nibs, .qps, .pcie, .ink, .cviews, .cports]
  | .thermalUpdate .. => [.out, .limits, .rc, .localEvents, .localLost, .pal, .margin, .power, .pd, .own, .vis, .devices, .eps, .nibs, .qps, .pcie, .ink, .cviews, .cports]
  | .fetClearCheckEnd .. => [.out, .limits, .rc, .pal, .margin, .blot, .input, .power, .pd, .own, .vis, .devices, .eps, .nibs, .qps, .pcie, .ink, .cviews, .cports]
  | .errorRecoveryEnd .. => [.out, .limits, .rc, .pal, .margin, .power, .pd, .own, .vis, .devices, .eps, .nibs, .qps, .pcie, .ink, .cvis, .cviews, .cports, .func]
  | .vauxFall .. =>
    [.out, .limits, .rc, .localEvents, .localLost, .pal, .margin, .vauxOk, .power, .pd, .own, .vis, .devices, .eps, .nibs, .qps, .pcie, .ink, .cviews, .cports]
  | .quarExit .. => [.out, .limits, .rc, .pal, .margin, .modes, .blot, .power, .pd, .own, .vis, .devices, .eps, .nibs, .qps, .pcie, .ink, .cvis, .cviews, .cports]
  | .earlyWarningClear .. => [.out, .limits, .rc, .pal, .margin, .modes, .input, .power, .pd, .own, .vis, .devices, .eps, .nibs, .qps, .pcie, .ink, .cvis, .cviews, .cports]
  | .standbyReached .. | .ccDetach .. =>
    [.out, .limits, .rc, .pal, .margin, .modes, .power, .pd, .own, .vis, .devices, .eps, .nibs, .qps, .pcie, .ink, .cvis, .cviews, .cports, .func]
  | .orphanOffEntry .. | .resettingComplete .. =>
    [.out, .limits, .rc, .pal, .margin, .power, .pd, .own, .vis, .devices, .eps, .nibs, .qps, .pcie, .ink, .cvis, .cviews, .cports, .ligs, .func]
  | .d2dLinkLost .. => [.out, .limits, .rc, .link, .pal, .margin, .modes, .blot, .power, .pd, .own, .vis, .devices, .eps, .nibs, .qps, .pcie, .ink, .cvis, .cviews, .cports]
  | .senderResponseTimeout .. | .hardResetReceived .. | .eprKeepaliveTimeout .. | .ppsTimeout .. | .cableIdentityAck .. | .pdHardReset ..
  | .pdErrorRecovery .. | .ccShortProbe .. | .ccOvervoltage .. | .ccFaultRetest .. | .vconnFault .. =>
    [.out, .limits, .rc, .localEvents, .localLost, .pal, .margin, .power, .pd, .own, .vis, .devices, .eps, .nibs, .qps, .pcie, .ink, .cvis, .cviews, .cports, .func]
  | .temperatureExceeded .. =>
    [.out, .limits, .rc, .pal, .margin, .clusters, .modes, .blot, .power, .pd, .own, .vis, .devices, .eps, .nibs, .qps, .pcie, .ink, .cvis, .cviews, .cports]
  | .portDecision .. | .transitionStart .. | .psRdySend .. =>
    [.out, .limits, .regs, .rc, .rubric, .pal, .margin, .power, .pd, .own, .vis, .devices, .eps, .nibs, .qps, .pcie, .ink, .cviews, .cports, .ligs, .func]
  | .bootEnd .. =>
    [.out, .freeCtr, .limits, .rc, .pal, .margin, .modes, .blot, .power, .pd, .own, .vis, .devices, .eps, .nibs, .qps, .pcie, .ink, .cvis, .cviews, .cports, .func]
  | .earlyWarning .. =>
    [.out, .limits, .rc, .localEvents, .localLost, .pal, .margin, .modes, .input, .power, .pd, .own, .vis, .devices, .eps, .nibs, .qps, .pcie, .ink, .cvis, .cviews, .cports]
  | .attachDebounceEnd .. =>
    [.out, .limits, .rc, .localEvents, .localLost, .pal, .margin, .modes, .sealUnit, .power, .pd, .own, .vis, .devices, .eps, .nibs, .qps, .pcie, .ink, .cvis, .cviews, .cports]
  | .watchdogExpiry .. =>
    [.out, .limits, .rc, .pal, .margin, .clusters, .engines, .modes, .blot, .power, .pd, .own, .vis, .devices, .eps, .nibs, .qps, .pcie, .ink, .cvis, .cviews, .cports, .func]
  | .passDeviceFault .. =>
    [.out, .freeCtr, .limits, .rc, .localEvents, .localLost, .pal, .margin, .modes, .blot, .input, .power, .pd, .own, .vis, .devices, .eps, .nibs, .qps, .pcie, .ink, .cvis, .cviews, .cports]
  | .seatRelease .. | .inrushTimerExpiry .. | .inputLoss .. | .breakerEval .. | .fastTrip .. =>
    [.out, .limits, .rc, .localEvents, .localLost, .pal, .margin, .modes, .img, .input, .power, .pd, .own, .vis, .devices, .eps, .nibs, .qps, .pcie, .ink, .cvis, .cviews, .cports, .func]
  | .drSwapAnswer .. | .drSwap .. | .goodcrcReceived .. | .goodcrcTimeout .. | .request .. | .eprRequest .. | .transitionBoundMissed ..
  | .getSourceCap .. | .softReset .. | .pdMessageUnexpected .. | .eprModeEnter .. | .eprModeExit .. | .eprKeepalive .. | .eprGetSourceCap ..
  | .getStatus .. | .getPpsStatus .. | .getSourceInfo .. | .getRevision .. | .getSourceCapExtended .. | .getManufacturerInfo ..
  | .unsupportedMessage .. | .ignoredMessage .. | .bist .. | .discoverIdentity .. | .structuredVdmNak .. =>
    [.out, .limits, .regs, .rc, .rubric, .localEvents, .localLost, .pal, .margin, .power, .pd, .own, .vis, .devices, .eps, .nibs, .qps, .pcie, .ink, .cvis, .cviews, .cports, .ligs, .func]
  | .modeStandby .. =>
    [.out, .freeCtr, .limits, .regs, .rc, .rubric, .pal, .margin, .modes, .img, .power, .pd, .own, .vis, .devices, .eps, .nibs, .qps, .eth, .pcie, .ink, .cvis, .cviews, .cports, .ligs, .func]
  | .gateVerifyDone .. =>
    [.out, .limits, .regs, .rc, .rubric, .pal, .margin, .modes, .nor, .blot, .sealUnit, .power, .pd, .own, .vis, .devices, .eps, .nibs, .qps, .eth, .pcie, .ink, .cvis, .cviews, .cports, .func]
  | .eccUncorrectable .. =>
    [.out, .limits, .regs, .rc, .pal, .margin, .clusters, .engines, .modes, .blot, .power, .pd, .own, .vis, .devices, .eps, .nibs, .qps, .prp, .pcie, .timelines, .ink, .cvis, .cviews, .cports, .ligs, .func]
  | .rubricCommit .. =>
    [.out, .freeCtr, .limits, .regs, .rc, .staged, .rubric, .pal, .margin, .disc, .power, .pd, .ptp, .own, .vis, .devices, .eps, .nibs, .qps, .eth, .pcie, .timelines, .ink, .cvis, .cviews, .cports, .ligs, .func]
  | .ufBoundary .. | .frBoundary .. | .pktBoundary .. | .pdIdlePoint .. =>
    [.out, .freeCtr, .limits, .regs, .rc, .writes, .rubric, .trustBySpi, .pal, .margin, .disc, .sealUnit, .power, .pd, .ptp, .own, .vis, .devices, .eps, .nibs, .qps, .eth, .pcie, .timelines, .ink, .cvis, .cviews, .cports, .ligs, .func]
  | .brkBoundary .. =>
    [.out, .freeCtr, .limits, .regs, .rc, .writes, .rubric, .trustBySpi, .pal, .margin, .disc, .sealUnit, .input, .power, .pd, .ptp, .own, .vis, .devices, .eps, .nibs, .qps, .eth, .pcie, .timelines, .ink, .cvis, .cviews, .cports, .ligs, .func]
  | .folioRailFail .. => Piece.allBut [.out, .freeCtr, .limits, .localEvents, .localLost, .nor, .input, .vauxOk]
  | .holdupFlushComplete .. | .parkedInputRestored .. | .folioResetRelease .. | .resetNPulse .. | .modeWake .. | .modeReboot ..
  | .standbyWakeAttach .. => Piece.allBut [.localEvents, .localLost, .vauxOk]
  | .spiWriteFrame .. | .barWrite .. | .registerWrite .. | .pfTrustWrite .. | .epochStageWrite .. | .funcWrite .. => Piece.allBut [.vauxOk]

end Sys2Proof.Safety
end

