-- ==== Sys2Proof/Certificates/Slice0/Obligations.lean ====
section
/-! DEFINITION. The statements for the provers. -/

open Sys2Proof Sys2Proof.Machine Sys2Proof.Safety

/-- A step takes the command at the front of the queue and runs it with the rest of the queue. -/
def Obligations.StepRunsTheFrontCommand : Prop :=
  ∀ (c : Instr) (rest : List Instr) (s : State), s.pending = c :: rest → step s = exec c { s with pending := rest }

/-- Every step answers a next state, which has one command fewer waiting and a time no earlier; with no command waiting the block idles and nothing changes. That it idles is the model's choice (assumption 1). -/
def Obligations.EveryStepAnswersANextState : Prop :=
  ∀ s : State, ∃ u, step s = .next u ∧ u.pending = s.pending.tail ∧ s.now ≤ u.now ∧ (s.pending = [] → u = s)

/-- Right after reset the block is Off: the input path in OFF with its gate off, Folio unpowered, every power path with its gate off, every port without an owner, no notice and no record held, MARGIN_STATUS 0, no command waiting, and every register of the map reads its reset value, a copy of an RC register zero. What the map gives as CFG or as a hyphen holds the value that assumptions 3 and 4 name. -/
def Obligations.ResetLeavesTheBlockOff : Prop :=
  State.reset.modes.mode = .off ∧ State.reset.input.state = .off ∧ State.reset.input.gateOn = false ∧ State.reset.folioOn = false ∧ State.reset.pending = [] ∧
  (∀ n, (State.reset.power.get n).gateOn = false ∧ (State.reset.own.get n).owner = .none) ∧ (∀ q, (State.reset.margin.queues.get q).notices = []) ∧
  State.reset.pal.ram = [] ∧ State.reset.margin.irqPending = false ∧ State.reset.margin.irqArmed = false ∧ State.reset.margin.lineHeld = false ∧
  (∀ a, reg State.reset a = mapReset a) ∧ (∀ p a, rcValue State.reset p a = 0) ∧ State.reset.pins = pinsOf State.reset

/-- The three properties that every step keeps hold right after reset. -/
def Obligations.ResetHoldsTheInvariants : Prop := CanonicalStores State.reset ∧ NoticesFit State.reset ∧ ModesInOrder State.reset

/-- Every step keeps the register store and both copies of the RC registers in canonical form, so that equal contents are equal data. -/
def Obligations.StepKeepsTheRegisterStoresCanonical : Prop := KeptByStep CanonicalStores

/-- Every step keeps every notice queue within its words (R261): what does not fit displaces or is discarded, never overflows. -/
def Obligations.StepKeepsTheNoticeQueuesWithinTheirWords : Prop := KeptByStep NoticesFit

/-- Every step keeps the mode unit in order: the mode follows the input path while Folio is unpowered and is Boot or later while it is powered, and each mode that ends in the one before it remembers one it may return to. -/
def Obligations.StepKeepsTheModesInOrder : Prop := KeptByStep ModesInOrder

/-- From a mode unit in order, a command that changes the mode changes it along a row of R384's table, and Return is entered only while RETURN_ARMED is 1 (R419). Two changes in one tick, as Boot ends under the early warning, count as the change from the first mode to the last. -/
def Obligations.ModesChangeOnlyByTheTable : Prop :=
  ∀ (c : Instr) (s u : State), ModesInOrder s → exec c s = .next u →
    (u.modes.mode = s.modes.mode ∨ u.modes.mode ∈ modesAfter s.modes.mode) ∧ (u.modes.mode = .ret → s.modes.mode = .ret ∨ s.sealUnit.armed = true)

/-- The Stroke counter (R341): it starts at 0 when power-on reset ends, and while Folio stays powered no command writes it, steps it or resets it: it advances by one for each tick that time advances. -/
def Obligations.StrokeCounterAdvancesWithTime : Prop :=
  (∀ t nor s u, s.folioOn = false → s.modes.mode = .inrush → exec (.folioResetRelease t nor) s = .next u → stroke u = 0) ∧
  (∀ (c : Instr) (s u : State), exec c s = .next u → s.folioOn = true → u.folioOn = true → s.strokeBase ≤ s.now →
    u.strokeBase = s.strokeBase ∧ stroke u = (stroke s + (u.now - s.now)) % 2 ^ 64)

/-- The Stroke and loop commands complete (R16, R352, R358, R360, R362): a resynchronisation copies the counter, a sample latches the counter and says whether PTP is locked, an update of the loop leaves each engine's requirement and, unless frozen, its chosen frequency, a quiet millisecond lowers an unfrozen cluster by one step and nothing else of it, a cap and its end reach every cluster of the region, and a step of a frozen lane holds its coefficients. -/
def Obligations.LoopCommandsComplete : Prop :=
  (∀ t s, s.folioOn = true → s.link.phase = .up → Completes (.strokeResync t) s fun u => u.resyncAt = stroke (begin t s) ∧ u.regs = s.regs) ∧
  (∀ t p s, s.folioOn = true → privileged s p = true →
    Completes (.timeSample t p) s fun u => u.disc.sampleStroke = stroke (begin t s) ∧ u.disc.sampleValid = s.ptp.locked ∧ u.pal = s.pal) ∧
  (∀ t c a0 a1 a2 a3 slack n s, s.folioOn = true → (s.clusters.get c).failed = false →
    Completes (.dvfsUpdate t c a0 a1 a2 a3 slack n) s fun u =>
      (u.clusters.get c).slack = min 100 slack ∧ (u.engines.get (engineOf c 0)).required = a0 % 64 ∧ (u.engines.get (engineOf c 3)).required = a3 % 64 ∧
      (dvfsFrozen s c = true → (u.clusters.get c).volt = (s.clusters.get c).volt ∧ ∀ e, (u.engines.get e).freq = (s.engines.get e).freq) ∧
      (dvfsFrozen s c = false → slack < 10 → (u.clusters.get c).volt = clampVolt ((s.clusters.get c).volt + 1))) ∧
  (∀ t c slack o temp s, s.folioOn = true → (s.clusters.get c).failed = false →
    Completes (.dvfsVoltageDown t c slack o temp) s fun u =>
      (u.clusters.get c).temp = temp ∧ u.engines = s.engines ∧
      (dvfsFrozen s c = false → (u.clusters.get c).volt = if 20 ≤ slack then clampVolt ((s.clusters.get c).volt - 1) else (s.clusters.get c).volt) ∧
      (dvfsFrozen s c = true → (u.clusters.get c).volt = if o then clampVolt ((s.clusters.get c).volt + 1) else (s.clusters.get c).volt)) ∧
  (∀ t q temp other s, s.folioOn = true → other + 480 < temp →
    Completes (.regionTempCap t q temp other) s fun u => ∀ c ∈ regionClusters q.val, (u.clusters.get c).capped = true) ∧
  (∀ t q temp s, s.folioOn = true →
    Completes (.regionTempUncap t q temp) s fun u => (∀ c ∈ regionClusters q.val, (u.clusters.get c).capped = false) ∧ u.engines = s.engines) ∧
  (∀ t l k up h w s, s.folioOn = true → (s.lanes.get l).adapting = true → eqFrozen s l = true →
    Completes (.eqAdaptStep t l k up h w) s fun u =>
      (u.lanes.get l).ctle = (s.lanes.get l).ctle ∧ (u.lanes.get l).taps = (s.lanes.get l).taps ∧ (u.lanes.get l).eyeHeight = h % 256 ∧ (u.lanes.get l).eyeWidth = w % 64)

/-- The commands of the card input complete where R314–R318 and R332 say they act: each takes the input path to the state of R315's table with its gate, its PG and its PFW_N, and leaves the port paths, the registers and the ownership of every port alone unless it is a loss of the input. PG, the early warning, VAUX and the sheds (R305, R318, R338, R431, R432): PG is released and driven low, the early warning sets and clears EW, the wait for a port's Alert ends, and VAUX is noted low and well again. -/
def Obligations.InputPathAndPowerGoodCommandsComplete : Prop :=
  (∀ t vin s, s.input.state = .off → 1800 < vin →
    Completes (.vinPreRise t vin) s fun u => u.input.state = .seating ∧ u.input.gateOn = s.input.gateOn ∧ u.power = s.power ∧ u.regs = s.regs) ∧
  (∀ t s, s.input.state ≠ .off → Completes (.vinPreCollapse t) s fun u => u.input = input0 ∧ u.vauxOk = false ∧ u.localEvents = [] ∧ u.own = s.own) ∧
  (∀ t vin s, s.input.state = .seating → s.input.fetFail = false → 3400 ≤ vin →
    Completes (.seatStable t vin) s fun u => u.input.state = .inrush ∧ u.input.gateOn = true ∧ u.input.retries = s.input.retries ∧ u.power = s.power) ∧
  (∀ t vin s, s.input.state = .seating → (s.input.fetFail = true ∨ vin < 3400) → Completes (.seatStable t vin) s fun u => u.input.state = .seating) ∧
  (∀ t b s, s.input.state = .seating → Completes (.seatRelease t b) s fun u => u.input.state = .seating ∧ u.input.since = max s.now t) ∧
  (∀ t b s, s.input.state = .inrush ∨ s.input.state = .on →
    Completes (.seatRelease t b) s fun u => u.input.state = .lost ∧ u.input.lossCause = 3 ∧ u.input.gateOn = false ∧ u.input.pfw = true) ∧
  (∀ t b s, s.input.state = .lost ∨ s.input.state = .retryWait ∨ s.input.state = .latched →
    Completes (.seatRelease t b) s fun u => u.input.state = .seating ∧ u.input.retries = 0 ∧ u.input.gateOn = false) ∧
  (∀ t vin vout s, s.input.state = .inrush → vin < vout + 50 →
    Completes (.inrushDone t vin vout) s fun u => u.input.state = .on ∧ u.input.gateOn = true ∧ u.input.pfw = false ∧ u.input.pg = s.input.pg ∧ u.power = s.power) ∧
  (∀ t s, s.input.state = .inrush → s.input.since + inTimer s * ticksMs 10 ≤ max s.now t →
    Completes (.inrushTimerExpiry t) s fun u => u.input.state = .retryWait ∧ u.input.lossCause = 7 ∧ u.input.gateOn = false ∧ u.input.pfw = true) ∧
  (∀ t k vin amps s, s.input.state = .inrush ∨ s.input.state = .on → lossReached k vin amps = true →
    Completes (.inputLoss t k vin amps) s fun u =>
      u.input.state = .lost ∧ u.input.lossCause = LossKind.cause k ∧ u.input.gateOn = false ∧ u.input.pfw = true ∧ u.regs = s.regs) ∧
  (∀ t vin s, s.input.state = .lost → seated s = true → s.input.fetFail = false → 3400 ≤ vin → vin ≤ 7700 →
    Completes (.inputReturn t vin) s fun u => u.input.state = .inrush ∧ u.input.gateOn = true ∧ u.input.retries = s.input.retries ∧ u.pal = s.pal) ∧
  (∀ t vin s, s.input.state = .retryWait → s.input.since + max (inTimer s * ticksMs 100) (ticksS 1) ≤ max s.now t → s.input.retries < inRetry s →
      seated s = true → 3400 ≤ vin → s.input.fetFail = false →
    Completes (.inputRetryWaitExpiry t vin) s fun u => u.input.state = .inrush ∧ u.input.retries = s.input.retries + 1) ∧
  (∀ t vin s, s.input.state = .retryWait → s.input.since + max (inTimer s * ticksMs 100) (ticksS 1) ≤ max s.now t → inRetry s ≤ s.input.retries →
    Completes (.inputRetryWaitExpiry t vin) s fun u => u.input.state = .latched ∧ u.input.retries = s.input.retries) ∧
  (∀ t s, s.input.state = .on → s.input.since + ticksS 60 ≤ max s.now t → Completes (.inputRetryClear t) s fun u => u.input = { s.input with retries := 0 }) ∧
  (∀ t p s, s.folioOn = true → privileged s p = true → s.input.state = .latched →
    Completes (.inClear t p) s fun u => u.input.state = .seating ∧ u.input.retries = 0 ∧ u.regs = s.regs) ∧
  (∀ t p s, s.folioOn = true → privileged s p = true → s.input.state ≠ .latched → Completes (.inClear t p) s fun u => u.input = s.input) ∧
  (∀ t p s, s.folioOn = true → privileged s p = true → s.input.fetFail = true → 3400 ≤ s.input.vinPre →
    Completes (.inClearFetFail t p) s fun u => u.input = { s.input with clear := .checking (max s.now t) }) ∧
  (∀ t vout s, s.input.state = .on → s.input.since + ticksMs 10 ≤ max s.now t → 3400 ≤ vout →
    Completes (.pgRelease t vout) s fun u => u.input = { s.input with pg := true, vout := vout } ∧ u.pins.pg = false ∧ u.power = s.power) ∧
  (∀ t vout s, s.input.pg = true → s.input.state ≠ .off → vout < pgFallV s →
    Completes (.pgFall t vout) s fun u => u.input = { s.input with pg := false, vout := vout } ∧ u.pins.pg = true ∧ u.power = s.power) ∧
  (∀ t vin s, s.input.state ≠ .off → s.input.ew = false → vin < ewV s → Completes (.earlyWarning t vin) s fun u => u.input.ew = true ∧ u.regs = s.regs) ∧
  (∀ t vin s, s.input.ew = true → ewV s + ewHyst s < vin → Completes (.earlyWarningClear t vin) s fun u => u.input.ew = false ∧ u.regs = s.regs) ∧
  (∀ t n s, s.folioOn = true → (s.pd.get n).alert ≠ .none → (s.pd.get n).alert ≠ .due → Completes (.shedWaitExpiry t n) s fun u => u.regs = s.regs ∧ u.input = s.input) ∧
  (∀ t s, s.vauxOk = true → Completes (.vauxFall t) s fun u => u.vauxOk = false ∧ u.regs = s.regs ∧ u.input = s.input) ∧
  (∀ t s, s.input.state ≠ .off → Completes (.vauxRecover t) s fun u => u.vauxOk = true ∧ u.power = s.power ∧ u.pd = s.pd)

/-- A port's switch-on, trim and current limit complete (R284, R322, R323, R328): the converter's window starts the checks, the checks end in the gate drive, the code moves one step towards its target within its bounds, and nothing of the PD side or of another port's path moves but VCONN at a switch-on. -/
def Obligations.SwitchOnCommandsComplete : Prop :=
  (∀ t n isp s, inWindow isp = true → (s.power.get n).step = .converter → (∀ x, (s.power.get n).clear ≠ .waiting x) → mayStart (begin t s) n = true →
    Completes (.converterReady t n isp) s fun u => (u.power.get n).step = .checks ∧ (u.power.get n).gateStart = max s.now t ∧ (u.power.get n).gateOn = (s.power.get n).gateOn ∧ u.pd = s.pd) ∧
  (∀ t n isp x s, inWindow isp = true → (s.power.get n).clear = .waiting x →
    Completes (.converterReady t n isp) s fun u => (u.power.get n).clear = .checking (max s.now t) ∧ u.pd = s.pd) ∧
  (∀ t n isp mid s, (s.power.get n).step = .checks → mayStart (begin t s) n = true → 2 * mid < isp →
    Completes (.preswitchCheckDone t n isp mid) s fun u => (u.power.get n).step = .ramp ∧ (u.power.get n).gateOn = true ∧ (u.power.get n).discharge = false ∧ u.regs = s.regs) ∧
  (∀ t n isp s, (s.power.get n).step = .checks → inWindow isp = true → mayStart (begin t s) n = true → (s.power.get n).gateStart + ticksMs 1 ≤ max s.now t →
    Completes (.vbusSwitchOn t n isp) s fun u => (u.power.get n).step = .ramp ∧ (u.power.get n).gateOn = true ∧ u.regs = s.regs ∧
      (vconnDue s n = true → (s.pd.get n).state = .startup → (u.pd.get n).vconnOn = true)) ∧
  (∀ t n isp s, (s.power.get n).phase = .on → explicitContract s n = true → (s.pd.get n).transitionStart = none → ferruleRuns s n = true →
    Completes (.vsetTrim t n isp) s fun u => u.pd = s.pd ∧ (u.power.get n).nominal = (s.power.get n).nominal ∧
      (isp = 20 * (s.power.get n).nominal → (u.power.get n).vset = (s.power.get n).vset) ∧
      (20 * (s.power.get n).nominal < isp → (u.power.get n).vset = max ((s.power.get n).nominal - 2 * (s.power.get n).nominal / 100) ((s.power.get n).vset - 1))) ∧
  (∀ t n amps s, (s.power.get n).gateOn = true → (s.pd.get n).contract.kind = 2 →
    Completes (.ppsCurrentLimitStep t n amps) s fun u => u.pd = s.pd ∧
      ((10 * (s.pd.get n).contract.ma10 + 150 : Int) < amps → (u.power.get n).vset = max 165 ((s.power.get n).vset - 1)) ∧
      (amps < (10 * (s.pd.get n).contract.ma10 + 150 : Int) → (u.power.get n).vset = min (s.power.get n).nominal ((s.power.get n).vset + 1)))

/-- The breakers and the temperature complete (R326, R327, R329, R330): a sample is taken with its voltages, a port that a fast trip finds on is off, an input fast trip leaves the input waiting for its retry, and a direct reading is held as the port's temperature. Pass-device faults and their clearing complete (R331, R332): a fault latches with the gate off, and a clear runs its window and its checks to a cleared or a standing fault. Retries and restorations complete (R333, R334, R337): the retry counter clears after its minute, a latch is cleared with its retries, a retry or a restoration goes back through the switch-on, and an increase is applied. -/
def Obligations.BreakerPassDeviceAndRetryCommandsComplete : Prop :=
  (∀ t n i v1 v2 v3 s, s.input.state ≠ .off → breakerDue ((samplePort (begin t s) n i v1 v2 v3).power.get n) = false →
    Completes (.breakerEval t (.port n) i v1 v2 v3) s fun u =>
      (u.power.get n).ampsMa = i ∧ (u.power.get n).vbusMv = v1 ∧ (u.power.get n).gateOn = (s.power.get n).gateOn ∧
      (u.power.get n).acc = integrate (begin t s) (.port n) (s.power.get n).acc (if (s.power.get n).gateOn then topBand (begin t s) (.port n) i else none) ∧ u.input = s.input) ∧
  (∀ t i v1 v2 v3 s, s.input.state ≠ .off → s.input.state ≠ .on →
    Completes (.breakerEval t .input i v1 v2 v3) s fun u => u.input.amps = i ∧ u.input.vinPre = v1 ∧ u.input.vout = v2 ∧ u.input.state = s.input.state ∧ u.power = s.power) ∧
  (∀ t n s, s.folioOn = false → (s.power.get n).gateOn = true →
    Completes (.fastTrip t (.port n)) s fun u => (u.power.get n).gateOn = false ∧ (u.power.get n).lastCause = 2 ∧ u.pd = s.pd ∧ u.input = s.input) ∧
  (∀ t s, s.input.state = .on → Completes (.fastTrip t .input) s fun u => u.input.state = .retryWait ∧ u.input.lossCause = 6 ∧ u.input.gateOn = false ∧ u.input.pfw = true) ∧
  (∀ t n reading m d s, s.folioOn = true → thermSource s n ≠ 0 → (s.power.get n).sensorFault = false → -880 ≤ reading → reading ≤ 3200 →
      (s.power.get n).gateOn = false →
    Completes (.thermalUpdate t n reading m d) s fun u => (u.power.get n).temp = reading ∧ (u.power.get n).deratePending = derateFor s n reading ∧ u.pd = s.pd) ∧
  (∀ t n c s, s.input.state ≠ .off → c.val < 3 → (s.power.get n).gateOn = false → (s.power.get n).fetFail = false → s.folioOn = false →
    Completes (.passDeviceFault t (.port n) c) s fun u =>
      (u.power.get n).fetFail = true ∧ (u.power.get n).lastCause = 4 ∧ (u.power.get n).enable = false ∧ (u.power.get n).vset = 0 ∧ u.blot.causeFet = true ∧ u.pins.fetFailN = true) ∧
  (∀ t c s, s.input.state ≠ .off → 3 ≤ c.val → s.input.gateOn = false → s.input.fetFail = false →
    Completes (.passDeviceFault t .input c) s fun u => u.input.fetFail = true ∧ u.input.gateOn = false ∧ u.pins.fetFailN = true) ∧
  (∀ t p n s, s.folioOn = true → privileged s p = true → (s.power.get n).fetFail = true →
    Completes (.clearFetFail t p n) s fun u => (u.power.get n).vset = 250 ∧ (u.power.get n).enable = true ∧ (u.power.get n).clear = .waiting (max s.now t) ∧ (u.power.get n).fetFail = true) ∧
  (∀ t n x s, (s.power.get n).clear = .waiting x → x + ticksMs 100 ≤ max s.now t →
    Completes (.fetClearWindowTimeout t n) s fun u => (u.power.get n).clear = .idle ∧ (u.power.get n).enable = false ∧ (u.power.get n).fetFail = (s.power.get n).fetFail) ∧
  (∀ t n x s, (s.power.get n).clear = .checking x → x + ticksMs 10 ≤ max s.now t →
    Completes (.fetClearCheckEnd t (.port n) true) s fun u => (u.power.get n).clear = .idle ∧ (u.power.get n).enable = false ∧ (u.power.get n).fetFail = (s.power.get n).fetFail) ∧
  (∀ t x s, s.input.clear = .checking x → x + ticksMs 10 ≤ max s.now t →
    Completes (.fetClearCheckEnd t .input false) s fun u => u.input = { s.input with clear := .idle, fetFail := false }) ∧
  (∀ t n s, s.folioOn = true → (s.power.get n).phase = .on → (s.power.get n).onSince + ticksS 60 ≤ max s.now t →
    Completes (.portRetryClear t n) s fun u => u.power.get n = { s.power.get n with retries := 0 } ∧ u.pd = s.pd) ∧
  (∀ t p n s, s.folioOn = true → privileged s p = true → (s.power.get n).latched = false →
    Completes (.clearLatch t p n) s fun u => (u.power.get n).latched = false ∧ (u.power.get n).retries = 0 ∧ u.pd = s.pd) ∧
  (∀ t n due s, (s.power.get n).retryDue = some due → due ≤ max s.now t → retryAllowed (begin t s) n = true →
    Completes (.portRetry t n) s fun u => u.input = s.input ∧ u.regs = s.regs ∧ (u.power.get n).shedOff = false) ∧
  (∀ t n s, ferruleRuns s n = true → Completes (.shareIncreaseApply t n) s fun u => u.own = s.own ∧ u.regs = s.regs) ∧
  (∀ t n s, (s.power.get n).shedOff = true → 10 ≤ (s.power.get n).share → (hardShed s n = false ∨ s.modes.mode ≠ .brownout) → waitsForVbus s n = true →
      (s.power.get n).latched = false → mayStart (begin t s) n = true → working s = true → ferruleRuns s n = true →
    Completes (.shedRestore t n) s fun u => (u.power.get n).shedOff = false ∧ u.regs = s.regs ∧ u.input = s.input)

/-- The die-to-die link completes its events (R16–R18): a good frame keeps it up and a bad one is asked for again, its first coming up empties Reservoir's buffer, its loss and its restoration move its state, its held switches go off after the hold, and Folio's rail leaves Folio off. The mode requests and the modes' own events complete (R384–R386, R393, R398–R400): where the mode admits a request, LAST_REQ and the mode follow the table; where it does not, the request is refused with code 2 and the mode stays. -/
def Obligations.LinkAndModeCommandsComplete : Prop :=
  (∀ t s, s.folioOn = true → s.modes.mode = .boot → s.link.phase ≠ .up →
    Completes (.d2dLinkFirstUp t) s fun u => u.link.phase = .up ∧ u.link.lastFrame = max s.now t ∧ u.localEvents = [] ∧ u.blot.causeLink = false ∧ u.regs = s.regs ∧ u.own = s.own) ∧
  (∀ t payload s, s.input.state ≠ .off → s.link.phase = .up → payload.length = 8 →
    Completes (.d2dFrame t payload (crc8 payload)) s fun u => u.link = { s.link with lastFrame := max s.now t } ∧ u.power = s.power ∧ u.out = []) ∧
  (∀ t payload crc s, s.input.state ≠ .off → s.link.phase = .up → payload.length = 8 → crc8 payload ≠ crc →
    Completes (.d2dFrame t payload crc) s fun u => u.link = s.link ∧ u.out = [.d2dRetry]) ∧
  (∀ t s, s.folioOn = true → s.modes.mode ≠ .standby → s.link.phase = .up → s.link.lastFrame + ticksUs 20 ≤ max s.now t →
    Completes (.d2dLinkLost t) s fun u => u.link.phase = .lost ∧ u.link.lostAt = max s.now t ∧ u.link.holding = true ∧ u.regs = s.regs ∧ u.input = s.input) ∧
  (∀ t s, s.link.holding = true → s.link.phase ≠ .up → s.link.lostAt + ticksMs 50 ≤ max s.now t →
    Completes (.linkLossHoldExpiry t) s fun u => u.link = { s.link with holding := false } ∧ u.regs = s.regs ∧ u.input = s.input) ∧
  (∀ t s, s.folioOn = true → s.link.phase = .lost →
    Completes (.d2dLinkRestored t) s fun u => u.link.phase = .up ∧ u.link.holding = false ∧ u.regs = s.regs ∧ u.input = s.input) ∧
  (∀ t s, s.folioOn = true → Completes (.folioRailFail t) s fun u => u.folioOn = false ∧ u.link.phase = .lost ∧ u.input = s.input ∧ u.vis = State.reset.vis) ∧
  (∀ t p s, s.folioOn = true → privileged s p = true → s.modes.mode = .standalone →
    Completes (.modeManaged t p) s fun u => u.modes.mode = .managed ∧ u.modes.prev = .standalone ∧ u.modes.lastReq = 1 ∧ u.power = s.power) ∧
  (∀ t p s, s.folioOn = true → privileged s p = true → s.modes.mode ≠ .standalone →
    Completes (.modeManaged t p) s fun u => u.modes = { s.modes with lastReq := 2 } ∧ u.own = s.own) ∧
  (∀ t p s, s.folioOn = true → privileged s p = true → (s.modes.mode = .standalone ∨ s.modes.mode = .managed) → wokenNow (begin t s) = false →
      (∀ c : Fin 5, (s.cvis.get c).exists_ = true → (s.cvis.get c).suspended = true) →
    Completes (.modeSuspend t p) s fun u => u.modes.suspending = true ∧ u.modes.mode = s.modes.mode ∧ u.regs = s.regs ∧ u.own = s.own) ∧
  (∀ t s, s.folioOn = true → s.modes.suspending = true → s.modes.mode ≠ .suspend →
      (∀ n : PortId, maskBit s.modes.selfSuspended n.val = true → ∀ x, (s.nibs.get n).susp ≠ .entering x) →
    Completes (.suspendReached t) s fun u => u.modes.mode = .suspend ∧ u.modes.beforeSuspend = s.modes.mode ∧ u.modes.lastReq = 1 ∧ u.modes.suspending = false ∧ u.own = s.own) ∧
  (∀ t p s, s.folioOn = true → privileged s p = true → (s.modes.mode = .standalone ∨ s.modes.mode = .managed ∨ s.modes.mode = .suspend) → wokenNow (begin t s) = false →
    Completes (.modeStandby t p) s fun u => u.modes.mode = .standby ∧ u.modes.standingBy = true ∧ u.input = s.input ∧ u.pal.flushing = true) ∧
  (∀ t s, s.folioOn = true → s.modes.mode = .standby → s.modes.standingBy = true → flushDone (begin t s) = true →
    Completes (.standbyReached t) s fun u => u.modes.standingBy = false ∧ u.modes.lastReq = 1 ∧ u.modes.mode = .standby ∧ u.input = s.input) ∧
  (∀ t p s, s.folioOn = true → privileged s p = true → s.modes.mode = .suspend → s.modes.suspending = false → s.modes.beforeSuspend ≠ .suspend →
    Completes (.modeWake t p) s fun u => u.modes.mode = s.modes.beforeSuspend ∧ u.modes.lastReq = 1 ∧ u.own = s.own)

/-- Every cause of a warm Boot completes (R384, R394, R396, R400, R440): Folio is in Boot, Stroke time runs on, the link stands as it did, the external NOR and the input path keep what they hold, and the state that faces Ethernet is as after reset; a flush with the input still away parks. Boot begins and ends (R387, R390): power-on reset starts a cold Boot with the Stroke counter at 0 and the link not yet up, and the end of Boot leaves the register values, the Rubric and the link as Boot made them, with the periods started. -/
def Obligations.BootCommandsComplete : Prop :=
  let booted := fun (s : State) (u : State) =>
    u.modes.mode = .boot ∧ u.folioOn = true ∧ u.strokeBase = s.strokeBase ∧ u.link = s.link ∧ u.prp = prp0 ∧ u.timelines = State.reset.timelines
  (∀ t p s, s.folioOn = true → privileged s p = true → s.modes.mode ≠ .ret → Completes (.modeReboot t p) s (booted s)) ∧
  (∀ t p s, s.folioOn = true → privileged s p = true → s.modes.mode = .standby → Completes (.modeWake t p) s (booted s)) ∧
  (∀ t nor s, s.folioOn = true → s.modes.mode ≠ .ret → Completes (.resetNPulse t nor) s fun u => booted s u ∧ u.nor = nor.getD s.nor) ∧
  (∀ t s, s.folioOn = true → s.modes.mode = .holdup → s.modes.parked = false → flushDone (begin t s) = true → inputBack s = true →
    Completes (.holdupFlushComplete t) s (booted s)) ∧
  (∀ t s, s.folioOn = true → s.modes.mode = .holdup → s.modes.parked = false → flushDone (begin t s) = true → inputBack s = false →
    Completes (.holdupFlushComplete t) s fun u => u.modes = { s.modes with parked := true } ∧ u.pal.flushing = false) ∧
  (∀ t s, s.folioOn = true → s.modes.mode = .holdup → s.modes.parked = true → inputBack s = true → Completes (.parkedInputRestored t) s (booted s)) ∧
  (∀ t n s, s.folioOn = true → s.modes.mode = .standby → s.modes.standingBy = false → standbyWake s n = true → (s.pd.get n).state = .attachWait →
      sinkPattern (s.pd.get n).cc1 (s.pd.get n).cc2 = true → (s.pd.get n).patternSince + ticksMs 150 ≤ max s.now t →
    Completes (.standbyWakeAttach t n) s (booted s)) ∧
  (∀ t nor s, s.folioOn = false → s.modes.mode = .inrush →
    Completes (.folioResetRelease t nor) s fun u => u.modes.mode = .boot ∧ u.folioOn = true ∧ u.strokeBase = max s.now t ∧ u.link = { s.link with phase := .notYetUp } ∧
      u.nor = nor.getD s.nor ∧ u.img = img0) ∧
  (∀ t s, bootReady s = true → Completes (.bootEnd t) s fun u => u.regs = s.regs ∧ u.rubric = s.rubric ∧ u.link = s.link ∧ u.folioOn = true ∧ u.input = s.input)

/-- The writing of an image completes (R382, R395): an open starts the erase of the slot not in use, the erase ends with the header programmed, words follow in order, a commit of an intact accepted body commits it with the next generation, and an abandoned write ends with RESULT 3. -/
def Obligations.ImageCommandsComplete : Prop :=
  (∀ t p s, s.folioOn = true → privileged s p = true → (s.modes.mode = .standalone ∨ s.modes.mode = .managed) → s.img.opened = false →
    Completes (.imgOpenFw t p) s fun u => u.img = { opened := true, busy := true, cfg := false, slotB := !s.modes.fwSlotB, result := 0, words := [], waiting := [] } ∧
      imgSlot u.nor false (!s.modes.fwSlotB) = .erased ∧ imgSlot u.nor false s.modes.fwSlotB = imgSlot s.nor false s.modes.fwSlotB) ∧
  (∀ t p s, s.folioOn = true → privileged s p = true → (s.modes.mode = .standalone ∨ s.modes.mode = .managed) → s.img.opened = false →
    Completes (.imgOpenCfg t p) s fun u => u.img = { opened := true, busy := true, cfg := true, slotB := !s.modes.cfgSlotB, result := 0, words := [], waiting := [] } ∧
      imgSlot u.nor true (!s.modes.cfgSlotB) = .erased ∧ imgSlot u.nor true s.modes.cfgSlotB = imgSlot s.nor true s.modes.cfgSlotB) ∧
  (∀ t p s, s.folioOn = true → privileged s p = true → s.img.opened = true →
    Completes (.imgOpenFw t p) s fun u => u.img = { s.img with result := 5 } ∧ u.nor = s.nor) ∧
  (∀ t s, s.folioOn = true → s.img.opened = true → s.img.busy = true → s.modes.mode ≠ .brownout →
    Completes (.imgEraseDone t true) s fun u => u.img = { s.img with busy := false, words := s.img.waiting, waiting := [] } ∧
      (imgSlot u.nor s.img.cfg s.img.slotB).body = s.img.waiting ∧ (imgSlot u.nor s.img.cfg s.img.slotB).eraseOk = true) ∧
  (∀ t s, s.folioOn = true → s.img.opened = true → s.img.busy = true → s.modes.mode ≠ .brownout →
    Completes (.imgEraseDone t false) s fun u => u.img.opened = false ∧ u.img.result = 4 ∧ u.nor = s.nor) ∧
  (∀ t p w s, s.folioOn = true → privileged s p = true → s.img.opened = true → s.img.busy = false →
    Completes (.imgDataWrite t p w) s fun u => u.img.words = s.img.words ++ [w] ∧ (imgSlot u.nor s.img.cfg s.img.slotB).body = (imgSlot s.nor s.img.cfg s.img.slotB).body ++ [w]) ∧
  (∀ t p w s, s.folioOn = true → privileged s p = true → s.img.opened = true → s.img.busy = true →
    Completes (.imgDataWrite t p w) s fun u => u.img.waiting = s.img.waiting ++ [w] ∧ u.img.words = s.img.words ∧ u.nor = s.nor) ∧
  (∀ t p v s, s.folioOn = true → privileged s p = true → s.img.opened = true → s.img.busy = false → v.intact = true → v.written = true →
      sealAccepts s s.img.cfg v.signed v.svn = true →
    Completes (.imgCommit t p v) s fun u => u.img.opened = false ∧ u.img.result = 1 ∧ (imgSlot u.nor s.img.cfg s.img.slotB).commit = true ∧
      (imgSlot u.nor s.img.cfg s.img.slotB).generation = (imgSlot s.nor s.img.cfg (!s.img.slotB)).generation + 1 ∧
      (imgSlot u.nor s.img.cfg s.img.slotB).body = s.img.words) ∧
  (∀ t p v s, s.folioOn = true → privileged s p = true → s.img.opened = true → s.img.busy = false → v.intact = false →
    Completes (.imgCommit t p v) s fun u => u.img.opened = false ∧ u.img.result = 2 ∧ u.nor = s.nor) ∧
  (∀ t p s, s.folioOn = true → privileged s p = true → s.img.opened = true → Completes (.imgAbandon t p) s fun u => u.img.opened = false ∧ u.img.result = 3 ∧ u.nor = s.nor)

/-- A configuration register whose writes are taken on a path: it is listed, its access is allowed, and the value is one the device takes. -/
abbrev takesWrite (s : State) (p : Path) (a : Nat) (r : RegRow) (v : Word) : Prop :=
  findRow a = some r ∧ r.acc = .rw ∧ pageVi a = none ∧ a ≠ 0x1024 ∧ denied s p a = false ∧ unreachedV s a = false ∧ writeAllowed a (v &&& r.mask) = true

/-- The frames of the SPI target complete (R36, R38, R40, R41, R45, R53): a read of a configuration register is answered with its value and leaves it, a write of an EPOCH register joins the staging set and is answered 0x5A, a failed CRC, an unknown first byte and a failed access get their tokens and change no register, and a frame broken off has no effect. The BAR accesses complete (R42, R43, R45): a read of a configuration register returns the lanes asked for, a full write of an EPOCH register joins the staging set, and a partial write changes no register and stages nothing. -/
def Obligations.SpiFramesAndBarAccessesComplete : Prop :=
  (∀ t a r s, s.folioOn = true → bootRefused s a.toNat = false → unreachedV s a.toNat = false → findRow a.toNat = some r → r.acc = .rw →
    Completes (.spiReadFrame t a) s fun u => u.out = [.spi (spiReadReply 0x5A a (regView (begin t s) a.toNat))] ∧ u.regs = s.regs ∧ u.rcSpi = (begin t s).rcSpi) ∧
  (∀ t a s, s.folioOn = true → bootRefused s a.toNat = true →
    Completes (.spiReadFrame t a) s fun u => u.out = [.spi (spiReadReply 0xA5 a 0xFFFFFFFF)] ∧ u.regs = s.regs) ∧
  (∀ t a v r s, s.folioOn = true → bootRefused s a.toNat = false → takesWrite s .spi a.toNat r v → r.applies = .epoch →
    Completes (.spiWriteFrame t a v (spiWriteCrc a v)) s fun u =>
      u.out = [.spi [0x5A]] ∧ u.staged = s.staged ++ [{ addr := a.toNat, value := v &&& r.mask, tick := max s.now t }] ∧ u.regs = s.regs) ∧
  (∀ t a v crc s, s.folioOn = true → crc ≠ spiWriteCrc a v →
    Completes (.spiWriteFrame t a v crc) s fun u => u.out = [.spi [0xC3]] ∧ u.regs = s.regs ∧ u.staged = s.staged ∧ u.writes = s.writes) ∧
  (∀ t b s, s.folioOn = true → b ≠ 0x3B → b ≠ 0xD2 → Completes (.spiUnknownCommand t b) s fun u => u.out = [.spi [0x3C]] ∧ u.regs = s.regs ∧ u.staged = s.staged) ∧
  (∀ t s, Completes (.spiCsRelease t) s fun u => u.out = [] ∧ u.regs = s.regs ∧ u.staged = s.staged ∧ u.writes = s.writes) ∧
  (∀ t a w s, s.folioOn = true →
    Completes (.accessTimeout t .spi a w) s fun u => u.out = [.spi (if w then [0xA5] else spiReadReply 0xA5 a 0xFFFFFFFF)] ∧ u.regs = s.regs ∧ u.writes = s.writes ∧ u.staged = s.staged) ∧
  (∀ t off lanes r s, barOpen s = true → windowOn s .bar0 = true → lanes ≠ 0 → findRow (off.toNat / 4 * 4) = some r → r.acc = .rw →
      denied s .pf (off.toNat / 4 * 4) = false → unreachedV s (off.toNat / 4 * 4) = false →
    Completes (.barRead t .bar0 off lanes) s fun u => u.out = [.barData (laneWord (regView (begin t s) (off.toNat / 4 * 4)) lanes)] ∧ u.regs = s.regs) ∧
  (∀ t off v r s, barOpen s = true → windowOn s .bar0 = true → takesWrite s .pf (off.toNat / 4 * 4) r v → r.applies = .epoch →
    Completes (.barWrite t .bar0 off v 15) s fun u =>
      u.staged = s.staged ++ [{ addr := off.toNat / 4 * 4, value := v &&& r.mask, tick := max s.now t }] ∧ u.regs = s.regs ∧ u.out = []) ∧
  (∀ t off v lanes s, barOpen s = true → windowOn s .bar0 = true → lanes ≠ 0 → lanes ≠ 15 →
    Completes (.barWrite t .bar0 off v lanes) s fun u => u.regs = s.regs ∧ u.staged = s.staged ∧ u.writes = s.writes)

/-- The boundaries complete (R8, R330, R447): each drops from the waiting writes those of its class and port that were accepted and taken in earlier ticks, and keeps the others; a BRK boundary also puts the latest derate factors in force. The Rubric commands complete (R56–R58, R60): a commit is refused while one is in progress and where the epoch expected is not the epoch in force, an accepted one takes from the staging set what earlier ticks staged, an abort empties it, the completion publishes the digest of the copied CRCs, and an update brings one domain's CRC up to date. -/
def Obligations.BoundaryAndRubricCommandsComplete : Prop :=
  let kept := fun (t : Nat) (s : State) (c : Applies) (n : Option PortId) =>
    s.writes.filter (fun w => !(writeOf c n w && decide (w.accepted < max s.now t) && decide (w.taken < max s.now t)))
  (∀ t n s, portDomainOn s = true → Completes (.ufBoundary t n) s fun u => u.writes = kept t s .uf (some n) ∧ u.staged = s.staged ∧ u.modes = s.modes) ∧
  (∀ t n s, portDomainOn s = true → (s.nibs.get n).busUf % 8 = 0 → Completes (.frBoundary t n) s fun u => u.writes = kept t s .fr (some n) ∧ u.staged = s.staged ∧ u.modes = s.modes) ∧
  (∀ t s, s.folioOn = true → stroke (begin t s) % 5 = 0 → s.writes = [] → s.rubric.busy = false →
    Completes (.brkBoundary t) s fun u => u.regs = s.regs ∧ ∀ n, (u.power.get n).derate = (s.power.get n).deratePending) ∧
  (∀ t s, s.folioOn = true → stroke (begin t s) % 5 = 0 → Completes (.brkBoundary t) s fun u => u.writes = kept t s .brk none ∧ u.staged = s.staged) ∧
  (∀ t e s, s.folioOn = true → s.modes.mode ≠ .holdup → s.modes.mode ≠ .standby →
    Completes (.pktBoundary t e) s fun u => u.writes = kept t s .pkt none ∧ u.staged = s.staged) ∧
  (∀ t n s, s.folioOn = true → pdIdle s n = true → Completes (.pdIdlePoint t n) s fun u => u.writes = kept t s .pdi (some n) ∧ u.staged = s.staged) ∧
  (∀ t p s, s.folioOn = true → privileged s p = true → s.rubric.busy = false → reg s 0x204 = s.rubric.epoch →
    Completes (.rubricCommit t p) s fun u => u.staged = s.staged.filter (fun w => !decide (w.tick < max s.now t)) ∧ u.writes = s.writes) ∧
  (∀ t p s, s.folioOn = true → privileged s p = true → s.rubric.busy = true →
    Completes (.rubricCommit t p) s fun u => u.rubric = { s.rubric with lastResult := 3 } ∧ u.staged = s.staged ∧ u.regs = s.regs) ∧
  (∀ t p s, s.folioOn = true → privileged s p = true → s.rubric.busy = false → reg s 0x204 ≠ s.rubric.epoch →
    Completes (.rubricCommit t p) s fun u => u.rubric = { s.rubric with lastResult := 2 } ∧ u.staged = s.staged ∧ u.regs = s.regs) ∧
  (∀ t p s, s.folioOn = true → privileged s p = true →
    Completes (.rubricAbort t p) s fun u => u.staged = [] ∧ u.rubric = { s.rubric with lastResult := 4 } ∧ u.regs = s.regs) ∧
  (∀ t s, rubricOn s = true → s.rubric.busy = true → s.rubric.classV = [] →
    Completes (.commitComplete t) s fun u => u.rubric.busy = false ∧ u.rubric.dirty = false ∧ u.rubric.lastResult = 1 ∧ u.rubric.committedCrc = u.rubric.domainCrc ∧
      u.rubric.digest = digestOf u.rubric.committedCrc ∧ u.rubric.epoch = s.rubric.epoch ∧ u.regs = s.regs) ∧
  (∀ t d s, rubricOn s = true →
    Completes (.domainCrcUpdate t d) s fun u => u.rubric.domainCrc.get d = domainCrcNow s d ∧ u.rubric.committedCrc = s.rubric.committedCrc ∧ u.regs = s.regs)

/-- Register writes and reads complete by class (R7, R44, R46, R48, R49, R52, R58): an EPOCH write joins the staging set, a buffered write waits for its boundary, a denied write changes no register, an RC read returns and clears the reader's copy alone, a read of a low word latches its high word, and PF_TRUST_CTRL remembers who wrote it. The Scribe function reads and writes registers without privilege (R244): the head request is answered, a write of a register that needs privilege is denied and stages nothing, a write of one that needs none, which is read-only, changes nothing, and a read leaves every register as it is. -/
def Obligations.RegisterAndFunctionAccessesComplete : Prop :=
  (∀ t p a v r s, s.folioOn = true → (p = .spi → bootRefused s a.toNat = false) → takesWrite s p a.toNat r v → r.applies = .epoch →
    Completes (.registerWrite t p a v) s fun u =>
      u.staged = s.staged ++ [{ addr := a.toNat, value := v &&& r.mask, tick := max s.now t }] ∧ u.regs = s.regs ∧ u.writes = s.writes) ∧
  (∀ t p a v r s, s.folioOn = true → (p = .spi → bootRefused s a.toNat = false) → takesWrite s p a.toNat r v → r.applies ≠ .epoch → r.applies ≠ .imm →
    Completes (.registerWrite t p a v) s fun u =>
      u.writes = s.writes ++ [{ addr := a.toNat, value := v &&& r.mask, accepted := max s.now t, taken := max s.now t }] ∧ u.regs = s.regs ∧ u.staged = s.staged) ∧
  (∀ t p a v s, s.folioOn = true → (p = .spi → bootRefused s a.toNat = false) → pageVi a.toNat = none → denied s p a.toNat = true →
    Completes (.registerWrite t p a v) s fun u => u.regs = s.regs ∧ u.writes = s.writes ∧ u.staged = s.staged) ∧
  (∀ t p a r v s, s.folioOn = true → privileged s p = true → takesWrite s p a.toNat r v → r.applies = .epoch →
    Completes (.epochStageWrite t p a v) s fun u => u.staged = s.staged ++ [{ addr := a.toNat, value := v &&& r.mask, tick := max s.now t }] ∧ u.regs = s.regs) ∧
  (∀ t p a r s, s.folioOn = true → findRow a.toNat = some r → r.acc = .rc → denied s p a.toNat = false → unreachedV s a.toNat = false →
      domainOff s a.toNat = false →
    Completes (.rcRead t p a) s fun u => u.out = [.regData p (rcValue (begin t s) p a.toNat)] ∧ u.rcSpi = (rcClear (begin t s) p a.toNat).rcSpi ∧
      u.rcPf = (rcClear (begin t s) p a.toNat).rcPf ∧ u.regs = s.regs) ∧
  (∀ t p a r s, s.folioOn = true → pairLow a.toNat = true → findRow a.toNat = some r → r.acc = .ro → denied s p a.toNat = false → domainOff s a.toNat = false →
    Completes (.pairLowRead t p a) s fun u => u.out = [.regData p (regView (begin t s) a.toNat)] ∧
      { path := p, addr := a.toNat + 4, value := regView (begin t s) (a.toNat + 4) : PairLatch } ∈ u.pairs ∧ u.regs = s.regs) ∧
  (∀ t p v s, s.folioOn = true → privileged s p = true → RegFile.wf mapReset s.regs = true →
    Completes (.pfTrustWrite t p v) s fun u => reg u 0x30 = v &&& 1 ∧ u.trustBySpi = (p == .spi) ∧ u.staged = s.staged) ∧
  (∀ t q rest s, s.func.queue = q :: rest → scribeRuns s = true → q.ok = true → q.op = 1 →
    Completes (.funcRead t) s fun u => u.regs = s.regs ∧ u.staged = s.staged ∧ u.writes = s.writes ∧ u.func.queue.length ≤ rest.length) ∧
  (∀ t q rest s, s.func.queue = q :: rest → scribeRuns s = true → q.ok = true → q.op = 2 → pageVi q.addr = none → denied s .scribe q.addr = true →
    Completes (.funcWrite t) s fun u => u.regs = s.regs ∧ u.staged = s.staged ∧ u.writes = s.writes ∧ u.func.queue.length ≤ rest.length) ∧
  (∀ t q rest r s, s.func.queue = q :: rest → scribeRuns s = true → q.ok = true → q.op = 2 → pageVi q.addr = none → findRow q.addr = some r → r.acc = .ro →
    denied s .scribe q.addr = false →
    Completes (.funcWrite t) s fun u => u.regs = s.regs ∧ u.staged = s.staged ∧ u.writes = s.writes ∧ u.rcSpi = (begin t s).rcSpi ∧ u.func.queue.length ≤ rest.length)

/-- The ownership commands complete (R65, R70, R72, R75, R77, R87–R89): an assignment and an expiry are stamped for the port, a decision leaves no event behind and gives the port the owner that the rules of R70 come to, raising GENERATION where it changed, and the transitions end in OWNED or in a state without an owner. -/
def Obligations.OwnershipCommandsComplete : Prop :=
  (∀ t p n v w s, s.folioOn = true → privileged s p = true → n.val ≠ 0 → bitOf v 31 = true → Owner.ofCode (fld v 0 7) = some w →
    Completes (.ownAssign t p n v) s fun u => (u.own.get n).events = (s.own.get n).events ++ [.assign w] ∧ (u.own.get n).owner = (s.own.get n).owner ∧ u.regs = s.regs) ∧
  (∀ t p n v s, s.folioOn = true → privileged s p = true → bitOf v 31 = false → Completes (.ownAssign t p n v) s fun u => u.own = s.own ∧ u.regs = s.regs) ∧
  (∀ t n v e s, s.folioOn = true → n.val ≠ 0 → (s.own.get n).owner = .ring v → (s.own.get n).expiry = some e → e ≤ max s.now t → .expiry v ∉ (s.own.get n).events →
    Completes (.leaseExpiry t n) s fun u => (u.own.get n).events = (s.own.get n).events ++ [.expiry v] ∧ (u.own.get n).owner = .ring v) ∧
  (∀ t n s, scribeRuns s = true → (s.own.get n).events ≠ [] → (s.own.get n).state = .service ∨ (s.own.get n).state = .barred →
    Completes (.portDecision t n) s fun u => (u.own.get n).events = [] ∧ (u.own.get n).owner = (s.own.get n).owner ∧ (u.own.get n).state = (s.own.get n).state) ∧
  (∀ t n s, scribeRuns s = true → (s.own.get n).events ≠ [] → (s.own.get n).state ≠ .service → (s.own.get n).state ≠ .barred →
    Completes (.portDecision t n) s fun u => u.own = (decidePort (begin t s) n).own ∧ u.vis = (decidePort (begin t s) n).vis) ∧
  (∀ t n v s, s.folioOn = true → (s.own.get n).state = .handover → (s.own.get n).owner = .ring v → (s.own.get n).decidedAt < max s.now t →
    Completes (.handoverComplete t n) s fun u => (u.own.get n).state = .owned ∧ (u.own.get n).owner = .ring v ∧ (u.own.get n).unsettled = false) ∧
  (∀ t n s, s.folioOn = true → (s.own.get n).state = .orphanKept → (s.own.get n).unsettled = true → (s.own.get n).decidedAt < max s.now t →
    Completes (.orphanKeptEntry t n) s fun u => u.own = (keepOrphan (settleOld (begin t s) n) n).own ∧ u.nibs = (keepOrphan (settleOld (begin t s) n) n).nibs) ∧
  (∀ t n s, s.folioOn = true → (s.own.get n).state = .orphanOff → (s.own.get n).unsettled = true → (s.own.get n).decidedAt < max s.now t →
    Completes (.orphanOffEntry t n) s fun u => u.own = (dropOrphan (settleOld (begin t s) n) n).own ∧ u.pd = (dropOrphan (settleOld (begin t s) n) n).pd ∧
      u.power = (dropOrphan (settleOld (begin t s) n) n).power) ∧
  (∀ t n b s, s.folioOn = true → (s.own.get n).state = .resetting → (s.own.get n).decidedAt < max s.now t → (s.nibs.get n).wait2 = false → (s.nibs.get n).waitS = false →
    Completes (.resettingComplete t n b) s fun u => u.own = (completeResetting (begin t s) n b).own ∧ u.nibs = (completeResetting (begin t s) n b).nibs ∧
      u.cviews = (completeResetting (begin t s) n b).cviews)

/-- VI_CTRL and configuration blocks complete (R96–R98, R148): ENABLE goes to 1 with positions and sequences afresh where the rings pass their check, to CFG_ERROR where they do not, and to 0 with the VI disabled; a block of 256 B is applied and acknowledged, and one of another length puts the slot into Error. -/
def Obligations.ViControlCommandsComplete : Prop :=
  (∀ t v w s, inkOn s = true → bitOf (viReg s v 0x100) 0 = false → bitOf w 0 = true → ringsOk (setPage (begin t s) v 0x100 (w &&& 7)) v = true →
    Completes (.viEnable t v w) s fun u => (u.vis.get v).enabled = true ∧ (u.vis.get v).nextSeq = 0 ∧ (u.vis.get v).cmdHead = 0 ∧ (u.vis.get v).evtTail = 0 ∧
      (u.vis.get v).evtLap = true ∧ (u.timelines.get v).start = max s.now t) ∧
  (∀ t v w s, inkOn s = true → bitOf (viReg s v 0x100) 0 = false → bitOf w 0 = true → ringsOk (setPage (begin t s) v 0x100 (w &&& 7)) v = false →
    Completes (.viEnable t v w) s fun u => (u.vis.get v).cfgError = true ∧ (u.vis.get v).enabled = (s.vis.get v).enabled ∧ u.own = s.own) ∧
  (∀ t v w s, inkOn s = true → bitOf (viReg s v 0x100) 0 = true → bitOf w 0 = false →
    Completes (.viDisable t v w) s fun u => (u.vis.get v).enabled = false ∧ (u.vis.get v).due = [] ∧ (u.vis.get v).cmds = []) ∧
  (∀ t q bs s, inkOn s = true → slotBound s q = true → (s.qps.get q).state = .ready → bs.length ≠ 256 →
    Completes (.viConfigSend t q bs) s fun u => (u.qps.get q).state = .error ∧ (u.qps.get q).cause = 3) ∧
  (∀ t q bs s, inkOn s = true → slotBound s q = true → (s.qps.get q).state = .ready → bs.length = 256 →
    Completes (.viConfigSend t q bs) s fun u => u.out.getLast? = some (.ack q) ∧ u.qps = (applyBlock (begin t s) (s.qps.get q).vi bs).qps)

/-- The doorbells and ring fetches complete (R73, R100–R102, R106): on a disabled VI and at a reserved offset a doorbell is counted as ignored; CMD_DB and EVT_DB move no port; LEASE_DB starts the leases of the ports named that the VI owns; TRANSFER_DB of a context that has no endpoint is ignored; and a failed fetch completes the slot with REMOTE_ACCESS_ERROR. -/
def Obligations.DoorbellCommandsComplete : Prop :=
  (∀ t v w s, inkOn s = true → (s.vis.get v).enabled = true →
    Completes (.cmdDb t v w) s fun u => u.vis = (cmdDb (begin t s) v w).vis ∧ u.out = (cmdDb (begin t s) v w).out ∧ u.own = s.own) ∧
  (∀ t v w s, inkOn s = true → (s.vis.get v).enabled = false →
    Completes (.cmdDb t v w) s fun u => (u.vis.get v).dbIgnored = (s.vis.get v).dbIgnored + 1 ∧ u.out = []) ∧
  (∀ t v w s, inkOn s = true → (s.vis.get v).enabled = true → evtSlots s v ≤ fld w 0 16 →
    Completes (.evtDb t v w) s fun u => (u.vis.get v).dbIgnored = (s.vis.get v).dbIgnored + 1 ∧ (u.vis.get v).evtUsed = (s.vis.get v).evtUsed) ∧
  (∀ t v w s, inkOn s = true → (s.vis.get v).enabled = true → fld w 0 16 < evtSlots s v →
    Completes (.evtDb t v w) s fun u => u.vis = (evtDb (begin t s) v w).vis ∧ u.out = (evtDb (begin t s) v w).out ∧ u.own = s.own) ∧
  (∀ t v w n e s, inkOn s = true → (s.vis.get v).enabled = true → n.val ≠ 0 → maskBit (fld w 0 16) n.val = true → (s.own.get n).owner = .ring v →
      (s.own.get n).expiry = some e → max s.now t < e →
    Completes (.leaseDb t v w) s fun u => (u.own.get n).expiry = some (max s.now t + 5000 * leasePeriod s v) ∧ (u.own.get n).owner = .ring v ∧ u.vis = s.vis) ∧
  (∀ t v i w s, inkOn s = true → findEp s (fld w 0 16) = none →
    Completes (.transferDb t v i w) s fun u => (u.vis.get v).dbIgnored = (s.vis.get v).dbIgnored + 1 ∧ u.eps = s.eps ∧ u.out = []) ∧
  (∀ t v i w e b s, inkOn s = true → (s.vis.get v).enabled = true → findEp s (fld w 0 16) = some e → e.bound = some b → bindHolder s e.port = .ring v →
      e.run ≠ .halted → b.dead = false →
    Completes (.transferDb t v i w) s fun u => u.eps = (transferDb (begin t s) v w).eps ∧ u.out = (transferDb (begin t s) v w).out ∧ u.vis = (transferDb (begin t s) v w).vis) ∧
  (∀ t v off s, inkOn s = true → 0x0C ≤ off → off < 0x40 →
    Completes (.reservedDoorbell t v off) s fun u => (u.vis.get v).dbIgnored = (s.vis.get v).dbIgnored + 1 ∧ u.out = []) ∧
  (∀ t v es s, inkOn s = true → (s.vis.get v).enabled = true → (s.vis.get v).unreachable = false → (s.vis.get v).cmdBusy = true →
    Completes (.ringFetchComplete t v .cmd es true) s fun u => u.vis = (fetchFailed (begin t s) v .cmd).vis ∧ u.freeCtr = s.freeCtr + 1 ∧ u.own = s.own) ∧
  (∀ t v bs s, inkOn s = true → (s.vis.get v).enabled = true → (s.vis.get v).unreachable = false → (s.vis.get v).cmdBusy = true → 0 < (s.vis.get v).cmdFetch →
      entryLap bs ≠ (s.vis.get v).cmdLap →
    Completes (.ringFetchComplete t v .cmd [bs] false) s fun u => (u.vis.get v).cmdFetch = 0 ∧ (u.vis.get v).cmds = (s.vis.get v).cmds ∧ (u.vis.get v).cmdHead = (s.vis.get v).cmdHead)

/-- A fetched command is the next of its ring to run, has a TYPE, and passes the checks every command passes: the rings are served, no RESYNC, the context it names exists, and it owns the port it refers to (R108–R110). -/
abbrev commandRuns (s : State) (v : RingId) (e : CmdEntry) (type : Nat) : Prop :=
  inkOn s = true ∧ firstStartable s v (s.vis.get v).cmds [] = some e ∧ e.type = type ∧ (s.vis.get v).resync = false ∧
    (ctxCmd e.type && (findEp s (argCtx e)).isNone) = false ∧ (needsOwner e.type && !((cmdPort s e).val != 0 && viOwns s v (cmdPort s e))) = false

/-- The commands about ports complete (R71–R73, R109, R167, R186): NOOP_CMD and RENEW_LEASE with SUCCESS, CLAIM and RELEASE with an event for the port's decision, RESET_PORT with the root reset it starts, SUSPEND_PORT with the suspension or the resume it starts, and each with PORT_GONE where no sink with VBUS is there. -/
def Obligations.PortRingCommandsComplete : Prop :=
  let m := fun (t : Nat) (s : State) (v : RingId) (e : CmdEntry) => markStarted (begin t s) v e.slot
  (∀ t v e s, commandRuns (begin t s) v e 0x20 → Completes (.noopCmd t v e.slot) s fun u => u.vis = (finishCmd (m t s v e) v e.slot ccSuccess 0 0).vis ∧ u.own = s.own) ∧
  (∀ t v e s, commandRuns (begin t s) v e 0x21 → (cmdPort (begin t s) e).val ≠ 0 →
    Completes (.claim t v e.slot) s fun u => (u.own.get (cmdPort (begin t s) e)).events = (s.own.get (cmdPort (begin t s) e)).events ++ [.claim (.ring v)]) ∧
  (∀ t v e s, commandRuns (begin t s) v e 0x22 →
    Completes (.release t v e.slot) s fun u => (u.own.get (cmdPort (begin t s) e)).events = (s.own.get (cmdPort (begin t s) e)).events ++ [.release (.ring v)]) ∧
  (∀ t v e s, commandRuns (begin t s) v e 0x23 →
    Completes (.renewLease t v e.slot) s fun u => u.own = (renewLeases (m t s v e) v (argF e 2 0 16)).1.own ∧
      u.vis = (finishCmd (renewLeases (m t s v e) v (argF e 2 0 16)).1 v e.slot ccSuccess (renewLeases (m t s v e) v (argF e 2 0 16)).2 0).vis) ∧
  (∀ t v e s, commandRuns (begin t s) v e 0x24 → argF e 2 8 1 = 0 → portLit s (cmdPort (begin t s) e) = true →
    Completes (.resetPort t v e.slot) s fun u => (u.nibs.get (cmdPort (begin t s) e)).resetCmd = some (v, e.slot) ∧ (u.nibs.get (cmdPort (begin t s) e)).resetAt = max s.now t ∧
      (u.nibs.get (cmdPort (begin t s) e)).wait2 = true) ∧
  (∀ t v e s, commandRuns (begin t s) v e 0x24 → argF e 2 8 1 = 1 → portLit s (cmdPort (begin t s) e) = true →
    Completes (.resetPortWarm t v e.slot) s fun u => (u.nibs.get (cmdPort (begin t s) e)).resetCmd = some (v, e.slot) ∧ (u.nibs.get (cmdPort (begin t s) e)).resetAt = max s.now t ∧
      (u.nibs.get (cmdPort (begin t s) e)).wait2 = true) ∧
  (∀ t v e s, commandRuns (begin t s) v e 0x24 → argF e 2 8 1 = 0 → portLit s (cmdPort (begin t s) e) = false →
    Completes (.resetPort t v e.slot) s fun u => u.vis = (finishCmd (m t s v e) v e.slot ccPortGone 0 (cmdPort (begin t s) e)).vis ∧ u.nibs = s.nibs) ∧
  (∀ t n c s, s.folioOn = true → (s.nibs.get n).resetCmd = some c → (s.nibs.get n).resetAt + ticksMs 500 ≤ max s.now t →
    Completes (.resetPortTimeout t n) s fun u => (u.nibs.get n).resetCmd = none ∧ (u.nibs.get n).wait2 = false ∧ (u.nibs.get n).waitS = false) ∧
  (∀ t v e s, commandRuns (begin t s) v e 0x25 → argF e 2 8 1 = 0 → portLit s (cmdPort (begin t s) e) = true → treeThere (s.nibs.get (cmdPort (begin t s) e)) = true →
      (s.nibs.get (cmdPort (begin t s) e)).susp = .suspended →
    Completes (.suspendPort t v e.slot) s fun u => u.vis = (finishCmd (m t s v e) v e.slot ccSuccess 0 (cmdPort (begin t s) e)).vis ∧ u.nibs = s.nibs) ∧
  (∀ t v e s, commandRuns (begin t s) v e 0x25 → argF e 2 8 1 = 0 → portLit s (cmdPort (begin t s) e) = true → treeThere (s.nibs.get (cmdPort (begin t s) e)) = true →
      (s.nibs.get (cmdPort (begin t s) e)).susp = .awake →
    Completes (.suspendPort t v e.slot) s fun u => (u.nibs.get (cmdPort (begin t s) e)).suspCmd = some (v, e.slot) ∧
      (u.nibs.get (cmdPort (begin t s) e)).susp = .entering (max s.now t)) ∧
  (∀ t v e s, commandRuns (begin t s) v e 0x25 → argF e 2 8 1 = 1 → portLit s (cmdPort (begin t s) e) = true → treeThere (s.nibs.get (cmdPort (begin t s) e)) = true →
      (s.nibs.get (cmdPort (begin t s) e)).susp = .awake →
    Completes (.resumePort t v e.slot) s fun u => u.vis = (finishCmd (m t s v e) v e.slot ccSuccess 0 (cmdPort (begin t s) e)).vis ∧ u.nibs = s.nibs) ∧
  (∀ t v e s, commandRuns (begin t s) v e 0x25 → argF e 2 8 1 = 1 → portLit s (cmdPort (begin t s) e) = true → treeThere (s.nibs.get (cmdPort (begin t s) e)) = true →
      (s.nibs.get (cmdPort (begin t s) e)).susp = .suspended →
    Completes (.resumePort t v e.slot) s fun u => (u.nibs.get (cmdPort (begin t s) e)).suspCmd = some (v, e.slot) ∧
      (u.nibs.get (cmdPort (begin t s) e)).susp = .resumeK (max s.now t)) ∧
  (∀ t n b since s, s.folioOn = true → (s.nibs.get n).susp = .entering since → since + ticksMs 10 ≤ max s.now t →
    Completes (.suspendComplete t n b) s fun u => (u.nibs.get n).susp = .suspended ∧ (u.nibs.get n).suspCmd = none) ∧
  (∀ t n since s, s.folioOn = true → (s.nibs.get n).susp = .resumeK since → since + ticksMs 20 ≤ max s.now t →
    Completes (.resumeSignalEnd t n) s fun u => (u.nibs.get n).susp = .resuming (max s.now t) ∧
      u.out = (if (s.nibs.get n).connect then [.line n .eop, .line n .sofStart] else [])) ∧
  (∀ t n since s, s.folioOn = true → (s.nibs.get n).susp = .resuming since → since + ticksMs 10 ≤ max s.now t → (s.nibs.get n).suspNext = none →
    Completes (.resumeComplete t n) s fun u => (u.nibs.get n).susp = .awake ∧ (u.nibs.get n).suspCmd = none ∧ (u.nibs.get n).waking = false)

/-- The commands about devices complete (R109, R171): ADDRESS_DEVICE sends SET_ADDRESS with the first free address and completes 2 ms later with the device recorded, its wrong parameters and a lack of addresses are answered by code, and DISABLE_DEVICE releases the device or answers that it is unknown. -/
def Obligations.DeviceRingCommandsComplete : Prop :=
  let m := fun (t : Nat) (s : State) (v : RingId) (e : CmdEntry) => markStarted (begin t s) v e.slot
  (∀ t v e d a c s, commandRuns (begin t s) v e 0x26 → portLit s (cmdPort (begin t s) e) = true → addressRecord (m t s v e) e (cmdPort (begin t s) e) = some d →
      freeAddr (m t s v e) (cmdPort (begin t s) e) = some a → (allocCtx (m t s v e)).2 = some c →
    Completes (.addressDevice t v e.slot) s fun u => u.out = [.control (cmdPort (begin t s) e) 0 (setAddressSetup a)] ∧ u.freeCtr = s.freeCtr + 1 ∧
      ((u.nibs.get (cmdPort (begin t s) e)).addressing.map (fun x => (x.v, x.slot, x.device.addr, x.ctx))) = some (v, e.slot, a, c) ∧ u.devices = s.devices) ∧
  (∀ t v e s, commandRuns (begin t s) v e 0x26 → portLit s (cmdPort (begin t s) e) = true → addressRecord (m t s v e) e (cmdPort (begin t s) e) = none →
    Completes (.addressDevice t v e.slot) s fun u => u.vis = (finishCmd (m t s v e) v e.slot ccParam 0 (cmdPort (begin t s) e)).vis ∧ u.devices = s.devices ∧ u.nibs = s.nibs) ∧
  (∀ t n a r s, s.folioOn = true → (s.nibs.get n).addressing = some a → a.recoverAt = some r → r + ticksMs 2 ≤ max s.now t →
    Completes (.setAddressRecovery t n) s fun u => u.devices = s.devices ++ [a.device] ∧ (u.nibs.get n).addressing = none ∧ (u.nibs.get n).lastAddr = a.device.addr) ∧
  (∀ t v e s, commandRuns (begin t s) v e 0x27 → (portDevices s (cmdPort (begin t s) e)).any (fun d => d.addr == argF e 2 0 7) = false →
    Completes (.disableDevice t v e.slot) s fun u => u.vis = (finishCmd (m t s v e) v e.slot ccUnknown 0 (cmdPort (begin t s) e)).vis ∧ u.devices = s.devices ∧ u.eps = s.eps) ∧
  (∀ t v e s, commandRuns (begin t s) v e 0x27 → (portDevices s (cmdPort (begin t s) e)).any (fun d => d.addr == argF e 2 0 7) = true →
    Completes (.disableDevice t v e.slot) s fun u => ∀ d ∈ u.devices, ¬ (d.port = cmdPort (begin t s) e ∧ d.addr = argF e 2 0 7))

/-- The commands about endpoints complete (R109, R111, R120, R206): CONFIGURE_ENDPOINT adds a bulk context that is stopped and unbound, BIND_ENDPOINT_RING binds a stopped context to a ring whose parameters pass, STOP_ENDPOINT waits for a transaction on the wire, RESET_ENDPOINT stops a halted one with its toggle at 0, DISABLE_ENDPOINT releases the context, and read-ahead is set, refused with its reason, and cleared. The queries and the replay commands complete (R109, R123, R124): QUERY_PORT with BUFFER_TOO_SMALL where the snapshot does not fit, QUERY_VI with the page's status part written, REPLAY with the code and the count of R123, and RESUME with the event position it gives, or INVALID_PARAMETER for a sequence number outside the replay range. -/
def Obligations.EndpointAndQueryRingCommandsComplete : Prop :=
  let m := fun (t : Nat) (s : State) (v : RingId) (e : CmdEntry) => markStarted (begin t s) v e.slot
  (∀ t v e c s, commandRuns (begin t s) v e 0x28 → tileOn s (cmdPort (begin t s) e) 2 = true → argEpOk s (argEp e (cmdPort (begin t s) e)) = true →
      (portDevices s (cmdPort (begin t s) e)).any (fun d => d.addr == argF e 2 0 7) = true → argF e 2 24 2 = 2 → (allocCtx (m t s v e)).2 = some c →
    Completes (.configureEndpoint t v e.slot) s fun u => u.eps = s.eps ++ [{ argEp e (cmdPort (begin t s) e) with ctx := c }] ∧ u.freeCtr = s.freeCtr + 1) ∧
  (∀ t v e s, commandRuns (begin t s) v e 0x28 → tileOn s (cmdPort (begin t s) e) 2 = true → argEpOk s (argEp e (cmdPort (begin t s) e)) = false →
    Completes (.configureEndpoint t v e.slot) s fun u => u.eps = s.eps ∧ u.vis = (finishCmd (m t s v e) v e.slot ccParam 0 (cmdPort (begin t s) e)).vis) ∧
  (∀ t v e y s, commandRuns (begin t s) v e 0x29 → 4 ≤ argF e 2 16 5 → argF e 2 16 5 ≤ 16 → argBuf e % 64 = 0 → argF e 3 0 16 < 2 ^ argF e 2 16 5 →
      reaches s v (argBuf e) (32 * 2 ^ argF e 2 16 5) = true → findEp s (argCtx e) = some y → y.run ≠ .running →
    Completes (.bindEndpointRing t v e.slot) s fun u => (findEp u (argCtx e)).map (fun z => (z.bound, z.run)) =
      some (some { base := argBuf e, log2 := argF e 2 16 5, index := argF e 3 0 16, lap := argF e 3 16 1 == 1, dead := false }, y.run)) ∧
  (∀ t v e y s, commandRuns (begin t s) v e 0x2A → findEp s (argCtx e) = some y → y.queue ≠ [] → epRuns y = true →
    Completes (.stopEndpoint t v e.slot true) s fun u => (findEp u (argCtx e)).map (fun z => z.stopping) = some (some (v, e.slot))) ∧
  (∀ t v e s, commandRuns (begin t s) v e 0x2A →
    Completes (.stopEndpoint t v e.slot false) s fun u => u.eps = (stopNow (m t s v e) v e.slot (argCtx e) (cmdPort (begin t s) e)).eps ∧
      u.vis = (stopNow (m t s v e) v e.slot (argCtx e) (cmdPort (begin t s) e)).vis) ∧
  (∀ t v e y s, commandRuns (begin t s) v e 0x2B → findEp s (argCtx e) = some y → y.run = .halted →
    Completes (.resetEndpoint t v e.slot) s fun u => (findEp u (argCtx e)).map (fun z => (z.run, z.toggle)) = some (.stopped, 0)) ∧
  (∀ t v e y s, commandRuns (begin t s) v e 0x2B → findEp s (argCtx e) = some y → y.run ≠ .halted →
    Completes (.resetEndpoint t v e.slot) s fun u => (findEp u (argCtx e)) = some y) ∧
  (∀ t v e s, commandRuns (begin t s) v e 0x2C → Completes (.disableEndpoint t v e.slot) s fun u => findEp u (argCtx e) = none) ∧
  (∀ t v e y s, commandRuns (begin t s) v e 0x2D → argF e 2 16 1 = 1 → readAheadReason (m t s v e) v e = 0 → findEp s (argCtx e) = some y →
    Completes (.setReadAhead t v e.slot) s fun u => (findEp u (argCtx e)).map (fun z => (z.ra, z.raCredit)) = some (true, argF e 3 0 11)) ∧
  (∀ t v e s, commandRuns (begin t s) v e 0x2D → argF e 2 16 1 = 1 → readAheadReason (m t s v e) v e ≠ 0 →
    Completes (.setReadAhead t v e.slot) s fun u => u.eps = s.eps ∧
      u.vis = (finishCmd (m t s v e) v e.slot ccReadAhead (readAheadReason (m t s v e) v e) (cmdPort (begin t s) e)).vis) ∧
  (∀ t v e y s, commandRuns (begin t s) v e 0x2D → argF e 2 16 1 = 0 → findEp s (argCtx e) = some y →
    Completes (.readAheadOff t v e.slot) s fun u => (findEp u (argCtx e)).map (fun z => (z.ra, z.stash)) = some (false, y.stash)) ∧
  let m := fun (t : Nat) (s : State) (v : RingId) (e : CmdEntry) => markStarted (begin t s) v e.slot
  (∀ t v e s, commandRuns (begin t s) v e 0x2E → (argW e 3).toNat < 64 →
    Completes (.queryPort t v e.slot) s fun u => u.own = s.own ∧ u.eps = s.eps ∧ ∃ len, 64 ≤ len ∧
      u.vis = (finishCmd (m t s v e) v e.slot ccTooSmall len (cmdPort (begin t s) e)).vis) ∧
  (∀ t v e s, commandRuns (begin t s) v e 0x2F → reaches s v (argBuf e) 256 = true →
    Completes (.queryVi t v e.slot) s fun u => u.own = s.own ∧ u.eps = s.eps ∧ ∃ bytes : List Byte, bytes.length = 256 ∧
      u.vis = (finishCmd (hostWrite (m t s v e) v (argBuf e) bytes) v e.slot ccSuccess 0 0).vis) ∧
  (∀ t v e s, commandRuns (begin t s) v e 0x2F → reaches s v (argBuf e) 256 = false →
    Completes (.queryVi t v e.slot) s fun u => u.own = s.own ∧ u.vis = (finishCmd (m t s v e) v e.slot ccRemote 0 0).vis) ∧
  (∀ t v e s, commandRuns (begin t s) v e 0x30 →
    Completes (.replay t v e.slot) s fun u => u.own = s.own ∧ u.vis = (finishCmd (replayAll (earlierNotices (m t s v e) v) v (replayPlan (m t s v e) v (argW e 2).toNat).2.2) v e.slot
      (replayPlan (m t s v e) v (argW e 2).toNat).1 (replayPlan (m t s v e) v (argW e 2).toNat).2.1 0).vis) ∧
  (∀ t v e s, inkOn s = true → firstStartable (begin t s) v (s.vis.get v).cmds [] = some e → e.type = 0x31 → evtSlots s v ≤ argF e 3 0 16 →
    Completes (.resume t v e.slot) s fun u => u.vis = (finishCmd (m t s v e) v e.slot ccParam 0 0).vis ∧ u.own = s.own) ∧
  (∀ t v e s, inkOn s = true → firstStartable (begin t s) v (s.vis.get v).cmds [] = some e → e.type = 0x31 → argF e 3 0 16 < evtSlots s v →
      (replayPlan (m t s v e) v (((argW e 2).toNat + 1) % 2 ^ 32)).1 ≠ ccParam →
    Completes (.resume t v e.slot) s fun u => u.own = s.own ∧
      u.vis = (endResync (finishCmd (replayAll (setVi (m t s v e) v (fun x => { x with evtTail := argF e 3 0 16, evtLap := argF e 3 16 1 == 1, evtUsed := 0, evtFull := false, due := [] })) v
        (replayPlan (m t s v e) v (((argW e 2).toNat + 1) % 2 ^ 32)).2.2) v e.slot (replayPlan (m t s v e) v (((argW e 2).toNat + 1) % 2 ^ 32)).1
        (replayPlan (m t s v e) v (((argW e 2).toNat + 1) % 2 ^ 32)).2.1 0) v).vis)

/-- Transactions and data arrivals complete (R118, R131, R140, R168, R175, R200, R207): a transaction on a running bus does to its endpoint, its preview or its SET_ADDRESS what its result asks, a turnaround limit counts as an error, a preview ends at its limit, an old endpoint is promoted, and read data goes to what it was read for. -/
def Obligations.BusTransactionsComplete : Prop :=
  (∀ t n ctx e r s, inkOn s = true → nibServes s n (.ep ctx) = true → findEp s ctx = some e → e.port = n → busRuns s n (epSs s e) = true →
    Completes (.busTransaction t n (.ep ctx) r) s fun u => u.eps = (epXact (begin t s) e r).eps ∧ u.vis = (epXact (begin t s) e r).vis ∧ u.out = (epXact (begin t s) e r).out) ∧
  (∀ t n a s, inkOn s = true → tileOn s n 0 = true → (s.nibs.get n).addressing = some a → a.recoverAt = none →
    Completes (.busTransaction t n .addressing .ack) s fun u => (u.nibs.get n).addressing = some { a with recoverAt := some (max s.now t) }) ∧
  (∀ t n p s, inkOn s = true → tileOn s n 0 = true → (s.nibs.get n).preview = some p → busRuns s n p.ss = true →
    Completes (.busTransaction t n .preview .stall) s fun u => (u.nibs.get n).preview = none) ∧
  (∀ t n ctx e s, inkOn s = true → nibServes s n (.ep ctx) = true → findEp s ctx = some e → e.port = n → busRuns s n (epSs s e) = true →
    Completes (.turnaroundTimeout t n (.ep ctx)) s fun u => u.eps = (epXact (begin t s) e .error).eps ∧ u.rcSpi = (epXact (begin t s) e .error).rcSpi) ∧
  (∀ t n p s, inkOn s = true → (s.nibs.get n).preview = some p → p.since + ticksMs 500 ≤ max s.now t →
    Completes (.previewTimeLimit t n) s fun u => (u.nibs.get n).preview = none) ∧
  (∀ t ctx e v s, inkOn s = true → findEp s ctx = some e → ringOwner s e.port = some v → eligible s e = true → ticksMs (viAgeMs s v) ≤ epAge (begin t s) e →
    Completes (.endpointPromotion t ctx) s fun u => (findEp u ctx).map (fun y => y.promoted) = some true) ∧
  (∀ t v q what data s, inkOn s = true → viRoce s v = true → (s.vis.get v).qp = some q → (s.qps.get q).state = .ready →
    Completes (.rdmaReadResponse t v what data) s fun u => u.eps = (readArrived (begin t s) v what data false).eps ∧ u.vis = (readArrived (begin t s) v what data false).vis) ∧
  (∀ t v what data s, inkOn s = true → viKind s v = 1 → s.pcie.link = true →
    Completes (.dmaReadCompletion t v what data false) s fun u => u.eps = (readArrived (begin t s) v what data false).eps ∧ u.vis = (readArrived (begin t s) v what data false).vis) ∧
  (∀ t v ctx data s, inkOn s = true → viKind s v = 1 → s.pcie.link = true → findEp s ctx = none →
    Completes (.dmaReadCompletion t v (.outData ctx) data true) s fun u => u.rcPf = (rcCount (begin t s) 0x90030 0).rcPf ∧ u.eps = s.eps) ∧
  (∀ t ctx e x i s, inkOn s = true → findEp s ctx = some e → e.type = 1 → epIn e = false → epRuns e = true → e.queue = [x] → x.asked = 0 → x.interval = some i →
      ufTick s x.v i ≤ max s.now t + ticksUs (e.lead + e.jitter) →
    Completes (.isochDataFetch t ctx) s fun u => u.eps = (askOut (begin t s) ctx x).eps ∧ u.out = (askOut (begin t s) ctx x).out) ∧
  (∀ t v s, s.folioOn = true → Completes (.freeRunSet t v) s fun u => (u.timelines.get v).state = .freeRun)

/-- The root port's connections and resets complete (R164–R167, R191): a debounced connection counts an attachment and is brought up, receiver detection starts training, U0 and its timeout settle the SuperSpeed path, chirps and times take the USB 2.0 reset through its steps, and a disconnect or a lost link ends its path. -/
def Obligations.RootPortCommandsComplete : Prop :=
  (∀ t n low s, s.folioOn = true → n.val ≠ 0 → sinkAttached s n = true → vbusOn s n = true → (s.nibs.get n).connect = false →
      (s.nibs.get n).phase2 = .idle ∨ (s.nibs.get n).phase2 = .disabled →
    Completes (.usb2ConnectDebounced t n low) s fun u => (u.nibs.get n).connect = true ∧ (u.nibs.get n).speed2 = (if low then 1 else 2) ∧
      (u.nibs.get n).attachCount = ((s.nibs.get n).attachCount + 1) % 65536) ∧
  (∀ t n gen2 s, s.folioOn = true → n.val ≠ 0 → 4 ≤ maxSpeed s n → sinkAttached s n = true → vbusOn s n = true → pathsHeld s n = false →
      (s.nibs.get n).phaseS = .off ∨ (s.nibs.get n).phaseS = .detect →
    Completes (.receiverDetect t n true gen2) s fun u => (u.nibs.get n).phaseS = .training (max s.now t) ∧
      (u.nibs.get n).speedS = (if gen2 && maxSpeed s n == 5 then 5 else 4)) ∧
  (∀ t n gen2 s, s.folioOn = true → n.val ≠ 0 → 4 ≤ maxSpeed s n → sinkAttached s n = true → vbusOn s n = true → pathsHeld s n = false →
      (s.nibs.get n).phaseS = .off ∨ (s.nibs.get n).phaseS = .detect →
    Completes (.receiverDetect t n false gen2) s fun u => (u.nibs.get n).phaseS = .detect ∧ u.out = [.line n .receiverDetect]) ∧
  (∀ t n gen2 s, s.folioOn = true → portLit s n = true → (s.nibs.get n).phaseS = .u1 ∨ (s.nibs.get n).phaseS = .u2 →
    Completes (.ssU0Entry t n gen2) s fun u => (u.nibs.get n).phaseS = .u0 ∧ (u.nibs.get n).idleSince = max s.now t ∧ (u.nibs.get n).speedS = (s.nibs.get n).speedS) ∧
  (∀ t n gen2 since s, s.folioOn = true → portLit s n = true → (s.nibs.get n).phaseS = .training since →
    Completes (.ssU0Entry t n gen2) s fun u => u.nibs = (pathReset (setNib (begin t s) n (fun x => { x with phaseS := .u0, speedS := if gen2 then 5 else 4, idleSince := max s.now t })) n true
      (!rootRecord s n true)).nibs) ∧
  (∀ t n since s, s.folioOn = true → (s.nibs.get n).phaseS = .training since → since + ticksMs 400 ≤ max s.now t →
    Completes (.ssTrainingTimeout t n) s fun u => (u.nibs.get n).phaseS = .failed ∧ (u.nibs.get n).speedS = 0) ∧
  (∀ t n a b since s, s.folioOn = true → (s.nibs.get n).speed2 ≠ 1 → 3 ≤ maxSpeed s n → a ≤ 7000 → 25 ≤ b → (s.cports.get n).reset2 = none →
      (s.nibs.get n).phase2 = .reset since → since + ticksUs a ≤ max s.now t → max s.now t < since + ticksMs 50 →
    Completes (.deviceChirpSeen t n a b) s fun u => (u.nibs.get n).chirp = 2 ∧ u.out = [.line n .chirpKJ]) ∧
  (∀ t n since s, s.folioOn = true → (s.nibs.get n).phase2 = .reset since → since + ticksMs 50 ≤ max s.now t → (s.nibs.get n).connect = false → (s.nibs.get n).resetCmd = none →
    Completes (.rootResetEnd t n) s fun u => (u.nibs.get n).phase2 = .idle ∧ (u.nibs.get n).speed2 = 0 ∧ (u.nibs.get n).wait2 = false) ∧
  (∀ t n since c s, s.folioOn = true → (s.nibs.get n).phase2 = .reset since → since + ticksMs 50 ≤ max s.now t → (s.nibs.get n).connect = true → (s.nibs.get n).chirp = 2 →
      (s.nibs.get n).resetCmd = some c → (s.nibs.get n).waitS = true →
    Completes (.rootResetEnd t n) s fun u => (u.nibs.get n).phase2 = .recovery (max s.now t) ∧ (u.nibs.get n).speed2 = 3 ∧ (u.nibs.get n).default2 = true ∧ .line n .sofStart ∈ u.out) ∧
  (∀ t n since s, s.folioOn = true → (s.nibs.get n).phase2 = .recovery since → since + ticksMs 10 ≤ max s.now t →
    Completes (.resetRecoveryEnd t n) s fun u => (u.nibs.get n).phase2 = .active ∧ (u.nibs.get n).idleSince = max s.now t) ∧
  (∀ t n s, s.folioOn = true → (s.nibs.get n).connect = true → (s.nibs.get n).phase2 = .active →
    Completes (.babbleDetected t n none) s fun u => (u.nibs.get n).phase2 = .disabled ∧ (u.nibs.get n).l1 = false) ∧
  (∀ t n s, s.folioOn = true → (s.nibs.get n).connect = true → (s.nibs.get n).phase2 ≠ .stuck →
    Completes (.usb2Disconnect t n) s fun u => (u.nibs.get n).connect = false ∧ (u.nibs.get n).speed2 = 0 ∧ (u.nibs.get n).phase2 = .idle) ∧
  (∀ t n s, s.folioOn = true → ssUp (s.nibs.get n) = true → Completes (.ssLinkLost t n) s fun u => (u.nibs.get n).phaseS = .off ∧ (u.nibs.get n).speedS = 0)

/-- Split repair, low power, remote wake and stuck lines complete (R181, R185, R187–R190): CLEAR_TT_BUFFER leaves its queue and a failed one is recorded, L1, U1 and U2 are entered or held off, a remote wake resumes the tree of a ring owner, and probes count up to the declaration of a stuck line, whose retest ends or lengthens the wait. -/
def Obligations.LinePowerCommandsComplete : Prop :=
  (∀ t n j rest s, inkOn s = true → (s.nibs.get n).tt = j :: rest → Completes (.clearTtBufferDone t n false) s fun u => (u.nibs.get n).tt = rest ∧ u.eps = s.eps) ∧
  (∀ t n j rest s, inkOn s = true → (s.nibs.get n).tt = j :: rest →
    Completes (.clearTtBufferDone t n true) s fun u => u.eps = (advance (setEp (setNib (begin t s) n (fun b => { b with tt := rest })) j.ctx (fun e => { e with ttWait := false })) j.ctx).eps) ∧
  (∀ t n ack s, s.folioOn = true → l1En s n = true → (portDevices s n).any (fun d => d.tier == 1 && decide (d.speed ≤ 3) && d.lpm) = true → busRuns s n false = true →
      (s.nibs.get n).l1 = false → (s.nibs.get n).l1Hold = none → portIdle s n = true → idleFor (begin t s) n (l1Idle s n) = true →
    Completes (.l1Entry t n ack) s fun u => (u.nibs.get n).l1 = ack ∧ (u.nibs.get n).l1Hold = (if ack then none else some (max s.now t)) ∧ u.out = [.line n (.lpmToken (besl s n))]) ∧
  (∀ t n s, s.folioOn = true → u1En s n = true → (s.nibs.get n).phaseS = .u0 → (s.nibs.get n).susp = .awake →
    Completes (.u1Entry t n true) s fun u => (u.nibs.get n).phaseS = .u1 ∧ u.out = []) ∧
  (∀ t n s, s.folioOn = true → u2En s n = true → (s.nibs.get n).phaseS = .u0 → (s.nibs.get n).susp = .awake → idleFor (begin t s) n (u2Idle s n) = true →
    Completes (.u2Entry t n false) s fun u => (u.nibs.get n).phaseS = .u2 ∧ u.out = [.line n .requestU2]) ∧
  (∀ t n since s, s.folioOn = true → (s.nibs.get n).l1Hold = some since → since + ticksS 1 ≤ max s.now t →
    Completes (.lpmRefusalHoldExpiry t n) s fun u => (u.nibs.get n).l1Hold = none) ∧
  (∀ t n ss v s, s.folioOn = true → s.modes.mode = .managed → (s.nibs.get n).susp = .suspended → portLit s n = true → (s.own.get n).owner = .ring v →
    Completes (.remoteWake t n ss) s fun u => u.nibs = (if ((wakeSource (begin t s)).nibs.get n).susp = .suspended then
      treeResume (setNib (wakeSource (begin t s)) n (fun b => { b with waking := true })) n else wakeSource (begin t s)).nibs) ∧
  (∀ t n c s, s.folioOn = true → n.val ≠ 0 → stuckEn s n = true → sinkAttached s n = true → vbusOn s n = true → (s.nibs.get n).phase2 = .active → (s.nibs.get n).speed2 ≠ 3 →
    Completes (.stuckProbe t n false c) s fun u => (u.nibs.get n).probeFails = 0) ∧
  (∀ t n s, s.folioOn = true → n.val ≠ 0 → stuckEn s n = true → sinkAttached s n = true → vbusOn s n = true → (s.nibs.get n).phase2 = .idle → (s.nibs.get n).connect = false →
      9 ≤ (s.nibs.get n).probeFails →
    Completes (.stuckProbe t n true false) s fun u => (u.nibs.get n).phase2 = .stuck ∧ (u.nibs.get n).backoff = 1 ∧ (u.nibs.get n).retestAt = max s.now t + ticksS 1) ∧
  (∀ t n s, s.folioOn = true → (s.nibs.get n).phase2 = .stuck → (s.nibs.get n).retestAt + ticksMs 10 ≤ max s.now t →
    Completes (.stuckRetest t n true) s fun u => (u.nibs.get n).phase2 = .idle ∧ (u.nibs.get n).backoff = 0) ∧
  (∀ t n s, s.folioOn = true → (s.nibs.get n).phase2 = .stuck → (s.nibs.get n).retestAt + ticksMs 10 ≤ max s.now t →
    Completes (.stuckRetest t n false) s fun u => (u.nibs.get n).backoff = satN 4 ((s.nibs.get n).backoff + 1) ∧
      (u.nibs.get n).retestAt = max s.now t + ticksS (backoffS (satN 4 ((s.nibs.get n).backoff + 1))))

/-- Event delivery and Inkwell complete (R113, R116, R117, R248, R251, R255): a notice that fits goes from its queue to the event ring, the interval's end and an acknowledgement have their effects on the ring, a bank window starts its counts again, a grant places the blocks asked for or waits, and the conflict monitor counts hot windows and forgets them. -/
def Obligations.DeliveryAndInkwellComplete : Prop :=
  (∀ t v s, s.folioOn = true → s.modes.mode ≠ .holdup → s.modes.mode ≠ .standby →
    Completes (.noticeDelivery t v) s fun u => u.vis = (deliverNotice (begin t s) v).vis ∧ u.out = (deliverNotice (begin t s) v).out ∧ u.own = s.own) ∧
  (∀ t v s, s.folioOn = true → viKind s v = 1 → 0 < (s.vis.get v).unsignalled → (s.vis.get v).unsignalledAt + ticksUs (fld (viReg s v 0x140) 0 16) ≤ max s.now t →
    Completes (.msixIntervalExpiry t v) s fun u => (u.vis.get v).unsignalled = 0 ∧ u.out = (raiseMsix (begin t s) v).out ∧ u.pcie = (raiseMsix (begin t s) v).pcie) ∧
  (∀ t v k all q s, s.folioOn = true → viRoce s v = true → (s.vis.get v).qp = some q →
    Completes (.rdmaAckReceived t v k all) s fun u => (u.vis.get v).acked = max (s.vis.get v).acked (min (s.vis.get v).issued k) ∧ u.own = s.own) ∧
  (∀ t s, inkOn s = true → stroke (begin t s) % 625 = 0 →
    Completes (.bankWindow t) s fun u => u.ink = { s.ink with periodic := Vector.replicate 64 0, async := Vector.replicate 64 0 }) ∧
  (∀ t w k s, inkOn s = true → Completes (.blockGrant t w none k) s fun u => u.ink = (requestBlocks (pathDrained (begin t s) w) w none k).ink ∧ u.vis = (requestBlocks (pathDrained (begin t s) w) w none k).vis ∧ u.own = s.own) ∧
  (∀ t g d s, inkOn s = true → stroke (begin t s) % 500 = 0 → s.ink.nextKey = none → (List.range 64).filter (hotBank s g d) = [] →
    Completes (.conflictWindow t g d) s fun u => u.ink = { s.ink with hotRun := 0 }) ∧
  (∀ t g d b bs s, inkOn s = true → stroke (begin t s) % 500 = 0 → s.ink.nextKey = none → (List.range 64).filter (hotBank s g d) = b :: bs → s.ink.hotRun + 1 < conflictWindows s →
    Completes (.conflictWindow t g d) s fun u => u.ink = { s.ink with hotRun := s.ink.hotRun + 1 })

/-- The PCIe and binding commands complete (R127, R129, R132, R133): a new binding is applied, one that takes another VI's function is not, an FLR, a hot reset and the loss of VFs leave the endpoint as R132 says, Bus Master Enable follows its writes, and a PTM dialogue counts its outcome. -/
def Obligations.PcieCommandsComplete : Prop :=
  (∀ t p v w s, s.folioOn = true → privileged s p = true → (bindOf (w &&& 0xFF0001F3)).1 = 0 → (bindOf (reg s (bindAddr v))).1 = 0 →
    Completes (.viBindWrite t p v w) s fun u => u.regs = (setApplied (begin t s) (bindAddr v) (w &&& 0xFF0001F3)).regs) ∧
  (∀ t p v x w s, s.folioOn = true → privileged s p = true → (bindOf (w &&& 0xFF0001F3)).1 = 1 → x ≠ v → viKind s x = 1 → (viFn s x).val = (bindOf (w &&& 0xFF0001F3)).2 →
    Completes (.viBindWrite t p v w) s fun u => u.regs = s.regs ∧ u.own = s.own ∧ u.vis = s.vis) ∧
  (∀ t f s, s.folioOn = true → fnEnabled s f = true → Completes (.flr t f) s fun u => maskBit u.pcie.flr f.val = true ∧ u.pcie.flrAt = max s.now t ∧ maskBit u.pcie.bme f.val = false) ∧
  (∀ t f b s, s.folioOn = true → maskBit s.pcie.flr f.val = true →
    Completes (.flrComplete t f b) s fun u => maskBit u.pcie.flr f.val = false ∧ maskBit u.pcie.msixOn f.val = b ∧ u.vis = s.vis) ∧
  (∀ t s, s.folioOn = true → s.pcie.vfEnable = true → Completes (.vfEnableClear t 0) s fun u => u.pcie.vfEnable = false ∧ u.pcie.link = s.pcie.link) ∧
  (∀ t k s, s.folioOn = true → s.pcie.vfEnable = true → 0 < k → k < s.pcie.numVfs → Completes (.vfEnableClear t k) s fun u => u.pcie.numVfs = k ∧ u.pcie.vfEnable = true) ∧
  (∀ t k s, s.folioOn = true → s.pcie.link = true → maskBit s.pcie.flr 0 = false → 1 ≤ k → k ≤ 15 → s.pcie.vfEnable = false →
    Completes (.vfEnableSet t k) s fun u => u.pcie.vfEnable = true ∧ u.pcie.numVfs = k) ∧
  (∀ t s, s.folioOn = true → s.pcie.link = true → Completes (.pcieLinkDown t) s fun u => u.pcie = pcie0) ∧
  (∀ t a b c d e s, s.folioOn = true → s.pcie.link = false → 1 ≤ a → a ≤ 4 → b = 1 ∨ b = 2 ∨ b = 4 →
    Completes (.pcieLinkUp t a b c d e) s fun u => u.pcie.link = true ∧ u.pcie.speed = a ∧ u.pcie.width = b ∧ u.pcie.vfEnable = false ∧ u.pcie.ptmEnable = e) ∧
  (∀ t f s, s.folioOn = true → fnEnabled s f = true → maskBit s.pcie.bme f.val = true → fnVi s f = none →
    Completes (.bmeClear t f) s fun u => maskBit u.pcie.bme f.val = false ∧ u.vis = s.vis) ∧
  (∀ t f v s, s.folioOn = true → fnEnabled s f = true → maskBit s.pcie.bme f.val = true → fnVi s f = some v →
    Completes (.bmeClear t f) s fun u => u.vis = (enterUnreachable (setPcie (begin t s) (fun p => { p with bme := putBit p.bme f.val false })) v 2).vis ∧
      u.pcie = (enterUnreachable (setPcie (begin t s) (fun p => { p with bme := putBit p.bme f.val false })) v 2).pcie) ∧
  (∀ t f s, s.folioOn = true → fnEnabled s f = true → maskBit s.pcie.bme f.val = false →
    Completes (.bmeSet t f) s fun u => maskBit u.pcie.bme f.val = true ∧ ∀ v, fnVi s f = some v → (u.vis.get v).unreachable = false) ∧
  (∀ t k ph s, s.folioOn = true → s.pcie.link = true → s.pcie.ptmEnable = true → s.pcie.ptmLast + ticksMs (ptmMs s) ≤ max s.now t →
    Completes (.ptmRequest t true k ph) s fun u => u.pcie.ptmValid = true ∧ u.pcie.ptmFails = 0 ∧ u.pcie.ptmLast = max s.now t) ∧
  (∀ t k ph s, s.folioOn = true → s.pcie.link = true → s.pcie.ptmEnable = true → s.pcie.ptmLast + ticksMs (ptmMs s) ≤ max s.now t → 2 ≤ s.pcie.ptmFails →
    Completes (.ptmRequest t false k ph) s fun u => u.pcie.ptmValid = false ∧ u.pcie.ptmFails = s.pcie.ptmFails + 1)

/-- The Ethernet commands complete (R137–R139, R150–R152): a frame with a bad check changes no LAN and counts, a duplicate is discarded and counted, the table forgets and supervision goes out at their times, a LAN goes down, PFC sets its priorities, and CNPs and their absence move the rate. -/
def Obligations.EthernetCommandsComplete : Prop :=
  (∀ t b f s, ethUsed s b = true → f.fcsOk = false →
    Completes (.ethFrameReceived t b f) s fun u => u.prp = s.prp ∧ u.qps = s.qps ∧ u.out = [] ∧ (u.eth.get (ethIdx b)).lanUp = (s.eth.get (ethIdx b)).lanUp) ∧
  (∀ t b f q l s, ethUsed s b = true → f.fcsOk = true → f.vid = none → f.buffered = true → f.rct = some (q, l) → prpEn s = true → l ≠ b → dupCheck (begin t s) f.src q = true →
    Completes (.ethFrameReceived t b f) s fun u => u.prp = s.prp ∧ u.out = [] ∧ u.qps = s.qps) ∧
  (∀ t b f s, ethUsed s b = true → f.fcsOk = true → f.vid = none → f.buffered = true → f.rct = none → f.supervision = false →
    Completes (.ethFrameReceived t b f) s fun u => .deliver f.bytes ∈ u.out ∧ (u.eth.get (ethIdx b)).link = true ∧ u.prp = s.prp) ∧
  (∀ t s, s.folioOn = true → Completes (.prpEntryExpiry t) s fun u => u.prp = { s.prp with table := s.prp.table.filter (fun e => decide (max s.now t < e.at_ + ticksMs 400)) }) ∧
  (∀ t s, s.folioOn = true → prpEn s = true → s.prp.lastSupervision + ticksMs (lifeCheckMs s) ≤ max s.now t →
    Completes (.prpSupervisionSend t) s fun u => u.out = [.supervision false s.prp.seqno, .supervision true s.prp.seqno] ∧ u.prp.seqno = (s.prp.seqno + 1) % 65536 ∧
      u.prp.lastSupervision = max s.now t) ∧
  (∀ t b s, s.folioOn = true → (s.eth.get (ethIdx b)).lanUp = true → Completes (.lanDown t b true) s fun u => (u.eth.get (ethIdx b)).lanUp = false ∧ (u.eth.get (ethIdx b)).lock = false) ∧
  (∀ t b s, s.folioOn = true → (s.eth.get (ethIdx b)).lanUp = true → (s.eth.get (ethIdx b)).lastFrame + 3 * ticksMs (lifeCheckMs s) ≤ max s.now t →
    Completes (.lanDown t b false) s fun u => (u.eth.get (ethIdx b)).lanUp = false ∧ (u.eth.get (ethIdx b)).link = (s.eth.get (ethIdx b)).link) ∧
  (∀ t b e x s, ethUsed s b = true → Completes (.pfcFrameReceived t b e x) s fun u => (u.eth.get (ethIdx b)).xoff = (s.eth.get (ethIdx b)).xoff ∧ u.prp = s.prp ∧
      (u.eth.get (ethIdx b)).paused = (List.range 8).foldl (fun k i => if maskBit (Nat.land (e % 256) (rfld s 0x80220 16 8)) i then putBit k i (maskBit x i) else k) (s.eth.get (ethIdx b)).paused) ∧
  (∀ t q s, s.folioOn = true → ccEn s = true → (s.qps.get q).state = .ready → (s.qps.get q).lastDec = none →
    Completes (.cnpReceived t q) s fun u => (u.qps.get q).rate = max ((s.qps.get q).rate - (s.qps.get q).rate / 2 ^ ccShift s) (ccMin s) ∧ (u.qps.get q).lastDec = some (max s.now t)) ∧
  (∀ t q k s, s.folioOn = true → ccEn s = true → (s.qps.get q).state = .ready → (s.qps.get q).lastDec = some k → max s.now t < k + ticksUs 50 →
    Completes (.cnpReceived t q) s fun u => (u.qps.get q).rate = (s.qps.get q).rate ∧ (u.qps.get q).lastInc = max s.now t) ∧
  (∀ t q s, s.folioOn = true → ccEn s = true → (s.qps.get q).state = .ready → (s.qps.get q).lastInc + ticksUs 55 ≤ max s.now t →
    Completes (.ccRateIncrease t q) s fun u => (u.qps.get q).rate = min ((s.qps.get q).rate + ccInc s) (lineRate s q) ∧ (u.qps.get q).lastInc = max s.now t)

/-- The RoCEv2 commands complete (R140, R142–R149, R157): a REQ is rejected with its one reason, or with one of several, the free choice of assumption 52; a REP is sent again and given up, an RTU binds its slot or is refused, DREQ and QP_RESET return the slot to Reset, doorbells and refusals are answered, and timeouts and NAKs resend or end in Error. -/
def Obligations.RoceCommandsComplete : Prop :=
  (∀ t b r k s, ethUsed s b = true → r.serviceId.toNat = (reg s 0x80408).toNat + (reg s 0x8040C).toNat * 2 ^ 32 → rejReasons s r = [k] →
    Completes (.cmReq t b r) s fun u => u.out = [.cm none (.rej k)] ∧ u.qps = s.qps) ∧
  (∀ t b r s, ethUsed s b = true → r.serviceId.toNat = (reg s 0x80408).toNat + (reg s 0x8040C).toNat * 2 ^ 32 → 2 ≤ (rejReasons s r).length →
    Completes (.cmReq t b r) s fun u => (∃ k ∈ rejReasons s r, u.out = [.cm none (.rej k)]) ∧ u.qps = s.qps ∧ u.freeCtr = s.freeCtr + 1) ∧
  (∀ t b r s, ethUsed s b = true → r.serviceId.toNat = (reg s 0x80408).toNat + (reg s 0x8040C).toNat * 2 ^ 32 → rejReasons s r = [] →
    Completes (.cmReq t b r) s fun u => u.qps = (acceptReq (begin t s) b r).qps ∧ u.out = (acceptReq (begin t s) b r).out) ∧
  (∀ t q s, s.folioOn = true → (s.qps.get q).state = .connecting → (s.qps.get q).repAt + ticksMs 100 ≤ max s.now t → (s.qps.get q).repSends < 4 →
    Completes (.repRetryTimeout t q) s fun u => (u.qps.get q).repSends = (s.qps.get q).repSends + 1 ∧ (u.qps.get q).repAt = max s.now t ∧ (u.qps.get q).state = .connecting) ∧
  (∀ t q s, s.folioOn = true → (s.qps.get q).state = .connecting → (s.qps.get q).repAt + ticksMs 100 ≤ max s.now t → 4 ≤ (s.qps.get q).repSends →
    Completes (.repRetryTimeout t q) s fun u => (u.qps.get q).state = .reset ∧ u.out = []) ∧
  (∀ t q mac s, s.folioOn = true → (s.qps.get q).state = .connecting → authReq s (s.qps.get q).vi = false → (s.vis.get (s.qps.get q).vi).unreachable = false →
    Completes (.cmRtu t q mac) s fun u => (u.qps.get q).state = .ready ∧ (u.vis.get (s.qps.get q).vi).qp = some q) ∧
  (∀ t q mac s, s.folioOn = true → (s.qps.get q).state = .connecting → authReq s (s.qps.get q).vi = true → (s.sealUnit.keys.get (s.qps.get q).vi) = none →
    Completes (.cmRtu t q mac) s fun u => (u.qps.get q).state = .reset ∧ u.out = [.cm (some q) .dreq] ∧ u.vis = s.vis) ∧
  (∀ t q s, s.folioOn = true → slotBound s q = true → Completes (.cmDreq t q) s fun u => (u.qps.get q).state = .reset ∧ (u.qps.get q).cause = 5 ∧ (u.vis.get (s.qps.get q).vi).qp = none) ∧
  (∀ t q k a bs s, inkOn s = true → slotBound s q = true → (s.qps.get q).state = .ready → k ≠ (s.qps.get q).rkey →
    Completes (.roceDoorbellWrite t q k a bs) s fun u => (u.qps.get q).state = .error ∧ (u.qps.get q).cause = 4) ∧
  (∀ t q a bs s, inkOn s = true → slotBound s q = true → (s.qps.get q).state = .ready → a % 4 = 0 → bs.length = 4 → a + 4 ≤ 256 →
    Completes (.roceDoorbellWrite t q (s.qps.get q).rkey a bs) s fun u =>
      u.vis = (doorbell (emit (begin t s) (.ack q)) (s.qps.get q).vi a (BitVec.ofNat 32 (bytesToNatLE bs))).vis ∧
      u.out = (doorbell (emit (begin t s) (.ack q)) (s.qps.get q).vi a (BitVec.ofNat 32 (bytesToNatLE bs))).out) ∧
  (∀ t q k s, s.folioOn = true → (s.qps.get q).state = .ready → (s.qps.get q).oldestAt = some k → k + ackTicks (s.qps.get q).ackExp ≤ max s.now t → 0 < (s.qps.get q).retryLeft →
    Completes (.ackTimeout t q) s fun u => u.out = [.resend q] ∧ (u.qps.get q).retryLeft = (s.qps.get q).retryLeft - 1 ∧ (u.qps.get q).state = .ready) ∧
  (∀ t q k s, s.folioOn = true → (s.qps.get q).state = .ready → (s.qps.get q).oldestAt = some k → k + ackTicks (s.qps.get q).ackExp ≤ max s.now t → (s.qps.get q).retryLeft = 0 →
      slotBound s q = false →
    Completes (.ackTimeout t q) s fun u => (u.qps.get q).state = .error ∧ (u.qps.get q).cause = 1 ∧ u.vis = s.vis) ∧
  (∀ t q s, s.folioOn = true → (s.qps.get q).state = .ready → Completes (.nakReceived t q) s fun u => (u.qps.get q).state = .error ∧ (u.qps.get q).cause = 2) ∧
  (∀ t q k s, s.folioOn = true → (s.qps.get q).state = .ready → (s.qps.get q).oldestAt = some k →
    Completes (.psnSequenceNak t q) s fun u => u.out = [.resend q] ∧ (u.qps.get q).oldestAt = some (max s.now t) ∧ (u.qps.get q).state = .ready) ∧
  (∀ t p q s, s.folioOn = true → privileged s p = true → Completes (.qpReset t p q) s fun u => (u.qps.get q).state = .reset) ∧
  (∀ t v s, s.folioOn = true → (s.vis.get v).unreachable = true → (s.vis.get v).dataReleased = false → (∀ n, viOwns s v n = false) →
      (s.vis.get v).unreachableAt + ticksS (holdS s v) ≤ max s.now t →
    Completes (.unreachableHoldExpiry t v) s fun u => (u.vis.get v).dataReleased = true)

/-- The PTP commands and the slew of a port complete (R152, R213, R351): an accepted Sync locks PTP with its offset, four seconds without one unlock it and, with FAILOVER, change the port, and SLEWING clears. -/
def Obligations.ClockCommandsComplete : Prop :=
  (∀ t k o m ph s, s.folioOn = true → ptpEn s = true → ethEn s s.ptp.portB = true →
    Completes (.ptpSyncAccepted t k o m ph) s fun u => u.ptp.locked = true ∧ u.ptp.offset = o ∧ u.ptp.lastSync = max s.now t ∧ u.ptp.timeNs = k) ∧
  (∀ t s, s.folioOn = true → s.ptp.locked = true → s.ptp.lastSync + ticksS 4 ≤ max s.now t → ptpFailover s = true →
    Completes (.ptpLockTimeout t) s fun u => u.ptp.locked = false ∧ u.ptp.portB = !s.ptp.portB ∧ u.ptp.failedOver = true) ∧
  (∀ t s, s.folioOn = true → s.ptp.locked = true → s.ptp.lastSync + ticksS 4 ≤ max s.now t → ptpFailover s = false →
    Completes (.ptpLockTimeout t) s fun u => u.ptp = { s.ptp with locked := false }) ∧
  (∀ t n s, s.folioOn = true → (s.nibs.get n).slewing = true → Completes (.portSlewComplete t n) s fun u => (u.nibs.get n).slewing = false ∧ (u.nibs.get n).offsetUf = (s.nibs.get n).offsetUf)

/-- The hub requests of a classic host complete (R223–R226): each answers its host, and on a port the VI owns has the effect the table of R223 names; a request for port 0, and one the hub does not support, is answered with STALL. The TT requests and the standard requests of a classic host complete (R219–R222, R226, R237, R243): a TT request acts on the Ligatures it names, descriptors are returned up to the length asked or refused with STALL, and configurations and settings within their range are taken. -/
def Obligations.HubRequestsComplete : Prop :=
  (∀ t c s, clsOn s c = true → Completes (.getHubStatus t c) s fun u => u.out = [.hub c (.data (hubStatusBytes s c))] ∧ u.cviews = s.cviews) ∧
  (∀ t c s, clsOn s c = true → Completes (.clearHubFeature t c 0) s fun u => (u.cvis.get c).changePower = false ∧ u.out = [.hub c .ack]) ∧
  (∀ t c s, clsOn s c = true → Completes (.clearHubFeature t c 1) s fun u => (u.cvis.get c).changeOver = false ∧ u.out = [.hub c .ack]) ∧
  (∀ t c s, clsOn s c = true → Completes (.setHubFeature t c) s fun u => u.out = [.hub c .stall] ∧ u.cvis = s.cvis) ∧
  (∀ t c n ss s, clsOn s c = true → n.val ≠ 0 → Completes (.getPortStatus t c n ss) s fun u => u.out = [.hub c (.data (portStatusBytes s c n ss))] ∧ u.cviews = s.cviews) ∧
  (∀ t c ss s, clsOn s c = true → Completes (.getPortStatus t c 0 ss) s fun u => u.out = [.hub c .stall]) ∧
  (∀ t c n s, clsOn s c = true → clsOwns s c n = true → Completes (.setPortReset t c n false) s fun u => (u.cports.get n).reset2 = some (max s.now t) ∧
      bit16 (u.cviews.get (viewIdx c n)).status2 4 = true ∧ u.out.getLast? = some (.hub c .ack)) ∧
  (∀ t c n s, clsOn s c = true → clsOwns s c n = true → Completes (.setPortReset t c n true) s fun u => (u.cports.get n).resetS = some (max s.now t, false) ∧
      bit16 (u.cviews.get (viewIdx c n)).statusS 4 = true) ∧
  (∀ t c n s, clsOn s c = true → clsOwns s c n = true → Completes (.setBhPortReset t c n) s fun u => (u.cports.get n).resetS = some (max s.now t, true) ∧
      bit16 (u.cviews.get (viewIdx c n)).statusS 4 = true) ∧
  (∀ t n since s, s.folioOn = true → (s.cports.get n).reset2 = some since → since + ticksMs 15 ≤ max s.now t →
    Completes (.classicPortResetEnd t n) s fun u => (u.cports.get n).reset2 = none ∧ (u.cports.get n).chirp = false) ∧
  (∀ t n since w s, s.folioOn = true → (s.cports.get n).resetS = some (since, w) → since + ticksMs 100 ≤ max s.now t →
    Completes (.ssPortResetTimeout t n) s fun u => (u.cports.get n).resetS = none) ∧
  (∀ t c n s, clsOn s c = true → clsOwns s c n = true → bit16 (s.cviews.get (viewIdx c n)).status2 1 = true → bit16 (s.cviews.get (viewIdx c n)).status2 2 = false →
    Completes (.setPortSuspend t c n) s fun u => (u.nibs.get n).susp = .entering (max s.now t) ∧ u.out = [.line n .sofStop, .hub c .ack]) ∧
  (∀ t c n s, clsOn s c = true → clsOwns s c n = true → bit16 (s.cviews.get (viewIdx c n)).status2 2 = true →
    Completes (.clearPortSuspend t c n) s fun u => (u.nibs.get n).susp = .resumeK (max s.now t) ∧ u.out = [.line n .resumeK, .hub c .ack]) ∧
  (∀ t c n s, clsOn s c = true → clsOwns s c n = true → Completes (.clearPortEnable t c n) s fun u => u.out = [.line n .sofStop, .hub c .ack] ∧
      (u.cviews.get (viewIdx c n)).status2 = put16 (s.cviews.get (viewIdx c n)).status2 1 false) ∧
  (∀ t c n s, clsOn s c = true → n.val ≠ 0 → clsOwns s c n = false → Completes (.setPortPower t c n) s fun u => (u.cviews.get (viewIdx c n)).power = true ∧ u.out = [.hub c .ack]) ∧
  (∀ t c n s, clsOn s c = true → n.val ≠ 0 → clsOwns s c n = false → Completes (.clearPortPower t c n) s fun u => (u.cviews.get (viewIdx c n)).power = false ∧ u.nibs = s.nibs) ∧
  (∀ t c n s, clsOn s c = true → clsOwns s c n = true → Completes (.clearPortPower t c n) s fun u => (u.cviews.get (viewIdx c n)).power = false ∧ (u.nibs.get n).phaseS = .off) ∧
  (∀ t c n s, clsOn s c = true → clsOwns s c n = true → Completes (.setPortTest t c n) s fun u => (u.cports.get n).test = true ∧ u.out = [.line n .testMode, .hub c .ack]) ∧
  (∀ t c n s, clsOn s c = true → Completes (.setPortIndicator t c n) s fun u => u.out = [.hub c .stall] ∧ u.cviews = s.cviews) ∧
  (∀ t c n s, clsOn s c = true → clsOwns s c n = true → ssUp (s.nibs.get n) = true → Completes (.setPortLinkState t c n 3) s fun u => (u.nibs.get n).phaseS = .u3 ∧
      u.out = [.line n .toU3, .hub c .ack]) ∧
  (∀ t c n k s, clsOn s c = true → k = 1 ∨ k = 2 ∨ 6 ≤ k → Completes (.setPortLinkState t c n k) s fun u => u.out = [.hub c .stall] ∧ u.nibs = s.nibs) ∧
  (∀ t c n k s, clsOn s c = true → n.val ≠ 0 → Completes (.setPortLinkPmFeature t c n .u1Timeout k) s fun u => (u.cviews.get (viewIdx c n)).u1 = k % 256 ∧ u.out = [.hub c .ack]) ∧
  (∀ t c n k s, clsOn s c = true → n.val ≠ 0 → k ≤ 4 → Completes (.clearPortChange t c n false k) s fun u =>
      (u.cviews.get (viewIdx c n)).change2 = put16 (s.cviews.get (viewIdx c n)).change2 k false ∧ u.out = [.hub c .ack]) ∧
  (∀ t c n s, clsOn s c = true → n.val ≠ 0 → clsOwns s c n = false → Completes (.getPortErrCount t c n) s fun u => u.out = [.hub c (.data [0, 0])] ∧ u.freeCtr = s.freeCtr) ∧
  (∀ t c n s, clsOn s c = true → clsOwns s c n = true → Completes (.getPortErrCount t c n) s fun u =>
      u.out = [.hub c (.data (natBytesLE 2 (Config.freeWord s.freeCtr).toNat))] ∧ u.freeCtr = s.freeCtr + 1) ∧
  (∀ t c k s, clsOn s c = true → k ≤ 4 → Completes (.setHubDepth t c k) s fun u => (u.cvis.get c).depth = k ∧ u.out = [.hub c .ack]) ∧
  (∀ t c k s, clsOn s c = true → 4 < k → Completes (.setHubDepth t c k) s fun u => u.cvis = s.cvis ∧ u.out = [.hub c .stall]) ∧
  (∀ t c n a e k i s, clsOn s c = true → ttPorts s c n = [n] → Completes (.clearTtBuffer t c n a e k i) s fun u =>
      (u.ligs.get n).bufs = (s.ligs.get n).bufs.filter (fun b => !(b.addr == a && b.ep == e && b.type == k && b.isIn == i)) ∧ u.out = [.hub c .ack]) ∧
  (∀ t c n s, clsOn s c = true → ttPorts s c n = [n] → Completes (.resetTt t c n) s fun u => u.ligs.get n = lig0 ∧ u.out = [.hub c .ack]) ∧
  (∀ t c n s, clsOn s c = true → ttPorts s c n = [n] → Completes (.stopTt t c n) s fun u => (u.ligs.get n).stopped = true ∧ u.out = [.hub c .ack]) ∧
  (∀ t c n s, clsOn s c = true → Completes (.getTtState t c n) s fun u => u.out = [.hub c .stall] ∧ u.ligs = s.ligs) ∧
  (∀ t c h k i len bs s, clsOn s c = true → h ≠ .func → s.blot.descriptorsReloading = false → descriptor s c h k i = some bs →
    Completes (.getDescriptor t c h k i len) s fun u => u.out = [.hub c (.data (bs.take len))] ∧ u.cvis = s.cvis) ∧
  (∀ t c h k i len s, clsOn s c = true → h ≠ .func → descriptor s c h k i = none → Completes (.getDescriptor t c h k i len) s fun u => u.out = [.hub c .stall]) ∧
  (∀ t c s, clsOn s c = true → Completes (.setDescriptor t c) s fun u => u.out = [.hub c .stall] ∧ u.cvis = s.cvis) ∧
  (∀ t c k s, clsOn s c = true → k ≤ 1 → Completes (.setConfiguration t c .ss k) s fun u => (u.cvis.get c).configS = k ∧ u.out.getLast? = some (.hub c .ack)) ∧
  (∀ t c h k s, clsOn s c = true → h ≠ .func → 1 < k → Completes (.setConfiguration t c h k) s fun u => u.out = [.hub c .stall] ∧ u.cvis = s.cvis ∧ u.cviews = s.cviews) ∧
  (∀ t c s, clsOn s c = true → (s.cvis.get c).speed2 = 3 → Completes (.setInterface t c .usb2 1) s fun u => (u.cvis.get c).multiTt = true ∧ u.out = [.hub c .ack]) ∧
  (∀ t c k s, clsOn s c = true → 0 < k → Completes (.setInterface t c .ss k) s fun u => u.out = [.hub c .stall] ∧ u.cvis = s.cvis)

/-- The upstream commands complete (R218, R229, R233, R241): a recognised reset forfeits the VI and starts the device's chirp, each step of the handshake leads to the next, the end of the reset lets the VI answer again, suspend and resume follow the host, and an LPM token is answered by the ports' state. -/
def Obligations.UpstreamCommandsComplete : Prop :=
  (∀ t c s, s.folioOn = true → (s.cvis.get c).exists_ = true → (s.cvis.get c).inReset = false → (s.cvis.get c).up = .run →
    Completes (.upstreamResetRecognised t c false) s fun u => (u.cvis.get c).inReset = true ∧ (u.cvis.get c).up = .chirpK (max s.now t) ∧ (u.cvis.get c).config2 = 0 ∧
      (u.cvis.get c).forfeitAt = some (max s.now t)) ∧
  (∀ t c s, s.folioOn = true → (s.cvis.get c).exists_ = true → (s.cvis.get c).inReset = false →
    Completes (.upstreamResetRecognised t c true) s fun u => (u.cvis.get c).inReset = true ∧ (u.cvis.get c).configS = 0 ∧ (u.cvis.get c).depth = 0) ∧
  (∀ t c s, clsOn s c = true → (s.cvis.get c).up = .hs → (s.cvis.get c).suspended = false →
    Completes (.hsIdleReversion t c) s fun u => (u.cvis.get c).up = .reverted (max s.now t) ∧ u.out = [.upLine c .pullUp]) ∧
  (∀ t c since s, s.folioOn = true → (s.cvis.get c).up = .chirpK since → since + ticksMs 2 ≤ max s.now t →
    Completes (.chirpKEnd t c) s fun u => (u.cvis.get c).up = .watch (max s.now t) ∧ u.out = [.upLine c .fsIdle]) ∧
  (∀ t c since s, s.folioOn = true → (s.cvis.get c).up = .watch since → max s.now t ≤ since + ticksMs 2 →
    Completes (.hostChirpSixth t c) s fun u => (u.cvis.get c).up = .hs ∧ (u.cvis.get c).speed2 = 3 ∧ u.out = [.upLine c .hsTerminations]) ∧
  (∀ t c since s, s.folioOn = true → (s.cvis.get c).up = .watch since → since + ticksMs 2 ≤ max s.now t →
    Completes (.hostChirpTimeout t c) s fun u => (u.cvis.get c).up = .fs ∧ (u.cvis.get c).speed2 = 2) ∧
  (∀ t c s, s.folioOn = true → (s.cvis.get c).exists_ = true → (s.cvis.get c).inReset = true → (s.cvis.get c).up = .hs →
    Completes (.upstreamResetEnd t c false) s fun u => (u.cvis.get c).inReset = false ∧ (u.cvis.get c).speed2 = 3) ∧
  (∀ t c s, clsOn s c = true → (s.cvis.get c).suspended = false → Completes (.upstreamSuspend t c) s fun u => (u.cvis.get c).suspended = true ∧ u.own = s.own) ∧
  (∀ t c s, clsOn s c = true → (s.cvis.get c).suspended = true → s.modes.mode ≠ .suspend → s.modes.suspending = false →
    Completes (.upstreamResume t c) s fun u => (u.cvis.get c).suspended = false) ∧
  (∀ t c s, clsOn s c = true → (s.cvis.get c).suspended = false → (∀ n, clsOwns s c n = false) →
    Completes (.upstreamLpmToken t c) s fun u => u.out = [.hub c .ack] ∧ u.cvis = s.cvis) ∧
  (∀ t c b s, s.folioOn = true → (s.cvis.get c).exists_ = true → (s.cvis.get c).ssLink = !b →
    Completes (.upstreamSsLinkChange t c b) s fun u => (u.cvis.get c).ssLink = b)

/-- The split and Scribe-function commands complete (R235, R236, R244, R245): a start-split takes a buffer or draws NAK, a complete-split is answered by what is held, results not fetched are discarded, and the function's packets are queued, echoed and halted as R244 and R245 say. -/
def Obligations.SplitAndFunctionCommandsComplete : Prop :=
  (∀ t n sp c s, classicOwner s n = some c → clsOn s c = true → ligActive s n = true → sp.periodic = false → (s.ligs.get n).bufs = [] →
    Completes (.ssplitReceived t n sp) s fun u => u.out = [.hub c .ack] ∧
      (u.ligs.get n).bufs = [{ addr := sp.addr, ep := sp.ep, type := sp.type, isIn := sp.isIn, result := none, heldAt := 0 }]) ∧
  (∀ t n sp c s, classicOwner s n = some c → clsOn s c = true → ligActive s n = true → sp.periodic = false → 16 ≤ (s.ligs.get n).bufs.length →
    Completes (.ssplitReceived t n sp) s fun u => u.out = [.hub c .nak] ∧ u.ligs = s.ligs) ∧
  (∀ t n sp c s, classicOwner s n = some c → clsOn s c = true → ligActive s n = true → sp.periodic = false → (s.ligs.get n).bufs = [] →
    Completes (.csplitReceived t n sp) s fun u => u.out = [.hub c .silent] ∧ u.ligs = s.ligs) ∧
  (∀ t n sp c b r s, classicOwner s n = some c → clsOn s c = true → ligActive s n = true → sp.periodic = false → (s.ligs.get n).bufs = [b] → b.addr = sp.addr → b.ep = sp.ep →
      b.type = sp.type → b.isIn = sp.isIn → b.result = some r →
    Completes (.csplitReceived t n sp) s fun u => u.out = [.hub c r] ∧ (u.ligs.get n).bufs = []) ∧
  (∀ t n b s, s.folioOn = true → n.val ≠ 0 → (s.ligs.get n).bufs = [b] → b.result.isSome = true → b.heldAt + ticksMs 10 ≤ max s.now t →
    Completes (.ligatureResultExpiry t n) s fun u => (u.ligs.get n).bufs = []) ∧
  (∀ t n f k e s, s.folioOn = true → n.val ≠ 0 → (s.ligs.get n).per = [e] → e.y + 3 < k → Completes (.periodicResultDiscard t n f k) s fun u => (u.ligs.get n).per = []) ∧
  (∀ t bs c s, funcOwner s = some c → clsOn s c = true → inkOn s = true → s.func.state = 3 → s.func.outHalt = true →
    Completes (.funcOutPacket t bs) s fun u => u.out = [.hub c .stall] ∧ u.func = s.func) ∧
  (∀ t bs c s, funcOwner s = some c → clsOn s c = true → inkOn s = true → s.func.state = 3 → s.func.outHalt = false → bs.length % 16 ≠ 0 →
    Completes (.funcOutPacket t bs) s fun u => u.out = [.hub c .stall] ∧ u.func = { s.func with outHalt := true }) ∧
  (∀ t bs c s, funcOwner s = some c → clsOn s c = true → inkOn s = true → s.func.state = 3 → s.func.outHalt = false → bs.length = 16 → s.func.queue = [] →
      (∀ i : Fin 4, (s.engines.get ⟨84 + i.val, by omega⟩).restarting = false) → (funcReq bs).ok = true → 1 ≤ (funcReq bs).op → (funcReq bs).op ≤ 3 →
    Completes (.funcOutPacket t bs) s fun u => u.out = [.hub c .ack] ∧ u.func.queue = [funcReq bs]) ∧
  (∀ t q s, s.func.queue = [q] → scribeRuns s = true → q.ok = true → q.op = 3 →
    Completes (.funcEcho t) s fun u => u.func.queue = [] ∧ u.func.replies = s.func.replies ++ [funcReply q 0 q.data]) ∧
  (∀ t b c s, funcOwner s = some c → clsOn s c = true →
    Completes (.funcClearHalt t b) s fun u => u.out = [.hub c .ack] ∧ u.func.inHalt = (if b then false else s.func.inHalt) ∧ u.func.outHalt = (if b then s.func.outHalt else false))

/-- A new message on SOP reaches a port that hears PD messages and is not in TRANSITION (R289). -/
abbrev hearsNew (s : State) (n : PortId) (id : Fin 8) : Prop :=
  hears s n = true ∧ (s.pd.get n).msgIdRx ≠ some id.val ∧ (s.pd.get n).state ≠ .transition

/-- The Type-C commands complete (R282–R287, R309): a pattern starts ATTACH_WAIT or ends it, the debounce attaches a sink at vSafe0V whose implicit power fits, vSafe5V ends STARTUP, a lost pattern starts the 15 ms of a detach, and vSafe0V completes it. -/
def Obligations.TypeCCommandsComplete : Prop :=
  (∀ t n s, (s.pd.get n).state = .unattached → Completes (.ccPatternAppear t n .rd .openPin) s fun u =>
      (u.pd.get n).state = .attachWait ∧ (u.pd.get n).patternSince = max s.now t ∧ (u.pd.get n).cc1 = 1 ∧ u.power = s.power) ∧
  (∀ t n s, (s.pd.get n).state = .unattached → Completes (.ccPatternAppear t n .ra .openPin) s fun u => (u.pd.get n).state = .unattached ∧ (u.pd.get n).patternSince = max s.now t ∧ (u.pd.get n).cc1 = 2) ∧
  (∀ t n s, (s.pd.get n).state = .unattached → working s = true → (s.pd.get n).patternSince + ticksMs 150 ≤ max s.now t → cableAlone (s.pd.get n).cc1 (s.pd.get n).cc2 = true →
    Completes (.attachDebounceEnd t n) s fun u => (u.pd.get n).state = .unattached ∧ (u.pd.get n).raSeen = true) ∧
  (∀ t n s, (s.pd.get n).state = .attachWait → Completes (.ccPatternLost t n .openPin .openPin) s fun u => (u.pd.get n).state = .unattached ∧ (u.pd.get n).cc1 = CcPin.openPin.code) ∧
  (∀ t n s, (s.pd.get n).state = .attachWait → working s = true → (s.pd.get n).patternSince + ticksMs 150 ≤ max s.now t → sinkPattern (s.pd.get n).cc1 (s.pd.get n).cc2 = true →
      (s.pd.get n).safe0 = false →
    Completes (.attachDebounceEnd t n) s fun u => (u.pd.get n).state = .attachWait ∧ (u.pd.get n).attachHeld = true ∧ u.power = s.power) ∧
  (∀ t n s, (s.pd.get n).state = .attachWait → working s = true → (s.pd.get n).patternSince + ticksMs 150 ≤ max s.now t → sinkPattern (s.pd.get n).cc1 (s.pd.get n).cc2 = true →
      (s.pd.get n).safe0 = true → implicitHalf (s.pd.get n).rpNow ≤ (s.power.get n).share → mayStart s n = true →
    Completes (.attachDebounceEnd t n) s fun u => u.pd = (attachSink (begin t s) n).pd ∧ u.power = (attachSink (begin t s) n).power) ∧
  (∀ t n v s, (s.power.get n).step = .ramp → (s.power.get n).gateOn = true → 4750 ≤ v → (s.pd.get n).state = .startup → pdEn s n = true → resetTwice (s.pd.get n) = false →
    Completes (.vsafe5vReached t n v) s fun u => (u.pd.get n).state = .sendCaps ∧ (u.pd.get n).sendings = 0 ∧ (u.power.get n).phase = .on ∧ (u.power.get n).vbusMv = v) ∧
  (∀ t n v s, (s.power.get n).step = .ramp → (s.power.get n).gateOn = true → 4750 ≤ v → (s.pd.get n).state = .startup → (pdEn s n = false ∨ resetTwice (s.pd.get n) = true) →
    Completes (.vsafe5vReached t n v) s fun u => (u.pd.get n).state = .implicit ∧ (u.power.get n).phase = .on) ∧
  (∀ t n s, s.folioOn = true → detachable (s.pd.get n) = true → (s.pd.get n).detachSince = none →
    Completes (.detachDebounceStart t n .openPin .openPin) s fun u => (u.pd.get n).detachSince = some (max s.now t) ∧ (u.pd.get n).state = (s.pd.get n).state) ∧
  (∀ t n k s, detachable (s.pd.get n) = true → (s.pd.get n).detachSince = some k → k + ticksMs 15 ≤ max s.now t →
    Completes (.ccDetach t n) s fun u => u.pd = (detach (begin t s) n).pd ∧ u.power = (detach (begin t s) n).power ∧ u.nibs = (detach (begin t s) n).nibs) ∧
  (∀ t n v s, v < 800 → (s.power.get n).gateOn = false → (s.pd.get n).detaching = true →
    Completes (.vsafe0vReached t n v) s fun u => (u.pd.get n).state = .unattached ∧ (u.pd.get n).safe0 = true ∧ (u.power.get n).vbusMv = v) ∧
  (∀ t n v s, v < 800 → (s.power.get n).gateOn = false → (s.pd.get n).detaching = false → (s.pd.get n).hrPhase = .waitSafe0 →
    Completes (.vsafe0vReached t n v) s fun u => (u.pd.get n).hrPhase = .recover ∧ (u.pd.get n).hrSince = max s.now t ∧ (u.pd.get n).state = (s.pd.get n).state) ∧
  (∀ t n p s, s.folioOn = true → (s.pd.get n).state ≠ .disabled → (s.pd.get n).state ≠ .ccFault → (s.pd.get n).vconnBarred = false →
    Completes (.ccShortProbe t n p false) s fun u => (u.pd.get n).shortMs = 0 ∧ (u.pd.get n).state = (s.pd.get n).state) ∧
  (∀ t n p s, s.folioOn = true → (s.pd.get n).state ≠ .disabled → (s.pd.get n).state ≠ .ccFault →
    Completes (.ccOvervoltage t n p) s fun u => u.pd = (ccFault (setPd (begin t s) n (fun d => if p then { d with cc2 := 4 } else { d with cc1 := 4 })) n).pd ∧
      u.power = (ccFault (setPd (begin t s) n (fun d => if p then { d with cc2 := 4 } else { d with cc1 := 4 })) n).power) ∧
  (∀ t n s, (s.pd.get n).state = .ccFault → max (s.pd.get n).stateSince (s.pd.get n).patternSince + ticksS 1 ≤ max s.now t →
    Completes (.ccFaultRetest t n .rd .openPin) s fun u => (u.pd.get n).state = .ccFault ∧ (u.pd.get n).patternSince = max s.now t) ∧
  (∀ t n ma s, s.folioOn = true → (s.pd.get n).vconnOn = true → (s.pd.get n).contract.ma10 ≤ 300 → (s.pd.get n).eprMode = false → (s.pd.get n).eprAt = none →
    Completes (.vconnFault t n ma) s fun u => (u.pd.get n).vconnOn = false ∧ (u.pd.get n).vconnBarred = true ∧ (u.pd.get n).cable = 0 ∧ (u.pd.get n).vconnMa = ma)

/-- The capability, request and transition commands complete (R284, R287, R289, R299, R300): capabilities go out and are awaited, a GoodCRC moves the MessageID and the policy on, sendings are repeated up to three, a valid Request is accepted and another rejected, and the transition moves VBUS and ends with PS_RDY or a Hard Reset. -/
def Obligations.ContractCommandsComplete : Prop :=
  (∀ t n s, (s.pd.get n).state = .sendCaps → (s.pd.get n).detaching = false → (s.pd.get n).sendings = 0 → (s.pd.get n).firstReq = false → (s.pd.get n).awaiting = none →
      10 ≤ (s.power.get n).share →
    Completes (.sourceCapsSend t n) s fun u => (u.pd.get n).sendings = 1 ∧ (u.pd.get n).capsAt = max s.now t ∧ (u.pd.get n).thenDo = .negotiate ∧
      (u.pd.get n).sent = buildCaps s n (s.pd.get n).capsEpr ∧ (u.pd.get n).awaiting.isSome = true) ∧
  (∀ t n s, (s.pd.get n).state = .sendCaps → (s.pd.get n).detaching = false → 0 < (s.pd.get n).sendings → (s.pd.get n).sendings < 50 → (s.pd.get n).awaiting = none →
      (s.pd.get n).capsAt + ticksMs 150 ≤ max s.now t → 10 ≤ (s.power.get n).share →
    Completes (.sourceCapsRetry t n) s fun u => (u.pd.get n).sendings = (s.pd.get n).sendings + 1 ∧ (u.pd.get n).capsAt = max s.now t ∧ (u.pd.get n).state = .sendCaps) ∧
  (∀ t n m s, (s.pd.get n).awaiting = some m → (s.pd.get n).thenDo = .negotiate → (s.pd.get n).state = .sendCaps →
    Completes (.goodcrcReceived t n false) s fun u => (u.pd.get n).state = .negotiate ∧ (u.pd.get n).awaiting = none ∧ (u.pd.get n).msgIdTx = ((s.pd.get n).msgIdTx + 1) % 8) ∧
  (∀ t n m s, (s.pd.get n).awaitP = some m → Completes (.goodcrcReceived t n true) s fun u => (u.pd.get n).awaitP = none ∧ (u.pd.get n).msgIdTxP = ((s.pd.get n).msgIdTxP + 1) % 8 ∧ u.out = []) ∧
  (∀ t n m s, (s.pd.get n).awaiting = some m → (s.pd.get n).tries < 3 →
    Completes (.goodcrcTimeout t n false) s fun u => (u.pd.get n).tries = (s.pd.get n).tries + 1 ∧ u.out = [.pd n m] ∧ (u.pd.get n).awaiting = some m) ∧
  (∀ t n m s, (s.pd.get n).awaitP = some m → 3 ≤ (s.pd.get n).triesP → Completes (.goodcrcTimeout t n true) s fun u => (u.pd.get n).awaitP = none ∧ u.out = []) ∧
  (∀ t n s, (s.pd.get n).softAt = none → (s.pd.get n).swapAt = none → (s.pd.get n).state = .negotiate → (s.pd.get n).detaching = false → (s.pd.get n).awaiting = none →
      (s.pd.get n).stateSince + ticksMs 30 ≤ max s.now t → (s.pd.get n).hardResets = 0 →
    Completes (.senderResponseTimeout t n) s fun u => (u.pd.get n).state = .hardReset ∧ (u.pd.get n).hardResets = 1) ∧
  (∀ t n id rdo c s, hearsNew s n id → (s.pd.get n).state = .negotiate → (s.pd.get n).eprMode = false → (s.pd.get n).rev2 = false → requested (s.pd.get n) rdo = some c →
    Completes (.request t n id rdo false) s fun u => (u.pd.get n).state = .transition ∧ (u.pd.get n).next = some c ∧ (u.pd.get n).awaiting = some .accept ∧
      (u.pd.get n).lastRequest = max s.now t) ∧
  (∀ t n id rdo s, hearsNew s n id → (s.pd.get n).state = .negotiate → (s.pd.get n).eprMode = false → (s.pd.get n).contract.kind = 0 → requested (s.pd.get n) rdo = none →
    Completes (.request t n id rdo false) s fun u => (u.pd.get n).state = .sendCaps ∧ (u.pd.get n).awaiting = some .reject) ∧
  (∀ t n id rdo pdo c s, hearsNew s n id → (s.pd.get n).state = .ready → (s.pd.get n).eprMode = true → fld rdo 28 4 ≠ 0 → (s.pd.get n).sent.getD (fld rdo 28 4 - 1) 0 = pdo →
      requested (s.pd.get n) rdo = some c →
    Completes (.eprRequest t n id rdo pdo) s fun u => (u.pd.get n).state = .transition ∧ (u.pd.get n).next = some c ∧ (u.pd.get n).awaiting = some .accept) ∧
  (∀ t n c s, (s.pd.get n).next = some c → (s.pd.get n).state = .transition → (s.pd.get n).awaiting = none → (s.pd.get n).transitionStart = none →
      (s.pd.get n).acceptAcked + ticksMs 30 ≤ max s.now t →
    Completes (.transitionStart t n) s fun u => (u.pd.get n).transitionStart = some (max s.now t) ∧ (u.power.get n).vset = c.mv / 20 ∧ (u.power.get n).nominal = c.mv / 20) ∧
  (∀ t n v c k s, (s.pd.get n).next = some c → (s.pd.get n).transitionStart = some k → (s.pd.get n).state = .transition → inContractWindow c v = true → k + ticksMs 1 ≤ max s.now t →
    Completes (.psRdySend t n v) s fun u => (u.pd.get n).state = .ready ∧ (u.pd.get n).contract = c ∧ (u.pd.get n).next = none ∧ (u.power.get n).vbusMv = v) ∧
  (∀ t n c k s, (s.pd.get n).next = some c → (s.pd.get n).transitionStart = some k → (s.pd.get n).state = .transition → k + ticksMs (transitionBound (s.pd.get n) c) ≤ max s.now t →
      (s.pd.get n).hardResets = 0 →
    Completes (.transitionBoundMissed t n) s fun u => (u.pd.get n).state = .hardReset ∧ (u.pd.get n).contract = .none) ∧
  (∀ t n s, mayStartOwn (begin t s) n = true → (s.pd.get n).exitDue = true →
    Completes (.sinkTxWaitEnd t n) s fun u => u.out = [.pd n (.eprMode 5 0)] ∧ (u.pd.get n).exitDue = false ∧ (u.pd.get n).capsReady = true) ∧
  (∀ t n id s, hearsNew s n id → (s.pd.get n).reclaim = false → 10 ≤ (s.power.get n).share →
    Completes (.getSourceCap t n id) s fun u => (u.pd.get n).state = .sendCaps ∧ (u.pd.get n).sendings = 1 ∧ (u.pd.get n).awaiting.isSome = true)

/-- The replies to a sink's messages complete (R292, R293, R301, R302, R306): each new message is answered with its GoodCRC and with the message the table of R292 names, whose own GoodCRC is then awaited. -/
def Obligations.PdRepliesComplete : Prop :=
  let answers := fun (n : PortId) (m : PdMsg) (u : State) => u.out = [.pd n .goodCrc, .pd n m] ∧ (u.pd.get n).awaiting = some m
  (∀ t n s, hears s n = true → (s.pd.get n).state ≠ .transition → Completes (.softReset t n) s fun u => answers n .accept u ∧ (u.pd.get n).msgIdTx = 0 ∧ (u.pd.get n).thenDo = .caps) ∧
  (∀ t n id s, hearsNew s n id → (s.pd.get n).softAt.isSome = true → 10 ≤ (s.power.get n).share →
    Completes (.pdMessageUnexpected t n id .accept) s fun u => (u.pd.get n).softAt = none ∧ (u.pd.get n).state = .sendCaps) ∧
  (∀ t n id s, hearsNew s n id → (s.pd.get n).state = .ready → (s.pd.get n).rev2 = false → (s.pd.get n).contract.kind ≠ 0 → (s.pd.get n).contract.pos < 8 → (s.pd.get n).eprMode = false →
      eprEn s n = true → 100 < maxW s n →
    Completes (.eprModeEnter t n id) s fun u => answers n (.eprMode 2 0) u ∧ (u.pd.get n).thenDo = .eprDecide) ∧
  (∀ t n id s, hearsNew s n id → (s.pd.get n).eprMode = true → (s.pd.get n).contract.pos < 8 →
    Completes (.eprModeExit t n id) s fun u => (u.pd.get n).eprMode = false ∧ (u.pd.get n).contract = (s.pd.get n).contract) ∧
  (∀ t n id s, hearsNew s n id → Completes (.eprKeepalive t n id) s fun u => answers n .eprKeepAliveAck u ∧ (u.pd.get n).lastMsg = max s.now t) ∧
  (∀ t n id s, hearsNew s n id → (s.pd.get n).reclaim = false → eprEn s n = false → Completes (.eprGetSourceCap t n id) s fun u => answers n .notSupported u) ∧
  (∀ t n id s, hearsNew s n id → (s.pd.get n).reclaim = false → eprEn s n = true → (s.pd.get n).eprMode = false →
    Completes (.eprGetSourceCap t n id) s fun u => (∃ caps, answers n (.eprSourceCaps caps) u) ∧ (u.pd.get n).state = (s.pd.get n).state) ∧
  (∀ t n id s, hearsNew s n id → (s.pd.get n).rev2 = false → Completes (.getStatus t n id) s fun u => answers n (.status (powerStatusByte s n)) u) ∧
  (∀ t n id s, hearsNew s n id → (s.pd.get n).contract.kind < 2 → Completes (.getPpsStatus t n id) s fun u => answers n .notSupported u) ∧
  (∀ t n id s, hearsNew s n id → (s.pd.get n).rev2 = false → 2 ≤ (s.pd.get n).contract.kind →
    Completes (.getPpsStatus t n id) s fun u => answers n (.ppsStatus (s.power.get n).vbusMv (s.power.get n).ampsMa) u) ∧
  (∀ t n id s, hearsNew s n id → Completes (.getSourceInfo t n id) s fun u => answers n (.sourceInfo (maxW s n) (s.pd.get n).pdp (s.pd.get n).pdp) u) ∧
  (∀ t n id s, hearsNew s n id → Completes (.getRevision t n id) s fun u => answers n (.revision 0x32100000) u) ∧
  (∀ t n id s, hearsNew s n id → (s.pd.get n).rev2 = false → Completes (.getSourceCapExtended t n id) s fun u => u.out.length = 2 ∧ (u.pd.get n).awaiting.isSome = true) ∧
  (∀ t n id s, hearsNew s n id → (s.pd.get n).rev2 = false → Completes (.getManufacturerInfo t n id) s fun u => answers n (.manufacturerInfo (usbVid s) (usbPid s)) u) ∧
  (∀ t n id k s, hearsNew s n id → Completes (.unsupportedMessage t n id k) s fun u => answers n .notSupported u) ∧
  (∀ t n id s, hearsNew s n id → Completes (.ignoredMessage t n id .plain) s fun u => u.out = [.pd n .goodCrc] ∧ (u.pd.get n).awaiting = (s.pd.get n).awaiting) ∧
  (∀ t n id s, hearsNew s n id → 4750 ≤ (s.power.get n).vbusMv → (s.power.get n).vbusMv ≤ 5500 →
    Completes (.bist t n id .carrier) s fun u => u.out = [.pd n .goodCrc, .bist n true] ∧ (u.pd.get n).state = (s.pd.get n).state) ∧
  (∀ t n id s, hearsNew s n id → Completes (.discoverIdentity t n id) s fun u => answers n (.vdmAck (identityVdos s n)) u) ∧
  (∀ t n id s, hearsNew s n id → Completes (.structuredVdmNak t n id) s fun u => answers n .vdmNak u)

/-- Cables, swaps, resets, alerts and PD_CTRL complete (R238, R239, R278, R294, R295, R301–R305, R307): discovery is sent and answered, DR_Swaps are sent, answered and refused, a hard reset runs through its phases, keep-alive and PPS limits end in one, and software's requests have the effect R278 gives them. -/
def Obligations.PdSequencesComplete : Prop :=
  (∀ t n s, s.folioOn = true → (s.pd.get n).vconnOn = true → (s.pd.get n).raSeen = true → (s.pd.get n).discoveries = 0 → (s.pd.get n).vconnSince + ticksMs 50 ≤ max s.now t →
    Completes (.vconnStable t n) s fun u => (u.pd.get n).discovering = true ∧ (u.pd.get n).discoveries = 1 ∧ u.out = [.pd n .discoverIdentityCable]) ∧
  (∀ t n s, (s.pd.get n).discovering = true → (s.pd.get n).vconnOn = true → (s.pd.get n).awaitP = none → (s.pd.get n).discAt + ticksMs 45 ≤ max s.now t →
      20 ≤ (s.pd.get n).discoveries → (s.pd.get n).eprAt = none →
    Completes (.cableDiscoveryRetry t n) s fun u => (u.pd.get n).discovering = false ∧ u.out = []) ∧
  (∀ t n id vdo s, s.folioOn = true → (s.pd.get n).vconnOn = true → (s.pd.get n).discovering = true → (s.pd.get n).msgIdRxP ≠ some id.val → (s.pd.get n).eprAt = none →
      (s.pd.get n).eprMode = false →
    Completes (.cableIdentityAck t n id vdo) s fun u => (u.pd.get n).cable = classify vdo ∧ (u.pd.get n).cableVdo = vdo ∧ (u.pd.get n).discovering = false ∧ u.out = [.pd n .goodCrc]) ∧
  (∀ t s, (s.pd.get 0).swapDue = true → (s.pd.get 0).swapTries = 0 → (s.pd.get 0).ufp = false → (s.pd.get 0).swapOver = false → mayStartOwn (begin t s) 0 = true →
    Completes (.upDrSwapSend t) s fun u => u.out = [.pd 0 .drSwap] ∧ (u.pd.get 0).swapTries = 1 ∧ (u.pd.get 0).thenDo = .swap) ∧
  (∀ t k s, (s.pd.get 0).swapWait = some k → k + ticksMs 100 ≤ max s.now t → (s.pd.get 0).swapTries < 10 → (s.pd.get 0).ufp = false → (s.pd.get 0).swapOver = false →
      mayStartOwn (begin t s) 0 = true →
    Completes (.drSwapRetry t) s fun u => u.out = [.pd 0 .drSwap] ∧ (u.pd.get 0).swapTries = (s.pd.get 0).swapTries + 1 ∧ (u.pd.get 0).swapWait = none) ∧
  (∀ t id k s, hearsNew s 0 id → (s.pd.get 0).swapAt = some k → Completes (.drSwapAnswer t id .reject) s fun u => (u.pd.get 0).swapOver = true ∧ (u.pd.get 0).swapAt = none ∧ u.cvis = s.cvis) ∧
  (∀ t n id s, n.val ≠ 0 → hearsNew s n id → (s.pd.get n).state = .ready → swapRow s n = 2 →
    Completes (.drSwap t n id) s fun u => u.out = [.pd n .goodCrc, .pd n .reject] ∧ (u.pd.get n).ufp = (s.pd.get n).ufp) ∧
  (∀ t n s, sinkAttached s n = true → pdEn s n = true → (s.pd.get n).state = .ready → (s.pd.get n).hardResets = 0 →
    Completes (.hardResetReceived t n) s fun u => (u.pd.get n).state = .hardReset ∧ (u.pd.get n).hrPhase = .waitOff ∧ (u.pd.get n).hardResets = 1 ∧ (u.pd.get n).contract = .none) ∧
  (∀ t n s, (s.pd.get n).state = .hardReset → (s.pd.get n).hrPhase = .waitOff → (s.pd.get n).hrSince + ticksMs 30 ≤ max s.now t → (s.pd.get n).safe0 = false →
    Completes (.hardResetVbusOff t n) s fun u => (u.pd.get n).hrPhase = .waitSafe0 ∧ (u.pd.get n).vconnOn = false ∧ (u.power.get n).gateOn = false) ∧
  (∀ t n s, (s.pd.get n).state = .hardReset → (s.pd.get n).hrPhase = .recover → (s.pd.get n).hrSince + ticksMs 800 ≤ max s.now t → mayStart s n = false →
    Completes (.srcRecoverEnd t n) s fun u => (u.pd.get n).state = .powerOff ∧ (u.pd.get n).hrPhase = .idle ∧ (u.power.get n).shedOff = true) ∧
  (∀ t n s, (s.pd.get n).state = .hardReset → (s.pd.get n).hrPhase = .recover → (s.pd.get n).hrSince + ticksMs 800 ≤ max s.now t → mayStart s n = true → 10 ≤ (s.power.get n).share →
    Completes (.srcRecoverEnd t n) s fun u => u.pd = (restorePath (setPd (begin t s) n (fun d => { d with hrPhase := .idle, sendings := 0 })) n).pd ∧
      u.power = (restorePath (setPd (begin t s) n (fun d => { d with hrPhase := .idle, sendings := 0 })) n).power) ∧
  (∀ t n s, (s.pd.get n).state = .errorRecovery → (s.pd.get n).stateSince + ticksMs 30 ≤ max s.now t →
    Completes (.errorRecoveryEnd t n) s fun u => u.pd = (recomputeShares (toUnattached (begin t s) n)).pd ∧ u.power = (recomputeShares (toUnattached (begin t s) n)).power) ∧
  (∀ t n s, hears s n = true → (s.pd.get n).eprMode = true → (s.pd.get n).lastMsg + ticksMs 900 ≤ max s.now t → (s.pd.get n).hardResets = 0 →
    Completes (.eprKeepaliveTimeout t n) s fun u => (u.pd.get n).state = .hardReset ∧ (u.pd.get n).eprMode = false) ∧
  (∀ t n s, hears s n = true → (s.pd.get n).contract.kind = 2 → (s.pd.get n).lastRequest + ticksMs 13500 ≤ max s.now t → (s.pd.get n).hardResets = 0 →
    Completes (.ppsTimeout t n) s fun u => (u.pd.get n).state = .hardReset ∧ (u.pd.get n).contract = .none) ∧
  (∀ t n s, (s.pd.get n).alert = .waiting → sendsAlert s n = true → mayStartOwn (begin t s) n = true →
    Completes (.alertSend t n) s fun u => u.out = [.pd n (.alert 0x20000000)] ∧ (u.pd.get n).alert = .sent ∧ (u.pd.get n).thenDo = .alert) ∧
  (∀ t n k s, (s.pd.get n).lowSince = some k → 0 < reclaimS s n → explicitContract s n = true → (s.pd.get n).reclaim = false → k + ticksS (reclaimS s n) ≤ max s.now t →
    Completes (.reclaimTimer t n) s fun u => u.pd = (markShare (recomputeShares (setPd (begin t s) n (fun d => { d with reclaim := true, highSince := none }))) n).pd ∧
      u.power = (recomputeShares (setPd (begin t s) n (fun d => { d with reclaim := true, highSince := none }))).power) ∧
  (∀ t n k s, (s.pd.get n).highSince = some k → (s.pd.get n).reclaim = true → k + ticksS 1 ≤ max s.now t →
    Completes (.reclaimRestore t n) s fun u => u.pd = (unreclaim (begin t s) n).pd ∧ u.power = (unreclaim (begin t s) n).power) ∧
  (∀ t p n s, s.folioOn = true → privileged s p = true → Completes (.pdSendCaps t p n) s fun u => (u.pd.get n).capsPending = true ∧ (u.pd.get n).capsForced = true ∧ u.power = s.power) ∧
  (∀ t p n s, s.folioOn = true → privileged s p = true → sinkAttached s n = true → pdEn s n = true → (s.pd.get n).state = .ready → (s.pd.get n).hardResets = 0 →
    Completes (.pdHardReset t p n) s fun u => (u.pd.get n).state = .hardReset ∧ (u.pd.get n).hrPhase = .waitOff ∧ (u.pd.get n).contract = .none) ∧
  (∀ t p n s, s.folioOn = true → privileged s p = true → (s.pd.get n).state ≠ .disabled → (s.pd.get n).state ≠ .ccFault →
    Completes (.pdErrorRecovery t p n) s fun u => u.pd = (recomputeShares (errorRecovery (begin t s) n)).pd ∧ u.power = (recomputeShares (errorRecovery (begin t s) n)).power)

/-- The Margin commands complete (R264, R268, R269, R271, R273, R274, R276): a heartbeat goes to the board and to every enabled ring VI and the next is due HB_MS later, a read of the head opens the head notice, POP and SKIP move through the open notice, a flush empties the board queue and sets ABORTED over an open notice, an acknowledgement clears IRQ_PENDING, and the line is sampled after its release. -/
def Obligations.MarginCommandsComplete : Prop :=
  (∀ t s, s.folioOn = true → s.modes.booted = true → s.margin.hbDue ≤ max s.now t →
    Completes (.heartbeat t) s fun u => u.margin.hbDue = s.margin.hbDue + ticksMs (hbMs s) ∧ u.own = s.own ∧
      u.margin.queues = ((boardQueue :: toEnabled s).foldl heartbeatInto (begin t s)).margin.queues) ∧
  (∀ t p w n s, s.folioOn = true → privileged s p = true → p = bcReader s → s.margin.opened = some n →
    Completes (.bcHeadRead t p w) s fun u => u.margin.opened = some n ∧ u.margin.wordIndex = s.margin.wordIndex ∧ u.margin.queues = s.margin.queues ∧
      ∃ x, u.out = [.regData p x]) ∧
  (∀ t p w n s, s.folioOn = true → privileged s p = true → p = bcReader s → s.margin.opened = none → topNotice (s.margin.queues.get boardQueue).notices = some n →
    Completes (.bcHeadRead t p w) s fun u => u.margin.opened = some n ∧ u.margin.wordIndex = 0 ∧
      (u.margin.queues.get boardQueue).notices = (s.margin.queues.get boardQueue).notices.erase n) ∧
  (∀ t p w s, s.folioOn = true → privileged s p = true → p ≠ bcReader s → Completes (.bcHeadRead t p w) s fun u => u.out = [.regData p 0] ∧ u.margin.queues = s.margin.queues ∧ u.margin.opened = s.margin.opened) ∧
  (∀ t p n s, s.folioOn = true → privileged s p = true → p = bcReader s → s.margin.opened = some n → s.margin.wordIndex + 1 < n.words →
    Completes (.bcPop t p) s fun u => u.margin.opened = some n ∧ u.margin.wordIndex = s.margin.wordIndex + 1 ∧ u.margin.aborted = false ∧ u.margin.queues = s.margin.queues) ∧
  (∀ t p n s, s.folioOn = true → privileged s p = true → p = bcReader s → s.margin.opened = some n → n.words ≤ s.margin.wordIndex + 1 →
    Completes (.bcPop t p) s fun u => u.margin.opened = none ∧ u.margin.wordIndex = 0 ∧ u.margin.aborted = false ∧ u.margin.queues = s.margin.queues) ∧
  (∀ t p s, s.folioOn = true → privileged s p = true → p = bcReader s → Completes (.bcSkip t p) s fun u => u.margin.opened = none ∧ u.margin.queues = s.margin.queues ∧ u.margin.aborted = s.margin.aborted) ∧
  (∀ t p s, s.folioOn = true → privileged s p = true → p = bcReader s →
    Completes (.bcFlush t p) s fun u => (u.margin.queues.get boardQueue).notices = [] ∧ u.margin.opened = none ∧ u.margin.aborted = (s.margin.aborted || s.margin.opened.isSome) ∧
      (u.margin.queues.get boardQueue).lostSinceHb = (s.margin.queues.get boardQueue).lostSinceHb ∧ u.rcPf = (begin t s).rcPf) ∧
  (∀ t p s, s.folioOn = true → privileged s p = true → (s.margin.irqArmed = false ∨ irqCount s < irqThreshold s) →
    Completes (.bcIrqAck t p) s fun u => u.margin.irqPending = false ∧ u.pins.irqN = false ∧ u.margin.queues = s.margin.queues) ∧
  (∀ t s, s.folioOn = true → s.pins.irqN = false → Completes (.irqLineSample t true) s fun u => u.margin.lineHeld = true ∧ u.margin.queues = s.margin.queues) ∧
  (∀ t s, Completes (.irqLineHigh t) s fun u => u.margin.lineHeld = false ∧ u.margin.queues = s.margin.queues ∧ u.pal = s.pal)

/-- The recorder's commands complete (R367, R370, R371, R374, R375, R377, R380): the next record by R367 is programmed as far as the NOR went, a sector is recycled, a bucket gains its token, a period closes, freezing and unfreezing set FROZEN under RETURN_LOCK, a verification and a load start and end with their status, and the gap scan ends with its record. -/
def Obligations.RecorderCommandsComplete : Prop :=
  (∀ t r s, nextToPersist s.pal.ram = some r → canPersist s = true →
    Completes (.recordCommit t .done) s fun u => u.pal = (programRecord (begin t s) r 3).pal ∧ u.own = s.own) ∧
  (∀ t r k s, nextToPersist s.pal.ram = some r → canPersist s = true →
    Completes (.recordCommit t (.collapsed k)) s fun u => u.pal = (programRecord (begin t s) r k.val).pal) ∧
  (∀ t r i xs s, nextToPersist s.pal.ram = some r → canPersist s = true → sectorFor s (ringOf r.record.sev) (recBytes r.record) (r.record.seq.getD 0) = some (i, xs) →
    Completes (.recordCommit t .failed) s fun u => u.pal = (norFailure (setRing (begin t s) (ringOf r.record.sev) xs) (ringOf r.record.sev) i 0).pal) ∧
  (∀ t x s, nextToPersist s.pal.ram = none → Completes (.recordCommit t x) s fun u => u.pal = { s.pal with flushing := false }) ∧
  (∀ t g i s, canPersist s = true → s.pal.frozen = false → s.modes.mode ≠ .brownout → s.modes.mode ≠ .holdup → blankCount (ringSectors s g) ≤ 1 →
      oldestClosed (ringSectors s g) = some i →
    Completes (.sectorRecycle t g true) s fun u => u.pal.full = false ∧ u.own = s.own ∧ u.margin.queues = s.margin.queues) ∧
  (∀ t c n b s, s.pal.buckets.find? (fun b => b.code == c && b.port == n) = some b → b.nextGain ≤ max s.now t → b.tokens + 1 < bucketSize s b.sev →
    Completes (.bucketRefill t c n) s fun u =>
      u.pal.buckets = s.pal.buckets.filter (fun x => !(x.code == c && x.port == n)) ++ [{ b with tokens := b.tokens + 1, nextGain := max s.now t + bucketInterval s b.sev }] ∧
      u.pal.ram = s.pal.ram) ∧
  (∀ t c n b s, s.pal.buckets.find? (fun b => b.code == c && b.port == n) = some b → b.nextGain ≤ max s.now t → bucketSize s b.sev ≤ b.tokens + 1 → b.suppressed = 0 →
    Completes (.bucketRefill t c n) s fun u => u.pal.buckets = s.pal.buckets.filter (fun x => !(x.code == c && x.port == n)) ∧ u.pal.ram = s.pal.ram) ∧
  (∀ t s, s.folioOn = true → s.pal.sumDue ≤ max s.now t → s.pal.losses = [0, 0, 0, 0] →
    Completes (.summaryPeriodClose t) s fun u => u.pal.sumDue = s.pal.sumDue + ticksS (palSumS s) ∧ u.pal.ram = (closeSummaries (begin t s) [1, 2, 3, 4, 5, 6, 7]).pal.ram) ∧
  (∀ t p s, s.folioOn = true → privileged s p = true → Completes (.palFreeze t p) s fun u => u.pal.frozen = true ∧ u.pal.returnLock = s.pal.returnLock ∧ u.pal.high = s.pal.high) ∧
  (∀ t p s, s.folioOn = true → privileged s p = true → Completes (.palUnfreeze t p) s fun u => u.pal.frozen = s.pal.returnLock ∧ u.pal.returnLock = s.pal.returnLock ∧ u.pal.low = s.pal.low) ∧
  (∀ t p s, s.folioOn = true → privileged s p = true →
    Completes (.palVerify t p) s fun u => u.pal.readout.verifying = true ∧ u.pal.readout.verifyDone = false ∧ u.pal.readout.verifySector = rfld s 0x40110 0 13 ∧ u.pal.ram = s.pal.ram) ∧
  (∀ t x s, s.folioOn = true → s.pal.readout.verifying = true → s.pal.readout.verifyPass = false → s.pal.readout.verifyNotClosed = false →
      storeSector s s.pal.readout.verifySector = some x →
    Completes (.palVerifyDone t) s fun u => u.pal.readout.verifyDone = true ∧ u.pal.readout.verifying = false ∧
      u.pal.readout.verifyNotClosed = !(x.closed && !x.condemned) ∧
      u.pal.readout.verifyPass = (x.closed && !x.condemned && x.sealTag == Config.sealTag (sectorBytes x) && x.slots.all (fun y => y.intact))) ∧
  (∀ t p s, s.folioOn = true → privileged s p = true → Completes (.palLoad t p) s fun u => u.pal.readout.ready = false ∧ u.pal.readout.loading = true ∧ u.regs = s.regs) ∧
  (∀ t p x s, s.folioOn = true → privileged s p = true → ((retainedSeqs s).filter (fun x => decide ((reg s 0x40100).toNat < x))).min? = some x →
      RegFile.wf mapReset s.regs = true →
    Completes (.palNext t p) s fun u => reg u 0x40100 = loW x ∧ u.pal.readout.ready = false ∧ u.pal.readout.loading = true) ∧
  (∀ t p x s, s.folioOn = true → privileged s p = true → ((retainedSeqs s).filter (fun x => decide (x < (reg s 0x40100).toNat))).max? = some x →
      RegFile.wf mapReset s.regs = true →
    Completes (.palPrev t p) s fun u => reg u 0x40100 = loW x ∧ u.pal.readout.ready = false ∧ u.pal.readout.loading = true) ∧
  (∀ t r s, s.folioOn = true → s.pal.readout.loading = true → s.pal.ram.find? (fun r => r.record.seq == some (reg s 0x40100).toNat) = some r →
    Completes (.recordLoadReady t) s fun u => u.pal.readout.ready = true ∧ u.pal.readout.found = true ∧ u.pal.readout.fromNor = false ∧
      u.pal.readout.uncommitted = !r.persisted ∧ u.pal.readout.window = recWords r.record (recCrc r.record)) ∧
  (∀ t s, s.folioOn = true → s.pal.gapScanning = true → s.pal.scanDone = true → Completes (.gapScanComplete t) s fun u => u.pal.gapScanning = false ∧ u.pal.high = s.pal.high)

/-- The Blotter commands complete (R404–R409, R412): corrections count in their block and pass a threshold once in a window, an uncorrectable error is reported as class 2 at level 1 and contained, a watchdog restarts its engine or at the third within 600 s fails its cluster, temperatures above 115 °C hold a region at FMIN and below 105 °C release it, and an exit from Quarantine with no cause set leaves it. -/
def Obligations.BlotterCommandsComplete : Prop :=
  (∀ t x s, s.folioOn = true → s.modes.booted = true → s.blot.window.get (eccBlock x) + 1 ≤ eccThresh s →
    Completes (.eccCorrected t x) s fun u => u.blot.window = vmod s.blot.window (eccBlock x) (· + 1) ∧ u.blot.reported = s.blot.reported ∧ u.blot.faultValid = s.blot.faultValid ∧
      u.own = s.own ∧ u.power = s.power) ∧
  (∀ t x s, s.folioOn = true → s.modes.booted = true → eccThresh s < s.blot.window.get (eccBlock x) + 1 → s.blot.reported.get (eccBlock x) = false →
    Completes (.eccCorrected t x) s fun u => u.blot.reported.get (eccBlock x) = true ∧ u.blot.faultClass = 1 ∧ u.blot.faultLevel = 3 ∧ u.blot.faultValid = true ∧ u.own = s.own) ∧
  (∀ t s, s.folioOn = true → s.modes.booted = true → s.blot.windowEnd ≤ max s.now t →
    Completes (.eccWindow t) s fun u => u.blot = { s.blot with window := Vector.replicate 8 0, reported := Vector.replicate 8 false, windowEnd := s.blot.windowEnd + ticksS 3600 }) ∧
  (∀ t loc s, s.folioOn = true →
    Completes (.eccUncorrectable t (.descriptors loc)) s fun u => u.blot.descriptorsReloading = true ∧ u.blot.faultClass = 2 ∧ u.blot.faultLevel = 1 ∧
      u.blot.faultLoc = wordOf (loc % 2 ^ 40) ∧ u.own = s.own) ∧
  (∀ t v loc s, s.folioOn = true →
    Completes (.eccUncorrectable t (.keySram v loc)) s fun u => v.val ∈ u.blot.keysReloading ∧ u.blot.faultClass = 2 ∧ u.sealUnit = s.sealUnit) ∧
  (∀ t x s, s.folioOn = true →
    Completes (.eccUncorrectable t x) s fun u =>
      u.blot = (contain (faultReport (rcCount (begin t s) (eccReg (eccBlock x)) 16) (wordOf (eccLoc x), 1) 2 (if failsCluster s x then .critical else .warning) (eccPort s x)) x).blot) ∧
  (∀ t s, s.folioOn = true → Completes (.descriptorStoreReloaded t) s fun u => u.blot = { s.blot with descriptorsReloading := false }) ∧
  (∀ t v s, s.folioOn = true → Completes (.keyReloaded t v) s fun u => v.val ∉ u.blot.keysReloading ∧ u.blot.faultLoc = s.blot.faultLoc) ∧
  (∀ t e s, s.folioOn = true → s.modes.mode ≠ .standby → engineOn s e = true → thirdRestart (begin t s) e = false →
    Completes (.watchdogExpiry t e) s fun u => (u.engines.get e).restarting = true ∧ max s.now t ∈ (u.clusters.get (engineCluster e)).restarts ∧ u.blot.faultClass = 3) ∧
  (∀ t e s, s.folioOn = true → s.modes.mode ≠ .standby → engineOn s e = true → thirdRestart (begin t s) e = true →
    Completes (.watchdogExpiry t e) s fun u => (u.clusters.get (engineCluster e)).failed = true ∧ u.blot.causeCluster = true ∧ u.blot.faultClass = 5) ∧
  (∀ t e s, s.folioOn = true → (s.engines.get e).restarting = true → Completes (.engineRestartComplete t e) s fun u => (u.engines.get e).restarting = false ∧ u.clusters = s.clusters) ∧
  (∀ t q temp s, s.folioOn = true → s.modes.mode ≠ .standby → q.val ≠ 4 → 1840 < temp → temp ≤ 2000 →
    Completes (.temperatureExceeded t q temp) s fun u => (∀ c : Fin 24, clusterRegion c.val = q.val → (u.clusters.get c).heldMin = true) ∧
      (regionHeld s q.val = false → u.blot.faultClass = 7) ∧ u.blot.causeTemp = s.blot.causeTemp) ∧
  (∀ t q temp s, s.folioOn = true → s.modes.mode ≠ .standby → q.val ≠ 4 → 2000 < temp → maskBit s.blot.hotMask q.val = false →
    Completes (.temperatureExceeded t q temp) s fun u => u.blot = (regionHot (begin t s) q.val true).blot ∧ u.modes = (regionHot (begin t s) q.val true).modes) ∧
  (∀ t temp s, s.input.state ≠ .off → 2000 < temp → Completes (.temperatureExceeded t 4 temp) s fun u => u.blot = (reservoirHot (begin t s)).blot ∧ u.power = (reservoirHot (begin t s)).power) ∧
  (∀ t q temp s, q.val ≠ 4 → temp < 1680 →
    Completes (.temperatureCleared t q temp) s fun u => (∀ c : Fin 24, clusterRegion c.val = q.val → (u.clusters.get c).heldMin = false) ∧
      u.blot.hotMask = putBit s.blot.hotMask q.val false ∧ u.blot.causeTemp = decide (putBit s.blot.hotMask q.val false ≠ 0)) ∧
  (∀ t temp s, temp < 1680 → Completes (.temperatureCleared t 4 temp) s fun u => u.blot.hotMask = putBit s.blot.hotMask 4 false ∧ u.clusters = s.clusters) ∧
  (∀ t p s, s.folioOn = true → privileged s p = true → s.modes.mode = .quarantine → noCause s = true →
    Completes (.quarExit t p) s fun u => u.modes.mode = afterQuarantine s ∧ u.blot.portMask = 0 ∧ u.blot.inputQ = false ∧ u.blot.hosts = false ∧ u.blot.classic = false) ∧
  (∀ t p s, s.folioOn = true → privileged s p = true → (s.modes.mode ≠ .quarantine ∨ noCause s = false) →
    Completes (.quarExit t p) s fun u => u.modes = { s.modes with lastReq := 2 } ∧ u.blot = s.blot)

/-- The Seal commands and the Return gate complete (R414–R421): the floor rises to the running SVN, arming and disarming and the lapse after 600 s set RETURN_ARMED, a key operation starts unless one is in progress and ends with the keys of the committed set, the owner key is fused once, and the gate gives a nonce, takes an authorisation, and on its verification enters Return, releases its lock, or stalls. -/
def Obligations.SealCommandsComplete : Prop :=
  (∀ t p s, s.folioOn = true → privileged s p = true → Completes (.advanceFloor t p) s fun u => u.sealUnit = { s.sealUnit with floor := min 63 (max s.sealUnit.floor s.sealUnit.svn) }) ∧
  (∀ t p s, s.folioOn = true → privileged s p = true → Completes (.returnArm t p) s fun u => u.sealUnit = { s.sealUnit with armed := true, armedAt := max s.now t }) ∧
  (∀ t p s, s.folioOn = true → privileged s p = true → Completes (.returnDisarm t p) s fun u => u.sealUnit = { s.sealUnit with armed := false }) ∧
  (∀ t s, s.folioOn = true → s.sealUnit.armed = true → s.sealUnit.armedAt + ticksS 600 ≤ max s.now t → Completes (.returnArmLapse t) s fun u => u.sealUnit = { s.sealUnit with armed := false }) ∧
  (∀ t p v s, s.folioOn = true → privileged s p = true → s.sealUnit.keyOp = none →
    Completes (.keyLoad t p v) s fun u => u.sealUnit = { s.sealUnit with keyOp := some (.load v s.sealUnit.keyData.toList), keyResult := 0 }) ∧
  (∀ t p v s, s.folioOn = true → privileged s p = true → s.sealUnit.keyOp = none → Completes (.keyWithdraw t p v) s fun u => u.sealUnit = { s.sealUnit with keyOp := some (.withdraw v), keyResult := 0 }) ∧
  (∀ t p v o s, s.folioOn = true → privileged s p = true → s.sealUnit.keyOp = some o →
    Completes (.keyLoad t p v) s fun u => u.sealUnit = { s.sealUnit with keyResult := 2 }) ∧
  (∀ t p s, s.folioOn = true → privileged s p = true → s.sealUnit.keyOp = none → s.sealUnit.ownerKey = none →
    Completes (.fuseOwner t p) s fun u => u.sealUnit = { s.sealUnit with ownerKey := some s.sealUnit.keyData.toList, keyResult := 1 }) ∧
  (∀ t p k s, s.folioOn = true → privileged s p = true → s.sealUnit.keyOp = none → s.sealUnit.ownerKey = some k →
    Completes (.fuseOwner t p) s fun u => u.sealUnit = { s.sealUnit with keyResult := 4 }) ∧
  (∀ t v k s, s.sealUnit.keyOp = some (.load v k) → s.folioOn = true → sealOn s = true →
    Completes (.keySetCommitted t true) s fun u => u.sealUnit.keys = vmod s.sealUnit.keys v (fun _ => some k) ∧ u.sealUnit.keyResult = 1 ∧ u.sealUnit.keyOp = none ∧
      u.sealUnit.keyGeneration = s.sealUnit.keyGeneration + 1 ∧ u.sealUnit.keyData = Vector.replicate 8 0) ∧
  (∀ t v s, s.sealUnit.keyOp = some (.withdraw v) → s.folioOn = true → sealOn s = true →
    Completes (.keySetCommitted t true) s fun u => u.sealUnit.keys = vmod s.sealUnit.keys v (fun _ => none) ∧ u.sealUnit.keyResult = 1) ∧
  (∀ t o s, s.sealUnit.keyOp = some o → s.folioOn = true → sealOn s = true →
    Completes (.keySetCommitted t false) s fun u => u.sealUnit = { s.sealUnit with keyOp := none, keyResult := 3 } ∧ u.vis = s.vis) ∧
  (∀ t s, gateOn s = true → sealOn s = true → s.sealUnit.gateStalled = false →
    Completes (.gateNonceRead t) s fun u => ∃ k, u.sealUnit = { s.sealUnit with nonce := some k, nonceAt := max s.now t } ∧ k.length = 8 ∧
      u.out = [.gate k s.sealUnit.uniqueId s.sealUnit.armed] ∧ u.freeCtr = s.freeCtr + 8) ∧
  (∀ t s, gateOn s = true → sealOn s = true → s.sealUnit.gateStalled = true → Completes (.gateNonceRead t) s fun u => u.out = [.gateStall] ∧ u.sealUnit = s.sealUnit) ∧
  (∀ t k i c s, gateOn s = true → s.sealUnit.auth = none → s.sealUnit.gateStalled = false →
    Completes (.gateAuthorisation t k i c) s fun u => u.sealUnit.nonce = none ∧ u.out = [.gateAck] ∧
      u.sealUnit.auth = some (s.sealUnit.nonce == some k && decide (max s.now t < s.sealUnit.nonceAt + ticksS 60), i, c)) ∧
  (∀ t i s, s.sealUnit.auth = some (true, i, 1) → gateOn s = true → sealOn s = true → i = s.sealUnit.uniqueId → returnOpen s = true →
    Completes (.gateVerifyDone t true) s fun u => u.pal.returnLock = true ∧ u.pal.frozen = true ∧ u.sealUnit.keys = Vector.replicate 64 none ∧ u.nor.keys0 = none ∧ u.nor.keys1 = none ∧
      u.modes.mode = .ret ∧ u.modes.prev = s.modes.mode) ∧
  (∀ t i s, s.sealUnit.auth = some (true, i, 2) → gateOn s = true → sealOn s = true → i = s.sealUnit.uniqueId →
    Completes (.gateVerifyDone t true) s fun u => u.pal.returnLock = false ∧ u.pal.frozen = false ∧ u.modes = s.modes ∧ u.sealUnit = { s.sealUnit with auth := none }) ∧
  (∀ t a s, s.sealUnit.auth = some a → gateOn s = true → sealOn s = true →
    Completes (.gateVerifyDone t false) s fun u => u.sealUnit = { s.sealUnit with auth := none, gateStalled := true, nonce := none } ∧ u.blot.faultClass = 9 ∧ u.modes = s.modes) ∧
  (∀ t k s, s.sealUnit.nonce = some k → s.sealUnit.nonceAt + ticksS 60 ≤ max s.now t → Completes (.gateNonceExpiry t) s fun u => u.sealUnit = { s.sealUnit with nonce := none } ∧ u.out = [])

/-- The frame of the commands of the card input, the power paths and the loops: a command leaves every part it does not touch as it was. -/
def Obligations.PowerCommandsFrame : Prop :=
  ∀ (c : Instr) (s u : State), cmdGroup c = .power → exec c s = .next u → ∀ p, p ∉ touches c → p.same s u

/-- The frame of the commands of modes, boot, images, registers, recorder, notices, faults and keys: a command leaves every part it does not touch as it was. -/
def Obligations.BoardCommandsFrame : Prop :=
  ∀ (c : Instr) (s u : State), cmdGroup c = .board → exec c s = .next u → ∀ p, p ∉ touches c → p.same s u

/-- The frame of the commands of ownership, ring VIs, rings and host commands: a command leaves every part it does not touch as it was. -/
def Obligations.HostCommandsFrame : Prop :=
  ∀ (c : Instr) (s u : State), cmdGroup c = .host → exec c s = .next u → ∀ p, p ∉ touches c → p.same s u

/-- The frame of the commands of the buses, Inkwell and the transports: a command leaves every part it does not touch as it was. -/
def Obligations.BusCommandsFrame : Prop :=
  ∀ (c : Instr) (s u : State), cmdGroup c = .bus → exec c s = .next u → ∀ p, p ∉ touches c → p.same s u

/-- The frame of the commands of the classic hub and power delivery: a command leaves every part it does not touch as it was. -/
def Obligations.HubAndContractCommandsFrame : Prop :=
  ∀ (c : Instr) (s u : State), cmdGroup c = .usb → exec c s = .next u → ∀ p, p ∉ touches c → p.same s u

/-- A command that concerns one port, slot, lane or engine leaves its neighbours as they were: the events of a power path and of a port's CC pins every other path and contract, a bus's events every other bus, a lease's expiry the ownership of every other port, a slot's congestion events every other slot, a lane's step every other lane, an engine's return every other engine. -/
def Obligations.NeighboursStayApart : Prop :=
  (∀ t (n m : PortId) isp mid cc1 cc2 vbus amps (s u : State), m ≠ n →
    (exec (.vbusSwitchOn t n isp) s = .next u ∨ exec (.vsafe0vReached t n vbus) s = .next u ∨ exec (.preswitchCheckDone t n isp mid) s = .next u
      ∨ exec (.ccPatternAppear t n cc1 cc2) s = .next u ∨ exec (.ccPatternLost t n cc1 cc2) s = .next u ∨ exec (.detachDebounceStart t n cc1 cc2) s = .next u
      ∨ exec (.converterReady t n isp) s = .next u ∨ exec (.vsetTrim t n isp) s = .next u ∨ exec (.ppsCurrentLimitStep t n amps) s = .next u
      ∨ exec (.portRetryClear t n) s = .next u ∨ exec (.fetClearWindowTimeout t n) s = .next u) →
    u.power.get m = s.power.get m ∧ u.pd.get m = s.pd.get m) ∧
  (∀ t (n m : PortId) (s u : State), m ≠ n → (exec (.portSlewComplete t n) s = .next u ∨ exec (.lpmRefusalHoldExpiry t n) s = .next u) → u.nibs.get m = s.nibs.get m) ∧
  (∀ t (n m : PortId) (s u : State), m ≠ n → exec (.leaseExpiry t n) s = .next u → u.own.get m = s.own.get m) ∧
  (∀ t (q r : Fin 128) (s u : State), r ≠ q → (exec (.cnpReceived t q) s = .next u ∨ exec (.ccRateIncrease t q) s = .next u) → u.qps.get r = s.qps.get r) ∧
  (∀ t (l m : Fin 23) k up h w (s u : State), m ≠ l → exec (.eqAdaptStep t l k up h w) s = .next u → u.lanes.get m = s.lanes.get m) ∧
  (∀ t (e f : Fin 96) (s u : State), f ≠ e → exec (.engineRestartComplete t e) s = .next u → u.engines.get f = s.engines.get f)

/-- The CRC-8 (R37): initial value 0, each byte folded into the top of the register and eight steps of the polynomial 0x07, most significant bit first, no final XOR, and 0xF4 over the ASCII bytes 123456789. -/
def Obligations.CrcEightFollowsItsPolynomial : Prop :=
  crc8 [] = 0 ∧
  (∀ (bs : List Byte) (b : Byte), crc8 (bs ++ [b]) = (List.range 8).foldl (fun (r : Byte) _ => if r.msb then (r <<< 1) ^^^ 0x07 else r <<< 1) (crc8 bs ^^^ b)) ∧
  crc8 [0x31, 0x32, 0x33, 0x34, 0x35, 0x36, 0x37, 0x38, 0x39] = 0xF4

/-- A read of an RC register (R48): what is stamped in a tick is not in what a read of that tick returns but in what a read of any later tick returns, folded into what was held; a read returns what its reader's copy held at the start of its tick and leaves zero, with what its own tick stamps counting towards the next read; and counters saturate at all ones. -/
def Obligations.RcReadsReturnWhatEarlierTicksStamped : Prop :=
  (∀ s p a b v, rcValue (rcAdd s a v) p b = rcValue s p b) ∧
  (∀ t s p b, ¬ s.now < t → rcValue (begin t s) p b = rcValue s p b) ∧
  (∀ t s b, CanonicalStores s → s.now < t →
    rcValue (begin t s) .spi b = (match s.rcSpi.fresh.find b with
      | some x => rcMerge (rcKind b) (rcValue s .spi b) x
      | none => rcValue s .spi b) ∧
    rcValue (begin t s) .pf b = (match s.rcPf.fresh.find b with
      | some x => rcMerge (rcKind b) (rcValue s .pf b) x
      | none => rcValue s .pf b)) ∧
  (∀ t p a r s, CanonicalStores s → s.folioOn = true → findRow a.toNat = some r → r.acc = .rc → denied s p a.toNat = false → unreachedV s a.toNat = false →
    domainOff s a.toNat = false →
    Completes (.rcRead t p a) s fun u => u.out = [.regData p (rcValue (begin t s) p a.toNat)] ∧ rcValue u p a.toNat = 0 ∧
      u.rcSpi.fresh = (begin t s).rcSpi.fresh ∧ u.rcPf.fresh = (begin t s).rcPf.fresh ∧ (∀ b, b ≠ a.toNat → rcValue u p b = rcValue (begin t s) p b)) ∧
  (∀ (ws : List Nat) (i : Nat) (h : i < ws.length) (x y : Word), ws.sum ≤ 32 →
    fld (rcMerge (.counts ws) x y) (ws.take i).sum ws[i] = min (2 ^ ws[i] - 1) (fld x (ws.take i).sum ws[i] + fld y (ws.take i).sum ws[i]))

/-- While a heartbeat enters a queue, an earlier heartbeat in it that is not open goes (R266): after a heartbeat no recipient's queue holds two, the open notice of the board queue stays open, and where the new one fits nothing is counted as lost. -/
def Obligations.HeartbeatsReplaceEarlierOnes : Prop :=
  (∀ t (s u : State) (q : Fin 65), s.folioOn = true → s.modes.booted = true → s.margin.hbDue ≤ max s.now t → q ∈ boardQueue :: toEnabled s →
    exec (.heartbeat t) s = .next u → ((u.margin.queues.get q).notices.filter (fun n => n.type == 0x01)).length ≤ 1 ∧ u.margin.opened = s.margin.opened) ∧
  (∀ (s : State) (q : Fin 65), queueWords s q + 4 ≤ queueSize q →
    (heartbeatInto s q).rcSpi = s.rcSpi ∧ (heartbeatInto s q).rcPf = s.rcPf ∧ (heartbeatInto s q).pal = s.pal ∧
    (∀ n ∈ (s.margin.queues.get q).notices, n.type ≠ 0x01 → n ∈ ((heartbeatInto s q).margin.queues.get q).notices))

/-- The head of the board queue (R268): the open notice if there is one, otherwise the oldest notice of the highest priority waiting; a later notice of a higher priority becomes the head unless a notice is open; and reading a head register while none is open opens the head notice. -/
def Obligations.TheBoardQueueHasOneHead : Prop :=
  (∀ s n, s.margin.opened = some n → boardHead s = some (n, s.margin.wordIndex)) ∧
  (∀ s, s.margin.opened = none → (s.margin.queues.get boardQueue).notices = [] → boardHead s = none) ∧
  (∀ (s : State) (older newer : List Notice) n, s.margin.opened = none → (s.margin.queues.get boardQueue).notices = older ++ n :: newer →
    (∀ m ∈ older, m.prio.code < n.prio.code) → (∀ m ∈ newer, m.prio.code ≤ n.prio.code) → boardHead s = some (n, 0)) ∧
  (∀ (s : State) n, queueWords s boardQueue + n.words ≤ queueSize boardQueue →
    (s.margin.opened.isSome = true → boardHead (enterQueue s boardQueue n).1 = boardHead s) ∧
    (s.margin.opened = none → (∀ m ∈ (s.margin.queues.get boardQueue).notices, m.prio.code < n.prio.code) → boardHead (enterQueue s boardQueue n).1 = some (n, 0))) ∧
  (∀ t p w n s, s.folioOn = true → privileged s p = true → p = bcReader s → s.margin.opened = none → boardHead s = some (n, 0) →
    Completes (.bcHeadRead t p w) s fun u => u.margin.opened = some n ∧ u.margin.wordIndex = 0)

/-- The board interrupt (R273). At the end of every command: reaching THRESHOLD while armed sets IRQ_PENDING and disarms, standing below it arms, standing at or above it unarmed changes nothing. A CRITICAL notice that enters the board queue sets IRQ_PENDING whatever IRQ_ARMED reads, an acknowledgement clears it, IRQ_N is driven exactly while IRQ_PENDING and IRQ_EN are 1 with Folio powered, and at reset MARGIN_STATUS reads 0. -/
def Obligations.TheBoardInterruptFollowsItsRules : Prop :=
  (∀ v : State, v.folioOn = true → v.margin.irqArmed = true → irqThreshold v ≤ irqCount v →
    (settle v).margin.irqPending = true ∧ (settle v).margin.irqArmed = false) ∧
  (∀ v : State, v.folioOn = true → irqCount v < irqThreshold v → (settle v).margin.irqArmed = true ∧ (settle v).margin.irqPending = v.margin.irqPending) ∧
  (∀ v : State, v.margin.irqArmed = false → irqThreshold v ≤ irqCount v → (settle v).margin = v.margin) ∧
  (∀ (c : Instr) (s u : State), exec c s = .next u →
    u.pins.irqN = (u.folioOn && u.margin.irqPending && rfld u 0x50004 18 1 == 1) ∧ (u.folioOn = true → u.margin.irqArmed = decide (irqCount u < irqThreshold u))) ∧
  (∀ (s : State) n, n.prio = .critical → (enterQueue s boardQueue n).2 = true → (enterQueue s boardQueue n).1.margin.irqPending = true) ∧
  (∀ s : State, (irqAck s).margin.irqPending = false ∧ (irqAck s).margin.irqArmed = s.margin.irqArmed) ∧
  regView State.reset 0x5000C = 0

/-- The rings of the recorder's store (R369): INFO and NOTICE records go to the low ring, WARNING and CRITICAL to the high one, and recycling takes sectors of its own ring only: recycling the low ring leaves the high one as it was, and recycling the high one leaves every record of the low one. -/
def Obligations.EachRingRecyclesOnlyItsOwn : Prop :=
  (∀ (s : State) (r : RamRec) k, 2 ≤ r.record.sev.code → (programRecord s r k).pal.low = s.pal.low) ∧
  (∀ (s : State) (r : RamRec) k, r.record.sev.code < 2 → (programRecord s r k).pal.high = s.pal.high) ∧
  (∀ t ok (s u : State), exec (.sectorRecycle t .low ok) s = .next u → u.pal.high = s.pal.high) ∧
  (∀ t ok (s u : State), exec (.sectorRecycle t .high ok) s = .next u → ∀ x ∈ ringRecs s.pal.low, x ∈ ringRecs u.pal.low)

/-- The owner that a port's decision gives it (R70), for a port that can have one. The last assignment wins if its target is eligible or none, and otherwise changes nothing; without one, the holder or, where it lost the port in this tick, an eligible SUCCESSOR stands against the valid claim of the highest rank, the lowest owner code on equal rank, which wins where nobody stands or it ranks higher; and a port left without an owner returns home where RECLAIM_HOME is set and HOME is eligible. A port in SERVICE or BARRED keeps what it has. -/
def Obligations.DecisionsGiveThePortToItsOwner : Prop :=
  (∀ t n s, scribeRuns s = true → (s.own.get n).events ≠ [] → ((s.own.get n).state = .service ∨ (s.own.get n).state = .barred) →
    Completes (.portDecision t n) s fun u => (u.own.get n).owner = (s.own.get n).owner) ∧
  (∀ t n s w, scribeRuns s = true → (s.own.get n).state ≠ .service → (s.own.get n).state ≠ .barred → (assignsOf (s.own.get n).events).getLast? = some w →
    Completes (.portDecision t n) s fun u => (u.own.get n).owner = if w = .none ∨ eligibleFor (begin t s) w n = true then w else (s.own.get n).owner) ∧
  (∀ t n s stays, scribeRuns s = true → (s.own.get n).events ≠ [] → (s.own.get n).state ≠ .service → (s.own.get n).state ≠ .barred →
    assignsOf (s.own.get n).events = [] →
    stays = (if (lossOf (s.own.get n).events (s.own.get n).owner).isNone then (s.own.get n).owner
      else if ownSuccessor s n ≠ .none ∧ ownSuccessor s n ≠ (s.own.get n).owner ∧ eligibleFor (begin t s) (ownSuccessor s n) n = true then ownSuccessor s n else .none) →
    (∀ w ∈ claimsOf (s.own.get n).events, (w = (s.own.get n).owner ∧ (lossOf (s.own.get n).events (s.own.get n).owner).isNone = true) ∨ claimReason (begin t s) n w ≠ 0) →
    Completes (.portDecision t n) s fun u =>
      (u.own.get n).owner = if stays = .none ∧ reclaimHome s n = true ∧ eligibleFor (begin t s) (ownHome s n) n = true then ownHome s n else stays) ∧
  (∀ t n s w stays, scribeRuns s = true → (s.own.get n).state ≠ .service → (s.own.get n).state ≠ .barred → assignsOf (s.own.get n).events = [] →
    stays = (if (lossOf (s.own.get n).events (s.own.get n).owner).isNone then (s.own.get n).owner
      else if ownSuccessor s n ≠ .none ∧ ownSuccessor s n ≠ (s.own.get n).owner ∧ eligibleFor (begin t s) (ownSuccessor s n) n = true then ownSuccessor s n else .none) →
    w ∈ claimsOf (s.own.get n).events → claimReason (begin t s) n w = 0 → ¬ (w = (s.own.get n).owner ∧ (lossOf (s.own.get n).events (s.own.get n).owner).isNone = true) →
    (∀ x ∈ claimsOf (s.own.get n).events, x ≠ w → claimReason (begin t s) n x = 0 →
      ¬ (x = (s.own.get n).owner ∧ (lossOf (s.own.get n).events (s.own.get n).owner).isNone = true) → claimRank s x < claimRank s w ∨ (claimRank s x = claimRank s w ∧ w.code < x.code)) →
    Completes (.portDecision t n) s fun u => (u.own.get n).owner = if stays = .none ∨ claimRank s stays < claimRank s w then w else stays)

/-- A command given through a PRIV register by a master that is not privileged has no effect but its denial (R44): the denial is counted in PRIV_DENY_COUNT and recorded, and every part of the block but the recorder and the copies of the RC registers is as it was; a read returns zero. The SPI target is always privileged, the PF while PF_TRUST is 1, nobody else. -/
def Obligations.DeniedCommandsHaveNoEffect : Prop :=
  (∀ s p, privileged s p = (p == .spi || (p == .pf && rfld s 0x30 0 1 == 1))) ∧
  (∀ (c : Instr) t p a (s u : State), privilegedBy c = some (t, p, a) → s.folioOn = true → privileged s p = false → exec c s = .next u →
    (∀ q, q ∉ [Piece.rc, Piece.pal, Piece.out] → q.same s u) ∧ u.pal = (privDenied (begin t s) p a).pal ∧
    u.rcSpi = (begin t s).rcSpi.add 0x108 1 ∧ u.rcPf = (begin t s).rcPf.add 0x108 1 ∧ (u.out = [] ∨ u.out = [.regData p 0]))
end

