-- ==== Sys2Proof/Laws/State.lean ====
section
/-! SUPPORT. The fields of a state through a choice, a fold and the frames of commands, and the three groups of fields the frame lemmas speak of. -/

namespace Sys2Proof.Machine

/-- The block as a whole is as it was: time, the queue, the link, the clusters, the image slots, the transports and the card input. -/
@[simp, reducible] def KeepsBoard (u s : State) : Prop :=
  u.lanes = s.lanes ∧ u.prp = s.prp ∧ u.writes = s.writes ∧ u.pairs = s.pairs ∧ u.trustBySpi = s.trustBySpi ∧ u.staged = s.staged ∧ u.pending = s.pending ∧ u.folioOn = s.folioOn ∧ u.strokeBase = s.strokeBase ∧ u.resyncAt = s.resyncAt ∧ u.now = s.now ∧ u.trustConfigured = s.trustConfigured ∧ u.regionTemp = s.regionTemp ∧ u.vauxOk = s.vauxOk ∧ u.pins = s.pins ∧ u.link = s.link ∧ u.engines = s.engines ∧ u.clusters = s.clusters ∧ u.nor = s.nor ∧ u.ptp = s.ptp ∧ u.img = s.img ∧ u.eth = s.eth ∧ u.sealUnit = s.sealUnit ∧ u.input = s.input ∧ u.disc = s.disc ∧ u.timelines = s.timelines ∧ u.localEvents = s.localEvents ∧ u.localLost = s.localLost ∧ u.rubric = s.rubric

/-- The ports and what stands on them are as they were: devices, classic views, power, contracts, the mode, the fault state and the register store. -/
@[simp, reducible] def KeepsPorts (u s : State) : Prop :=
  u.ligs = s.ligs ∧ u.blot = s.blot ∧ u.freeCtr = s.freeCtr ∧ u.regs = s.regs ∧ u.modes = s.modes ∧ u.func = s.func ∧ u.cports = s.cports ∧ u.devices = s.devices ∧ u.cvis = s.cvis ∧ u.cviews = s.cviews ∧ u.power = s.power ∧ u.pd = s.pd

/-- Ownership, endpoints, buses, slots, buffers and ring VIs are as they were. -/
@[simp, reducible] def KeepsHosts (u s : State) : Prop :=
  u.own = s.own ∧ u.eps = s.eps ∧ u.nibs = s.nibs ∧ u.qps = s.qps ∧ u.ink = s.ink ∧ u.vis = s.vis

theorem foldl_proj {α β : Type} (p : State → α) (g : State → β → State) (h : ∀ u x, p (g u x) = p u) (l : List β) (s : State) : p (l.foldl g s) = p s := by
  induction l generalizing s with
  | nil => rfl
  | cons a l ih => exact (ih (g s a)).trans (h s a)

theorem foldlPair_proj {α β γ : Type} (p : State → α) (g : State × γ → β → State × γ) (h : ∀ u x, p (g u x).1 = p u.1) (l : List β) (s : State × γ) : p (l.foldl g s).1 = p s.1 := by
  induction l generalizing s with
  | nil => rfl
  | cons a l ih => exact (ih (g s a)).trans (h s a)

theorem when_proj {α : Type} (p : State → α) (c : Bool) (g : State → State) (s : State) (h : p (g s) = p s) : p (when c s g) = p s := by
  unfold when; split
  · exact h
  · rfl

@[simp] theorem ite_now (c : Prop) [Decidable c] (a b : State) : (if c then a else b).now = if c then a.now else b.now := apply_ite State.now c a b
@[simp] theorem foldl_now {β : Type} (g : State → β → State) (h : ∀ u x, (g u x).now = u.now) (l : List β) (s : State) : (l.foldl g s).now = s.now := foldl_proj State.now g h l s
@[simp] theorem foldlPair_now {β γ : Type} (g : State × γ → β → State × γ) (h : ∀ u x, (g u x).1.now = u.1.now) (l : List β) (s : State × γ) : (l.foldl g s).1.now = s.1.now := foldlPair_proj State.now g h l s
@[simp] theorem when_now (c : Bool) (g : State → State) (s : State) (h : (g s).now = s.now) : (when c s g).now = s.now := when_proj State.now c g s h
@[simp] theorem eachPort_now (g : State → PortId → State) (s : State) (h : ∀ u x, (g u x).now = u.now) : (eachPort s g).now = s.now := foldl_proj State.now g h _ s
@[simp] theorem eachRing_now (g : State → RingId → State) (s : State) (h : ∀ u x, (g u x).now = u.now) : (eachRing s g).now = s.now := foldl_proj State.now g h _ s
@[simp] theorem eachClassic_now (g : State → ClassicId → State) (s : State) (h : ∀ u x, (g u x).now = u.now) : (eachClassic s g).now = s.now := foldl_proj State.now g h _ s

@[simp] theorem ite_pending (c : Prop) [Decidable c] (a b : State) : (if c then a else b).pending = if c then a.pending else b.pending := apply_ite State.pending c a b
@[simp] theorem foldl_pending {β : Type} (g : State → β → State) (h : ∀ u x, (g u x).pending = u.pending) (l : List β) (s : State) : (l.foldl g s).pending = s.pending := foldl_proj State.pending g h l s
@[simp] theorem foldlPair_pending {β γ : Type} (g : State × γ → β → State × γ) (h : ∀ u x, (g u x).1.pending = u.1.pending) (l : List β) (s : State × γ) : (l.foldl g s).1.pending = s.1.pending := foldlPair_proj State.pending g h l s
@[simp] theorem when_pending (c : Bool) (g : State → State) (s : State) (h : (g s).pending = s.pending) : (when c s g).pending = s.pending := when_proj State.pending c g s h
@[simp] theorem eachPort_pending (g : State → PortId → State) (s : State) (h : ∀ u x, (g u x).pending = u.pending) : (eachPort s g).pending = s.pending := foldl_proj State.pending g h _ s
@[simp] theorem eachRing_pending (g : State → RingId → State) (s : State) (h : ∀ u x, (g u x).pending = u.pending) : (eachRing s g).pending = s.pending := foldl_proj State.pending g h _ s
@[simp] theorem eachClassic_pending (g : State → ClassicId → State) (s : State) (h : ∀ u x, (g u x).pending = u.pending) : (eachClassic s g).pending = s.pending := foldl_proj State.pending g h _ s

@[simp] theorem ite_out (c : Prop) [Decidable c] (a b : State) : (if c then a else b).out = if c then a.out else b.out := apply_ite State.out c a b
@[simp] theorem foldl_out {β : Type} (g : State → β → State) (h : ∀ u x, (g u x).out = u.out) (l : List β) (s : State) : (l.foldl g s).out = s.out := foldl_proj State.out g h l s
@[simp] theorem foldlPair_out {β γ : Type} (g : State × γ → β → State × γ) (h : ∀ u x, (g u x).1.out = u.1.out) (l : List β) (s : State × γ) : (l.foldl g s).1.out = s.1.out := foldlPair_proj State.out g h l s
@[simp] theorem when_out (c : Bool) (g : State → State) (s : State) (h : (g s).out = s.out) : (when c s g).out = s.out := when_proj State.out c g s h
@[simp] theorem eachPort_out (g : State → PortId → State) (s : State) (h : ∀ u x, (g u x).out = u.out) : (eachPort s g).out = s.out := foldl_proj State.out g h _ s
@[simp] theorem eachRing_out (g : State → RingId → State) (s : State) (h : ∀ u x, (g u x).out = u.out) : (eachRing s g).out = s.out := foldl_proj State.out g h _ s
@[simp] theorem eachClassic_out (g : State → ClassicId → State) (s : State) (h : ∀ u x, (g u x).out = u.out) : (eachClassic s g).out = s.out := foldl_proj State.out g h _ s

@[simp] theorem ite_freeCtr (c : Prop) [Decidable c] (a b : State) : (if c then a else b).freeCtr = if c then a.freeCtr else b.freeCtr := apply_ite State.freeCtr c a b
@[simp] theorem foldl_freeCtr {β : Type} (g : State → β → State) (h : ∀ u x, (g u x).freeCtr = u.freeCtr) (l : List β) (s : State) : (l.foldl g s).freeCtr = s.freeCtr := foldl_proj State.freeCtr g h l s
@[simp] theorem foldlPair_freeCtr {β γ : Type} (g : State × γ → β → State × γ) (h : ∀ u x, (g u x).1.freeCtr = u.1.freeCtr) (l : List β) (s : State × γ) : (l.foldl g s).1.freeCtr = s.1.freeCtr := foldlPair_proj State.freeCtr g h l s
@[simp] theorem when_freeCtr (c : Bool) (g : State → State) (s : State) (h : (g s).freeCtr = s.freeCtr) : (when c s g).freeCtr = s.freeCtr := when_proj State.freeCtr c g s h
@[simp] theorem eachPort_freeCtr (g : State → PortId → State) (s : State) (h : ∀ u x, (g u x).freeCtr = u.freeCtr) : (eachPort s g).freeCtr = s.freeCtr := foldl_proj State.freeCtr g h _ s
@[simp] theorem eachRing_freeCtr (g : State → RingId → State) (s : State) (h : ∀ u x, (g u x).freeCtr = u.freeCtr) : (eachRing s g).freeCtr = s.freeCtr := foldl_proj State.freeCtr g h _ s
@[simp] theorem eachClassic_freeCtr (g : State → ClassicId → State) (s : State) (h : ∀ u x, (g u x).freeCtr = u.freeCtr) : (eachClassic s g).freeCtr = s.freeCtr := foldl_proj State.freeCtr g h _ s

@[simp] theorem ite_limits (c : Prop) [Decidable c] (a b : State) : (if c then a else b).limits = if c then a.limits else b.limits := apply_ite State.limits c a b
@[simp] theorem foldl_limits {β : Type} (g : State → β → State) (h : ∀ u x, (g u x).limits = u.limits) (l : List β) (s : State) : (l.foldl g s).limits = s.limits := foldl_proj State.limits g h l s
@[simp] theorem foldlPair_limits {β γ : Type} (g : State × γ → β → State × γ) (h : ∀ u x, (g u x).1.limits = u.1.limits) (l : List β) (s : State × γ) : (l.foldl g s).1.limits = s.1.limits := foldlPair_proj State.limits g h l s
@[simp] theorem when_limits (c : Bool) (g : State → State) (s : State) (h : (g s).limits = s.limits) : (when c s g).limits = s.limits := when_proj State.limits c g s h
@[simp] theorem eachPort_limits (g : State → PortId → State) (s : State) (h : ∀ u x, (g u x).limits = u.limits) : (eachPort s g).limits = s.limits := foldl_proj State.limits g h _ s
@[simp] theorem eachRing_limits (g : State → RingId → State) (s : State) (h : ∀ u x, (g u x).limits = u.limits) : (eachRing s g).limits = s.limits := foldl_proj State.limits g h _ s
@[simp] theorem eachClassic_limits (g : State → ClassicId → State) (s : State) (h : ∀ u x, (g u x).limits = u.limits) : (eachClassic s g).limits = s.limits := foldl_proj State.limits g h _ s

@[simp] theorem ite_folioOn (c : Prop) [Decidable c] (a b : State) : (if c then a else b).folioOn = if c then a.folioOn else b.folioOn := apply_ite State.folioOn c a b
@[simp] theorem foldl_folioOn {β : Type} (g : State → β → State) (h : ∀ u x, (g u x).folioOn = u.folioOn) (l : List β) (s : State) : (l.foldl g s).folioOn = s.folioOn := foldl_proj State.folioOn g h l s
@[simp] theorem foldlPair_folioOn {β γ : Type} (g : State × γ → β → State × γ) (h : ∀ u x, (g u x).1.folioOn = u.1.folioOn) (l : List β) (s : State × γ) : (l.foldl g s).1.folioOn = s.1.folioOn := foldlPair_proj State.folioOn g h l s
@[simp] theorem when_folioOn (c : Bool) (g : State → State) (s : State) (h : (g s).folioOn = s.folioOn) : (when c s g).folioOn = s.folioOn := when_proj State.folioOn c g s h
@[simp] theorem eachPort_folioOn (g : State → PortId → State) (s : State) (h : ∀ u x, (g u x).folioOn = u.folioOn) : (eachPort s g).folioOn = s.folioOn := foldl_proj State.folioOn g h _ s
@[simp] theorem eachRing_folioOn (g : State → RingId → State) (s : State) (h : ∀ u x, (g u x).folioOn = u.folioOn) : (eachRing s g).folioOn = s.folioOn := foldl_proj State.folioOn g h _ s
@[simp] theorem eachClassic_folioOn (g : State → ClassicId → State) (s : State) (h : ∀ u x, (g u x).folioOn = u.folioOn) : (eachClassic s g).folioOn = s.folioOn := foldl_proj State.folioOn g h _ s

@[simp] theorem ite_strokeBase (c : Prop) [Decidable c] (a b : State) : (if c then a else b).strokeBase = if c then a.strokeBase else b.strokeBase := apply_ite State.strokeBase c a b
@[simp] theorem foldl_strokeBase {β : Type} (g : State → β → State) (h : ∀ u x, (g u x).strokeBase = u.strokeBase) (l : List β) (s : State) : (l.foldl g s).strokeBase = s.strokeBase := foldl_proj State.strokeBase g h l s
@[simp] theorem foldlPair_strokeBase {β γ : Type} (g : State × γ → β → State × γ) (h : ∀ u x, (g u x).1.strokeBase = u.1.strokeBase) (l : List β) (s : State × γ) : (l.foldl g s).1.strokeBase = s.1.strokeBase := foldlPair_proj State.strokeBase g h l s
@[simp] theorem when_strokeBase (c : Bool) (g : State → State) (s : State) (h : (g s).strokeBase = s.strokeBase) : (when c s g).strokeBase = s.strokeBase := when_proj State.strokeBase c g s h
@[simp] theorem eachPort_strokeBase (g : State → PortId → State) (s : State) (h : ∀ u x, (g u x).strokeBase = u.strokeBase) : (eachPort s g).strokeBase = s.strokeBase := foldl_proj State.strokeBase g h _ s
@[simp] theorem eachRing_strokeBase (g : State → RingId → State) (s : State) (h : ∀ u x, (g u x).strokeBase = u.strokeBase) : (eachRing s g).strokeBase = s.strokeBase := foldl_proj State.strokeBase g h _ s
@[simp] theorem eachClassic_strokeBase (g : State → ClassicId → State) (s : State) (h : ∀ u x, (g u x).strokeBase = u.strokeBase) : (eachClassic s g).strokeBase = s.strokeBase := foldl_proj State.strokeBase g h _ s

@[simp] theorem ite_resyncAt (c : Prop) [Decidable c] (a b : State) : (if c then a else b).resyncAt = if c then a.resyncAt else b.resyncAt := apply_ite State.resyncAt c a b
@[simp] theorem foldl_resyncAt {β : Type} (g : State → β → State) (h : ∀ u x, (g u x).resyncAt = u.resyncAt) (l : List β) (s : State) : (l.foldl g s).resyncAt = s.resyncAt := foldl_proj State.resyncAt g h l s
@[simp] theorem foldlPair_resyncAt {β γ : Type} (g : State × γ → β → State × γ) (h : ∀ u x, (g u x).1.resyncAt = u.1.resyncAt) (l : List β) (s : State × γ) : (l.foldl g s).1.resyncAt = s.1.resyncAt := foldlPair_proj State.resyncAt g h l s
@[simp] theorem when_resyncAt (c : Bool) (g : State → State) (s : State) (h : (g s).resyncAt = s.resyncAt) : (when c s g).resyncAt = s.resyncAt := when_proj State.resyncAt c g s h
@[simp] theorem eachPort_resyncAt (g : State → PortId → State) (s : State) (h : ∀ u x, (g u x).resyncAt = u.resyncAt) : (eachPort s g).resyncAt = s.resyncAt := foldl_proj State.resyncAt g h _ s
@[simp] theorem eachRing_resyncAt (g : State → RingId → State) (s : State) (h : ∀ u x, (g u x).resyncAt = u.resyncAt) : (eachRing s g).resyncAt = s.resyncAt := foldl_proj State.resyncAt g h _ s
@[simp] theorem eachClassic_resyncAt (g : State → ClassicId → State) (s : State) (h : ∀ u x, (g u x).resyncAt = u.resyncAt) : (eachClassic s g).resyncAt = s.resyncAt := foldl_proj State.resyncAt g h _ s

@[simp] theorem ite_regs (c : Prop) [Decidable c] (a b : State) : (if c then a else b).regs = if c then a.regs else b.regs := apply_ite State.regs c a b
@[simp] theorem foldl_regs {β : Type} (g : State → β → State) (h : ∀ u x, (g u x).regs = u.regs) (l : List β) (s : State) : (l.foldl g s).regs = s.regs := foldl_proj State.regs g h l s
@[simp] theorem foldlPair_regs {β γ : Type} (g : State × γ → β → State × γ) (h : ∀ u x, (g u x).1.regs = u.1.regs) (l : List β) (s : State × γ) : (l.foldl g s).1.regs = s.1.regs := foldlPair_proj State.regs g h l s
@[simp] theorem when_regs (c : Bool) (g : State → State) (s : State) (h : (g s).regs = s.regs) : (when c s g).regs = s.regs := when_proj State.regs c g s h
@[simp] theorem eachPort_regs (g : State → PortId → State) (s : State) (h : ∀ u x, (g u x).regs = u.regs) : (eachPort s g).regs = s.regs := foldl_proj State.regs g h _ s
@[simp] theorem eachRing_regs (g : State → RingId → State) (s : State) (h : ∀ u x, (g u x).regs = u.regs) : (eachRing s g).regs = s.regs := foldl_proj State.regs g h _ s
@[simp] theorem eachClassic_regs (g : State → ClassicId → State) (s : State) (h : ∀ u x, (g u x).regs = u.regs) : (eachClassic s g).regs = s.regs := foldl_proj State.regs g h _ s

@[simp] theorem ite_rcSpi (c : Prop) [Decidable c] (a b : State) : (if c then a else b).rcSpi = if c then a.rcSpi else b.rcSpi := apply_ite State.rcSpi c a b
@[simp] theorem foldl_rcSpi {β : Type} (g : State → β → State) (h : ∀ u x, (g u x).rcSpi = u.rcSpi) (l : List β) (s : State) : (l.foldl g s).rcSpi = s.rcSpi := foldl_proj State.rcSpi g h l s
@[simp] theorem foldlPair_rcSpi {β γ : Type} (g : State × γ → β → State × γ) (h : ∀ u x, (g u x).1.rcSpi = u.1.rcSpi) (l : List β) (s : State × γ) : (l.foldl g s).1.rcSpi = s.1.rcSpi := foldlPair_proj State.rcSpi g h l s
@[simp] theorem when_rcSpi (c : Bool) (g : State → State) (s : State) (h : (g s).rcSpi = s.rcSpi) : (when c s g).rcSpi = s.rcSpi := when_proj State.rcSpi c g s h
@[simp] theorem eachPort_rcSpi (g : State → PortId → State) (s : State) (h : ∀ u x, (g u x).rcSpi = u.rcSpi) : (eachPort s g).rcSpi = s.rcSpi := foldl_proj State.rcSpi g h _ s
@[simp] theorem eachRing_rcSpi (g : State → RingId → State) (s : State) (h : ∀ u x, (g u x).rcSpi = u.rcSpi) : (eachRing s g).rcSpi = s.rcSpi := foldl_proj State.rcSpi g h _ s
@[simp] theorem eachClassic_rcSpi (g : State → ClassicId → State) (s : State) (h : ∀ u x, (g u x).rcSpi = u.rcSpi) : (eachClassic s g).rcSpi = s.rcSpi := foldl_proj State.rcSpi g h _ s

@[simp] theorem ite_rcPf (c : Prop) [Decidable c] (a b : State) : (if c then a else b).rcPf = if c then a.rcPf else b.rcPf := apply_ite State.rcPf c a b
@[simp] theorem foldl_rcPf {β : Type} (g : State → β → State) (h : ∀ u x, (g u x).rcPf = u.rcPf) (l : List β) (s : State) : (l.foldl g s).rcPf = s.rcPf := foldl_proj State.rcPf g h l s
@[simp] theorem foldlPair_rcPf {β γ : Type} (g : State × γ → β → State × γ) (h : ∀ u x, (g u x).1.rcPf = u.1.rcPf) (l : List β) (s : State × γ) : (l.foldl g s).1.rcPf = s.1.rcPf := foldlPair_proj State.rcPf g h l s
@[simp] theorem when_rcPf (c : Bool) (g : State → State) (s : State) (h : (g s).rcPf = s.rcPf) : (when c s g).rcPf = s.rcPf := when_proj State.rcPf c g s h
@[simp] theorem eachPort_rcPf (g : State → PortId → State) (s : State) (h : ∀ u x, (g u x).rcPf = u.rcPf) : (eachPort s g).rcPf = s.rcPf := foldl_proj State.rcPf g h _ s
@[simp] theorem eachRing_rcPf (g : State → RingId → State) (s : State) (h : ∀ u x, (g u x).rcPf = u.rcPf) : (eachRing s g).rcPf = s.rcPf := foldl_proj State.rcPf g h _ s
@[simp] theorem eachClassic_rcPf (g : State → ClassicId → State) (s : State) (h : ∀ u x, (g u x).rcPf = u.rcPf) : (eachClassic s g).rcPf = s.rcPf := foldl_proj State.rcPf g h _ s

@[simp] theorem ite_pairs (c : Prop) [Decidable c] (a b : State) : (if c then a else b).pairs = if c then a.pairs else b.pairs := apply_ite State.pairs c a b
@[simp] theorem foldl_pairs {β : Type} (g : State → β → State) (h : ∀ u x, (g u x).pairs = u.pairs) (l : List β) (s : State) : (l.foldl g s).pairs = s.pairs := foldl_proj State.pairs g h l s
@[simp] theorem foldlPair_pairs {β γ : Type} (g : State × γ → β → State × γ) (h : ∀ u x, (g u x).1.pairs = u.1.pairs) (l : List β) (s : State × γ) : (l.foldl g s).1.pairs = s.1.pairs := foldlPair_proj State.pairs g h l s
@[simp] theorem when_pairs (c : Bool) (g : State → State) (s : State) (h : (g s).pairs = s.pairs) : (when c s g).pairs = s.pairs := when_proj State.pairs c g s h
@[simp] theorem eachPort_pairs (g : State → PortId → State) (s : State) (h : ∀ u x, (g u x).pairs = u.pairs) : (eachPort s g).pairs = s.pairs := foldl_proj State.pairs g h _ s
@[simp] theorem eachRing_pairs (g : State → RingId → State) (s : State) (h : ∀ u x, (g u x).pairs = u.pairs) : (eachRing s g).pairs = s.pairs := foldl_proj State.pairs g h _ s
@[simp] theorem eachClassic_pairs (g : State → ClassicId → State) (s : State) (h : ∀ u x, (g u x).pairs = u.pairs) : (eachClassic s g).pairs = s.pairs := foldl_proj State.pairs g h _ s

@[simp] theorem ite_writes (c : Prop) [Decidable c] (a b : State) : (if c then a else b).writes = if c then a.writes else b.writes := apply_ite State.writes c a b
@[simp] theorem foldl_writes {β : Type} (g : State → β → State) (h : ∀ u x, (g u x).writes = u.writes) (l : List β) (s : State) : (l.foldl g s).writes = s.writes := foldl_proj State.writes g h l s
@[simp] theorem foldlPair_writes {β γ : Type} (g : State × γ → β → State × γ) (h : ∀ u x, (g u x).1.writes = u.1.writes) (l : List β) (s : State × γ) : (l.foldl g s).1.writes = s.1.writes := foldlPair_proj State.writes g h l s
@[simp] theorem when_writes (c : Bool) (g : State → State) (s : State) (h : (g s).writes = s.writes) : (when c s g).writes = s.writes := when_proj State.writes c g s h
@[simp] theorem eachPort_writes (g : State → PortId → State) (s : State) (h : ∀ u x, (g u x).writes = u.writes) : (eachPort s g).writes = s.writes := foldl_proj State.writes g h _ s
@[simp] theorem eachRing_writes (g : State → RingId → State) (s : State) (h : ∀ u x, (g u x).writes = u.writes) : (eachRing s g).writes = s.writes := foldl_proj State.writes g h _ s
@[simp] theorem eachClassic_writes (g : State → ClassicId → State) (s : State) (h : ∀ u x, (g u x).writes = u.writes) : (eachClassic s g).writes = s.writes := foldl_proj State.writes g h _ s

@[simp] theorem ite_staged (c : Prop) [Decidable c] (a b : State) : (if c then a else b).staged = if c then a.staged else b.staged := apply_ite State.staged c a b
@[simp] theorem foldl_staged {β : Type} (g : State → β → State) (h : ∀ u x, (g u x).staged = u.staged) (l : List β) (s : State) : (l.foldl g s).staged = s.staged := foldl_proj State.staged g h l s
@[simp] theorem foldlPair_staged {β γ : Type} (g : State × γ → β → State × γ) (h : ∀ u x, (g u x).1.staged = u.1.staged) (l : List β) (s : State × γ) : (l.foldl g s).1.staged = s.1.staged := foldlPair_proj State.staged g h l s
@[simp] theorem when_staged (c : Bool) (g : State → State) (s : State) (h : (g s).staged = s.staged) : (when c s g).staged = s.staged := when_proj State.staged c g s h
@[simp] theorem eachPort_staged (g : State → PortId → State) (s : State) (h : ∀ u x, (g u x).staged = u.staged) : (eachPort s g).staged = s.staged := foldl_proj State.staged g h _ s
@[simp] theorem eachRing_staged (g : State → RingId → State) (s : State) (h : ∀ u x, (g u x).staged = u.staged) : (eachRing s g).staged = s.staged := foldl_proj State.staged g h _ s
@[simp] theorem eachClassic_staged (g : State → ClassicId → State) (s : State) (h : ∀ u x, (g u x).staged = u.staged) : (eachClassic s g).staged = s.staged := foldl_proj State.staged g h _ s

@[simp] theorem ite_rubric (c : Prop) [Decidable c] (a b : State) : (if c then a else b).rubric = if c then a.rubric else b.rubric := apply_ite State.rubric c a b
@[simp] theorem foldl_rubric {β : Type} (g : State → β → State) (h : ∀ u x, (g u x).rubric = u.rubric) (l : List β) (s : State) : (l.foldl g s).rubric = s.rubric := foldl_proj State.rubric g h l s
@[simp] theorem foldlPair_rubric {β γ : Type} (g : State × γ → β → State × γ) (h : ∀ u x, (g u x).1.rubric = u.1.rubric) (l : List β) (s : State × γ) : (l.foldl g s).1.rubric = s.1.rubric := foldlPair_proj State.rubric g h l s
@[simp] theorem when_rubric (c : Bool) (g : State → State) (s : State) (h : (g s).rubric = s.rubric) : (when c s g).rubric = s.rubric := when_proj State.rubric c g s h
@[simp] theorem eachPort_rubric (g : State → PortId → State) (s : State) (h : ∀ u x, (g u x).rubric = u.rubric) : (eachPort s g).rubric = s.rubric := foldl_proj State.rubric g h _ s
@[simp] theorem eachRing_rubric (g : State → RingId → State) (s : State) (h : ∀ u x, (g u x).rubric = u.rubric) : (eachRing s g).rubric = s.rubric := foldl_proj State.rubric g h _ s
@[simp] theorem eachClassic_rubric (g : State → ClassicId → State) (s : State) (h : ∀ u x, (g u x).rubric = u.rubric) : (eachClassic s g).rubric = s.rubric := foldl_proj State.rubric g h _ s

@[simp] theorem ite_trustBySpi (c : Prop) [Decidable c] (a b : State) : (if c then a else b).trustBySpi = if c then a.trustBySpi else b.trustBySpi := apply_ite State.trustBySpi c a b
@[simp] theorem foldl_trustBySpi {β : Type} (g : State → β → State) (h : ∀ u x, (g u x).trustBySpi = u.trustBySpi) (l : List β) (s : State) : (l.foldl g s).trustBySpi = s.trustBySpi := foldl_proj State.trustBySpi g h l s
@[simp] theorem foldlPair_trustBySpi {β γ : Type} (g : State × γ → β → State × γ) (h : ∀ u x, (g u x).1.trustBySpi = u.1.trustBySpi) (l : List β) (s : State × γ) : (l.foldl g s).1.trustBySpi = s.1.trustBySpi := foldlPair_proj State.trustBySpi g h l s
@[simp] theorem when_trustBySpi (c : Bool) (g : State → State) (s : State) (h : (g s).trustBySpi = s.trustBySpi) : (when c s g).trustBySpi = s.trustBySpi := when_proj State.trustBySpi c g s h
@[simp] theorem eachPort_trustBySpi (g : State → PortId → State) (s : State) (h : ∀ u x, (g u x).trustBySpi = u.trustBySpi) : (eachPort s g).trustBySpi = s.trustBySpi := foldl_proj State.trustBySpi g h _ s
@[simp] theorem eachRing_trustBySpi (g : State → RingId → State) (s : State) (h : ∀ u x, (g u x).trustBySpi = u.trustBySpi) : (eachRing s g).trustBySpi = s.trustBySpi := foldl_proj State.trustBySpi g h _ s
@[simp] theorem eachClassic_trustBySpi (g : State → ClassicId → State) (s : State) (h : ∀ u x, (g u x).trustBySpi = u.trustBySpi) : (eachClassic s g).trustBySpi = s.trustBySpi := foldl_proj State.trustBySpi g h _ s

@[simp] theorem ite_trustConfigured (c : Prop) [Decidable c] (a b : State) : (if c then a else b).trustConfigured = if c then a.trustConfigured else b.trustConfigured := apply_ite State.trustConfigured c a b
@[simp] theorem foldl_trustConfigured {β : Type} (g : State → β → State) (h : ∀ u x, (g u x).trustConfigured = u.trustConfigured) (l : List β) (s : State) : (l.foldl g s).trustConfigured = s.trustConfigured := foldl_proj State.trustConfigured g h l s
@[simp] theorem foldlPair_trustConfigured {β γ : Type} (g : State × γ → β → State × γ) (h : ∀ u x, (g u x).1.trustConfigured = u.1.trustConfigured) (l : List β) (s : State × γ) : (l.foldl g s).1.trustConfigured = s.1.trustConfigured := foldlPair_proj State.trustConfigured g h l s
@[simp] theorem when_trustConfigured (c : Bool) (g : State → State) (s : State) (h : (g s).trustConfigured = s.trustConfigured) : (when c s g).trustConfigured = s.trustConfigured := when_proj State.trustConfigured c g s h
@[simp] theorem eachPort_trustConfigured (g : State → PortId → State) (s : State) (h : ∀ u x, (g u x).trustConfigured = u.trustConfigured) : (eachPort s g).trustConfigured = s.trustConfigured := foldl_proj State.trustConfigured g h _ s
@[simp] theorem eachRing_trustConfigured (g : State → RingId → State) (s : State) (h : ∀ u x, (g u x).trustConfigured = u.trustConfigured) : (eachRing s g).trustConfigured = s.trustConfigured := foldl_proj State.trustConfigured g h _ s
@[simp] theorem eachClassic_trustConfigured (g : State → ClassicId → State) (s : State) (h : ∀ u x, (g u x).trustConfigured = u.trustConfigured) : (eachClassic s g).trustConfigured = s.trustConfigured := foldl_proj State.trustConfigured g h _ s

@[simp] theorem ite_link (c : Prop) [Decidable c] (a b : State) : (if c then a else b).link = if c then a.link else b.link := apply_ite State.link c a b
@[simp] theorem foldl_link {β : Type} (g : State → β → State) (h : ∀ u x, (g u x).link = u.link) (l : List β) (s : State) : (l.foldl g s).link = s.link := foldl_proj State.link g h l s
@[simp] theorem foldlPair_link {β γ : Type} (g : State × γ → β → State × γ) (h : ∀ u x, (g u x).1.link = u.1.link) (l : List β) (s : State × γ) : (l.foldl g s).1.link = s.1.link := foldlPair_proj State.link g h l s
@[simp] theorem when_link (c : Bool) (g : State → State) (s : State) (h : (g s).link = s.link) : (when c s g).link = s.link := when_proj State.link c g s h
@[simp] theorem eachPort_link (g : State → PortId → State) (s : State) (h : ∀ u x, (g u x).link = u.link) : (eachPort s g).link = s.link := foldl_proj State.link g h _ s
@[simp] theorem eachRing_link (g : State → RingId → State) (s : State) (h : ∀ u x, (g u x).link = u.link) : (eachRing s g).link = s.link := foldl_proj State.link g h _ s
@[simp] theorem eachClassic_link (g : State → ClassicId → State) (s : State) (h : ∀ u x, (g u x).link = u.link) : (eachClassic s g).link = s.link := foldl_proj State.link g h _ s

@[simp] theorem ite_localEvents (c : Prop) [Decidable c] (a b : State) : (if c then a else b).localEvents = if c then a.localEvents else b.localEvents := apply_ite State.localEvents c a b
@[simp] theorem foldl_localEvents {β : Type} (g : State → β → State) (h : ∀ u x, (g u x).localEvents = u.localEvents) (l : List β) (s : State) : (l.foldl g s).localEvents = s.localEvents := foldl_proj State.localEvents g h l s
@[simp] theorem foldlPair_localEvents {β γ : Type} (g : State × γ → β → State × γ) (h : ∀ u x, (g u x).1.localEvents = u.1.localEvents) (l : List β) (s : State × γ) : (l.foldl g s).1.localEvents = s.1.localEvents := foldlPair_proj State.localEvents g h l s
@[simp] theorem when_localEvents (c : Bool) (g : State → State) (s : State) (h : (g s).localEvents = s.localEvents) : (when c s g).localEvents = s.localEvents := when_proj State.localEvents c g s h
@[simp] theorem eachPort_localEvents (g : State → PortId → State) (s : State) (h : ∀ u x, (g u x).localEvents = u.localEvents) : (eachPort s g).localEvents = s.localEvents := foldl_proj State.localEvents g h _ s
@[simp] theorem eachRing_localEvents (g : State → RingId → State) (s : State) (h : ∀ u x, (g u x).localEvents = u.localEvents) : (eachRing s g).localEvents = s.localEvents := foldl_proj State.localEvents g h _ s
@[simp] theorem eachClassic_localEvents (g : State → ClassicId → State) (s : State) (h : ∀ u x, (g u x).localEvents = u.localEvents) : (eachClassic s g).localEvents = s.localEvents := foldl_proj State.localEvents g h _ s

@[simp] theorem ite_localLost (c : Prop) [Decidable c] (a b : State) : (if c then a else b).localLost = if c then a.localLost else b.localLost := apply_ite State.localLost c a b
@[simp] theorem foldl_localLost {β : Type} (g : State → β → State) (h : ∀ u x, (g u x).localLost = u.localLost) (l : List β) (s : State) : (l.foldl g s).localLost = s.localLost := foldl_proj State.localLost g h l s
@[simp] theorem foldlPair_localLost {β γ : Type} (g : State × γ → β → State × γ) (h : ∀ u x, (g u x).1.localLost = u.1.localLost) (l : List β) (s : State × γ) : (l.foldl g s).1.localLost = s.1.localLost := foldlPair_proj State.localLost g h l s
@[simp] theorem when_localLost (c : Bool) (g : State → State) (s : State) (h : (g s).localLost = s.localLost) : (when c s g).localLost = s.localLost := when_proj State.localLost c g s h
@[simp] theorem eachPort_localLost (g : State → PortId → State) (s : State) (h : ∀ u x, (g u x).localLost = u.localLost) : (eachPort s g).localLost = s.localLost := foldl_proj State.localLost g h _ s
@[simp] theorem eachRing_localLost (g : State → RingId → State) (s : State) (h : ∀ u x, (g u x).localLost = u.localLost) : (eachRing s g).localLost = s.localLost := foldl_proj State.localLost g h _ s
@[simp] theorem eachClassic_localLost (g : State → ClassicId → State) (s : State) (h : ∀ u x, (g u x).localLost = u.localLost) : (eachClassic s g).localLost = s.localLost := foldl_proj State.localLost g h _ s

@[simp] theorem ite_pal (c : Prop) [Decidable c] (a b : State) : (if c then a else b).pal = if c then a.pal else b.pal := apply_ite State.pal c a b
@[simp] theorem foldl_pal {β : Type} (g : State → β → State) (h : ∀ u x, (g u x).pal = u.pal) (l : List β) (s : State) : (l.foldl g s).pal = s.pal := foldl_proj State.pal g h l s
@[simp] theorem foldlPair_pal {β γ : Type} (g : State × γ → β → State × γ) (h : ∀ u x, (g u x).1.pal = u.1.pal) (l : List β) (s : State × γ) : (l.foldl g s).1.pal = s.1.pal := foldlPair_proj State.pal g h l s
@[simp] theorem when_pal (c : Bool) (g : State → State) (s : State) (h : (g s).pal = s.pal) : (when c s g).pal = s.pal := when_proj State.pal c g s h
@[simp] theorem eachPort_pal (g : State → PortId → State) (s : State) (h : ∀ u x, (g u x).pal = u.pal) : (eachPort s g).pal = s.pal := foldl_proj State.pal g h _ s
@[simp] theorem eachRing_pal (g : State → RingId → State) (s : State) (h : ∀ u x, (g u x).pal = u.pal) : (eachRing s g).pal = s.pal := foldl_proj State.pal g h _ s
@[simp] theorem eachClassic_pal (g : State → ClassicId → State) (s : State) (h : ∀ u x, (g u x).pal = u.pal) : (eachClassic s g).pal = s.pal := foldl_proj State.pal g h _ s

@[simp] theorem ite_margin (c : Prop) [Decidable c] (a b : State) : (if c then a else b).margin = if c then a.margin else b.margin := apply_ite State.margin c a b
@[simp] theorem foldl_margin {β : Type} (g : State → β → State) (h : ∀ u x, (g u x).margin = u.margin) (l : List β) (s : State) : (l.foldl g s).margin = s.margin := foldl_proj State.margin g h l s
@[simp] theorem foldlPair_margin {β γ : Type} (g : State × γ → β → State × γ) (h : ∀ u x, (g u x).1.margin = u.1.margin) (l : List β) (s : State × γ) : (l.foldl g s).1.margin = s.1.margin := foldlPair_proj State.margin g h l s
@[simp] theorem when_margin (c : Bool) (g : State → State) (s : State) (h : (g s).margin = s.margin) : (when c s g).margin = s.margin := when_proj State.margin c g s h
@[simp] theorem eachPort_margin (g : State → PortId → State) (s : State) (h : ∀ u x, (g u x).margin = u.margin) : (eachPort s g).margin = s.margin := foldl_proj State.margin g h _ s
@[simp] theorem eachRing_margin (g : State → RingId → State) (s : State) (h : ∀ u x, (g u x).margin = u.margin) : (eachRing s g).margin = s.margin := foldl_proj State.margin g h _ s
@[simp] theorem eachClassic_margin (g : State → ClassicId → State) (s : State) (h : ∀ u x, (g u x).margin = u.margin) : (eachClassic s g).margin = s.margin := foldl_proj State.margin g h _ s

@[simp] theorem ite_disc (c : Prop) [Decidable c] (a b : State) : (if c then a else b).disc = if c then a.disc else b.disc := apply_ite State.disc c a b
@[simp] theorem foldl_disc {β : Type} (g : State → β → State) (h : ∀ u x, (g u x).disc = u.disc) (l : List β) (s : State) : (l.foldl g s).disc = s.disc := foldl_proj State.disc g h l s
@[simp] theorem foldlPair_disc {β γ : Type} (g : State × γ → β → State × γ) (h : ∀ u x, (g u x).1.disc = u.1.disc) (l : List β) (s : State × γ) : (l.foldl g s).1.disc = s.1.disc := foldlPair_proj State.disc g h l s
@[simp] theorem when_disc (c : Bool) (g : State → State) (s : State) (h : (g s).disc = s.disc) : (when c s g).disc = s.disc := when_proj State.disc c g s h
@[simp] theorem eachPort_disc (g : State → PortId → State) (s : State) (h : ∀ u x, (g u x).disc = u.disc) : (eachPort s g).disc = s.disc := foldl_proj State.disc g h _ s
@[simp] theorem eachRing_disc (g : State → RingId → State) (s : State) (h : ∀ u x, (g u x).disc = u.disc) : (eachRing s g).disc = s.disc := foldl_proj State.disc g h _ s
@[simp] theorem eachClassic_disc (g : State → ClassicId → State) (s : State) (h : ∀ u x, (g u x).disc = u.disc) : (eachClassic s g).disc = s.disc := foldl_proj State.disc g h _ s

@[simp] theorem ite_clusters (c : Prop) [Decidable c] (a b : State) : (if c then a else b).clusters = if c then a.clusters else b.clusters := apply_ite State.clusters c a b
@[simp] theorem foldl_clusters {β : Type} (g : State → β → State) (h : ∀ u x, (g u x).clusters = u.clusters) (l : List β) (s : State) : (l.foldl g s).clusters = s.clusters := foldl_proj State.clusters g h l s
@[simp] theorem foldlPair_clusters {β γ : Type} (g : State × γ → β → State × γ) (h : ∀ u x, (g u x).1.clusters = u.1.clusters) (l : List β) (s : State × γ) : (l.foldl g s).1.clusters = s.1.clusters := foldlPair_proj State.clusters g h l s
@[simp] theorem when_clusters (c : Bool) (g : State → State) (s : State) (h : (g s).clusters = s.clusters) : (when c s g).clusters = s.clusters := when_proj State.clusters c g s h
@[simp] theorem eachPort_clusters (g : State → PortId → State) (s : State) (h : ∀ u x, (g u x).clusters = u.clusters) : (eachPort s g).clusters = s.clusters := foldl_proj State.clusters g h _ s
@[simp] theorem eachRing_clusters (g : State → RingId → State) (s : State) (h : ∀ u x, (g u x).clusters = u.clusters) : (eachRing s g).clusters = s.clusters := foldl_proj State.clusters g h _ s
@[simp] theorem eachClassic_clusters (g : State → ClassicId → State) (s : State) (h : ∀ u x, (g u x).clusters = u.clusters) : (eachClassic s g).clusters = s.clusters := foldl_proj State.clusters g h _ s

@[simp] theorem ite_engines (c : Prop) [Decidable c] (a b : State) : (if c then a else b).engines = if c then a.engines else b.engines := apply_ite State.engines c a b
@[simp] theorem foldl_engines {β : Type} (g : State → β → State) (h : ∀ u x, (g u x).engines = u.engines) (l : List β) (s : State) : (l.foldl g s).engines = s.engines := foldl_proj State.engines g h l s
@[simp] theorem foldlPair_engines {β γ : Type} (g : State × γ → β → State × γ) (h : ∀ u x, (g u x).1.engines = u.1.engines) (l : List β) (s : State × γ) : (l.foldl g s).1.engines = s.1.engines := foldlPair_proj State.engines g h l s
@[simp] theorem when_engines (c : Bool) (g : State → State) (s : State) (h : (g s).engines = s.engines) : (when c s g).engines = s.engines := when_proj State.engines c g s h
@[simp] theorem eachPort_engines (g : State → PortId → State) (s : State) (h : ∀ u x, (g u x).engines = u.engines) : (eachPort s g).engines = s.engines := foldl_proj State.engines g h _ s
@[simp] theorem eachRing_engines (g : State → RingId → State) (s : State) (h : ∀ u x, (g u x).engines = u.engines) : (eachRing s g).engines = s.engines := foldl_proj State.engines g h _ s
@[simp] theorem eachClassic_engines (g : State → ClassicId → State) (s : State) (h : ∀ u x, (g u x).engines = u.engines) : (eachClassic s g).engines = s.engines := foldl_proj State.engines g h _ s

@[simp] theorem ite_regionTemp (c : Prop) [Decidable c] (a b : State) : (if c then a else b).regionTemp = if c then a.regionTemp else b.regionTemp := apply_ite State.regionTemp c a b
@[simp] theorem foldl_regionTemp {β : Type} (g : State → β → State) (h : ∀ u x, (g u x).regionTemp = u.regionTemp) (l : List β) (s : State) : (l.foldl g s).regionTemp = s.regionTemp := foldl_proj State.regionTemp g h l s
@[simp] theorem foldlPair_regionTemp {β γ : Type} (g : State × γ → β → State × γ) (h : ∀ u x, (g u x).1.regionTemp = u.1.regionTemp) (l : List β) (s : State × γ) : (l.foldl g s).1.regionTemp = s.1.regionTemp := foldlPair_proj State.regionTemp g h l s
@[simp] theorem when_regionTemp (c : Bool) (g : State → State) (s : State) (h : (g s).regionTemp = s.regionTemp) : (when c s g).regionTemp = s.regionTemp := when_proj State.regionTemp c g s h
@[simp] theorem eachPort_regionTemp (g : State → PortId → State) (s : State) (h : ∀ u x, (g u x).regionTemp = u.regionTemp) : (eachPort s g).regionTemp = s.regionTemp := foldl_proj State.regionTemp g h _ s
@[simp] theorem eachRing_regionTemp (g : State → RingId → State) (s : State) (h : ∀ u x, (g u x).regionTemp = u.regionTemp) : (eachRing s g).regionTemp = s.regionTemp := foldl_proj State.regionTemp g h _ s
@[simp] theorem eachClassic_regionTemp (g : State → ClassicId → State) (s : State) (h : ∀ u x, (g u x).regionTemp = u.regionTemp) : (eachClassic s g).regionTemp = s.regionTemp := foldl_proj State.regionTemp g h _ s

@[simp] theorem ite_lanes (c : Prop) [Decidable c] (a b : State) : (if c then a else b).lanes = if c then a.lanes else b.lanes := apply_ite State.lanes c a b
@[simp] theorem foldl_lanes {β : Type} (g : State → β → State) (h : ∀ u x, (g u x).lanes = u.lanes) (l : List β) (s : State) : (l.foldl g s).lanes = s.lanes := foldl_proj State.lanes g h l s
@[simp] theorem foldlPair_lanes {β γ : Type} (g : State × γ → β → State × γ) (h : ∀ u x, (g u x).1.lanes = u.1.lanes) (l : List β) (s : State × γ) : (l.foldl g s).1.lanes = s.1.lanes := foldlPair_proj State.lanes g h l s
@[simp] theorem when_lanes (c : Bool) (g : State → State) (s : State) (h : (g s).lanes = s.lanes) : (when c s g).lanes = s.lanes := when_proj State.lanes c g s h
@[simp] theorem eachPort_lanes (g : State → PortId → State) (s : State) (h : ∀ u x, (g u x).lanes = u.lanes) : (eachPort s g).lanes = s.lanes := foldl_proj State.lanes g h _ s
@[simp] theorem eachRing_lanes (g : State → RingId → State) (s : State) (h : ∀ u x, (g u x).lanes = u.lanes) : (eachRing s g).lanes = s.lanes := foldl_proj State.lanes g h _ s
@[simp] theorem eachClassic_lanes (g : State → ClassicId → State) (s : State) (h : ∀ u x, (g u x).lanes = u.lanes) : (eachClassic s g).lanes = s.lanes := foldl_proj State.lanes g h _ s

@[simp] theorem ite_modes (c : Prop) [Decidable c] (a b : State) : (if c then a else b).modes = if c then a.modes else b.modes := apply_ite State.modes c a b
@[simp] theorem foldl_modes {β : Type} (g : State → β → State) (h : ∀ u x, (g u x).modes = u.modes) (l : List β) (s : State) : (l.foldl g s).modes = s.modes := foldl_proj State.modes g h l s
@[simp] theorem foldlPair_modes {β γ : Type} (g : State × γ → β → State × γ) (h : ∀ u x, (g u x).1.modes = u.1.modes) (l : List β) (s : State × γ) : (l.foldl g s).1.modes = s.1.modes := foldlPair_proj State.modes g h l s
@[simp] theorem when_modes (c : Bool) (g : State → State) (s : State) (h : (g s).modes = s.modes) : (when c s g).modes = s.modes := when_proj State.modes c g s h
@[simp] theorem eachPort_modes (g : State → PortId → State) (s : State) (h : ∀ u x, (g u x).modes = u.modes) : (eachPort s g).modes = s.modes := foldl_proj State.modes g h _ s
@[simp] theorem eachRing_modes (g : State → RingId → State) (s : State) (h : ∀ u x, (g u x).modes = u.modes) : (eachRing s g).modes = s.modes := foldl_proj State.modes g h _ s
@[simp] theorem eachClassic_modes (g : State → ClassicId → State) (s : State) (h : ∀ u x, (g u x).modes = u.modes) : (eachClassic s g).modes = s.modes := foldl_proj State.modes g h _ s

@[simp] theorem ite_img (c : Prop) [Decidable c] (a b : State) : (if c then a else b).img = if c then a.img else b.img := apply_ite State.img c a b
@[simp] theorem foldl_img {β : Type} (g : State → β → State) (h : ∀ u x, (g u x).img = u.img) (l : List β) (s : State) : (l.foldl g s).img = s.img := foldl_proj State.img g h l s
@[simp] theorem foldlPair_img {β γ : Type} (g : State × γ → β → State × γ) (h : ∀ u x, (g u x).1.img = u.1.img) (l : List β) (s : State × γ) : (l.foldl g s).1.img = s.1.img := foldlPair_proj State.img g h l s
@[simp] theorem when_img (c : Bool) (g : State → State) (s : State) (h : (g s).img = s.img) : (when c s g).img = s.img := when_proj State.img c g s h
@[simp] theorem eachPort_img (g : State → PortId → State) (s : State) (h : ∀ u x, (g u x).img = u.img) : (eachPort s g).img = s.img := foldl_proj State.img g h _ s
@[simp] theorem eachRing_img (g : State → RingId → State) (s : State) (h : ∀ u x, (g u x).img = u.img) : (eachRing s g).img = s.img := foldl_proj State.img g h _ s
@[simp] theorem eachClassic_img (g : State → ClassicId → State) (s : State) (h : ∀ u x, (g u x).img = u.img) : (eachClassic s g).img = s.img := foldl_proj State.img g h _ s

@[simp] theorem ite_nor (c : Prop) [Decidable c] (a b : State) : (if c then a else b).nor = if c then a.nor else b.nor := apply_ite State.nor c a b
@[simp] theorem foldl_nor {β : Type} (g : State → β → State) (h : ∀ u x, (g u x).nor = u.nor) (l : List β) (s : State) : (l.foldl g s).nor = s.nor := foldl_proj State.nor g h l s
@[simp] theorem foldlPair_nor {β γ : Type} (g : State × γ → β → State × γ) (h : ∀ u x, (g u x).1.nor = u.1.nor) (l : List β) (s : State × γ) : (l.foldl g s).1.nor = s.1.nor := foldlPair_proj State.nor g h l s
@[simp] theorem when_nor (c : Bool) (g : State → State) (s : State) (h : (g s).nor = s.nor) : (when c s g).nor = s.nor := when_proj State.nor c g s h
@[simp] theorem eachPort_nor (g : State → PortId → State) (s : State) (h : ∀ u x, (g u x).nor = u.nor) : (eachPort s g).nor = s.nor := foldl_proj State.nor g h _ s
@[simp] theorem eachRing_nor (g : State → RingId → State) (s : State) (h : ∀ u x, (g u x).nor = u.nor) : (eachRing s g).nor = s.nor := foldl_proj State.nor g h _ s
@[simp] theorem eachClassic_nor (g : State → ClassicId → State) (s : State) (h : ∀ u x, (g u x).nor = u.nor) : (eachClassic s g).nor = s.nor := foldl_proj State.nor g h _ s

@[simp] theorem ite_blot (c : Prop) [Decidable c] (a b : State) : (if c then a else b).blot = if c then a.blot else b.blot := apply_ite State.blot c a b
@[simp] theorem foldl_blot {β : Type} (g : State → β → State) (h : ∀ u x, (g u x).blot = u.blot) (l : List β) (s : State) : (l.foldl g s).blot = s.blot := foldl_proj State.blot g h l s
@[simp] theorem foldlPair_blot {β γ : Type} (g : State × γ → β → State × γ) (h : ∀ u x, (g u x).1.blot = u.1.blot) (l : List β) (s : State × γ) : (l.foldl g s).1.blot = s.1.blot := foldlPair_proj State.blot g h l s
@[simp] theorem when_blot (c : Bool) (g : State → State) (s : State) (h : (g s).blot = s.blot) : (when c s g).blot = s.blot := when_proj State.blot c g s h
@[simp] theorem eachPort_blot (g : State → PortId → State) (s : State) (h : ∀ u x, (g u x).blot = u.blot) : (eachPort s g).blot = s.blot := foldl_proj State.blot g h _ s
@[simp] theorem eachRing_blot (g : State → RingId → State) (s : State) (h : ∀ u x, (g u x).blot = u.blot) : (eachRing s g).blot = s.blot := foldl_proj State.blot g h _ s
@[simp] theorem eachClassic_blot (g : State → ClassicId → State) (s : State) (h : ∀ u x, (g u x).blot = u.blot) : (eachClassic s g).blot = s.blot := foldl_proj State.blot g h _ s

@[simp] theorem ite_sealUnit (c : Prop) [Decidable c] (a b : State) : (if c then a else b).sealUnit = if c then a.sealUnit else b.sealUnit := apply_ite State.sealUnit c a b
@[simp] theorem foldl_sealUnit {β : Type} (g : State → β → State) (h : ∀ u x, (g u x).sealUnit = u.sealUnit) (l : List β) (s : State) : (l.foldl g s).sealUnit = s.sealUnit := foldl_proj State.sealUnit g h l s
@[simp] theorem foldlPair_sealUnit {β γ : Type} (g : State × γ → β → State × γ) (h : ∀ u x, (g u x).1.sealUnit = u.1.sealUnit) (l : List β) (s : State × γ) : (l.foldl g s).1.sealUnit = s.1.sealUnit := foldlPair_proj State.sealUnit g h l s
@[simp] theorem when_sealUnit (c : Bool) (g : State → State) (s : State) (h : (g s).sealUnit = s.sealUnit) : (when c s g).sealUnit = s.sealUnit := when_proj State.sealUnit c g s h
@[simp] theorem eachPort_sealUnit (g : State → PortId → State) (s : State) (h : ∀ u x, (g u x).sealUnit = u.sealUnit) : (eachPort s g).sealUnit = s.sealUnit := foldl_proj State.sealUnit g h _ s
@[simp] theorem eachRing_sealUnit (g : State → RingId → State) (s : State) (h : ∀ u x, (g u x).sealUnit = u.sealUnit) : (eachRing s g).sealUnit = s.sealUnit := foldl_proj State.sealUnit g h _ s
@[simp] theorem eachClassic_sealUnit (g : State → ClassicId → State) (s : State) (h : ∀ u x, (g u x).sealUnit = u.sealUnit) : (eachClassic s g).sealUnit = s.sealUnit := foldl_proj State.sealUnit g h _ s

@[simp] theorem ite_input (c : Prop) [Decidable c] (a b : State) : (if c then a else b).input = if c then a.input else b.input := apply_ite State.input c a b
@[simp] theorem foldl_input {β : Type} (g : State → β → State) (h : ∀ u x, (g u x).input = u.input) (l : List β) (s : State) : (l.foldl g s).input = s.input := foldl_proj State.input g h l s
@[simp] theorem foldlPair_input {β γ : Type} (g : State × γ → β → State × γ) (h : ∀ u x, (g u x).1.input = u.1.input) (l : List β) (s : State × γ) : (l.foldl g s).1.input = s.1.input := foldlPair_proj State.input g h l s
@[simp] theorem when_input (c : Bool) (g : State → State) (s : State) (h : (g s).input = s.input) : (when c s g).input = s.input := when_proj State.input c g s h
@[simp] theorem eachPort_input (g : State → PortId → State) (s : State) (h : ∀ u x, (g u x).input = u.input) : (eachPort s g).input = s.input := foldl_proj State.input g h _ s
@[simp] theorem eachRing_input (g : State → RingId → State) (s : State) (h : ∀ u x, (g u x).input = u.input) : (eachRing s g).input = s.input := foldl_proj State.input g h _ s
@[simp] theorem eachClassic_input (g : State → ClassicId → State) (s : State) (h : ∀ u x, (g u x).input = u.input) : (eachClassic s g).input = s.input := foldl_proj State.input g h _ s

@[simp] theorem ite_vauxOk (c : Prop) [Decidable c] (a b : State) : (if c then a else b).vauxOk = if c then a.vauxOk else b.vauxOk := apply_ite State.vauxOk c a b
@[simp] theorem foldl_vauxOk {β : Type} (g : State → β → State) (h : ∀ u x, (g u x).vauxOk = u.vauxOk) (l : List β) (s : State) : (l.foldl g s).vauxOk = s.vauxOk := foldl_proj State.vauxOk g h l s
@[simp] theorem foldlPair_vauxOk {β γ : Type} (g : State × γ → β → State × γ) (h : ∀ u x, (g u x).1.vauxOk = u.1.vauxOk) (l : List β) (s : State × γ) : (l.foldl g s).1.vauxOk = s.1.vauxOk := foldlPair_proj State.vauxOk g h l s
@[simp] theorem when_vauxOk (c : Bool) (g : State → State) (s : State) (h : (g s).vauxOk = s.vauxOk) : (when c s g).vauxOk = s.vauxOk := when_proj State.vauxOk c g s h
@[simp] theorem eachPort_vauxOk (g : State → PortId → State) (s : State) (h : ∀ u x, (g u x).vauxOk = u.vauxOk) : (eachPort s g).vauxOk = s.vauxOk := foldl_proj State.vauxOk g h _ s
@[simp] theorem eachRing_vauxOk (g : State → RingId → State) (s : State) (h : ∀ u x, (g u x).vauxOk = u.vauxOk) : (eachRing s g).vauxOk = s.vauxOk := foldl_proj State.vauxOk g h _ s
@[simp] theorem eachClassic_vauxOk (g : State → ClassicId → State) (s : State) (h : ∀ u x, (g u x).vauxOk = u.vauxOk) : (eachClassic s g).vauxOk = s.vauxOk := foldl_proj State.vauxOk g h _ s

@[simp] theorem ite_power (c : Prop) [Decidable c] (a b : State) : (if c then a else b).power = if c then a.power else b.power := apply_ite State.power c a b
@[simp] theorem foldl_power {β : Type} (g : State → β → State) (h : ∀ u x, (g u x).power = u.power) (l : List β) (s : State) : (l.foldl g s).power = s.power := foldl_proj State.power g h l s
@[simp] theorem foldlPair_power {β γ : Type} (g : State × γ → β → State × γ) (h : ∀ u x, (g u x).1.power = u.1.power) (l : List β) (s : State × γ) : (l.foldl g s).1.power = s.1.power := foldlPair_proj State.power g h l s
@[simp] theorem when_power (c : Bool) (g : State → State) (s : State) (h : (g s).power = s.power) : (when c s g).power = s.power := when_proj State.power c g s h
@[simp] theorem eachPort_power (g : State → PortId → State) (s : State) (h : ∀ u x, (g u x).power = u.power) : (eachPort s g).power = s.power := foldl_proj State.power g h _ s
@[simp] theorem eachRing_power (g : State → RingId → State) (s : State) (h : ∀ u x, (g u x).power = u.power) : (eachRing s g).power = s.power := foldl_proj State.power g h _ s
@[simp] theorem eachClassic_power (g : State → ClassicId → State) (s : State) (h : ∀ u x, (g u x).power = u.power) : (eachClassic s g).power = s.power := foldl_proj State.power g h _ s

@[simp] theorem ite_pd (c : Prop) [Decidable c] (a b : State) : (if c then a else b).pd = if c then a.pd else b.pd := apply_ite State.pd c a b
@[simp] theorem foldl_pd {β : Type} (g : State → β → State) (h : ∀ u x, (g u x).pd = u.pd) (l : List β) (s : State) : (l.foldl g s).pd = s.pd := foldl_proj State.pd g h l s
@[simp] theorem foldlPair_pd {β γ : Type} (g : State × γ → β → State × γ) (h : ∀ u x, (g u x).1.pd = u.1.pd) (l : List β) (s : State × γ) : (l.foldl g s).1.pd = s.1.pd := foldlPair_proj State.pd g h l s
@[simp] theorem when_pd (c : Bool) (g : State → State) (s : State) (h : (g s).pd = s.pd) : (when c s g).pd = s.pd := when_proj State.pd c g s h
@[simp] theorem eachPort_pd (g : State → PortId → State) (s : State) (h : ∀ u x, (g u x).pd = u.pd) : (eachPort s g).pd = s.pd := foldl_proj State.pd g h _ s
@[simp] theorem eachRing_pd (g : State → RingId → State) (s : State) (h : ∀ u x, (g u x).pd = u.pd) : (eachRing s g).pd = s.pd := foldl_proj State.pd g h _ s
@[simp] theorem eachClassic_pd (g : State → ClassicId → State) (s : State) (h : ∀ u x, (g u x).pd = u.pd) : (eachClassic s g).pd = s.pd := foldl_proj State.pd g h _ s

@[simp] theorem ite_ptp (c : Prop) [Decidable c] (a b : State) : (if c then a else b).ptp = if c then a.ptp else b.ptp := apply_ite State.ptp c a b
@[simp] theorem foldl_ptp {β : Type} (g : State → β → State) (h : ∀ u x, (g u x).ptp = u.ptp) (l : List β) (s : State) : (l.foldl g s).ptp = s.ptp := foldl_proj State.ptp g h l s
@[simp] theorem foldlPair_ptp {β γ : Type} (g : State × γ → β → State × γ) (h : ∀ u x, (g u x).1.ptp = u.1.ptp) (l : List β) (s : State × γ) : (l.foldl g s).1.ptp = s.1.ptp := foldlPair_proj State.ptp g h l s
@[simp] theorem when_ptp (c : Bool) (g : State → State) (s : State) (h : (g s).ptp = s.ptp) : (when c s g).ptp = s.ptp := when_proj State.ptp c g s h
@[simp] theorem eachPort_ptp (g : State → PortId → State) (s : State) (h : ∀ u x, (g u x).ptp = u.ptp) : (eachPort s g).ptp = s.ptp := foldl_proj State.ptp g h _ s
@[simp] theorem eachRing_ptp (g : State → RingId → State) (s : State) (h : ∀ u x, (g u x).ptp = u.ptp) : (eachRing s g).ptp = s.ptp := foldl_proj State.ptp g h _ s
@[simp] theorem eachClassic_ptp (g : State → ClassicId → State) (s : State) (h : ∀ u x, (g u x).ptp = u.ptp) : (eachClassic s g).ptp = s.ptp := foldl_proj State.ptp g h _ s

@[simp] theorem ite_own (c : Prop) [Decidable c] (a b : State) : (if c then a else b).own = if c then a.own else b.own := apply_ite State.own c a b
@[simp] theorem foldl_own {β : Type} (g : State → β → State) (h : ∀ u x, (g u x).own = u.own) (l : List β) (s : State) : (l.foldl g s).own = s.own := foldl_proj State.own g h l s
@[simp] theorem foldlPair_own {β γ : Type} (g : State × γ → β → State × γ) (h : ∀ u x, (g u x).1.own = u.1.own) (l : List β) (s : State × γ) : (l.foldl g s).1.own = s.1.own := foldlPair_proj State.own g h l s
@[simp] theorem when_own (c : Bool) (g : State → State) (s : State) (h : (g s).own = s.own) : (when c s g).own = s.own := when_proj State.own c g s h
@[simp] theorem eachPort_own (g : State → PortId → State) (s : State) (h : ∀ u x, (g u x).own = u.own) : (eachPort s g).own = s.own := foldl_proj State.own g h _ s
@[simp] theorem eachRing_own (g : State → RingId → State) (s : State) (h : ∀ u x, (g u x).own = u.own) : (eachRing s g).own = s.own := foldl_proj State.own g h _ s
@[simp] theorem eachClassic_own (g : State → ClassicId → State) (s : State) (h : ∀ u x, (g u x).own = u.own) : (eachClassic s g).own = s.own := foldl_proj State.own g h _ s

@[simp] theorem ite_vis (c : Prop) [Decidable c] (a b : State) : (if c then a else b).vis = if c then a.vis else b.vis := apply_ite State.vis c a b
@[simp] theorem foldl_vis {β : Type} (g : State → β → State) (h : ∀ u x, (g u x).vis = u.vis) (l : List β) (s : State) : (l.foldl g s).vis = s.vis := foldl_proj State.vis g h l s
@[simp] theorem foldlPair_vis {β γ : Type} (g : State × γ → β → State × γ) (h : ∀ u x, (g u x).1.vis = u.1.vis) (l : List β) (s : State × γ) : (l.foldl g s).1.vis = s.1.vis := foldlPair_proj State.vis g h l s
@[simp] theorem when_vis (c : Bool) (g : State → State) (s : State) (h : (g s).vis = s.vis) : (when c s g).vis = s.vis := when_proj State.vis c g s h
@[simp] theorem eachPort_vis (g : State → PortId → State) (s : State) (h : ∀ u x, (g u x).vis = u.vis) : (eachPort s g).vis = s.vis := foldl_proj State.vis g h _ s
@[simp] theorem eachRing_vis (g : State → RingId → State) (s : State) (h : ∀ u x, (g u x).vis = u.vis) : (eachRing s g).vis = s.vis := foldl_proj State.vis g h _ s
@[simp] theorem eachClassic_vis (g : State → ClassicId → State) (s : State) (h : ∀ u x, (g u x).vis = u.vis) : (eachClassic s g).vis = s.vis := foldl_proj State.vis g h _ s

@[simp] theorem ite_devices (c : Prop) [Decidable c] (a b : State) : (if c then a else b).devices = if c then a.devices else b.devices := apply_ite State.devices c a b
@[simp] theorem foldl_devices {β : Type} (g : State → β → State) (h : ∀ u x, (g u x).devices = u.devices) (l : List β) (s : State) : (l.foldl g s).devices = s.devices := foldl_proj State.devices g h l s
@[simp] theorem foldlPair_devices {β γ : Type} (g : State × γ → β → State × γ) (h : ∀ u x, (g u x).1.devices = u.1.devices) (l : List β) (s : State × γ) : (l.foldl g s).1.devices = s.1.devices := foldlPair_proj State.devices g h l s
@[simp] theorem when_devices (c : Bool) (g : State → State) (s : State) (h : (g s).devices = s.devices) : (when c s g).devices = s.devices := when_proj State.devices c g s h
@[simp] theorem eachPort_devices (g : State → PortId → State) (s : State) (h : ∀ u x, (g u x).devices = u.devices) : (eachPort s g).devices = s.devices := foldl_proj State.devices g h _ s
@[simp] theorem eachRing_devices (g : State → RingId → State) (s : State) (h : ∀ u x, (g u x).devices = u.devices) : (eachRing s g).devices = s.devices := foldl_proj State.devices g h _ s
@[simp] theorem eachClassic_devices (g : State → ClassicId → State) (s : State) (h : ∀ u x, (g u x).devices = u.devices) : (eachClassic s g).devices = s.devices := foldl_proj State.devices g h _ s

@[simp] theorem ite_eps (c : Prop) [Decidable c] (a b : State) : (if c then a else b).eps = if c then a.eps else b.eps := apply_ite State.eps c a b
@[simp] theorem foldl_eps {β : Type} (g : State → β → State) (h : ∀ u x, (g u x).eps = u.eps) (l : List β) (s : State) : (l.foldl g s).eps = s.eps := foldl_proj State.eps g h l s
@[simp] theorem foldlPair_eps {β γ : Type} (g : State × γ → β → State × γ) (h : ∀ u x, (g u x).1.eps = u.1.eps) (l : List β) (s : State × γ) : (l.foldl g s).1.eps = s.1.eps := foldlPair_proj State.eps g h l s
@[simp] theorem when_eps (c : Bool) (g : State → State) (s : State) (h : (g s).eps = s.eps) : (when c s g).eps = s.eps := when_proj State.eps c g s h
@[simp] theorem eachPort_eps (g : State → PortId → State) (s : State) (h : ∀ u x, (g u x).eps = u.eps) : (eachPort s g).eps = s.eps := foldl_proj State.eps g h _ s
@[simp] theorem eachRing_eps (g : State → RingId → State) (s : State) (h : ∀ u x, (g u x).eps = u.eps) : (eachRing s g).eps = s.eps := foldl_proj State.eps g h _ s
@[simp] theorem eachClassic_eps (g : State → ClassicId → State) (s : State) (h : ∀ u x, (g u x).eps = u.eps) : (eachClassic s g).eps = s.eps := foldl_proj State.eps g h _ s

@[simp] theorem ite_nibs (c : Prop) [Decidable c] (a b : State) : (if c then a else b).nibs = if c then a.nibs else b.nibs := apply_ite State.nibs c a b
@[simp] theorem foldl_nibs {β : Type} (g : State → β → State) (h : ∀ u x, (g u x).nibs = u.nibs) (l : List β) (s : State) : (l.foldl g s).nibs = s.nibs := foldl_proj State.nibs g h l s
@[simp] theorem foldlPair_nibs {β γ : Type} (g : State × γ → β → State × γ) (h : ∀ u x, (g u x).1.nibs = u.1.nibs) (l : List β) (s : State × γ) : (l.foldl g s).1.nibs = s.1.nibs := foldlPair_proj State.nibs g h l s
@[simp] theorem when_nibs (c : Bool) (g : State → State) (s : State) (h : (g s).nibs = s.nibs) : (when c s g).nibs = s.nibs := when_proj State.nibs c g s h
@[simp] theorem eachPort_nibs (g : State → PortId → State) (s : State) (h : ∀ u x, (g u x).nibs = u.nibs) : (eachPort s g).nibs = s.nibs := foldl_proj State.nibs g h _ s
@[simp] theorem eachRing_nibs (g : State → RingId → State) (s : State) (h : ∀ u x, (g u x).nibs = u.nibs) : (eachRing s g).nibs = s.nibs := foldl_proj State.nibs g h _ s
@[simp] theorem eachClassic_nibs (g : State → ClassicId → State) (s : State) (h : ∀ u x, (g u x).nibs = u.nibs) : (eachClassic s g).nibs = s.nibs := foldl_proj State.nibs g h _ s

@[simp] theorem ite_qps (c : Prop) [Decidable c] (a b : State) : (if c then a else b).qps = if c then a.qps else b.qps := apply_ite State.qps c a b
@[simp] theorem foldl_qps {β : Type} (g : State → β → State) (h : ∀ u x, (g u x).qps = u.qps) (l : List β) (s : State) : (l.foldl g s).qps = s.qps := foldl_proj State.qps g h l s
@[simp] theorem foldlPair_qps {β γ : Type} (g : State × γ → β → State × γ) (h : ∀ u x, (g u x).1.qps = u.1.qps) (l : List β) (s : State × γ) : (l.foldl g s).1.qps = s.1.qps := foldlPair_proj State.qps g h l s
@[simp] theorem when_qps (c : Bool) (g : State → State) (s : State) (h : (g s).qps = s.qps) : (when c s g).qps = s.qps := when_proj State.qps c g s h
@[simp] theorem eachPort_qps (g : State → PortId → State) (s : State) (h : ∀ u x, (g u x).qps = u.qps) : (eachPort s g).qps = s.qps := foldl_proj State.qps g h _ s
@[simp] theorem eachRing_qps (g : State → RingId → State) (s : State) (h : ∀ u x, (g u x).qps = u.qps) : (eachRing s g).qps = s.qps := foldl_proj State.qps g h _ s
@[simp] theorem eachClassic_qps (g : State → ClassicId → State) (s : State) (h : ∀ u x, (g u x).qps = u.qps) : (eachClassic s g).qps = s.qps := foldl_proj State.qps g h _ s

@[simp] theorem ite_eth (c : Prop) [Decidable c] (a b : State) : (if c then a else b).eth = if c then a.eth else b.eth := apply_ite State.eth c a b
@[simp] theorem foldl_eth {β : Type} (g : State → β → State) (h : ∀ u x, (g u x).eth = u.eth) (l : List β) (s : State) : (l.foldl g s).eth = s.eth := foldl_proj State.eth g h l s
@[simp] theorem foldlPair_eth {β γ : Type} (g : State × γ → β → State × γ) (h : ∀ u x, (g u x).1.eth = u.1.eth) (l : List β) (s : State × γ) : (l.foldl g s).1.eth = s.1.eth := foldlPair_proj State.eth g h l s
@[simp] theorem when_eth (c : Bool) (g : State → State) (s : State) (h : (g s).eth = s.eth) : (when c s g).eth = s.eth := when_proj State.eth c g s h
@[simp] theorem eachPort_eth (g : State → PortId → State) (s : State) (h : ∀ u x, (g u x).eth = u.eth) : (eachPort s g).eth = s.eth := foldl_proj State.eth g h _ s
@[simp] theorem eachRing_eth (g : State → RingId → State) (s : State) (h : ∀ u x, (g u x).eth = u.eth) : (eachRing s g).eth = s.eth := foldl_proj State.eth g h _ s
@[simp] theorem eachClassic_eth (g : State → ClassicId → State) (s : State) (h : ∀ u x, (g u x).eth = u.eth) : (eachClassic s g).eth = s.eth := foldl_proj State.eth g h _ s

@[simp] theorem ite_prp (c : Prop) [Decidable c] (a b : State) : (if c then a else b).prp = if c then a.prp else b.prp := apply_ite State.prp c a b
@[simp] theorem foldl_prp {β : Type} (g : State → β → State) (h : ∀ u x, (g u x).prp = u.prp) (l : List β) (s : State) : (l.foldl g s).prp = s.prp := foldl_proj State.prp g h l s
@[simp] theorem foldlPair_prp {β γ : Type} (g : State × γ → β → State × γ) (h : ∀ u x, (g u x).1.prp = u.1.prp) (l : List β) (s : State × γ) : (l.foldl g s).1.prp = s.1.prp := foldlPair_proj State.prp g h l s
@[simp] theorem when_prp (c : Bool) (g : State → State) (s : State) (h : (g s).prp = s.prp) : (when c s g).prp = s.prp := when_proj State.prp c g s h
@[simp] theorem eachPort_prp (g : State → PortId → State) (s : State) (h : ∀ u x, (g u x).prp = u.prp) : (eachPort s g).prp = s.prp := foldl_proj State.prp g h _ s
@[simp] theorem eachRing_prp (g : State → RingId → State) (s : State) (h : ∀ u x, (g u x).prp = u.prp) : (eachRing s g).prp = s.prp := foldl_proj State.prp g h _ s
@[simp] theorem eachClassic_prp (g : State → ClassicId → State) (s : State) (h : ∀ u x, (g u x).prp = u.prp) : (eachClassic s g).prp = s.prp := foldl_proj State.prp g h _ s

@[simp] theorem ite_pcie (c : Prop) [Decidable c] (a b : State) : (if c then a else b).pcie = if c then a.pcie else b.pcie := apply_ite State.pcie c a b
@[simp] theorem foldl_pcie {β : Type} (g : State → β → State) (h : ∀ u x, (g u x).pcie = u.pcie) (l : List β) (s : State) : (l.foldl g s).pcie = s.pcie := foldl_proj State.pcie g h l s
@[simp] theorem foldlPair_pcie {β γ : Type} (g : State × γ → β → State × γ) (h : ∀ u x, (g u x).1.pcie = u.1.pcie) (l : List β) (s : State × γ) : (l.foldl g s).1.pcie = s.1.pcie := foldlPair_proj State.pcie g h l s
@[simp] theorem when_pcie (c : Bool) (g : State → State) (s : State) (h : (g s).pcie = s.pcie) : (when c s g).pcie = s.pcie := when_proj State.pcie c g s h
@[simp] theorem eachPort_pcie (g : State → PortId → State) (s : State) (h : ∀ u x, (g u x).pcie = u.pcie) : (eachPort s g).pcie = s.pcie := foldl_proj State.pcie g h _ s
@[simp] theorem eachRing_pcie (g : State → RingId → State) (s : State) (h : ∀ u x, (g u x).pcie = u.pcie) : (eachRing s g).pcie = s.pcie := foldl_proj State.pcie g h _ s
@[simp] theorem eachClassic_pcie (g : State → ClassicId → State) (s : State) (h : ∀ u x, (g u x).pcie = u.pcie) : (eachClassic s g).pcie = s.pcie := foldl_proj State.pcie g h _ s

@[simp] theorem ite_timelines (c : Prop) [Decidable c] (a b : State) : (if c then a else b).timelines = if c then a.timelines else b.timelines := apply_ite State.timelines c a b
@[simp] theorem foldl_timelines {β : Type} (g : State → β → State) (h : ∀ u x, (g u x).timelines = u.timelines) (l : List β) (s : State) : (l.foldl g s).timelines = s.timelines := foldl_proj State.timelines g h l s
@[simp] theorem foldlPair_timelines {β γ : Type} (g : State × γ → β → State × γ) (h : ∀ u x, (g u x).1.timelines = u.1.timelines) (l : List β) (s : State × γ) : (l.foldl g s).1.timelines = s.1.timelines := foldlPair_proj State.timelines g h l s
@[simp] theorem when_timelines (c : Bool) (g : State → State) (s : State) (h : (g s).timelines = s.timelines) : (when c s g).timelines = s.timelines := when_proj State.timelines c g s h
@[simp] theorem eachPort_timelines (g : State → PortId → State) (s : State) (h : ∀ u x, (g u x).timelines = u.timelines) : (eachPort s g).timelines = s.timelines := foldl_proj State.timelines g h _ s
@[simp] theorem eachRing_timelines (g : State → RingId → State) (s : State) (h : ∀ u x, (g u x).timelines = u.timelines) : (eachRing s g).timelines = s.timelines := foldl_proj State.timelines g h _ s
@[simp] theorem eachClassic_timelines (g : State → ClassicId → State) (s : State) (h : ∀ u x, (g u x).timelines = u.timelines) : (eachClassic s g).timelines = s.timelines := foldl_proj State.timelines g h _ s

@[simp] theorem ite_ink (c : Prop) [Decidable c] (a b : State) : (if c then a else b).ink = if c then a.ink else b.ink := apply_ite State.ink c a b
@[simp] theorem foldl_ink {β : Type} (g : State → β → State) (h : ∀ u x, (g u x).ink = u.ink) (l : List β) (s : State) : (l.foldl g s).ink = s.ink := foldl_proj State.ink g h l s
@[simp] theorem foldlPair_ink {β γ : Type} (g : State × γ → β → State × γ) (h : ∀ u x, (g u x).1.ink = u.1.ink) (l : List β) (s : State × γ) : (l.foldl g s).1.ink = s.1.ink := foldlPair_proj State.ink g h l s
@[simp] theorem when_ink (c : Bool) (g : State → State) (s : State) (h : (g s).ink = s.ink) : (when c s g).ink = s.ink := when_proj State.ink c g s h
@[simp] theorem eachPort_ink (g : State → PortId → State) (s : State) (h : ∀ u x, (g u x).ink = u.ink) : (eachPort s g).ink = s.ink := foldl_proj State.ink g h _ s
@[simp] theorem eachRing_ink (g : State → RingId → State) (s : State) (h : ∀ u x, (g u x).ink = u.ink) : (eachRing s g).ink = s.ink := foldl_proj State.ink g h _ s
@[simp] theorem eachClassic_ink (g : State → ClassicId → State) (s : State) (h : ∀ u x, (g u x).ink = u.ink) : (eachClassic s g).ink = s.ink := foldl_proj State.ink g h _ s

@[simp] theorem ite_cvis (c : Prop) [Decidable c] (a b : State) : (if c then a else b).cvis = if c then a.cvis else b.cvis := apply_ite State.cvis c a b
@[simp] theorem foldl_cvis {β : Type} (g : State → β → State) (h : ∀ u x, (g u x).cvis = u.cvis) (l : List β) (s : State) : (l.foldl g s).cvis = s.cvis := foldl_proj State.cvis g h l s
@[simp] theorem foldlPair_cvis {β γ : Type} (g : State × γ → β → State × γ) (h : ∀ u x, (g u x).1.cvis = u.1.cvis) (l : List β) (s : State × γ) : (l.foldl g s).1.cvis = s.1.cvis := foldlPair_proj State.cvis g h l s
@[simp] theorem when_cvis (c : Bool) (g : State → State) (s : State) (h : (g s).cvis = s.cvis) : (when c s g).cvis = s.cvis := when_proj State.cvis c g s h
@[simp] theorem eachPort_cvis (g : State → PortId → State) (s : State) (h : ∀ u x, (g u x).cvis = u.cvis) : (eachPort s g).cvis = s.cvis := foldl_proj State.cvis g h _ s
@[simp] theorem eachRing_cvis (g : State → RingId → State) (s : State) (h : ∀ u x, (g u x).cvis = u.cvis) : (eachRing s g).cvis = s.cvis := foldl_proj State.cvis g h _ s
@[simp] theorem eachClassic_cvis (g : State → ClassicId → State) (s : State) (h : ∀ u x, (g u x).cvis = u.cvis) : (eachClassic s g).cvis = s.cvis := foldl_proj State.cvis g h _ s

@[simp] theorem ite_cviews (c : Prop) [Decidable c] (a b : State) : (if c then a else b).cviews = if c then a.cviews else b.cviews := apply_ite State.cviews c a b
@[simp] theorem foldl_cviews {β : Type} (g : State → β → State) (h : ∀ u x, (g u x).cviews = u.cviews) (l : List β) (s : State) : (l.foldl g s).cviews = s.cviews := foldl_proj State.cviews g h l s
@[simp] theorem foldlPair_cviews {β γ : Type} (g : State × γ → β → State × γ) (h : ∀ u x, (g u x).1.cviews = u.1.cviews) (l : List β) (s : State × γ) : (l.foldl g s).1.cviews = s.1.cviews := foldlPair_proj State.cviews g h l s
@[simp] theorem when_cviews (c : Bool) (g : State → State) (s : State) (h : (g s).cviews = s.cviews) : (when c s g).cviews = s.cviews := when_proj State.cviews c g s h
@[simp] theorem eachPort_cviews (g : State → PortId → State) (s : State) (h : ∀ u x, (g u x).cviews = u.cviews) : (eachPort s g).cviews = s.cviews := foldl_proj State.cviews g h _ s
@[simp] theorem eachRing_cviews (g : State → RingId → State) (s : State) (h : ∀ u x, (g u x).cviews = u.cviews) : (eachRing s g).cviews = s.cviews := foldl_proj State.cviews g h _ s
@[simp] theorem eachClassic_cviews (g : State → ClassicId → State) (s : State) (h : ∀ u x, (g u x).cviews = u.cviews) : (eachClassic s g).cviews = s.cviews := foldl_proj State.cviews g h _ s

@[simp] theorem ite_cports (c : Prop) [Decidable c] (a b : State) : (if c then a else b).cports = if c then a.cports else b.cports := apply_ite State.cports c a b
@[simp] theorem foldl_cports {β : Type} (g : State → β → State) (h : ∀ u x, (g u x).cports = u.cports) (l : List β) (s : State) : (l.foldl g s).cports = s.cports := foldl_proj State.cports g h l s
@[simp] theorem foldlPair_cports {β γ : Type} (g : State × γ → β → State × γ) (h : ∀ u x, (g u x).1.cports = u.1.cports) (l : List β) (s : State × γ) : (l.foldl g s).1.cports = s.1.cports := foldlPair_proj State.cports g h l s
@[simp] theorem when_cports (c : Bool) (g : State → State) (s : State) (h : (g s).cports = s.cports) : (when c s g).cports = s.cports := when_proj State.cports c g s h
@[simp] theorem eachPort_cports (g : State → PortId → State) (s : State) (h : ∀ u x, (g u x).cports = u.cports) : (eachPort s g).cports = s.cports := foldl_proj State.cports g h _ s
@[simp] theorem eachRing_cports (g : State → RingId → State) (s : State) (h : ∀ u x, (g u x).cports = u.cports) : (eachRing s g).cports = s.cports := foldl_proj State.cports g h _ s
@[simp] theorem eachClassic_cports (g : State → ClassicId → State) (s : State) (h : ∀ u x, (g u x).cports = u.cports) : (eachClassic s g).cports = s.cports := foldl_proj State.cports g h _ s

@[simp] theorem ite_ligs (c : Prop) [Decidable c] (a b : State) : (if c then a else b).ligs = if c then a.ligs else b.ligs := apply_ite State.ligs c a b
@[simp] theorem foldl_ligs {β : Type} (g : State → β → State) (h : ∀ u x, (g u x).ligs = u.ligs) (l : List β) (s : State) : (l.foldl g s).ligs = s.ligs := foldl_proj State.ligs g h l s
@[simp] theorem foldlPair_ligs {β γ : Type} (g : State × γ → β → State × γ) (h : ∀ u x, (g u x).1.ligs = u.1.ligs) (l : List β) (s : State × γ) : (l.foldl g s).1.ligs = s.1.ligs := foldlPair_proj State.ligs g h l s
@[simp] theorem when_ligs (c : Bool) (g : State → State) (s : State) (h : (g s).ligs = s.ligs) : (when c s g).ligs = s.ligs := when_proj State.ligs c g s h
@[simp] theorem eachPort_ligs (g : State → PortId → State) (s : State) (h : ∀ u x, (g u x).ligs = u.ligs) : (eachPort s g).ligs = s.ligs := foldl_proj State.ligs g h _ s
@[simp] theorem eachRing_ligs (g : State → RingId → State) (s : State) (h : ∀ u x, (g u x).ligs = u.ligs) : (eachRing s g).ligs = s.ligs := foldl_proj State.ligs g h _ s
@[simp] theorem eachClassic_ligs (g : State → ClassicId → State) (s : State) (h : ∀ u x, (g u x).ligs = u.ligs) : (eachClassic s g).ligs = s.ligs := foldl_proj State.ligs g h _ s

@[simp] theorem ite_func (c : Prop) [Decidable c] (a b : State) : (if c then a else b).func = if c then a.func else b.func := apply_ite State.func c a b
@[simp] theorem foldl_func {β : Type} (g : State → β → State) (h : ∀ u x, (g u x).func = u.func) (l : List β) (s : State) : (l.foldl g s).func = s.func := foldl_proj State.func g h l s
@[simp] theorem foldlPair_func {β γ : Type} (g : State × γ → β → State × γ) (h : ∀ u x, (g u x).1.func = u.1.func) (l : List β) (s : State × γ) : (l.foldl g s).1.func = s.1.func := foldlPair_proj State.func g h l s
@[simp] theorem when_func (c : Bool) (g : State → State) (s : State) (h : (g s).func = s.func) : (when c s g).func = s.func := when_proj State.func c g s h
@[simp] theorem eachPort_func (g : State → PortId → State) (s : State) (h : ∀ u x, (g u x).func = u.func) : (eachPort s g).func = s.func := foldl_proj State.func g h _ s
@[simp] theorem eachRing_func (g : State → RingId → State) (s : State) (h : ∀ u x, (g u x).func = u.func) : (eachRing s g).func = s.func := foldl_proj State.func g h _ s
@[simp] theorem eachClassic_func (g : State → ClassicId → State) (s : State) (h : ∀ u x, (g u x).func = u.func) : (eachClassic s g).func = s.func := foldl_proj State.func g h _ s

@[simp] theorem ite_pins (c : Prop) [Decidable c] (a b : State) : (if c then a else b).pins = if c then a.pins else b.pins := apply_ite State.pins c a b
@[simp] theorem foldl_pins {β : Type} (g : State → β → State) (h : ∀ u x, (g u x).pins = u.pins) (l : List β) (s : State) : (l.foldl g s).pins = s.pins := foldl_proj State.pins g h l s
@[simp] theorem foldlPair_pins {β γ : Type} (g : State × γ → β → State × γ) (h : ∀ u x, (g u x).1.pins = u.1.pins) (l : List β) (s : State × γ) : (l.foldl g s).1.pins = s.1.pins := foldlPair_proj State.pins g h l s
@[simp] theorem when_pins (c : Bool) (g : State → State) (s : State) (h : (g s).pins = s.pins) : (when c s g).pins = s.pins := when_proj State.pins c g s h
@[simp] theorem eachPort_pins (g : State → PortId → State) (s : State) (h : ∀ u x, (g u x).pins = u.pins) : (eachPort s g).pins = s.pins := foldl_proj State.pins g h _ s
@[simp] theorem eachRing_pins (g : State → RingId → State) (s : State) (h : ∀ u x, (g u x).pins = u.pins) : (eachRing s g).pins = s.pins := foldl_proj State.pins g h _ s
@[simp] theorem eachClassic_pins (g : State → ClassicId → State) (s : State) (h : ∀ u x, (g u x).pins = u.pins) : (eachClassic s g).pins = s.pins := foldl_proj State.pins g h _ s

@[simp] theorem ite_fst {β γ : Type} (c : Prop) [Decidable c] (a b : β × γ) : (if c then a else b).1 = if c then a.1 else b.1 := by split <;> rfl
@[simp] theorem ite_snd {β γ : Type} (c : Prop) [Decidable c] (a b : β × γ) : (if c then a else b).2 = if c then a.2 else b.2 := by split <;> rfl

end Sys2Proof.Machine
end

