-- ==== Sys2Proof/Laws/FrameRegs.lean ====
section
/-! SUPPORT. What the operations of Machine/Regs.lean leave as it was: one lemma for each, over every input, and over every outcome of it.
A proof names the ones it needs, each applied: simp [op_keeps _ _] rewrites every field that op leaves. -/

namespace Sys2Proof.Machine

theorem setReg_keeps (s : State) (a : Nat) (v : Word) : KeepsBoard (setReg s a v) s ∧ KeepsHosts (setReg s a v) s ∧ (setReg s a v).out = s.out ∧ (setReg s a v).freeCtr = s.freeCtr ∧ (setReg s a v).limits = s.limits ∧ (setReg s a v).rcSpi = s.rcSpi ∧ (setReg s a v).rcPf = s.rcPf ∧ (setReg s a v).pal = s.pal ∧ (setReg s a v).margin = s.margin ∧ (setReg s a v).modes = s.modes ∧ (setReg s a v).blot = s.blot ∧ (setReg s a v).power = s.power ∧ (setReg s a v).pd = s.pd ∧ (setReg s a v).devices = s.devices ∧ (setReg s a v).pcie = s.pcie ∧ (setReg s a v).cvis = s.cvis ∧ (setReg s a v).cviews = s.cviews ∧ (setReg s a v).cports = s.cports ∧ (setReg s a v).ligs = s.ligs ∧ (setReg s a v).func = s.func := by
  simp [setReg]

theorem rcAdd_keeps (s : State) (a : Nat) (v : Word) : KeepsBoard (rcAdd s a v) s ∧ KeepsPorts (rcAdd s a v) s ∧ KeepsHosts (rcAdd s a v) s ∧ (rcAdd s a v).out = s.out ∧ (rcAdd s a v).limits = s.limits ∧ (rcAdd s a v).pal = s.pal ∧ (rcAdd s a v).margin = s.margin ∧ (rcAdd s a v).pcie = s.pcie := by
  simp [rcAdd]

theorem rcCount_keeps (s : State) (a lo : Nat) : KeepsBoard (rcCount s a lo) s ∧ KeepsPorts (rcCount s a lo) s ∧ KeepsHosts (rcCount s a lo) s ∧ (rcCount s a lo).out = s.out ∧ (rcCount s a lo).limits = s.limits ∧ (rcCount s a lo).pal = s.pal ∧ (rcCount s a lo).margin = s.margin ∧ (rcCount s a lo).pcie = s.pcie := by
  simp [rcCount, rcAdd_keeps _ _ _]

theorem rcAddPath_keeps (s : State) (p : Path) (a : Nat) (v : Word) : KeepsBoard (rcAddPath s p a v) s ∧ KeepsPorts (rcAddPath s p a v) s ∧ KeepsHosts (rcAddPath s p a v) s ∧ (rcAddPath s p a v).out = s.out ∧ (rcAddPath s p a v).limits = s.limits ∧ (rcAddPath s p a v).pal = s.pal ∧ (rcAddPath s p a v).margin = s.margin ∧ (rcAddPath s p a v).pcie = s.pcie := by
  generalize h : rcAddPath s p a v = t; unfold rcAddPath at h; (repeat' split at h) <;> (subst h; simp [*])

theorem rcClear_keeps (s : State) (p : Path) (a : Nat) : KeepsBoard (rcClear s p a) s ∧ KeepsPorts (rcClear s p a) s ∧ KeepsHosts (rcClear s p a) s ∧ (rcClear s p a).out = s.out ∧ (rcClear s p a).limits = s.limits ∧ (rcClear s p a).pal = s.pal ∧ (rcClear s p a).margin = s.margin ∧ (rcClear s p a).pcie = s.pcie := by
  generalize h : rcClear s p a = t; unfold rcClear at h; (repeat' split at h) <;> (subst h; simp [*])

end Sys2Proof.Machine
end

