-- ==== Sys2Proof/Laws/FrameOps.lean ====
section
/-! SUPPORT. What the operations of Machine/Ops.lean leave as it was: one lemma for each, over every input, and over every outcome of it.
A proof names the ones it needs, each applied: simp [op_keeps _ _] rewrites every field that op leaves. -/

namespace Sys2Proof.Machine

theorem draw_keeps (s : State) : KeepsBoard (draw s).2 s ∧ KeepsHosts (draw s).2 s ∧ (draw s).2.out = s.out ∧ (draw s).2.limits = s.limits ∧ (draw s).2.regs = s.regs ∧ (draw s).2.rcSpi = s.rcSpi ∧ (draw s).2.rcPf = s.rcPf ∧ (draw s).2.pal = s.pal ∧ (draw s).2.margin = s.margin ∧ (draw s).2.modes = s.modes ∧ (draw s).2.blot = s.blot ∧ (draw s).2.power = s.power ∧ (draw s).2.pd = s.pd ∧ (draw s).2.devices = s.devices ∧ (draw s).2.pcie = s.pcie ∧ (draw s).2.cvis = s.cvis ∧ (draw s).2.cviews = s.cviews ∧ (draw s).2.cports = s.cports ∧ (draw s).2.ligs = s.ligs ∧ (draw s).2.func = s.func := by
  simp [draw]

theorem drawMany_keeps (a0 : Nat) (a1 : State) : KeepsBoard (drawMany a0 a1).2 a1 ∧ KeepsHosts (drawMany a0 a1).2 a1 ∧ (drawMany a0 a1).2.out = a1.out ∧ (drawMany a0 a1).2.limits = a1.limits ∧ (drawMany a0 a1).2.regs = a1.regs ∧ (drawMany a0 a1).2.rcSpi = a1.rcSpi ∧ (drawMany a0 a1).2.rcPf = a1.rcPf ∧ (drawMany a0 a1).2.pal = a1.pal ∧ (drawMany a0 a1).2.margin = a1.margin ∧ (drawMany a0 a1).2.modes = a1.modes ∧ (drawMany a0 a1).2.blot = a1.blot ∧ (drawMany a0 a1).2.power = a1.power ∧ (drawMany a0 a1).2.pd = a1.pd ∧ (drawMany a0 a1).2.devices = a1.devices ∧ (drawMany a0 a1).2.pcie = a1.pcie ∧ (drawMany a0 a1).2.cvis = a1.cvis ∧ (drawMany a0 a1).2.cviews = a1.cviews ∧ (drawMany a0 a1).2.cports = a1.cports ∧ (drawMany a0 a1).2.ligs = a1.ligs ∧ (drawMany a0 a1).2.func = a1.func := by
  fun_induction drawMany a0 a1 <;> simp_all +zetaDelta [draw_keeps _]

theorem emit_keeps (s : State) (o : Out) : KeepsBoard (emit s o) s ∧ KeepsPorts (emit s o) s ∧ KeepsHosts (emit s o) s ∧ (emit s o).limits = s.limits ∧ (emit s o).rcSpi = s.rcSpi ∧ (emit s o).rcPf = s.rcPf ∧ (emit s o).pal = s.pal ∧ (emit s o).margin = s.margin ∧ (emit s o).pcie = s.pcie := by
  simp [emit]

theorem limitMark_keeps (s : State) (key : Nat) : KeepsBoard (limitMark s key) s ∧ KeepsPorts (limitMark s key) s ∧ KeepsHosts (limitMark s key) s ∧ (limitMark s key).out = s.out ∧ (limitMark s key).rcSpi = s.rcSpi ∧ (limitMark s key).rcPf = s.rcPf ∧ (limitMark s key).pal = s.pal ∧ (limitMark s key).margin = s.margin ∧ (limitMark s key).pcie = s.pcie := by
  simp [limitMark]

theorem begin_keeps (t : Nat) (s : State) : KeepsPorts (begin t s) s ∧ KeepsHosts (begin t s) s ∧ (begin t s).pending = s.pending ∧ (begin t s).limits = s.limits ∧ (begin t s).folioOn = s.folioOn ∧ (begin t s).strokeBase = s.strokeBase ∧ (begin t s).resyncAt = s.resyncAt ∧ (begin t s).pairs = s.pairs ∧ (begin t s).writes = s.writes ∧ (begin t s).staged = s.staged ∧ (begin t s).rubric = s.rubric ∧ (begin t s).trustBySpi = s.trustBySpi ∧ (begin t s).trustConfigured = s.trustConfigured ∧ (begin t s).link = s.link ∧ (begin t s).localEvents = s.localEvents ∧ (begin t s).localLost = s.localLost ∧ (begin t s).pal = s.pal ∧ (begin t s).margin = s.margin ∧ (begin t s).disc = s.disc ∧ (begin t s).clusters = s.clusters ∧ (begin t s).engines = s.engines ∧ (begin t s).regionTemp = s.regionTemp ∧ (begin t s).lanes = s.lanes ∧ (begin t s).img = s.img ∧ (begin t s).nor = s.nor ∧ (begin t s).sealUnit = s.sealUnit ∧ (begin t s).input = s.input ∧ (begin t s).vauxOk = s.vauxOk ∧ (begin t s).ptp = s.ptp ∧ (begin t s).eth = s.eth ∧ (begin t s).prp = s.prp ∧ (begin t s).pcie = s.pcie ∧ (begin t s).timelines = s.timelines ∧ (begin t s).pins = s.pins := by
  generalize h : begin t s = t; unfold begin at h; (repeat' split at h) <;> (subst h; simp [*])

@[simp] theorem begin_pending (t : Nat) (s : State) : (begin t s).pending = s.pending := by simp [begin_keeps t s]

@[simp] theorem begin_freeCtr (t : Nat) (s : State) : (begin t s).freeCtr = s.freeCtr := by simp [begin_keeps t s]

@[simp] theorem begin_limits (t : Nat) (s : State) : (begin t s).limits = s.limits := by simp [begin_keeps t s]

@[simp] theorem begin_folioOn (t : Nat) (s : State) : (begin t s).folioOn = s.folioOn := by simp [begin_keeps t s]

@[simp] theorem begin_strokeBase (t : Nat) (s : State) : (begin t s).strokeBase = s.strokeBase := by simp [begin_keeps t s]

@[simp] theorem begin_resyncAt (t : Nat) (s : State) : (begin t s).resyncAt = s.resyncAt := by simp [begin_keeps t s]

@[simp] theorem begin_regs (t : Nat) (s : State) : (begin t s).regs = s.regs := by simp [begin_keeps t s]

@[simp] theorem begin_pairs (t : Nat) (s : State) : (begin t s).pairs = s.pairs := by simp [begin_keeps t s]

@[simp] theorem begin_writes (t : Nat) (s : State) : (begin t s).writes = s.writes := by simp [begin_keeps t s]

@[simp] theorem begin_staged (t : Nat) (s : State) : (begin t s).staged = s.staged := by simp [begin_keeps t s]

@[simp] theorem begin_rubric (t : Nat) (s : State) : (begin t s).rubric = s.rubric := by simp [begin_keeps t s]

@[simp] theorem begin_trustBySpi (t : Nat) (s : State) : (begin t s).trustBySpi = s.trustBySpi := by simp [begin_keeps t s]

@[simp] theorem begin_trustConfigured (t : Nat) (s : State) : (begin t s).trustConfigured = s.trustConfigured := by simp [begin_keeps t s]

@[simp] theorem begin_link (t : Nat) (s : State) : (begin t s).link = s.link := by simp [begin_keeps t s]

@[simp] theorem begin_localEvents (t : Nat) (s : State) : (begin t s).localEvents = s.localEvents := by simp [begin_keeps t s]

@[simp] theorem begin_localLost (t : Nat) (s : State) : (begin t s).localLost = s.localLost := by simp [begin_keeps t s]

@[simp] theorem begin_pal (t : Nat) (s : State) : (begin t s).pal = s.pal := by simp [begin_keeps t s]

@[simp] theorem begin_margin (t : Nat) (s : State) : (begin t s).margin = s.margin := by simp [begin_keeps t s]

@[simp] theorem begin_disc (t : Nat) (s : State) : (begin t s).disc = s.disc := by simp [begin_keeps t s]

@[simp] theorem begin_clusters (t : Nat) (s : State) : (begin t s).clusters = s.clusters := by simp [begin_keeps t s]

@[simp] theorem begin_engines (t : Nat) (s : State) : (begin t s).engines = s.engines := by simp [begin_keeps t s]

@[simp] theorem begin_regionTemp (t : Nat) (s : State) : (begin t s).regionTemp = s.regionTemp := by simp [begin_keeps t s]

@[simp] theorem begin_lanes (t : Nat) (s : State) : (begin t s).lanes = s.lanes := by simp [begin_keeps t s]

@[simp] theorem begin_modes (t : Nat) (s : State) : (begin t s).modes = s.modes := by simp [begin_keeps t s]

@[simp] theorem begin_img (t : Nat) (s : State) : (begin t s).img = s.img := by simp [begin_keeps t s]

@[simp] theorem begin_nor (t : Nat) (s : State) : (begin t s).nor = s.nor := by simp [begin_keeps t s]

@[simp] theorem begin_blot (t : Nat) (s : State) : (begin t s).blot = s.blot := by simp [begin_keeps t s]

@[simp] theorem begin_sealUnit (t : Nat) (s : State) : (begin t s).sealUnit = s.sealUnit := by simp [begin_keeps t s]

@[simp] theorem begin_input (t : Nat) (s : State) : (begin t s).input = s.input := by simp [begin_keeps t s]

@[simp] theorem begin_vauxOk (t : Nat) (s : State) : (begin t s).vauxOk = s.vauxOk := by simp [begin_keeps t s]

@[simp] theorem begin_power (t : Nat) (s : State) : (begin t s).power = s.power := by simp [begin_keeps t s]

@[simp] theorem begin_pd (t : Nat) (s : State) : (begin t s).pd = s.pd := by simp [begin_keeps t s]

@[simp] theorem begin_ptp (t : Nat) (s : State) : (begin t s).ptp = s.ptp := by simp [begin_keeps t s]

@[simp] theorem begin_own (t : Nat) (s : State) : (begin t s).own = s.own := by simp [begin_keeps t s]

@[simp] theorem begin_vis (t : Nat) (s : State) : (begin t s).vis = s.vis := by simp [begin_keeps t s]

@[simp] theorem begin_devices (t : Nat) (s : State) : (begin t s).devices = s.devices := by simp [begin_keeps t s]

@[simp] theorem begin_eps (t : Nat) (s : State) : (begin t s).eps = s.eps := by simp [begin_keeps t s]

@[simp] theorem begin_nibs (t : Nat) (s : State) : (begin t s).nibs = s.nibs := by simp [begin_keeps t s]

@[simp] theorem begin_qps (t : Nat) (s : State) : (begin t s).qps = s.qps := by simp [begin_keeps t s]

@[simp] theorem begin_eth (t : Nat) (s : State) : (begin t s).eth = s.eth := by simp [begin_keeps t s]

@[simp] theorem begin_prp (t : Nat) (s : State) : (begin t s).prp = s.prp := by simp [begin_keeps t s]

@[simp] theorem begin_pcie (t : Nat) (s : State) : (begin t s).pcie = s.pcie := by simp [begin_keeps t s]

@[simp] theorem begin_timelines (t : Nat) (s : State) : (begin t s).timelines = s.timelines := by simp [begin_keeps t s]

@[simp] theorem begin_ink (t : Nat) (s : State) : (begin t s).ink = s.ink := by simp [begin_keeps t s]

@[simp] theorem begin_cvis (t : Nat) (s : State) : (begin t s).cvis = s.cvis := by simp [begin_keeps t s]

@[simp] theorem begin_cviews (t : Nat) (s : State) : (begin t s).cviews = s.cviews := by simp [begin_keeps t s]

@[simp] theorem begin_cports (t : Nat) (s : State) : (begin t s).cports = s.cports := by simp [begin_keeps t s]

@[simp] theorem begin_ligs (t : Nat) (s : State) : (begin t s).ligs = s.ligs := by simp [begin_keeps t s]

@[simp] theorem begin_func (t : Nat) (s : State) : (begin t s).func = s.func := by simp [begin_keeps t s]

@[simp] theorem begin_pins (t : Nat) (s : State) : (begin t s).pins = s.pins := by simp [begin_keeps t s]

theorem settleIrq_keeps (s : State) : KeepsBoard (settleIrq s) s ∧ KeepsPorts (settleIrq s) s ∧ KeepsHosts (settleIrq s) s ∧ (settleIrq s).out = s.out ∧ (settleIrq s).limits = s.limits ∧ (settleIrq s).rcSpi = s.rcSpi ∧ (settleIrq s).rcPf = s.rcPf ∧ (settleIrq s).pal = s.pal ∧ (settleIrq s).pcie = s.pcie := by
  generalize h : settleIrq s = t; unfold settleIrq at h; (repeat' split at h) <;> (subst h; simp [*])

theorem settle_keeps (s : State) : KeepsPorts (settle s) s ∧ KeepsHosts (settle s) s ∧ (settle s).now = s.now ∧ (settle s).pending = s.pending ∧ (settle s).out = s.out ∧ (settle s).limits = s.limits ∧ (settle s).folioOn = s.folioOn ∧ (settle s).strokeBase = s.strokeBase ∧ (settle s).resyncAt = s.resyncAt ∧ (settle s).rcSpi = s.rcSpi ∧ (settle s).rcPf = s.rcPf ∧ (settle s).pairs = s.pairs ∧ (settle s).writes = s.writes ∧ (settle s).staged = s.staged ∧ (settle s).rubric = s.rubric ∧ (settle s).trustBySpi = s.trustBySpi ∧ (settle s).trustConfigured = s.trustConfigured ∧ (settle s).link = s.link ∧ (settle s).localEvents = s.localEvents ∧ (settle s).localLost = s.localLost ∧ (settle s).pal = s.pal ∧ (settle s).disc = s.disc ∧ (settle s).clusters = s.clusters ∧ (settle s).engines = s.engines ∧ (settle s).regionTemp = s.regionTemp ∧ (settle s).lanes = s.lanes ∧ (settle s).img = s.img ∧ (settle s).nor = s.nor ∧ (settle s).sealUnit = s.sealUnit ∧ (settle s).input = s.input ∧ (settle s).vauxOk = s.vauxOk ∧ (settle s).ptp = s.ptp ∧ (settle s).eth = s.eth ∧ (settle s).prp = s.prp ∧ (settle s).pcie = s.pcie ∧ (settle s).timelines = s.timelines := by
  simp [settle, settleIrq_keeps _]

@[simp] theorem settle_now (s : State) : (settle s).now = s.now := by simp [settle_keeps s]

@[simp] theorem settle_pending (s : State) : (settle s).pending = s.pending := by simp [settle_keeps s]

@[simp] theorem settle_out (s : State) : (settle s).out = s.out := by simp [settle_keeps s]

@[simp] theorem settle_freeCtr (s : State) : (settle s).freeCtr = s.freeCtr := by simp [settle_keeps s]

@[simp] theorem settle_limits (s : State) : (settle s).limits = s.limits := by simp [settle_keeps s]

@[simp] theorem settle_folioOn (s : State) : (settle s).folioOn = s.folioOn := by simp [settle_keeps s]

@[simp] theorem settle_strokeBase (s : State) : (settle s).strokeBase = s.strokeBase := by simp [settle_keeps s]

@[simp] theorem settle_resyncAt (s : State) : (settle s).resyncAt = s.resyncAt := by simp [settle_keeps s]

@[simp] theorem settle_regs (s : State) : (settle s).regs = s.regs := by simp [settle_keeps s]

@[simp] theorem settle_rcSpi (s : State) : (settle s).rcSpi = s.rcSpi := by simp [settle_keeps s]

@[simp] theorem settle_rcPf (s : State) : (settle s).rcPf = s.rcPf := by simp [settle_keeps s]

@[simp] theorem settle_pairs (s : State) : (settle s).pairs = s.pairs := by simp [settle_keeps s]

@[simp] theorem settle_writes (s : State) : (settle s).writes = s.writes := by simp [settle_keeps s]

@[simp] theorem settle_staged (s : State) : (settle s).staged = s.staged := by simp [settle_keeps s]

@[simp] theorem settle_rubric (s : State) : (settle s).rubric = s.rubric := by simp [settle_keeps s]

@[simp] theorem settle_trustBySpi (s : State) : (settle s).trustBySpi = s.trustBySpi := by simp [settle_keeps s]

@[simp] theorem settle_trustConfigured (s : State) : (settle s).trustConfigured = s.trustConfigured := by simp [settle_keeps s]

@[simp] theorem settle_link (s : State) : (settle s).link = s.link := by simp [settle_keeps s]

@[simp] theorem settle_localEvents (s : State) : (settle s).localEvents = s.localEvents := by simp [settle_keeps s]

@[simp] theorem settle_localLost (s : State) : (settle s).localLost = s.localLost := by simp [settle_keeps s]

@[simp] theorem settle_pal (s : State) : (settle s).pal = s.pal := by simp [settle_keeps s]

@[simp] theorem settle_disc (s : State) : (settle s).disc = s.disc := by simp [settle_keeps s]

@[simp] theorem settle_clusters (s : State) : (settle s).clusters = s.clusters := by simp [settle_keeps s]

@[simp] theorem settle_engines (s : State) : (settle s).engines = s.engines := by simp [settle_keeps s]

@[simp] theorem settle_regionTemp (s : State) : (settle s).regionTemp = s.regionTemp := by simp [settle_keeps s]

@[simp] theorem settle_lanes (s : State) : (settle s).lanes = s.lanes := by simp [settle_keeps s]

@[simp] theorem settle_modes (s : State) : (settle s).modes = s.modes := by simp [settle_keeps s]

@[simp] theorem settle_img (s : State) : (settle s).img = s.img := by simp [settle_keeps s]

@[simp] theorem settle_nor (s : State) : (settle s).nor = s.nor := by simp [settle_keeps s]

@[simp] theorem settle_blot (s : State) : (settle s).blot = s.blot := by simp [settle_keeps s]

@[simp] theorem settle_sealUnit (s : State) : (settle s).sealUnit = s.sealUnit := by simp [settle_keeps s]

@[simp] theorem settle_input (s : State) : (settle s).input = s.input := by simp [settle_keeps s]

@[simp] theorem settle_vauxOk (s : State) : (settle s).vauxOk = s.vauxOk := by simp [settle_keeps s]

@[simp] theorem settle_power (s : State) : (settle s).power = s.power := by simp [settle_keeps s]

@[simp] theorem settle_pd (s : State) : (settle s).pd = s.pd := by simp [settle_keeps s]

@[simp] theorem settle_ptp (s : State) : (settle s).ptp = s.ptp := by simp [settle_keeps s]

@[simp] theorem settle_own (s : State) : (settle s).own = s.own := by simp [settle_keeps s]

@[simp] theorem settle_vis (s : State) : (settle s).vis = s.vis := by simp [settle_keeps s]

@[simp] theorem settle_devices (s : State) : (settle s).devices = s.devices := by simp [settle_keeps s]

@[simp] theorem settle_eps (s : State) : (settle s).eps = s.eps := by simp [settle_keeps s]

@[simp] theorem settle_nibs (s : State) : (settle s).nibs = s.nibs := by simp [settle_keeps s]

@[simp] theorem settle_qps (s : State) : (settle s).qps = s.qps := by simp [settle_keeps s]

@[simp] theorem settle_eth (s : State) : (settle s).eth = s.eth := by simp [settle_keeps s]

@[simp] theorem settle_prp (s : State) : (settle s).prp = s.prp := by simp [settle_keeps s]

@[simp] theorem settle_pcie (s : State) : (settle s).pcie = s.pcie := by simp [settle_keeps s]

@[simp] theorem settle_timelines (s : State) : (settle s).timelines = s.timelines := by simp [settle_keeps s]

@[simp] theorem settle_ink (s : State) : (settle s).ink = s.ink := by simp [settle_keeps s]

@[simp] theorem settle_cvis (s : State) : (settle s).cvis = s.cvis := by simp [settle_keeps s]

@[simp] theorem settle_cviews (s : State) : (settle s).cviews = s.cviews := by simp [settle_keeps s]

@[simp] theorem settle_cports (s : State) : (settle s).cports = s.cports := by simp [settle_keeps s]

@[simp] theorem settle_ligs (s : State) : (settle s).ligs = s.ligs := by simp [settle_keeps s]

@[simp] theorem settle_func (s : State) : (settle s).func = s.func := by simp [settle_keeps s]

theorem setApplied_keeps (s : State) (a : Nat) (v : Word) : KeepsHosts (setApplied s a v) s ∧ (setApplied s a v).now = s.now ∧ (setApplied s a v).pending = s.pending ∧ (setApplied s a v).out = s.out ∧ (setApplied s a v).freeCtr = s.freeCtr ∧ (setApplied s a v).limits = s.limits ∧ (setApplied s a v).folioOn = s.folioOn ∧ (setApplied s a v).strokeBase = s.strokeBase ∧ (setApplied s a v).resyncAt = s.resyncAt ∧ (setApplied s a v).rcSpi = s.rcSpi ∧ (setApplied s a v).rcPf = s.rcPf ∧ (setApplied s a v).pairs = s.pairs ∧ (setApplied s a v).writes = s.writes ∧ (setApplied s a v).staged = s.staged ∧ (setApplied s a v).trustBySpi = s.trustBySpi ∧ (setApplied s a v).trustConfigured = s.trustConfigured ∧ (setApplied s a v).link = s.link ∧ (setApplied s a v).localEvents = s.localEvents ∧ (setApplied s a v).localLost = s.localLost ∧ (setApplied s a v).pal = s.pal ∧ (setApplied s a v).margin = s.margin ∧ (setApplied s a v).disc = s.disc ∧ (setApplied s a v).clusters = s.clusters ∧ (setApplied s a v).engines = s.engines ∧ (setApplied s a v).regionTemp = s.regionTemp ∧ (setApplied s a v).lanes = s.lanes ∧ (setApplied s a v).modes = s.modes ∧ (setApplied s a v).img = s.img ∧ (setApplied s a v).nor = s.nor ∧ (setApplied s a v).blot = s.blot ∧ (setApplied s a v).sealUnit = s.sealUnit ∧ (setApplied s a v).input = s.input ∧ (setApplied s a v).vauxOk = s.vauxOk ∧ (setApplied s a v).power = s.power ∧ (setApplied s a v).pd = s.pd ∧ (setApplied s a v).ptp = s.ptp ∧ (setApplied s a v).devices = s.devices ∧ (setApplied s a v).eth = s.eth ∧ (setApplied s a v).prp = s.prp ∧ (setApplied s a v).pcie = s.pcie ∧ (setApplied s a v).timelines = s.timelines ∧ (setApplied s a v).cvis = s.cvis ∧ (setApplied s a v).cviews = s.cviews ∧ (setApplied s a v).cports = s.cports ∧ (setApplied s a v).ligs = s.ligs ∧ (setApplied s a v).func = s.func ∧ (setApplied s a v).pins = s.pins := by
  generalize h : setApplied s a v = t; unfold setApplied at h; (repeat' split at h) <;> (subst h; simp [*, setReg_keeps _ _ _])

end Sys2Proof.Machine
end

