-- ==== Sys2Proof/Laws/FrameRecorder.lean ====
section
/-! SUPPORT. What the operations of Machine/Recorder.lean leave as it was: one lemma for each, over every input, and over every outcome of it.
A proof names the ones it needs, each applied: simp [op_keeps _ _] rewrites every field that op leaves. -/

namespace Sys2Proof.Machine

theorem countLoss_keeps (s : State) (sv : Sev) : KeepsBoard (countLoss s sv) s ∧ KeepsPorts (countLoss s sv) s ∧ KeepsHosts (countLoss s sv) s ∧ (countLoss s sv).out = s.out ∧ (countLoss s sv).limits = s.limits ∧ (countLoss s sv).margin = s.margin ∧ (countLoss s sv).pcie = s.pcie := by
  simp [countLoss, rcCount_keeps _ _ _]

theorem makeRoom_keeps (a0 : Nat) (a1 : State) (a2 : Sev) (a3 : Nat) : KeepsBoard (makeRoom a0 a1 a2 a3).1 a1 ∧ KeepsPorts (makeRoom a0 a1 a2 a3).1 a1 ∧ KeepsHosts (makeRoom a0 a1 a2 a3).1 a1 ∧ (makeRoom a0 a1 a2 a3).1.out = a1.out ∧ (makeRoom a0 a1 a2 a3).1.limits = a1.limits ∧ (makeRoom a0 a1 a2 a3).1.margin = a1.margin ∧ (makeRoom a0 a1 a2 a3).1.pcie = a1.pcie := by
  fun_induction makeRoom a0 a1 a2 a3 <;> simp_all +zetaDelta [countLoss_keeps _ _]

theorem pushRecord_keeps (s : State) (r : Rec) : KeepsBoard (pushRecord s r) s ∧ KeepsPorts (pushRecord s r) s ∧ KeepsHosts (pushRecord s r) s ∧ (pushRecord s r).out = s.out ∧ (pushRecord s r).limits = s.limits ∧ (pushRecord s r).margin = s.margin ∧ (pushRecord s r).pcie = s.pcie := by
  generalize h : pushRecord s r = t; unfold pushRecord at h; dsimp only at h; (repeat' split at h) <;> (subst h; simp [*, makeRoom_keeps _ _ _ _])

theorem marker_keeps (s : State) (code : Nat) (sev : Sev) (ps : List Word) : KeepsBoard (marker s code sev ps) s ∧ KeepsPorts (marker s code sev ps) s ∧ KeepsHosts (marker s code sev ps) s ∧ (marker s code sev ps).out = s.out ∧ (marker s code sev ps).limits = s.limits ∧ (marker s code sev ps).margin = s.margin ∧ (marker s code sev ps).pcie = s.pcie := by
  simp [marker, pushRecord_keeps _ _]

theorem takeToken_keeps (s : State) (code : Nat) (n : PortId) (sv : Sev) : KeepsBoard (takeToken s code n sv).1 s ∧ KeepsPorts (takeToken s code n sv).1 s ∧ KeepsHosts (takeToken s code n sv).1 s ∧ (takeToken s code n sv).1.out = s.out ∧ (takeToken s code n sv).1.limits = s.limits ∧ (takeToken s code n sv).1.margin = s.margin ∧ (takeToken s code n sv).1.pcie = s.pcie := by
  generalize h : takeToken s code n sv = t; unfold takeToken at h; (repeat' split at h) <;> (subst h; simp [*, rcCount_keeps _ _ _])

theorem recordAt_keeps (s : State) (place : Nat × Nat) (code : Nat) (sev : Sev) (n : PortId) (subject : Owner) (set : SnapSet) (ps : List Word) : KeepsBoard (recordAt s place code sev n subject set ps) s ∧ KeepsPorts (recordAt s place code sev n subject set ps) s ∧ KeepsHosts (recordAt s place code sev n subject set ps) s ∧ (recordAt s place code sev n subject set ps).out = s.out ∧ (recordAt s place code sev n subject set ps).limits = s.limits ∧ (recordAt s place code sev n subject set ps).margin = s.margin ∧ (recordAt s place code sev n subject set ps).pcie = s.pcie := by
  generalize h : recordAt s place code sev n subject set ps = t; unfold recordAt at h; (repeat' split at h) <;> (subst h; simp [*, pushRecord_keeps _ _, takeToken_keeps _ _ _ _])

theorem record_keeps (s : State) (code : Nat) (sev : Sev) (n : PortId) (subject : Owner) (set : SnapSet) (ps : List Word) : KeepsBoard (record s code sev n subject set ps) s ∧ KeepsPorts (record s code sev n subject set ps) s ∧ KeepsHosts (record s code sev n subject set ps) s ∧ (record s code sev n subject set ps).out = s.out ∧ (record s code sev n subject set ps).limits = s.limits ∧ (record s code sev n subject set ps).margin = s.margin ∧ (record s code sev n subject set ps).pcie = s.pcie := by
  simp [record, recordAt_keeps _ _ _ _ _ _ _ _]

theorem recordRes_keeps (s : State) (place : Nat × Nat) (code : Nat) (sev : Sev) (n : PortId) (set : SnapSet) (ps : List Word) : KeepsPorts (recordRes s place code sev n set ps) s ∧ KeepsHosts (recordRes s place code sev n set ps) s ∧ (recordRes s place code sev n set ps).now = s.now ∧ (recordRes s place code sev n set ps).pending = s.pending ∧ (recordRes s place code sev n set ps).out = s.out ∧ (recordRes s place code sev n set ps).limits = s.limits ∧ (recordRes s place code sev n set ps).folioOn = s.folioOn ∧ (recordRes s place code sev n set ps).strokeBase = s.strokeBase ∧ (recordRes s place code sev n set ps).resyncAt = s.resyncAt ∧ (recordRes s place code sev n set ps).pairs = s.pairs ∧ (recordRes s place code sev n set ps).writes = s.writes ∧ (recordRes s place code sev n set ps).staged = s.staged ∧ (recordRes s place code sev n set ps).rubric = s.rubric ∧ (recordRes s place code sev n set ps).trustBySpi = s.trustBySpi ∧ (recordRes s place code sev n set ps).trustConfigured = s.trustConfigured ∧ (recordRes s place code sev n set ps).link = s.link ∧ (recordRes s place code sev n set ps).margin = s.margin ∧ (recordRes s place code sev n set ps).disc = s.disc ∧ (recordRes s place code sev n set ps).clusters = s.clusters ∧ (recordRes s place code sev n set ps).engines = s.engines ∧ (recordRes s place code sev n set ps).regionTemp = s.regionTemp ∧ (recordRes s place code sev n set ps).lanes = s.lanes ∧ (recordRes s place code sev n set ps).img = s.img ∧ (recordRes s place code sev n set ps).nor = s.nor ∧ (recordRes s place code sev n set ps).sealUnit = s.sealUnit ∧ (recordRes s place code sev n set ps).input = s.input ∧ (recordRes s place code sev n set ps).vauxOk = s.vauxOk ∧ (recordRes s place code sev n set ps).ptp = s.ptp ∧ (recordRes s place code sev n set ps).eth = s.eth ∧ (recordRes s place code sev n set ps).prp = s.prp ∧ (recordRes s place code sev n set ps).pcie = s.pcie ∧ (recordRes s place code sev n set ps).timelines = s.timelines ∧ (recordRes s place code sev n set ps).pins = s.pins := by
  generalize h : recordRes s place code sev n set ps = t; unfold recordRes at h; (repeat' split at h) <;> (subst h; simp [*, recordAt_keeps _ _ _ _ _ _ _ _])

@[simp] theorem recordLimited_now (s : State) (key : Nat) (f : State → State) (hf : ∀ f0, (f f0).now = f0.now) : (recordLimited s key f).now = s.now := by
  simp [recordLimited, limitMark_keeps _ _, *]

@[simp] theorem recordLimited_pending (s : State) (key : Nat) (f : State → State) (hf : ∀ f0, (f f0).pending = f0.pending) : (recordLimited s key f).pending = s.pending := by
  simp [recordLimited, limitMark_keeps _ _, *]

@[simp] theorem recordLimited_out (s : State) (key : Nat) (f : State → State) (hf : ∀ f0, (f f0).out = f0.out) : (recordLimited s key f).out = s.out := by
  simp [recordLimited, limitMark_keeps _ _, *]

@[simp] theorem recordLimited_freeCtr (s : State) (key : Nat) (f : State → State) (hf : ∀ f0, (f f0).freeCtr = f0.freeCtr) : (recordLimited s key f).freeCtr = s.freeCtr := by
  simp [recordLimited, limitMark_keeps _ _, *]

@[simp] theorem recordLimited_folioOn (s : State) (key : Nat) (f : State → State) (hf : ∀ f0, (f f0).folioOn = f0.folioOn) : (recordLimited s key f).folioOn = s.folioOn := by
  simp [recordLimited, limitMark_keeps _ _, *]

@[simp] theorem recordLimited_strokeBase (s : State) (key : Nat) (f : State → State) (hf : ∀ f0, (f f0).strokeBase = f0.strokeBase) : (recordLimited s key f).strokeBase = s.strokeBase := by
  simp [recordLimited, limitMark_keeps _ _, *]

@[simp] theorem recordLimited_resyncAt (s : State) (key : Nat) (f : State → State) (hf : ∀ f0, (f f0).resyncAt = f0.resyncAt) : (recordLimited s key f).resyncAt = s.resyncAt := by
  simp [recordLimited, limitMark_keeps _ _, *]

@[simp] theorem recordLimited_regs (s : State) (key : Nat) (f : State → State) (hf : ∀ f0, (f f0).regs = f0.regs) : (recordLimited s key f).regs = s.regs := by
  simp [recordLimited, limitMark_keeps _ _, *]

@[simp] theorem recordLimited_rcSpi (s : State) (key : Nat) (f : State → State) (hf : ∀ f0, (f f0).rcSpi = f0.rcSpi) : (recordLimited s key f).rcSpi = s.rcSpi := by
  simp [recordLimited, limitMark_keeps _ _, *]

@[simp] theorem recordLimited_rcPf (s : State) (key : Nat) (f : State → State) (hf : ∀ f0, (f f0).rcPf = f0.rcPf) : (recordLimited s key f).rcPf = s.rcPf := by
  simp [recordLimited, limitMark_keeps _ _, *]

@[simp] theorem recordLimited_pairs (s : State) (key : Nat) (f : State → State) (hf : ∀ f0, (f f0).pairs = f0.pairs) : (recordLimited s key f).pairs = s.pairs := by
  simp [recordLimited, limitMark_keeps _ _, *]

@[simp] theorem recordLimited_writes (s : State) (key : Nat) (f : State → State) (hf : ∀ f0, (f f0).writes = f0.writes) : (recordLimited s key f).writes = s.writes := by
  simp [recordLimited, limitMark_keeps _ _, *]

@[simp] theorem recordLimited_staged (s : State) (key : Nat) (f : State → State) (hf : ∀ f0, (f f0).staged = f0.staged) : (recordLimited s key f).staged = s.staged := by
  simp [recordLimited, limitMark_keeps _ _, *]

@[simp] theorem recordLimited_rubric (s : State) (key : Nat) (f : State → State) (hf : ∀ f0, (f f0).rubric = f0.rubric) : (recordLimited s key f).rubric = s.rubric := by
  simp [recordLimited, limitMark_keeps _ _, *]

@[simp] theorem recordLimited_trustBySpi (s : State) (key : Nat) (f : State → State) (hf : ∀ f0, (f f0).trustBySpi = f0.trustBySpi) : (recordLimited s key f).trustBySpi = s.trustBySpi := by
  simp [recordLimited, limitMark_keeps _ _, *]

@[simp] theorem recordLimited_trustConfigured (s : State) (key : Nat) (f : State → State) (hf : ∀ f0, (f f0).trustConfigured = f0.trustConfigured) : (recordLimited s key f).trustConfigured = s.trustConfigured := by
  simp [recordLimited, limitMark_keeps _ _, *]

@[simp] theorem recordLimited_link (s : State) (key : Nat) (f : State → State) (hf : ∀ f0, (f f0).link = f0.link) : (recordLimited s key f).link = s.link := by
  simp [recordLimited, limitMark_keeps _ _, *]

@[simp] theorem recordLimited_localEvents (s : State) (key : Nat) (f : State → State) (hf : ∀ f0, (f f0).localEvents = f0.localEvents) : (recordLimited s key f).localEvents = s.localEvents := by
  simp [recordLimited, limitMark_keeps _ _, *]

@[simp] theorem recordLimited_localLost (s : State) (key : Nat) (f : State → State) (hf : ∀ f0, (f f0).localLost = f0.localLost) : (recordLimited s key f).localLost = s.localLost := by
  simp [recordLimited, limitMark_keeps _ _, *]

@[simp] theorem recordLimited_pal (s : State) (key : Nat) (f : State → State) (hf : ∀ f0, (f f0).pal = f0.pal) : (recordLimited s key f).pal = s.pal := by
  simp [recordLimited, limitMark_keeps _ _, *]

@[simp] theorem recordLimited_margin (s : State) (key : Nat) (f : State → State) (hf : ∀ f0, (f f0).margin = f0.margin) : (recordLimited s key f).margin = s.margin := by
  simp [recordLimited, limitMark_keeps _ _, *]

@[simp] theorem recordLimited_disc (s : State) (key : Nat) (f : State → State) (hf : ∀ f0, (f f0).disc = f0.disc) : (recordLimited s key f).disc = s.disc := by
  simp [recordLimited, limitMark_keeps _ _, *]

@[simp] theorem recordLimited_clusters (s : State) (key : Nat) (f : State → State) (hf : ∀ f0, (f f0).clusters = f0.clusters) : (recordLimited s key f).clusters = s.clusters := by
  simp [recordLimited, limitMark_keeps _ _, *]

@[simp] theorem recordLimited_engines (s : State) (key : Nat) (f : State → State) (hf : ∀ f0, (f f0).engines = f0.engines) : (recordLimited s key f).engines = s.engines := by
  simp [recordLimited, limitMark_keeps _ _, *]

@[simp] theorem recordLimited_regionTemp (s : State) (key : Nat) (f : State → State) (hf : ∀ f0, (f f0).regionTemp = f0.regionTemp) : (recordLimited s key f).regionTemp = s.regionTemp := by
  simp [recordLimited, limitMark_keeps _ _, *]

@[simp] theorem recordLimited_lanes (s : State) (key : Nat) (f : State → State) (hf : ∀ f0, (f f0).lanes = f0.lanes) : (recordLimited s key f).lanes = s.lanes := by
  simp [recordLimited, limitMark_keeps _ _, *]

@[simp] theorem recordLimited_modes (s : State) (key : Nat) (f : State → State) (hf : ∀ f0, (f f0).modes = f0.modes) : (recordLimited s key f).modes = s.modes := by
  simp [recordLimited, limitMark_keeps _ _, *]

@[simp] theorem recordLimited_img (s : State) (key : Nat) (f : State → State) (hf : ∀ f0, (f f0).img = f0.img) : (recordLimited s key f).img = s.img := by
  simp [recordLimited, limitMark_keeps _ _, *]

@[simp] theorem recordLimited_nor (s : State) (key : Nat) (f : State → State) (hf : ∀ f0, (f f0).nor = f0.nor) : (recordLimited s key f).nor = s.nor := by
  simp [recordLimited, limitMark_keeps _ _, *]

@[simp] theorem recordLimited_blot (s : State) (key : Nat) (f : State → State) (hf : ∀ f0, (f f0).blot = f0.blot) : (recordLimited s key f).blot = s.blot := by
  simp [recordLimited, limitMark_keeps _ _, *]

@[simp] theorem recordLimited_sealUnit (s : State) (key : Nat) (f : State → State) (hf : ∀ f0, (f f0).sealUnit = f0.sealUnit) : (recordLimited s key f).sealUnit = s.sealUnit := by
  simp [recordLimited, limitMark_keeps _ _, *]

@[simp] theorem recordLimited_input (s : State) (key : Nat) (f : State → State) (hf : ∀ f0, (f f0).input = f0.input) : (recordLimited s key f).input = s.input := by
  simp [recordLimited, limitMark_keeps _ _, *]

@[simp] theorem recordLimited_vauxOk (s : State) (key : Nat) (f : State → State) (hf : ∀ f0, (f f0).vauxOk = f0.vauxOk) : (recordLimited s key f).vauxOk = s.vauxOk := by
  simp [recordLimited, limitMark_keeps _ _, *]

@[simp] theorem recordLimited_power (s : State) (key : Nat) (f : State → State) (hf : ∀ f0, (f f0).power = f0.power) : (recordLimited s key f).power = s.power := by
  simp [recordLimited, limitMark_keeps _ _, *]

@[simp] theorem recordLimited_pd (s : State) (key : Nat) (f : State → State) (hf : ∀ f0, (f f0).pd = f0.pd) : (recordLimited s key f).pd = s.pd := by
  simp [recordLimited, limitMark_keeps _ _, *]

@[simp] theorem recordLimited_ptp (s : State) (key : Nat) (f : State → State) (hf : ∀ f0, (f f0).ptp = f0.ptp) : (recordLimited s key f).ptp = s.ptp := by
  simp [recordLimited, limitMark_keeps _ _, *]

@[simp] theorem recordLimited_own (s : State) (key : Nat) (f : State → State) (hf : ∀ f0, (f f0).own = f0.own) : (recordLimited s key f).own = s.own := by
  simp [recordLimited, limitMark_keeps _ _, *]

@[simp] theorem recordLimited_vis (s : State) (key : Nat) (f : State → State) (hf : ∀ f0, (f f0).vis = f0.vis) : (recordLimited s key f).vis = s.vis := by
  simp [recordLimited, limitMark_keeps _ _, *]

@[simp] theorem recordLimited_devices (s : State) (key : Nat) (f : State → State) (hf : ∀ f0, (f f0).devices = f0.devices) : (recordLimited s key f).devices = s.devices := by
  simp [recordLimited, limitMark_keeps _ _, *]

@[simp] theorem recordLimited_eps (s : State) (key : Nat) (f : State → State) (hf : ∀ f0, (f f0).eps = f0.eps) : (recordLimited s key f).eps = s.eps := by
  simp [recordLimited, limitMark_keeps _ _, *]

@[simp] theorem recordLimited_nibs (s : State) (key : Nat) (f : State → State) (hf : ∀ f0, (f f0).nibs = f0.nibs) : (recordLimited s key f).nibs = s.nibs := by
  simp [recordLimited, limitMark_keeps _ _, *]

@[simp] theorem recordLimited_qps (s : State) (key : Nat) (f : State → State) (hf : ∀ f0, (f f0).qps = f0.qps) : (recordLimited s key f).qps = s.qps := by
  simp [recordLimited, limitMark_keeps _ _, *]

@[simp] theorem recordLimited_eth (s : State) (key : Nat) (f : State → State) (hf : ∀ f0, (f f0).eth = f0.eth) : (recordLimited s key f).eth = s.eth := by
  simp [recordLimited, limitMark_keeps _ _, *]

@[simp] theorem recordLimited_prp (s : State) (key : Nat) (f : State → State) (hf : ∀ f0, (f f0).prp = f0.prp) : (recordLimited s key f).prp = s.prp := by
  simp [recordLimited, limitMark_keeps _ _, *]

@[simp] theorem recordLimited_pcie (s : State) (key : Nat) (f : State → State) (hf : ∀ f0, (f f0).pcie = f0.pcie) : (recordLimited s key f).pcie = s.pcie := by
  simp [recordLimited, limitMark_keeps _ _, *]

@[simp] theorem recordLimited_timelines (s : State) (key : Nat) (f : State → State) (hf : ∀ f0, (f f0).timelines = f0.timelines) : (recordLimited s key f).timelines = s.timelines := by
  simp [recordLimited, limitMark_keeps _ _, *]

@[simp] theorem recordLimited_ink (s : State) (key : Nat) (f : State → State) (hf : ∀ f0, (f f0).ink = f0.ink) : (recordLimited s key f).ink = s.ink := by
  simp [recordLimited, limitMark_keeps _ _, *]

@[simp] theorem recordLimited_cvis (s : State) (key : Nat) (f : State → State) (hf : ∀ f0, (f f0).cvis = f0.cvis) : (recordLimited s key f).cvis = s.cvis := by
  simp [recordLimited, limitMark_keeps _ _, *]

@[simp] theorem recordLimited_cviews (s : State) (key : Nat) (f : State → State) (hf : ∀ f0, (f f0).cviews = f0.cviews) : (recordLimited s key f).cviews = s.cviews := by
  simp [recordLimited, limitMark_keeps _ _, *]

@[simp] theorem recordLimited_cports (s : State) (key : Nat) (f : State → State) (hf : ∀ f0, (f f0).cports = f0.cports) : (recordLimited s key f).cports = s.cports := by
  simp [recordLimited, limitMark_keeps _ _, *]

@[simp] theorem recordLimited_ligs (s : State) (key : Nat) (f : State → State) (hf : ∀ f0, (f f0).ligs = f0.ligs) : (recordLimited s key f).ligs = s.ligs := by
  simp [recordLimited, limitMark_keeps _ _, *]

@[simp] theorem recordLimited_func (s : State) (key : Nat) (f : State → State) (hf : ∀ f0, (f f0).func = f0.func) : (recordLimited s key f).func = s.func := by
  simp [recordLimited, limitMark_keeps _ _, *]

@[simp] theorem recordLimited_pins (s : State) (key : Nat) (f : State → State) (hf : ∀ f0, (f f0).pins = f0.pins) : (recordLimited s key f).pins = s.pins := by
  simp [recordLimited, limitMark_keeps _ _, *]

end Sys2Proof.Machine
end

