-- ==== Sys2Proof/Laws/FrameNotices.lean ====
section
/-! SUPPORT. What the operations of Machine/Notices.lean leave as it was: one lemma for each, over every input, and over every outcome of it.
A proof names the ones it needs, each applied: simp [op_keeps _ _] rewrites every field that op leaves. -/

namespace Sys2Proof.Machine

theorem setQueue_keeps (s : State) (q : Fin 65) (f : NoticeQueue → NoticeQueue) : KeepsBoard (setQueue s q f) s ∧ KeepsPorts (setQueue s q f) s ∧ KeepsHosts (setQueue s q f) s ∧ (setQueue s q f).out = s.out ∧ (setQueue s q f).limits = s.limits ∧ (setQueue s q f).rcSpi = s.rcSpi ∧ (setQueue s q f).rcPf = s.rcPf ∧ (setQueue s q f).pal = s.pal ∧ (setQueue s q f).pcie = s.pcie := by
  simp [setQueue]

theorem lostNotice_keeps (s : State) (q : Fin 65) (p : Sev) : KeepsBoard (lostNotice s q p) s ∧ KeepsPorts (lostNotice s q p) s ∧ KeepsHosts (lostNotice s q p) s ∧ (lostNotice s q p).out = s.out ∧ (lostNotice s q p).pcie = s.pcie := by
  simp [lostNotice, rcCount_keeps _ _ _, record_keeps _ _ _ _ _ _ _, setQueue_keeps _ _ _]

theorem enterLoop_keeps (a0 : Nat) (a1 : State) (a2 : Fin 65) (a3 : Notice) : KeepsBoard (enterLoop a0 a1 a2 a3).1 a1 ∧ KeepsPorts (enterLoop a0 a1 a2 a3).1 a1 ∧ KeepsHosts (enterLoop a0 a1 a2 a3).1 a1 ∧ (enterLoop a0 a1 a2 a3).1.out = a1.out ∧ (enterLoop a0 a1 a2 a3).1.pcie = a1.pcie := by
  fun_induction enterLoop a0 a1 a2 a3 <;> simp_all +zetaDelta [lostNotice_keeps _ _ _, setQueue_keeps _ _ _]

theorem enterQueue_keeps (s : State) (q : Fin 65) (n : Notice) : KeepsBoard (enterQueue s q n).1 s ∧ KeepsPorts (enterQueue s q n).1 s ∧ KeepsHosts (enterQueue s q n).1 s ∧ (enterQueue s q n).1.out = s.out ∧ (enterQueue s q n).1.pcie = s.pcie := by
  generalize h : enterQueue s q n = t; unfold enterQueue at h; (repeat' split at h) <;> (subst h; simp [*, enterLoop_keeps _ _ _ _])

theorem notice_keeps (s : State) (type : Nat) (prio : Sev) (n : PortId) (subject : Owner) (body : List DWord) (dest : List (Fin 65)) : KeepsBoard (notice s type prio n subject body dest) s ∧ KeepsPorts (notice s type prio n subject body dest) s ∧ KeepsHosts (notice s type prio n subject body dest) s ∧ (notice s type prio n subject body dest).out = s.out ∧ (notice s type prio n subject body dest).pcie = s.pcie := by
  generalize h : notice s type prio n subject body dest = t; unfold notice at h; (repeat' split at h) <;> (subst h; simp [*, enterQueue_keeps _ _ _])

theorem powerNotice_keeps (s : State) (n : PortId) (event : Nat) : KeepsBoard (powerNotice s n event) s ∧ KeepsPorts (powerNotice s n event) s ∧ KeepsHosts (powerNotice s n event) s ∧ (powerNotice s n event).out = s.out ∧ (powerNotice s n event).pcie = s.pcie := by
  simp [powerNotice, notice_keeps _ _ _ _ _ _ _]

theorem detachNotice_keeps (s : State) (n : PortId) (reason path ended : Nat) : KeepsBoard (detachNotice s n reason path ended) s ∧ KeepsPorts (detachNotice s n reason path ended) s ∧ KeepsHosts (detachNotice s n reason path ended) s ∧ (detachNotice s n reason path ended).out = s.out ∧ (detachNotice s n reason path ended).pcie = s.pcie := by
  simp [detachNotice, notice_keeps _ _ _ _ _ _ _]

theorem portStateNotice_keeps (s : State) (n : PortId) (event link speed : Nat) : KeepsBoard (portStateNotice s n event link speed) s ∧ KeepsPorts (portStateNotice s n event link speed) s ∧ KeepsHosts (portStateNotice s n event link speed) s ∧ (portStateNotice s n event link speed).out = s.out ∧ (portStateNotice s n event link speed).pcie = s.pcie := by
  simp [portStateNotice, notice_keeps _ _ _ _ _ _ _]

theorem heartbeatInto_keeps (s : State) (q : Fin 65) : KeepsBoard (heartbeatInto s q) s ∧ KeepsPorts (heartbeatInto s q) s ∧ KeepsHosts (heartbeatInto s q) s ∧ (heartbeatInto s q).out = s.out ∧ (heartbeatInto s q).pcie = s.pcie := by
  generalize h : heartbeatInto s q = t; unfold heartbeatInto at h; dsimp only at h; (repeat' split at h) <;> (subst h; simp [*, enterQueue_keeps _ _ _, setQueue_keeps _ _ _])

end Sys2Proof.Machine
end

