-- ==== Sys2Proof/Laws/FrameStore.lean ====
section
/-! SUPPORT. What the operations of Machine/Store.lean leave as it was: one lemma for each, over every input, and over every outcome of it.
A proof names the ones it needs, each applied: simp [op_keeps _ _] rewrites every field that op leaves. -/

namespace Sys2Proof.Machine

theorem setRing_keeps (s : State) (r : Ring) (xs : List Sector) : KeepsBoard (setRing s r xs) s ∧ KeepsPorts (setRing s r xs) s ∧ KeepsHosts (setRing s r xs) s ∧ (setRing s r xs).out = s.out ∧ (setRing s r xs).limits = s.limits ∧ (setRing s r xs).rcSpi = s.rcSpi ∧ (setRing s r xs).rcPf = s.rcPf ∧ (setRing s r xs).margin = s.margin ∧ (setRing s r xs).pcie = s.pcie := by
  generalize h : setRing s r xs = t; unfold setRing at h; (repeat' split at h) <;> (subst h; simp [*])

theorem markRam_keeps (s : State) (r : RamRec) (f : RamRec → RamRec) : KeepsBoard (markRam s r f) s ∧ KeepsPorts (markRam s r f) s ∧ KeepsHosts (markRam s r f) s ∧ (markRam s r f).out = s.out ∧ (markRam s r f).limits = s.limits ∧ (markRam s r f).rcSpi = s.rcSpi ∧ (markRam s r f).rcPf = s.rcPf ∧ (markRam s r f).margin = s.margin ∧ (markRam s r f).pcie = s.pcie := by
  simp [markRam]

theorem norFailure_keeps (s : State) (r : Ring) (i op : Nat) : KeepsBoard (norFailure s r i op) s ∧ KeepsPorts (norFailure s r i op) s ∧ KeepsHosts (norFailure s r i op) s ∧ (norFailure s r i op).out = s.out ∧ (norFailure s r i op).limits = s.limits ∧ (norFailure s r i op).margin = s.margin ∧ (norFailure s r i op).pcie = s.pcie := by
  simp [norFailure, marker_keeps _ _ _ _, rcCount_keeps _ _ _, setRing_keeps _ _ _]

theorem programRecord_keeps (s : State) (r : RamRec) (steps : Nat) : KeepsBoard (programRecord s r steps) s ∧ KeepsPorts (programRecord s r steps) s ∧ KeepsHosts (programRecord s r steps) s ∧ (programRecord s r steps).out = s.out ∧ (programRecord s r steps).limits = s.limits ∧ (programRecord s r steps).rcSpi = s.rcSpi ∧ (programRecord s r steps).rcPf = s.rcPf ∧ (programRecord s r steps).margin = s.margin ∧ (programRecord s r steps).pcie = s.pcie := by
  generalize h : programRecord s r steps = t; unfold programRecord at h; dsimp only at h; (repeat' split at h) <;> (subst h; simp [*, markRam_keeps _ _ _, setRing_keeps _ _ _])

theorem persistOne_keeps (s : State) : KeepsBoard (persistOne s) s ∧ KeepsPorts (persistOne s) s ∧ KeepsHosts (persistOne s) s ∧ (persistOne s).out = s.out ∧ (persistOne s).limits = s.limits ∧ (persistOne s).rcSpi = s.rcSpi ∧ (persistOne s).rcPf = s.rcPf ∧ (persistOne s).margin = s.margin ∧ (persistOne s).pcie = s.pcie := by
  generalize h : persistOne s = t; unfold persistOne at h; (repeat' split at h) <;> (subst h; simp [*, programRecord_keeps _ _ _])

theorem persistAll_keeps (a0 : Nat) (a1 : State) : KeepsBoard (persistAll a0 a1) a1 ∧ KeepsPorts (persistAll a0 a1) a1 ∧ KeepsHosts (persistAll a0 a1) a1 ∧ (persistAll a0 a1).out = a1.out ∧ (persistAll a0 a1).limits = a1.limits ∧ (persistAll a0 a1).rcSpi = a1.rcSpi ∧ (persistAll a0 a1).rcPf = a1.rcPf ∧ (persistAll a0 a1).margin = a1.margin ∧ (persistAll a0 a1).pcie = a1.pcie := by
  fun_induction persistAll a0 a1 <;> simp_all +zetaDelta [persistOne_keeps _]

theorem persistEverything_keeps (s : State) : KeepsBoard (persistEverything s) s ∧ KeepsPorts (persistEverything s) s ∧ KeepsHosts (persistEverything s) s ∧ (persistEverything s).out = s.out ∧ (persistEverything s).limits = s.limits ∧ (persistEverything s).rcSpi = s.rcSpi ∧ (persistEverything s).rcPf = s.rcPf ∧ (persistEverything s).margin = s.margin ∧ (persistEverything s).pcie = s.pcie := by
  simp [persistEverything, persistAll_keeps _ _]

theorem flushMarker_keeps (s : State) : KeepsBoard (flushMarker s) s ∧ KeepsPorts (flushMarker s) s ∧ KeepsHosts (flushMarker s) s ∧ (flushMarker s).out = s.out ∧ (flushMarker s).limits = s.limits ∧ (flushMarker s).margin = s.margin ∧ (flushMarker s).pcie = s.pcie := by
  generalize h : flushMarker s = t; unfold flushMarker at h; (repeat' split at h) <;> (subst h; simp [*, marker_keeps _ _ _ _])

theorem sample_keeps (s : State) (ch q : Nat) (x : Int) (ms : Bool) : KeepsBoard (sample s ch q x ms) s ∧ KeepsPorts (sample s ch q x ms) s ∧ KeepsHosts (sample s ch q x ms) s ∧ (sample s ch q x ms).out = s.out ∧ (sample s ch q x ms).limits = s.limits ∧ (sample s ch q x ms).rcSpi = s.rcSpi ∧ (sample s ch q x ms).rcPf = s.rcPf ∧ (sample s ch q x ms).margin = s.margin ∧ (sample s ch q x ms).pcie = s.pcie := by
  simp [sample]

theorem summaryRecord_keeps (s : State) (a : SumAcc) : KeepsBoard (summaryRecord s a) s ∧ KeepsPorts (summaryRecord s a) s ∧ KeepsHosts (summaryRecord s a) s ∧ (summaryRecord s a).out = s.out ∧ (summaryRecord s a).limits = s.limits ∧ (summaryRecord s a).margin = s.margin ∧ (summaryRecord s a).pcie = s.pcie := by
  simp [summaryRecord, pushRecord_keeps _ _]

theorem closeSummaries_keeps (s : State) (qs : List Nat) : KeepsBoard (closeSummaries s qs) s ∧ KeepsPorts (closeSummaries s qs) s ∧ KeepsHosts (closeSummaries s qs) s ∧ (closeSummaries s qs).out = s.out ∧ (closeSummaries s qs).limits = s.limits ∧ (closeSummaries s qs).margin = s.margin ∧ (closeSummaries s qs).pcie = s.pcie := by
  generalize h : closeSummaries s qs = t; unfold closeSummaries at h; (repeat' split at h) <;> (subst h; simp [*, summaryRecord_keeps _ _])

theorem preFlush_keeps (s : State) : KeepsBoard (preFlush s) s ∧ KeepsPorts (preFlush s) s ∧ KeepsHosts (preFlush s) s ∧ (preFlush s).out = s.out ∧ (preFlush s).limits = s.limits ∧ (preFlush s).margin = s.margin ∧ (preFlush s).pcie = s.pcie := by
  simp [preFlush, closeSummaries_keeps _ _, flushMarker_keeps _]

theorem bootScan_keeps (s : State) : KeepsBoard (bootScan s) s ∧ KeepsPorts (bootScan s) s ∧ KeepsHosts (bootScan s) s ∧ (bootScan s).out = s.out ∧ (bootScan s).pcie = s.pcie := by
  simp [bootScan, marker_keeps _ _ _ _, pushRecord_keeps _ _]

end Sys2Proof.Machine
end

