-- ==== Sys2Proof/Laws/FrameAccess.lean ====
section
/-! SUPPORT. What the operations of Machine/Access.lean leave as it was: one lemma for each, over every input, and over every outcome of it.
A proof names the ones it needs, each applied: simp [op_keeps _ _] rewrites every field that op leaves. -/

namespace Sys2Proof.Machine

theorem accessRecord_keeps (s : State) (code : Nat) (p : Path) (a : Nat) (more : List Word) : KeepsBoard (accessRecord s code p a more) s ∧ KeepsPorts (accessRecord s code p a more) s ∧ KeepsHosts (accessRecord s code p a more) s ∧ (accessRecord s code p a more).out = s.out ∧ (accessRecord s code p a more).limits = s.limits ∧ (accessRecord s code p a more).margin = s.margin ∧ (accessRecord s code p a more).pcie = s.pcie := by
  simp [accessRecord, recordAt_keeps _ _ _ _ _ _ _ _]

theorem privDenied_keeps (s : State) (p : Path) (a : Nat) : KeepsBoard (privDenied s p a) s ∧ KeepsPorts (privDenied s p a) s ∧ KeepsHosts (privDenied s p a) s ∧ (privDenied s p a).out = s.out ∧ (privDenied s p a).limits = s.limits ∧ (privDenied s p a).margin = s.margin ∧ (privDenied s p a).pcie = s.pcie := by
  simp [privDenied, accessRecord_keeps _ _ _ _ _, rcCount_keeps _ _ _]

theorem writeIgnored_keeps (s : State) (p : Path) (a : Nat) (v : Word) : KeepsBoard (writeIgnored s p a v) s ∧ KeepsPorts (writeIgnored s p a v) s ∧ KeepsHosts (writeIgnored s p a v) s ∧ (writeIgnored s p a v).out = s.out ∧ (writeIgnored s p a v).limits = s.limits ∧ (writeIgnored s p a v).margin = s.margin ∧ (writeIgnored s p a v).pcie = s.pcie := by
  simp [writeIgnored, accessRecord_keeps _ _ _ _ _]

theorem accessFault_keeps (s : State) (p : Path) (bit : Nat) : KeepsBoard (accessFault s p bit) s ∧ KeepsPorts (accessFault s p bit) s ∧ KeepsHosts (accessFault s p bit) s ∧ (accessFault s p bit).out = s.out ∧ (accessFault s p bit).limits = s.limits ∧ (accessFault s p bit).pal = s.pal ∧ (accessFault s p bit).margin = s.margin ∧ (accessFault s p bit).pcie = s.pcie := by
  simp [accessFault, rcAddPath_keeps _ _ _ _]

theorem accessTimeout_keeps (s : State) (p : Path) (a : Nat) : KeepsBoard (accessTimeout s p a) s ∧ KeepsPorts (accessTimeout s p a) s ∧ KeepsHosts (accessTimeout s p a) s ∧ (accessTimeout s p a).out = s.out ∧ (accessTimeout s p a).limits = s.limits ∧ (accessTimeout s p a).margin = s.margin ∧ (accessTimeout s p a).pcie = s.pcie := by
  simp [accessTimeout, accessFault_keeps _ _ _, accessRecord_keeps _ _ _ _ _, rcAddPath_keeps _ _ _ _]

end Sys2Proof.Machine
end

