-- ==== Sys2Proof/Laws/FrameInkwell.lean ====
section
/-! SUPPORT. What the operations of Machine/Inkwell.lean leave as it was: one lemma for each, over every input, and over every outcome of it.
A proof names the ones it needs, each applied: simp [op_keeps _ _] rewrites every field that op leaves. -/

namespace Sys2Proof.Machine

theorem keyNow_keeps (s : State) : KeepsBoard (keyNow s) s ∧ KeepsPorts (keyNow s) s ∧ (keyNow s).out = s.out ∧ (keyNow s).limits = s.limits ∧ (keyNow s).rcSpi = s.rcSpi ∧ (keyNow s).rcPf = s.rcPf ∧ (keyNow s).pal = s.pal ∧ (keyNow s).margin = s.margin ∧ (keyNow s).own = s.own ∧ (keyNow s).vis = s.vis ∧ (keyNow s).eps = s.eps ∧ (keyNow s).nibs = s.nibs ∧ (keyNow s).qps = s.qps ∧ (keyNow s).pcie = s.pcie := by
  generalize h : keyNow s = t; unfold keyNow at h; (repeat' split at h) <;> (subst h; simp [*])

theorem noteLive_keeps (s : State) : KeepsBoard (noteLive s) s ∧ KeepsPorts (noteLive s) s ∧ (noteLive s).out = s.out ∧ (noteLive s).limits = s.limits ∧ (noteLive s).rcSpi = s.rcSpi ∧ (noteLive s).rcPf = s.rcPf ∧ (noteLive s).pal = s.pal ∧ (noteLive s).margin = s.margin ∧ (noteLive s).own = s.own ∧ (noteLive s).vis = s.vis ∧ (noteLive s).eps = s.eps ∧ (noteLive s).nibs = s.nibs ∧ (noteLive s).qps = s.qps ∧ (noteLive s).pcie = s.pcie := by
  simp [noteLive]

theorem placeBlocks_keeps (a0 : Nat) (a1 : State) (a2 : Owner) (a3 : Option Nat) : KeepsBoard (placeBlocks a0 a1 a2 a3) a1 ∧ KeepsPorts (placeBlocks a0 a1 a2 a3) a1 ∧ (placeBlocks a0 a1 a2 a3).out = a1.out ∧ (placeBlocks a0 a1 a2 a3).limits = a1.limits ∧ (placeBlocks a0 a1 a2 a3).rcSpi = a1.rcSpi ∧ (placeBlocks a0 a1 a2 a3).rcPf = a1.rcPf ∧ (placeBlocks a0 a1 a2 a3).pal = a1.pal ∧ (placeBlocks a0 a1 a2 a3).margin = a1.margin ∧ (placeBlocks a0 a1 a2 a3).own = a1.own ∧ (placeBlocks a0 a1 a2 a3).vis = a1.vis ∧ (placeBlocks a0 a1 a2 a3).eps = a1.eps ∧ (placeBlocks a0 a1 a2 a3).nibs = a1.nibs ∧ (placeBlocks a0 a1 a2 a3).qps = a1.qps ∧ (placeBlocks a0 a1 a2 a3).pcie = a1.pcie := by
  fun_induction placeBlocks a0 a1 a2 a3 <;> simp_all +zetaDelta

theorem freeBlocks_keeps (s : State) (k : Nat) (x : Owner) (ctx : Option Nat) : KeepsBoard (freeBlocks s k x ctx) s ∧ KeepsPorts (freeBlocks s k x ctx) s ∧ (freeBlocks s k x ctx).out = s.out ∧ (freeBlocks s k x ctx).limits = s.limits ∧ (freeBlocks s k x ctx).rcSpi = s.rcSpi ∧ (freeBlocks s k x ctx).rcPf = s.rcPf ∧ (freeBlocks s k x ctx).pal = s.pal ∧ (freeBlocks s k x ctx).margin = s.margin ∧ (freeBlocks s k x ctx).own = s.own ∧ (freeBlocks s k x ctx).vis = s.vis ∧ (freeBlocks s k x ctx).eps = s.eps ∧ (freeBlocks s k x ctx).nibs = s.nibs ∧ (freeBlocks s k x ctx).qps = s.qps ∧ (freeBlocks s k x ctx).pcie = s.pcie := by
  simp [freeBlocks]

theorem settleCtx_keeps (before : Nat) (s : State) (x : Owner) (ctx : Nat) : KeepsBoard (settleCtx before s x ctx) s ∧ KeepsPorts (settleCtx before s x ctx) s ∧ (settleCtx before s x ctx).out = s.out ∧ (settleCtx before s x ctx).limits = s.limits ∧ (settleCtx before s x ctx).rcSpi = s.rcSpi ∧ (settleCtx before s x ctx).rcPf = s.rcPf ∧ (settleCtx before s x ctx).pal = s.pal ∧ (settleCtx before s x ctx).margin = s.margin ∧ (settleCtx before s x ctx).own = s.own ∧ (settleCtx before s x ctx).vis = s.vis ∧ (settleCtx before s x ctx).eps = s.eps ∧ (settleCtx before s x ctx).nibs = s.nibs ∧ (settleCtx before s x ctx).qps = s.qps ∧ (settleCtx before s x ctx).pcie = s.pcie := by
  simp [settleCtx, freeBlocks_keeps _ _ _ _, noteLive_keeps _, placeBlocks_keeps _ _ _ _]

theorem releaseRetained_keeps (a0 : Nat) (a1 : State) (a2 : RingId) (a3 : Nat) : KeepsBoard (releaseRetained a0 a1 a2 a3) a1 ∧ KeepsPorts (releaseRetained a0 a1 a2 a3) a1 ∧ (releaseRetained a0 a1 a2 a3).out = a1.out ∧ (releaseRetained a0 a1 a2 a3).limits = a1.limits ∧ (releaseRetained a0 a1 a2 a3).rcSpi = a1.rcSpi ∧ (releaseRetained a0 a1 a2 a3).rcPf = a1.rcPf ∧ (releaseRetained a0 a1 a2 a3).pal = a1.pal ∧ (releaseRetained a0 a1 a2 a3).margin = a1.margin ∧ (releaseRetained a0 a1 a2 a3).own = a1.own ∧ (releaseRetained a0 a1 a2 a3).eps = a1.eps ∧ (releaseRetained a0 a1 a2 a3).nibs = a1.nibs ∧ (releaseRetained a0 a1 a2 a3).qps = a1.qps ∧ (releaseRetained a0 a1 a2 a3).pcie = a1.pcie := by
  fun_induction releaseRetained a0 a1 a2 a3 <;> simp_all +zetaDelta [settleCtx_keeps _ _ _ _]

theorem requestBlocks_keeps (s : State) (x : Owner) (ctx : Option Nat) (need : Nat) : KeepsBoard (requestBlocks s x ctx need) s ∧ KeepsPorts (requestBlocks s x ctx need) s ∧ (requestBlocks s x ctx need).out = s.out ∧ (requestBlocks s x ctx need).pal = s.pal ∧ (requestBlocks s x ctx need).margin = s.margin ∧ (requestBlocks s x ctx need).own = s.own ∧ (requestBlocks s x ctx need).eps = s.eps ∧ (requestBlocks s x ctx need).nibs = s.nibs ∧ (requestBlocks s x ctx need).qps = s.qps ∧ (requestBlocks s x ctx need).pcie = s.pcie := by
  generalize h : requestBlocks s x ctx need = t; unfold requestBlocks at h; (repeat' split at h) <;> (subst h; simp [*, keyNow_keeps _, limitMark_keeps _ _, placeBlocks_keeps _ _ _ _, rcAdd_keeps _ _ _, rcCount_keeps _ _ _, releaseRetained_keeps _ _ _ _])

theorem bankCycles_keeps (s : State) (periodic : Bool) (b : Fin 64) (n : Nat) : KeepsBoard (bankCycles s periodic b n) s ∧ KeepsPorts (bankCycles s periodic b n) s ∧ (bankCycles s periodic b n).out = s.out ∧ (bankCycles s periodic b n).limits = s.limits ∧ (bankCycles s periodic b n).rcSpi = s.rcSpi ∧ (bankCycles s periodic b n).rcPf = s.rcPf ∧ (bankCycles s periodic b n).pal = s.pal ∧ (bankCycles s periodic b n).margin = s.margin ∧ (bankCycles s periodic b n).own = s.own ∧ (bankCycles s periodic b n).vis = s.vis ∧ (bankCycles s periodic b n).eps = s.eps ∧ (bankCycles s periodic b n).nibs = s.nibs ∧ (bankCycles s periodic b n).qps = s.qps ∧ (bankCycles s periodic b n).pcie = s.pcie := by
  generalize h : bankCycles s periodic b n = t; unfold bankCycles at h; (repeat' split at h) <;> (subst h; simp [*])

theorem conflictTrip_keeps (s : State) (bank : Nat) : KeepsBoard (conflictTrip s bank) s ∧ (conflictTrip s bank).out = s.out ∧ (conflictTrip s bank).regs = s.regs ∧ (conflictTrip s bank).modes = s.modes ∧ (conflictTrip s bank).blot = s.blot ∧ (conflictTrip s bank).power = s.power ∧ (conflictTrip s bank).pd = s.pd ∧ (conflictTrip s bank).own = s.own ∧ (conflictTrip s bank).vis = s.vis ∧ (conflictTrip s bank).devices = s.devices ∧ (conflictTrip s bank).eps = s.eps ∧ (conflictTrip s bank).nibs = s.nibs ∧ (conflictTrip s bank).qps = s.qps ∧ (conflictTrip s bank).pcie = s.pcie ∧ (conflictTrip s bank).cvis = s.cvis ∧ (conflictTrip s bank).cviews = s.cviews ∧ (conflictTrip s bank).cports = s.cports ∧ (conflictTrip s bank).ligs = s.ligs ∧ (conflictTrip s bank).func = s.func := by
  generalize h : conflictTrip s bank = t; unfold conflictTrip at h; dsimp only at h; (repeat' split at h) <;> (subst h; simp [*, draw_keeps _, notice_keeps _ _ _ _ _ _ _, rcAdd_keeps _ _ _, record_keeps _ _ _ _ _ _ _])

theorem evalMinOver_keeps (s : State) : KeepsBoard (evalMinOver s) s ∧ KeepsPorts (evalMinOver s) s ∧ (evalMinOver s).out = s.out ∧ (evalMinOver s).limits = s.limits ∧ (evalMinOver s).margin = s.margin ∧ (evalMinOver s).own = s.own ∧ (evalMinOver s).vis = s.vis ∧ (evalMinOver s).eps = s.eps ∧ (evalMinOver s).nibs = s.nibs ∧ (evalMinOver s).qps = s.qps ∧ (evalMinOver s).pcie = s.pcie := by
  generalize h : evalMinOver s = t; unfold evalMinOver at h; dsimp only at h; (repeat' split at h) <;> (subst h; simp [*, record_keeps _ _ _ _ _ _ _])

end Sys2Proof.Machine
end

