-- ==== Sys2Proof/Laws/FrameRings.lean ====
section
/-! SUPPORT. What the operations of Machine/Rings.lean leave as it was: one lemma for each, over every input, and over every outcome of it.
A proof names the ones it needs, each applied: simp [op_keeps _ _] rewrites every field that op leaves. -/

namespace Sys2Proof.Machine

theorem setVi_keeps (s : State) (v : RingId) (f : Vi → Vi) : KeepsBoard (setVi s v f) s ∧ KeepsPorts (setVi s v f) s ∧ (setVi s v f).out = s.out ∧ (setVi s v f).limits = s.limits ∧ (setVi s v f).rcSpi = s.rcSpi ∧ (setVi s v f).rcPf = s.rcPf ∧ (setVi s v f).pal = s.pal ∧ (setVi s v f).margin = s.margin ∧ (setVi s v f).own = s.own ∧ (setVi s v f).eps = s.eps ∧ (setVi s v f).nibs = s.nibs ∧ (setVi s v f).qps = s.qps ∧ (setVi s v f).pcie = s.pcie ∧ (setVi s v f).ink = s.ink := by
  simp [setVi]

theorem setEp_keeps (s : State) (ctx : Nat) (f : Endpoint → Endpoint) : KeepsBoard (setEp s ctx f) s ∧ KeepsPorts (setEp s ctx f) s ∧ (setEp s ctx f).out = s.out ∧ (setEp s ctx f).limits = s.limits ∧ (setEp s ctx f).rcSpi = s.rcSpi ∧ (setEp s ctx f).rcPf = s.rcPf ∧ (setEp s ctx f).pal = s.pal ∧ (setEp s ctx f).margin = s.margin ∧ (setEp s ctx f).own = s.own ∧ (setEp s ctx f).vis = s.vis ∧ (setEp s ctx f).nibs = s.nibs ∧ (setEp s ctx f).qps = s.qps ∧ (setEp s ctx f).pcie = s.pcie ∧ (setEp s ctx f).ink = s.ink := by
  simp [setEp]

theorem setNib_keeps (s : State) (n : PortId) (f : Nib → Nib) : KeepsBoard (setNib s n f) s ∧ KeepsPorts (setNib s n f) s ∧ (setNib s n f).out = s.out ∧ (setNib s n f).limits = s.limits ∧ (setNib s n f).rcSpi = s.rcSpi ∧ (setNib s n f).rcPf = s.rcPf ∧ (setNib s n f).pal = s.pal ∧ (setNib s n f).margin = s.margin ∧ (setNib s n f).own = s.own ∧ (setNib s n f).vis = s.vis ∧ (setNib s n f).eps = s.eps ∧ (setNib s n f).qps = s.qps ∧ (setNib s n f).pcie = s.pcie ∧ (setNib s n f).ink = s.ink := by
  simp [setNib]

theorem setOwn_keeps (s : State) (n : PortId) (f : Own → Own) : KeepsBoard (setOwn s n f) s ∧ KeepsPorts (setOwn s n f) s ∧ (setOwn s n f).out = s.out ∧ (setOwn s n f).limits = s.limits ∧ (setOwn s n f).rcSpi = s.rcSpi ∧ (setOwn s n f).rcPf = s.rcPf ∧ (setOwn s n f).pal = s.pal ∧ (setOwn s n f).margin = s.margin ∧ (setOwn s n f).vis = s.vis ∧ (setOwn s n f).eps = s.eps ∧ (setOwn s n f).nibs = s.nibs ∧ (setOwn s n f).qps = s.qps ∧ (setOwn s n f).pcie = s.pcie ∧ (setOwn s n f).ink = s.ink := by
  simp [setOwn]

theorem setQp_keeps (s : State) (q : Fin 128) (f : Qp → Qp) : KeepsBoard (setQp s q f) s ∧ KeepsPorts (setQp s q f) s ∧ (setQp s q f).out = s.out ∧ (setQp s q f).limits = s.limits ∧ (setQp s q f).rcSpi = s.rcSpi ∧ (setQp s q f).rcPf = s.rcPf ∧ (setQp s q f).pal = s.pal ∧ (setQp s q f).margin = s.margin ∧ (setQp s q f).own = s.own ∧ (setQp s q f).vis = s.vis ∧ (setQp s q f).eps = s.eps ∧ (setQp s q f).nibs = s.nibs ∧ (setQp s q f).pcie = s.pcie ∧ (setQp s q f).ink = s.ink := by
  simp [setQp]

theorem noteSent_keeps (s : State) (v : RingId) : KeepsBoard (noteSent s v) s ∧ KeepsPorts (noteSent s v) s ∧ (noteSent s v).out = s.out ∧ (noteSent s v).limits = s.limits ∧ (noteSent s v).rcSpi = s.rcSpi ∧ (noteSent s v).rcPf = s.rcPf ∧ (noteSent s v).pal = s.pal ∧ (noteSent s v).margin = s.margin ∧ (noteSent s v).own = s.own ∧ (noteSent s v).vis = s.vis ∧ (noteSent s v).eps = s.eps ∧ (noteSent s v).nibs = s.nibs ∧ (noteSent s v).pcie = s.pcie ∧ (noteSent s v).ink = s.ink := by
  generalize h : noteSent s v = t; unfold noteSent at h; (repeat' split at h) <;> (subst h; simp [*, setQp_keeps _ _ _])

theorem hostWrite_keeps (s : State) (v : RingId) (addr : Nat) (bytes : List Byte) : KeepsBoard (hostWrite s v addr bytes) s ∧ KeepsPorts (hostWrite s v addr bytes) s ∧ (hostWrite s v addr bytes).limits = s.limits ∧ (hostWrite s v addr bytes).pal = s.pal ∧ (hostWrite s v addr bytes).margin = s.margin ∧ (hostWrite s v addr bytes).own = s.own ∧ (hostWrite s v addr bytes).eps = s.eps ∧ (hostWrite s v addr bytes).nibs = s.nibs ∧ (hostWrite s v addr bytes).pcie = s.pcie ∧ (hostWrite s v addr bytes).ink = s.ink := by
  generalize h : hostWrite s v addr bytes = t; unfold hostWrite at h; (repeat' split at h) <;> (subst h; simp [*, emit_keeps _ _, noteSent_keeps _ _, rcCount_keeps _ _ _, setVi_keeps _ _ _])

theorem raiseMsix_keeps (s : State) (v : RingId) : KeepsBoard (raiseMsix s v) s ∧ KeepsPorts (raiseMsix s v) s ∧ (raiseMsix s v).limits = s.limits ∧ (raiseMsix s v).rcSpi = s.rcSpi ∧ (raiseMsix s v).rcPf = s.rcPf ∧ (raiseMsix s v).pal = s.pal ∧ (raiseMsix s v).margin = s.margin ∧ (raiseMsix s v).own = s.own ∧ (raiseMsix s v).eps = s.eps ∧ (raiseMsix s v).nibs = s.nibs ∧ (raiseMsix s v).qps = s.qps ∧ (raiseMsix s v).ink = s.ink := by
  generalize h : raiseMsix s v = t; unfold raiseMsix at h; dsimp only at h; (repeat' split at h) <;> (subst h; simp [*, emit_keeps _ _, setVi_keeps _ _ _])

theorem signalEntry_keeps (s : State) (v : RingId) (urgent : Bool) : KeepsBoard (signalEntry s v urgent) s ∧ KeepsPorts (signalEntry s v urgent) s ∧ (signalEntry s v urgent).limits = s.limits ∧ (signalEntry s v urgent).rcSpi = s.rcSpi ∧ (signalEntry s v urgent).rcPf = s.rcPf ∧ (signalEntry s v urgent).pal = s.pal ∧ (signalEntry s v urgent).margin = s.margin ∧ (signalEntry s v urgent).own = s.own ∧ (signalEntry s v urgent).eps = s.eps ∧ (signalEntry s v urgent).nibs = s.nibs ∧ (signalEntry s v urgent).qps = s.qps ∧ (signalEntry s v urgent).ink = s.ink := by
  generalize h : signalEntry s v urgent = t; unfold signalEntry at h; (repeat' split at h) <;> (subst h; simp [*, raiseMsix_keeps _ _, setVi_keeps _ _ _])

theorem writeEntry_keeps (s : State) (v : RingId) (d : DueEntry) : KeepsBoard (writeEntry s v d) s ∧ KeepsPorts (writeEntry s v d) s ∧ (writeEntry s v d).limits = s.limits ∧ (writeEntry s v d).pal = s.pal ∧ (writeEntry s v d).margin = s.margin ∧ (writeEntry s v d).own = s.own ∧ (writeEntry s v d).eps = s.eps ∧ (writeEntry s v d).nibs = s.nibs ∧ (writeEntry s v d).ink = s.ink := by
  generalize h : writeEntry s v d = t; unfold writeEntry at h; (repeat' split at h) <;> (subst h; simp [*, emit_keeps _ _, noteSent_keeps _ _, rcCount_keeps _ _ _, setVi_keeps _ _ _, signalEntry_keeps _ _ _])

theorem eventFull_keeps (s : State) (v : RingId) : KeepsBoard (eventFull s v) s ∧ KeepsPorts (eventFull s v) s ∧ (eventFull s v).out = s.out ∧ (eventFull s v).margin = s.margin ∧ (eventFull s v).own = s.own ∧ (eventFull s v).eps = s.eps ∧ (eventFull s v).nibs = s.nibs ∧ (eventFull s v).qps = s.qps ∧ (eventFull s v).pcie = s.pcie ∧ (eventFull s v).ink = s.ink := by
  generalize h : eventFull s v = t; unfold eventFull at h; (repeat' split at h) <;> (subst h; simp [*, record_keeps _ _ _ _ _ _ _, setVi_keeps _ _ _])

theorem flushDue_keeps (a0 : Nat) (a1 : State) (a2 : RingId) : KeepsBoard (flushDue a0 a1 a2) a1 ∧ KeepsPorts (flushDue a0 a1 a2) a1 ∧ (flushDue a0 a1 a2).margin = a1.margin ∧ (flushDue a0 a1 a2).own = a1.own ∧ (flushDue a0 a1 a2).eps = a1.eps ∧ (flushDue a0 a1 a2).nibs = a1.nibs ∧ (flushDue a0 a1 a2).ink = a1.ink := by
  fun_induction flushDue a0 a1 a2 <;> simp_all +zetaDelta [eventFull_keeps _ _, setVi_keeps _ _ _, writeEntry_keeps _ _ _]

theorem flushEvents_keeps (s : State) (v : RingId) : KeepsBoard (flushEvents s v) s ∧ KeepsPorts (flushEvents s v) s ∧ (flushEvents s v).margin = s.margin ∧ (flushEvents s v).own = s.own ∧ (flushEvents s v).eps = s.eps ∧ (flushEvents s v).nibs = s.nibs ∧ (flushEvents s v).ink = s.ink := by
  simp [flushEvents, flushDue_keeps _ _ _]

theorem pushDue_keeps (s : State) (v : RingId) (ds : List DueEntry) : KeepsBoard (pushDue s v ds) s ∧ KeepsPorts (pushDue s v ds) s ∧ (pushDue s v ds).margin = s.margin ∧ (pushDue s v ds).own = s.own ∧ (pushDue s v ds).eps = s.eps ∧ (pushDue s v ds).nibs = s.nibs ∧ (pushDue s v ds).ink = s.ink := by
  simp [pushDue, flushEvents_keeps _ _, setVi_keeps _ _ _]

theorem deliverNotice_keeps (s : State) (v : RingId) : KeepsBoard (deliverNotice s v) s ∧ KeepsPorts (deliverNotice s v) s ∧ (deliverNotice s v).own = s.own ∧ (deliverNotice s v).eps = s.eps ∧ (deliverNotice s v).nibs = s.nibs ∧ (deliverNotice s v).ink = s.ink := by
  generalize h : deliverNotice s v = t; unfold deliverNotice at h; (repeat' split at h) <;> (subst h; simp [*, eventFull_keeps _ _, pushDue_keeps _ _ _, setQueue_keeps _ _ _, setVi_keeps _ _ _])

theorem deliverEarlier_keeps (a0 : Nat) (a1 : State) (a2 : RingId) : KeepsBoard (deliverEarlier a0 a1 a2) a1 ∧ KeepsPorts (deliverEarlier a0 a1 a2) a1 ∧ (deliverEarlier a0 a1 a2).own = a1.own ∧ (deliverEarlier a0 a1 a2).eps = a1.eps ∧ (deliverEarlier a0 a1 a2).nibs = a1.nibs ∧ (deliverEarlier a0 a1 a2).ink = a1.ink := by
  fun_induction deliverEarlier a0 a1 a2 <;> simp_all +zetaDelta [deliverNotice_keeps _ _]

theorem deliverAll_keeps (a0 : Nat) (a1 : State) (a2 : RingId) : KeepsBoard (deliverAll a0 a1 a2) a1 ∧ KeepsPorts (deliverAll a0 a1 a2) a1 ∧ (deliverAll a0 a1 a2).own = a1.own ∧ (deliverAll a0 a1 a2).eps = a1.eps ∧ (deliverAll a0 a1 a2).nibs = a1.nibs ∧ (deliverAll a0 a1 a2).ink = a1.ink := by
  fun_induction deliverAll a0 a1 a2 <;> simp_all +zetaDelta [deliverNotice_keeps _ _]

theorem earlierNotices_keeps (s : State) (v : RingId) : KeepsBoard (earlierNotices s v) s ∧ KeepsPorts (earlierNotices s v) s ∧ (earlierNotices s v).own = s.own ∧ (earlierNotices s v).eps = s.eps ∧ (earlierNotices s v).nibs = s.nibs ∧ (earlierNotices s v).ink = s.ink := by
  simp [earlierNotices, deliverEarlier_keeps _ _ _]

theorem windowPush_keeps (s : State) (v : RingId) (c : Completion) : KeepsBoard (windowPush s v c) s ∧ KeepsPorts (windowPush s v c) s ∧ (windowPush s v c).out = s.out ∧ (windowPush s v c).limits = s.limits ∧ (windowPush s v c).rcSpi = s.rcSpi ∧ (windowPush s v c).rcPf = s.rcPf ∧ (windowPush s v c).pal = s.pal ∧ (windowPush s v c).margin = s.margin ∧ (windowPush s v c).own = s.own ∧ (windowPush s v c).eps = s.eps ∧ (windowPush s v c).nibs = s.nibs ∧ (windowPush s v c).qps = s.qps ∧ (windowPush s v c).pcie = s.pcie := by
  generalize h : windowPush s v c = t; unfold windowPush at h; dsimp only at h; (repeat' split at h) <;> (subst h; simp [*, setVi_keeps _ _ _, settleCtx_keeps _ _ _ _])

theorem complete_keeps (s : State) (v : RingId) (c : Completion) (needAck : Nat) : KeepsBoard (complete s v c needAck) s ∧ KeepsPorts (complete s v c needAck) s ∧ (complete s v c needAck).own = s.own ∧ (complete s v c needAck).eps = s.eps ∧ (complete s v c needAck).nibs = s.nibs := by
  generalize h : complete s v c needAck = t; unfold complete at h; (repeat' split at h) <;> (subst h; simp [*, earlierNotices_keeps _ _, pushDue_keeps _ _ _, setVi_keeps _ _ _, windowPush_keeps _ _ _])

theorem completeCmd_keeps (s : State) (v : RingId) (slot type code result : Nat) (n : PortId) : KeepsBoard (completeCmd s v slot type code result n) s ∧ KeepsPorts (completeCmd s v slot type code result n) s ∧ (completeCmd s v slot type code result n).own = s.own ∧ (completeCmd s v slot type code result n).eps = s.eps ∧ (completeCmd s v slot type code result n).nibs = s.nibs := by
  simp [completeCmd, complete_keeps _ _ _ _, setVi_keeps _ _ _]

theorem finishCmd_keeps (s : State) (v : RingId) (slot code result : Nat) (n : PortId) : KeepsBoard (finishCmd s v slot code result n) s ∧ KeepsPorts (finishCmd s v slot code result n) s ∧ (finishCmd s v slot code result n).own = s.own ∧ (finishCmd s v slot code result n).eps = s.eps ∧ (finishCmd s v slot code result n).nibs = s.nibs := by
  generalize h : finishCmd s v slot code result n = t; unfold finishCmd at h; (repeat' split at h) <;> (subst h; simp [*, completeCmd_keeps _ _ _ _ _ _ _])

theorem endTransfer_keeps (s : State) (ctx : Nat) (x : Transfer) (code len : Nat) : KeepsBoard (endTransfer s ctx x code len) s ∧ KeepsPorts (endTransfer s ctx x code len) s ∧ (endTransfer s ctx x code len).own = s.own ∧ (endTransfer s ctx x code len).nibs = s.nibs := by
  generalize h : endTransfer s ctx x code len = t; unfold endTransfer at h; (repeat' split at h) <;> (subst h; simp [*, complete_keeps _ _ _ _, rcCount_keeps _ _ _, setEp_keeps _ _ _, setVi_keeps _ _ _])

theorem endAndSettle_keeps (s : State) (ctx : Nat) (x : Transfer) (code len : Nat) : KeepsBoard (endAndSettle s ctx x code len) s ∧ KeepsPorts (endAndSettle s ctx x code len) s ∧ (endAndSettle s ctx x code len).own = s.own ∧ (endAndSettle s ctx x code len).nibs = s.nibs := by
  simp [endAndSettle, endTransfer_keeps _ _ _ _ _, settleCtx_keeps _ _ _ _]

theorem endQueue_keeps (s : State) (ctx : Nat) (pick : Transfer → Bool) (code : Nat) : KeepsBoard (endQueue s ctx pick code).1 s ∧ KeepsPorts (endQueue s ctx pick code).1 s ∧ (endQueue s ctx pick code).1.own = s.own ∧ (endQueue s ctx pick code).1.nibs = s.nibs := by
  generalize h : endQueue s ctx pick code = t; unfold endQueue at h; (repeat' split at h) <;> (subst h; simp [*, endAndSettle_keeps _ _ _ _ _])

theorem refreshAges_keeps (s : State) : KeepsBoard (refreshAges s) s ∧ KeepsPorts (refreshAges s) s ∧ (refreshAges s).out = s.out ∧ (refreshAges s).limits = s.limits ∧ (refreshAges s).rcSpi = s.rcSpi ∧ (refreshAges s).rcPf = s.rcPf ∧ (refreshAges s).pal = s.pal ∧ (refreshAges s).margin = s.margin ∧ (refreshAges s).own = s.own ∧ (refreshAges s).vis = s.vis ∧ (refreshAges s).nibs = s.nibs ∧ (refreshAges s).qps = s.qps ∧ (refreshAges s).pcie = s.pcie ∧ (refreshAges s).ink = s.ink := by
  simp [refreshAges]

end Sys2Proof.Machine
end

