-- ==== Sys2Proof/Laws/FrameTrees.lean ====
section
/-! SUPPORT. What the operations of Machine/Trees.lean leave as it was: one lemma for each, over every input, and over every outcome of it.
A proof names the ones it needs, each applied: simp [op_keeps _ _] rewrites every field that op leaves. -/

namespace Sys2Proof.Machine

theorem setView_keeps (s : State) (c : ClassicId) (n : PortId) (f : CView → CView) : KeepsBoard (setView s c n f) s ∧ KeepsHosts (setView s c n f) s ∧ (setView s c n f).out = s.out ∧ (setView s c n f).freeCtr = s.freeCtr ∧ (setView s c n f).limits = s.limits ∧ (setView s c n f).regs = s.regs ∧ (setView s c n f).rcSpi = s.rcSpi ∧ (setView s c n f).rcPf = s.rcPf ∧ (setView s c n f).pal = s.pal ∧ (setView s c n f).margin = s.margin ∧ (setView s c n f).modes = s.modes ∧ (setView s c n f).blot = s.blot ∧ (setView s c n f).power = s.power ∧ (setView s c n f).pd = s.pd ∧ (setView s c n f).devices = s.devices ∧ (setView s c n f).pcie = s.pcie ∧ (setView s c n f).cvis = s.cvis ∧ (setView s c n f).cports = s.cports ∧ (setView s c n f).ligs = s.ligs ∧ (setView s c n f).func = s.func := by
  simp [setView]

theorem setCvi_keeps (s : State) (c : ClassicId) (f : Cvi → Cvi) : KeepsBoard (setCvi s c f) s ∧ KeepsHosts (setCvi s c f) s ∧ (setCvi s c f).out = s.out ∧ (setCvi s c f).freeCtr = s.freeCtr ∧ (setCvi s c f).limits = s.limits ∧ (setCvi s c f).regs = s.regs ∧ (setCvi s c f).rcSpi = s.rcSpi ∧ (setCvi s c f).rcPf = s.rcPf ∧ (setCvi s c f).pal = s.pal ∧ (setCvi s c f).margin = s.margin ∧ (setCvi s c f).modes = s.modes ∧ (setCvi s c f).blot = s.blot ∧ (setCvi s c f).power = s.power ∧ (setCvi s c f).pd = s.pd ∧ (setCvi s c f).devices = s.devices ∧ (setCvi s c f).pcie = s.pcie ∧ (setCvi s c f).cviews = s.cviews ∧ (setCvi s c f).cports = s.cports ∧ (setCvi s c f).ligs = s.ligs ∧ (setCvi s c f).func = s.func := by
  simp [setCvi]

theorem setCPort_keeps (s : State) (n : PortId) (f : CPort → CPort) : KeepsBoard (setCPort s n f) s ∧ KeepsHosts (setCPort s n f) s ∧ (setCPort s n f).out = s.out ∧ (setCPort s n f).freeCtr = s.freeCtr ∧ (setCPort s n f).limits = s.limits ∧ (setCPort s n f).regs = s.regs ∧ (setCPort s n f).rcSpi = s.rcSpi ∧ (setCPort s n f).rcPf = s.rcPf ∧ (setCPort s n f).pal = s.pal ∧ (setCPort s n f).margin = s.margin ∧ (setCPort s n f).modes = s.modes ∧ (setCPort s n f).blot = s.blot ∧ (setCPort s n f).power = s.power ∧ (setCPort s n f).pd = s.pd ∧ (setCPort s n f).devices = s.devices ∧ (setCPort s n f).pcie = s.pcie ∧ (setCPort s n f).cvis = s.cvis ∧ (setCPort s n f).cviews = s.cviews ∧ (setCPort s n f).ligs = s.ligs ∧ (setCPort s n f).func = s.func := by
  simp [setCPort]

theorem viewDisconnect_keeps (s : State) (n : PortId) (ss : Bool) : KeepsBoard (viewDisconnect s n ss) s ∧ KeepsHosts (viewDisconnect s n ss) s ∧ (viewDisconnect s n ss).out = s.out ∧ (viewDisconnect s n ss).freeCtr = s.freeCtr ∧ (viewDisconnect s n ss).limits = s.limits ∧ (viewDisconnect s n ss).regs = s.regs ∧ (viewDisconnect s n ss).rcSpi = s.rcSpi ∧ (viewDisconnect s n ss).rcPf = s.rcPf ∧ (viewDisconnect s n ss).pal = s.pal ∧ (viewDisconnect s n ss).margin = s.margin ∧ (viewDisconnect s n ss).modes = s.modes ∧ (viewDisconnect s n ss).blot = s.blot ∧ (viewDisconnect s n ss).power = s.power ∧ (viewDisconnect s n ss).pd = s.pd ∧ (viewDisconnect s n ss).devices = s.devices ∧ (viewDisconnect s n ss).pcie = s.pcie ∧ (viewDisconnect s n ss).cvis = s.cvis ∧ (viewDisconnect s n ss).cports = s.cports ∧ (viewDisconnect s n ss).ligs = s.ligs ∧ (viewDisconnect s n ss).func = s.func := by
  generalize h : viewDisconnect s n ss = t; unfold viewDisconnect at h; (repeat' split at h) <;> (subst h; simp [*, setView_keeps _ _ _ _])

theorem viewOverCurrent_keeps (s : State) (n : PortId) (on : Bool) : KeepsBoard (viewOverCurrent s n on) s ∧ KeepsHosts (viewOverCurrent s n on) s ∧ (viewOverCurrent s n on).out = s.out ∧ (viewOverCurrent s n on).freeCtr = s.freeCtr ∧ (viewOverCurrent s n on).limits = s.limits ∧ (viewOverCurrent s n on).regs = s.regs ∧ (viewOverCurrent s n on).rcSpi = s.rcSpi ∧ (viewOverCurrent s n on).rcPf = s.rcPf ∧ (viewOverCurrent s n on).pal = s.pal ∧ (viewOverCurrent s n on).margin = s.margin ∧ (viewOverCurrent s n on).modes = s.modes ∧ (viewOverCurrent s n on).blot = s.blot ∧ (viewOverCurrent s n on).power = s.power ∧ (viewOverCurrent s n on).pd = s.pd ∧ (viewOverCurrent s n on).devices = s.devices ∧ (viewOverCurrent s n on).pcie = s.pcie ∧ (viewOverCurrent s n on).cvis = s.cvis ∧ (viewOverCurrent s n on).cports = s.cports ∧ (viewOverCurrent s n on).ligs = s.ligs ∧ (viewOverCurrent s n on).func = s.func := by
  generalize h : viewOverCurrent s n on = t; unfold viewOverCurrent at h; (repeat' split at h) <;> (subst h; simp [*, setView_keeps _ _ _ _])

theorem viewLocalPower_keeps (s : State) : KeepsBoard (viewLocalPower s) s ∧ KeepsHosts (viewLocalPower s) s ∧ (viewLocalPower s).out = s.out ∧ (viewLocalPower s).freeCtr = s.freeCtr ∧ (viewLocalPower s).limits = s.limits ∧ (viewLocalPower s).regs = s.regs ∧ (viewLocalPower s).rcSpi = s.rcSpi ∧ (viewLocalPower s).rcPf = s.rcPf ∧ (viewLocalPower s).pal = s.pal ∧ (viewLocalPower s).margin = s.margin ∧ (viewLocalPower s).modes = s.modes ∧ (viewLocalPower s).blot = s.blot ∧ (viewLocalPower s).power = s.power ∧ (viewLocalPower s).pd = s.pd ∧ (viewLocalPower s).devices = s.devices ∧ (viewLocalPower s).pcie = s.pcie ∧ (viewLocalPower s).cviews = s.cviews ∧ (viewLocalPower s).cports = s.cports ∧ (viewLocalPower s).ligs = s.ligs ∧ (viewLocalPower s).func = s.func := by
  simp [viewLocalPower, setCvi_keeps _ _ _]

theorem emptyLig_keeps (s : State) (n : PortId) : KeepsBoard (emptyLig s n) s ∧ KeepsHosts (emptyLig s n) s ∧ (emptyLig s n).out = s.out ∧ (emptyLig s n).freeCtr = s.freeCtr ∧ (emptyLig s n).limits = s.limits ∧ (emptyLig s n).regs = s.regs ∧ (emptyLig s n).rcSpi = s.rcSpi ∧ (emptyLig s n).rcPf = s.rcPf ∧ (emptyLig s n).pal = s.pal ∧ (emptyLig s n).margin = s.margin ∧ (emptyLig s n).modes = s.modes ∧ (emptyLig s n).blot = s.blot ∧ (emptyLig s n).power = s.power ∧ (emptyLig s n).pd = s.pd ∧ (emptyLig s n).devices = s.devices ∧ (emptyLig s n).pcie = s.pcie ∧ (emptyLig s n).cvis = s.cvis ∧ (emptyLig s n).cviews = s.cviews ∧ (emptyLig s n).cports = s.cports ∧ (emptyLig s n).func = s.func := by
  simp [emptyLig]

theorem noteDiscard_keeps (s : State) (e : Endpoint) (bytes reason : Nat) : KeepsBoard (noteDiscard s e bytes reason) s ∧ KeepsPorts (noteDiscard s e bytes reason) s ∧ (noteDiscard s e bytes reason).out = s.out ∧ (noteDiscard s e bytes reason).vis = s.vis ∧ (noteDiscard s e bytes reason).nibs = s.nibs ∧ (noteDiscard s e bytes reason).qps = s.qps ∧ (noteDiscard s e bytes reason).pcie = s.pcie ∧ (noteDiscard s e bytes reason).ink = s.ink := by
  generalize h : noteDiscard s e bytes reason = t; unfold noteDiscard at h; (repeat' split at h) <;> (subst h; simp [*, notice_keeps _ _ _ _ _ _ _, setEp_keeps _ _ _, setOwn_keeps _ _ _])

theorem dropStash_keeps (s : State) (ctx reason : Nat) : KeepsBoard (dropStash s ctx reason) s ∧ KeepsPorts (dropStash s ctx reason) s ∧ (dropStash s ctx reason).out = s.out ∧ (dropStash s ctx reason).vis = s.vis ∧ (dropStash s ctx reason).nibs = s.nibs ∧ (dropStash s ctx reason).qps = s.qps ∧ (dropStash s ctx reason).pcie = s.pcie := by
  generalize h : dropStash s ctx reason = t; unfold dropStash at h; (repeat' split at h) <;> (subst h; simp [*, noteDiscard_keeps _ _ _ _, setEp_keeps _ _ _, settleCtx_keeps _ _ _ _])

theorem releaseEp_keeps (s : State) (ctx code reason : Nat) : KeepsBoard (releaseEp s ctx code reason).1 s ∧ KeepsPorts (releaseEp s ctx code reason).1 s ∧ (releaseEp s ctx code reason).1.nibs = s.nibs := by
  simp [releaseEp, dropStash_keeps _ _ _, endQueue_keeps _ _ _ _, settleCtx_keeps _ _ _ _]

theorem releaseEps_keeps (s : State) (pick : Endpoint → Bool) (code reason : Nat) : KeepsBoard (releaseEps s pick code reason).1 s ∧ KeepsPorts (releaseEps s pick code reason).1 s ∧ (releaseEps s pick code reason).1.nibs = s.nibs := by
  simp [releaseEps, releaseEp_keeps _ _ _ _]

theorem releaseDevice_keeps (s : State) (n : PortId) (addr code reason : Nat) : KeepsBoard (releaseDevice s n addr code reason) s ∧ (releaseDevice s n addr code reason).freeCtr = s.freeCtr ∧ (releaseDevice s n addr code reason).regs = s.regs ∧ (releaseDevice s n addr code reason).modes = s.modes ∧ (releaseDevice s n addr code reason).blot = s.blot ∧ (releaseDevice s n addr code reason).power = s.power ∧ (releaseDevice s n addr code reason).pd = s.pd ∧ (releaseDevice s n addr code reason).nibs = s.nibs ∧ (releaseDevice s n addr code reason).cvis = s.cvis ∧ (releaseDevice s n addr code reason).cviews = s.cviews ∧ (releaseDevice s n addr code reason).cports = s.cports ∧ (releaseDevice s n addr code reason).ligs = s.ligs ∧ (releaseDevice s n addr code reason).func = s.func := by
  simp [releaseDevice, releaseEps_keeps _ _ _ _]

theorem releasePath_keeps (s : State) (n : PortId) (ss : Bool) (code reason : Nat) : KeepsBoard (releasePath s n ss code reason).1 s ∧ (releasePath s n ss code reason).1.freeCtr = s.freeCtr ∧ (releasePath s n ss code reason).1.regs = s.regs ∧ (releasePath s n ss code reason).1.modes = s.modes ∧ (releasePath s n ss code reason).1.blot = s.blot ∧ (releasePath s n ss code reason).1.power = s.power ∧ (releasePath s n ss code reason).1.pd = s.pd ∧ (releasePath s n ss code reason).1.nibs = s.nibs ∧ (releasePath s n ss code reason).1.cvis = s.cvis ∧ (releasePath s n ss code reason).1.cviews = s.cviews ∧ (releasePath s n ss code reason).1.cports = s.cports ∧ (releasePath s n ss code reason).1.ligs = s.ligs ∧ (releasePath s n ss code reason).1.func = s.func := by
  simp [releasePath, releaseEps_keeps _ _ _ _]

theorem releaseTree_keeps (s : State) (n : PortId) (code reason : Nat) : KeepsBoard (releaseTree s n code reason).1 s ∧ (releaseTree s n code reason).1.freeCtr = s.freeCtr ∧ (releaseTree s n code reason).1.regs = s.regs ∧ (releaseTree s n code reason).1.modes = s.modes ∧ (releaseTree s n code reason).1.blot = s.blot ∧ (releaseTree s n code reason).1.power = s.power ∧ (releaseTree s n code reason).1.pd = s.pd ∧ (releaseTree s n code reason).1.nibs = s.nibs ∧ (releaseTree s n code reason).1.cvis = s.cvis ∧ (releaseTree s n code reason).1.cviews = s.cviews ∧ (releaseTree s n code reason).1.cports = s.cports ∧ (releaseTree s n code reason).1.ligs = s.ligs ∧ (releaseTree s n code reason).1.func = s.func := by
  simp [releaseTree, releaseEps_keeps _ _ _ _]

theorem finishOpt_keeps (s : State) (c : Option (RingId × Nat)) (code result : Nat) (n : PortId) : KeepsBoard (finishOpt s c code result n) s ∧ KeepsPorts (finishOpt s c code result n) s ∧ (finishOpt s c code result n).own = s.own ∧ (finishOpt s c code result n).eps = s.eps ∧ (finishOpt s c code result n).nibs = s.nibs := by
  generalize h : finishOpt s c code result n = t; unfold finishOpt at h; (repeat' split at h) <;> (subst h; simp [*, finishCmd_keeps _ _ _ _ _ _])

theorem abortCmds_keeps (s : State) (n : PortId) : KeepsBoard (abortCmds s n) s ∧ KeepsPorts (abortCmds s n) s ∧ (abortCmds s n).own = s.own ∧ (abortCmds s n).eps = s.eps := by
  simp [abortCmds, finishOpt_keeps _ _ _ _ _, setNib_keeps _ _ _]

theorem pathGone_keeps (s : State) (n : PortId) (ss : Bool) (reason : Nat) : KeepsBoard (pathGone s n ss reason) s ∧ (pathGone s n ss reason).freeCtr = s.freeCtr ∧ (pathGone s n ss reason).regs = s.regs ∧ (pathGone s n ss reason).modes = s.modes ∧ (pathGone s n ss reason).blot = s.blot ∧ (pathGone s n ss reason).power = s.power ∧ (pathGone s n ss reason).pd = s.pd ∧ (pathGone s n ss reason).cvis = s.cvis ∧ (pathGone s n ss reason).cports = s.cports ∧ (pathGone s n ss reason).ligs = s.ligs ∧ (pathGone s n ss reason).func = s.func := by
  generalize h : pathGone s n ss reason = t; unfold pathGone at h; dsimp only at h; (repeat' split at h) <;> (subst h; simp [*, detachNotice_keeps _ _ _ _ _, finishCmd_keeps _ _ _ _ _ _, releasePath_keeps _ _ _ _ _, setNib_keeps _ _ _, viewDisconnect_keeps _ _ _])

theorem busGone_keeps (s : State) (n : PortId) (reason : Nat) : KeepsBoard (busGone s n reason) s ∧ (busGone s n reason).freeCtr = s.freeCtr ∧ (busGone s n reason).regs = s.regs ∧ (busGone s n reason).modes = s.modes ∧ (busGone s n reason).blot = s.blot ∧ (busGone s n reason).power = s.power ∧ (busGone s n reason).pd = s.pd ∧ (busGone s n reason).cvis = s.cvis ∧ (busGone s n reason).ligs = s.ligs ∧ (busGone s n reason).func = s.func := by
  generalize h : busGone s n reason = t; unfold busGone at h; dsimp only at h; (repeat' split at h) <;> (subst h; simp [*, abortCmds_keeps _ _, detachNotice_keeps _ _ _ _ _, pathGone_keeps _ _ _ _, setCPort_keeps _ _ _, setNib_keeps _ _ _])

theorem attachNotice_keeps (s : State) (n : PortId) (ss written : Bool) (result : Nat) : KeepsBoard (attachNotice s n ss written result) s ∧ KeepsPorts (attachNotice s n ss written result) s ∧ KeepsHosts (attachNotice s n ss written result) s ∧ (attachNotice s n ss written result).out = s.out ∧ (attachNotice s n ss written result).pcie = s.pcie := by
  simp [attachNotice, notice_keeps _ _ _ _ _ _ _]

end Sys2Proof.Machine
end

