-- ==== Sys2Proof/Laws/FrameOwners.lean ====
section
/-! SUPPORT. What the operations of Machine/Owners.lean leave as it was: one lemma for each, over every input, and over every outcome of it.
A proof names the ones it needs, each applied: simp [op_keeps _ _] rewrites every field that op leaves. -/

namespace Sys2Proof.Machine

theorem stampP4_keeps (s : State) (n : PortId) (e : P4Event) : KeepsBoard (stampP4 s n e) s ∧ KeepsPorts (stampP4 s n e) s ∧ (stampP4 s n e).out = s.out ∧ (stampP4 s n e).limits = s.limits ∧ (stampP4 s n e).rcSpi = s.rcSpi ∧ (stampP4 s n e).rcPf = s.rcPf ∧ (stampP4 s n e).pal = s.pal ∧ (stampP4 s n e).margin = s.margin ∧ (stampP4 s n e).vis = s.vis ∧ (stampP4 s n e).eps = s.eps ∧ (stampP4 s n e).nibs = s.nibs ∧ (stampP4 s n e).qps = s.qps ∧ (stampP4 s n e).pcie = s.pcie ∧ (stampP4 s n e).ink = s.ink := by
  generalize h : stampP4 s n e = t; unfold stampP4 at h; (repeat' split at h) <;> (subst h; simp [*, setOwn_keeps _ _ _])

theorem homeStamp_keeps (s : State) (w : Owner) : KeepsBoard (homeStamp s w) s ∧ KeepsPorts (homeStamp s w) s ∧ (homeStamp s w).out = s.out ∧ (homeStamp s w).limits = s.limits ∧ (homeStamp s w).rcSpi = s.rcSpi ∧ (homeStamp s w).rcPf = s.rcPf ∧ (homeStamp s w).pal = s.pal ∧ (homeStamp s w).margin = s.margin ∧ (homeStamp s w).vis = s.vis ∧ (homeStamp s w).eps = s.eps ∧ (homeStamp s w).nibs = s.nibs ∧ (homeStamp s w).qps = s.qps ∧ (homeStamp s w).pcie = s.pcie ∧ (homeStamp s w).ink = s.ink := by
  simp [homeStamp, stampP4_keeps _ _ _]

theorem homeStampAll_keeps (s : State) : KeepsBoard (homeStampAll s) s ∧ KeepsPorts (homeStampAll s) s ∧ (homeStampAll s).out = s.out ∧ (homeStampAll s).limits = s.limits ∧ (homeStampAll s).rcSpi = s.rcSpi ∧ (homeStampAll s).rcPf = s.rcPf ∧ (homeStampAll s).pal = s.pal ∧ (homeStampAll s).margin = s.margin ∧ (homeStampAll s).vis = s.vis ∧ (homeStampAll s).eps = s.eps ∧ (homeStampAll s).nibs = s.nibs ∧ (homeStampAll s).qps = s.qps ∧ (homeStampAll s).pcie = s.pcie ∧ (homeStampAll s).ink = s.ink := by
  simp [homeStampAll, stampP4_keeps _ _ _]

theorem forfeit_keeps (s : State) (w : Owner) : KeepsBoard (forfeit s w) s ∧ (forfeit s w).out = s.out ∧ (forfeit s w).freeCtr = s.freeCtr ∧ (forfeit s w).limits = s.limits ∧ (forfeit s w).regs = s.regs ∧ (forfeit s w).rcSpi = s.rcSpi ∧ (forfeit s w).rcPf = s.rcPf ∧ (forfeit s w).pal = s.pal ∧ (forfeit s w).margin = s.margin ∧ (forfeit s w).modes = s.modes ∧ (forfeit s w).blot = s.blot ∧ (forfeit s w).power = s.power ∧ (forfeit s w).pd = s.pd ∧ (forfeit s w).devices = s.devices ∧ (forfeit s w).eps = s.eps ∧ (forfeit s w).nibs = s.nibs ∧ (forfeit s w).qps = s.qps ∧ (forfeit s w).pcie = s.pcie ∧ (forfeit s w).ink = s.ink ∧ (forfeit s w).cviews = s.cviews ∧ (forfeit s w).cports = s.cports ∧ (forfeit s w).ligs = s.ligs ∧ (forfeit s w).func = s.func := by
  generalize h : forfeit s w = t; unfold forfeit at h; (repeat' split at h) <;> (subst h; simp [*, setCvi_keeps _ _ _, setVi_keeps _ _ _, stampP4_keeps _ _ _])

theorem ringsGone_keeps (s : State) (v : RingId) : KeepsBoard (ringsGone s v) s ∧ KeepsPorts (ringsGone s v) s ∧ (ringsGone s v).out = s.out ∧ (ringsGone s v).own = s.own ∧ (ringsGone s v).eps = s.eps ∧ (ringsGone s v).nibs = s.nibs ∧ (ringsGone s v).qps = s.qps ∧ (ringsGone s v).pcie = s.pcie := by
  generalize h : ringsGone s v = t; unfold ringsGone at h; dsimp only at h; (repeat' split at h) <;> (subst h; simp [*, record_keeps _ _ _ _ _ _ _, setQueue_keeps _ _ _, setVi_keeps _ _ _, settleCtx_keeps _ _ _ _])

theorem abandonSplit_keeps (s : State) (ctx : Nat) : KeepsBoard (abandonSplit s ctx) s ∧ KeepsPorts (abandonSplit s ctx) s ∧ (abandonSplit s ctx).limits = s.limits ∧ (abandonSplit s ctx).pal = s.pal ∧ (abandonSplit s ctx).margin = s.margin ∧ (abandonSplit s ctx).own = s.own ∧ (abandonSplit s ctx).vis = s.vis ∧ (abandonSplit s ctx).qps = s.qps ∧ (abandonSplit s ctx).pcie = s.pcie ∧ (abandonSplit s ctx).ink = s.ink := by
  generalize h : abandonSplit s ctx = t; unfold abandonSplit at h; (repeat' split at h) <;> (subst h; simp [*, emit_keeps _ _, rcCount_keeps _ _ _, setEp_keeps _ _ _, setNib_keeps _ _ _])

theorem handoverEp_keeps (newOwner : Owner) (acc : State × Nat) (ctx : Nat) : KeepsBoard (handoverEp newOwner acc ctx).1 acc.1 ∧ KeepsPorts (handoverEp newOwner acc ctx).1 acc.1 ∧ (handoverEp newOwner acc ctx).1.own = acc.1.own := by
  generalize h : handoverEp newOwner acc ctx = t; unfold handoverEp at h; (repeat' split at h) <;> (subst h; simp [*, abandonSplit_keeps _ _, endQueue_keeps _ _ _ _, setEp_keeps _ _ _, settleCtx_keeps _ _ _ _])

theorem endOldWork_keeps (s : State) (n : PortId) (newOwner : Owner) : KeepsBoard (endOldWork s n newOwner).1 s ∧ (endOldWork s n newOwner).1.freeCtr = s.freeCtr ∧ (endOldWork s n newOwner).1.regs = s.regs ∧ (endOldWork s n newOwner).1.modes = s.modes ∧ (endOldWork s n newOwner).1.blot = s.blot ∧ (endOldWork s n newOwner).1.power = s.power ∧ (endOldWork s n newOwner).1.pd = s.pd ∧ (endOldWork s n newOwner).1.own = s.own ∧ (endOldWork s n newOwner).1.devices = s.devices ∧ (endOldWork s n newOwner).1.cvis = s.cvis ∧ (endOldWork s n newOwner).1.cviews = s.cviews ∧ (endOldWork s n newOwner).1.cports = s.cports ∧ (endOldWork s n newOwner).1.func = s.func := by
  simp [endOldWork, emptyLig_keeps _ _, handoverEp_keeps _ _ _]

theorem dropOwnerCmds_keeps (s : State) (n : PortId) : KeepsBoard (dropOwnerCmds s n) s ∧ KeepsPorts (dropOwnerCmds s n) s ∧ (dropOwnerCmds s n).own = s.own ∧ (dropOwnerCmds s n).eps = s.eps := by
  simp [dropOwnerCmds, finishOpt_keeps _ _ _ _ _, setNib_keeps _ _ _]

theorem ownerChangeNotice_keeps (s : State) (n : PortId) (old : Owner) : KeepsBoard (ownerChangeNotice s n old) s ∧ KeepsPorts (ownerChangeNotice s n old) s ∧ KeepsHosts (ownerChangeNotice s n old) s ∧ (ownerChangeNotice s n old).out = s.out ∧ (ownerChangeNotice s n old).pcie = s.pcie := by
  simp [ownerChangeNotice, notice_keeps _ _ _ _ _ _ _]

theorem ownerLostNotice_keeps (s : State) (n : PortId) (old : Owner) (ended : Nat) : KeepsBoard (ownerLostNotice s n old ended) s ∧ KeepsPorts (ownerLostNotice s n old ended) s ∧ KeepsHosts (ownerLostNotice s n old ended) s ∧ (ownerLostNotice s n old ended).out = s.out ∧ (ownerLostNotice s n old ended).pcie = s.pcie := by
  generalize h : ownerLostNotice s n old ended = t; unfold ownerLostNotice at h; (repeat' split at h) <;> (subst h; simp [*, notice_keeps _ _ _ _ _ _ _])

theorem changeOwner_keeps (s : State) (n : PortId) (next : Owner) (st : OwnState) (cause : Nat) : KeepsBoard (changeOwner s n next st cause) s ∧ KeepsPorts (changeOwner s n next st cause) s ∧ (changeOwner s n next st cause).out = s.out ∧ (changeOwner s n next st cause).vis = s.vis ∧ (changeOwner s n next st cause).eps = s.eps ∧ (changeOwner s n next st cause).nibs = s.nibs ∧ (changeOwner s n next st cause).qps = s.qps ∧ (changeOwner s n next st cause).pcie = s.pcie ∧ (changeOwner s n next st cause).ink = s.ink := by
  simp [changeOwner, ownerChangeNotice_keeps _ _ _, record_keeps _ _ _ _ _ _ _, setOwn_keeps _ _ _]

theorem loseOutright_keeps (s : State) (n : PortId) (st : OwnState) (cause : Nat) : KeepsBoard (loseOutright s n st cause) s ∧ (loseOutright s n st cause).freeCtr = s.freeCtr ∧ (loseOutright s n st cause).regs = s.regs ∧ (loseOutright s n st cause).modes = s.modes ∧ (loseOutright s n st cause).blot = s.blot ∧ (loseOutright s n st cause).power = s.power ∧ (loseOutright s n st cause).pd = s.pd ∧ (loseOutright s n st cause).devices = s.devices ∧ (loseOutright s n st cause).cvis = s.cvis ∧ (loseOutright s n st cause).cviews = s.cviews ∧ (loseOutright s n st cause).cports = s.cports ∧ (loseOutright s n st cause).func = s.func := by
  generalize h : loseOutright s n st cause = t; unfold loseOutright at h; dsimp only at h; (repeat' split at h) <;> (subst h; simp [*, changeOwner_keeps _ _ _ _ _, dropOwnerCmds_keeps _ _, endOldWork_keeps _ _ _, ownerLostNotice_keeps _ _ _ _, setOwn_keeps _ _ _])

theorem createClassic_keeps (s : State) (c : ClassicId) (up : PortId) : KeepsBoard (createClassic s c up) s ∧ (createClassic s c up).freeCtr = s.freeCtr ∧ (createClassic s c up).regs = s.regs ∧ (createClassic s c up).modes = s.modes ∧ (createClassic s c up).blot = s.blot ∧ (createClassic s c up).power = s.power ∧ (createClassic s c up).pd = s.pd ∧ (createClassic s c up).devices = s.devices ∧ (createClassic s c up).cports = s.cports ∧ (createClassic s c up).func = s.func := by
  generalize h : createClassic s c up = t; unfold createClassic at h; (repeat' split at h) <;> (subst h; simp [*, homeStamp_keeps _ _, loseOutright_keeps _ _ _ _, setCvi_keeps _ _ _, stampP4_keeps _ _ _])

theorem ceaseClassic_keeps (s : State) (c : ClassicId) : KeepsBoard (ceaseClassic s c) s ∧ (ceaseClassic s c).out = s.out ∧ (ceaseClassic s c).freeCtr = s.freeCtr ∧ (ceaseClassic s c).limits = s.limits ∧ (ceaseClassic s c).regs = s.regs ∧ (ceaseClassic s c).rcSpi = s.rcSpi ∧ (ceaseClassic s c).rcPf = s.rcPf ∧ (ceaseClassic s c).pal = s.pal ∧ (ceaseClassic s c).margin = s.margin ∧ (ceaseClassic s c).modes = s.modes ∧ (ceaseClassic s c).blot = s.blot ∧ (ceaseClassic s c).power = s.power ∧ (ceaseClassic s c).pd = s.pd ∧ (ceaseClassic s c).devices = s.devices ∧ (ceaseClassic s c).eps = s.eps ∧ (ceaseClassic s c).nibs = s.nibs ∧ (ceaseClassic s c).qps = s.qps ∧ (ceaseClassic s c).pcie = s.pcie ∧ (ceaseClassic s c).ink = s.ink ∧ (ceaseClassic s c).cviews = s.cviews ∧ (ceaseClassic s c).cports = s.cports ∧ (ceaseClassic s c).ligs = s.ligs := by
  generalize h : ceaseClassic s c = t; unfold ceaseClassic at h; (repeat' split at h) <;> (subst h; simp [*, forfeit_keeps _ _, setCvi_keeps _ _ _, setOwn_keeps _ _ _, stampP4_keeps _ _ _])

theorem endUpstream_keeps (s : State) (n : PortId) : KeepsBoard (endUpstream s n) s ∧ (endUpstream s n).out = s.out ∧ (endUpstream s n).freeCtr = s.freeCtr ∧ (endUpstream s n).limits = s.limits ∧ (endUpstream s n).regs = s.regs ∧ (endUpstream s n).rcSpi = s.rcSpi ∧ (endUpstream s n).rcPf = s.rcPf ∧ (endUpstream s n).pal = s.pal ∧ (endUpstream s n).margin = s.margin ∧ (endUpstream s n).modes = s.modes ∧ (endUpstream s n).blot = s.blot ∧ (endUpstream s n).power = s.power ∧ (endUpstream s n).pd = s.pd ∧ (endUpstream s n).devices = s.devices ∧ (endUpstream s n).eps = s.eps ∧ (endUpstream s n).nibs = s.nibs ∧ (endUpstream s n).qps = s.qps ∧ (endUpstream s n).pcie = s.pcie ∧ (endUpstream s n).ink = s.ink ∧ (endUpstream s n).cviews = s.cviews ∧ (endUpstream s n).cports = s.cports ∧ (endUpstream s n).ligs = s.ligs := by
  generalize h : endUpstream s n = t; unfold endUpstream at h; (repeat' split at h) <;> (subst h; simp [*, ceaseClassic_keeps _ _])

end Sys2Proof.Machine
end

