-- ==== Sys2Proof/Laws/FramePorts.lean ====
section
/-! SUPPORT. What the operations of Machine/Ports.lean leave as it was: one lemma for each, over every input, and over every outcome of it.
A proof names the ones it needs, each applied: simp [op_keeps _ _] rewrites every field that op leaves. -/

namespace Sys2Proof.Machine

theorem setPower_keeps (s : State) (n : PortId) (f : PortPower → PortPower) : KeepsBoard (setPower s n f) s ∧ KeepsHosts (setPower s n f) s ∧ (setPower s n f).out = s.out ∧ (setPower s n f).freeCtr = s.freeCtr ∧ (setPower s n f).limits = s.limits ∧ (setPower s n f).regs = s.regs ∧ (setPower s n f).rcSpi = s.rcSpi ∧ (setPower s n f).rcPf = s.rcPf ∧ (setPower s n f).pal = s.pal ∧ (setPower s n f).margin = s.margin ∧ (setPower s n f).modes = s.modes ∧ (setPower s n f).blot = s.blot ∧ (setPower s n f).pd = s.pd ∧ (setPower s n f).devices = s.devices ∧ (setPower s n f).pcie = s.pcie ∧ (setPower s n f).cvis = s.cvis ∧ (setPower s n f).cviews = s.cviews ∧ (setPower s n f).cports = s.cports ∧ (setPower s n f).ligs = s.ligs ∧ (setPower s n f).func = s.func := by
  simp [setPower]

theorem setPd_keeps (s : State) (n : PortId) (f : PortPd → PortPd) : KeepsBoard (setPd s n f) s ∧ KeepsHosts (setPd s n f) s ∧ (setPd s n f).out = s.out ∧ (setPd s n f).freeCtr = s.freeCtr ∧ (setPd s n f).limits = s.limits ∧ (setPd s n f).regs = s.regs ∧ (setPd s n f).rcSpi = s.rcSpi ∧ (setPd s n f).rcPf = s.rcPf ∧ (setPd s n f).pal = s.pal ∧ (setPd s n f).margin = s.margin ∧ (setPd s n f).modes = s.modes ∧ (setPd s n f).blot = s.blot ∧ (setPd s n f).power = s.power ∧ (setPd s n f).devices = s.devices ∧ (setPd s n f).pcie = s.pcie ∧ (setPd s n f).cvis = s.cvis ∧ (setPd s n f).cviews = s.cviews ∧ (setPd s n f).cports = s.cports ∧ (setPd s n f).ligs = s.ligs ∧ (setPd s n f).func = s.func := by
  simp [setPd]

theorem pdState_keeps (s : State) (n : PortId) (st : PdState) : KeepsBoard (pdState s n st) s ∧ KeepsHosts (pdState s n st) s ∧ (pdState s n st).out = s.out ∧ (pdState s n st).freeCtr = s.freeCtr ∧ (pdState s n st).limits = s.limits ∧ (pdState s n st).regs = s.regs ∧ (pdState s n st).rcSpi = s.rcSpi ∧ (pdState s n st).rcPf = s.rcPf ∧ (pdState s n st).pal = s.pal ∧ (pdState s n st).margin = s.margin ∧ (pdState s n st).modes = s.modes ∧ (pdState s n st).blot = s.blot ∧ (pdState s n st).power = s.power ∧ (pdState s n st).devices = s.devices ∧ (pdState s n st).pcie = s.pcie ∧ (pdState s n st).cvis = s.cvis ∧ (pdState s n st).cviews = s.cviews ∧ (pdState s n st).cports = s.cports ∧ (pdState s n st).ligs = s.ligs ∧ (pdState s n st).func = s.func := by
  simp [pdState, setPd_keeps _ _ _]

theorem presentRp_keeps (s : State) (n : PortId) : KeepsBoard (presentRp s n) s ∧ KeepsHosts (presentRp s n) s ∧ (presentRp s n).out = s.out ∧ (presentRp s n).freeCtr = s.freeCtr ∧ (presentRp s n).limits = s.limits ∧ (presentRp s n).regs = s.regs ∧ (presentRp s n).rcSpi = s.rcSpi ∧ (presentRp s n).rcPf = s.rcPf ∧ (presentRp s n).pal = s.pal ∧ (presentRp s n).margin = s.margin ∧ (presentRp s n).modes = s.modes ∧ (presentRp s n).blot = s.blot ∧ (presentRp s n).power = s.power ∧ (presentRp s n).devices = s.devices ∧ (presentRp s n).pcie = s.pcie ∧ (presentRp s n).cvis = s.cvis ∧ (presentRp s n).cviews = s.cviews ∧ (presentRp s n).cports = s.cports ∧ (presentRp s n).ligs = s.ligs ∧ (presentRp s n).func = s.func := by
  simp [presentRp, setPd_keeps _ _ _]

theorem kickOwn_keeps (s : State) (n : PortId) : KeepsBoard (kickOwn s n) s ∧ KeepsHosts (kickOwn s n) s ∧ (kickOwn s n).out = s.out ∧ (kickOwn s n).freeCtr = s.freeCtr ∧ (kickOwn s n).limits = s.limits ∧ (kickOwn s n).regs = s.regs ∧ (kickOwn s n).rcSpi = s.rcSpi ∧ (kickOwn s n).rcPf = s.rcPf ∧ (kickOwn s n).pal = s.pal ∧ (kickOwn s n).margin = s.margin ∧ (kickOwn s n).modes = s.modes ∧ (kickOwn s n).blot = s.blot ∧ (kickOwn s n).power = s.power ∧ (kickOwn s n).devices = s.devices ∧ (kickOwn s n).pcie = s.pcie ∧ (kickOwn s n).cvis = s.cvis ∧ (kickOwn s n).cviews = s.cviews ∧ (kickOwn s n).cports = s.cports ∧ (kickOwn s n).ligs = s.ligs ∧ (kickOwn s n).func = s.func := by
  generalize h : kickOwn s n = t; unfold kickOwn at h; dsimp only at h; (repeat' split at h) <;> (subst h; simp [*, presentRp_keeps _ _, setPd_keeps _ _ _])

theorem markCaps_keeps (s : State) (n : PortId) (force : Bool) : KeepsBoard (markCaps s n force) s ∧ KeepsHosts (markCaps s n force) s ∧ (markCaps s n force).out = s.out ∧ (markCaps s n force).freeCtr = s.freeCtr ∧ (markCaps s n force).limits = s.limits ∧ (markCaps s n force).regs = s.regs ∧ (markCaps s n force).rcSpi = s.rcSpi ∧ (markCaps s n force).rcPf = s.rcPf ∧ (markCaps s n force).pal = s.pal ∧ (markCaps s n force).margin = s.margin ∧ (markCaps s n force).modes = s.modes ∧ (markCaps s n force).blot = s.blot ∧ (markCaps s n force).power = s.power ∧ (markCaps s n force).devices = s.devices ∧ (markCaps s n force).pcie = s.pcie ∧ (markCaps s n force).cvis = s.cvis ∧ (markCaps s n force).cviews = s.cviews ∧ (markCaps s n force).cports = s.cports ∧ (markCaps s n force).ligs = s.ligs ∧ (markCaps s n force).func = s.func := by
  simp [markCaps, setPd_keeps _ _ _]

theorem markShare_keeps (s : State) (n : PortId) : KeepsBoard (markShare s n) s ∧ KeepsHosts (markShare s n) s ∧ (markShare s n).out = s.out ∧ (markShare s n).freeCtr = s.freeCtr ∧ (markShare s n).limits = s.limits ∧ (markShare s n).regs = s.regs ∧ (markShare s n).rcSpi = s.rcSpi ∧ (markShare s n).rcPf = s.rcPf ∧ (markShare s n).pal = s.pal ∧ (markShare s n).margin = s.margin ∧ (markShare s n).modes = s.modes ∧ (markShare s n).blot = s.blot ∧ (markShare s n).power = s.power ∧ (markShare s n).devices = s.devices ∧ (markShare s n).pcie = s.pcie ∧ (markShare s n).cvis = s.cvis ∧ (markShare s n).cviews = s.cviews ∧ (markShare s n).cports = s.cports ∧ (markShare s n).ligs = s.ligs ∧ (markShare s n).func = s.func := by
  generalize h : markShare s n = t; unfold markShare at h; (repeat' split at h) <;> (subst h; simp [*, markCaps_keeps _ _ _])

theorem endContract_keeps (s : State) (n : PortId) : KeepsBoard (endContract s n) s ∧ KeepsHosts (endContract s n) s ∧ (endContract s n).out = s.out ∧ (endContract s n).freeCtr = s.freeCtr ∧ (endContract s n).limits = s.limits ∧ (endContract s n).regs = s.regs ∧ (endContract s n).rcSpi = s.rcSpi ∧ (endContract s n).rcPf = s.rcPf ∧ (endContract s n).pal = s.pal ∧ (endContract s n).margin = s.margin ∧ (endContract s n).modes = s.modes ∧ (endContract s n).blot = s.blot ∧ (endContract s n).power = s.power ∧ (endContract s n).devices = s.devices ∧ (endContract s n).pcie = s.pcie ∧ (endContract s n).cvis = s.cvis ∧ (endContract s n).cviews = s.cviews ∧ (endContract s n).cports = s.cports ∧ (endContract s n).ligs = s.ligs ∧ (endContract s n).func = s.func := by
  simp [endContract, setPd_keeps _ _ _]

theorem clearPd_keeps (s : State) (n : PortId) (st : PdState) : KeepsBoard (clearPd s n st) s ∧ KeepsHosts (clearPd s n st) s ∧ (clearPd s n st).out = s.out ∧ (clearPd s n st).freeCtr = s.freeCtr ∧ (clearPd s n st).limits = s.limits ∧ (clearPd s n st).regs = s.regs ∧ (clearPd s n st).rcSpi = s.rcSpi ∧ (clearPd s n st).rcPf = s.rcPf ∧ (clearPd s n st).pal = s.pal ∧ (clearPd s n st).margin = s.margin ∧ (clearPd s n st).modes = s.modes ∧ (clearPd s n st).blot = s.blot ∧ (clearPd s n st).power = s.power ∧ (clearPd s n st).devices = s.devices ∧ (clearPd s n st).pcie = s.pcie ∧ (clearPd s n st).cvis = s.cvis ∧ (clearPd s n st).cviews = s.cviews ∧ (clearPd s n st).cports = s.cports ∧ (clearPd s n st).ligs = s.ligs ∧ (clearPd s n st).func = s.func := by
  simp [clearPd, setPd_keeps _ _ _]

theorem vconnOff_keeps (s : State) (n : PortId) : KeepsBoard (vconnOff s n) s ∧ KeepsHosts (vconnOff s n) s ∧ (vconnOff s n).out = s.out ∧ (vconnOff s n).freeCtr = s.freeCtr ∧ (vconnOff s n).limits = s.limits ∧ (vconnOff s n).regs = s.regs ∧ (vconnOff s n).rcSpi = s.rcSpi ∧ (vconnOff s n).rcPf = s.rcPf ∧ (vconnOff s n).pal = s.pal ∧ (vconnOff s n).margin = s.margin ∧ (vconnOff s n).modes = s.modes ∧ (vconnOff s n).blot = s.blot ∧ (vconnOff s n).power = s.power ∧ (vconnOff s n).devices = s.devices ∧ (vconnOff s n).pcie = s.pcie ∧ (vconnOff s n).cvis = s.cvis ∧ (vconnOff s n).cviews = s.cviews ∧ (vconnOff s n).cports = s.cports ∧ (vconnOff s n).ligs = s.ligs ∧ (vconnOff s n).func = s.func := by
  simp [vconnOff, setPd_keeps _ _ _]

theorem gateOff_keeps (s : State) (n : PortId) (hard : Bool) (phase : PathPhase) : KeepsBoard (gateOff s n hard phase) s ∧ KeepsHosts (gateOff s n hard phase) s ∧ (gateOff s n hard phase).out = s.out ∧ (gateOff s n hard phase).freeCtr = s.freeCtr ∧ (gateOff s n hard phase).limits = s.limits ∧ (gateOff s n hard phase).regs = s.regs ∧ (gateOff s n hard phase).rcSpi = s.rcSpi ∧ (gateOff s n hard phase).rcPf = s.rcPf ∧ (gateOff s n hard phase).pal = s.pal ∧ (gateOff s n hard phase).margin = s.margin ∧ (gateOff s n hard phase).modes = s.modes ∧ (gateOff s n hard phase).blot = s.blot ∧ (gateOff s n hard phase).pd = s.pd ∧ (gateOff s n hard phase).devices = s.devices ∧ (gateOff s n hard phase).pcie = s.pcie ∧ (gateOff s n hard phase).cvis = s.cvis ∧ (gateOff s n hard phase).cviews = s.cviews ∧ (gateOff s n hard phase).cports = s.cports ∧ (gateOff s n hard phase).ligs = s.ligs ∧ (gateOff s n hard phase).func = s.func := by
  simp [gateOff, setPower_keeps _ _ _]

theorem converterOff_keeps (s : State) (n : PortId) : KeepsBoard (converterOff s n) s ∧ KeepsHosts (converterOff s n) s ∧ (converterOff s n).out = s.out ∧ (converterOff s n).freeCtr = s.freeCtr ∧ (converterOff s n).limits = s.limits ∧ (converterOff s n).regs = s.regs ∧ (converterOff s n).rcSpi = s.rcSpi ∧ (converterOff s n).rcPf = s.rcPf ∧ (converterOff s n).pal = s.pal ∧ (converterOff s n).margin = s.margin ∧ (converterOff s n).modes = s.modes ∧ (converterOff s n).blot = s.blot ∧ (converterOff s n).pd = s.pd ∧ (converterOff s n).devices = s.devices ∧ (converterOff s n).pcie = s.pcie ∧ (converterOff s n).cvis = s.cvis ∧ (converterOff s n).cviews = s.cviews ∧ (converterOff s n).cports = s.cports ∧ (converterOff s n).ligs = s.ligs ∧ (converterOff s n).func = s.func := by
  simp [converterOff, setPower_keeps _ _ _]

theorem switchOn_keeps (s : State) (n : PortId) : KeepsBoard (switchOn s n) s ∧ KeepsHosts (switchOn s n) s ∧ (switchOn s n).out = s.out ∧ (switchOn s n).freeCtr = s.freeCtr ∧ (switchOn s n).limits = s.limits ∧ (switchOn s n).regs = s.regs ∧ (switchOn s n).rcSpi = s.rcSpi ∧ (switchOn s n).rcPf = s.rcPf ∧ (switchOn s n).pal = s.pal ∧ (switchOn s n).margin = s.margin ∧ (switchOn s n).modes = s.modes ∧ (switchOn s n).blot = s.blot ∧ (switchOn s n).pd = s.pd ∧ (switchOn s n).devices = s.devices ∧ (switchOn s n).pcie = s.pcie ∧ (switchOn s n).cvis = s.cvis ∧ (switchOn s n).cports = s.cports ∧ (switchOn s n).ligs = s.ligs ∧ (switchOn s n).func = s.func := by
  simp [switchOn, setPower_keeps _ _ _, viewOverCurrent_keeps _ _ _]

theorem clearShed_keeps (s : State) (n : PortId) : KeepsBoard (clearShed s n) s ∧ KeepsHosts (clearShed s n) s ∧ (clearShed s n).out = s.out ∧ (clearShed s n).freeCtr = s.freeCtr ∧ (clearShed s n).regs = s.regs ∧ (clearShed s n).modes = s.modes ∧ (clearShed s n).blot = s.blot ∧ (clearShed s n).pd = s.pd ∧ (clearShed s n).devices = s.devices ∧ (clearShed s n).pcie = s.pcie ∧ (clearShed s n).cvis = s.cvis ∧ (clearShed s n).cviews = s.cviews ∧ (clearShed s n).cports = s.cports ∧ (clearShed s n).ligs = s.ligs ∧ (clearShed s n).func = s.func := by
  generalize h : clearShed s n = t; unfold clearShed at h; dsimp only at h; (repeat' split at h) <;> (subst h; simp [*, powerNotice_keeps _ _ _, setPower_keeps _ _ _])

theorem applyIncrease_keeps (s : State) (n : PortId) : KeepsBoard (applyIncrease s n) s ∧ KeepsHosts (applyIncrease s n) s ∧ (applyIncrease s n).out = s.out ∧ (applyIncrease s n).freeCtr = s.freeCtr ∧ (applyIncrease s n).regs = s.regs ∧ (applyIncrease s n).modes = s.modes ∧ (applyIncrease s n).blot = s.blot ∧ (applyIncrease s n).devices = s.devices ∧ (applyIncrease s n).pcie = s.pcie ∧ (applyIncrease s n).cvis = s.cvis ∧ (applyIncrease s n).cviews = s.cviews ∧ (applyIncrease s n).cports = s.cports ∧ (applyIncrease s n).ligs = s.ligs ∧ (applyIncrease s n).func = s.func := by
  generalize h : applyIncrease s n = t; unfold applyIncrease at h; dsimp only at h; (repeat' split at h) <;> (subst h; simp [*, clearShed_keeps _ _, markShare_keeps _ _, setPower_keeps _ _ _])

theorem noteShed_keeps (s : State) (n : PortId) : KeepsBoard (noteShed s n) s ∧ KeepsHosts (noteShed s n) s ∧ (noteShed s n).out = s.out ∧ (noteShed s n).freeCtr = s.freeCtr ∧ (noteShed s n).regs = s.regs ∧ (noteShed s n).modes = s.modes ∧ (noteShed s n).blot = s.blot ∧ (noteShed s n).pd = s.pd ∧ (noteShed s n).devices = s.devices ∧ (noteShed s n).pcie = s.pcie ∧ (noteShed s n).cvis = s.cvis ∧ (noteShed s n).cviews = s.cviews ∧ (noteShed s n).cports = s.cports ∧ (noteShed s n).ligs = s.ligs ∧ (noteShed s n).func = s.func := by
  simp [noteShed, powerNotice_keeps _ _ _, rcCount_keeps _ _ _, record_keeps _ _ _ _ _ _ _, setPower_keeps _ _ _]

theorem powerOffPort_keeps (s : State) (n : PortId) (reason : Nat) : KeepsBoard (powerOffPort s n reason) s ∧ (powerOffPort s n reason).freeCtr = s.freeCtr ∧ (powerOffPort s n reason).regs = s.regs ∧ (powerOffPort s n reason).modes = s.modes ∧ (powerOffPort s n reason).blot = s.blot ∧ (powerOffPort s n reason).power = s.power ∧ (powerOffPort s n reason).cvis = s.cvis ∧ (powerOffPort s n reason).ligs = s.ligs ∧ (powerOffPort s n reason).func = s.func := by
  simp [powerOffPort, busGone_keeps _ _ _, endContract_keeps _ _, pdState_keeps _ _ _, presentRp_keeps _ _, vconnOff_keeps _ _]

theorem shedOff_keeps (s : State) (n : PortId) (hard : Bool) : KeepsBoard (shedOff s n hard) s ∧ (shedOff s n hard).freeCtr = s.freeCtr ∧ (shedOff s n hard).regs = s.regs ∧ (shedOff s n hard).modes = s.modes ∧ (shedOff s n hard).blot = s.blot ∧ (shedOff s n hard).cvis = s.cvis ∧ (shedOff s n hard).ligs = s.ligs ∧ (shedOff s n hard).func = s.func := by
  simp [shedOff, gateOff_keeps _ _ _ _, noteShed_keeps _ _, powerOffPort_keeps _ _ _, setPower_keeps _ _ _]

theorem recomputeShares_keeps (s : State) : KeepsBoard (recomputeShares s) s ∧ (recomputeShares s).freeCtr = s.freeCtr ∧ (recomputeShares s).regs = s.regs ∧ (recomputeShares s).modes = s.modes ∧ (recomputeShares s).blot = s.blot ∧ (recomputeShares s).cvis = s.cvis ∧ (recomputeShares s).ligs = s.ligs ∧ (recomputeShares s).func = s.func := by
  simp [recomputeShares, applyIncrease_keeps _ _, clearShed_keeps _ _, markShare_keeps _ _, setPower_keeps _ _ _, shedOff_keeps _ _ _]

theorem scheduleRetry_keeps (s : State) (n : PortId) : KeepsBoard (scheduleRetry s n) s ∧ (scheduleRetry s n).freeCtr = s.freeCtr ∧ (scheduleRetry s n).regs = s.regs ∧ (scheduleRetry s n).modes = s.modes ∧ (scheduleRetry s n).blot = s.blot ∧ (scheduleRetry s n).cvis = s.cvis ∧ (scheduleRetry s n).ligs = s.ligs ∧ (scheduleRetry s n).func = s.func := by
  generalize h : scheduleRetry s n = t; unfold scheduleRetry at h; dsimp only at h; (repeat' split at h) <;> (subst h; simp [*, powerNotice_keeps _ _ _, recomputeShares_keeps _, record_keeps _ _ _ _ _ _ _, setPower_keeps _ _ _])

theorem tripPort_keeps (s : State) (n : PortId) (cause : Nat) (place : Nat × Nat) : (tripPort s n cause place).now = s.now ∧ (tripPort s n cause place).pending = s.pending ∧ (tripPort s n cause place).freeCtr = s.freeCtr ∧ (tripPort s n cause place).folioOn = s.folioOn ∧ (tripPort s n cause place).strokeBase = s.strokeBase ∧ (tripPort s n cause place).resyncAt = s.resyncAt ∧ (tripPort s n cause place).regs = s.regs ∧ (tripPort s n cause place).pairs = s.pairs ∧ (tripPort s n cause place).writes = s.writes ∧ (tripPort s n cause place).staged = s.staged ∧ (tripPort s n cause place).rubric = s.rubric ∧ (tripPort s n cause place).trustBySpi = s.trustBySpi ∧ (tripPort s n cause place).trustConfigured = s.trustConfigured ∧ (tripPort s n cause place).link = s.link ∧ (tripPort s n cause place).disc = s.disc ∧ (tripPort s n cause place).clusters = s.clusters ∧ (tripPort s n cause place).engines = s.engines ∧ (tripPort s n cause place).regionTemp = s.regionTemp ∧ (tripPort s n cause place).lanes = s.lanes ∧ (tripPort s n cause place).modes = s.modes ∧ (tripPort s n cause place).img = s.img ∧ (tripPort s n cause place).nor = s.nor ∧ (tripPort s n cause place).blot = s.blot ∧ (tripPort s n cause place).sealUnit = s.sealUnit ∧ (tripPort s n cause place).input = s.input ∧ (tripPort s n cause place).vauxOk = s.vauxOk ∧ (tripPort s n cause place).ptp = s.ptp ∧ (tripPort s n cause place).eth = s.eth ∧ (tripPort s n cause place).prp = s.prp ∧ (tripPort s n cause place).timelines = s.timelines ∧ (tripPort s n cause place).cvis = s.cvis ∧ (tripPort s n cause place).ligs = s.ligs ∧ (tripPort s n cause place).func = s.func ∧ (tripPort s n cause place).pins = s.pins := by
  simp [tripPort, gateOff_keeps _ _ _ _, powerNotice_keeps _ _ _, powerOffPort_keeps _ _ _, rcCount_keeps _ _ _, recordRes_keeps _ _ _ _ _ _ _, scheduleRetry_keeps _ _, setPower_keeps _ _ _, viewOverCurrent_keeps _ _ _]

theorem dropRole_keeps (s : State) (n : PortId) : KeepsBoard (dropRole s n) s ∧ (dropRole s n).out = s.out ∧ (dropRole s n).freeCtr = s.freeCtr ∧ (dropRole s n).limits = s.limits ∧ (dropRole s n).regs = s.regs ∧ (dropRole s n).rcSpi = s.rcSpi ∧ (dropRole s n).rcPf = s.rcPf ∧ (dropRole s n).pal = s.pal ∧ (dropRole s n).margin = s.margin ∧ (dropRole s n).modes = s.modes ∧ (dropRole s n).blot = s.blot ∧ (dropRole s n).power = s.power ∧ (dropRole s n).devices = s.devices ∧ (dropRole s n).eps = s.eps ∧ (dropRole s n).nibs = s.nibs ∧ (dropRole s n).qps = s.qps ∧ (dropRole s n).pcie = s.pcie ∧ (dropRole s n).ink = s.ink ∧ (dropRole s n).cviews = s.cviews ∧ (dropRole s n).cports = s.cports ∧ (dropRole s n).ligs = s.ligs := by
  simp [dropRole, endUpstream_keeps _ _, setPd_keeps _ _ _]

theorem errorRecovery_keeps (s : State) (n : PortId) : KeepsBoard (errorRecovery s n) s ∧ (errorRecovery s n).freeCtr = s.freeCtr ∧ (errorRecovery s n).regs = s.regs ∧ (errorRecovery s n).modes = s.modes ∧ (errorRecovery s n).blot = s.blot ∧ (errorRecovery s n).ligs = s.ligs := by
  generalize h : errorRecovery s n = t; unfold errorRecovery at h; dsimp only at h; (repeat' split at h) <;> (subst h; simp [*, busGone_keeps _ _ _, dropRole_keeps _ _, endContract_keeps _ _, gateOff_keeps _ _ _ _, pdState_keeps _ _ _, presentRp_keeps _ _, setPd_keeps _ _ _, vconnOff_keeps _ _])

theorem startHardReset_keeps (s : State) (n : PortId) (received : Bool) : (startHardReset s n received).now = s.now ∧ (startHardReset s n received).pending = s.pending ∧ (startHardReset s n received).freeCtr = s.freeCtr ∧ (startHardReset s n received).folioOn = s.folioOn ∧ (startHardReset s n received).strokeBase = s.strokeBase ∧ (startHardReset s n received).resyncAt = s.resyncAt ∧ (startHardReset s n received).regs = s.regs ∧ (startHardReset s n received).pairs = s.pairs ∧ (startHardReset s n received).writes = s.writes ∧ (startHardReset s n received).staged = s.staged ∧ (startHardReset s n received).rubric = s.rubric ∧ (startHardReset s n received).trustBySpi = s.trustBySpi ∧ (startHardReset s n received).trustConfigured = s.trustConfigured ∧ (startHardReset s n received).link = s.link ∧ (startHardReset s n received).disc = s.disc ∧ (startHardReset s n received).clusters = s.clusters ∧ (startHardReset s n received).engines = s.engines ∧ (startHardReset s n received).regionTemp = s.regionTemp ∧ (startHardReset s n received).lanes = s.lanes ∧ (startHardReset s n received).modes = s.modes ∧ (startHardReset s n received).img = s.img ∧ (startHardReset s n received).nor = s.nor ∧ (startHardReset s n received).blot = s.blot ∧ (startHardReset s n received).sealUnit = s.sealUnit ∧ (startHardReset s n received).input = s.input ∧ (startHardReset s n received).vauxOk = s.vauxOk ∧ (startHardReset s n received).ptp = s.ptp ∧ (startHardReset s n received).eth = s.eth ∧ (startHardReset s n received).prp = s.prp ∧ (startHardReset s n received).timelines = s.timelines ∧ (startHardReset s n received).ligs = s.ligs ∧ (startHardReset s n received).pins = s.pins := by
  generalize h : startHardReset s n received = t; unfold startHardReset at h; (repeat' split at h) <;> (subst h; simp [*, dropRole_keeps _ _, emit_keeps _ _, endContract_keeps _ _, errorRecovery_keeps _ _, pdState_keeps _ _ _, presentRp_keeps _ _, rcCount_keeps _ _ _, record_keeps _ _ _ _ _ _ _, setPd_keeps _ _ _])

theorem disablePort_keeps (s : State) (n : PortId) (hard : Bool) (reason : Nat) : KeepsBoard (disablePort s n hard reason) s ∧ (disablePort s n hard reason).freeCtr = s.freeCtr ∧ (disablePort s n hard reason).regs = s.regs ∧ (disablePort s n hard reason).modes = s.modes ∧ (disablePort s n hard reason).blot = s.blot ∧ (disablePort s n hard reason).ligs = s.ligs := by
  generalize h : disablePort s n hard reason = t; unfold disablePort at h; (repeat' split at h) <;> (subst h; simp [*, busGone_keeps _ _ _, clearPd_keeps _ _ _, converterOff_keeps _ _, dropRole_keeps _ _, gateOff_keeps _ _ _ _, presentRp_keeps _ _, setPower_keeps _ _ _])

theorem enablePort_keeps (s : State) (n : PortId) : KeepsBoard (enablePort s n) s ∧ KeepsHosts (enablePort s n) s ∧ (enablePort s n).out = s.out ∧ (enablePort s n).freeCtr = s.freeCtr ∧ (enablePort s n).limits = s.limits ∧ (enablePort s n).regs = s.regs ∧ (enablePort s n).rcSpi = s.rcSpi ∧ (enablePort s n).rcPf = s.rcPf ∧ (enablePort s n).pal = s.pal ∧ (enablePort s n).margin = s.margin ∧ (enablePort s n).modes = s.modes ∧ (enablePort s n).blot = s.blot ∧ (enablePort s n).devices = s.devices ∧ (enablePort s n).pcie = s.pcie ∧ (enablePort s n).cvis = s.cvis ∧ (enablePort s n).cviews = s.cviews ∧ (enablePort s n).cports = s.cports ∧ (enablePort s n).ligs = s.ligs ∧ (enablePort s n).func = s.func := by
  generalize h : enablePort s n = t; unfold enablePort at h; (repeat' split at h) <;> (subst h; simp [*, clearPd_keeps _ _ _, presentRp_keeps _ _, setPower_keeps _ _ _])

theorem applyPortModes_keeps (s : State) (hard : Bool) (reason : Nat) : KeepsBoard (applyPortModes s hard reason) s ∧ (applyPortModes s hard reason).freeCtr = s.freeCtr ∧ (applyPortModes s hard reason).regs = s.regs ∧ (applyPortModes s hard reason).modes = s.modes ∧ (applyPortModes s hard reason).blot = s.blot ∧ (applyPortModes s hard reason).ligs = s.ligs := by
  simp [applyPortModes, disablePort_keeps _ _ _ _, enablePort_keeps _ _]

theorem ccFault_keeps (s : State) (n : PortId) : (ccFault s n).now = s.now ∧ (ccFault s n).pending = s.pending ∧ (ccFault s n).freeCtr = s.freeCtr ∧ (ccFault s n).folioOn = s.folioOn ∧ (ccFault s n).strokeBase = s.strokeBase ∧ (ccFault s n).resyncAt = s.resyncAt ∧ (ccFault s n).regs = s.regs ∧ (ccFault s n).pairs = s.pairs ∧ (ccFault s n).writes = s.writes ∧ (ccFault s n).staged = s.staged ∧ (ccFault s n).rubric = s.rubric ∧ (ccFault s n).trustBySpi = s.trustBySpi ∧ (ccFault s n).trustConfigured = s.trustConfigured ∧ (ccFault s n).link = s.link ∧ (ccFault s n).disc = s.disc ∧ (ccFault s n).clusters = s.clusters ∧ (ccFault s n).engines = s.engines ∧ (ccFault s n).regionTemp = s.regionTemp ∧ (ccFault s n).lanes = s.lanes ∧ (ccFault s n).modes = s.modes ∧ (ccFault s n).img = s.img ∧ (ccFault s n).nor = s.nor ∧ (ccFault s n).blot = s.blot ∧ (ccFault s n).sealUnit = s.sealUnit ∧ (ccFault s n).input = s.input ∧ (ccFault s n).vauxOk = s.vauxOk ∧ (ccFault s n).ptp = s.ptp ∧ (ccFault s n).eth = s.eth ∧ (ccFault s n).prp = s.prp ∧ (ccFault s n).timelines = s.timelines ∧ (ccFault s n).ligs = s.ligs ∧ (ccFault s n).pins = s.pins := by
  generalize h : ccFault s n = t; unfold ccFault at h; dsimp only at h; (repeat' split at h) <;> (subst h; simp [*, busGone_keeps _ _ _, dropRole_keeps _ _, endContract_keeps _ _, gateOff_keeps _ _ _ _, pdState_keeps _ _ _, powerNotice_keeps _ _ _, presentRp_keeps _ _, rcCount_keeps _ _ _, recomputeShares_keeps _, recordRes_keeps _ _ _ _ _ _ _, setPd_keeps _ _ _, vconnOff_keeps _ _])

theorem detachPower_keeps (s : State) (n : PortId) : KeepsBoard (detachPower s n) s ∧ KeepsHosts (detachPower s n) s ∧ (detachPower s n).out = s.out ∧ (detachPower s n).freeCtr = s.freeCtr ∧ (detachPower s n).limits = s.limits ∧ (detachPower s n).regs = s.regs ∧ (detachPower s n).rcSpi = s.rcSpi ∧ (detachPower s n).rcPf = s.rcPf ∧ (detachPower s n).pal = s.pal ∧ (detachPower s n).margin = s.margin ∧ (detachPower s n).modes = s.modes ∧ (detachPower s n).blot = s.blot ∧ (detachPower s n).pd = s.pd ∧ (detachPower s n).devices = s.devices ∧ (detachPower s n).pcie = s.pcie ∧ (detachPower s n).cvis = s.cvis ∧ (detachPower s n).cviews = s.cviews ∧ (detachPower s n).cports = s.cports ∧ (detachPower s n).ligs = s.ligs ∧ (detachPower s n).func = s.func := by
  simp [detachPower, setPower_keeps _ _ _]

end Sys2Proof.Machine
end

