-- ==== Sys2Proof/Laws/FrameBoard.lean ====
section
/-! SUPPORT. What the operations of Machine/Board.lean leave as it was: one lemma for each, over every input, and over every outcome of it.
A proof names the ones it needs, each applied: simp [op_keeps _ _] rewrites every field that op leaves. -/

namespace Sys2Proof.Machine

theorem enterMode_keeps (s : State) (m : Mode) : KeepsBoard (enterMode s m) s ∧ KeepsHosts (enterMode s m) s ∧ (enterMode s m).out = s.out ∧ (enterMode s m).freeCtr = s.freeCtr ∧ (enterMode s m).regs = s.regs ∧ (enterMode s m).blot = s.blot ∧ (enterMode s m).power = s.power ∧ (enterMode s m).pd = s.pd ∧ (enterMode s m).devices = s.devices ∧ (enterMode s m).pcie = s.pcie ∧ (enterMode s m).cviews = s.cviews ∧ (enterMode s m).cports = s.cports ∧ (enterMode s m).ligs = s.ligs ∧ (enterMode s m).func = s.func := by
  generalize h : enterMode s m = t; unfold enterMode at h; (repeat' split at h) <;> (subst h; simp [*, notice_keeps _ _ _ _ _ _ _, record_keeps _ _ _ _ _ _ _, viewLocalPower_keeps _])

theorem followInput_keeps (s : State) : KeepsBoard (followInput s) s ∧ KeepsHosts (followInput s) s ∧ (followInput s).out = s.out ∧ (followInput s).freeCtr = s.freeCtr ∧ (followInput s).limits = s.limits ∧ (followInput s).regs = s.regs ∧ (followInput s).rcSpi = s.rcSpi ∧ (followInput s).rcPf = s.rcPf ∧ (followInput s).pal = s.pal ∧ (followInput s).margin = s.margin ∧ (followInput s).blot = s.blot ∧ (followInput s).power = s.power ∧ (followInput s).pd = s.pd ∧ (followInput s).devices = s.devices ∧ (followInput s).pcie = s.pcie ∧ (followInput s).cvis = s.cvis ∧ (followInput s).cviews = s.cviews ∧ (followInput s).cports = s.cports ∧ (followInput s).ligs = s.ligs ∧ (followInput s).func = s.func := by
  generalize h : followInput s = t; unfold followInput at h; (repeat' split at h) <;> (subst h; simp [*])

theorem refuseMode_keeps (s : State) (code : Nat) : KeepsBoard (refuseMode s code) s ∧ KeepsHosts (refuseMode s code) s ∧ (refuseMode s code).out = s.out ∧ (refuseMode s code).freeCtr = s.freeCtr ∧ (refuseMode s code).limits = s.limits ∧ (refuseMode s code).regs = s.regs ∧ (refuseMode s code).pal = s.pal ∧ (refuseMode s code).margin = s.margin ∧ (refuseMode s code).blot = s.blot ∧ (refuseMode s code).power = s.power ∧ (refuseMode s code).pd = s.pd ∧ (refuseMode s code).devices = s.devices ∧ (refuseMode s code).pcie = s.pcie ∧ (refuseMode s code).cvis = s.cvis ∧ (refuseMode s code).cviews = s.cviews ∧ (refuseMode s code).cports = s.cports ∧ (refuseMode s code).ligs = s.ligs ∧ (refuseMode s code).func = s.func := by
  generalize h : refuseMode s code = t; unfold refuseMode at h; (repeat' split at h) <;> (subst h; simp [*, rcCount_keeps _ _ _])

theorem treeSuspend_keeps (s : State) (n : PortId) : KeepsBoard (treeSuspend s n) s ∧ KeepsPorts (treeSuspend s n) s ∧ (treeSuspend s n).limits = s.limits ∧ (treeSuspend s n).rcSpi = s.rcSpi ∧ (treeSuspend s n).rcPf = s.rcPf ∧ (treeSuspend s n).pal = s.pal ∧ (treeSuspend s n).margin = s.margin ∧ (treeSuspend s n).own = s.own ∧ (treeSuspend s n).vis = s.vis ∧ (treeSuspend s n).qps = s.qps ∧ (treeSuspend s n).pcie = s.pcie ∧ (treeSuspend s n).ink = s.ink := by
  generalize h : treeSuspend s n = t; unfold treeSuspend at h; dsimp only at h; (repeat' split at h) <;> (subst h; simp [*, emit_keeps _ _, refreshAges_keeps _, setNib_keeps _ _ _])

theorem treeResume_keeps (s : State) (n : PortId) : KeepsBoard (treeResume s n) s ∧ KeepsPorts (treeResume s n) s ∧ (treeResume s n).limits = s.limits ∧ (treeResume s n).rcSpi = s.rcSpi ∧ (treeResume s n).rcPf = s.rcPf ∧ (treeResume s n).pal = s.pal ∧ (treeResume s n).margin = s.margin ∧ (treeResume s n).own = s.own ∧ (treeResume s n).vis = s.vis ∧ (treeResume s n).eps = s.eps ∧ (treeResume s n).qps = s.qps ∧ (treeResume s n).pcie = s.pcie ∧ (treeResume s n).ink = s.ink := by
  generalize h : treeResume s n = t; unfold treeResume at h; dsimp only at h; (repeat' split at h) <;> (subst h; simp [*, emit_keeps _ _, setNib_keeps _ _ _])

theorem resumeOwn_keeps (s : State) : KeepsBoard (resumeOwn s) s ∧ (resumeOwn s).freeCtr = s.freeCtr ∧ (resumeOwn s).limits = s.limits ∧ (resumeOwn s).regs = s.regs ∧ (resumeOwn s).rcSpi = s.rcSpi ∧ (resumeOwn s).rcPf = s.rcPf ∧ (resumeOwn s).pal = s.pal ∧ (resumeOwn s).margin = s.margin ∧ (resumeOwn s).blot = s.blot ∧ (resumeOwn s).power = s.power ∧ (resumeOwn s).pd = s.pd ∧ (resumeOwn s).own = s.own ∧ (resumeOwn s).vis = s.vis ∧ (resumeOwn s).devices = s.devices ∧ (resumeOwn s).eps = s.eps ∧ (resumeOwn s).qps = s.qps ∧ (resumeOwn s).pcie = s.pcie ∧ (resumeOwn s).ink = s.ink ∧ (resumeOwn s).cvis = s.cvis ∧ (resumeOwn s).cviews = s.cviews ∧ (resumeOwn s).cports = s.cports ∧ (resumeOwn s).ligs = s.ligs ∧ (resumeOwn s).func = s.func := by
  simp [resumeOwn, treeResume_keeps _ _]

theorem wakeSource_keeps (s : State) : KeepsBoard (wakeSource s) s ∧ (wakeSource s).freeCtr = s.freeCtr ∧ (wakeSource s).regs = s.regs ∧ (wakeSource s).blot = s.blot ∧ (wakeSource s).power = s.power ∧ (wakeSource s).pd = s.pd ∧ (wakeSource s).own = s.own ∧ (wakeSource s).vis = s.vis ∧ (wakeSource s).devices = s.devices ∧ (wakeSource s).eps = s.eps ∧ (wakeSource s).qps = s.qps ∧ (wakeSource s).pcie = s.pcie ∧ (wakeSource s).ink = s.ink ∧ (wakeSource s).cviews = s.cviews ∧ (wakeSource s).cports = s.cports ∧ (wakeSource s).ligs = s.ligs ∧ (wakeSource s).func = s.func := by
  generalize h : wakeSource s = t; unfold wakeSource at h; (repeat' split at h) <;> (subst h; simp [*, enterMode_keeps _ _, resumeOwn_keeps _])

theorem faultReport_keeps (s : State) (place : Nat × Nat) (cls : Nat) (sv : Sev) (n : PortId) : KeepsBoard (faultReport s place cls sv n) s ∧ KeepsHosts (faultReport s place cls sv n) s ∧ (faultReport s place cls sv n).out = s.out ∧ (faultReport s place cls sv n).freeCtr = s.freeCtr ∧ (faultReport s place cls sv n).regs = s.regs ∧ (faultReport s place cls sv n).modes = s.modes ∧ (faultReport s place cls sv n).power = s.power ∧ (faultReport s place cls sv n).pd = s.pd ∧ (faultReport s place cls sv n).devices = s.devices ∧ (faultReport s place cls sv n).pcie = s.pcie ∧ (faultReport s place cls sv n).cvis = s.cvis ∧ (faultReport s place cls sv n).cviews = s.cviews ∧ (faultReport s place cls sv n).cports = s.cports ∧ (faultReport s place cls sv n).ligs = s.ligs ∧ (faultReport s place cls sv n).func = s.func := by
  generalize h : faultReport s place cls sv n = t; unfold faultReport at h; (repeat' split at h) <;> (subst h; simp [*, notice_keeps _ _ _ _ _ _ _, recordAt_keeps _ _ _ _ _ _ _ _])

theorem quarantineOff_keeps (s : State) (n : PortId) : KeepsBoard (quarantineOff s n) s ∧ (quarantineOff s n).freeCtr = s.freeCtr ∧ (quarantineOff s n).regs = s.regs ∧ (quarantineOff s n).modes = s.modes ∧ (quarantineOff s n).blot = s.blot ∧ (quarantineOff s n).cvis = s.cvis ∧ (quarantineOff s n).ligs = s.ligs ∧ (quarantineOff s n).func = s.func := by
  generalize h : quarantineOff s n = t; unfold quarantineOff at h; (repeat' split at h) <;> (subst h; simp [*, gateOff_keeps _ _ _ _, powerNotice_keeps _ _ _, powerOffPort_keeps _ _ _])

theorem quarantinePorts_keeps (s : State) (old : Nat) (defer : Bool) : KeepsBoard (quarantinePorts s old defer) s ∧ (quarantinePorts s old defer).freeCtr = s.freeCtr ∧ (quarantinePorts s old defer).regs = s.regs ∧ (quarantinePorts s old defer).modes = s.modes ∧ (quarantinePorts s old defer).blot = s.blot ∧ (quarantinePorts s old defer).cvis = s.cvis ∧ (quarantinePorts s old defer).ligs = s.ligs ∧ (quarantinePorts s old defer).func = s.func := by
  generalize h : quarantinePorts s old defer = t; unfold quarantinePorts at h; (repeat' split at h) <;> (subst h; simp [*, quarantineOff_keeps _ _, recomputeShares_keeps _, setPower_keeps _ _ _])

theorem enterQuarantine_keeps (s : State) (mask : Nat) (defer : Bool) : KeepsBoard (enterQuarantine s mask defer) s ∧ (enterQuarantine s mask defer).freeCtr = s.freeCtr ∧ (enterQuarantine s mask defer).regs = s.regs ∧ (enterQuarantine s mask defer).ligs = s.ligs ∧ (enterQuarantine s mask defer).func = s.func := by
  generalize h : enterQuarantine s mask defer = t; unfold enterQuarantine at h; dsimp only at h; (repeat' split at h) <;> (subst h; simp [*, enterMode_keeps _ _, quarantinePorts_keeps _ _ _])

theorem forfeitRings_keeps (s : State) : KeepsBoard (forfeitRings s) s ∧ (forfeitRings s).out = s.out ∧ (forfeitRings s).freeCtr = s.freeCtr ∧ (forfeitRings s).limits = s.limits ∧ (forfeitRings s).regs = s.regs ∧ (forfeitRings s).rcSpi = s.rcSpi ∧ (forfeitRings s).rcPf = s.rcPf ∧ (forfeitRings s).pal = s.pal ∧ (forfeitRings s).margin = s.margin ∧ (forfeitRings s).modes = s.modes ∧ (forfeitRings s).blot = s.blot ∧ (forfeitRings s).power = s.power ∧ (forfeitRings s).pd = s.pd ∧ (forfeitRings s).devices = s.devices ∧ (forfeitRings s).eps = s.eps ∧ (forfeitRings s).nibs = s.nibs ∧ (forfeitRings s).qps = s.qps ∧ (forfeitRings s).pcie = s.pcie ∧ (forfeitRings s).ink = s.ink ∧ (forfeitRings s).cviews = s.cviews ∧ (forfeitRings s).cports = s.cports ∧ (forfeitRings s).ligs = s.ligs ∧ (forfeitRings s).func = s.func := by
  simp [forfeitRings, forfeit_keeps _ _]

theorem ceaseAll_keeps (s : State) : KeepsBoard (ceaseAll s) s ∧ (ceaseAll s).out = s.out ∧ (ceaseAll s).freeCtr = s.freeCtr ∧ (ceaseAll s).limits = s.limits ∧ (ceaseAll s).regs = s.regs ∧ (ceaseAll s).rcSpi = s.rcSpi ∧ (ceaseAll s).rcPf = s.rcPf ∧ (ceaseAll s).pal = s.pal ∧ (ceaseAll s).margin = s.margin ∧ (ceaseAll s).modes = s.modes ∧ (ceaseAll s).blot = s.blot ∧ (ceaseAll s).power = s.power ∧ (ceaseAll s).pd = s.pd ∧ (ceaseAll s).devices = s.devices ∧ (ceaseAll s).eps = s.eps ∧ (ceaseAll s).nibs = s.nibs ∧ (ceaseAll s).qps = s.qps ∧ (ceaseAll s).pcie = s.pcie ∧ (ceaseAll s).ink = s.ink ∧ (ceaseAll s).cviews = s.cviews ∧ (ceaseAll s).cports = s.cports ∧ (ceaseAll s).ligs = s.ligs := by
  simp [ceaseAll, ceaseClassic_keeps _ _]

theorem clusterFail_keeps (s : State) (c : Fin 24) (cls : Nat) (place : Nat × Nat) : (clusterFail s c cls place).now = s.now ∧ (clusterFail s c cls place).pending = s.pending ∧ (clusterFail s c cls place).freeCtr = s.freeCtr ∧ (clusterFail s c cls place).folioOn = s.folioOn ∧ (clusterFail s c cls place).strokeBase = s.strokeBase ∧ (clusterFail s c cls place).resyncAt = s.resyncAt ∧ (clusterFail s c cls place).regs = s.regs ∧ (clusterFail s c cls place).pairs = s.pairs ∧ (clusterFail s c cls place).writes = s.writes ∧ (clusterFail s c cls place).staged = s.staged ∧ (clusterFail s c cls place).rubric = s.rubric ∧ (clusterFail s c cls place).trustBySpi = s.trustBySpi ∧ (clusterFail s c cls place).trustConfigured = s.trustConfigured ∧ (clusterFail s c cls place).link = s.link ∧ (clusterFail s c cls place).localEvents = s.localEvents ∧ (clusterFail s c cls place).localLost = s.localLost ∧ (clusterFail s c cls place).disc = s.disc ∧ (clusterFail s c cls place).regionTemp = s.regionTemp ∧ (clusterFail s c cls place).lanes = s.lanes ∧ (clusterFail s c cls place).img = s.img ∧ (clusterFail s c cls place).nor = s.nor ∧ (clusterFail s c cls place).sealUnit = s.sealUnit ∧ (clusterFail s c cls place).input = s.input ∧ (clusterFail s c cls place).vauxOk = s.vauxOk ∧ (clusterFail s c cls place).ptp = s.ptp ∧ (clusterFail s c cls place).eth = s.eth ∧ (clusterFail s c cls place).prp = s.prp ∧ (clusterFail s c cls place).timelines = s.timelines ∧ (clusterFail s c cls place).ligs = s.ligs ∧ (clusterFail s c cls place).pins = s.pins := by
  generalize h : clusterFail s c cls place = t; unfold clusterFail at h; (repeat' split at h) <;> (subst h; simp [*, ceaseAll_keeps _, enterQuarantine_keeps _ _ _, faultReport_keeps _ _ _ _ _, forfeitRings_keeps _])

theorem passCause_keeps (s : State) : KeepsBoard (passCause s) s ∧ KeepsHosts (passCause s) s ∧ (passCause s).out = s.out ∧ (passCause s).freeCtr = s.freeCtr ∧ (passCause s).limits = s.limits ∧ (passCause s).regs = s.regs ∧ (passCause s).rcSpi = s.rcSpi ∧ (passCause s).rcPf = s.rcPf ∧ (passCause s).pal = s.pal ∧ (passCause s).margin = s.margin ∧ (passCause s).modes = s.modes ∧ (passCause s).power = s.power ∧ (passCause s).pd = s.pd ∧ (passCause s).devices = s.devices ∧ (passCause s).pcie = s.pcie ∧ (passCause s).cvis = s.cvis ∧ (passCause s).cviews = s.cviews ∧ (passCause s).cports = s.cports ∧ (passCause s).ligs = s.ligs ∧ (passCause s).func = s.func := by
  simp [passCause]

theorem shedPort_keeps (s : State) (n : PortId) : KeepsBoard (shedPort s n) s ∧ (shedPort s n).freeCtr = s.freeCtr ∧ (shedPort s n).regs = s.regs ∧ (shedPort s n).modes = s.modes ∧ (shedPort s n).blot = s.blot ∧ (shedPort s n).cvis = s.cvis ∧ (shedPort s n).ligs = s.ligs ∧ (shedPort s n).func = s.func := by
  generalize h : shedPort s n = t; unfold shedPort at h; (repeat' split at h) <;> (subst h; simp [*, markShare_keeps _ _, noteShed_keeps _ _, shedOff_keeps _ _ _])

theorem brownoutSheds_keeps (s : State) : KeepsBoard (brownoutSheds s) s ∧ (brownoutSheds s).freeCtr = s.freeCtr ∧ (brownoutSheds s).regs = s.regs ∧ (brownoutSheds s).modes = s.modes ∧ (brownoutSheds s).blot = s.blot ∧ (brownoutSheds s).cvis = s.cvis ∧ (brownoutSheds s).ligs = s.ligs ∧ (brownoutSheds s).func = s.func := by
  simp [brownoutSheds, kickOwn_keeps _ _, recomputeShares_keeps _, setPd_keeps _ _ _, shedPort_keeps _ _]

theorem enterBrownout_keeps (s : State) : KeepsBoard (enterBrownout s) s ∧ KeepsHosts (enterBrownout s) s ∧ (enterBrownout s).out = s.out ∧ (enterBrownout s).freeCtr = s.freeCtr ∧ (enterBrownout s).regs = s.regs ∧ (enterBrownout s).blot = s.blot ∧ (enterBrownout s).power = s.power ∧ (enterBrownout s).pd = s.pd ∧ (enterBrownout s).devices = s.devices ∧ (enterBrownout s).pcie = s.pcie ∧ (enterBrownout s).cviews = s.cviews ∧ (enterBrownout s).cports = s.cports ∧ (enterBrownout s).ligs = s.ligs ∧ (enterBrownout s).func = s.func := by
  simp [enterBrownout, enterMode_keeps _ _, rcCount_keeps _ _ _]

theorem leaveBrownout_keeps (s : State) : KeepsBoard (leaveBrownout s) s ∧ (leaveBrownout s).freeCtr = s.freeCtr ∧ (leaveBrownout s).regs = s.regs ∧ (leaveBrownout s).blot = s.blot ∧ (leaveBrownout s).power = s.power ∧ (leaveBrownout s).pd = s.pd ∧ (leaveBrownout s).own = s.own ∧ (leaveBrownout s).vis = s.vis ∧ (leaveBrownout s).devices = s.devices ∧ (leaveBrownout s).eps = s.eps ∧ (leaveBrownout s).qps = s.qps ∧ (leaveBrownout s).pcie = s.pcie ∧ (leaveBrownout s).ink = s.ink ∧ (leaveBrownout s).cviews = s.cviews ∧ (leaveBrownout s).cports = s.cports ∧ (leaveBrownout s).ligs = s.ligs ∧ (leaveBrownout s).func = s.func := by
  simp [leaveBrownout, enterMode_keeps _ _, resumeOwn_keeps _]

theorem abandonImage_keeps (s : State) : KeepsPorts (abandonImage s) s ∧ KeepsHosts (abandonImage s) s ∧ (abandonImage s).now = s.now ∧ (abandonImage s).pending = s.pending ∧ (abandonImage s).out = s.out ∧ (abandonImage s).limits = s.limits ∧ (abandonImage s).folioOn = s.folioOn ∧ (abandonImage s).strokeBase = s.strokeBase ∧ (abandonImage s).resyncAt = s.resyncAt ∧ (abandonImage s).rcSpi = s.rcSpi ∧ (abandonImage s).rcPf = s.rcPf ∧ (abandonImage s).pairs = s.pairs ∧ (abandonImage s).writes = s.writes ∧ (abandonImage s).staged = s.staged ∧ (abandonImage s).rubric = s.rubric ∧ (abandonImage s).trustBySpi = s.trustBySpi ∧ (abandonImage s).trustConfigured = s.trustConfigured ∧ (abandonImage s).link = s.link ∧ (abandonImage s).localEvents = s.localEvents ∧ (abandonImage s).localLost = s.localLost ∧ (abandonImage s).pal = s.pal ∧ (abandonImage s).margin = s.margin ∧ (abandonImage s).disc = s.disc ∧ (abandonImage s).clusters = s.clusters ∧ (abandonImage s).engines = s.engines ∧ (abandonImage s).regionTemp = s.regionTemp ∧ (abandonImage s).lanes = s.lanes ∧ (abandonImage s).nor = s.nor ∧ (abandonImage s).sealUnit = s.sealUnit ∧ (abandonImage s).input = s.input ∧ (abandonImage s).vauxOk = s.vauxOk ∧ (abandonImage s).ptp = s.ptp ∧ (abandonImage s).eth = s.eth ∧ (abandonImage s).prp = s.prp ∧ (abandonImage s).pcie = s.pcie ∧ (abandonImage s).timelines = s.timelines ∧ (abandonImage s).pins = s.pins := by
  generalize h : abandonImage s = t; unfold abandonImage at h; (repeat' split at h) <;> (subst h; simp [*])

theorem startFlush_keeps (s : State) : KeepsBoard (startFlush s) s ∧ KeepsPorts (startFlush s) s ∧ KeepsHosts (startFlush s) s ∧ (startFlush s).out = s.out ∧ (startFlush s).limits = s.limits ∧ (startFlush s).margin = s.margin ∧ (startFlush s).pcie = s.pcie := by
  generalize h : startFlush s = t; unfold startFlush at h; (repeat' split at h) <;> (subst h; simp [*, preFlush_keeps _])

theorem enterHoldup_keeps (s : State) : (enterHoldup s).now = s.now ∧ (enterHoldup s).pending = s.pending ∧ (enterHoldup s).freeCtr = s.freeCtr ∧ (enterHoldup s).folioOn = s.folioOn ∧ (enterHoldup s).strokeBase = s.strokeBase ∧ (enterHoldup s).resyncAt = s.resyncAt ∧ (enterHoldup s).regs = s.regs ∧ (enterHoldup s).pairs = s.pairs ∧ (enterHoldup s).writes = s.writes ∧ (enterHoldup s).staged = s.staged ∧ (enterHoldup s).rubric = s.rubric ∧ (enterHoldup s).trustBySpi = s.trustBySpi ∧ (enterHoldup s).trustConfigured = s.trustConfigured ∧ (enterHoldup s).link = s.link ∧ (enterHoldup s).localEvents = s.localEvents ∧ (enterHoldup s).localLost = s.localLost ∧ (enterHoldup s).disc = s.disc ∧ (enterHoldup s).clusters = s.clusters ∧ (enterHoldup s).engines = s.engines ∧ (enterHoldup s).regionTemp = s.regionTemp ∧ (enterHoldup s).lanes = s.lanes ∧ (enterHoldup s).nor = s.nor ∧ (enterHoldup s).blot = s.blot ∧ (enterHoldup s).sealUnit = s.sealUnit ∧ (enterHoldup s).input = s.input ∧ (enterHoldup s).vauxOk = s.vauxOk ∧ (enterHoldup s).ptp = s.ptp ∧ (enterHoldup s).eth = s.eth ∧ (enterHoldup s).prp = s.prp ∧ (enterHoldup s).timelines = s.timelines ∧ (enterHoldup s).ligs = s.ligs ∧ (enterHoldup s).pins = s.pins := by
  generalize h : enterHoldup s = t; unfold enterHoldup at h; (repeat' split at h) <;> (subst h; simp [*, abandonImage_keeps _, applyPortModes_keeps _ _ _, enterMode_keeps _ _, rcCount_keeps _ _ _, startFlush_keeps _])

end Sys2Proof.Machine
end

