-- ==== Sys2Proof/Laws/FrameNibs.lean ====
section
/-! SUPPORT. What the operations of Machine/Nibs.lean leave as it was: one lemma for each, over every input, and over every outcome of it.
A proof names the ones it needs, each applied: simp [op_keeps _ _] rewrites every field that op leaves. -/

namespace Sys2Proof.Machine

theorem viewConnect_keeps (s : State) (n : PortId) (ss : Bool) : KeepsBoard (viewConnect s n ss) s ∧ KeepsHosts (viewConnect s n ss) s ∧ (viewConnect s n ss).out = s.out ∧ (viewConnect s n ss).freeCtr = s.freeCtr ∧ (viewConnect s n ss).limits = s.limits ∧ (viewConnect s n ss).regs = s.regs ∧ (viewConnect s n ss).rcSpi = s.rcSpi ∧ (viewConnect s n ss).rcPf = s.rcPf ∧ (viewConnect s n ss).pal = s.pal ∧ (viewConnect s n ss).margin = s.margin ∧ (viewConnect s n ss).modes = s.modes ∧ (viewConnect s n ss).blot = s.blot ∧ (viewConnect s n ss).power = s.power ∧ (viewConnect s n ss).pd = s.pd ∧ (viewConnect s n ss).devices = s.devices ∧ (viewConnect s n ss).pcie = s.pcie ∧ (viewConnect s n ss).cvis = s.cvis ∧ (viewConnect s n ss).cports = s.cports ∧ (viewConnect s n ss).ligs = s.ligs ∧ (viewConnect s n ss).func = s.func := by
  generalize h : viewConnect s n ss = t; unfold viewConnect at h; (repeat' split at h) <;> (subst h; simp [*, setView_keeps _ _ _ _])

theorem attachFunc_keeps (s : State) (n : PortId) : KeepsBoard (attachFunc s n) s ∧ KeepsHosts (attachFunc s n) s ∧ (attachFunc s n).out = s.out ∧ (attachFunc s n).freeCtr = s.freeCtr ∧ (attachFunc s n).limits = s.limits ∧ (attachFunc s n).regs = s.regs ∧ (attachFunc s n).rcSpi = s.rcSpi ∧ (attachFunc s n).rcPf = s.rcPf ∧ (attachFunc s n).pal = s.pal ∧ (attachFunc s n).margin = s.margin ∧ (attachFunc s n).modes = s.modes ∧ (attachFunc s n).blot = s.blot ∧ (attachFunc s n).power = s.power ∧ (attachFunc s n).pd = s.pd ∧ (attachFunc s n).devices = s.devices ∧ (attachFunc s n).pcie = s.pcie ∧ (attachFunc s n).cvis = s.cvis ∧ (attachFunc s n).cviews = s.cviews ∧ (attachFunc s n).cports = s.cports ∧ (attachFunc s n).ligs = s.ligs := by
  generalize h : attachFunc s n = t; unfold attachFunc at h; (repeat' split at h) <;> (subst h; simp [*])

theorem viewConnectBoth_keeps (s : State) (n : PortId) : KeepsBoard (viewConnectBoth s n) s ∧ KeepsHosts (viewConnectBoth s n) s ∧ (viewConnectBoth s n).out = s.out ∧ (viewConnectBoth s n).freeCtr = s.freeCtr ∧ (viewConnectBoth s n).limits = s.limits ∧ (viewConnectBoth s n).regs = s.regs ∧ (viewConnectBoth s n).rcSpi = s.rcSpi ∧ (viewConnectBoth s n).rcPf = s.rcPf ∧ (viewConnectBoth s n).pal = s.pal ∧ (viewConnectBoth s n).margin = s.margin ∧ (viewConnectBoth s n).modes = s.modes ∧ (viewConnectBoth s n).blot = s.blot ∧ (viewConnectBoth s n).power = s.power ∧ (viewConnectBoth s n).pd = s.pd ∧ (viewConnectBoth s n).devices = s.devices ∧ (viewConnectBoth s n).pcie = s.pcie ∧ (viewConnectBoth s n).cvis = s.cvis ∧ (viewConnectBoth s n).cports = s.cports ∧ (viewConnectBoth s n).ligs = s.ligs := by
  simp [viewConnectBoth, attachFunc_keeps _ _, viewConnect_keeps _ _ _]

theorem reset2_keeps (s : State) (n : PortId) : KeepsBoard (reset2 s n) s ∧ KeepsPorts (reset2 s n) s ∧ (reset2 s n).limits = s.limits ∧ (reset2 s n).rcSpi = s.rcSpi ∧ (reset2 s n).rcPf = s.rcPf ∧ (reset2 s n).pal = s.pal ∧ (reset2 s n).margin = s.margin ∧ (reset2 s n).own = s.own ∧ (reset2 s n).vis = s.vis ∧ (reset2 s n).eps = s.eps ∧ (reset2 s n).qps = s.qps ∧ (reset2 s n).pcie = s.pcie ∧ (reset2 s n).ink = s.ink := by
  simp [reset2, emit_keeps _ _, setNib_keeps _ _ _]

theorem resetS_keeps (s : State) (n : PortId) (warm : Bool) : KeepsBoard (resetS s n warm) s ∧ KeepsPorts (resetS s n warm) s ∧ (resetS s n warm).limits = s.limits ∧ (resetS s n warm).rcSpi = s.rcSpi ∧ (resetS s n warm).rcPf = s.rcPf ∧ (resetS s n warm).pal = s.pal ∧ (resetS s n warm).margin = s.margin ∧ (resetS s n warm).own = s.own ∧ (resetS s n warm).vis = s.vis ∧ (resetS s n warm).eps = s.eps ∧ (resetS s n warm).qps = s.qps ∧ (resetS s n warm).pcie = s.pcie ∧ (resetS s n warm).ink = s.ink := by
  generalize h : resetS s n warm = t; unfold resetS at h; (repeat' split at h) <;> (subst h; simp [*, emit_keeps _ _, setNib_keeps _ _ _])

theorem resetBoth_keeps (s : State) (n : PortId) (warm : Bool) : KeepsBoard (resetBoth s n warm) s ∧ KeepsPorts (resetBoth s n warm) s ∧ (resetBoth s n warm).limits = s.limits ∧ (resetBoth s n warm).rcSpi = s.rcSpi ∧ (resetBoth s n warm).rcPf = s.rcPf ∧ (resetBoth s n warm).pal = s.pal ∧ (resetBoth s n warm).margin = s.margin ∧ (resetBoth s n warm).own = s.own ∧ (resetBoth s n warm).vis = s.vis ∧ (resetBoth s n warm).eps = s.eps ∧ (resetBoth s n warm).qps = s.qps ∧ (resetBoth s n warm).pcie = s.pcie ∧ (resetBoth s n warm).ink = s.ink := by
  simp [resetBoth, reset2_keeps _ _, resetS_keeps _ _ _, setNib_keeps _ _ _]

theorem finishReset_keeps (s : State) (n : PortId) (force : Bool) : KeepsBoard (finishReset s n force) s ∧ KeepsPorts (finishReset s n force) s ∧ (finishReset s n force).own = s.own ∧ (finishReset s n force).eps = s.eps := by
  generalize h : finishReset s n force = t; unfold finishReset at h; dsimp only at h; (repeat' split at h) <;> (subst h; simp [*, finishCmd_keeps _ _ _ _ _ _, portStateNotice_keeps _ _ _ _ _, setNib_keeps _ _ _])

theorem previewSend_keeps (s : State) (n : PortId) : KeepsBoard (previewSend s n) s ∧ KeepsPorts (previewSend s n) s ∧ KeepsHosts (previewSend s n) s ∧ (previewSend s n).limits = s.limits ∧ (previewSend s n).rcSpi = s.rcSpi ∧ (previewSend s n).rcPf = s.rcPf ∧ (previewSend s n).pal = s.pal ∧ (previewSend s n).margin = s.margin ∧ (previewSend s n).pcie = s.pcie := by
  generalize h : previewSend s n = t; unfold previewSend at h; (repeat' split at h) <;> (subst h; simp [*, emit_keeps _ _])

theorem startPreview_keeps (s : State) (n : PortId) (ss : Bool) : KeepsBoard (startPreview s n ss) s ∧ KeepsPorts (startPreview s n ss) s ∧ (startPreview s n ss).limits = s.limits ∧ (startPreview s n ss).rcSpi = s.rcSpi ∧ (startPreview s n ss).rcPf = s.rcPf ∧ (startPreview s n ss).pal = s.pal ∧ (startPreview s n ss).margin = s.margin ∧ (startPreview s n ss).own = s.own ∧ (startPreview s n ss).vis = s.vis ∧ (startPreview s n ss).eps = s.eps ∧ (startPreview s n ss).qps = s.qps ∧ (startPreview s n ss).pcie = s.pcie ∧ (startPreview s n ss).ink = s.ink := by
  generalize h : startPreview s n ss = t; unfold startPreview at h; (repeat' split at h) <;> (subst h; simp [*, previewSend_keeps _ _, setNib_keeps _ _ _])

theorem endPreview_keeps (s : State) (n : PortId) (result : Nat) : KeepsBoard (endPreview s n result) s ∧ KeepsPorts (endPreview s n result) s ∧ (endPreview s n result).own = s.own ∧ (endPreview s n result).eps = s.eps ∧ (endPreview s n result).pcie = s.pcie ∧ (endPreview s n result).ink = s.ink := by
  generalize h : endPreview s n result = t; unfold endPreview at h; dsimp only at h; (repeat' split at h) <;> (subst h; simp [*, attachNotice_keeps _ _ _ _ _, hostWrite_keeps _ _ _ _, setNib_keeps _ _ _])

theorem attachRoot_keeps (s : State) (n : PortId) (ss : Bool) : KeepsBoard (attachRoot s n ss) s ∧ KeepsPorts (attachRoot s n ss) s ∧ (attachRoot s n ss).own = s.own ∧ (attachRoot s n ss).vis = s.vis ∧ (attachRoot s n ss).eps = s.eps ∧ (attachRoot s n ss).qps = s.qps ∧ (attachRoot s n ss).pcie = s.pcie ∧ (attachRoot s n ss).ink = s.ink := by
  generalize h : attachRoot s n ss = t; unfold attachRoot at h; (repeat' split at h) <;> (subst h; simp [*, attachNotice_keeps _ _ _ _ _, startPreview_keeps _ _ _])

theorem foundAttached_keeps (s : State) (n : PortId) : KeepsBoard (foundAttached s n) s ∧ KeepsPorts (foundAttached s n) s ∧ (foundAttached s n).limits = s.limits ∧ (foundAttached s n).rcSpi = s.rcSpi ∧ (foundAttached s n).rcPf = s.rcPf ∧ (foundAttached s n).pal = s.pal ∧ (foundAttached s n).margin = s.margin ∧ (foundAttached s n).own = s.own ∧ (foundAttached s n).vis = s.vis ∧ (foundAttached s n).eps = s.eps ∧ (foundAttached s n).qps = s.qps ∧ (foundAttached s n).pcie = s.pcie ∧ (foundAttached s n).ink = s.ink := by
  generalize h : foundAttached s n = t; unfold foundAttached at h; dsimp only at h; (repeat' split at h) <;> (subst h; simp [*, reset2_keeps _ _, resetS_keeps _ _ _])

theorem takeover_keeps (s : State) (n : PortId) (v : RingId) (treeReset : Bool) : KeepsBoard (takeover s n v treeReset) s ∧ KeepsPorts (takeover s n v treeReset) s ∧ (takeover s n v treeReset).own = s.own ∧ (takeover s n v treeReset).eps = s.eps ∧ (takeover s n v treeReset).nibs = s.nibs ∧ (takeover s n v treeReset).pcie = s.pcie ∧ (takeover s n v treeReset).ink = s.ink := by
  generalize h : takeover s n v treeReset = t; unfold takeover at h; dsimp only at h; (repeat' split at h) <;> (subst h; simp [*, hostWrite_keeps _ _ _ _, notice_keeps _ _ _ _ _ _ _])

end Sys2Proof.Machine
end

