-- ==== Sys2Proof/Laws/FrameOwnershipCmds.lean ====
section
/-! SUPPORT. What the operations of Machine/OwnershipCmds.lean leave as it was: one lemma for each, over every input, and over every outcome of it.
A proof names the ones it needs, each applied: simp [op_keeps _ _] rewrites every field that op leaves. -/

namespace Sys2Proof.Machine

theorem ownAssign_keeps (s : State) (p : Path) (n : PortId) (value : Word) : KeepsBoard (ownAssign s p n value) s ∧ KeepsPorts (ownAssign s p n value) s ∧ (ownAssign s p n value).out = s.out ∧ (ownAssign s p n value).limits = s.limits ∧ (ownAssign s p n value).margin = s.margin ∧ (ownAssign s p n value).vis = s.vis ∧ (ownAssign s p n value).eps = s.eps ∧ (ownAssign s p n value).nibs = s.nibs ∧ (ownAssign s p n value).qps = s.qps ∧ (ownAssign s p n value).pcie = s.pcie ∧ (ownAssign s p n value).ink = s.ink := by
  generalize h : ownAssign s p n value = t; unfold ownAssign at h; (repeat' split at h) <;> (subst h; simp [*, stampP4_keeps _ _ _, writeIgnored_keeps _ _ _ _])

theorem refuseClaim_keeps (s : State) (n : PortId) (who : Owner) (reason : Nat) : KeepsBoard (refuseClaim s n who reason) s ∧ KeepsPorts (refuseClaim s n who reason) s ∧ KeepsHosts (refuseClaim s n who reason) s ∧ (refuseClaim s n who reason).out = s.out ∧ (refuseClaim s n who reason).limits = s.limits ∧ (refuseClaim s n who reason).pal = s.pal ∧ (refuseClaim s n who reason).margin = s.margin ∧ (refuseClaim s n who reason).pcie = s.pcie := by
  simp [refuseClaim, rcAdd_keeps _ _ _]

theorem startLease_keeps (s : State) (n : PortId) : KeepsBoard (startLease s n) s ∧ KeepsPorts (startLease s n) s ∧ (startLease s n).out = s.out ∧ (startLease s n).limits = s.limits ∧ (startLease s n).rcSpi = s.rcSpi ∧ (startLease s n).rcPf = s.rcPf ∧ (startLease s n).pal = s.pal ∧ (startLease s n).margin = s.margin ∧ (startLease s n).vis = s.vis ∧ (startLease s n).eps = s.eps ∧ (startLease s n).nibs = s.nibs ∧ (startLease s n).qps = s.qps ∧ (startLease s n).pcie = s.pcie ∧ (startLease s n).ink = s.ink := by
  generalize h : startLease s n = t; unfold startLease at h; (repeat' split at h) <;> (subst h; simp [*, setOwn_keeps _ _ _])

theorem viewLost_keeps (s : State) (n : PortId) : KeepsBoard (viewLost s n) s ∧ KeepsHosts (viewLost s n) s ∧ (viewLost s n).out = s.out ∧ (viewLost s n).freeCtr = s.freeCtr ∧ (viewLost s n).limits = s.limits ∧ (viewLost s n).regs = s.regs ∧ (viewLost s n).rcSpi = s.rcSpi ∧ (viewLost s n).rcPf = s.rcPf ∧ (viewLost s n).pal = s.pal ∧ (viewLost s n).margin = s.margin ∧ (viewLost s n).modes = s.modes ∧ (viewLost s n).blot = s.blot ∧ (viewLost s n).power = s.power ∧ (viewLost s n).pd = s.pd ∧ (viewLost s n).devices = s.devices ∧ (viewLost s n).pcie = s.pcie ∧ (viewLost s n).cvis = s.cvis ∧ (viewLost s n).ligs = s.ligs ∧ (viewLost s n).func = s.func := by
  generalize h : viewLost s n = t; unfold viewLost at h; (repeat' split at h) <;> (subst h; simp [*, setCPort_keeps _ _ _, setView_keeps _ _ _ _])

theorem settleOld_keeps (s : State) (n : PortId) : KeepsBoard (settleOld s n) s ∧ (settleOld s n).freeCtr = s.freeCtr ∧ (settleOld s n).regs = s.regs ∧ (settleOld s n).modes = s.modes ∧ (settleOld s n).blot = s.blot ∧ (settleOld s n).power = s.power ∧ (settleOld s n).pd = s.pd ∧ (settleOld s n).devices = s.devices ∧ (settleOld s n).cvis = s.cvis ∧ (settleOld s n).cviews = s.cviews ∧ (settleOld s n).cports = s.cports ∧ (settleOld s n).func = s.func := by
  generalize h : settleOld s n = t; unfold settleOld at h; dsimp only at h; (repeat' split at h) <;> (subst h; simp [*, endOldWork_keeps _ _ _, ownerLostNotice_keeps _ _ _ _, setOwn_keeps _ _ _])

theorem beginResetting_keeps (s : State) (n : PortId) : KeepsBoard (beginResetting s n) s ∧ (beginResetting s n).freeCtr = s.freeCtr ∧ (beginResetting s n).regs = s.regs ∧ (beginResetting s n).modes = s.modes ∧ (beginResetting s n).blot = s.blot ∧ (beginResetting s n).power = s.power ∧ (beginResetting s n).pd = s.pd ∧ (beginResetting s n).cvis = s.cvis ∧ (beginResetting s n).cviews = s.cviews ∧ (beginResetting s n).cports = s.cports := by
  generalize h : beginResetting s n = t; unfold beginResetting at h; dsimp only at h; (repeat' split at h) <;> (subst h; simp [*, abortCmds_keeps _ _, emptyLig_keeps _ _, releaseTree_keeps _ _ _ _, resetBoth_keeps _ _ _, setNib_keeps _ _ _, settleOld_keeps _ _])

theorem transition_keeps (s : State) (n : PortId) (v : Verdict) : (transition s n v).now = s.now ∧ (transition s n v).pending = s.pending ∧ (transition s n v).freeCtr = s.freeCtr ∧ (transition s n v).folioOn = s.folioOn ∧ (transition s n v).strokeBase = s.strokeBase ∧ (transition s n v).resyncAt = s.resyncAt ∧ (transition s n v).pairs = s.pairs ∧ (transition s n v).writes = s.writes ∧ (transition s n v).staged = s.staged ∧ (transition s n v).trustBySpi = s.trustBySpi ∧ (transition s n v).trustConfigured = s.trustConfigured ∧ (transition s n v).link = s.link ∧ (transition s n v).localEvents = s.localEvents ∧ (transition s n v).localLost = s.localLost ∧ (transition s n v).disc = s.disc ∧ (transition s n v).clusters = s.clusters ∧ (transition s n v).engines = s.engines ∧ (transition s n v).regionTemp = s.regionTemp ∧ (transition s n v).lanes = s.lanes ∧ (transition s n v).modes = s.modes ∧ (transition s n v).img = s.img ∧ (transition s n v).nor = s.nor ∧ (transition s n v).blot = s.blot ∧ (transition s n v).sealUnit = s.sealUnit ∧ (transition s n v).input = s.input ∧ (transition s n v).vauxOk = s.vauxOk ∧ (transition s n v).ptp = s.ptp ∧ (transition s n v).eth = s.eth ∧ (transition s n v).prp = s.prp ∧ (transition s n v).timelines = s.timelines ∧ (transition s n v).cvis = s.cvis ∧ (transition s n v).pins = s.pins := by
  generalize h : transition s n v = t; unfold transition at h; (repeat' split at h) <;> (subst h; simp [*, beginResetting_keeps _ _, changeOwner_keeps _ _ _ _ _, dropOwnerCmds_keeps _ _, enablePort_keeps _ _, recomputeShares_keeps _, setApplied_keeps _ _ _, viewLost_keeps _ _])

theorem answerClaims_keeps (s : State) (n : PortId) (holder : Owner) (refused : Refusals) : KeepsBoard (answerClaims s n holder refused) s ∧ KeepsPorts (answerClaims s n holder refused) s ∧ (answerClaims s n holder refused).own = s.own ∧ (answerClaims s n holder refused).eps = s.eps ∧ (answerClaims s n holder refused).nibs = s.nibs := by
  simp [answerClaims, completeCmd_keeps _ _ _ _ _ _ _]

theorem decidePort_keeps (s : State) (n : PortId) : (decidePort s n).now = s.now ∧ (decidePort s n).pending = s.pending ∧ (decidePort s n).freeCtr = s.freeCtr ∧ (decidePort s n).folioOn = s.folioOn ∧ (decidePort s n).strokeBase = s.strokeBase ∧ (decidePort s n).resyncAt = s.resyncAt ∧ (decidePort s n).pairs = s.pairs ∧ (decidePort s n).writes = s.writes ∧ (decidePort s n).staged = s.staged ∧ (decidePort s n).trustBySpi = s.trustBySpi ∧ (decidePort s n).trustConfigured = s.trustConfigured ∧ (decidePort s n).link = s.link ∧ (decidePort s n).localEvents = s.localEvents ∧ (decidePort s n).localLost = s.localLost ∧ (decidePort s n).disc = s.disc ∧ (decidePort s n).clusters = s.clusters ∧ (decidePort s n).engines = s.engines ∧ (decidePort s n).regionTemp = s.regionTemp ∧ (decidePort s n).lanes = s.lanes ∧ (decidePort s n).modes = s.modes ∧ (decidePort s n).img = s.img ∧ (decidePort s n).nor = s.nor ∧ (decidePort s n).blot = s.blot ∧ (decidePort s n).sealUnit = s.sealUnit ∧ (decidePort s n).input = s.input ∧ (decidePort s n).vauxOk = s.vauxOk ∧ (decidePort s n).ptp = s.ptp ∧ (decidePort s n).eth = s.eth ∧ (decidePort s n).prp = s.prp ∧ (decidePort s n).timelines = s.timelines ∧ (decidePort s n).cvis = s.cvis ∧ (decidePort s n).pins = s.pins := by
  generalize h : decidePort s n = t; unfold decidePort at h; dsimp only at h; (repeat' split at h) <;> (subst h; simp [*, answerClaims_keeps _ _ _ _, refuseClaim_keeps _ _ _ _, setOwn_keeps _ _ _, startLease_keeps _ _, transition_keeps _ _ _])

theorem decideNow_keeps (s : State) : (decideNow s).now = s.now ∧ (decideNow s).pending = s.pending ∧ (decideNow s).freeCtr = s.freeCtr ∧ (decideNow s).folioOn = s.folioOn ∧ (decideNow s).strokeBase = s.strokeBase ∧ (decideNow s).resyncAt = s.resyncAt ∧ (decideNow s).pairs = s.pairs ∧ (decideNow s).writes = s.writes ∧ (decideNow s).staged = s.staged ∧ (decideNow s).trustBySpi = s.trustBySpi ∧ (decideNow s).trustConfigured = s.trustConfigured ∧ (decideNow s).link = s.link ∧ (decideNow s).localEvents = s.localEvents ∧ (decideNow s).localLost = s.localLost ∧ (decideNow s).disc = s.disc ∧ (decideNow s).clusters = s.clusters ∧ (decideNow s).engines = s.engines ∧ (decideNow s).regionTemp = s.regionTemp ∧ (decideNow s).lanes = s.lanes ∧ (decideNow s).modes = s.modes ∧ (decideNow s).img = s.img ∧ (decideNow s).nor = s.nor ∧ (decideNow s).blot = s.blot ∧ (decideNow s).sealUnit = s.sealUnit ∧ (decideNow s).input = s.input ∧ (decideNow s).vauxOk = s.vauxOk ∧ (decideNow s).ptp = s.ptp ∧ (decideNow s).eth = s.eth ∧ (decideNow s).prp = s.prp ∧ (decideNow s).timelines = s.timelines ∧ (decideNow s).cvis = s.cvis ∧ (decideNow s).pins = s.pins := by
  generalize h : decideNow s = t; unfold decideNow at h; (repeat' split at h) <;> (subst h; simp [*, decidePort_keeps _ _])

theorem followTimeline_keeps (s : State) (n : PortId) : KeepsBoard (followTimeline s n) s ∧ KeepsPorts (followTimeline s n) s ∧ (followTimeline s n).out = s.out ∧ (followTimeline s n).limits = s.limits ∧ (followTimeline s n).rcSpi = s.rcSpi ∧ (followTimeline s n).rcPf = s.rcPf ∧ (followTimeline s n).pal = s.pal ∧ (followTimeline s n).margin = s.margin ∧ (followTimeline s n).own = s.own ∧ (followTimeline s n).vis = s.vis ∧ (followTimeline s n).eps = s.eps ∧ (followTimeline s n).qps = s.qps ∧ (followTimeline s n).pcie = s.pcie ∧ (followTimeline s n).ink = s.ink := by
  generalize h : followTimeline s n = t; unfold followTimeline at h; (repeat' split at h) <;> (subst h; simp [*, setNib_keeps _ _ _])

theorem clearDiscards_keeps (s : State) (n : PortId) : KeepsBoard (clearDiscards s n) s ∧ KeepsPorts (clearDiscards s n) s ∧ (clearDiscards s n).out = s.out ∧ (clearDiscards s n).limits = s.limits ∧ (clearDiscards s n).rcSpi = s.rcSpi ∧ (clearDiscards s n).rcPf = s.rcPf ∧ (clearDiscards s n).pal = s.pal ∧ (clearDiscards s n).margin = s.margin ∧ (clearDiscards s n).vis = s.vis ∧ (clearDiscards s n).nibs = s.nibs ∧ (clearDiscards s n).qps = s.qps ∧ (clearDiscards s n).pcie = s.pcie ∧ (clearDiscards s n).ink = s.ink := by
  simp [clearDiscards, setOwn_keeps _ _ _]

theorem becomeOwned_keeps (s : State) (n : PortId) : KeepsBoard (becomeOwned s n) s ∧ KeepsPorts (becomeOwned s n) s ∧ (becomeOwned s n).out = s.out ∧ (becomeOwned s n).limits = s.limits ∧ (becomeOwned s n).rcSpi = s.rcSpi ∧ (becomeOwned s n).rcPf = s.rcPf ∧ (becomeOwned s n).pal = s.pal ∧ (becomeOwned s n).margin = s.margin ∧ (becomeOwned s n).vis = s.vis ∧ (becomeOwned s n).eps = s.eps ∧ (becomeOwned s n).nibs = s.nibs ∧ (becomeOwned s n).qps = s.qps ∧ (becomeOwned s n).pcie = s.pcie ∧ (becomeOwned s n).ink = s.ink := by
  simp [becomeOwned, setOwn_keeps _ _ _]

theorem completeHandover_keeps (s : State) (n : PortId) : KeepsBoard (completeHandover s n) s ∧ (completeHandover s n).freeCtr = s.freeCtr ∧ (completeHandover s n).regs = s.regs ∧ (completeHandover s n).modes = s.modes ∧ (completeHandover s n).blot = s.blot ∧ (completeHandover s n).power = s.power ∧ (completeHandover s n).pd = s.pd ∧ (completeHandover s n).devices = s.devices ∧ (completeHandover s n).cvis = s.cvis ∧ (completeHandover s n).cviews = s.cviews ∧ (completeHandover s n).cports = s.cports ∧ (completeHandover s n).func = s.func := by
  generalize h : completeHandover s n = t; unfold completeHandover at h; (repeat' split at h) <;> (subst h; simp [*, becomeOwned_keeps _ _, clearDiscards_keeps _ _, followTimeline_keeps _ _, foundAttached_keeps _ _, settleOld_keeps _ _, takeover_keeps _ _ _ _])

theorem keepOrphan_keeps (s : State) (n : PortId) : KeepsBoard (keepOrphan s n) s ∧ KeepsPorts (keepOrphan s n) s ∧ (keepOrphan s n).vis = s.vis ∧ (keepOrphan s n).qps = s.qps ∧ (keepOrphan s n).pcie = s.pcie := by
  generalize h : keepOrphan s n = t; unfold keepOrphan at h; dsimp only at h; (repeat' split at h) <;> (subst h; simp [*, dropStash_keeps _ _ _, followTimeline_keeps _ _, treeSuspend_keeps _ _])

theorem dropOrphan_keeps (s : State) (n : PortId) : KeepsBoard (dropOrphan s n) s ∧ (dropOrphan s n).freeCtr = s.freeCtr ∧ (dropOrphan s n).regs = s.regs ∧ (dropOrphan s n).modes = s.modes ∧ (dropOrphan s n).blot = s.blot ∧ (dropOrphan s n).ligs = s.ligs := by
  simp [dropOrphan, disablePort_keeps _ _ _ _, followTimeline_keeps _ _, recomputeShares_keeps _, releaseTree_keeps _ _ _ _, setNib_keeps _ _ _]

theorem reportAttached_keeps (s : State) (n : PortId) (v : RingId) (ssFirst : Bool) : KeepsBoard (reportAttached s n v ssFirst) s ∧ KeepsPorts (reportAttached s n v ssFirst) s ∧ (reportAttached s n v ssFirst).own = s.own ∧ (reportAttached s n v ssFirst).vis = s.vis ∧ (reportAttached s n v ssFirst).eps = s.eps ∧ (reportAttached s n v ssFirst).qps = s.qps ∧ (reportAttached s n v ssFirst).pcie = s.pcie ∧ (reportAttached s n v ssFirst).ink = s.ink := by
  generalize h : reportAttached s n v ssFirst = t; unfold reportAttached at h; dsimp only at h; (repeat' split at h) <;> (subst h; simp [*, attachNotice_keeps _ _ _ _ _, startPreview_keeps _ _ _])

theorem completeResetting_keeps (s : State) (n : PortId) (ssFirst : Bool) : KeepsBoard (completeResetting s n ssFirst) s ∧ (completeResetting s n ssFirst).freeCtr = s.freeCtr ∧ (completeResetting s n ssFirst).regs = s.regs ∧ (completeResetting s n ssFirst).modes = s.modes ∧ (completeResetting s n ssFirst).blot = s.blot := by
  generalize h : completeResetting s n ssFirst = t; unfold completeResetting at h; dsimp only at h; (repeat' split at h) <;> (subst h; simp [*, becomeOwned_keeps _ _, clearDiscards_keeps _ _, dropOrphan_keeps _ _, followTimeline_keeps _ _, keepOrphan_keeps _ _, reportAttached_keeps _ _ _ _, setNib_keeps _ _ _, setOwn_keeps _ _ _, settleOld_keeps _ _, takeover_keeps _ _ _ _, viewConnectBoth_keeps _ _])

end Sys2Proof.Machine
end

