-- ==== Sys2Proof/Laws/FrameTimelines.lean ====
section
/-! SUPPORT. What the operations of Machine/Timelines.lean leave as it was: one lemma for each, over every input, and over every outcome of it.
A proof names the ones it needs, each applied: simp [op_keeps _ _] rewrites every field that op leaves. -/

namespace Sys2Proof.Machine

theorem setTl_keeps (s : State) (v : RingId) (f : Timeline → Timeline) : KeepsPorts (setTl s v f) s ∧ KeepsHosts (setTl s v f) s ∧ (setTl s v f).now = s.now ∧ (setTl s v f).pending = s.pending ∧ (setTl s v f).out = s.out ∧ (setTl s v f).limits = s.limits ∧ (setTl s v f).folioOn = s.folioOn ∧ (setTl s v f).strokeBase = s.strokeBase ∧ (setTl s v f).resyncAt = s.resyncAt ∧ (setTl s v f).rcSpi = s.rcSpi ∧ (setTl s v f).rcPf = s.rcPf ∧ (setTl s v f).pairs = s.pairs ∧ (setTl s v f).writes = s.writes ∧ (setTl s v f).staged = s.staged ∧ (setTl s v f).rubric = s.rubric ∧ (setTl s v f).trustBySpi = s.trustBySpi ∧ (setTl s v f).trustConfigured = s.trustConfigured ∧ (setTl s v f).link = s.link ∧ (setTl s v f).localEvents = s.localEvents ∧ (setTl s v f).localLost = s.localLost ∧ (setTl s v f).pal = s.pal ∧ (setTl s v f).margin = s.margin ∧ (setTl s v f).disc = s.disc ∧ (setTl s v f).clusters = s.clusters ∧ (setTl s v f).engines = s.engines ∧ (setTl s v f).regionTemp = s.regionTemp ∧ (setTl s v f).lanes = s.lanes ∧ (setTl s v f).img = s.img ∧ (setTl s v f).nor = s.nor ∧ (setTl s v f).sealUnit = s.sealUnit ∧ (setTl s v f).input = s.input ∧ (setTl s v f).vauxOk = s.vauxOk ∧ (setTl s v f).ptp = s.ptp ∧ (setTl s v f).eth = s.eth ∧ (setTl s v f).prp = s.prp ∧ (setTl s v f).pcie = s.pcie ∧ (setTl s v f).pins = s.pins := by
  simp [setTl]

theorem tlNotice_keeps (s : State) (v : RingId) (reanchor : Bool) (oldFn : Nat) : KeepsBoard (tlNotice s v reanchor oldFn) s ∧ KeepsPorts (tlNotice s v reanchor oldFn) s ∧ KeepsHosts (tlNotice s v reanchor oldFn) s ∧ (tlNotice s v reanchor oldFn).out = s.out ∧ (tlNotice s v reanchor oldFn).pcie = s.pcie := by
  simp [tlNotice, notice_keeps _ _ _ _ _ _ _]

theorem tlMove_keeps (s : State) (v : RingId) (st : TlState) : KeepsPorts (tlMove s v st) s ∧ KeepsHosts (tlMove s v st) s ∧ (tlMove s v st).now = s.now ∧ (tlMove s v st).pending = s.pending ∧ (tlMove s v st).out = s.out ∧ (tlMove s v st).folioOn = s.folioOn ∧ (tlMove s v st).strokeBase = s.strokeBase ∧ (tlMove s v st).resyncAt = s.resyncAt ∧ (tlMove s v st).pairs = s.pairs ∧ (tlMove s v st).writes = s.writes ∧ (tlMove s v st).staged = s.staged ∧ (tlMove s v st).rubric = s.rubric ∧ (tlMove s v st).trustBySpi = s.trustBySpi ∧ (tlMove s v st).trustConfigured = s.trustConfigured ∧ (tlMove s v st).link = s.link ∧ (tlMove s v st).localEvents = s.localEvents ∧ (tlMove s v st).localLost = s.localLost ∧ (tlMove s v st).disc = s.disc ∧ (tlMove s v st).clusters = s.clusters ∧ (tlMove s v st).engines = s.engines ∧ (tlMove s v st).regionTemp = s.regionTemp ∧ (tlMove s v st).lanes = s.lanes ∧ (tlMove s v st).img = s.img ∧ (tlMove s v st).nor = s.nor ∧ (tlMove s v st).sealUnit = s.sealUnit ∧ (tlMove s v st).input = s.input ∧ (tlMove s v st).vauxOk = s.vauxOk ∧ (tlMove s v st).ptp = s.ptp ∧ (tlMove s v st).eth = s.eth ∧ (tlMove s v st).prp = s.prp ∧ (tlMove s v st).pcie = s.pcie ∧ (tlMove s v st).pins = s.pins := by
  simp [tlMove, setTl_keeps _ _ _, tlNotice_keeps _ _ _ _]

theorem tlFreeRun_keeps (s : State) (v : RingId) : KeepsPorts (tlFreeRun s v) s ∧ KeepsHosts (tlFreeRun s v) s ∧ (tlFreeRun s v).now = s.now ∧ (tlFreeRun s v).pending = s.pending ∧ (tlFreeRun s v).out = s.out ∧ (tlFreeRun s v).folioOn = s.folioOn ∧ (tlFreeRun s v).strokeBase = s.strokeBase ∧ (tlFreeRun s v).resyncAt = s.resyncAt ∧ (tlFreeRun s v).pairs = s.pairs ∧ (tlFreeRun s v).writes = s.writes ∧ (tlFreeRun s v).staged = s.staged ∧ (tlFreeRun s v).rubric = s.rubric ∧ (tlFreeRun s v).trustBySpi = s.trustBySpi ∧ (tlFreeRun s v).trustConfigured = s.trustConfigured ∧ (tlFreeRun s v).link = s.link ∧ (tlFreeRun s v).localEvents = s.localEvents ∧ (tlFreeRun s v).localLost = s.localLost ∧ (tlFreeRun s v).disc = s.disc ∧ (tlFreeRun s v).clusters = s.clusters ∧ (tlFreeRun s v).engines = s.engines ∧ (tlFreeRun s v).regionTemp = s.regionTemp ∧ (tlFreeRun s v).lanes = s.lanes ∧ (tlFreeRun s v).img = s.img ∧ (tlFreeRun s v).nor = s.nor ∧ (tlFreeRun s v).sealUnit = s.sealUnit ∧ (tlFreeRun s v).input = s.input ∧ (tlFreeRun s v).vauxOk = s.vauxOk ∧ (tlFreeRun s v).ptp = s.ptp ∧ (tlFreeRun s v).eth = s.eth ∧ (tlFreeRun s v).prp = s.prp ∧ (tlFreeRun s v).pcie = s.pcie ∧ (tlFreeRun s v).pins = s.pins := by
  generalize h : tlFreeRun s v = t; unfold tlFreeRun at h; (repeat' split at h) <;> (subst h; simp [*, setTl_keeps _ _ _, tlMove_keeps _ _ _])

theorem tlReference_keeps (s : State) (v : RingId) (ownerNs : Nat) (e : Int) : KeepsPorts (tlReference s v ownerNs e) s ∧ KeepsHosts (tlReference s v ownerNs e) s ∧ (tlReference s v ownerNs e).now = s.now ∧ (tlReference s v ownerNs e).pending = s.pending ∧ (tlReference s v ownerNs e).out = s.out ∧ (tlReference s v ownerNs e).folioOn = s.folioOn ∧ (tlReference s v ownerNs e).strokeBase = s.strokeBase ∧ (tlReference s v ownerNs e).resyncAt = s.resyncAt ∧ (tlReference s v ownerNs e).pairs = s.pairs ∧ (tlReference s v ownerNs e).writes = s.writes ∧ (tlReference s v ownerNs e).staged = s.staged ∧ (tlReference s v ownerNs e).rubric = s.rubric ∧ (tlReference s v ownerNs e).trustBySpi = s.trustBySpi ∧ (tlReference s v ownerNs e).trustConfigured = s.trustConfigured ∧ (tlReference s v ownerNs e).link = s.link ∧ (tlReference s v ownerNs e).localEvents = s.localEvents ∧ (tlReference s v ownerNs e).localLost = s.localLost ∧ (tlReference s v ownerNs e).disc = s.disc ∧ (tlReference s v ownerNs e).clusters = s.clusters ∧ (tlReference s v ownerNs e).engines = s.engines ∧ (tlReference s v ownerNs e).regionTemp = s.regionTemp ∧ (tlReference s v ownerNs e).lanes = s.lanes ∧ (tlReference s v ownerNs e).img = s.img ∧ (tlReference s v ownerNs e).nor = s.nor ∧ (tlReference s v ownerNs e).sealUnit = s.sealUnit ∧ (tlReference s v ownerNs e).input = s.input ∧ (tlReference s v ownerNs e).vauxOk = s.vauxOk ∧ (tlReference s v ownerNs e).ptp = s.ptp ∧ (tlReference s v ownerNs e).eth = s.eth ∧ (tlReference s v ownerNs e).prp = s.prp ∧ (tlReference s v ownerNs e).pcie = s.pcie ∧ (tlReference s v ownerNs e).pins = s.pins := by
  generalize h : tlReference s v ownerNs e = t; unfold tlReference at h; dsimp only at h; (repeat' split at h) <;> (subst h; simp [*, setTl_keeps _ _ _, tlMove_keeps _ _ _, tlNotice_keeps _ _ _ _])

theorem tlLost_keeps (s : State) (v : RingId) : KeepsPorts (tlLost s v) s ∧ KeepsHosts (tlLost s v) s ∧ (tlLost s v).now = s.now ∧ (tlLost s v).pending = s.pending ∧ (tlLost s v).out = s.out ∧ (tlLost s v).folioOn = s.folioOn ∧ (tlLost s v).strokeBase = s.strokeBase ∧ (tlLost s v).resyncAt = s.resyncAt ∧ (tlLost s v).pairs = s.pairs ∧ (tlLost s v).writes = s.writes ∧ (tlLost s v).staged = s.staged ∧ (tlLost s v).rubric = s.rubric ∧ (tlLost s v).trustBySpi = s.trustBySpi ∧ (tlLost s v).trustConfigured = s.trustConfigured ∧ (tlLost s v).link = s.link ∧ (tlLost s v).localEvents = s.localEvents ∧ (tlLost s v).localLost = s.localLost ∧ (tlLost s v).disc = s.disc ∧ (tlLost s v).clusters = s.clusters ∧ (tlLost s v).engines = s.engines ∧ (tlLost s v).regionTemp = s.regionTemp ∧ (tlLost s v).lanes = s.lanes ∧ (tlLost s v).img = s.img ∧ (tlLost s v).nor = s.nor ∧ (tlLost s v).sealUnit = s.sealUnit ∧ (tlLost s v).input = s.input ∧ (tlLost s v).vauxOk = s.vauxOk ∧ (tlLost s v).ptp = s.ptp ∧ (tlLost s v).eth = s.eth ∧ (tlLost s v).prp = s.prp ∧ (tlLost s v).pcie = s.pcie ∧ (tlLost s v).pins = s.pins := by
  generalize h : tlLost s v = t; unfold tlLost at h; dsimp only at h; (repeat' split at h) <;> (subst h; simp [*, setTl_keeps _ _ _, tlMove_keeps _ _ _])

theorem tlUpdate_keeps (s : State) (v : RingId) (ownerNs m : Nat) (e : Int) : KeepsPorts (tlUpdate s v ownerNs m e) s ∧ KeepsHosts (tlUpdate s v ownerNs m e) s ∧ (tlUpdate s v ownerNs m e).now = s.now ∧ (tlUpdate s v ownerNs m e).pending = s.pending ∧ (tlUpdate s v ownerNs m e).out = s.out ∧ (tlUpdate s v ownerNs m e).folioOn = s.folioOn ∧ (tlUpdate s v ownerNs m e).strokeBase = s.strokeBase ∧ (tlUpdate s v ownerNs m e).resyncAt = s.resyncAt ∧ (tlUpdate s v ownerNs m e).pairs = s.pairs ∧ (tlUpdate s v ownerNs m e).writes = s.writes ∧ (tlUpdate s v ownerNs m e).staged = s.staged ∧ (tlUpdate s v ownerNs m e).rubric = s.rubric ∧ (tlUpdate s v ownerNs m e).trustBySpi = s.trustBySpi ∧ (tlUpdate s v ownerNs m e).trustConfigured = s.trustConfigured ∧ (tlUpdate s v ownerNs m e).link = s.link ∧ (tlUpdate s v ownerNs m e).localEvents = s.localEvents ∧ (tlUpdate s v ownerNs m e).localLost = s.localLost ∧ (tlUpdate s v ownerNs m e).disc = s.disc ∧ (tlUpdate s v ownerNs m e).clusters = s.clusters ∧ (tlUpdate s v ownerNs m e).engines = s.engines ∧ (tlUpdate s v ownerNs m e).regionTemp = s.regionTemp ∧ (tlUpdate s v ownerNs m e).lanes = s.lanes ∧ (tlUpdate s v ownerNs m e).img = s.img ∧ (tlUpdate s v ownerNs m e).nor = s.nor ∧ (tlUpdate s v ownerNs m e).sealUnit = s.sealUnit ∧ (tlUpdate s v ownerNs m e).input = s.input ∧ (tlUpdate s v ownerNs m e).vauxOk = s.vauxOk ∧ (tlUpdate s v ownerNs m e).ptp = s.ptp ∧ (tlUpdate s v ownerNs m e).eth = s.eth ∧ (tlUpdate s v ownerNs m e).prp = s.prp ∧ (tlUpdate s v ownerNs m e).pcie = s.pcie ∧ (tlUpdate s v ownerNs m e).pins = s.pins := by
  generalize h : tlUpdate s v ownerNs m e = t; unfold tlUpdate at h; (repeat' split at h) <;> (subst h; simp [*, setTl_keeps _ _ _, tlMove_keeps _ _ _, tlReference_keeps _ _ _ _])

end Sys2Proof.Machine
end

