-- ==== Sys2Proof/Laws/FrameTransfers.lean ====
section
/-! SUPPORT. What the operations of Machine/Transfers.lean leave as it was: one lemma for each, over every input, and over every outcome of it.
A proof names the ones it needs, each applied: simp [op_keeps _ _] rewrites every field that op leaves. -/

namespace Sys2Proof.Machine

theorem setBusy_keeps (s : State) (v : RingId) (ring : FetchRing) (b : Bool) : KeepsBoard (setBusy s v ring b) s ∧ KeepsPorts (setBusy s v ring b) s ∧ (setBusy s v ring b).out = s.out ∧ (setBusy s v ring b).limits = s.limits ∧ (setBusy s v ring b).rcSpi = s.rcSpi ∧ (setBusy s v ring b).rcPf = s.rcPf ∧ (setBusy s v ring b).pal = s.pal ∧ (setBusy s v ring b).margin = s.margin ∧ (setBusy s v ring b).own = s.own ∧ (setBusy s v ring b).nibs = s.nibs ∧ (setBusy s v ring b).qps = s.qps ∧ (setBusy s v ring b).pcie = s.pcie ∧ (setBusy s v ring b).ink = s.ink := by
  generalize h : setBusy s v ring b = t; unfold setBusy at h; (repeat' split at h) <;> (subst h; simp [*, setEp_keeps _ _ _, setVi_keeps _ _ _])

theorem stopFetch_keeps (s : State) (v : RingId) (ring : FetchRing) : KeepsBoard (stopFetch s v ring) s ∧ KeepsPorts (stopFetch s v ring) s ∧ (stopFetch s v ring).out = s.out ∧ (stopFetch s v ring).limits = s.limits ∧ (stopFetch s v ring).rcSpi = s.rcSpi ∧ (stopFetch s v ring).rcPf = s.rcPf ∧ (stopFetch s v ring).pal = s.pal ∧ (stopFetch s v ring).margin = s.margin ∧ (stopFetch s v ring).own = s.own ∧ (stopFetch s v ring).nibs = s.nibs ∧ (stopFetch s v ring).qps = s.qps ∧ (stopFetch s v ring).pcie = s.pcie ∧ (stopFetch s v ring).ink = s.ink := by
  generalize h : stopFetch s v ring = t; unfold stopFetch at h; (repeat' split at h) <;> (subst h; simp [*, setEp_keeps _ _ _, setVi_keeps _ _ _])

theorem fetchFailed_keeps (s : State) (v : RingId) (ring : FetchRing) : KeepsBoard (fetchFailed s v ring) s ∧ (fetchFailed s v ring).regs = s.regs ∧ (fetchFailed s v ring).modes = s.modes ∧ (fetchFailed s v ring).blot = s.blot ∧ (fetchFailed s v ring).power = s.power ∧ (fetchFailed s v ring).pd = s.pd ∧ (fetchFailed s v ring).own = s.own ∧ (fetchFailed s v ring).devices = s.devices ∧ (fetchFailed s v ring).nibs = s.nibs ∧ (fetchFailed s v ring).cvis = s.cvis ∧ (fetchFailed s v ring).cviews = s.cviews ∧ (fetchFailed s v ring).cports = s.cports ∧ (fetchFailed s v ring).ligs = s.ligs ∧ (fetchFailed s v ring).func = s.func := by
  generalize h : fetchFailed s v ring = t; unfold fetchFailed at h; (repeat' split at h) <;> (subst h; simp [*, complete_keeps _ _ _ _, draw_keeps _, stopFetch_keeps _ _ _])

theorem startFetch_keeps (s : State) (v : RingId) (ring : FetchRing) : KeepsBoard (startFetch s v ring) s ∧ (startFetch s v ring).regs = s.regs ∧ (startFetch s v ring).modes = s.modes ∧ (startFetch s v ring).blot = s.blot ∧ (startFetch s v ring).power = s.power ∧ (startFetch s v ring).pd = s.pd ∧ (startFetch s v ring).own = s.own ∧ (startFetch s v ring).devices = s.devices ∧ (startFetch s v ring).nibs = s.nibs ∧ (startFetch s v ring).cvis = s.cvis ∧ (startFetch s v ring).cviews = s.cviews ∧ (startFetch s v ring).cports = s.cports ∧ (startFetch s v ring).ligs = s.ligs ∧ (startFetch s v ring).func = s.func := by
  generalize h : startFetch s v ring = t; unfold startFetch at h; (repeat' split at h) <;> (subst h; simp [*, emit_keeps _ _, fetchFailed_keeps _ _ _, noteSent_keeps _ _, setBusy_keeps _ _ _ _])

theorem kickFetch_keeps (s : State) (v : RingId) : KeepsBoard (kickFetch s v) s ∧ (kickFetch s v).regs = s.regs ∧ (kickFetch s v).modes = s.modes ∧ (kickFetch s v).blot = s.blot ∧ (kickFetch s v).power = s.power ∧ (kickFetch s v).pd = s.pd ∧ (kickFetch s v).own = s.own ∧ (kickFetch s v).devices = s.devices ∧ (kickFetch s v).nibs = s.nibs ∧ (kickFetch s v).cvis = s.cvis ∧ (kickFetch s v).cviews = s.cviews ∧ (kickFetch s v).cports = s.cports ∧ (kickFetch s v).ligs = s.ligs ∧ (kickFetch s v).func = s.func := by
  simp [kickFetch, startFetch_keeps _ _ _]

theorem stopEp_keeps (s : State) (ctx : Nat) : KeepsBoard (stopEp s ctx) s ∧ KeepsPorts (stopEp s ctx) s ∧ (stopEp s ctx).out = s.out ∧ (stopEp s ctx).limits = s.limits ∧ (stopEp s ctx).rcSpi = s.rcSpi ∧ (stopEp s ctx).rcPf = s.rcPf ∧ (stopEp s ctx).pal = s.pal ∧ (stopEp s ctx).margin = s.margin ∧ (stopEp s ctx).own = s.own ∧ (stopEp s ctx).vis = s.vis ∧ (stopEp s ctx).nibs = s.nibs ∧ (stopEp s ctx).qps = s.qps ∧ (stopEp s ctx).pcie = s.pcie ∧ (stopEp s ctx).ink = s.ink := by
  simp [stopEp, setEp_keeps _ _ _]

theorem haltEp_keeps (s : State) (ctx : Nat) : KeepsBoard (haltEp s ctx) s ∧ KeepsPorts (haltEp s ctx) s ∧ (haltEp s ctx).out = s.out ∧ (haltEp s ctx).limits = s.limits ∧ (haltEp s ctx).rcSpi = s.rcSpi ∧ (haltEp s ctx).rcPf = s.rcPf ∧ (haltEp s ctx).pal = s.pal ∧ (haltEp s ctx).margin = s.margin ∧ (haltEp s ctx).own = s.own ∧ (haltEp s ctx).vis = s.vis ∧ (haltEp s ctx).nibs = s.nibs ∧ (haltEp s ctx).qps = s.qps ∧ (haltEp s ctx).pcie = s.pcie ∧ (haltEp s ctx).ink = s.ink := by
  simp [haltEp, setEp_keeps _ _ _]

theorem setXfer_keeps (s : State) (ctx : Nat) (x y : Transfer) : KeepsBoard (setXfer s ctx x y) s ∧ KeepsPorts (setXfer s ctx x y) s ∧ (setXfer s ctx x y).out = s.out ∧ (setXfer s ctx x y).limits = s.limits ∧ (setXfer s ctx x y).rcSpi = s.rcSpi ∧ (setXfer s ctx x y).rcPf = s.rcPf ∧ (setXfer s ctx x y).pal = s.pal ∧ (setXfer s ctx x y).margin = s.margin ∧ (setXfer s ctx x y).own = s.own ∧ (setXfer s ctx x y).vis = s.vis ∧ (setXfer s ctx x y).nibs = s.nibs ∧ (setXfer s ctx x y).qps = s.qps ∧ (setXfer s ctx x y).pcie = s.pcie ∧ (setXfer s ctx x y).ink = s.ink := by
  simp [setXfer, setEp_keeps _ _ _]

theorem writeIn_keeps (s : State) (x : Transfer) (bytes : List Byte) : KeepsBoard (writeIn s x bytes).1 s ∧ KeepsPorts (writeIn s x bytes).1 s ∧ (writeIn s x bytes).1.limits = s.limits ∧ (writeIn s x bytes).1.pal = s.pal ∧ (writeIn s x bytes).1.margin = s.margin ∧ (writeIn s x bytes).1.own = s.own ∧ (writeIn s x bytes).1.eps = s.eps ∧ (writeIn s x bytes).1.nibs = s.nibs ∧ (writeIn s x bytes).1.pcie = s.pcie ∧ (writeIn s x bytes).1.ink = s.ink := by
  generalize h : writeIn s x bytes = t; unfold writeIn at h; (repeat' split at h) <;> (subst h; simp [*, hostWrite_keeps _ _ _ _])

theorem askOut_keeps (s : State) (ctx : Nat) (x : Transfer) : KeepsBoard (askOut s ctx x) s ∧ KeepsPorts (askOut s ctx x) s ∧ (askOut s ctx x).limits = s.limits ∧ (askOut s ctx x).rcSpi = s.rcSpi ∧ (askOut s ctx x).rcPf = s.rcPf ∧ (askOut s ctx x).pal = s.pal ∧ (askOut s ctx x).margin = s.margin ∧ (askOut s ctx x).own = s.own ∧ (askOut s ctx x).vis = s.vis ∧ (askOut s ctx x).nibs = s.nibs ∧ (askOut s ctx x).pcie = s.pcie ∧ (askOut s ctx x).ink = s.ink := by
  generalize h : askOut s ctx x = t; unfold askOut at h; (repeat' split at h) <;> (subst h; simp [*, emit_keeps _ _, noteSent_keeps _ _, setXfer_keeps _ _ _ _])

theorem concludeXfer_keeps (s : State) (ctx : Nat) (x : Transfer) (code : Nat) : KeepsBoard (concludeXfer s ctx x code) s ∧ KeepsPorts (concludeXfer s ctx x code) s ∧ (concludeXfer s ctx x code).own = s.own := by
  generalize h : concludeXfer s ctx x code = t; unfold concludeXfer at h; (repeat' split at h) <;> (subst h; simp [*, abandonSplit_keeps _ _, endAndSettle_keeps _ _ _ _ _, haltEp_keeps _ _, setEp_keeps _ _ _, stopEp_keeps _ _])

theorem takeStash_keeps (s : State) (ctx : Nat) (x : Transfer) : KeepsBoard (takeStash s ctx x).1 s ∧ KeepsPorts (takeStash s ctx x).1 s := by
  generalize h : takeStash s ctx x = t; unfold takeStash at h; dsimp only at h; (repeat' split at h) <;> (subst h; simp [concludeXfer_keeps _ _ _ _, endAndSettle_keeps _ _ _ _ _, haltEp_keeps _ _, noteDiscard_keeps _ _ _ _, setEp_keeps _ _ _, setXfer_keeps _ _ _ _, settleCtx_keeps _ _ _ _, writeIn_keeps _ _ _])

theorem runHead_keeps (a0 : Nat) (a1 : State) (a2 : Nat) : KeepsBoard (runHead a0 a1 a2) a1 ∧ KeepsPorts (runHead a0 a1 a2) a1 := by
  fun_induction runHead a0 a1 a2 <;> simp_all +zetaDelta [askOut_keeps _ _ _, concludeXfer_keeps _ _ _ _, takeStash_keeps _ _ _]

theorem claimRoom_keeps (s : State) (ctx : Nat) : KeepsBoard (claimRoom s ctx) s ∧ KeepsPorts (claimRoom s ctx) s ∧ (claimRoom s ctx).out = s.out ∧ (claimRoom s ctx).pal = s.pal ∧ (claimRoom s ctx).margin = s.margin ∧ (claimRoom s ctx).own = s.own ∧ (claimRoom s ctx).eps = s.eps ∧ (claimRoom s ctx).nibs = s.nibs ∧ (claimRoom s ctx).qps = s.qps ∧ (claimRoom s ctx).pcie = s.pcie := by
  generalize h : claimRoom s ctx = t; unfold claimRoom at h; (repeat' split at h) <;> (subst h; simp [*, requestBlocks_keeps _ _ _ _])

theorem advance_keeps (s : State) (ctx : Nat) : KeepsBoard (advance s ctx) s ∧ (advance s ctx).regs = s.regs ∧ (advance s ctx).modes = s.modes ∧ (advance s ctx).blot = s.blot ∧ (advance s ctx).power = s.power ∧ (advance s ctx).pd = s.pd ∧ (advance s ctx).devices = s.devices ∧ (advance s ctx).cvis = s.cvis ∧ (advance s ctx).cviews = s.cviews ∧ (advance s ctx).cports = s.cports ∧ (advance s ctx).ligs = s.ligs ∧ (advance s ctx).func = s.func := by
  generalize h : advance s ctx = t; unfold advance at h; dsimp only at h; (repeat' split at h) <;> (subst h; simp [claimRoom_keeps _ _, kickFetch_keeps _ _, refreshAges_keeps _, runHead_keeps _ _ _, settleCtx_keeps _ _ _ _])

theorem finishXfer_keeps (s : State) (ctx : Nat) (x : Transfer) (code : Nat) : KeepsBoard (finishXfer s ctx x code) s ∧ (finishXfer s ctx x code).regs = s.regs ∧ (finishXfer s ctx x code).modes = s.modes ∧ (finishXfer s ctx x code).blot = s.blot ∧ (finishXfer s ctx x code).power = s.power ∧ (finishXfer s ctx x code).pd = s.pd ∧ (finishXfer s ctx x code).devices = s.devices ∧ (finishXfer s ctx x code).cvis = s.cvis ∧ (finishXfer s ctx x code).cviews = s.cviews ∧ (finishXfer s ctx x code).cports = s.cports ∧ (finishXfer s ctx x code).ligs = s.ligs ∧ (finishXfer s ctx x code).func = s.func := by
  simp [finishXfer, advance_keeps _ _, concludeXfer_keeps _ _ _ _]

theorem placeIsoch_keeps (s : State) (ctx : Nat) (x : Transfer) : KeepsBoard (placeIsoch s ctx x) s ∧ KeepsPorts (placeIsoch s ctx x) s ∧ (placeIsoch s ctx x).own = s.own ∧ (placeIsoch s ctx x).nibs = s.nibs := by
  generalize h : placeIsoch s ctx x = t; unfold placeIsoch at h; dsimp only at h; (repeat' split at h) <;> (subst h; simp [*, endAndSettle_keeps _ _ _ _ _, setEp_keeps _ _ _, setXfer_keeps _ _ _ _])

theorem pathDrained_keeps (s : State) (owner : Owner) : KeepsBoard (pathDrained s owner) s ∧ KeepsPorts (pathDrained s owner) s ∧ (pathDrained s owner).out = s.out ∧ (pathDrained s owner).limits = s.limits ∧ (pathDrained s owner).rcSpi = s.rcSpi ∧ (pathDrained s owner).rcPf = s.rcPf ∧ (pathDrained s owner).pal = s.pal ∧ (pathDrained s owner).margin = s.margin ∧ (pathDrained s owner).own = s.own ∧ (pathDrained s owner).vis = s.vis ∧ (pathDrained s owner).eps = s.eps ∧ (pathDrained s owner).nibs = s.nibs ∧ (pathDrained s owner).qps = s.qps ∧ (pathDrained s owner).pcie = s.pcie := by
  simp [pathDrained, freeBlocks_keeps _ _ _ _]

end Sys2Proof.Machine
end

