-- ==== Sys2Proof/Laws/FrameVis.lean ====
section
/-! SUPPORT. What the operations of Machine/Vis.lean leave as it was: one lemma for each, over every input, and over every outcome of it.
A proof names the ones it needs, each applied: simp [op_keeps _ _] rewrites every field that op leaves. -/

namespace Sys2Proof.Machine

theorem setPage_keeps (s : State) (v : RingId) (off : Nat) (w : Word) : KeepsBoard (setPage s v off w) s ∧ KeepsHosts (setPage s v off w) s ∧ (setPage s v off w).out = s.out ∧ (setPage s v off w).freeCtr = s.freeCtr ∧ (setPage s v off w).limits = s.limits ∧ (setPage s v off w).rcSpi = s.rcSpi ∧ (setPage s v off w).rcPf = s.rcPf ∧ (setPage s v off w).pal = s.pal ∧ (setPage s v off w).margin = s.margin ∧ (setPage s v off w).modes = s.modes ∧ (setPage s v off w).blot = s.blot ∧ (setPage s v off w).power = s.power ∧ (setPage s v off w).pd = s.pd ∧ (setPage s v off w).devices = s.devices ∧ (setPage s v off w).pcie = s.pcie ∧ (setPage s v off w).cvis = s.cvis ∧ (setPage s v off w).cviews = s.cviews ∧ (setPage s v off w).cports = s.cports ∧ (setPage s v off w).ligs = s.ligs ∧ (setPage s v off w).func = s.func := by
  simp [setPage, setReg_keeps _ _ _]

theorem resetPage_keeps (s : State) (v : RingId) : KeepsBoard (resetPage s v) s ∧ KeepsHosts (resetPage s v) s ∧ (resetPage s v).out = s.out ∧ (resetPage s v).freeCtr = s.freeCtr ∧ (resetPage s v).limits = s.limits ∧ (resetPage s v).rcSpi = s.rcSpi ∧ (resetPage s v).rcPf = s.rcPf ∧ (resetPage s v).pal = s.pal ∧ (resetPage s v).margin = s.margin ∧ (resetPage s v).modes = s.modes ∧ (resetPage s v).blot = s.blot ∧ (resetPage s v).power = s.power ∧ (resetPage s v).pd = s.pd ∧ (resetPage s v).devices = s.devices ∧ (resetPage s v).pcie = s.pcie ∧ (resetPage s v).cvis = s.cvis ∧ (resetPage s v).cviews = s.cviews ∧ (resetPage s v).cports = s.cports ∧ (resetPage s v).ligs = s.ligs ∧ (resetPage s v).func = s.func := by
  simp [resetPage]

theorem clearWindow_keeps (s : State) (v : RingId) : KeepsBoard (clearWindow s v) s ∧ KeepsPorts (clearWindow s v) s ∧ (clearWindow s v).out = s.out ∧ (clearWindow s v).limits = s.limits ∧ (clearWindow s v).rcSpi = s.rcSpi ∧ (clearWindow s v).rcPf = s.rcPf ∧ (clearWindow s v).pal = s.pal ∧ (clearWindow s v).margin = s.margin ∧ (clearWindow s v).own = s.own ∧ (clearWindow s v).eps = s.eps ∧ (clearWindow s v).nibs = s.nibs ∧ (clearWindow s v).qps = s.qps ∧ (clearWindow s v).pcie = s.pcie := by
  simp [clearWindow, setVi_keeps _ _ _, settleCtx_keeps _ _ _ _]

theorem enableVi_keeps (s : State) (v : RingId) : KeepsPorts (enableVi s v) s ∧ (enableVi s v).now = s.now ∧ (enableVi s v).pending = s.pending ∧ (enableVi s v).out = s.out ∧ (enableVi s v).limits = s.limits ∧ (enableVi s v).folioOn = s.folioOn ∧ (enableVi s v).strokeBase = s.strokeBase ∧ (enableVi s v).resyncAt = s.resyncAt ∧ (enableVi s v).rcSpi = s.rcSpi ∧ (enableVi s v).rcPf = s.rcPf ∧ (enableVi s v).pairs = s.pairs ∧ (enableVi s v).writes = s.writes ∧ (enableVi s v).staged = s.staged ∧ (enableVi s v).rubric = s.rubric ∧ (enableVi s v).trustBySpi = s.trustBySpi ∧ (enableVi s v).trustConfigured = s.trustConfigured ∧ (enableVi s v).link = s.link ∧ (enableVi s v).localEvents = s.localEvents ∧ (enableVi s v).localLost = s.localLost ∧ (enableVi s v).pal = s.pal ∧ (enableVi s v).disc = s.disc ∧ (enableVi s v).clusters = s.clusters ∧ (enableVi s v).engines = s.engines ∧ (enableVi s v).regionTemp = s.regionTemp ∧ (enableVi s v).lanes = s.lanes ∧ (enableVi s v).img = s.img ∧ (enableVi s v).nor = s.nor ∧ (enableVi s v).sealUnit = s.sealUnit ∧ (enableVi s v).input = s.input ∧ (enableVi s v).vauxOk = s.vauxOk ∧ (enableVi s v).ptp = s.ptp ∧ (enableVi s v).eps = s.eps ∧ (enableVi s v).nibs = s.nibs ∧ (enableVi s v).qps = s.qps ∧ (enableVi s v).eth = s.eth ∧ (enableVi s v).prp = s.prp ∧ (enableVi s v).pcie = s.pcie ∧ (enableVi s v).pins = s.pins := by
  simp [enableVi, clearWindow_keeps _ _, homeStamp_keeps _ _, setQueue_keeps _ _ _, setTl_keeps _ _ _, setVi_keeps _ _ _]

theorem dropNibCmds_keeps (s : State) (v : RingId) : KeepsBoard (dropNibCmds s v) s ∧ KeepsPorts (dropNibCmds s v) s ∧ (dropNibCmds s v).out = s.out ∧ (dropNibCmds s v).limits = s.limits ∧ (dropNibCmds s v).rcSpi = s.rcSpi ∧ (dropNibCmds s v).rcPf = s.rcPf ∧ (dropNibCmds s v).pal = s.pal ∧ (dropNibCmds s v).margin = s.margin ∧ (dropNibCmds s v).own = s.own ∧ (dropNibCmds s v).vis = s.vis ∧ (dropNibCmds s v).eps = s.eps ∧ (dropNibCmds s v).qps = s.qps ∧ (dropNibCmds s v).pcie = s.pcie ∧ (dropNibCmds s v).ink = s.ink := by
  simp [dropNibCmds, setNib_keeps _ _ _]

theorem disableVi_keeps (s : State) (v : RingId) : KeepsBoard (disableVi s v) s ∧ KeepsPorts (disableVi s v) s := by
  simp [disableVi, abandonSplit_keeps _ _, completeCmd_keeps _ _ _ _ _ _ _, dropNibCmds_keeps _ _, endQueue_keeps _ _ _ _, refreshAges_keeps _, setVi_keeps _ _ _, stampP4_keeps _ _ _, stopEp_keeps _ _]

theorem writeViCtrl_keeps (s : State) (p : Path) (v : RingId) (value : Word) : (writeViCtrl s p v value).now = s.now ∧ (writeViCtrl s p v value).pending = s.pending ∧ (writeViCtrl s p v value).freeCtr = s.freeCtr ∧ (writeViCtrl s p v value).folioOn = s.folioOn ∧ (writeViCtrl s p v value).strokeBase = s.strokeBase ∧ (writeViCtrl s p v value).resyncAt = s.resyncAt ∧ (writeViCtrl s p v value).pairs = s.pairs ∧ (writeViCtrl s p v value).writes = s.writes ∧ (writeViCtrl s p v value).staged = s.staged ∧ (writeViCtrl s p v value).rubric = s.rubric ∧ (writeViCtrl s p v value).trustBySpi = s.trustBySpi ∧ (writeViCtrl s p v value).trustConfigured = s.trustConfigured ∧ (writeViCtrl s p v value).link = s.link ∧ (writeViCtrl s p v value).localEvents = s.localEvents ∧ (writeViCtrl s p v value).localLost = s.localLost ∧ (writeViCtrl s p v value).disc = s.disc ∧ (writeViCtrl s p v value).clusters = s.clusters ∧ (writeViCtrl s p v value).engines = s.engines ∧ (writeViCtrl s p v value).regionTemp = s.regionTemp ∧ (writeViCtrl s p v value).lanes = s.lanes ∧ (writeViCtrl s p v value).modes = s.modes ∧ (writeViCtrl s p v value).img = s.img ∧ (writeViCtrl s p v value).nor = s.nor ∧ (writeViCtrl s p v value).blot = s.blot ∧ (writeViCtrl s p v value).sealUnit = s.sealUnit ∧ (writeViCtrl s p v value).input = s.input ∧ (writeViCtrl s p v value).vauxOk = s.vauxOk ∧ (writeViCtrl s p v value).power = s.power ∧ (writeViCtrl s p v value).pd = s.pd ∧ (writeViCtrl s p v value).ptp = s.ptp ∧ (writeViCtrl s p v value).devices = s.devices ∧ (writeViCtrl s p v value).eth = s.eth ∧ (writeViCtrl s p v value).prp = s.prp ∧ (writeViCtrl s p v value).cvis = s.cvis ∧ (writeViCtrl s p v value).cviews = s.cviews ∧ (writeViCtrl s p v value).cports = s.cports ∧ (writeViCtrl s p v value).ligs = s.ligs ∧ (writeViCtrl s p v value).func = s.func ∧ (writeViCtrl s p v value).pins = s.pins := by
  generalize h : writeViCtrl s p v value = t; unfold writeViCtrl at h; dsimp only at h; (repeat' split at h) <;> (subst h; simp [*, disableVi_keeps _ _, enableVi_keeps _ _, setPage_keeps _ _ _ _, setVi_keeps _ _ _, writeIgnored_keeps _ _ _ _])

theorem writePage_keeps (s : State) (p : Path) (v : RingId) (off : Nat) (value : Word) : (writePage s p v off value).now = s.now ∧ (writePage s p v off value).pending = s.pending ∧ (writePage s p v off value).freeCtr = s.freeCtr ∧ (writePage s p v off value).folioOn = s.folioOn ∧ (writePage s p v off value).strokeBase = s.strokeBase ∧ (writePage s p v off value).resyncAt = s.resyncAt ∧ (writePage s p v off value).pairs = s.pairs ∧ (writePage s p v off value).writes = s.writes ∧ (writePage s p v off value).staged = s.staged ∧ (writePage s p v off value).rubric = s.rubric ∧ (writePage s p v off value).trustBySpi = s.trustBySpi ∧ (writePage s p v off value).trustConfigured = s.trustConfigured ∧ (writePage s p v off value).link = s.link ∧ (writePage s p v off value).localEvents = s.localEvents ∧ (writePage s p v off value).localLost = s.localLost ∧ (writePage s p v off value).disc = s.disc ∧ (writePage s p v off value).clusters = s.clusters ∧ (writePage s p v off value).engines = s.engines ∧ (writePage s p v off value).regionTemp = s.regionTemp ∧ (writePage s p v off value).lanes = s.lanes ∧ (writePage s p v off value).modes = s.modes ∧ (writePage s p v off value).img = s.img ∧ (writePage s p v off value).nor = s.nor ∧ (writePage s p v off value).blot = s.blot ∧ (writePage s p v off value).sealUnit = s.sealUnit ∧ (writePage s p v off value).input = s.input ∧ (writePage s p v off value).vauxOk = s.vauxOk ∧ (writePage s p v off value).power = s.power ∧ (writePage s p v off value).pd = s.pd ∧ (writePage s p v off value).ptp = s.ptp ∧ (writePage s p v off value).devices = s.devices ∧ (writePage s p v off value).eth = s.eth ∧ (writePage s p v off value).prp = s.prp ∧ (writePage s p v off value).cvis = s.cvis ∧ (writePage s p v off value).cviews = s.cviews ∧ (writePage s p v off value).cports = s.cports ∧ (writePage s p v off value).ligs = s.ligs ∧ (writePage s p v off value).func = s.func ∧ (writePage s p v off value).pins = s.pins := by
  generalize h : writePage s p v off value = t; unfold writePage at h; (repeat' split at h) <;> (subst h; simp [*, setPage_keeps _ _ _ _, tlFreeRun_keeps _ _, writeIgnored_keeps _ _ _ _, writeViCtrl_keeps _ _ _ _])

theorem ignoreDb_keeps (s : State) (v : RingId) : KeepsBoard (ignoreDb s v) s ∧ KeepsPorts (ignoreDb s v) s ∧ (ignoreDb s v).out = s.out ∧ (ignoreDb s v).limits = s.limits ∧ (ignoreDb s v).rcSpi = s.rcSpi ∧ (ignoreDb s v).rcPf = s.rcPf ∧ (ignoreDb s v).pal = s.pal ∧ (ignoreDb s v).margin = s.margin ∧ (ignoreDb s v).own = s.own ∧ (ignoreDb s v).eps = s.eps ∧ (ignoreDb s v).nibs = s.nibs ∧ (ignoreDb s v).qps = s.qps ∧ (ignoreDb s v).pcie = s.pcie ∧ (ignoreDb s v).ink = s.ink := by
  simp [ignoreDb, setVi_keeps _ _ _]

theorem cmdDb_keeps (s : State) (v : RingId) (value : Word) : KeepsBoard (cmdDb s v value) s ∧ (cmdDb s v value).regs = s.regs ∧ (cmdDb s v value).modes = s.modes ∧ (cmdDb s v value).blot = s.blot ∧ (cmdDb s v value).power = s.power ∧ (cmdDb s v value).pd = s.pd ∧ (cmdDb s v value).own = s.own ∧ (cmdDb s v value).devices = s.devices ∧ (cmdDb s v value).nibs = s.nibs ∧ (cmdDb s v value).cvis = s.cvis ∧ (cmdDb s v value).cviews = s.cviews ∧ (cmdDb s v value).cports = s.cports ∧ (cmdDb s v value).ligs = s.ligs ∧ (cmdDb s v value).func = s.func := by
  simp [cmdDb, setVi_keeps _ _ _, startFetch_keeps _ _ _]

theorem releasePassed_keeps (s : State) (v : RingId) : KeepsBoard (releasePassed s v) s ∧ KeepsPorts (releasePassed s v) s ∧ (releasePassed s v).out = s.out ∧ (releasePassed s v).limits = s.limits ∧ (releasePassed s v).rcSpi = s.rcSpi ∧ (releasePassed s v).rcPf = s.rcPf ∧ (releasePassed s v).pal = s.pal ∧ (releasePassed s v).margin = s.margin ∧ (releasePassed s v).own = s.own ∧ (releasePassed s v).eps = s.eps ∧ (releasePassed s v).nibs = s.nibs ∧ (releasePassed s v).qps = s.qps ∧ (releasePassed s v).pcie = s.pcie := by
  simp [releasePassed, setVi_keeps _ _ _, settleCtx_keeps _ _ _ _]

theorem evtDb_keeps (s : State) (v : RingId) (value : Word) : KeepsBoard (evtDb s v value) s ∧ (evtDb s v value).regs = s.regs ∧ (evtDb s v value).modes = s.modes ∧ (evtDb s v value).blot = s.blot ∧ (evtDb s v value).power = s.power ∧ (evtDb s v value).pd = s.pd ∧ (evtDb s v value).own = s.own ∧ (evtDb s v value).devices = s.devices ∧ (evtDb s v value).nibs = s.nibs ∧ (evtDb s v value).cvis = s.cvis ∧ (evtDb s v value).cviews = s.cviews ∧ (evtDb s v value).cports = s.cports ∧ (evtDb s v value).ligs = s.ligs ∧ (evtDb s v value).func = s.func := by
  generalize h : evtDb s v value = t; unfold evtDb at h; dsimp only at h; (repeat' split at h) <;> (subst h; simp [*, flushEvents_keeps _ _, ignoreDb_keeps _ _, kickFetch_keeps _ _, releasePassed_keeps _ _, setVi_keeps _ _ _])

theorem renewLeases_keeps (s : State) (v : RingId) (mask : Nat) : KeepsBoard (renewLeases s v mask).1 s ∧ KeepsPorts (renewLeases s v mask).1 s ∧ (renewLeases s v mask).1.out = s.out ∧ (renewLeases s v mask).1.limits = s.limits ∧ (renewLeases s v mask).1.rcSpi = s.rcSpi ∧ (renewLeases s v mask).1.rcPf = s.rcPf ∧ (renewLeases s v mask).1.pal = s.pal ∧ (renewLeases s v mask).1.margin = s.margin ∧ (renewLeases s v mask).1.vis = s.vis ∧ (renewLeases s v mask).1.eps = s.eps ∧ (renewLeases s v mask).1.nibs = s.nibs ∧ (renewLeases s v mask).1.qps = s.qps ∧ (renewLeases s v mask).1.pcie = s.pcie ∧ (renewLeases s v mask).1.ink = s.ink := by
  simp [renewLeases, startLease_keeps _ _]

theorem transferDb_keeps (s : State) (v : RingId) (value : Word) : KeepsBoard (transferDb s v value) s ∧ (transferDb s v value).regs = s.regs ∧ (transferDb s v value).blot = s.blot ∧ (transferDb s v value).power = s.power ∧ (transferDb s v value).pd = s.pd ∧ (transferDb s v value).devices = s.devices ∧ (transferDb s v value).cviews = s.cviews ∧ (transferDb s v value).cports = s.cports ∧ (transferDb s v value).ligs = s.ligs ∧ (transferDb s v value).func = s.func := by
  generalize h : transferDb s v value = t; unfold transferDb at h; dsimp only at h; (repeat' split at h) <;> (subst h; simp [*, advance_keeps _ _, ignoreDb_keeps _ _, setEp_keeps _ _ _, startFetch_keeps _ _ _, wakeSource_keeps _])

theorem doorbell_keeps (s : State) (v : RingId) (off : Nat) (value : Word) : KeepsBoard (doorbell s v off value) s ∧ (doorbell s v off value).regs = s.regs ∧ (doorbell s v off value).blot = s.blot ∧ (doorbell s v off value).power = s.power ∧ (doorbell s v off value).pd = s.pd ∧ (doorbell s v off value).devices = s.devices ∧ (doorbell s v off value).cviews = s.cviews ∧ (doorbell s v off value).cports = s.cports ∧ (doorbell s v off value).ligs = s.ligs ∧ (doorbell s v off value).func = s.func := by
  generalize h : doorbell s v off value = t; unfold doorbell at h; (repeat' split at h) <;> (subst h; simp [*, cmdDb_keeps _ _ _, evtDb_keeps _ _ _, ignoreDb_keeps _ _, renewLeases_keeps _ _ _, transferDb_keeps _ _ _])

theorem reachNotice_keeps (s : State) (v : RingId) (entered : Bool) (cause : Nat) : KeepsBoard (reachNotice s v entered cause) s ∧ KeepsPorts (reachNotice s v entered cause) s ∧ KeepsHosts (reachNotice s v entered cause) s ∧ (reachNotice s v entered cause).out = s.out ∧ (reachNotice s v entered cause).pcie = s.pcie := by
  simp [reachNotice, notice_keeps _ _ _ _ _ _ _]

theorem enterUnreachable_keeps (s : State) (v : RingId) (cause : Nat) : KeepsBoard (enterUnreachable s v cause) s ∧ KeepsPorts (enterUnreachable s v cause) s := by
  generalize h : enterUnreachable s v cause = t; unfold enterUnreachable at h; (repeat' split at h) <;> (subst h; simp [*, reachNotice_keeps _ _ _ _, record_keeps _ _ _ _ _ _ _, refreshAges_keeps _, runHead_keeps _ _ _, setVi_keeps _ _ _])

theorem leaveUnreachable_keeps (s : State) (v : RingId) (cause : Nat) : KeepsBoard (leaveUnreachable s v cause) s ∧ KeepsPorts (leaveUnreachable s v cause) s ∧ (leaveUnreachable s v cause).out = s.out ∧ (leaveUnreachable s v cause).nibs = s.nibs ∧ (leaveUnreachable s v cause).qps = s.qps ∧ (leaveUnreachable s v cause).pcie = s.pcie ∧ (leaveUnreachable s v cause).ink = s.ink := by
  generalize h : leaveUnreachable s v cause = t; unfold leaveUnreachable at h; (repeat' split at h) <;> (subst h; simp [*, homeStamp_keeps _ _, reachNotice_keeps _ _ _ _, refreshAges_keeps _, setVi_keeps _ _ _])

theorem transportLost_keeps (s : State) (v : RingId) : KeepsBoard (transportLost s v) s ∧ (transportLost s v).out = s.out ∧ (transportLost s v).freeCtr = s.freeCtr ∧ (transportLost s v).modes = s.modes ∧ (transportLost s v).blot = s.blot ∧ (transportLost s v).power = s.power ∧ (transportLost s v).pd = s.pd ∧ (transportLost s v).devices = s.devices ∧ (transportLost s v).eps = s.eps ∧ (transportLost s v).qps = s.qps ∧ (transportLost s v).pcie = s.pcie ∧ (transportLost s v).cviews = s.cviews ∧ (transportLost s v).cports = s.cports ∧ (transportLost s v).ligs = s.ligs ∧ (transportLost s v).func = s.func := by
  simp [transportLost, dropNibCmds_keeps _ _, forfeit_keeps _ _, resetPage_keeps _ _, ringsGone_keeps _ _, setVi_keeps _ _ _]

theorem freeSlot_keeps (s : State) (q : Fin 128) (cause : Nat) : KeepsBoard (freeSlot s q cause) s ∧ KeepsPorts (freeSlot s q cause) s ∧ (freeSlot s q cause).out = s.out ∧ (freeSlot s q cause).limits = s.limits ∧ (freeSlot s q cause).rcSpi = s.rcSpi ∧ (freeSlot s q cause).rcPf = s.rcPf ∧ (freeSlot s q cause).pal = s.pal ∧ (freeSlot s q cause).margin = s.margin ∧ (freeSlot s q cause).own = s.own ∧ (freeSlot s q cause).vis = s.vis ∧ (freeSlot s q cause).eps = s.eps ∧ (freeSlot s q cause).nibs = s.nibs ∧ (freeSlot s q cause).pcie = s.pcie ∧ (freeSlot s q cause).ink = s.ink := by
  simp [freeSlot, setQp_keeps _ _ _]

theorem slotError_keeps (s : State) (q : Fin 128) (cause : Nat) : KeepsBoard (slotError s q cause) s ∧ (slotError s q cause).out = s.out ∧ (slotError s q cause).freeCtr = s.freeCtr ∧ (slotError s q cause).modes = s.modes ∧ (slotError s q cause).blot = s.blot ∧ (slotError s q cause).power = s.power ∧ (slotError s q cause).pd = s.pd ∧ (slotError s q cause).devices = s.devices ∧ (slotError s q cause).eps = s.eps ∧ (slotError s q cause).pcie = s.pcie ∧ (slotError s q cause).cviews = s.cviews ∧ (slotError s q cause).cports = s.cports ∧ (slotError s q cause).ligs = s.ligs ∧ (slotError s q cause).func = s.func := by
  generalize h : slotError s q cause = t; unfold slotError at h; (repeat' split at h) <;> (subst h; simp [*, setQp_keeps _ _ _, transportLost_keeps _ _])

theorem disconnectSlot_keeps (s : State) (q : Fin 128) (cause : Nat) : KeepsBoard (disconnectSlot s q cause) s ∧ (disconnectSlot s q cause).out = s.out ∧ (disconnectSlot s q cause).freeCtr = s.freeCtr ∧ (disconnectSlot s q cause).modes = s.modes ∧ (disconnectSlot s q cause).blot = s.blot ∧ (disconnectSlot s q cause).power = s.power ∧ (disconnectSlot s q cause).pd = s.pd ∧ (disconnectSlot s q cause).devices = s.devices ∧ (disconnectSlot s q cause).eps = s.eps ∧ (disconnectSlot s q cause).pcie = s.pcie ∧ (disconnectSlot s q cause).cviews = s.cviews ∧ (disconnectSlot s q cause).cports = s.cports ∧ (disconnectSlot s q cause).ligs = s.ligs ∧ (disconnectSlot s q cause).func = s.func := by
  generalize h : disconnectSlot s q cause = t; unfold disconnectSlot at h; (repeat' split at h) <;> (subst h; simp [*, freeSlot_keeps _ _ _, setVi_keeps _ _ _, transportLost_keeps _ _])

theorem unbindVi_keeps (s : State) (v : RingId) : (unbindVi s v).now = s.now ∧ (unbindVi s v).pending = s.pending ∧ (unbindVi s v).freeCtr = s.freeCtr ∧ (unbindVi s v).folioOn = s.folioOn ∧ (unbindVi s v).strokeBase = s.strokeBase ∧ (unbindVi s v).resyncAt = s.resyncAt ∧ (unbindVi s v).pairs = s.pairs ∧ (unbindVi s v).writes = s.writes ∧ (unbindVi s v).staged = s.staged ∧ (unbindVi s v).rubric = s.rubric ∧ (unbindVi s v).trustBySpi = s.trustBySpi ∧ (unbindVi s v).trustConfigured = s.trustConfigured ∧ (unbindVi s v).link = s.link ∧ (unbindVi s v).localEvents = s.localEvents ∧ (unbindVi s v).localLost = s.localLost ∧ (unbindVi s v).disc = s.disc ∧ (unbindVi s v).clusters = s.clusters ∧ (unbindVi s v).engines = s.engines ∧ (unbindVi s v).regionTemp = s.regionTemp ∧ (unbindVi s v).lanes = s.lanes ∧ (unbindVi s v).modes = s.modes ∧ (unbindVi s v).img = s.img ∧ (unbindVi s v).nor = s.nor ∧ (unbindVi s v).blot = s.blot ∧ (unbindVi s v).sealUnit = s.sealUnit ∧ (unbindVi s v).input = s.input ∧ (unbindVi s v).vauxOk = s.vauxOk ∧ (unbindVi s v).power = s.power ∧ (unbindVi s v).pd = s.pd ∧ (unbindVi s v).ptp = s.ptp ∧ (unbindVi s v).devices = s.devices ∧ (unbindVi s v).eps = s.eps ∧ (unbindVi s v).eth = s.eth ∧ (unbindVi s v).prp = s.prp ∧ (unbindVi s v).pcie = s.pcie ∧ (unbindVi s v).cviews = s.cviews ∧ (unbindVi s v).cports = s.cports ∧ (unbindVi s v).ligs = s.ligs ∧ (unbindVi s v).func = s.func ∧ (unbindVi s v).pins = s.pins := by
  generalize h : unbindVi s v = t; unfold unbindVi at h; dsimp only at h; (repeat' split at h) <;> (subst h; simp [*, emit_keeps _ _, freeSlot_keeps _ _ _, setVi_keeps _ _ _, tlFreeRun_keeps _ _, transportLost_keeps _ _])

end Sys2Proof.Machine
end

