-- ==== Sys2Proof/Laws/FrameAdmission.lean ====
section
/-! SUPPORT. What the operations of Machine/Admission.lean leave as it was: one lemma for each, over every input, and over every outcome of it.
A proof names the ones it needs, each applied: simp [op_keeps _ _] rewrites every field that op leaves. -/

namespace Sys2Proof.Machine

theorem allocCtx_keeps (s : State) : KeepsBoard (allocCtx s).1 s ∧ KeepsHosts (allocCtx s).1 s ∧ (allocCtx s).1.out = s.out ∧ (allocCtx s).1.limits = s.limits ∧ (allocCtx s).1.regs = s.regs ∧ (allocCtx s).1.rcSpi = s.rcSpi ∧ (allocCtx s).1.rcPf = s.rcPf ∧ (allocCtx s).1.pal = s.pal ∧ (allocCtx s).1.margin = s.margin ∧ (allocCtx s).1.modes = s.modes ∧ (allocCtx s).1.blot = s.blot ∧ (allocCtx s).1.power = s.power ∧ (allocCtx s).1.pd = s.pd ∧ (allocCtx s).1.devices = s.devices ∧ (allocCtx s).1.pcie = s.pcie ∧ (allocCtx s).1.cvis = s.cvis ∧ (allocCtx s).1.cviews = s.cviews ∧ (allocCtx s).1.cports = s.cports ∧ (allocCtx s).1.ligs = s.ligs ∧ (allocCtx s).1.func = s.func := by
  simp [allocCtx, draw_keeps _]

theorem refuseAdmission_keeps (s : State) (n : PortId) (v : RingId) (resource ctx : Nat) : KeepsBoard (refuseAdmission s n v resource ctx) s ∧ KeepsPorts (refuseAdmission s n v resource ctx) s ∧ KeepsHosts (refuseAdmission s n v resource ctx) s ∧ (refuseAdmission s n v resource ctx).out = s.out ∧ (refuseAdmission s n v resource ctx).limits = s.limits ∧ (refuseAdmission s n v resource ctx).margin = s.margin ∧ (refuseAdmission s n v resource ctx).pcie = s.pcie := by
  simp [refuseAdmission, rcCount_keeps _ _ _, record_keeps _ _ _ _ _ _ _]

end Sys2Proof.Machine
end

