-- ==== Sys2Proof/Laws/FramePalimpsestCmds.lean ====
section
/-! SUPPORT. What the operations of Machine/PalimpsestCmds.lean leave as it was: one lemma for each, over every input, and over every outcome of it.
A proof names the ones it needs, each applied: simp [op_keeps _ _] rewrites every field that op leaves. -/

namespace Sys2Proof.Machine

theorem palFreeze_keeps (s : State) (p : Path) : KeepsBoard (palFreeze s p) s ∧ KeepsPorts (palFreeze s p) s ∧ KeepsHosts (palFreeze s p) s ∧ (palFreeze s p).out = s.out ∧ (palFreeze s p).pcie = s.pcie := by
  simp [palFreeze, marker_keeps _ _ _ _]

theorem palUnfreeze_keeps (s : State) (p : Path) : KeepsBoard (palUnfreeze s p) s ∧ KeepsPorts (palUnfreeze s p) s ∧ KeepsHosts (palUnfreeze s p) s ∧ (palUnfreeze s p).out = s.out ∧ (palUnfreeze s p).pcie = s.pcie := by
  simp [palUnfreeze, marker_keeps _ _ _ _]

theorem palVerify_keeps (s : State) : KeepsBoard (palVerify s) s ∧ KeepsPorts (palVerify s) s ∧ KeepsHosts (palVerify s) s ∧ (palVerify s).out = s.out ∧ (palVerify s).limits = s.limits ∧ (palVerify s).rcSpi = s.rcSpi ∧ (palVerify s).rcPf = s.rcPf ∧ (palVerify s).margin = s.margin ∧ (palVerify s).pcie = s.pcie := by
  simp [palVerify]

theorem startLoad_keeps (s : State) : KeepsBoard (startLoad s) s ∧ KeepsPorts (startLoad s) s ∧ KeepsHosts (startLoad s) s ∧ (startLoad s).out = s.out ∧ (startLoad s).limits = s.limits ∧ (startLoad s).rcSpi = s.rcSpi ∧ (startLoad s).rcPf = s.rcPf ∧ (startLoad s).margin = s.margin ∧ (startLoad s).pcie = s.pcie := by
  simp [startLoad]

theorem palNext_keeps (s : State) : KeepsBoard (palNext s) s ∧ KeepsHosts (palNext s) s ∧ (palNext s).out = s.out ∧ (palNext s).freeCtr = s.freeCtr ∧ (palNext s).limits = s.limits ∧ (palNext s).rcSpi = s.rcSpi ∧ (palNext s).rcPf = s.rcPf ∧ (palNext s).margin = s.margin ∧ (palNext s).modes = s.modes ∧ (palNext s).blot = s.blot ∧ (palNext s).power = s.power ∧ (palNext s).pd = s.pd ∧ (palNext s).devices = s.devices ∧ (palNext s).pcie = s.pcie ∧ (palNext s).cvis = s.cvis ∧ (palNext s).cviews = s.cviews ∧ (palNext s).cports = s.cports ∧ (palNext s).ligs = s.ligs ∧ (palNext s).func = s.func := by
  generalize h : palNext s = t; unfold palNext at h; dsimp only at h; (repeat' split at h) <;> (subst h; simp [*, setReg_keeps _ _ _, startLoad_keeps _])

theorem palPrev_keeps (s : State) : KeepsBoard (palPrev s) s ∧ KeepsHosts (palPrev s) s ∧ (palPrev s).out = s.out ∧ (palPrev s).freeCtr = s.freeCtr ∧ (palPrev s).limits = s.limits ∧ (palPrev s).rcSpi = s.rcSpi ∧ (palPrev s).rcPf = s.rcPf ∧ (palPrev s).margin = s.margin ∧ (palPrev s).modes = s.modes ∧ (palPrev s).blot = s.blot ∧ (palPrev s).power = s.power ∧ (palPrev s).pd = s.pd ∧ (palPrev s).devices = s.devices ∧ (palPrev s).pcie = s.pcie ∧ (palPrev s).cvis = s.cvis ∧ (palPrev s).cviews = s.cviews ∧ (palPrev s).cports = s.cports ∧ (palPrev s).ligs = s.ligs ∧ (palPrev s).func = s.func := by
  generalize h : palPrev s = t; unfold palPrev at h; dsimp only at h; (repeat' split at h) <;> (subst h; simp [*, setReg_keeps _ _ _, startLoad_keeps _])

end Sys2Proof.Machine
end

