-- ==== Sys2Proof/Laws/FrameInputCmds.lean ====
section
/-! SUPPORT. What the operations of Machine/InputCmds.lean leave as it was: one lemma for each, over every input, and over every outcome of it.
A proof names the ones it needs, each applied: simp [op_keeps _ _] rewrites every field that op leaves. -/

namespace Sys2Proof.Machine

theorem setInput_keeps (s : State) (f : InputPath → InputPath) : KeepsPorts (setInput s f) s ∧ KeepsHosts (setInput s f) s ∧ (setInput s f).now = s.now ∧ (setInput s f).pending = s.pending ∧ (setInput s f).out = s.out ∧ (setInput s f).limits = s.limits ∧ (setInput s f).folioOn = s.folioOn ∧ (setInput s f).strokeBase = s.strokeBase ∧ (setInput s f).resyncAt = s.resyncAt ∧ (setInput s f).rcSpi = s.rcSpi ∧ (setInput s f).rcPf = s.rcPf ∧ (setInput s f).pairs = s.pairs ∧ (setInput s f).writes = s.writes ∧ (setInput s f).staged = s.staged ∧ (setInput s f).rubric = s.rubric ∧ (setInput s f).trustBySpi = s.trustBySpi ∧ (setInput s f).trustConfigured = s.trustConfigured ∧ (setInput s f).link = s.link ∧ (setInput s f).localEvents = s.localEvents ∧ (setInput s f).localLost = s.localLost ∧ (setInput s f).pal = s.pal ∧ (setInput s f).margin = s.margin ∧ (setInput s f).disc = s.disc ∧ (setInput s f).clusters = s.clusters ∧ (setInput s f).engines = s.engines ∧ (setInput s f).regionTemp = s.regionTemp ∧ (setInput s f).lanes = s.lanes ∧ (setInput s f).img = s.img ∧ (setInput s f).nor = s.nor ∧ (setInput s f).sealUnit = s.sealUnit ∧ (setInput s f).vauxOk = s.vauxOk ∧ (setInput s f).ptp = s.ptp ∧ (setInput s f).eth = s.eth ∧ (setInput s f).prp = s.prp ∧ (setInput s f).pcie = s.pcie ∧ (setInput s f).timelines = s.timelines ∧ (setInput s f).pins = s.pins := by
  simp [setInput]

theorem powerEvent_keeps (s : State) (lo : Nat) : KeepsBoard (powerEvent s lo) s ∧ KeepsPorts (powerEvent s lo) s ∧ KeepsHosts (powerEvent s lo) s ∧ (powerEvent s lo).out = s.out ∧ (powerEvent s lo).limits = s.limits ∧ (powerEvent s lo).pal = s.pal ∧ (powerEvent s lo).margin = s.margin ∧ (powerEvent s lo).pcie = s.pcie := by
  generalize h : powerEvent s lo = t; unfold powerEvent at h; (repeat' split at h) <;> (subst h; simp [*, rcCount_keeps _ _ _])

theorem startInrush_keeps (s : State) (vin : Nat) : KeepsHosts (startInrush s vin) s ∧ (startInrush s vin).now = s.now ∧ (startInrush s vin).pending = s.pending ∧ (startInrush s vin).out = s.out ∧ (startInrush s vin).freeCtr = s.freeCtr ∧ (startInrush s vin).limits = s.limits ∧ (startInrush s vin).folioOn = s.folioOn ∧ (startInrush s vin).strokeBase = s.strokeBase ∧ (startInrush s vin).resyncAt = s.resyncAt ∧ (startInrush s vin).regs = s.regs ∧ (startInrush s vin).rcSpi = s.rcSpi ∧ (startInrush s vin).rcPf = s.rcPf ∧ (startInrush s vin).pairs = s.pairs ∧ (startInrush s vin).writes = s.writes ∧ (startInrush s vin).staged = s.staged ∧ (startInrush s vin).rubric = s.rubric ∧ (startInrush s vin).trustBySpi = s.trustBySpi ∧ (startInrush s vin).trustConfigured = s.trustConfigured ∧ (startInrush s vin).link = s.link ∧ (startInrush s vin).localEvents = s.localEvents ∧ (startInrush s vin).localLost = s.localLost ∧ (startInrush s vin).pal = s.pal ∧ (startInrush s vin).margin = s.margin ∧ (startInrush s vin).disc = s.disc ∧ (startInrush s vin).clusters = s.clusters ∧ (startInrush s vin).engines = s.engines ∧ (startInrush s vin).regionTemp = s.regionTemp ∧ (startInrush s vin).lanes = s.lanes ∧ (startInrush s vin).img = s.img ∧ (startInrush s vin).nor = s.nor ∧ (startInrush s vin).blot = s.blot ∧ (startInrush s vin).sealUnit = s.sealUnit ∧ (startInrush s vin).vauxOk = s.vauxOk ∧ (startInrush s vin).power = s.power ∧ (startInrush s vin).pd = s.pd ∧ (startInrush s vin).ptp = s.ptp ∧ (startInrush s vin).devices = s.devices ∧ (startInrush s vin).eth = s.eth ∧ (startInrush s vin).prp = s.prp ∧ (startInrush s vin).pcie = s.pcie ∧ (startInrush s vin).timelines = s.timelines ∧ (startInrush s vin).cvis = s.cvis ∧ (startInrush s vin).cviews = s.cviews ∧ (startInrush s vin).cports = s.cports ∧ (startInrush s vin).ligs = s.ligs ∧ (startInrush s vin).func = s.func ∧ (startInrush s vin).pins = s.pins := by
  simp [startInrush, followInput_keeps _, setInput_keeps _ _]

theorem reseat_keeps (s : State) : KeepsHosts (reseat s) s ∧ (reseat s).now = s.now ∧ (reseat s).pending = s.pending ∧ (reseat s).out = s.out ∧ (reseat s).freeCtr = s.freeCtr ∧ (reseat s).limits = s.limits ∧ (reseat s).folioOn = s.folioOn ∧ (reseat s).strokeBase = s.strokeBase ∧ (reseat s).resyncAt = s.resyncAt ∧ (reseat s).regs = s.regs ∧ (reseat s).rcSpi = s.rcSpi ∧ (reseat s).rcPf = s.rcPf ∧ (reseat s).pairs = s.pairs ∧ (reseat s).writes = s.writes ∧ (reseat s).staged = s.staged ∧ (reseat s).rubric = s.rubric ∧ (reseat s).trustBySpi = s.trustBySpi ∧ (reseat s).trustConfigured = s.trustConfigured ∧ (reseat s).link = s.link ∧ (reseat s).localEvents = s.localEvents ∧ (reseat s).localLost = s.localLost ∧ (reseat s).pal = s.pal ∧ (reseat s).margin = s.margin ∧ (reseat s).disc = s.disc ∧ (reseat s).clusters = s.clusters ∧ (reseat s).engines = s.engines ∧ (reseat s).regionTemp = s.regionTemp ∧ (reseat s).lanes = s.lanes ∧ (reseat s).img = s.img ∧ (reseat s).nor = s.nor ∧ (reseat s).blot = s.blot ∧ (reseat s).sealUnit = s.sealUnit ∧ (reseat s).vauxOk = s.vauxOk ∧ (reseat s).power = s.power ∧ (reseat s).pd = s.pd ∧ (reseat s).ptp = s.ptp ∧ (reseat s).devices = s.devices ∧ (reseat s).eth = s.eth ∧ (reseat s).prp = s.prp ∧ (reseat s).pcie = s.pcie ∧ (reseat s).timelines = s.timelines ∧ (reseat s).cvis = s.cvis ∧ (reseat s).cviews = s.cviews ∧ (reseat s).cports = s.cports ∧ (reseat s).ligs = s.ligs ∧ (reseat s).func = s.func ∧ (reseat s).pins = s.pins := by
  simp [reseat, followInput_keeps _, setInput_keeps _ _]

theorem loseInput_keeps (s : State) (cause : Nat) : (loseInput s cause).now = s.now ∧ (loseInput s cause).pending = s.pending ∧ (loseInput s cause).freeCtr = s.freeCtr ∧ (loseInput s cause).folioOn = s.folioOn ∧ (loseInput s cause).strokeBase = s.strokeBase ∧ (loseInput s cause).resyncAt = s.resyncAt ∧ (loseInput s cause).regs = s.regs ∧ (loseInput s cause).pairs = s.pairs ∧ (loseInput s cause).writes = s.writes ∧ (loseInput s cause).staged = s.staged ∧ (loseInput s cause).rubric = s.rubric ∧ (loseInput s cause).trustBySpi = s.trustBySpi ∧ (loseInput s cause).trustConfigured = s.trustConfigured ∧ (loseInput s cause).link = s.link ∧ (loseInput s cause).disc = s.disc ∧ (loseInput s cause).clusters = s.clusters ∧ (loseInput s cause).engines = s.engines ∧ (loseInput s cause).regionTemp = s.regionTemp ∧ (loseInput s cause).lanes = s.lanes ∧ (loseInput s cause).nor = s.nor ∧ (loseInput s cause).blot = s.blot ∧ (loseInput s cause).sealUnit = s.sealUnit ∧ (loseInput s cause).vauxOk = s.vauxOk ∧ (loseInput s cause).ptp = s.ptp ∧ (loseInput s cause).eth = s.eth ∧ (loseInput s cause).prp = s.prp ∧ (loseInput s cause).timelines = s.timelines ∧ (loseInput s cause).ligs = s.ligs ∧ (loseInput s cause).pins = s.pins := by
  simp [loseInput, enterHoldup_keeps _, followInput_keeps _, powerEvent_keeps _ _, recordRes_keeps _ _ _ _ _ _ _, setInput_keeps _ _]

theorem tripInput_keeps (s : State) (cause : Nat) : (tripInput s cause).now = s.now ∧ (tripInput s cause).pending = s.pending ∧ (tripInput s cause).freeCtr = s.freeCtr ∧ (tripInput s cause).folioOn = s.folioOn ∧ (tripInput s cause).strokeBase = s.strokeBase ∧ (tripInput s cause).resyncAt = s.resyncAt ∧ (tripInput s cause).regs = s.regs ∧ (tripInput s cause).pairs = s.pairs ∧ (tripInput s cause).writes = s.writes ∧ (tripInput s cause).staged = s.staged ∧ (tripInput s cause).rubric = s.rubric ∧ (tripInput s cause).trustBySpi = s.trustBySpi ∧ (tripInput s cause).trustConfigured = s.trustConfigured ∧ (tripInput s cause).link = s.link ∧ (tripInput s cause).disc = s.disc ∧ (tripInput s cause).clusters = s.clusters ∧ (tripInput s cause).engines = s.engines ∧ (tripInput s cause).regionTemp = s.regionTemp ∧ (tripInput s cause).lanes = s.lanes ∧ (tripInput s cause).nor = s.nor ∧ (tripInput s cause).blot = s.blot ∧ (tripInput s cause).sealUnit = s.sealUnit ∧ (tripInput s cause).vauxOk = s.vauxOk ∧ (tripInput s cause).ptp = s.ptp ∧ (tripInput s cause).eth = s.eth ∧ (tripInput s cause).prp = s.prp ∧ (tripInput s cause).timelines = s.timelines ∧ (tripInput s cause).ligs = s.ligs ∧ (tripInput s cause).pins = s.pins := by
  simp [tripInput, enterHoldup_keeps _, followInput_keeps _, powerEvent_keeps _ _, recordRes_keeps _ _ _ _ _ _ _, setInput_keeps _ _]

theorem heatCause_keeps (s : State) : KeepsBoard (heatCause s) s ∧ KeepsHosts (heatCause s) s ∧ (heatCause s).out = s.out ∧ (heatCause s).freeCtr = s.freeCtr ∧ (heatCause s).limits = s.limits ∧ (heatCause s).regs = s.regs ∧ (heatCause s).rcSpi = s.rcSpi ∧ (heatCause s).rcPf = s.rcPf ∧ (heatCause s).pal = s.pal ∧ (heatCause s).margin = s.margin ∧ (heatCause s).modes = s.modes ∧ (heatCause s).power = s.power ∧ (heatCause s).pd = s.pd ∧ (heatCause s).devices = s.devices ∧ (heatCause s).pcie = s.pcie ∧ (heatCause s).cvis = s.cvis ∧ (heatCause s).cviews = s.cviews ∧ (heatCause s).cports = s.cports ∧ (heatCause s).ligs = s.ligs ∧ (heatCause s).func = s.func := by
  simp [heatCause]

theorem collapseReservoir_keeps (s : State) : KeepsHosts (collapseReservoir s) s ∧ (collapseReservoir s).now = s.now ∧ (collapseReservoir s).pending = s.pending ∧ (collapseReservoir s).out = s.out ∧ (collapseReservoir s).freeCtr = s.freeCtr ∧ (collapseReservoir s).limits = s.limits ∧ (collapseReservoir s).folioOn = s.folioOn ∧ (collapseReservoir s).strokeBase = s.strokeBase ∧ (collapseReservoir s).resyncAt = s.resyncAt ∧ (collapseReservoir s).rcSpi = s.rcSpi ∧ (collapseReservoir s).rcPf = s.rcPf ∧ (collapseReservoir s).pairs = s.pairs ∧ (collapseReservoir s).writes = s.writes ∧ (collapseReservoir s).staged = s.staged ∧ (collapseReservoir s).rubric = s.rubric ∧ (collapseReservoir s).trustBySpi = s.trustBySpi ∧ (collapseReservoir s).trustConfigured = s.trustConfigured ∧ (collapseReservoir s).link = s.link ∧ (collapseReservoir s).pal = s.pal ∧ (collapseReservoir s).margin = s.margin ∧ (collapseReservoir s).disc = s.disc ∧ (collapseReservoir s).clusters = s.clusters ∧ (collapseReservoir s).engines = s.engines ∧ (collapseReservoir s).regionTemp = s.regionTemp ∧ (collapseReservoir s).lanes = s.lanes ∧ (collapseReservoir s).img = s.img ∧ (collapseReservoir s).nor = s.nor ∧ (collapseReservoir s).sealUnit = s.sealUnit ∧ (collapseReservoir s).pd = s.pd ∧ (collapseReservoir s).ptp = s.ptp ∧ (collapseReservoir s).devices = s.devices ∧ (collapseReservoir s).eth = s.eth ∧ (collapseReservoir s).prp = s.prp ∧ (collapseReservoir s).pcie = s.pcie ∧ (collapseReservoir s).timelines = s.timelines ∧ (collapseReservoir s).cvis = s.cvis ∧ (collapseReservoir s).cviews = s.cviews ∧ (collapseReservoir s).cports = s.cports ∧ (collapseReservoir s).ligs = s.ligs ∧ (collapseReservoir s).func = s.func ∧ (collapseReservoir s).pins = s.pins := by
  simp [collapseReservoir, followInput_keeps _, heatCause_keeps _, passCause_keeps _]

theorem inputClear_keeps (s : State) : KeepsHosts (inputClear s) s ∧ (inputClear s).now = s.now ∧ (inputClear s).pending = s.pending ∧ (inputClear s).out = s.out ∧ (inputClear s).freeCtr = s.freeCtr ∧ (inputClear s).limits = s.limits ∧ (inputClear s).folioOn = s.folioOn ∧ (inputClear s).strokeBase = s.strokeBase ∧ (inputClear s).resyncAt = s.resyncAt ∧ (inputClear s).regs = s.regs ∧ (inputClear s).rcSpi = s.rcSpi ∧ (inputClear s).rcPf = s.rcPf ∧ (inputClear s).pairs = s.pairs ∧ (inputClear s).writes = s.writes ∧ (inputClear s).staged = s.staged ∧ (inputClear s).rubric = s.rubric ∧ (inputClear s).trustBySpi = s.trustBySpi ∧ (inputClear s).trustConfigured = s.trustConfigured ∧ (inputClear s).link = s.link ∧ (inputClear s).localEvents = s.localEvents ∧ (inputClear s).localLost = s.localLost ∧ (inputClear s).pal = s.pal ∧ (inputClear s).margin = s.margin ∧ (inputClear s).disc = s.disc ∧ (inputClear s).clusters = s.clusters ∧ (inputClear s).engines = s.engines ∧ (inputClear s).regionTemp = s.regionTemp ∧ (inputClear s).lanes = s.lanes ∧ (inputClear s).img = s.img ∧ (inputClear s).nor = s.nor ∧ (inputClear s).blot = s.blot ∧ (inputClear s).sealUnit = s.sealUnit ∧ (inputClear s).vauxOk = s.vauxOk ∧ (inputClear s).power = s.power ∧ (inputClear s).pd = s.pd ∧ (inputClear s).ptp = s.ptp ∧ (inputClear s).devices = s.devices ∧ (inputClear s).eth = s.eth ∧ (inputClear s).prp = s.prp ∧ (inputClear s).pcie = s.pcie ∧ (inputClear s).timelines = s.timelines ∧ (inputClear s).cvis = s.cvis ∧ (inputClear s).cviews = s.cviews ∧ (inputClear s).cports = s.cports ∧ (inputClear s).ligs = s.ligs ∧ (inputClear s).func = s.func ∧ (inputClear s).pins = s.pins := by
  generalize h : inputClear s = t; unfold inputClear at h; (repeat' split at h) <;> (subst h; simp [*, reseat_keeps _])

theorem inputFetClear_keeps (s : State) : KeepsPorts (inputFetClear s) s ∧ KeepsHosts (inputFetClear s) s ∧ (inputFetClear s).now = s.now ∧ (inputFetClear s).pending = s.pending ∧ (inputFetClear s).out = s.out ∧ (inputFetClear s).limits = s.limits ∧ (inputFetClear s).folioOn = s.folioOn ∧ (inputFetClear s).strokeBase = s.strokeBase ∧ (inputFetClear s).resyncAt = s.resyncAt ∧ (inputFetClear s).rcSpi = s.rcSpi ∧ (inputFetClear s).rcPf = s.rcPf ∧ (inputFetClear s).pairs = s.pairs ∧ (inputFetClear s).writes = s.writes ∧ (inputFetClear s).staged = s.staged ∧ (inputFetClear s).rubric = s.rubric ∧ (inputFetClear s).trustBySpi = s.trustBySpi ∧ (inputFetClear s).trustConfigured = s.trustConfigured ∧ (inputFetClear s).link = s.link ∧ (inputFetClear s).localEvents = s.localEvents ∧ (inputFetClear s).localLost = s.localLost ∧ (inputFetClear s).pal = s.pal ∧ (inputFetClear s).margin = s.margin ∧ (inputFetClear s).disc = s.disc ∧ (inputFetClear s).clusters = s.clusters ∧ (inputFetClear s).engines = s.engines ∧ (inputFetClear s).regionTemp = s.regionTemp ∧ (inputFetClear s).lanes = s.lanes ∧ (inputFetClear s).img = s.img ∧ (inputFetClear s).nor = s.nor ∧ (inputFetClear s).sealUnit = s.sealUnit ∧ (inputFetClear s).vauxOk = s.vauxOk ∧ (inputFetClear s).ptp = s.ptp ∧ (inputFetClear s).eth = s.eth ∧ (inputFetClear s).prp = s.prp ∧ (inputFetClear s).pcie = s.pcie ∧ (inputFetClear s).timelines = s.timelines ∧ (inputFetClear s).pins = s.pins := by
  generalize h : inputFetClear s = t; unfold inputFetClear at h; (repeat' split at h) <;> (subst h; simp [*, setInput_keeps _ _])

theorem flushAfterSheds_keeps (s : State) : KeepsBoard (flushAfterSheds s) s ∧ KeepsPorts (flushAfterSheds s) s ∧ KeepsHosts (flushAfterSheds s) s ∧ (flushAfterSheds s).out = s.out ∧ (flushAfterSheds s).limits = s.limits ∧ (flushAfterSheds s).margin = s.margin ∧ (flushAfterSheds s).pcie = s.pcie := by
  generalize h : flushAfterSheds s = t; unfold flushAfterSheds at h; (repeat' split at h) <;> (subst h; simp [*, startFlush_keeps _])

end Sys2Proof.Machine
end

