-- ==== Sys2Proof/Laws/FramePathCmds.lean ====
section
/-! SUPPORT. What the operations of Machine/PathCmds.lean leave as it was: one lemma for each, over every input, and over every outcome of it.
A proof names the ones it needs, each applied: simp [op_keeps _ _] rewrites every field that op leaves. -/

namespace Sys2Proof.Machine

theorem vconnWith_keeps (s : State) (n : PortId) : KeepsBoard (vconnWith s n) s ∧ KeepsHosts (vconnWith s n) s ∧ (vconnWith s n).out = s.out ∧ (vconnWith s n).freeCtr = s.freeCtr ∧ (vconnWith s n).limits = s.limits ∧ (vconnWith s n).regs = s.regs ∧ (vconnWith s n).rcSpi = s.rcSpi ∧ (vconnWith s n).rcPf = s.rcPf ∧ (vconnWith s n).pal = s.pal ∧ (vconnWith s n).margin = s.margin ∧ (vconnWith s n).modes = s.modes ∧ (vconnWith s n).blot = s.blot ∧ (vconnWith s n).power = s.power ∧ (vconnWith s n).devices = s.devices ∧ (vconnWith s n).pcie = s.pcie ∧ (vconnWith s n).cvis = s.cvis ∧ (vconnWith s n).cviews = s.cviews ∧ (vconnWith s n).cports = s.cports ∧ (vconnWith s n).ligs = s.ligs ∧ (vconnWith s n).func = s.func := by
  generalize h : vconnWith s n = t; unfold vconnWith at h; (repeat' split at h) <;> (subst h; simp [*, setPd_keeps _ _ _])

theorem gateDrive_keeps (s : State) (n : PortId) : KeepsBoard (gateDrive s n) s ∧ KeepsHosts (gateDrive s n) s ∧ (gateDrive s n).out = s.out ∧ (gateDrive s n).freeCtr = s.freeCtr ∧ (gateDrive s n).limits = s.limits ∧ (gateDrive s n).regs = s.regs ∧ (gateDrive s n).rcSpi = s.rcSpi ∧ (gateDrive s n).rcPf = s.rcPf ∧ (gateDrive s n).pal = s.pal ∧ (gateDrive s n).margin = s.margin ∧ (gateDrive s n).modes = s.modes ∧ (gateDrive s n).blot = s.blot ∧ (gateDrive s n).devices = s.devices ∧ (gateDrive s n).pcie = s.pcie ∧ (gateDrive s n).cvis = s.cvis ∧ (gateDrive s n).cviews = s.cviews ∧ (gateDrive s n).cports = s.cports ∧ (gateDrive s n).ligs = s.ligs ∧ (gateDrive s n).func = s.func := by
  simp [gateDrive, setPower_keeps _ _ _, vconnWith_keeps _ _]

theorem summed_keeps (s : State) (ch q : Nat) (x : Int) : KeepsBoard (summed s ch q x) s ∧ KeepsPorts (summed s ch q x) s ∧ KeepsHosts (summed s ch q x) s ∧ (summed s ch q x).out = s.out ∧ (summed s ch q x).limits = s.limits ∧ (summed s ch q x).rcSpi = s.rcSpi ∧ (summed s ch q x).rcPf = s.rcPf ∧ (summed s ch q x).margin = s.margin ∧ (summed s ch q x).pcie = s.pcie := by
  generalize h : summed s ch q x = t; unfold summed at h; (repeat' split at h) <;> (subst h; simp [*, sample_keeps _ _ _ _ _])

theorem samplePort_keeps (s : State) (n : PortId) (i : Int) (vbus isp mid : Nat) : KeepsBoard (samplePort s n i vbus isp mid) s ∧ KeepsHosts (samplePort s n i vbus isp mid) s ∧ (samplePort s n i vbus isp mid).out = s.out ∧ (samplePort s n i vbus isp mid).freeCtr = s.freeCtr ∧ (samplePort s n i vbus isp mid).limits = s.limits ∧ (samplePort s n i vbus isp mid).regs = s.regs ∧ (samplePort s n i vbus isp mid).rcSpi = s.rcSpi ∧ (samplePort s n i vbus isp mid).rcPf = s.rcPf ∧ (samplePort s n i vbus isp mid).margin = s.margin ∧ (samplePort s n i vbus isp mid).modes = s.modes ∧ (samplePort s n i vbus isp mid).blot = s.blot ∧ (samplePort s n i vbus isp mid).devices = s.devices ∧ (samplePort s n i vbus isp mid).pcie = s.pcie ∧ (samplePort s n i vbus isp mid).cvis = s.cvis ∧ (samplePort s n i vbus isp mid).cviews = s.cviews ∧ (samplePort s n i vbus isp mid).cports = s.cports ∧ (samplePort s n i vbus isp mid).ligs = s.ligs ∧ (samplePort s n i vbus isp mid).func = s.func := by
  simp [samplePort, setPd_keeps _ _ _, setPower_keeps _ _ _, summed_keeps _ _ _ _]

theorem tripPath_keeps (s : State) (n : PortId) (cause : Nat) (place : Nat × Nat) : (tripPath s n cause place).now = s.now ∧ (tripPath s n cause place).pending = s.pending ∧ (tripPath s n cause place).freeCtr = s.freeCtr ∧ (tripPath s n cause place).folioOn = s.folioOn ∧ (tripPath s n cause place).strokeBase = s.strokeBase ∧ (tripPath s n cause place).resyncAt = s.resyncAt ∧ (tripPath s n cause place).regs = s.regs ∧ (tripPath s n cause place).pairs = s.pairs ∧ (tripPath s n cause place).writes = s.writes ∧ (tripPath s n cause place).staged = s.staged ∧ (tripPath s n cause place).rubric = s.rubric ∧ (tripPath s n cause place).trustBySpi = s.trustBySpi ∧ (tripPath s n cause place).trustConfigured = s.trustConfigured ∧ (tripPath s n cause place).link = s.link ∧ (tripPath s n cause place).disc = s.disc ∧ (tripPath s n cause place).clusters = s.clusters ∧ (tripPath s n cause place).engines = s.engines ∧ (tripPath s n cause place).regionTemp = s.regionTemp ∧ (tripPath s n cause place).lanes = s.lanes ∧ (tripPath s n cause place).modes = s.modes ∧ (tripPath s n cause place).img = s.img ∧ (tripPath s n cause place).nor = s.nor ∧ (tripPath s n cause place).blot = s.blot ∧ (tripPath s n cause place).sealUnit = s.sealUnit ∧ (tripPath s n cause place).input = s.input ∧ (tripPath s n cause place).vauxOk = s.vauxOk ∧ (tripPath s n cause place).ptp = s.ptp ∧ (tripPath s n cause place).eth = s.eth ∧ (tripPath s n cause place).prp = s.prp ∧ (tripPath s n cause place).timelines = s.timelines ∧ (tripPath s n cause place).cvis = s.cvis ∧ (tripPath s n cause place).ligs = s.ligs ∧ (tripPath s n cause place).func = s.func ∧ (tripPath s n cause place).pins = s.pins := by
  generalize h : tripPath s n cause place = t; unfold tripPath at h; (repeat' split at h) <;> (subst h; simp [*, gateOff_keeps _ _ _ _, recordRes_keeps _ _ _ _ _ _ _, setPower_keeps _ _ _, tripPort_keeps _ _ _ _])

theorem takeTemp_keeps (s : State) (n : PortId) (temp : Int) (direct : Bool) : (takeTemp s n temp direct).now = s.now ∧ (takeTemp s n temp direct).pending = s.pending ∧ (takeTemp s n temp direct).freeCtr = s.freeCtr ∧ (takeTemp s n temp direct).folioOn = s.folioOn ∧ (takeTemp s n temp direct).strokeBase = s.strokeBase ∧ (takeTemp s n temp direct).resyncAt = s.resyncAt ∧ (takeTemp s n temp direct).regs = s.regs ∧ (takeTemp s n temp direct).pairs = s.pairs ∧ (takeTemp s n temp direct).writes = s.writes ∧ (takeTemp s n temp direct).staged = s.staged ∧ (takeTemp s n temp direct).rubric = s.rubric ∧ (takeTemp s n temp direct).trustBySpi = s.trustBySpi ∧ (takeTemp s n temp direct).trustConfigured = s.trustConfigured ∧ (takeTemp s n temp direct).link = s.link ∧ (takeTemp s n temp direct).disc = s.disc ∧ (takeTemp s n temp direct).clusters = s.clusters ∧ (takeTemp s n temp direct).engines = s.engines ∧ (takeTemp s n temp direct).regionTemp = s.regionTemp ∧ (takeTemp s n temp direct).lanes = s.lanes ∧ (takeTemp s n temp direct).modes = s.modes ∧ (takeTemp s n temp direct).img = s.img ∧ (takeTemp s n temp direct).nor = s.nor ∧ (takeTemp s n temp direct).blot = s.blot ∧ (takeTemp s n temp direct).sealUnit = s.sealUnit ∧ (takeTemp s n temp direct).input = s.input ∧ (takeTemp s n temp direct).vauxOk = s.vauxOk ∧ (takeTemp s n temp direct).ptp = s.ptp ∧ (takeTemp s n temp direct).eth = s.eth ∧ (takeTemp s n temp direct).prp = s.prp ∧ (takeTemp s n temp direct).timelines = s.timelines ∧ (takeTemp s n temp direct).cvis = s.cvis ∧ (takeTemp s n temp direct).ligs = s.ligs ∧ (takeTemp s n temp direct).func = s.func ∧ (takeTemp s n temp direct).pins = s.pins := by
  generalize h : takeTemp s n temp direct = t; unfold takeTemp at h; (repeat' split at h) <;> (subst h; simp [*, setPower_keeps _ _ _, summed_keeps _ _ _ _, tripPath_keeps _ _ _ _])

theorem holdFault_keeps (s : State) (f : HeldFault) : KeepsBoard (holdFault s f) s ∧ KeepsHosts (holdFault s f) s ∧ (holdFault s f).out = s.out ∧ (holdFault s f).freeCtr = s.freeCtr ∧ (holdFault s f).limits = s.limits ∧ (holdFault s f).regs = s.regs ∧ (holdFault s f).rcSpi = s.rcSpi ∧ (holdFault s f).rcPf = s.rcPf ∧ (holdFault s f).pal = s.pal ∧ (holdFault s f).margin = s.margin ∧ (holdFault s f).modes = s.modes ∧ (holdFault s f).power = s.power ∧ (holdFault s f).pd = s.pd ∧ (holdFault s f).devices = s.devices ∧ (holdFault s f).pcie = s.pcie ∧ (holdFault s f).cvis = s.cvis ∧ (holdFault s f).cviews = s.cviews ∧ (holdFault s f).cports = s.cports ∧ (holdFault s f).ligs = s.ligs ∧ (holdFault s f).func = s.func := by
  simp [holdFault]

theorem reportPortFet_keeps (s : State) (n : PortId) : KeepsBoard (reportPortFet s n) s ∧ (reportPortFet s n).freeCtr = s.freeCtr ∧ (reportPortFet s n).regs = s.regs ∧ (reportPortFet s n).ligs = s.ligs ∧ (reportPortFet s n).func = s.func := by
  simp [reportPortFet, enterQuarantine_keeps _ _ _, faultReport_keeps _ _ _ _ _, powerNotice_keeps _ _ _]

theorem reportInputFet_keeps (s : State) : KeepsBoard (reportInputFet s) s ∧ (reportInputFet s).freeCtr = s.freeCtr ∧ (reportInputFet s).regs = s.regs ∧ (reportInputFet s).ligs = s.ligs ∧ (reportInputFet s).func = s.func := by
  simp [reportInputFet, enterQuarantine_keeps _ _ _, faultReport_keeps _ _ _ _ _]

theorem portFetFault_keeps (s : State) (n : PortId) : (portFetFault s n).now = s.now ∧ (portFetFault s n).pending = s.pending ∧ (portFetFault s n).freeCtr = s.freeCtr ∧ (portFetFault s n).folioOn = s.folioOn ∧ (portFetFault s n).strokeBase = s.strokeBase ∧ (portFetFault s n).resyncAt = s.resyncAt ∧ (portFetFault s n).regs = s.regs ∧ (portFetFault s n).pairs = s.pairs ∧ (portFetFault s n).writes = s.writes ∧ (portFetFault s n).staged = s.staged ∧ (portFetFault s n).rubric = s.rubric ∧ (portFetFault s n).trustBySpi = s.trustBySpi ∧ (portFetFault s n).trustConfigured = s.trustConfigured ∧ (portFetFault s n).link = s.link ∧ (portFetFault s n).disc = s.disc ∧ (portFetFault s n).clusters = s.clusters ∧ (portFetFault s n).engines = s.engines ∧ (portFetFault s n).regionTemp = s.regionTemp ∧ (portFetFault s n).lanes = s.lanes ∧ (portFetFault s n).img = s.img ∧ (portFetFault s n).nor = s.nor ∧ (portFetFault s n).sealUnit = s.sealUnit ∧ (portFetFault s n).input = s.input ∧ (portFetFault s n).vauxOk = s.vauxOk ∧ (portFetFault s n).ptp = s.ptp ∧ (portFetFault s n).eth = s.eth ∧ (portFetFault s n).prp = s.prp ∧ (portFetFault s n).timelines = s.timelines ∧ (portFetFault s n).ligs = s.ligs ∧ (portFetFault s n).func = s.func ∧ (portFetFault s n).pins = s.pins := by
  generalize h : portFetFault s n = t; unfold portFetFault at h; (repeat' split at h) <;> (subst h; simp [*, holdFault_keeps _ _, passCause_keeps _, powerOffPort_keeps _ _ _, recordRes_keeps _ _ _ _ _ _ _, reportPortFet_keeps _ _, setPower_keeps _ _ _])

theorem inputFetFault_keeps (s : State) : (inputFetFault s).now = s.now ∧ (inputFetFault s).pending = s.pending ∧ (inputFetFault s).folioOn = s.folioOn ∧ (inputFetFault s).strokeBase = s.strokeBase ∧ (inputFetFault s).resyncAt = s.resyncAt ∧ (inputFetFault s).regs = s.regs ∧ (inputFetFault s).pairs = s.pairs ∧ (inputFetFault s).writes = s.writes ∧ (inputFetFault s).staged = s.staged ∧ (inputFetFault s).rubric = s.rubric ∧ (inputFetFault s).trustBySpi = s.trustBySpi ∧ (inputFetFault s).trustConfigured = s.trustConfigured ∧ (inputFetFault s).link = s.link ∧ (inputFetFault s).disc = s.disc ∧ (inputFetFault s).clusters = s.clusters ∧ (inputFetFault s).engines = s.engines ∧ (inputFetFault s).regionTemp = s.regionTemp ∧ (inputFetFault s).lanes = s.lanes ∧ (inputFetFault s).img = s.img ∧ (inputFetFault s).nor = s.nor ∧ (inputFetFault s).sealUnit = s.sealUnit ∧ (inputFetFault s).vauxOk = s.vauxOk ∧ (inputFetFault s).ptp = s.ptp ∧ (inputFetFault s).eth = s.eth ∧ (inputFetFault s).prp = s.prp ∧ (inputFetFault s).timelines = s.timelines ∧ (inputFetFault s).ligs = s.ligs ∧ (inputFetFault s).func = s.func ∧ (inputFetFault s).pins = s.pins := by
  generalize h : inputFetFault s = t; unfold inputFetFault at h; (repeat' split at h) <;> (subst h; simp [*, draw_keeps _, holdFault_keeps _ _, passCause_keeps _, recordRes_keeps _ _ _ _ _ _ _, reportInputFet_keeps _, setInput_keeps _ _])

theorem portFetClear_keeps (s : State) (n : PortId) : KeepsBoard (portFetClear s n) s ∧ KeepsHosts (portFetClear s n) s ∧ (portFetClear s n).out = s.out ∧ (portFetClear s n).freeCtr = s.freeCtr ∧ (portFetClear s n).limits = s.limits ∧ (portFetClear s n).regs = s.regs ∧ (portFetClear s n).rcSpi = s.rcSpi ∧ (portFetClear s n).rcPf = s.rcPf ∧ (portFetClear s n).pal = s.pal ∧ (portFetClear s n).margin = s.margin ∧ (portFetClear s n).modes = s.modes ∧ (portFetClear s n).blot = s.blot ∧ (portFetClear s n).pd = s.pd ∧ (portFetClear s n).devices = s.devices ∧ (portFetClear s n).pcie = s.pcie ∧ (portFetClear s n).cvis = s.cvis ∧ (portFetClear s n).cviews = s.cviews ∧ (portFetClear s n).cports = s.cports ∧ (portFetClear s n).ligs = s.ligs ∧ (portFetClear s n).func = s.func := by
  generalize h : portFetClear s n = t; unfold portFetClear at h; (repeat' split at h) <;> (subst h; simp [*, setPower_keeps _ _ _])

theorem fetClearFails_keeps (s : State) (n : PortId) : KeepsBoard (fetClearFails s n) s ∧ KeepsHosts (fetClearFails s n) s ∧ (fetClearFails s n).out = s.out ∧ (fetClearFails s n).freeCtr = s.freeCtr ∧ (fetClearFails s n).limits = s.limits ∧ (fetClearFails s n).regs = s.regs ∧ (fetClearFails s n).rcSpi = s.rcSpi ∧ (fetClearFails s n).rcPf = s.rcPf ∧ (fetClearFails s n).pal = s.pal ∧ (fetClearFails s n).margin = s.margin ∧ (fetClearFails s n).modes = s.modes ∧ (fetClearFails s n).blot = s.blot ∧ (fetClearFails s n).pd = s.pd ∧ (fetClearFails s n).devices = s.devices ∧ (fetClearFails s n).pcie = s.pcie ∧ (fetClearFails s n).cvis = s.cvis ∧ (fetClearFails s n).cviews = s.cviews ∧ (fetClearFails s n).cports = s.cports ∧ (fetClearFails s n).ligs = s.ligs ∧ (fetClearFails s n).func = s.func := by
  simp [fetClearFails, setPower_keeps _ _ _]

theorem restorePath_keeps (s : State) (n : PortId) : KeepsBoard (restorePath s n) s ∧ KeepsHosts (restorePath s n) s ∧ (restorePath s n).out = s.out ∧ (restorePath s n).freeCtr = s.freeCtr ∧ (restorePath s n).limits = s.limits ∧ (restorePath s n).regs = s.regs ∧ (restorePath s n).rcSpi = s.rcSpi ∧ (restorePath s n).rcPf = s.rcPf ∧ (restorePath s n).pal = s.pal ∧ (restorePath s n).margin = s.margin ∧ (restorePath s n).modes = s.modes ∧ (restorePath s n).blot = s.blot ∧ (restorePath s n).devices = s.devices ∧ (restorePath s n).pcie = s.pcie ∧ (restorePath s n).cvis = s.cvis ∧ (restorePath s n).cports = s.cports ∧ (restorePath s n).ligs = s.ligs ∧ (restorePath s n).func = s.func := by
  generalize h : restorePath s n = t; unfold restorePath at h; (repeat' split at h) <;> (subst h; simp [*, pdState_keeps _ _ _, presentRp_keeps _ _, setPd_keeps _ _ _, setPower_keeps _ _ _, switchOn_keeps _ _])

theorem portClearLatch_keeps (s : State) (n : PortId) : KeepsBoard (portClearLatch s n) s ∧ (portClearLatch s n).freeCtr = s.freeCtr ∧ (portClearLatch s n).regs = s.regs ∧ (portClearLatch s n).modes = s.modes ∧ (portClearLatch s n).blot = s.blot ∧ (portClearLatch s n).cvis = s.cvis ∧ (portClearLatch s n).ligs = s.ligs ∧ (portClearLatch s n).func = s.func := by
  generalize h : portClearLatch s n = t; unfold portClearLatch at h; dsimp only at h; (repeat' split at h) <;> (subst h; simp [*, recomputeShares_keeps _, restorePath_keeps _ _, setPower_keeps _ _ _, viewOverCurrent_keeps _ _ _])

end Sys2Proof.Machine
end

