-- ==== Sys2Proof/Laws/FrameRingCmds.lean ====
section
/-! SUPPORT. What the operations of Machine/RingCmds.lean leave as it was: one lemma for each, over every input, and over every outcome of it.
A proof names the ones it needs, each applied: simp [op_keeps _ _] rewrites every field that op leaves. -/

namespace Sys2Proof.Machine

theorem applyBlockWord_keeps (s : State) (v : RingId) (bytes : List Byte) (off : Nat) : (applyBlockWord s v bytes off).now = s.now ∧ (applyBlockWord s v bytes off).pending = s.pending ∧ (applyBlockWord s v bytes off).freeCtr = s.freeCtr ∧ (applyBlockWord s v bytes off).folioOn = s.folioOn ∧ (applyBlockWord s v bytes off).strokeBase = s.strokeBase ∧ (applyBlockWord s v bytes off).resyncAt = s.resyncAt ∧ (applyBlockWord s v bytes off).pairs = s.pairs ∧ (applyBlockWord s v bytes off).writes = s.writes ∧ (applyBlockWord s v bytes off).staged = s.staged ∧ (applyBlockWord s v bytes off).rubric = s.rubric ∧ (applyBlockWord s v bytes off).trustBySpi = s.trustBySpi ∧ (applyBlockWord s v bytes off).trustConfigured = s.trustConfigured ∧ (applyBlockWord s v bytes off).link = s.link ∧ (applyBlockWord s v bytes off).localEvents = s.localEvents ∧ (applyBlockWord s v bytes off).localLost = s.localLost ∧ (applyBlockWord s v bytes off).disc = s.disc ∧ (applyBlockWord s v bytes off).clusters = s.clusters ∧ (applyBlockWord s v bytes off).engines = s.engines ∧ (applyBlockWord s v bytes off).regionTemp = s.regionTemp ∧ (applyBlockWord s v bytes off).lanes = s.lanes ∧ (applyBlockWord s v bytes off).modes = s.modes ∧ (applyBlockWord s v bytes off).img = s.img ∧ (applyBlockWord s v bytes off).nor = s.nor ∧ (applyBlockWord s v bytes off).blot = s.blot ∧ (applyBlockWord s v bytes off).sealUnit = s.sealUnit ∧ (applyBlockWord s v bytes off).input = s.input ∧ (applyBlockWord s v bytes off).vauxOk = s.vauxOk ∧ (applyBlockWord s v bytes off).power = s.power ∧ (applyBlockWord s v bytes off).pd = s.pd ∧ (applyBlockWord s v bytes off).ptp = s.ptp ∧ (applyBlockWord s v bytes off).devices = s.devices ∧ (applyBlockWord s v bytes off).eth = s.eth ∧ (applyBlockWord s v bytes off).prp = s.prp ∧ (applyBlockWord s v bytes off).cvis = s.cvis ∧ (applyBlockWord s v bytes off).cviews = s.cviews ∧ (applyBlockWord s v bytes off).cports = s.cports ∧ (applyBlockWord s v bytes off).ligs = s.ligs ∧ (applyBlockWord s v bytes off).func = s.func ∧ (applyBlockWord s v bytes off).pins = s.pins := by
  generalize h : applyBlockWord s v bytes off = t; unfold applyBlockWord at h; (repeat' split at h) <;> (subst h; simp [*, writePage_keeps _ _ _ _ _])

theorem applyBlock_keeps (s : State) (v : RingId) (bytes : List Byte) : (applyBlock s v bytes).now = s.now ∧ (applyBlock s v bytes).pending = s.pending ∧ (applyBlock s v bytes).freeCtr = s.freeCtr ∧ (applyBlock s v bytes).folioOn = s.folioOn ∧ (applyBlock s v bytes).strokeBase = s.strokeBase ∧ (applyBlock s v bytes).resyncAt = s.resyncAt ∧ (applyBlock s v bytes).pairs = s.pairs ∧ (applyBlock s v bytes).writes = s.writes ∧ (applyBlock s v bytes).staged = s.staged ∧ (applyBlock s v bytes).rubric = s.rubric ∧ (applyBlock s v bytes).trustBySpi = s.trustBySpi ∧ (applyBlock s v bytes).trustConfigured = s.trustConfigured ∧ (applyBlock s v bytes).link = s.link ∧ (applyBlock s v bytes).localEvents = s.localEvents ∧ (applyBlock s v bytes).localLost = s.localLost ∧ (applyBlock s v bytes).disc = s.disc ∧ (applyBlock s v bytes).clusters = s.clusters ∧ (applyBlock s v bytes).engines = s.engines ∧ (applyBlock s v bytes).regionTemp = s.regionTemp ∧ (applyBlock s v bytes).lanes = s.lanes ∧ (applyBlock s v bytes).modes = s.modes ∧ (applyBlock s v bytes).img = s.img ∧ (applyBlock s v bytes).nor = s.nor ∧ (applyBlock s v bytes).blot = s.blot ∧ (applyBlock s v bytes).sealUnit = s.sealUnit ∧ (applyBlock s v bytes).input = s.input ∧ (applyBlock s v bytes).vauxOk = s.vauxOk ∧ (applyBlock s v bytes).power = s.power ∧ (applyBlock s v bytes).pd = s.pd ∧ (applyBlock s v bytes).ptp = s.ptp ∧ (applyBlock s v bytes).devices = s.devices ∧ (applyBlock s v bytes).eth = s.eth ∧ (applyBlock s v bytes).prp = s.prp ∧ (applyBlock s v bytes).cvis = s.cvis ∧ (applyBlock s v bytes).cviews = s.cviews ∧ (applyBlock s v bytes).cports = s.cports ∧ (applyBlock s v bytes).ligs = s.ligs ∧ (applyBlock s v bytes).func = s.func ∧ (applyBlock s v bytes).pins = s.pins := by
  simp [applyBlock, applyBlockWord_keeps _ _ _ _, writePage_keeps _ _ _ _ _]

theorem refuseRequest_keeps (s : State) (q : Fin 128) (nak cause : Nat) : KeepsBoard (refuseRequest s q nak cause) s ∧ (refuseRequest s q nak cause).freeCtr = s.freeCtr ∧ (refuseRequest s q nak cause).modes = s.modes ∧ (refuseRequest s q nak cause).blot = s.blot ∧ (refuseRequest s q nak cause).power = s.power ∧ (refuseRequest s q nak cause).pd = s.pd ∧ (refuseRequest s q nak cause).devices = s.devices ∧ (refuseRequest s q nak cause).eps = s.eps ∧ (refuseRequest s q nak cause).pcie = s.pcie ∧ (refuseRequest s q nak cause).cviews = s.cviews ∧ (refuseRequest s q nak cause).cports = s.cports ∧ (refuseRequest s q nak cause).ligs = s.ligs ∧ (refuseRequest s q nak cause).func = s.func := by
  simp [refuseRequest, emit_keeps _ _, slotError_keeps _ _ _]

theorem startChain_keeps (s : State) (v : RingId) (ctx : Nat) (tds : List Td) : KeepsBoard (startChain s v ctx tds) s ∧ KeepsPorts (startChain s v ctx tds) s ∧ (startChain s v ctx tds).own = s.own := by
  generalize h : startChain s v ctx tds = t; unfold startChain at h; (repeat' split at h) <;> (subst h; simp [*, concludeXfer_keeps _ _ _ _, placeIsoch_keeps _ _ _, setEp_keeps _ _ _])

theorem takeTd_keeps (s : State) (v : RingId) (ctx : Nat) (bs : List Byte) : KeepsBoard (takeTd s v ctx bs).1 s ∧ KeepsPorts (takeTd s v ctx bs).1 s ∧ (takeTd s v ctx bs).1.own = s.own := by
  generalize h : takeTd s v ctx bs = t; unfold takeTd at h; (repeat' split at h) <;> (subst h; simp [*, setEp_keeps _ _ _, startChain_keeps _ _ _ _])

theorem takeCmd_keeps (s : State) (v : RingId) (bs : List Byte) : KeepsBoard (takeCmd s v bs).1 s ∧ (takeCmd s v bs).1.freeCtr = s.freeCtr ∧ (takeCmd s v bs).1.regs = s.regs ∧ (takeCmd s v bs).1.blot = s.blot ∧ (takeCmd s v bs).1.power = s.power ∧ (takeCmd s v bs).1.pd = s.pd ∧ (takeCmd s v bs).1.own = s.own ∧ (takeCmd s v bs).1.devices = s.devices ∧ (takeCmd s v bs).1.eps = s.eps ∧ (takeCmd s v bs).1.cviews = s.cviews ∧ (takeCmd s v bs).1.cports = s.cports ∧ (takeCmd s v bs).1.ligs = s.ligs ∧ (takeCmd s v bs).1.func = s.func := by
  generalize h : takeCmd s v bs = t; unfold takeCmd at h; dsimp only at h; (repeat' split at h) <;> (subst h; simp [*, completeCmd_keeps _ _ _ _ _ _ _, setVi_keeps _ _ _, wakeSource_keeps _])

theorem takeEntries_keeps (s : State) (v : RingId) (ring : FetchRing) (a0 : List (List Byte)) : KeepsBoard (takeEntries s v ring a0) s ∧ (takeEntries s v ring a0).freeCtr = s.freeCtr ∧ (takeEntries s v ring a0).regs = s.regs ∧ (takeEntries s v ring a0).blot = s.blot ∧ (takeEntries s v ring a0).power = s.power ∧ (takeEntries s v ring a0).pd = s.pd ∧ (takeEntries s v ring a0).own = s.own ∧ (takeEntries s v ring a0).devices = s.devices ∧ (takeEntries s v ring a0).cviews = s.cviews ∧ (takeEntries s v ring a0).cports = s.cports ∧ (takeEntries s v ring a0).ligs = s.ligs ∧ (takeEntries s v ring a0).func = s.func := by
  induction a0 generalizing s with
  | nil => simp [takeEntries]
  | cons b rest ih => unfold takeEntries; cases ring <;> (dsimp only; split <;> simp [*, takeCmd_keeps _ _ _, takeTd_keeps _ _ _ _])

theorem fetchComplete_keeps (s : State) (v : RingId) (ring : FetchRing) (entries : List (List Byte)) (failed : Bool) : KeepsBoard (fetchComplete s v ring entries failed) s ∧ (fetchComplete s v ring entries failed).regs = s.regs ∧ (fetchComplete s v ring entries failed).blot = s.blot ∧ (fetchComplete s v ring entries failed).power = s.power ∧ (fetchComplete s v ring entries failed).pd = s.pd ∧ (fetchComplete s v ring entries failed).devices = s.devices ∧ (fetchComplete s v ring entries failed).cviews = s.cviews ∧ (fetchComplete s v ring entries failed).cports = s.cports ∧ (fetchComplete s v ring entries failed).ligs = s.ligs ∧ (fetchComplete s v ring entries failed).func = s.func := by
  generalize h : fetchComplete s v ring entries failed = t; unfold fetchComplete at h; (repeat' split at h) <;> (subst h; simp [*, advance_keeps _ _, fetchFailed_keeps _ _ _, setBusy_keeps _ _ _ _, startFetch_keeps _ _ _, takeEntries_keeps _ _ _ _])

end Sys2Proof.Machine
end

