-- ==== Sys2Proof/Laws/FrameStrokeCmds.lean ====
section
/-! SUPPORT. What the operations of Machine/StrokeCmds.lean leave as it was: one lemma for each, over every input, and over every outcome of it.
A proof names the ones it needs, each applied: simp [op_keeps _ _] rewrites every field that op leaves. -/

namespace Sys2Proof.Machine

theorem timeSample_keeps (s : State) : KeepsPorts (timeSample s) s ∧ KeepsHosts (timeSample s) s ∧ (timeSample s).now = s.now ∧ (timeSample s).pending = s.pending ∧ (timeSample s).out = s.out ∧ (timeSample s).limits = s.limits ∧ (timeSample s).folioOn = s.folioOn ∧ (timeSample s).strokeBase = s.strokeBase ∧ (timeSample s).resyncAt = s.resyncAt ∧ (timeSample s).rcSpi = s.rcSpi ∧ (timeSample s).rcPf = s.rcPf ∧ (timeSample s).pairs = s.pairs ∧ (timeSample s).writes = s.writes ∧ (timeSample s).staged = s.staged ∧ (timeSample s).rubric = s.rubric ∧ (timeSample s).trustBySpi = s.trustBySpi ∧ (timeSample s).trustConfigured = s.trustConfigured ∧ (timeSample s).link = s.link ∧ (timeSample s).localEvents = s.localEvents ∧ (timeSample s).localLost = s.localLost ∧ (timeSample s).pal = s.pal ∧ (timeSample s).margin = s.margin ∧ (timeSample s).clusters = s.clusters ∧ (timeSample s).engines = s.engines ∧ (timeSample s).regionTemp = s.regionTemp ∧ (timeSample s).lanes = s.lanes ∧ (timeSample s).img = s.img ∧ (timeSample s).nor = s.nor ∧ (timeSample s).sealUnit = s.sealUnit ∧ (timeSample s).input = s.input ∧ (timeSample s).vauxOk = s.vauxOk ∧ (timeSample s).ptp = s.ptp ∧ (timeSample s).eth = s.eth ∧ (timeSample s).prp = s.prp ∧ (timeSample s).pcie = s.pcie ∧ (timeSample s).timelines = s.timelines ∧ (timeSample s).pins = s.pins := by
  simp [timeSample]

theorem setCluster_keeps (s : State) (c : Fin 24) (f : Cluster → Cluster) : KeepsPorts (setCluster s c f) s ∧ KeepsHosts (setCluster s c f) s ∧ (setCluster s c f).now = s.now ∧ (setCluster s c f).pending = s.pending ∧ (setCluster s c f).out = s.out ∧ (setCluster s c f).limits = s.limits ∧ (setCluster s c f).folioOn = s.folioOn ∧ (setCluster s c f).strokeBase = s.strokeBase ∧ (setCluster s c f).resyncAt = s.resyncAt ∧ (setCluster s c f).rcSpi = s.rcSpi ∧ (setCluster s c f).rcPf = s.rcPf ∧ (setCluster s c f).pairs = s.pairs ∧ (setCluster s c f).writes = s.writes ∧ (setCluster s c f).staged = s.staged ∧ (setCluster s c f).rubric = s.rubric ∧ (setCluster s c f).trustBySpi = s.trustBySpi ∧ (setCluster s c f).trustConfigured = s.trustConfigured ∧ (setCluster s c f).link = s.link ∧ (setCluster s c f).localEvents = s.localEvents ∧ (setCluster s c f).localLost = s.localLost ∧ (setCluster s c f).pal = s.pal ∧ (setCluster s c f).margin = s.margin ∧ (setCluster s c f).disc = s.disc ∧ (setCluster s c f).engines = s.engines ∧ (setCluster s c f).regionTemp = s.regionTemp ∧ (setCluster s c f).lanes = s.lanes ∧ (setCluster s c f).img = s.img ∧ (setCluster s c f).nor = s.nor ∧ (setCluster s c f).sealUnit = s.sealUnit ∧ (setCluster s c f).input = s.input ∧ (setCluster s c f).vauxOk = s.vauxOk ∧ (setCluster s c f).ptp = s.ptp ∧ (setCluster s c f).eth = s.eth ∧ (setCluster s c f).prp = s.prp ∧ (setCluster s c f).pcie = s.pcie ∧ (setCluster s c f).timelines = s.timelines ∧ (setCluster s c f).pins = s.pins := by
  simp [setCluster]

theorem setEngine_keeps (s : State) (e : Fin 96) (f : Engine → Engine) : KeepsPorts (setEngine s e f) s ∧ KeepsHosts (setEngine s e f) s ∧ (setEngine s e f).now = s.now ∧ (setEngine s e f).pending = s.pending ∧ (setEngine s e f).out = s.out ∧ (setEngine s e f).limits = s.limits ∧ (setEngine s e f).folioOn = s.folioOn ∧ (setEngine s e f).strokeBase = s.strokeBase ∧ (setEngine s e f).resyncAt = s.resyncAt ∧ (setEngine s e f).rcSpi = s.rcSpi ∧ (setEngine s e f).rcPf = s.rcPf ∧ (setEngine s e f).pairs = s.pairs ∧ (setEngine s e f).writes = s.writes ∧ (setEngine s e f).staged = s.staged ∧ (setEngine s e f).rubric = s.rubric ∧ (setEngine s e f).trustBySpi = s.trustBySpi ∧ (setEngine s e f).trustConfigured = s.trustConfigured ∧ (setEngine s e f).link = s.link ∧ (setEngine s e f).localEvents = s.localEvents ∧ (setEngine s e f).localLost = s.localLost ∧ (setEngine s e f).pal = s.pal ∧ (setEngine s e f).margin = s.margin ∧ (setEngine s e f).disc = s.disc ∧ (setEngine s e f).clusters = s.clusters ∧ (setEngine s e f).regionTemp = s.regionTemp ∧ (setEngine s e f).lanes = s.lanes ∧ (setEngine s e f).img = s.img ∧ (setEngine s e f).nor = s.nor ∧ (setEngine s e f).sealUnit = s.sealUnit ∧ (setEngine s e f).input = s.input ∧ (setEngine s e f).vauxOk = s.vauxOk ∧ (setEngine s e f).ptp = s.ptp ∧ (setEngine s e f).eth = s.eth ∧ (setEngine s e f).prp = s.prp ∧ (setEngine s e f).pcie = s.pcie ∧ (setEngine s e f).timelines = s.timelines ∧ (setEngine s e f).pins = s.pins := by
  simp [setEngine]

theorem loopEngine_keeps (c : Fin 24) (slack : Nat) (s : State) (k : Fin 4) (need : Nat) : KeepsPorts (loopEngine c slack s k need) s ∧ KeepsHosts (loopEngine c slack s k need) s ∧ (loopEngine c slack s k need).now = s.now ∧ (loopEngine c slack s k need).pending = s.pending ∧ (loopEngine c slack s k need).out = s.out ∧ (loopEngine c slack s k need).limits = s.limits ∧ (loopEngine c slack s k need).folioOn = s.folioOn ∧ (loopEngine c slack s k need).strokeBase = s.strokeBase ∧ (loopEngine c slack s k need).resyncAt = s.resyncAt ∧ (loopEngine c slack s k need).rcSpi = s.rcSpi ∧ (loopEngine c slack s k need).rcPf = s.rcPf ∧ (loopEngine c slack s k need).pairs = s.pairs ∧ (loopEngine c slack s k need).writes = s.writes ∧ (loopEngine c slack s k need).staged = s.staged ∧ (loopEngine c slack s k need).rubric = s.rubric ∧ (loopEngine c slack s k need).trustBySpi = s.trustBySpi ∧ (loopEngine c slack s k need).trustConfigured = s.trustConfigured ∧ (loopEngine c slack s k need).link = s.link ∧ (loopEngine c slack s k need).localEvents = s.localEvents ∧ (loopEngine c slack s k need).localLost = s.localLost ∧ (loopEngine c slack s k need).pal = s.pal ∧ (loopEngine c slack s k need).margin = s.margin ∧ (loopEngine c slack s k need).disc = s.disc ∧ (loopEngine c slack s k need).clusters = s.clusters ∧ (loopEngine c slack s k need).regionTemp = s.regionTemp ∧ (loopEngine c slack s k need).lanes = s.lanes ∧ (loopEngine c slack s k need).img = s.img ∧ (loopEngine c slack s k need).nor = s.nor ∧ (loopEngine c slack s k need).sealUnit = s.sealUnit ∧ (loopEngine c slack s k need).input = s.input ∧ (loopEngine c slack s k need).vauxOk = s.vauxOk ∧ (loopEngine c slack s k need).ptp = s.ptp ∧ (loopEngine c slack s k need).eth = s.eth ∧ (loopEngine c slack s k need).prp = s.prp ∧ (loopEngine c slack s k need).pcie = s.pcie ∧ (loopEngine c slack s k need).timelines = s.timelines ∧ (loopEngine c slack s k need).pins = s.pins := by
  simp [loopEngine, setEngine_keeps _ _ _]

theorem setRegionTemp_keeps (s : State) (q : Fin 5) (temp : Int) : KeepsPorts (setRegionTemp s q temp) s ∧ KeepsHosts (setRegionTemp s q temp) s ∧ (setRegionTemp s q temp).now = s.now ∧ (setRegionTemp s q temp).pending = s.pending ∧ (setRegionTemp s q temp).out = s.out ∧ (setRegionTemp s q temp).limits = s.limits ∧ (setRegionTemp s q temp).folioOn = s.folioOn ∧ (setRegionTemp s q temp).strokeBase = s.strokeBase ∧ (setRegionTemp s q temp).resyncAt = s.resyncAt ∧ (setRegionTemp s q temp).rcSpi = s.rcSpi ∧ (setRegionTemp s q temp).rcPf = s.rcPf ∧ (setRegionTemp s q temp).pairs = s.pairs ∧ (setRegionTemp s q temp).writes = s.writes ∧ (setRegionTemp s q temp).staged = s.staged ∧ (setRegionTemp s q temp).rubric = s.rubric ∧ (setRegionTemp s q temp).trustBySpi = s.trustBySpi ∧ (setRegionTemp s q temp).trustConfigured = s.trustConfigured ∧ (setRegionTemp s q temp).link = s.link ∧ (setRegionTemp s q temp).localEvents = s.localEvents ∧ (setRegionTemp s q temp).localLost = s.localLost ∧ (setRegionTemp s q temp).pal = s.pal ∧ (setRegionTemp s q temp).margin = s.margin ∧ (setRegionTemp s q temp).disc = s.disc ∧ (setRegionTemp s q temp).clusters = s.clusters ∧ (setRegionTemp s q temp).engines = s.engines ∧ (setRegionTemp s q temp).lanes = s.lanes ∧ (setRegionTemp s q temp).img = s.img ∧ (setRegionTemp s q temp).nor = s.nor ∧ (setRegionTemp s q temp).sealUnit = s.sealUnit ∧ (setRegionTemp s q temp).input = s.input ∧ (setRegionTemp s q temp).vauxOk = s.vauxOk ∧ (setRegionTemp s q temp).ptp = s.ptp ∧ (setRegionTemp s q temp).eth = s.eth ∧ (setRegionTemp s q temp).prp = s.prp ∧ (setRegionTemp s q temp).pcie = s.pcie ∧ (setRegionTemp s q temp).timelines = s.timelines ∧ (setRegionTemp s q temp).pins = s.pins := by
  simp [setRegionTemp]

end Sys2Proof.Machine
end

