-- ==== Sys2Proof/Laws/FrameTransport.lean ====
section
/-! SUPPORT. What the operations of Machine/Transport.lean leave as it was: one lemma for each, over every input, and over every outcome of it.
A proof names the ones it needs, each applied: simp [op_keeps _ _] rewrites every field that op leaves. -/

namespace Sys2Proof.Machine

theorem viBindWrite_keeps (s : State) (p : Path) (v : RingId) (value : Word) : (viBindWrite s p v value).now = s.now ∧ (viBindWrite s p v value).pending = s.pending ∧ (viBindWrite s p v value).freeCtr = s.freeCtr ∧ (viBindWrite s p v value).folioOn = s.folioOn ∧ (viBindWrite s p v value).strokeBase = s.strokeBase ∧ (viBindWrite s p v value).resyncAt = s.resyncAt ∧ (viBindWrite s p v value).pairs = s.pairs ∧ (viBindWrite s p v value).writes = s.writes ∧ (viBindWrite s p v value).staged = s.staged ∧ (viBindWrite s p v value).trustBySpi = s.trustBySpi ∧ (viBindWrite s p v value).trustConfigured = s.trustConfigured ∧ (viBindWrite s p v value).link = s.link ∧ (viBindWrite s p v value).localEvents = s.localEvents ∧ (viBindWrite s p v value).localLost = s.localLost ∧ (viBindWrite s p v value).disc = s.disc ∧ (viBindWrite s p v value).clusters = s.clusters ∧ (viBindWrite s p v value).engines = s.engines ∧ (viBindWrite s p v value).regionTemp = s.regionTemp ∧ (viBindWrite s p v value).lanes = s.lanes ∧ (viBindWrite s p v value).modes = s.modes ∧ (viBindWrite s p v value).img = s.img ∧ (viBindWrite s p v value).nor = s.nor ∧ (viBindWrite s p v value).blot = s.blot ∧ (viBindWrite s p v value).sealUnit = s.sealUnit ∧ (viBindWrite s p v value).input = s.input ∧ (viBindWrite s p v value).vauxOk = s.vauxOk ∧ (viBindWrite s p v value).power = s.power ∧ (viBindWrite s p v value).pd = s.pd ∧ (viBindWrite s p v value).ptp = s.ptp ∧ (viBindWrite s p v value).devices = s.devices ∧ (viBindWrite s p v value).eps = s.eps ∧ (viBindWrite s p v value).eth = s.eth ∧ (viBindWrite s p v value).prp = s.prp ∧ (viBindWrite s p v value).pcie = s.pcie ∧ (viBindWrite s p v value).cviews = s.cviews ∧ (viBindWrite s p v value).cports = s.cports ∧ (viBindWrite s p v value).ligs = s.ligs ∧ (viBindWrite s p v value).func = s.func ∧ (viBindWrite s p v value).pins = s.pins := by
  generalize h : viBindWrite s p v value = t; unfold viBindWrite at h; dsimp only at h; (repeat' split at h) <;> (subst h; simp [*, homeStamp_keeps _ _, setApplied_keeps _ _ _, tlFreeRun_keeps _ _, unbindVi_keeps _ _, writeIgnored_keeps _ _ _ _])

theorem setPcie_keeps (s : State) (f : Pcie → Pcie) : KeepsBoard (setPcie s f) s ∧ KeepsPorts (setPcie s f) s ∧ KeepsHosts (setPcie s f) s ∧ (setPcie s f).out = s.out ∧ (setPcie s f).limits = s.limits ∧ (setPcie s f).rcSpi = s.rcSpi ∧ (setPcie s f).rcPf = s.rcPf ∧ (setPcie s f).pal = s.pal ∧ (setPcie s f).margin = s.margin := by
  simp [setPcie]

theorem resetFn_keeps (s : State) (f : Fin 16) : KeepsBoard (resetFn s f) s ∧ KeepsPorts (resetFn s f) s ∧ KeepsHosts (resetFn s f) s ∧ (resetFn s f).out = s.out ∧ (resetFn s f).limits = s.limits ∧ (resetFn s f).rcSpi = s.rcSpi ∧ (resetFn s f).rcPf = s.rcPf ∧ (resetFn s f).pal = s.pal ∧ (resetFn s f).margin = s.margin := by
  simp [resetFn, setPcie_keeps _ _]

theorem fnLost_keeps (s : State) (f : Fin 16) : KeepsBoard (fnLost s f) s ∧ (fnLost s f).out = s.out ∧ (fnLost s f).freeCtr = s.freeCtr ∧ (fnLost s f).modes = s.modes ∧ (fnLost s f).blot = s.blot ∧ (fnLost s f).power = s.power ∧ (fnLost s f).pd = s.pd ∧ (fnLost s f).devices = s.devices ∧ (fnLost s f).eps = s.eps ∧ (fnLost s f).qps = s.qps ∧ (fnLost s f).pcie = s.pcie ∧ (fnLost s f).cviews = s.cviews ∧ (fnLost s f).cports = s.cports ∧ (fnLost s f).ligs = s.ligs ∧ (fnLost s f).func = s.func := by
  generalize h : fnLost s f = t; unfold fnLost at h; (repeat' split at h) <;> (subst h; simp [*, transportLost_keeps _ _])

theorem vfsLost_keeps (s : State) (k : Nat) : KeepsBoard (vfsLost s k) s ∧ (vfsLost s k).out = s.out ∧ (vfsLost s k).freeCtr = s.freeCtr ∧ (vfsLost s k).modes = s.modes ∧ (vfsLost s k).blot = s.blot ∧ (vfsLost s k).power = s.power ∧ (vfsLost s k).pd = s.pd ∧ (vfsLost s k).devices = s.devices ∧ (vfsLost s k).eps = s.eps ∧ (vfsLost s k).qps = s.qps ∧ (vfsLost s k).pcie = s.pcie ∧ (vfsLost s k).cviews = s.cviews ∧ (vfsLost s k).cports = s.cports ∧ (vfsLost s k).ligs = s.ligs ∧ (vfsLost s k).func = s.func := by
  simp [vfsLost, fnLost_keeps _ _]

theorem trustRestored_keeps (s : State) : KeepsHosts (trustRestored s) s ∧ (trustRestored s).now = s.now ∧ (trustRestored s).pending = s.pending ∧ (trustRestored s).out = s.out ∧ (trustRestored s).freeCtr = s.freeCtr ∧ (trustRestored s).limits = s.limits ∧ (trustRestored s).folioOn = s.folioOn ∧ (trustRestored s).strokeBase = s.strokeBase ∧ (trustRestored s).resyncAt = s.resyncAt ∧ (trustRestored s).rcSpi = s.rcSpi ∧ (trustRestored s).rcPf = s.rcPf ∧ (trustRestored s).pairs = s.pairs ∧ (trustRestored s).writes = s.writes ∧ (trustRestored s).staged = s.staged ∧ (trustRestored s).trustConfigured = s.trustConfigured ∧ (trustRestored s).link = s.link ∧ (trustRestored s).localEvents = s.localEvents ∧ (trustRestored s).localLost = s.localLost ∧ (trustRestored s).pal = s.pal ∧ (trustRestored s).margin = s.margin ∧ (trustRestored s).disc = s.disc ∧ (trustRestored s).clusters = s.clusters ∧ (trustRestored s).engines = s.engines ∧ (trustRestored s).regionTemp = s.regionTemp ∧ (trustRestored s).lanes = s.lanes ∧ (trustRestored s).modes = s.modes ∧ (trustRestored s).img = s.img ∧ (trustRestored s).nor = s.nor ∧ (trustRestored s).blot = s.blot ∧ (trustRestored s).sealUnit = s.sealUnit ∧ (trustRestored s).input = s.input ∧ (trustRestored s).vauxOk = s.vauxOk ∧ (trustRestored s).power = s.power ∧ (trustRestored s).pd = s.pd ∧ (trustRestored s).ptp = s.ptp ∧ (trustRestored s).devices = s.devices ∧ (trustRestored s).eth = s.eth ∧ (trustRestored s).prp = s.prp ∧ (trustRestored s).pcie = s.pcie ∧ (trustRestored s).timelines = s.timelines ∧ (trustRestored s).cvis = s.cvis ∧ (trustRestored s).cviews = s.cviews ∧ (trustRestored s).cports = s.cports ∧ (trustRestored s).ligs = s.ligs ∧ (trustRestored s).func = s.func ∧ (trustRestored s).pins = s.pins := by
  simp [trustRestored, setApplied_keeps _ _ _]

theorem fnHome_keeps (s : State) (f : Fin 16) : KeepsBoard (fnHome s f) s ∧ KeepsPorts (fnHome s f) s ∧ (fnHome s f).out = s.out ∧ (fnHome s f).limits = s.limits ∧ (fnHome s f).rcSpi = s.rcSpi ∧ (fnHome s f).rcPf = s.rcPf ∧ (fnHome s f).pal = s.pal ∧ (fnHome s f).margin = s.margin ∧ (fnHome s f).vis = s.vis ∧ (fnHome s f).eps = s.eps ∧ (fnHome s f).nibs = s.nibs ∧ (fnHome s f).qps = s.qps ∧ (fnHome s f).pcie = s.pcie ∧ (fnHome s f).ink = s.ink := by
  generalize h : fnHome s f = t; unfold fnHome at h; (repeat' split at h) <;> (subst h; simp [*, homeStamp_keeps _ _])

theorem pcieDown_keeps (s : State) : KeepsBoard (pcieDown s) s ∧ (pcieDown s).out = s.out ∧ (pcieDown s).freeCtr = s.freeCtr ∧ (pcieDown s).modes = s.modes ∧ (pcieDown s).blot = s.blot ∧ (pcieDown s).power = s.power ∧ (pcieDown s).pd = s.pd ∧ (pcieDown s).devices = s.devices ∧ (pcieDown s).eps = s.eps ∧ (pcieDown s).qps = s.qps ∧ (pcieDown s).cviews = s.cviews ∧ (pcieDown s).cports = s.cports ∧ (pcieDown s).ligs = s.ligs ∧ (pcieDown s).func = s.func := by
  simp [pcieDown, fnLost_keeps _ _, setPcie_keeps _ _]

theorem clockUpdate_keeps (s : State) (kind ownerNs m : Nat) (phase : Vector Int 64) : KeepsPorts (clockUpdate s kind ownerNs m phase) s ∧ KeepsHosts (clockUpdate s kind ownerNs m phase) s ∧ (clockUpdate s kind ownerNs m phase).now = s.now ∧ (clockUpdate s kind ownerNs m phase).pending = s.pending ∧ (clockUpdate s kind ownerNs m phase).out = s.out ∧ (clockUpdate s kind ownerNs m phase).folioOn = s.folioOn ∧ (clockUpdate s kind ownerNs m phase).strokeBase = s.strokeBase ∧ (clockUpdate s kind ownerNs m phase).resyncAt = s.resyncAt ∧ (clockUpdate s kind ownerNs m phase).pairs = s.pairs ∧ (clockUpdate s kind ownerNs m phase).writes = s.writes ∧ (clockUpdate s kind ownerNs m phase).staged = s.staged ∧ (clockUpdate s kind ownerNs m phase).rubric = s.rubric ∧ (clockUpdate s kind ownerNs m phase).trustBySpi = s.trustBySpi ∧ (clockUpdate s kind ownerNs m phase).trustConfigured = s.trustConfigured ∧ (clockUpdate s kind ownerNs m phase).link = s.link ∧ (clockUpdate s kind ownerNs m phase).localEvents = s.localEvents ∧ (clockUpdate s kind ownerNs m phase).localLost = s.localLost ∧ (clockUpdate s kind ownerNs m phase).disc = s.disc ∧ (clockUpdate s kind ownerNs m phase).clusters = s.clusters ∧ (clockUpdate s kind ownerNs m phase).engines = s.engines ∧ (clockUpdate s kind ownerNs m phase).regionTemp = s.regionTemp ∧ (clockUpdate s kind ownerNs m phase).lanes = s.lanes ∧ (clockUpdate s kind ownerNs m phase).img = s.img ∧ (clockUpdate s kind ownerNs m phase).nor = s.nor ∧ (clockUpdate s kind ownerNs m phase).sealUnit = s.sealUnit ∧ (clockUpdate s kind ownerNs m phase).input = s.input ∧ (clockUpdate s kind ownerNs m phase).vauxOk = s.vauxOk ∧ (clockUpdate s kind ownerNs m phase).ptp = s.ptp ∧ (clockUpdate s kind ownerNs m phase).eth = s.eth ∧ (clockUpdate s kind ownerNs m phase).prp = s.prp ∧ (clockUpdate s kind ownerNs m phase).pcie = s.pcie ∧ (clockUpdate s kind ownerNs m phase).pins = s.pins := by
  simp [clockUpdate, tlUpdate_keeps _ _ _ _ _]

theorem clockLost_keeps (s : State) (kind : Nat) : KeepsPorts (clockLost s kind) s ∧ KeepsHosts (clockLost s kind) s ∧ (clockLost s kind).now = s.now ∧ (clockLost s kind).pending = s.pending ∧ (clockLost s kind).out = s.out ∧ (clockLost s kind).folioOn = s.folioOn ∧ (clockLost s kind).strokeBase = s.strokeBase ∧ (clockLost s kind).resyncAt = s.resyncAt ∧ (clockLost s kind).pairs = s.pairs ∧ (clockLost s kind).writes = s.writes ∧ (clockLost s kind).staged = s.staged ∧ (clockLost s kind).rubric = s.rubric ∧ (clockLost s kind).trustBySpi = s.trustBySpi ∧ (clockLost s kind).trustConfigured = s.trustConfigured ∧ (clockLost s kind).link = s.link ∧ (clockLost s kind).localEvents = s.localEvents ∧ (clockLost s kind).localLost = s.localLost ∧ (clockLost s kind).disc = s.disc ∧ (clockLost s kind).clusters = s.clusters ∧ (clockLost s kind).engines = s.engines ∧ (clockLost s kind).regionTemp = s.regionTemp ∧ (clockLost s kind).lanes = s.lanes ∧ (clockLost s kind).img = s.img ∧ (clockLost s kind).nor = s.nor ∧ (clockLost s kind).sealUnit = s.sealUnit ∧ (clockLost s kind).input = s.input ∧ (clockLost s kind).vauxOk = s.vauxOk ∧ (clockLost s kind).ptp = s.ptp ∧ (clockLost s kind).eth = s.eth ∧ (clockLost s kind).prp = s.prp ∧ (clockLost s kind).pcie = s.pcie ∧ (clockLost s kind).pins = s.pins := by
  simp [clockLost, tlLost_keeps _ _]

theorem setEth_keeps (s : State) (b : Bool) (f : EthPort → EthPort) : KeepsPorts (setEth s b f) s ∧ KeepsHosts (setEth s b f) s ∧ (setEth s b f).now = s.now ∧ (setEth s b f).pending = s.pending ∧ (setEth s b f).out = s.out ∧ (setEth s b f).limits = s.limits ∧ (setEth s b f).folioOn = s.folioOn ∧ (setEth s b f).strokeBase = s.strokeBase ∧ (setEth s b f).resyncAt = s.resyncAt ∧ (setEth s b f).rcSpi = s.rcSpi ∧ (setEth s b f).rcPf = s.rcPf ∧ (setEth s b f).pairs = s.pairs ∧ (setEth s b f).writes = s.writes ∧ (setEth s b f).staged = s.staged ∧ (setEth s b f).rubric = s.rubric ∧ (setEth s b f).trustBySpi = s.trustBySpi ∧ (setEth s b f).trustConfigured = s.trustConfigured ∧ (setEth s b f).link = s.link ∧ (setEth s b f).localEvents = s.localEvents ∧ (setEth s b f).localLost = s.localLost ∧ (setEth s b f).pal = s.pal ∧ (setEth s b f).margin = s.margin ∧ (setEth s b f).disc = s.disc ∧ (setEth s b f).clusters = s.clusters ∧ (setEth s b f).engines = s.engines ∧ (setEth s b f).regionTemp = s.regionTemp ∧ (setEth s b f).lanes = s.lanes ∧ (setEth s b f).img = s.img ∧ (setEth s b f).nor = s.nor ∧ (setEth s b f).sealUnit = s.sealUnit ∧ (setEth s b f).input = s.input ∧ (setEth s b f).vauxOk = s.vauxOk ∧ (setEth s b f).ptp = s.ptp ∧ (setEth s b f).prp = s.prp ∧ (setEth s b f).pcie = s.pcie ∧ (setEth s b f).timelines = s.timelines ∧ (setEth s b f).pins = s.pins := by
  simp [setEth]

theorem lanChange_keeps (s : State) (b up : Bool) : KeepsPorts (lanChange s b up) s ∧ KeepsHosts (lanChange s b up) s ∧ (lanChange s b up).now = s.now ∧ (lanChange s b up).pending = s.pending ∧ (lanChange s b up).out = s.out ∧ (lanChange s b up).folioOn = s.folioOn ∧ (lanChange s b up).strokeBase = s.strokeBase ∧ (lanChange s b up).resyncAt = s.resyncAt ∧ (lanChange s b up).pairs = s.pairs ∧ (lanChange s b up).writes = s.writes ∧ (lanChange s b up).staged = s.staged ∧ (lanChange s b up).rubric = s.rubric ∧ (lanChange s b up).trustBySpi = s.trustBySpi ∧ (lanChange s b up).trustConfigured = s.trustConfigured ∧ (lanChange s b up).link = s.link ∧ (lanChange s b up).localEvents = s.localEvents ∧ (lanChange s b up).localLost = s.localLost ∧ (lanChange s b up).disc = s.disc ∧ (lanChange s b up).clusters = s.clusters ∧ (lanChange s b up).engines = s.engines ∧ (lanChange s b up).regionTemp = s.regionTemp ∧ (lanChange s b up).lanes = s.lanes ∧ (lanChange s b up).img = s.img ∧ (lanChange s b up).nor = s.nor ∧ (lanChange s b up).sealUnit = s.sealUnit ∧ (lanChange s b up).input = s.input ∧ (lanChange s b up).vauxOk = s.vauxOk ∧ (lanChange s b up).ptp = s.ptp ∧ (lanChange s b up).prp = s.prp ∧ (lanChange s b up).pcie = s.pcie ∧ (lanChange s b up).timelines = s.timelines ∧ (lanChange s b up).pins = s.pins := by
  simp [lanChange, notice_keeps _ _ _ _ _ _ _, record_keeps _ _ _ _ _ _ _, setEth_keeps _ _ _]

theorem lanHeard_keeps (s : State) (b : Bool) : KeepsPorts (lanHeard s b) s ∧ KeepsHosts (lanHeard s b) s ∧ (lanHeard s b).now = s.now ∧ (lanHeard s b).pending = s.pending ∧ (lanHeard s b).out = s.out ∧ (lanHeard s b).folioOn = s.folioOn ∧ (lanHeard s b).strokeBase = s.strokeBase ∧ (lanHeard s b).resyncAt = s.resyncAt ∧ (lanHeard s b).pairs = s.pairs ∧ (lanHeard s b).writes = s.writes ∧ (lanHeard s b).staged = s.staged ∧ (lanHeard s b).rubric = s.rubric ∧ (lanHeard s b).trustBySpi = s.trustBySpi ∧ (lanHeard s b).trustConfigured = s.trustConfigured ∧ (lanHeard s b).link = s.link ∧ (lanHeard s b).localEvents = s.localEvents ∧ (lanHeard s b).localLost = s.localLost ∧ (lanHeard s b).disc = s.disc ∧ (lanHeard s b).clusters = s.clusters ∧ (lanHeard s b).engines = s.engines ∧ (lanHeard s b).regionTemp = s.regionTemp ∧ (lanHeard s b).lanes = s.lanes ∧ (lanHeard s b).img = s.img ∧ (lanHeard s b).nor = s.nor ∧ (lanHeard s b).sealUnit = s.sealUnit ∧ (lanHeard s b).input = s.input ∧ (lanHeard s b).vauxOk = s.vauxOk ∧ (lanHeard s b).ptp = s.ptp ∧ (lanHeard s b).prp = s.prp ∧ (lanHeard s b).pcie = s.pcie ∧ (lanHeard s b).timelines = s.timelines ∧ (lanHeard s b).pins = s.pins := by
  generalize h : lanHeard s b = t; unfold lanHeard at h; (repeat' split at h) <;> (subst h; simp [*, lanChange_keeps _ _ _, setEth_keeps _ _ _])

theorem bufferLevel_keeps (s : State) (b : Bool) (prio fill : Nat) : KeepsPorts (bufferLevel s b prio fill) s ∧ KeepsHosts (bufferLevel s b prio fill) s ∧ (bufferLevel s b prio fill).now = s.now ∧ (bufferLevel s b prio fill).pending = s.pending ∧ (bufferLevel s b prio fill).limits = s.limits ∧ (bufferLevel s b prio fill).folioOn = s.folioOn ∧ (bufferLevel s b prio fill).strokeBase = s.strokeBase ∧ (bufferLevel s b prio fill).resyncAt = s.resyncAt ∧ (bufferLevel s b prio fill).rcSpi = s.rcSpi ∧ (bufferLevel s b prio fill).rcPf = s.rcPf ∧ (bufferLevel s b prio fill).pairs = s.pairs ∧ (bufferLevel s b prio fill).writes = s.writes ∧ (bufferLevel s b prio fill).staged = s.staged ∧ (bufferLevel s b prio fill).rubric = s.rubric ∧ (bufferLevel s b prio fill).trustBySpi = s.trustBySpi ∧ (bufferLevel s b prio fill).trustConfigured = s.trustConfigured ∧ (bufferLevel s b prio fill).link = s.link ∧ (bufferLevel s b prio fill).localEvents = s.localEvents ∧ (bufferLevel s b prio fill).localLost = s.localLost ∧ (bufferLevel s b prio fill).pal = s.pal ∧ (bufferLevel s b prio fill).margin = s.margin ∧ (bufferLevel s b prio fill).disc = s.disc ∧ (bufferLevel s b prio fill).clusters = s.clusters ∧ (bufferLevel s b prio fill).engines = s.engines ∧ (bufferLevel s b prio fill).regionTemp = s.regionTemp ∧ (bufferLevel s b prio fill).lanes = s.lanes ∧ (bufferLevel s b prio fill).img = s.img ∧ (bufferLevel s b prio fill).nor = s.nor ∧ (bufferLevel s b prio fill).sealUnit = s.sealUnit ∧ (bufferLevel s b prio fill).input = s.input ∧ (bufferLevel s b prio fill).vauxOk = s.vauxOk ∧ (bufferLevel s b prio fill).ptp = s.ptp ∧ (bufferLevel s b prio fill).prp = s.prp ∧ (bufferLevel s b prio fill).pcie = s.pcie ∧ (bufferLevel s b prio fill).timelines = s.timelines ∧ (bufferLevel s b prio fill).pins = s.pins := by
  generalize h : bufferLevel s b prio fill = t; unfold bufferLevel at h; (repeat' split at h) <;> (subst h; simp [*, emit_keeps _ _, setEth_keeps _ _ _])

theorem markedCe_keeps (s : State) (q : Fin 128) : KeepsBoard (markedCe s q) s ∧ KeepsPorts (markedCe s q) s ∧ (markedCe s q).limits = s.limits ∧ (markedCe s q).rcSpi = s.rcSpi ∧ (markedCe s q).rcPf = s.rcPf ∧ (markedCe s q).pal = s.pal ∧ (markedCe s q).margin = s.margin ∧ (markedCe s q).own = s.own ∧ (markedCe s q).vis = s.vis ∧ (markedCe s q).eps = s.eps ∧ (markedCe s q).nibs = s.nibs ∧ (markedCe s q).pcie = s.pcie ∧ (markedCe s q).ink = s.ink := by
  generalize h : markedCe s q = t; unfold markedCe at h; (repeat' split at h) <;> (subst h; simp [*, emit_keeps _ _, setQp_keeps _ _ _])

theorem deliverFrame_keeps (s : State) (b : Bool) (f : EthFrame) : KeepsPorts (deliverFrame s b f) s ∧ (deliverFrame s b f).now = s.now ∧ (deliverFrame s b f).pending = s.pending ∧ (deliverFrame s b f).limits = s.limits ∧ (deliverFrame s b f).folioOn = s.folioOn ∧ (deliverFrame s b f).strokeBase = s.strokeBase ∧ (deliverFrame s b f).resyncAt = s.resyncAt ∧ (deliverFrame s b f).rcSpi = s.rcSpi ∧ (deliverFrame s b f).rcPf = s.rcPf ∧ (deliverFrame s b f).pairs = s.pairs ∧ (deliverFrame s b f).writes = s.writes ∧ (deliverFrame s b f).staged = s.staged ∧ (deliverFrame s b f).rubric = s.rubric ∧ (deliverFrame s b f).trustBySpi = s.trustBySpi ∧ (deliverFrame s b f).trustConfigured = s.trustConfigured ∧ (deliverFrame s b f).link = s.link ∧ (deliverFrame s b f).localEvents = s.localEvents ∧ (deliverFrame s b f).localLost = s.localLost ∧ (deliverFrame s b f).pal = s.pal ∧ (deliverFrame s b f).margin = s.margin ∧ (deliverFrame s b f).disc = s.disc ∧ (deliverFrame s b f).clusters = s.clusters ∧ (deliverFrame s b f).engines = s.engines ∧ (deliverFrame s b f).regionTemp = s.regionTemp ∧ (deliverFrame s b f).lanes = s.lanes ∧ (deliverFrame s b f).img = s.img ∧ (deliverFrame s b f).nor = s.nor ∧ (deliverFrame s b f).sealUnit = s.sealUnit ∧ (deliverFrame s b f).input = s.input ∧ (deliverFrame s b f).vauxOk = s.vauxOk ∧ (deliverFrame s b f).ptp = s.ptp ∧ (deliverFrame s b f).own = s.own ∧ (deliverFrame s b f).vis = s.vis ∧ (deliverFrame s b f).eps = s.eps ∧ (deliverFrame s b f).nibs = s.nibs ∧ (deliverFrame s b f).prp = s.prp ∧ (deliverFrame s b f).pcie = s.pcie ∧ (deliverFrame s b f).timelines = s.timelines ∧ (deliverFrame s b f).ink = s.ink ∧ (deliverFrame s b f).pins = s.pins := by
  generalize h : deliverFrame s b f = t; unfold deliverFrame at h; (repeat' split at h) <;> (subst h; simp [*, bufferLevel_keeps _ _ _ _, emit_keeps _ _, markedCe_keeps _ _, setQp_keeps _ _ _])

theorem dupEnter_keeps (s : State) (mac seqno : Nat) : KeepsPorts (dupEnter s mac seqno) s ∧ KeepsHosts (dupEnter s mac seqno) s ∧ (dupEnter s mac seqno).now = s.now ∧ (dupEnter s mac seqno).pending = s.pending ∧ (dupEnter s mac seqno).out = s.out ∧ (dupEnter s mac seqno).limits = s.limits ∧ (dupEnter s mac seqno).folioOn = s.folioOn ∧ (dupEnter s mac seqno).strokeBase = s.strokeBase ∧ (dupEnter s mac seqno).resyncAt = s.resyncAt ∧ (dupEnter s mac seqno).pairs = s.pairs ∧ (dupEnter s mac seqno).writes = s.writes ∧ (dupEnter s mac seqno).staged = s.staged ∧ (dupEnter s mac seqno).rubric = s.rubric ∧ (dupEnter s mac seqno).trustBySpi = s.trustBySpi ∧ (dupEnter s mac seqno).trustConfigured = s.trustConfigured ∧ (dupEnter s mac seqno).link = s.link ∧ (dupEnter s mac seqno).localEvents = s.localEvents ∧ (dupEnter s mac seqno).localLost = s.localLost ∧ (dupEnter s mac seqno).pal = s.pal ∧ (dupEnter s mac seqno).margin = s.margin ∧ (dupEnter s mac seqno).disc = s.disc ∧ (dupEnter s mac seqno).clusters = s.clusters ∧ (dupEnter s mac seqno).engines = s.engines ∧ (dupEnter s mac seqno).regionTemp = s.regionTemp ∧ (dupEnter s mac seqno).lanes = s.lanes ∧ (dupEnter s mac seqno).img = s.img ∧ (dupEnter s mac seqno).nor = s.nor ∧ (dupEnter s mac seqno).sealUnit = s.sealUnit ∧ (dupEnter s mac seqno).input = s.input ∧ (dupEnter s mac seqno).vauxOk = s.vauxOk ∧ (dupEnter s mac seqno).ptp = s.ptp ∧ (dupEnter s mac seqno).eth = s.eth ∧ (dupEnter s mac seqno).pcie = s.pcie ∧ (dupEnter s mac seqno).timelines = s.timelines ∧ (dupEnter s mac seqno).pins = s.pins := by
  generalize h : dupEnter s mac seqno = t; unfold dupEnter at h; dsimp only at h; (repeat' split at h) <;> (subst h; simp [*, rcCount_keeps _ _ _])

theorem acceptReq_keeps (s : State) (portB : Bool) (r : CmReq) : KeepsBoard (acceptReq s portB r) s ∧ (acceptReq s portB r).limits = s.limits ∧ (acceptReq s portB r).regs = s.regs ∧ (acceptReq s portB r).rcSpi = s.rcSpi ∧ (acceptReq s portB r).rcPf = s.rcPf ∧ (acceptReq s portB r).pal = s.pal ∧ (acceptReq s portB r).margin = s.margin ∧ (acceptReq s portB r).modes = s.modes ∧ (acceptReq s portB r).blot = s.blot ∧ (acceptReq s portB r).power = s.power ∧ (acceptReq s portB r).pd = s.pd ∧ (acceptReq s portB r).own = s.own ∧ (acceptReq s portB r).vis = s.vis ∧ (acceptReq s portB r).devices = s.devices ∧ (acceptReq s portB r).eps = s.eps ∧ (acceptReq s portB r).nibs = s.nibs ∧ (acceptReq s portB r).pcie = s.pcie ∧ (acceptReq s portB r).ink = s.ink ∧ (acceptReq s portB r).cvis = s.cvis ∧ (acceptReq s portB r).cviews = s.cviews ∧ (acceptReq s portB r).cports = s.cports ∧ (acceptReq s portB r).ligs = s.ligs ∧ (acceptReq s portB r).func = s.func := by
  generalize h : acceptReq s portB r = t; unfold acceptReq at h; dsimp only at h; (repeat' split at h) <;> (subst h; simp [*, drawMany_keeps _ _, emit_keeps _ _, setQp_keeps _ _ _])

theorem bindSlot_keeps (s : State) (q : Fin 128) : KeepsBoard (bindSlot s q) s ∧ KeepsPorts (bindSlot s q) s ∧ (bindSlot s q).out = s.out ∧ (bindSlot s q).nibs = s.nibs ∧ (bindSlot s q).pcie = s.pcie ∧ (bindSlot s q).ink = s.ink := by
  generalize h : bindSlot s q = t; unfold bindSlot at h; dsimp only at h; (repeat' split at h) <;> (subst h; simp [*, freeSlot_keeps _ _ _, homeStamp_keeps _ _, leaveUnreachable_keeps _ _ _, setQp_keeps _ _ _, setVi_keeps _ _ _])

theorem qpReset_keeps (s : State) (q : Fin 128) : KeepsBoard (qpReset s q) s ∧ (qpReset s q).out = s.out ∧ (qpReset s q).freeCtr = s.freeCtr ∧ (qpReset s q).modes = s.modes ∧ (qpReset s q).blot = s.blot ∧ (qpReset s q).power = s.power ∧ (qpReset s q).pd = s.pd ∧ (qpReset s q).devices = s.devices ∧ (qpReset s q).eps = s.eps ∧ (qpReset s q).pcie = s.pcie ∧ (qpReset s q).cviews = s.cviews ∧ (qpReset s q).cports = s.cports ∧ (qpReset s q).ligs = s.ligs ∧ (qpReset s q).func = s.func := by
  generalize h : qpReset s q = t; unfold qpReset at h; (repeat' split at h) <;> (subst h; simp [*, disconnectSlot_keeps _ _ _])

theorem setDisc_keeps (s : State) (f : Disc → Disc) : KeepsPorts (setDisc s f) s ∧ KeepsHosts (setDisc s f) s ∧ (setDisc s f).now = s.now ∧ (setDisc s f).pending = s.pending ∧ (setDisc s f).out = s.out ∧ (setDisc s f).limits = s.limits ∧ (setDisc s f).folioOn = s.folioOn ∧ (setDisc s f).strokeBase = s.strokeBase ∧ (setDisc s f).resyncAt = s.resyncAt ∧ (setDisc s f).rcSpi = s.rcSpi ∧ (setDisc s f).rcPf = s.rcPf ∧ (setDisc s f).pairs = s.pairs ∧ (setDisc s f).writes = s.writes ∧ (setDisc s f).staged = s.staged ∧ (setDisc s f).rubric = s.rubric ∧ (setDisc s f).trustBySpi = s.trustBySpi ∧ (setDisc s f).trustConfigured = s.trustConfigured ∧ (setDisc s f).link = s.link ∧ (setDisc s f).localEvents = s.localEvents ∧ (setDisc s f).localLost = s.localLost ∧ (setDisc s f).pal = s.pal ∧ (setDisc s f).margin = s.margin ∧ (setDisc s f).clusters = s.clusters ∧ (setDisc s f).engines = s.engines ∧ (setDisc s f).regionTemp = s.regionTemp ∧ (setDisc s f).lanes = s.lanes ∧ (setDisc s f).img = s.img ∧ (setDisc s f).nor = s.nor ∧ (setDisc s f).sealUnit = s.sealUnit ∧ (setDisc s f).input = s.input ∧ (setDisc s f).vauxOk = s.vauxOk ∧ (setDisc s f).ptp = s.ptp ∧ (setDisc s f).eth = s.eth ∧ (setDisc s f).prp = s.prp ∧ (setDisc s f).pcie = s.pcie ∧ (setDisc s f).timelines = s.timelines ∧ (setDisc s f).pins = s.pins := by
  simp [setDisc]

theorem discMove_keeps (s : State) (st : DiscState) : KeepsPorts (discMove s st) s ∧ KeepsHosts (discMove s st) s ∧ (discMove s st).now = s.now ∧ (discMove s st).pending = s.pending ∧ (discMove s st).out = s.out ∧ (discMove s st).folioOn = s.folioOn ∧ (discMove s st).strokeBase = s.strokeBase ∧ (discMove s st).resyncAt = s.resyncAt ∧ (discMove s st).pairs = s.pairs ∧ (discMove s st).writes = s.writes ∧ (discMove s st).staged = s.staged ∧ (discMove s st).rubric = s.rubric ∧ (discMove s st).trustBySpi = s.trustBySpi ∧ (discMove s st).trustConfigured = s.trustConfigured ∧ (discMove s st).link = s.link ∧ (discMove s st).localEvents = s.localEvents ∧ (discMove s st).localLost = s.localLost ∧ (discMove s st).clusters = s.clusters ∧ (discMove s st).engines = s.engines ∧ (discMove s st).regionTemp = s.regionTemp ∧ (discMove s st).lanes = s.lanes ∧ (discMove s st).img = s.img ∧ (discMove s st).nor = s.nor ∧ (discMove s st).sealUnit = s.sealUnit ∧ (discMove s st).input = s.input ∧ (discMove s st).vauxOk = s.vauxOk ∧ (discMove s st).ptp = s.ptp ∧ (discMove s st).eth = s.eth ∧ (discMove s st).prp = s.prp ∧ (discMove s st).pcie = s.pcie ∧ (discMove s st).timelines = s.timelines ∧ (discMove s st).pins = s.pins := by
  simp [discMove, record_keeps _ _ _ _ _ _ _, setDisc_keeps _ _]

theorem discAnchor_keeps (s : State) (timeNs : Nat) : KeepsPorts (discAnchor s timeNs) s ∧ KeepsHosts (discAnchor s timeNs) s ∧ (discAnchor s timeNs).now = s.now ∧ (discAnchor s timeNs).pending = s.pending ∧ (discAnchor s timeNs).out = s.out ∧ (discAnchor s timeNs).limits = s.limits ∧ (discAnchor s timeNs).folioOn = s.folioOn ∧ (discAnchor s timeNs).strokeBase = s.strokeBase ∧ (discAnchor s timeNs).resyncAt = s.resyncAt ∧ (discAnchor s timeNs).rcSpi = s.rcSpi ∧ (discAnchor s timeNs).rcPf = s.rcPf ∧ (discAnchor s timeNs).pairs = s.pairs ∧ (discAnchor s timeNs).writes = s.writes ∧ (discAnchor s timeNs).staged = s.staged ∧ (discAnchor s timeNs).rubric = s.rubric ∧ (discAnchor s timeNs).trustBySpi = s.trustBySpi ∧ (discAnchor s timeNs).trustConfigured = s.trustConfigured ∧ (discAnchor s timeNs).link = s.link ∧ (discAnchor s timeNs).localEvents = s.localEvents ∧ (discAnchor s timeNs).localLost = s.localLost ∧ (discAnchor s timeNs).pal = s.pal ∧ (discAnchor s timeNs).margin = s.margin ∧ (discAnchor s timeNs).clusters = s.clusters ∧ (discAnchor s timeNs).engines = s.engines ∧ (discAnchor s timeNs).regionTemp = s.regionTemp ∧ (discAnchor s timeNs).lanes = s.lanes ∧ (discAnchor s timeNs).img = s.img ∧ (discAnchor s timeNs).nor = s.nor ∧ (discAnchor s timeNs).sealUnit = s.sealUnit ∧ (discAnchor s timeNs).input = s.input ∧ (discAnchor s timeNs).vauxOk = s.vauxOk ∧ (discAnchor s timeNs).ptp = s.ptp ∧ (discAnchor s timeNs).eth = s.eth ∧ (discAnchor s timeNs).prp = s.prp ∧ (discAnchor s timeNs).pcie = s.pcie ∧ (discAnchor s timeNs).timelines = s.timelines ∧ (discAnchor s timeNs).pins = s.pins := by
  simp [discAnchor, setDisc_keeps _ _]

theorem discUpdate_keeps (s : State) (timeNs : Nat) (e : Int) (i : Nat) : KeepsPorts (discUpdate s timeNs e i) s ∧ KeepsHosts (discUpdate s timeNs e i) s ∧ (discUpdate s timeNs e i).now = s.now ∧ (discUpdate s timeNs e i).pending = s.pending ∧ (discUpdate s timeNs e i).out = s.out ∧ (discUpdate s timeNs e i).folioOn = s.folioOn ∧ (discUpdate s timeNs e i).strokeBase = s.strokeBase ∧ (discUpdate s timeNs e i).resyncAt = s.resyncAt ∧ (discUpdate s timeNs e i).pairs = s.pairs ∧ (discUpdate s timeNs e i).writes = s.writes ∧ (discUpdate s timeNs e i).staged = s.staged ∧ (discUpdate s timeNs e i).rubric = s.rubric ∧ (discUpdate s timeNs e i).trustBySpi = s.trustBySpi ∧ (discUpdate s timeNs e i).trustConfigured = s.trustConfigured ∧ (discUpdate s timeNs e i).link = s.link ∧ (discUpdate s timeNs e i).localEvents = s.localEvents ∧ (discUpdate s timeNs e i).localLost = s.localLost ∧ (discUpdate s timeNs e i).clusters = s.clusters ∧ (discUpdate s timeNs e i).engines = s.engines ∧ (discUpdate s timeNs e i).regionTemp = s.regionTemp ∧ (discUpdate s timeNs e i).lanes = s.lanes ∧ (discUpdate s timeNs e i).img = s.img ∧ (discUpdate s timeNs e i).nor = s.nor ∧ (discUpdate s timeNs e i).sealUnit = s.sealUnit ∧ (discUpdate s timeNs e i).input = s.input ∧ (discUpdate s timeNs e i).vauxOk = s.vauxOk ∧ (discUpdate s timeNs e i).ptp = s.ptp ∧ (discUpdate s timeNs e i).eth = s.eth ∧ (discUpdate s timeNs e i).prp = s.prp ∧ (discUpdate s timeNs e i).pcie = s.pcie ∧ (discUpdate s timeNs e i).timelines = s.timelines ∧ (discUpdate s timeNs e i).pins = s.pins := by
  generalize h : discUpdate s timeNs e i = t; unfold discUpdate at h; dsimp only at h; (repeat' split at h) <;> (subst h; simp [*, discAnchor_keeps _ _, record_keeps _ _ _ _ _ _ _, setDisc_keeps _ _])

theorem discJudge_keeps (s : State) (e : Int) : KeepsPorts (discJudge s e) s ∧ KeepsHosts (discJudge s e) s ∧ (discJudge s e).now = s.now ∧ (discJudge s e).pending = s.pending ∧ (discJudge s e).out = s.out ∧ (discJudge s e).folioOn = s.folioOn ∧ (discJudge s e).strokeBase = s.strokeBase ∧ (discJudge s e).resyncAt = s.resyncAt ∧ (discJudge s e).pairs = s.pairs ∧ (discJudge s e).writes = s.writes ∧ (discJudge s e).staged = s.staged ∧ (discJudge s e).rubric = s.rubric ∧ (discJudge s e).trustBySpi = s.trustBySpi ∧ (discJudge s e).trustConfigured = s.trustConfigured ∧ (discJudge s e).link = s.link ∧ (discJudge s e).localEvents = s.localEvents ∧ (discJudge s e).localLost = s.localLost ∧ (discJudge s e).clusters = s.clusters ∧ (discJudge s e).engines = s.engines ∧ (discJudge s e).regionTemp = s.regionTemp ∧ (discJudge s e).lanes = s.lanes ∧ (discJudge s e).img = s.img ∧ (discJudge s e).nor = s.nor ∧ (discJudge s e).sealUnit = s.sealUnit ∧ (discJudge s e).input = s.input ∧ (discJudge s e).vauxOk = s.vauxOk ∧ (discJudge s e).ptp = s.ptp ∧ (discJudge s e).eth = s.eth ∧ (discJudge s e).prp = s.prp ∧ (discJudge s e).pcie = s.pcie ∧ (discJudge s e).timelines = s.timelines ∧ (discJudge s e).pins = s.pins := by
  generalize h : discJudge s e = t; unfold discJudge at h; (repeat' split at h) <;> (subst h; simp [*, discMove_keeps _ _, setDisc_keeps _ _])

theorem discSync_keeps (s : State) (timeNs i : Nat) : KeepsPorts (discSync s timeNs i) s ∧ KeepsHosts (discSync s timeNs i) s ∧ (discSync s timeNs i).now = s.now ∧ (discSync s timeNs i).pending = s.pending ∧ (discSync s timeNs i).out = s.out ∧ (discSync s timeNs i).folioOn = s.folioOn ∧ (discSync s timeNs i).strokeBase = s.strokeBase ∧ (discSync s timeNs i).resyncAt = s.resyncAt ∧ (discSync s timeNs i).pairs = s.pairs ∧ (discSync s timeNs i).writes = s.writes ∧ (discSync s timeNs i).staged = s.staged ∧ (discSync s timeNs i).rubric = s.rubric ∧ (discSync s timeNs i).trustBySpi = s.trustBySpi ∧ (discSync s timeNs i).trustConfigured = s.trustConfigured ∧ (discSync s timeNs i).link = s.link ∧ (discSync s timeNs i).localEvents = s.localEvents ∧ (discSync s timeNs i).localLost = s.localLost ∧ (discSync s timeNs i).clusters = s.clusters ∧ (discSync s timeNs i).engines = s.engines ∧ (discSync s timeNs i).regionTemp = s.regionTemp ∧ (discSync s timeNs i).lanes = s.lanes ∧ (discSync s timeNs i).img = s.img ∧ (discSync s timeNs i).nor = s.nor ∧ (discSync s timeNs i).sealUnit = s.sealUnit ∧ (discSync s timeNs i).input = s.input ∧ (discSync s timeNs i).vauxOk = s.vauxOk ∧ (discSync s timeNs i).ptp = s.ptp ∧ (discSync s timeNs i).eth = s.eth ∧ (discSync s timeNs i).prp = s.prp ∧ (discSync s timeNs i).pcie = s.pcie ∧ (discSync s timeNs i).timelines = s.timelines ∧ (discSync s timeNs i).pins = s.pins := by
  generalize h : discSync s timeNs i = t; unfold discSync at h; (repeat' split at h) <;> (subst h; simp [*, discAnchor_keeps _ _, discJudge_keeps _ _, discMove_keeps _ _, discUpdate_keeps _ _ _ _, setDisc_keeps _ _])

theorem discLost_keeps (s : State) : KeepsPorts (discLost s) s ∧ KeepsHosts (discLost s) s ∧ (discLost s).now = s.now ∧ (discLost s).pending = s.pending ∧ (discLost s).out = s.out ∧ (discLost s).folioOn = s.folioOn ∧ (discLost s).strokeBase = s.strokeBase ∧ (discLost s).resyncAt = s.resyncAt ∧ (discLost s).pairs = s.pairs ∧ (discLost s).writes = s.writes ∧ (discLost s).staged = s.staged ∧ (discLost s).rubric = s.rubric ∧ (discLost s).trustBySpi = s.trustBySpi ∧ (discLost s).trustConfigured = s.trustConfigured ∧ (discLost s).link = s.link ∧ (discLost s).localEvents = s.localEvents ∧ (discLost s).localLost = s.localLost ∧ (discLost s).clusters = s.clusters ∧ (discLost s).engines = s.engines ∧ (discLost s).regionTemp = s.regionTemp ∧ (discLost s).lanes = s.lanes ∧ (discLost s).img = s.img ∧ (discLost s).nor = s.nor ∧ (discLost s).sealUnit = s.sealUnit ∧ (discLost s).input = s.input ∧ (discLost s).vauxOk = s.vauxOk ∧ (discLost s).ptp = s.ptp ∧ (discLost s).eth = s.eth ∧ (discLost s).prp = s.prp ∧ (discLost s).pcie = s.pcie ∧ (discLost s).timelines = s.timelines ∧ (discLost s).pins = s.pins := by
  generalize h : discLost s = t; unfold discLost at h; (repeat' split at h) <;> (subst h; simp [*, discMove_keeps _ _, setDisc_keeps _ _])

theorem discOff_keeps (s : State) : KeepsPorts (discOff s) s ∧ KeepsHosts (discOff s) s ∧ (discOff s).now = s.now ∧ (discOff s).pending = s.pending ∧ (discOff s).out = s.out ∧ (discOff s).folioOn = s.folioOn ∧ (discOff s).strokeBase = s.strokeBase ∧ (discOff s).resyncAt = s.resyncAt ∧ (discOff s).pairs = s.pairs ∧ (discOff s).writes = s.writes ∧ (discOff s).staged = s.staged ∧ (discOff s).rubric = s.rubric ∧ (discOff s).trustBySpi = s.trustBySpi ∧ (discOff s).trustConfigured = s.trustConfigured ∧ (discOff s).link = s.link ∧ (discOff s).localEvents = s.localEvents ∧ (discOff s).localLost = s.localLost ∧ (discOff s).clusters = s.clusters ∧ (discOff s).engines = s.engines ∧ (discOff s).regionTemp = s.regionTemp ∧ (discOff s).lanes = s.lanes ∧ (discOff s).img = s.img ∧ (discOff s).nor = s.nor ∧ (discOff s).sealUnit = s.sealUnit ∧ (discOff s).input = s.input ∧ (discOff s).vauxOk = s.vauxOk ∧ (discOff s).ptp = s.ptp ∧ (discOff s).eth = s.eth ∧ (discOff s).prp = s.prp ∧ (discOff s).pcie = s.pcie ∧ (discOff s).timelines = s.timelines ∧ (discOff s).pins = s.pins := by
  generalize h : discOff s = t; unfold discOff at h; (repeat' split at h) <;> (subst h; simp [*, discMove_keeps _ _, setDisc_keeps _ _])

theorem ptpUnlock_keeps (s : State) : KeepsPorts (ptpUnlock s) s ∧ KeepsHosts (ptpUnlock s) s ∧ (ptpUnlock s).now = s.now ∧ (ptpUnlock s).pending = s.pending ∧ (ptpUnlock s).out = s.out ∧ (ptpUnlock s).folioOn = s.folioOn ∧ (ptpUnlock s).strokeBase = s.strokeBase ∧ (ptpUnlock s).resyncAt = s.resyncAt ∧ (ptpUnlock s).pairs = s.pairs ∧ (ptpUnlock s).writes = s.writes ∧ (ptpUnlock s).staged = s.staged ∧ (ptpUnlock s).rubric = s.rubric ∧ (ptpUnlock s).trustBySpi = s.trustBySpi ∧ (ptpUnlock s).trustConfigured = s.trustConfigured ∧ (ptpUnlock s).link = s.link ∧ (ptpUnlock s).localEvents = s.localEvents ∧ (ptpUnlock s).localLost = s.localLost ∧ (ptpUnlock s).clusters = s.clusters ∧ (ptpUnlock s).engines = s.engines ∧ (ptpUnlock s).regionTemp = s.regionTemp ∧ (ptpUnlock s).lanes = s.lanes ∧ (ptpUnlock s).img = s.img ∧ (ptpUnlock s).nor = s.nor ∧ (ptpUnlock s).sealUnit = s.sealUnit ∧ (ptpUnlock s).input = s.input ∧ (ptpUnlock s).vauxOk = s.vauxOk ∧ (ptpUnlock s).eth = s.eth ∧ (ptpUnlock s).prp = s.prp ∧ (ptpUnlock s).pcie = s.pcie ∧ (ptpUnlock s).pins = s.pins := by
  simp [ptpUnlock, clockLost_keeps _ _, discLost_keeps _]

end Sys2Proof.Machine
end

