-- ==== Sys2Proof/Laws/FrameFaultCmds.lean ====
section
/-! SUPPORT. What the operations of Machine/FaultCmds.lean leave as it was: one lemma for each, over every input, and over every outcome of it.
A proof names the ones it needs, each applied: simp [op_keeps _ _] rewrites every field that op leaves. -/

namespace Sys2Proof.Machine

theorem eccCorrected_keeps (s : State) (site : EccSite) : KeepsBoard (eccCorrected s site) s ∧ KeepsHosts (eccCorrected s site) s ∧ (eccCorrected s site).out = s.out ∧ (eccCorrected s site).freeCtr = s.freeCtr ∧ (eccCorrected s site).regs = s.regs ∧ (eccCorrected s site).modes = s.modes ∧ (eccCorrected s site).power = s.power ∧ (eccCorrected s site).pd = s.pd ∧ (eccCorrected s site).devices = s.devices ∧ (eccCorrected s site).pcie = s.pcie ∧ (eccCorrected s site).cvis = s.cvis ∧ (eccCorrected s site).cviews = s.cviews ∧ (eccCorrected s site).cports = s.cports ∧ (eccCorrected s site).ligs = s.ligs ∧ (eccCorrected s site).func = s.func := by
  generalize h : eccCorrected s site = t; unfold eccCorrected at h; (repeat' split at h) <;> (subst h; simp [*, faultReport_keeps _ _ _ _ _, rcCount_keeps _ _ _])

theorem failFlight_keeps (s : State) (ctx : Nat) : KeepsBoard (failFlight s ctx) s ∧ KeepsPorts (failFlight s ctx) s ∧ (failFlight s ctx).own = s.own := by
  generalize h : failFlight s ctx = t; unfold failFlight at h; (repeat' split at h) <;> (subst h; simp [*, concludeXfer_keeps _ _ _ _])

theorem engineRestart_keeps (s : State) (e : Fin 96) : KeepsPorts (engineRestart s e) s ∧ (engineRestart s e).now = s.now ∧ (engineRestart s e).pending = s.pending ∧ (engineRestart s e).folioOn = s.folioOn ∧ (engineRestart s e).strokeBase = s.strokeBase ∧ (engineRestart s e).resyncAt = s.resyncAt ∧ (engineRestart s e).pairs = s.pairs ∧ (engineRestart s e).writes = s.writes ∧ (engineRestart s e).staged = s.staged ∧ (engineRestart s e).rubric = s.rubric ∧ (engineRestart s e).trustBySpi = s.trustBySpi ∧ (engineRestart s e).trustConfigured = s.trustConfigured ∧ (engineRestart s e).link = s.link ∧ (engineRestart s e).localEvents = s.localEvents ∧ (engineRestart s e).localLost = s.localLost ∧ (engineRestart s e).disc = s.disc ∧ (engineRestart s e).regionTemp = s.regionTemp ∧ (engineRestart s e).lanes = s.lanes ∧ (engineRestart s e).img = s.img ∧ (engineRestart s e).nor = s.nor ∧ (engineRestart s e).sealUnit = s.sealUnit ∧ (engineRestart s e).input = s.input ∧ (engineRestart s e).vauxOk = s.vauxOk ∧ (engineRestart s e).ptp = s.ptp ∧ (engineRestart s e).own = s.own ∧ (engineRestart s e).eth = s.eth ∧ (engineRestart s e).prp = s.prp ∧ (engineRestart s e).timelines = s.timelines ∧ (engineRestart s e).pins = s.pins := by
  simp [engineRestart, failFlight_keeps _ _, rcCount_keeps _ _ _]

theorem dropNotice_keeps (s : State) (q : Fin 65) (i : Nat) : KeepsBoard (dropNotice s q i) s ∧ KeepsPorts (dropNotice s q i) s ∧ KeepsHosts (dropNotice s q i) s ∧ (dropNotice s q i).out = s.out ∧ (dropNotice s q i).limits = s.limits ∧ (dropNotice s q i).pal = s.pal ∧ (dropNotice s q i).pcie = s.pcie := by
  generalize h : dropNotice s q i = t; unfold dropNotice at h; (repeat' split at h) <;> (subst h; simp [*, rcCount_keeps _ _ _, setQueue_keeps _ _ _])

theorem dropRam_keeps (s : State) (seq : Nat) : KeepsBoard (dropRam s seq) s ∧ KeepsPorts (dropRam s seq) s ∧ KeepsHosts (dropRam s seq) s ∧ (dropRam s seq).out = s.out ∧ (dropRam s seq).limits = s.limits ∧ (dropRam s seq).margin = s.margin ∧ (dropRam s seq).pcie = s.pcie := by
  generalize h : dropRam s seq = t; unfold dropRam at h; (repeat' split at h) <;> (subst h; simp [*, countLoss_keeps _ _])

theorem contain_keeps (s : State) (a0 : EccSite) : (contain s a0).now = s.now ∧ (contain s a0).pending = s.pending ∧ (contain s a0).freeCtr = s.freeCtr ∧ (contain s a0).folioOn = s.folioOn ∧ (contain s a0).strokeBase = s.strokeBase ∧ (contain s a0).resyncAt = s.resyncAt ∧ (contain s a0).pairs = s.pairs ∧ (contain s a0).writes = s.writes ∧ (contain s a0).staged = s.staged ∧ (contain s a0).rubric = s.rubric ∧ (contain s a0).trustBySpi = s.trustBySpi ∧ (contain s a0).trustConfigured = s.trustConfigured ∧ (contain s a0).link = s.link ∧ (contain s a0).localEvents = s.localEvents ∧ (contain s a0).localLost = s.localLost ∧ (contain s a0).disc = s.disc ∧ (contain s a0).regionTemp = s.regionTemp ∧ (contain s a0).lanes = s.lanes ∧ (contain s a0).img = s.img ∧ (contain s a0).nor = s.nor ∧ (contain s a0).sealUnit = s.sealUnit ∧ (contain s a0).input = s.input ∧ (contain s a0).vauxOk = s.vauxOk ∧ (contain s a0).ptp = s.ptp ∧ (contain s a0).eth = s.eth ∧ (contain s a0).pins = s.pins := by
  generalize h : contain s a0 = t; unfold contain at h; (repeat' split at h) <;> (subst h; simp [*, clusterFail_keeps _ _ _ _, dropNotice_keeps _ _ _, dropRam_keeps _ _, dropStash_keeps _ _ _, emptyLig_keeps _ _, engineRestart_keeps _ _, failFlight_keeps _ _, freeSlot_keeps _ _ _, haltEp_keeps _ _, rcCount_keeps _ _ _, releaseDevice_keeps _ _ _ _ _, unbindVi_keeps _ _])

theorem holdRegion_keeps (s : State) (q : Nat) (on : Bool) : KeepsPorts (holdRegion s q on) s ∧ KeepsHosts (holdRegion s q on) s ∧ (holdRegion s q on).now = s.now ∧ (holdRegion s q on).pending = s.pending ∧ (holdRegion s q on).out = s.out ∧ (holdRegion s q on).limits = s.limits ∧ (holdRegion s q on).folioOn = s.folioOn ∧ (holdRegion s q on).strokeBase = s.strokeBase ∧ (holdRegion s q on).resyncAt = s.resyncAt ∧ (holdRegion s q on).rcSpi = s.rcSpi ∧ (holdRegion s q on).rcPf = s.rcPf ∧ (holdRegion s q on).pairs = s.pairs ∧ (holdRegion s q on).writes = s.writes ∧ (holdRegion s q on).staged = s.staged ∧ (holdRegion s q on).rubric = s.rubric ∧ (holdRegion s q on).trustBySpi = s.trustBySpi ∧ (holdRegion s q on).trustConfigured = s.trustConfigured ∧ (holdRegion s q on).link = s.link ∧ (holdRegion s q on).localEvents = s.localEvents ∧ (holdRegion s q on).localLost = s.localLost ∧ (holdRegion s q on).pal = s.pal ∧ (holdRegion s q on).margin = s.margin ∧ (holdRegion s q on).disc = s.disc ∧ (holdRegion s q on).engines = s.engines ∧ (holdRegion s q on).regionTemp = s.regionTemp ∧ (holdRegion s q on).lanes = s.lanes ∧ (holdRegion s q on).img = s.img ∧ (holdRegion s q on).nor = s.nor ∧ (holdRegion s q on).sealUnit = s.sealUnit ∧ (holdRegion s q on).input = s.input ∧ (holdRegion s q on).vauxOk = s.vauxOk ∧ (holdRegion s q on).ptp = s.ptp ∧ (holdRegion s q on).eth = s.eth ∧ (holdRegion s q on).prp = s.prp ∧ (holdRegion s q on).pcie = s.pcie ∧ (holdRegion s q on).timelines = s.timelines ∧ (holdRegion s q on).pins = s.pins := by
  simp [holdRegion]

theorem setHot_keeps (s : State) (place : Nat) : KeepsBoard (setHot s place) s ∧ KeepsHosts (setHot s place) s ∧ (setHot s place).out = s.out ∧ (setHot s place).freeCtr = s.freeCtr ∧ (setHot s place).limits = s.limits ∧ (setHot s place).regs = s.regs ∧ (setHot s place).rcSpi = s.rcSpi ∧ (setHot s place).rcPf = s.rcPf ∧ (setHot s place).pal = s.pal ∧ (setHot s place).margin = s.margin ∧ (setHot s place).modes = s.modes ∧ (setHot s place).power = s.power ∧ (setHot s place).pd = s.pd ∧ (setHot s place).devices = s.devices ∧ (setHot s place).pcie = s.pcie ∧ (setHot s place).cvis = s.cvis ∧ (setHot s place).cviews = s.cviews ∧ (setHot s place).cports = s.cports ∧ (setHot s place).ligs = s.ligs ∧ (setHot s place).func = s.func := by
  simp [setHot, heatCause_keeps _]

theorem regionHot_keeps (s : State) (q : Nat) (hot : Bool) : (regionHot s q hot).now = s.now ∧ (regionHot s q hot).pending = s.pending ∧ (regionHot s q hot).freeCtr = s.freeCtr ∧ (regionHot s q hot).folioOn = s.folioOn ∧ (regionHot s q hot).strokeBase = s.strokeBase ∧ (regionHot s q hot).resyncAt = s.resyncAt ∧ (regionHot s q hot).regs = s.regs ∧ (regionHot s q hot).pairs = s.pairs ∧ (regionHot s q hot).writes = s.writes ∧ (regionHot s q hot).staged = s.staged ∧ (regionHot s q hot).rubric = s.rubric ∧ (regionHot s q hot).trustBySpi = s.trustBySpi ∧ (regionHot s q hot).trustConfigured = s.trustConfigured ∧ (regionHot s q hot).link = s.link ∧ (regionHot s q hot).localEvents = s.localEvents ∧ (regionHot s q hot).localLost = s.localLost ∧ (regionHot s q hot).disc = s.disc ∧ (regionHot s q hot).engines = s.engines ∧ (regionHot s q hot).regionTemp = s.regionTemp ∧ (regionHot s q hot).lanes = s.lanes ∧ (regionHot s q hot).img = s.img ∧ (regionHot s q hot).nor = s.nor ∧ (regionHot s q hot).sealUnit = s.sealUnit ∧ (regionHot s q hot).input = s.input ∧ (regionHot s q hot).vauxOk = s.vauxOk ∧ (regionHot s q hot).ptp = s.ptp ∧ (regionHot s q hot).eth = s.eth ∧ (regionHot s q hot).prp = s.prp ∧ (regionHot s q hot).timelines = s.timelines ∧ (regionHot s q hot).ligs = s.ligs ∧ (regionHot s q hot).func = s.func ∧ (regionHot s q hot).pins = s.pins := by
  generalize h : regionHot s q hot = t; unfold regionHot at h; (repeat' split at h) <;> (subst h; simp [*, enterQuarantine_keeps _ _ _, faultReport_keeps _ _ _ _ _, holdRegion_keeps _ _ _, setHot_keeps _ _])

theorem reservoirHot_keeps (s : State) : KeepsBoard (reservoirHot s) s ∧ (reservoirHot s).freeCtr = s.freeCtr ∧ (reservoirHot s).regs = s.regs ∧ (reservoirHot s).ligs = s.ligs ∧ (reservoirHot s).func = s.func := by
  generalize h : reservoirHot s = t; unfold reservoirHot at h; (repeat' split at h) <;> (subst h; simp [*, enterQuarantine_keeps _ _ _, faultReport_keeps _ _ _ _ _, gateOff_keeps _ _ _ _, holdFault_keeps _ _, setHot_keeps _ _])

theorem releasePorts_keeps (s : State) : KeepsBoard (releasePorts s) s ∧ (releasePorts s).freeCtr = s.freeCtr ∧ (releasePorts s).regs = s.regs ∧ (releasePorts s).modes = s.modes ∧ (releasePorts s).cvis = s.cvis ∧ (releasePorts s).ligs = s.ligs ∧ (releasePorts s).func = s.func := by
  simp [releasePorts, recomputeShares_keeps _, setPower_keeps _ _ _]

theorem quarExit_keeps (s : State) : KeepsBoard (quarExit s) s ∧ (quarExit s).freeCtr = s.freeCtr ∧ (quarExit s).regs = s.regs ∧ (quarExit s).ligs = s.ligs ∧ (quarExit s).func = s.func := by
  generalize h : quarExit s = t; unfold quarExit at h; (repeat' split at h) <;> (subst h; simp [*, enterMode_keeps _ _, rcCount_keeps _ _ _, refuseMode_keeps _ _, releasePorts_keeps _])

theorem advanceFloor_keeps (s : State) : KeepsPorts (advanceFloor s) s ∧ KeepsHosts (advanceFloor s) s ∧ (advanceFloor s).now = s.now ∧ (advanceFloor s).pending = s.pending ∧ (advanceFloor s).out = s.out ∧ (advanceFloor s).limits = s.limits ∧ (advanceFloor s).folioOn = s.folioOn ∧ (advanceFloor s).strokeBase = s.strokeBase ∧ (advanceFloor s).resyncAt = s.resyncAt ∧ (advanceFloor s).rcSpi = s.rcSpi ∧ (advanceFloor s).rcPf = s.rcPf ∧ (advanceFloor s).pairs = s.pairs ∧ (advanceFloor s).writes = s.writes ∧ (advanceFloor s).staged = s.staged ∧ (advanceFloor s).rubric = s.rubric ∧ (advanceFloor s).trustBySpi = s.trustBySpi ∧ (advanceFloor s).trustConfigured = s.trustConfigured ∧ (advanceFloor s).link = s.link ∧ (advanceFloor s).localEvents = s.localEvents ∧ (advanceFloor s).localLost = s.localLost ∧ (advanceFloor s).pal = s.pal ∧ (advanceFloor s).margin = s.margin ∧ (advanceFloor s).disc = s.disc ∧ (advanceFloor s).clusters = s.clusters ∧ (advanceFloor s).engines = s.engines ∧ (advanceFloor s).regionTemp = s.regionTemp ∧ (advanceFloor s).lanes = s.lanes ∧ (advanceFloor s).img = s.img ∧ (advanceFloor s).nor = s.nor ∧ (advanceFloor s).input = s.input ∧ (advanceFloor s).vauxOk = s.vauxOk ∧ (advanceFloor s).ptp = s.ptp ∧ (advanceFloor s).eth = s.eth ∧ (advanceFloor s).prp = s.prp ∧ (advanceFloor s).pcie = s.pcie ∧ (advanceFloor s).timelines = s.timelines ∧ (advanceFloor s).pins = s.pins := by
  simp [advanceFloor]

theorem returnArm_keeps (s : State) : KeepsPorts (returnArm s) s ∧ KeepsHosts (returnArm s) s ∧ (returnArm s).now = s.now ∧ (returnArm s).pending = s.pending ∧ (returnArm s).out = s.out ∧ (returnArm s).limits = s.limits ∧ (returnArm s).folioOn = s.folioOn ∧ (returnArm s).strokeBase = s.strokeBase ∧ (returnArm s).resyncAt = s.resyncAt ∧ (returnArm s).rcSpi = s.rcSpi ∧ (returnArm s).rcPf = s.rcPf ∧ (returnArm s).pairs = s.pairs ∧ (returnArm s).writes = s.writes ∧ (returnArm s).staged = s.staged ∧ (returnArm s).rubric = s.rubric ∧ (returnArm s).trustBySpi = s.trustBySpi ∧ (returnArm s).trustConfigured = s.trustConfigured ∧ (returnArm s).link = s.link ∧ (returnArm s).localEvents = s.localEvents ∧ (returnArm s).localLost = s.localLost ∧ (returnArm s).pal = s.pal ∧ (returnArm s).margin = s.margin ∧ (returnArm s).disc = s.disc ∧ (returnArm s).clusters = s.clusters ∧ (returnArm s).engines = s.engines ∧ (returnArm s).regionTemp = s.regionTemp ∧ (returnArm s).lanes = s.lanes ∧ (returnArm s).img = s.img ∧ (returnArm s).nor = s.nor ∧ (returnArm s).input = s.input ∧ (returnArm s).vauxOk = s.vauxOk ∧ (returnArm s).ptp = s.ptp ∧ (returnArm s).eth = s.eth ∧ (returnArm s).prp = s.prp ∧ (returnArm s).pcie = s.pcie ∧ (returnArm s).timelines = s.timelines ∧ (returnArm s).pins = s.pins := by
  simp [returnArm]

theorem returnDisarm_keeps (s : State) : KeepsPorts (returnDisarm s) s ∧ KeepsHosts (returnDisarm s) s ∧ (returnDisarm s).now = s.now ∧ (returnDisarm s).pending = s.pending ∧ (returnDisarm s).out = s.out ∧ (returnDisarm s).limits = s.limits ∧ (returnDisarm s).folioOn = s.folioOn ∧ (returnDisarm s).strokeBase = s.strokeBase ∧ (returnDisarm s).resyncAt = s.resyncAt ∧ (returnDisarm s).rcSpi = s.rcSpi ∧ (returnDisarm s).rcPf = s.rcPf ∧ (returnDisarm s).pairs = s.pairs ∧ (returnDisarm s).writes = s.writes ∧ (returnDisarm s).staged = s.staged ∧ (returnDisarm s).rubric = s.rubric ∧ (returnDisarm s).trustBySpi = s.trustBySpi ∧ (returnDisarm s).trustConfigured = s.trustConfigured ∧ (returnDisarm s).link = s.link ∧ (returnDisarm s).localEvents = s.localEvents ∧ (returnDisarm s).localLost = s.localLost ∧ (returnDisarm s).pal = s.pal ∧ (returnDisarm s).margin = s.margin ∧ (returnDisarm s).disc = s.disc ∧ (returnDisarm s).clusters = s.clusters ∧ (returnDisarm s).engines = s.engines ∧ (returnDisarm s).regionTemp = s.regionTemp ∧ (returnDisarm s).lanes = s.lanes ∧ (returnDisarm s).img = s.img ∧ (returnDisarm s).nor = s.nor ∧ (returnDisarm s).input = s.input ∧ (returnDisarm s).vauxOk = s.vauxOk ∧ (returnDisarm s).ptp = s.ptp ∧ (returnDisarm s).eth = s.eth ∧ (returnDisarm s).prp = s.prp ∧ (returnDisarm s).pcie = s.pcie ∧ (returnDisarm s).timelines = s.timelines ∧ (returnDisarm s).pins = s.pins := by
  simp [returnDisarm]

theorem setSeal_keeps (s : State) (f : Seal → Seal) : KeepsPorts (setSeal s f) s ∧ KeepsHosts (setSeal s f) s ∧ (setSeal s f).now = s.now ∧ (setSeal s f).pending = s.pending ∧ (setSeal s f).out = s.out ∧ (setSeal s f).limits = s.limits ∧ (setSeal s f).folioOn = s.folioOn ∧ (setSeal s f).strokeBase = s.strokeBase ∧ (setSeal s f).resyncAt = s.resyncAt ∧ (setSeal s f).rcSpi = s.rcSpi ∧ (setSeal s f).rcPf = s.rcPf ∧ (setSeal s f).pairs = s.pairs ∧ (setSeal s f).writes = s.writes ∧ (setSeal s f).staged = s.staged ∧ (setSeal s f).rubric = s.rubric ∧ (setSeal s f).trustBySpi = s.trustBySpi ∧ (setSeal s f).trustConfigured = s.trustConfigured ∧ (setSeal s f).link = s.link ∧ (setSeal s f).localEvents = s.localEvents ∧ (setSeal s f).localLost = s.localLost ∧ (setSeal s f).pal = s.pal ∧ (setSeal s f).margin = s.margin ∧ (setSeal s f).disc = s.disc ∧ (setSeal s f).clusters = s.clusters ∧ (setSeal s f).engines = s.engines ∧ (setSeal s f).regionTemp = s.regionTemp ∧ (setSeal s f).lanes = s.lanes ∧ (setSeal s f).img = s.img ∧ (setSeal s f).nor = s.nor ∧ (setSeal s f).input = s.input ∧ (setSeal s f).vauxOk = s.vauxOk ∧ (setSeal s f).ptp = s.ptp ∧ (setSeal s f).eth = s.eth ∧ (setSeal s f).prp = s.prp ∧ (setSeal s f).pcie = s.pcie ∧ (setSeal s f).timelines = s.timelines ∧ (setSeal s f).pins = s.pins := by
  simp [setSeal]

theorem keyAnswer_keeps (s : State) (code : Nat) : KeepsPorts (keyAnswer s code) s ∧ KeepsHosts (keyAnswer s code) s ∧ (keyAnswer s code).now = s.now ∧ (keyAnswer s code).pending = s.pending ∧ (keyAnswer s code).out = s.out ∧ (keyAnswer s code).limits = s.limits ∧ (keyAnswer s code).folioOn = s.folioOn ∧ (keyAnswer s code).strokeBase = s.strokeBase ∧ (keyAnswer s code).resyncAt = s.resyncAt ∧ (keyAnswer s code).rcSpi = s.rcSpi ∧ (keyAnswer s code).rcPf = s.rcPf ∧ (keyAnswer s code).pairs = s.pairs ∧ (keyAnswer s code).writes = s.writes ∧ (keyAnswer s code).staged = s.staged ∧ (keyAnswer s code).rubric = s.rubric ∧ (keyAnswer s code).trustBySpi = s.trustBySpi ∧ (keyAnswer s code).trustConfigured = s.trustConfigured ∧ (keyAnswer s code).link = s.link ∧ (keyAnswer s code).localEvents = s.localEvents ∧ (keyAnswer s code).localLost = s.localLost ∧ (keyAnswer s code).pal = s.pal ∧ (keyAnswer s code).margin = s.margin ∧ (keyAnswer s code).disc = s.disc ∧ (keyAnswer s code).clusters = s.clusters ∧ (keyAnswer s code).engines = s.engines ∧ (keyAnswer s code).regionTemp = s.regionTemp ∧ (keyAnswer s code).lanes = s.lanes ∧ (keyAnswer s code).img = s.img ∧ (keyAnswer s code).nor = s.nor ∧ (keyAnswer s code).input = s.input ∧ (keyAnswer s code).vauxOk = s.vauxOk ∧ (keyAnswer s code).ptp = s.ptp ∧ (keyAnswer s code).eth = s.eth ∧ (keyAnswer s code).prp = s.prp ∧ (keyAnswer s code).pcie = s.pcie ∧ (keyAnswer s code).timelines = s.timelines ∧ (keyAnswer s code).pins = s.pins := by
  simp [keyAnswer, setSeal_keeps _ _]

theorem keyLoad_keeps (s : State) (v : RingId) : KeepsPorts (keyLoad s v) s ∧ KeepsHosts (keyLoad s v) s ∧ (keyLoad s v).now = s.now ∧ (keyLoad s v).pending = s.pending ∧ (keyLoad s v).out = s.out ∧ (keyLoad s v).limits = s.limits ∧ (keyLoad s v).folioOn = s.folioOn ∧ (keyLoad s v).strokeBase = s.strokeBase ∧ (keyLoad s v).resyncAt = s.resyncAt ∧ (keyLoad s v).rcSpi = s.rcSpi ∧ (keyLoad s v).rcPf = s.rcPf ∧ (keyLoad s v).pairs = s.pairs ∧ (keyLoad s v).writes = s.writes ∧ (keyLoad s v).staged = s.staged ∧ (keyLoad s v).rubric = s.rubric ∧ (keyLoad s v).trustBySpi = s.trustBySpi ∧ (keyLoad s v).trustConfigured = s.trustConfigured ∧ (keyLoad s v).link = s.link ∧ (keyLoad s v).localEvents = s.localEvents ∧ (keyLoad s v).localLost = s.localLost ∧ (keyLoad s v).pal = s.pal ∧ (keyLoad s v).margin = s.margin ∧ (keyLoad s v).disc = s.disc ∧ (keyLoad s v).clusters = s.clusters ∧ (keyLoad s v).engines = s.engines ∧ (keyLoad s v).regionTemp = s.regionTemp ∧ (keyLoad s v).lanes = s.lanes ∧ (keyLoad s v).img = s.img ∧ (keyLoad s v).nor = s.nor ∧ (keyLoad s v).input = s.input ∧ (keyLoad s v).vauxOk = s.vauxOk ∧ (keyLoad s v).ptp = s.ptp ∧ (keyLoad s v).eth = s.eth ∧ (keyLoad s v).prp = s.prp ∧ (keyLoad s v).pcie = s.pcie ∧ (keyLoad s v).timelines = s.timelines ∧ (keyLoad s v).pins = s.pins := by
  generalize h : keyLoad s v = t; unfold keyLoad at h; (repeat' split at h) <;> (subst h; simp [*, keyAnswer_keeps _ _, setSeal_keeps _ _])

theorem keyWithdraw_keeps (s : State) (v : RingId) : KeepsPorts (keyWithdraw s v) s ∧ KeepsHosts (keyWithdraw s v) s ∧ (keyWithdraw s v).now = s.now ∧ (keyWithdraw s v).pending = s.pending ∧ (keyWithdraw s v).out = s.out ∧ (keyWithdraw s v).limits = s.limits ∧ (keyWithdraw s v).folioOn = s.folioOn ∧ (keyWithdraw s v).strokeBase = s.strokeBase ∧ (keyWithdraw s v).resyncAt = s.resyncAt ∧ (keyWithdraw s v).rcSpi = s.rcSpi ∧ (keyWithdraw s v).rcPf = s.rcPf ∧ (keyWithdraw s v).pairs = s.pairs ∧ (keyWithdraw s v).writes = s.writes ∧ (keyWithdraw s v).staged = s.staged ∧ (keyWithdraw s v).rubric = s.rubric ∧ (keyWithdraw s v).trustBySpi = s.trustBySpi ∧ (keyWithdraw s v).trustConfigured = s.trustConfigured ∧ (keyWithdraw s v).link = s.link ∧ (keyWithdraw s v).localEvents = s.localEvents ∧ (keyWithdraw s v).localLost = s.localLost ∧ (keyWithdraw s v).pal = s.pal ∧ (keyWithdraw s v).margin = s.margin ∧ (keyWithdraw s v).disc = s.disc ∧ (keyWithdraw s v).clusters = s.clusters ∧ (keyWithdraw s v).engines = s.engines ∧ (keyWithdraw s v).regionTemp = s.regionTemp ∧ (keyWithdraw s v).lanes = s.lanes ∧ (keyWithdraw s v).img = s.img ∧ (keyWithdraw s v).nor = s.nor ∧ (keyWithdraw s v).input = s.input ∧ (keyWithdraw s v).vauxOk = s.vauxOk ∧ (keyWithdraw s v).ptp = s.ptp ∧ (keyWithdraw s v).eth = s.eth ∧ (keyWithdraw s v).prp = s.prp ∧ (keyWithdraw s v).pcie = s.pcie ∧ (keyWithdraw s v).timelines = s.timelines ∧ (keyWithdraw s v).pins = s.pins := by
  generalize h : keyWithdraw s v = t; unfold keyWithdraw at h; (repeat' split at h) <;> (subst h; simp [*, keyAnswer_keeps _ _, setSeal_keeps _ _])

theorem fuseOwner_keeps (s : State) : KeepsPorts (fuseOwner s) s ∧ KeepsHosts (fuseOwner s) s ∧ (fuseOwner s).now = s.now ∧ (fuseOwner s).pending = s.pending ∧ (fuseOwner s).out = s.out ∧ (fuseOwner s).limits = s.limits ∧ (fuseOwner s).folioOn = s.folioOn ∧ (fuseOwner s).strokeBase = s.strokeBase ∧ (fuseOwner s).resyncAt = s.resyncAt ∧ (fuseOwner s).rcSpi = s.rcSpi ∧ (fuseOwner s).rcPf = s.rcPf ∧ (fuseOwner s).pairs = s.pairs ∧ (fuseOwner s).writes = s.writes ∧ (fuseOwner s).staged = s.staged ∧ (fuseOwner s).rubric = s.rubric ∧ (fuseOwner s).trustBySpi = s.trustBySpi ∧ (fuseOwner s).trustConfigured = s.trustConfigured ∧ (fuseOwner s).link = s.link ∧ (fuseOwner s).localEvents = s.localEvents ∧ (fuseOwner s).localLost = s.localLost ∧ (fuseOwner s).pal = s.pal ∧ (fuseOwner s).margin = s.margin ∧ (fuseOwner s).disc = s.disc ∧ (fuseOwner s).clusters = s.clusters ∧ (fuseOwner s).engines = s.engines ∧ (fuseOwner s).regionTemp = s.regionTemp ∧ (fuseOwner s).lanes = s.lanes ∧ (fuseOwner s).img = s.img ∧ (fuseOwner s).nor = s.nor ∧ (fuseOwner s).input = s.input ∧ (fuseOwner s).vauxOk = s.vauxOk ∧ (fuseOwner s).ptp = s.ptp ∧ (fuseOwner s).eth = s.eth ∧ (fuseOwner s).prp = s.prp ∧ (fuseOwner s).pcie = s.pcie ∧ (fuseOwner s).timelines = s.timelines ∧ (fuseOwner s).pins = s.pins := by
  generalize h : fuseOwner s = t; unfold fuseOwner at h; (repeat' split at h) <;> (subst h; simp [*, keyAnswer_keeps _ _, setSeal_keeps _ _])

theorem writeKeySector_keeps (s : State) (k : Option KeySet) : KeepsPorts (writeKeySector s k) s ∧ KeepsHosts (writeKeySector s k) s ∧ (writeKeySector s k).now = s.now ∧ (writeKeySector s k).pending = s.pending ∧ (writeKeySector s k).out = s.out ∧ (writeKeySector s k).limits = s.limits ∧ (writeKeySector s k).folioOn = s.folioOn ∧ (writeKeySector s k).strokeBase = s.strokeBase ∧ (writeKeySector s k).resyncAt = s.resyncAt ∧ (writeKeySector s k).rcSpi = s.rcSpi ∧ (writeKeySector s k).rcPf = s.rcPf ∧ (writeKeySector s k).pairs = s.pairs ∧ (writeKeySector s k).writes = s.writes ∧ (writeKeySector s k).staged = s.staged ∧ (writeKeySector s k).rubric = s.rubric ∧ (writeKeySector s k).trustBySpi = s.trustBySpi ∧ (writeKeySector s k).trustConfigured = s.trustConfigured ∧ (writeKeySector s k).link = s.link ∧ (writeKeySector s k).localEvents = s.localEvents ∧ (writeKeySector s k).localLost = s.localLost ∧ (writeKeySector s k).pal = s.pal ∧ (writeKeySector s k).margin = s.margin ∧ (writeKeySector s k).disc = s.disc ∧ (writeKeySector s k).clusters = s.clusters ∧ (writeKeySector s k).engines = s.engines ∧ (writeKeySector s k).regionTemp = s.regionTemp ∧ (writeKeySector s k).lanes = s.lanes ∧ (writeKeySector s k).img = s.img ∧ (writeKeySector s k).sealUnit = s.sealUnit ∧ (writeKeySector s k).input = s.input ∧ (writeKeySector s k).vauxOk = s.vauxOk ∧ (writeKeySector s k).ptp = s.ptp ∧ (writeKeySector s k).eth = s.eth ∧ (writeKeySector s k).prp = s.prp ∧ (writeKeySector s k).pcie = s.pcie ∧ (writeKeySector s k).timelines = s.timelines ∧ (writeKeySector s k).pins = s.pins := by
  generalize h : writeKeySector s k = t; unfold writeKeySector at h; (repeat' split at h) <;> (subst h; simp [*])

theorem lapseAuth_keeps (s : State) (v : RingId) : KeepsBoard (lapseAuth s v) s ∧ (lapseAuth s v).freeCtr = s.freeCtr ∧ (lapseAuth s v).modes = s.modes ∧ (lapseAuth s v).blot = s.blot ∧ (lapseAuth s v).power = s.power ∧ (lapseAuth s v).pd = s.pd ∧ (lapseAuth s v).devices = s.devices ∧ (lapseAuth s v).eps = s.eps ∧ (lapseAuth s v).pcie = s.pcie ∧ (lapseAuth s v).cviews = s.cviews ∧ (lapseAuth s v).cports = s.cports ∧ (lapseAuth s v).ligs = s.ligs ∧ (lapseAuth s v).func = s.func := by
  generalize h : lapseAuth s v = t; unfold lapseAuth at h; (repeat' split at h) <;> (subst h; simp [*, disconnectSlot_keeps _ _ _, emit_keeps _ _, forfeit_keeps _ _, setVi_keeps _ _ _])

theorem keysCommitted_keeps (s : State) (op : KeyOp) : (keysCommitted s op).now = s.now ∧ (keysCommitted s op).pending = s.pending ∧ (keysCommitted s op).freeCtr = s.freeCtr ∧ (keysCommitted s op).folioOn = s.folioOn ∧ (keysCommitted s op).strokeBase = s.strokeBase ∧ (keysCommitted s op).resyncAt = s.resyncAt ∧ (keysCommitted s op).pairs = s.pairs ∧ (keysCommitted s op).writes = s.writes ∧ (keysCommitted s op).staged = s.staged ∧ (keysCommitted s op).rubric = s.rubric ∧ (keysCommitted s op).trustBySpi = s.trustBySpi ∧ (keysCommitted s op).trustConfigured = s.trustConfigured ∧ (keysCommitted s op).link = s.link ∧ (keysCommitted s op).localEvents = s.localEvents ∧ (keysCommitted s op).localLost = s.localLost ∧ (keysCommitted s op).disc = s.disc ∧ (keysCommitted s op).clusters = s.clusters ∧ (keysCommitted s op).engines = s.engines ∧ (keysCommitted s op).regionTemp = s.regionTemp ∧ (keysCommitted s op).lanes = s.lanes ∧ (keysCommitted s op).modes = s.modes ∧ (keysCommitted s op).img = s.img ∧ (keysCommitted s op).blot = s.blot ∧ (keysCommitted s op).input = s.input ∧ (keysCommitted s op).vauxOk = s.vauxOk ∧ (keysCommitted s op).power = s.power ∧ (keysCommitted s op).pd = s.pd ∧ (keysCommitted s op).ptp = s.ptp ∧ (keysCommitted s op).devices = s.devices ∧ (keysCommitted s op).eps = s.eps ∧ (keysCommitted s op).eth = s.eth ∧ (keysCommitted s op).prp = s.prp ∧ (keysCommitted s op).pcie = s.pcie ∧ (keysCommitted s op).timelines = s.timelines ∧ (keysCommitted s op).cviews = s.cviews ∧ (keysCommitted s op).cports = s.cports ∧ (keysCommitted s op).ligs = s.ligs ∧ (keysCommitted s op).func = s.func ∧ (keysCommitted s op).pins = s.pins := by
  simp [keysCommitted, lapseAuth_keeps _ _, setSeal_keeps _ _, writeKeySector_keeps _ _]

theorem dropHosts_keeps (s : State) : (dropHosts s).now = s.now ∧ (dropHosts s).pending = s.pending ∧ (dropHosts s).out = s.out ∧ (dropHosts s).freeCtr = s.freeCtr ∧ (dropHosts s).folioOn = s.folioOn ∧ (dropHosts s).strokeBase = s.strokeBase ∧ (dropHosts s).resyncAt = s.resyncAt ∧ (dropHosts s).pairs = s.pairs ∧ (dropHosts s).writes = s.writes ∧ (dropHosts s).staged = s.staged ∧ (dropHosts s).rubric = s.rubric ∧ (dropHosts s).trustBySpi = s.trustBySpi ∧ (dropHosts s).trustConfigured = s.trustConfigured ∧ (dropHosts s).link = s.link ∧ (dropHosts s).localEvents = s.localEvents ∧ (dropHosts s).localLost = s.localLost ∧ (dropHosts s).disc = s.disc ∧ (dropHosts s).clusters = s.clusters ∧ (dropHosts s).engines = s.engines ∧ (dropHosts s).regionTemp = s.regionTemp ∧ (dropHosts s).lanes = s.lanes ∧ (dropHosts s).modes = s.modes ∧ (dropHosts s).img = s.img ∧ (dropHosts s).nor = s.nor ∧ (dropHosts s).blot = s.blot ∧ (dropHosts s).sealUnit = s.sealUnit ∧ (dropHosts s).input = s.input ∧ (dropHosts s).vauxOk = s.vauxOk ∧ (dropHosts s).power = s.power ∧ (dropHosts s).pd = s.pd ∧ (dropHosts s).ptp = s.ptp ∧ (dropHosts s).devices = s.devices ∧ (dropHosts s).eps = s.eps ∧ (dropHosts s).prp = s.prp ∧ (dropHosts s).timelines = s.timelines ∧ (dropHosts s).cviews = s.cviews ∧ (dropHosts s).cports = s.cports ∧ (dropHosts s).ligs = s.ligs ∧ (dropHosts s).pins = s.pins := by
  simp [dropHosts, ceaseAll_keeps _, forfeit_keeps _ _, pcieDown_keeps _, transportLost_keeps _ _]

theorem lastNotices_keeps (s : State) : KeepsBoard (lastNotices s) s ∧ KeepsPorts (lastNotices s) s ∧ (lastNotices s).own = s.own ∧ (lastNotices s).eps = s.eps ∧ (lastNotices s).nibs = s.nibs ∧ (lastNotices s).ink = s.ink := by
  simp [lastNotices, deliverAll_keeps _ _ _]

theorem upOff_keeps (s : State) : KeepsBoard (upOff s) s ∧ KeepsHosts (upOff s) s ∧ (upOff s).out = s.out ∧ (upOff s).freeCtr = s.freeCtr ∧ (upOff s).limits = s.limits ∧ (upOff s).regs = s.regs ∧ (upOff s).rcSpi = s.rcSpi ∧ (upOff s).rcPf = s.rcPf ∧ (upOff s).pal = s.pal ∧ (upOff s).margin = s.margin ∧ (upOff s).modes = s.modes ∧ (upOff s).blot = s.blot ∧ (upOff s).pd = s.pd ∧ (upOff s).devices = s.devices ∧ (upOff s).pcie = s.pcie ∧ (upOff s).cvis = s.cvis ∧ (upOff s).cviews = s.cviews ∧ (upOff s).cports = s.cports ∧ (upOff s).ligs = s.ligs ∧ (upOff s).func = s.func := by
  generalize h : upOff s = t; unfold upOff at h; (repeat' split at h) <;> (subst h; simp [*, gateOff_keeps _ _ _ _])

theorem returnEntry_keeps (s : State) : (returnEntry s).now = s.now ∧ (returnEntry s).pending = s.pending ∧ (returnEntry s).freeCtr = s.freeCtr ∧ (returnEntry s).folioOn = s.folioOn ∧ (returnEntry s).strokeBase = s.strokeBase ∧ (returnEntry s).resyncAt = s.resyncAt ∧ (returnEntry s).pairs = s.pairs ∧ (returnEntry s).writes = s.writes ∧ (returnEntry s).staged = s.staged ∧ (returnEntry s).trustBySpi = s.trustBySpi ∧ (returnEntry s).trustConfigured = s.trustConfigured ∧ (returnEntry s).link = s.link ∧ (returnEntry s).localEvents = s.localEvents ∧ (returnEntry s).localLost = s.localLost ∧ (returnEntry s).disc = s.disc ∧ (returnEntry s).clusters = s.clusters ∧ (returnEntry s).engines = s.engines ∧ (returnEntry s).regionTemp = s.regionTemp ∧ (returnEntry s).lanes = s.lanes ∧ (returnEntry s).img = s.img ∧ (returnEntry s).blot = s.blot ∧ (returnEntry s).input = s.input ∧ (returnEntry s).vauxOk = s.vauxOk ∧ (returnEntry s).ptp = s.ptp ∧ (returnEntry s).prp = s.prp ∧ (returnEntry s).timelines = s.timelines ∧ (returnEntry s).ligs = s.ligs ∧ (returnEntry s).pins = s.pins := by
  simp [returnEntry, applyPortModes_keeps _ _ _, dropHosts_keeps _, enterMode_keeps _ _, lastNotices_keeps _, marker_keeps _ _ _ _, persistEverything_keeps _, setApplied_keeps _ _ _, setSeal_keeps _ _, upOff_keeps _]

theorem returnRelease_keeps (s : State) : KeepsBoard (returnRelease s) s ∧ KeepsPorts (returnRelease s) s ∧ KeepsHosts (returnRelease s) s ∧ (returnRelease s).out = s.out ∧ (returnRelease s).pcie = s.pcie := by
  simp [returnRelease, marker_keeps _ _ _ _]

end Sys2Proof.Machine
end

