-- ==== Sys2Proof/Laws/FrameHub.lean ====
section
/-! SUPPORT. What the operations of Machine/Hub.lean leave as it was: one lemma for each, over every input, and over every outcome of it.
A proof names the ones it needs, each applied: simp [op_keeps _ _] rewrites every field that op leaves. -/

namespace Sys2Proof.Machine

theorem hubSay_keeps (s : State) (c : ClassicId) (r : HubReply) : KeepsBoard (hubSay s c r) s ∧ KeepsPorts (hubSay s c r) s ∧ KeepsHosts (hubSay s c r) s ∧ (hubSay s c r).limits = s.limits ∧ (hubSay s c r).rcSpi = s.rcSpi ∧ (hubSay s c r).rcPf = s.rcPf ∧ (hubSay s c r).pal = s.pal ∧ (hubSay s c r).margin = s.margin ∧ (hubSay s c r).pcie = s.pcie := by
  simp [hubSay, emit_keeps _ _]

@[simp] theorem portReq_now (s : State) (c : ClassicId) (n : PortId) (owned other : State → State) (howned : ∀ owned0, (owned owned0).now = owned0.now) (hother : ∀ other0, (other other0).now = other0.now) : (portReq s c n owned other).now = s.now := by
  simp [portReq, hubSay_keeps _ _ _, *]

@[simp] theorem portReq_pending (s : State) (c : ClassicId) (n : PortId) (owned other : State → State) (howned : ∀ owned0, (owned owned0).pending = owned0.pending) (hother : ∀ other0, (other other0).pending = other0.pending) : (portReq s c n owned other).pending = s.pending := by
  simp [portReq, hubSay_keeps _ _ _, *]

@[simp] theorem portReq_freeCtr (s : State) (c : ClassicId) (n : PortId) (owned other : State → State) (howned : ∀ owned0, (owned owned0).freeCtr = owned0.freeCtr) (hother : ∀ other0, (other other0).freeCtr = other0.freeCtr) : (portReq s c n owned other).freeCtr = s.freeCtr := by
  simp [portReq, hubSay_keeps _ _ _, *]

@[simp] theorem portReq_limits (s : State) (c : ClassicId) (n : PortId) (owned other : State → State) (howned : ∀ owned0, (owned owned0).limits = owned0.limits) (hother : ∀ other0, (other other0).limits = other0.limits) : (portReq s c n owned other).limits = s.limits := by
  simp [portReq, hubSay_keeps _ _ _, *]

@[simp] theorem portReq_folioOn (s : State) (c : ClassicId) (n : PortId) (owned other : State → State) (howned : ∀ owned0, (owned owned0).folioOn = owned0.folioOn) (hother : ∀ other0, (other other0).folioOn = other0.folioOn) : (portReq s c n owned other).folioOn = s.folioOn := by
  simp [portReq, hubSay_keeps _ _ _, *]

@[simp] theorem portReq_strokeBase (s : State) (c : ClassicId) (n : PortId) (owned other : State → State) (howned : ∀ owned0, (owned owned0).strokeBase = owned0.strokeBase) (hother : ∀ other0, (other other0).strokeBase = other0.strokeBase) : (portReq s c n owned other).strokeBase = s.strokeBase := by
  simp [portReq, hubSay_keeps _ _ _, *]

@[simp] theorem portReq_resyncAt (s : State) (c : ClassicId) (n : PortId) (owned other : State → State) (howned : ∀ owned0, (owned owned0).resyncAt = owned0.resyncAt) (hother : ∀ other0, (other other0).resyncAt = other0.resyncAt) : (portReq s c n owned other).resyncAt = s.resyncAt := by
  simp [portReq, hubSay_keeps _ _ _, *]

@[simp] theorem portReq_regs (s : State) (c : ClassicId) (n : PortId) (owned other : State → State) (howned : ∀ owned0, (owned owned0).regs = owned0.regs) (hother : ∀ other0, (other other0).regs = other0.regs) : (portReq s c n owned other).regs = s.regs := by
  simp [portReq, hubSay_keeps _ _ _, *]

@[simp] theorem portReq_rcSpi (s : State) (c : ClassicId) (n : PortId) (owned other : State → State) (howned : ∀ owned0, (owned owned0).rcSpi = owned0.rcSpi) (hother : ∀ other0, (other other0).rcSpi = other0.rcSpi) : (portReq s c n owned other).rcSpi = s.rcSpi := by
  simp [portReq, hubSay_keeps _ _ _, *]

@[simp] theorem portReq_rcPf (s : State) (c : ClassicId) (n : PortId) (owned other : State → State) (howned : ∀ owned0, (owned owned0).rcPf = owned0.rcPf) (hother : ∀ other0, (other other0).rcPf = other0.rcPf) : (portReq s c n owned other).rcPf = s.rcPf := by
  simp [portReq, hubSay_keeps _ _ _, *]

@[simp] theorem portReq_pairs (s : State) (c : ClassicId) (n : PortId) (owned other : State → State) (howned : ∀ owned0, (owned owned0).pairs = owned0.pairs) (hother : ∀ other0, (other other0).pairs = other0.pairs) : (portReq s c n owned other).pairs = s.pairs := by
  simp [portReq, hubSay_keeps _ _ _, *]

@[simp] theorem portReq_writes (s : State) (c : ClassicId) (n : PortId) (owned other : State → State) (howned : ∀ owned0, (owned owned0).writes = owned0.writes) (hother : ∀ other0, (other other0).writes = other0.writes) : (portReq s c n owned other).writes = s.writes := by
  simp [portReq, hubSay_keeps _ _ _, *]

@[simp] theorem portReq_staged (s : State) (c : ClassicId) (n : PortId) (owned other : State → State) (howned : ∀ owned0, (owned owned0).staged = owned0.staged) (hother : ∀ other0, (other other0).staged = other0.staged) : (portReq s c n owned other).staged = s.staged := by
  simp [portReq, hubSay_keeps _ _ _, *]

@[simp] theorem portReq_rubric (s : State) (c : ClassicId) (n : PortId) (owned other : State → State) (howned : ∀ owned0, (owned owned0).rubric = owned0.rubric) (hother : ∀ other0, (other other0).rubric = other0.rubric) : (portReq s c n owned other).rubric = s.rubric := by
  simp [portReq, hubSay_keeps _ _ _, *]

@[simp] theorem portReq_trustBySpi (s : State) (c : ClassicId) (n : PortId) (owned other : State → State) (howned : ∀ owned0, (owned owned0).trustBySpi = owned0.trustBySpi) (hother : ∀ other0, (other other0).trustBySpi = other0.trustBySpi) : (portReq s c n owned other).trustBySpi = s.trustBySpi := by
  simp [portReq, hubSay_keeps _ _ _, *]

@[simp] theorem portReq_trustConfigured (s : State) (c : ClassicId) (n : PortId) (owned other : State → State) (howned : ∀ owned0, (owned owned0).trustConfigured = owned0.trustConfigured) (hother : ∀ other0, (other other0).trustConfigured = other0.trustConfigured) : (portReq s c n owned other).trustConfigured = s.trustConfigured := by
  simp [portReq, hubSay_keeps _ _ _, *]

@[simp] theorem portReq_link (s : State) (c : ClassicId) (n : PortId) (owned other : State → State) (howned : ∀ owned0, (owned owned0).link = owned0.link) (hother : ∀ other0, (other other0).link = other0.link) : (portReq s c n owned other).link = s.link := by
  simp [portReq, hubSay_keeps _ _ _, *]

@[simp] theorem portReq_localEvents (s : State) (c : ClassicId) (n : PortId) (owned other : State → State) (howned : ∀ owned0, (owned owned0).localEvents = owned0.localEvents) (hother : ∀ other0, (other other0).localEvents = other0.localEvents) : (portReq s c n owned other).localEvents = s.localEvents := by
  simp [portReq, hubSay_keeps _ _ _, *]

@[simp] theorem portReq_localLost (s : State) (c : ClassicId) (n : PortId) (owned other : State → State) (howned : ∀ owned0, (owned owned0).localLost = owned0.localLost) (hother : ∀ other0, (other other0).localLost = other0.localLost) : (portReq s c n owned other).localLost = s.localLost := by
  simp [portReq, hubSay_keeps _ _ _, *]

@[simp] theorem portReq_pal (s : State) (c : ClassicId) (n : PortId) (owned other : State → State) (howned : ∀ owned0, (owned owned0).pal = owned0.pal) (hother : ∀ other0, (other other0).pal = other0.pal) : (portReq s c n owned other).pal = s.pal := by
  simp [portReq, hubSay_keeps _ _ _, *]

@[simp] theorem portReq_margin (s : State) (c : ClassicId) (n : PortId) (owned other : State → State) (howned : ∀ owned0, (owned owned0).margin = owned0.margin) (hother : ∀ other0, (other other0).margin = other0.margin) : (portReq s c n owned other).margin = s.margin := by
  simp [portReq, hubSay_keeps _ _ _, *]

@[simp] theorem portReq_disc (s : State) (c : ClassicId) (n : PortId) (owned other : State → State) (howned : ∀ owned0, (owned owned0).disc = owned0.disc) (hother : ∀ other0, (other other0).disc = other0.disc) : (portReq s c n owned other).disc = s.disc := by
  simp [portReq, hubSay_keeps _ _ _, *]

@[simp] theorem portReq_clusters (s : State) (c : ClassicId) (n : PortId) (owned other : State → State) (howned : ∀ owned0, (owned owned0).clusters = owned0.clusters) (hother : ∀ other0, (other other0).clusters = other0.clusters) : (portReq s c n owned other).clusters = s.clusters := by
  simp [portReq, hubSay_keeps _ _ _, *]

@[simp] theorem portReq_engines (s : State) (c : ClassicId) (n : PortId) (owned other : State → State) (howned : ∀ owned0, (owned owned0).engines = owned0.engines) (hother : ∀ other0, (other other0).engines = other0.engines) : (portReq s c n owned other).engines = s.engines := by
  simp [portReq, hubSay_keeps _ _ _, *]

@[simp] theorem portReq_regionTemp (s : State) (c : ClassicId) (n : PortId) (owned other : State → State) (howned : ∀ owned0, (owned owned0).regionTemp = owned0.regionTemp) (hother : ∀ other0, (other other0).regionTemp = other0.regionTemp) : (portReq s c n owned other).regionTemp = s.regionTemp := by
  simp [portReq, hubSay_keeps _ _ _, *]

@[simp] theorem portReq_lanes (s : State) (c : ClassicId) (n : PortId) (owned other : State → State) (howned : ∀ owned0, (owned owned0).lanes = owned0.lanes) (hother : ∀ other0, (other other0).lanes = other0.lanes) : (portReq s c n owned other).lanes = s.lanes := by
  simp [portReq, hubSay_keeps _ _ _, *]

@[simp] theorem portReq_modes (s : State) (c : ClassicId) (n : PortId) (owned other : State → State) (howned : ∀ owned0, (owned owned0).modes = owned0.modes) (hother : ∀ other0, (other other0).modes = other0.modes) : (portReq s c n owned other).modes = s.modes := by
  simp [portReq, hubSay_keeps _ _ _, *]

@[simp] theorem portReq_img (s : State) (c : ClassicId) (n : PortId) (owned other : State → State) (howned : ∀ owned0, (owned owned0).img = owned0.img) (hother : ∀ other0, (other other0).img = other0.img) : (portReq s c n owned other).img = s.img := by
  simp [portReq, hubSay_keeps _ _ _, *]

@[simp] theorem portReq_nor (s : State) (c : ClassicId) (n : PortId) (owned other : State → State) (howned : ∀ owned0, (owned owned0).nor = owned0.nor) (hother : ∀ other0, (other other0).nor = other0.nor) : (portReq s c n owned other).nor = s.nor := by
  simp [portReq, hubSay_keeps _ _ _, *]

@[simp] theorem portReq_blot (s : State) (c : ClassicId) (n : PortId) (owned other : State → State) (howned : ∀ owned0, (owned owned0).blot = owned0.blot) (hother : ∀ other0, (other other0).blot = other0.blot) : (portReq s c n owned other).blot = s.blot := by
  simp [portReq, hubSay_keeps _ _ _, *]

@[simp] theorem portReq_sealUnit (s : State) (c : ClassicId) (n : PortId) (owned other : State → State) (howned : ∀ owned0, (owned owned0).sealUnit = owned0.sealUnit) (hother : ∀ other0, (other other0).sealUnit = other0.sealUnit) : (portReq s c n owned other).sealUnit = s.sealUnit := by
  simp [portReq, hubSay_keeps _ _ _, *]

@[simp] theorem portReq_input (s : State) (c : ClassicId) (n : PortId) (owned other : State → State) (howned : ∀ owned0, (owned owned0).input = owned0.input) (hother : ∀ other0, (other other0).input = other0.input) : (portReq s c n owned other).input = s.input := by
  simp [portReq, hubSay_keeps _ _ _, *]

@[simp] theorem portReq_vauxOk (s : State) (c : ClassicId) (n : PortId) (owned other : State → State) (howned : ∀ owned0, (owned owned0).vauxOk = owned0.vauxOk) (hother : ∀ other0, (other other0).vauxOk = other0.vauxOk) : (portReq s c n owned other).vauxOk = s.vauxOk := by
  simp [portReq, hubSay_keeps _ _ _, *]

@[simp] theorem portReq_power (s : State) (c : ClassicId) (n : PortId) (owned other : State → State) (howned : ∀ owned0, (owned owned0).power = owned0.power) (hother : ∀ other0, (other other0).power = other0.power) : (portReq s c n owned other).power = s.power := by
  simp [portReq, hubSay_keeps _ _ _, *]

@[simp] theorem portReq_pd (s : State) (c : ClassicId) (n : PortId) (owned other : State → State) (howned : ∀ owned0, (owned owned0).pd = owned0.pd) (hother : ∀ other0, (other other0).pd = other0.pd) : (portReq s c n owned other).pd = s.pd := by
  simp [portReq, hubSay_keeps _ _ _, *]

@[simp] theorem portReq_ptp (s : State) (c : ClassicId) (n : PortId) (owned other : State → State) (howned : ∀ owned0, (owned owned0).ptp = owned0.ptp) (hother : ∀ other0, (other other0).ptp = other0.ptp) : (portReq s c n owned other).ptp = s.ptp := by
  simp [portReq, hubSay_keeps _ _ _, *]

@[simp] theorem portReq_own (s : State) (c : ClassicId) (n : PortId) (owned other : State → State) (howned : ∀ owned0, (owned owned0).own = owned0.own) (hother : ∀ other0, (other other0).own = other0.own) : (portReq s c n owned other).own = s.own := by
  simp [portReq, hubSay_keeps _ _ _, *]

@[simp] theorem portReq_vis (s : State) (c : ClassicId) (n : PortId) (owned other : State → State) (howned : ∀ owned0, (owned owned0).vis = owned0.vis) (hother : ∀ other0, (other other0).vis = other0.vis) : (portReq s c n owned other).vis = s.vis := by
  simp [portReq, hubSay_keeps _ _ _, *]

@[simp] theorem portReq_devices (s : State) (c : ClassicId) (n : PortId) (owned other : State → State) (howned : ∀ owned0, (owned owned0).devices = owned0.devices) (hother : ∀ other0, (other other0).devices = other0.devices) : (portReq s c n owned other).devices = s.devices := by
  simp [portReq, hubSay_keeps _ _ _, *]

@[simp] theorem portReq_eps (s : State) (c : ClassicId) (n : PortId) (owned other : State → State) (howned : ∀ owned0, (owned owned0).eps = owned0.eps) (hother : ∀ other0, (other other0).eps = other0.eps) : (portReq s c n owned other).eps = s.eps := by
  simp [portReq, hubSay_keeps _ _ _, *]

@[simp] theorem portReq_nibs (s : State) (c : ClassicId) (n : PortId) (owned other : State → State) (howned : ∀ owned0, (owned owned0).nibs = owned0.nibs) (hother : ∀ other0, (other other0).nibs = other0.nibs) : (portReq s c n owned other).nibs = s.nibs := by
  simp [portReq, hubSay_keeps _ _ _, *]

@[simp] theorem portReq_qps (s : State) (c : ClassicId) (n : PortId) (owned other : State → State) (howned : ∀ owned0, (owned owned0).qps = owned0.qps) (hother : ∀ other0, (other other0).qps = other0.qps) : (portReq s c n owned other).qps = s.qps := by
  simp [portReq, hubSay_keeps _ _ _, *]

@[simp] theorem portReq_eth (s : State) (c : ClassicId) (n : PortId) (owned other : State → State) (howned : ∀ owned0, (owned owned0).eth = owned0.eth) (hother : ∀ other0, (other other0).eth = other0.eth) : (portReq s c n owned other).eth = s.eth := by
  simp [portReq, hubSay_keeps _ _ _, *]

@[simp] theorem portReq_prp (s : State) (c : ClassicId) (n : PortId) (owned other : State → State) (howned : ∀ owned0, (owned owned0).prp = owned0.prp) (hother : ∀ other0, (other other0).prp = other0.prp) : (portReq s c n owned other).prp = s.prp := by
  simp [portReq, hubSay_keeps _ _ _, *]

@[simp] theorem portReq_pcie (s : State) (c : ClassicId) (n : PortId) (owned other : State → State) (howned : ∀ owned0, (owned owned0).pcie = owned0.pcie) (hother : ∀ other0, (other other0).pcie = other0.pcie) : (portReq s c n owned other).pcie = s.pcie := by
  simp [portReq, hubSay_keeps _ _ _, *]

@[simp] theorem portReq_timelines (s : State) (c : ClassicId) (n : PortId) (owned other : State → State) (howned : ∀ owned0, (owned owned0).timelines = owned0.timelines) (hother : ∀ other0, (other other0).timelines = other0.timelines) : (portReq s c n owned other).timelines = s.timelines := by
  simp [portReq, hubSay_keeps _ _ _, *]

@[simp] theorem portReq_ink (s : State) (c : ClassicId) (n : PortId) (owned other : State → State) (howned : ∀ owned0, (owned owned0).ink = owned0.ink) (hother : ∀ other0, (other other0).ink = other0.ink) : (portReq s c n owned other).ink = s.ink := by
  simp [portReq, hubSay_keeps _ _ _, *]

@[simp] theorem portReq_cvis (s : State) (c : ClassicId) (n : PortId) (owned other : State → State) (howned : ∀ owned0, (owned owned0).cvis = owned0.cvis) (hother : ∀ other0, (other other0).cvis = other0.cvis) : (portReq s c n owned other).cvis = s.cvis := by
  simp [portReq, hubSay_keeps _ _ _, *]

@[simp] theorem portReq_cviews (s : State) (c : ClassicId) (n : PortId) (owned other : State → State) (howned : ∀ owned0, (owned owned0).cviews = owned0.cviews) (hother : ∀ other0, (other other0).cviews = other0.cviews) : (portReq s c n owned other).cviews = s.cviews := by
  simp [portReq, hubSay_keeps _ _ _, *]

@[simp] theorem portReq_cports (s : State) (c : ClassicId) (n : PortId) (owned other : State → State) (howned : ∀ owned0, (owned owned0).cports = owned0.cports) (hother : ∀ other0, (other other0).cports = other0.cports) : (portReq s c n owned other).cports = s.cports := by
  simp [portReq, hubSay_keeps _ _ _, *]

@[simp] theorem portReq_ligs (s : State) (c : ClassicId) (n : PortId) (owned other : State → State) (howned : ∀ owned0, (owned owned0).ligs = owned0.ligs) (hother : ∀ other0, (other other0).ligs = other0.ligs) : (portReq s c n owned other).ligs = s.ligs := by
  simp [portReq, hubSay_keeps _ _ _, *]

@[simp] theorem portReq_func (s : State) (c : ClassicId) (n : PortId) (owned other : State → State) (howned : ∀ owned0, (owned owned0).func = owned0.func) (hother : ∀ other0, (other other0).func = other0.func) : (portReq s c n owned other).func = s.func := by
  simp [portReq, hubSay_keeps _ _ _, *]

@[simp] theorem portReq_pins (s : State) (c : ClassicId) (n : PortId) (owned other : State → State) (howned : ∀ owned0, (owned owned0).pins = owned0.pins) (hother : ∀ other0, (other other0).pins = other0.pins) : (portReq s c n owned other).pins = s.pins := by
  simp [portReq, hubSay_keeps _ _ _, *]

theorem ownView_keeps (s : State) (n : PortId) (f : CView → CView) : KeepsBoard (ownView s n f) s ∧ KeepsHosts (ownView s n f) s ∧ (ownView s n f).out = s.out ∧ (ownView s n f).freeCtr = s.freeCtr ∧ (ownView s n f).limits = s.limits ∧ (ownView s n f).regs = s.regs ∧ (ownView s n f).rcSpi = s.rcSpi ∧ (ownView s n f).rcPf = s.rcPf ∧ (ownView s n f).pal = s.pal ∧ (ownView s n f).margin = s.margin ∧ (ownView s n f).modes = s.modes ∧ (ownView s n f).blot = s.blot ∧ (ownView s n f).power = s.power ∧ (ownView s n f).pd = s.pd ∧ (ownView s n f).devices = s.devices ∧ (ownView s n f).pcie = s.pcie ∧ (ownView s n f).cvis = s.cvis ∧ (ownView s n f).cports = s.cports ∧ (ownView s n f).ligs = s.ligs ∧ (ownView s n f).func = s.func := by
  generalize h : ownView s n f = t; unfold ownView at h; (repeat' split at h) <;> (subst h; simp [*, setView_keeps _ _ _ _])

theorem holdPaths_keeps (s : State) (c : ClassicId) (n : PortId) : KeepsBoard (holdPaths s c n) s ∧ (holdPaths s c n).freeCtr = s.freeCtr ∧ (holdPaths s c n).limits = s.limits ∧ (holdPaths s c n).regs = s.regs ∧ (holdPaths s c n).rcSpi = s.rcSpi ∧ (holdPaths s c n).rcPf = s.rcPf ∧ (holdPaths s c n).pal = s.pal ∧ (holdPaths s c n).margin = s.margin ∧ (holdPaths s c n).modes = s.modes ∧ (holdPaths s c n).blot = s.blot ∧ (holdPaths s c n).pd = s.pd ∧ (holdPaths s c n).own = s.own ∧ (holdPaths s c n).vis = s.vis ∧ (holdPaths s c n).devices = s.devices ∧ (holdPaths s c n).eps = s.eps ∧ (holdPaths s c n).qps = s.qps ∧ (holdPaths s c n).pcie = s.pcie ∧ (holdPaths s c n).ink = s.ink ∧ (holdPaths s c n).cvis = s.cvis ∧ (holdPaths s c n).ligs = s.ligs ∧ (holdPaths s c n).func = s.func := by
  simp [holdPaths, emit_keeps _ _, setCPort_keeps _ _ _, setNib_keeps _ _ _, setView_keeps _ _ _ _]

theorem clearPowers_keeps (s : State) (c : ClassicId) : KeepsBoard (clearPowers s c) s ∧ (clearPowers s c).freeCtr = s.freeCtr ∧ (clearPowers s c).limits = s.limits ∧ (clearPowers s c).regs = s.regs ∧ (clearPowers s c).rcSpi = s.rcSpi ∧ (clearPowers s c).rcPf = s.rcPf ∧ (clearPowers s c).pal = s.pal ∧ (clearPowers s c).margin = s.margin ∧ (clearPowers s c).modes = s.modes ∧ (clearPowers s c).blot = s.blot ∧ (clearPowers s c).pd = s.pd ∧ (clearPowers s c).own = s.own ∧ (clearPowers s c).vis = s.vis ∧ (clearPowers s c).devices = s.devices ∧ (clearPowers s c).eps = s.eps ∧ (clearPowers s c).qps = s.qps ∧ (clearPowers s c).pcie = s.pcie ∧ (clearPowers s c).ink = s.ink ∧ (clearPowers s c).cvis = s.cvis ∧ (clearPowers s c).ligs = s.ligs ∧ (clearPowers s c).func = s.func := by
  simp [clearPowers, holdPaths_keeps _ _ _, setView_keeps _ _ _ _]

theorem hubReset2_keeps (s : State) (c : ClassicId) (n : PortId) : KeepsBoard (hubReset2 s c n) s ∧ KeepsHosts (hubReset2 s c n) s ∧ (hubReset2 s c n).freeCtr = s.freeCtr ∧ (hubReset2 s c n).limits = s.limits ∧ (hubReset2 s c n).regs = s.regs ∧ (hubReset2 s c n).rcSpi = s.rcSpi ∧ (hubReset2 s c n).rcPf = s.rcPf ∧ (hubReset2 s c n).pal = s.pal ∧ (hubReset2 s c n).margin = s.margin ∧ (hubReset2 s c n).modes = s.modes ∧ (hubReset2 s c n).blot = s.blot ∧ (hubReset2 s c n).power = s.power ∧ (hubReset2 s c n).pd = s.pd ∧ (hubReset2 s c n).devices = s.devices ∧ (hubReset2 s c n).pcie = s.pcie ∧ (hubReset2 s c n).cvis = s.cvis ∧ (hubReset2 s c n).ligs = s.ligs := by
  generalize h : hubReset2 s c n = t; unfold hubReset2 at h; (repeat' split at h) <;> (subst h; simp [*, emit_keeps _ _, setCPort_keeps _ _ _, setView_keeps _ _ _ _])

theorem hubResetS_keeps (s : State) (c : ClassicId) (n : PortId) (warm : Bool) : KeepsBoard (hubResetS s c n warm) s ∧ (hubResetS s c n warm).freeCtr = s.freeCtr ∧ (hubResetS s c n warm).limits = s.limits ∧ (hubResetS s c n warm).regs = s.regs ∧ (hubResetS s c n warm).rcSpi = s.rcSpi ∧ (hubResetS s c n warm).rcPf = s.rcPf ∧ (hubResetS s c n warm).pal = s.pal ∧ (hubResetS s c n warm).margin = s.margin ∧ (hubResetS s c n warm).modes = s.modes ∧ (hubResetS s c n warm).blot = s.blot ∧ (hubResetS s c n warm).power = s.power ∧ (hubResetS s c n warm).pd = s.pd ∧ (hubResetS s c n warm).own = s.own ∧ (hubResetS s c n warm).vis = s.vis ∧ (hubResetS s c n warm).devices = s.devices ∧ (hubResetS s c n warm).eps = s.eps ∧ (hubResetS s c n warm).qps = s.qps ∧ (hubResetS s c n warm).pcie = s.pcie ∧ (hubResetS s c n warm).ink = s.ink ∧ (hubResetS s c n warm).cvis = s.cvis ∧ (hubResetS s c n warm).ligs = s.ligs := by
  generalize h : hubResetS s c n warm = t; unfold hubResetS at h; (repeat' split at h) <;> (subst h; simp [*, emit_keeps _ _, setCPort_keeps _ _ _, setNib_keeps _ _ _, setView_keeps _ _ _ _])

theorem hubResetSDone_keeps (s : State) (n : PortId) (ok : Bool) : KeepsBoard (hubResetSDone s n ok) s ∧ (hubResetSDone s n ok).freeCtr = s.freeCtr ∧ (hubResetSDone s n ok).limits = s.limits ∧ (hubResetSDone s n ok).regs = s.regs ∧ (hubResetSDone s n ok).rcSpi = s.rcSpi ∧ (hubResetSDone s n ok).rcPf = s.rcPf ∧ (hubResetSDone s n ok).pal = s.pal ∧ (hubResetSDone s n ok).margin = s.margin ∧ (hubResetSDone s n ok).modes = s.modes ∧ (hubResetSDone s n ok).blot = s.blot ∧ (hubResetSDone s n ok).power = s.power ∧ (hubResetSDone s n ok).pd = s.pd ∧ (hubResetSDone s n ok).own = s.own ∧ (hubResetSDone s n ok).vis = s.vis ∧ (hubResetSDone s n ok).devices = s.devices ∧ (hubResetSDone s n ok).eps = s.eps ∧ (hubResetSDone s n ok).qps = s.qps ∧ (hubResetSDone s n ok).pcie = s.pcie ∧ (hubResetSDone s n ok).ink = s.ink ∧ (hubResetSDone s n ok).cvis = s.cvis ∧ (hubResetSDone s n ok).ligs = s.ligs ∧ (hubResetSDone s n ok).func = s.func := by
  generalize h : hubResetSDone s n ok = t; unfold hubResetSDone at h; (repeat' split at h) <;> (subst h; simp [*, ownView_keeps _ _ _, setCPort_keeps _ _ _])

theorem hubResumed_keeps (s : State) (n : PortId) : KeepsBoard (hubResumed s n) s ∧ KeepsHosts (hubResumed s n) s ∧ (hubResumed s n).out = s.out ∧ (hubResumed s n).freeCtr = s.freeCtr ∧ (hubResumed s n).limits = s.limits ∧ (hubResumed s n).regs = s.regs ∧ (hubResumed s n).rcSpi = s.rcSpi ∧ (hubResumed s n).rcPf = s.rcPf ∧ (hubResumed s n).pal = s.pal ∧ (hubResumed s n).margin = s.margin ∧ (hubResumed s n).modes = s.modes ∧ (hubResumed s n).blot = s.blot ∧ (hubResumed s n).power = s.power ∧ (hubResumed s n).pd = s.pd ∧ (hubResumed s n).devices = s.devices ∧ (hubResumed s n).pcie = s.pcie ∧ (hubResumed s n).cvis = s.cvis ∧ (hubResumed s n).cports = s.cports ∧ (hubResumed s n).ligs = s.ligs ∧ (hubResumed s n).func = s.func := by
  simp [hubResumed, ownView_keeps _ _ _]

theorem upstreamReset_keeps (s : State) (c : ClassicId) (ss : Bool) : KeepsBoard (upstreamReset s c ss) s ∧ (upstreamReset s c ss).freeCtr = s.freeCtr ∧ (upstreamReset s c ss).limits = s.limits ∧ (upstreamReset s c ss).regs = s.regs ∧ (upstreamReset s c ss).rcSpi = s.rcSpi ∧ (upstreamReset s c ss).rcPf = s.rcPf ∧ (upstreamReset s c ss).pal = s.pal ∧ (upstreamReset s c ss).margin = s.margin ∧ (upstreamReset s c ss).modes = s.modes ∧ (upstreamReset s c ss).blot = s.blot ∧ (upstreamReset s c ss).pd = s.pd ∧ (upstreamReset s c ss).devices = s.devices ∧ (upstreamReset s c ss).eps = s.eps ∧ (upstreamReset s c ss).qps = s.qps ∧ (upstreamReset s c ss).pcie = s.pcie ∧ (upstreamReset s c ss).ink = s.ink ∧ (upstreamReset s c ss).ligs = s.ligs ∧ (upstreamReset s c ss).func = s.func := by
  simp [upstreamReset, clearPowers_keeps _ _, forfeit_keeps _ _, setCvi_keeps _ _ _]

theorem upstreamClaims_keeps (s : State) (c : ClassicId) : KeepsBoard (upstreamClaims s c) s ∧ (upstreamClaims s c).out = s.out ∧ (upstreamClaims s c).freeCtr = s.freeCtr ∧ (upstreamClaims s c).limits = s.limits ∧ (upstreamClaims s c).regs = s.regs ∧ (upstreamClaims s c).rcSpi = s.rcSpi ∧ (upstreamClaims s c).rcPf = s.rcPf ∧ (upstreamClaims s c).pal = s.pal ∧ (upstreamClaims s c).margin = s.margin ∧ (upstreamClaims s c).modes = s.modes ∧ (upstreamClaims s c).blot = s.blot ∧ (upstreamClaims s c).power = s.power ∧ (upstreamClaims s c).pd = s.pd ∧ (upstreamClaims s c).vis = s.vis ∧ (upstreamClaims s c).devices = s.devices ∧ (upstreamClaims s c).eps = s.eps ∧ (upstreamClaims s c).nibs = s.nibs ∧ (upstreamClaims s c).qps = s.qps ∧ (upstreamClaims s c).pcie = s.pcie ∧ (upstreamClaims s c).ink = s.ink ∧ (upstreamClaims s c).cviews = s.cviews ∧ (upstreamClaims s c).cports = s.cports ∧ (upstreamClaims s c).ligs = s.ligs ∧ (upstreamClaims s c).func = s.func := by
  generalize h : upstreamClaims s c = t; unfold upstreamClaims at h; dsimp only at h; (repeat' split at h) <;> (subst h; simp [*, homeStamp_keeps _ _, setCvi_keeps _ _ _, stampP4_keeps _ _ _])

theorem setLig_keeps (s : State) (n : PortId) (f : Lig → Lig) : KeepsBoard (setLig s n f) s ∧ KeepsHosts (setLig s n f) s ∧ (setLig s n f).out = s.out ∧ (setLig s n f).freeCtr = s.freeCtr ∧ (setLig s n f).limits = s.limits ∧ (setLig s n f).regs = s.regs ∧ (setLig s n f).rcSpi = s.rcSpi ∧ (setLig s n f).rcPf = s.rcPf ∧ (setLig s n f).pal = s.pal ∧ (setLig s n f).margin = s.margin ∧ (setLig s n f).modes = s.modes ∧ (setLig s n f).blot = s.blot ∧ (setLig s n f).power = s.power ∧ (setLig s n f).pd = s.pd ∧ (setLig s n f).devices = s.devices ∧ (setLig s n f).pcie = s.pcie ∧ (setLig s n f).cvis = s.cvis ∧ (setLig s n f).cviews = s.cviews ∧ (setLig s n f).cports = s.cports ∧ (setLig s n f).func = s.func := by
  simp [setLig]

theorem ligXact_keeps (s : State) (n : PortId) (periodic : Bool) (addr ep : Nat) (isIn : Bool) (r : BusResult) : KeepsBoard (ligXact s n periodic addr ep isIn r) s ∧ KeepsHosts (ligXact s n periodic addr ep isIn r) s ∧ (ligXact s n periodic addr ep isIn r).out = s.out ∧ (ligXact s n periodic addr ep isIn r).freeCtr = s.freeCtr ∧ (ligXact s n periodic addr ep isIn r).limits = s.limits ∧ (ligXact s n periodic addr ep isIn r).regs = s.regs ∧ (ligXact s n periodic addr ep isIn r).rcSpi = s.rcSpi ∧ (ligXact s n periodic addr ep isIn r).rcPf = s.rcPf ∧ (ligXact s n periodic addr ep isIn r).pal = s.pal ∧ (ligXact s n periodic addr ep isIn r).margin = s.margin ∧ (ligXact s n periodic addr ep isIn r).modes = s.modes ∧ (ligXact s n periodic addr ep isIn r).blot = s.blot ∧ (ligXact s n periodic addr ep isIn r).power = s.power ∧ (ligXact s n periodic addr ep isIn r).pd = s.pd ∧ (ligXact s n periodic addr ep isIn r).devices = s.devices ∧ (ligXact s n periodic addr ep isIn r).pcie = s.pcie ∧ (ligXact s n periodic addr ep isIn r).cvis = s.cvis ∧ (ligXact s n periodic addr ep isIn r).cviews = s.cviews ∧ (ligXact s n periodic addr ep isIn r).cports = s.cports ∧ (ligXact s n periodic addr ep isIn r).func = s.func := by
  simp [ligXact, setLig_keeps _ _ _]

theorem setFunc_keeps (s : State) (f : Func → Func) : KeepsBoard (setFunc s f) s ∧ KeepsHosts (setFunc s f) s ∧ (setFunc s f).out = s.out ∧ (setFunc s f).freeCtr = s.freeCtr ∧ (setFunc s f).limits = s.limits ∧ (setFunc s f).regs = s.regs ∧ (setFunc s f).rcSpi = s.rcSpi ∧ (setFunc s f).rcPf = s.rcPf ∧ (setFunc s f).pal = s.pal ∧ (setFunc s f).margin = s.margin ∧ (setFunc s f).modes = s.modes ∧ (setFunc s f).blot = s.blot ∧ (setFunc s f).power = s.power ∧ (setFunc s f).pd = s.pd ∧ (setFunc s f).devices = s.devices ∧ (setFunc s f).pcie = s.pcie ∧ (setFunc s f).cvis = s.cvis ∧ (setFunc s f).cviews = s.cviews ∧ (setFunc s f).cports = s.cports ∧ (setFunc s f).ligs = s.ligs := by
  simp [setFunc]

theorem funcPop_keeps (s : State) (reply : List Byte) : KeepsBoard (funcPop s reply) s ∧ KeepsHosts (funcPop s reply) s ∧ (funcPop s reply).out = s.out ∧ (funcPop s reply).freeCtr = s.freeCtr ∧ (funcPop s reply).limits = s.limits ∧ (funcPop s reply).regs = s.regs ∧ (funcPop s reply).rcSpi = s.rcSpi ∧ (funcPop s reply).rcPf = s.rcPf ∧ (funcPop s reply).pal = s.pal ∧ (funcPop s reply).margin = s.margin ∧ (funcPop s reply).modes = s.modes ∧ (funcPop s reply).blot = s.blot ∧ (funcPop s reply).power = s.power ∧ (funcPop s reply).pd = s.pd ∧ (funcPop s reply).devices = s.devices ∧ (funcPop s reply).pcie = s.pcie ∧ (funcPop s reply).cvis = s.cvis ∧ (funcPop s reply).cviews = s.cviews ∧ (funcPop s reply).cports = s.cports ∧ (funcPop s reply).ligs = s.ligs := by
  simp [funcPop, setFunc_keeps _ _]

theorem funcDrain_keeps (a0 : Nat) (a1 : State) : KeepsBoard (funcDrain a0 a1) a1 ∧ KeepsHosts (funcDrain a0 a1) a1 ∧ (funcDrain a0 a1).out = a1.out ∧ (funcDrain a0 a1).freeCtr = a1.freeCtr ∧ (funcDrain a0 a1).limits = a1.limits ∧ (funcDrain a0 a1).regs = a1.regs ∧ (funcDrain a0 a1).rcSpi = a1.rcSpi ∧ (funcDrain a0 a1).rcPf = a1.rcPf ∧ (funcDrain a0 a1).pal = a1.pal ∧ (funcDrain a0 a1).margin = a1.margin ∧ (funcDrain a0 a1).modes = a1.modes ∧ (funcDrain a0 a1).blot = a1.blot ∧ (funcDrain a0 a1).power = a1.power ∧ (funcDrain a0 a1).pd = a1.pd ∧ (funcDrain a0 a1).devices = a1.devices ∧ (funcDrain a0 a1).pcie = a1.pcie ∧ (funcDrain a0 a1).cvis = a1.cvis ∧ (funcDrain a0 a1).cviews = a1.cviews ∧ (funcDrain a0 a1).cports = a1.cports ∧ (funcDrain a0 a1).ligs = a1.ligs := by
  fun_induction funcDrain a0 a1 <;> simp_all +zetaDelta [funcPop_keeps _ _]

theorem funcInToken_keeps (s : State) : KeepsBoard (funcInToken s) s ∧ KeepsHosts (funcInToken s) s ∧ (funcInToken s).freeCtr = s.freeCtr ∧ (funcInToken s).limits = s.limits ∧ (funcInToken s).regs = s.regs ∧ (funcInToken s).rcSpi = s.rcSpi ∧ (funcInToken s).rcPf = s.rcPf ∧ (funcInToken s).pal = s.pal ∧ (funcInToken s).margin = s.margin ∧ (funcInToken s).modes = s.modes ∧ (funcInToken s).blot = s.blot ∧ (funcInToken s).power = s.power ∧ (funcInToken s).pd = s.pd ∧ (funcInToken s).devices = s.devices ∧ (funcInToken s).pcie = s.pcie ∧ (funcInToken s).cvis = s.cvis ∧ (funcInToken s).cviews = s.cviews ∧ (funcInToken s).cports = s.cports ∧ (funcInToken s).ligs = s.ligs := by
  generalize h : funcInToken s = t; unfold funcInToken at h; (repeat' split at h) <;> (subst h; simp [*, hubSay_keeps _ _ _, setFunc_keeps _ _])

end Sys2Proof.Machine
end

