-- ==== Sys2Proof/Laws/FramePd.lean ====
section
/-! SUPPORT. What the operations of Machine/Pd.lean leave as it was: one lemma for each, over every input, and over every outcome of it.
A proof names the ones it needs, each applied: simp [op_keeps _ _] rewrites every field that op leaves. -/

namespace Sys2Proof.Machine

theorem sendMsg_keeps (s : State) (n : PortId) (m : PdMsg) (next : PdThen) : KeepsBoard (sendMsg s n m next) s ∧ KeepsHosts (sendMsg s n m next) s ∧ (sendMsg s n m next).freeCtr = s.freeCtr ∧ (sendMsg s n m next).limits = s.limits ∧ (sendMsg s n m next).regs = s.regs ∧ (sendMsg s n m next).rcSpi = s.rcSpi ∧ (sendMsg s n m next).rcPf = s.rcPf ∧ (sendMsg s n m next).pal = s.pal ∧ (sendMsg s n m next).margin = s.margin ∧ (sendMsg s n m next).modes = s.modes ∧ (sendMsg s n m next).blot = s.blot ∧ (sendMsg s n m next).power = s.power ∧ (sendMsg s n m next).devices = s.devices ∧ (sendMsg s n m next).pcie = s.pcie ∧ (sendMsg s n m next).cvis = s.cvis ∧ (sendMsg s n m next).cviews = s.cviews ∧ (sendMsg s n m next).cports = s.cports ∧ (sendMsg s n m next).ligs = s.ligs ∧ (sendMsg s n m next).func = s.func := by
  simp [sendMsg, emit_keeps _ _, setPd_keeps _ _ _]

theorem sendPrime_keeps (s : State) (n : PortId) (m : PdMsg) : KeepsBoard (sendPrime s n m) s ∧ KeepsHosts (sendPrime s n m) s ∧ (sendPrime s n m).freeCtr = s.freeCtr ∧ (sendPrime s n m).limits = s.limits ∧ (sendPrime s n m).regs = s.regs ∧ (sendPrime s n m).rcSpi = s.rcSpi ∧ (sendPrime s n m).rcPf = s.rcPf ∧ (sendPrime s n m).pal = s.pal ∧ (sendPrime s n m).margin = s.margin ∧ (sendPrime s n m).modes = s.modes ∧ (sendPrime s n m).blot = s.blot ∧ (sendPrime s n m).power = s.power ∧ (sendPrime s n m).devices = s.devices ∧ (sendPrime s n m).pcie = s.pcie ∧ (sendPrime s n m).cvis = s.cvis ∧ (sendPrime s n m).cviews = s.cviews ∧ (sendPrime s n m).cports = s.cports ∧ (sendPrime s n m).ligs = s.ligs ∧ (sendPrime s n m).func = s.func := by
  simp [sendPrime, emit_keeps _ _, setPd_keeps _ _ _]

theorem sendCaps_keeps (s : State) (n : PortId) : KeepsBoard (sendCaps s n) s ∧ KeepsHosts (sendCaps s n) s ∧ (sendCaps s n).freeCtr = s.freeCtr ∧ (sendCaps s n).limits = s.limits ∧ (sendCaps s n).regs = s.regs ∧ (sendCaps s n).rcSpi = s.rcSpi ∧ (sendCaps s n).rcPf = s.rcPf ∧ (sendCaps s n).pal = s.pal ∧ (sendCaps s n).margin = s.margin ∧ (sendCaps s n).modes = s.modes ∧ (sendCaps s n).blot = s.blot ∧ (sendCaps s n).power = s.power ∧ (sendCaps s n).devices = s.devices ∧ (sendCaps s n).pcie = s.pcie ∧ (sendCaps s n).cvis = s.cvis ∧ (sendCaps s n).cviews = s.cviews ∧ (sendCaps s n).cports = s.cports ∧ (sendCaps s n).ligs = s.ligs ∧ (sendCaps s n).func = s.func := by
  simp [sendCaps, sendMsg_keeps _ _ _ _, setPd_keeps _ _ _]

theorem enterCaps_keeps (s : State) (n : PortId) : KeepsBoard (enterCaps s n) s ∧ KeepsHosts (enterCaps s n) s ∧ (enterCaps s n).freeCtr = s.freeCtr ∧ (enterCaps s n).limits = s.limits ∧ (enterCaps s n).regs = s.regs ∧ (enterCaps s n).rcSpi = s.rcSpi ∧ (enterCaps s n).rcPf = s.rcPf ∧ (enterCaps s n).pal = s.pal ∧ (enterCaps s n).margin = s.margin ∧ (enterCaps s n).modes = s.modes ∧ (enterCaps s n).blot = s.blot ∧ (enterCaps s n).power = s.power ∧ (enterCaps s n).devices = s.devices ∧ (enterCaps s n).pcie = s.pcie ∧ (enterCaps s n).cvis = s.cvis ∧ (enterCaps s n).cviews = s.cviews ∧ (enterCaps s n).cports = s.cports ∧ (enterCaps s n).ligs = s.ligs ∧ (enterCaps s n).func = s.func := by
  generalize h : enterCaps s n = t; unfold enterCaps at h; (repeat' split at h) <;> (subst h; simp [*, pdState_keeps _ _ _, sendCaps_keeps _ _, setPd_keeps _ _ _])

theorem toReady_keeps (s : State) (n : PortId) : KeepsBoard (toReady s n) s ∧ KeepsHosts (toReady s n) s ∧ (toReady s n).out = s.out ∧ (toReady s n).freeCtr = s.freeCtr ∧ (toReady s n).limits = s.limits ∧ (toReady s n).regs = s.regs ∧ (toReady s n).rcSpi = s.rcSpi ∧ (toReady s n).rcPf = s.rcPf ∧ (toReady s n).pal = s.pal ∧ (toReady s n).margin = s.margin ∧ (toReady s n).modes = s.modes ∧ (toReady s n).blot = s.blot ∧ (toReady s n).power = s.power ∧ (toReady s n).devices = s.devices ∧ (toReady s n).pcie = s.pcie ∧ (toReady s n).cvis = s.cvis ∧ (toReady s n).cviews = s.cviews ∧ (toReady s n).cports = s.cports ∧ (toReady s n).ligs = s.ligs ∧ (toReady s n).func = s.func := by
  simp [toReady, kickOwn_keeps _ _, pdState_keeps _ _ _, presentRp_keeps _ _]

theorem pdInfo_keeps (s : State) (n : PortId) (code type : Nat) : KeepsBoard (pdInfo s n code type) s ∧ KeepsPorts (pdInfo s n code type) s ∧ KeepsHosts (pdInfo s n code type) s ∧ (pdInfo s n code type).out = s.out ∧ (pdInfo s n code type).limits = s.limits ∧ (pdInfo s n code type).margin = s.margin ∧ (pdInfo s n code type).pcie = s.pcie := by
  simp [pdInfo, record_keeps _ _ _ _ _ _ _]

theorem notSupported_keeps (s : State) (n : PortId) (type : Nat) : KeepsBoard (notSupported s n type) s ∧ KeepsHosts (notSupported s n type) s ∧ (notSupported s n type).freeCtr = s.freeCtr ∧ (notSupported s n type).limits = s.limits ∧ (notSupported s n type).regs = s.regs ∧ (notSupported s n type).margin = s.margin ∧ (notSupported s n type).modes = s.modes ∧ (notSupported s n type).blot = s.blot ∧ (notSupported s n type).power = s.power ∧ (notSupported s n type).devices = s.devices ∧ (notSupported s n type).pcie = s.pcie ∧ (notSupported s n type).cvis = s.cvis ∧ (notSupported s n type).cviews = s.cviews ∧ (notSupported s n type).cports = s.cports ∧ (notSupported s n type).ligs = s.ligs ∧ (notSupported s n type).func = s.func := by
  simp [notSupported, pdInfo_keeps _ _ _ _, sendMsg_keeps _ _ _ _]

theorem replyExt_keeps (s : State) (n : PortId) (type : Nat) (m : PdMsg) : KeepsBoard (replyExt s n type m) s ∧ KeepsHosts (replyExt s n type m) s ∧ (replyExt s n type m).freeCtr = s.freeCtr ∧ (replyExt s n type m).limits = s.limits ∧ (replyExt s n type m).regs = s.regs ∧ (replyExt s n type m).margin = s.margin ∧ (replyExt s n type m).modes = s.modes ∧ (replyExt s n type m).blot = s.blot ∧ (replyExt s n type m).power = s.power ∧ (replyExt s n type m).devices = s.devices ∧ (replyExt s n type m).pcie = s.pcie ∧ (replyExt s n type m).cvis = s.cvis ∧ (replyExt s n type m).cviews = s.cviews ∧ (replyExt s n type m).cports = s.cports ∧ (replyExt s n type m).ligs = s.ligs ∧ (replyExt s n type m).func = s.func := by
  generalize h : replyExt s n type m = t; unfold replyExt at h; (repeat' split at h) <;> (subst h; simp [*, notSupported_keeps _ _ _, sendMsg_keeps _ _ _ _])

theorem protocolError_keeps (s : State) (n : PortId) : (protocolError s n).now = s.now ∧ (protocolError s n).pending = s.pending ∧ (protocolError s n).freeCtr = s.freeCtr ∧ (protocolError s n).folioOn = s.folioOn ∧ (protocolError s n).strokeBase = s.strokeBase ∧ (protocolError s n).resyncAt = s.resyncAt ∧ (protocolError s n).pairs = s.pairs ∧ (protocolError s n).writes = s.writes ∧ (protocolError s n).staged = s.staged ∧ (protocolError s n).trustBySpi = s.trustBySpi ∧ (protocolError s n).trustConfigured = s.trustConfigured ∧ (protocolError s n).link = s.link ∧ (protocolError s n).disc = s.disc ∧ (protocolError s n).clusters = s.clusters ∧ (protocolError s n).engines = s.engines ∧ (protocolError s n).regionTemp = s.regionTemp ∧ (protocolError s n).lanes = s.lanes ∧ (protocolError s n).modes = s.modes ∧ (protocolError s n).img = s.img ∧ (protocolError s n).nor = s.nor ∧ (protocolError s n).blot = s.blot ∧ (protocolError s n).sealUnit = s.sealUnit ∧ (protocolError s n).input = s.input ∧ (protocolError s n).vauxOk = s.vauxOk ∧ (protocolError s n).ptp = s.ptp ∧ (protocolError s n).eth = s.eth ∧ (protocolError s n).prp = s.prp ∧ (protocolError s n).timelines = s.timelines ∧ (protocolError s n).pins = s.pins := by
  generalize h : protocolError s n = t; unfold protocolError at h; dsimp only at h; (repeat' split at h) <;> (subst h; simp [*, rcCount_keeps _ _ _, sendMsg_keeps _ _ _ _, setPd_keeps _ _ _, startHardReset_keeps _ _ _])

@[simp] theorem heard_now (s : State) (n : PortId) (id : Fin 8) (f : State → State) (hf : ∀ f0, (f f0).now = f0.now) : (heard s n id f).now = s.now := by
  simp [heard, emit_keeps _ _, setPd_keeps _ _ _, startHardReset_keeps _ _ _, *]

@[simp] theorem heard_pending (s : State) (n : PortId) (id : Fin 8) (f : State → State) (hf : ∀ f0, (f f0).pending = f0.pending) : (heard s n id f).pending = s.pending := by
  simp [heard, emit_keeps _ _, setPd_keeps _ _ _, startHardReset_keeps _ _ _, *]

@[simp] theorem heard_freeCtr (s : State) (n : PortId) (id : Fin 8) (f : State → State) (hf : ∀ f0, (f f0).freeCtr = f0.freeCtr) : (heard s n id f).freeCtr = s.freeCtr := by
  simp [heard, emit_keeps _ _, setPd_keeps _ _ _, startHardReset_keeps _ _ _, *]

@[simp] theorem heard_folioOn (s : State) (n : PortId) (id : Fin 8) (f : State → State) (hf : ∀ f0, (f f0).folioOn = f0.folioOn) : (heard s n id f).folioOn = s.folioOn := by
  simp [heard, emit_keeps _ _, setPd_keeps _ _ _, startHardReset_keeps _ _ _, *]

@[simp] theorem heard_strokeBase (s : State) (n : PortId) (id : Fin 8) (f : State → State) (hf : ∀ f0, (f f0).strokeBase = f0.strokeBase) : (heard s n id f).strokeBase = s.strokeBase := by
  simp [heard, emit_keeps _ _, setPd_keeps _ _ _, startHardReset_keeps _ _ _, *]

@[simp] theorem heard_resyncAt (s : State) (n : PortId) (id : Fin 8) (f : State → State) (hf : ∀ f0, (f f0).resyncAt = f0.resyncAt) : (heard s n id f).resyncAt = s.resyncAt := by
  simp [heard, emit_keeps _ _, setPd_keeps _ _ _, startHardReset_keeps _ _ _, *]

@[simp] theorem heard_pairs (s : State) (n : PortId) (id : Fin 8) (f : State → State) (hf : ∀ f0, (f f0).pairs = f0.pairs) : (heard s n id f).pairs = s.pairs := by
  simp [heard, emit_keeps _ _, setPd_keeps _ _ _, startHardReset_keeps _ _ _, *]

@[simp] theorem heard_writes (s : State) (n : PortId) (id : Fin 8) (f : State → State) (hf : ∀ f0, (f f0).writes = f0.writes) : (heard s n id f).writes = s.writes := by
  simp [heard, emit_keeps _ _, setPd_keeps _ _ _, startHardReset_keeps _ _ _, *]

@[simp] theorem heard_staged (s : State) (n : PortId) (id : Fin 8) (f : State → State) (hf : ∀ f0, (f f0).staged = f0.staged) : (heard s n id f).staged = s.staged := by
  simp [heard, emit_keeps _ _, setPd_keeps _ _ _, startHardReset_keeps _ _ _, *]

@[simp] theorem heard_trustBySpi (s : State) (n : PortId) (id : Fin 8) (f : State → State) (hf : ∀ f0, (f f0).trustBySpi = f0.trustBySpi) : (heard s n id f).trustBySpi = s.trustBySpi := by
  simp [heard, emit_keeps _ _, setPd_keeps _ _ _, startHardReset_keeps _ _ _, *]

@[simp] theorem heard_trustConfigured (s : State) (n : PortId) (id : Fin 8) (f : State → State) (hf : ∀ f0, (f f0).trustConfigured = f0.trustConfigured) : (heard s n id f).trustConfigured = s.trustConfigured := by
  simp [heard, emit_keeps _ _, setPd_keeps _ _ _, startHardReset_keeps _ _ _, *]

@[simp] theorem heard_link (s : State) (n : PortId) (id : Fin 8) (f : State → State) (hf : ∀ f0, (f f0).link = f0.link) : (heard s n id f).link = s.link := by
  simp [heard, emit_keeps _ _, setPd_keeps _ _ _, startHardReset_keeps _ _ _, *]

@[simp] theorem heard_disc (s : State) (n : PortId) (id : Fin 8) (f : State → State) (hf : ∀ f0, (f f0).disc = f0.disc) : (heard s n id f).disc = s.disc := by
  simp [heard, emit_keeps _ _, setPd_keeps _ _ _, startHardReset_keeps _ _ _, *]

@[simp] theorem heard_clusters (s : State) (n : PortId) (id : Fin 8) (f : State → State) (hf : ∀ f0, (f f0).clusters = f0.clusters) : (heard s n id f).clusters = s.clusters := by
  simp [heard, emit_keeps _ _, setPd_keeps _ _ _, startHardReset_keeps _ _ _, *]

@[simp] theorem heard_engines (s : State) (n : PortId) (id : Fin 8) (f : State → State) (hf : ∀ f0, (f f0).engines = f0.engines) : (heard s n id f).engines = s.engines := by
  simp [heard, emit_keeps _ _, setPd_keeps _ _ _, startHardReset_keeps _ _ _, *]

@[simp] theorem heard_regionTemp (s : State) (n : PortId) (id : Fin 8) (f : State → State) (hf : ∀ f0, (f f0).regionTemp = f0.regionTemp) : (heard s n id f).regionTemp = s.regionTemp := by
  simp [heard, emit_keeps _ _, setPd_keeps _ _ _, startHardReset_keeps _ _ _, *]

@[simp] theorem heard_lanes (s : State) (n : PortId) (id : Fin 8) (f : State → State) (hf : ∀ f0, (f f0).lanes = f0.lanes) : (heard s n id f).lanes = s.lanes := by
  simp [heard, emit_keeps _ _, setPd_keeps _ _ _, startHardReset_keeps _ _ _, *]

@[simp] theorem heard_modes (s : State) (n : PortId) (id : Fin 8) (f : State → State) (hf : ∀ f0, (f f0).modes = f0.modes) : (heard s n id f).modes = s.modes := by
  simp [heard, emit_keeps _ _, setPd_keeps _ _ _, startHardReset_keeps _ _ _, *]

@[simp] theorem heard_img (s : State) (n : PortId) (id : Fin 8) (f : State → State) (hf : ∀ f0, (f f0).img = f0.img) : (heard s n id f).img = s.img := by
  simp [heard, emit_keeps _ _, setPd_keeps _ _ _, startHardReset_keeps _ _ _, *]

@[simp] theorem heard_nor (s : State) (n : PortId) (id : Fin 8) (f : State → State) (hf : ∀ f0, (f f0).nor = f0.nor) : (heard s n id f).nor = s.nor := by
  simp [heard, emit_keeps _ _, setPd_keeps _ _ _, startHardReset_keeps _ _ _, *]

@[simp] theorem heard_blot (s : State) (n : PortId) (id : Fin 8) (f : State → State) (hf : ∀ f0, (f f0).blot = f0.blot) : (heard s n id f).blot = s.blot := by
  simp [heard, emit_keeps _ _, setPd_keeps _ _ _, startHardReset_keeps _ _ _, *]

@[simp] theorem heard_sealUnit (s : State) (n : PortId) (id : Fin 8) (f : State → State) (hf : ∀ f0, (f f0).sealUnit = f0.sealUnit) : (heard s n id f).sealUnit = s.sealUnit := by
  simp [heard, emit_keeps _ _, setPd_keeps _ _ _, startHardReset_keeps _ _ _, *]

@[simp] theorem heard_input (s : State) (n : PortId) (id : Fin 8) (f : State → State) (hf : ∀ f0, (f f0).input = f0.input) : (heard s n id f).input = s.input := by
  simp [heard, emit_keeps _ _, setPd_keeps _ _ _, startHardReset_keeps _ _ _, *]

@[simp] theorem heard_vauxOk (s : State) (n : PortId) (id : Fin 8) (f : State → State) (hf : ∀ f0, (f f0).vauxOk = f0.vauxOk) : (heard s n id f).vauxOk = s.vauxOk := by
  simp [heard, emit_keeps _ _, setPd_keeps _ _ _, startHardReset_keeps _ _ _, *]

@[simp] theorem heard_ptp (s : State) (n : PortId) (id : Fin 8) (f : State → State) (hf : ∀ f0, (f f0).ptp = f0.ptp) : (heard s n id f).ptp = s.ptp := by
  simp [heard, emit_keeps _ _, setPd_keeps _ _ _, startHardReset_keeps _ _ _, *]

@[simp] theorem heard_eth (s : State) (n : PortId) (id : Fin 8) (f : State → State) (hf : ∀ f0, (f f0).eth = f0.eth) : (heard s n id f).eth = s.eth := by
  simp [heard, emit_keeps _ _, setPd_keeps _ _ _, startHardReset_keeps _ _ _, *]

@[simp] theorem heard_prp (s : State) (n : PortId) (id : Fin 8) (f : State → State) (hf : ∀ f0, (f f0).prp = f0.prp) : (heard s n id f).prp = s.prp := by
  simp [heard, emit_keeps _ _, setPd_keeps _ _ _, startHardReset_keeps _ _ _, *]

@[simp] theorem heard_timelines (s : State) (n : PortId) (id : Fin 8) (f : State → State) (hf : ∀ f0, (f f0).timelines = f0.timelines) : (heard s n id f).timelines = s.timelines := by
  simp [heard, emit_keeps _ _, setPd_keeps _ _ _, startHardReset_keeps _ _ _, *]

@[simp] theorem heard_pins (s : State) (n : PortId) (id : Fin 8) (f : State → State) (hf : ∀ f0, (f f0).pins = f0.pins) : (heard s n id f).pins = s.pins := by
  simp [heard, emit_keeps _ _, setPd_keeps _ _ _, startHardReset_keeps _ _ _, *]

theorem unreclaim_keeps (s : State) (n : PortId) : KeepsBoard (unreclaim s n) s ∧ (unreclaim s n).freeCtr = s.freeCtr ∧ (unreclaim s n).regs = s.regs ∧ (unreclaim s n).modes = s.modes ∧ (unreclaim s n).blot = s.blot ∧ (unreclaim s n).cvis = s.cvis ∧ (unreclaim s n).ligs = s.ligs ∧ (unreclaim s n).func = s.func := by
  generalize h : unreclaim s n = t; unfold unreclaim at h; (repeat' split at h) <;> (subst h; simp [*, markShare_keeps _ _, recomputeShares_keeps _, setPd_keeps _ _ _])

theorem pdiWork_keeps (s : State) (n : PortId) : KeepsBoard (pdiWork s n) s ∧ KeepsHosts (pdiWork s n) s ∧ (pdiWork s n).freeCtr = s.freeCtr ∧ (pdiWork s n).limits = s.limits ∧ (pdiWork s n).regs = s.regs ∧ (pdiWork s n).rcSpi = s.rcSpi ∧ (pdiWork s n).rcPf = s.rcPf ∧ (pdiWork s n).pal = s.pal ∧ (pdiWork s n).margin = s.margin ∧ (pdiWork s n).modes = s.modes ∧ (pdiWork s n).blot = s.blot ∧ (pdiWork s n).power = s.power ∧ (pdiWork s n).devices = s.devices ∧ (pdiWork s n).pcie = s.pcie ∧ (pdiWork s n).cvis = s.cvis ∧ (pdiWork s n).cviews = s.cviews ∧ (pdiWork s n).cports = s.cports ∧ (pdiWork s n).ligs = s.ligs ∧ (pdiWork s n).func = s.func := by
  generalize h : pdiWork s n = t; unfold pdiWork at h; (repeat' split at h) <;> (subst h; simp [*, enterCaps_keeps _ _, kickOwn_keeps _ _, presentRp_keeps _ _, setPd_keeps _ _ _])

theorem psRdy_keeps (s : State) (n : PortId) : KeepsBoard (psRdy s n) s ∧ KeepsHosts (psRdy s n) s ∧ (psRdy s n).freeCtr = s.freeCtr ∧ (psRdy s n).regs = s.regs ∧ (psRdy s n).modes = s.modes ∧ (psRdy s n).blot = s.blot ∧ (psRdy s n).power = s.power ∧ (psRdy s n).devices = s.devices ∧ (psRdy s n).pcie = s.pcie ∧ (psRdy s n).cvis = s.cvis ∧ (psRdy s n).cviews = s.cviews ∧ (psRdy s n).cports = s.cports ∧ (psRdy s n).ligs = s.ligs ∧ (psRdy s n).func = s.func := by
  generalize h : psRdy s n = t; unfold psRdy at h; (repeat' split at h) <;> (subst h; simp [*, powerNotice_keeps _ _ _, sendMsg_keeps _ _ _ _, setPd_keeps _ _ _, toReady_keeps _ _])

theorem judgeRequest_keeps (s : State) (n : PortId) (rdo : Word) (allowed : Bool) : (judgeRequest s n rdo allowed).now = s.now ∧ (judgeRequest s n rdo allowed).pending = s.pending ∧ (judgeRequest s n rdo allowed).freeCtr = s.freeCtr ∧ (judgeRequest s n rdo allowed).folioOn = s.folioOn ∧ (judgeRequest s n rdo allowed).strokeBase = s.strokeBase ∧ (judgeRequest s n rdo allowed).resyncAt = s.resyncAt ∧ (judgeRequest s n rdo allowed).pairs = s.pairs ∧ (judgeRequest s n rdo allowed).writes = s.writes ∧ (judgeRequest s n rdo allowed).staged = s.staged ∧ (judgeRequest s n rdo allowed).trustBySpi = s.trustBySpi ∧ (judgeRequest s n rdo allowed).trustConfigured = s.trustConfigured ∧ (judgeRequest s n rdo allowed).link = s.link ∧ (judgeRequest s n rdo allowed).localEvents = s.localEvents ∧ (judgeRequest s n rdo allowed).localLost = s.localLost ∧ (judgeRequest s n rdo allowed).disc = s.disc ∧ (judgeRequest s n rdo allowed).clusters = s.clusters ∧ (judgeRequest s n rdo allowed).engines = s.engines ∧ (judgeRequest s n rdo allowed).regionTemp = s.regionTemp ∧ (judgeRequest s n rdo allowed).lanes = s.lanes ∧ (judgeRequest s n rdo allowed).modes = s.modes ∧ (judgeRequest s n rdo allowed).img = s.img ∧ (judgeRequest s n rdo allowed).nor = s.nor ∧ (judgeRequest s n rdo allowed).blot = s.blot ∧ (judgeRequest s n rdo allowed).sealUnit = s.sealUnit ∧ (judgeRequest s n rdo allowed).input = s.input ∧ (judgeRequest s n rdo allowed).vauxOk = s.vauxOk ∧ (judgeRequest s n rdo allowed).ptp = s.ptp ∧ (judgeRequest s n rdo allowed).eth = s.eth ∧ (judgeRequest s n rdo allowed).prp = s.prp ∧ (judgeRequest s n rdo allowed).timelines = s.timelines ∧ (judgeRequest s n rdo allowed).cvis = s.cvis ∧ (judgeRequest s n rdo allowed).pins = s.pins := by
  generalize h : judgeRequest s n rdo allowed = t; unfold judgeRequest at h; dsimp only at h; (repeat' split at h) <;> (subst h; simp [*, pdInfo_keeps _ _ _ _, pdState_keeps _ _ _, rcCount_keeps _ _ _, sendMsg_keeps _ _ _ _, setPd_keeps _ _ _])

theorem takeRequest_keeps (s : State) (n : PortId) (rdo : Word) (rev2 : Bool) : (takeRequest s n rdo rev2).now = s.now ∧ (takeRequest s n rdo rev2).pending = s.pending ∧ (takeRequest s n rdo rev2).freeCtr = s.freeCtr ∧ (takeRequest s n rdo rev2).folioOn = s.folioOn ∧ (takeRequest s n rdo rev2).strokeBase = s.strokeBase ∧ (takeRequest s n rdo rev2).resyncAt = s.resyncAt ∧ (takeRequest s n rdo rev2).pairs = s.pairs ∧ (takeRequest s n rdo rev2).writes = s.writes ∧ (takeRequest s n rdo rev2).staged = s.staged ∧ (takeRequest s n rdo rev2).trustBySpi = s.trustBySpi ∧ (takeRequest s n rdo rev2).trustConfigured = s.trustConfigured ∧ (takeRequest s n rdo rev2).link = s.link ∧ (takeRequest s n rdo rev2).localEvents = s.localEvents ∧ (takeRequest s n rdo rev2).localLost = s.localLost ∧ (takeRequest s n rdo rev2).disc = s.disc ∧ (takeRequest s n rdo rev2).clusters = s.clusters ∧ (takeRequest s n rdo rev2).engines = s.engines ∧ (takeRequest s n rdo rev2).regionTemp = s.regionTemp ∧ (takeRequest s n rdo rev2).lanes = s.lanes ∧ (takeRequest s n rdo rev2).modes = s.modes ∧ (takeRequest s n rdo rev2).img = s.img ∧ (takeRequest s n rdo rev2).nor = s.nor ∧ (takeRequest s n rdo rev2).blot = s.blot ∧ (takeRequest s n rdo rev2).sealUnit = s.sealUnit ∧ (takeRequest s n rdo rev2).input = s.input ∧ (takeRequest s n rdo rev2).vauxOk = s.vauxOk ∧ (takeRequest s n rdo rev2).ptp = s.ptp ∧ (takeRequest s n rdo rev2).eth = s.eth ∧ (takeRequest s n rdo rev2).prp = s.prp ∧ (takeRequest s n rdo rev2).timelines = s.timelines ∧ (takeRequest s n rdo rev2).cvis = s.cvis ∧ (takeRequest s n rdo rev2).pins = s.pins := by
  generalize h : takeRequest s n rdo rev2 = t; unfold takeRequest at h; dsimp only at h; (repeat' split at h) <;> (subst h; simp [*, judgeRequest_keeps _ _ _ _, setPd_keeps _ _ _])

theorem takeEprRequest_keeps (s : State) (n : PortId) (rdo pdo : Word) : (takeEprRequest s n rdo pdo).now = s.now ∧ (takeEprRequest s n rdo pdo).pending = s.pending ∧ (takeEprRequest s n rdo pdo).freeCtr = s.freeCtr ∧ (takeEprRequest s n rdo pdo).folioOn = s.folioOn ∧ (takeEprRequest s n rdo pdo).strokeBase = s.strokeBase ∧ (takeEprRequest s n rdo pdo).resyncAt = s.resyncAt ∧ (takeEprRequest s n rdo pdo).pairs = s.pairs ∧ (takeEprRequest s n rdo pdo).writes = s.writes ∧ (takeEprRequest s n rdo pdo).staged = s.staged ∧ (takeEprRequest s n rdo pdo).trustBySpi = s.trustBySpi ∧ (takeEprRequest s n rdo pdo).trustConfigured = s.trustConfigured ∧ (takeEprRequest s n rdo pdo).link = s.link ∧ (takeEprRequest s n rdo pdo).localEvents = s.localEvents ∧ (takeEprRequest s n rdo pdo).localLost = s.localLost ∧ (takeEprRequest s n rdo pdo).disc = s.disc ∧ (takeEprRequest s n rdo pdo).clusters = s.clusters ∧ (takeEprRequest s n rdo pdo).engines = s.engines ∧ (takeEprRequest s n rdo pdo).regionTemp = s.regionTemp ∧ (takeEprRequest s n rdo pdo).lanes = s.lanes ∧ (takeEprRequest s n rdo pdo).modes = s.modes ∧ (takeEprRequest s n rdo pdo).img = s.img ∧ (takeEprRequest s n rdo pdo).nor = s.nor ∧ (takeEprRequest s n rdo pdo).blot = s.blot ∧ (takeEprRequest s n rdo pdo).sealUnit = s.sealUnit ∧ (takeEprRequest s n rdo pdo).input = s.input ∧ (takeEprRequest s n rdo pdo).vauxOk = s.vauxOk ∧ (takeEprRequest s n rdo pdo).ptp = s.ptp ∧ (takeEprRequest s n rdo pdo).eth = s.eth ∧ (takeEprRequest s n rdo pdo).prp = s.prp ∧ (takeEprRequest s n rdo pdo).timelines = s.timelines ∧ (takeEprRequest s n rdo pdo).cvis = s.cvis ∧ (takeEprRequest s n rdo pdo).pins = s.pins := by
  generalize h : takeEprRequest s n rdo pdo = t; unfold takeEprRequest at h; dsimp only at h; (repeat' split at h) <;> (subst h; simp [*, judgeRequest_keeps _ _ _ _])

theorem eprDecide_keeps (s : State) (n : PortId) : KeepsBoard (eprDecide s n) s ∧ KeepsHosts (eprDecide s n) s ∧ (eprDecide s n).freeCtr = s.freeCtr ∧ (eprDecide s n).limits = s.limits ∧ (eprDecide s n).regs = s.regs ∧ (eprDecide s n).pal = s.pal ∧ (eprDecide s n).margin = s.margin ∧ (eprDecide s n).modes = s.modes ∧ (eprDecide s n).blot = s.blot ∧ (eprDecide s n).power = s.power ∧ (eprDecide s n).devices = s.devices ∧ (eprDecide s n).pcie = s.pcie ∧ (eprDecide s n).cvis = s.cvis ∧ (eprDecide s n).cviews = s.cviews ∧ (eprDecide s n).cports = s.cports ∧ (eprDecide s n).ligs = s.ligs ∧ (eprDecide s n).func = s.func := by
  generalize h : eprDecide s n = t; unfold eprDecide at h; dsimp only at h; (repeat' split at h) <;> (subst h; simp [*, markCaps_keeps _ _ _, rcCount_keeps _ _ _, sendMsg_keeps _ _ _ _, setPd_keeps _ _ _])

theorem eprAcked_keeps (s : State) (n : PortId) : KeepsBoard (eprAcked s n) s ∧ KeepsHosts (eprAcked s n) s ∧ (eprAcked s n).freeCtr = s.freeCtr ∧ (eprAcked s n).limits = s.limits ∧ (eprAcked s n).regs = s.regs ∧ (eprAcked s n).pal = s.pal ∧ (eprAcked s n).margin = s.margin ∧ (eprAcked s n).modes = s.modes ∧ (eprAcked s n).blot = s.blot ∧ (eprAcked s n).power = s.power ∧ (eprAcked s n).devices = s.devices ∧ (eprAcked s n).pcie = s.pcie ∧ (eprAcked s n).cvis = s.cvis ∧ (eprAcked s n).cviews = s.cviews ∧ (eprAcked s n).cports = s.cports ∧ (eprAcked s n).ligs = s.ligs ∧ (eprAcked s n).func = s.func := by
  generalize h : eprAcked s n = t; unfold eprAcked at h; (repeat' split at h) <;> (subst h; simp [*, eprDecide_keeps _ _, setPd_keeps _ _ _])

theorem eprExit_keeps (s : State) (n : PortId) (own : Bool) : (eprExit s n own).now = s.now ∧ (eprExit s n own).pending = s.pending ∧ (eprExit s n own).freeCtr = s.freeCtr ∧ (eprExit s n own).folioOn = s.folioOn ∧ (eprExit s n own).strokeBase = s.strokeBase ∧ (eprExit s n own).resyncAt = s.resyncAt ∧ (eprExit s n own).regs = s.regs ∧ (eprExit s n own).pairs = s.pairs ∧ (eprExit s n own).writes = s.writes ∧ (eprExit s n own).staged = s.staged ∧ (eprExit s n own).rubric = s.rubric ∧ (eprExit s n own).trustBySpi = s.trustBySpi ∧ (eprExit s n own).trustConfigured = s.trustConfigured ∧ (eprExit s n own).link = s.link ∧ (eprExit s n own).disc = s.disc ∧ (eprExit s n own).clusters = s.clusters ∧ (eprExit s n own).engines = s.engines ∧ (eprExit s n own).regionTemp = s.regionTemp ∧ (eprExit s n own).lanes = s.lanes ∧ (eprExit s n own).modes = s.modes ∧ (eprExit s n own).img = s.img ∧ (eprExit s n own).nor = s.nor ∧ (eprExit s n own).blot = s.blot ∧ (eprExit s n own).sealUnit = s.sealUnit ∧ (eprExit s n own).input = s.input ∧ (eprExit s n own).vauxOk = s.vauxOk ∧ (eprExit s n own).ptp = s.ptp ∧ (eprExit s n own).eth = s.eth ∧ (eprExit s n own).prp = s.prp ∧ (eprExit s n own).timelines = s.timelines ∧ (eprExit s n own).ligs = s.ligs ∧ (eprExit s n own).pins = s.pins := by
  generalize h : eprExit s n own = t; unfold eprExit at h; (repeat' split at h) <;> (subst h; simp [*, kickOwn_keeps _ _, markCaps_keeps _ _ _, setPd_keeps _ _ _, startHardReset_keeps _ _ _])

theorem discoveryEnd_keeps (s : State) (n : PortId) : KeepsBoard (discoveryEnd s n) s ∧ KeepsHosts (discoveryEnd s n) s ∧ (discoveryEnd s n).freeCtr = s.freeCtr ∧ (discoveryEnd s n).limits = s.limits ∧ (discoveryEnd s n).regs = s.regs ∧ (discoveryEnd s n).pal = s.pal ∧ (discoveryEnd s n).margin = s.margin ∧ (discoveryEnd s n).modes = s.modes ∧ (discoveryEnd s n).blot = s.blot ∧ (discoveryEnd s n).power = s.power ∧ (discoveryEnd s n).devices = s.devices ∧ (discoveryEnd s n).pcie = s.pcie ∧ (discoveryEnd s n).cvis = s.cvis ∧ (discoveryEnd s n).cviews = s.cviews ∧ (discoveryEnd s n).cports = s.cports ∧ (discoveryEnd s n).ligs = s.ligs ∧ (discoveryEnd s n).func = s.func := by
  generalize h : discoveryEnd s n = t; unfold discoveryEnd at h; (repeat' split at h) <;> (subst h; simp [*, eprDecide_keeps _ _, setPd_keeps _ _ _])

theorem discover_keeps (s : State) (n : PortId) : KeepsBoard (discover s n) s ∧ KeepsHosts (discover s n) s ∧ (discover s n).freeCtr = s.freeCtr ∧ (discover s n).limits = s.limits ∧ (discover s n).regs = s.regs ∧ (discover s n).rcSpi = s.rcSpi ∧ (discover s n).rcPf = s.rcPf ∧ (discover s n).pal = s.pal ∧ (discover s n).margin = s.margin ∧ (discover s n).modes = s.modes ∧ (discover s n).blot = s.blot ∧ (discover s n).power = s.power ∧ (discover s n).devices = s.devices ∧ (discover s n).pcie = s.pcie ∧ (discover s n).cvis = s.cvis ∧ (discover s n).cviews = s.cviews ∧ (discover s n).cports = s.cports ∧ (discover s n).ligs = s.ligs ∧ (discover s n).func = s.func := by
  simp [discover, sendPrime_keeps _ _ _, setPd_keeps _ _ _]

theorem acknowledged_keeps (s : State) (n : PortId) : (acknowledged s n).now = s.now ∧ (acknowledged s n).pending = s.pending ∧ (acknowledged s n).freeCtr = s.freeCtr ∧ (acknowledged s n).folioOn = s.folioOn ∧ (acknowledged s n).strokeBase = s.strokeBase ∧ (acknowledged s n).resyncAt = s.resyncAt ∧ (acknowledged s n).pairs = s.pairs ∧ (acknowledged s n).writes = s.writes ∧ (acknowledged s n).staged = s.staged ∧ (acknowledged s n).trustBySpi = s.trustBySpi ∧ (acknowledged s n).trustConfigured = s.trustConfigured ∧ (acknowledged s n).link = s.link ∧ (acknowledged s n).disc = s.disc ∧ (acknowledged s n).clusters = s.clusters ∧ (acknowledged s n).engines = s.engines ∧ (acknowledged s n).regionTemp = s.regionTemp ∧ (acknowledged s n).lanes = s.lanes ∧ (acknowledged s n).modes = s.modes ∧ (acknowledged s n).img = s.img ∧ (acknowledged s n).nor = s.nor ∧ (acknowledged s n).blot = s.blot ∧ (acknowledged s n).sealUnit = s.sealUnit ∧ (acknowledged s n).input = s.input ∧ (acknowledged s n).vauxOk = s.vauxOk ∧ (acknowledged s n).ptp = s.ptp ∧ (acknowledged s n).eth = s.eth ∧ (acknowledged s n).prp = s.prp ∧ (acknowledged s n).timelines = s.timelines ∧ (acknowledged s n).pins = s.pins := by
  generalize h : acknowledged s n = t; unfold acknowledged at h; dsimp only at h; (repeat' split at h) <;> (subst h; simp [*, enterCaps_keeps _ _, eprAcked_keeps _ _, kickOwn_keeps _ _, pdState_keeps _ _ _, psRdy_keeps _ _, setPd_keeps _ _ _, startHardReset_keeps _ _ _])

theorem swapRefused_keeps (s : State) (n : PortId) (answer : Nat) : KeepsBoard (swapRefused s n answer) s ∧ KeepsHosts (swapRefused s n answer) s ∧ (swapRefused s n answer).out = s.out ∧ (swapRefused s n answer).freeCtr = s.freeCtr ∧ (swapRefused s n answer).regs = s.regs ∧ (swapRefused s n answer).modes = s.modes ∧ (swapRefused s n answer).blot = s.blot ∧ (swapRefused s n answer).power = s.power ∧ (swapRefused s n answer).devices = s.devices ∧ (swapRefused s n answer).pcie = s.pcie ∧ (swapRefused s n answer).cvis = s.cvis ∧ (swapRefused s n answer).cviews = s.cviews ∧ (swapRefused s n answer).cports = s.cports ∧ (swapRefused s n answer).ligs = s.ligs ∧ (swapRefused s n answer).func = s.func := by
  simp [swapRefused, kickOwn_keeps _ _, record_keeps _ _ _ _ _ _ _, setPd_keeps _ _ _]

theorem messageFailed_keeps (s : State) (n : PortId) : (messageFailed s n).now = s.now ∧ (messageFailed s n).pending = s.pending ∧ (messageFailed s n).freeCtr = s.freeCtr ∧ (messageFailed s n).folioOn = s.folioOn ∧ (messageFailed s n).strokeBase = s.strokeBase ∧ (messageFailed s n).resyncAt = s.resyncAt ∧ (messageFailed s n).pairs = s.pairs ∧ (messageFailed s n).writes = s.writes ∧ (messageFailed s n).staged = s.staged ∧ (messageFailed s n).trustBySpi = s.trustBySpi ∧ (messageFailed s n).trustConfigured = s.trustConfigured ∧ (messageFailed s n).link = s.link ∧ (messageFailed s n).disc = s.disc ∧ (messageFailed s n).clusters = s.clusters ∧ (messageFailed s n).engines = s.engines ∧ (messageFailed s n).regionTemp = s.regionTemp ∧ (messageFailed s n).lanes = s.lanes ∧ (messageFailed s n).modes = s.modes ∧ (messageFailed s n).img = s.img ∧ (messageFailed s n).nor = s.nor ∧ (messageFailed s n).blot = s.blot ∧ (messageFailed s n).sealUnit = s.sealUnit ∧ (messageFailed s n).input = s.input ∧ (messageFailed s n).vauxOk = s.vauxOk ∧ (messageFailed s n).ptp = s.ptp ∧ (messageFailed s n).eth = s.eth ∧ (messageFailed s n).prp = s.prp ∧ (messageFailed s n).timelines = s.timelines ∧ (messageFailed s n).pins = s.pins := by
  generalize h : messageFailed s n = t; unfold messageFailed at h; dsimp only at h; (repeat' split at h) <;> (subst h; simp [*, kickOwn_keeps _ _, pdInfo_keeps _ _ _ _, pdState_keeps _ _ _, presentRp_keeps _ _, protocolError_keeps _ _, rcCount_keeps _ _ _, setPd_keeps _ _ _, startHardReset_keeps _ _ _, swapRefused_keeps _ _ _])

theorem becomeUfp_keeps (s : State) (n : PortId) (c : ClassicId) : KeepsBoard (becomeUfp s n c) s ∧ (becomeUfp s n c).freeCtr = s.freeCtr ∧ (becomeUfp s n c).regs = s.regs ∧ (becomeUfp s n c).modes = s.modes ∧ (becomeUfp s n c).blot = s.blot ∧ (becomeUfp s n c).power = s.power ∧ (becomeUfp s n c).devices = s.devices ∧ (becomeUfp s n c).cports = s.cports ∧ (becomeUfp s n c).func = s.func := by
  simp [becomeUfp, createClassic_keeps _ _ _, emit_keeps _ _, setPd_keeps _ _ _]

theorem swapOnUp_keeps (s : State) : KeepsBoard (swapOnUp s) s ∧ (swapOnUp s).freeCtr = s.freeCtr ∧ (swapOnUp s).regs = s.regs ∧ (swapOnUp s).modes = s.modes ∧ (swapOnUp s).blot = s.blot ∧ (swapOnUp s).power = s.power ∧ (swapOnUp s).devices = s.devices ∧ (swapOnUp s).cports = s.cports := by
  generalize h : swapOnUp s = t; unfold swapOnUp at h; dsimp only at h; (repeat' split at h) <;> (subst h; simp [*, becomeUfp_keeps _ _ _, dropRole_keeps _ _, sendMsg_keeps _ _ _ _, setPd_keeps _ _ _])

theorem swapOnDp_keeps (s : State) (n : PortId) : KeepsBoard (swapOnDp s n) s ∧ (swapOnDp s n).freeCtr = s.freeCtr ∧ (swapOnDp s n).regs = s.regs ∧ (swapOnDp s n).modes = s.modes ∧ (swapOnDp s n).blot = s.blot ∧ (swapOnDp s n).power = s.power ∧ (swapOnDp s n).devices = s.devices ∧ (swapOnDp s n).cports = s.cports := by
  generalize h : swapOnDp s n = t; unfold swapOnDp at h; (repeat' split at h) <;> (subst h; simp [*, becomeUfp_keeps _ _ _, dropRole_keeps _ _, pdInfo_keeps _ _ _ _, sendMsg_keeps _ _ _ _])

theorem attachSink_keeps (s : State) (n : PortId) : KeepsBoard (attachSink s n) s ∧ (attachSink s n).freeCtr = s.freeCtr ∧ (attachSink s n).regs = s.regs ∧ (attachSink s n).blot = s.blot ∧ (attachSink s n).ligs = s.ligs ∧ (attachSink s n).func = s.func := by
  simp [attachSink, clearPd_keeps _ _ _, presentRp_keeps _ _, recomputeShares_keeps _, setPd_keeps _ _ _, switchOn_keeps _ _, wakeSource_keeps _]

theorem attachAccessory_keeps (s : State) (n : PortId) (audio : Bool) : (attachAccessory s n audio).now = s.now ∧ (attachAccessory s n audio).pending = s.pending ∧ (attachAccessory s n audio).freeCtr = s.freeCtr ∧ (attachAccessory s n audio).folioOn = s.folioOn ∧ (attachAccessory s n audio).strokeBase = s.strokeBase ∧ (attachAccessory s n audio).resyncAt = s.resyncAt ∧ (attachAccessory s n audio).regs = s.regs ∧ (attachAccessory s n audio).pairs = s.pairs ∧ (attachAccessory s n audio).writes = s.writes ∧ (attachAccessory s n audio).staged = s.staged ∧ (attachAccessory s n audio).rubric = s.rubric ∧ (attachAccessory s n audio).trustBySpi = s.trustBySpi ∧ (attachAccessory s n audio).trustConfigured = s.trustConfigured ∧ (attachAccessory s n audio).link = s.link ∧ (attachAccessory s n audio).disc = s.disc ∧ (attachAccessory s n audio).clusters = s.clusters ∧ (attachAccessory s n audio).engines = s.engines ∧ (attachAccessory s n audio).regionTemp = s.regionTemp ∧ (attachAccessory s n audio).lanes = s.lanes ∧ (attachAccessory s n audio).img = s.img ∧ (attachAccessory s n audio).nor = s.nor ∧ (attachAccessory s n audio).blot = s.blot ∧ (attachAccessory s n audio).sealUnit = s.sealUnit ∧ (attachAccessory s n audio).input = s.input ∧ (attachAccessory s n audio).vauxOk = s.vauxOk ∧ (attachAccessory s n audio).ptp = s.ptp ∧ (attachAccessory s n audio).eth = s.eth ∧ (attachAccessory s n audio).prp = s.prp ∧ (attachAccessory s n audio).timelines = s.timelines ∧ (attachAccessory s n audio).ligs = s.ligs ∧ (attachAccessory s n audio).func = s.func ∧ (attachAccessory s n audio).pins = s.pins := by
  simp [attachAccessory, clearPd_keeps _ _ _, presentRp_keeps _ _, recomputeShares_keeps _, recordRes_keeps _ _ _ _ _ _ _, setPd_keeps _ _ _, wakeSource_keeps _]

theorem attachDebugUp_keeps (s : State) : (attachDebugUp s).now = s.now ∧ (attachDebugUp s).pending = s.pending ∧ (attachDebugUp s).freeCtr = s.freeCtr ∧ (attachDebugUp s).folioOn = s.folioOn ∧ (attachDebugUp s).strokeBase = s.strokeBase ∧ (attachDebugUp s).resyncAt = s.resyncAt ∧ (attachDebugUp s).regs = s.regs ∧ (attachDebugUp s).pairs = s.pairs ∧ (attachDebugUp s).writes = s.writes ∧ (attachDebugUp s).staged = s.staged ∧ (attachDebugUp s).rubric = s.rubric ∧ (attachDebugUp s).trustBySpi = s.trustBySpi ∧ (attachDebugUp s).trustConfigured = s.trustConfigured ∧ (attachDebugUp s).link = s.link ∧ (attachDebugUp s).localEvents = s.localEvents ∧ (attachDebugUp s).localLost = s.localLost ∧ (attachDebugUp s).disc = s.disc ∧ (attachDebugUp s).clusters = s.clusters ∧ (attachDebugUp s).engines = s.engines ∧ (attachDebugUp s).regionTemp = s.regionTemp ∧ (attachDebugUp s).lanes = s.lanes ∧ (attachDebugUp s).modes = s.modes ∧ (attachDebugUp s).img = s.img ∧ (attachDebugUp s).nor = s.nor ∧ (attachDebugUp s).blot = s.blot ∧ (attachDebugUp s).input = s.input ∧ (attachDebugUp s).vauxOk = s.vauxOk ∧ (attachDebugUp s).ptp = s.ptp ∧ (attachDebugUp s).eth = s.eth ∧ (attachDebugUp s).prp = s.prp ∧ (attachDebugUp s).timelines = s.timelines ∧ (attachDebugUp s).cvis = s.cvis ∧ (attachDebugUp s).ligs = s.ligs ∧ (attachDebugUp s).func = s.func ∧ (attachDebugUp s).pins = s.pins := by
  generalize h : attachDebugUp s = t; unfold attachDebugUp at h; dsimp only at h; (repeat' split at h) <;> (subst h; simp [*, clearPd_keeps _ _ _, presentRp_keeps _ _, recomputeShares_keeps _, setPd_keeps _ _ _, setPower_keeps _ _ _, switchOn_keeps _ _])

theorem tryAttach_keeps (s : State) (n : PortId) : (tryAttach s n).now = s.now ∧ (tryAttach s n).pending = s.pending ∧ (tryAttach s n).freeCtr = s.freeCtr ∧ (tryAttach s n).folioOn = s.folioOn ∧ (tryAttach s n).strokeBase = s.strokeBase ∧ (tryAttach s n).resyncAt = s.resyncAt ∧ (tryAttach s n).regs = s.regs ∧ (tryAttach s n).pairs = s.pairs ∧ (tryAttach s n).writes = s.writes ∧ (tryAttach s n).staged = s.staged ∧ (tryAttach s n).rubric = s.rubric ∧ (tryAttach s n).trustBySpi = s.trustBySpi ∧ (tryAttach s n).trustConfigured = s.trustConfigured ∧ (tryAttach s n).link = s.link ∧ (tryAttach s n).disc = s.disc ∧ (tryAttach s n).clusters = s.clusters ∧ (tryAttach s n).engines = s.engines ∧ (tryAttach s n).regionTemp = s.regionTemp ∧ (tryAttach s n).lanes = s.lanes ∧ (tryAttach s n).img = s.img ∧ (tryAttach s n).nor = s.nor ∧ (tryAttach s n).blot = s.blot ∧ (tryAttach s n).input = s.input ∧ (tryAttach s n).vauxOk = s.vauxOk ∧ (tryAttach s n).ptp = s.ptp ∧ (tryAttach s n).eth = s.eth ∧ (tryAttach s n).prp = s.prp ∧ (tryAttach s n).timelines = s.timelines ∧ (tryAttach s n).ligs = s.ligs ∧ (tryAttach s n).func = s.func ∧ (tryAttach s n).pins = s.pins := by
  generalize h : tryAttach s n = t; unfold tryAttach at h; (repeat' split at h) <;> (subst h; simp [*, attachAccessory_keeps _ _ _, attachDebugUp_keeps _, attachSink_keeps _ _, setPd_keeps _ _ _])

theorem toUnattached_keeps (s : State) (n : PortId) : KeepsBoard (toUnattached s n) s ∧ KeepsHosts (toUnattached s n) s ∧ (toUnattached s n).out = s.out ∧ (toUnattached s n).freeCtr = s.freeCtr ∧ (toUnattached s n).limits = s.limits ∧ (toUnattached s n).regs = s.regs ∧ (toUnattached s n).rcSpi = s.rcSpi ∧ (toUnattached s n).rcPf = s.rcPf ∧ (toUnattached s n).pal = s.pal ∧ (toUnattached s n).margin = s.margin ∧ (toUnattached s n).modes = s.modes ∧ (toUnattached s n).blot = s.blot ∧ (toUnattached s n).power = s.power ∧ (toUnattached s n).devices = s.devices ∧ (toUnattached s n).pcie = s.pcie ∧ (toUnattached s n).cvis = s.cvis ∧ (toUnattached s n).cviews = s.cviews ∧ (toUnattached s n).cports = s.cports ∧ (toUnattached s n).ligs = s.ligs ∧ (toUnattached s n).func = s.func := by
  simp [toUnattached, clearPd_keeps _ _ _, presentRp_keeps _ _]

theorem detach_keeps (s : State) (n : PortId) : KeepsBoard (detach s n) s ∧ (detach s n).freeCtr = s.freeCtr ∧ (detach s n).regs = s.regs ∧ (detach s n).blot = s.blot ∧ (detach s n).ligs = s.ligs := by
  generalize h : detach s n = t; unfold detach at h; dsimp only at h; (repeat' split at h) <;> (subst h; simp [*, busGone_keeps _ _ _, clearPd_keeps _ _ _, detachPower_keeps _ _, dropRole_keeps _ _, gateOff_keeps _ _ _ _, presentRp_keeps _ _, recomputeShares_keeps _, setPd_keeps _ _ _, toUnattached_keeps _ _, viewOverCurrent_keeps _ _ _, wakeSource_keeps _])

theorem vconnFault_keeps (s : State) (n : PortId) : (vconnFault s n).now = s.now ∧ (vconnFault s n).pending = s.pending ∧ (vconnFault s n).freeCtr = s.freeCtr ∧ (vconnFault s n).folioOn = s.folioOn ∧ (vconnFault s n).strokeBase = s.strokeBase ∧ (vconnFault s n).resyncAt = s.resyncAt ∧ (vconnFault s n).regs = s.regs ∧ (vconnFault s n).pairs = s.pairs ∧ (vconnFault s n).writes = s.writes ∧ (vconnFault s n).staged = s.staged ∧ (vconnFault s n).rubric = s.rubric ∧ (vconnFault s n).trustBySpi = s.trustBySpi ∧ (vconnFault s n).trustConfigured = s.trustConfigured ∧ (vconnFault s n).link = s.link ∧ (vconnFault s n).disc = s.disc ∧ (vconnFault s n).clusters = s.clusters ∧ (vconnFault s n).engines = s.engines ∧ (vconnFault s n).regionTemp = s.regionTemp ∧ (vconnFault s n).lanes = s.lanes ∧ (vconnFault s n).modes = s.modes ∧ (vconnFault s n).img = s.img ∧ (vconnFault s n).nor = s.nor ∧ (vconnFault s n).blot = s.blot ∧ (vconnFault s n).sealUnit = s.sealUnit ∧ (vconnFault s n).input = s.input ∧ (vconnFault s n).vauxOk = s.vauxOk ∧ (vconnFault s n).ptp = s.ptp ∧ (vconnFault s n).eth = s.eth ∧ (vconnFault s n).prp = s.prp ∧ (vconnFault s n).timelines = s.timelines ∧ (vconnFault s n).ligs = s.ligs ∧ (vconnFault s n).pins = s.pins := by
  generalize h : vconnFault s n = t; unfold vconnFault at h; dsimp only at h; (repeat' split at h) <;> (subst h; simp [*, eprDecide_keeps _ _, markCaps_keeps _ _ _, powerNotice_keeps _ _ _, rcCount_keeps _ _ _, recordRes_keeps _ _ _ _ _ _ _, setPd_keeps _ _ _, startHardReset_keeps _ _ _, vconnOff_keeps _ _])

end Sys2Proof.Machine
end

