-- ==== Sys2Proof/Laws/FramePdCmds.lean ====
section
/-! SUPPORT. What the operations of Machine/PdCmds.lean leave as it was: one lemma for each, over every input, and over every outcome of it.
A proof names the ones it needs, each applied: simp [op_keeps _ _] rewrites every field that op leaves. -/

namespace Sys2Proof.Machine

theorem swapRetryTx_keeps (s : State) (w : Nat) : KeepsBoard (swapRetryTx s w) s ∧ KeepsHosts (swapRetryTx s w) s ∧ (swapRetryTx s w).out = s.out ∧ (swapRetryTx s w).freeCtr = s.freeCtr ∧ (swapRetryTx s w).limits = s.limits ∧ (swapRetryTx s w).regs = s.regs ∧ (swapRetryTx s w).rcSpi = s.rcSpi ∧ (swapRetryTx s w).rcPf = s.rcPf ∧ (swapRetryTx s w).pal = s.pal ∧ (swapRetryTx s w).margin = s.margin ∧ (swapRetryTx s w).modes = s.modes ∧ (swapRetryTx s w).blot = s.blot ∧ (swapRetryTx s w).power = s.power ∧ (swapRetryTx s w).devices = s.devices ∧ (swapRetryTx s w).pcie = s.pcie ∧ (swapRetryTx s w).cvis = s.cvis ∧ (swapRetryTx s w).cviews = s.cviews ∧ (swapRetryTx s w).cports = s.cports ∧ (swapRetryTx s w).ligs = s.ligs ∧ (swapRetryTx s w).func = s.func := by
  generalize h : swapRetryTx s w = t; unfold swapRetryTx at h; (repeat' split at h) <;> (subst h; simp [*, presentRp_keeps _ _, setPd_keeps _ _ _])

theorem keepAliveOut_keeps (s : State) (n : PortId) : (keepAliveOut s n).now = s.now ∧ (keepAliveOut s n).pending = s.pending ∧ (keepAliveOut s n).freeCtr = s.freeCtr ∧ (keepAliveOut s n).folioOn = s.folioOn ∧ (keepAliveOut s n).strokeBase = s.strokeBase ∧ (keepAliveOut s n).resyncAt = s.resyncAt ∧ (keepAliveOut s n).regs = s.regs ∧ (keepAliveOut s n).pairs = s.pairs ∧ (keepAliveOut s n).writes = s.writes ∧ (keepAliveOut s n).staged = s.staged ∧ (keepAliveOut s n).rubric = s.rubric ∧ (keepAliveOut s n).trustBySpi = s.trustBySpi ∧ (keepAliveOut s n).trustConfigured = s.trustConfigured ∧ (keepAliveOut s n).link = s.link ∧ (keepAliveOut s n).disc = s.disc ∧ (keepAliveOut s n).clusters = s.clusters ∧ (keepAliveOut s n).engines = s.engines ∧ (keepAliveOut s n).regionTemp = s.regionTemp ∧ (keepAliveOut s n).lanes = s.lanes ∧ (keepAliveOut s n).modes = s.modes ∧ (keepAliveOut s n).img = s.img ∧ (keepAliveOut s n).nor = s.nor ∧ (keepAliveOut s n).blot = s.blot ∧ (keepAliveOut s n).sealUnit = s.sealUnit ∧ (keepAliveOut s n).input = s.input ∧ (keepAliveOut s n).vauxOk = s.vauxOk ∧ (keepAliveOut s n).ptp = s.ptp ∧ (keepAliveOut s n).eth = s.eth ∧ (keepAliveOut s n).prp = s.prp ∧ (keepAliveOut s n).timelines = s.timelines ∧ (keepAliveOut s n).ligs = s.ligs ∧ (keepAliveOut s n).pins = s.pins := by
  simp [keepAliveOut, rcCount_keeps _ _ _, record_keeps _ _ _ _ _ _ _, startHardReset_keeps _ _ _]

theorem pdSendCaps_keeps (s : State) (n : PortId) : KeepsBoard (pdSendCaps s n) s ∧ KeepsHosts (pdSendCaps s n) s ∧ (pdSendCaps s n).out = s.out ∧ (pdSendCaps s n).freeCtr = s.freeCtr ∧ (pdSendCaps s n).limits = s.limits ∧ (pdSendCaps s n).regs = s.regs ∧ (pdSendCaps s n).rcSpi = s.rcSpi ∧ (pdSendCaps s n).rcPf = s.rcPf ∧ (pdSendCaps s n).pal = s.pal ∧ (pdSendCaps s n).margin = s.margin ∧ (pdSendCaps s n).modes = s.modes ∧ (pdSendCaps s n).blot = s.blot ∧ (pdSendCaps s n).power = s.power ∧ (pdSendCaps s n).devices = s.devices ∧ (pdSendCaps s n).pcie = s.pcie ∧ (pdSendCaps s n).cvis = s.cvis ∧ (pdSendCaps s n).cviews = s.cviews ∧ (pdSendCaps s n).cports = s.cports ∧ (pdSendCaps s n).ligs = s.ligs ∧ (pdSendCaps s n).func = s.func := by
  simp [pdSendCaps, markCaps_keeps _ _ _]

theorem pdHardReset_keeps (s : State) (n : PortId) : (pdHardReset s n).now = s.now ∧ (pdHardReset s n).pending = s.pending ∧ (pdHardReset s n).freeCtr = s.freeCtr ∧ (pdHardReset s n).folioOn = s.folioOn ∧ (pdHardReset s n).strokeBase = s.strokeBase ∧ (pdHardReset s n).resyncAt = s.resyncAt ∧ (pdHardReset s n).regs = s.regs ∧ (pdHardReset s n).pairs = s.pairs ∧ (pdHardReset s n).writes = s.writes ∧ (pdHardReset s n).staged = s.staged ∧ (pdHardReset s n).rubric = s.rubric ∧ (pdHardReset s n).trustBySpi = s.trustBySpi ∧ (pdHardReset s n).trustConfigured = s.trustConfigured ∧ (pdHardReset s n).link = s.link ∧ (pdHardReset s n).disc = s.disc ∧ (pdHardReset s n).clusters = s.clusters ∧ (pdHardReset s n).engines = s.engines ∧ (pdHardReset s n).regionTemp = s.regionTemp ∧ (pdHardReset s n).lanes = s.lanes ∧ (pdHardReset s n).modes = s.modes ∧ (pdHardReset s n).img = s.img ∧ (pdHardReset s n).nor = s.nor ∧ (pdHardReset s n).blot = s.blot ∧ (pdHardReset s n).sealUnit = s.sealUnit ∧ (pdHardReset s n).input = s.input ∧ (pdHardReset s n).vauxOk = s.vauxOk ∧ (pdHardReset s n).ptp = s.ptp ∧ (pdHardReset s n).eth = s.eth ∧ (pdHardReset s n).prp = s.prp ∧ (pdHardReset s n).timelines = s.timelines ∧ (pdHardReset s n).ligs = s.ligs ∧ (pdHardReset s n).pins = s.pins := by
  simp [pdHardReset, startHardReset_keeps _ _ _]

theorem pdErrorRecovery_keeps (s : State) (n : PortId) : (pdErrorRecovery s n).now = s.now ∧ (pdErrorRecovery s n).pending = s.pending ∧ (pdErrorRecovery s n).freeCtr = s.freeCtr ∧ (pdErrorRecovery s n).folioOn = s.folioOn ∧ (pdErrorRecovery s n).strokeBase = s.strokeBase ∧ (pdErrorRecovery s n).resyncAt = s.resyncAt ∧ (pdErrorRecovery s n).regs = s.regs ∧ (pdErrorRecovery s n).pairs = s.pairs ∧ (pdErrorRecovery s n).writes = s.writes ∧ (pdErrorRecovery s n).staged = s.staged ∧ (pdErrorRecovery s n).rubric = s.rubric ∧ (pdErrorRecovery s n).trustBySpi = s.trustBySpi ∧ (pdErrorRecovery s n).trustConfigured = s.trustConfigured ∧ (pdErrorRecovery s n).link = s.link ∧ (pdErrorRecovery s n).disc = s.disc ∧ (pdErrorRecovery s n).clusters = s.clusters ∧ (pdErrorRecovery s n).engines = s.engines ∧ (pdErrorRecovery s n).regionTemp = s.regionTemp ∧ (pdErrorRecovery s n).lanes = s.lanes ∧ (pdErrorRecovery s n).modes = s.modes ∧ (pdErrorRecovery s n).img = s.img ∧ (pdErrorRecovery s n).nor = s.nor ∧ (pdErrorRecovery s n).blot = s.blot ∧ (pdErrorRecovery s n).sealUnit = s.sealUnit ∧ (pdErrorRecovery s n).input = s.input ∧ (pdErrorRecovery s n).vauxOk = s.vauxOk ∧ (pdErrorRecovery s n).ptp = s.ptp ∧ (pdErrorRecovery s n).eth = s.eth ∧ (pdErrorRecovery s n).prp = s.prp ∧ (pdErrorRecovery s n).timelines = s.timelines ∧ (pdErrorRecovery s n).ligs = s.ligs ∧ (pdErrorRecovery s n).pins = s.pins := by
  generalize h : pdErrorRecovery s n = t; unfold pdErrorRecovery at h; (repeat' split at h) <;> (subst h; simp [*, errorRecovery_keeps _ _, recomputeShares_keeps _])

end Sys2Proof.Machine
end

