-- ==== Sys2Proof/Laws/FrameApplied.lean ====
section
/-! SUPPORT. What the operations of Machine/Applied.lean leave as it was: one lemma for each, over every input, and over every outcome of it.
A proof names the ones it needs, each applied: simp [op_keeps _ _] rewrites every field that op leaves. -/

namespace Sys2Proof.Machine

theorem disableOpen_keeps (s : State) (n : PortId) : KeepsBoard (disableOpen s n) s ∧ (disableOpen s n).regs = s.regs ∧ (disableOpen s n).modes = s.modes ∧ (disableOpen s n).blot = s.blot ∧ (disableOpen s n).ligs = s.ligs := by
  simp [disableOpen, disablePort_keeps _ _ _ _, draw_keeps _]

theorem barCheck_keeps (s : State) (n : PortId) : KeepsBoard (barCheck s n) s ∧ (barCheck s n).regs = s.regs ∧ (barCheck s n).modes = s.modes ∧ (barCheck s n).blot = s.blot := by
  generalize h : barCheck s n = t; unfold barCheck at h; (repeat' split at h) <;> (subst h; simp [*, disableOpen_keeps _ _, enablePort_keeps _ _, loseOutright_keeps _ _ _ _, setOwn_keeps _ _ _, stampP4_keeps _ _ _])

theorem afterPort_keeps (s : State) (n : PortId) (off : Nat) : KeepsBoard (afterPort s n off) s ∧ (afterPort s n off).regs = s.regs ∧ (afterPort s n off).modes = s.modes ∧ (afterPort s n off).blot = s.blot := by
  generalize h : afterPort s n off = t; unfold afterPort at h; (repeat' split at h) <;> (subst h; simp [*, barCheck_keeps _ _, markCaps_keeps _ _ _, presentRp_keeps _ _, recomputeShares_keeps _, setNib_keeps _ _ _])

theorem dp15Changed_keeps (s : State) : KeepsBoard (dp15Changed s) s ∧ (dp15Changed s).regs = s.regs ∧ (dp15Changed s).modes = s.modes ∧ (dp15Changed s).blot = s.blot ∧ (dp15Changed s).ligs = s.ligs := by
  generalize h : dp15Changed s = t; unfold dp15Changed at h; dsimp only at h; (repeat' split at h) <;> (subst h; simp [*, disableOpen_keeps _ _, enablePort_keeps _ _, viewConnectBoth_keeps _ _, viewDisconnect_keeps _ _ _])

theorem ptpChanged_keeps (s : State) : KeepsPorts (ptpChanged s) s ∧ KeepsHosts (ptpChanged s) s ∧ (ptpChanged s).now = s.now ∧ (ptpChanged s).pending = s.pending ∧ (ptpChanged s).out = s.out ∧ (ptpChanged s).folioOn = s.folioOn ∧ (ptpChanged s).strokeBase = s.strokeBase ∧ (ptpChanged s).resyncAt = s.resyncAt ∧ (ptpChanged s).pairs = s.pairs ∧ (ptpChanged s).writes = s.writes ∧ (ptpChanged s).staged = s.staged ∧ (ptpChanged s).rubric = s.rubric ∧ (ptpChanged s).trustBySpi = s.trustBySpi ∧ (ptpChanged s).trustConfigured = s.trustConfigured ∧ (ptpChanged s).link = s.link ∧ (ptpChanged s).localEvents = s.localEvents ∧ (ptpChanged s).localLost = s.localLost ∧ (ptpChanged s).clusters = s.clusters ∧ (ptpChanged s).engines = s.engines ∧ (ptpChanged s).regionTemp = s.regionTemp ∧ (ptpChanged s).lanes = s.lanes ∧ (ptpChanged s).img = s.img ∧ (ptpChanged s).nor = s.nor ∧ (ptpChanged s).sealUnit = s.sealUnit ∧ (ptpChanged s).input = s.input ∧ (ptpChanged s).vauxOk = s.vauxOk ∧ (ptpChanged s).eth = s.eth ∧ (ptpChanged s).prp = s.prp ∧ (ptpChanged s).pcie = s.pcie ∧ (ptpChanged s).pins = s.pins := by
  generalize h : ptpChanged s = t; unfold ptpChanged at h; dsimp only at h; (repeat' split at h) <;> (subst h; simp [*, ptpUnlock_keeps _])

theorem afterBlock_keeps (s : State) (old : Word) (a : Nat) : (afterBlock s old a).now = s.now ∧ (afterBlock s old a).pending = s.pending ∧ (afterBlock s old a).folioOn = s.folioOn ∧ (afterBlock s old a).strokeBase = s.strokeBase ∧ (afterBlock s old a).resyncAt = s.resyncAt ∧ (afterBlock s old a).regs = s.regs ∧ (afterBlock s old a).pairs = s.pairs ∧ (afterBlock s old a).writes = s.writes ∧ (afterBlock s old a).staged = s.staged ∧ (afterBlock s old a).rubric = s.rubric ∧ (afterBlock s old a).trustBySpi = s.trustBySpi ∧ (afterBlock s old a).trustConfigured = s.trustConfigured ∧ (afterBlock s old a).link = s.link ∧ (afterBlock s old a).localEvents = s.localEvents ∧ (afterBlock s old a).localLost = s.localLost ∧ (afterBlock s old a).clusters = s.clusters ∧ (afterBlock s old a).engines = s.engines ∧ (afterBlock s old a).regionTemp = s.regionTemp ∧ (afterBlock s old a).lanes = s.lanes ∧ (afterBlock s old a).modes = s.modes ∧ (afterBlock s old a).img = s.img ∧ (afterBlock s old a).nor = s.nor ∧ (afterBlock s old a).blot = s.blot ∧ (afterBlock s old a).sealUnit = s.sealUnit ∧ (afterBlock s old a).input = s.input ∧ (afterBlock s old a).vauxOk = s.vauxOk ∧ (afterBlock s old a).prp = s.prp ∧ (afterBlock s old a).ligs = s.ligs ∧ (afterBlock s old a).pins = s.pins := by
  generalize h : afterBlock s old a = t; unfold afterBlock at h; (repeat' split at h) <;> (subst h; simp [*, discOff_keeps _, dp15Changed_keeps _, evalMinOver_keeps _, ptpChanged_keeps _, recomputeShares_keeps _, setEth_keeps _ _ _])

theorem afterApply_keeps (s : State) (old : Word) (a : Nat) : (afterApply s old a).now = s.now ∧ (afterApply s old a).pending = s.pending ∧ (afterApply s old a).folioOn = s.folioOn ∧ (afterApply s old a).strokeBase = s.strokeBase ∧ (afterApply s old a).resyncAt = s.resyncAt ∧ (afterApply s old a).regs = s.regs ∧ (afterApply s old a).pairs = s.pairs ∧ (afterApply s old a).writes = s.writes ∧ (afterApply s old a).staged = s.staged ∧ (afterApply s old a).rubric = s.rubric ∧ (afterApply s old a).trustBySpi = s.trustBySpi ∧ (afterApply s old a).trustConfigured = s.trustConfigured ∧ (afterApply s old a).link = s.link ∧ (afterApply s old a).localEvents = s.localEvents ∧ (afterApply s old a).localLost = s.localLost ∧ (afterApply s old a).clusters = s.clusters ∧ (afterApply s old a).engines = s.engines ∧ (afterApply s old a).regionTemp = s.regionTemp ∧ (afterApply s old a).lanes = s.lanes ∧ (afterApply s old a).modes = s.modes ∧ (afterApply s old a).img = s.img ∧ (afterApply s old a).nor = s.nor ∧ (afterApply s old a).blot = s.blot ∧ (afterApply s old a).sealUnit = s.sealUnit ∧ (afterApply s old a).input = s.input ∧ (afterApply s old a).vauxOk = s.vauxOk ∧ (afterApply s old a).prp = s.prp ∧ (afterApply s old a).pins = s.pins := by
  generalize h : afterApply s old a = t; unfold afterApply at h; (repeat' split at h) <;> (subst h; simp [*, afterBlock_keeps _ _ _, afterPort_keeps _ _ _])

theorem applyReg_keeps (s : State) (p : Path) (a : Nat) (v : Word) : (applyReg s p a v).now = s.now ∧ (applyReg s p a v).pending = s.pending ∧ (applyReg s p a v).folioOn = s.folioOn ∧ (applyReg s p a v).strokeBase = s.strokeBase ∧ (applyReg s p a v).resyncAt = s.resyncAt ∧ (applyReg s p a v).pairs = s.pairs ∧ (applyReg s p a v).writes = s.writes ∧ (applyReg s p a v).staged = s.staged ∧ (applyReg s p a v).trustConfigured = s.trustConfigured ∧ (applyReg s p a v).link = s.link ∧ (applyReg s p a v).localEvents = s.localEvents ∧ (applyReg s p a v).localLost = s.localLost ∧ (applyReg s p a v).clusters = s.clusters ∧ (applyReg s p a v).engines = s.engines ∧ (applyReg s p a v).regionTemp = s.regionTemp ∧ (applyReg s p a v).lanes = s.lanes ∧ (applyReg s p a v).modes = s.modes ∧ (applyReg s p a v).img = s.img ∧ (applyReg s p a v).nor = s.nor ∧ (applyReg s p a v).blot = s.blot ∧ (applyReg s p a v).input = s.input ∧ (applyReg s p a v).vauxOk = s.vauxOk ∧ (applyReg s p a v).prp = s.prp ∧ (applyReg s p a v).pins = s.pins := by
  generalize h : applyReg s p a v = t; unfold applyReg at h; (repeat' split at h) <;> (subst h; simp [*, afterApply_keeps _ _ _, setApplied_keeps _ _ _, setSeal_keeps _ _, viBindWrite_keeps _ _ _ _])

theorem stageWrite_keeps (s : State) (a : Nat) (v : Word) : KeepsPorts (stageWrite s a v) s ∧ KeepsHosts (stageWrite s a v) s ∧ (stageWrite s a v).now = s.now ∧ (stageWrite s a v).pending = s.pending ∧ (stageWrite s a v).out = s.out ∧ (stageWrite s a v).limits = s.limits ∧ (stageWrite s a v).folioOn = s.folioOn ∧ (stageWrite s a v).strokeBase = s.strokeBase ∧ (stageWrite s a v).resyncAt = s.resyncAt ∧ (stageWrite s a v).rcSpi = s.rcSpi ∧ (stageWrite s a v).rcPf = s.rcPf ∧ (stageWrite s a v).pairs = s.pairs ∧ (stageWrite s a v).writes = s.writes ∧ (stageWrite s a v).rubric = s.rubric ∧ (stageWrite s a v).trustBySpi = s.trustBySpi ∧ (stageWrite s a v).trustConfigured = s.trustConfigured ∧ (stageWrite s a v).link = s.link ∧ (stageWrite s a v).localEvents = s.localEvents ∧ (stageWrite s a v).localLost = s.localLost ∧ (stageWrite s a v).pal = s.pal ∧ (stageWrite s a v).margin = s.margin ∧ (stageWrite s a v).disc = s.disc ∧ (stageWrite s a v).clusters = s.clusters ∧ (stageWrite s a v).engines = s.engines ∧ (stageWrite s a v).regionTemp = s.regionTemp ∧ (stageWrite s a v).lanes = s.lanes ∧ (stageWrite s a v).img = s.img ∧ (stageWrite s a v).nor = s.nor ∧ (stageWrite s a v).sealUnit = s.sealUnit ∧ (stageWrite s a v).input = s.input ∧ (stageWrite s a v).vauxOk = s.vauxOk ∧ (stageWrite s a v).ptp = s.ptp ∧ (stageWrite s a v).eth = s.eth ∧ (stageWrite s a v).prp = s.prp ∧ (stageWrite s a v).pcie = s.pcie ∧ (stageWrite s a v).timelines = s.timelines ∧ (stageWrite s a v).pins = s.pins := by
  simp [stageWrite]

theorem takeRw_keeps (s : State) (p : Path) (r : RegRow) (a : Nat) (value : Word) : (takeRw s p r a value).now = s.now ∧ (takeRw s p r a value).pending = s.pending ∧ (takeRw s p r a value).folioOn = s.folioOn ∧ (takeRw s p r a value).strokeBase = s.strokeBase ∧ (takeRw s p r a value).resyncAt = s.resyncAt ∧ (takeRw s p r a value).pairs = s.pairs ∧ (takeRw s p r a value).trustConfigured = s.trustConfigured ∧ (takeRw s p r a value).link = s.link ∧ (takeRw s p r a value).localEvents = s.localEvents ∧ (takeRw s p r a value).localLost = s.localLost ∧ (takeRw s p r a value).clusters = s.clusters ∧ (takeRw s p r a value).engines = s.engines ∧ (takeRw s p r a value).regionTemp = s.regionTemp ∧ (takeRw s p r a value).lanes = s.lanes ∧ (takeRw s p r a value).modes = s.modes ∧ (takeRw s p r a value).img = s.img ∧ (takeRw s p r a value).nor = s.nor ∧ (takeRw s p r a value).blot = s.blot ∧ (takeRw s p r a value).input = s.input ∧ (takeRw s p r a value).vauxOk = s.vauxOk ∧ (takeRw s p r a value).prp = s.prp ∧ (takeRw s p r a value).pins = s.pins := by
  generalize h : takeRw s p r a value = t; unfold takeRw at h; (repeat' split at h) <;> (subst h; simp [*, applyReg_keeps _ _ _ _, stageWrite_keeps _ _ _, writeIgnored_keeps _ _ _ _])

theorem boundaryApply_keeps (s : State) (pick : PendWrite → Bool) : (boundaryApply s pick).now = s.now ∧ (boundaryApply s pick).pending = s.pending ∧ (boundaryApply s pick).folioOn = s.folioOn ∧ (boundaryApply s pick).strokeBase = s.strokeBase ∧ (boundaryApply s pick).resyncAt = s.resyncAt ∧ (boundaryApply s pick).pairs = s.pairs ∧ (boundaryApply s pick).staged = s.staged ∧ (boundaryApply s pick).trustConfigured = s.trustConfigured ∧ (boundaryApply s pick).link = s.link ∧ (boundaryApply s pick).localEvents = s.localEvents ∧ (boundaryApply s pick).localLost = s.localLost ∧ (boundaryApply s pick).clusters = s.clusters ∧ (boundaryApply s pick).engines = s.engines ∧ (boundaryApply s pick).regionTemp = s.regionTemp ∧ (boundaryApply s pick).lanes = s.lanes ∧ (boundaryApply s pick).modes = s.modes ∧ (boundaryApply s pick).img = s.img ∧ (boundaryApply s pick).nor = s.nor ∧ (boundaryApply s pick).blot = s.blot ∧ (boundaryApply s pick).input = s.input ∧ (boundaryApply s pick).vauxOk = s.vauxOk ∧ (boundaryApply s pick).prp = s.prp ∧ (boundaryApply s pick).pins = s.pins := by
  simp [boundaryApply, applyReg_keeps _ _ _ _]

theorem setCurveBad_keeps (s : State) (p : PowerPath) (b : Bool) : KeepsHosts (setCurveBad s p b) s ∧ (setCurveBad s p b).now = s.now ∧ (setCurveBad s p b).pending = s.pending ∧ (setCurveBad s p b).out = s.out ∧ (setCurveBad s p b).freeCtr = s.freeCtr ∧ (setCurveBad s p b).limits = s.limits ∧ (setCurveBad s p b).folioOn = s.folioOn ∧ (setCurveBad s p b).strokeBase = s.strokeBase ∧ (setCurveBad s p b).resyncAt = s.resyncAt ∧ (setCurveBad s p b).regs = s.regs ∧ (setCurveBad s p b).rcSpi = s.rcSpi ∧ (setCurveBad s p b).rcPf = s.rcPf ∧ (setCurveBad s p b).pairs = s.pairs ∧ (setCurveBad s p b).writes = s.writes ∧ (setCurveBad s p b).staged = s.staged ∧ (setCurveBad s p b).rubric = s.rubric ∧ (setCurveBad s p b).trustBySpi = s.trustBySpi ∧ (setCurveBad s p b).trustConfigured = s.trustConfigured ∧ (setCurveBad s p b).link = s.link ∧ (setCurveBad s p b).localEvents = s.localEvents ∧ (setCurveBad s p b).localLost = s.localLost ∧ (setCurveBad s p b).pal = s.pal ∧ (setCurveBad s p b).margin = s.margin ∧ (setCurveBad s p b).disc = s.disc ∧ (setCurveBad s p b).clusters = s.clusters ∧ (setCurveBad s p b).engines = s.engines ∧ (setCurveBad s p b).regionTemp = s.regionTemp ∧ (setCurveBad s p b).lanes = s.lanes ∧ (setCurveBad s p b).modes = s.modes ∧ (setCurveBad s p b).img = s.img ∧ (setCurveBad s p b).nor = s.nor ∧ (setCurveBad s p b).blot = s.blot ∧ (setCurveBad s p b).sealUnit = s.sealUnit ∧ (setCurveBad s p b).vauxOk = s.vauxOk ∧ (setCurveBad s p b).pd = s.pd ∧ (setCurveBad s p b).ptp = s.ptp ∧ (setCurveBad s p b).devices = s.devices ∧ (setCurveBad s p b).eth = s.eth ∧ (setCurveBad s p b).prp = s.prp ∧ (setCurveBad s p b).pcie = s.pcie ∧ (setCurveBad s p b).timelines = s.timelines ∧ (setCurveBad s p b).cvis = s.cvis ∧ (setCurveBad s p b).cviews = s.cviews ∧ (setCurveBad s p b).cports = s.cports ∧ (setCurveBad s p b).ligs = s.ligs ∧ (setCurveBad s p b).func = s.func ∧ (setCurveBad s p b).pins = s.pins := by
  generalize h : setCurveBad s p b = t; unfold setCurveBad at h; (repeat' split at h) <;> (subst h; simp [*, setInput_keeps _ _, setPower_keeps _ _ _])

theorem curveRefused_keeps (s : State) (p : PowerPath) : KeepsHosts (curveRefused s p) s ∧ (curveRefused s p).now = s.now ∧ (curveRefused s p).pending = s.pending ∧ (curveRefused s p).out = s.out ∧ (curveRefused s p).freeCtr = s.freeCtr ∧ (curveRefused s p).limits = s.limits ∧ (curveRefused s p).folioOn = s.folioOn ∧ (curveRefused s p).strokeBase = s.strokeBase ∧ (curveRefused s p).resyncAt = s.resyncAt ∧ (curveRefused s p).regs = s.regs ∧ (curveRefused s p).pairs = s.pairs ∧ (curveRefused s p).writes = s.writes ∧ (curveRefused s p).staged = s.staged ∧ (curveRefused s p).rubric = s.rubric ∧ (curveRefused s p).trustBySpi = s.trustBySpi ∧ (curveRefused s p).trustConfigured = s.trustConfigured ∧ (curveRefused s p).link = s.link ∧ (curveRefused s p).localEvents = s.localEvents ∧ (curveRefused s p).localLost = s.localLost ∧ (curveRefused s p).margin = s.margin ∧ (curveRefused s p).disc = s.disc ∧ (curveRefused s p).clusters = s.clusters ∧ (curveRefused s p).engines = s.engines ∧ (curveRefused s p).regionTemp = s.regionTemp ∧ (curveRefused s p).lanes = s.lanes ∧ (curveRefused s p).modes = s.modes ∧ (curveRefused s p).img = s.img ∧ (curveRefused s p).nor = s.nor ∧ (curveRefused s p).blot = s.blot ∧ (curveRefused s p).sealUnit = s.sealUnit ∧ (curveRefused s p).vauxOk = s.vauxOk ∧ (curveRefused s p).pd = s.pd ∧ (curveRefused s p).ptp = s.ptp ∧ (curveRefused s p).devices = s.devices ∧ (curveRefused s p).eth = s.eth ∧ (curveRefused s p).prp = s.prp ∧ (curveRefused s p).pcie = s.pcie ∧ (curveRefused s p).timelines = s.timelines ∧ (curveRefused s p).cvis = s.cvis ∧ (curveRefused s p).cviews = s.cviews ∧ (curveRefused s p).cports = s.cports ∧ (curveRefused s p).ligs = s.ligs ∧ (curveRefused s p).func = s.func ∧ (curveRefused s p).pins = s.pins := by
  generalize h : curveRefused s p = t; unfold curveRefused at h; (repeat' split at h) <;> (subst h; simp [*, recordAt_keeps _ _ _ _ _ _ _ _, setCurveBad_keeps _ _ _])

theorem applyCurve_keeps (ws : List StagedWrite) (s : State) (p : PowerPath) : KeepsHosts (applyCurve ws s p) s ∧ (applyCurve ws s p).now = s.now ∧ (applyCurve ws s p).pending = s.pending ∧ (applyCurve ws s p).out = s.out ∧ (applyCurve ws s p).freeCtr = s.freeCtr ∧ (applyCurve ws s p).limits = s.limits ∧ (applyCurve ws s p).folioOn = s.folioOn ∧ (applyCurve ws s p).strokeBase = s.strokeBase ∧ (applyCurve ws s p).resyncAt = s.resyncAt ∧ (applyCurve ws s p).pairs = s.pairs ∧ (applyCurve ws s p).writes = s.writes ∧ (applyCurve ws s p).staged = s.staged ∧ (applyCurve ws s p).rubric = s.rubric ∧ (applyCurve ws s p).trustBySpi = s.trustBySpi ∧ (applyCurve ws s p).trustConfigured = s.trustConfigured ∧ (applyCurve ws s p).link = s.link ∧ (applyCurve ws s p).localEvents = s.localEvents ∧ (applyCurve ws s p).localLost = s.localLost ∧ (applyCurve ws s p).margin = s.margin ∧ (applyCurve ws s p).disc = s.disc ∧ (applyCurve ws s p).clusters = s.clusters ∧ (applyCurve ws s p).engines = s.engines ∧ (applyCurve ws s p).regionTemp = s.regionTemp ∧ (applyCurve ws s p).lanes = s.lanes ∧ (applyCurve ws s p).modes = s.modes ∧ (applyCurve ws s p).img = s.img ∧ (applyCurve ws s p).nor = s.nor ∧ (applyCurve ws s p).blot = s.blot ∧ (applyCurve ws s p).sealUnit = s.sealUnit ∧ (applyCurve ws s p).vauxOk = s.vauxOk ∧ (applyCurve ws s p).pd = s.pd ∧ (applyCurve ws s p).ptp = s.ptp ∧ (applyCurve ws s p).devices = s.devices ∧ (applyCurve ws s p).eth = s.eth ∧ (applyCurve ws s p).prp = s.prp ∧ (applyCurve ws s p).pcie = s.pcie ∧ (applyCurve ws s p).timelines = s.timelines ∧ (applyCurve ws s p).cvis = s.cvis ∧ (applyCurve ws s p).cviews = s.cviews ∧ (applyCurve ws s p).cports = s.cports ∧ (applyCurve ws s p).ligs = s.ligs ∧ (applyCurve ws s p).func = s.func ∧ (applyCurve ws s p).pins = s.pins := by
  generalize h : applyCurve ws s p = t; unfold applyCurve at h; dsimp only at h; (repeat' split at h) <;> (subst h; simp [*, curveRefused_keeps _ _, setCurveBad_keeps _ _ _, setReg_keeps _ _ _])

theorem applyClassV_keeps (s : State) (ws : List StagedWrite) : KeepsHosts (applyClassV s ws) s ∧ (applyClassV s ws).now = s.now ∧ (applyClassV s ws).pending = s.pending ∧ (applyClassV s ws).out = s.out ∧ (applyClassV s ws).freeCtr = s.freeCtr ∧ (applyClassV s ws).limits = s.limits ∧ (applyClassV s ws).folioOn = s.folioOn ∧ (applyClassV s ws).strokeBase = s.strokeBase ∧ (applyClassV s ws).resyncAt = s.resyncAt ∧ (applyClassV s ws).pairs = s.pairs ∧ (applyClassV s ws).writes = s.writes ∧ (applyClassV s ws).staged = s.staged ∧ (applyClassV s ws).rubric = s.rubric ∧ (applyClassV s ws).trustBySpi = s.trustBySpi ∧ (applyClassV s ws).trustConfigured = s.trustConfigured ∧ (applyClassV s ws).link = s.link ∧ (applyClassV s ws).localEvents = s.localEvents ∧ (applyClassV s ws).localLost = s.localLost ∧ (applyClassV s ws).margin = s.margin ∧ (applyClassV s ws).disc = s.disc ∧ (applyClassV s ws).clusters = s.clusters ∧ (applyClassV s ws).engines = s.engines ∧ (applyClassV s ws).regionTemp = s.regionTemp ∧ (applyClassV s ws).lanes = s.lanes ∧ (applyClassV s ws).modes = s.modes ∧ (applyClassV s ws).img = s.img ∧ (applyClassV s ws).nor = s.nor ∧ (applyClassV s ws).blot = s.blot ∧ (applyClassV s ws).sealUnit = s.sealUnit ∧ (applyClassV s ws).vauxOk = s.vauxOk ∧ (applyClassV s ws).pd = s.pd ∧ (applyClassV s ws).ptp = s.ptp ∧ (applyClassV s ws).devices = s.devices ∧ (applyClassV s ws).eth = s.eth ∧ (applyClassV s ws).prp = s.prp ∧ (applyClassV s ws).pcie = s.pcie ∧ (applyClassV s ws).timelines = s.timelines ∧ (applyClassV s ws).cvis = s.cvis ∧ (applyClassV s ws).cviews = s.cviews ∧ (applyClassV s ws).cports = s.cports ∧ (applyClassV s ws).ligs = s.ligs ∧ (applyClassV s ws).func = s.func ∧ (applyClassV s ws).pins = s.pins := by
  simp [applyClassV, applyCurve_keeps _ _ _, setReg_keeps _ _ _]

theorem setRubric_keeps (s : State) (f : Rubric → Rubric) : KeepsPorts (setRubric s f) s ∧ KeepsHosts (setRubric s f) s ∧ (setRubric s f).now = s.now ∧ (setRubric s f).pending = s.pending ∧ (setRubric s f).out = s.out ∧ (setRubric s f).limits = s.limits ∧ (setRubric s f).folioOn = s.folioOn ∧ (setRubric s f).strokeBase = s.strokeBase ∧ (setRubric s f).resyncAt = s.resyncAt ∧ (setRubric s f).rcSpi = s.rcSpi ∧ (setRubric s f).rcPf = s.rcPf ∧ (setRubric s f).pairs = s.pairs ∧ (setRubric s f).writes = s.writes ∧ (setRubric s f).staged = s.staged ∧ (setRubric s f).trustBySpi = s.trustBySpi ∧ (setRubric s f).trustConfigured = s.trustConfigured ∧ (setRubric s f).link = s.link ∧ (setRubric s f).localEvents = s.localEvents ∧ (setRubric s f).localLost = s.localLost ∧ (setRubric s f).pal = s.pal ∧ (setRubric s f).margin = s.margin ∧ (setRubric s f).disc = s.disc ∧ (setRubric s f).clusters = s.clusters ∧ (setRubric s f).engines = s.engines ∧ (setRubric s f).regionTemp = s.regionTemp ∧ (setRubric s f).lanes = s.lanes ∧ (setRubric s f).img = s.img ∧ (setRubric s f).nor = s.nor ∧ (setRubric s f).sealUnit = s.sealUnit ∧ (setRubric s f).input = s.input ∧ (setRubric s f).vauxOk = s.vauxOk ∧ (setRubric s f).ptp = s.ptp ∧ (setRubric s f).eth = s.eth ∧ (setRubric s f).prp = s.prp ∧ (setRubric s f).pcie = s.pcie ∧ (setRubric s f).timelines = s.timelines ∧ (setRubric s f).pins = s.pins := by
  simp [setRubric]

theorem publish_keeps (s : State) : KeepsPorts (publish s) s ∧ KeepsHosts (publish s) s ∧ (publish s).now = s.now ∧ (publish s).pending = s.pending ∧ (publish s).out = s.out ∧ (publish s).limits = s.limits ∧ (publish s).folioOn = s.folioOn ∧ (publish s).strokeBase = s.strokeBase ∧ (publish s).resyncAt = s.resyncAt ∧ (publish s).rcSpi = s.rcSpi ∧ (publish s).rcPf = s.rcPf ∧ (publish s).pairs = s.pairs ∧ (publish s).writes = s.writes ∧ (publish s).staged = s.staged ∧ (publish s).trustBySpi = s.trustBySpi ∧ (publish s).trustConfigured = s.trustConfigured ∧ (publish s).link = s.link ∧ (publish s).localEvents = s.localEvents ∧ (publish s).localLost = s.localLost ∧ (publish s).pal = s.pal ∧ (publish s).margin = s.margin ∧ (publish s).disc = s.disc ∧ (publish s).clusters = s.clusters ∧ (publish s).engines = s.engines ∧ (publish s).regionTemp = s.regionTemp ∧ (publish s).lanes = s.lanes ∧ (publish s).img = s.img ∧ (publish s).nor = s.nor ∧ (publish s).sealUnit = s.sealUnit ∧ (publish s).input = s.input ∧ (publish s).vauxOk = s.vauxOk ∧ (publish s).ptp = s.ptp ∧ (publish s).eth = s.eth ∧ (publish s).prp = s.prp ∧ (publish s).pcie = s.pcie ∧ (publish s).timelines = s.timelines ∧ (publish s).pins = s.pins := by
  simp [publish, setRubric_keeps _ _]

theorem updateDomain_keeps (s : State) (d : Fin 27) : KeepsPorts (updateDomain s d) s ∧ KeepsHosts (updateDomain s d) s ∧ (updateDomain s d).now = s.now ∧ (updateDomain s d).pending = s.pending ∧ (updateDomain s d).out = s.out ∧ (updateDomain s d).limits = s.limits ∧ (updateDomain s d).folioOn = s.folioOn ∧ (updateDomain s d).strokeBase = s.strokeBase ∧ (updateDomain s d).resyncAt = s.resyncAt ∧ (updateDomain s d).rcSpi = s.rcSpi ∧ (updateDomain s d).rcPf = s.rcPf ∧ (updateDomain s d).pairs = s.pairs ∧ (updateDomain s d).writes = s.writes ∧ (updateDomain s d).staged = s.staged ∧ (updateDomain s d).trustBySpi = s.trustBySpi ∧ (updateDomain s d).trustConfigured = s.trustConfigured ∧ (updateDomain s d).link = s.link ∧ (updateDomain s d).localEvents = s.localEvents ∧ (updateDomain s d).localLost = s.localLost ∧ (updateDomain s d).pal = s.pal ∧ (updateDomain s d).margin = s.margin ∧ (updateDomain s d).disc = s.disc ∧ (updateDomain s d).clusters = s.clusters ∧ (updateDomain s d).engines = s.engines ∧ (updateDomain s d).regionTemp = s.regionTemp ∧ (updateDomain s d).lanes = s.lanes ∧ (updateDomain s d).img = s.img ∧ (updateDomain s d).nor = s.nor ∧ (updateDomain s d).sealUnit = s.sealUnit ∧ (updateDomain s d).input = s.input ∧ (updateDomain s d).vauxOk = s.vauxOk ∧ (updateDomain s d).ptp = s.ptp ∧ (updateDomain s d).eth = s.eth ∧ (updateDomain s d).prp = s.prp ∧ (updateDomain s d).pcie = s.pcie ∧ (updateDomain s d).timelines = s.timelines ∧ (updateDomain s d).pins = s.pins := by
  simp [updateDomain, setRubric_keeps _ _]

theorem serviceCheck_keeps (s : State) : KeepsBoard (serviceCheck s) s ∧ KeepsPorts (serviceCheck s) s ∧ KeepsHosts (serviceCheck s) s ∧ (serviceCheck s).out = s.out ∧ (serviceCheck s).limits = s.limits ∧ (serviceCheck s).margin = s.margin ∧ (serviceCheck s).pcie = s.pcie := by
  simp [serviceCheck, record_keeps _ _ _ _ _ _ _]

theorem acceptCommit_keeps (s : State) (p : Path) : (acceptCommit s p).now = s.now ∧ (acceptCommit s p).pending = s.pending ∧ (acceptCommit s p).folioOn = s.folioOn ∧ (acceptCommit s p).strokeBase = s.strokeBase ∧ (acceptCommit s p).resyncAt = s.resyncAt ∧ (acceptCommit s p).pairs = s.pairs ∧ (acceptCommit s p).writes = s.writes ∧ (acceptCommit s p).trustBySpi = s.trustBySpi ∧ (acceptCommit s p).trustConfigured = s.trustConfigured ∧ (acceptCommit s p).link = s.link ∧ (acceptCommit s p).localEvents = s.localEvents ∧ (acceptCommit s p).localLost = s.localLost ∧ (acceptCommit s p).clusters = s.clusters ∧ (acceptCommit s p).engines = s.engines ∧ (acceptCommit s p).regionTemp = s.regionTemp ∧ (acceptCommit s p).lanes = s.lanes ∧ (acceptCommit s p).modes = s.modes ∧ (acceptCommit s p).img = s.img ∧ (acceptCommit s p).nor = s.nor ∧ (acceptCommit s p).blot = s.blot ∧ (acceptCommit s p).sealUnit = s.sealUnit ∧ (acceptCommit s p).input = s.input ∧ (acceptCommit s p).vauxOk = s.vauxOk ∧ (acceptCommit s p).prp = s.prp ∧ (acceptCommit s p).pins = s.pins := by
  simp [acceptCommit, afterApply_keeps _ _ _, barCheck_keeps _ _, serviceCheck_keeps _, setReg_keeps _ _ _, setRubric_keeps _ _]

theorem rubricCommit_keeps (s : State) (p : Path) : (rubricCommit s p).now = s.now ∧ (rubricCommit s p).pending = s.pending ∧ (rubricCommit s p).folioOn = s.folioOn ∧ (rubricCommit s p).strokeBase = s.strokeBase ∧ (rubricCommit s p).resyncAt = s.resyncAt ∧ (rubricCommit s p).pairs = s.pairs ∧ (rubricCommit s p).writes = s.writes ∧ (rubricCommit s p).trustBySpi = s.trustBySpi ∧ (rubricCommit s p).trustConfigured = s.trustConfigured ∧ (rubricCommit s p).link = s.link ∧ (rubricCommit s p).localEvents = s.localEvents ∧ (rubricCommit s p).localLost = s.localLost ∧ (rubricCommit s p).clusters = s.clusters ∧ (rubricCommit s p).engines = s.engines ∧ (rubricCommit s p).regionTemp = s.regionTemp ∧ (rubricCommit s p).lanes = s.lanes ∧ (rubricCommit s p).modes = s.modes ∧ (rubricCommit s p).img = s.img ∧ (rubricCommit s p).nor = s.nor ∧ (rubricCommit s p).blot = s.blot ∧ (rubricCommit s p).sealUnit = s.sealUnit ∧ (rubricCommit s p).input = s.input ∧ (rubricCommit s p).vauxOk = s.vauxOk ∧ (rubricCommit s p).prp = s.prp ∧ (rubricCommit s p).pins = s.pins := by
  generalize h : rubricCommit s p = t; unfold rubricCommit at h; (repeat' split at h) <;> (subst h; simp [*, acceptCommit_keeps _ _, setRubric_keeps _ _])

theorem rubricAbort_keeps (s : State) : KeepsPorts (rubricAbort s) s ∧ KeepsHosts (rubricAbort s) s ∧ (rubricAbort s).now = s.now ∧ (rubricAbort s).pending = s.pending ∧ (rubricAbort s).out = s.out ∧ (rubricAbort s).limits = s.limits ∧ (rubricAbort s).folioOn = s.folioOn ∧ (rubricAbort s).strokeBase = s.strokeBase ∧ (rubricAbort s).resyncAt = s.resyncAt ∧ (rubricAbort s).rcSpi = s.rcSpi ∧ (rubricAbort s).rcPf = s.rcPf ∧ (rubricAbort s).pairs = s.pairs ∧ (rubricAbort s).writes = s.writes ∧ (rubricAbort s).trustBySpi = s.trustBySpi ∧ (rubricAbort s).trustConfigured = s.trustConfigured ∧ (rubricAbort s).link = s.link ∧ (rubricAbort s).localEvents = s.localEvents ∧ (rubricAbort s).localLost = s.localLost ∧ (rubricAbort s).pal = s.pal ∧ (rubricAbort s).margin = s.margin ∧ (rubricAbort s).disc = s.disc ∧ (rubricAbort s).clusters = s.clusters ∧ (rubricAbort s).engines = s.engines ∧ (rubricAbort s).regionTemp = s.regionTemp ∧ (rubricAbort s).lanes = s.lanes ∧ (rubricAbort s).img = s.img ∧ (rubricAbort s).nor = s.nor ∧ (rubricAbort s).sealUnit = s.sealUnit ∧ (rubricAbort s).input = s.input ∧ (rubricAbort s).vauxOk = s.vauxOk ∧ (rubricAbort s).ptp = s.ptp ∧ (rubricAbort s).eth = s.eth ∧ (rubricAbort s).prp = s.prp ∧ (rubricAbort s).pcie = s.pcie ∧ (rubricAbort s).timelines = s.timelines ∧ (rubricAbort s).pins = s.pins := by
  simp [rubricAbort, setRubric_keeps _ _]

theorem commitComplete_keeps (s : State) : KeepsPorts (commitComplete s) s ∧ KeepsHosts (commitComplete s) s ∧ (commitComplete s).now = s.now ∧ (commitComplete s).pending = s.pending ∧ (commitComplete s).out = s.out ∧ (commitComplete s).limits = s.limits ∧ (commitComplete s).folioOn = s.folioOn ∧ (commitComplete s).strokeBase = s.strokeBase ∧ (commitComplete s).resyncAt = s.resyncAt ∧ (commitComplete s).pairs = s.pairs ∧ (commitComplete s).writes = s.writes ∧ (commitComplete s).staged = s.staged ∧ (commitComplete s).trustBySpi = s.trustBySpi ∧ (commitComplete s).trustConfigured = s.trustConfigured ∧ (commitComplete s).link = s.link ∧ (commitComplete s).localEvents = s.localEvents ∧ (commitComplete s).localLost = s.localLost ∧ (commitComplete s).margin = s.margin ∧ (commitComplete s).disc = s.disc ∧ (commitComplete s).clusters = s.clusters ∧ (commitComplete s).engines = s.engines ∧ (commitComplete s).regionTemp = s.regionTemp ∧ (commitComplete s).lanes = s.lanes ∧ (commitComplete s).img = s.img ∧ (commitComplete s).nor = s.nor ∧ (commitComplete s).sealUnit = s.sealUnit ∧ (commitComplete s).input = s.input ∧ (commitComplete s).vauxOk = s.vauxOk ∧ (commitComplete s).ptp = s.ptp ∧ (commitComplete s).eth = s.eth ∧ (commitComplete s).prp = s.prp ∧ (commitComplete s).pcie = s.pcie ∧ (commitComplete s).timelines = s.timelines ∧ (commitComplete s).pins = s.pins := by
  simp [commitComplete, publish_keeps _, record_keeps _ _ _ _ _ _ _]

theorem brkCommit_keeps (s : State) : KeepsHosts (brkCommit s) s ∧ (brkCommit s).now = s.now ∧ (brkCommit s).pending = s.pending ∧ (brkCommit s).out = s.out ∧ (brkCommit s).freeCtr = s.freeCtr ∧ (brkCommit s).limits = s.limits ∧ (brkCommit s).folioOn = s.folioOn ∧ (brkCommit s).strokeBase = s.strokeBase ∧ (brkCommit s).resyncAt = s.resyncAt ∧ (brkCommit s).pairs = s.pairs ∧ (brkCommit s).writes = s.writes ∧ (brkCommit s).staged = s.staged ∧ (brkCommit s).trustBySpi = s.trustBySpi ∧ (brkCommit s).trustConfigured = s.trustConfigured ∧ (brkCommit s).link = s.link ∧ (brkCommit s).localEvents = s.localEvents ∧ (brkCommit s).localLost = s.localLost ∧ (brkCommit s).margin = s.margin ∧ (brkCommit s).disc = s.disc ∧ (brkCommit s).clusters = s.clusters ∧ (brkCommit s).engines = s.engines ∧ (brkCommit s).regionTemp = s.regionTemp ∧ (brkCommit s).lanes = s.lanes ∧ (brkCommit s).modes = s.modes ∧ (brkCommit s).img = s.img ∧ (brkCommit s).nor = s.nor ∧ (brkCommit s).blot = s.blot ∧ (brkCommit s).sealUnit = s.sealUnit ∧ (brkCommit s).vauxOk = s.vauxOk ∧ (brkCommit s).pd = s.pd ∧ (brkCommit s).ptp = s.ptp ∧ (brkCommit s).devices = s.devices ∧ (brkCommit s).eth = s.eth ∧ (brkCommit s).prp = s.prp ∧ (brkCommit s).pcie = s.pcie ∧ (brkCommit s).timelines = s.timelines ∧ (brkCommit s).cvis = s.cvis ∧ (brkCommit s).cviews = s.cviews ∧ (brkCommit s).cports = s.cports ∧ (brkCommit s).ligs = s.ligs ∧ (brkCommit s).func = s.func ∧ (brkCommit s).pins = s.pins := by
  generalize h : brkCommit s = t; unfold brkCommit at h; (repeat' split at h) <;> (subst h; simp [*, applyClassV_keeps _ _, setRubric_keeps _ _])

end Sys2Proof.Machine
end

