-- ==== Sys2Proof/Laws/FrameImages.lean ====
section
/-! SUPPORT. What the operations of Machine/Images.lean leave as it was: one lemma for each, over every input, and over every outcome of it.
A proof names the ones it needs, each applied: simp [op_keeps _ _] rewrites every field that op leaves. -/

namespace Sys2Proof.Machine

theorem setImg_keeps (s : State) (f : ImgWrite → ImgWrite) : KeepsPorts (setImg s f) s ∧ KeepsHosts (setImg s f) s ∧ (setImg s f).now = s.now ∧ (setImg s f).pending = s.pending ∧ (setImg s f).out = s.out ∧ (setImg s f).limits = s.limits ∧ (setImg s f).folioOn = s.folioOn ∧ (setImg s f).strokeBase = s.strokeBase ∧ (setImg s f).resyncAt = s.resyncAt ∧ (setImg s f).rcSpi = s.rcSpi ∧ (setImg s f).rcPf = s.rcPf ∧ (setImg s f).pairs = s.pairs ∧ (setImg s f).writes = s.writes ∧ (setImg s f).staged = s.staged ∧ (setImg s f).rubric = s.rubric ∧ (setImg s f).trustBySpi = s.trustBySpi ∧ (setImg s f).trustConfigured = s.trustConfigured ∧ (setImg s f).link = s.link ∧ (setImg s f).localEvents = s.localEvents ∧ (setImg s f).localLost = s.localLost ∧ (setImg s f).pal = s.pal ∧ (setImg s f).margin = s.margin ∧ (setImg s f).disc = s.disc ∧ (setImg s f).clusters = s.clusters ∧ (setImg s f).engines = s.engines ∧ (setImg s f).regionTemp = s.regionTemp ∧ (setImg s f).lanes = s.lanes ∧ (setImg s f).nor = s.nor ∧ (setImg s f).sealUnit = s.sealUnit ∧ (setImg s f).input = s.input ∧ (setImg s f).vauxOk = s.vauxOk ∧ (setImg s f).ptp = s.ptp ∧ (setImg s f).eth = s.eth ∧ (setImg s f).prp = s.prp ∧ (setImg s f).pcie = s.pcie ∧ (setImg s f).timelines = s.timelines ∧ (setImg s f).pins = s.pins := by
  simp [setImg]

theorem editSlot_keeps (s : State) (f : ImgSlot → ImgSlot) : KeepsPorts (editSlot s f) s ∧ KeepsHosts (editSlot s f) s ∧ (editSlot s f).now = s.now ∧ (editSlot s f).pending = s.pending ∧ (editSlot s f).out = s.out ∧ (editSlot s f).limits = s.limits ∧ (editSlot s f).folioOn = s.folioOn ∧ (editSlot s f).strokeBase = s.strokeBase ∧ (editSlot s f).resyncAt = s.resyncAt ∧ (editSlot s f).rcSpi = s.rcSpi ∧ (editSlot s f).rcPf = s.rcPf ∧ (editSlot s f).pairs = s.pairs ∧ (editSlot s f).writes = s.writes ∧ (editSlot s f).staged = s.staged ∧ (editSlot s f).rubric = s.rubric ∧ (editSlot s f).trustBySpi = s.trustBySpi ∧ (editSlot s f).trustConfigured = s.trustConfigured ∧ (editSlot s f).link = s.link ∧ (editSlot s f).localEvents = s.localEvents ∧ (editSlot s f).localLost = s.localLost ∧ (editSlot s f).pal = s.pal ∧ (editSlot s f).margin = s.margin ∧ (editSlot s f).disc = s.disc ∧ (editSlot s f).clusters = s.clusters ∧ (editSlot s f).engines = s.engines ∧ (editSlot s f).regionTemp = s.regionTemp ∧ (editSlot s f).lanes = s.lanes ∧ (editSlot s f).img = s.img ∧ (editSlot s f).sealUnit = s.sealUnit ∧ (editSlot s f).input = s.input ∧ (editSlot s f).vauxOk = s.vauxOk ∧ (editSlot s f).ptp = s.ptp ∧ (editSlot s f).eth = s.eth ∧ (editSlot s f).prp = s.prp ∧ (editSlot s f).pcie = s.pcie ∧ (editSlot s f).timelines = s.timelines ∧ (editSlot s f).pins = s.pins := by
  simp [editSlot]

theorem imgOpen_keeps (s : State) (cfg : Bool) : KeepsPorts (imgOpen s cfg) s ∧ KeepsHosts (imgOpen s cfg) s ∧ (imgOpen s cfg).now = s.now ∧ (imgOpen s cfg).pending = s.pending ∧ (imgOpen s cfg).out = s.out ∧ (imgOpen s cfg).limits = s.limits ∧ (imgOpen s cfg).folioOn = s.folioOn ∧ (imgOpen s cfg).strokeBase = s.strokeBase ∧ (imgOpen s cfg).resyncAt = s.resyncAt ∧ (imgOpen s cfg).rcSpi = s.rcSpi ∧ (imgOpen s cfg).rcPf = s.rcPf ∧ (imgOpen s cfg).pairs = s.pairs ∧ (imgOpen s cfg).writes = s.writes ∧ (imgOpen s cfg).staged = s.staged ∧ (imgOpen s cfg).rubric = s.rubric ∧ (imgOpen s cfg).trustBySpi = s.trustBySpi ∧ (imgOpen s cfg).trustConfigured = s.trustConfigured ∧ (imgOpen s cfg).link = s.link ∧ (imgOpen s cfg).localEvents = s.localEvents ∧ (imgOpen s cfg).localLost = s.localLost ∧ (imgOpen s cfg).pal = s.pal ∧ (imgOpen s cfg).margin = s.margin ∧ (imgOpen s cfg).disc = s.disc ∧ (imgOpen s cfg).clusters = s.clusters ∧ (imgOpen s cfg).engines = s.engines ∧ (imgOpen s cfg).regionTemp = s.regionTemp ∧ (imgOpen s cfg).lanes = s.lanes ∧ (imgOpen s cfg).sealUnit = s.sealUnit ∧ (imgOpen s cfg).input = s.input ∧ (imgOpen s cfg).vauxOk = s.vauxOk ∧ (imgOpen s cfg).ptp = s.ptp ∧ (imgOpen s cfg).eth = s.eth ∧ (imgOpen s cfg).prp = s.prp ∧ (imgOpen s cfg).pcie = s.pcie ∧ (imgOpen s cfg).timelines = s.timelines ∧ (imgOpen s cfg).pins = s.pins := by
  generalize h : imgOpen s cfg = t; unfold imgOpen at h; (repeat' split at h) <;> (subst h; simp [*, editSlot_keeps _ _, setImg_keeps _ _])

theorem imgEnd_keeps (s : State) (result : Nat) : KeepsPorts (imgEnd s result) s ∧ KeepsHosts (imgEnd s result) s ∧ (imgEnd s result).now = s.now ∧ (imgEnd s result).pending = s.pending ∧ (imgEnd s result).out = s.out ∧ (imgEnd s result).limits = s.limits ∧ (imgEnd s result).folioOn = s.folioOn ∧ (imgEnd s result).strokeBase = s.strokeBase ∧ (imgEnd s result).resyncAt = s.resyncAt ∧ (imgEnd s result).rcSpi = s.rcSpi ∧ (imgEnd s result).rcPf = s.rcPf ∧ (imgEnd s result).pairs = s.pairs ∧ (imgEnd s result).writes = s.writes ∧ (imgEnd s result).staged = s.staged ∧ (imgEnd s result).rubric = s.rubric ∧ (imgEnd s result).trustBySpi = s.trustBySpi ∧ (imgEnd s result).trustConfigured = s.trustConfigured ∧ (imgEnd s result).link = s.link ∧ (imgEnd s result).localEvents = s.localEvents ∧ (imgEnd s result).localLost = s.localLost ∧ (imgEnd s result).pal = s.pal ∧ (imgEnd s result).margin = s.margin ∧ (imgEnd s result).disc = s.disc ∧ (imgEnd s result).clusters = s.clusters ∧ (imgEnd s result).engines = s.engines ∧ (imgEnd s result).regionTemp = s.regionTemp ∧ (imgEnd s result).lanes = s.lanes ∧ (imgEnd s result).nor = s.nor ∧ (imgEnd s result).sealUnit = s.sealUnit ∧ (imgEnd s result).input = s.input ∧ (imgEnd s result).vauxOk = s.vauxOk ∧ (imgEnd s result).ptp = s.ptp ∧ (imgEnd s result).eth = s.eth ∧ (imgEnd s result).prp = s.prp ∧ (imgEnd s result).pcie = s.pcie ∧ (imgEnd s result).timelines = s.timelines ∧ (imgEnd s result).pins = s.pins := by
  simp [imgEnd, setImg_keeps _ _]

theorem imgData_keeps (s : State) (value : Word) : KeepsHosts (imgData s value) s ∧ (imgData s value).now = s.now ∧ (imgData s value).pending = s.pending ∧ (imgData s value).out = s.out ∧ (imgData s value).freeCtr = s.freeCtr ∧ (imgData s value).limits = s.limits ∧ (imgData s value).folioOn = s.folioOn ∧ (imgData s value).strokeBase = s.strokeBase ∧ (imgData s value).resyncAt = s.resyncAt ∧ (imgData s value).rcSpi = s.rcSpi ∧ (imgData s value).rcPf = s.rcPf ∧ (imgData s value).pairs = s.pairs ∧ (imgData s value).writes = s.writes ∧ (imgData s value).staged = s.staged ∧ (imgData s value).rubric = s.rubric ∧ (imgData s value).trustBySpi = s.trustBySpi ∧ (imgData s value).trustConfigured = s.trustConfigured ∧ (imgData s value).link = s.link ∧ (imgData s value).localEvents = s.localEvents ∧ (imgData s value).localLost = s.localLost ∧ (imgData s value).pal = s.pal ∧ (imgData s value).margin = s.margin ∧ (imgData s value).disc = s.disc ∧ (imgData s value).clusters = s.clusters ∧ (imgData s value).engines = s.engines ∧ (imgData s value).regionTemp = s.regionTemp ∧ (imgData s value).lanes = s.lanes ∧ (imgData s value).modes = s.modes ∧ (imgData s value).blot = s.blot ∧ (imgData s value).sealUnit = s.sealUnit ∧ (imgData s value).input = s.input ∧ (imgData s value).vauxOk = s.vauxOk ∧ (imgData s value).power = s.power ∧ (imgData s value).pd = s.pd ∧ (imgData s value).ptp = s.ptp ∧ (imgData s value).devices = s.devices ∧ (imgData s value).eth = s.eth ∧ (imgData s value).prp = s.prp ∧ (imgData s value).pcie = s.pcie ∧ (imgData s value).timelines = s.timelines ∧ (imgData s value).cvis = s.cvis ∧ (imgData s value).cviews = s.cviews ∧ (imgData s value).cports = s.cports ∧ (imgData s value).ligs = s.ligs ∧ (imgData s value).func = s.func ∧ (imgData s value).pins = s.pins := by
  generalize h : imgData s value = t; unfold imgData at h; (repeat' split at h) <;> (subst h; simp [*, editSlot_keeps _ _, setImg_keeps _ _, setReg_keeps _ _ _])

theorem imgProgram_keeps (s : State) (v : ImgVerdict) : KeepsPorts (imgProgram s v) s ∧ KeepsHosts (imgProgram s v) s ∧ (imgProgram s v).now = s.now ∧ (imgProgram s v).pending = s.pending ∧ (imgProgram s v).out = s.out ∧ (imgProgram s v).limits = s.limits ∧ (imgProgram s v).folioOn = s.folioOn ∧ (imgProgram s v).strokeBase = s.strokeBase ∧ (imgProgram s v).resyncAt = s.resyncAt ∧ (imgProgram s v).rcSpi = s.rcSpi ∧ (imgProgram s v).rcPf = s.rcPf ∧ (imgProgram s v).pairs = s.pairs ∧ (imgProgram s v).writes = s.writes ∧ (imgProgram s v).staged = s.staged ∧ (imgProgram s v).rubric = s.rubric ∧ (imgProgram s v).trustBySpi = s.trustBySpi ∧ (imgProgram s v).trustConfigured = s.trustConfigured ∧ (imgProgram s v).link = s.link ∧ (imgProgram s v).localEvents = s.localEvents ∧ (imgProgram s v).localLost = s.localLost ∧ (imgProgram s v).pal = s.pal ∧ (imgProgram s v).margin = s.margin ∧ (imgProgram s v).disc = s.disc ∧ (imgProgram s v).clusters = s.clusters ∧ (imgProgram s v).engines = s.engines ∧ (imgProgram s v).regionTemp = s.regionTemp ∧ (imgProgram s v).lanes = s.lanes ∧ (imgProgram s v).img = s.img ∧ (imgProgram s v).sealUnit = s.sealUnit ∧ (imgProgram s v).input = s.input ∧ (imgProgram s v).vauxOk = s.vauxOk ∧ (imgProgram s v).ptp = s.ptp ∧ (imgProgram s v).eth = s.eth ∧ (imgProgram s v).prp = s.prp ∧ (imgProgram s v).pcie = s.pcie ∧ (imgProgram s v).timelines = s.timelines ∧ (imgProgram s v).pins = s.pins := by
  simp [imgProgram, editSlot_keeps _ _]

theorem imgCommit_keeps (s : State) (v : ImgVerdict) : KeepsHosts (imgCommit s v) s ∧ (imgCommit s v).now = s.now ∧ (imgCommit s v).pending = s.pending ∧ (imgCommit s v).out = s.out ∧ (imgCommit s v).freeCtr = s.freeCtr ∧ (imgCommit s v).folioOn = s.folioOn ∧ (imgCommit s v).strokeBase = s.strokeBase ∧ (imgCommit s v).resyncAt = s.resyncAt ∧ (imgCommit s v).regs = s.regs ∧ (imgCommit s v).pairs = s.pairs ∧ (imgCommit s v).writes = s.writes ∧ (imgCommit s v).staged = s.staged ∧ (imgCommit s v).rubric = s.rubric ∧ (imgCommit s v).trustBySpi = s.trustBySpi ∧ (imgCommit s v).trustConfigured = s.trustConfigured ∧ (imgCommit s v).link = s.link ∧ (imgCommit s v).localEvents = s.localEvents ∧ (imgCommit s v).localLost = s.localLost ∧ (imgCommit s v).disc = s.disc ∧ (imgCommit s v).clusters = s.clusters ∧ (imgCommit s v).engines = s.engines ∧ (imgCommit s v).regionTemp = s.regionTemp ∧ (imgCommit s v).lanes = s.lanes ∧ (imgCommit s v).modes = s.modes ∧ (imgCommit s v).sealUnit = s.sealUnit ∧ (imgCommit s v).input = s.input ∧ (imgCommit s v).vauxOk = s.vauxOk ∧ (imgCommit s v).power = s.power ∧ (imgCommit s v).pd = s.pd ∧ (imgCommit s v).ptp = s.ptp ∧ (imgCommit s v).devices = s.devices ∧ (imgCommit s v).eth = s.eth ∧ (imgCommit s v).prp = s.prp ∧ (imgCommit s v).pcie = s.pcie ∧ (imgCommit s v).timelines = s.timelines ∧ (imgCommit s v).cvis = s.cvis ∧ (imgCommit s v).cviews = s.cviews ∧ (imgCommit s v).cports = s.cports ∧ (imgCommit s v).ligs = s.ligs ∧ (imgCommit s v).func = s.func ∧ (imgCommit s v).pins = s.pins := by
  generalize h : imgCommit s v = t; unfold imgCommit at h; (repeat' split at h) <;> (subst h; simp [*, faultReport_keeps _ _ _ _ _, imgEnd_keeps _ _, imgProgram_keeps _ _, setImg_keeps _ _])

theorem imgCommitFree_keeps (s : State) : KeepsHosts (imgCommitFree s) s ∧ (imgCommitFree s).now = s.now ∧ (imgCommitFree s).pending = s.pending ∧ (imgCommitFree s).out = s.out ∧ (imgCommitFree s).folioOn = s.folioOn ∧ (imgCommitFree s).strokeBase = s.strokeBase ∧ (imgCommitFree s).resyncAt = s.resyncAt ∧ (imgCommitFree s).regs = s.regs ∧ (imgCommitFree s).pairs = s.pairs ∧ (imgCommitFree s).writes = s.writes ∧ (imgCommitFree s).staged = s.staged ∧ (imgCommitFree s).rubric = s.rubric ∧ (imgCommitFree s).trustBySpi = s.trustBySpi ∧ (imgCommitFree s).trustConfigured = s.trustConfigured ∧ (imgCommitFree s).link = s.link ∧ (imgCommitFree s).localEvents = s.localEvents ∧ (imgCommitFree s).localLost = s.localLost ∧ (imgCommitFree s).disc = s.disc ∧ (imgCommitFree s).clusters = s.clusters ∧ (imgCommitFree s).engines = s.engines ∧ (imgCommitFree s).regionTemp = s.regionTemp ∧ (imgCommitFree s).lanes = s.lanes ∧ (imgCommitFree s).modes = s.modes ∧ (imgCommitFree s).sealUnit = s.sealUnit ∧ (imgCommitFree s).input = s.input ∧ (imgCommitFree s).vauxOk = s.vauxOk ∧ (imgCommitFree s).power = s.power ∧ (imgCommitFree s).pd = s.pd ∧ (imgCommitFree s).ptp = s.ptp ∧ (imgCommitFree s).devices = s.devices ∧ (imgCommitFree s).eth = s.eth ∧ (imgCommitFree s).prp = s.prp ∧ (imgCommitFree s).pcie = s.pcie ∧ (imgCommitFree s).timelines = s.timelines ∧ (imgCommitFree s).cvis = s.cvis ∧ (imgCommitFree s).cviews = s.cviews ∧ (imgCommitFree s).cports = s.cports ∧ (imgCommitFree s).ligs = s.ligs ∧ (imgCommitFree s).func = s.func ∧ (imgCommitFree s).pins = s.pins := by
  simp [imgCommitFree, imgCommit_keeps _ _]

end Sys2Proof.Machine
end

