-- ==== Sys2Proof/Laws/FrameBoot.lean ====
section
/-! SUPPORT. What the operations of Machine/Boot.lean leave as it was: one lemma for each, over every input, and over every outcome of it.
A proof names the ones it needs, each applied: simp [op_keeps _ _] rewrites every field that op leaves. -/

namespace Sys2Proof.Machine

theorem folioReset_keeps (s : State) (warm : Bool) : (folioReset s warm).now = s.now ∧ (folioReset s warm).pending = s.pending ∧ (folioReset s warm).out = s.out ∧ (folioReset s warm).freeCtr = s.freeCtr ∧ (folioReset s warm).limits = s.limits ∧ (folioReset s warm).localEvents = s.localEvents ∧ (folioReset s warm).localLost = s.localLost ∧ (folioReset s warm).nor = s.nor ∧ (folioReset s warm).input = s.input ∧ (folioReset s warm).vauxOk = s.vauxOk ∧ (folioReset s warm).pins = s.pins := by
  simp [folioReset, heatCause_keeps _]

theorem takeDirectory_keeps (s : State) (d : List Byte) (copy1 : Bool) : KeepsBoard (takeDirectory s d copy1) s ∧ KeepsHosts (takeDirectory s d copy1) s ∧ (takeDirectory s d copy1).out = s.out ∧ (takeDirectory s d copy1).freeCtr = s.freeCtr ∧ (takeDirectory s d copy1).limits = s.limits ∧ (takeDirectory s d copy1).rcSpi = s.rcSpi ∧ (takeDirectory s d copy1).rcPf = s.rcPf ∧ (takeDirectory s d copy1).margin = s.margin ∧ (takeDirectory s d copy1).blot = s.blot ∧ (takeDirectory s d copy1).power = s.power ∧ (takeDirectory s d copy1).pd = s.pd ∧ (takeDirectory s d copy1).devices = s.devices ∧ (takeDirectory s d copy1).pcie = s.pcie ∧ (takeDirectory s d copy1).cvis = s.cvis ∧ (takeDirectory s d copy1).cviews = s.cviews ∧ (takeDirectory s d copy1).cports = s.cports ∧ (takeDirectory s d copy1).ligs = s.ligs ∧ (takeDirectory s d copy1).func = s.func := by
  simp [takeDirectory, setReg_keeps _ _ _]

theorem reportRefusal_keeps (s : State) : KeepsBoard (reportRefusal s) s ∧ KeepsHosts (reportRefusal s) s ∧ (reportRefusal s).out = s.out ∧ (reportRefusal s).freeCtr = s.freeCtr ∧ (reportRefusal s).regs = s.regs ∧ (reportRefusal s).modes = s.modes ∧ (reportRefusal s).power = s.power ∧ (reportRefusal s).pd = s.pd ∧ (reportRefusal s).devices = s.devices ∧ (reportRefusal s).pcie = s.pcie ∧ (reportRefusal s).cvis = s.cvis ∧ (reportRefusal s).cviews = s.cviews ∧ (reportRefusal s).cports = s.cports ∧ (reportRefusal s).ligs = s.ligs ∧ (reportRefusal s).func = s.func := by
  simp [reportRefusal, faultReport_keeps _ _ _ _ _]

theorem reportRefusals_keeps (a0 : Nat) (a1 : State) : KeepsBoard (reportRefusals a0 a1) a1 ∧ KeepsHosts (reportRefusals a0 a1) a1 ∧ (reportRefusals a0 a1).out = a1.out ∧ (reportRefusals a0 a1).freeCtr = a1.freeCtr ∧ (reportRefusals a0 a1).regs = a1.regs ∧ (reportRefusals a0 a1).modes = a1.modes ∧ (reportRefusals a0 a1).power = a1.power ∧ (reportRefusals a0 a1).pd = a1.pd ∧ (reportRefusals a0 a1).devices = a1.devices ∧ (reportRefusals a0 a1).pcie = a1.pcie ∧ (reportRefusals a0 a1).cvis = a1.cvis ∧ (reportRefusals a0 a1).cviews = a1.cviews ∧ (reportRefusals a0 a1).cports = a1.cports ∧ (reportRefusals a0 a1).ligs = a1.ligs ∧ (reportRefusals a0 a1).func = a1.func := by
  fun_induction reportRefusals a0 a1 <;> simp_all +zetaDelta [reportRefusal_keeps _]

theorem bootHold_keeps (s : State) (code : Nat) : KeepsBoard (bootHold s code) s ∧ KeepsHosts (bootHold s code) s ∧ (bootHold s code).out = s.out ∧ (bootHold s code).freeCtr = s.freeCtr ∧ (bootHold s code).limits = s.limits ∧ (bootHold s code).regs = s.regs ∧ (bootHold s code).rcSpi = s.rcSpi ∧ (bootHold s code).rcPf = s.rcPf ∧ (bootHold s code).pal = s.pal ∧ (bootHold s code).margin = s.margin ∧ (bootHold s code).blot = s.blot ∧ (bootHold s code).power = s.power ∧ (bootHold s code).pd = s.pd ∧ (bootHold s code).devices = s.devices ∧ (bootHold s code).pcie = s.pcie ∧ (bootHold s code).cvis = s.cvis ∧ (bootHold s code).cviews = s.cviews ∧ (bootHold s code).cports = s.cports ∧ (bootHold s code).ligs = s.ligs ∧ (bootHold s code).func = s.func := by
  simp [bootHold]

theorem bootEngine_keeps (s : State) (e : Fin 96) : (bootEngine s e).now = s.now ∧ (bootEngine s e).pending = s.pending ∧ (bootEngine s e).freeCtr = s.freeCtr ∧ (bootEngine s e).folioOn = s.folioOn ∧ (bootEngine s e).strokeBase = s.strokeBase ∧ (bootEngine s e).resyncAt = s.resyncAt ∧ (bootEngine s e).regs = s.regs ∧ (bootEngine s e).pairs = s.pairs ∧ (bootEngine s e).writes = s.writes ∧ (bootEngine s e).staged = s.staged ∧ (bootEngine s e).rubric = s.rubric ∧ (bootEngine s e).trustBySpi = s.trustBySpi ∧ (bootEngine s e).trustConfigured = s.trustConfigured ∧ (bootEngine s e).link = s.link ∧ (bootEngine s e).localEvents = s.localEvents ∧ (bootEngine s e).localLost = s.localLost ∧ (bootEngine s e).disc = s.disc ∧ (bootEngine s e).regionTemp = s.regionTemp ∧ (bootEngine s e).lanes = s.lanes ∧ (bootEngine s e).img = s.img ∧ (bootEngine s e).nor = s.nor ∧ (bootEngine s e).sealUnit = s.sealUnit ∧ (bootEngine s e).input = s.input ∧ (bootEngine s e).vauxOk = s.vauxOk ∧ (bootEngine s e).ptp = s.ptp ∧ (bootEngine s e).eth = s.eth ∧ (bootEngine s e).prp = s.prp ∧ (bootEngine s e).timelines = s.timelines ∧ (bootEngine s e).ligs = s.ligs ∧ (bootEngine s e).pins = s.pins := by
  generalize h : bootEngine s e = t; unfold bootEngine at h; dsimp only at h; (repeat' split at h) <;> (subst h; simp [*, clusterFail_keeps _ _ _ _, faultReport_keeps _ _ _ _ _])

theorem bootEngines_keeps (s : State) (bad : List (Fin 96)) : (bootEngines s bad).now = s.now ∧ (bootEngines s bad).pending = s.pending ∧ (bootEngines s bad).freeCtr = s.freeCtr ∧ (bootEngines s bad).folioOn = s.folioOn ∧ (bootEngines s bad).strokeBase = s.strokeBase ∧ (bootEngines s bad).resyncAt = s.resyncAt ∧ (bootEngines s bad).regs = s.regs ∧ (bootEngines s bad).pairs = s.pairs ∧ (bootEngines s bad).writes = s.writes ∧ (bootEngines s bad).staged = s.staged ∧ (bootEngines s bad).rubric = s.rubric ∧ (bootEngines s bad).trustBySpi = s.trustBySpi ∧ (bootEngines s bad).trustConfigured = s.trustConfigured ∧ (bootEngines s bad).link = s.link ∧ (bootEngines s bad).localEvents = s.localEvents ∧ (bootEngines s bad).localLost = s.localLost ∧ (bootEngines s bad).disc = s.disc ∧ (bootEngines s bad).regionTemp = s.regionTemp ∧ (bootEngines s bad).lanes = s.lanes ∧ (bootEngines s bad).img = s.img ∧ (bootEngines s bad).nor = s.nor ∧ (bootEngines s bad).sealUnit = s.sealUnit ∧ (bootEngines s bad).input = s.input ∧ (bootEngines s bad).vauxOk = s.vauxOk ∧ (bootEngines s bad).ptp = s.ptp ∧ (bootEngines s bad).eth = s.eth ∧ (bootEngines s bad).prp = s.prp ∧ (bootEngines s bad).timelines = s.timelines ∧ (bootEngines s bad).ligs = s.ligs ∧ (bootEngines s bad).pins = s.pins := by
  simp [bootEngines, bootEngine_keeps _ _]

theorem bootKeys_keeps (s : State) : KeepsHosts (bootKeys s) s ∧ (bootKeys s).now = s.now ∧ (bootKeys s).pending = s.pending ∧ (bootKeys s).out = s.out ∧ (bootKeys s).freeCtr = s.freeCtr ∧ (bootKeys s).folioOn = s.folioOn ∧ (bootKeys s).strokeBase = s.strokeBase ∧ (bootKeys s).resyncAt = s.resyncAt ∧ (bootKeys s).regs = s.regs ∧ (bootKeys s).pairs = s.pairs ∧ (bootKeys s).writes = s.writes ∧ (bootKeys s).staged = s.staged ∧ (bootKeys s).rubric = s.rubric ∧ (bootKeys s).trustBySpi = s.trustBySpi ∧ (bootKeys s).trustConfigured = s.trustConfigured ∧ (bootKeys s).link = s.link ∧ (bootKeys s).localEvents = s.localEvents ∧ (bootKeys s).localLost = s.localLost ∧ (bootKeys s).disc = s.disc ∧ (bootKeys s).clusters = s.clusters ∧ (bootKeys s).engines = s.engines ∧ (bootKeys s).regionTemp = s.regionTemp ∧ (bootKeys s).lanes = s.lanes ∧ (bootKeys s).modes = s.modes ∧ (bootKeys s).img = s.img ∧ (bootKeys s).nor = s.nor ∧ (bootKeys s).input = s.input ∧ (bootKeys s).vauxOk = s.vauxOk ∧ (bootKeys s).power = s.power ∧ (bootKeys s).pd = s.pd ∧ (bootKeys s).ptp = s.ptp ∧ (bootKeys s).devices = s.devices ∧ (bootKeys s).eth = s.eth ∧ (bootKeys s).prp = s.prp ∧ (bootKeys s).pcie = s.pcie ∧ (bootKeys s).timelines = s.timelines ∧ (bootKeys s).cvis = s.cvis ∧ (bootKeys s).cviews = s.cviews ∧ (bootKeys s).cports = s.cports ∧ (bootKeys s).ligs = s.ligs ∧ (bootKeys s).func = s.func ∧ (bootKeys s).pins = s.pins := by
  generalize h : bootKeys s = t; unfold bootKeys at h; dsimp only at h; (repeat' split at h) <;> (subst h; simp [*, reportRefusals_keeps _ _, setSeal_keeps _ _])

theorem applySetting_keeps (s : State) (e : Nat × Word) : KeepsBoard (applySetting s e) s ∧ KeepsHosts (applySetting s e) s ∧ (applySetting s e).out = s.out ∧ (applySetting s e).freeCtr = s.freeCtr ∧ (applySetting s e).limits = s.limits ∧ (applySetting s e).rcSpi = s.rcSpi ∧ (applySetting s e).rcPf = s.rcPf ∧ (applySetting s e).pal = s.pal ∧ (applySetting s e).margin = s.margin ∧ (applySetting s e).modes = s.modes ∧ (applySetting s e).blot = s.blot ∧ (applySetting s e).power = s.power ∧ (applySetting s e).pd = s.pd ∧ (applySetting s e).devices = s.devices ∧ (applySetting s e).pcie = s.pcie ∧ (applySetting s e).cvis = s.cvis ∧ (applySetting s e).cviews = s.cviews ∧ (applySetting s e).cports = s.cports ∧ (applySetting s e).ligs = s.ligs ∧ (applySetting s e).func = s.func := by
  generalize h : applySetting s e = t; unfold applySetting at h; (repeat' split at h) <;> (subst h; simp [*, setReg_keeps _ _ _])

theorem bootCurve_keeps (old : State) (xs : List (Nat × Word)) (s : State) (p : PowerPath) : KeepsHosts (bootCurve old xs s p) s ∧ (bootCurve old xs s p).now = s.now ∧ (bootCurve old xs s p).pending = s.pending ∧ (bootCurve old xs s p).out = s.out ∧ (bootCurve old xs s p).freeCtr = s.freeCtr ∧ (bootCurve old xs s p).limits = s.limits ∧ (bootCurve old xs s p).folioOn = s.folioOn ∧ (bootCurve old xs s p).strokeBase = s.strokeBase ∧ (bootCurve old xs s p).resyncAt = s.resyncAt ∧ (bootCurve old xs s p).pairs = s.pairs ∧ (bootCurve old xs s p).writes = s.writes ∧ (bootCurve old xs s p).staged = s.staged ∧ (bootCurve old xs s p).rubric = s.rubric ∧ (bootCurve old xs s p).trustBySpi = s.trustBySpi ∧ (bootCurve old xs s p).trustConfigured = s.trustConfigured ∧ (bootCurve old xs s p).link = s.link ∧ (bootCurve old xs s p).localEvents = s.localEvents ∧ (bootCurve old xs s p).localLost = s.localLost ∧ (bootCurve old xs s p).margin = s.margin ∧ (bootCurve old xs s p).disc = s.disc ∧ (bootCurve old xs s p).clusters = s.clusters ∧ (bootCurve old xs s p).engines = s.engines ∧ (bootCurve old xs s p).regionTemp = s.regionTemp ∧ (bootCurve old xs s p).lanes = s.lanes ∧ (bootCurve old xs s p).modes = s.modes ∧ (bootCurve old xs s p).img = s.img ∧ (bootCurve old xs s p).nor = s.nor ∧ (bootCurve old xs s p).blot = s.blot ∧ (bootCurve old xs s p).sealUnit = s.sealUnit ∧ (bootCurve old xs s p).vauxOk = s.vauxOk ∧ (bootCurve old xs s p).pd = s.pd ∧ (bootCurve old xs s p).ptp = s.ptp ∧ (bootCurve old xs s p).devices = s.devices ∧ (bootCurve old xs s p).eth = s.eth ∧ (bootCurve old xs s p).prp = s.prp ∧ (bootCurve old xs s p).pcie = s.pcie ∧ (bootCurve old xs s p).timelines = s.timelines ∧ (bootCurve old xs s p).cvis = s.cvis ∧ (bootCurve old xs s p).cviews = s.cviews ∧ (bootCurve old xs s p).cports = s.cports ∧ (bootCurve old xs s p).ligs = s.ligs ∧ (bootCurve old xs s p).func = s.func ∧ (bootCurve old xs s p).pins = s.pins := by
  generalize h : bootCurve old xs s p = t; unfold bootCurve at h; dsimp only at h; (repeat' split at h) <;> (subst h; simp [*, curveRefused_keeps _ _, setCurveBad_keeps _ _ _, setReg_keeps _ _ _])

theorem applySettings_keeps (s : State) (xs : List (Nat × Word)) : KeepsHosts (applySettings s xs) s ∧ (applySettings s xs).now = s.now ∧ (applySettings s xs).pending = s.pending ∧ (applySettings s xs).out = s.out ∧ (applySettings s xs).freeCtr = s.freeCtr ∧ (applySettings s xs).limits = s.limits ∧ (applySettings s xs).folioOn = s.folioOn ∧ (applySettings s xs).strokeBase = s.strokeBase ∧ (applySettings s xs).resyncAt = s.resyncAt ∧ (applySettings s xs).pairs = s.pairs ∧ (applySettings s xs).writes = s.writes ∧ (applySettings s xs).staged = s.staged ∧ (applySettings s xs).rubric = s.rubric ∧ (applySettings s xs).trustBySpi = s.trustBySpi ∧ (applySettings s xs).trustConfigured = s.trustConfigured ∧ (applySettings s xs).link = s.link ∧ (applySettings s xs).localEvents = s.localEvents ∧ (applySettings s xs).localLost = s.localLost ∧ (applySettings s xs).margin = s.margin ∧ (applySettings s xs).disc = s.disc ∧ (applySettings s xs).clusters = s.clusters ∧ (applySettings s xs).engines = s.engines ∧ (applySettings s xs).regionTemp = s.regionTemp ∧ (applySettings s xs).lanes = s.lanes ∧ (applySettings s xs).modes = s.modes ∧ (applySettings s xs).img = s.img ∧ (applySettings s xs).nor = s.nor ∧ (applySettings s xs).blot = s.blot ∧ (applySettings s xs).sealUnit = s.sealUnit ∧ (applySettings s xs).vauxOk = s.vauxOk ∧ (applySettings s xs).pd = s.pd ∧ (applySettings s xs).ptp = s.ptp ∧ (applySettings s xs).devices = s.devices ∧ (applySettings s xs).eth = s.eth ∧ (applySettings s xs).prp = s.prp ∧ (applySettings s xs).pcie = s.pcie ∧ (applySettings s xs).timelines = s.timelines ∧ (applySettings s xs).cvis = s.cvis ∧ (applySettings s xs).cviews = s.cviews ∧ (applySettings s xs).cports = s.cports ∧ (applySettings s xs).ligs = s.ligs ∧ (applySettings s xs).func = s.func ∧ (applySettings s xs).pins = s.pins := by
  simp [applySettings, applySetting_keeps _ _, bootCurve_keeps _ _ _ _]

theorem commitEpochOne_keeps (s : State) : (commitEpochOne s).now = s.now ∧ (commitEpochOne s).pending = s.pending ∧ (commitEpochOne s).folioOn = s.folioOn ∧ (commitEpochOne s).strokeBase = s.strokeBase ∧ (commitEpochOne s).resyncAt = s.resyncAt ∧ (commitEpochOne s).regs = s.regs ∧ (commitEpochOne s).pairs = s.pairs ∧ (commitEpochOne s).writes = s.writes ∧ (commitEpochOne s).staged = s.staged ∧ (commitEpochOne s).trustBySpi = s.trustBySpi ∧ (commitEpochOne s).link = s.link ∧ (commitEpochOne s).localEvents = s.localEvents ∧ (commitEpochOne s).localLost = s.localLost ∧ (commitEpochOne s).disc = s.disc ∧ (commitEpochOne s).clusters = s.clusters ∧ (commitEpochOne s).engines = s.engines ∧ (commitEpochOne s).regionTemp = s.regionTemp ∧ (commitEpochOne s).lanes = s.lanes ∧ (commitEpochOne s).modes = s.modes ∧ (commitEpochOne s).img = s.img ∧ (commitEpochOne s).nor = s.nor ∧ (commitEpochOne s).blot = s.blot ∧ (commitEpochOne s).sealUnit = s.sealUnit ∧ (commitEpochOne s).input = s.input ∧ (commitEpochOne s).vauxOk = s.vauxOk ∧ (commitEpochOne s).eth = s.eth ∧ (commitEpochOne s).prp = s.prp ∧ (commitEpochOne s).timelines = s.timelines ∧ (commitEpochOne s).pins = s.pins := by
  simp [commitEpochOne, barCheck_keeps _ _, draw_keeps _, evalMinOver_keeps _, publish_keeps _, record_keeps _ _ _ _ _ _ _, serviceCheck_keeps _, setRubric_keeps _ _]

theorem bootConfig_keeps (s : State) : (bootConfig s).now = s.now ∧ (bootConfig s).pending = s.pending ∧ (bootConfig s).folioOn = s.folioOn ∧ (bootConfig s).strokeBase = s.strokeBase ∧ (bootConfig s).resyncAt = s.resyncAt ∧ (bootConfig s).pairs = s.pairs ∧ (bootConfig s).writes = s.writes ∧ (bootConfig s).staged = s.staged ∧ (bootConfig s).trustBySpi = s.trustBySpi ∧ (bootConfig s).link = s.link ∧ (bootConfig s).localEvents = s.localEvents ∧ (bootConfig s).localLost = s.localLost ∧ (bootConfig s).disc = s.disc ∧ (bootConfig s).clusters = s.clusters ∧ (bootConfig s).engines = s.engines ∧ (bootConfig s).regionTemp = s.regionTemp ∧ (bootConfig s).lanes = s.lanes ∧ (bootConfig s).img = s.img ∧ (bootConfig s).nor = s.nor ∧ (bootConfig s).sealUnit = s.sealUnit ∧ (bootConfig s).vauxOk = s.vauxOk ∧ (bootConfig s).eth = s.eth ∧ (bootConfig s).prp = s.prp ∧ (bootConfig s).timelines = s.timelines ∧ (bootConfig s).pins = s.pins := by
  generalize h : bootConfig s = t; unfold bootConfig at h; (repeat' split at h) <;> (subst h; simp [*, applySettings_keeps _ _, commitEpochOne_keeps _, marker_keeps _ _ _ _, reportRefusals_keeps _ _])

theorem bootLoad_keeps (s : State) : (bootLoad s).now = s.now ∧ (bootLoad s).pending = s.pending ∧ (bootLoad s).folioOn = s.folioOn ∧ (bootLoad s).strokeBase = s.strokeBase ∧ (bootLoad s).resyncAt = s.resyncAt ∧ (bootLoad s).pairs = s.pairs ∧ (bootLoad s).writes = s.writes ∧ (bootLoad s).staged = s.staged ∧ (bootLoad s).trustBySpi = s.trustBySpi ∧ (bootLoad s).link = s.link ∧ (bootLoad s).localEvents = s.localEvents ∧ (bootLoad s).localLost = s.localLost ∧ (bootLoad s).disc = s.disc ∧ (bootLoad s).regionTemp = s.regionTemp ∧ (bootLoad s).lanes = s.lanes ∧ (bootLoad s).img = s.img ∧ (bootLoad s).nor = s.nor ∧ (bootLoad s).vauxOk = s.vauxOk ∧ (bootLoad s).eth = s.eth ∧ (bootLoad s).prp = s.prp ∧ (bootLoad s).timelines = s.timelines ∧ (bootLoad s).pins = s.pins := by
  generalize h : bootLoad s = t; unfold bootLoad at h; dsimp only at h; (repeat' split at h) <;> (subst h; simp [*, bootConfig_keeps _, bootEngines_keeps _ _, bootHold_keeps _ _, bootKeys_keeps _, bootScan_keeps _, reportRefusals_keeps _ _, setSeal_keeps _ _, takeDirectory_keeps _ _ _])

theorem takeNor_keeps (s : State) (nor : Option NorView) : KeepsPorts (takeNor s nor) s ∧ KeepsHosts (takeNor s nor) s ∧ (takeNor s nor).now = s.now ∧ (takeNor s nor).pending = s.pending ∧ (takeNor s nor).out = s.out ∧ (takeNor s nor).limits = s.limits ∧ (takeNor s nor).folioOn = s.folioOn ∧ (takeNor s nor).strokeBase = s.strokeBase ∧ (takeNor s nor).resyncAt = s.resyncAt ∧ (takeNor s nor).rcSpi = s.rcSpi ∧ (takeNor s nor).rcPf = s.rcPf ∧ (takeNor s nor).pairs = s.pairs ∧ (takeNor s nor).writes = s.writes ∧ (takeNor s nor).staged = s.staged ∧ (takeNor s nor).rubric = s.rubric ∧ (takeNor s nor).trustBySpi = s.trustBySpi ∧ (takeNor s nor).trustConfigured = s.trustConfigured ∧ (takeNor s nor).link = s.link ∧ (takeNor s nor).localEvents = s.localEvents ∧ (takeNor s nor).localLost = s.localLost ∧ (takeNor s nor).pal = s.pal ∧ (takeNor s nor).margin = s.margin ∧ (takeNor s nor).disc = s.disc ∧ (takeNor s nor).clusters = s.clusters ∧ (takeNor s nor).engines = s.engines ∧ (takeNor s nor).regionTemp = s.regionTemp ∧ (takeNor s nor).lanes = s.lanes ∧ (takeNor s nor).img = s.img ∧ (takeNor s nor).sealUnit = s.sealUnit ∧ (takeNor s nor).input = s.input ∧ (takeNor s nor).vauxOk = s.vauxOk ∧ (takeNor s nor).ptp = s.ptp ∧ (takeNor s nor).eth = s.eth ∧ (takeNor s nor).prp = s.prp ∧ (takeNor s nor).pcie = s.pcie ∧ (takeNor s nor).timelines = s.timelines ∧ (takeNor s nor).pins = s.pins := by
  generalize h : takeNor s nor = t; unfold takeNor at h; (repeat' split at h) <;> (subst h; simp [*])

theorem linkCause_keeps (s : State) : KeepsBoard (linkCause s) s ∧ KeepsHosts (linkCause s) s ∧ (linkCause s).out = s.out ∧ (linkCause s).freeCtr = s.freeCtr ∧ (linkCause s).limits = s.limits ∧ (linkCause s).regs = s.regs ∧ (linkCause s).rcSpi = s.rcSpi ∧ (linkCause s).rcPf = s.rcPf ∧ (linkCause s).pal = s.pal ∧ (linkCause s).margin = s.margin ∧ (linkCause s).modes = s.modes ∧ (linkCause s).power = s.power ∧ (linkCause s).pd = s.pd ∧ (linkCause s).devices = s.devices ∧ (linkCause s).pcie = s.pcie ∧ (linkCause s).cvis = s.cvis ∧ (linkCause s).cviews = s.cviews ∧ (linkCause s).cports = s.cports ∧ (linkCause s).ligs = s.ligs ∧ (linkCause s).func = s.func := by
  generalize h : linkCause s = t; unfold linkCause at h; (repeat' split at h) <;> (subst h; simp [*])

theorem warmBoot_keeps (s : State) (persist : Bool) (nor : Option NorView) : (warmBoot s persist nor).now = s.now ∧ (warmBoot s persist nor).pending = s.pending ∧ (warmBoot s persist nor).localEvents = s.localEvents ∧ (warmBoot s persist nor).localLost = s.localLost ∧ (warmBoot s persist nor).vauxOk = s.vauxOk ∧ (warmBoot s persist nor).pins = s.pins := by
  generalize h : warmBoot s persist nor = t; unfold warmBoot at h; (repeat' split at h) <;> (subst h; simp [*, abandonImage_keeps _, bootLoad_keeps _, decideNow_keeps _, disableOpen_keeps _ _, dropHosts_keeps _, enterMode_keeps _ _, folioReset_keeps _ _, linkCause_keeps _, persistEverything_keeps _, pushRecord_keeps _ _, rcCount_keeps _ _ _, takeNor_keeps _ _])

theorem fillBuckets_keeps (s : State) : KeepsBoard (fillBuckets s) s ∧ KeepsPorts (fillBuckets s) s ∧ KeepsHosts (fillBuckets s) s ∧ (fillBuckets s).out = s.out ∧ (fillBuckets s).limits = s.limits ∧ (fillBuckets s).margin = s.margin ∧ (fillBuckets s).pcie = s.pcie := by
  simp [fillBuckets, pushRecord_keeps _ _]

theorem releaseHeld_keeps (s : State) (a0 : HeldFault) : KeepsBoard (releaseHeld s a0) s ∧ (releaseHeld s a0).freeCtr = s.freeCtr ∧ (releaseHeld s a0).regs = s.regs ∧ (releaseHeld s a0).ligs = s.ligs ∧ (releaseHeld s a0).func = s.func := by
  generalize h : releaseHeld s a0 = t; unfold releaseHeld at h; (repeat' split at h) <;> (subst h; simp [*, enterQuarantine_keeps _ _ _, faultReport_keeps _ _ _ _ _, recordAt_keeps _ _ _ _ _ _ _ _, reportInputFet_keeps _, reportPortFet_keeps _ _])

theorem startPeriods_keeps (s : State) : KeepsBoard (startPeriods s) s ∧ (startPeriods s).out = s.out ∧ (startPeriods s).freeCtr = s.freeCtr ∧ (startPeriods s).limits = s.limits ∧ (startPeriods s).regs = s.regs ∧ (startPeriods s).rcSpi = s.rcSpi ∧ (startPeriods s).rcPf = s.rcPf ∧ (startPeriods s).power = s.power ∧ (startPeriods s).pd = s.pd ∧ (startPeriods s).own = s.own ∧ (startPeriods s).vis = s.vis ∧ (startPeriods s).devices = s.devices ∧ (startPeriods s).eps = s.eps ∧ (startPeriods s).qps = s.qps ∧ (startPeriods s).pcie = s.pcie ∧ (startPeriods s).ink = s.ink ∧ (startPeriods s).cvis = s.cvis ∧ (startPeriods s).cviews = s.cviews ∧ (startPeriods s).cports = s.cports ∧ (startPeriods s).ligs = s.ligs ∧ (startPeriods s).func = s.func := by
  simp [startPeriods]

theorem leaveBoot_keeps (s : State) : KeepsBoard (leaveBoot s) s ∧ (leaveBoot s).freeCtr = s.freeCtr ∧ (leaveBoot s).regs = s.regs ∧ (leaveBoot s).ligs = s.ligs := by
  generalize h : leaveBoot s = t; unfold leaveBoot at h; (repeat' split at h) <;> (subst h; simp [*, applyPortModes_keeps _ _ _, brownoutSheds_keeps _, enterBrownout_keeps _, enterMode_keeps _ _, flushAfterSheds_keeps _, heatCause_keeps _, homeStampAll_keeps _, passCause_keeps _, presentRp_keeps _ _, recomputeShares_keeps _])

theorem bootEnd_keeps (s : State) : KeepsBoard (bootEnd s) s ∧ (bootEnd s).regs = s.regs ∧ (bootEnd s).ligs = s.ligs := by
  simp [bootEnd, draw_keeps _, fillBuckets_keeps _, leaveBoot_keeps _, releaseHeld_keeps _ _, startPeriods_keeps _]

end Sys2Proof.Machine
end

