-- ==== Sys2Proof/Laws/FrameHostCmds.lean ====
section
/-! SUPPORT. What the operations of Machine/HostCmds.lean leave as it was: one lemma for each, over every input, and over every outcome of it.
A proof names the ones it needs, each applied: simp [op_keeps _ _] rewrites every field that op leaves. -/

namespace Sys2Proof.Machine

theorem markStarted_keeps (s : State) (v : RingId) (slot : Nat) : KeepsBoard (markStarted s v slot) s ∧ KeepsPorts (markStarted s v slot) s ∧ (markStarted s v slot).out = s.out ∧ (markStarted s v slot).limits = s.limits ∧ (markStarted s v slot).rcSpi = s.rcSpi ∧ (markStarted s v slot).rcPf = s.rcPf ∧ (markStarted s v slot).pal = s.pal ∧ (markStarted s v slot).margin = s.margin ∧ (markStarted s v slot).own = s.own ∧ (markStarted s v slot).eps = s.eps ∧ (markStarted s v slot).nibs = s.nibs ∧ (markStarted s v slot).qps = s.qps ∧ (markStarted s v slot).pcie = s.pcie ∧ (markStarted s v slot).ink = s.ink := by
  simp [markStarted, setVi_keeps _ _ _]

@[simp] theorem startOn_now (s : State) (v : RingId) (e : CmdEntry) (f : State → CmdEntry → PortId → State) (hf : ∀ f0 f1 f2, (f f0 f1 f2).now = f0.now) : (startOn s v e f).now = s.now := by
  simp [startOn, finishCmd_keeps _ _ _ _ _ _, markStarted_keeps _ _ _, *]

@[simp] theorem startOn_pending (s : State) (v : RingId) (e : CmdEntry) (f : State → CmdEntry → PortId → State) (hf : ∀ f0 f1 f2, (f f0 f1 f2).pending = f0.pending) : (startOn s v e f).pending = s.pending := by
  simp [startOn, finishCmd_keeps _ _ _ _ _ _, markStarted_keeps _ _ _, *]

@[simp] theorem startOn_freeCtr (s : State) (v : RingId) (e : CmdEntry) (f : State → CmdEntry → PortId → State) (hf : ∀ f0 f1 f2, (f f0 f1 f2).freeCtr = f0.freeCtr) : (startOn s v e f).freeCtr = s.freeCtr := by
  simp [startOn, finishCmd_keeps _ _ _ _ _ _, markStarted_keeps _ _ _, *]

@[simp] theorem startOn_folioOn (s : State) (v : RingId) (e : CmdEntry) (f : State → CmdEntry → PortId → State) (hf : ∀ f0 f1 f2, (f f0 f1 f2).folioOn = f0.folioOn) : (startOn s v e f).folioOn = s.folioOn := by
  simp [startOn, finishCmd_keeps _ _ _ _ _ _, markStarted_keeps _ _ _, *]

@[simp] theorem startOn_strokeBase (s : State) (v : RingId) (e : CmdEntry) (f : State → CmdEntry → PortId → State) (hf : ∀ f0 f1 f2, (f f0 f1 f2).strokeBase = f0.strokeBase) : (startOn s v e f).strokeBase = s.strokeBase := by
  simp [startOn, finishCmd_keeps _ _ _ _ _ _, markStarted_keeps _ _ _, *]

@[simp] theorem startOn_resyncAt (s : State) (v : RingId) (e : CmdEntry) (f : State → CmdEntry → PortId → State) (hf : ∀ f0 f1 f2, (f f0 f1 f2).resyncAt = f0.resyncAt) : (startOn s v e f).resyncAt = s.resyncAt := by
  simp [startOn, finishCmd_keeps _ _ _ _ _ _, markStarted_keeps _ _ _, *]

@[simp] theorem startOn_regs (s : State) (v : RingId) (e : CmdEntry) (f : State → CmdEntry → PortId → State) (hf : ∀ f0 f1 f2, (f f0 f1 f2).regs = f0.regs) : (startOn s v e f).regs = s.regs := by
  simp [startOn, finishCmd_keeps _ _ _ _ _ _, markStarted_keeps _ _ _, *]

@[simp] theorem startOn_pairs (s : State) (v : RingId) (e : CmdEntry) (f : State → CmdEntry → PortId → State) (hf : ∀ f0 f1 f2, (f f0 f1 f2).pairs = f0.pairs) : (startOn s v e f).pairs = s.pairs := by
  simp [startOn, finishCmd_keeps _ _ _ _ _ _, markStarted_keeps _ _ _, *]

@[simp] theorem startOn_writes (s : State) (v : RingId) (e : CmdEntry) (f : State → CmdEntry → PortId → State) (hf : ∀ f0 f1 f2, (f f0 f1 f2).writes = f0.writes) : (startOn s v e f).writes = s.writes := by
  simp [startOn, finishCmd_keeps _ _ _ _ _ _, markStarted_keeps _ _ _, *]

@[simp] theorem startOn_staged (s : State) (v : RingId) (e : CmdEntry) (f : State → CmdEntry → PortId → State) (hf : ∀ f0 f1 f2, (f f0 f1 f2).staged = f0.staged) : (startOn s v e f).staged = s.staged := by
  simp [startOn, finishCmd_keeps _ _ _ _ _ _, markStarted_keeps _ _ _, *]

@[simp] theorem startOn_rubric (s : State) (v : RingId) (e : CmdEntry) (f : State → CmdEntry → PortId → State) (hf : ∀ f0 f1 f2, (f f0 f1 f2).rubric = f0.rubric) : (startOn s v e f).rubric = s.rubric := by
  simp [startOn, finishCmd_keeps _ _ _ _ _ _, markStarted_keeps _ _ _, *]

@[simp] theorem startOn_trustBySpi (s : State) (v : RingId) (e : CmdEntry) (f : State → CmdEntry → PortId → State) (hf : ∀ f0 f1 f2, (f f0 f1 f2).trustBySpi = f0.trustBySpi) : (startOn s v e f).trustBySpi = s.trustBySpi := by
  simp [startOn, finishCmd_keeps _ _ _ _ _ _, markStarted_keeps _ _ _, *]

@[simp] theorem startOn_trustConfigured (s : State) (v : RingId) (e : CmdEntry) (f : State → CmdEntry → PortId → State) (hf : ∀ f0 f1 f2, (f f0 f1 f2).trustConfigured = f0.trustConfigured) : (startOn s v e f).trustConfigured = s.trustConfigured := by
  simp [startOn, finishCmd_keeps _ _ _ _ _ _, markStarted_keeps _ _ _, *]

@[simp] theorem startOn_link (s : State) (v : RingId) (e : CmdEntry) (f : State → CmdEntry → PortId → State) (hf : ∀ f0 f1 f2, (f f0 f1 f2).link = f0.link) : (startOn s v e f).link = s.link := by
  simp [startOn, finishCmd_keeps _ _ _ _ _ _, markStarted_keeps _ _ _, *]

@[simp] theorem startOn_localEvents (s : State) (v : RingId) (e : CmdEntry) (f : State → CmdEntry → PortId → State) (hf : ∀ f0 f1 f2, (f f0 f1 f2).localEvents = f0.localEvents) : (startOn s v e f).localEvents = s.localEvents := by
  simp [startOn, finishCmd_keeps _ _ _ _ _ _, markStarted_keeps _ _ _, *]

@[simp] theorem startOn_localLost (s : State) (v : RingId) (e : CmdEntry) (f : State → CmdEntry → PortId → State) (hf : ∀ f0 f1 f2, (f f0 f1 f2).localLost = f0.localLost) : (startOn s v e f).localLost = s.localLost := by
  simp [startOn, finishCmd_keeps _ _ _ _ _ _, markStarted_keeps _ _ _, *]

@[simp] theorem startOn_disc (s : State) (v : RingId) (e : CmdEntry) (f : State → CmdEntry → PortId → State) (hf : ∀ f0 f1 f2, (f f0 f1 f2).disc = f0.disc) : (startOn s v e f).disc = s.disc := by
  simp [startOn, finishCmd_keeps _ _ _ _ _ _, markStarted_keeps _ _ _, *]

@[simp] theorem startOn_clusters (s : State) (v : RingId) (e : CmdEntry) (f : State → CmdEntry → PortId → State) (hf : ∀ f0 f1 f2, (f f0 f1 f2).clusters = f0.clusters) : (startOn s v e f).clusters = s.clusters := by
  simp [startOn, finishCmd_keeps _ _ _ _ _ _, markStarted_keeps _ _ _, *]

@[simp] theorem startOn_engines (s : State) (v : RingId) (e : CmdEntry) (f : State → CmdEntry → PortId → State) (hf : ∀ f0 f1 f2, (f f0 f1 f2).engines = f0.engines) : (startOn s v e f).engines = s.engines := by
  simp [startOn, finishCmd_keeps _ _ _ _ _ _, markStarted_keeps _ _ _, *]

@[simp] theorem startOn_regionTemp (s : State) (v : RingId) (e : CmdEntry) (f : State → CmdEntry → PortId → State) (hf : ∀ f0 f1 f2, (f f0 f1 f2).regionTemp = f0.regionTemp) : (startOn s v e f).regionTemp = s.regionTemp := by
  simp [startOn, finishCmd_keeps _ _ _ _ _ _, markStarted_keeps _ _ _, *]

@[simp] theorem startOn_lanes (s : State) (v : RingId) (e : CmdEntry) (f : State → CmdEntry → PortId → State) (hf : ∀ f0 f1 f2, (f f0 f1 f2).lanes = f0.lanes) : (startOn s v e f).lanes = s.lanes := by
  simp [startOn, finishCmd_keeps _ _ _ _ _ _, markStarted_keeps _ _ _, *]

@[simp] theorem startOn_modes (s : State) (v : RingId) (e : CmdEntry) (f : State → CmdEntry → PortId → State) (hf : ∀ f0 f1 f2, (f f0 f1 f2).modes = f0.modes) : (startOn s v e f).modes = s.modes := by
  simp [startOn, finishCmd_keeps _ _ _ _ _ _, markStarted_keeps _ _ _, *]

@[simp] theorem startOn_img (s : State) (v : RingId) (e : CmdEntry) (f : State → CmdEntry → PortId → State) (hf : ∀ f0 f1 f2, (f f0 f1 f2).img = f0.img) : (startOn s v e f).img = s.img := by
  simp [startOn, finishCmd_keeps _ _ _ _ _ _, markStarted_keeps _ _ _, *]

@[simp] theorem startOn_nor (s : State) (v : RingId) (e : CmdEntry) (f : State → CmdEntry → PortId → State) (hf : ∀ f0 f1 f2, (f f0 f1 f2).nor = f0.nor) : (startOn s v e f).nor = s.nor := by
  simp [startOn, finishCmd_keeps _ _ _ _ _ _, markStarted_keeps _ _ _, *]

@[simp] theorem startOn_blot (s : State) (v : RingId) (e : CmdEntry) (f : State → CmdEntry → PortId → State) (hf : ∀ f0 f1 f2, (f f0 f1 f2).blot = f0.blot) : (startOn s v e f).blot = s.blot := by
  simp [startOn, finishCmd_keeps _ _ _ _ _ _, markStarted_keeps _ _ _, *]

@[simp] theorem startOn_sealUnit (s : State) (v : RingId) (e : CmdEntry) (f : State → CmdEntry → PortId → State) (hf : ∀ f0 f1 f2, (f f0 f1 f2).sealUnit = f0.sealUnit) : (startOn s v e f).sealUnit = s.sealUnit := by
  simp [startOn, finishCmd_keeps _ _ _ _ _ _, markStarted_keeps _ _ _, *]

@[simp] theorem startOn_input (s : State) (v : RingId) (e : CmdEntry) (f : State → CmdEntry → PortId → State) (hf : ∀ f0 f1 f2, (f f0 f1 f2).input = f0.input) : (startOn s v e f).input = s.input := by
  simp [startOn, finishCmd_keeps _ _ _ _ _ _, markStarted_keeps _ _ _, *]

@[simp] theorem startOn_vauxOk (s : State) (v : RingId) (e : CmdEntry) (f : State → CmdEntry → PortId → State) (hf : ∀ f0 f1 f2, (f f0 f1 f2).vauxOk = f0.vauxOk) : (startOn s v e f).vauxOk = s.vauxOk := by
  simp [startOn, finishCmd_keeps _ _ _ _ _ _, markStarted_keeps _ _ _, *]

@[simp] theorem startOn_power (s : State) (v : RingId) (e : CmdEntry) (f : State → CmdEntry → PortId → State) (hf : ∀ f0 f1 f2, (f f0 f1 f2).power = f0.power) : (startOn s v e f).power = s.power := by
  simp [startOn, finishCmd_keeps _ _ _ _ _ _, markStarted_keeps _ _ _, *]

@[simp] theorem startOn_pd (s : State) (v : RingId) (e : CmdEntry) (f : State → CmdEntry → PortId → State) (hf : ∀ f0 f1 f2, (f f0 f1 f2).pd = f0.pd) : (startOn s v e f).pd = s.pd := by
  simp [startOn, finishCmd_keeps _ _ _ _ _ _, markStarted_keeps _ _ _, *]

@[simp] theorem startOn_ptp (s : State) (v : RingId) (e : CmdEntry) (f : State → CmdEntry → PortId → State) (hf : ∀ f0 f1 f2, (f f0 f1 f2).ptp = f0.ptp) : (startOn s v e f).ptp = s.ptp := by
  simp [startOn, finishCmd_keeps _ _ _ _ _ _, markStarted_keeps _ _ _, *]

@[simp] theorem startOn_own (s : State) (v : RingId) (e : CmdEntry) (f : State → CmdEntry → PortId → State) (hf : ∀ f0 f1 f2, (f f0 f1 f2).own = f0.own) : (startOn s v e f).own = s.own := by
  simp [startOn, finishCmd_keeps _ _ _ _ _ _, markStarted_keeps _ _ _, *]

@[simp] theorem startOn_devices (s : State) (v : RingId) (e : CmdEntry) (f : State → CmdEntry → PortId → State) (hf : ∀ f0 f1 f2, (f f0 f1 f2).devices = f0.devices) : (startOn s v e f).devices = s.devices := by
  simp [startOn, finishCmd_keeps _ _ _ _ _ _, markStarted_keeps _ _ _, *]

@[simp] theorem startOn_eps (s : State) (v : RingId) (e : CmdEntry) (f : State → CmdEntry → PortId → State) (hf : ∀ f0 f1 f2, (f f0 f1 f2).eps = f0.eps) : (startOn s v e f).eps = s.eps := by
  simp [startOn, finishCmd_keeps _ _ _ _ _ _, markStarted_keeps _ _ _, *]

@[simp] theorem startOn_nibs (s : State) (v : RingId) (e : CmdEntry) (f : State → CmdEntry → PortId → State) (hf : ∀ f0 f1 f2, (f f0 f1 f2).nibs = f0.nibs) : (startOn s v e f).nibs = s.nibs := by
  simp [startOn, finishCmd_keeps _ _ _ _ _ _, markStarted_keeps _ _ _, *]

@[simp] theorem startOn_eth (s : State) (v : RingId) (e : CmdEntry) (f : State → CmdEntry → PortId → State) (hf : ∀ f0 f1 f2, (f f0 f1 f2).eth = f0.eth) : (startOn s v e f).eth = s.eth := by
  simp [startOn, finishCmd_keeps _ _ _ _ _ _, markStarted_keeps _ _ _, *]

@[simp] theorem startOn_prp (s : State) (v : RingId) (e : CmdEntry) (f : State → CmdEntry → PortId → State) (hf : ∀ f0 f1 f2, (f f0 f1 f2).prp = f0.prp) : (startOn s v e f).prp = s.prp := by
  simp [startOn, finishCmd_keeps _ _ _ _ _ _, markStarted_keeps _ _ _, *]

@[simp] theorem startOn_timelines (s : State) (v : RingId) (e : CmdEntry) (f : State → CmdEntry → PortId → State) (hf : ∀ f0 f1 f2, (f f0 f1 f2).timelines = f0.timelines) : (startOn s v e f).timelines = s.timelines := by
  simp [startOn, finishCmd_keeps _ _ _ _ _ _, markStarted_keeps _ _ _, *]

@[simp] theorem startOn_cvis (s : State) (v : RingId) (e : CmdEntry) (f : State → CmdEntry → PortId → State) (hf : ∀ f0 f1 f2, (f f0 f1 f2).cvis = f0.cvis) : (startOn s v e f).cvis = s.cvis := by
  simp [startOn, finishCmd_keeps _ _ _ _ _ _, markStarted_keeps _ _ _, *]

@[simp] theorem startOn_cviews (s : State) (v : RingId) (e : CmdEntry) (f : State → CmdEntry → PortId → State) (hf : ∀ f0 f1 f2, (f f0 f1 f2).cviews = f0.cviews) : (startOn s v e f).cviews = s.cviews := by
  simp [startOn, finishCmd_keeps _ _ _ _ _ _, markStarted_keeps _ _ _, *]

@[simp] theorem startOn_cports (s : State) (v : RingId) (e : CmdEntry) (f : State → CmdEntry → PortId → State) (hf : ∀ f0 f1 f2, (f f0 f1 f2).cports = f0.cports) : (startOn s v e f).cports = s.cports := by
  simp [startOn, finishCmd_keeps _ _ _ _ _ _, markStarted_keeps _ _ _, *]

@[simp] theorem startOn_ligs (s : State) (v : RingId) (e : CmdEntry) (f : State → CmdEntry → PortId → State) (hf : ∀ f0 f1 f2, (f f0 f1 f2).ligs = f0.ligs) : (startOn s v e f).ligs = s.ligs := by
  simp [startOn, finishCmd_keeps _ _ _ _ _ _, markStarted_keeps _ _ _, *]

@[simp] theorem startOn_func (s : State) (v : RingId) (e : CmdEntry) (f : State → CmdEntry → PortId → State) (hf : ∀ f0 f1 f2, (f f0 f1 f2).func = f0.func) : (startOn s v e f).func = s.func := by
  simp [startOn, finishCmd_keeps _ _ _ _ _ _, markStarted_keeps _ _ _, *]

@[simp] theorem startOn_pins (s : State) (v : RingId) (e : CmdEntry) (f : State → CmdEntry → PortId → State) (hf : ∀ f0 f1 f2, (f f0 f1 f2).pins = f0.pins) : (startOn s v e f).pins = s.pins := by
  simp [startOn, finishCmd_keeps _ _ _ _ _ _, markStarted_keeps _ _ _, *]

theorem resetPort_keeps (s : State) (v : RingId) (e : CmdEntry) (n : PortId) (warm : Bool) : KeepsBoard (resetPort s v e n warm) s ∧ (resetPort s v e n warm).freeCtr = s.freeCtr ∧ (resetPort s v e n warm).regs = s.regs ∧ (resetPort s v e n warm).modes = s.modes ∧ (resetPort s v e n warm).blot = s.blot ∧ (resetPort s v e n warm).power = s.power ∧ (resetPort s v e n warm).pd = s.pd ∧ (resetPort s v e n warm).cvis = s.cvis ∧ (resetPort s v e n warm).cviews = s.cviews ∧ (resetPort s v e n warm).cports = s.cports ∧ (resetPort s v e n warm).ligs = s.ligs ∧ (resetPort s v e n warm).func = s.func := by
  generalize h : resetPort s v e n warm = t; unfold resetPort at h; (repeat' split at h) <;> (subst h; simp [*, finishCmd_keeps _ _ _ _ _ _, releaseTree_keeps _ _ _ _, resetBoth_keeps _ _ _, setNib_keeps _ _ _])

theorem suspendPort_keeps (s : State) (v : RingId) (e : CmdEntry) (n : PortId) : KeepsBoard (suspendPort s v e n) s ∧ KeepsPorts (suspendPort s v e n) s ∧ (suspendPort s v e n).own = s.own := by
  generalize h : suspendPort s v e n = t; unfold suspendPort at h; dsimp only at h; (repeat' split at h) <;> (subst h; simp [*, finishCmd_keeps _ _ _ _ _ _, setNib_keeps _ _ _, treeSuspend_keeps _ _])

theorem suspendDone_keeps (s : State) (n : PortId) (u3 : Bool) : KeepsBoard (suspendDone s n u3) s ∧ KeepsPorts (suspendDone s n u3) s ∧ (suspendDone s n u3).own = s.own ∧ (suspendDone s n u3).eps = s.eps := by
  generalize h : suspendDone s n u3 = t; unfold suspendDone at h; dsimp only at h; (repeat' split at h) <;> (subst h; simp [*, finishCmd_keeps _ _ _ _ _ _, portStateNotice_keeps _ _ _ _ _, setNib_keeps _ _ _])

theorem resumeDone_keeps (s : State) (n : PortId) : KeepsBoard (resumeDone s n) s ∧ (resumeDone s n).freeCtr = s.freeCtr ∧ (resumeDone s n).regs = s.regs ∧ (resumeDone s n).modes = s.modes ∧ (resumeDone s n).blot = s.blot ∧ (resumeDone s n).power = s.power ∧ (resumeDone s n).pd = s.pd ∧ (resumeDone s n).own = s.own ∧ (resumeDone s n).devices = s.devices ∧ (resumeDone s n).cvis = s.cvis ∧ (resumeDone s n).cports = s.cports ∧ (resumeDone s n).ligs = s.ligs ∧ (resumeDone s n).func = s.func := by
  generalize h : resumeDone s n = t; unfold resumeDone at h; dsimp only at h; (repeat' split at h) <;> (subst h; simp [*, finishCmd_keeps _ _ _ _ _ _, hubResumed_keeps _ _, notice_keeps _ _ _ _ _ _ _, portStateNotice_keeps _ _ _ _ _, refreshAges_keeps _, setNib_keeps _ _ _, treeSuspend_keeps _ _])

theorem addressDone_keeps (s : State) (n : PortId) (a : Addressing) : KeepsBoard (addressDone s n a) s ∧ (addressDone s n a).freeCtr = s.freeCtr ∧ (addressDone s n a).regs = s.regs ∧ (addressDone s n a).modes = s.modes ∧ (addressDone s n a).blot = s.blot ∧ (addressDone s n a).power = s.power ∧ (addressDone s n a).pd = s.pd ∧ (addressDone s n a).own = s.own ∧ (addressDone s n a).cvis = s.cvis ∧ (addressDone s n a).cviews = s.cviews ∧ (addressDone s n a).cports = s.cports ∧ (addressDone s n a).ligs = s.ligs ∧ (addressDone s n a).func = s.func := by
  simp [addressDone, finishCmd_keeps _ _ _ _ _ _, setNib_keeps _ _ _]

theorem configureEp_keeps (s : State) (v : RingId) (e : CmdEntry) (n : PortId) : KeepsBoard (configureEp s v e n) s ∧ (configureEp s v e n).regs = s.regs ∧ (configureEp s v e n).modes = s.modes ∧ (configureEp s v e n).blot = s.blot ∧ (configureEp s v e n).power = s.power ∧ (configureEp s v e n).pd = s.pd ∧ (configureEp s v e n).own = s.own ∧ (configureEp s v e n).devices = s.devices ∧ (configureEp s v e n).nibs = s.nibs ∧ (configureEp s v e n).cvis = s.cvis ∧ (configureEp s v e n).cviews = s.cviews ∧ (configureEp s v e n).cports = s.cports ∧ (configureEp s v e n).ligs = s.ligs ∧ (configureEp s v e n).func = s.func := by
  generalize h : configureEp s v e n = t; unfold configureEp at h; dsimp only at h; (repeat' split at h) <;> (subst h; simp [*, allocCtx_keeps _, finishCmd_keeps _ _ _ _ _ _, refuseAdmission_keeps _ _ _ _ _])

theorem settleIdle_keeps (s : State) (ctx : Nat) : KeepsBoard (settleIdle s ctx) s ∧ KeepsPorts (settleIdle s ctx) s ∧ (settleIdle s ctx).out = s.out ∧ (settleIdle s ctx).limits = s.limits ∧ (settleIdle s ctx).rcSpi = s.rcSpi ∧ (settleIdle s ctx).rcPf = s.rcPf ∧ (settleIdle s ctx).pal = s.pal ∧ (settleIdle s ctx).margin = s.margin ∧ (settleIdle s ctx).own = s.own ∧ (settleIdle s ctx).vis = s.vis ∧ (settleIdle s ctx).eps = s.eps ∧ (settleIdle s ctx).nibs = s.nibs ∧ (settleIdle s ctx).qps = s.qps ∧ (settleIdle s ctx).pcie = s.pcie := by
  generalize h : settleIdle s ctx = t; unfold settleIdle at h; (repeat' split at h) <;> (subst h; simp [*, settleCtx_keeps _ _ _ _])

theorem stopNow_keeps (s : State) (v : RingId) (slot ctx : Nat) (n : PortId) : KeepsBoard (stopNow s v slot ctx n) s ∧ (stopNow s v slot ctx n).regs = s.regs ∧ (stopNow s v slot ctx n).modes = s.modes ∧ (stopNow s v slot ctx n).blot = s.blot ∧ (stopNow s v slot ctx n).power = s.power ∧ (stopNow s v slot ctx n).pd = s.pd ∧ (stopNow s v slot ctx n).own = s.own ∧ (stopNow s v slot ctx n).devices = s.devices ∧ (stopNow s v slot ctx n).cvis = s.cvis ∧ (stopNow s v slot ctx n).cviews = s.cviews ∧ (stopNow s v slot ctx n).cports = s.cports ∧ (stopNow s v slot ctx n).ligs = s.ligs ∧ (stopNow s v slot ctx n).func = s.func := by
  generalize h : stopNow s v slot ctx n = t; unfold stopNow at h; dsimp only at h; (repeat' split at h) <;> (subst h; simp [*, abandonSplit_keeps _ _, draw_keeps _, endAndSettle_keeps _ _ _ _ _, finishCmd_keeps _ _ _ _ _ _, refreshAges_keeps _, setEp_keeps _ _ _, settleIdle_keeps _ _, stopEp_keeps _ _])

theorem replayOne_keeps (s : State) (v : RingId) (c : Completion) : KeepsBoard (replayOne s v c) s ∧ KeepsPorts (replayOne s v c) s ∧ (replayOne s v c).margin = s.margin ∧ (replayOne s v c).own = s.own ∧ (replayOne s v c).eps = s.eps ∧ (replayOne s v c).nibs = s.nibs ∧ (replayOne s v c).ink = s.ink := by
  simp [replayOne, hostWrite_keeps _ _ _ _, pushDue_keeps _ _ _]

theorem replayAll_keeps (s : State) (v : RingId) (cs : List Completion) : KeepsBoard (replayAll s v cs) s ∧ KeepsPorts (replayAll s v cs) s ∧ (replayAll s v cs).margin = s.margin ∧ (replayAll s v cs).own = s.own ∧ (replayAll s v cs).eps = s.eps ∧ (replayAll s v cs).nibs = s.nibs ∧ (replayAll s v cs).ink = s.ink := by
  simp [replayAll, replayOne_keeps _ _ _]

theorem endResync_keeps (s : State) (v : RingId) : KeepsBoard (endResync s v) s ∧ (endResync s v).regs = s.regs ∧ (endResync s v).modes = s.modes ∧ (endResync s v).blot = s.blot ∧ (endResync s v).power = s.power ∧ (endResync s v).pd = s.pd ∧ (endResync s v).own = s.own ∧ (endResync s v).devices = s.devices ∧ (endResync s v).nibs = s.nibs ∧ (endResync s v).cvis = s.cvis ∧ (endResync s v).cviews = s.cviews ∧ (endResync s v).cports = s.cports ∧ (endResync s v).ligs = s.ligs ∧ (endResync s v).func = s.func := by
  simp [endResync, deliverAll_keeps _ _ _, kickFetch_keeps _ _, refreshAges_keeps _, setVi_keeps _ _ _]

end Sys2Proof.Machine
end

