-- ==== Sys2Proof/Laws/FrameBus.lean ====
section
/-! SUPPORT. What the operations of Machine/Bus.lean leave as it was: one lemma for each, over every input, and over every outcome of it.
A proof names the ones it needs, each applied: simp [op_keeps _ _] rewrites every field that op leaves. -/

namespace Sys2Proof.Machine

theorem observe_keeps (s : State) (e : Endpoint) (x : Transfer) : KeepsBoard (observe s e x) s ∧ KeepsHosts (observe s e x) s ∧ (observe s e x).out = s.out ∧ (observe s e x).freeCtr = s.freeCtr ∧ (observe s e x).limits = s.limits ∧ (observe s e x).regs = s.regs ∧ (observe s e x).rcSpi = s.rcSpi ∧ (observe s e x).rcPf = s.rcPf ∧ (observe s e x).pal = s.pal ∧ (observe s e x).margin = s.margin ∧ (observe s e x).modes = s.modes ∧ (observe s e x).blot = s.blot ∧ (observe s e x).power = s.power ∧ (observe s e x).pd = s.pd ∧ (observe s e x).pcie = s.pcie ∧ (observe s e x).cvis = s.cvis ∧ (observe s e x).cviews = s.cviews ∧ (observe s e x).cports = s.cports ∧ (observe s e x).ligs = s.ligs ∧ (observe s e x).func = s.func := by
  simp [observe]

theorem countBusError_keeps (s : State) (n : PortId) : KeepsBoard (countBusError s n) s ∧ KeepsPorts (countBusError s n) s ∧ KeepsHosts (countBusError s n) s ∧ (countBusError s n).out = s.out ∧ (countBusError s n).limits = s.limits ∧ (countBusError s n).pal = s.pal ∧ (countBusError s n).margin = s.margin ∧ (countBusError s n).pcie = s.pcie := by
  simp [countBusError, rcCount_keeps _ _ _]

theorem xferError_keeps (s : State) (e : Endpoint) (x : Transfer) : KeepsBoard (xferError s e x) s ∧ KeepsPorts (xferError s e x) s ∧ (xferError s e x).own = s.own := by
  generalize h : xferError s e x = t; unfold xferError at h; dsimp only at h; (repeat' split at h) <;> (subst h; simp [*, concludeXfer_keeps _ _ _ _, countBusError_keeps _ _, setXfer_keeps _ _ _ _])

theorem xferWaits_keeps (s : State) (e : Endpoint) (x : Transfer) (r : BusResult) : KeepsBoard (xferWaits s e x r) s ∧ KeepsPorts (xferWaits s e x r) s ∧ (xferWaits s e x r).out = s.out ∧ (xferWaits s e x r).limits = s.limits ∧ (xferWaits s e x r).rcSpi = s.rcSpi ∧ (xferWaits s e x r).rcPf = s.rcPf ∧ (xferWaits s e x r).pal = s.pal ∧ (xferWaits s e x r).margin = s.margin ∧ (xferWaits s e x r).own = s.own ∧ (xferWaits s e x r).vis = s.vis ∧ (xferWaits s e x r).nibs = s.nibs ∧ (xferWaits s e x r).qps = s.qps ∧ (xferWaits s e x r).pcie = s.pcie ∧ (xferWaits s e x r).ink = s.ink := by
  generalize h : xferWaits s e x r = t; unfold xferWaits at h; (repeat' split at h) <;> (subst h; simp [*, setEp_keeps _ _ _, setXfer_keeps _ _ _ _])

theorem bumpToggle_keeps (s : State) (e : Endpoint) : KeepsBoard (bumpToggle s e) s ∧ KeepsPorts (bumpToggle s e) s ∧ (bumpToggle s e).out = s.out ∧ (bumpToggle s e).limits = s.limits ∧ (bumpToggle s e).rcSpi = s.rcSpi ∧ (bumpToggle s e).rcPf = s.rcPf ∧ (bumpToggle s e).pal = s.pal ∧ (bumpToggle s e).margin = s.margin ∧ (bumpToggle s e).own = s.own ∧ (bumpToggle s e).vis = s.vis ∧ (bumpToggle s e).nibs = s.nibs ∧ (bumpToggle s e).qps = s.qps ∧ (bumpToggle s e).pcie = s.pcie ∧ (bumpToggle s e).ink = s.ink := by
  simp [bumpToggle, setEp_keeps _ _ _]

theorem takeIn_keeps (s : State) (e : Endpoint) (x : Transfer) (bs : List Byte) : KeepsBoard (takeIn s e x bs).1 s ∧ KeepsPorts (takeIn s e x bs).1 s ∧ (takeIn s e x bs).1.limits = s.limits ∧ (takeIn s e x bs).1.pal = s.pal ∧ (takeIn s e x bs).1.margin = s.margin ∧ (takeIn s e x bs).1.own = s.own ∧ (takeIn s e x bs).1.nibs = s.nibs ∧ (takeIn s e x bs).1.pcie = s.pcie := by
  simp [takeIn, setXfer_keeps _ _ _ _, settleCtx_keeps _ _ _ _, writeIn_keeps _ _ _]

theorem bulkIn_keeps (s : State) (e : Endpoint) (x : Transfer) (bs : List Byte) (ok : Bool) : KeepsBoard (bulkIn s e x bs ok) s ∧ KeepsPorts (bulkIn s e x bs ok) s ∧ (bulkIn s e x bs ok).own = s.own := by
  generalize h : bulkIn s e x bs ok = t; unfold bulkIn at h; (repeat' split at h) <;> (subst h; simp [*, bumpToggle_keeps _ _, concludeXfer_keeps _ _ _ _, setXfer_keeps _ _ _ _, takeIn_keeps _ _ _ _])

theorem takeOut_keeps (s : State) (e : Endpoint) (x : Transfer) : KeepsBoard (takeOut s e x).1 s ∧ KeepsPorts (takeOut s e x).1 s ∧ (takeOut s e x).1.out = s.out ∧ (takeOut s e x).1.limits = s.limits ∧ (takeOut s e x).1.rcSpi = s.rcSpi ∧ (takeOut s e x).1.rcPf = s.rcPf ∧ (takeOut s e x).1.pal = s.pal ∧ (takeOut s e x).1.margin = s.margin ∧ (takeOut s e x).1.own = s.own ∧ (takeOut s e x).1.vis = s.vis ∧ (takeOut s e x).1.nibs = s.nibs ∧ (takeOut s e x).1.qps = s.qps ∧ (takeOut s e x).1.pcie = s.pcie := by
  simp [takeOut, setXfer_keeps _ _ _ _, settleCtx_keeps _ _ _ _]

theorem bulkOut_keeps (s : State) (e : Endpoint) (x : Transfer) (nyet : Bool) : KeepsBoard (bulkOut s e x nyet) s ∧ KeepsPorts (bulkOut s e x nyet) s ∧ (bulkOut s e x nyet).own = s.own := by
  generalize h : bulkOut s e x nyet = t; unfold bulkOut at h; (repeat' split at h) <;> (subst h; simp [*, bumpToggle_keeps _ _, concludeXfer_keeps _ _ _ _, setEp_keeps _ _ _, setXfer_keeps _ _ _ _, takeOut_keeps _ _ _])

theorem bulkXact_keeps (s : State) (e : Endpoint) (x : Transfer) (r : BusResult) : KeepsBoard (bulkXact s e x r) s ∧ KeepsPorts (bulkXact s e x r) s ∧ (bulkXact s e x r).own = s.own := by
  generalize h : bulkXact s e x r = t; unfold bulkXact at h; (repeat' split at h) <;> (subst h; simp [*, bulkIn_keeps _ _ _ _ _, bulkOut_keeps _ _ _ _, concludeXfer_keeps _ _ _ _, takeIn_keeps _ _ _ _, xferError_keeps _ _ _, xferWaits_keeps _ _ _ _])

theorem controlDone_keeps (s : State) (e : Endpoint) (x : Transfer) : KeepsBoard (controlDone s e x) s ∧ (controlDone s e x).freeCtr = s.freeCtr ∧ (controlDone s e x).regs = s.regs ∧ (controlDone s e x).modes = s.modes ∧ (controlDone s e x).blot = s.blot ∧ (controlDone s e x).power = s.power ∧ (controlDone s e x).pd = s.pd ∧ (controlDone s e x).own = s.own ∧ (controlDone s e x).cvis = s.cvis ∧ (controlDone s e x).cviews = s.cviews ∧ (controlDone s e x).cports = s.cports ∧ (controlDone s e x).ligs = s.ligs ∧ (controlDone s e x).func = s.func := by
  generalize h : controlDone s e x = t; unfold controlDone at h; dsimp only at h; (repeat' split at h) <;> (subst h; simp [*, concludeXfer_keeps _ _ _ _, observe_keeps _ _ _])

theorem controlMoves_keeps (s : State) (e : Endpoint) (x : Transfer) (data : Option (List Byte)) : KeepsBoard (controlMoves s e x data) s ∧ (controlMoves s e x data).freeCtr = s.freeCtr ∧ (controlMoves s e x data).regs = s.regs ∧ (controlMoves s e x data).modes = s.modes ∧ (controlMoves s e x data).blot = s.blot ∧ (controlMoves s e x data).power = s.power ∧ (controlMoves s e x data).pd = s.pd ∧ (controlMoves s e x data).own = s.own ∧ (controlMoves s e x data).cvis = s.cvis ∧ (controlMoves s e x data).cviews = s.cviews ∧ (controlMoves s e x data).cports = s.cports ∧ (controlMoves s e x data).ligs = s.ligs ∧ (controlMoves s e x data).func = s.func := by
  generalize h : controlMoves s e x data = t; unfold controlMoves at h; (repeat' split at h) <;> (subst h; simp [*, concludeXfer_keeps _ _ _ _, controlDone_keeps _ _ _, setEp_keeps _ _ _, setXfer_keeps _ _ _ _, takeIn_keeps _ _ _ _, takeOut_keeps _ _ _])

theorem controlXact_keeps (s : State) (e : Endpoint) (x : Transfer) (r : BusResult) : KeepsBoard (controlXact s e x r) s ∧ (controlXact s e x r).freeCtr = s.freeCtr ∧ (controlXact s e x r).regs = s.regs ∧ (controlXact s e x r).modes = s.modes ∧ (controlXact s e x r).blot = s.blot ∧ (controlXact s e x r).power = s.power ∧ (controlXact s e x r).pd = s.pd ∧ (controlXact s e x r).own = s.own ∧ (controlXact s e x r).cvis = s.cvis ∧ (controlXact s e x r).cviews = s.cviews ∧ (controlXact s e x r).cports = s.cports ∧ (controlXact s e x r).ligs = s.ligs ∧ (controlXact s e x r).func = s.func := by
  generalize h : controlXact s e x r = t; unfold controlXact at h; (repeat' split at h) <;> (subst h; simp [*, concludeXfer_keeps _ _ _ _, controlMoves_keeps _ _ _ _, setXfer_keeps _ _ _ _, takeIn_keeps _ _ _ _, xferError_keeps _ _ _, xferWaits_keeps _ _ _ _])

theorem isochWrite_keeps (s : State) (e : Endpoint) (x : Transfer) : KeepsBoard (isochWrite s e x).1 s ∧ KeepsPorts (isochWrite s e x).1 s ∧ (isochWrite s e x).1.limits = s.limits ∧ (isochWrite s e x).1.pal = s.pal ∧ (isochWrite s e x).1.margin = s.margin ∧ (isochWrite s e x).1.own = s.own ∧ (isochWrite s e x).1.nibs = s.nibs ∧ (isochWrite s e x).1.pcie = s.pcie ∧ (isochWrite s e x).1.ink = s.ink := by
  simp [isochWrite, setXfer_keeps _ _ _ _, writeIn_keeps _ _ _]

theorem isochEnd_keeps (s : State) (e : Endpoint) (x : Transfer) (code : Nat) : KeepsBoard (isochEnd s e x code) s ∧ KeepsPorts (isochEnd s e x code) s ∧ (isochEnd s e x code).own = s.own := by
  generalize h : isochEnd s e x code = t; unfold isochEnd at h; (repeat' split at h) <;> (subst h; simp [*, concludeXfer_keeps _ _ _ _, isochWrite_keeps _ _ _])

theorem isochXact_keeps (s : State) (e : Endpoint) (x : Transfer) (r : BusResult) : KeepsBoard (isochXact s e x r) s ∧ KeepsPorts (isochXact s e x r) s ∧ (isochXact s e x r).own = s.own := by
  generalize h : isochXact s e x r = t; unfold isochXact at h; (repeat' split at h) <;> (subst h; simp [*, countBusError_keeps _ _, isochEnd_keeps _ _ _ _, setXfer_keeps _ _ _ _])

theorem isochBegin_keeps (s : State) (e : Endpoint) (x : Transfer) : KeepsBoard (isochBegin s e x) s ∧ KeepsPorts (isochBegin s e x) s ∧ (isochBegin s e x).own = s.own := by
  generalize h : isochBegin s e x = t; unfold isochBegin at h; (repeat' split at h) <;> (subst h; simp [*, concludeXfer_keeps _ _ _ _, emit_keeps _ _, setXfer_keeps _ _ _ _])

theorem isochStep_keeps (a0 : Nat) (a1 : State) (a2 : Nat) : KeepsBoard (isochStep a0 a1 a2) a1 ∧ KeepsPorts (isochStep a0 a1 a2) a1 ∧ (isochStep a0 a1 a2).own = a1.own := by
  fun_induction isochStep a0 a1 a2 <;> simp_all +zetaDelta [concludeXfer_keeps _ _ _ _, isochBegin_keeps _ _ _, isochEnd_keeps _ _ _ _]

theorem isochBoundary_keeps (s : State) (n : PortId) : KeepsBoard (isochBoundary s n) s ∧ KeepsPorts (isochBoundary s n) s ∧ (isochBoundary s n).own = s.own := by
  generalize h : isochBoundary s n = t; unfold isochBoundary at h; (repeat' split at h) <;> (subst h; simp [*, isochStep_keeps _ _ _])

theorem raXact_keeps (s : State) (e : Endpoint) (r : BusResult) : KeepsBoard (raXact s e r) s ∧ KeepsPorts (raXact s e r) s ∧ (raXact s e r).limits = s.limits ∧ (raXact s e r).pal = s.pal ∧ (raXact s e r).margin = s.margin ∧ (raXact s e r).own = s.own ∧ (raXact s e r).vis = s.vis ∧ (raXact s e r).qps = s.qps ∧ (raXact s e r).pcie = s.pcie := by
  generalize h : raXact s e r = t; unfold raXact at h; (repeat' split at h) <;> (subst h; simp [*, abandonSplit_keeps _ _, bumpToggle_keeps _ _, countBusError_keeps _ _, setEp_keeps _ _ _, settleCtx_keeps _ _ _ _])

theorem busActive_keeps (s : State) (n : PortId) (ss : Bool) : KeepsBoard (busActive s n ss) s ∧ KeepsPorts (busActive s n ss) s ∧ (busActive s n ss).out = s.out ∧ (busActive s n ss).limits = s.limits ∧ (busActive s n ss).rcSpi = s.rcSpi ∧ (busActive s n ss).rcPf = s.rcPf ∧ (busActive s n ss).pal = s.pal ∧ (busActive s n ss).margin = s.margin ∧ (busActive s n ss).own = s.own ∧ (busActive s n ss).vis = s.vis ∧ (busActive s n ss).eps = s.eps ∧ (busActive s n ss).qps = s.qps ∧ (busActive s n ss).pcie = s.pcie ∧ (busActive s n ss).ink = s.ink := by
  simp [busActive, setNib_keeps _ _ _]

theorem resetAge_keeps (s : State) (ctx : Nat) : KeepsBoard (resetAge s ctx) s ∧ KeepsPorts (resetAge s ctx) s ∧ (resetAge s ctx).out = s.out ∧ (resetAge s ctx).limits = s.limits ∧ (resetAge s ctx).rcSpi = s.rcSpi ∧ (resetAge s ctx).rcPf = s.rcPf ∧ (resetAge s ctx).pal = s.pal ∧ (resetAge s ctx).margin = s.margin ∧ (resetAge s ctx).own = s.own ∧ (resetAge s ctx).vis = s.vis ∧ (resetAge s ctx).nibs = s.nibs ∧ (resetAge s ctx).qps = s.qps ∧ (resetAge s ctx).pcie = s.pcie ∧ (resetAge s ctx).ink = s.ink := by
  simp [resetAge, setEp_keeps _ _ _]

theorem epXact_keeps (s : State) (e : Endpoint) (r : BusResult) : KeepsBoard (epXact s e r) s ∧ (epXact s e r).regs = s.regs ∧ (epXact s e r).modes = s.modes ∧ (epXact s e r).blot = s.blot ∧ (epXact s e r).power = s.power ∧ (epXact s e r).pd = s.pd ∧ (epXact s e r).cvis = s.cvis ∧ (epXact s e r).cviews = s.cviews ∧ (epXact s e r).cports = s.cports ∧ (epXact s e r).ligs = s.ligs ∧ (epXact s e r).func = s.func := by
  generalize h : epXact s e r = t; unfold epXact at h; dsimp only at h; (repeat' split at h) <;> (subst h; simp [*, advance_keeps _ _, bulkXact_keeps _ _ _ _, busActive_keeps _ _ _, controlXact_keeps _ _ _ _, emit_keeps _ _, isochXact_keeps _ _ _ _, raXact_keeps _ _ _, resetAge_keeps _ _, setEp_keeps _ _ _, stopNow_keeps _ _ _ _ _])

theorem previewXact_keeps (s : State) (n : PortId) (r : BusResult) : KeepsBoard (previewXact s n r) s ∧ KeepsPorts (previewXact s n r) s ∧ (previewXact s n r).own = s.own ∧ (previewXact s n r).eps = s.eps ∧ (previewXact s n r).pcie = s.pcie ∧ (previewXact s n r).ink = s.ink := by
  generalize h : previewXact s n r = t; unfold previewXact at h; dsimp only at h; (repeat' split at h) <;> (subst h; simp [*, countBusError_keeps _ _, endPreview_keeps _ _ _, previewSend_keeps _ _, setNib_keeps _ _ _])

theorem addressXact_keeps (s : State) (n : PortId) (r : BusResult) : KeepsBoard (addressXact s n r) s ∧ KeepsPorts (addressXact s n r) s ∧ (addressXact s n r).own = s.own ∧ (addressXact s n r).eps = s.eps := by
  generalize h : addressXact s n r = t; unfold addressXact at h; (repeat' split at h) <;> (subst h; simp [*, countBusError_keeps _ _, emit_keeps _ _, finishCmd_keeps _ _ _ _ _ _, rcCount_keeps _ _ _, setNib_keeps _ _ _])

theorem busXact_keeps (s : State) (n : PortId) (who : BusWho) (r : BusResult) : KeepsBoard (busXact s n who r) s ∧ (busXact s n who r).regs = s.regs ∧ (busXact s n who r).modes = s.modes ∧ (busXact s n who r).blot = s.blot ∧ (busXact s n who r).power = s.power ∧ (busXact s n who r).pd = s.pd ∧ (busXact s n who r).cvis = s.cvis ∧ (busXact s n who r).cviews = s.cviews ∧ (busXact s n who r).cports = s.cports := by
  generalize h : busXact s n who r = t; unfold busXact at h; (repeat' split at h) <;> (subst h; simp [*, addressXact_keeps _ _ _, epXact_keeps _ _ _, funcInToken_keeps _, ligXact_keeps _ _ _ _ _ _ _, previewXact_keeps _ _ _])

end Sys2Proof.Machine
end

