-- ==== Sys2Proof/Laws/FrameBusCmds.lean ====
section
/-! SUPPORT. What the operations of Machine/BusCmds.lean leave as it was: one lemma for each, over every input, and over every outcome of it.
A proof names the ones it needs, each applied: simp [op_keeps _ _] rewrites every field that op leaves. -/

namespace Sys2Proof.Machine

theorem outArrived_keeps (s : State) (v : RingId) (ctx : Nat) (data : List Byte) (failed : Bool) : KeepsBoard (outArrived s v ctx data failed) s ∧ (outArrived s v ctx data failed).regs = s.regs ∧ (outArrived s v ctx data failed).modes = s.modes ∧ (outArrived s v ctx data failed).blot = s.blot ∧ (outArrived s v ctx data failed).power = s.power ∧ (outArrived s v ctx data failed).pd = s.pd ∧ (outArrived s v ctx data failed).devices = s.devices ∧ (outArrived s v ctx data failed).cvis = s.cvis ∧ (outArrived s v ctx data failed).cviews = s.cviews ∧ (outArrived s v ctx data failed).cports = s.cports ∧ (outArrived s v ctx data failed).ligs = s.ligs ∧ (outArrived s v ctx data failed).func = s.func := by
  generalize h : outArrived s v ctx data failed = t; unfold outArrived at h; (repeat' split at h) <;> (subst h; simp [*, advance_keeps _ _, concludeXfer_keeps _ _ _ _, setXfer_keeps _ _ _ _, settleCtx_keeps _ _ _ _])

theorem readArrived_keeps (s : State) (v : RingId) (what : ReadFor) (data : List (List Byte)) (failed : Bool) : KeepsBoard (readArrived s v what data failed) s ∧ (readArrived s v what data failed).regs = s.regs ∧ (readArrived s v what data failed).blot = s.blot ∧ (readArrived s v what data failed).power = s.power ∧ (readArrived s v what data failed).pd = s.pd ∧ (readArrived s v what data failed).devices = s.devices ∧ (readArrived s v what data failed).cviews = s.cviews ∧ (readArrived s v what data failed).cports = s.cports ∧ (readArrived s v what data failed).ligs = s.ligs ∧ (readArrived s v what data failed).func = s.func := by
  generalize h : readArrived s v what data failed = t; unfold readArrived at h; (repeat' split at h) <;> (subst h; simp [*, fetchComplete_keeps _ _ _ _ _, outArrived_keeps _ _ _ _ _])

theorem rootConnected_keeps (s : State) (n : PortId) (ss : Bool) : KeepsBoard (rootConnected s n ss) s ∧ (rootConnected s n ss).freeCtr = s.freeCtr ∧ (rootConnected s n ss).regs = s.regs ∧ (rootConnected s n ss).modes = s.modes ∧ (rootConnected s n ss).blot = s.blot ∧ (rootConnected s n ss).power = s.power ∧ (rootConnected s n ss).pd = s.pd ∧ (rootConnected s n ss).own = s.own ∧ (rootConnected s n ss).vis = s.vis ∧ (rootConnected s n ss).devices = s.devices ∧ (rootConnected s n ss).eps = s.eps ∧ (rootConnected s n ss).qps = s.qps ∧ (rootConnected s n ss).pcie = s.pcie ∧ (rootConnected s n ss).ink = s.ink ∧ (rootConnected s n ss).cvis = s.cvis ∧ (rootConnected s n ss).cports = s.cports ∧ (rootConnected s n ss).ligs = s.ligs ∧ (rootConnected s n ss).func = s.func := by
  generalize h : rootConnected s n ss = t; unfold rootConnected at h; dsimp only at h; (repeat' split at h) <;> (subst h; simp [*, attachRoot_keeps _ _ _, notice_keeps _ _ _ _ _ _ _, reset2_keeps _ _, setNib_keeps _ _ _, viewConnect_keeps _ _ _])

theorem pathReset_keeps (s : State) (n : PortId) (ss fresh : Bool) : KeepsBoard (pathReset s n ss fresh) s ∧ (pathReset s n ss fresh).freeCtr = s.freeCtr ∧ (pathReset s n ss fresh).regs = s.regs ∧ (pathReset s n ss fresh).modes = s.modes ∧ (pathReset s n ss fresh).blot = s.blot ∧ (pathReset s n ss fresh).power = s.power ∧ (pathReset s n ss fresh).pd = s.pd ∧ (pathReset s n ss fresh).own = s.own ∧ (pathReset s n ss fresh).devices = s.devices ∧ (pathReset s n ss fresh).eps = s.eps ∧ (pathReset s n ss fresh).cvis = s.cvis ∧ (pathReset s n ss fresh).cports = s.cports ∧ (pathReset s n ss fresh).ligs = s.ligs ∧ (pathReset s n ss fresh).func = s.func := by
  generalize h : pathReset s n ss fresh = t; unfold pathReset at h; dsimp only at h; (repeat' split at h) <;> (subst h; simp [*, attachRoot_keeps _ _ _, finishReset_keeps _ _ _, rootConnected_keeps _ _ _, setNib_keeps _ _ _])

theorem alignBus_keeps (s : State) (n : PortId) : KeepsBoard (alignBus s n) s ∧ KeepsPorts (alignBus s n) s ∧ (alignBus s n).out = s.out ∧ (alignBus s n).limits = s.limits ∧ (alignBus s n).rcSpi = s.rcSpi ∧ (alignBus s n).rcPf = s.rcPf ∧ (alignBus s n).pal = s.pal ∧ (alignBus s n).margin = s.margin ∧ (alignBus s n).own = s.own ∧ (alignBus s n).vis = s.vis ∧ (alignBus s n).eps = s.eps ∧ (alignBus s n).qps = s.qps ∧ (alignBus s n).pcie = s.pcie ∧ (alignBus s n).ink = s.ink := by
  generalize h : alignBus s n = t; unfold alignBus at h; (repeat' split at h) <;> (subst h; simp [*, setNib_keeps _ _ _])

theorem breakEp_keeps (s : State) (ctx code : Nat) : KeepsBoard (breakEp s ctx code) s ∧ KeepsPorts (breakEp s ctx code) s ∧ (breakEp s ctx code).own = s.own := by
  generalize h : breakEp s ctx code = t; unfold breakEp at h; (repeat' split at h) <;> (subst h; simp [*, abandonSplit_keeps _ _, endQueue_keeps _ _ _ _, haltEp_keeps _ _])

theorem settleSusp_keeps (s : State) (n : PortId) : KeepsBoard (settleSusp s n) s ∧ KeepsPorts (settleSusp s n) s ∧ (settleSusp s n).out = s.out ∧ (settleSusp s n).limits = s.limits ∧ (settleSusp s n).rcSpi = s.rcSpi ∧ (settleSusp s n).rcPf = s.rcPf ∧ (settleSusp s n).pal = s.pal ∧ (settleSusp s n).margin = s.margin ∧ (settleSusp s n).own = s.own ∧ (settleSusp s n).vis = s.vis ∧ (settleSusp s n).eps = s.eps ∧ (settleSusp s n).qps = s.qps ∧ (settleSusp s n).pcie = s.pcie ∧ (settleSusp s n).ink = s.ink := by
  simp [settleSusp, setNib_keeps _ _ _]

theorem stuckNotice_keeps (s : State) (n : PortId) : KeepsBoard (stuckNotice s n) s ∧ KeepsPorts (stuckNotice s n) s ∧ KeepsHosts (stuckNotice s n) s ∧ (stuckNotice s n).out = s.out ∧ (stuckNotice s n).pcie = s.pcie := by
  simp [stuckNotice, notice_keeps _ _ _ _ _ _ _]

theorem stuckWait_keeps (s : State) (n : PortId) (k : Nat) : KeepsBoard (stuckWait s n k) s ∧ KeepsPorts (stuckWait s n k) s ∧ (stuckWait s n k).out = s.out ∧ (stuckWait s n k).own = s.own ∧ (stuckWait s n k).vis = s.vis ∧ (stuckWait s n k).eps = s.eps ∧ (stuckWait s n k).qps = s.qps ∧ (stuckWait s n k).pcie = s.pcie ∧ (stuckWait s n k).ink = s.ink := by
  simp [stuckWait, setNib_keeps _ _ _, stuckNotice_keeps _ _]

theorem declareStuck_keeps (s : State) (n : PortId) : KeepsBoard (declareStuck s n) s ∧ (declareStuck s n).freeCtr = s.freeCtr ∧ (declareStuck s n).regs = s.regs ∧ (declareStuck s n).modes = s.modes ∧ (declareStuck s n).blot = s.blot ∧ (declareStuck s n).power = s.power ∧ (declareStuck s n).pd = s.pd ∧ (declareStuck s n).cvis = s.cvis ∧ (declareStuck s n).cports = s.cports ∧ (declareStuck s n).ligs = s.ligs ∧ (declareStuck s n).func = s.func := by
  simp [declareStuck, rcCount_keeps _ _ _, record_keeps _ _ _ _ _ _ _, releasePath_keeps _ _ _ _ _, setNib_keeps _ _ _, stuckWait_keeps _ _ _, viewDisconnect_keeps _ _ _]

end Sys2Proof.Machine
end

