-- ==== Sys2Proof/Laws/FrameMarginCmds.lean ====
section
/-! SUPPORT. What the operations of Machine/MarginCmds.lean leave as it was: one lemma for each, over every input, and over every outcome of it.
A proof names the ones it needs, each applied: simp [op_keeps _ _] rewrites every field that op leaves. -/

namespace Sys2Proof.Machine

@[simp] theorem bcGate_now (s : State) (p : Path) (f : State → State) (hf : ∀ f0, (f f0).now = f0.now) : (bcGate s p f).now = s.now := by
  simp [bcGate, recordAt_keeps _ _ _ _ _ _ _ _, *]

@[simp] theorem bcGate_pending (s : State) (p : Path) (f : State → State) (hf : ∀ f0, (f f0).pending = f0.pending) : (bcGate s p f).pending = s.pending := by
  simp [bcGate, recordAt_keeps _ _ _ _ _ _ _ _, *]

@[simp] theorem bcGate_out (s : State) (p : Path) (f : State → State) (hf : ∀ f0, (f f0).out = f0.out) : (bcGate s p f).out = s.out := by
  simp [bcGate, recordAt_keeps _ _ _ _ _ _ _ _, *]

@[simp] theorem bcGate_freeCtr (s : State) (p : Path) (f : State → State) (hf : ∀ f0, (f f0).freeCtr = f0.freeCtr) : (bcGate s p f).freeCtr = s.freeCtr := by
  simp [bcGate, recordAt_keeps _ _ _ _ _ _ _ _, *]

@[simp] theorem bcGate_limits (s : State) (p : Path) (f : State → State) (hf : ∀ f0, (f f0).limits = f0.limits) : (bcGate s p f).limits = s.limits := by
  simp [bcGate, recordAt_keeps _ _ _ _ _ _ _ _, *]

@[simp] theorem bcGate_folioOn (s : State) (p : Path) (f : State → State) (hf : ∀ f0, (f f0).folioOn = f0.folioOn) : (bcGate s p f).folioOn = s.folioOn := by
  simp [bcGate, recordAt_keeps _ _ _ _ _ _ _ _, *]

@[simp] theorem bcGate_strokeBase (s : State) (p : Path) (f : State → State) (hf : ∀ f0, (f f0).strokeBase = f0.strokeBase) : (bcGate s p f).strokeBase = s.strokeBase := by
  simp [bcGate, recordAt_keeps _ _ _ _ _ _ _ _, *]

@[simp] theorem bcGate_resyncAt (s : State) (p : Path) (f : State → State) (hf : ∀ f0, (f f0).resyncAt = f0.resyncAt) : (bcGate s p f).resyncAt = s.resyncAt := by
  simp [bcGate, recordAt_keeps _ _ _ _ _ _ _ _, *]

@[simp] theorem bcGate_regs (s : State) (p : Path) (f : State → State) (hf : ∀ f0, (f f0).regs = f0.regs) : (bcGate s p f).regs = s.regs := by
  simp [bcGate, recordAt_keeps _ _ _ _ _ _ _ _, *]

@[simp] theorem bcGate_pairs (s : State) (p : Path) (f : State → State) (hf : ∀ f0, (f f0).pairs = f0.pairs) : (bcGate s p f).pairs = s.pairs := by
  simp [bcGate, recordAt_keeps _ _ _ _ _ _ _ _, *]

@[simp] theorem bcGate_writes (s : State) (p : Path) (f : State → State) (hf : ∀ f0, (f f0).writes = f0.writes) : (bcGate s p f).writes = s.writes := by
  simp [bcGate, recordAt_keeps _ _ _ _ _ _ _ _, *]

@[simp] theorem bcGate_staged (s : State) (p : Path) (f : State → State) (hf : ∀ f0, (f f0).staged = f0.staged) : (bcGate s p f).staged = s.staged := by
  simp [bcGate, recordAt_keeps _ _ _ _ _ _ _ _, *]

@[simp] theorem bcGate_rubric (s : State) (p : Path) (f : State → State) (hf : ∀ f0, (f f0).rubric = f0.rubric) : (bcGate s p f).rubric = s.rubric := by
  simp [bcGate, recordAt_keeps _ _ _ _ _ _ _ _, *]

@[simp] theorem bcGate_trustBySpi (s : State) (p : Path) (f : State → State) (hf : ∀ f0, (f f0).trustBySpi = f0.trustBySpi) : (bcGate s p f).trustBySpi = s.trustBySpi := by
  simp [bcGate, recordAt_keeps _ _ _ _ _ _ _ _, *]

@[simp] theorem bcGate_trustConfigured (s : State) (p : Path) (f : State → State) (hf : ∀ f0, (f f0).trustConfigured = f0.trustConfigured) : (bcGate s p f).trustConfigured = s.trustConfigured := by
  simp [bcGate, recordAt_keeps _ _ _ _ _ _ _ _, *]

@[simp] theorem bcGate_link (s : State) (p : Path) (f : State → State) (hf : ∀ f0, (f f0).link = f0.link) : (bcGate s p f).link = s.link := by
  simp [bcGate, recordAt_keeps _ _ _ _ _ _ _ _, *]

@[simp] theorem bcGate_localEvents (s : State) (p : Path) (f : State → State) (hf : ∀ f0, (f f0).localEvents = f0.localEvents) : (bcGate s p f).localEvents = s.localEvents := by
  simp [bcGate, recordAt_keeps _ _ _ _ _ _ _ _, *]

@[simp] theorem bcGate_localLost (s : State) (p : Path) (f : State → State) (hf : ∀ f0, (f f0).localLost = f0.localLost) : (bcGate s p f).localLost = s.localLost := by
  simp [bcGate, recordAt_keeps _ _ _ _ _ _ _ _, *]

@[simp] theorem bcGate_margin (s : State) (p : Path) (f : State → State) (hf : ∀ f0, (f f0).margin = f0.margin) : (bcGate s p f).margin = s.margin := by
  simp [bcGate, recordAt_keeps _ _ _ _ _ _ _ _, *]

@[simp] theorem bcGate_disc (s : State) (p : Path) (f : State → State) (hf : ∀ f0, (f f0).disc = f0.disc) : (bcGate s p f).disc = s.disc := by
  simp [bcGate, recordAt_keeps _ _ _ _ _ _ _ _, *]

@[simp] theorem bcGate_clusters (s : State) (p : Path) (f : State → State) (hf : ∀ f0, (f f0).clusters = f0.clusters) : (bcGate s p f).clusters = s.clusters := by
  simp [bcGate, recordAt_keeps _ _ _ _ _ _ _ _, *]

@[simp] theorem bcGate_engines (s : State) (p : Path) (f : State → State) (hf : ∀ f0, (f f0).engines = f0.engines) : (bcGate s p f).engines = s.engines := by
  simp [bcGate, recordAt_keeps _ _ _ _ _ _ _ _, *]

@[simp] theorem bcGate_regionTemp (s : State) (p : Path) (f : State → State) (hf : ∀ f0, (f f0).regionTemp = f0.regionTemp) : (bcGate s p f).regionTemp = s.regionTemp := by
  simp [bcGate, recordAt_keeps _ _ _ _ _ _ _ _, *]

@[simp] theorem bcGate_lanes (s : State) (p : Path) (f : State → State) (hf : ∀ f0, (f f0).lanes = f0.lanes) : (bcGate s p f).lanes = s.lanes := by
  simp [bcGate, recordAt_keeps _ _ _ _ _ _ _ _, *]

@[simp] theorem bcGate_modes (s : State) (p : Path) (f : State → State) (hf : ∀ f0, (f f0).modes = f0.modes) : (bcGate s p f).modes = s.modes := by
  simp [bcGate, recordAt_keeps _ _ _ _ _ _ _ _, *]

@[simp] theorem bcGate_img (s : State) (p : Path) (f : State → State) (hf : ∀ f0, (f f0).img = f0.img) : (bcGate s p f).img = s.img := by
  simp [bcGate, recordAt_keeps _ _ _ _ _ _ _ _, *]

@[simp] theorem bcGate_nor (s : State) (p : Path) (f : State → State) (hf : ∀ f0, (f f0).nor = f0.nor) : (bcGate s p f).nor = s.nor := by
  simp [bcGate, recordAt_keeps _ _ _ _ _ _ _ _, *]

@[simp] theorem bcGate_blot (s : State) (p : Path) (f : State → State) (hf : ∀ f0, (f f0).blot = f0.blot) : (bcGate s p f).blot = s.blot := by
  simp [bcGate, recordAt_keeps _ _ _ _ _ _ _ _, *]

@[simp] theorem bcGate_sealUnit (s : State) (p : Path) (f : State → State) (hf : ∀ f0, (f f0).sealUnit = f0.sealUnit) : (bcGate s p f).sealUnit = s.sealUnit := by
  simp [bcGate, recordAt_keeps _ _ _ _ _ _ _ _, *]

@[simp] theorem bcGate_input (s : State) (p : Path) (f : State → State) (hf : ∀ f0, (f f0).input = f0.input) : (bcGate s p f).input = s.input := by
  simp [bcGate, recordAt_keeps _ _ _ _ _ _ _ _, *]

@[simp] theorem bcGate_vauxOk (s : State) (p : Path) (f : State → State) (hf : ∀ f0, (f f0).vauxOk = f0.vauxOk) : (bcGate s p f).vauxOk = s.vauxOk := by
  simp [bcGate, recordAt_keeps _ _ _ _ _ _ _ _, *]

@[simp] theorem bcGate_power (s : State) (p : Path) (f : State → State) (hf : ∀ f0, (f f0).power = f0.power) : (bcGate s p f).power = s.power := by
  simp [bcGate, recordAt_keeps _ _ _ _ _ _ _ _, *]

@[simp] theorem bcGate_pd (s : State) (p : Path) (f : State → State) (hf : ∀ f0, (f f0).pd = f0.pd) : (bcGate s p f).pd = s.pd := by
  simp [bcGate, recordAt_keeps _ _ _ _ _ _ _ _, *]

@[simp] theorem bcGate_ptp (s : State) (p : Path) (f : State → State) (hf : ∀ f0, (f f0).ptp = f0.ptp) : (bcGate s p f).ptp = s.ptp := by
  simp [bcGate, recordAt_keeps _ _ _ _ _ _ _ _, *]

@[simp] theorem bcGate_own (s : State) (p : Path) (f : State → State) (hf : ∀ f0, (f f0).own = f0.own) : (bcGate s p f).own = s.own := by
  simp [bcGate, recordAt_keeps _ _ _ _ _ _ _ _, *]

@[simp] theorem bcGate_vis (s : State) (p : Path) (f : State → State) (hf : ∀ f0, (f f0).vis = f0.vis) : (bcGate s p f).vis = s.vis := by
  simp [bcGate, recordAt_keeps _ _ _ _ _ _ _ _, *]

@[simp] theorem bcGate_devices (s : State) (p : Path) (f : State → State) (hf : ∀ f0, (f f0).devices = f0.devices) : (bcGate s p f).devices = s.devices := by
  simp [bcGate, recordAt_keeps _ _ _ _ _ _ _ _, *]

@[simp] theorem bcGate_eps (s : State) (p : Path) (f : State → State) (hf : ∀ f0, (f f0).eps = f0.eps) : (bcGate s p f).eps = s.eps := by
  simp [bcGate, recordAt_keeps _ _ _ _ _ _ _ _, *]

@[simp] theorem bcGate_nibs (s : State) (p : Path) (f : State → State) (hf : ∀ f0, (f f0).nibs = f0.nibs) : (bcGate s p f).nibs = s.nibs := by
  simp [bcGate, recordAt_keeps _ _ _ _ _ _ _ _, *]

@[simp] theorem bcGate_qps (s : State) (p : Path) (f : State → State) (hf : ∀ f0, (f f0).qps = f0.qps) : (bcGate s p f).qps = s.qps := by
  simp [bcGate, recordAt_keeps _ _ _ _ _ _ _ _, *]

@[simp] theorem bcGate_eth (s : State) (p : Path) (f : State → State) (hf : ∀ f0, (f f0).eth = f0.eth) : (bcGate s p f).eth = s.eth := by
  simp [bcGate, recordAt_keeps _ _ _ _ _ _ _ _, *]

@[simp] theorem bcGate_prp (s : State) (p : Path) (f : State → State) (hf : ∀ f0, (f f0).prp = f0.prp) : (bcGate s p f).prp = s.prp := by
  simp [bcGate, recordAt_keeps _ _ _ _ _ _ _ _, *]

@[simp] theorem bcGate_pcie (s : State) (p : Path) (f : State → State) (hf : ∀ f0, (f f0).pcie = f0.pcie) : (bcGate s p f).pcie = s.pcie := by
  simp [bcGate, recordAt_keeps _ _ _ _ _ _ _ _, *]

@[simp] theorem bcGate_timelines (s : State) (p : Path) (f : State → State) (hf : ∀ f0, (f f0).timelines = f0.timelines) : (bcGate s p f).timelines = s.timelines := by
  simp [bcGate, recordAt_keeps _ _ _ _ _ _ _ _, *]

@[simp] theorem bcGate_ink (s : State) (p : Path) (f : State → State) (hf : ∀ f0, (f f0).ink = f0.ink) : (bcGate s p f).ink = s.ink := by
  simp [bcGate, recordAt_keeps _ _ _ _ _ _ _ _, *]

@[simp] theorem bcGate_cvis (s : State) (p : Path) (f : State → State) (hf : ∀ f0, (f f0).cvis = f0.cvis) : (bcGate s p f).cvis = s.cvis := by
  simp [bcGate, recordAt_keeps _ _ _ _ _ _ _ _, *]

@[simp] theorem bcGate_cviews (s : State) (p : Path) (f : State → State) (hf : ∀ f0, (f f0).cviews = f0.cviews) : (bcGate s p f).cviews = s.cviews := by
  simp [bcGate, recordAt_keeps _ _ _ _ _ _ _ _, *]

@[simp] theorem bcGate_cports (s : State) (p : Path) (f : State → State) (hf : ∀ f0, (f f0).cports = f0.cports) : (bcGate s p f).cports = s.cports := by
  simp [bcGate, recordAt_keeps _ _ _ _ _ _ _ _, *]

@[simp] theorem bcGate_ligs (s : State) (p : Path) (f : State → State) (hf : ∀ f0, (f f0).ligs = f0.ligs) : (bcGate s p f).ligs = s.ligs := by
  simp [bcGate, recordAt_keeps _ _ _ _ _ _ _ _, *]

@[simp] theorem bcGate_func (s : State) (p : Path) (f : State → State) (hf : ∀ f0, (f f0).func = f0.func) : (bcGate s p f).func = s.func := by
  simp [bcGate, recordAt_keeps _ _ _ _ _ _ _ _, *]

@[simp] theorem bcGate_pins (s : State) (p : Path) (f : State → State) (hf : ∀ f0, (f f0).pins = f0.pins) : (bcGate s p f).pins = s.pins := by
  simp [bcGate, recordAt_keeps _ _ _ _ _ _ _ _, *]

theorem openHead_keeps (s : State) : KeepsBoard (openHead s) s ∧ KeepsPorts (openHead s) s ∧ KeepsHosts (openHead s) s ∧ (openHead s).out = s.out ∧ (openHead s).limits = s.limits ∧ (openHead s).rcSpi = s.rcSpi ∧ (openHead s).rcPf = s.rcPf ∧ (openHead s).pal = s.pal ∧ (openHead s).pcie = s.pcie := by
  generalize h : openHead s = t; unfold openHead at h; (repeat' split at h) <;> (subst h; simp [*, setQueue_keeps _ _ _])

theorem bcHeadRead_keeps (s : State) (p : Path) (which : HeadWord) : KeepsBoard (bcHeadRead s p which).1 s ∧ KeepsPorts (bcHeadRead s p which).1 s ∧ KeepsHosts (bcHeadRead s p which).1 s ∧ (bcHeadRead s p which).1.out = s.out ∧ (bcHeadRead s p which).1.limits = s.limits ∧ (bcHeadRead s p which).1.pcie = s.pcie := by
  generalize h : bcHeadRead s p which = t; unfold bcHeadRead at h; (repeat' split at h) <;> (subst h; simp [*, openHead_keeps _])

theorem popWord_keeps (s : State) : KeepsBoard (popWord s) s ∧ KeepsPorts (popWord s) s ∧ KeepsHosts (popWord s) s ∧ (popWord s).out = s.out ∧ (popWord s).limits = s.limits ∧ (popWord s).rcSpi = s.rcSpi ∧ (popWord s).rcPf = s.rcPf ∧ (popWord s).pal = s.pal ∧ (popWord s).pcie = s.pcie := by
  generalize h : popWord s = t; unfold popWord at h; dsimp only at h; (repeat' split at h) <;> (subst h; simp [*, openHead_keeps _])

theorem skipNotice_keeps (s : State) : KeepsBoard (skipNotice s) s ∧ KeepsPorts (skipNotice s) s ∧ KeepsHosts (skipNotice s) s ∧ (skipNotice s).out = s.out ∧ (skipNotice s).limits = s.limits ∧ (skipNotice s).rcSpi = s.rcSpi ∧ (skipNotice s).rcPf = s.rcPf ∧ (skipNotice s).pal = s.pal ∧ (skipNotice s).pcie = s.pcie := by
  simp [skipNotice]

theorem flushBoard_keeps (s : State) : KeepsBoard (flushBoard s) s ∧ KeepsPorts (flushBoard s) s ∧ KeepsHosts (flushBoard s) s ∧ (flushBoard s).out = s.out ∧ (flushBoard s).limits = s.limits ∧ (flushBoard s).rcSpi = s.rcSpi ∧ (flushBoard s).rcPf = s.rcPf ∧ (flushBoard s).pal = s.pal ∧ (flushBoard s).pcie = s.pcie := by
  simp [flushBoard, setQueue_keeps _ _ _]

theorem irqAck_keeps (s : State) : KeepsBoard (irqAck s) s ∧ KeepsPorts (irqAck s) s ∧ KeepsHosts (irqAck s) s ∧ (irqAck s).out = s.out ∧ (irqAck s).limits = s.limits ∧ (irqAck s).rcSpi = s.rcSpi ∧ (irqAck s).rcPf = s.rcPf ∧ (irqAck s).pal = s.pal ∧ (irqAck s).pcie = s.pcie := by
  simp [irqAck]

end Sys2Proof.Machine
end

