-- ==== Sys2Proof/Laws/FrameModes.lean ====
section
/-! SUPPORT. What the operations of Machine/Modes.lean leave as it was: one lemma for each, over every input, and over every outcome of it.
A proof names the ones it needs, each applied: simp [op_keeps _ _] rewrites every field that op leaves. -/

namespace Sys2Proof.Machine

theorem bootPath_keeps (s : State) (n : PortId) : KeepsBoard (bootPath s n) s ∧ KeepsHosts (bootPath s n) s ∧ (bootPath s n).out = s.out ∧ (bootPath s n).freeCtr = s.freeCtr ∧ (bootPath s n).limits = s.limits ∧ (bootPath s n).regs = s.regs ∧ (bootPath s n).rcSpi = s.rcSpi ∧ (bootPath s n).rcPf = s.rcPf ∧ (bootPath s n).pal = s.pal ∧ (bootPath s n).margin = s.margin ∧ (bootPath s n).modes = s.modes ∧ (bootPath s n).blot = s.blot ∧ (bootPath s n).pd = s.pd ∧ (bootPath s n).devices = s.devices ∧ (bootPath s n).pcie = s.pcie ∧ (bootPath s n).cvis = s.cvis ∧ (bootPath s n).cviews = s.cviews ∧ (bootPath s n).cports = s.cports ∧ (bootPath s n).ligs = s.ligs ∧ (bootPath s n).func = s.func := by
  generalize h : bootPath s n = t; unfold bootPath at h; (repeat' split at h) <;> (subst h; simp [*, converterOff_keeps _ _, gateOff_keeps _ _ _ _])

theorem copyLocal_keeps (s : State) (e : LocalEvent) : KeepsBoard (copyLocal s e) s ∧ KeepsPorts (copyLocal s e) s ∧ KeepsHosts (copyLocal s e) s ∧ (copyLocal s e).out = s.out ∧ (copyLocal s e).limits = s.limits ∧ (copyLocal s e).margin = s.margin ∧ (copyLocal s e).pcie = s.pcie := by
  simp [copyLocal, pushRecord_keeps _ _]

theorem countLocal_keeps (s : State) (e : LocalEvent) : KeepsBoard (countLocal s e) s ∧ KeepsPorts (countLocal s e) s ∧ KeepsHosts (countLocal s e) s ∧ (countLocal s e).out = s.out ∧ (countLocal s e).limits = s.limits ∧ (countLocal s e).pal = s.pal ∧ (countLocal s e).margin = s.margin ∧ (countLocal s e).pcie = s.pcie := by
  generalize h : countLocal s e = t; unfold countLocal at h; (repeat' split at h) <;> (subst h; simp [*, rcCount_keeps _ _ _])

theorem linkFirstUp_keeps (s : State) : KeepsHosts (linkFirstUp s) s ∧ (linkFirstUp s).now = s.now ∧ (linkFirstUp s).pending = s.pending ∧ (linkFirstUp s).out = s.out ∧ (linkFirstUp s).freeCtr = s.freeCtr ∧ (linkFirstUp s).limits = s.limits ∧ (linkFirstUp s).folioOn = s.folioOn ∧ (linkFirstUp s).strokeBase = s.strokeBase ∧ (linkFirstUp s).resyncAt = s.resyncAt ∧ (linkFirstUp s).regs = s.regs ∧ (linkFirstUp s).pairs = s.pairs ∧ (linkFirstUp s).writes = s.writes ∧ (linkFirstUp s).staged = s.staged ∧ (linkFirstUp s).rubric = s.rubric ∧ (linkFirstUp s).trustBySpi = s.trustBySpi ∧ (linkFirstUp s).trustConfigured = s.trustConfigured ∧ (linkFirstUp s).margin = s.margin ∧ (linkFirstUp s).disc = s.disc ∧ (linkFirstUp s).clusters = s.clusters ∧ (linkFirstUp s).engines = s.engines ∧ (linkFirstUp s).regionTemp = s.regionTemp ∧ (linkFirstUp s).lanes = s.lanes ∧ (linkFirstUp s).modes = s.modes ∧ (linkFirstUp s).img = s.img ∧ (linkFirstUp s).nor = s.nor ∧ (linkFirstUp s).sealUnit = s.sealUnit ∧ (linkFirstUp s).input = s.input ∧ (linkFirstUp s).vauxOk = s.vauxOk ∧ (linkFirstUp s).pd = s.pd ∧ (linkFirstUp s).ptp = s.ptp ∧ (linkFirstUp s).devices = s.devices ∧ (linkFirstUp s).eth = s.eth ∧ (linkFirstUp s).prp = s.prp ∧ (linkFirstUp s).pcie = s.pcie ∧ (linkFirstUp s).timelines = s.timelines ∧ (linkFirstUp s).cvis = s.cvis ∧ (linkFirstUp s).cviews = s.cviews ∧ (linkFirstUp s).cports = s.cports ∧ (linkFirstUp s).ligs = s.ligs ∧ (linkFirstUp s).func = s.func ∧ (linkFirstUp s).pins = s.pins := by
  simp [linkFirstUp, bootPath_keeps _ _, copyLocal_keeps _ _, countLocal_keeps _ _, marker_keeps _ _ _ _]

theorem stopSwitchOn_keeps (s : State) (n : PortId) : KeepsBoard (stopSwitchOn s n) s ∧ (stopSwitchOn s n).freeCtr = s.freeCtr ∧ (stopSwitchOn s n).regs = s.regs ∧ (stopSwitchOn s n).modes = s.modes ∧ (stopSwitchOn s n).blot = s.blot ∧ (stopSwitchOn s n).cvis = s.cvis ∧ (stopSwitchOn s n).ligs = s.ligs ∧ (stopSwitchOn s n).func = s.func := by
  generalize h : stopSwitchOn s n = t; unfold stopSwitchOn at h; (repeat' split at h) <;> (subst h; simp [*, powerOffPort_keeps _ _ _, setPower_keeps _ _ _])

theorem linkLost_keeps (s : State) : (linkLost s).now = s.now ∧ (linkLost s).pending = s.pending ∧ (linkLost s).freeCtr = s.freeCtr ∧ (linkLost s).folioOn = s.folioOn ∧ (linkLost s).strokeBase = s.strokeBase ∧ (linkLost s).resyncAt = s.resyncAt ∧ (linkLost s).regs = s.regs ∧ (linkLost s).pairs = s.pairs ∧ (linkLost s).writes = s.writes ∧ (linkLost s).staged = s.staged ∧ (linkLost s).rubric = s.rubric ∧ (linkLost s).trustBySpi = s.trustBySpi ∧ (linkLost s).trustConfigured = s.trustConfigured ∧ (linkLost s).localEvents = s.localEvents ∧ (linkLost s).localLost = s.localLost ∧ (linkLost s).disc = s.disc ∧ (linkLost s).clusters = s.clusters ∧ (linkLost s).engines = s.engines ∧ (linkLost s).regionTemp = s.regionTemp ∧ (linkLost s).lanes = s.lanes ∧ (linkLost s).img = s.img ∧ (linkLost s).nor = s.nor ∧ (linkLost s).sealUnit = s.sealUnit ∧ (linkLost s).input = s.input ∧ (linkLost s).vauxOk = s.vauxOk ∧ (linkLost s).ptp = s.ptp ∧ (linkLost s).eth = s.eth ∧ (linkLost s).prp = s.prp ∧ (linkLost s).timelines = s.timelines ∧ (linkLost s).ligs = s.ligs ∧ (linkLost s).func = s.func ∧ (linkLost s).pins = s.pins := by
  generalize h : linkLost s = t; unfold linkLost at h; (repeat' split at h) <;> (subst h; simp [*, enterQuarantine_keeps _ _ _, faultReport_keeps _ _ _ _ _, stopSwitchOn_keeps _ _])

theorem linkHoldExpiry_keeps (s : State) : (linkHoldExpiry s).now = s.now ∧ (linkHoldExpiry s).pending = s.pending ∧ (linkHoldExpiry s).freeCtr = s.freeCtr ∧ (linkHoldExpiry s).folioOn = s.folioOn ∧ (linkHoldExpiry s).strokeBase = s.strokeBase ∧ (linkHoldExpiry s).resyncAt = s.resyncAt ∧ (linkHoldExpiry s).regs = s.regs ∧ (linkHoldExpiry s).pairs = s.pairs ∧ (linkHoldExpiry s).writes = s.writes ∧ (linkHoldExpiry s).staged = s.staged ∧ (linkHoldExpiry s).rubric = s.rubric ∧ (linkHoldExpiry s).trustBySpi = s.trustBySpi ∧ (linkHoldExpiry s).trustConfigured = s.trustConfigured ∧ (linkHoldExpiry s).localEvents = s.localEvents ∧ (linkHoldExpiry s).localLost = s.localLost ∧ (linkHoldExpiry s).disc = s.disc ∧ (linkHoldExpiry s).clusters = s.clusters ∧ (linkHoldExpiry s).engines = s.engines ∧ (linkHoldExpiry s).regionTemp = s.regionTemp ∧ (linkHoldExpiry s).lanes = s.lanes ∧ (linkHoldExpiry s).modes = s.modes ∧ (linkHoldExpiry s).img = s.img ∧ (linkHoldExpiry s).nor = s.nor ∧ (linkHoldExpiry s).blot = s.blot ∧ (linkHoldExpiry s).sealUnit = s.sealUnit ∧ (linkHoldExpiry s).input = s.input ∧ (linkHoldExpiry s).vauxOk = s.vauxOk ∧ (linkHoldExpiry s).ptp = s.ptp ∧ (linkHoldExpiry s).eth = s.eth ∧ (linkHoldExpiry s).prp = s.prp ∧ (linkHoldExpiry s).timelines = s.timelines ∧ (linkHoldExpiry s).cvis = s.cvis ∧ (linkHoldExpiry s).ligs = s.ligs ∧ (linkHoldExpiry s).func = s.func ∧ (linkHoldExpiry s).pins = s.pins := by
  simp [linkHoldExpiry, converterOff_keeps _ _, gateOff_keeps _ _ _ _, quarantineOff_keeps _ _]

theorem linkRestored_keeps (s : State) : (linkRestored s).now = s.now ∧ (linkRestored s).pending = s.pending ∧ (linkRestored s).freeCtr = s.freeCtr ∧ (linkRestored s).folioOn = s.folioOn ∧ (linkRestored s).strokeBase = s.strokeBase ∧ (linkRestored s).resyncAt = s.resyncAt ∧ (linkRestored s).regs = s.regs ∧ (linkRestored s).pairs = s.pairs ∧ (linkRestored s).writes = s.writes ∧ (linkRestored s).staged = s.staged ∧ (linkRestored s).rubric = s.rubric ∧ (linkRestored s).trustBySpi = s.trustBySpi ∧ (linkRestored s).trustConfigured = s.trustConfigured ∧ (linkRestored s).localEvents = s.localEvents ∧ (linkRestored s).localLost = s.localLost ∧ (linkRestored s).disc = s.disc ∧ (linkRestored s).clusters = s.clusters ∧ (linkRestored s).engines = s.engines ∧ (linkRestored s).regionTemp = s.regionTemp ∧ (linkRestored s).lanes = s.lanes ∧ (linkRestored s).modes = s.modes ∧ (linkRestored s).img = s.img ∧ (linkRestored s).nor = s.nor ∧ (linkRestored s).sealUnit = s.sealUnit ∧ (linkRestored s).input = s.input ∧ (linkRestored s).vauxOk = s.vauxOk ∧ (linkRestored s).ptp = s.ptp ∧ (linkRestored s).eth = s.eth ∧ (linkRestored s).prp = s.prp ∧ (linkRestored s).timelines = s.timelines ∧ (linkRestored s).cvis = s.cvis ∧ (linkRestored s).ligs = s.ligs ∧ (linkRestored s).func = s.func ∧ (linkRestored s).pins = s.pins := by
  simp [linkRestored, quarantineOff_keeps _ _]

theorem railFail_keeps (s : State) : (railFail s).now = s.now ∧ (railFail s).pending = s.pending ∧ (railFail s).out = s.out ∧ (railFail s).freeCtr = s.freeCtr ∧ (railFail s).limits = s.limits ∧ (railFail s).localEvents = s.localEvents ∧ (railFail s).localLost = s.localLost ∧ (railFail s).nor = s.nor ∧ (railFail s).input = s.input ∧ (railFail s).vauxOk = s.vauxOk ∧ (railFail s).pins = s.pins := by
  generalize h : railFail s = t; unfold railFail at h; dsimp only at h; (repeat' split at h) <;> (subst h; simp [*, converterOff_keeps _ _, folioReset_keeps _ _, followInput_keeps _, setPower_keeps _ _ _])

theorem answerMode_keeps (s : State) (code : Nat) : KeepsBoard (answerMode s code) s ∧ KeepsHosts (answerMode s code) s ∧ (answerMode s code).out = s.out ∧ (answerMode s code).freeCtr = s.freeCtr ∧ (answerMode s code).limits = s.limits ∧ (answerMode s code).regs = s.regs ∧ (answerMode s code).rcSpi = s.rcSpi ∧ (answerMode s code).rcPf = s.rcPf ∧ (answerMode s code).pal = s.pal ∧ (answerMode s code).margin = s.margin ∧ (answerMode s code).blot = s.blot ∧ (answerMode s code).power = s.power ∧ (answerMode s code).pd = s.pd ∧ (answerMode s code).devices = s.devices ∧ (answerMode s code).pcie = s.pcie ∧ (answerMode s code).cvis = s.cvis ∧ (answerMode s code).cviews = s.cviews ∧ (answerMode s code).cports = s.cports ∧ (answerMode s code).ligs = s.ligs ∧ (answerMode s code).func = s.func := by
  simp [answerMode]

theorem modeManaged_keeps (s : State) : KeepsBoard (modeManaged s) s ∧ (modeManaged s).out = s.out ∧ (modeManaged s).freeCtr = s.freeCtr ∧ (modeManaged s).regs = s.regs ∧ (modeManaged s).blot = s.blot ∧ (modeManaged s).power = s.power ∧ (modeManaged s).pd = s.pd ∧ (modeManaged s).vis = s.vis ∧ (modeManaged s).devices = s.devices ∧ (modeManaged s).eps = s.eps ∧ (modeManaged s).nibs = s.nibs ∧ (modeManaged s).qps = s.qps ∧ (modeManaged s).pcie = s.pcie ∧ (modeManaged s).ink = s.ink ∧ (modeManaged s).cviews = s.cviews ∧ (modeManaged s).cports = s.cports ∧ (modeManaged s).ligs = s.ligs ∧ (modeManaged s).func = s.func := by
  generalize h : modeManaged s = t; unfold modeManaged at h; (repeat' split at h) <;> (subst h; simp [*, answerMode_keeps _ _, enterMode_keeps _ _, homeStampAll_keeps _, refuseMode_keeps _ _])

theorem startSuspend_keeps (s : State) : KeepsBoard (startSuspend s) s ∧ (startSuspend s).freeCtr = s.freeCtr ∧ (startSuspend s).limits = s.limits ∧ (startSuspend s).regs = s.regs ∧ (startSuspend s).rcSpi = s.rcSpi ∧ (startSuspend s).rcPf = s.rcPf ∧ (startSuspend s).pal = s.pal ∧ (startSuspend s).margin = s.margin ∧ (startSuspend s).blot = s.blot ∧ (startSuspend s).power = s.power ∧ (startSuspend s).pd = s.pd ∧ (startSuspend s).own = s.own ∧ (startSuspend s).vis = s.vis ∧ (startSuspend s).devices = s.devices ∧ (startSuspend s).qps = s.qps ∧ (startSuspend s).pcie = s.pcie ∧ (startSuspend s).ink = s.ink ∧ (startSuspend s).cvis = s.cvis ∧ (startSuspend s).cviews = s.cviews ∧ (startSuspend s).cports = s.cports ∧ (startSuspend s).ligs = s.ligs ∧ (startSuspend s).func = s.func := by
  generalize h : startSuspend s = t; unfold startSuspend at h; (repeat' split at h) <;> (subst h; simp [*, treeSuspend_keeps _ _])

theorem modeSuspend_keeps (s : State) : KeepsBoard (modeSuspend s) s ∧ (modeSuspend s).freeCtr = s.freeCtr ∧ (modeSuspend s).limits = s.limits ∧ (modeSuspend s).regs = s.regs ∧ (modeSuspend s).pal = s.pal ∧ (modeSuspend s).margin = s.margin ∧ (modeSuspend s).blot = s.blot ∧ (modeSuspend s).power = s.power ∧ (modeSuspend s).pd = s.pd ∧ (modeSuspend s).own = s.own ∧ (modeSuspend s).vis = s.vis ∧ (modeSuspend s).devices = s.devices ∧ (modeSuspend s).qps = s.qps ∧ (modeSuspend s).pcie = s.pcie ∧ (modeSuspend s).ink = s.ink ∧ (modeSuspend s).cvis = s.cvis ∧ (modeSuspend s).cviews = s.cviews ∧ (modeSuspend s).cports = s.cports ∧ (modeSuspend s).ligs = s.ligs ∧ (modeSuspend s).func = s.func := by
  generalize h : modeSuspend s = t; unfold modeSuspend at h; (repeat' split at h) <;> (subst h; simp [*, answerMode_keeps _ _, refuseMode_keeps _ _, startSuspend_keeps _])

theorem enterStandby_keeps (s : State) : (enterStandby s).now = s.now ∧ (enterStandby s).pending = s.pending ∧ (enterStandby s).folioOn = s.folioOn ∧ (enterStandby s).strokeBase = s.strokeBase ∧ (enterStandby s).resyncAt = s.resyncAt ∧ (enterStandby s).pairs = s.pairs ∧ (enterStandby s).writes = s.writes ∧ (enterStandby s).staged = s.staged ∧ (enterStandby s).trustBySpi = s.trustBySpi ∧ (enterStandby s).trustConfigured = s.trustConfigured ∧ (enterStandby s).link = s.link ∧ (enterStandby s).localEvents = s.localEvents ∧ (enterStandby s).localLost = s.localLost ∧ (enterStandby s).disc = s.disc ∧ (enterStandby s).clusters = s.clusters ∧ (enterStandby s).engines = s.engines ∧ (enterStandby s).regionTemp = s.regionTemp ∧ (enterStandby s).lanes = s.lanes ∧ (enterStandby s).nor = s.nor ∧ (enterStandby s).blot = s.blot ∧ (enterStandby s).sealUnit = s.sealUnit ∧ (enterStandby s).input = s.input ∧ (enterStandby s).vauxOk = s.vauxOk ∧ (enterStandby s).ptp = s.ptp ∧ (enterStandby s).prp = s.prp ∧ (enterStandby s).timelines = s.timelines ∧ (enterStandby s).pins = s.pins := by
  simp [enterStandby, abandonImage_keeps _, decideNow_keeps _, disableOpen_keeps _ _, dropHosts_keeps _, enterMode_keeps _ _, lastNotices_keeps _]

theorem modeStandby_keeps (s : State) : (modeStandby s).now = s.now ∧ (modeStandby s).pending = s.pending ∧ (modeStandby s).folioOn = s.folioOn ∧ (modeStandby s).strokeBase = s.strokeBase ∧ (modeStandby s).resyncAt = s.resyncAt ∧ (modeStandby s).pairs = s.pairs ∧ (modeStandby s).writes = s.writes ∧ (modeStandby s).staged = s.staged ∧ (modeStandby s).trustBySpi = s.trustBySpi ∧ (modeStandby s).trustConfigured = s.trustConfigured ∧ (modeStandby s).link = s.link ∧ (modeStandby s).localEvents = s.localEvents ∧ (modeStandby s).localLost = s.localLost ∧ (modeStandby s).disc = s.disc ∧ (modeStandby s).clusters = s.clusters ∧ (modeStandby s).engines = s.engines ∧ (modeStandby s).regionTemp = s.regionTemp ∧ (modeStandby s).lanes = s.lanes ∧ (modeStandby s).nor = s.nor ∧ (modeStandby s).blot = s.blot ∧ (modeStandby s).sealUnit = s.sealUnit ∧ (modeStandby s).input = s.input ∧ (modeStandby s).vauxOk = s.vauxOk ∧ (modeStandby s).ptp = s.ptp ∧ (modeStandby s).prp = s.prp ∧ (modeStandby s).timelines = s.timelines ∧ (modeStandby s).pins = s.pins := by
  generalize h : modeStandby s = t; unfold modeStandby at h; (repeat' split at h) <;> (subst h; simp [*, answerMode_keeps _ _, enterStandby_keeps _, refuseMode_keeps _ _])

theorem modeWake_keeps (s : State) : (modeWake s).now = s.now ∧ (modeWake s).pending = s.pending ∧ (modeWake s).localEvents = s.localEvents ∧ (modeWake s).localLost = s.localLost ∧ (modeWake s).vauxOk = s.vauxOk ∧ (modeWake s).pins = s.pins := by
  generalize h : modeWake s = t; unfold modeWake at h; (repeat' split at h) <;> (subst h; simp [*, answerMode_keeps _ _, refuseMode_keeps _ _, wakeSource_keeps _, warmBoot_keeps _ _ _])

theorem modeReboot_keeps (s : State) : (modeReboot s).now = s.now ∧ (modeReboot s).pending = s.pending ∧ (modeReboot s).localEvents = s.localEvents ∧ (modeReboot s).localLost = s.localLost ∧ (modeReboot s).vauxOk = s.vauxOk ∧ (modeReboot s).pins = s.pins := by
  generalize h : modeReboot s = t; unfold modeReboot at h; (repeat' split at h) <;> (subst h; simp [*, answerMode_keeps _ _, refuseMode_keeps _ _, warmBoot_keeps _ _ _])

end Sys2Proof.Machine
end

