-- ==== Sys2Proof/Laws/FrameSetupSpace.lean ====
section
/-! SUPPORT. What the operations of Machine/SetupSpace.lean leave as it was: one lemma for each, over every input, and over every outcome of it.
A proof names the ones it needs, each applied: simp [op_keeps _ _] rewrites every field that op leaves. -/

namespace Sys2Proof.Machine

theorem readLow_keeps (s : State) (p : Path) (a : Nat) : KeepsPorts (readLow s p a).1 s ∧ KeepsHosts (readLow s p a).1 s ∧ (readLow s p a).1.now = s.now ∧ (readLow s p a).1.pending = s.pending ∧ (readLow s p a).1.out = s.out ∧ (readLow s p a).1.limits = s.limits ∧ (readLow s p a).1.folioOn = s.folioOn ∧ (readLow s p a).1.strokeBase = s.strokeBase ∧ (readLow s p a).1.resyncAt = s.resyncAt ∧ (readLow s p a).1.rcSpi = s.rcSpi ∧ (readLow s p a).1.rcPf = s.rcPf ∧ (readLow s p a).1.writes = s.writes ∧ (readLow s p a).1.staged = s.staged ∧ (readLow s p a).1.rubric = s.rubric ∧ (readLow s p a).1.trustBySpi = s.trustBySpi ∧ (readLow s p a).1.trustConfigured = s.trustConfigured ∧ (readLow s p a).1.link = s.link ∧ (readLow s p a).1.localEvents = s.localEvents ∧ (readLow s p a).1.localLost = s.localLost ∧ (readLow s p a).1.pal = s.pal ∧ (readLow s p a).1.margin = s.margin ∧ (readLow s p a).1.disc = s.disc ∧ (readLow s p a).1.clusters = s.clusters ∧ (readLow s p a).1.engines = s.engines ∧ (readLow s p a).1.regionTemp = s.regionTemp ∧ (readLow s p a).1.lanes = s.lanes ∧ (readLow s p a).1.img = s.img ∧ (readLow s p a).1.nor = s.nor ∧ (readLow s p a).1.sealUnit = s.sealUnit ∧ (readLow s p a).1.input = s.input ∧ (readLow s p a).1.vauxOk = s.vauxOk ∧ (readLow s p a).1.ptp = s.ptp ∧ (readLow s p a).1.eth = s.eth ∧ (readLow s p a).1.prp = s.prp ∧ (readLow s p a).1.pcie = s.pcie ∧ (readLow s p a).1.timelines = s.timelines ∧ (readLow s p a).1.pins = s.pins := by
  simp [readLow]

theorem readHigh_keeps (s : State) (p : Path) (a : Nat) : KeepsPorts (readHigh s p a).1 s ∧ KeepsHosts (readHigh s p a).1 s ∧ (readHigh s p a).1.now = s.now ∧ (readHigh s p a).1.pending = s.pending ∧ (readHigh s p a).1.out = s.out ∧ (readHigh s p a).1.limits = s.limits ∧ (readHigh s p a).1.folioOn = s.folioOn ∧ (readHigh s p a).1.strokeBase = s.strokeBase ∧ (readHigh s p a).1.resyncAt = s.resyncAt ∧ (readHigh s p a).1.rcSpi = s.rcSpi ∧ (readHigh s p a).1.rcPf = s.rcPf ∧ (readHigh s p a).1.writes = s.writes ∧ (readHigh s p a).1.staged = s.staged ∧ (readHigh s p a).1.rubric = s.rubric ∧ (readHigh s p a).1.trustBySpi = s.trustBySpi ∧ (readHigh s p a).1.trustConfigured = s.trustConfigured ∧ (readHigh s p a).1.link = s.link ∧ (readHigh s p a).1.localEvents = s.localEvents ∧ (readHigh s p a).1.localLost = s.localLost ∧ (readHigh s p a).1.pal = s.pal ∧ (readHigh s p a).1.margin = s.margin ∧ (readHigh s p a).1.disc = s.disc ∧ (readHigh s p a).1.clusters = s.clusters ∧ (readHigh s p a).1.engines = s.engines ∧ (readHigh s p a).1.regionTemp = s.regionTemp ∧ (readHigh s p a).1.lanes = s.lanes ∧ (readHigh s p a).1.img = s.img ∧ (readHigh s p a).1.nor = s.nor ∧ (readHigh s p a).1.sealUnit = s.sealUnit ∧ (readHigh s p a).1.input = s.input ∧ (readHigh s p a).1.vauxOk = s.vauxOk ∧ (readHigh s p a).1.ptp = s.ptp ∧ (readHigh s p a).1.eth = s.eth ∧ (readHigh s p a).1.prp = s.prp ∧ (readHigh s p a).1.pcie = s.pcie ∧ (readHigh s p a).1.timelines = s.timelines ∧ (readHigh s p a).1.pins = s.pins := by
  generalize h : readHigh s p a = t; unfold readHigh at h; (repeat' split at h) <;> (subst h; simp [*])

theorem readStatus_keeps (s : State) (p : Path) (a : Nat) : KeepsPorts (readStatus s p a).1 s ∧ KeepsHosts (readStatus s p a).1 s ∧ (readStatus s p a).1.now = s.now ∧ (readStatus s p a).1.pending = s.pending ∧ (readStatus s p a).1.out = s.out ∧ (readStatus s p a).1.limits = s.limits ∧ (readStatus s p a).1.folioOn = s.folioOn ∧ (readStatus s p a).1.strokeBase = s.strokeBase ∧ (readStatus s p a).1.resyncAt = s.resyncAt ∧ (readStatus s p a).1.writes = s.writes ∧ (readStatus s p a).1.staged = s.staged ∧ (readStatus s p a).1.rubric = s.rubric ∧ (readStatus s p a).1.trustBySpi = s.trustBySpi ∧ (readStatus s p a).1.trustConfigured = s.trustConfigured ∧ (readStatus s p a).1.link = s.link ∧ (readStatus s p a).1.localEvents = s.localEvents ∧ (readStatus s p a).1.localLost = s.localLost ∧ (readStatus s p a).1.disc = s.disc ∧ (readStatus s p a).1.clusters = s.clusters ∧ (readStatus s p a).1.engines = s.engines ∧ (readStatus s p a).1.regionTemp = s.regionTemp ∧ (readStatus s p a).1.lanes = s.lanes ∧ (readStatus s p a).1.img = s.img ∧ (readStatus s p a).1.nor = s.nor ∧ (readStatus s p a).1.sealUnit = s.sealUnit ∧ (readStatus s p a).1.input = s.input ∧ (readStatus s p a).1.vauxOk = s.vauxOk ∧ (readStatus s p a).1.ptp = s.ptp ∧ (readStatus s p a).1.eth = s.eth ∧ (readStatus s p a).1.prp = s.prp ∧ (readStatus s p a).1.pcie = s.pcie ∧ (readStatus s p a).1.timelines = s.timelines ∧ (readStatus s p a).1.pins = s.pins := by
  generalize h : readStatus s p a = t; unfold readStatus at h; (repeat' split at h) <;> (subst h; simp [*, bcHeadRead_keeps _ _ _, readHigh_keeps _ _ _, readLow_keeps _ _ _])

theorem readReg_keeps (s : State) (p : Path) (a : Nat) : KeepsPorts (readReg s p a).1 s ∧ KeepsHosts (readReg s p a).1 s ∧ (readReg s p a).1.now = s.now ∧ (readReg s p a).1.pending = s.pending ∧ (readReg s p a).1.out = s.out ∧ (readReg s p a).1.limits = s.limits ∧ (readReg s p a).1.folioOn = s.folioOn ∧ (readReg s p a).1.strokeBase = s.strokeBase ∧ (readReg s p a).1.resyncAt = s.resyncAt ∧ (readReg s p a).1.writes = s.writes ∧ (readReg s p a).1.staged = s.staged ∧ (readReg s p a).1.rubric = s.rubric ∧ (readReg s p a).1.trustBySpi = s.trustBySpi ∧ (readReg s p a).1.trustConfigured = s.trustConfigured ∧ (readReg s p a).1.link = s.link ∧ (readReg s p a).1.localEvents = s.localEvents ∧ (readReg s p a).1.localLost = s.localLost ∧ (readReg s p a).1.disc = s.disc ∧ (readReg s p a).1.clusters = s.clusters ∧ (readReg s p a).1.engines = s.engines ∧ (readReg s p a).1.regionTemp = s.regionTemp ∧ (readReg s p a).1.lanes = s.lanes ∧ (readReg s p a).1.img = s.img ∧ (readReg s p a).1.nor = s.nor ∧ (readReg s p a).1.sealUnit = s.sealUnit ∧ (readReg s p a).1.input = s.input ∧ (readReg s p a).1.vauxOk = s.vauxOk ∧ (readReg s p a).1.ptp = s.ptp ∧ (readReg s p a).1.eth = s.eth ∧ (readReg s p a).1.prp = s.prp ∧ (readReg s p a).1.pcie = s.pcie ∧ (readReg s p a).1.timelines = s.timelines ∧ (readReg s p a).1.pins = s.pins := by
  generalize h : readReg s p a = t; unfold readReg at h; (repeat' split at h) <;> (subst h; simp [*, accessFault_keeps _ _ _, privDenied_keeps _ _ _, rcClear_keeps _ _ _, readStatus_keeps _ _ _])

theorem bitsDo_proj {α : Type} (p : State → α) (w : Word) (acts : List (Nat × (State → State))) (h : ∀ a ∈ acts, ∀ u, p (a.2 u) = p u) (s : State) : p (bitsDo w acts s) = p s := by
  unfold bitsDo
  induction acts generalizing s with
  | nil => rfl
  | cons a rest ih =>
    simp only [List.mem_cons, forall_eq_or_imp] at h
    rw [List.foldl_cons, ih h.2]
    split
    · exact h.1 s
    · rfl

@[simp] theorem bitsDo_now (w : Word) (acts : List (Nat × (State → State))) (h : ∀ a ∈ acts, ∀ u, (a.2 u).now = u.now) (s : State) : (bitsDo w acts s).now = s.now := bitsDo_proj State.now w acts h s

@[simp] theorem bitsDo_pending (w : Word) (acts : List (Nat × (State → State))) (h : ∀ a ∈ acts, ∀ u, (a.2 u).pending = u.pending) (s : State) : (bitsDo w acts s).pending = s.pending := bitsDo_proj State.pending w acts h s

@[simp] theorem bitsDo_freeCtr (w : Word) (acts : List (Nat × (State → State))) (h : ∀ a ∈ acts, ∀ u, (a.2 u).freeCtr = u.freeCtr) (s : State) : (bitsDo w acts s).freeCtr = s.freeCtr := bitsDo_proj State.freeCtr w acts h s

@[simp] theorem bitsDo_folioOn (w : Word) (acts : List (Nat × (State → State))) (h : ∀ a ∈ acts, ∀ u, (a.2 u).folioOn = u.folioOn) (s : State) : (bitsDo w acts s).folioOn = s.folioOn := bitsDo_proj State.folioOn w acts h s

@[simp] theorem bitsDo_strokeBase (w : Word) (acts : List (Nat × (State → State))) (h : ∀ a ∈ acts, ∀ u, (a.2 u).strokeBase = u.strokeBase) (s : State) : (bitsDo w acts s).strokeBase = s.strokeBase := bitsDo_proj State.strokeBase w acts h s

@[simp] theorem bitsDo_resyncAt (w : Word) (acts : List (Nat × (State → State))) (h : ∀ a ∈ acts, ∀ u, (a.2 u).resyncAt = u.resyncAt) (s : State) : (bitsDo w acts s).resyncAt = s.resyncAt := bitsDo_proj State.resyncAt w acts h s

@[simp] theorem bitsDo_regs (w : Word) (acts : List (Nat × (State → State))) (h : ∀ a ∈ acts, ∀ u, (a.2 u).regs = u.regs) (s : State) : (bitsDo w acts s).regs = s.regs := bitsDo_proj State.regs w acts h s

@[simp] theorem bitsDo_pairs (w : Word) (acts : List (Nat × (State → State))) (h : ∀ a ∈ acts, ∀ u, (a.2 u).pairs = u.pairs) (s : State) : (bitsDo w acts s).pairs = s.pairs := bitsDo_proj State.pairs w acts h s

@[simp] theorem bitsDo_writes (w : Word) (acts : List (Nat × (State → State))) (h : ∀ a ∈ acts, ∀ u, (a.2 u).writes = u.writes) (s : State) : (bitsDo w acts s).writes = s.writes := bitsDo_proj State.writes w acts h s

@[simp] theorem bitsDo_staged (w : Word) (acts : List (Nat × (State → State))) (h : ∀ a ∈ acts, ∀ u, (a.2 u).staged = u.staged) (s : State) : (bitsDo w acts s).staged = s.staged := bitsDo_proj State.staged w acts h s

@[simp] theorem bitsDo_rubric (w : Word) (acts : List (Nat × (State → State))) (h : ∀ a ∈ acts, ∀ u, (a.2 u).rubric = u.rubric) (s : State) : (bitsDo w acts s).rubric = s.rubric := bitsDo_proj State.rubric w acts h s

@[simp] theorem bitsDo_trustBySpi (w : Word) (acts : List (Nat × (State → State))) (h : ∀ a ∈ acts, ∀ u, (a.2 u).trustBySpi = u.trustBySpi) (s : State) : (bitsDo w acts s).trustBySpi = s.trustBySpi := bitsDo_proj State.trustBySpi w acts h s

@[simp] theorem bitsDo_trustConfigured (w : Word) (acts : List (Nat × (State → State))) (h : ∀ a ∈ acts, ∀ u, (a.2 u).trustConfigured = u.trustConfigured) (s : State) : (bitsDo w acts s).trustConfigured = s.trustConfigured := bitsDo_proj State.trustConfigured w acts h s

@[simp] theorem bitsDo_link (w : Word) (acts : List (Nat × (State → State))) (h : ∀ a ∈ acts, ∀ u, (a.2 u).link = u.link) (s : State) : (bitsDo w acts s).link = s.link := bitsDo_proj State.link w acts h s

@[simp] theorem bitsDo_localEvents (w : Word) (acts : List (Nat × (State → State))) (h : ∀ a ∈ acts, ∀ u, (a.2 u).localEvents = u.localEvents) (s : State) : (bitsDo w acts s).localEvents = s.localEvents := bitsDo_proj State.localEvents w acts h s

@[simp] theorem bitsDo_localLost (w : Word) (acts : List (Nat × (State → State))) (h : ∀ a ∈ acts, ∀ u, (a.2 u).localLost = u.localLost) (s : State) : (bitsDo w acts s).localLost = s.localLost := bitsDo_proj State.localLost w acts h s

@[simp] theorem bitsDo_disc (w : Word) (acts : List (Nat × (State → State))) (h : ∀ a ∈ acts, ∀ u, (a.2 u).disc = u.disc) (s : State) : (bitsDo w acts s).disc = s.disc := bitsDo_proj State.disc w acts h s

@[simp] theorem bitsDo_clusters (w : Word) (acts : List (Nat × (State → State))) (h : ∀ a ∈ acts, ∀ u, (a.2 u).clusters = u.clusters) (s : State) : (bitsDo w acts s).clusters = s.clusters := bitsDo_proj State.clusters w acts h s

@[simp] theorem bitsDo_engines (w : Word) (acts : List (Nat × (State → State))) (h : ∀ a ∈ acts, ∀ u, (a.2 u).engines = u.engines) (s : State) : (bitsDo w acts s).engines = s.engines := bitsDo_proj State.engines w acts h s

@[simp] theorem bitsDo_regionTemp (w : Word) (acts : List (Nat × (State → State))) (h : ∀ a ∈ acts, ∀ u, (a.2 u).regionTemp = u.regionTemp) (s : State) : (bitsDo w acts s).regionTemp = s.regionTemp := bitsDo_proj State.regionTemp w acts h s

@[simp] theorem bitsDo_lanes (w : Word) (acts : List (Nat × (State → State))) (h : ∀ a ∈ acts, ∀ u, (a.2 u).lanes = u.lanes) (s : State) : (bitsDo w acts s).lanes = s.lanes := bitsDo_proj State.lanes w acts h s

@[simp] theorem bitsDo_modes (w : Word) (acts : List (Nat × (State → State))) (h : ∀ a ∈ acts, ∀ u, (a.2 u).modes = u.modes) (s : State) : (bitsDo w acts s).modes = s.modes := bitsDo_proj State.modes w acts h s

@[simp] theorem bitsDo_img (w : Word) (acts : List (Nat × (State → State))) (h : ∀ a ∈ acts, ∀ u, (a.2 u).img = u.img) (s : State) : (bitsDo w acts s).img = s.img := bitsDo_proj State.img w acts h s

@[simp] theorem bitsDo_nor (w : Word) (acts : List (Nat × (State → State))) (h : ∀ a ∈ acts, ∀ u, (a.2 u).nor = u.nor) (s : State) : (bitsDo w acts s).nor = s.nor := bitsDo_proj State.nor w acts h s

@[simp] theorem bitsDo_blot (w : Word) (acts : List (Nat × (State → State))) (h : ∀ a ∈ acts, ∀ u, (a.2 u).blot = u.blot) (s : State) : (bitsDo w acts s).blot = s.blot := bitsDo_proj State.blot w acts h s

@[simp] theorem bitsDo_sealUnit (w : Word) (acts : List (Nat × (State → State))) (h : ∀ a ∈ acts, ∀ u, (a.2 u).sealUnit = u.sealUnit) (s : State) : (bitsDo w acts s).sealUnit = s.sealUnit := bitsDo_proj State.sealUnit w acts h s

@[simp] theorem bitsDo_input (w : Word) (acts : List (Nat × (State → State))) (h : ∀ a ∈ acts, ∀ u, (a.2 u).input = u.input) (s : State) : (bitsDo w acts s).input = s.input := bitsDo_proj State.input w acts h s

@[simp] theorem bitsDo_vauxOk (w : Word) (acts : List (Nat × (State → State))) (h : ∀ a ∈ acts, ∀ u, (a.2 u).vauxOk = u.vauxOk) (s : State) : (bitsDo w acts s).vauxOk = s.vauxOk := bitsDo_proj State.vauxOk w acts h s

@[simp] theorem bitsDo_ptp (w : Word) (acts : List (Nat × (State → State))) (h : ∀ a ∈ acts, ∀ u, (a.2 u).ptp = u.ptp) (s : State) : (bitsDo w acts s).ptp = s.ptp := bitsDo_proj State.ptp w acts h s

@[simp] theorem bitsDo_eth (w : Word) (acts : List (Nat × (State → State))) (h : ∀ a ∈ acts, ∀ u, (a.2 u).eth = u.eth) (s : State) : (bitsDo w acts s).eth = s.eth := bitsDo_proj State.eth w acts h s

@[simp] theorem bitsDo_prp (w : Word) (acts : List (Nat × (State → State))) (h : ∀ a ∈ acts, ∀ u, (a.2 u).prp = u.prp) (s : State) : (bitsDo w acts s).prp = s.prp := bitsDo_proj State.prp w acts h s

@[simp] theorem bitsDo_timelines (w : Word) (acts : List (Nat × (State → State))) (h : ∀ a ∈ acts, ∀ u, (a.2 u).timelines = u.timelines) (s : State) : (bitsDo w acts s).timelines = s.timelines := bitsDo_proj State.timelines w acts h s

@[simp] theorem bitsDo_ligs (w : Word) (acts : List (Nat × (State → State))) (h : ∀ a ∈ acts, ∀ u, (a.2 u).ligs = u.ligs) (s : State) : (bitsDo w acts s).ligs = s.ligs := bitsDo_proj State.ligs w acts h s

@[simp] theorem bitsDo_pins (w : Word) (acts : List (Nat × (State → State))) (h : ∀ a ∈ acts, ∀ u, (a.2 u).pins = u.pins) (s : State) : (bitsDo w acts s).pins = s.pins := bitsDo_proj State.pins w acts h s

theorem modeCtrl_keeps (s : State) (w : Word) : (modeCtrl s w).now = s.now ∧ (modeCtrl s w).pending = s.pending ∧ (modeCtrl s w).localEvents = s.localEvents ∧ (modeCtrl s w).localLost = s.localLost ∧ (modeCtrl s w).vauxOk = s.vauxOk ∧ (modeCtrl s w).pins = s.pins := by
  generalize h : modeCtrl s w = t; unfold modeCtrl at h; (repeat' split at h) <;> (subst h; simp [*, modeManaged_keeps _, modeReboot_keeps _, modeStandby_keeps _, modeSuspend_keeps _, modeWake_keeps _, refuseMode_keeps _ _])

theorem w1pGlobal_keeps (s : State) (p : Path) (a : Nat) (w : Word) : (w1pGlobal s p a w).now = s.now ∧ (w1pGlobal s p a w).pending = s.pending ∧ (w1pGlobal s p a w).localEvents = s.localEvents ∧ (w1pGlobal s p a w).localLost = s.localLost ∧ (w1pGlobal s p a w).vauxOk = s.vauxOk ∧ (w1pGlobal s p a w).pins = s.pins := by
  generalize h : w1pGlobal s p a w = t; unfold w1pGlobal at h; (repeat' split at h) <;> (subst h; simp [*, abandonImage_keeps _, advanceFloor_keeps _, fuseOwner_keeps _, imgCommitFree_keeps _, imgOpen_keeps _ _, keyLoad_keeps _ _, keyWithdraw_keeps _ _, modeCtrl_keeps _ _, quarExit_keeps _, returnArm_keeps _, returnDisarm_keeps _, rubricAbort_keeps _, rubricCommit_keeps _ _, timeSample_keeps _])

theorem w1pBlock_keeps (s : State) (p : Path) (a : Nat) (w : Word) : (w1pBlock s p a w).now = s.now ∧ (w1pBlock s p a w).pending = s.pending ∧ (w1pBlock s p a w).localEvents = s.localEvents ∧ (w1pBlock s p a w).localLost = s.localLost ∧ (w1pBlock s p a w).vauxOk = s.vauxOk ∧ (w1pBlock s p a w).pins = s.pins := by
  generalize h : w1pBlock s p a w = t; unfold w1pBlock at h; (repeat' split at h) <;> (subst h; simp [*, flushBoard_keeps _, inputClear_keeps _, inputFetClear_keeps _, irqAck_keeps _, palFreeze_keeps _ _, palNext_keeps _, palPrev_keeps _, palUnfreeze_keeps _ _, palVerify_keeps _, popWord_keeps _, qpReset_keeps _ _, skipNotice_keeps _, startLoad_keeps _, w1pGlobal_keeps _ _ _ _])

theorem w1pPort_keeps (s : State) (p : Path) (n : PortId) (off : Nat) (w : Word) : (w1pPort s p n off w).now = s.now ∧ (w1pPort s p n off w).pending = s.pending ∧ (w1pPort s p n off w).freeCtr = s.freeCtr ∧ (w1pPort s p n off w).folioOn = s.folioOn ∧ (w1pPort s p n off w).strokeBase = s.strokeBase ∧ (w1pPort s p n off w).resyncAt = s.resyncAt ∧ (w1pPort s p n off w).regs = s.regs ∧ (w1pPort s p n off w).pairs = s.pairs ∧ (w1pPort s p n off w).writes = s.writes ∧ (w1pPort s p n off w).staged = s.staged ∧ (w1pPort s p n off w).rubric = s.rubric ∧ (w1pPort s p n off w).trustBySpi = s.trustBySpi ∧ (w1pPort s p n off w).trustConfigured = s.trustConfigured ∧ (w1pPort s p n off w).link = s.link ∧ (w1pPort s p n off w).disc = s.disc ∧ (w1pPort s p n off w).clusters = s.clusters ∧ (w1pPort s p n off w).engines = s.engines ∧ (w1pPort s p n off w).regionTemp = s.regionTemp ∧ (w1pPort s p n off w).lanes = s.lanes ∧ (w1pPort s p n off w).modes = s.modes ∧ (w1pPort s p n off w).img = s.img ∧ (w1pPort s p n off w).nor = s.nor ∧ (w1pPort s p n off w).blot = s.blot ∧ (w1pPort s p n off w).sealUnit = s.sealUnit ∧ (w1pPort s p n off w).input = s.input ∧ (w1pPort s p n off w).vauxOk = s.vauxOk ∧ (w1pPort s p n off w).ptp = s.ptp ∧ (w1pPort s p n off w).eth = s.eth ∧ (w1pPort s p n off w).prp = s.prp ∧ (w1pPort s p n off w).timelines = s.timelines ∧ (w1pPort s p n off w).ligs = s.ligs ∧ (w1pPort s p n off w).pins = s.pins := by
  generalize h : w1pPort s p n off w = t; unfold w1pPort at h; (repeat' split at h) <;> (subst h; simp [*, ownAssign_keeps _ _ _ _, pdErrorRecovery_keeps _ _, pdHardReset_keeps _ _, pdSendCaps_keeps _ _, portClearLatch_keeps _ _, portFetClear_keeps _ _])

theorem takeW1p_keeps (s : State) (p : Path) (a : Nat) (w : Word) : (takeW1p s p a w).now = s.now ∧ (takeW1p s p a w).pending = s.pending ∧ (takeW1p s p a w).vauxOk = s.vauxOk ∧ (takeW1p s p a w).pins = s.pins := by
  generalize h : takeW1p s p a w = t; unfold takeW1p at h; (repeat' split at h) <;> (subst h; simp [*, w1pBlock_keeps _ _ _ _, w1pPort_keeps _ _ _ _ _])

theorem pageWrite_keeps (s : State) (p : Path) (v : RingId) (a : Nat) (w : Word) : (pageWrite s p v a w).now = s.now ∧ (pageWrite s p v a w).pending = s.pending ∧ (pageWrite s p v a w).folioOn = s.folioOn ∧ (pageWrite s p v a w).strokeBase = s.strokeBase ∧ (pageWrite s p v a w).resyncAt = s.resyncAt ∧ (pageWrite s p v a w).pairs = s.pairs ∧ (pageWrite s p v a w).writes = s.writes ∧ (pageWrite s p v a w).staged = s.staged ∧ (pageWrite s p v a w).rubric = s.rubric ∧ (pageWrite s p v a w).trustBySpi = s.trustBySpi ∧ (pageWrite s p v a w).trustConfigured = s.trustConfigured ∧ (pageWrite s p v a w).link = s.link ∧ (pageWrite s p v a w).localEvents = s.localEvents ∧ (pageWrite s p v a w).localLost = s.localLost ∧ (pageWrite s p v a w).disc = s.disc ∧ (pageWrite s p v a w).clusters = s.clusters ∧ (pageWrite s p v a w).engines = s.engines ∧ (pageWrite s p v a w).regionTemp = s.regionTemp ∧ (pageWrite s p v a w).lanes = s.lanes ∧ (pageWrite s p v a w).img = s.img ∧ (pageWrite s p v a w).nor = s.nor ∧ (pageWrite s p v a w).blot = s.blot ∧ (pageWrite s p v a w).sealUnit = s.sealUnit ∧ (pageWrite s p v a w).input = s.input ∧ (pageWrite s p v a w).vauxOk = s.vauxOk ∧ (pageWrite s p v a w).power = s.power ∧ (pageWrite s p v a w).pd = s.pd ∧ (pageWrite s p v a w).ptp = s.ptp ∧ (pageWrite s p v a w).devices = s.devices ∧ (pageWrite s p v a w).eth = s.eth ∧ (pageWrite s p v a w).prp = s.prp ∧ (pageWrite s p v a w).cviews = s.cviews ∧ (pageWrite s p v a w).cports = s.cports ∧ (pageWrite s p v a w).ligs = s.ligs ∧ (pageWrite s p v a w).func = s.func ∧ (pageWrite s p v a w).pins = s.pins := by
  generalize h : pageWrite s p v a w = t; unfold pageWrite at h; (repeat' split at h) <;> (subst h; simp [*, accessFault_keeps _ _ _, accessRecord_keeps _ _ _ _ _, doorbell_keeps _ _ _ _, writePage_keeps _ _ _ _ _])

theorem setupWrite_keeps (s : State) (p : Path) (a : Nat) (w : Word) : (setupWrite s p a w).now = s.now ∧ (setupWrite s p a w).pending = s.pending ∧ (setupWrite s p a w).vauxOk = s.vauxOk ∧ (setupWrite s p a w).pins = s.pins := by
  generalize h : setupWrite s p a w = t; unfold setupWrite at h; (repeat' split at h) <;> (subst h; simp [*, imgData_keeps _ _, pageWrite_keeps _ _ _ _ _, privDenied_keeps _ _ _, takeRw_keeps _ _ _ _ _, takeW1p_keeps _ _ _ _])

end Sys2Proof.Machine
end

