-- ==== Sys2Proof/Laws/FrameRegisterCmds.lean ====
section
/-! SUPPORT. What the operations of Machine/RegisterCmds.lean leave as it was: one lemma for each, over every input, and over every outcome of it.
A proof names the ones it needs, each applied: simp [op_keeps _ _] rewrites every field that op leaves. -/

namespace Sys2Proof.Machine

theorem failReply_keeps (s : State) (p : Path) (a : BitVec 24) (isWrite : Bool) : KeepsBoard (failReply s p a isWrite) s ∧ KeepsHosts (failReply s p a isWrite) s ∧ (failReply s p a isWrite).freeCtr = s.freeCtr ∧ (failReply s p a isWrite).limits = s.limits ∧ (failReply s p a isWrite).regs = s.regs ∧ (failReply s p a isWrite).rcSpi = s.rcSpi ∧ (failReply s p a isWrite).rcPf = s.rcPf ∧ (failReply s p a isWrite).pal = s.pal ∧ (failReply s p a isWrite).margin = s.margin ∧ (failReply s p a isWrite).modes = s.modes ∧ (failReply s p a isWrite).blot = s.blot ∧ (failReply s p a isWrite).power = s.power ∧ (failReply s p a isWrite).pd = s.pd ∧ (failReply s p a isWrite).devices = s.devices ∧ (failReply s p a isWrite).pcie = s.pcie ∧ (failReply s p a isWrite).cvis = s.cvis ∧ (failReply s p a isWrite).cviews = s.cviews ∧ (failReply s p a isWrite).cports = s.cports ∧ (failReply s p a isWrite).ligs = s.ligs := by
  generalize h : failReply s p a isWrite = t; unfold failReply at h; (repeat' split at h) <;> (subst h; simp [*, emit_keeps _ _, funcDrain_keeps _ _, funcPop_keeps _ _])

theorem applyDerate_keeps (s : State) : KeepsBoard (applyDerate s) s ∧ KeepsHosts (applyDerate s) s ∧ (applyDerate s).out = s.out ∧ (applyDerate s).freeCtr = s.freeCtr ∧ (applyDerate s).limits = s.limits ∧ (applyDerate s).regs = s.regs ∧ (applyDerate s).rcSpi = s.rcSpi ∧ (applyDerate s).rcPf = s.rcPf ∧ (applyDerate s).pal = s.pal ∧ (applyDerate s).margin = s.margin ∧ (applyDerate s).modes = s.modes ∧ (applyDerate s).blot = s.blot ∧ (applyDerate s).pd = s.pd ∧ (applyDerate s).devices = s.devices ∧ (applyDerate s).pcie = s.pcie ∧ (applyDerate s).cvis = s.cvis ∧ (applyDerate s).cviews = s.cviews ∧ (applyDerate s).cports = s.cports ∧ (applyDerate s).ligs = s.ligs ∧ (applyDerate s).func = s.func := by
  simp [applyDerate]

end Sys2Proof.Machine
end

