-- ==== Sys2Proof/Laws/Begin.lean ====
section
/-! SUPPORT. What the views of a state read at a command's moment, before its effect; one entry of a vector after a change; the setters of one entry. -/

namespace Sys2Proof.Machine

@[simp] theorem begin_out (t s) : (begin t s).out = [] := by unfold begin; split <;> rfl
@[simp] theorem begin_now (t s) : (begin t s).now = max s.now t := by unfold begin; split <;> simp <;> omega
/-- Time moving on folds both copies of the RC registers, or nothing moved. -/
theorem begin_rc (t s) : ((begin t s).rcSpi = s.rcSpi ∧ (begin t s).rcPf = s.rcPf) ∨ ((begin t s).rcSpi = s.rcSpi.fold ∧ (begin t s).rcPf = s.rcPf.fold) := by
  unfold begin; split <;> simp
/-- What every command's frame answers: the effect at the command's moment, settled, with the queue as it was. -/
theorem act_next (t s f) : act t s f = .next { settle (f (begin t s)) with now := max s.now t, pending := s.pending } := by
  simp only [act, begin_now]
/-- The settling at a command's end leaves all of Margin but the two bits of its interrupt. -/
@[simp] theorem settle_margin (s : State) : (settle s).margin.queues = s.margin.queues ∧ (settle s).margin.opened = s.margin.opened ∧
    (settle s).margin.wordIndex = s.margin.wordIndex ∧ (settle s).margin.aborted = s.margin.aborted ∧
    (settle s).margin.lineHeld = s.margin.lineHeld ∧ (settle s).margin.hbDue = s.margin.hbDue := by
  unfold settle settleIrq; (repeat' split) <;> simp
@[simp] theorem settle_pins (s : State) : (settle s).pins = pinsOf (settleIrq s) := rfl
theorem when_true (s : State) (f : State → State) : when true s f = f s := rfl
theorem when_false (s : State) (f : State → State) : when false s f = s := rfl
theorem vset_get {α : Type} {n : Nat} (v : Vector α n) (i j : Fin n) (x : α) (h) : (v.set i.val x h).get j = if j = i then x else v.get j := by
  show (v.set i.val x h)[j.val] = if j = i then x else v[j.val]
  rw [Vector.getElem_set]; simp [Fin.ext_iff, eq_comm]
/-- An entry of a vector after one entry was changed. -/
theorem vmod_get {α : Type} {n : Nat} (v : Vector α n) (i j : Fin n) (f : α → α) : (vmod v i f).get j = if j = i then f (v.get i) else v.get j := by
  simp [vmod, vset_get]
@[simp] theorem vmod_get_self {α : Type} {n : Nat} (v : Vector α n) (i : Fin n) (f : α → α) : (vmod v i f).get i = f (v.get i) := by
  simp [vmod_get]
@[simp] theorem reg_begin (t s a) : reg (begin t s) a = reg s a := by unfold reg; simp
@[simp] theorem rfld_begin (t s a l n) : rfld (begin t s) a l n = rfld s a l n := by unfold rfld; simp
@[simp] theorem pfld_begin (t s a o l n) : pfld (begin t s) a o l n = pfld s a o l n := by unfold pfld; simp
@[simp] theorem privileged_begin (t s p) : privileged (begin t s) p = privileged s p := by cases p <;> simp [privileged]
@[simp] theorem setCluster_clusters (s : State) (i : Fin 24) (f : Cluster → Cluster) : (setCluster s i f).clusters = vmod s.clusters i f := rfl
@[simp] theorem setEngine_engines (s : State) (i : Fin 96) (f : Engine → Engine) : (setEngine s i f).engines = vmod s.engines i f := rfl
@[simp] theorem setCvi_cvis (s : State) (i : ClassicId) (f : Cvi → Cvi) : (setCvi s i f).cvis = vmod s.cvis i f := rfl
@[simp] theorem setCPort_cports (s : State) (i : PortId) (f : CPort → CPort) : (setCPort s i f).cports = vmod s.cports i f := rfl
@[simp] theorem setLig_ligs (s : State) (i : PortId) (f : Lig → Lig) : (setLig s i f).ligs = vmod s.ligs i f := rfl
@[simp] theorem setPower_power (s : State) (i : PortId) (f : PortPower → PortPower) : (setPower s i f).power = vmod s.power i f := rfl
@[simp] theorem setPd_pd (s : State) (i : PortId) (f : PortPd → PortPd) : (setPd s i f).pd = vmod s.pd i f := rfl
@[simp] theorem setTl_timelines (s : State) (i : RingId) (f : Timeline → Timeline) : (setTl s i f).timelines = vmod s.timelines i f := rfl
@[simp] theorem setVi_vis (s : State) (i : RingId) (f : Vi → Vi) : (setVi s i f).vis = vmod s.vis i f := rfl
@[simp] theorem setNib_nibs (s : State) (i : PortId) (f : Nib → Nib) : (setNib s i f).nibs = vmod s.nibs i f := rfl
@[simp] theorem setOwn_own (s : State) (i : PortId) (f : Own → Own) : (setOwn s i f).own = vmod s.own i f := rfl
@[simp] theorem setQp_qps (s : State) (i : Fin 128) (f : Qp → Qp) : (setQp s i f).qps = vmod s.qps i f := rfl
@[simp] theorem inkOn_begin (t s) : inkOn (begin t s) = inkOn s := by simp [inkOn]
@[simp] theorem viReg_begin (t s v a) : viReg (begin t s) v a = viReg s v a := by simp [viReg]
@[simp] theorem sinkAttached_begin (t s n) : sinkAttached (begin t s) n = sinkAttached s n := by simp [sinkAttached]
@[simp] theorem vbusOn_begin (t s n) : vbusOn (begin t s) n = vbusOn s n := by simp [vbusOn]
@[simp] theorem portLit_begin (t s n) : portLit (begin t s) n = portLit s n := by simp [portLit]
@[simp] theorem evtLog_begin (t s q) : evtLog (begin t s) q = evtLog s q := by simp [evtLog]
@[simp] theorem evtSlots_begin (t s q) : evtSlots (begin t s) q = evtSlots s q := by simp [evtSlots]
@[simp] theorem findEp_begin (t s q) : findEp (begin t s) q = findEp s q := by simp [findEp]
@[simp] theorem portDevices_begin (t s q) : portDevices (begin t s) q = portDevices s q := by simp [portDevices]
@[simp] theorem viRoce_begin (t s v) : viRoce (begin t s) v = viRoce s v := by simp [viRoce, viKind]
@[simp] theorem viKind_begin (t s v) : viKind (begin t s) v = viKind s v := by simp [viKind]
@[simp] theorem ringOwner_begin (t s v) : ringOwner (begin t s) v = ringOwner s v := by simp [ringOwner]
@[simp] theorem maxSpeed_begin (t s v) : maxSpeed (begin t s) v = maxSpeed s v := by simp [maxSpeed]
@[simp] theorem classicOwner_begin (t s v) : classicOwner (begin t s) v = classicOwner s v := by simp [classicOwner]
@[simp] theorem pathsHeld_begin (t s v) : pathsHeld (begin t s) v = pathsHeld s v := by simp [pathsHeld]
@[simp] theorem tileOn_begin (t s v i) : tileOn (begin t s) v i = tileOn s v i := by simp [tileOn, engineOn]
@[simp] theorem busRuns_begin (t s v i) : busRuns (begin t s) v i = busRuns s v i := by simp [busRuns]
@[simp] theorem portEps_begin (t s v) : portEps (begin t s) v = portEps s v := by simp [portEps]
@[simp] theorem epDevice_begin (t s v) : epDevice (begin t s) v = epDevice s v := by simp [epDevice]
@[simp] theorem epSs_begin (t s v) : epSs (begin t s) v = epSs s v := by simp [epSs]
@[simp] theorem ufTick_begin (t s v i) : ufTick (begin t s) v i = ufTick s v i := by simp [ufTick]
@[simp] theorem rootRecord_begin (t s v i) : rootRecord (begin t s) v i = rootRecord s v i := by simp [rootRecord]
@[simp] theorem l1En_begin (t s v) : l1En (begin t s) v = l1En s v := by simp [l1En]
@[simp] theorem u1En_begin (t s v) : u1En (begin t s) v = u1En s v := by simp [u1En]
@[simp] theorem u2En_begin (t s v) : u2En (begin t s) v = u2En s v := by simp [u2En]
@[simp] theorem stuckEn_begin (t s v) : stuckEn (begin t s) v = stuckEn s v := by simp [stuckEn]
@[simp] theorem besl_begin (t s v) : besl (begin t s) v = besl s v := by simp [besl]
@[simp] theorem l1Idle_begin (t s v) : l1Idle (begin t s) v = l1Idle s v := by simp [l1Idle]
@[simp] theorem u2Idle_begin (t s v) : u2Idle (begin t s) v = u2Idle s v := by simp [u2Idle]
@[simp] theorem conflictWindows_begin (t s) : conflictWindows (begin t s) = conflictWindows s := by simp [conflictWindows]
@[simp] theorem conflictPct_begin (t s) : conflictPct (begin t s) = conflictPct s := by simp [conflictPct]
@[simp] theorem hotBank_begin (t s g d) : hotBank (begin t s) g d = hotBank s g d := by ext; simp [hotBank]
@[simp] theorem canPersist_begin (t s) : canPersist (begin t s) = canPersist s := by simp [canPersist, engineOn]
@[simp] theorem hbMs_begin (t s) : hbMs (begin t s) = hbMs s := by simp [hbMs]
@[simp] theorem sealOn_begin (t s) : sealOn (begin t s) = sealOn s := by simp [sealOn, engineOn]
@[simp] theorem gateOn_begin (t s) : gateOn (begin t s) = gateOn s := by simp [gateOn]
@[simp] theorem eccThresh_begin (t s) : eccThresh (begin t s) = eccThresh s := by simp [eccThresh]
@[simp] theorem palSumS_begin (t s) : palSumS (begin t s) = palSumS s := by simp [palSumS]
@[simp] theorem toEnabled_begin (t s) : toEnabled (begin t s) = toEnabled s := by simp [toEnabled]
@[simp] theorem bucketSize_begin (t s v) : bucketSize (begin t s) v = bucketSize s v := by simp [bucketSize, palBurst]
@[simp] theorem bucketInterval_begin (t s v) : bucketInterval (begin t s) v = bucketInterval s v := by simp [bucketInterval, palRefillMs]
@[simp] theorem ringSectors_begin (t s v) : ringSectors (begin t s) v = ringSectors s v := by cases v <;> simp [ringSectors]
@[simp] theorem sectorFor_begin (t s v a b) : sectorFor (begin t s) v a b = sectorFor s v a b := by simp [sectorFor]
@[simp] theorem noCause_begin (t s) : noCause (begin t s) = noCause s := by simp [noCause]
@[simp] theorem afterQuarantine_begin (t s) : afterQuarantine (begin t s) = afterQuarantine s := by simp [afterQuarantine]
@[simp] theorem bcReader_begin (t s) : bcReader (begin t s) = bcReader s := by simp [bcReader]
@[simp] theorem storeSector_begin (t s i) : storeSector (begin t s) i = storeSector s i := by simp [storeSector]
@[simp] theorem retainedSeqs_begin (t s) : retainedSeqs (begin t s) = retainedSeqs s := by simp [retainedSeqs]
@[simp] theorem irqCount_begin (t s) : irqCount (begin t s) = irqCount s := by simp [irqCount]
@[simp] theorem irqThreshold_begin (t s) : irqThreshold (begin t s) = irqThreshold s := by simp [irqThreshold]
@[simp] theorem regionHeld_begin (t s i) : regionHeld (begin t s) i = regionHeld s i := by simp [regionHeld]
@[simp] theorem engineOn_begin (t s i) : engineOn (begin t s) i = engineOn s i := by simp [engineOn]
@[simp] theorem returnOpen_begin (t s) : returnOpen (begin t s) = returnOpen s := by simp [returnOpen]
@[simp] theorem keySectorUsed_begin (t s k) : keySectorUsed (begin t s) k = keySectorUsed s k := by cases k <;> simp [keySectorUsed]

end Sys2Proof.Machine
end

