-- ==== Sys2Proof/Laws/Registers.lean ====
section
/-! SUPPORT. The register store: writing keeps the canonical form, a read after a write, and the copies of the RC registers. -/

namespace Sys2Proof.Machine

theorem wfFrom_put (dflt : Nat → Word) (a : Nat) (v : Word) (f : RegFile) (lo : Option Nat) (hlo : ∀ b, lo = some b → b < a)
    (h : RegFile.wfFrom dflt lo f = true) : RegFile.wfFrom dflt lo (RegFile.put a v (dflt a) f) = true := by
  induction f generalizing lo with
  | nil =>
    unfold RegFile.put
    split
    · rfl
    · rename_i hv
      cases lo with
      | none => simp [RegFile.wfFrom, hv]
      | some b => simp [RegFile.wfFrom, hv, hlo b rfl]
  | cons e rest ih =>
    obtain ⟨b, w⟩ := e
    have hr : RegFile.wfFrom dflt (some b) rest = true := by cases lo <;> simp_all [RegFile.wfFrom]
    unfold RegFile.put
    split
    · rename_i hb
      have := ih (some b) (fun x hx => by cases hx; exact hb) hr
      cases lo <;> simp_all [RegFile.wfFrom]
    · split
      · rename_i hb hab
        subst hab
        split
        · cases rest with
          | nil => rfl
          | cons e2 r2 =>
            obtain ⟨c, x⟩ := e2
            cases lo with
            | none => simp_all [RegFile.wfFrom]
            | some l =>
              have hl := hlo l rfl
              simp only [RegFile.wfFrom, Bool.and_eq_true, decide_eq_true_eq] at hr ⊢
              exact ⟨⟨by omega, hr.1.2⟩, hr.2⟩
        · cases lo <;> simp_all [RegFile.wfFrom]
      · split
        · exact h
        · rename_i hb hab hv
          have hab' : a < b := by omega
          cases lo <;> simp_all [RegFile.wfFrom]

/-- Writing a register keeps the store's canonical form. -/
theorem put_wf (dflt : Nat → Word) (a : Nat) (v : Word) (f : RegFile) (h : f.wf dflt = true) : RegFile.wf dflt (RegFile.put a v (dflt a) f) = true :=
  wfFrom_put dflt a v f none (fun _ hb => by cases hb) h

theorem wfFrom_weaken (dflt : Nat → Word) (f : RegFile) (b c : Nat) (hbc : b ≤ c) (h : RegFile.wfFrom dflt (some c) f = true) :
    RegFile.wfFrom dflt (some b) f = true := by
  cases f with
  | nil => rfl
  | cons e rest =>
    obtain ⟨a, v⟩ := e
    simp only [RegFile.wfFrom, Bool.and_eq_true, decide_eq_true_eq] at h ⊢
    exact ⟨⟨by omega, h.1.2⟩, h.2⟩

theorem wfFrom_filter (dflt : Nat → Word) (p : Nat × Word → Bool) (f : RegFile) (lo : Option Nat) (h : RegFile.wfFrom dflt lo f = true) :
    RegFile.wfFrom dflt lo (f.filter p) = true := by
  induction f generalizing lo with
  | nil => rfl
  | cons e rest ih =>
    obtain ⟨a, v⟩ := e
    have hr : RegFile.wfFrom dflt (some a) rest = true := by cases lo <;> simp_all [RegFile.wfFrom]
    rw [List.filter_cons]
    split
    · have := ih (some a) hr
      cases lo <;> simp_all [RegFile.wfFrom]
    · have := ih (some a) hr
      cases lo with
      | none => cases hf : rest.filter p with
        | nil => rfl
        | cons e2 r2 => rw [hf] at this; simp_all [RegFile.wfFrom]
      | some b =>
        refine wfFrom_weaken dflt _ b a ?_ this
        simp only [RegFile.wfFrom, Bool.and_eq_true, decide_eq_true_eq] at h
        omega

/-- Dropping registers from a store keeps its canonical form. -/
theorem filter_wf (dflt : Nat → Word) (p : Nat × Word → Bool) (f : RegFile) (h : f.wf dflt = true) : RegFile.wf dflt (f.filter p) = true :=
  wfFrom_filter dflt p f none h

theorem find_above (dflt : Nat → Word) (f : RegFile) (a b : Nat) (hab : a ≤ b) (h : RegFile.wfFrom dflt (some b) f = true) : f.find a = none := by
  induction f generalizing b with
  | nil => rfl
  | cons e rest ih =>
    obtain ⟨c, w⟩ := e
    simp only [RegFile.wfFrom, Bool.and_eq_true, decide_eq_true_eq] at h
    have hc : (c == a) = false := by simp; omega
    have := ih c (by omega) h.2
    simp only [RegFile.find, List.find?_cons, hc] at this ⊢
    exact this

theorem find_put_from (dflt : Nat → Word) (a : Nat) (v : Word) (f : RegFile) (lo : Option Nat) (h : RegFile.wfFrom dflt lo f = true) (b : Nat) :
    (RegFile.put a v (dflt a) f).find b = if b = a then (if v = dflt a then none else some v) else f.find b := by
  induction f generalizing lo with
  | nil =>
    unfold RegFile.put
    by_cases hv : v = dflt a <;> by_cases hb : b = a <;> simp [RegFile.find, hv, hb]
    exact fun h => hb h.symm
  | cons e rest ih =>
    obtain ⟨c, w⟩ := e
    have hr : RegFile.wfFrom dflt (some c) rest = true := by cases lo <;> simp_all [RegFile.wfFrom]
    have ih' := ih (some c) hr
    unfold RegFile.put
    split
    · rename_i hc
      by_cases hcb : c = b
      · subst hcb
        have : c ≠ a := by omega
        simp [RegFile.find, this]
      · have hcb' : (c == b) = false := by simpa using hcb
        simp only [RegFile.find, List.find?_cons, hcb'] at ih' ⊢
        exact ih'
    · split
      · rename_i hc1 hc
        subst hc
        have hn : RegFile.find rest c = none := find_above dflt rest c c (Nat.le_refl c) hr
        by_cases hb : b = c
        · subst hb
          by_cases hv : v = dflt b
          · simp [hv, hn]
          · simp [hv, RegFile.find]
        · have hcb : (c == b) = false := by simpa using fun h => hb h.symm
          by_cases hv : v = dflt c <;> simp [hv, hb, RegFile.find, hcb]
      · rename_i hc1 hc
        have hac : a < c := by omega
        by_cases hb : b = a
        · subst hb
          have hn : RegFile.find rest b = none := find_above dflt rest b c (by omega) hr
          have hcb : (c == b) = false := by simp; omega
          have hn' : RegFile.find ((c, w) :: rest) b = none := by
            simp only [RegFile.find, List.find?_cons, hcb]
            exact hn
          by_cases hv : v = dflt b
          · simp [hv, hn']
          · simp [hv, RegFile.find]
        · have hab : (a == b) = false := by simpa using fun h => hb h.symm
          by_cases hv : v = dflt a <;> simp [hv, hb, RegFile.find, hab]

/-- A read of a canonical store after a write: the value written at its address, what it was elsewhere. -/
theorem get_put (dflt : Nat → Word) (a b : Nat) (v : Word) (f : RegFile) (h : f.wf dflt = true) :
    (RegFile.put a v (dflt a) f).get b (dflt b) = if b = a then v else f.get b (dflt b) := by
  unfold RegFile.get
  rw [find_put_from dflt a v f none h b]
  by_cases hb : b = a
  · subst hb
    by_cases hv : v = dflt b <;> simp [hv]
  · simp [hb]

/-- A register after a write to one. -/
theorem reg_setReg (s : State) (a b : Nat) (v : Word) (h : s.regs.wf mapReset = true) : reg (setReg s a v) b = if b = a then v else reg s b :=
  get_put mapReset a b v s.regs h

/-- Writing a register keeps the store canonical. -/
theorem setReg_wf (s : State) (a : Nat) (v : Word) (h : s.regs.wf mapReset = true) : (setReg s a v).regs.wf mapReset = true :=
  put_wf mapReset a v s.regs h

/-- The canonical form of a copy of the RC registers. -/
def RcCopy.Wf (c : RcCopy) : Prop := c.settled.wf (fun _ => 0) = true ∧ c.fresh.wf (fun _ => 0) = true

theorem rcAdd_wf (c : RcCopy) (a : Nat) (v : Word) (h : c.Wf) : (c.add a v).Wf :=
  ⟨h.1, put_wf (fun _ => 0) a _ c.fresh h.2⟩

theorem foldl_put_wf (l : RegFile) (g : RegFile → Nat × Word → Word) (f : RegFile) (h : f.wf (fun _ => 0) = true) :
    (l.foldl (fun f e => RegFile.put e.1 (g f e) 0 f) f).wf (fun _ => 0) = true := by
  induction l generalizing f with
  | nil => exact h
  | cons e l ih => exact ih _ (put_wf (fun _ => 0) e.1 _ f h)

theorem rcFold_wf (c : RcCopy) (h : c.Wf) : c.fold.Wf :=
  ⟨foldl_put_wf c.fresh _ c.settled h.1, rfl⟩

/-- Time moving on folds both copies or leaves them, and keeps them canonical. -/
theorem begin_rc_wf (t : Nat) (s : State) (h : s.rcSpi.Wf ∧ s.rcPf.Wf) : (begin t s).rcSpi.Wf ∧ (begin t s).rcPf.Wf := by
  unfold begin
  split
  · exact ⟨rcFold_wf _ h.1, rcFold_wf _ h.2⟩
  · exact h

end Sys2Proof.Machine
end

