-- ==== Sys2Proof/WellFormed.lean ====
section
/-! DEFINITION. Which commands are well formed: the operands that are plain numbers or lists lie in the width their carrier gives them. The machine itself takes any operand; an ill-formed one stands for no event of the hardware. -/

namespace Sys2Proof

/-- A number below a bound. -/
def below (n x : Nat) : Bool := decide (x < n)

/-- An address of a device is of seven bits, an endpoint number of four (R235). -/
def whoOk : BusWho → Bool
  | .lig _ addr ep _ => below 128 addr && below 16 ep
  | .ep _ | .preview | .addressing | .funcIn => true

/-- A packet holds at most 1024 bytes (R168). -/
def resultOk : BusResult → Bool
  | .data bytes _ | .babble bytes => decide (bytes.length ≤ 1024)
  | .ack | .nak | .nyet | .nrdy | .erdy | .stall | .error | .splitAccepted => true

/-- A VID is of twelve bits, an RCT sequence number of sixteen, a MAC address of 48 (R134, R137). -/
def frameOk (f : EthFrame) : Bool :=
  f.vid.all (below 4096) && f.rct.all (fun r => below 65536 r.1) && below (2 ^ 48) f.src

/-- The fields of a CM REQ lie in their widths, and the nonce is of 16 bytes (R144). -/
def reqOk (r : CmReq) : Bool :=
  below 256 r.version && below 256 r.mrCount && decide (r.nonce.length = 16) && below 256 r.respRes && below 32 r.ackTimeout && below 8 r.retry
    && r.regions.all (fun m => below (2 ^ 64) m.1 && below (2 ^ 32) m.2.1)

/-- Every entry of a ring is of 32 bytes (R109). -/
def entriesOk (es : List (List Byte)) : Bool := es.all (fun b => decide (b.length = 32))

/-- The fields of a split transaction lie in their widths (R235, R236). -/
def splitOk (x : Split) : Bool :=
  below 128 x.addr && below 16 x.ep && below 4 x.type && below 2048 x.frame && below 8 x.y && below 1024 x.payload

/-- A location code is of 40 bits (R24). -/
def siteOk : EccSite → Bool
  | .context _ loc | .device _ _ loc | .viContext _ loc | .qpContext _ loc | .engine _ loc | .ligature _ loc | .margin _ _ loc | .palRam _ loc
  | .descriptors loc | .prpTable _ _ loc | .keySram _ loc => below (2 ^ 40) loc

/-- Well-formed commands. -/
def Instr.wellFormed : Instr → Bool
  | .d2dFrame _ payload _ => decide (payload.length = 8)
  | .reservedDoorbell _ _ offset => decide (offset % 4 = 0) && below 65536 offset
  | .ringFetchComplete _ _ _ entries _ => entriesOk entries
  | .busTransaction _ _ who result => whoOk who && resultOk result
  | .turnaroundTimeout _ _ who => whoOk who
  | .vfEnableClear _ numVfs => below 16 numVfs
  | .ethFrameReceived _ _ frame => frameOk frame
  | .cmReq _ _ req => reqOk req
  | .cmRtu _ _ hostMac => decide (hostMac.length = 16)
  | .pfcFrameReceived _ _ enable xoff => below 256 enable && below 256 xoff
  | .clearHubFeature _ _ feature => below 65536 feature
  | .setPortLinkState _ _ _ state => below 256 state
  | .setPortLinkPmFeature _ _ _ _ value => below 256 value
  | .clearPortChange _ _ _ _ bit => below 8 bit
  | .setHubDepth _ _ depth => below 65536 depth
  | .clearTtBuffer _ _ _ addr ep type _ => below 128 addr && below 16 ep && below 4 type
  | .getDescriptor _ _ _ type index len => below 256 type && below 256 index && below 65536 len
  | .setConfiguration _ _ _ value => below 256 value
  | .setInterface _ _ _ alt => below 256 alt
  | .ssplitReceived _ _ split => splitOk split
  | .csplitReceived _ _ split => splitOk split
  | .periodicResultDiscard _ _ frame uf => below 2048 frame && below 8 uf
  | .conflictWindow _ grants demands => decide (grants.length = 64) && decide (demands.length = 64)
  | .unsupportedMessage _ _ _ type => below 32 type
  | .dvfsUpdate _ _ need0 need1 need2 need3 _ _ => below 49 (max (max need0 need1) (max need2 need3))
  | .bucketRefill _ code _ => below 65536 code
  | .eccUncorrectable _ site => siteOk site
  | .gateAuthorisation _ nonce _ scope => decide (nonce.length = 4) && below 256 scope
  | .vfEnableSet _ numVfs => below 16 numVfs
  | .pcieLinkUp _ speed width bme msixOn _ => below 65536 bme && below 65536 msixOn && below 32 width && below 8 speed
  | .eccCorrected _ site => siteOk site
  | .vinPreRise _ _ | .vinPreCollapse _ | .seatStable _ _ | .seatRelease _ _ | .inrushDone _ _ _ | .inrushTimerExpiry _ | .inputLoss _ _ _ _
  | .inputReturn _ _ | .inputRetryWaitExpiry _ _ | .inputRetryClear _ | .inClear _ _ | .inClearFetFail _ _ | .pgRelease _ _ | .pgFall _ _
  | .earlyWarning _ _ | .earlyWarningClear _ _ | .shedWaitExpiry _ _ | .holdupFlushComplete _ | .parkedInputRestored _ | .vauxFall _ | .vauxRecover _
  | .folioRailFail _ | .folioResetRelease _ _ | .resetNPulse _ _ | .d2dLinkFirstUp _ | .strokeResync _ | .d2dLinkLost _ | .linkLossHoldExpiry _
  | .d2dLinkRestored _ | .bootEnd _ | .gapScanComplete _ | .modeManaged _ _ | .modeSuspend _ _ | .suspendReached _ | .modeStandby _ _
  | .standbyReached _ | .modeWake _ _ | .modeReboot _ _ | .standbyWakeAttach _ _ | .imgOpenFw _ _ | .imgOpenCfg _ _ | .imgEraseDone _ _
  | .imgDataWrite _ _ _ | .imgCommit _ _ _ | .imgAbandon _ _ | .spiReadFrame _ _ | .spiWriteFrame _ _ _ _ | .spiUnknownCommand _ _ | .spiCsRelease _
  | .barRead _ _ _ _ | .barWrite _ _ _ _ _ | .accessTimeout _ _ _ _ | .registerWrite _ _ _ _ | .rcRead _ _ _ | .pairLowRead _ _ _
  | .pfTrustWrite _ _ _ | .ufBoundary _ _ | .frBoundary _ _ | .brkBoundary _ | .pktBoundary _ _ | .pdIdlePoint _ _ | .epochStageWrite _ _ _ _
  | .rubricCommit _ _ | .rubricAbort _ _ | .commitComplete _ | .domainCrcUpdate _ _ | .ownAssign _ _ _ _ | .portDecision _ _ | .leaseExpiry _ _
  | .handoverComplete _ _ | .orphanKeptEntry _ _ | .orphanOffEntry _ _ | .resettingComplete _ _ _ | .viEnable _ _ _ | .viDisable _ _ _
  | .viConfigSend _ _ _ | .cmdDb _ _ _ | .evtDb _ _ _ | .leaseDb _ _ _ | .transferDb _ _ _ _ | .noopCmd _ _ _ | .claim _ _ _ | .release _ _ _
  | .renewLease _ _ _ | .resetPort _ _ _ | .resetPortWarm _ _ _ | .resetPortTimeout _ _ | .suspendPort _ _ _ | .suspendComplete _ _ _
  | .resumePort _ _ _ | .resumeSignalEnd _ _ | .resumeComplete _ _ | .addressDevice _ _ _ | .setAddressRecovery _ _ | .disableDevice _ _ _
  | .configureEndpoint _ _ _ | .bindEndpointRing _ _ _ | .stopEndpoint _ _ _ _ | .resetEndpoint _ _ _ | .disableEndpoint _ _ _ | .setReadAhead _ _ _
  | .readAheadOff _ _ _ | .queryPort _ _ _ | .queryVi _ _ _ | .replay _ _ _ | .resume _ _ _ | .msixIntervalExpiry _ _ | .rdmaAckReceived _ _ _ _
  | .rdmaReadResponse _ _ _ _ | .dmaReadCompletion _ _ _ _ _ | .previewTimeLimit _ _ | .viBindWrite _ _ _ _ | .flr _ _ | .pcieLinkDown _
  | .bmeClear _ _ | .bmeSet _ _ | .ptmRequest _ _ _ _ | .prpEntryExpiry _ | .prpSupervisionSend _ | .lanDown _ _ _ | .repRetryTimeout _ _
  | .cmDreq _ _ | .roceDoorbellWrite _ _ _ _ _ | .ackTimeout _ _ | .nakReceived _ _ | .psnSequenceNak _ _ | .unreachableHoldExpiry _ _
  | .qpReset _ _ _ | .cnpReceived _ _ | .ccRateIncrease _ _ | .ptpSyncAccepted _ _ _ _ _ | .ptpLockTimeout _ | .freeRunSet _ _ | .portSlewComplete _ _
  | .endpointPromotion _ _ | .isochDataFetch _ _ | .usb2ConnectDebounced _ _ _ | .receiverDetect _ _ _ _ | .ssU0Entry _ _ _ | .ssTrainingTimeout _ _
  | .deviceChirpSeen _ _ _ _ | .rootResetEnd _ _ | .resetRecoveryEnd _ _ | .babbleDetected _ _ _ | .usb2Disconnect _ _ | .ssLinkLost _ _
  | .clearTtBufferDone _ _ _ | .l1Entry _ _ _ | .u1Entry _ _ _ | .u2Entry _ _ _ | .lpmRefusalHoldExpiry _ _ | .remoteWake _ _ _ | .stuckProbe _ _ _ _
  | .stuckRetest _ _ _ | .getHubStatus _ _ | .setHubFeature _ _ | .getPortStatus _ _ _ _ | .setPortReset _ _ _ _ | .classicPortResetEnd _ _
  | .setBhPortReset _ _ _ | .ssPortResetTimeout _ _ | .setPortSuspend _ _ _ | .clearPortSuspend _ _ _ | .clearPortEnable _ _ _ | .setPortPower _ _ _
  | .clearPortPower _ _ _ | .setPortTest _ _ _ | .setPortIndicator _ _ _ | .getPortErrCount _ _ _ | .resetTt _ _ _ | .stopTt _ _ _ | .getTtState _ _ _
  | .setDescriptor _ _ | .upstreamResetRecognised _ _ _ | .hsIdleReversion _ _ | .chirpKEnd _ _ | .hostChirpSixth _ _ | .hostChirpTimeout _ _
  | .upstreamResetEnd _ _ _ | .ligatureResultExpiry _ _ | .upDrSwapSend _ | .drSwapRetry _ | .drSwapAnswer _ _ _ | .drSwap _ _ _ | .funcOutPacket _ _
  | .funcRead _ | .funcWrite _ | .funcEcho _ | .funcClearHalt _ _ | .blockGrant _ _ _ _ | .bankWindow _ | .heartbeat _ | .noticeDelivery _ _
  | .bcHeadRead _ _ _ | .bcPop _ _ | .bcSkip _ _ | .bcFlush _ _ | .bcIrqAck _ _ | .irqLineSample _ _ | .irqLineHigh _ | .ccPatternAppear _ _ _ _
  | .ccPatternLost _ _ _ _ | .attachDebounceEnd _ _ | .vbusSwitchOn _ _ _ | .vsafe5vReached _ _ _ | .vconnStable _ _ | .cableDiscoveryRetry _ _
  | .sourceCapsSend _ _ | .sourceCapsRetry _ _ | .goodcrcReceived _ _ _ | .goodcrcTimeout _ _ _ | .senderResponseTimeout _ _ | .request _ _ _ _ _
  | .eprRequest _ _ _ _ _ | .transitionStart _ _ | .psRdySend _ _ _ | .transitionBoundMissed _ _ | .sinkTxWaitEnd _ _ | .getSourceCap _ _ _
  | .softReset _ _ | .pdMessageUnexpected _ _ _ _ | .hardResetReceived _ _ | .hardResetVbusOff _ _ | .srcRecoverEnd _ _ | .errorRecoveryEnd _ _
  | .eprModeEnter _ _ _ | .eprModeExit _ _ _ | .eprKeepalive _ _ _ | .eprGetSourceCap _ _ _ | .eprKeepaliveTimeout _ _ | .ppsTimeout _ _
  | .getStatus _ _ _ | .getPpsStatus _ _ _ | .getSourceInfo _ _ _ | .getRevision _ _ _ | .getSourceCapExtended _ _ _ | .getManufacturerInfo _ _ _
  | .ignoredMessage _ _ _ _ | .bist _ _ _ _ | .discoverIdentity _ _ _ | .structuredVdmNak _ _ _ | .cableIdentityAck _ _ _ _ | .alertSend _ _
  | .reclaimTimer _ _ | .reclaimRestore _ _ | .pdSendCaps _ _ _ | .pdHardReset _ _ _ | .pdErrorRecovery _ _ _ | .detachDebounceStart _ _ _ _
  | .ccDetach _ _ | .vsafe0vReached _ _ _ | .ccShortProbe _ _ _ _ | .ccOvervoltage _ _ _ | .ccFaultRetest _ _ _ _ | .vconnFault _ _ _
  | .converterReady _ _ _ | .preswitchCheckDone _ _ _ _ | .vsetTrim _ _ _ | .breakerEval _ _ _ _ _ _ | .fastTrip _ _ | .ppsCurrentLimitStep _ _ _
  | .thermalUpdate _ _ _ _ _ | .passDeviceFault _ _ _ | .clearFetFail _ _ _ | .fetClearCheckEnd _ _ _ | .clearLatch _ _ _ | .portRetry _ _
  | .portRetryClear _ _ | .shareIncreaseApply _ _ | .shedRestore _ _ | .timeSample _ _ | .dvfsVoltageDown _ _ _ _ _ | .regionTempCap _ _ _ _
  | .regionTempUncap _ _ _ | .eqAdaptStep _ _ _ _ _ _ | .recordCommit _ _ | .sectorRecycle _ _ _ | .summaryPeriodClose _ | .palFreeze _ _
  | .palUnfreeze _ _ | .palVerify _ _ | .palVerifyDone _ | .palLoad _ _ | .palNext _ _ | .palPrev _ _ | .recordLoadReady _ | .eccWindow _
  | .watchdogExpiry _ _ | .engineRestartComplete _ _ | .temperatureExceeded _ _ _ | .temperatureCleared _ _ _ | .quarExit _ _ | .advanceFloor _ _
  | .returnArm _ _ | .returnDisarm _ _ | .returnArmLapse _ | .keyLoad _ _ _ | .keyWithdraw _ _ _ | .fuseOwner _ _ | .keySetCommitted _ _
  | .gateNonceRead _ | .gateVerifyDone _ _ | .gateNonceExpiry _ | .upstreamSuspend _ _ | .upstreamResume _ _ | .upstreamLpmToken _ _
  | .upstreamSsLinkChange _ _ _ | .flrComplete _ _ _ | .fetClearWindowTimeout _ _ | .descriptorStoreReloaded _ | .keyReloaded _ _ => true

end Sys2Proof
end

