-- ==== Sys2Proof/Tests/Slice0.lean ====
section
/-! SUPPORT. The model's own tests: an ill-formed command for each check, a state for the hypotheses of each statement, and small checks of single commands. -/

set_option Elab.async false

open Sys2Proof Sys2Proof.Machine Sys2Proof.Safety

namespace Sys2Proof.Tests

/-! ### Ill-formed commands, one for each check -/

/-- A frame of no content. -/
def frame0 : EthFrame :=
  { fcsOk := true, buffered := true, vid := none, src := 0, rct := none, supervision := false, slot := none, ce := false, prio := 0, fill := 0, bytes := [] }

/-- A CM REQ whose fields fit. -/
def req0 : CmReq :=
  { serviceId := 0, version := 1, vi := 2, mrCount := 0, nonce := List.replicate 16 0, regions := [], respRes := 4, pmtu := 3, ackTimeout := 14, retry := 7 }

/-- A split transaction whose fields fit. -/
def split0 : Split := { periodic := false, addr := 1, ep := 1, type := 2, isIn := true, frame := 0, y := 0, payload := 0 }

theorem test_wf_good : (Instr.ethFrameReceived 0 false frame0).wellFormed = true ∧ (Instr.cmReq 0 false req0).wellFormed = true ∧ (Instr.ssplitReceived 0 3 split0).wellFormed = true := by decide

theorem test_wf_d2d_length : (Instr.d2dFrame 0 [0, 0] 0).wellFormed = false := by decide +kernel

theorem test_wf_reserved_doorbell_alignment : (Instr.reservedDoorbell 0 2 0x802).wellFormed = false := by decide +kernel

theorem test_wf_ring_entry_length : (Instr.ringFetchComplete 0 2 .cmd [[0]] false).wellFormed = false := by decide +kernel

theorem test_wf_bus_transaction_packet : (Instr.busTransaction 0 3 (.ep 5) (.data (List.replicate 1025 0) true)).wellFormed = false := by decide +kernel

theorem test_wf_bus_transaction_endpoint : (Instr.busTransaction 0 3 (.lig false 1 16 true) .ack).wellFormed = false := by decide +kernel

theorem test_wf_turnaround_address : (Instr.turnaroundTimeout 0 1 (.lig false 128 0 true)).wellFormed = false := by decide +kernel

theorem test_wf_vf_enable_clear_count : (Instr.vfEnableClear 0 16).wellFormed = false := by decide +kernel

theorem test_wf_vf_enable_set_count : (Instr.vfEnableSet 0 16).wellFormed = false := by decide +kernel

theorem test_wf_frame_vid : (Instr.ethFrameReceived 0 false { frame0 with vid := some 4096 }).wellFormed = false := by decide +kernel

theorem test_wf_frame_rct : (Instr.ethFrameReceived 0 false { frame0 with rct := some (65536, false) }).wellFormed = false := by decide +kernel

theorem test_wf_frame_source : (Instr.ethFrameReceived 0 false { frame0 with src := 2 ^ 48 }).wellFormed = false := by decide +kernel

theorem test_wf_cm_req_nonce : (Instr.cmReq 0 false { req0 with nonce := [] }).wellFormed = false := by decide +kernel

theorem test_wf_cm_req_version : (Instr.cmReq 0 false { req0 with version := 256 }).wellFormed = false := by decide +kernel

theorem test_wf_cm_req_retry : (Instr.cmReq 0 false { req0 with retry := 8 }).wellFormed = false := by decide +kernel

theorem test_wf_cm_req_region : (Instr.cmReq 0 false { req0 with regions := [(2 ^ 64, 0, 0)] }).wellFormed = false := by decide +kernel

theorem test_wf_cm_rtu_mac : (Instr.cmRtu 0 1 []).wellFormed = false := by decide +kernel

theorem test_wf_pfc_enable : (Instr.pfcFrameReceived 0 false 256 0).wellFormed = false := by decide +kernel

theorem test_wf_hub_feature : (Instr.clearHubFeature 0 1 65536).wellFormed = false := by decide +kernel

theorem test_wf_port_link_state : (Instr.setPortLinkState 0 1 3 256).wellFormed = false := by decide +kernel

theorem test_wf_port_pm_value : (Instr.setPortLinkPmFeature 0 1 3 .u1Timeout 256).wellFormed = false := by decide +kernel

theorem test_wf_port_change_bit : (Instr.clearPortChange 0 1 3 false 8).wellFormed = false := by decide +kernel

theorem test_wf_hub_depth : (Instr.setHubDepth 0 1 65536).wellFormed = false := by decide +kernel

theorem test_wf_clear_tt_buffer_type : (Instr.clearTtBuffer 0 1 3 1 1 4 true).wellFormed = false := by decide +kernel

theorem test_wf_descriptor_length : (Instr.getDescriptor 0 1 .usb2 1 0 65536).wellFormed = false := by decide +kernel

theorem test_wf_configuration_value : (Instr.setConfiguration 0 1 .usb2 256).wellFormed = false := by decide +kernel

theorem test_wf_interface_setting : (Instr.setInterface 0 1 .usb2 256).wellFormed = false := by decide +kernel

theorem test_wf_ssplit_frame : (Instr.ssplitReceived 0 3 { split0 with frame := 2048 }).wellFormed = false := by decide +kernel

theorem test_wf_csplit_microframe : (Instr.csplitReceived 0 3 { split0 with y := 8 }).wellFormed = false := by decide +kernel

theorem test_wf_periodic_discard_frame : (Instr.periodicResultDiscard 0 3 2048 0).wellFormed = false := by decide +kernel

theorem test_wf_conflict_window_length : (Instr.conflictWindow 0 [] []).wellFormed = false := by decide +kernel

theorem test_wf_message_type : (Instr.unsupportedMessage 0 3 0 32).wellFormed = false := by decide +kernel

theorem test_wf_dvfs_requirement : (Instr.dvfsUpdate 0 0 49 0 0 0 0 0).wellFormed = false := by decide +kernel

theorem test_wf_bucket_code : (Instr.bucketRefill 0 65536 3).wellFormed = false := by decide +kernel

theorem test_wf_ecc_uncorrectable_location : (Instr.eccUncorrectable 0 (.context 0 (2 ^ 40))).wellFormed = false := by decide +kernel

theorem test_wf_ecc_corrected_location : (Instr.eccCorrected 0 (.context 0 (2 ^ 40))).wellFormed = false := by decide +kernel

theorem test_wf_gate_scope : (Instr.gateAuthorisation 0 [0, 0, 0, 0] 0 256).wellFormed = false := by decide +kernel

theorem test_wf_gate_nonce : (Instr.gateAuthorisation 0 [] 0 0).wellFormed = false := by decide +kernel

theorem test_wf_pcie_functions : (Instr.pcieLinkUp 0 1 1 65536 0 false).wellFormed = false := by decide +kernel

/-! ### A state and operands for the hypotheses of each clause of each statement, at the edges of their ranges -/

/-- The block in Standalone, the link up. -/
def up : State :=
  { State.reset with
    folioOn := true, vauxOk := true, link := { link0 with phase := .up }, modes := { modes0 with mode := .standalone, booted := true }
    input := { input0 with state := .on, gateOn := true }, pcie := { pcie0 with link := true } }

/-- A device at address 1 of port 3. -/
def dev1 : Device :=
  { port := 3, addr := 1, speed := 3, parent := 0, parentPort := 0, state := 2, suspended := false, config := 0, hub := false, multiCapable := false,
    mtt := false, wake := false, lpm := true, u1 := false, u2 := false, tier := 1, vid := 0, pid := 0, bcd := 0, ttAddr := 0, ttPort := 0, route := 0 }

/-- A ring that an endpoint is bound to. -/
def bind1 : Binding := { base := 0, log2 := 4, index := 0, lap := true, dead := false }

/-- A bulk OUT endpoint of that device, context 5, running. -/
def ep1 : Endpoint := { newEp 5 3 1 1 2 512 with bound := some bind1, run := .running }

/-- A transfer of no data. -/
def xfer1 : Transfer :=
  { v := 2, tds := [], fetchedAt := 0, done := 0, stage := 0, cerr := 0, held := [], asked := 0, cut := false, stashed := false, wrote := [], interval := none,
    zlpDue := true, preset := none, begun := false }

/-- Port 3 carries a tree that ring VI 2 owns, over slot 1. -/
def busy : State :=
  { up with
    pd := vmod up.pd 3 fun x => { x with state := .ready }
    power := vmod up.power 3 fun x => { x with phase := .on, gateOn := true, share := 100, vbusMv := 5000 }
    own := vmod up.own 3 fun x => { x with owner := .ring 2, state := .owned }
    vis := vmod up.vis 2 fun x => { x with enabled := true, qp := some 1 }
    qps := vmod up.qps 1 fun x => { x with state := .ready, vi := 2 }
    nibs := vmod up.nibs 3 fun x => { x with connect := true, speed2 := 3, phase2 := .active }
    devices := [dev1], eps := [ep1] }

/-- Port 3 carries a full-speed tree that classic VI 1 owns. -/
def shared : State :=
  { up with
    pd := vmod up.pd 3 fun x => { x with state := .ready }
    power := vmod up.power 3 fun x => { x with phase := .on, gateOn := true, share := 100, vbusMv := 5000 }
    own := vmod up.own 3 fun x => { x with owner := .classic 1, state := .owned }
    cvis := vmod up.cvis 1 fun x => { x with exists_ := true, speed2 := 3, multiTt := true }
    nibs := vmod up.nibs 3 fun x => { x with connect := true, speed2 := 2, phase2 := .active } }

/-- A command of TYPE `type` with these words. -/
def cmd (type : Nat) (words : List Word) : CmdEntry := { slot := 0, type := type, words := words, started := false }

/-- Ring VI 2 has this command to run. -/
def told (e : CmdEntry) : State := { busy with vis := vmod busy.vis 2 fun x => { x with cmds := [e] } }

/-- A heartbeat. -/
def note1 : Notice := { type := 1, prio := .info, port := 0, subject := .none, stroke := 0, body := [0, 0, 0] }

/-- A record of severity INFO, not yet persisted. -/
def rec1 : RamRec :=
  { record := { seq := some 0, code := 1, sev := .info, kind := 0, localTime := false, stroke := 0, location := 0, level := 0, port := 0, subject := .none,
                suppressed := 0, payload := [], chain := 0 }
    persisted := false, started := false }

/-- What the NOR and the signature come to where all is well. -/
def verdict1 : ImgVerdict := { written := true, intact := true, signed := true, svn := 0, format := 0, build := 0, badEngines := [], settings := [] }

/-- A good frame. -/
def frame1 : EthFrame := { fcsOk := true, buffered := true, vid := none, src := 1, rct := none, supervision := false, slot := none, ce := false, prio := 0, fill := 0, bytes := [] }

/-- A REQ for VI 2. -/
def req1 : CmReq := { serviceId := 0, version := 1, vi := 2, mrCount := 0, nonce := [], regions := [], respRes := 0, pmtu := 0, ackTimeout := 0, retry := 0 }

/-- A split to address 1, endpoint 1. -/
def split1 : Split := { periodic := false, addr := 1, ep := 1, type := 2, isIn := false, frame := 0, y := 0, payload := 0 }

/-- A contract for 5 V. -/
def contract1 : Contract := { kind := 1, mv := 5000, ma10 := 100, rdo := 0, pdo := 0, pos := 1 }

/-- A request packet of the Scribe function. -/
def func1 : FuncReq := { op := 1, tag := 0, addr := 0, data := 0, ok := true }

/-- A copied result. -/
def buf1 : LigBuf := { addr := 1, ep := 1, type := 2, isIn := false, result := some .ack, heldAt := 0 }

def st1 : State :=
  { up with pending := (.strokeResync 0) :: [] }

def st2 : State :=
  { up with folioOn := true, link := { up.link with phase := .up } }

def st3 : State :=
  { up with folioOn := true }

def st4 : State :=
  { up with folioOn := true, clusters := vmod up.clusters 1 fun x => { x with failed := false } }

def st5 : State :=
  { up with folioOn := true, lanes := vmod up.lanes 1 fun x => { x with adapting := true }, regs := [(0x30500, 2)] }

def st6 : State :=
  { up with input := { up.input with state := .off } }

def st7 : State :=
  { up with input := { up.input with state := .seating, fetFail := false } }

def st8 : State :=
  { up with input := { up.input with state := .seating, fetFail := true } }

def st9 : State :=
  { up with input := { up.input with state := .seating } }

def st10 : State :=
  { up with input := { up.input with state := .inrush } }

def st11 : State :=
  { up with input := { up.input with state := .lost } }

def st12 : State :=
  { up with input := { up.input with state := .lost, fetFail := false, seatA := true, seatB := true } }

def st13 : State :=
  { up with input := { up.input with state := .retryWait, fetFail := false, seatA := true, seatB := true, retries := 2 } }

def st14 : State :=
  { up with input := { up.input with state := .retryWait, retries := 3 } }

def st15 : State :=
  { up with input := { up.input with state := .on } }

def st16 : State :=
  { up with folioOn := true, input := { up.input with state := .latched } }

def st17 : State :=
  { up with folioOn := true, input := { up.input with fetFail := true, vinPre := 3400 } }

def st18 : State :=
  { up with input := { up.input with pg := true } }

def st19 : State :=
  { up with input := { up.input with ew := false } }

def st20 : State :=
  { up with input := { up.input with ew := true } }

def st21 : State :=
  { up with folioOn := true, pd := vmod up.pd 3 fun x => { x with alert := .waiting } }

def st22 : State :=
  { up with vauxOk := true }

def st23 : State :=
  { up with power := vmod up.power 3 fun x => { x with step := .converter } }

def st24 : State :=
  { up with power := vmod up.power 3 fun x => { x with clear := .waiting 0 } }

def st25 : State :=
  { up with power := vmod up.power 3 fun x => { x with step := .checks } }

def st26 : State :=
  { busy with power := vmod busy.power 3 fun x => { x with phase := .on }, pd := vmod busy.pd 3 fun x => { x with transitionStart := none, contract := contract1 } }

def st27 : State :=
  { up with power := vmod up.power 3 fun x => { x with gateOn := true }, pd := vmod up.pd 3 fun x => { x with contract.kind := 2 } }

def st28 : State :=
  { up with folioOn := false, power := vmod up.power 3 fun x => { x with gateOn := true } }

def st29 : State :=
  { up with folioOn := true, power := vmod up.power 3 fun x => { x with sensorFault := false, gateOn := false }, regs := [(0x130804, 1)] }

def st30 : State :=
  { up with power := vmod up.power 3 fun x => { x with gateOn := false, fetFail := false }, folioOn := false }

def st31 : State :=
  { up with input := { up.input with gateOn := false, fetFail := false } }

def st32 : State :=
  { up with folioOn := true, power := vmod up.power 3 fun x => { x with fetFail := true } }

def st33 : State :=
  { up with power := vmod up.power 3 fun x => { x with clear := .checking 0 } }

def st34 : State :=
  { up with input := { up.input with clear := .checking 0 } }

def st35 : State :=
  { up with folioOn := true, power := vmod up.power 3 fun x => { x with phase := .on } }

def st36 : State :=
  { up with folioOn := true, power := vmod up.power 3 fun x => { x with latched := false } }

def st37 : State :=
  { busy with power := vmod busy.power 3 fun x => { x with retryDue := some 0, phase := .off, gateOn := false }, pd := vmod busy.pd 3 fun x => { x with state := .powerOff } }

def st38 : State :=
  { up with power := vmod up.power 3 fun x => { x with shedOff := true, share := 10, latched := false }, pd := vmod up.pd 3 fun x => { x with state := .powerOff } }

def st39 : State :=
  { up with folioOn := true, modes := { up.modes with mode := .boot }, link := { up.link with phase := .notYetUp } }

def st40 : State :=
  { up with link := { up.link with phase := .up } }

def st41 : State :=
  { up with link := { up.link with holding := true, phase := .lost } }

def st42 : State :=
  { up with folioOn := true, link := { up.link with phase := .lost } }

def st43 : State :=
  { up with folioOn := true, modes := { up.modes with mode := .standalone } }

def st44 : State :=
  { up with folioOn := true, modes := { up.modes with mode := .managed } }

def st45 : State :=
  { up with folioOn := true, modes := { up.modes with suspending := true } }

def st46 : State :=
  { up with folioOn := true, modes := { up.modes with mode := .standby, standingBy := true } }

def st47 : State :=
  { up with folioOn := true, modes := { up.modes with mode := .suspend, suspending := false } }

def st48 : State :=
  { up with folioOn := true, modes := { up.modes with mode := .standby } }

def st49 : State :=
  { up with folioOn := true, modes := { up.modes with mode := .holdup, parked := false }, input := { up.input with pg := true } }

def st50 : State :=
  { up with folioOn := true, modes := { up.modes with mode := .holdup, parked := false } }

def st51 : State :=
  { up with folioOn := true, modes := { up.modes with mode := .holdup, parked := true }, input := { up.input with pg := true } }

def st52 : State :=
  { up with folioOn := true, modes := { up.modes with mode := .standby, standingBy := false }, pd := vmod up.pd 3 fun x => { x with state := .attachWait, cc1 := 1 }, regs := [(0x1004, 0x00080000)] }

def st53 : State :=
  { up with folioOn := false, modes := { up.modes with mode := .inrush } }

def st54 : State :=
  { up with modes := { up.modes with mode := .boot, booted := false }, rubric := { up.rubric with epoch := 1 }, pal := { up.pal with scanDone := true } }

def st55 : State :=
  { up with folioOn := true, modes := { up.modes with mode := .standalone }, img := { up.img with opened := false } }

def st56 : State :=
  { up with folioOn := true, img := { up.img with opened := true } }

def st57 : State :=
  { up with folioOn := true, img := { up.img with opened := true, busy := true } }

def st58 : State :=
  { up with folioOn := true, img := { up.img with opened := true, busy := false } }

def st59 : State :=
  { up with folioOn := true, modes := { up.modes with mode := .boot } }

def st60 : State :=
  { up with regs := [(0x30, 1)] }

def st61 : State :=
  { up with folioOn := true, writes := [], rubric := { up.rubric with busy := false } }

def st62 : State :=
  { up with folioOn := true, rubric := { up.rubric with busy := false } }

def st63 : State :=
  { up with folioOn := true, rubric := { up.rubric with busy := true } }

def st64 : State :=
  { up with folioOn := true, rubric := { up.rubric with busy := false }, regs := [(0x204, 1)] }

def st65 : State :=
  { up with rubric := { up.rubric with busy := true, classV := [] } }

def st66 : State :=
  { up with func := { up.func with queue := func1 :: [] } }

def st67 : State :=
  { up with func := { up.func with queue := { func1 with op := 2, addr := 0x20000 } :: [] } }

def st68 : State :=
  { up with func := { up.func with queue := { func1 with op := 2 } :: [] } }

def st69 : State :=
  { up with folioOn := true, own := vmod up.own 3 fun x => { x with owner := .ring 2, expiry := some 0 } }

def st70 : State :=
  { up with own := vmod up.own 3 fun x => { x with state := .service, events := [.claim (.ring 2)] } }

def st71 : State :=
  { up with own := vmod up.own 3 fun x => { x with events := [.claim (.ring 2)], state := .free } }

def st72 : State :=
  { up with folioOn := true, own := vmod up.own 3 fun x => { x with state := .handover, owner := .ring 2 } }

def st73 : State :=
  { up with folioOn := true, own := vmod up.own 3 fun x => { x with state := .orphanKept, unsettled := true } }

def st74 : State :=
  { up with folioOn := true, own := vmod up.own 3 fun x => { x with state := .orphanOff, unsettled := true } }

def st75 : State :=
  { up with folioOn := true, own := vmod up.own 3 fun x => { x with state := .resetting }, nibs := vmod up.nibs 3 fun x => { x with wait2 := false, waitS := false } }

def st76 : State :=
  { up with regs := [(0x202108, 0), (0x202110, 4), (0x202118, 0x1000), (0x202120, 4)] }

def st77 : State :=
  { up with regs := [(0x202100, 1)] }

def st78 : State :=
  { busy with qps := vmod busy.qps 1 fun x => { x with state := .ready } }

def st79 : State :=
  { up with vis := vmod up.vis 2 fun x => { x with enabled := true } }

def st80 : State :=
  { up with vis := vmod up.vis 2 fun x => { x with enabled := false } }

def st81 : State :=
  { up with vis := vmod up.vis 2 fun x => { x with enabled := true }, own := vmod up.own 3 fun x => { x with owner := .ring 2, expiry := some 1 } }

def st82 : State :=
  { busy with vis := vmod busy.vis 2 fun x => { x with enabled := true } }

def st83 : State :=
  { up with vis := vmod up.vis 2 fun x => { x with enabled := true, unreachable := false, cmdBusy := true } }

def st84 : State :=
  { up with vis := vmod up.vis 2 fun x => { x with enabled := true, unreachable := false, cmdBusy := true, cmdFetch := 1 } }

def st85 : State :=
  (told (cmd 0x20 []))

def st86 : State :=
  (told (cmd 0x21 [0, 0, 3]))

def st87 : State :=
  (told (cmd 0x22 [0, 0, 3]))

def st88 : State :=
  (told (cmd 0x23 []))

def st89 : State :=
  (told (cmd 0x24 [0, 0, 3]))

def st90 : State :=
  (told (cmd 0x24 [0, 0, 0x103]))

def st91 : State :=
  { (told (cmd 0x24 [0, 0, 3])) with power := vmod (told (cmd 0x24 [0, 0, 3])).power 3 fun x => { x with phase := .off } }

def st92 : State :=
  { up with folioOn := true, nibs := vmod up.nibs 3 fun x => { x with resetCmd := some (2, 0) } }

def st93 : State :=
  { (told (cmd 0x25 [0, 0, 3])) with nibs := vmod (told (cmd 0x25 [0, 0, 3])).nibs 3 fun x => { x with susp := .suspended } }

def st94 : State :=
  (told (cmd 0x25 [0, 0, 3]))

def st95 : State :=
  (told (cmd 0x25 [0, 0, 0x103]))

def st96 : State :=
  { (told (cmd 0x25 [0, 0, 0x103])) with nibs := vmod (told (cmd 0x25 [0, 0, 0x103])).nibs 3 fun x => { x with susp := .suspended } }

def st97 : State :=
  { up with folioOn := true, nibs := vmod up.nibs 3 fun x => { x with susp := .entering 0 } }

def st98 : State :=
  { up with folioOn := true, nibs := vmod up.nibs 3 fun x => { x with susp := .resumeK 0 } }

def st99 : State :=
  { up with folioOn := true, nibs := vmod up.nibs 3 fun x => { x with susp := .resuming 0, suspNext := none } }

def st100 : State :=
  { (told (cmd 0x26 [0, 0, 0x303, 0, 0, 64])) with devices := [], eps := [], nibs := vmod (told (cmd 0x26 [0, 0, 0x303, 0, 0, 64])).nibs 3 fun x => { x with default2 := true } }

def st101 : State :=
  (told (cmd 0x26 [0, 0, 0x703]))

def st102 : State :=
  { up with folioOn := true, nibs := vmod up.nibs 3 fun x => { x with addressing := some { v := 2, slot := 0, device := dev1, mps := 64, ctx := 5, cerr := 0, recoverAt := some 0 } } }

def st103 : State :=
  (told (cmd 0x27 [0, 0, 0x302]))

def st104 : State :=
  (told (cmd 0x27 [0, 0, 0x301]))

def st105 : State :=
  { (told (cmd 0x28 [0, 0, 0x02820301, 512, 0, 0])) with eps := [] }

def st106 : State :=
  (told (cmd 0x28 [0, 0, 0x0300]))

def st107 : State :=
  { (told (cmd 0x29 [0, 0, 0x40005, 15])) with eps := [{ ep1 with run := .stopped }] }

def st108 : State :=
  { (told (cmd 0x2A [0, 0, 5])) with eps := [{ ep1 with queue := [xfer1] }] }

def st109 : State :=
  (told (cmd 0x2A [0, 0, 5]))

def st110 : State :=
  { (told (cmd 0x2B [0, 0, 5])) with eps := [{ ep1 with run := .halted }] }

def st111 : State :=
  (told (cmd 0x2B [0, 0, 5]))

def st112 : State :=
  (told (cmd 0x2C [0, 0, 5]))

def st113 : State :=
  { (told (cmd 0x2D [0, 0, 0x30005, 256])) with eps := [{ ep1 with epAddr := 0x81 }] }

def st114 : State :=
  (told (cmd 0x2D [0, 0, 0x10005]))

def st115 : State :=
  (told (cmd 0x2D [0, 0, 5]))

def st116 : State :=
  (told (cmd 0x2E [0, 0, 3, 63]))

def st117 : State :=
  (told (cmd 0x2F []))

def st118 : State :=
  { (told (cmd 0x2F [])) with regs := [(0x72008, 2)] }

def st119 : State :=
  (told (cmd 0x30 []))

def st120 : State :=
  (told (cmd 0x31 [0, 0, 0, 1]))

def st121 : State :=
  (told (cmd 0x31 [0, 0, 0xFFFFFFFF, 0]))

def st122 : State :=
  { up with nibs := vmod up.nibs 3 fun x => { x with addressing := some { v := 2, slot := 0, device := dev1, mps := 64, ctx := 5, cerr := 0, recoverAt := none } } }

def st123 : State :=
  { busy with nibs := vmod busy.nibs 3 fun x => { x with preview := some { ss := false, step := 0, mps := 64, cerr := 0, dev := [], cfg := [], since := 0 } } }

def st124 : State :=
  { up with nibs := vmod up.nibs 3 fun x => { x with preview := some { ss := false, step := 0, mps := 64, cerr := 0, dev := [], cfg := [], since := 0 } } }

def st125 : State :=
  { busy with eps := [{ ep1 with queue := [xfer1], ageSince := some 0 }] }

def st126 : State :=
  { busy with vis := vmod busy.vis 2 fun x => { x with qp := some 1 }, qps := vmod busy.qps 1 fun x => { x with state := .ready }, regs := [(0x72008, 2)] }

def st127 : State :=
  { up with pcie := { up.pcie with link := true }, regs := [(0x72008, 1)] }

def st128 : State :=
  { busy with eps := [{ ep1 with type := 1, queue := [{ xfer1 with interval := some 0 }] }] }

def st129 : State :=
  { busy with folioOn := true, nibs := vmod busy.nibs 3 fun x => { x with connect := false, phase2 := .idle } }

def st130 : State :=
  { busy with folioOn := true, nibs := vmod busy.nibs 3 fun x => { x with phaseS := .off } }

def st131 : State :=
  { busy with folioOn := true, nibs := vmod busy.nibs 3 fun x => { x with phaseS := .u1 } }

def st132 : State :=
  { busy with folioOn := true, nibs := vmod busy.nibs 3 fun x => { x with phaseS := .training 0 } }

def st133 : State :=
  { up with folioOn := true, nibs := vmod up.nibs 3 fun x => { x with phaseS := .training 0 } }

def st134 : State :=
  { up with folioOn := true, cports := vmod up.cports 3 fun x => { x with reset2 := none }, nibs := vmod up.nibs 3 fun x => { x with phase2 := .reset 0 } }

def st135 : State :=
  { up with folioOn := true, nibs := vmod up.nibs 3 fun x => { x with phase2 := .reset 0, connect := false, resetCmd := none } }

def st136 : State :=
  { up with folioOn := true, nibs := vmod up.nibs 3 fun x => { x with phase2 := .reset 0, connect := true, chirp := 2, resetCmd := some (2, 0), waitS := true } }

def st137 : State :=
  { up with folioOn := true, nibs := vmod up.nibs 3 fun x => { x with phase2 := .recovery 0 } }

def st138 : State :=
  { up with folioOn := true, nibs := vmod up.nibs 3 fun x => { x with connect := true, phase2 := .active } }

def st139 : State :=
  { up with folioOn := true, nibs := vmod up.nibs 3 fun x => { x with connect := true } }

def st140 : State :=
  { up with folioOn := true, nibs := vmod up.nibs 3 fun x => { x with phaseS := .u0 } }

def st141 : State :=
  { up with nibs := vmod up.nibs 3 fun x => { x with tt := { hub := 1, ttPort := 0, ctx := 5 } :: [] } }

def st142 : State :=
  { busy with folioOn := true, nibs := vmod busy.nibs 3 fun x => { x with l1 := false, l1Hold := none }, pd := vmod busy.pd 3 fun x => { x with state := .ready } }

def st143 : State :=
  { up with folioOn := true, nibs := vmod up.nibs 3 fun x => { x with phaseS := .u0, susp := .awake } }

def st144 : State :=
  { up with folioOn := true, nibs := vmod up.nibs 3 fun x => { x with l1Hold := some 0 } }

def st145 : State :=
  { busy with folioOn := true, modes := { busy.modes with mode := .managed }, nibs := vmod busy.nibs 3 fun x => { x with susp := .suspended }, own := vmod busy.own 3 fun x => { x with owner := .ring 2 } }

def st146 : State :=
  { busy with folioOn := true, nibs := vmod busy.nibs 3 fun x => { x with phase2 := .active, speed2 := 2 } }

def st147 : State :=
  { busy with folioOn := true, nibs := vmod busy.nibs 3 fun x => { x with phase2 := .idle, connect := false, probeFails := 9 } }

def st148 : State :=
  { up with folioOn := true, nibs := vmod up.nibs 3 fun x => { x with phase2 := .stuck } }

def st149 : State :=
  { up with folioOn := true, regs := [(0x72008, 1)], vis := vmod up.vis 2 fun x => { x with unsignalled := 1 } }

def st150 : State :=
  { busy with folioOn := true, vis := vmod busy.vis 2 fun x => { x with qp := some 1 }, regs := [(0x72008, 2)] }

def st151 : State :=
  { up with ink := { up.ink with nextKey := none } }

def st152 : State :=
  { up with folioOn := true, regs := [(0x72004, 0x11)] }

def st153 : State :=
  { up with folioOn := true, pcie := { up.pcie with flr := 0x8000 } }

def st154 : State :=
  { up with folioOn := true, pcie := { up.pcie with vfEnable := true } }

def st155 : State :=
  { up with folioOn := true, pcie := { up.pcie with vfEnable := true, numVfs := 2 } }

def st156 : State :=
  { up with folioOn := true, pcie := { up.pcie with link := true, vfEnable := false } }

def st157 : State :=
  { up with folioOn := true, pcie := { up.pcie with link := true } }

def st158 : State :=
  { up with folioOn := true, pcie := { up.pcie with link := false } }

def st159 : State :=
  { up with folioOn := true, pcie := { up.pcie with bme := 1 } }

def st160 : State :=
  { up with folioOn := true, pcie := { up.pcie with bme := 1 }, regs := [(0x72008, 1)] }

def st161 : State :=
  { up with folioOn := true, pcie := { up.pcie with link := true, ptmEnable := true } }

def st162 : State :=
  { up with folioOn := true, pcie := { up.pcie with link := true, ptmEnable := true, ptmFails := 2 } }

def st163 : State :=
  { up with regs := [(0x80000, 1), (0x80100, 1), (0x80300, 1)] }

def st164 : State :=
  { up with regs := [(0x80000, 1), (0x80100, 1), (0x80300, 1)], prp := { prp0 with table := [{ mac := 1, seqno := 7, at_ := 0 }] } }

def st165 : State :=
  { up with folioOn := true, regs := [(0x80000, 1), (0x80100, 1), (0x80300, 1)] }

def st166 : State :=
  { up with folioOn := true, eth := vmod up.eth 0 fun x => { x with lanUp := true } }

def st167 : State :=
  { up with folioOn := true, qps := vmod up.qps 1 fun x => { x with state := .ready, lastDec := none } }

def st168 : State :=
  { up with folioOn := true, qps := vmod up.qps 1 fun x => { x with state := .ready, lastDec := some 0 } }

def st169 : State :=
  { up with folioOn := true, qps := vmod up.qps 1 fun x => { x with state := .ready } }

def st170 : State :=
  { up with regs := [(0x72008, 2), (0x80000, 1), (0x80400, 0xFFFFC001)] }

def st171 : State :=
  { up with folioOn := true, qps := vmod up.qps 1 fun x => { x with state := .connecting } }

def st172 : State :=
  { up with folioOn := true, qps := vmod up.qps 1 fun x => { x with state := .connecting, repSends := 4 } }

def st173 : State :=
  { busy with folioOn := true, qps := vmod busy.qps 1 fun x => { x with state := .connecting }, regs := [(0x72008, 0x102)] }

def st174 : State :=
  { busy with folioOn := true }

def st175 : State :=
  { up with folioOn := true, qps := vmod up.qps 1 fun x => { x with state := .ready, oldestAt := some 0, retryLeft := 1 } }

def st176 : State :=
  { up with folioOn := true, qps := vmod up.qps 1 fun x => { x with state := .ready, oldestAt := some 0, retryLeft := 0 } }

def st177 : State :=
  { up with folioOn := true, qps := vmod up.qps 1 fun x => { x with state := .ready, oldestAt := some 0 } }

def st178 : State :=
  { up with folioOn := true, vis := vmod up.vis 2 fun x => { x with unreachable := true, dataReleased := false } }

def st179 : State :=
  { up with folioOn := true, regs := [(0x80000, 1), (0x80C00, 1)] }

def st180 : State :=
  { up with folioOn := true, ptp := { up.ptp with locked := true }, regs := [(0x80C00, 4)] }

def st181 : State :=
  { up with folioOn := true, ptp := { up.ptp with locked := true }, regs := [(0x80C00, 0)] }

def st182 : State :=
  { up with folioOn := true, nibs := vmod up.nibs 3 fun x => { x with slewing := true } }

def st183 : State :=
  { up with folioOn := true, cports := vmod up.cports 3 fun x => { x with reset2 := some 0 } }

def st184 : State :=
  { up with folioOn := true, cports := vmod up.cports 3 fun x => { x with resetS := some (0, false) } }

def st185 : State :=
  { shared with cviews := vmod shared.cviews 17 fun x => { x with status2 := 2 }, own := vmod shared.own 1 fun x => { x with owner := .classic 1, state := .owned } }

def st186 : State :=
  { shared with cviews := vmod shared.cviews 17 fun x => { x with status2 := 4 }, own := vmod shared.own 1 fun x => { x with owner := .classic 1, state := .owned } }

def st187 : State :=
  { shared with nibs := vmod shared.nibs 3 fun x => { x with phaseS := .u0 } }

def st188 : State :=
  { shared with blot := { shared.blot with descriptorsReloading := false } }

def st189 : State :=
  { shared with cvis := vmod shared.cvis 1 fun x => { x with speed2 := 3 } }

def st190 : State :=
  { shared with folioOn := true, cvis := vmod shared.cvis 1 fun x => { x with exists_ := true, inReset := false, up := .run } }

def st191 : State :=
  { shared with folioOn := true, cvis := vmod shared.cvis 1 fun x => { x with exists_ := true, inReset := false } }

def st192 : State :=
  { shared with cvis := vmod shared.cvis 1 fun x => { x with up := .hs, suspended := false } }

def st193 : State :=
  { up with folioOn := true, cvis := vmod up.cvis 1 fun x => { x with up := .chirpK 0 } }

def st194 : State :=
  { up with folioOn := true, cvis := vmod up.cvis 1 fun x => { x with up := .watch 0 } }

def st195 : State :=
  { shared with folioOn := true, cvis := vmod shared.cvis 1 fun x => { x with exists_ := true, inReset := true, up := .hs } }

def st196 : State :=
  { shared with cvis := vmod shared.cvis 1 fun x => { x with suspended := false } }

def st197 : State :=
  { shared with cvis := vmod shared.cvis 1 fun x => { x with suspended := true }, modes := { shared.modes with suspending := false } }

def st198 : State :=
  { shared with cvis := vmod shared.cvis 1 fun x => { x with suspended := false }, own := vmod shared.own 3 fun x => { x with owner := .none } }

def st199 : State :=
  { shared with folioOn := true, cvis := vmod shared.cvis 1 fun x => { x with exists_ := true } }

def st200 : State :=
  { shared with ligs := vmod shared.ligs 3 fun x => { x with bufs := [] } }

def st201 : State :=
  { shared with ligs := vmod shared.ligs 3 fun x => { x with bufs := List.replicate 16 buf1 } }

def st202 : State :=
  { shared with ligs := vmod shared.ligs 3 fun x => { x with bufs := [buf1] } }

def st203 : State :=
  { up with folioOn := true, ligs := vmod up.ligs 3 fun x => { x with bufs := [buf1] } }

def st204 : State :=
  { up with folioOn := true, ligs := vmod up.ligs 3 fun x => { x with per := [{ addr := 1, ep := 1, isIn := true, frame := 0, y := 0, payload := 0, dropped := false, result := none }] } }

def st205 : State :=
  { shared with func := { shared.func with state := 3, outHalt := true }, regs := [(0xA0000, 1)], own := vmod shared.own 15 fun x => { x with owner := .classic 1, state := .owned } }

def st206 : State :=
  { shared with func := { shared.func with state := 3, outHalt := false }, regs := [(0xA0000, 1)], own := vmod shared.own 15 fun x => { x with owner := .classic 1, state := .owned } }

def st207 : State :=
  { shared with func := { shared.func with state := 3, outHalt := false, queue := [] }, regs := [(0xA0000, 1)], own := vmod shared.own 15 fun x => { x with owner := .classic 1, state := .owned } }

def st208 : State :=
  { up with func := { up.func with queue := [{ func1 with op := 3 }] } }

def st209 : State :=
  { shared with regs := [(0xA0000, 1)], own := vmod shared.own 15 fun x => { x with owner := .classic 1, state := .owned } }

def st210 : State :=
  { up with pd := vmod up.pd 3 fun x => { x with state := .unattached } }

def st211 : State :=
  { up with pd := vmod up.pd 3 fun x => { x with state := .unattached, cc1 := 2 } }

def st212 : State :=
  { up with pd := vmod up.pd 3 fun x => { x with state := .attachWait } }

def st213 : State :=
  { up with pd := vmod up.pd 3 fun x => { x with state := .attachWait, safe0 := false, cc1 := 1 }, power := vmod up.power 3 fun x => { x with share := 30 } }

def st214 : State :=
  { up with pd := vmod up.pd 3 fun x => { x with state := .attachWait, safe0 := true, cc1 := 1 }, power := vmod up.power 3 fun x => { x with share := 30 } }

def st215 : State :=
  { up with power := vmod up.power 3 fun x => { x with step := .ramp, gateOn := true }, pd := vmod up.pd 3 fun x => { x with state := .startup } }

def st216 : State :=
  { up with power := vmod up.power 3 fun x => { x with step := .ramp, gateOn := true }, pd := vmod up.pd 3 fun x => { x with state := .startup }, regs := [(0x134000, 0)] }

def st217 : State :=
  { busy with folioOn := true, pd := vmod busy.pd 3 fun x => { x with detachSince := none } }

def st218 : State :=
  { busy with pd := vmod busy.pd 3 fun x => { x with detachSince := some 0 } }

def st219 : State :=
  { up with power := vmod up.power 3 fun x => { x with gateOn := false }, pd := vmod up.pd 3 fun x => { x with detaching := true } }

def st220 : State :=
  { up with power := vmod up.power 3 fun x => { x with gateOn := false }, pd := vmod up.pd 3 fun x => { x with detaching := false, hrPhase := .waitSafe0 } }

def st221 : State :=
  { busy with folioOn := true, pd := vmod busy.pd 3 fun x => { x with vconnBarred := false } }

def st222 : State :=
  { up with pd := vmod up.pd 3 fun x => { x with state := .ccFault } }

def st223 : State :=
  { up with folioOn := true, pd := vmod up.pd 3 fun x => { x with vconnOn := true, eprMode := false, eprAt := none, contract.ma10 := 300 } }

def st224 : State :=
  { up with pd := vmod up.pd 3 fun x => { x with state := .sendCaps, detaching := false, sendings := 0, firstReq := false, awaiting := none }, power := vmod up.power 3 fun x => { x with share := 10 } }

def st225 : State :=
  { up with pd := vmod up.pd 3 fun x => { x with state := .sendCaps, detaching := false, awaiting := none, sendings := 49 }, power := vmod up.power 3 fun x => { x with share := 10 } }

def st226 : State :=
  { up with pd := vmod up.pd 3 fun x => { x with awaiting := some .accept, thenDo := .negotiate, state := .sendCaps } }

def st227 : State :=
  { up with pd := vmod up.pd 3 fun x => { x with awaitP := some .accept } }

def st228 : State :=
  { up with pd := vmod up.pd 3 fun x => { x with awaiting := some .accept, tries := 2 } }

def st229 : State :=
  { up with pd := vmod up.pd 3 fun x => { x with awaitP := some .accept, triesP := 3 } }

def st230 : State :=
  { up with pd := vmod up.pd 3 fun x => { x with softAt := none, swapAt := none, state := .negotiate, detaching := false, awaiting := none, hardResets := 0 } }

def st231 : State :=
  { up with pd := vmod up.pd 3 fun x => { x with state := .negotiate, eprMode := false, rev2 := false, sent := [0x0001912C] } }

def st232 : State :=
  { up with pd := vmod up.pd 3 fun x => { x with state := .negotiate, eprMode := false, contract.kind := 0 } }

def st233 : State :=
  { busy with pd := vmod busy.pd 3 fun x => { x with state := .ready, eprMode := true, sent := [0x0001912C] } }

def st234 : State :=
  { up with pd := vmod up.pd 3 fun x => { x with next := some contract1, state := .transition, awaiting := none, transitionStart := none } }

def st235 : State :=
  { up with pd := vmod up.pd 3 fun x => { x with next := some contract1, transitionStart := some 0, state := .transition } }

def st236 : State :=
  { up with pd := vmod up.pd 3 fun x => { x with next := some contract1, transitionStart := some 0, state := .transition, hardResets := 0 } }

def st237 : State :=
  { busy with pd := vmod busy.pd 3 fun x => { x with exitDue := true } }

def st238 : State :=
  { busy with pd := vmod busy.pd 3 fun x => { x with reclaim := false }, power := vmod busy.power 3 fun x => { x with share := 10 } }

def st239 : State :=
  { busy with power := vmod busy.power 3 fun x => { x with share := 10 }, pd := vmod busy.pd 3 fun x => { x with softAt := some 0 } }

def st240 : State :=
  { busy with pd := vmod busy.pd 3 fun x => { x with state := .ready, rev2 := false, eprMode := false, contract := contract1 }, regs := [(0x134000, mapReset 0x134000 ||| 0xFF10)] }

def st241 : State :=
  { busy with pd := vmod busy.pd 3 fun x => { x with eprMode := true } }

def st242 : State :=
  { busy with pd := vmod busy.pd 3 fun x => { x with reclaim := false } }

def st243 : State :=
  { busy with pd := vmod busy.pd 3 fun x => { x with reclaim := false, eprMode := false }, regs := [(0x134000, mapReset 0x134000 ||| 0xFF10)] }

def st244 : State :=
  { busy with pd := vmod busy.pd 3 fun x => { x with rev2 := false } }

def st245 : State :=
  { busy with pd := vmod busy.pd 3 fun x => { x with rev2 := false, contract := { contract1 with kind := 2 } } }

def st246 : State :=
  { busy with power := vmod busy.power 3 fun x => { x with vbusMv := 5500 } }

def st247 : State :=
  { up with folioOn := true, pd := vmod up.pd 3 fun x => { x with vconnOn := true, raSeen := true, discoveries := 0 } }

def st248 : State :=
  { up with pd := vmod up.pd 3 fun x => { x with discovering := true, vconnOn := true, awaitP := none, eprAt := none, discoveries := 20 } }

def st249 : State :=
  { up with folioOn := true, pd := vmod up.pd 3 fun x => { x with vconnOn := true, discovering := true, eprAt := none, eprMode := false } }

def st250 : State :=
  { busy with pd := vmod busy.pd 0 fun x => { x with swapDue := true, swapTries := 0, ufp := false, swapOver := false, state := .ready } }

def st251 : State :=
  { busy with pd := vmod busy.pd 0 fun x => { x with swapWait := some 0, ufp := false, swapOver := false, state := .ready, swapTries := 9 } }

def st252 : State :=
  { up with pd := vmod up.pd 0 fun x => { x with swapAt := some 0, state := .ready } }

def st253 : State :=
  { busy with pd := vmod busy.pd 3 fun x => { x with state := .ready } }

def st254 : State :=
  { busy with pd := vmod busy.pd 3 fun x => { x with state := .ready, hardResets := 0 } }

def st255 : State :=
  { up with pd := vmod up.pd 3 fun x => { x with state := .hardReset, hrPhase := .waitOff, safe0 := false } }

def st256 : State :=
  { up with pd := vmod up.pd 3 fun x => { x with state := .hardReset, hrPhase := .recover }, vauxOk := false }

def st257 : State :=
  { up with pd := vmod up.pd 3 fun x => { x with state := .hardReset, hrPhase := .recover }, power := vmod up.power 3 fun x => { x with share := 10 } }

def st258 : State :=
  { up with pd := vmod up.pd 3 fun x => { x with state := .errorRecovery } }

def st259 : State :=
  { busy with pd := vmod busy.pd 3 fun x => { x with eprMode := true, hardResets := 0 } }

def st260 : State :=
  { busy with pd := vmod busy.pd 3 fun x => { x with hardResets := 0, contract.kind := 2 } }

def st261 : State :=
  { busy with pd := vmod busy.pd 3 fun x => { x with alert := .waiting, contract := contract1, sinkTxNg := some 0 } }

def st262 : State :=
  { up with pd := vmod up.pd 3 fun x => { x with lowSince := some 0, reclaim := false, contract := contract1 }, regs := [(0x134000, 0x10004)] }

def st263 : State :=
  { up with pd := vmod up.pd 3 fun x => { x with highSince := some 0, reclaim := true } }

def st264 : State :=
  { busy with folioOn := true, pd := vmod busy.pd 3 fun x => { x with state := .ready, hardResets := 0 } }

def st265 : State :=
  { up with folioOn := true, modes := { up.modes with booted := true } }

def st266 : State :=
  { up with folioOn := true, margin := { up.margin with opened := some note1 } }

def st267 : State :=
  { up with folioOn := true, margin := { up.margin with queues := vmod up.margin.queues 64 fun x => { x with notices := [note1] } } }

def st268 : State :=
  { up with folioOn := true, regs := [(0x50000, 0x10000)] }

def st269 : State :=
  { up with folioOn := true, margin := { up.margin with opened := some note1, wordIndex := 2 } }

def st270 : State :=
  { up with folioOn := true, margin := { up.margin with opened := some note1, wordIndex := 3 } }

def st271 : State :=
  { up with folioOn := true, margin := { up.margin with irqArmed := false } }

def st272 : State :=
  { up with folioOn := true, pins := { up.pins with irqN := false } }

def st273 : State :=
  { up with pal := { up.pal with ram := [rec1] } }

def st274 : State :=
  { up with pal := { up.pal with ram := [rec1], low := [{ Sector.blankSector with headerOk := true, blank := false, eraseOk := true, inUse := true, ring := some .low }] } }

def st275 : State :=
  { up with pal := { up.pal with frozen := false, low := [{ Sector.blankSector with headerOk := true, blank := false, eraseOk := true, inUse := true, ring := some .low, closed := true }] } }

def st276 : State :=
  { up with pal := { up.pal with buckets := [{ code := 1, port := 3, sev := .info, tokens := 6, nextGain := 0, suppressed := 0, first := 0, last := 0 }] } }

def st277 : State :=
  { up with pal := { up.pal with buckets := [{ code := 1, port := 3, sev := .info, tokens := 7, nextGain := 0, suppressed := 0, first := 0, last := 0 }] } }

def st278 : State :=
  { up with folioOn := true, pal := { up.pal with losses := [0, 0, 0, 0] } }

def st279 : State :=
  { up with folioOn := true, pal := { up.pal with readout.verifying := true, readout.verifyPass := false, readout.verifyNotClosed := false, high := [{ Sector.blankSector with headerOk := true, blank := false, eraseOk := true, inUse := true, ring := some .low }], low := [{ Sector.blankSector with headerOk := true, blank := false, eraseOk := true, inUse := true, ring := some .low }] } }

def st280 : State :=
  { up with folioOn := true, pal := { up.pal with ram := [{ rec1 with record := { rec1.record with seq := some 1 } }] } }

def st281 : State :=
  { up with folioOn := true, pal := { up.pal with ram := [rec1] }, regs := [(0x40100, 1)] }

def st282 : State :=
  { up with folioOn := true, pal := { up.pal with readout.loading := true, ram := [rec1] } }

def st283 : State :=
  { up with folioOn := true, pal := { up.pal with gapScanning := true, scanDone := true } }

def st284 : State :=
  { up with folioOn := true, modes := { up.modes with booted := true }, blot := { up.blot with window := Vector.replicate 8 15 } }

def st285 : State :=
  { up with folioOn := true, modes := { up.modes with booted := true }, blot := { up.blot with window := Vector.replicate 8 16 } }

def st286 : State :=
  { up with folioOn := true, clusters := vmod up.clusters 0 fun x => { x with restarts := [0, 0] } }

def st287 : State :=
  { up with folioOn := true, engines := vmod up.engines 1 fun x => { x with restarting := true } }

def st288 : State :=
  { up with folioOn := true, modes := { up.modes with mode := .quarantine } }

def st289 : State :=
  { up with folioOn := true, sealUnit := { up.sealUnit with armed := true } }

def st290 : State :=
  { up with folioOn := true, sealUnit := { up.sealUnit with keyOp := none } }

def st291 : State :=
  { up with folioOn := true, sealUnit := { up.sealUnit with keyOp := some (.withdraw 2) } }

def st292 : State :=
  { up with folioOn := true, sealUnit := { up.sealUnit with keyOp := none, ownerKey := none } }

def st293 : State :=
  { up with folioOn := true, sealUnit := { up.sealUnit with keyOp := none, ownerKey := some [] } }

def st294 : State :=
  { up with sealUnit := { up.sealUnit with keyOp := some (.load 2 []) }, folioOn := true }

def st295 : State :=
  { up with sealUnit := { up.sealUnit with keyOp := some (.withdraw 2) }, folioOn := true }

def st296 : State :=
  { up with sealUnit := { up.sealUnit with gateStalled := false }, pd := vmod up.pd 0 fun x => { x with state := .debugUp } }

def st297 : State :=
  { up with sealUnit := { up.sealUnit with gateStalled := true }, pd := vmod up.pd 0 fun x => { x with state := .debugUp } }

def st298 : State :=
  { up with sealUnit := { up.sealUnit with auth := none, gateStalled := false }, pd := vmod up.pd 0 fun x => { x with state := .debugUp } }

def st299 : State :=
  { up with sealUnit := { up.sealUnit with auth := some (true, Config.uniqueId, 1), armed := true }, pd := vmod up.pd 0 fun x => { x with state := .debugUp } }

def st300 : State :=
  { up with sealUnit := { up.sealUnit with auth := some (true, Config.uniqueId, 2), armed := true }, pd := vmod up.pd 0 fun x => { x with state := .debugUp } }

def st301 : State :=
  { up with sealUnit := { up.sealUnit with auth := some (true, 0, 1) }, pd := vmod up.pd 0 fun x => { x with state := .debugUp } }

def st302 : State :=
  { up with sealUnit := { up.sealUnit with nonce := some [] } }

def st303 : State :=
  { up with margin := { up.margin with opened := some note1 } }

def st304 : State :=
  { up with margin := { up.margin with opened := none } }

def st305 : State :=
  { up with margin := { up.margin with queues := vmod up.margin.queues 64 fun x => { x with notices := [note1, note1] } } }

theorem witness_StepRunsTheFrontCommand :
    (st1.pending = ((.strokeResync 0) : Instr) :: ([] : List Instr)) := by
  decide +kernel

theorem witness_LoopCommandsComplete :
    (st2.folioOn = true ∧ st2.link.phase = .up) ∧
    (st3.folioOn = true ∧ privileged st3 (.spi : Path) = true) ∧
    (st4.folioOn = true ∧ (st4.clusters.get (1 : Fin 24)).failed = false) ∧
    (st4.folioOn = true ∧ (st4.clusters.get (1 : Fin 24)).failed = false) ∧
    (st3.folioOn = true ∧ (0 : Int) + 480 < (481 : Int)) ∧
    (st3.folioOn = true) ∧
    (st5.folioOn = true ∧ (st5.lanes.get (1 : Fin 23)).adapting = true ∧ eqFrozen st5 (1 : Fin 23) = true) := by
  refine ⟨?_, ?_, ?_, ?_, ?_, ?_, ?_⟩ <;> decide +kernel

theorem witness_InputPathAndPowerGoodCommandsComplete_a :
    (st6.input.state = .off ∧ 1800 < (1801 : Nat)) ∧
    (up.input.state ≠ .off) ∧
    (st7.input.state = .seating ∧ st7.input.fetFail = false ∧ 3400 ≤ (3400 : Nat)) ∧
    (st8.input.state = .seating ∧ (st8.input.fetFail = true ∨ (0 : Nat) < 3400)) ∧
    (st9.input.state = .seating) ∧
    ((st10.input.state = .inrush ∨ st10.input.state = .on)) ∧
    ((st11.input.state = .lost ∨ st11.input.state = .retryWait ∨ st11.input.state = .latched)) ∧
    (st10.input.state = .inrush ∧ (0 : Nat) < (0 : Nat) + 50) ∧
    (st10.input.state = .inrush ∧ st10.input.since + inTimer st10 * ticksMs 10 ≤ max st10.now (st10.input.since + inTimer st10 * ticksMs 10)) ∧
    ((st10.input.state = .inrush ∨ st10.input.state = .on) ∧ lossReached (.undervoltage : LossKind) (2999 : Nat) (0 : Int) = true) ∧
    (st12.input.state = .lost ∧ seated st12 = true ∧ st12.input.fetFail = false ∧ 3400 ≤ (7700 : Nat) ∧ (7700 : Nat) ≤ 7700) ∧
    (st13.input.state = .retryWait ∧ st13.input.since + max (inTimer st13 * ticksMs 100) (ticksS 1) ≤ max st13.now (st13.input.since + max (inTimer st13 * ticksMs 100) (ticksS 1)) ∧ st13.input.retries < inRetry st13 ∧ seated st13 = true ∧ 3400 ≤ (3400 : Nat) ∧ st13.input.fetFail = false) := by
  refine ⟨?_, ?_, ?_, ?_, ?_, ?_, ?_, ?_, ?_, ?_, ?_, ?_⟩ <;> decide +kernel

theorem witness_InputPathAndPowerGoodCommandsComplete_b :
    (st14.input.state = .retryWait ∧ st14.input.since + max (inTimer st14 * ticksMs 100) (ticksS 1) ≤ max st14.now (st14.input.since + max (inTimer st14 * ticksMs 100) (ticksS 1)) ∧ inRetry st14 ≤ st14.input.retries) ∧
    (st15.input.state = .on ∧ st15.input.since + ticksS 60 ≤ max st15.now (st15.input.since + ticksS 60)) ∧
    (st16.folioOn = true ∧ privileged st16 (.spi : Path) = true ∧ st16.input.state = .latched) ∧
    (st3.folioOn = true ∧ privileged st3 (.spi : Path) = true ∧ st3.input.state ≠ .latched) ∧
    (st17.folioOn = true ∧ privileged st17 (.spi : Path) = true ∧ st17.input.fetFail = true ∧ 3400 ≤ st17.input.vinPre) ∧
    (st15.input.state = .on ∧ st15.input.since + ticksMs 10 ≤ max st15.now (st15.input.since + ticksMs 10) ∧ 3400 ≤ (3400 : Nat)) ∧
    (st18.input.pg = true ∧ st18.input.state ≠ .off ∧ (2199 : Nat) < pgFallV st18) ∧
    (st19.input.state ≠ .off ∧ st19.input.ew = false ∧ (3299 : Nat) < ewV st19) ∧
    (st20.input.ew = true ∧ ewV st20 + ewHyst st20 < (3501 : Nat)) ∧
    (st21.folioOn = true ∧ (st21.pd.get (3 : PortId)).alert ≠ .none ∧ (st21.pd.get (3 : PortId)).alert ≠ .due) ∧
    (st22.vauxOk = true) ∧
    (up.input.state ≠ .off) := by
  refine ⟨?_, ?_, ?_, ?_, ?_, ?_, ?_, ?_, ?_, ?_, ?_, ?_⟩ <;> decide +kernel

theorem witness_SwitchOnCommandsComplete :
    (inWindow (4750 : Nat) = true ∧ (st24.power.get (3 : PortId)).clear = .waiting (0 : Nat)) ∧
    ((st25.power.get (3 : PortId)).step = .checks ∧ mayStart (begin 0 st25) (3 : PortId) = true ∧ 2 * (0 : Nat) < (1 : Nat)) ∧
    ((st25.power.get (3 : PortId)).step = .checks ∧ inWindow (4750 : Nat) = true ∧ mayStart (begin ((st25.power.get 3).gateStart + ticksMs 1) st25) (3 : PortId) = true ∧ (st25.power.get (3 : PortId)).gateStart + ticksMs 1 ≤ max st25.now ((st25.power.get 3).gateStart + ticksMs 1)) ∧
    ((st26.power.get (3 : PortId)).phase = .on ∧ explicitContract st26 (3 : PortId) = true ∧ (st26.pd.get (3 : PortId)).transitionStart = none ∧ ferruleRuns st26 (3 : PortId) = true) ∧
    ((st27.power.get (3 : PortId)).gateOn = true ∧ (st27.pd.get (3 : PortId)).contract.kind = 2) := by
  refine ⟨?_, ?_, ?_, ?_, ?_⟩ <;> decide +kernel

theorem witness_SwitchOnCommandsComplete_0 :
    inWindow (4750 : Nat) = true ∧ (st23.power.get (3 : PortId)).step = .converter ∧ (∀ x, (st23.power.get (3 : PortId)).clear ≠ .waiting x) ∧ mayStart (begin 0 st23) (3 : PortId) = true := by
  exact ⟨by decide +kernel, by decide +kernel, (fun x h => nomatch h), by decide +kernel⟩

theorem witness_BreakerPassDeviceAndRetryCommandsComplete_a :
    (up.input.state ≠ .off ∧ breakerDue ((samplePort (begin 0 up) (3 : PortId) (0 : Int) (0 : Nat) (0 : Nat) (0 : Nat)).power.get (3 : PortId)) = false) ∧
    (st10.input.state ≠ .off ∧ st10.input.state ≠ .on) ∧
    (st28.folioOn = false ∧ (st28.power.get (3 : PortId)).gateOn = true) ∧
    (st15.input.state = .on) ∧
    (st29.folioOn = true ∧ thermSource st29 (3 : PortId) ≠ 0 ∧ (st29.power.get (3 : PortId)).sensorFault = false ∧ -880 ≤ (3200 : Int) ∧ (3200 : Int) ≤ 3200 ∧ (st29.power.get (3 : PortId)).gateOn = false) ∧
    (st30.input.state ≠ .off ∧ (1 : Fin 5).val < 3 ∧ (st30.power.get (3 : PortId)).gateOn = false ∧ (st30.power.get (3 : PortId)).fetFail = false ∧ st30.folioOn = false) ∧
    (st31.input.state ≠ .off ∧ 3 ≤ (3 : Fin 5).val ∧ st31.input.gateOn = false ∧ st31.input.fetFail = false) ∧
    (st32.folioOn = true ∧ privileged st32 (.spi : Path) = true ∧ (st32.power.get (3 : PortId)).fetFail = true) ∧
    ((st24.power.get (3 : PortId)).clear = .waiting (0 : Nat) ∧ (0 : Nat) + ticksMs 100 ≤ max st24.now (0 + ticksMs 100)) ∧
    ((st33.power.get (3 : PortId)).clear = .checking (0 : Nat) ∧ (0 : Nat) + ticksMs 10 ≤ max st33.now (0 + ticksMs 10)) ∧
    (st34.input.clear = .checking (0 : Nat) ∧ (0 : Nat) + ticksMs 10 ≤ max st34.now (0 + ticksMs 10)) ∧
    (st35.folioOn = true ∧ (st35.power.get (3 : PortId)).phase = .on ∧ (st35.power.get (3 : PortId)).onSince + ticksS 60 ≤ max st35.now ((st35.power.get 3).onSince + ticksS 60)) := by
  refine ⟨?_, ?_, ?_, ?_, ?_, ?_, ?_, ?_, ?_, ?_, ?_, ?_⟩ <;> decide +kernel

theorem witness_BreakerPassDeviceAndRetryCommandsComplete_b :
    (st36.folioOn = true ∧ privileged st36 (.spi : Path) = true ∧ (st36.power.get (3 : PortId)).latched = false) ∧
    ((st37.power.get (3 : PortId)).retryDue = some (0 : Nat) ∧ (0 : Nat) ≤ max st37.now (0) ∧ retryAllowed (begin (0) st37) (3 : PortId) = true) ∧
    (ferruleRuns up (3 : PortId) = true) ∧
    ((st38.power.get (3 : PortId)).shedOff = true ∧ 10 ≤ (st38.power.get (3 : PortId)).share ∧ (hardShed st38 (3 : PortId) = false ∨ st38.modes.mode ≠ .brownout) ∧ waitsForVbus st38 (3 : PortId) = true ∧ (st38.power.get (3 : PortId)).latched = false ∧ mayStart (begin 0 st38) (3 : PortId) = true ∧ working st38 = true ∧ ferruleRuns st38 (3 : PortId) = true) := by
  refine ⟨?_, ?_, ?_, ?_⟩ <;> decide +kernel

theorem witness_LinkAndModeCommandsComplete_a :
    (st39.folioOn = true ∧ st39.modes.mode = .boot ∧ st39.link.phase ≠ .up) ∧
    (st40.input.state ≠ .off ∧ st40.link.phase = .up ∧ ([1, 2, 3, 4, 5, 6, 7, 8] : List Byte).length = 8) ∧
    (st40.input.state ≠ .off ∧ st40.link.phase = .up ∧ ([1, 2, 3, 4, 5, 6, 7, 8] : List Byte).length = 8 ∧ crc8 ([1, 2, 3, 4, 5, 6, 7, 8] : List Byte) ≠ (0 : Byte)) ∧
    (st2.folioOn = true ∧ st2.modes.mode ≠ .standby ∧ st2.link.phase = .up ∧ st2.link.lastFrame + ticksUs 20 ≤ max st2.now (st2.link.lastFrame + ticksUs 20)) ∧
    (st41.link.holding = true ∧ st41.link.phase ≠ .up ∧ st41.link.lostAt + ticksMs 50 ≤ max st41.now (st41.link.lostAt + ticksMs 50)) ∧
    (st42.folioOn = true ∧ st42.link.phase = .lost) ∧
    (st3.folioOn = true) ∧
    (st43.folioOn = true ∧ privileged st43 (.spi : Path) = true ∧ st43.modes.mode = .standalone) ∧
    (st44.folioOn = true ∧ privileged st44 (.spi : Path) = true ∧ st44.modes.mode ≠ .standalone) ∧
    (st43.folioOn = true ∧ privileged st43 (.spi : Path) = true ∧ (st43.modes.mode = .standalone ∨ st43.modes.mode = .managed) ∧ wokenNow (begin 0 st43) = false ∧ (∀ c : Fin 5, (st43.cvis.get c).exists_ = true → (st43.cvis.get c).suspended = true)) ∧
    (st43.folioOn = true ∧ privileged st43 (.spi : Path) = true ∧ (st43.modes.mode = .standalone ∨ st43.modes.mode = .managed ∨ st43.modes.mode = .suspend) ∧ wokenNow (begin 0 st43) = false) ∧
    (st46.folioOn = true ∧ st46.modes.mode = .standby ∧ st46.modes.standingBy = true ∧ flushDone (begin 0 st46) = true) := by
  refine ⟨?_, ?_, ?_, ?_, ?_, ?_, ?_, ?_, ?_, ?_, ?_, ?_⟩ <;> decide +kernel

theorem witness_LinkAndModeCommandsComplete_b :
    (st47.folioOn = true ∧ privileged st47 (.spi : Path) = true ∧ st47.modes.mode = .suspend ∧ st47.modes.suspending = false ∧ st47.modes.beforeSuspend ≠ .suspend) := by
  decide +kernel

theorem witness_LinkAndModeCommandsComplete_10 :
    st45.folioOn = true ∧ st45.modes.suspending = true ∧ st45.modes.mode ≠ .suspend ∧ (∀ n : PortId, maskBit st45.modes.selfSuspended n.val = true → ∀ x, (st45.nibs.get n).susp ≠ .entering x) := by
  exact ⟨by decide +kernel, by decide +kernel, by decide +kernel, fun n h => absurd h ((by decide +kernel : ∀ n : PortId, ¬ maskBit 0 n.val = true) n)⟩

theorem witness_BootCommandsComplete :
    (st3.folioOn = true ∧ privileged st3 (.spi : Path) = true ∧ st3.modes.mode ≠ .ret) ∧
    (st48.folioOn = true ∧ privileged st48 (.spi : Path) = true ∧ st48.modes.mode = .standby) ∧
    (st3.folioOn = true ∧ st3.modes.mode ≠ .ret) ∧
    (st49.folioOn = true ∧ st49.modes.mode = .holdup ∧ st49.modes.parked = false ∧ flushDone (begin 0 st49) = true ∧ inputBack st49 = true) ∧
    (st50.folioOn = true ∧ st50.modes.mode = .holdup ∧ st50.modes.parked = false ∧ flushDone (begin 0 st50) = true ∧ inputBack st50 = false) ∧
    (st51.folioOn = true ∧ st51.modes.mode = .holdup ∧ st51.modes.parked = true ∧ inputBack st51 = true) ∧
    (st52.folioOn = true ∧ st52.modes.mode = .standby ∧ st52.modes.standingBy = false ∧ standbyWake st52 (3 : PortId) = true ∧ (st52.pd.get (3 : PortId)).state = .attachWait ∧ sinkPattern (st52.pd.get (3 : PortId)).cc1 (st52.pd.get (3 : PortId)).cc2 = true ∧ (st52.pd.get (3 : PortId)).patternSince + ticksMs 150 ≤ max st52.now ((st52.pd.get 3).patternSince + ticksMs 150)) ∧
    (st53.folioOn = false ∧ st53.modes.mode = .inrush) ∧
    (bootReady st54 = true) := by
  refine ⟨?_, ?_, ?_, ?_, ?_, ?_, ?_, ?_, ?_⟩ <;> decide +kernel

theorem witness_ImageCommandsComplete :
    (st55.folioOn = true ∧ privileged st55 (.spi : Path) = true ∧ (st55.modes.mode = .standalone ∨ st55.modes.mode = .managed) ∧ st55.img.opened = false) ∧
    (st55.folioOn = true ∧ privileged st55 (.spi : Path) = true ∧ (st55.modes.mode = .standalone ∨ st55.modes.mode = .managed) ∧ st55.img.opened = false) ∧
    (st56.folioOn = true ∧ privileged st56 (.spi : Path) = true ∧ st56.img.opened = true) ∧
    (st57.folioOn = true ∧ st57.img.opened = true ∧ st57.img.busy = true ∧ st57.modes.mode ≠ .brownout) ∧
    (st57.folioOn = true ∧ st57.img.opened = true ∧ st57.img.busy = true ∧ st57.modes.mode ≠ .brownout) ∧
    (st58.folioOn = true ∧ privileged st58 (.spi : Path) = true ∧ st58.img.opened = true ∧ st58.img.busy = false) ∧
    (st57.folioOn = true ∧ privileged st57 (.spi : Path) = true ∧ st57.img.opened = true ∧ st57.img.busy = true) ∧
    (st58.folioOn = true ∧ privileged st58 (.spi : Path) = true ∧ st58.img.opened = true ∧ st58.img.busy = false ∧ (verdict1 : ImgVerdict).intact = true ∧ (verdict1 : ImgVerdict).written = true ∧ sealAccepts st58 st58.img.cfg (verdict1 : ImgVerdict).signed (verdict1 : ImgVerdict).svn = true) ∧
    (st58.folioOn = true ∧ privileged st58 (.spi : Path) = true ∧ st58.img.opened = true ∧ st58.img.busy = false ∧ ({ verdict1 with intact := false } : ImgVerdict).intact = false) ∧
    (st56.folioOn = true ∧ privileged st56 (.spi : Path) = true ∧ st56.img.opened = true) := by
  refine ⟨?_, ?_, ?_, ?_, ?_, ?_, ?_, ?_, ?_, ?_⟩ <;> decide +kernel

theorem witness_SpiFramesAndBarAccessesComplete :
    (st3.folioOn = true ∧ bootRefused st3 (0x80000 : BitVec 24).toNat = false ∧ unreachedV st3 (0x80000 : BitVec 24).toNat = false ∧ findRow (0x80000 : BitVec 24).toNat = some (((findRow 0x80000).get (by decide +kernel)) : RegRow) ∧ (((findRow 0x80000).get (by decide +kernel)) : RegRow).acc = .rw) ∧
    (st59.folioOn = true ∧ bootRefused st59 (0x10000 : BitVec 24).toNat = true) ∧
    (st3.folioOn = true ∧ bootRefused st3 (0x80000 : BitVec 24).toNat = false ∧ takesWrite st3 .spi (0x80000 : BitVec 24).toNat (((findRow 0x80000).get (by decide +kernel)) : RegRow) (0 : Word) ∧ (((findRow 0x80000).get (by decide +kernel)) : RegRow).applies = .epoch) ∧
    (st3.folioOn = true ∧ (spiWriteCrc 0 0 + 1 : Byte) ≠ spiWriteCrc (0 : BitVec 24) (0 : Word)) ∧
    (st3.folioOn = true ∧ (0 : Byte) ≠ 0x3B ∧ (0 : Byte) ≠ 0xD2) ∧
    (st3.folioOn = true) ∧
    (barOpen st60 = true ∧ windowOn st60 .bar0 = true ∧ (1 : BitVec 4) ≠ 0 ∧ findRow ((0x80000 : BitVec 22).toNat / 4 * 4) = some (((findRow 0x80000).get (by decide +kernel)) : RegRow) ∧ (((findRow 0x80000).get (by decide +kernel)) : RegRow).acc = .rw ∧ denied st60 .pf ((0x80000 : BitVec 22).toNat / 4 * 4) = false ∧ unreachedV st60 ((0x80000 : BitVec 22).toNat / 4 * 4) = false) ∧
    (barOpen st60 = true ∧ windowOn st60 .bar0 = true ∧ takesWrite st60 .pf ((0x80000 : BitVec 22).toNat / 4 * 4) (((findRow 0x80000).get (by decide +kernel)) : RegRow) (0 : Word) ∧ (((findRow 0x80000).get (by decide +kernel)) : RegRow).applies = .epoch) ∧
    (barOpen up = true ∧ windowOn up .bar0 = true ∧ (14 : BitVec 4) ≠ 0 ∧ (14 : BitVec 4) ≠ 15) := by
  refine ⟨?_, ?_, ?_, ?_, ?_, ?_, ?_, ?_, ?_⟩ <;> decide +kernel

theorem witness_BoundaryAndRubricCommandsComplete :
    (portDomainOn up = true) ∧
    (portDomainOn up = true ∧ (up.nibs.get (3 : PortId)).busUf % 8 = 0) ∧
    (st61.folioOn = true ∧ stroke (begin 0 st61) % 5 = 0 ∧ st61.writes = [] ∧ st61.rubric.busy = false) ∧
    (st3.folioOn = true ∧ stroke (begin 0 st3) % 5 = 0) ∧
    (st3.folioOn = true ∧ st3.modes.mode ≠ .holdup ∧ st3.modes.mode ≠ .standby) ∧
    (st3.folioOn = true ∧ pdIdle st3 (3 : PortId) = true) ∧
    (st62.folioOn = true ∧ privileged st62 (.spi : Path) = true ∧ st62.rubric.busy = false ∧ reg st62 0x204 = st62.rubric.epoch) ∧
    (st63.folioOn = true ∧ privileged st63 (.spi : Path) = true ∧ st63.rubric.busy = true) ∧
    (st64.folioOn = true ∧ privileged st64 (.spi : Path) = true ∧ st64.rubric.busy = false ∧ reg st64 0x204 ≠ st64.rubric.epoch) ∧
    (st3.folioOn = true ∧ privileged st3 (.spi : Path) = true) ∧
    (rubricOn st65 = true ∧ st65.rubric.busy = true ∧ st65.rubric.classV = []) ∧
    (rubricOn up = true) := by
  refine ⟨?_, ?_, ?_, ?_, ?_, ?_, ?_, ?_, ?_, ?_, ?_, ?_⟩ <;> decide +kernel

theorem witness_RegisterAndFunctionAccessesComplete :
    (st3.folioOn = true ∧ ((.spi : Path) = .spi → bootRefused st3 (0x80000 : BitVec 24).toNat = false) ∧ takesWrite st3 (.spi : Path) (0x80000 : BitVec 24).toNat (((findRow 0x80000).get (by decide +kernel)) : RegRow) (0 : Word) ∧ (((findRow 0x80000).get (by decide +kernel)) : RegRow).applies = .epoch) ∧
    (st3.folioOn = true ∧ ((.spi : Path) = .spi → bootRefused st3 (0x130400 : BitVec 24).toNat = false) ∧ takesWrite st3 (.spi : Path) (0x130400 : BitVec 24).toNat (((findRow 0x130400).get (by decide +kernel)) : RegRow) (0 : Word) ∧ (((findRow 0x130400).get (by decide +kernel)) : RegRow).applies ≠ .epoch ∧ (((findRow 0x130400).get (by decide +kernel)) : RegRow).applies ≠ .imm) ∧
    (st3.folioOn = true ∧ ((.pf : Path) = .spi → bootRefused st3 (0x20000 : BitVec 24).toNat = false) ∧ pageVi (0x20000 : BitVec 24).toNat = none ∧ denied st3 (.pf : Path) (0x20000 : BitVec 24).toNat = true) ∧
    (st3.folioOn = true ∧ privileged st3 (.spi : Path) = true ∧ takesWrite st3 (.spi : Path) (0x80000 : BitVec 24).toNat (((findRow 0x80000).get (by decide +kernel)) : RegRow) (0 : Word) ∧ (((findRow 0x80000).get (by decide +kernel)) : RegRow).applies = .epoch) ∧
    (st3.folioOn = true ∧ findRow (0x108 : BitVec 24).toNat = some (((findRow 0x108).get (by decide +kernel)) : RegRow) ∧ (((findRow 0x108).get (by decide +kernel)) : RegRow).acc = .rc ∧ denied st3 (.spi : Path) (0x108 : BitVec 24).toNat = false ∧ unreachedV st3 (0x108 : BitVec 24).toNat = false ∧ domainOff st3 (0x108 : BitVec 24).toNat = false) ∧
    (st3.folioOn = true ∧ pairLow (0x40 : BitVec 24).toNat = true ∧ findRow (0x40 : BitVec 24).toNat = some (((findRow 0x40).get (by decide +kernel)) : RegRow) ∧ (((findRow 0x40).get (by decide +kernel)) : RegRow).acc = .ro ∧ denied st3 (.spi : Path) (0x40 : BitVec 24).toNat = false ∧ domainOff st3 (0x40 : BitVec 24).toNat = false) ∧
    (st3.folioOn = true ∧ privileged st3 (.spi : Path) = true ∧ RegFile.wf mapReset st3.regs = true) ∧
    (st66.func.queue = (func1 : FuncReq) :: ([] : List FuncReq) ∧ scribeRuns st66 = true ∧ (func1 : FuncReq).ok = true ∧ (func1 : FuncReq).op = 1) ∧
    (st67.func.queue = ({ func1 with op := 2, addr := 0x20000 } : FuncReq) :: ([] : List FuncReq) ∧ scribeRuns st67 = true ∧ ({ func1 with op := 2, addr := 0x20000 } : FuncReq).ok = true ∧ ({ func1 with op := 2, addr := 0x20000 } : FuncReq).op = 2 ∧ pageVi ({ func1 with op := 2, addr := 0x20000 } : FuncReq).addr = none ∧ denied st67 .scribe ({ func1 with op := 2, addr := 0x20000 } : FuncReq).addr = true) ∧
    (st68.func.queue = ({ func1 with op := 2 } : FuncReq) :: ([] : List FuncReq) ∧ scribeRuns st68 = true ∧ ({ func1 with op := 2 } : FuncReq).ok = true ∧ ({ func1 with op := 2 } : FuncReq).op = 2 ∧ pageVi ({ func1 with op := 2 } : FuncReq).addr = none ∧ findRow ({ func1 with op := 2 } : FuncReq).addr = some (((findRow 0).get (by decide +kernel)) : RegRow) ∧ (((findRow 0).get (by decide +kernel)) : RegRow).acc = .ro ∧ denied st68 .scribe ({ func1 with op := 2 } : FuncReq).addr = false) := by
  refine ⟨?_, ?_, ?_, ?_, ?_, ?_, ?_, ?_, ?_, ?_⟩ <;> decide +kernel

theorem witness_OwnershipCommandsComplete :
    (st3.folioOn = true ∧ privileged st3 (.spi : Path) = true ∧ (3 : PortId).val ≠ 0 ∧ bitOf (0x80000042 : Word) 31 = true ∧ Owner.ofCode (fld (0x80000042 : Word) 0 7) = some ((.ring 2) : Owner)) ∧
    (st3.folioOn = true ∧ privileged st3 (.spi : Path) = true ∧ bitOf (0 : Word) 31 = false) ∧
    (st69.folioOn = true ∧ (3 : PortId).val ≠ 0 ∧ (st69.own.get (3 : PortId)).owner = .ring (2 : RingId) ∧ (st69.own.get (3 : PortId)).expiry = some (0 : Nat) ∧ (0 : Nat) ≤ max st69.now (0) ∧ .expiry (2 : RingId) ∉ (st69.own.get (3 : PortId)).events) ∧
    (scribeRuns st70 = true ∧ (st70.own.get (3 : PortId)).events ≠ [] ∧ ((st70.own.get (3 : PortId)).state = .service ∨ (st70.own.get (3 : PortId)).state = .barred)) ∧
    (scribeRuns st71 = true ∧ (st71.own.get (3 : PortId)).events ≠ [] ∧ (st71.own.get (3 : PortId)).state ≠ .service ∧ (st71.own.get (3 : PortId)).state ≠ .barred) ∧
    (st72.folioOn = true ∧ (st72.own.get (3 : PortId)).state = .handover ∧ (st72.own.get (3 : PortId)).owner = .ring (2 : RingId) ∧ (st72.own.get (3 : PortId)).decidedAt < max st72.now 1) ∧
    (st73.folioOn = true ∧ (st73.own.get (3 : PortId)).state = .orphanKept ∧ (st73.own.get (3 : PortId)).unsettled = true ∧ (st73.own.get (3 : PortId)).decidedAt < max st73.now 1) ∧
    (st74.folioOn = true ∧ (st74.own.get (3 : PortId)).state = .orphanOff ∧ (st74.own.get (3 : PortId)).unsettled = true ∧ (st74.own.get (3 : PortId)).decidedAt < max st74.now 1) ∧
    (st75.folioOn = true ∧ (st75.own.get (3 : PortId)).state = .resetting ∧ (st75.own.get (3 : PortId)).decidedAt < max st75.now 1 ∧ (st75.nibs.get (3 : PortId)).wait2 = false ∧ (st75.nibs.get (3 : PortId)).waitS = false) := by
  refine ⟨?_, ?_, ?_, ?_, ?_, ?_, ?_, ?_, ?_⟩ <;> decide +kernel

theorem witness_ViControlCommandsComplete :
    (inkOn st76 = true ∧ bitOf (viReg st76 (2 : RingId) 0x100) 0 = false ∧ bitOf (1 : Word) 0 = true ∧ ringsOk (setPage (begin 0 st76) (2 : RingId) 0x100 ((1 : Word) &&& 7)) (2 : RingId) = true) ∧
    (inkOn up = true ∧ bitOf (viReg up (2 : RingId) 0x100) 0 = false ∧ bitOf (1 : Word) 0 = true ∧ ringsOk (setPage (begin 0 up) (2 : RingId) 0x100 ((1 : Word) &&& 7)) (2 : RingId) = false) ∧
    (inkOn st77 = true ∧ bitOf (viReg st77 (2 : RingId) 0x100) 0 = true ∧ bitOf (0 : Word) 0 = false) ∧
    (inkOn st78 = true ∧ slotBound st78 (1 : Fin 128) = true ∧ (st78.qps.get (1 : Fin 128)).state = .ready ∧ ([] : List Byte).length ≠ 256) ∧
    (inkOn st78 = true ∧ slotBound st78 (1 : Fin 128) = true ∧ (st78.qps.get (1 : Fin 128)).state = .ready ∧ ((List.replicate 256 0) : List Byte).length = 256) := by
  refine ⟨?_, ?_, ?_, ?_, ?_⟩ <;> decide +kernel

theorem witness_DoorbellCommandsComplete :
    (inkOn st79 = true ∧ (st79.vis.get (2 : RingId)).enabled = true) ∧
    (inkOn st80 = true ∧ (st80.vis.get (2 : RingId)).enabled = false) ∧
    (inkOn st79 = true ∧ (st79.vis.get (2 : RingId)).enabled = true ∧ evtSlots st79 (2 : RingId) ≤ fld (1 : Word) 0 16) ∧
    (inkOn st79 = true ∧ (st79.vis.get (2 : RingId)).enabled = true ∧ fld (0 : Word) 0 16 < evtSlots st79 (2 : RingId)) ∧
    (inkOn st81 = true ∧ (st81.vis.get (2 : RingId)).enabled = true ∧ (3 : PortId).val ≠ 0 ∧ maskBit (fld (8 : Word) 0 16) (3 : PortId).val = true ∧ (st81.own.get (3 : PortId)).owner = .ring (2 : RingId) ∧ (st81.own.get (3 : PortId)).expiry = some (1 : Nat) ∧ max st81.now 0 < (1 : Nat)) ∧
    (inkOn up = true ∧ findEp up (fld (0 : Word) 0 16) = none) ∧
    (inkOn st82 = true ∧ (st82.vis.get (2 : RingId)).enabled = true ∧ findEp st82 (fld (5 : Word) 0 16) = some (ep1 : Endpoint) ∧ (ep1 : Endpoint).bound = some (bind1 : Binding) ∧ bindHolder st82 (ep1 : Endpoint).port = .ring (2 : RingId) ∧ (ep1 : Endpoint).run ≠ .halted ∧ (bind1 : Binding).dead = false) ∧
    (inkOn up = true ∧ 0x0C ≤ (0x3F : Nat) ∧ (0x3F : Nat) < 0x40) ∧
    (inkOn st83 = true ∧ (st83.vis.get (2 : RingId)).enabled = true ∧ (st83.vis.get (2 : RingId)).unreachable = false ∧ (st83.vis.get (2 : RingId)).cmdBusy = true) ∧
    (inkOn st84 = true ∧ (st84.vis.get (2 : RingId)).enabled = true ∧ (st84.vis.get (2 : RingId)).unreachable = false ∧ (st84.vis.get (2 : RingId)).cmdBusy = true ∧ 0 < (st84.vis.get (2 : RingId)).cmdFetch ∧ entryLap ((List.replicate 32 0) : List Byte) ≠ (st84.vis.get (2 : RingId)).cmdLap) := by
  refine ⟨?_, ?_, ?_, ?_, ?_, ?_, ?_, ?_, ?_, ?_⟩ <;> decide +kernel

theorem witness_PortRingCommandsComplete_a :
    (commandRuns (begin 0 st85) (2 : RingId) ((cmd 0x20 []) : CmdEntry) 0x20) ∧
    (commandRuns (begin 0 st86) (2 : RingId) ((cmd 0x21 [0, 0, 3]) : CmdEntry) 0x21 ∧ (cmdPort (begin 0 st86) ((cmd 0x21 [0, 0, 3]) : CmdEntry)).val ≠ 0) ∧
    (commandRuns (begin 0 st87) (2 : RingId) ((cmd 0x22 [0, 0, 3]) : CmdEntry) 0x22) ∧
    (commandRuns (begin 0 st88) (2 : RingId) ((cmd 0x23 []) : CmdEntry) 0x23) ∧
    (commandRuns (begin 0 st89) (2 : RingId) ((cmd 0x24 [0, 0, 3]) : CmdEntry) 0x24 ∧ argF ((cmd 0x24 [0, 0, 3]) : CmdEntry) 2 8 1 = 0 ∧ portLit st89 (cmdPort (begin 0 st89) ((cmd 0x24 [0, 0, 3]) : CmdEntry)) = true) ∧
    (commandRuns (begin 0 st90) (2 : RingId) ((cmd 0x24 [0, 0, 0x103]) : CmdEntry) 0x24 ∧ argF ((cmd 0x24 [0, 0, 0x103]) : CmdEntry) 2 8 1 = 1 ∧ portLit st90 (cmdPort (begin 0 st90) ((cmd 0x24 [0, 0, 0x103]) : CmdEntry)) = true) ∧
    (commandRuns (begin 0 st91) (2 : RingId) ((cmd 0x24 [0, 0, 3]) : CmdEntry) 0x24 ∧ argF ((cmd 0x24 [0, 0, 3]) : CmdEntry) 2 8 1 = 0 ∧ portLit st91 (cmdPort (begin 0 st91) ((cmd 0x24 [0, 0, 3]) : CmdEntry)) = false) ∧
    (st92.folioOn = true ∧ (st92.nibs.get (3 : PortId)).resetCmd = some ((2, 0) : RingId × Nat) ∧ (st92.nibs.get (3 : PortId)).resetAt + ticksMs 500 ≤ max st92.now ((st92.nibs.get 3).resetAt + ticksMs 500)) ∧
    (commandRuns (begin 0 st93) (2 : RingId) ((cmd 0x25 [0, 0, 3]) : CmdEntry) 0x25 ∧ argF ((cmd 0x25 [0, 0, 3]) : CmdEntry) 2 8 1 = 0 ∧ portLit st93 (cmdPort (begin 0 st93) ((cmd 0x25 [0, 0, 3]) : CmdEntry)) = true ∧ treeThere (st93.nibs.get (cmdPort (begin 0 st93) ((cmd 0x25 [0, 0, 3]) : CmdEntry))) = true ∧ (st93.nibs.get (cmdPort (begin 0 st93) ((cmd 0x25 [0, 0, 3]) : CmdEntry))).susp = .suspended) ∧
    (commandRuns (begin 0 st94) (2 : RingId) ((cmd 0x25 [0, 0, 3]) : CmdEntry) 0x25 ∧ argF ((cmd 0x25 [0, 0, 3]) : CmdEntry) 2 8 1 = 0 ∧ portLit st94 (cmdPort (begin 0 st94) ((cmd 0x25 [0, 0, 3]) : CmdEntry)) = true ∧ treeThere (st94.nibs.get (cmdPort (begin 0 st94) ((cmd 0x25 [0, 0, 3]) : CmdEntry))) = true ∧ (st94.nibs.get (cmdPort (begin 0 st94) ((cmd 0x25 [0, 0, 3]) : CmdEntry))).susp = .awake) ∧
    (commandRuns (begin 0 st95) (2 : RingId) ((cmd 0x25 [0, 0, 0x103]) : CmdEntry) 0x25 ∧ argF ((cmd 0x25 [0, 0, 0x103]) : CmdEntry) 2 8 1 = 1 ∧ portLit st95 (cmdPort (begin 0 st95) ((cmd 0x25 [0, 0, 0x103]) : CmdEntry)) = true ∧ treeThere (st95.nibs.get (cmdPort (begin 0 st95) ((cmd 0x25 [0, 0, 0x103]) : CmdEntry))) = true ∧ (st95.nibs.get (cmdPort (begin 0 st95) ((cmd 0x25 [0, 0, 0x103]) : CmdEntry))).susp = .awake) ∧
    (commandRuns (begin 0 st96) (2 : RingId) ((cmd 0x25 [0, 0, 0x103]) : CmdEntry) 0x25 ∧ argF ((cmd 0x25 [0, 0, 0x103]) : CmdEntry) 2 8 1 = 1 ∧ portLit st96 (cmdPort (begin 0 st96) ((cmd 0x25 [0, 0, 0x103]) : CmdEntry)) = true ∧ treeThere (st96.nibs.get (cmdPort (begin 0 st96) ((cmd 0x25 [0, 0, 0x103]) : CmdEntry))) = true ∧ (st96.nibs.get (cmdPort (begin 0 st96) ((cmd 0x25 [0, 0, 0x103]) : CmdEntry))).susp = .suspended) := by
  refine ⟨?_, ?_, ?_, ?_, ?_, ?_, ?_, ?_, ?_, ?_, ?_, ?_⟩ <;> decide +kernel

theorem witness_PortRingCommandsComplete_b :
    (st97.folioOn = true ∧ (st97.nibs.get (3 : PortId)).susp = .entering (0 : Nat) ∧ (0 : Nat) + ticksMs 10 ≤ max st97.now (0 + ticksMs 10)) ∧
    (st98.folioOn = true ∧ (st98.nibs.get (3 : PortId)).susp = .resumeK (0 : Nat) ∧ (0 : Nat) + ticksMs 20 ≤ max st98.now (0 + ticksMs 20)) ∧
    (st99.folioOn = true ∧ (st99.nibs.get (3 : PortId)).susp = .resuming (0 : Nat) ∧ (0 : Nat) + ticksMs 10 ≤ max st99.now (0 + ticksMs 10) ∧ (st99.nibs.get (3 : PortId)).suspNext = none) := by
  refine ⟨?_, ?_, ?_⟩ <;> decide +kernel

theorem witness_DeviceRingCommandsComplete :
    (commandRuns (begin 0 st101) (2 : RingId) ((cmd 0x26 [0, 0, 0x703]) : CmdEntry) 0x26 ∧ portLit st101 (cmdPort (begin 0 st101) ((cmd 0x26 [0, 0, 0x703]) : CmdEntry)) = true ∧ addressRecord (markStarted (begin 0 st101) (2 : RingId) ((cmd 0x26 [0, 0, 0x703]) : CmdEntry).slot) ((cmd 0x26 [0, 0, 0x703]) : CmdEntry) (cmdPort (begin 0 st101) ((cmd 0x26 [0, 0, 0x703]) : CmdEntry)) = none) ∧
    (st102.folioOn = true ∧ (st102.nibs.get (3 : PortId)).addressing = some ({ v := 2, slot := 0, device := dev1, mps := 64, ctx := 5, cerr := 0, recoverAt := some 0 } : Addressing) ∧ ({ v := 2, slot := 0, device := dev1, mps := 64, ctx := 5, cerr := 0, recoverAt := some 0 } : Addressing).recoverAt = some (0 : Nat) ∧ (0 : Nat) + ticksMs 2 ≤ max st102.now (0 + ticksMs 2)) ∧
    (commandRuns (begin 0 st103) (2 : RingId) ((cmd 0x27 [0, 0, 0x302]) : CmdEntry) 0x27 ∧ (portDevices st103 (cmdPort (begin 0 st103) ((cmd 0x27 [0, 0, 0x302]) : CmdEntry))).any (fun d => d.addr == argF ((cmd 0x27 [0, 0, 0x302]) : CmdEntry) 2 0 7) = false) ∧
    (commandRuns (begin 0 st104) (2 : RingId) ((cmd 0x27 [0, 0, 0x301]) : CmdEntry) 0x27 ∧ (portDevices st104 (cmdPort (begin 0 st104) ((cmd 0x27 [0, 0, 0x301]) : CmdEntry))).any (fun d => d.addr == argF ((cmd 0x27 [0, 0, 0x301]) : CmdEntry) 2 0 7) = true) := by
  refine ⟨?_, ?_, ?_, ?_⟩ <;> decide +kernel

theorem witness_DeviceRingCommandsComplete_0 :
    commandRuns (begin 0 st100) (2 : RingId) ((cmd 0x26 [0, 0, 0x303, 0, 0, 64]) : CmdEntry) 0x26 ∧ portLit st100 (cmdPort (begin 0 st100) ((cmd 0x26 [0, 0, 0x303, 0, 0, 64]) : CmdEntry)) = true ∧ addressRecord (markStarted (begin 0 st100) (2 : RingId) ((cmd 0x26 [0, 0, 0x303, 0, 0, 64]) : CmdEntry).slot) ((cmd 0x26 [0, 0, 0x303, 0, 0, 64]) : CmdEntry) (cmdPort (begin 0 st100) ((cmd 0x26 [0, 0, 0x303, 0, 0, 64]) : CmdEntry)) = some (((addressRecord (markStarted (begin 0 (st100)) 2 0) (cmd 0x26 [0, 0, 0x303, 0, 0, 64]) 3).getD dev1) : Device) ∧ freeAddr (markStarted (begin 0 st100) (2 : RingId) ((cmd 0x26 [0, 0, 0x303, 0, 0, 64]) : CmdEntry).slot) (cmdPort (begin 0 st100) ((cmd 0x26 [0, 0, 0x303, 0, 0, 64]) : CmdEntry)) = some (1 : Nat) ∧ (allocCtx (markStarted (begin 0 st100) (2 : RingId) ((cmd 0x26 [0, 0, 0x303, 0, 0, 64]) : CmdEntry).slot)).2 = some (((draw (markStarted (begin 0 (st100)) 2 0)).1.toNat % 65536) : Nat) := by
  (repeat' apply And.intro) <;> rfl

theorem witness_EndpointAndQueryRingCommandsComplete_a :
    (commandRuns (begin 0 st106) (2 : RingId) ((cmd 0x28 [0, 0, 0x0300]) : CmdEntry) 0x28 ∧ tileOn st106 (cmdPort (begin 0 st106) ((cmd 0x28 [0, 0, 0x0300]) : CmdEntry)) 2 = true ∧ argEpOk st106 (argEp ((cmd 0x28 [0, 0, 0x0300]) : CmdEntry) (cmdPort (begin 0 st106) ((cmd 0x28 [0, 0, 0x0300]) : CmdEntry))) = false) ∧
    (commandRuns (begin 0 st107) (2 : RingId) ((cmd 0x29 [0, 0, 0x40005, 15]) : CmdEntry) 0x29 ∧ 4 ≤ argF ((cmd 0x29 [0, 0, 0x40005, 15]) : CmdEntry) 2 16 5 ∧ argF ((cmd 0x29 [0, 0, 0x40005, 15]) : CmdEntry) 2 16 5 ≤ 16 ∧ argBuf ((cmd 0x29 [0, 0, 0x40005, 15]) : CmdEntry) % 64 = 0 ∧ argF ((cmd 0x29 [0, 0, 0x40005, 15]) : CmdEntry) 3 0 16 < 2 ^ argF ((cmd 0x29 [0, 0, 0x40005, 15]) : CmdEntry) 2 16 5 ∧ reaches st107 (2 : RingId) (argBuf ((cmd 0x29 [0, 0, 0x40005, 15]) : CmdEntry)) (32 * 2 ^ argF ((cmd 0x29 [0, 0, 0x40005, 15]) : CmdEntry) 2 16 5) = true ∧ findEp st107 (argCtx ((cmd 0x29 [0, 0, 0x40005, 15]) : CmdEntry)) = some ({ ep1 with run := .stopped } : Endpoint) ∧ ({ ep1 with run := .stopped } : Endpoint).run ≠ .running) ∧
    (commandRuns (begin 0 st108) (2 : RingId) ((cmd 0x2A [0, 0, 5]) : CmdEntry) 0x2A ∧ findEp st108 (argCtx ((cmd 0x2A [0, 0, 5]) : CmdEntry)) = some ({ ep1 with queue := [xfer1] } : Endpoint) ∧ ({ ep1 with queue := [xfer1] } : Endpoint).queue ≠ [] ∧ epRuns ({ ep1 with queue := [xfer1] } : Endpoint) = true) ∧
    (commandRuns (begin 0 st109) (2 : RingId) ((cmd 0x2A [0, 0, 5]) : CmdEntry) 0x2A) ∧
    (commandRuns (begin 0 st110) (2 : RingId) ((cmd 0x2B [0, 0, 5]) : CmdEntry) 0x2B ∧ findEp st110 (argCtx ((cmd 0x2B [0, 0, 5]) : CmdEntry)) = some ({ ep1 with run := .halted } : Endpoint) ∧ ({ ep1 with run := .halted } : Endpoint).run = .halted) ∧
    (commandRuns (begin 0 st111) (2 : RingId) ((cmd 0x2B [0, 0, 5]) : CmdEntry) 0x2B ∧ findEp st111 (argCtx ((cmd 0x2B [0, 0, 5]) : CmdEntry)) = some (ep1 : Endpoint) ∧ (ep1 : Endpoint).run ≠ .halted) ∧
    (commandRuns (begin 0 st112) (2 : RingId) ((cmd 0x2C [0, 0, 5]) : CmdEntry) 0x2C) ∧
    (commandRuns (begin 0 st113) (2 : RingId) ((cmd 0x2D [0, 0, 0x30005, 256]) : CmdEntry) 0x2D ∧ argF ((cmd 0x2D [0, 0, 0x30005, 256]) : CmdEntry) 2 16 1 = 1 ∧ readAheadReason (markStarted (begin 0 st113) (2 : RingId) ((cmd 0x2D [0, 0, 0x30005, 256]) : CmdEntry).slot) (2 : RingId) ((cmd 0x2D [0, 0, 0x30005, 256]) : CmdEntry) = 0 ∧ findEp st113 (argCtx ((cmd 0x2D [0, 0, 0x30005, 256]) : CmdEntry)) = some ({ ep1 with epAddr := 0x81 } : Endpoint)) ∧
    (commandRuns (begin 0 st114) (2 : RingId) ((cmd 0x2D [0, 0, 0x10005]) : CmdEntry) 0x2D ∧ argF ((cmd 0x2D [0, 0, 0x10005]) : CmdEntry) 2 16 1 = 1 ∧ readAheadReason (markStarted (begin 0 st114) (2 : RingId) ((cmd 0x2D [0, 0, 0x10005]) : CmdEntry).slot) (2 : RingId) ((cmd 0x2D [0, 0, 0x10005]) : CmdEntry) ≠ 0) ∧
    (commandRuns (begin 0 st115) (2 : RingId) ((cmd 0x2D [0, 0, 5]) : CmdEntry) 0x2D ∧ argF ((cmd 0x2D [0, 0, 5]) : CmdEntry) 2 16 1 = 0 ∧ findEp st115 (argCtx ((cmd 0x2D [0, 0, 5]) : CmdEntry)) = some (ep1 : Endpoint)) ∧
    (commandRuns (begin 0 st116) (2 : RingId) ((cmd 0x2E [0, 0, 3, 63]) : CmdEntry) 0x2E ∧ (argW ((cmd 0x2E [0, 0, 3, 63]) : CmdEntry) 3).toNat < 64) ∧
    (commandRuns (begin 0 st117) (2 : RingId) ((cmd 0x2F []) : CmdEntry) 0x2F ∧ reaches st117 (2 : RingId) (argBuf ((cmd 0x2F []) : CmdEntry)) 256 = true) := by
  refine ⟨?_, ?_, ?_, ?_, ?_, ?_, ?_, ?_, ?_, ?_, ?_, ?_⟩ <;> decide +kernel

theorem witness_EndpointAndQueryRingCommandsComplete_b :
    (commandRuns (begin 0 st118) (2 : RingId) ((cmd 0x2F []) : CmdEntry) 0x2F ∧ reaches st118 (2 : RingId) (argBuf ((cmd 0x2F []) : CmdEntry)) 256 = false) ∧
    (commandRuns (begin 0 st119) (2 : RingId) ((cmd 0x30 []) : CmdEntry) 0x30) ∧
    (inkOn st120 = true ∧ firstStartable (begin 0 st120) (2 : RingId) (st120.vis.get (2 : RingId)).cmds [] = some ((cmd 0x31 [0, 0, 0, 1]) : CmdEntry) ∧ ((cmd 0x31 [0, 0, 0, 1]) : CmdEntry).type = 0x31 ∧ evtSlots st120 (2 : RingId) ≤ argF ((cmd 0x31 [0, 0, 0, 1]) : CmdEntry) 3 0 16) ∧
    (inkOn st121 = true ∧ firstStartable (begin 0 st121) (2 : RingId) (st121.vis.get (2 : RingId)).cmds [] = some ((cmd 0x31 [0, 0, 0xFFFFFFFF, 0]) : CmdEntry) ∧ ((cmd 0x31 [0, 0, 0xFFFFFFFF, 0]) : CmdEntry).type = 0x31 ∧ argF ((cmd 0x31 [0, 0, 0xFFFFFFFF, 0]) : CmdEntry) 3 0 16 < evtSlots st121 (2 : RingId) ∧ (replayPlan (markStarted (begin 0 st121) (2 : RingId) ((cmd 0x31 [0, 0, 0xFFFFFFFF, 0]) : CmdEntry).slot) (2 : RingId) (((argW ((cmd 0x31 [0, 0, 0xFFFFFFFF, 0]) : CmdEntry) 2).toNat + 1) % 2 ^ 32)).1 ≠ ccParam) := by
  refine ⟨?_, ?_, ?_, ?_⟩ <;> decide +kernel

theorem witness_EndpointAndQueryRingCommandsComplete_0 :
    commandRuns (begin 0 st105) (2 : RingId) ((cmd 0x28 [0, 0, 0x02820301, 512, 0, 0]) : CmdEntry) 0x28 ∧ tileOn st105 (cmdPort (begin 0 st105) ((cmd 0x28 [0, 0, 0x02820301, 512, 0, 0]) : CmdEntry)) 2 = true ∧ argEpOk st105 (argEp ((cmd 0x28 [0, 0, 0x02820301, 512, 0, 0]) : CmdEntry) (cmdPort (begin 0 st105) ((cmd 0x28 [0, 0, 0x02820301, 512, 0, 0]) : CmdEntry))) = true ∧ (portDevices st105 (cmdPort (begin 0 st105) ((cmd 0x28 [0, 0, 0x02820301, 512, 0, 0]) : CmdEntry))).any (fun d => d.addr == argF ((cmd 0x28 [0, 0, 0x02820301, 512, 0, 0]) : CmdEntry) 2 0 7) = true ∧ argF ((cmd 0x28 [0, 0, 0x02820301, 512, 0, 0]) : CmdEntry) 2 24 2 = 2 ∧ (allocCtx (markStarted (begin 0 st105) (2 : RingId) ((cmd 0x28 [0, 0, 0x02820301, 512, 0, 0]) : CmdEntry).slot)).2 = some (((draw (markStarted (begin 0 (st105)) 2 0)).1.toNat % 65536) : Nat) := by
  (repeat' apply And.intro) <;> rfl

theorem witness_BusTransactionsComplete :
    (inkOn busy = true ∧ nibServes busy (3 : PortId) (.ep (5 : Nat)) = true ∧ findEp busy (5 : Nat) = some (ep1 : Endpoint) ∧ (ep1 : Endpoint).port = (3 : PortId) ∧ busRuns busy (3 : PortId) (epSs busy (ep1 : Endpoint)) = true) ∧
    (inkOn st122 = true ∧ tileOn st122 (3 : PortId) 0 = true ∧ (st122.nibs.get (3 : PortId)).addressing = some ({ v := 2, slot := 0, device := dev1, mps := 64, ctx := 5, cerr := 0, recoverAt := none } : Addressing) ∧ ({ v := 2, slot := 0, device := dev1, mps := 64, ctx := 5, cerr := 0, recoverAt := none } : Addressing).recoverAt = none) ∧
    (inkOn st123 = true ∧ tileOn st123 (3 : PortId) 0 = true ∧ (st123.nibs.get (3 : PortId)).preview = some ({ ss := false, step := 0, mps := 64, cerr := 0, dev := [], cfg := [], since := 0 } : Preview) ∧ busRuns st123 (3 : PortId) ({ ss := false, step := 0, mps := 64, cerr := 0, dev := [], cfg := [], since := 0 } : Preview).ss = true) ∧
    (inkOn busy = true ∧ nibServes busy (3 : PortId) (.ep (5 : Nat)) = true ∧ findEp busy (5 : Nat) = some (ep1 : Endpoint) ∧ (ep1 : Endpoint).port = (3 : PortId) ∧ busRuns busy (3 : PortId) (epSs busy (ep1 : Endpoint)) = true) ∧
    (inkOn st124 = true ∧ (st124.nibs.get (3 : PortId)).preview = some ({ ss := false, step := 0, mps := 64, cerr := 0, dev := [], cfg := [], since := 0 } : Preview) ∧ ({ ss := false, step := 0, mps := 64, cerr := 0, dev := [], cfg := [], since := 0 } : Preview).since + ticksMs 500 ≤ max st124.now (ticksMs 500)) ∧
    (inkOn st125 = true ∧ findEp st125 (5 : Nat) = some ({ ep1 with queue := [xfer1], ageSince := some 0 } : Endpoint) ∧ ringOwner st125 ({ ep1 with queue := [xfer1], ageSince := some 0 } : Endpoint).port = some (2 : RingId) ∧ eligible st125 ({ ep1 with queue := [xfer1], ageSince := some 0 } : Endpoint) = true ∧ ticksMs (viAgeMs st125 (2 : RingId)) ≤ epAge (begin 100000 st125) ({ ep1 with queue := [xfer1], ageSince := some 0 } : Endpoint)) ∧
    (inkOn st126 = true ∧ viRoce st126 (2 : RingId) = true ∧ (st126.vis.get (2 : RingId)).qp = some (1 : Fin 128) ∧ (st126.qps.get (1 : Fin 128)).state = .ready) ∧
    (inkOn st127 = true ∧ viKind st127 (2 : RingId) = 1 ∧ st127.pcie.link = true) ∧
    (inkOn st127 = true ∧ viKind st127 (2 : RingId) = 1 ∧ st127.pcie.link = true ∧ findEp st127 (5 : Nat) = none) ∧
    (inkOn st128 = true ∧ findEp st128 (5 : Nat) = some ({ ep1 with type := 1, queue := [{ xfer1 with interval := some 0 }] } : Endpoint) ∧ ({ ep1 with type := 1, queue := [{ xfer1 with interval := some 0 }] } : Endpoint).type = 1 ∧ epIn ({ ep1 with type := 1, queue := [{ xfer1 with interval := some 0 }] } : Endpoint) = false ∧ epRuns ({ ep1 with type := 1, queue := [{ xfer1 with interval := some 0 }] } : Endpoint) = true ∧ ({ ep1 with type := 1, queue := [{ xfer1 with interval := some 0 }] } : Endpoint).queue = [({ xfer1 with interval := some 0 } : Transfer)] ∧ ({ xfer1 with interval := some 0 } : Transfer).asked = 0 ∧ ({ xfer1 with interval := some 0 } : Transfer).interval = some (0 : Nat) ∧ ufTick st128 ({ xfer1 with interval := some 0 } : Transfer).v (0 : Nat) ≤ max st128.now 0 + ticksUs (({ ep1 with type := 1, queue := [{ xfer1 with interval := some 0 }] } : Endpoint).lead + ({ ep1 with type := 1, queue := [{ xfer1 with interval := some 0 }] } : Endpoint).jitter)) ∧
    (st3.folioOn = true) := by
  refine ⟨?_, ?_, ?_, ?_, ?_, ?_, ?_, ?_, ?_, ?_, ?_⟩ <;> decide +kernel

theorem witness_RootPortCommandsComplete_a :
    (st129.folioOn = true ∧ (3 : PortId).val ≠ 0 ∧ sinkAttached st129 (3 : PortId) = true ∧ vbusOn st129 (3 : PortId) = true ∧ (st129.nibs.get (3 : PortId)).connect = false ∧ ((st129.nibs.get (3 : PortId)).phase2 = .idle ∨ (st129.nibs.get (3 : PortId)).phase2 = .disabled)) ∧
    (st130.folioOn = true ∧ (3 : PortId).val ≠ 0 ∧ 4 ≤ maxSpeed st130 (3 : PortId) ∧ sinkAttached st130 (3 : PortId) = true ∧ vbusOn st130 (3 : PortId) = true ∧ pathsHeld st130 (3 : PortId) = false ∧ ((st130.nibs.get (3 : PortId)).phaseS = .off ∨ (st130.nibs.get (3 : PortId)).phaseS = .detect)) ∧
    (st130.folioOn = true ∧ (3 : PortId).val ≠ 0 ∧ 4 ≤ maxSpeed st130 (3 : PortId) ∧ sinkAttached st130 (3 : PortId) = true ∧ vbusOn st130 (3 : PortId) = true ∧ pathsHeld st130 (3 : PortId) = false ∧ ((st130.nibs.get (3 : PortId)).phaseS = .off ∨ (st130.nibs.get (3 : PortId)).phaseS = .detect)) ∧
    (st131.folioOn = true ∧ portLit st131 (3 : PortId) = true ∧ ((st131.nibs.get (3 : PortId)).phaseS = .u1 ∨ (st131.nibs.get (3 : PortId)).phaseS = .u2)) ∧
    (st132.folioOn = true ∧ portLit st132 (3 : PortId) = true ∧ (st132.nibs.get (3 : PortId)).phaseS = .training (0 : Nat)) ∧
    (st133.folioOn = true ∧ (st133.nibs.get (3 : PortId)).phaseS = .training (0 : Nat) ∧ (0 : Nat) + ticksMs 400 ≤ max st133.now (0 + ticksMs 400)) ∧
    (st134.folioOn = true ∧ (st134.nibs.get (3 : PortId)).speed2 ≠ 1 ∧ 3 ≤ maxSpeed st134 (3 : PortId) ∧ (7000 : Nat) ≤ 7000 ∧ 25 ≤ (25 : Nat) ∧ (st134.cports.get (3 : PortId)).reset2 = none ∧ (st134.nibs.get (3 : PortId)).phase2 = .reset (0 : Nat) ∧ (0 : Nat) + ticksUs (7000 : Nat) ≤ max st134.now (ticksUs 7000) ∧ max st134.now (ticksUs 7000) < (0 : Nat) + ticksMs 50) ∧
    (st135.folioOn = true ∧ (st135.nibs.get (3 : PortId)).phase2 = .reset (0 : Nat) ∧ (0 : Nat) + ticksMs 50 ≤ max st135.now (0 + ticksMs 50) ∧ (st135.nibs.get (3 : PortId)).connect = false ∧ (st135.nibs.get (3 : PortId)).resetCmd = none) ∧
    (st136.folioOn = true ∧ (st136.nibs.get (3 : PortId)).phase2 = .reset (0 : Nat) ∧ (0 : Nat) + ticksMs 50 ≤ max st136.now (0 + ticksMs 50) ∧ (st136.nibs.get (3 : PortId)).connect = true ∧ (st136.nibs.get (3 : PortId)).chirp = 2 ∧ (st136.nibs.get (3 : PortId)).resetCmd = some ((2, 0) : RingId × Nat) ∧ (st136.nibs.get (3 : PortId)).waitS = true) ∧
    (st137.folioOn = true ∧ (st137.nibs.get (3 : PortId)).phase2 = .recovery (0 : Nat) ∧ (0 : Nat) + ticksMs 10 ≤ max st137.now (0 + ticksMs 10)) ∧
    (st138.folioOn = true ∧ (st138.nibs.get (3 : PortId)).connect = true ∧ (st138.nibs.get (3 : PortId)).phase2 = .active) ∧
    (st139.folioOn = true ∧ (st139.nibs.get (3 : PortId)).connect = true ∧ (st139.nibs.get (3 : PortId)).phase2 ≠ .stuck) := by
  refine ⟨?_, ?_, ?_, ?_, ?_, ?_, ?_, ?_, ?_, ?_, ?_, ?_⟩ <;> decide +kernel

theorem witness_RootPortCommandsComplete_b :
    (st140.folioOn = true ∧ ssUp (st140.nibs.get (3 : PortId)) = true) := by
  decide +kernel

theorem witness_LinePowerCommandsComplete :
    (inkOn st141 = true ∧ (st141.nibs.get (3 : PortId)).tt = ({ hub := 1, ttPort := 0, ctx := 5 } : TtJob) :: ([] : List TtJob)) ∧
    (inkOn st141 = true ∧ (st141.nibs.get (3 : PortId)).tt = ({ hub := 1, ttPort := 0, ctx := 5 } : TtJob) :: ([] : List TtJob)) ∧
    (st142.folioOn = true ∧ l1En st142 (3 : PortId) = true ∧ (portDevices st142 (3 : PortId)).any (fun d => d.tier == 1 && decide (d.speed ≤ 3) && d.lpm) = true ∧ busRuns st142 (3 : PortId) false = true ∧ (st142.nibs.get (3 : PortId)).l1 = false ∧ (st142.nibs.get (3 : PortId)).l1Hold = none ∧ portIdle st142 (3 : PortId) = true ∧ idleFor (begin 1000000 st142) (3 : PortId) (l1Idle st142 (3 : PortId)) = true) ∧
    (st143.folioOn = true ∧ u1En st143 (3 : PortId) = true ∧ (st143.nibs.get (3 : PortId)).phaseS = .u0 ∧ (st143.nibs.get (3 : PortId)).susp = .awake) ∧
    (st143.folioOn = true ∧ u2En st143 (3 : PortId) = true ∧ (st143.nibs.get (3 : PortId)).phaseS = .u0 ∧ (st143.nibs.get (3 : PortId)).susp = .awake ∧ idleFor (begin 1000000 st143) (3 : PortId) (u2Idle st143 (3 : PortId)) = true) ∧
    (st144.folioOn = true ∧ (st144.nibs.get (3 : PortId)).l1Hold = some (0 : Nat) ∧ (0 : Nat) + ticksS 1 ≤ max st144.now (0 + ticksS 1)) ∧
    (st145.folioOn = true ∧ st145.modes.mode = .managed ∧ (st145.nibs.get (3 : PortId)).susp = .suspended ∧ portLit st145 (3 : PortId) = true ∧ (st145.own.get (3 : PortId)).owner = .ring (2 : RingId)) ∧
    (st146.folioOn = true ∧ (3 : PortId).val ≠ 0 ∧ stuckEn st146 (3 : PortId) = true ∧ sinkAttached st146 (3 : PortId) = true ∧ vbusOn st146 (3 : PortId) = true ∧ (st146.nibs.get (3 : PortId)).phase2 = .active ∧ (st146.nibs.get (3 : PortId)).speed2 ≠ 3) ∧
    (st147.folioOn = true ∧ (3 : PortId).val ≠ 0 ∧ stuckEn st147 (3 : PortId) = true ∧ sinkAttached st147 (3 : PortId) = true ∧ vbusOn st147 (3 : PortId) = true ∧ (st147.nibs.get (3 : PortId)).phase2 = .idle ∧ (st147.nibs.get (3 : PortId)).connect = false ∧ 9 ≤ (st147.nibs.get (3 : PortId)).probeFails) ∧
    (st148.folioOn = true ∧ (st148.nibs.get (3 : PortId)).phase2 = .stuck ∧ (st148.nibs.get (3 : PortId)).retestAt + ticksMs 10 ≤ max st148.now ((st148.nibs.get 3).retestAt + ticksMs 10)) ∧
    (st148.folioOn = true ∧ (st148.nibs.get (3 : PortId)).phase2 = .stuck ∧ (st148.nibs.get (3 : PortId)).retestAt + ticksMs 10 ≤ max st148.now ((st148.nibs.get 3).retestAt + ticksMs 10)) := by
  refine ⟨?_, ?_, ?_, ?_, ?_, ?_, ?_, ?_, ?_, ?_, ?_⟩ <;> decide +kernel

theorem witness_DeliveryAndInkwellComplete :
    (st3.folioOn = true ∧ st3.modes.mode ≠ .holdup ∧ st3.modes.mode ≠ .standby) ∧
    (st149.folioOn = true ∧ viKind st149 (2 : RingId) = 1 ∧ 0 < (st149.vis.get (2 : RingId)).unsignalled ∧ (st149.vis.get (2 : RingId)).unsignalledAt + ticksUs (fld (viReg st149 (2 : RingId) 0x140) 0 16) ≤ max st149.now ((st149.vis.get 2).unsignalledAt + ticksUs (fld (viReg st149 2 0x140) 0 16))) ∧
    (st150.folioOn = true ∧ viRoce st150 (2 : RingId) = true ∧ (st150.vis.get (2 : RingId)).qp = some (1 : Fin 128)) ∧
    (inkOn up = true ∧ stroke (begin 0 up) % 625 = 0) ∧
    (inkOn up = true) ∧
    (inkOn st151 = true ∧ stroke (begin 0 st151) % 500 = 0 ∧ st151.ink.nextKey = none ∧ (List.range 64).filter (hotBank st151 ([] : List Nat) ([] : List Nat)) = []) ∧
    (inkOn st151 = true ∧ stroke (begin 0 st151) % 500 = 0 ∧ st151.ink.nextKey = none ∧ (List.range 64).filter (hotBank st151 ([57000] : List Nat) ([100] : List Nat)) = (0 : Nat) :: ([] : List Nat) ∧ st151.ink.hotRun + 1 < conflictWindows st151) := by
  refine ⟨?_, ?_, ?_, ?_, ?_, ?_, ?_⟩ <;> decide +kernel

theorem witness_PcieCommandsComplete_a :
    (st3.folioOn = true ∧ privileged st3 (.spi : Path) = true ∧ (bindOf ((0 : Word) &&& 0xFF0001F3)).1 = 0 ∧ (bindOf (reg st3 (bindAddr (2 : RingId)))).1 = 0) ∧
    (st152.folioOn = true ∧ privileged st152 (.spi : Path) = true ∧ (bindOf ((0x11 : Word) &&& 0xFF0001F3)).1 = 1 ∧ (1 : RingId) ≠ (2 : RingId) ∧ viKind st152 (1 : RingId) = 1 ∧ (viFn st152 (1 : RingId)).val = (bindOf ((0x11 : Word) &&& 0xFF0001F3)).2) ∧
    (st3.folioOn = true ∧ fnEnabled st3 (0 : Fin 16) = true) ∧
    (st153.folioOn = true ∧ maskBit st153.pcie.flr (15 : Fin 16).val = true) ∧
    (st154.folioOn = true ∧ st154.pcie.vfEnable = true) ∧
    (st155.folioOn = true ∧ st155.pcie.vfEnable = true ∧ 0 < (1 : Nat) ∧ (1 : Nat) < st155.pcie.numVfs) ∧
    (st156.folioOn = true ∧ st156.pcie.link = true ∧ maskBit st156.pcie.flr 0 = false ∧ 1 ≤ (15 : Nat) ∧ (15 : Nat) ≤ 15 ∧ st156.pcie.vfEnable = false) ∧
    (st157.folioOn = true ∧ st157.pcie.link = true) ∧
    (st158.folioOn = true ∧ st158.pcie.link = false ∧ 1 ≤ (4 : Nat) ∧ (4 : Nat) ≤ 4 ∧ ((4 : Nat) = 1 ∨ (4 : Nat) = 2 ∨ (4 : Nat) = 4)) ∧
    (st159.folioOn = true ∧ fnEnabled st159 (0 : Fin 16) = true ∧ maskBit st159.pcie.bme (0 : Fin 16).val = true ∧ fnVi st159 (0 : Fin 16) = none) ∧
    (st160.folioOn = true ∧ fnEnabled st160 (0 : Fin 16) = true ∧ maskBit st160.pcie.bme (0 : Fin 16).val = true ∧ fnVi st160 (0 : Fin 16) = some (2 : RingId)) ∧
    (st3.folioOn = true ∧ fnEnabled st3 (0 : Fin 16) = true ∧ maskBit st3.pcie.bme (0 : Fin 16).val = false) := by
  refine ⟨?_, ?_, ?_, ?_, ?_, ?_, ?_, ?_, ?_, ?_, ?_, ?_⟩ <;> decide +kernel

theorem witness_PcieCommandsComplete_b :
    (st161.folioOn = true ∧ st161.pcie.link = true ∧ st161.pcie.ptmEnable = true ∧ st161.pcie.ptmLast + ticksMs (ptmMs st161) ≤ max st161.now (st161.pcie.ptmLast + ticksMs (ptmMs st161))) ∧
    (st162.folioOn = true ∧ st162.pcie.link = true ∧ st162.pcie.ptmEnable = true ∧ st162.pcie.ptmLast + ticksMs (ptmMs st162) ≤ max st162.now (st162.pcie.ptmLast + ticksMs (ptmMs st162)) ∧ 2 ≤ st162.pcie.ptmFails) := by
  refine ⟨?_, ?_⟩ <;> decide +kernel

theorem witness_EthernetCommandsComplete :
    (ethUsed st163 (true : Bool) = true ∧ ({ frame1 with fcsOk := false } : EthFrame).fcsOk = false) ∧
    (ethUsed st164 (true : Bool) = true ∧ ({ frame1 with rct := some (7, false) } : EthFrame).fcsOk = true ∧ ({ frame1 with rct := some (7, false) } : EthFrame).vid = none ∧ ({ frame1 with rct := some (7, false) } : EthFrame).buffered = true ∧ ({ frame1 with rct := some (7, false) } : EthFrame).rct = some ((7 : Nat), (false : Bool)) ∧ prpEn st164 = true ∧ (false : Bool) ≠ (true : Bool) ∧ dupCheck (begin 0 st164) ({ frame1 with rct := some (7, false) } : EthFrame).src (7 : Nat) = true) ∧
    (ethUsed st163 (true : Bool) = true ∧ (frame1 : EthFrame).fcsOk = true ∧ (frame1 : EthFrame).vid = none ∧ (frame1 : EthFrame).buffered = true ∧ (frame1 : EthFrame).rct = none ∧ (frame1 : EthFrame).supervision = false) ∧
    (st3.folioOn = true) ∧
    (st165.folioOn = true ∧ prpEn st165 = true ∧ st165.prp.lastSupervision + ticksMs (lifeCheckMs st165) ≤ max st165.now (st165.prp.lastSupervision + ticksMs (lifeCheckMs st165))) ∧
    (st166.folioOn = true ∧ (st166.eth.get (ethIdx (false : Bool))).lanUp = true) ∧
    (st166.folioOn = true ∧ (st166.eth.get (ethIdx (false : Bool))).lanUp = true ∧ (st166.eth.get (ethIdx (false : Bool))).lastFrame + 3 * ticksMs (lifeCheckMs st166) ≤ max st166.now ((st166.eth.get (ethIdx false)).lastFrame + 3 * ticksMs (lifeCheckMs st166))) ∧
    (ethUsed st163 (true : Bool) = true) ∧
    (st167.folioOn = true ∧ ccEn st167 = true ∧ (st167.qps.get (1 : Fin 128)).state = .ready ∧ (st167.qps.get (1 : Fin 128)).lastDec = none) ∧
    (st168.folioOn = true ∧ ccEn st168 = true ∧ (st168.qps.get (1 : Fin 128)).state = .ready ∧ (st168.qps.get (1 : Fin 128)).lastDec = some (0 : Nat) ∧ max st168.now (ticksUs 50 - 1) < (0 : Nat) + ticksUs 50) ∧
    (st169.folioOn = true ∧ ccEn st169 = true ∧ (st169.qps.get (1 : Fin 128)).state = .ready ∧ (st169.qps.get (1 : Fin 128)).lastInc + ticksUs 55 ≤ max st169.now (ticksUs 55)) := by
  refine ⟨?_, ?_, ?_, ?_, ?_, ?_, ?_, ?_, ?_, ?_, ?_⟩ <;> decide +kernel

theorem witness_RoceCommandsComplete_a :
    (ethUsed st170 (false : Bool) = true ∧ ({ req1 with version := 2, mrCount := 1, pmtu := 1024, ackTimeout := 0 } : CmReq).serviceId.toNat = (reg st170 0x80408).toNat + (reg st170 0x8040C).toNat * 2 ^ 32 ∧ rejReasons st170 ({ req1 with version := 2, mrCount := 1, pmtu := 1024, ackTimeout := 0 } : CmReq) = [(7 : Nat)]) ∧
    (ethUsed st170 (false : Bool) = true ∧ (req1 : CmReq).serviceId.toNat = (reg st170 0x80408).toNat + (reg st170 0x8040C).toNat * 2 ^ 32 ∧ 2 ≤ (rejReasons st170 (req1 : CmReq)).length) ∧
    (ethUsed st170 (false : Bool) = true ∧ ({ req1 with mrCount := 1, pmtu := 1024, ackTimeout := 0 } : CmReq).serviceId.toNat = (reg st170 0x80408).toNat + (reg st170 0x8040C).toNat * 2 ^ 32 ∧ rejReasons st170 ({ req1 with mrCount := 1, pmtu := 1024, ackTimeout := 0 } : CmReq) = []) ∧
    (st171.folioOn = true ∧ (st171.qps.get (1 : Fin 128)).state = .connecting ∧ (st171.qps.get (1 : Fin 128)).repAt + ticksMs 100 ≤ max st171.now ((st171.qps.get 1).repAt + ticksMs 100) ∧ (st171.qps.get (1 : Fin 128)).repSends < 4) ∧
    (st172.folioOn = true ∧ (st172.qps.get (1 : Fin 128)).state = .connecting ∧ (st172.qps.get (1 : Fin 128)).repAt + ticksMs 100 ≤ max st172.now ((st172.qps.get 1).repAt + ticksMs 100) ∧ 4 ≤ (st172.qps.get (1 : Fin 128)).repSends) ∧
    (st171.folioOn = true ∧ (st171.qps.get (1 : Fin 128)).state = .connecting ∧ authReq st171 (st171.qps.get (1 : Fin 128)).vi = false ∧ (st171.vis.get (st171.qps.get (1 : Fin 128)).vi).unreachable = false) ∧
    (st173.folioOn = true ∧ (st173.qps.get (1 : Fin 128)).state = .connecting ∧ authReq st173 (st173.qps.get (1 : Fin 128)).vi = true ∧ (st173.sealUnit.keys.get (st173.qps.get (1 : Fin 128)).vi) = none) ∧
    (st174.folioOn = true ∧ slotBound st174 (1 : Fin 128) = true) ∧
    (inkOn st78 = true ∧ slotBound st78 (1 : Fin 128) = true ∧ (st78.qps.get (1 : Fin 128)).state = .ready ∧ (1 : Word) ≠ (st78.qps.get (1 : Fin 128)).rkey) ∧
    (inkOn st78 = true ∧ slotBound st78 (1 : Fin 128) = true ∧ (st78.qps.get (1 : Fin 128)).state = .ready ∧ (252 : Nat) % 4 = 0 ∧ ([0, 0, 0, 0] : List Byte).length = 4 ∧ (252 : Nat) + 4 ≤ 256) ∧
    (st175.folioOn = true ∧ (st175.qps.get (1 : Fin 128)).state = .ready ∧ (st175.qps.get (1 : Fin 128)).oldestAt = some (0 : Nat) ∧ (0 : Nat) + ackTicks (st175.qps.get (1 : Fin 128)).ackExp ≤ max st175.now (0 + ackTicks (st175.qps.get 1).ackExp) ∧ 0 < (st175.qps.get (1 : Fin 128)).retryLeft) ∧
    (st176.folioOn = true ∧ (st176.qps.get (1 : Fin 128)).state = .ready ∧ (st176.qps.get (1 : Fin 128)).oldestAt = some (0 : Nat) ∧ (0 : Nat) + ackTicks (st176.qps.get (1 : Fin 128)).ackExp ≤ max st176.now (0 + ackTicks (st176.qps.get 1).ackExp) ∧ (st176.qps.get (1 : Fin 128)).retryLeft = 0 ∧ slotBound st176 (1 : Fin 128) = false) := by
  refine ⟨?_, ?_, ?_, ?_, ?_, ?_, ?_, ?_, ?_, ?_, ?_, ?_⟩ <;> decide +kernel

theorem witness_RoceCommandsComplete_b :
    (st169.folioOn = true ∧ (st169.qps.get (1 : Fin 128)).state = .ready) ∧
    (st177.folioOn = true ∧ (st177.qps.get (1 : Fin 128)).state = .ready ∧ (st177.qps.get (1 : Fin 128)).oldestAt = some (0 : Nat)) ∧
    (st3.folioOn = true ∧ privileged st3 (.spi : Path) = true) := by
  refine ⟨?_, ?_, ?_⟩ <;> decide +kernel

theorem witness_RoceCommandsComplete_15 :
    st178.folioOn = true ∧ (st178.vis.get (2 : RingId)).unreachable = true ∧ (st178.vis.get (2 : RingId)).dataReleased = false ∧ (∀ n, viOwns st178 (2 : RingId) n = false) ∧ (st178.vis.get (2 : RingId)).unreachableAt + ticksS (holdS st178 (2 : RingId)) ≤ max st178.now ((st178.vis.get 2).unreachableAt + ticksS (holdS st178 2)) := by
  refine ⟨by decide +kernel, by decide +kernel, by decide +kernel, by decide +kernel, by decide +kernel⟩

theorem witness_ClockCommandsComplete :
    (st179.folioOn = true ∧ ptpEn st179 = true ∧ ethEn st179 st179.ptp.portB = true) ∧
    (st180.folioOn = true ∧ st180.ptp.locked = true ∧ st180.ptp.lastSync + ticksS 4 ≤ max st180.now (st180.ptp.lastSync + ticksS 4) ∧ ptpFailover st180 = true) ∧
    (st181.folioOn = true ∧ st181.ptp.locked = true ∧ st181.ptp.lastSync + ticksS 4 ≤ max st181.now (st181.ptp.lastSync + ticksS 4) ∧ ptpFailover st181 = false) ∧
    (st182.folioOn = true ∧ (st182.nibs.get (3 : PortId)).slewing = true) := by
  refine ⟨?_, ?_, ?_, ?_⟩ <;> decide +kernel

theorem witness_HubRequestsComplete_a :
    (clsOn shared (1 : ClassicId) = true) ∧
    (clsOn shared (1 : ClassicId) = true) ∧
    (clsOn shared (1 : ClassicId) = true) ∧
    (clsOn shared (1 : ClassicId) = true) ∧
    (clsOn shared (1 : ClassicId) = true ∧ (3 : PortId).val ≠ 0) ∧
    (clsOn shared (1 : ClassicId) = true) ∧
    (clsOn shared (1 : ClassicId) = true ∧ clsOwns shared (1 : ClassicId) (3 : PortId) = true) ∧
    (clsOn shared (1 : ClassicId) = true ∧ clsOwns shared (1 : ClassicId) (3 : PortId) = true) ∧
    (clsOn shared (1 : ClassicId) = true ∧ clsOwns shared (1 : ClassicId) (3 : PortId) = true) ∧
    (st183.folioOn = true ∧ (st183.cports.get (3 : PortId)).reset2 = some (0 : Nat) ∧ (0 : Nat) + ticksMs 15 ≤ max st183.now (0 + ticksMs 15)) ∧
    (st184.folioOn = true ∧ (st184.cports.get (3 : PortId)).resetS = some ((0 : Nat), (false : Bool)) ∧ (0 : Nat) + ticksMs 100 ≤ max st184.now (0 + ticksMs 100)) ∧
    (clsOn st185 (1 : ClassicId) = true ∧ clsOwns st185 (1 : ClassicId) (1 : PortId) = true ∧ bit16 (st185.cviews.get (viewIdx (1 : ClassicId) (1 : PortId))).status2 1 = true ∧ bit16 (st185.cviews.get (viewIdx (1 : ClassicId) (1 : PortId))).status2 2 = false) := by
  refine ⟨?_, ?_, ?_, ?_, ?_, ?_, ?_, ?_, ?_, ?_, ?_, ?_⟩ <;> decide +kernel

theorem witness_HubRequestsComplete_b :
    (clsOn st186 (1 : ClassicId) = true ∧ clsOwns st186 (1 : ClassicId) (1 : PortId) = true ∧ bit16 (st186.cviews.get (viewIdx (1 : ClassicId) (1 : PortId))).status2 2 = true) ∧
    (clsOn shared (1 : ClassicId) = true ∧ clsOwns shared (1 : ClassicId) (3 : PortId) = true) ∧
    (clsOn shared (1 : ClassicId) = true ∧ (4 : PortId).val ≠ 0 ∧ clsOwns shared (1 : ClassicId) (4 : PortId) = false) ∧
    (clsOn shared (1 : ClassicId) = true ∧ (4 : PortId).val ≠ 0 ∧ clsOwns shared (1 : ClassicId) (4 : PortId) = false) ∧
    (clsOn shared (1 : ClassicId) = true ∧ clsOwns shared (1 : ClassicId) (3 : PortId) = true) ∧
    (clsOn shared (1 : ClassicId) = true ∧ clsOwns shared (1 : ClassicId) (3 : PortId) = true) ∧
    (clsOn shared (1 : ClassicId) = true) ∧
    (clsOn st187 (1 : ClassicId) = true ∧ clsOwns st187 (1 : ClassicId) (3 : PortId) = true ∧ ssUp (st187.nibs.get (3 : PortId)) = true) ∧
    (clsOn shared (1 : ClassicId) = true ∧ ((6 : Nat) = 1 ∨ (6 : Nat) = 2 ∨ 6 ≤ (6 : Nat))) ∧
    (clsOn shared (1 : ClassicId) = true ∧ (3 : PortId).val ≠ 0) ∧
    (clsOn shared (1 : ClassicId) = true ∧ (3 : PortId).val ≠ 0 ∧ (4 : Nat) ≤ 4) ∧
    (clsOn shared (1 : ClassicId) = true ∧ (4 : PortId).val ≠ 0 ∧ clsOwns shared (1 : ClassicId) (4 : PortId) = false) := by
  refine ⟨?_, ?_, ?_, ?_, ?_, ?_, ?_, ?_, ?_, ?_, ?_, ?_⟩ <;> decide +kernel

theorem witness_HubRequestsComplete_c :
    (clsOn shared (1 : ClassicId) = true ∧ clsOwns shared (1 : ClassicId) (3 : PortId) = true) ∧
    (clsOn shared (1 : ClassicId) = true ∧ (4 : Nat) ≤ 4) ∧
    (clsOn shared (1 : ClassicId) = true ∧ 4 < (5 : Nat)) ∧
    (clsOn shared (1 : ClassicId) = true ∧ ttPorts shared (1 : ClassicId) (3 : PortId) = [(3 : PortId)]) ∧
    (clsOn shared (1 : ClassicId) = true ∧ ttPorts shared (1 : ClassicId) (3 : PortId) = [(3 : PortId)]) ∧
    (clsOn shared (1 : ClassicId) = true ∧ ttPorts shared (1 : ClassicId) (3 : PortId) = [(3 : PortId)]) ∧
    (clsOn shared (1 : ClassicId) = true) ∧
    (clsOn shared (1 : ClassicId) = true ∧ (.usb2 : HubHalf) ≠ .func ∧ descriptor shared (1 : ClassicId) (.usb2 : HubHalf) (9 : Nat) (0 : Nat) = none) ∧
    (clsOn shared (1 : ClassicId) = true) ∧
    (clsOn shared (1 : ClassicId) = true ∧ (1 : Nat) ≤ 1) ∧
    (clsOn shared (1 : ClassicId) = true ∧ (.usb2 : HubHalf) ≠ .func ∧ 1 < (2 : Nat)) ∧
    (clsOn st189 (1 : ClassicId) = true ∧ (st189.cvis.get (1 : ClassicId)).speed2 = 3) := by
  refine ⟨?_, ?_, ?_, ?_, ?_, ?_, ?_, ?_, ?_, ?_, ?_, ?_⟩ <;> decide +kernel

theorem witness_HubRequestsComplete_d :
    (clsOn shared (1 : ClassicId) = true ∧ 0 < (1 : Nat)) := by
  decide +kernel

theorem witness_HubRequestsComplete_31 :
    clsOn st188 (1 : ClassicId) = true ∧ (.usb2 : HubHalf) ≠ .func ∧ st188.blot.descriptorsReloading = false ∧ descriptor st188 (1 : ClassicId) (.usb2 : HubHalf) (1 : Nat) (0 : Nat) = some ((deviceDescriptor st188 1 .usb2) : List Byte) := by
  (repeat' apply And.intro) <;> first | rfl | decide +kernel

theorem witness_UpstreamCommandsComplete :
    (st190.folioOn = true ∧ (st190.cvis.get (1 : ClassicId)).exists_ = true ∧ (st190.cvis.get (1 : ClassicId)).inReset = false ∧ (st190.cvis.get (1 : ClassicId)).up = .run) ∧
    (st191.folioOn = true ∧ (st191.cvis.get (1 : ClassicId)).exists_ = true ∧ (st191.cvis.get (1 : ClassicId)).inReset = false) ∧
    (clsOn st192 (1 : ClassicId) = true ∧ (st192.cvis.get (1 : ClassicId)).up = .hs ∧ (st192.cvis.get (1 : ClassicId)).suspended = false) ∧
    (st193.folioOn = true ∧ (st193.cvis.get (1 : ClassicId)).up = .chirpK (0 : Nat) ∧ (0 : Nat) + ticksMs 2 ≤ max st193.now (0 + ticksMs 2)) ∧
    (st194.folioOn = true ∧ (st194.cvis.get (1 : ClassicId)).up = .watch (0 : Nat) ∧ max st194.now (ticksMs 2) ≤ (0 : Nat) + ticksMs 2) ∧
    (st194.folioOn = true ∧ (st194.cvis.get (1 : ClassicId)).up = .watch (0 : Nat) ∧ (0 : Nat) + ticksMs 2 ≤ max st194.now (0 + ticksMs 2)) ∧
    (st195.folioOn = true ∧ (st195.cvis.get (1 : ClassicId)).exists_ = true ∧ (st195.cvis.get (1 : ClassicId)).inReset = true ∧ (st195.cvis.get (1 : ClassicId)).up = .hs) ∧
    (clsOn st196 (1 : ClassicId) = true ∧ (st196.cvis.get (1 : ClassicId)).suspended = false) ∧
    (clsOn st197 (1 : ClassicId) = true ∧ (st197.cvis.get (1 : ClassicId)).suspended = true ∧ st197.modes.mode ≠ .suspend ∧ st197.modes.suspending = false) ∧
    (st199.folioOn = true ∧ (st199.cvis.get (1 : ClassicId)).exists_ = true ∧ (st199.cvis.get (1 : ClassicId)).ssLink = !(true : Bool)) := by
  refine ⟨?_, ?_, ?_, ?_, ?_, ?_, ?_, ?_, ?_, ?_⟩ <;> decide +kernel

theorem witness_UpstreamCommandsComplete_9 :
    clsOn st198 (1 : ClassicId) = true ∧ (st198.cvis.get (1 : ClassicId)).suspended = false ∧ (∀ n, clsOwns st198 (1 : ClassicId) n = false) := by
  refine ⟨by decide +kernel, by decide +kernel, by decide +kernel⟩

theorem witness_SplitAndFunctionCommandsComplete :
    (classicOwner st200 (3 : PortId) = some (1 : ClassicId) ∧ clsOn st200 (1 : ClassicId) = true ∧ ligActive st200 (3 : PortId) = true ∧ (split1 : Split).periodic = false ∧ (st200.ligs.get (3 : PortId)).bufs = []) ∧
    (classicOwner st201 (3 : PortId) = some (1 : ClassicId) ∧ clsOn st201 (1 : ClassicId) = true ∧ ligActive st201 (3 : PortId) = true ∧ (split1 : Split).periodic = false ∧ 16 ≤ (st201.ligs.get (3 : PortId)).bufs.length) ∧
    (classicOwner st200 (3 : PortId) = some (1 : ClassicId) ∧ clsOn st200 (1 : ClassicId) = true ∧ ligActive st200 (3 : PortId) = true ∧ (split1 : Split).periodic = false ∧ (st200.ligs.get (3 : PortId)).bufs = []) ∧
    (classicOwner st202 (3 : PortId) = some (1 : ClassicId) ∧ clsOn st202 (1 : ClassicId) = true ∧ ligActive st202 (3 : PortId) = true ∧ (split1 : Split).periodic = false ∧ (st202.ligs.get (3 : PortId)).bufs = [(buf1 : LigBuf)] ∧ (buf1 : LigBuf).addr = (split1 : Split).addr ∧ (buf1 : LigBuf).ep = (split1 : Split).ep ∧ (buf1 : LigBuf).type = (split1 : Split).type ∧ (buf1 : LigBuf).isIn = (split1 : Split).isIn ∧ (buf1 : LigBuf).result = some (.ack : HubReply)) ∧
    (st203.folioOn = true ∧ (3 : PortId).val ≠ 0 ∧ (st203.ligs.get (3 : PortId)).bufs = [(buf1 : LigBuf)] ∧ (buf1 : LigBuf).result.isSome = true ∧ (buf1 : LigBuf).heldAt + ticksMs 10 ≤ max st203.now (buf1.heldAt + ticksMs 10)) ∧
    (st204.folioOn = true ∧ (3 : PortId).val ≠ 0 ∧ (st204.ligs.get (3 : PortId)).per = [({ addr := 1, ep := 1, isIn := true, frame := 0, y := 0, payload := 0, dropped := false, result := none } : LigPer)] ∧ ({ addr := 1, ep := 1, isIn := true, frame := 0, y := 0, payload := 0, dropped := false, result := none } : LigPer).y + 3 < (4 : Nat)) ∧
    (funcOwner st205 = some (1 : ClassicId) ∧ clsOn st205 (1 : ClassicId) = true ∧ inkOn st205 = true ∧ st205.func.state = 3 ∧ st205.func.outHalt = true) ∧
    (funcOwner st206 = some (1 : ClassicId) ∧ clsOn st206 (1 : ClassicId) = true ∧ inkOn st206 = true ∧ st206.func.state = 3 ∧ st206.func.outHalt = false ∧ ((List.replicate 15 0) : List Byte).length % 16 ≠ 0) ∧
    (st208.func.queue = [({ func1 with op := 3 } : FuncReq)] ∧ scribeRuns st208 = true ∧ ({ func1 with op := 3 } : FuncReq).ok = true ∧ ({ func1 with op := 3 } : FuncReq).op = 3) ∧
    (funcOwner st209 = some (1 : ClassicId) ∧ clsOn st209 (1 : ClassicId) = true) := by
  refine ⟨?_, ?_, ?_, ?_, ?_, ?_, ?_, ?_, ?_, ?_⟩ <;> decide +kernel

theorem witness_SplitAndFunctionCommandsComplete_8 :
    funcOwner st207 = some (1 : ClassicId) ∧ clsOn st207 (1 : ClassicId) = true ∧ inkOn st207 = true ∧ st207.func.state = 3 ∧ st207.func.outHalt = false ∧ (([1, 0, 0, 0, 0, 0, 0, 0, 0, 0, 0, 0, 140, 135, 0, 0]) : List Byte).length = 16 ∧ st207.func.queue = [] ∧ (∀ i : Fin 4, (st207.engines.get ⟨84 + i.val, by omega⟩).restarting = false) ∧ (funcReq (([1, 0, 0, 0, 0, 0, 0, 0, 0, 0, 0, 0, 140, 135, 0, 0]) : List Byte)).ok = true ∧ 1 ≤ (funcReq (([1, 0, 0, 0, 0, 0, 0, 0, 0, 0, 0, 0, 140, 135, 0, 0]) : List Byte)).op ∧ (funcReq (([1, 0, 0, 0, 0, 0, 0, 0, 0, 0, 0, 0, 140, 135, 0, 0]) : List Byte)).op ≤ 3 := by
  refine ⟨by decide +kernel, by decide +kernel, by decide +kernel, by decide +kernel, by decide +kernel, by decide +kernel, by decide +kernel, by decide +kernel, by decide +kernel, by decide +kernel, by decide +kernel⟩

theorem witness_TypeCCommandsComplete_a :
    ((st210.pd.get (3 : PortId)).state = .unattached) ∧
    ((st210.pd.get (3 : PortId)).state = .unattached) ∧
    ((st211.pd.get (3 : PortId)).state = .unattached ∧ working st211 = true ∧ (st211.pd.get (3 : PortId)).patternSince + ticksMs 150 ≤ max st211.now ((st211.pd.get 3).patternSince + ticksMs 150) ∧ cableAlone (st211.pd.get (3 : PortId)).cc1 (st211.pd.get (3 : PortId)).cc2 = true) ∧
    ((st212.pd.get (3 : PortId)).state = .attachWait) ∧
    ((st213.pd.get (3 : PortId)).state = .attachWait ∧ working st213 = true ∧ (st213.pd.get (3 : PortId)).patternSince + ticksMs 150 ≤ max st213.now ((st213.pd.get 3).patternSince + ticksMs 150) ∧ sinkPattern (st213.pd.get (3 : PortId)).cc1 (st213.pd.get (3 : PortId)).cc2 = true ∧ (st213.pd.get (3 : PortId)).safe0 = false) ∧
    ((st214.pd.get (3 : PortId)).state = .attachWait ∧ working st214 = true ∧ (st214.pd.get (3 : PortId)).patternSince + ticksMs 150 ≤ max st214.now ((st214.pd.get 3).patternSince + ticksMs 150) ∧ sinkPattern (st214.pd.get (3 : PortId)).cc1 (st214.pd.get (3 : PortId)).cc2 = true ∧ (st214.pd.get (3 : PortId)).safe0 = true ∧ implicitHalf (st214.pd.get (3 : PortId)).rpNow ≤ (st214.power.get (3 : PortId)).share ∧ mayStart st214 (3 : PortId) = true) ∧
    ((st215.power.get (3 : PortId)).step = .ramp ∧ (st215.power.get (3 : PortId)).gateOn = true ∧ 4750 ≤ (4750 : Nat) ∧ (st215.pd.get (3 : PortId)).state = .startup ∧ pdEn st215 (3 : PortId) = true ∧ resetTwice (st215.pd.get (3 : PortId)) = false) ∧
    ((st216.power.get (3 : PortId)).step = .ramp ∧ (st216.power.get (3 : PortId)).gateOn = true ∧ 4750 ≤ (4750 : Nat) ∧ (st216.pd.get (3 : PortId)).state = .startup ∧ (pdEn st216 (3 : PortId) = false ∨ resetTwice (st216.pd.get (3 : PortId)) = true)) ∧
    (st217.folioOn = true ∧ detachable (st217.pd.get (3 : PortId)) = true ∧ (st217.pd.get (3 : PortId)).detachSince = none) ∧
    (detachable (st218.pd.get (3 : PortId)) = true ∧ (st218.pd.get (3 : PortId)).detachSince = some (0 : Nat) ∧ (0 : Nat) + ticksMs 15 ≤ max st218.now (0 + ticksMs 15)) ∧
    ((799 : Nat) < 800 ∧ (st219.power.get (3 : PortId)).gateOn = false ∧ (st219.pd.get (3 : PortId)).detaching = true) ∧
    ((799 : Nat) < 800 ∧ (st220.power.get (3 : PortId)).gateOn = false ∧ (st220.pd.get (3 : PortId)).detaching = false ∧ (st220.pd.get (3 : PortId)).hrPhase = .waitSafe0) := by
  refine ⟨?_, ?_, ?_, ?_, ?_, ?_, ?_, ?_, ?_, ?_, ?_, ?_⟩ <;> decide +kernel

theorem witness_TypeCCommandsComplete_b :
    (st221.folioOn = true ∧ (st221.pd.get (3 : PortId)).state ≠ .disabled ∧ (st221.pd.get (3 : PortId)).state ≠ .ccFault ∧ (st221.pd.get (3 : PortId)).vconnBarred = false) ∧
    (st174.folioOn = true ∧ (st174.pd.get (3 : PortId)).state ≠ .disabled ∧ (st174.pd.get (3 : PortId)).state ≠ .ccFault) ∧
    ((st222.pd.get (3 : PortId)).state = .ccFault ∧ max (st222.pd.get (3 : PortId)).stateSince (st222.pd.get (3 : PortId)).patternSince + ticksS 1 ≤ max st222.now (max (st222.pd.get 3).stateSince (st222.pd.get 3).patternSince + ticksS 1)) ∧
    (st223.folioOn = true ∧ (st223.pd.get (3 : PortId)).vconnOn = true ∧ (st223.pd.get (3 : PortId)).contract.ma10 ≤ 300 ∧ (st223.pd.get (3 : PortId)).eprMode = false ∧ (st223.pd.get (3 : PortId)).eprAt = none) := by
  refine ⟨?_, ?_, ?_, ?_⟩ <;> decide +kernel

theorem witness_ContractCommandsComplete_a :
    ((st224.pd.get (3 : PortId)).state = .sendCaps ∧ (st224.pd.get (3 : PortId)).detaching = false ∧ (st224.pd.get (3 : PortId)).sendings = 0 ∧ (st224.pd.get (3 : PortId)).firstReq = false ∧ (st224.pd.get (3 : PortId)).awaiting = none ∧ 10 ≤ (st224.power.get (3 : PortId)).share) ∧
    ((st225.pd.get (3 : PortId)).state = .sendCaps ∧ (st225.pd.get (3 : PortId)).detaching = false ∧ 0 < (st225.pd.get (3 : PortId)).sendings ∧ (st225.pd.get (3 : PortId)).sendings < 50 ∧ (st225.pd.get (3 : PortId)).awaiting = none ∧ (st225.pd.get (3 : PortId)).capsAt + ticksMs 150 ≤ max st225.now ((st225.pd.get 3).capsAt + ticksMs 150) ∧ 10 ≤ (st225.power.get (3 : PortId)).share) ∧
    ((st226.pd.get (3 : PortId)).awaiting = some (.accept : PdMsg) ∧ (st226.pd.get (3 : PortId)).thenDo = .negotiate ∧ (st226.pd.get (3 : PortId)).state = .sendCaps) ∧
    ((st227.pd.get (3 : PortId)).awaitP = some (.accept : PdMsg)) ∧
    ((st228.pd.get (3 : PortId)).awaiting = some (.accept : PdMsg) ∧ (st228.pd.get (3 : PortId)).tries < 3) ∧
    ((st229.pd.get (3 : PortId)).awaitP = some (.accept : PdMsg) ∧ 3 ≤ (st229.pd.get (3 : PortId)).triesP) ∧
    ((st230.pd.get (3 : PortId)).softAt = none ∧ (st230.pd.get (3 : PortId)).swapAt = none ∧ (st230.pd.get (3 : PortId)).state = .negotiate ∧ (st230.pd.get (3 : PortId)).detaching = false ∧ (st230.pd.get (3 : PortId)).awaiting = none ∧ (st230.pd.get (3 : PortId)).stateSince + ticksMs 30 ≤ max st230.now ((st230.pd.get 3).stateSince + ticksMs 30) ∧ (st230.pd.get (3 : PortId)).hardResets = 0) ∧
    (hearsNew st231 (3 : PortId) (1 : Fin 8) ∧ (st231.pd.get (3 : PortId)).state = .negotiate ∧ (st231.pd.get (3 : PortId)).eprMode = false ∧ (st231.pd.get (3 : PortId)).rev2 = false ∧ requested (st231.pd.get (3 : PortId)) (0x1004B12C : Word) = some ({ kind := 1, mv := 5000, ma10 := 300, rdo := 0x1004B12C, pdo := 0x0001912C, pos := 1 } : Contract)) ∧
    (hearsNew st232 (3 : PortId) (1 : Fin 8) ∧ (st232.pd.get (3 : PortId)).state = .negotiate ∧ (st232.pd.get (3 : PortId)).eprMode = false ∧ (st232.pd.get (3 : PortId)).contract.kind = 0 ∧ requested (st232.pd.get (3 : PortId)) (0 : Word) = none) ∧
    (hearsNew st233 (3 : PortId) (1 : Fin 8) ∧ (st233.pd.get (3 : PortId)).state = .ready ∧ (st233.pd.get (3 : PortId)).eprMode = true ∧ fld (0x1004B12C : Word) 28 4 ≠ 0 ∧ (st233.pd.get (3 : PortId)).sent.getD (fld (0x1004B12C : Word) 28 4 - 1) 0 = (0x0001912C : Word) ∧ requested (st233.pd.get (3 : PortId)) (0x1004B12C : Word) = some ({ kind := 1, mv := 5000, ma10 := 300, rdo := 0x1004B12C, pdo := 0x0001912C, pos := 1 } : Contract)) ∧
    ((st234.pd.get (3 : PortId)).next = some (contract1 : Contract) ∧ (st234.pd.get (3 : PortId)).state = .transition ∧ (st234.pd.get (3 : PortId)).awaiting = none ∧ (st234.pd.get (3 : PortId)).transitionStart = none ∧ (st234.pd.get (3 : PortId)).acceptAcked + ticksMs 30 ≤ max st234.now ((st234.pd.get 3).acceptAcked + ticksMs 30)) ∧
    ((st235.pd.get (3 : PortId)).next = some (contract1 : Contract) ∧ (st235.pd.get (3 : PortId)).transitionStart = some (0 : Nat) ∧ (st235.pd.get (3 : PortId)).state = .transition ∧ inContractWindow (contract1 : Contract) (5500 : Nat) = true ∧ (0 : Nat) + ticksMs 1 ≤ max st235.now (0 + ticksMs 1)) := by
  refine ⟨?_, ?_, ?_, ?_, ?_, ?_, ?_, ?_, ?_, ?_, ?_, ?_⟩ <;> decide +kernel

theorem witness_ContractCommandsComplete_b :
    ((st236.pd.get (3 : PortId)).next = some (contract1 : Contract) ∧ (st236.pd.get (3 : PortId)).transitionStart = some (0 : Nat) ∧ (st236.pd.get (3 : PortId)).state = .transition ∧ (0 : Nat) + ticksMs (transitionBound (st236.pd.get (3 : PortId)) (contract1 : Contract)) ≤ max st236.now (0 + ticksMs (transitionBound (st236.pd.get 3) contract1)) ∧ (st236.pd.get (3 : PortId)).hardResets = 0) ∧
    (mayStartOwn (begin 0 st237) (3 : PortId) = true ∧ (st237.pd.get (3 : PortId)).exitDue = true) ∧
    (hearsNew st238 (3 : PortId) (1 : Fin 8) ∧ (st238.pd.get (3 : PortId)).reclaim = false ∧ 10 ≤ (st238.power.get (3 : PortId)).share) := by
  refine ⟨?_, ?_, ?_⟩ <;> decide +kernel

theorem witness_PdRepliesComplete_a :
    (hears busy (3 : PortId) = true ∧ (busy.pd.get (3 : PortId)).state ≠ .transition) ∧
    (hearsNew st239 (3 : PortId) (1 : Fin 8) ∧ (st239.pd.get (3 : PortId)).softAt.isSome = true ∧ 10 ≤ (st239.power.get (3 : PortId)).share) ∧
    (hearsNew st240 (3 : PortId) (1 : Fin 8) ∧ (st240.pd.get (3 : PortId)).state = .ready ∧ (st240.pd.get (3 : PortId)).rev2 = false ∧ (st240.pd.get (3 : PortId)).contract.kind ≠ 0 ∧ (st240.pd.get (3 : PortId)).contract.pos < 8 ∧ (st240.pd.get (3 : PortId)).eprMode = false ∧ eprEn st240 (3 : PortId) = true ∧ 100 < maxW st240 (3 : PortId)) ∧
    (hearsNew st241 (3 : PortId) (1 : Fin 8) ∧ (st241.pd.get (3 : PortId)).eprMode = true ∧ (st241.pd.get (3 : PortId)).contract.pos < 8) ∧
    (hearsNew busy (3 : PortId) (1 : Fin 8)) ∧
    (hearsNew st242 (3 : PortId) (1 : Fin 8) ∧ (st242.pd.get (3 : PortId)).reclaim = false ∧ eprEn st242 (3 : PortId) = false) ∧
    (hearsNew st243 (3 : PortId) (1 : Fin 8) ∧ (st243.pd.get (3 : PortId)).reclaim = false ∧ eprEn st243 (3 : PortId) = true ∧ (st243.pd.get (3 : PortId)).eprMode = false) ∧
    (hearsNew st244 (3 : PortId) (1 : Fin 8) ∧ (st244.pd.get (3 : PortId)).rev2 = false) ∧
    (hearsNew busy (3 : PortId) (1 : Fin 8) ∧ (busy.pd.get (3 : PortId)).contract.kind < 2) ∧
    (hearsNew st245 (3 : PortId) (1 : Fin 8) ∧ (st245.pd.get (3 : PortId)).rev2 = false ∧ 2 ≤ (st245.pd.get (3 : PortId)).contract.kind) ∧
    (hearsNew busy (3 : PortId) (1 : Fin 8)) ∧
    (hearsNew busy (3 : PortId) (1 : Fin 8)) := by
  refine ⟨?_, ?_, ?_, ?_, ?_, ?_, ?_, ?_, ?_, ?_, ?_, ?_⟩ <;> decide +kernel

theorem witness_PdRepliesComplete_b :
    (hearsNew st244 (3 : PortId) (1 : Fin 8) ∧ (st244.pd.get (3 : PortId)).rev2 = false) ∧
    (hearsNew st244 (3 : PortId) (1 : Fin 8) ∧ (st244.pd.get (3 : PortId)).rev2 = false) ∧
    (hearsNew busy (3 : PortId) (1 : Fin 8)) ∧
    (hearsNew busy (3 : PortId) (1 : Fin 8)) ∧
    (hearsNew st246 (3 : PortId) (1 : Fin 8) ∧ 4750 ≤ (st246.power.get (3 : PortId)).vbusMv ∧ (st246.power.get (3 : PortId)).vbusMv ≤ 5500) ∧
    (hearsNew busy (3 : PortId) (1 : Fin 8)) ∧
    (hearsNew busy (3 : PortId) (1 : Fin 8)) := by
  refine ⟨?_, ?_, ?_, ?_, ?_, ?_, ?_⟩ <;> decide +kernel

theorem witness_PdSequencesComplete_a :
    (st247.folioOn = true ∧ (st247.pd.get (3 : PortId)).vconnOn = true ∧ (st247.pd.get (3 : PortId)).raSeen = true ∧ (st247.pd.get (3 : PortId)).discoveries = 0 ∧ (st247.pd.get (3 : PortId)).vconnSince + ticksMs 50 ≤ max st247.now ((st247.pd.get 3).vconnSince + ticksMs 50)) ∧
    ((st248.pd.get (3 : PortId)).discovering = true ∧ (st248.pd.get (3 : PortId)).vconnOn = true ∧ (st248.pd.get (3 : PortId)).awaitP = none ∧ (st248.pd.get (3 : PortId)).discAt + ticksMs 45 ≤ max st248.now ((st248.pd.get 3).discAt + ticksMs 45) ∧ 20 ≤ (st248.pd.get (3 : PortId)).discoveries ∧ (st248.pd.get (3 : PortId)).eprAt = none) ∧
    (st249.folioOn = true ∧ (st249.pd.get (3 : PortId)).vconnOn = true ∧ (st249.pd.get (3 : PortId)).discovering = true ∧ (st249.pd.get (3 : PortId)).msgIdRxP ≠ some (1 : Fin 8).val ∧ (st249.pd.get (3 : PortId)).eprAt = none ∧ (st249.pd.get (3 : PortId)).eprMode = false) ∧
    ((st250.pd.get 0).swapDue = true ∧ (st250.pd.get 0).swapTries = 0 ∧ (st250.pd.get 0).ufp = false ∧ (st250.pd.get 0).swapOver = false ∧ mayStartOwn (begin 0 st250) 0 = true) ∧
    ((st251.pd.get 0).swapWait = some (0 : Nat) ∧ (0 : Nat) + ticksMs 100 ≤ max st251.now (0 + ticksMs 100) ∧ (st251.pd.get 0).swapTries < 10 ∧ (st251.pd.get 0).ufp = false ∧ (st251.pd.get 0).swapOver = false ∧ mayStartOwn (begin (0 + ticksMs 100) st251) 0 = true) ∧
    (hearsNew st252 0 (1 : Fin 8) ∧ (st252.pd.get 0).swapAt = some (0 : Nat)) ∧
    ((3 : PortId).val ≠ 0 ∧ hearsNew st253 (3 : PortId) (1 : Fin 8) ∧ (st253.pd.get (3 : PortId)).state = .ready ∧ swapRow st253 (3 : PortId) = 2) ∧
    (sinkAttached st254 (3 : PortId) = true ∧ pdEn st254 (3 : PortId) = true ∧ (st254.pd.get (3 : PortId)).state = .ready ∧ (st254.pd.get (3 : PortId)).hardResets = 0) ∧
    ((st255.pd.get (3 : PortId)).state = .hardReset ∧ (st255.pd.get (3 : PortId)).hrPhase = .waitOff ∧ (st255.pd.get (3 : PortId)).hrSince + ticksMs 30 ≤ max st255.now ((st255.pd.get 3).hrSince + ticksMs 30) ∧ (st255.pd.get (3 : PortId)).safe0 = false) ∧
    ((st256.pd.get (3 : PortId)).state = .hardReset ∧ (st256.pd.get (3 : PortId)).hrPhase = .recover ∧ (st256.pd.get (3 : PortId)).hrSince + ticksMs 800 ≤ max st256.now ((st256.pd.get 3).hrSince + ticksMs 800) ∧ mayStart st256 (3 : PortId) = false) ∧
    ((st257.pd.get (3 : PortId)).state = .hardReset ∧ (st257.pd.get (3 : PortId)).hrPhase = .recover ∧ (st257.pd.get (3 : PortId)).hrSince + ticksMs 800 ≤ max st257.now ((st257.pd.get 3).hrSince + ticksMs 800) ∧ mayStart st257 (3 : PortId) = true ∧ 10 ≤ (st257.power.get (3 : PortId)).share) ∧
    ((st258.pd.get (3 : PortId)).state = .errorRecovery ∧ (st258.pd.get (3 : PortId)).stateSince + ticksMs 30 ≤ max st258.now ((st258.pd.get 3).stateSince + ticksMs 30)) := by
  refine ⟨?_, ?_, ?_, ?_, ?_, ?_, ?_, ?_, ?_, ?_, ?_, ?_⟩ <;> decide +kernel

theorem witness_PdSequencesComplete_b :
    (hears st259 (3 : PortId) = true ∧ (st259.pd.get (3 : PortId)).eprMode = true ∧ (st259.pd.get (3 : PortId)).lastMsg + ticksMs 900 ≤ max st259.now ((st259.pd.get 3).lastMsg + ticksMs 900) ∧ (st259.pd.get (3 : PortId)).hardResets = 0) ∧
    (hears st260 (3 : PortId) = true ∧ (st260.pd.get (3 : PortId)).contract.kind = 2 ∧ (st260.pd.get (3 : PortId)).lastRequest + ticksMs 13500 ≤ max st260.now ((st260.pd.get 3).lastRequest + ticksMs 13500) ∧ (st260.pd.get (3 : PortId)).hardResets = 0) ∧
    ((st261.pd.get (3 : PortId)).alert = .waiting ∧ sendsAlert st261 (3 : PortId) = true ∧ mayStartOwn (begin (ticksMs 18) st261) (3 : PortId) = true) ∧
    ((st262.pd.get (3 : PortId)).lowSince = some (0 : Nat) ∧ 0 < reclaimS st262 (3 : PortId) ∧ explicitContract st262 (3 : PortId) = true ∧ (st262.pd.get (3 : PortId)).reclaim = false ∧ (0 : Nat) + ticksS (reclaimS st262 (3 : PortId)) ≤ max st262.now (0 + ticksS (reclaimS st262 3))) ∧
    ((st263.pd.get (3 : PortId)).highSince = some (0 : Nat) ∧ (st263.pd.get (3 : PortId)).reclaim = true ∧ (0 : Nat) + ticksS 1 ≤ max st263.now (0 + ticksS 1)) ∧
    (st3.folioOn = true ∧ privileged st3 (.spi : Path) = true) ∧
    (st264.folioOn = true ∧ privileged st264 (.spi : Path) = true ∧ sinkAttached st264 (3 : PortId) = true ∧ pdEn st264 (3 : PortId) = true ∧ (st264.pd.get (3 : PortId)).state = .ready ∧ (st264.pd.get (3 : PortId)).hardResets = 0) ∧
    (st174.folioOn = true ∧ privileged st174 (.spi : Path) = true ∧ (st174.pd.get (3 : PortId)).state ≠ .disabled ∧ (st174.pd.get (3 : PortId)).state ≠ .ccFault) := by
  refine ⟨?_, ?_, ?_, ?_, ?_, ?_, ?_, ?_⟩ <;> decide +kernel

theorem witness_MarginCommandsComplete :
    (st265.folioOn = true ∧ st265.modes.booted = true ∧ st265.margin.hbDue ≤ max st265.now (st265.margin.hbDue)) ∧
    (st266.folioOn = true ∧ privileged st266 (.spi : Path) = true ∧ (.spi : Path) = bcReader st266 ∧ st266.margin.opened = some (note1 : Notice)) ∧
    (st267.folioOn = true ∧ privileged st267 (.spi : Path) = true ∧ (.spi : Path) = bcReader st267 ∧ st267.margin.opened = none ∧ topNotice (st267.margin.queues.get boardQueue).notices = some (note1 : Notice)) ∧
    (st268.folioOn = true ∧ privileged st268 (.spi : Path) = true ∧ (.spi : Path) ≠ bcReader st268) ∧
    (st269.folioOn = true ∧ privileged st269 (.spi : Path) = true ∧ (.spi : Path) = bcReader st269 ∧ st269.margin.opened = some (note1 : Notice) ∧ st269.margin.wordIndex + 1 < (note1 : Notice).words) ∧
    (st270.folioOn = true ∧ privileged st270 (.spi : Path) = true ∧ (.spi : Path) = bcReader st270 ∧ st270.margin.opened = some (note1 : Notice) ∧ (note1 : Notice).words ≤ st270.margin.wordIndex + 1) ∧
    (st3.folioOn = true ∧ privileged st3 (.spi : Path) = true ∧ (.spi : Path) = bcReader st3) ∧
    (st3.folioOn = true ∧ privileged st3 (.spi : Path) = true ∧ (.spi : Path) = bcReader st3) ∧
    (st271.folioOn = true ∧ privileged st271 (.spi : Path) = true ∧ (st271.margin.irqArmed = false ∨ irqCount st271 < irqThreshold st271)) ∧
    (st272.folioOn = true ∧ st272.pins.irqN = false) := by
  refine ⟨?_, ?_, ?_, ?_, ?_, ?_, ?_, ?_, ?_, ?_⟩ <;> decide +kernel

theorem witness_RecorderCommandsComplete_a :
    (nextToPersist st273.pal.ram = some (rec1 : RamRec) ∧ canPersist st273 = true) ∧
    (nextToPersist st273.pal.ram = some (rec1 : RamRec) ∧ canPersist st273 = true) ∧
    (nextToPersist st274.pal.ram = some (rec1 : RamRec) ∧ canPersist st274 = true ∧ sectorFor st274 (ringOf (rec1 : RamRec).record.sev) (recBytes (rec1 : RamRec).record) ((rec1 : RamRec).record.seq.getD 0) = some ((0 : Nat), (((sectorFor st274 .low (recBytes rec1.record) 0).get (by decide +kernel)).2 : List Sector))) ∧
    (nextToPersist up.pal.ram = none) ∧
    (canPersist st275 = true ∧ st275.pal.frozen = false ∧ st275.modes.mode ≠ .brownout ∧ st275.modes.mode ≠ .holdup ∧ blankCount (ringSectors st275 (.low : Ring)) ≤ 1 ∧ oldestClosed (ringSectors st275 (.low : Ring)) = some (0 : Nat)) ∧
    (st276.pal.buckets.find? (fun z => z.code == (1 : Nat) && z.port == (3 : PortId)) = some ({ code := 1, port := 3, sev := .info, tokens := 6, nextGain := 0, suppressed := 0, first := 0, last := 0 } : Bucket) ∧ ({ code := 1, port := 3, sev := .info, tokens := 6, nextGain := 0, suppressed := 0, first := 0, last := 0 } : Bucket).nextGain ≤ max st276.now 0 ∧ ({ code := 1, port := 3, sev := .info, tokens := 6, nextGain := 0, suppressed := 0, first := 0, last := 0 } : Bucket).tokens + 1 < bucketSize st276 ({ code := 1, port := 3, sev := .info, tokens := 6, nextGain := 0, suppressed := 0, first := 0, last := 0 } : Bucket).sev) ∧
    (st277.pal.buckets.find? (fun z => z.code == (1 : Nat) && z.port == (3 : PortId)) = some ({ code := 1, port := 3, sev := .info, tokens := 7, nextGain := 0, suppressed := 0, first := 0, last := 0 } : Bucket) ∧ ({ code := 1, port := 3, sev := .info, tokens := 7, nextGain := 0, suppressed := 0, first := 0, last := 0 } : Bucket).nextGain ≤ max st277.now 0 ∧ bucketSize st277 ({ code := 1, port := 3, sev := .info, tokens := 7, nextGain := 0, suppressed := 0, first := 0, last := 0 } : Bucket).sev ≤ ({ code := 1, port := 3, sev := .info, tokens := 7, nextGain := 0, suppressed := 0, first := 0, last := 0 } : Bucket).tokens + 1 ∧ ({ code := 1, port := 3, sev := .info, tokens := 7, nextGain := 0, suppressed := 0, first := 0, last := 0 } : Bucket).suppressed = 0) ∧
    (st278.folioOn = true ∧ st278.pal.sumDue ≤ max st278.now (st278.pal.sumDue) ∧ st278.pal.losses = [0, 0, 0, 0]) ∧
    (st3.folioOn = true ∧ privileged st3 (.spi : Path) = true) ∧
    (st3.folioOn = true ∧ privileged st3 (.spi : Path) = true) ∧
    (st3.folioOn = true ∧ privileged st3 (.spi : Path) = true) ∧
    (st279.folioOn = true ∧ st279.pal.readout.verifying = true ∧ st279.pal.readout.verifyPass = false ∧ st279.pal.readout.verifyNotClosed = false ∧ storeSector st279 st279.pal.readout.verifySector = some ({ Sector.blankSector with headerOk := true, blank := false, eraseOk := true, inUse := true, ring := some .low } : Sector)) := by
  refine ⟨?_, ?_, ?_, ?_, ?_, ?_, ?_, ?_, ?_, ?_, ?_, ?_⟩ <;> decide +kernel

theorem witness_RecorderCommandsComplete_b :
    (st3.folioOn = true ∧ privileged st3 (.spi : Path) = true) ∧
    (st280.folioOn = true ∧ privileged st280 (.spi : Path) = true ∧ ((retainedSeqs st280).filter (fun z => decide ((reg st280 0x40100).toNat < z))).min? = some (1 : Nat) ∧ RegFile.wf mapReset st280.regs = true) ∧
    (st281.folioOn = true ∧ privileged st281 (.spi : Path) = true ∧ ((retainedSeqs st281).filter (fun z => decide (z < (reg st281 0x40100).toNat))).max? = some (0 : Nat) ∧ RegFile.wf mapReset st281.regs = true) ∧
    (st282.folioOn = true ∧ st282.pal.readout.loading = true ∧ st282.pal.ram.find? (fun (rec1 : RamRec) => (rec1 : RamRec).record.seq == some (reg st282 0x40100).toNat) = some (rec1 : RamRec)) ∧
    (st283.folioOn = true ∧ st283.pal.gapScanning = true ∧ st283.pal.scanDone = true) := by
  refine ⟨?_, ?_, ?_, ?_, ?_⟩ <;> decide +kernel

theorem witness_BlotterCommandsComplete_a :
    (st284.folioOn = true ∧ st284.modes.booted = true ∧ st284.blot.window.get (eccBlock ((.context 0 0) : EccSite)) + 1 ≤ eccThresh st284) ∧
    (st285.folioOn = true ∧ st285.modes.booted = true ∧ eccThresh st285 < st285.blot.window.get (eccBlock ((.context 0 0) : EccSite)) + 1 ∧ st285.blot.reported.get (eccBlock ((.context 0 0) : EccSite)) = false) ∧
    (st265.folioOn = true ∧ st265.modes.booted = true ∧ st265.blot.windowEnd ≤ max st265.now (st265.blot.windowEnd)) ∧
    (st3.folioOn = true) ∧
    (st3.folioOn = true) ∧
    (st3.folioOn = true) ∧
    (st3.folioOn = true) ∧
    (st3.folioOn = true) ∧
    (st3.folioOn = true ∧ st3.modes.mode ≠ .standby ∧ engineOn st3 (1 : Fin 96) = true ∧ thirdRestart (begin 0 st3) (1 : Fin 96) = false) ∧
    (st286.folioOn = true ∧ st286.modes.mode ≠ .standby ∧ engineOn st286 (1 : Fin 96) = true ∧ thirdRestart (begin 0 st286) (1 : Fin 96) = true) ∧
    (st287.folioOn = true ∧ (st287.engines.get (1 : Fin 96)).restarting = true) ∧
    (st3.folioOn = true ∧ st3.modes.mode ≠ .standby ∧ (1 : Fin 5).val ≠ 4 ∧ 1840 < (1841 : Int) ∧ (1841 : Int) ≤ 2000) := by
  refine ⟨?_, ?_, ?_, ?_, ?_, ?_, ?_, ?_, ?_, ?_, ?_, ?_⟩ <;> decide +kernel

theorem witness_BlotterCommandsComplete_b :
    (st3.folioOn = true ∧ st3.modes.mode ≠ .standby ∧ (3 : Fin 5).val ≠ 4 ∧ 2000 < (2001 : Int) ∧ maskBit st3.blot.hotMask (3 : Fin 5).val = false) ∧
    (up.input.state ≠ .off ∧ 2000 < (2001 : Int)) ∧
    ((1 : Fin 5).val ≠ 4 ∧ (1679 : Int) < 1680) ∧
    ((1679 : Int) < 1680) ∧
    (st288.folioOn = true ∧ privileged st288 (.spi : Path) = true ∧ st288.modes.mode = .quarantine ∧ noCause st288 = true) ∧
    (st44.folioOn = true ∧ privileged st44 (.spi : Path) = true ∧ (st44.modes.mode ≠ .quarantine ∨ noCause st44 = false)) := by
  refine ⟨?_, ?_, ?_, ?_, ?_, ?_⟩ <;> decide +kernel

theorem witness_SealCommandsComplete_a :
    (st3.folioOn = true ∧ privileged st3 (.spi : Path) = true) ∧
    (st3.folioOn = true ∧ privileged st3 (.spi : Path) = true) ∧
    (st3.folioOn = true ∧ privileged st3 (.spi : Path) = true) ∧
    (st289.folioOn = true ∧ st289.sealUnit.armed = true ∧ st289.sealUnit.armedAt + ticksS 600 ≤ max st289.now (st289.sealUnit.armedAt + ticksS 600)) ∧
    (st290.folioOn = true ∧ privileged st290 (.spi : Path) = true ∧ st290.sealUnit.keyOp = none) ∧
    (st290.folioOn = true ∧ privileged st290 (.spi : Path) = true ∧ st290.sealUnit.keyOp = none) ∧
    (st291.folioOn = true ∧ privileged st291 (.spi : Path) = true ∧ st291.sealUnit.keyOp = some ((.withdraw 2) : KeyOp)) ∧
    (st292.folioOn = true ∧ privileged st292 (.spi : Path) = true ∧ st292.sealUnit.keyOp = none ∧ st292.sealUnit.ownerKey = none) ∧
    (st293.folioOn = true ∧ privileged st293 (.spi : Path) = true ∧ st293.sealUnit.keyOp = none ∧ st293.sealUnit.ownerKey = some ([] : List Word)) ∧
    (st294.sealUnit.keyOp = some (.load (2 : RingId) ([] : List Word)) ∧ st294.folioOn = true ∧ sealOn st294 = true) ∧
    (st295.sealUnit.keyOp = some (.withdraw (2 : RingId)) ∧ st295.folioOn = true ∧ sealOn st295 = true) ∧
    (st295.sealUnit.keyOp = some ((.withdraw 2) : KeyOp) ∧ st295.folioOn = true ∧ sealOn st295 = true) := by
  refine ⟨?_, ?_, ?_, ?_, ?_, ?_, ?_, ?_, ?_, ?_, ?_, ?_⟩ <;> decide +kernel

theorem witness_SealCommandsComplete_b :
    (gateOn st296 = true ∧ sealOn st296 = true ∧ st296.sealUnit.gateStalled = false) ∧
    (gateOn st297 = true ∧ sealOn st297 = true ∧ st297.sealUnit.gateStalled = true) ∧
    (gateOn st298 = true ∧ st298.sealUnit.auth = none ∧ st298.sealUnit.gateStalled = false) ∧
    (st301.sealUnit.auth = some ((true, 0, 1) : Bool × DWord × Nat) ∧ gateOn st301 = true ∧ sealOn st301 = true) ∧
    (st302.sealUnit.nonce = some ([] : List Word) ∧ st302.sealUnit.nonceAt + ticksS 60 ≤ max st302.now (st302.sealUnit.nonceAt + ticksS 60)) := by
  refine ⟨?_, ?_, ?_, ?_, ?_⟩ <;> decide +kernel

theorem witness_SealCommandsComplete_15 :
    st299.sealUnit.auth = some (true, (Config.uniqueId : DWord), 1) ∧ gateOn st299 = true ∧ sealOn st299 = true ∧ (Config.uniqueId : DWord) = st299.sealUnit.uniqueId ∧ returnOpen st299 = true := by
  (repeat' apply And.intro) <;> rfl

theorem witness_SealCommandsComplete_16 :
    st300.sealUnit.auth = some (true, (Config.uniqueId : DWord), 2) ∧ gateOn st300 = true ∧ sealOn st300 = true ∧ (Config.uniqueId : DWord) = st300.sealUnit.uniqueId := by
  (repeat' apply And.intro) <;> rfl

theorem witness_RcReadsReturnWhatEarlierTicksStamped :
    (¬ up.now < 0) ∧
    (CanonicalStores up ∧ up.now < 1) ∧
    (CanonicalStores st3 ∧ st3.folioOn = true ∧ findRow (0x108 : BitVec 24).toNat = some (((findRow 0x108).get (by decide +kernel)) : RegRow) ∧ (((findRow 0x108).get (by decide +kernel)) : RegRow).acc = .rc ∧ denied st3 (.spi : Path) (0x108 : BitVec 24).toNat = false ∧ unreachedV st3 (0x108 : BitVec 24).toNat = false ∧ domainOff st3 (0x108 : BitVec 24).toNat = false) := by
  refine ⟨?_, ?_, ?_⟩ <;> decide +kernel

theorem witness_HeartbeatsReplaceEarlierOnes :
    (queueWords up (1 : Fin 65) + 4 ≤ queueSize (1 : Fin 65)) := by
  decide +kernel

theorem witness_TheBoardQueueHasOneHead :
    (st303.margin.opened = some (note1 : Notice)) ∧
    (st304.margin.opened = none ∧ (st304.margin.queues.get boardQueue).notices = []) ∧
    (st305.margin.opened = none ∧ (st305.margin.queues.get boardQueue).notices = ([] : List Notice) ++ (note1 : Notice) :: ([note1] : List Notice) ∧ (∀ m ∈ ([] : List Notice), m.prio.code < (note1 : Notice).prio.code) ∧ (∀ m ∈ ([note1] : List Notice), m.prio.code ≤ (note1 : Notice).prio.code)) ∧
    (queueWords up boardQueue + (note1 : Notice).words ≤ queueSize boardQueue) ∧
    (st267.folioOn = true ∧ privileged st267 (.spi : Path) = true ∧ (.spi : Path) = bcReader st267 ∧ st267.margin.opened = none ∧ boardHead st267 = some ((note1 : Notice), 0)) := by
  refine ⟨?_, ?_, ?_, ?_, ?_⟩ <;> decide +kernel

theorem witness_TheBoardInterruptFollowsItsRules :
    (({ note1 with prio := .critical } : Notice).prio = .critical ∧ (enterQueue up boardQueue ({ note1 with prio := .critical } : Notice)).2 = true) := by
  decide +kernel

theorem witness_EachRingRecyclesOnlyItsOwn :
    (2 ≤ ({ rec1 with record := { rec1.record with sev := .warning } } : RamRec).record.sev.code) ∧
    (({ rec1 with record := { rec1.record with sev := .notice } } : RamRec).record.sev.code < 2) := by
  refine ⟨?_, ?_⟩ <;> decide +kernel

/-- Whether a command answers a next state of which `p` holds. -/
def goesTo (c : Instr) (s : State) (p : State → Bool) : Bool := match exec c s with
  | .next u => p u
  | _ => false

theorem next_of_goesTo {c : Instr} {s : State} {p : State → Bool} (h : goesTo c s p = true) : ∃ u, exec c s = .next u ∧ p u = true := by
  unfold goesTo at h
  split at h
  · exact ⟨_, ‹_›, h⟩
  · cases h

theorem next_of_goesOn {c : Instr} {s : State} (h : goesTo c s (fun _ => true) = true) : ∃ u, exec c s = .next u :=
  (next_of_goesTo h).imp fun _ h => h.1

theorem reset_modesInOrder : ModesInOrder State.reset :=
  ⟨fun _ => by decide +kernel, fun h => absurd h (by decide +kernel), fun h => absurd h (by decide +kernel), fun h => absurd h (by decide +kernel),
   fun h => absurd h (by decide +kernel), fun h => absurd h (by decide +kernel)⟩

theorem reset_canonicalStores : CanonicalStores State.reset := by decide +kernel

theorem reset_noticesFit : NoticesFit State.reset := by decide +kernel

theorem witness_KeptByStep : ∃ s, (ModesInOrder s ∧ CanonicalStores s ∧ NoticesFit s) ∧ ∃ t, step s = .next t :=
  ⟨State.reset, ⟨reset_modesInOrder, reset_canonicalStores, reset_noticesFit⟩, _, rfl⟩

theorem witness_ModesChangeOnlyByTheTable : ∃ (c : Instr) (s : State), ModesInOrder s ∧ ∃ u, exec c s = .next u :=
  ⟨.vinPreRise 0 4800, State.reset, reset_modesInOrder, next_of_goesOn (by decide +kernel)⟩

theorem witness_StrokeCounterAdvancesWithTime_on :
    ∃ (t : Nat) (s : State), (s.folioOn = false ∧ s.modes.mode = .inrush) ∧ ∃ u, exec (.folioResetRelease t none) s = .next u :=
  ⟨0, { State.reset with modes := { modes0 with mode := .inrush } }, by decide +kernel, next_of_goesOn (by decide +kernel)⟩

theorem witness_StrokeCounterAdvancesWithTime_runs :
    ∃ (c : Instr) (s : State), (s.folioOn = true ∧ s.strokeBase ≤ s.now) ∧ ∃ u, exec c s = .next u ∧ u.folioOn = true :=
  ⟨.strokeResync 1, up, by decide +kernel, next_of_goesTo (p := State.folioOn) (by decide +kernel)⟩

theorem witness_Frames :
    (∃ (c : Instr) (s : State) (p : Piece), cmdGroup c = .power ∧ p ∉ touches c ∧ ∃ u, exec c s = .next u) ∧
    (∃ (c : Instr) (s : State) (p : Piece), cmdGroup c = .board ∧ p ∉ touches c ∧ ∃ u, exec c s = .next u) ∧
    (∃ (c : Instr) (s : State) (p : Piece), cmdGroup c = .host ∧ p ∉ touches c ∧ ∃ u, exec c s = .next u) ∧
    (∃ (c : Instr) (s : State) (p : Piece), cmdGroup c = .bus ∧ p ∉ touches c ∧ ∃ u, exec c s = .next u) ∧
    ∃ (c : Instr) (s : State) (p : Piece), cmdGroup c = .usb ∧ p ∉ touches c ∧ ∃ u, exec c s = .next u :=
  ⟨⟨.strokeResync 1, up, .own, by decide, by decide, next_of_goesOn (by decide +kernel)⟩,
   ⟨.rubricAbort 0 .spi, up, .own, by decide, by decide, next_of_goesOn (by decide +kernel)⟩,
   ⟨.leaseExpiry 0 3, up, .pd, by decide, by decide, next_of_goesOn (by decide +kernel)⟩,
   ⟨.cnpReceived 0 1, up, .pd, by decide, by decide, next_of_goesOn (by decide +kernel)⟩,
   ⟨.getHubStatus 0 1, shared, .own, by decide, by decide, next_of_goesOn (by decide +kernel)⟩⟩

theorem witness_NeighboursStayApart :
    (∃ u, exec (.vbusSwitchOn 0 3 5000) up = .next u) ∧ (∃ u, exec (.portSlewComplete 0 3) up = .next u) ∧ (∃ u, exec (.leaseExpiry 0 3) up = .next u) ∧
    (∃ u, exec (.cnpReceived 0 1) up = .next u) ∧ (∃ u, exec (.eqAdaptStep 0 1 0 false 0 0) up = .next u) ∧ ∃ u, exec (.engineRestartComplete 0 1) up = .next u :=
  ⟨next_of_goesOn (by decide +kernel), next_of_goesOn (by decide +kernel), next_of_goesOn (by decide +kernel), next_of_goesOn (by decide +kernel),
   next_of_goesOn (by decide +kernel), next_of_goesOn (by decide +kernel)⟩

theorem witness_HeartbeatsReplaceEarlierOnes_next :
    (up.folioOn = true ∧ up.modes.booted = true ∧ up.margin.hbDue ≤ max up.now 0 ∧ boardQueue ∈ boardQueue :: toEnabled up) ∧ ∃ u, exec (.heartbeat 0) up = .next u :=
  ⟨by decide +kernel, next_of_goesOn (by decide +kernel)⟩

theorem witness_RcReadsReturnWhatEarlierTicksStamped_counts : ∃ (ws : List Nat) (i : Nat), i < ws.length ∧ ws.sum ≤ 32 := ⟨[8, 8, 8, 8], 3, by decide, by decide⟩

/-- A board queue at its threshold of one notice. -/
def atThreshold : State := { up with margin := { up.margin with irqArmed := true, queues := vmod up.margin.queues 64 fun x => { x with notices := [{ note1 with prio := .critical }] } } }

theorem witness_TheBoardInterruptFollowsItsRules_settling :
    (atThreshold.folioOn = true ∧ atThreshold.margin.irqArmed = true ∧ irqThreshold atThreshold ≤ irqCount atThreshold) ∧
    (up.folioOn = true ∧ irqCount up < irqThreshold up) ∧
    (let v := { atThreshold with margin := { atThreshold.margin with irqArmed := false } }; v.margin.irqArmed = false ∧ irqThreshold v ≤ irqCount v) := by
  decide +kernel

theorem witness_TheBoardInterruptFollowsItsRules_next : ∃ u, exec (.bcIrqAck 0 .spi) atThreshold = .next u := next_of_goesOn (by decide +kernel)

theorem witness_EachRingRecyclesOnlyItsOwn_next :
    (∃ u, exec (.sectorRecycle 0 .low true) up = .next u) ∧ ∃ u, exec (.sectorRecycle 0 .high true) up = .next u :=
  ⟨next_of_goesOn (by decide +kernel), next_of_goesOn (by decide +kernel)⟩

/-- Port 3, free, with these events for its decision; VI 2 is bound and may claim it. -/
def decides (state : OwnState) (evs : List P4Event) : State :=
  { busy with
    modes := { up.modes with mode := .managed }, regs := [(0x71010, 0x01F40001), (0x71014, 0xFFFF), (0x72008, 2)]
    own := vmod up.own 3 fun x => { x with state := state, events := evs } }

theorem witness_DecisionsGiveThePortToItsOwner_barred : scribeRuns (decides .barred [.home]) = true ∧ ((decides .barred [.home]).own.get 3).events ≠ [] ∧
    (((decides .barred [.home]).own.get 3).state = .service ∨ ((decides .barred [.home]).own.get 3).state = .barred) := by decide +kernel

theorem witness_DecisionsGiveThePortToItsOwner_assigned : scribeRuns (decides .free [.assign (.ring 1), .assign .none]) = true ∧
    ((decides .free [.assign (.ring 1), .assign .none]).own.get 3).state ≠ .service ∧ ((decides .free [.assign (.ring 1), .assign .none]).own.get 3).state ≠ .barred ∧
    (assignsOf ((decides .free [.assign (.ring 1), .assign .none]).own.get 3).events).getLast? = some .none := by decide +kernel

theorem witness_DecisionsGiveThePortToItsOwner_home : scribeRuns (decides .free [.home]) = true ∧ ((decides .free [.home]).own.get 3).events ≠ [] ∧
    assignsOf ((decides .free [.home]).own.get 3).events = [] ∧ (∀ w ∈ claimsOf ((decides .free [.home]).own.get 3).events, claimReason (begin 0 (decides .free [.home])) 3 w ≠ 0) := by
  decide +kernel

theorem witness_DecisionsGiveThePortToItsOwner_claimed : scribeRuns (decides .free [.claim (.ring 2)]) = true ∧ assignsOf ((decides .free [.claim (.ring 2)]).own.get 3).events = [] ∧
    .ring 2 ∈ claimsOf ((decides .free [.claim (.ring 2)]).own.get 3).events ∧ claimReason (begin 0 (decides .free [.claim (.ring 2)])) 3 (.ring 2) = 0 := by decide +kernel

theorem witness_DeniedCommandsHaveNoEffect :
    (privilegedBy (.rubricAbort 0 .pf) = some (0, .pf, 0x200) ∧ up.folioOn = true ∧ privileged up .pf = false) ∧ ∃ u, exec (.rubricAbort 0 .pf) up = .next u :=
  ⟨by decide +kernel, next_of_goesOn (by decide +kernel)⟩

/-! ### Small checks: the expected values are the spec's own -/

/-- The ASCII bytes 1 to 9, over which R37 gives the check value. -/
def nineDigits : List Byte := [0x31, 0x32, 0x33, 0x34, 0x35, 0x36, 0x37, 0x38, 0x39]

theorem test_crc8_check_value : crc8 nineDigits = 0xF4 := by decide +kernel

/-- The published check values of the other codes, over the same bytes. -/
theorem test_crc_check_values : crc16 nineDigits = 0x29B1 ∧ crc32c nineDigits = 0xE3069283 ∧ crc64 nineDigits = 0x6C40DF5F0B497347 := by decide +kernel

/-- R384: VIN_PRE rises above 18 V. -/
theorem test_vin_pre_rise_seats : goesTo (.vinPreRise 0 4800) State.reset (fun u => u.modes.mode == .seating && u.input.state == .seating) = true := by decide +kernel

/-- R384: MODE_MANAGED from Standalone. -/
theorem test_mode_managed : goesTo (.modeManaged 0 .spi) up (fun u => u.modes.mode == .managed) = true := by decide +kernel

/-- R44: the PF without trust is denied; the mode stays. -/
theorem test_mode_managed_denied : goesTo (.modeManaged 0 .pf) up (fun u => u.modes.mode == .standalone && u.rcSpi.fresh.find 0x108 == some 1) = true := by decide +kernel

/-- R70: a claim of a free claimable port by an eligible VI that holds the right. -/
theorem test_claim_takes_a_free_port : goesTo (.portDecision 0 3) (decides .free [.claim (.ring 2)]) (fun u => (u.own.get 3).owner == .ring 2) = true := by decide +kernel

/-- R432: the loss of VAUX takes the port pair away. -/
theorem test_vaux_fall_switches_off : goesTo (.vauxFall 0) busy (fun u => !u.vauxOk && !(u.power.get 3).gateOn) = true := by decide +kernel

/-- R380: a freeze stops the recorder. -/
theorem test_pal_freeze : goesTo (.palFreeze 0 .spi) up (fun u => u.pal.frozen) = true := by decide +kernel

/-- An empty queue leaves the block as it is. -/
theorem test_empty_queue_idles : step State.reset = .next State.reset := rfl

end Sys2Proof.Tests
end

section
/-! The canonical form of the register stores is kept by every operation and every command (R6, R46, R48).

One lemma for each operation of the model, `Canonical.op`, in the order of the model's files: from a canonical state it leads to a canonical one.
A proof follows the definition it is about. `h.f.g` says that the state passes through `f` and then `g`; `.ite a b` and `split` are its choices; `h.same` is a
change of other fields of the state; a loop takes the lemma about its body. Only a handful of operations change a store, and each of these
rests on a law of Laws/Registers.lean. -/

namespace Sys2Proof.Machine

/-- The register store and both copies of the RC registers are in canonical form. -/
structure Canonical (s : State) : Prop where
  regs : s.regs.wf mapReset = true
  rcSpi : s.rcSpi.Wf
  rcPf : s.rcPf.Wf

/-- A command answers a next state whose stores are canonical. -/
def CanonicalNext (o : Host.Outcome State Fault Refusal) : Prop := ∃ u, o = .next u ∧ Canonical u

variable {s : State}

/-! ### How stores stay canonical through the forms a definition takes -/

/-- A state with the stores of a canonical one is canonical, whatever else it holds. -/
theorem Canonical.same
    {now pending out freeCtr limits folioOn strokeBase resyncAt pairs writes staged rubric trustBySpi trustConfigured link localEvents localLost pal margin
     disc clusters engines regionTemp lanes modes img nor blot sealUnit input vauxOk power pd ptp own vis devices eps nibs qps eth prp pcie timelines ink
     cvis cviews cports ligs func pins} (h : Canonical s) :
    Canonical (.mk now pending out freeCtr limits folioOn strokeBase resyncAt s.regs s.rcSpi s.rcPf pairs writes staged rubric trustBySpi trustConfigured link
      localEvents localLost pal margin disc clusters engines regionTemp lanes modes img nor blot sealUnit input vauxOk power pd ptp own vis devices eps nibs
      qps eth prp pcie timelines ink cvis cviews cports ligs func pins) := ⟨h.regs, h.rcSpi, h.rcPf⟩

/-- Registers that are dropped read as their reset values. -/
theorem Canonical.regsFilter {p} (h : Canonical s) : Canonical { s with regs := s.regs.filter p } := ⟨filter_wf _ p _ h.regs, h.rcSpi, h.rcPf⟩

theorem rcWipe_wf {c : RcCopy} (a : Nat) (h : c.Wf) : RcCopy.Wf { c with settled := RegFile.put a 0 0 c.settled } :=
  ⟨put_wf (fun _ => 0) a 0 c.settled h.1, h.2⟩

theorem Canonical.ite {c : Prop} [Decidable c] {a b : State} (ha : Canonical a) (hb : Canonical b) : Canonical (if c then a else b) := by
  split
  · exact ha
  · exact hb

theorem Canonical.dite {c : Prop} [Decidable c] {a : c → State} {b : ¬c → State} (ha : ∀ x, Canonical (a x)) (hb : ∀ x, Canonical (b x)) :
    Canonical (if x : c then a x else b x) := by
  split
  · exact ha _
  · exact hb _

theorem Canonical.iteFst {γ : Type} {c : Prop} [Decidable c] {a b : State × γ} (ha : Canonical a.1) (hb : Canonical b.1) :
    Canonical (if c then a else b).1 := by
  split
  · exact ha
  · exact hb

/-- What follows from an intermediate state's canonical stores: the use first, which names the state, then the state itself. -/
theorem Canonical.via {a b : State} (hb : Canonical a → Canonical b) (ha : Canonical a) : Canonical b := hb ha

theorem Canonical.foldl {β : Type} {g : State → β → State} {l : List β} (h : Canonical s) (hg : ∀ {u x}, Canonical u → Canonical (g u x)) :
    Canonical (l.foldl g s) := by
  induction l generalizing s with
  | nil => exact h
  | cons x l ih => exact ih (hg h)

theorem Canonical.foldlFst {β γ : Type} {g : State × γ → β → State × γ} {l : List β} {k : γ} (h : Canonical s)
    (hg : ∀ {u x}, Canonical u.1 → Canonical (g u x).1) : Canonical (l.foldl g (s, k)).1 :=
  List.foldlRecOn (motive := fun r => Canonical r.1) l g h fun _ hr _ _ => hg hr

/-! ### Operations and commands of Machine/Regs.lean -/

theorem Canonical.setReg {a v} (h : Canonical s) : Canonical (setReg s a v) := ⟨setReg_wf s a v h.regs, h.rcSpi, h.rcPf⟩
theorem Canonical.rcAdd {a v} (h : Canonical s) : Canonical (rcAdd s a v) := ⟨h.regs, rcAdd_wf _ a v h.rcSpi, rcAdd_wf _ a v h.rcPf⟩
theorem Canonical.rcCount {a lo} (h : Canonical s) : Canonical (rcCount s a lo) := h.rcAdd
theorem Canonical.rcAddPath {p a v} (h : Canonical s) : Canonical (rcAddPath s p a v) := by
  cases p with
  | spi => exact ⟨h.regs, rcAdd_wf _ a v h.rcSpi, h.rcPf⟩
  | pf => exact ⟨h.regs, h.rcSpi, rcAdd_wf _ a v h.rcPf⟩
  | _ => exact h

theorem Canonical.rcClear {p a} (h : Canonical s) : Canonical (rcClear s p a) := by
  cases p with
  | spi => exact ⟨h.regs, rcWipe_wf a h.rcSpi, h.rcPf⟩
  | pf => exact ⟨h.regs, h.rcSpi, rcWipe_wf a h.rcPf⟩
  | _ => exact h

/-! ### Operations and commands of Machine/Ops.lean -/

theorem Canonical.draw (h : Canonical s) : Canonical (draw s).2 := h.same
theorem Canonical.drawMany : ∀ {k s}, Canonical s → Canonical (drawMany k s).2
  | 0, _, h => h
  | _ + 1, _, h => h.draw.drawMany

theorem Canonical.emit {o} (h : Canonical s) : Canonical (emit s o) := h.same
theorem Canonical.limitMark {key} (h : Canonical s) : Canonical (limitMark s key) := h.same
theorem Canonical.begin {t} (h : Canonical s) : Canonical (begin t s) :=
  have ⟨hSpi, hPf⟩ := begin_rc_wf t s ⟨h.rcSpi, h.rcPf⟩
  ⟨(begin_regs t s).symm ▸ h.regs, hSpi, hPf⟩

theorem Canonical.settleIrq (h : Canonical s) : Canonical (settleIrq s) := .ite h (.ite h.same (.ite h.same h))
theorem Canonical.settle (h : Canonical s) : Canonical (settle s) := h.settleIrq.same
/-- The frame of a command: what its effect keeps, the command keeps. -/
theorem Canonical.act {t f} (h : Canonical s) (hf : ∀ {u}, Canonical u → Canonical (f u)) : CanonicalNext (act t s f) :=
  ⟨_, rfl, (hf h.begin).settle.same⟩

theorem Canonical.when {g f} (h : Canonical s) (hf : Canonical s → Canonical (f s)) : Canonical (when g s f) := .ite (hf h) h
theorem Canonical.eachPort {f} (h : Canonical s) (hf : ∀ {u x}, Canonical u → Canonical (f u x)) : Canonical (eachPort s f) := h.foldl hf
theorem Canonical.eachRing {f} (h : Canonical s) (hf : ∀ {u x}, Canonical u → Canonical (f u x)) : Canonical (eachRing s f) := h.foldl hf
theorem Canonical.eachClassic {f} (h : Canonical s) (hf : ∀ {u x}, Canonical u → Canonical (f u x)) : Canonical (eachClassic s f) := h.foldl hf
theorem Canonical.setApplied {a v} (h : Canonical s) : Canonical (setApplied s a v) := .ite h.same.setReg h.setReg

/-! ### Operations and commands of Machine/Recorder.lean -/

theorem Canonical.countLoss {sv} (h : Canonical s) : Canonical (countLoss s sv) := h.same.rcCount
theorem Canonical.makeRoom {sv size} : ∀ {k s}, Canonical s → Canonical (makeRoom k s sv size).1
  | 0, _, h => h
  | _ + 1, _, h => .iteFst h (by
    split
    · exact h.countLoss
    · exact .iteFst h.countLoss h.same.countLoss.makeRoom)

theorem Canonical.pushRecord {r} (h : Canonical s) : Canonical (pushRecord s r) := .ite (.ite h.makeRoom.same h.makeRoom.same) h.makeRoom
theorem Canonical.marker {code sev ps} (h : Canonical s) : Canonical (marker s code sev ps) := h.pushRecord
theorem Canonical.takeToken {code n sv} (h : Canonical s) : Canonical (takeToken s code n sv).1 := by
  unfold Machine.takeToken
  split
  · exact h.same
  · exact .iteFst h.same h.same.rcCount

theorem Canonical.recordAt {place code sev n subject set ps} (h : Canonical s) : Canonical (recordAt s place code sev n subject set ps) :=
  .ite h (.ite h.takeToken.pushRecord h.takeToken)

theorem Canonical.record {code sev n subject set ps} (h : Canonical s) : Canonical (record s code sev n subject set ps) := h.recordAt
theorem Canonical.recordRes {place code sev n set ps} (h : Canonical s) : Canonical (recordRes s place code sev n set ps) :=
  .ite (.ite h.same h.same) h.recordAt

theorem Canonical.recordLimited {key f} (h : Canonical s) (hf : ∀ {u}, Canonical u → Canonical (f u)) : Canonical (recordLimited s key f) :=
  .ite (hf h.limitMark) h

/-! ### Operations and commands of Machine/Notices.lean -/

theorem Canonical.setQueue {q f} (h : Canonical s) : Canonical (setQueue s q f) := h.same
theorem Canonical.lostNotice {q p} (h : Canonical s) : Canonical (lostNotice s q p) := h.setQueue.rcCount.recordLimited .record
theorem Canonical.enterLoop {q n} : ∀ {k s}, Canonical s → Canonical (enterLoop k s q n).1
  | 0, _, h => h
  | _ + 1, _, h => .iteFst h.setQueue (by
    split
    · exact h.lostNotice
    · exact .iteFst h.lostNotice h.setQueue.lostNotice.enterLoop)

theorem Canonical.enterQueue {q n} (h : Canonical s) : Canonical (enterQueue s q n).1 := by
  unfold Machine.enterQueue
  split
  · exact .iteFst h.enterLoop h
  · exact .iteFst h.enterLoop.same h.enterLoop

theorem Canonical.notice {type prio n subject body dest} (h : Canonical s) : Canonical (notice s type prio n subject body dest) :=
  .ite h (h.foldl .enterQueue)

theorem Canonical.powerNotice {n event} (h : Canonical s) : Canonical (powerNotice s n event) := h.notice
theorem Canonical.detachNotice {n reason path ended} (h : Canonical s) : Canonical (detachNotice s n reason path ended) := h.notice
theorem Canonical.portStateNotice {n event link speed} (h : Canonical s) : Canonical (portStateNotice s n event link speed) := h.notice
theorem Canonical.heartbeatInto {q} (h : Canonical s) : Canonical (heartbeatInto s q) := .ite h.setQueue.enterQueue.setQueue h.setQueue.enterQueue.setQueue

/-! ### Operations and commands of Machine/Store.lean -/

theorem Canonical.setRing {r xs} (h : Canonical s) : Canonical (setRing s r xs) := by
  unfold Machine.setRing
  split <;> exact h.same

theorem Canonical.markRam {r f} (h : Canonical s) : Canonical (markRam s r f) := h.same
theorem Canonical.norFailure {r i op} (h : Canonical s) : Canonical (norFailure s r i op) := h.setRing.rcCount.rcCount.same.marker
theorem Canonical.programRecord {r steps} (h : Canonical s) : Canonical (programRecord s r steps) := by
  unfold Machine.programRecord
  dsimp only
  split
  · exact h.same
  · exact .ite h.setRing (.ite h.setRing.markRam h.setRing.markRam.same)

theorem Canonical.persistOne (h : Canonical s) : Canonical (persistOne s) := by
  unfold Machine.persistOne
  split
  · exact .ite h.programRecord h
  · exact h

theorem Canonical.persistAll : ∀ {k s}, Canonical s → Canonical (persistAll k s)
  | 0, _, h => h
  | _ + 1, _, h => by
    unfold Machine.persistAll
    split
    · exact .ite h.persistOne.persistAll h
    · exact h

theorem Canonical.persistEverything (h : Canonical s) : Canonical (persistEverything s) := h.persistAll
theorem Canonical.flushMarker (h : Canonical s) : Canonical (flushMarker s) := .ite h h.marker.same
theorem Canonical.sample {ch q x ms} (h : Canonical s) : Canonical (sample s ch q x ms) := h.same
theorem Canonical.summaryRecord {a} (h : Canonical s) : Canonical (summaryRecord s a) := h.pushRecord
theorem Canonical.closeSummaries {qs} (h : Canonical s) : Canonical (closeSummaries s qs) := .same (.ite (h.foldl fun h => h.foldl .summaryRecord) h)
theorem Canonical.preFlush (h : Canonical s) : Canonical (preFlush s) := h.flushMarker.closeSummaries.same
theorem Canonical.bootScan (h : Canonical s) : Canonical (bootScan s) := .same (h.same.marker.foldl .pushRecord)

/-! ### Operations and commands of Machine/Access.lean -/

theorem Canonical.accessRecord {code p a more} (h : Canonical s) : Canonical (accessRecord s code p a more) := h.recordAt
theorem Canonical.privDenied {p a} (h : Canonical s) : Canonical (privDenied s p a) := h.rcCount.accessRecord
theorem Canonical.writeIgnored {p a v} (h : Canonical s) : Canonical (writeIgnored s p a v) := h.accessRecord
theorem Canonical.accessFault {p bit} (h : Canonical s) : Canonical (accessFault s p bit) := h.rcAddPath
theorem Canonical.accessTimeout {p a} (h : Canonical s) : Canonical (accessTimeout s p a) := h.accessFault.rcAddPath.accessRecord
/-- A command through a PRIV register: its effect or the denial of R44. -/
theorem Canonical.privCmd {t p a f} (h : Canonical s) (hf : ∀ {u}, Canonical u → Canonical (f u)) : CanonicalNext (privCmd t p a s f) :=
  h.act fun h => h.when fun h => .ite (hf h) h.privDenied

/-! ### Operations and commands of Machine/PalimpsestCmds.lean -/

theorem Canonical.execRecordCommit {t result} (h : Canonical s) : CanonicalNext (execRecordCommit t result s) := h.act fun h => by
  split
  · exact h.same
  · refine h.when fun h => ?_
    split
    · exact h.programRecord
    · exact h.programRecord
    · dsimp only
      split
      · exact h.setRing.norFailure
      · exact h.same

theorem Canonical.execSectorRecycle {t ring ok} (h : Canonical s) : CanonicalNext (execSectorRecycle t ring ok s) := h.act fun h => h.when fun h => by
  split
  · exact h
  · refine .via (fun h => .ite h.setRing.same h.setRing.norFailure) ?_
    split
    · exact .ite h.marker.programRecord h.marker
    · exact h.marker

theorem Canonical.execBucketRefill {t code port} (h : Canonical s) : CanonicalNext (execBucketRefill t code port s) := h.act fun h => by
  split
  · exact h
  · exact h.when fun h => .ite h.same (.ite h.same h.same.pushRecord)

theorem Canonical.execSummaryPeriodClose {t} (h : Canonical s) : CanonicalNext (execSummaryPeriodClose t s) :=
  h.act fun h => h.when fun h => .same (.closeSummaries (.ite h.marker.same h))

theorem Canonical.palFreeze {p} (h : Canonical s) : Canonical (palFreeze s p) := h.same.marker
theorem Canonical.execPalFreeze {t path} (h : Canonical s) : CanonicalNext (execPalFreeze t path s) := h.privCmd .palFreeze
theorem Canonical.palUnfreeze {p} (h : Canonical s) : Canonical (palUnfreeze s p) := h.same.marker
theorem Canonical.execPalUnfreeze {t path} (h : Canonical s) : CanonicalNext (execPalUnfreeze t path s) := h.privCmd .palUnfreeze
theorem Canonical.palVerify (h : Canonical s) : Canonical (palVerify s) := h.same
theorem Canonical.execPalVerify {t path} (h : Canonical s) : CanonicalNext (execPalVerify t path s) := h.privCmd .palVerify
theorem Canonical.execPalVerifyDone {t} (h : Canonical s) : CanonicalNext (execPalVerifyDone t s) := h.act fun h => h.when .same
theorem Canonical.startLoad (h : Canonical s) : Canonical (startLoad s) := h.same
theorem Canonical.execPalLoad {t path} (h : Canonical s) : CanonicalNext (execPalLoad t path s) := h.privCmd .startLoad
theorem Canonical.palNext (h : Canonical s) : Canonical (palNext s) := by
  unfold Machine.palNext
  dsimp only
  split
  · exact h.setReg.startLoad
  · exact h.same

theorem Canonical.palPrev (h : Canonical s) : Canonical (palPrev s) := by
  unfold Machine.palPrev
  dsimp only
  split
  · exact h.setReg.startLoad
  · exact h.same

theorem Canonical.execPalNext {t path} (h : Canonical s) : CanonicalNext (execPalNext t path s) := h.privCmd .palNext
theorem Canonical.execPalPrev {t path} (h : Canonical s) : CanonicalNext (execPalPrev t path s) := h.privCmd .palPrev
theorem Canonical.execRecordLoadReady {t} (h : Canonical s) : CanonicalNext (execRecordLoadReady t s) := h.act fun h => h.when fun h => by
  dsimp only
  split
  · exact h.same
  · refine h.when fun hw => ?_
    split <;> exact h.same

theorem Canonical.execGapScanComplete {t} (h : Canonical s) : CanonicalNext (execGapScanComplete t s) := h.act fun h => h.when fun h => h.same.marker

/-! ### Operations and commands of Machine/Inkwell.lean -/

theorem Canonical.keyNow (h : Canonical s) : Canonical (keyNow s) := by
  unfold Machine.keyNow
  split
  · exact .ite h.same h
  · exact h

theorem Canonical.noteLive (h : Canonical s) : Canonical (noteLive s) := h.same
theorem Canonical.placeBlocks {x ctx} : ∀ {k s}, Canonical s → Canonical (placeBlocks k s x ctx)
  | 0, _, h => h
  | k + 1, _, h => h.same.placeBlocks (k := k)

theorem Canonical.freeBlocks {k x ctx} (h : Canonical s) : Canonical (freeBlocks s k x ctx) := h.same
theorem Canonical.settleCtx {before x ctx} (h : Canonical s) : Canonical (settleCtx before s x ctx) := h.same.freeBlocks.placeBlocks.noteLive
theorem Canonical.releaseRetained {v need} : ∀ {k s}, Canonical s → Canonical (releaseRetained k s v need)
  | 0, _, h => h
  | _ + 1, _, h => .ite h (by
    split
    · exact h
    · exact h.same.settleCtx.releaseRetained)

theorem Canonical.requestBlocks {x ctx need} (h : Canonical s) : Canonical (requestBlocks s x ctx need) := by
  refine .via (fun h => .ite h.same.placeBlocks.rcAdd (.ite h.same.limitMark.rcCount h.same)) ?_
  split
  · exact h.keyNow.releaseRetained
  · exact h.keyNow

theorem Canonical.bankCycles {periodic b n} (h : Canonical s) : Canonical (bankCycles s periodic b n) := .ite h.same h.same
theorem Canonical.execBankWindow {t} (h : Canonical s) : CanonicalNext (execBankWindow t s) := h.act fun h => h.when .same
theorem Canonical.conflictTrip {bank} (h : Canonical s) : Canonical (conflictTrip s bank) := .notice (.record (.ite h.same.rcAdd h.same.rcAdd.draw.same))
theorem Canonical.execConflictWindow {t grants demands} (h : Canonical s) :
    CanonicalNext (execConflictWindow t grants demands s) := h.act fun h => h.when fun h => by
  dsimp only
  split
  · exact h.keyNow.same
  · exact .ite h.keyNow.conflictTrip h.keyNow.same

theorem Canonical.evalMinOver (h : Canonical s) : Canonical (evalMinOver s) := by
  unfold Machine.evalMinOver
  exact .ite h.same.record h.same

/-! ### Operations and commands of Machine/Rings.lean -/

theorem Canonical.setVi {v f} (h : Canonical s) : Canonical (setVi s v f) := h.same
theorem Canonical.setEp {ctx f} (h : Canonical s) : Canonical (setEp s ctx f) := h.same
theorem Canonical.setNib {n f} (h : Canonical s) : Canonical (setNib s n f) := h.same
theorem Canonical.setOwn {n f} (h : Canonical s) : Canonical (setOwn s n f) := h.same
theorem Canonical.setQp {q f} (h : Canonical s) : Canonical (setQp s q f) := h.same
theorem Canonical.noteSent {v} (h : Canonical s) : Canonical (noteSent s v) := by
  unfold Machine.noteSent
  split
  · exact h.setQp
  · exact h

theorem Canonical.hostWrite {v addr bytes} (h : Canonical s) : Canonical (hostWrite s v addr bytes) := .ite h.emit.setVi.noteSent (.ite h.emit h.rcCount)
theorem Canonical.raiseMsix {v} (h : Canonical s) : Canonical (raiseMsix s v) := .ite h.setVi.emit h.setVi.same
theorem Canonical.signalEntry {v urgent} (h : Canonical s) : Canonical (signalEntry s v urgent) := .ite (.ite h.setVi.raiseMsix h.setVi) h
theorem Canonical.writeEntry {v d} (h : Canonical s) : Canonical (writeEntry s v d) := .signalEntry (.setVi (.ite h.emit.noteSent (.ite h.emit h.rcCount)))
theorem Canonical.eventFull {v} (h : Canonical s) : Canonical (eventFull s v) := .ite h (h.setVi.recordLimited .record)
theorem Canonical.flushDue {v} : ∀ {k s}, Canonical s → Canonical (flushDue k s v)
  | 0, _, h => h
  | _ + 1, _, h => .ite h (by
    split
    · exact h
    · exact .ite (.ite h.setVi.writeEntry.flushDue h.eventFull) h)

theorem Canonical.flushEvents {v} (h : Canonical s) : Canonical (flushEvents s v) := h.flushDue
theorem Canonical.pushDue {v ds} (h : Canonical s) : Canonical (pushDue s v ds) := h.setVi.flushEvents
theorem Canonical.deliverNotice {v} (h : Canonical s) : Canonical (deliverNotice s v) := by
  unfold Machine.deliverNotice
  dsimp only
  split
  · exact h
  · exact .ite h.setQueue.setVi.pushDue (.ite h.eventFull h)

theorem Canonical.deliverEarlier {v} : ∀ {k s}, Canonical s → Canonical (deliverEarlier k s v)
  | 0, _, h => h
  | _ + 1, _, h => by
    unfold Machine.deliverEarlier
    split
    · exact h
    · exact .ite h.deliverNotice.deliverEarlier h

theorem Canonical.deliverAll {v} : ∀ {k s}, Canonical s → Canonical (deliverAll k s v)
  | 0, _, h => h
  | _ + 1, _, h => .ite h h.deliverNotice.deliverAll

theorem Canonical.earlierNotices {v} (h : Canonical s) : Canonical (earlierNotices s v) := h.deliverEarlier
theorem Canonical.windowPush {v c} (h : Canonical s) : Canonical (windowPush s v c) := by
  refine .ite h.setVi ?_
  split
  · exact .ite h.setVi h.setVi.settleCtx
  · exact h

theorem Canonical.complete {v c needAck} (h : Canonical s) : Canonical (complete s v c needAck) :=
  .ite h (.ite h.setVi.windowPush h.setVi.windowPush.earlierNotices.pushDue)

theorem Canonical.completeCmd {v slot type code result n} (h : Canonical s) : Canonical (completeCmd s v slot type code result n) := h.setVi.complete
theorem Canonical.finishCmd {v slot code result n} (h : Canonical s) : Canonical (finishCmd s v slot code result n) := by
  unfold Machine.finishCmd
  split
  · exact h.completeCmd
  · exact h

theorem Canonical.endTransfer {ctx x code len} (h : Canonical s) : Canonical (endTransfer s ctx x code len) := by
  unfold Machine.endTransfer
  split
  · exact h
  · exact .via (fun h => .ite (.ite h.setVi h) (.complete (.ite h.setVi h))) (.ite h.setEp.rcCount (.ite h.setEp.rcCount h.setEp))

theorem Canonical.endAndSettle {ctx x code len} (h : Canonical s) : Canonical (endAndSettle s ctx x code len) := h.endTransfer.settleCtx
theorem Canonical.endQueue {ctx pick code} (h : Canonical s) : Canonical (endQueue s ctx pick code).1 := by
  unfold Machine.endQueue
  split
  · exact h
  · exact h.foldl .endAndSettle

theorem Canonical.refreshAges (h : Canonical s) : Canonical (refreshAges s) := h.same
theorem Canonical.execNoticeDelivery {t v} (h : Canonical s) : CanonicalNext (execNoticeDelivery t v s) := h.act fun h => h.when .deliverNotice
theorem Canonical.execMsixIntervalExpiry {t v} (h : Canonical s) : CanonicalNext (execMsixIntervalExpiry t v s) := h.act fun h => h.when .raiseMsix
theorem Canonical.execRdmaAckReceived {t v upTo all} (h : Canonical s) :
    CanonicalNext (execRdmaAckReceived t v upTo all s) := h.act fun h => h.when fun h => by
  refine .flushEvents ?_
  split
  · exact h.setVi.setQp
  · exact h.setVi

/-! ### Operations and commands of Machine/Trees.lean -/

theorem Canonical.setView {c n f} (h : Canonical s) : Canonical (setView s c n f) := h.same
theorem Canonical.setCvi {c f} (h : Canonical s) : Canonical (setCvi s c f) := h.same
theorem Canonical.setCPort {n f} (h : Canonical s) : Canonical (setCPort s n f) := h.same
theorem Canonical.viewDisconnect {n ss} (h : Canonical s) : Canonical (viewDisconnect s n ss) := by
  unfold Machine.viewDisconnect
  split
  · exact h
  · exact h.setView

theorem Canonical.viewOverCurrent {n on} (h : Canonical s) : Canonical (viewOverCurrent s n on) := by
  unfold Machine.viewOverCurrent
  split
  · exact h
  · exact h.setView

theorem Canonical.viewLocalPower (h : Canonical s) : Canonical (viewLocalPower s) := h.eachClassic fun h => .ite h.setCvi h
theorem Canonical.emptyLig {n} (h : Canonical s) : Canonical (emptyLig s n) := h.same
theorem Canonical.noteDiscard {e bytes reason} (h : Canonical s) : Canonical (noteDiscard s e bytes reason) := .ite h h.setEp.setOwn.notice
theorem Canonical.dropStash {ctx reason} (h : Canonical s) : Canonical (dropStash s ctx reason) := by
  unfold Machine.dropStash
  split
  · exact h
  · exact h.setEp.settleCtx.noteDiscard

theorem Canonical.releaseEp {ctx code reason} (h : Canonical s) : Canonical (releaseEp s ctx code reason).1 := h.endQueue.dropStash.same.settleCtx
theorem Canonical.releaseEps {pick code reason} (h : Canonical s) : Canonical (releaseEps s pick code reason).1 := h.foldlFst .releaseEp
theorem Canonical.releaseDevice {n addr code reason} (h : Canonical s) : Canonical (releaseDevice s n addr code reason) := h.releaseEps.same
theorem Canonical.releasePath {n ss code reason} (h : Canonical s) : Canonical (releasePath s n ss code reason).1 := h.releaseEps.same
theorem Canonical.releaseTree {n code reason} (h : Canonical s) : Canonical (releaseTree s n code reason).1 := h.releaseEps.same
theorem Canonical.finishOpt {c code result n} (h : Canonical s) : Canonical (finishOpt s c code result n) := by
  unfold Machine.finishOpt
  split
  · exact h.finishCmd
  · exact h

theorem Canonical.abortCmds {n} (h : Canonical s) : Canonical (abortCmds s n) := h.finishOpt.finishOpt.finishOpt.finishOpt.setNib
theorem Canonical.pathGone {n ss reason} (h : Canonical s) : Canonical (pathGone s n ss reason) := by
  refine .via (fun h => .ite h.viewDisconnect.setNib.detachNotice h.viewDisconnect.setNib) ?_
  split
  · exact .ite h.releasePath.finishCmd.setNib h.releasePath
  · exact h.releasePath

theorem Canonical.busGone {n reason} (h : Canonical s) : Canonical (busGone s n reason) :=
  .ite h.abortCmds.pathGone.pathGone.setNib.setCPort.detachNotice h.abortCmds.pathGone.pathGone.setNib.setCPort

theorem Canonical.attachNotice {n ss written result} (h : Canonical s) : Canonical (attachNotice s n ss written result) := h.notice

/-! ### Operations and commands of Machine/Owners.lean -/

theorem Canonical.stampP4 {n e} (h : Canonical s) : Canonical (stampP4 s n e) := .ite h h.setOwn
theorem Canonical.homeStamp {w} (h : Canonical s) : Canonical (homeStamp s w) := h.eachPort fun h => .ite h.stampP4 h
theorem Canonical.homeStampAll (h : Canonical s) : Canonical (homeStampAll s) := h.eachPort fun h => .ite h.stampP4 h
theorem Canonical.forfeit {w} (h : Canonical s) : Canonical (forfeit s w) := by
  refine .eachPort ?_ (fun h => .ite h.stampP4 h)
  split
  · exact h.setVi
  · exact h.setCvi
  · exact h

theorem Canonical.ringsGone {v} (h : Canonical s) : Canonical (ringsGone s v) :=
  .setVi (.foldl (.setQueue (.ite h h.record)) fun h => .ite h h.setVi.settleCtx)

theorem Canonical.abandonSplit {ctx} (h : Canonical s) : Canonical (abandonSplit s ctx) := by
  unfold Machine.abandonSplit
  split
  · exact h
  · split
    · exact h
    · exact .ite h.setEp.rcCount.setNib.emit h.setEp

theorem Canonical.handoverEp {x ctx} {acc : State × Nat} (h : Canonical acc.1) : Canonical (handoverEp x acc ctx).1 := by
  unfold Machine.handoverEp
  split
  · exact h
  · exact h.setEp.abandonSplit.endQueue.setEp.same.settleCtx

theorem Canonical.endOldWork {n x} (h : Canonical s) : Canonical (endOldWork s n x).1 := .emptyLig (h.foldlFst .handoverEp)
theorem Canonical.dropOwnerCmds {n} (h : Canonical s) : Canonical (dropOwnerCmds s n) := h.finishOpt.finishOpt.finishOpt.finishOpt.setNib
theorem Canonical.ownerChangeNotice {n old} (h : Canonical s) : Canonical (ownerChangeNotice s n old) := h.notice
theorem Canonical.ownerLostNotice {n old ended} (h : Canonical s) : Canonical (ownerLostNotice s n old ended) := by
  unfold Machine.ownerLostNotice
  dsimp only
  split
  · exact h.notice
  · exact h

theorem Canonical.changeOwner {n next st cause} (h : Canonical s) : Canonical (changeOwner s n next st cause) := h.setOwn.record.ownerChangeNotice
theorem Canonical.loseOutright {n st cause} (h : Canonical s) : Canonical (loseOutright s n st cause) :=
  .ite h.setOwn h.changeOwner.endOldWork.dropOwnerCmds.setOwn.ownerLostNotice

theorem Canonical.createClassic {c up} (h : Canonical s) : Canonical (createClassic s c up) :=
  .homeStamp (.ite (.eachPort (.ite h.setCvi.same h.setCvi.same.loseOutright) fun h => .ite h.stampP4 h) (.ite h.setCvi.same h.setCvi.same.loseOutright))

theorem Canonical.ceaseClassic {c} (h : Canonical s) : Canonical (ceaseClassic s c) :=
  .ite h (.ite h.forfeit.setCvi.same (.ite h.forfeit.setCvi.same.setOwn.stampP4 h.forfeit.setCvi.same))

theorem Canonical.endUpstream {n} (h : Canonical s) : Canonical (endUpstream s n) := by
  unfold Machine.endUpstream
  split
  · exact h.ceaseClassic
  · exact h

/-! ### Operations and commands of Machine/Ports.lean -/

theorem Canonical.setPower {n f} (h : Canonical s) : Canonical (setPower s n f) := h.same
theorem Canonical.setPd {n f} (h : Canonical s) : Canonical (setPd s n f) := h.same
theorem Canonical.pdState {n st} (h : Canonical s) : Canonical (pdState s n st) := h.setPd
theorem Canonical.presentRp {n} (h : Canonical s) : Canonical (presentRp s n) := h.setPd
theorem Canonical.kickOwn {n} (h : Canonical s) : Canonical (kickOwn s n) := .ite h (.ite (.ite h h.setPd.presentRp) h.setPd.presentRp)
theorem Canonical.markCaps {n force} (h : Canonical s) : Canonical (markCaps s n force) := h.setPd
theorem Canonical.markShare {n} (h : Canonical s) : Canonical (markShare s n) := .ite h h.markCaps
theorem Canonical.endContract {n} (h : Canonical s) : Canonical (endContract s n) := h.setPd
theorem Canonical.clearPd {n st} (h : Canonical s) : Canonical (clearPd s n st) := h.setPd
theorem Canonical.vconnOff {n} (h : Canonical s) : Canonical (vconnOff s n) := h.setPd
theorem Canonical.gateOff {n hard phase} (h : Canonical s) : Canonical (gateOff s n hard phase) := h.setPower
theorem Canonical.converterOff {n} (h : Canonical s) : Canonical (converterOff s n) := h.setPower
theorem Canonical.switchOn {n} (h : Canonical s) : Canonical (switchOn s n) := h.setPower.viewOverCurrent
theorem Canonical.clearShed {n} (h : Canonical s) : Canonical (clearShed s n) := .ite h.setPower.powerNotice h
theorem Canonical.applyIncrease {n} (h : Canonical s) : Canonical (applyIncrease s n) := .ite (.ite h.setPower.markShare.clearShed h) h
theorem Canonical.noteShed {n} (h : Canonical s) : Canonical (noteShed s n) := h.setPower.rcCount.rcCount.record.powerNotice
theorem Canonical.powerOffPort {n reason} (h : Canonical s) : Canonical (powerOffPort s n reason) := h.vconnOff.pdState.endContract.presentRp.busGone
theorem Canonical.shedOff {n hard} (h : Canonical s) : Canonical (shedOff s n hard) := h.gateOff.setPower.powerOffPort.noteShed
theorem Canonical.recomputeShares (h : Canonical s) : Canonical (recomputeShares s) :=
  .eachPort (.eachPort (.foldl (h.eachPort fun h => .ite h.setPower.markShare h.setPower) .applyIncrease) fun h => .ite h.shedOff h) fun h => h.clearShed

theorem Canonical.scheduleRetry {n} (h : Canonical s) : Canonical (scheduleRetry s n) :=
  .ite h (.ite h.setPower h.setPower.record.powerNotice.recomputeShares)

theorem Canonical.tripPort {n cause place} (h : Canonical s) : Canonical (tripPort s n cause place) :=
  h.rcCount.recordRes.gateOff.setPower.powerOffPort.viewOverCurrent.powerNotice.scheduleRetry

theorem Canonical.dropRole {n} (h : Canonical s) : Canonical (dropRole s n) := h.setPd.endUpstream
theorem Canonical.errorRecovery {n} (h : Canonical s) : Canonical (errorRecovery s n) :=
  .via (fun h => .ite h.busGone h) (Canonical.ite h.gateOff h).vconnOff.pdState.endContract.presentRp.setPd.dropRole

theorem Canonical.startHardReset {n received} (h : Canonical s) : Canonical (startHardReset s n received) :=
  .ite h <| .via (fun h => .ite h.errorRecovery h.pdState.setPd.presentRp) <|
    (Canonical.ite h.rcCount.record h.rcCount.record.emit).setPd.endContract.dropRole

theorem Canonical.disablePort {n hard reason} (h : Canonical s) : Canonical (disablePort s n hard reason) :=
  .ite h <|
    .via (fun h => .ite h.busGone h) <|
    .presentRp (.clearPd (.ite h.gateOff.converterOff.setPower h.gateOff.converterOff.setPower.dropRole))

theorem Canonical.enablePort {n} (h : Canonical s) : Canonical (enablePort s n) := .ite (.presentRp (.clearPd (.ite h h.setPower))) h
theorem Canonical.applyPortModes {hard reason} (h : Canonical s) : Canonical (applyPortModes s hard reason) :=
  h.eachPort fun h => .ite h.disablePort h.enablePort

theorem Canonical.ccFault {n} (h : Canonical s) : Canonical (ccFault s n) :=
  .recomputeShares <| .powerNotice <| .via (fun h => .ite h.busGone h) <|
    (Canonical.ite h.gateOff h).vconnOff.pdState.endContract.presentRp.rcCount.recordRes.setPd.dropRole

theorem Canonical.detachPower {n} (h : Canonical s) : Canonical (detachPower s n) := h.setPower

/-! ### Operations and commands of Machine/Board.lean -/

theorem Canonical.enterMode {m} (h : Canonical s) : Canonical (enterMode s m) := .ite h (.ite h.same.record.notice h.same.record.notice.viewLocalPower)
theorem Canonical.followInput (h : Canonical s) : Canonical (followInput s) := .ite h (.ite h h.same)
theorem Canonical.refuseMode {code} (h : Canonical s) : Canonical (refuseMode s code) := .ite h.same.rcCount h.same
theorem Canonical.treeSuspend {n} (h : Canonical s) : Canonical (treeSuspend s n) :=
  .refreshAges (.ite (.emit (.ite h.setNib.emit h.setNib)) (.ite h.setNib.emit h.setNib))

theorem Canonical.treeResume {n} (h : Canonical s) : Canonical (treeResume s n) := .ite (.emit (.ite h.setNib.emit h.setNib)) (.ite h.setNib.emit h.setNib)
theorem Canonical.resumeOwn (h : Canonical s) : Canonical (resumeOwn s) := .same (h.eachPort fun h => .ite h.treeResume h)
theorem Canonical.wakeSource (h : Canonical s) : Canonical (wakeSource s) := .ite h.same.same.resumeOwn (.ite h.same.enterMode.resumeOwn h.same)
theorem Canonical.faultReport {place cls sv n} (h : Canonical s) : Canonical (faultReport s place cls sv n) := .ite h h.recordAt.notice.same
theorem Canonical.quarantineOff {n} (h : Canonical s) : Canonical (quarantineOff s n) := .ite h (.powerNotice (.ite h.gateOff h.gateOff.powerOffPort))
theorem Canonical.quarantinePorts {old defer} (h : Canonical s) : Canonical (quarantinePorts s old defer) :=
  .recomputeShares (h.eachPort fun h => .ite (.ite h.setPower.quarantineOff (.ite h.setPower.setPower h.setPower)) h)

theorem Canonical.enterQuarantine {mask defer} (h : Canonical s) : Canonical (enterQuarantine s mask defer) :=
  .quarantinePorts (.ite h.same.same.enterMode h.same)

theorem Canonical.forfeitRings (h : Canonical s) : Canonical (forfeitRings s) := h.eachRing .forfeit
theorem Canonical.ceaseAll (h : Canonical s) : Canonical (ceaseAll s) := h.eachClassic .ceaseClassic
theorem Canonical.clusterFail {c cls place} (h : Canonical s) : Canonical (clusterFail s c cls place) :=
  .ite h <| .via (fun h => .ite h.enterQuarantine (.ite h.same.enterQuarantine.forfeitRings
    (.ite h.same.enterQuarantine.ceaseAll h.enterQuarantine))) h.same.faultReport

theorem Canonical.passCause (h : Canonical s) : Canonical (passCause s) := h.same
theorem Canonical.shedPort {n} (h : Canonical s) : Canonical (shedPort s n) := .ite h.shedOff h.noteShed.markShare
theorem Canonical.brownoutSheds (h : Canonical s) : Canonical (brownoutSheds s) :=
  .eachPort (.recomputeShares (h.eachPort fun h => .ite h.setPd.kickOwn h)) fun h => .ite (.ite h (.ite h h.shedPort)) (.ite h.setPd h)

theorem Canonical.enterBrownout (h : Canonical s) : Canonical (enterBrownout s) := h.same.rcCount.enterMode
theorem Canonical.leaveBrownout (h : Canonical s) : Canonical (leaveBrownout s) := h.enterMode.resumeOwn
theorem Canonical.abandonImage (h : Canonical s) : Canonical (abandonImage s) := .ite h.same h
theorem Canonical.startFlush (h : Canonical s) : Canonical (startFlush s) := .ite h.preFlush h
theorem Canonical.enterHoldup (h : Canonical s) : Canonical (enterHoldup s) :=
  .ite h (.ite h h.same.abandonImage.rcCount.enterMode.applyPortModes.startFlush)

/-! ### Operations and commands of Machine/InputCmds.lean -/

theorem Canonical.setInput {f} (h : Canonical s) : Canonical (setInput s f) := h.same
theorem Canonical.powerEvent {lo} (h : Canonical s) : Canonical (powerEvent s lo) := .ite h h.rcCount
theorem Canonical.startInrush {vin} (h : Canonical s) : Canonical (startInrush s vin) := h.setInput.followInput
theorem Canonical.reseat (h : Canonical s) : Canonical (reseat s) := h.setInput.followInput
theorem Canonical.loseInput {cause} (h : Canonical s) : Canonical (loseInput s cause) := h.setInput.powerEvent.recordRes.followInput.enterHoldup
theorem Canonical.tripInput {cause} (h : Canonical s) : Canonical (tripInput s cause) := h.setInput.powerEvent.recordRes.followInput.enterHoldup
theorem Canonical.execVinPreRise {t vin} (h : Canonical s) : CanonicalNext (execVinPreRise t vin s) :=
  h.act fun h => h.when fun h => h.setInput.followInput

theorem Canonical.heatCause (h : Canonical s) : Canonical (heatCause s) := h.same
theorem Canonical.collapseReservoir (h : Canonical s) : Canonical (collapseReservoir s) := h.regsFilter.same.passCause.heatCause.followInput
theorem Canonical.execVinPreCollapse {t} (h : Canonical s) : CanonicalNext (execVinPreCollapse t s) := h.act fun h => h.when .collapseReservoir
theorem Canonical.execSeatStable {t vin} (h : Canonical s) : CanonicalNext (execSeatStable t vin s) :=
  h.act fun h => h.when fun h => h.setInput.when .startInrush

theorem Canonical.execSeatRelease {t pinB} (h : Canonical s) : CanonicalNext (execSeatRelease t pinB s) := h.act fun h => h.when fun h => by
  dsimp only
  split
  · exact h.setInput
  · exact h.setInput.setInput
  · exact h.setInput.loseInput
  · exact h.setInput.loseInput
  · exact h.setInput.reseat
  · exact h.setInput.reseat
  · exact h.setInput.reseat

theorem Canonical.execInrushDone {t vin vout} (h : Canonical s) : CanonicalNext (execInrushDone t vin vout s) :=
  h.act fun h => h.when fun h => h.setInput.followInput

theorem Canonical.execInrushTimerExpiry {t} (h : Canonical s) : CanonicalNext (execInrushTimerExpiry t s) := h.act fun h => h.when .tripInput
theorem Canonical.execInputLoss {t cause vin amps} (h : Canonical s) : CanonicalNext (execInputLoss t cause vin amps s) :=
  h.act fun h => h.when fun h => h.setInput.loseInput

theorem Canonical.execInputReturn {t vin} (h : Canonical s) : CanonicalNext (execInputReturn t vin s) := h.act fun h => h.when .startInrush
theorem Canonical.execInputRetryWaitExpiry {t vin} (h : Canonical s) : CanonicalNext (execInputRetryWaitExpiry t vin s) :=
  h.act fun h => h.when fun h => .ite (h.when fun h => h.setInput.startInrush) h.setInput.recordRes

theorem Canonical.execInputRetryClear {t} (h : Canonical s) : CanonicalNext (execInputRetryClear t s) := h.act fun h => h.when .setInput
theorem Canonical.inputClear (h : Canonical s) : Canonical (inputClear s) := .ite h.reseat h
theorem Canonical.execInClear {t path} (h : Canonical s) : CanonicalNext (execInClear t path s) := h.privCmd .inputClear
theorem Canonical.inputFetClear (h : Canonical s) : Canonical (inputFetClear s) := .ite h.setInput h
theorem Canonical.execInClearFetFail {t path} (h : Canonical s) : CanonicalNext (execInClearFetFail t path s) := h.privCmd .inputFetClear
theorem Canonical.execPgRelease {t vout} (h : Canonical s) : CanonicalNext (execPgRelease t vout s) := h.act fun h => h.when .setInput
theorem Canonical.execPgFall {t vout} (h : Canonical s) : CanonicalNext (execPgFall t vout s) := h.act fun h => h.when .setInput
theorem Canonical.flushAfterSheds (h : Canonical s) : Canonical (flushAfterSheds s) := .ite h.startFlush h
theorem Canonical.execEarlyWarning {t vin} (h : Canonical s) : CanonicalNext (execEarlyWarning t vin s) := h.act fun h => h.when fun h => by
  dsimp only
  split
  · exact h.setInput.powerEvent.recordRes.wakeSource.enterBrownout.brownoutSheds.flushAfterSheds
  · exact h.setInput.powerEvent.recordRes.wakeSource.enterBrownout.brownoutSheds.flushAfterSheds
  · exact h.setInput.powerEvent.recordRes.enterBrownout.brownoutSheds.flushAfterSheds
  · exact h.setInput.powerEvent.recordRes.brownoutSheds.flushAfterSheds
  · exact h.setInput.powerEvent.recordRes

theorem Canonical.execEarlyWarningClear {t vin} (h : Canonical s) : CanonicalNext (execEarlyWarningClear t vin s) := h.act fun h => h.when fun h => by
  dsimp only
  split
  · exact .recomputeShares (h.setInput.same.leaveBrownout.eachPort fun h => .ite h.setPd.kickOwn h)
  · exact h.setInput.same.recomputeShares
  · exact h.setInput.same

theorem Canonical.execShedWaitExpiry {t port} (h : Canonical s) : CanonicalNext (execShedWaitExpiry t port s) :=
  h.act fun h => h.when fun h => .flushAfterSheds (.ite h.setPd.shedOff (.ite h.setPd.shedPort h.setPd))

theorem Canonical.execVauxFall {t} (h : Canonical s) : CanonicalNext (execVauxFall t s) :=
  h.act fun h => h.when fun h => h.same.recordRes.eachPort fun h => .ite (.ite h.gateOff (.ite h.gateOff.setPower h.shedOff)) h

theorem Canonical.execVauxRecover {t} (h : Canonical s) : CanonicalNext (execVauxRecover t s) := h.act fun h => h.when .same

/-! ### Operations and commands of Machine/PathCmds.lean -/

theorem Canonical.vconnWith {n} (h : Canonical s) : Canonical (vconnWith s n) := .ite h.setPd h
theorem Canonical.gateDrive {n} (h : Canonical s) : Canonical (gateDrive s n) := h.setPower.vconnWith
theorem Canonical.execConverterReady {t port isp} (h : Canonical s) : CanonicalNext (execConverterReady t port isp s) := h.act fun h => h.when fun h => by
  dsimp only
  split
  · exact h.setPower.setPower
  · exact h.setPower.when .setPower

theorem Canonical.execPreswitchCheckDone {t port isp mid} (h : Canonical s) : CanonicalNext (execPreswitchCheckDone t port isp mid s) :=
  h.act fun h => h.when fun h => h.setPower.gateDrive

theorem Canonical.execVbusSwitchOn {t port isp} (h : Canonical s) : CanonicalNext (execVbusSwitchOn t port isp s) :=
  h.act fun h => h.when fun h => h.setPower.gateDrive

theorem Canonical.execVsetTrim {t port isp} (h : Canonical s) : CanonicalNext (execVsetTrim t port isp s) := h.act fun h => h.when .setPower
theorem Canonical.summed {ch q x} (h : Canonical s) : Canonical (summed s ch q x) := .ite h.sample h
theorem Canonical.samplePort {n i vbus isp mid} (h : Canonical s) : Canonical (samplePort s n i vbus isp mid) := h.setPower.setPd.summed.summed
theorem Canonical.tripPath {n cause place} (h : Canonical s) : Canonical (tripPath s n cause place) := .ite h.tripPort h.gateOff.recordRes.setPower
theorem Canonical.execBreakerEval {t path sample v1 v2 v3} (h : Canonical s) :
    CanonicalNext (execBreakerEval t path sample v1 v2 v3 s) := h.act fun h => h.when fun h => by
  split
  · exact .ite h.samplePort.tripPath h.samplePort
  · exact .ite h.setInput.summed.summed.summed.tripInput h.setInput.summed.summed.summed

theorem Canonical.execFastTrip {t path} (h : Canonical s) : CanonicalNext (execFastTrip t path s) := h.act fun h => by
  split
  · exact h.when .tripPath
  · exact h.when .tripInput

theorem Canonical.execPpsCurrentLimitStep {t port amps} (h : Canonical s) : CanonicalNext (execPpsCurrentLimitStep t port amps s) :=
  h.act fun h => h.when .setPower

theorem Canonical.takeTemp {n temp direct} (h : Canonical s) : Canonical (takeTemp s n temp direct) := .ite h.setPower.summed.tripPath h.setPower.summed
theorem Canonical.execThermalUpdate {t port reading meanSquare dieTemp} (h : Canonical s) :
    CanonicalNext (execThermalUpdate t port reading meanSquare dieTemp s) :=
  h.act fun h => h.when fun h => .ite h.takeTemp (.when (.ite h.setPower.recordRes h) fun h => h.setPower.takeTemp)

theorem Canonical.holdFault {f} (h : Canonical s) : Canonical (holdFault s f) := h.same
theorem Canonical.reportPortFet {n} (h : Canonical s) : Canonical (reportPortFet s n) := h.powerNotice.faultReport.enterQuarantine
theorem Canonical.reportInputFet (h : Canonical s) : Canonical (reportInputFet s) := h.same.faultReport.enterQuarantine
theorem Canonical.portFetFault {n} (h : Canonical s) : Canonical (portFetFault s n) :=
  .ite h.setPower.passCause.holdFault <|
    .via (fun h => .ite h (.reportPortFet (.ite h.powerOffPort h))) h.recordRes.setPower.passCause

theorem Canonical.inputFetFault (h : Canonical s) : Canonical (inputFetFault s) :=
  .via (fun h => .ite h.holdFault (.ite h.recordRes h.recordRes.reportInputFet)) h.draw.setInput.passCause

theorem Canonical.execPassDeviceFault {t path check} (h : Canonical s) :
    CanonicalNext (execPassDeviceFault t path check s) := h.act fun h => h.when fun h => by
  split
  · exact h.when .portFetFault
  · exact h.when .inputFetFault

theorem Canonical.portFetClear {n} (h : Canonical s) : Canonical (portFetClear s n) := .ite h.setPower h
theorem Canonical.execClearFetFail {t path port} (h : Canonical s) : CanonicalNext (execClearFetFail t path port s) := h.privCmd .portFetClear
theorem Canonical.fetClearFails {n} (h : Canonical s) : Canonical (fetClearFails s n) := h.setPower
theorem Canonical.execFetClearCheckEnd {t path failed} (h : Canonical s) : CanonicalNext (execFetClearCheckEnd t path failed s) := h.act fun h => by
  split
  · split
    · exact h.when fun h => .ite h.fetClearFails (.recomputeShares (.ite h.setPower.passCause.converterOff h.setPower.passCause))
    · exact h
  · split
    · exact h.when fun h => .ite h.setInput h.setInput.passCause
    · exact h

theorem Canonical.execFetClearWindowTimeout {t port} (h : Canonical s) : CanonicalNext (execFetClearWindowTimeout t port s) := h.act fun h => by
  split
  · exact h.when .fetClearFails
  · exact h

theorem Canonical.restorePath {n} (h : Canonical s) : Canonical (restorePath s n) := .switchOn (.ite h.setPd.setPower h.setPd.setPower.pdState.presentRp)
theorem Canonical.portClearLatch {n} (h : Canonical s) : Canonical (portClearLatch s n) :=
  .ite (.restorePath (.ite h.setPower.recomputeShares.viewOverCurrent h.setPower)) <|
    .ite h.setPower.recomputeShares.viewOverCurrent h.setPower

theorem Canonical.execClearLatch {t path port} (h : Canonical s) : CanonicalNext (execClearLatch t path port s) := h.privCmd .portClearLatch
theorem Canonical.execPortRetry {t port} (h : Canonical s) : CanonicalNext (execPortRetry t port s) := h.act fun h => by
  split
  · exact h
  · exact h.when fun h => .restorePath (.powerNotice (.ite h.rcCount h.rcCount.setPower))

theorem Canonical.execPortRetryClear {t port} (h : Canonical s) : CanonicalNext (execPortRetryClear t port s) := h.act fun h => h.when .setPower
theorem Canonical.execShareIncreaseApply {t port} (h : Canonical s) : CanonicalNext (execShareIncreaseApply t port s) :=
  h.act fun h => h.when .applyIncrease

theorem Canonical.execShedRestore {t port} (h : Canonical s) : CanonicalNext (execShedRestore t port s) :=
  h.act fun h => h.when fun h => h.restorePath.clearShed

/-! ### Operations and commands of Machine/Nibs.lean -/

theorem Canonical.viewConnect {n ss} (h : Canonical s) : Canonical (viewConnect s n ss) := by
  unfold Machine.viewConnect
  split
  · exact h
  · exact .ite h (.ite h.setView h.setView)

theorem Canonical.attachFunc {n} (h : Canonical s) : Canonical (attachFunc s n) := by
  unfold Machine.attachFunc
  split
  · exact .ite h.same h
  · exact h

theorem Canonical.viewConnectBoth {n} (h : Canonical s) : Canonical (viewConnectBoth s n) := h.attachFunc.viewConnect.viewConnect
theorem Canonical.reset2 {n} (h : Canonical s) : Canonical (reset2 s n) := h.setNib.emit
theorem Canonical.resetS {n warm} (h : Canonical s) : Canonical (resetS s n warm) := .ite h.setNib.emit (.ite h.setNib.emit h)
theorem Canonical.resetBoth {n warm} (h : Canonical s) : Canonical (resetBoth s n warm) := h.setNib.reset2.resetS.setNib
theorem Canonical.finishReset {n force} (h : Canonical s) : Canonical (finishReset s n force) := by
  unfold Machine.finishReset
  dsimp only
  split
  · exact h
  · exact .ite h.setNib.finishCmd.portStateNotice h

theorem Canonical.previewSend {n} (h : Canonical s) : Canonical (previewSend s n) := by
  unfold Machine.previewSend
  split
  · exact h.emit
  · exact h

theorem Canonical.startPreview {n ss} (h : Canonical s) : Canonical (startPreview s n ss) := .ite h.setNib.previewSend h.setNib
theorem Canonical.endPreview {n result} (h : Canonical s) : Canonical (endPreview s n result) := by
  unfold Machine.endPreview
  dsimp only
  split
  · exact h
  · split
    · exact .ite h.setNib.hostWrite.attachNotice h.setNib.attachNotice
    · exact h.setNib

theorem Canonical.attachRoot {n ss} (h : Canonical s) : Canonical (attachRoot s n ss) := by
  unfold Machine.attachRoot
  split
  · exact h
  · exact .ite h.startPreview h.attachNotice

theorem Canonical.foundAttached {n} (h : Canonical s) : Canonical (foundAttached s n) := .ite (.resetS (.ite h.reset2 h)) (.ite h.reset2 h)
theorem Canonical.takeover {n v treeReset} (h : Canonical s) : Canonical (takeover s n v treeReset) := .notice (.ite h.hostWrite h)

/-! ### Operations and commands of Machine/OwnershipCmds.lean -/

theorem Canonical.ownAssign {p n value} (h : Canonical s) : Canonical (ownAssign s p n value) := by
  refine .ite h ?_
  split
  · exact h.stampP4
  · exact h.writeIgnored

theorem Canonical.execOwnAssign {t path port value} (h : Canonical s) : CanonicalNext (execOwnAssign t path port value s) := h.privCmd .ownAssign
theorem Canonical.execLeaseExpiry {t port} (h : Canonical s) : CanonicalNext (execLeaseExpiry t port s) := h.act fun h => by
  dsimp only
  split
  · exact h.when .stampP4
  · exact h

theorem Canonical.refuseClaim {n who reason} (h : Canonical s) : Canonical (refuseClaim s n who reason) := h.rcAdd
theorem Canonical.startLease {n} (h : Canonical s) : Canonical (startLease s n) := by
  unfold Machine.startLease
  split
  · exact h.setOwn
  · exact h

theorem Canonical.viewLost {n} (h : Canonical s) : Canonical (viewLost s n) := by
  unfold Machine.viewLost
  split
  · exact h
  · exact h.setView.setCPort

theorem Canonical.settleOld {n} (h : Canonical s) : Canonical (settleOld s n) := .ite h (.ite h.endOldWork.setOwn h.endOldWork.setOwn.ownerLostNotice)
theorem Canonical.beginResetting {n} (h : Canonical s) : Canonical (beginResetting s n) :=
  (Canonical.ite h.settleOld.releaseTree.same h.settleOld.releaseTree).setNib.abortCmds.resetBoth.emptyLig

theorem Canonical.transition {n v} (h : Canonical s) : Canonical (transition s n v) :=
  .via (fun h => .ite h.beginResetting h) <| .via (fun h => .ite h.enablePort.recomputeShares h) <|
    .dropOwnerCmds <| .ite h.viewLost.changeOwner.setApplied h.viewLost.changeOwner

theorem Canonical.answerClaims {n holder refused} (h : Canonical s) : Canonical (answerClaims s n holder refused) :=
  h.eachRing fun h => h.foldl fun h => .ite h.completeCmd h.completeCmd

theorem Canonical.decidePort {n} (h : Canonical s) : Canonical (decidePort s n) :=
  .ite (.answerClaims (h.setOwn.foldl .refuseClaim)) <|
    .via (fun h => .answerClaims (.ite h.transition (.ite h.startLease h))) (h.setOwn.foldl .refuseClaim)

theorem Canonical.decideNow (h : Canonical s) : Canonical (decideNow s) := .ite (h.eachPort fun h => .ite h h.decidePort) h
theorem Canonical.execPortDecision {t port} (h : Canonical s) : CanonicalNext (execPortDecision t port s) := h.act fun h => h.when .decidePort
theorem Canonical.followTimeline {n} (h : Canonical s) : Canonical (followTimeline s n) := by
  unfold Machine.followTimeline
  split <;> exact h.setNib

theorem Canonical.clearDiscards {n} (h : Canonical s) : Canonical (clearDiscards s n) := h.setOwn.same
theorem Canonical.becomeOwned {n} (h : Canonical s) : Canonical (becomeOwned s n) := h.setOwn
theorem Canonical.completeHandover {n} (h : Canonical s) : Canonical (completeHandover s n) := by
  unfold Machine.completeHandover
  split
  · exact h.settleOld.becomeOwned.followTimeline.takeover.clearDiscards.foundAttached
  · exact h

theorem Canonical.execHandoverComplete {t port} (h : Canonical s) : CanonicalNext (execHandoverComplete t port s) :=
  h.act fun h => h.when .completeHandover

theorem Canonical.keepOrphan {n} (h : Canonical s) : Canonical (keepOrphan s n) :=
  .ite (.treeSuspend (.followTimeline (.same (h.foldl .dropStash)))) (.followTimeline (.same (h.foldl .dropStash)))

theorem Canonical.dropOrphan {n} (h : Canonical s) : Canonical (dropOrphan s n) := h.releaseTree.setNib.followTimeline.disablePort.recomputeShares
theorem Canonical.execOrphanKeptEntry {t port} (h : Canonical s) : CanonicalNext (execOrphanKeptEntry t port s) :=
  h.act fun h => h.when fun h => h.settleOld.keepOrphan

theorem Canonical.execOrphanOffEntry {t port} (h : Canonical s) : CanonicalNext (execOrphanOffEntry t port s) :=
  h.act fun h => h.when fun h => h.settleOld.dropOrphan

theorem Canonical.reportAttached {n v ssFirst} (h : Canonical s) : Canonical (reportAttached s n v ssFirst) :=
  .via (fun h => .ite h (.ite h.startPreview h.attachNotice)) <|
    .ite h (.ite h.startPreview h.attachNotice)

theorem Canonical.completeResetting {n ssFirst} (h : Canonical s) : Canonical (completeResetting s n ssFirst) := by
  unfold Machine.completeResetting
  dsimp only
  split
  · exact h.settleOld.setNib.becomeOwned.followTimeline.takeover.clearDiscards.reportAttached
  · exact h.settleOld.setNib.becomeOwned.followTimeline.clearDiscards.viewConnectBoth
  · exact .ite h.settleOld.setNib.setOwn.dropOrphan h.settleOld.setNib.setOwn.keepOrphan

theorem Canonical.execResettingComplete {t port ssFirst} (h : Canonical s) : CanonicalNext (execResettingComplete t port ssFirst s) :=
  h.act fun h => h.when .completeResetting

/-! ### Operations and commands of Machine/Timelines.lean -/

theorem Canonical.setTl {v f} (h : Canonical s) : Canonical (setTl s v f) := h.same
theorem Canonical.tlNotice {v reanchor oldFn} (h : Canonical s) : Canonical (tlNotice s v reanchor oldFn) := h.notice
theorem Canonical.tlMove {v st} (h : Canonical s) : Canonical (tlMove s v st) := h.setTl.tlNotice
theorem Canonical.tlFreeRun {v} (h : Canonical s) : Canonical (tlFreeRun s v) := .ite h h.setTl.tlMove
theorem Canonical.tlReference {v ownerNs e} (h : Canonical s) : Canonical (tlReference s v ownerNs e) := by
  unfold Machine.tlReference
  dsimp only
  split
  · exact .ite h.setTl h.setTl.setTl.tlMove
  · exact .ite h.setTl.tlMove h.setTl.setTl.tlNotice
  · exact h.setTl

theorem Canonical.tlLost {v} (h : Canonical s) : Canonical (tlLost s v) := by
  unfold Machine.tlLost
  dsimp only
  split
  · exact h.setTl.setTl.tlMove
  · exact h.setTl.setTl.tlMove
  · exact h.setTl

theorem Canonical.tlUpdate {v ownerNs m e} (h : Canonical s) : Canonical (tlUpdate s v ownerNs m e) :=
  .ite h <|
    .ite h.setTl.setTl <|
    .ite h.setTl.tlReference <|
    .ite h.setTl.tlReference.setTl.tlMove (.ite h.setTl.tlReference.setTl.tlMove h.setTl.tlReference.setTl)

theorem Canonical.execFreeRunSet {t v} (h : Canonical s) : CanonicalNext (execFreeRunSet t v s) := h.act fun h => h.when fun h => h.setReg.tlFreeRun

/-! ### Operations and commands of Machine/Transfers.lean -/

theorem Canonical.setBusy {v ring b} (h : Canonical s) : Canonical (setBusy s v ring b) := by
  unfold Machine.setBusy
  split
  · exact h.setVi
  · exact h.setEp

theorem Canonical.stopFetch {v ring} (h : Canonical s) : Canonical (stopFetch s v ring) := by
  unfold Machine.stopFetch
  split
  · exact h.setVi
  · exact h.setEp

theorem Canonical.fetchFailed {v ring} (h : Canonical s) : Canonical (fetchFailed s v ring) := by
  unfold Machine.fetchFailed
  dsimp only
  split
  · exact h.stopFetch.draw.complete
  · split
    · exact h.stopFetch.complete
    · exact h.stopFetch

theorem Canonical.startFetch {v ring} (h : Canonical s) : Canonical (startFetch s v ring) :=
  .ite h (.ite (.ite h.setBusy.emit.noteSent h.setBusy.emit) h.fetchFailed)

theorem Canonical.kickFetch {v} (h : Canonical s) : Canonical (kickFetch s v) := h.startFetch.foldl .startFetch
theorem Canonical.stopEp {ctx} (h : Canonical s) : Canonical (stopEp s ctx) := h.setEp
theorem Canonical.haltEp {ctx} (h : Canonical s) : Canonical (haltEp s ctx) := h.setEp
theorem Canonical.setXfer {ctx x y} (h : Canonical s) : Canonical (setXfer s ctx x y) := h.setEp
theorem Canonical.writeIn {x bs} (h : Canonical s) : Canonical (writeIn s x bs).1 := by
  unfold Machine.writeIn
  exact h.foldlFst fun h => .ite h h.hostWrite

theorem Canonical.askOut {ctx x} (h : Canonical s) : Canonical (askOut s ctx x) := by
  unfold Machine.askOut
  split
  · exact h
  · exact .ite h (.ite (.noteSent (h.setXfer.foldl .emit)) (h.setXfer.foldl .emit))

theorem Canonical.concludeXfer {ctx x code} (h : Canonical s) : Canonical (concludeXfer s ctx x code) := by
  unfold Machine.concludeXfer
  split
  · exact h
  · exact .via (fun h => .ite h.endAndSettle.haltEp (.ite h.endAndSettle.stopEp.setEp (.ite h.endAndSettle.stopEp h.endAndSettle))) <|
      .ite h.abandonSplit h.setEp

theorem Canonical.takeStash {ctx x} (h : Canonical s) : Canonical (takeStash s ctx x).1 := by
  unfold Machine.takeStash
  split
  · exact h
  · split
    · exact h
    · exact h.setXfer.setEp.concludeXfer.haltEp
    · extract_lets room before s1 w src y s2
      have hw : Canonical w.1 := h.setEp.writeIn
      have h2 : Canonical s2 := hw.setXfer.settleCtx
      clear_value y s2
      refine .iteFst ?_ (.iteFst h2.concludeXfer (.iteFst h2.concludeXfer h2))
      dsimp only
      split
      · exact h2.endAndSettle.noteDiscard
      · exact h2.endAndSettle

theorem Canonical.runHead {ctx} : ∀ {k s}, Canonical s → Canonical (runHead k s ctx)
  | 0, _, h => h
  | _ + 1, _, h => by
    unfold Machine.runHead
    split
    · exact h
    · split
      · exact h
      · refine .ite h ?_
        split
        · exact h.concludeXfer.runHead
        · exact .ite h.concludeXfer.runHead (.ite (.ite h.takeStash.runHead h) (.ite h.concludeXfer.runHead (.ite h h.askOut)))

theorem Canonical.claimRoom {ctx} (h : Canonical s) : Canonical (claimRoom s ctx) := by
  unfold Machine.claimRoom
  split
  · exact h
  · exact .ite h h.requestBlocks

theorem Canonical.advance {ctx} (h : Canonical s) : Canonical (advance s ctx) := by
  unfold Machine.advance
  split
  · exact h
  · refine .refreshAges ?_
    split
    · exact .kickFetch (.ite h.runHead.settleCtx h.runHead.claimRoom.runHead)
    · exact .ite h.runHead.settleCtx h.runHead.claimRoom.runHead

theorem Canonical.finishXfer {ctx x code} (h : Canonical s) : Canonical (finishXfer s ctx x code) := h.concludeXfer.advance
theorem Canonical.placeIsoch {ctx x} (h : Canonical s) : Canonical (placeIsoch s ctx x) := by
  unfold Machine.placeIsoch
  split
  · dsimp only
    split
    · exact h.setEp.setXfer
    · exact h.setEp.endAndSettle
  · exact h

theorem Canonical.pathDrained {owner} (h : Canonical s) : Canonical (pathDrained s owner) := h.freeBlocks
theorem Canonical.execBlockGrant {t owner ctx need} (h : Canonical s) :
    CanonicalNext (execBlockGrant t owner ctx need s) := h.act fun h => h.when fun h => by
  split
  · exact h.when fun h => h.requestBlocks.advance
  · exact h.pathDrained.requestBlocks

/-! ### Operations and commands of Machine/Vis.lean -/

theorem Canonical.setPage {v off w} (h : Canonical s) : Canonical (setPage s v off w) := h.setReg
theorem Canonical.resetPage {v} (h : Canonical s) : Canonical (resetPage s v) := h.regsFilter
theorem Canonical.clearWindow {v} (h : Canonical s) : Canonical (clearWindow s v) := h.setVi.foldl fun h => .ite h h.setVi.settleCtx
theorem Canonical.enableVi {v} (h : Canonical s) : Canonical (enableVi s v) := h.clearWindow.setVi.setQueue.setTl.homeStamp
theorem Canonical.dropNibCmds {v} (h : Canonical s) : Canonical (dropNibCmds s v) := h.eachPort .setNib
theorem Canonical.disableVi {v} (h : Canonical s) : Canonical (disableVi s v) :=
  .refreshAges (.setVi (.eachPort (.foldl (h.dropNibCmds.foldl fun h => h.abandonSplit.endQueue.stopEp) .completeCmd) fun h => .ite h.stampP4 h))

theorem Canonical.writeViCtrl {p v value} (h : Canonical s) : Canonical (writeViCtrl s p v value) :=
  .ite (.ite (.setPage (.ite h h.writeIgnored)) (.disableVi (.setPage (.ite h h.writeIgnored)))) <|
    .ite h.setPage (.ite h.setPage.enableVi h.setPage.setPage.setVi)

theorem Canonical.writePage {p v off value} (h : Canonical s) : Canonical (writePage s p v off value) := by
  unfold Machine.writePage
  split
  · exact h
  · exact .ite h (.ite h.writeViCtrl (.ite h.writeIgnored (.ite (.ite h.setPage.tlFreeRun h.setPage) h.setPage)))

theorem Canonical.ignoreDb {v} (h : Canonical s) : Canonical (ignoreDb s v) := h.setVi
theorem Canonical.cmdDb {v value} (h : Canonical s) : Canonical (cmdDb s v value) := h.setVi.startFetch
theorem Canonical.releasePassed {v} (h : Canonical s) : Canonical (releasePassed s v) := h.foldl fun h => h.setVi.settleCtx
theorem Canonical.evtDb {v value} (h : Canonical s) : Canonical (evtDb s v value) :=
  .ite h.ignoreDb (.kickFetch (.flushEvents (.ite h.setVi.releasePassed.setVi h.setVi.releasePassed)))

theorem Canonical.renewLeases {v mask} (h : Canonical s) : Canonical (renewLeases s v mask).1 := h.foldl .startLease
theorem Canonical.transferDb {v value} (h : Canonical s) : Canonical (transferDb s v value) := by
  unfold Machine.transferDb
  dsimp only
  split
  · exact h.ignoreDb
  · split
    · exact h.ignoreDb
    · exact .ite h.ignoreDb h.wakeSource.setEp.startFetch.advance

theorem Canonical.doorbell {v off value} (h : Canonical s) : Canonical (doorbell s v off value) :=
  .ite h.ignoreDb (.ite h.cmdDb (.ite h.evtDb (.ite h.renewLeases (.ite h.transferDb h.ignoreDb))))

theorem Canonical.reachNotice {v entered cause} (h : Canonical s) : Canonical (reachNotice s v entered cause) := h.notice
theorem Canonical.enterUnreachable {v cause} (h : Canonical s) : Canonical (enterUnreachable s v cause) :=
  .ite h (.refreshAges (h.setVi.same.record.reachNotice.foldl .runHead))

theorem Canonical.leaveUnreachable {v cause} (h : Canonical s) : Canonical (leaveUnreachable s v cause) := .ite h h.setVi.reachNotice.homeStamp.refreshAges
theorem Canonical.transportLost {v} (h : Canonical s) : Canonical (transportLost s v) := h.forfeit.dropNibCmds.ringsGone.resetPage.setVi
theorem Canonical.freeSlot {q cause} (h : Canonical s) : Canonical (freeSlot s q cause) := h.setQp
theorem Canonical.slotError {q cause} (h : Canonical s) : Canonical (slotError s q cause) := .ite h.setQp.transportLost h.setQp
theorem Canonical.disconnectSlot {q cause} (h : Canonical s) : Canonical (disconnectSlot s q cause) := .ite h.transportLost.setVi.freeSlot h.freeSlot
theorem Canonical.unbindVi {v} (h : Canonical s) : Canonical (unbindVi s v) := by
  unfold Machine.unbindVi
  dsimp only
  split
  · exact h.transportLost.tlFreeRun.emit.setVi.freeSlot
  · exact h.transportLost.tlFreeRun

/-! ### Operations and commands of Machine/RingCmds.lean -/

theorem Canonical.execViEnable {t v value} (h : Canonical s) : CanonicalNext (execViEnable t v value s) := h.act fun h => h.when .writeViCtrl
theorem Canonical.execViDisable {t v value} (h : Canonical s) : CanonicalNext (execViDisable t v value s) := h.act fun h => h.when .writeViCtrl
theorem Canonical.applyBlockWord {v bytes off} (h : Canonical s) : Canonical (applyBlockWord s v bytes off) := .ite h h.writePage
theorem Canonical.applyBlock {v bytes} (h : Canonical s) : Canonical (applyBlock s v bytes) := .writePage (h.foldl .applyBlockWord)
theorem Canonical.refuseRequest {q nak cause} (h : Canonical s) : Canonical (refuseRequest s q nak cause) := h.emit.slotError
theorem Canonical.execViConfigSend {t q bytes} (h : Canonical s) : CanonicalNext (execViConfigSend t q bytes s) :=
  h.act fun h => h.when fun h => .ite h.applyBlock.emit h.refuseRequest

theorem Canonical.execCmdDb {t v value} (h : Canonical s) : CanonicalNext (execCmdDb t v value s) := h.act fun h => h.when .doorbell
theorem Canonical.execEvtDb {t v value} (h : Canonical s) : CanonicalNext (execEvtDb t v value s) := h.act fun h => h.when .doorbell
theorem Canonical.execLeaseDb {t v value} (h : Canonical s) : CanonicalNext (execLeaseDb t v value s) := h.act fun h => h.when .doorbell
theorem Canonical.execTransferDb {t v slot value} (h : Canonical s) : CanonicalNext (execTransferDb t v slot value s) := h.act fun h => h.when .doorbell
theorem Canonical.execReservedDoorbell {t v offset} (h : Canonical s) : CanonicalNext (execReservedDoorbell t v offset s) :=
  h.act fun h => h.when .doorbell

theorem Canonical.startChain {v ctx tds} (h : Canonical s) : Canonical (startChain s v ctx tds) := by
  unfold Machine.startChain
  split
  · exact h
  · exact .ite (.ite h.setEp.concludeXfer h.setEp) (.ite h.setEp.placeIsoch h.setEp)

theorem Canonical.takeTd {v ctx bs} (h : Canonical s) : Canonical (takeTd s v ctx bs).1 := by
  unfold Machine.takeTd
  split
  · exact h
  · split
    · exact h
    · exact .iteFst h (.iteFst h.setEp (.iteFst h.setEp h.setEp.startChain))

theorem Canonical.takeCmd {v bs} (h : Canonical s) : Canonical (takeCmd s v bs).1 :=
  .iteFst h <|
    .iteFst h.setVi (.iteFst h.setVi.completeCmd (.iteFst h.setVi.completeCmd (.setVi (.ite h.setVi h.setVi.wakeSource))))

theorem Canonical.takeEntries {v ring} : ∀ {bss s}, Canonical s → Canonical (takeEntries s v ring bss)
  | [], _, h => h
  | _ :: _, _, h => by
    cases ring with
    | cmd => exact .ite h.takeCmd.takeEntries h.takeCmd
    | xfer ctx => exact .ite h.takeTd.takeEntries h.takeTd

theorem Canonical.fetchComplete {v ring entries failed} (h : Canonical s) : Canonical (fetchComplete s v ring entries failed) := by
  refine .ite h.fetchFailed ?_
  dsimp only
  split
  · exact h.setBusy.takeEntries.startFetch
  · exact h.setBusy.takeEntries.startFetch.advance

theorem Canonical.execRingFetchComplete {t v ring entries failed} (h : Canonical s) : CanonicalNext (execRingFetchComplete t v ring entries failed s) :=
  h.act fun h => h.when .fetchComplete

/-! ### Operations and commands of Machine/StrokeCmds.lean -/

theorem Canonical.execStrokeResync {t} (h : Canonical s) : CanonicalNext (execStrokeResync t s) := h.act fun h => h.when .same
theorem Canonical.timeSample (h : Canonical s) : Canonical (timeSample s) := h.same
theorem Canonical.execTimeSample {t path} (h : Canonical s) : CanonicalNext (execTimeSample t path s) := h.privCmd .timeSample
theorem Canonical.setCluster {c f} (h : Canonical s) : Canonical (setCluster s c f) := h.same
theorem Canonical.setEngine {e f} (h : Canonical s) : Canonical (setEngine s e f) := h.same
theorem Canonical.loopEngine {c slack k need} (h : Canonical s) : Canonical (loopEngine c slack s k need) := h.setEngine
theorem Canonical.execDvfsUpdate {t cluster need0 need1 need2 need3 slack stretches} (h : Canonical s) :
    CanonicalNext (execDvfsUpdate t cluster need0 need1 need2 need3 slack stretches s) :=
  h.act fun h => h.when fun h => .ite (h.rcAdd.setCluster.foldl .setEngine) <|
    .ite (.setCluster (h.rcAdd.setCluster.foldl .loopEngine)) (h.rcAdd.setCluster.foldl .loopEngine)

theorem Canonical.execDvfsVoltageDown {t cluster slack overV temp} (h : Canonical s) : CanonicalNext (execDvfsVoltageDown t cluster slack overV temp s) :=
  h.act fun h => h.when fun h => .ite (.ite h.setCluster.setCluster.rcCount.recordAt h.setCluster) (.ite h.setCluster.setCluster h.setCluster)

theorem Canonical.setRegionTemp {q temp} (h : Canonical s) : Canonical (setRegionTemp s q temp) := h.same
theorem Canonical.execRegionTempCap {t region temp other} (h : Canonical s) : CanonicalNext (execRegionTempCap t region temp other s) :=
  h.act fun h => h.setRegionTemp.when fun h => h.foldl fun h => .ite (h.setCluster.foldl .setEngine) (.recordAt (h.setCluster.foldl .setEngine))

theorem Canonical.execRegionTempUncap {t region temp} (h : Canonical s) : CanonicalNext (execRegionTempUncap t region temp s) :=
  h.act fun h => h.when fun h => h.setRegionTemp.foldl .setCluster

theorem Canonical.execEqAdaptStep {t lane coef up height width} (h : Canonical s) : CanonicalNext (execEqAdaptStep t lane coef up height width s) :=
  h.act fun h => h.when fun h => .ite h.same (.ite h.same h.same)

/-! ### Operations and commands of Machine/Transport.lean -/

theorem Canonical.viBindWrite {p v value} (h : Canonical s) : Canonical (viBindWrite s p v value) :=
  .ite h.writeIgnored (.ite h.setApplied (.homeStamp (.setApplied (.ite h.tlFreeRun h.unbindVi))))

theorem Canonical.execViBindWrite {t path v value} (h : Canonical s) : CanonicalNext (execViBindWrite t path v value s) := h.privCmd .viBindWrite
theorem Canonical.setPcie {f} (h : Canonical s) : Canonical (setPcie s f) := h.same
theorem Canonical.resetFn {f} (h : Canonical s) : Canonical (resetFn s f) := h.setPcie
theorem Canonical.fnLost {f} (h : Canonical s) : Canonical (fnLost s f) := by
  unfold Machine.fnLost
  split
  · exact h.transportLost
  · exact h

theorem Canonical.vfsLost {k} (h : Canonical s) : Canonical (vfsLost s k) := h.foldl fun h => .ite h.fnLost h
theorem Canonical.trustRestored (h : Canonical s) : Canonical (trustRestored s) := h.same.setApplied
theorem Canonical.execFlr {t fn} (h : Canonical s) : CanonicalNext (execFlr t fn s) :=
  h.act fun h => h.when fun h => .ite h.fnLost.resetFn.setPcie.vfsLost.setPcie.trustRestored h.fnLost.resetFn.setPcie

theorem Canonical.fnHome {f} (h : Canonical s) : Canonical (fnHome s f) := by
  unfold Machine.fnHome
  split
  · exact h.homeStamp
  · exact h

theorem Canonical.execFlrComplete {t fn msixOn} (h : Canonical s) : CanonicalNext (execFlrComplete t fn msixOn s) :=
  h.act fun h => h.when fun h => h.setPcie.fnHome

theorem Canonical.execVfEnableClear {t numVfs} (h : Canonical s) : CanonicalNext (execVfEnableClear t numVfs s) :=
  h.act fun h => h.when fun h => h.vfsLost.setPcie

theorem Canonical.execVfEnableSet {t numVfs} (h : Canonical s) : CanonicalNext (execVfEnableSet t numVfs s) :=
  h.act fun h => h.when fun h => h.setPcie.foldl fun h => .ite h.fnHome h

theorem Canonical.pcieDown (h : Canonical s) : Canonical (pcieDown s) := by
  unfold Machine.pcieDown
  exact .setPcie (h.foldl .fnLost)

theorem Canonical.execPcieLinkDown {t} (h : Canonical s) : CanonicalNext (execPcieLinkDown t s) := h.act fun h => h.when .pcieDown
theorem Canonical.execPcieLinkUp {t speed width bme msixOn ptm} (h : Canonical s) : CanonicalNext (execPcieLinkUp t speed width bme msixOn ptm s) :=
  h.act fun h => h.when fun h => h.setPcie.foldl .fnHome

theorem Canonical.execBmeClear {t fn} (h : Canonical s) : CanonicalNext (execBmeClear t fn s) := h.act fun h => h.when fun h => by
  dsimp only
  split
  · exact h.setPcie.enterUnreachable
  · exact h.setPcie

theorem Canonical.execBmeSet {t fn} (h : Canonical s) : CanonicalNext (execBmeSet t fn s) := h.act fun h => h.when fun h => by
  dsimp only
  split
  · exact h.setPcie.leaveUnreachable
  · exact h.setPcie

theorem Canonical.clockUpdate {kind ownerNs m phase} (h : Canonical s) : Canonical (clockUpdate s kind ownerNs m phase) := h.foldl .tlUpdate
theorem Canonical.clockLost {kind} (h : Canonical s) : Canonical (clockLost s kind) := h.foldl .tlLost
theorem Canonical.execPtmRequest {t ok ownerNs phase} (h : Canonical s) : CanonicalNext (execPtmRequest t ok ownerNs phase s) :=
  h.act fun h => h.when fun h => .via (fun h => .ite h.setPcie.clockUpdate (.ite h.setPcie.setPcie.clockLost h.setPcie)) h.setPcie.emit

theorem Canonical.setEth {b f} (h : Canonical s) : Canonical (setEth s b f) := h.same
theorem Canonical.lanChange {b up} (h : Canonical s) : Canonical (lanChange s b up) := h.setEth.record.notice
theorem Canonical.lanHeard {b} (h : Canonical s) : Canonical (lanHeard s b) := .ite h.setEth h.setEth.lanChange
theorem Canonical.bufferLevel {b prio fill} (h : Canonical s) : Canonical (bufferLevel s b prio fill) := .ite h (.ite h.setEth.emit (.ite h.setEth.emit h))
theorem Canonical.markedCe {q} (h : Canonical s) : Canonical (markedCe s q) := .ite h.setQp.emit h
theorem Canonical.deliverFrame {b f} (h : Canonical s) : Canonical (deliverFrame s b f) := by
  refine .bufferLevel ?_
  refine .emit ?_
  split
  · exact .ite h (.ite h.setQp.markedCe h.setQp)
  · exact h

theorem Canonical.dupEnter {mac seqno} (h : Canonical s) : Canonical (dupEnter s mac seqno) := .ite h.same h.same.rcCount
theorem Canonical.execEthFrameReceived {t portB frame} (h : Canonical s) :
    CanonicalNext (execEthFrameReceived t portB frame s) := h.act fun h => h.when fun h => by
  refine .ite h.setEth.rcCount ?_
  split
  · exact .via (fun h => .ite h.deliverFrame (.ite h.rcCount (.ite h.dupEnter.same h.dupEnter.deliverFrame))) <|
      .ite h.setEth.lanHeard h.setEth
  · exact .ite h.setEth.same h.setEth.deliverFrame

theorem Canonical.execPrpEntryExpiry {t} (h : Canonical s) : CanonicalNext (execPrpEntryExpiry t s) := h.act fun h => h.when .same
theorem Canonical.execPrpSupervisionSend {t} (h : Canonical s) : CanonicalNext (execPrpSupervisionSend t s) :=
  h.act fun h => h.when fun h => h.emit.emit.same

theorem Canonical.execLanDown {t portB lockLost} (h : Canonical s) : CanonicalNext (execLanDown t portB lockLost s) :=
  h.act fun h => h.when fun h => .ite (.lanChange (.ite h.setEth h)) (.ite h.setEth h)

theorem Canonical.execPfcFrameReceived {t portB enable xoff} (h : Canonical s) : CanonicalNext (execPfcFrameReceived t portB enable xoff s) :=
  h.act fun h => h.when .setEth

theorem Canonical.acceptReq {portB r} (h : Canonical s) : Canonical (acceptReq s portB r) := by
  unfold Machine.acceptReq
  dsimp only
  split
  · exact h.drawMany
  · exact h.drawMany.setQp.emit

theorem Canonical.execCmReq {t portB req} (h : Canonical s) : CanonicalNext (execCmReq t portB req s) := h.act fun h => h.when fun h => by
  split
  · exact h.acceptReq
  · exact h.emit
  · exact h.draw.emit

theorem Canonical.execRepRetryTimeout {t q} (h : Canonical s) : CanonicalNext (execRepRetryTimeout t q s) :=
  h.act fun h => h.when fun h => .ite h.setQp.emit h.freeSlot.record

theorem Canonical.bindSlot {q} (h : Canonical s) : Canonical (bindSlot s q) := by
  refine .via (fun h => .ite h.setVi.leaveUnreachable h.setVi.homeStamp) ?_
  refine .ite ?_ h.setQp
  split
  · exact .ite h.setQp h.setQp.freeSlot
  · exact h.setQp

theorem Canonical.execCmRtu {t q hostMac} (h : Canonical s) : CanonicalNext (execCmRtu t q hostMac s) :=
  h.act fun h => h.when fun h => .ite h.bindSlot h.emit.freeSlot.record

theorem Canonical.execCmDreq {t q} (h : Canonical s) : CanonicalNext (execCmDreq t q s) := h.act fun h => h.when fun h => h.emit.disconnectSlot
theorem Canonical.execRoceDoorbellWrite {t q rkey addr bytes} (h : Canonical s) : CanonicalNext (execRoceDoorbellWrite t q rkey addr bytes s) :=
  h.act fun h => h.when fun h => .ite (h.emit.foldl .doorbell) h.refuseRequest

theorem Canonical.execAckTimeout {t q} (h : Canonical s) : CanonicalNext (execAckTimeout t q s) := h.act fun h => by
  dsimp only
  split
  · exact h
  · exact h.when fun h => .ite h.setQp.emit (.ite h.setQp.enterUnreachable h.setQp)

theorem Canonical.execNakReceived {t q} (h : Canonical s) : CanonicalNext (execNakReceived t q s) := h.act fun h => h.when .slotError
theorem Canonical.execPsnSequenceNak {t q} (h : Canonical s) : CanonicalNext (execPsnSequenceNak t q s) := h.act fun h => h.when fun h => h.setQp.emit
theorem Canonical.qpReset {q} (h : Canonical s) : Canonical (qpReset s q) := .ite h h.disconnectSlot
theorem Canonical.execQpReset {t path q} (h : Canonical s) : CanonicalNext (execQpReset t path q s) := h.privCmd .qpReset
theorem Canonical.execUnreachableHoldExpiry {t v} (h : Canonical s) : CanonicalNext (execUnreachableHoldExpiry t v s) :=
  h.act fun h => h.when fun h => .setVi (h.foldl fun h => h.setVi.settleCtx)

theorem Canonical.execCnpReceived {t q} (h : Canonical s) : CanonicalNext (execCnpReceived t q s) := h.act fun h => h.when .setQp
theorem Canonical.execCcRateIncrease {t q} (h : Canonical s) : CanonicalNext (execCcRateIncrease t q s) := h.act fun h => h.when .setQp
theorem Canonical.setDisc {f} (h : Canonical s) : Canonical (setDisc s f) := h.same
theorem Canonical.discMove {st} (h : Canonical s) : Canonical (discMove s st) := h.setDisc.record
theorem Canonical.discAnchor {timeNs} (h : Canonical s) : Canonical (discAnchor s timeNs) := h.setDisc
theorem Canonical.discUpdate {timeNs e i} (h : Canonical s) : Canonical (discUpdate s timeNs e i) :=
  .ite (.ite h.setDisc.discAnchor.record h.setDisc) (.setDisc (.ite h.setDisc.discAnchor.record h.setDisc))

theorem Canonical.discJudge {e} (h : Canonical s) : Canonical (discJudge s e) := .ite h.setDisc.discMove (.ite h.setDisc.discMove h.setDisc)
theorem Canonical.discSync {timeNs i} (h : Canonical s) : Canonical (discSync s timeNs i) :=
  .ite h (.ite (.ite h h.setDisc.discAnchor.discMove) (.ite h.discUpdate (.discJudge (.discUpdate (.ite h.discMove h)))))

theorem Canonical.discLost (h : Canonical s) : Canonical (discLost s) := .ite h (.ite h.setDisc.discMove h)
theorem Canonical.discOff (h : Canonical s) : Canonical (discOff s) := .ite h h.setDisc.discMove
theorem Canonical.execPtpSyncAccepted {t timeNs offset masters phase} (h : Canonical s) :
    CanonicalNext (execPtpSyncAccepted t timeNs offset masters phase s) :=
  h.act fun h => h.when fun h => h.same.clockUpdate.discSync

theorem Canonical.ptpUnlock (h : Canonical s) : Canonical (ptpUnlock s) := h.same.clockLost.discLost
theorem Canonical.execPtpLockTimeout {t} (h : Canonical s) : CanonicalNext (execPtpLockTimeout t s) :=
  h.act fun h => h.when fun h => .ite h.ptpUnlock.same.record h.ptpUnlock

theorem Canonical.execPortSlewComplete {t port} (h : Canonical s) : CanonicalNext (execPortSlewComplete t port s) := h.act fun h => h.when fun h => by
  split <;> exact h.setNib

/-! ### Operations and commands of Machine/FaultCmds.lean -/

theorem Canonical.eccCorrected {site} (h : Canonical s) : Canonical (eccCorrected s site) :=
  .via (fun h => .ite h (.ite h.same.faultReport h.same)) (.ite h.rcCount.rcCount h.rcCount)

theorem Canonical.execEccCorrected {t site} (h : Canonical s) : CanonicalNext (execEccCorrected t site s) := h.act fun h => h.when .eccCorrected
theorem Canonical.execEccWindow {t} (h : Canonical s) : CanonicalNext (execEccWindow t s) := h.act fun h => h.when .same
theorem Canonical.failFlight {ctx} (h : Canonical s) : Canonical (failFlight s ctx) := by
  unfold Machine.failFlight
  split
  · exact h
  · split
    · exact .ite h.concludeXfer h
    · exact h

theorem Canonical.engineRestart {e} (h : Canonical s) : Canonical (engineRestart s e) := h.rcCount.same.foldl .failFlight
theorem Canonical.execWatchdogExpiry {t engine} (h : Canonical s) : CanonicalNext (execWatchdogExpiry t engine s) :=
  h.act fun h => h.when fun h => .ite h.clusterFail h.faultReport.engineRestart

theorem Canonical.execEngineRestartComplete {t engine} (h : Canonical s) : CanonicalNext (execEngineRestartComplete t engine s) :=
  h.act fun h => h.when .same

theorem Canonical.dropNotice {q i} (h : Canonical s) : Canonical (dropNotice s q i) := .ite (.ite h.rcCount.same h.rcCount.setQueue) h.rcCount.setQueue
theorem Canonical.dropRam {seq} (h : Canonical s) : Canonical (dropRam s seq) := by
  unfold Machine.dropRam
  split
  · exact h
  · exact .ite h.same h.same.countLoss

theorem Canonical.contain {x} (h : Canonical s) : Canonical (contain s x) := by
  unfold Machine.contain
  split
  · split
    · exact h
    · exact h.failFlight.dropStash.haltEp
  · exact h.releaseDevice
  · exact h.unbindVi
  · exact .ite h.unbindVi h.freeSlot
  · exact .ite h (.ite h.clusterFail h.engineRestart)
  · exact .ite h h.emptyLig
  · exact h.dropNotice
  · exact h.dropRam
  · exact h.same
  · exact .ite h.same.rcCount h
  · exact h.same

theorem Canonical.execEccUncorrectable {t site} (h : Canonical s) : CanonicalNext (execEccUncorrectable t site s) :=
  h.act fun h => h.when fun h => h.rcCount.faultReport.contain

theorem Canonical.execDescriptorStoreReloaded {t} (h : Canonical s) : CanonicalNext (execDescriptorStoreReloaded t s) := h.act fun h => h.when .same
theorem Canonical.execKeyReloaded {t v} (h : Canonical s) : CanonicalNext (execKeyReloaded t v s) := h.act fun h => h.when .same
theorem Canonical.holdRegion {q on} (h : Canonical s) : Canonical (holdRegion s q on) := h.same
theorem Canonical.setHot {place} (h : Canonical s) : Canonical (setHot s place) := h.same.heatCause
theorem Canonical.regionHot {q hot} (h : Canonical s) : Canonical (regionHot s q hot) :=
  .ite (.ite h.holdRegion h.holdRegion.setHot.faultReport.enterQuarantine) (.ite h.holdRegion h.holdRegion.faultReport)

theorem Canonical.reservoirHot (h : Canonical s) : Canonical (reservoirHot s) :=
  .ite h (.ite (h.setHot.eachPort fun h => .ite h.gateOff h) (.ite h.setHot.holdFault h.setHot.faultReport.enterQuarantine))

theorem Canonical.execTemperatureExceeded {t place temp} (h : Canonical s) : CanonicalNext (execTemperatureExceeded t place temp s) :=
  h.act fun h => .ite (h.when .reservoirHot) (h.when .regionHot)

theorem Canonical.execTemperatureCleared {t place temp} (h : Canonical s) : CanonicalNext (execTemperatureCleared t place temp s) :=
  h.act fun h => h.when fun h => .ite h.same.heatCause h.same.heatCause.holdRegion

theorem Canonical.releasePorts (h : Canonical s) : Canonical (releasePorts s) := .recomputeShares (h.same.eachPort fun h => .ite h.setPower h)
theorem Canonical.quarExit (h : Canonical s) : Canonical (quarExit s) := .ite h.refuseMode (.releasePorts (.enterMode (.ite h.same.rcCount h)))
theorem Canonical.execQuarExit {t path} (h : Canonical s) : CanonicalNext (execQuarExit t path s) := h.privCmd .quarExit
theorem Canonical.advanceFloor (h : Canonical s) : Canonical (advanceFloor s) := h.same
theorem Canonical.returnArm (h : Canonical s) : Canonical (returnArm s) := h.same
theorem Canonical.returnDisarm (h : Canonical s) : Canonical (returnDisarm s) := h.same
theorem Canonical.execAdvanceFloor {t path} (h : Canonical s) : CanonicalNext (execAdvanceFloor t path s) := h.privCmd .advanceFloor
theorem Canonical.execReturnArm {t path} (h : Canonical s) : CanonicalNext (execReturnArm t path s) := h.privCmd .returnArm
theorem Canonical.execReturnDisarm {t path} (h : Canonical s) : CanonicalNext (execReturnDisarm t path s) := h.privCmd .returnDisarm
theorem Canonical.execReturnArmLapse {t} (h : Canonical s) : CanonicalNext (execReturnArmLapse t s) := h.act fun h => h.when .returnDisarm
theorem Canonical.setSeal {f} (h : Canonical s) : Canonical (setSeal s f) := h.same
theorem Canonical.keyAnswer {code} (h : Canonical s) : Canonical (keyAnswer s code) := h.setSeal
theorem Canonical.keyLoad {v} (h : Canonical s) : Canonical (keyLoad s v) := .ite h.keyAnswer h.setSeal
theorem Canonical.keyWithdraw {v} (h : Canonical s) : Canonical (keyWithdraw s v) := .ite h.keyAnswer h.setSeal
theorem Canonical.fuseOwner (h : Canonical s) : Canonical (fuseOwner s) := .ite h.keyAnswer (.ite h.keyAnswer h.setSeal)
theorem Canonical.execKeyLoad {t path v} (h : Canonical s) : CanonicalNext (execKeyLoad t path v s) := h.privCmd .keyLoad
theorem Canonical.execKeyWithdraw {t path v} (h : Canonical s) : CanonicalNext (execKeyWithdraw t path v s) := h.privCmd .keyWithdraw
theorem Canonical.execFuseOwner {t path} (h : Canonical s) : CanonicalNext (execFuseOwner t path s) := h.privCmd .fuseOwner
theorem Canonical.writeKeySector {k} (h : Canonical s) : Canonical (writeKeySector s k) := .ite h.same h.same
theorem Canonical.lapseAuth {v} (h : Canonical s) : Canonical (lapseAuth s v) := by
  refine .ite ?_ h
  split
  · exact h.emit.disconnectSlot
  · exact h.forfeit.setVi

theorem Canonical.keysCommitted {op} (h : Canonical s) : Canonical (keysCommitted s op) := h.writeKeySector.setSeal.lapseAuth
theorem Canonical.execKeySetCommitted {t ok} (h : Canonical s) : CanonicalNext (execKeySetCommitted t ok s) := h.act fun h => by
  split
  · exact h
  · exact h.when fun h => .ite h.keysCommitted h.writeKeySector.setSeal

theorem Canonical.execGateNonceRead {t} (h : Canonical s) : CanonicalNext (execGateNonceRead t s) :=
  h.act fun h => h.when fun h => .ite h.emit h.drawMany.setSeal.emit

theorem Canonical.execGateAuthorisation {t nonce uid scope} (h : Canonical s) : CanonicalNext (execGateAuthorisation t nonce uid scope s) :=
  h.act fun h => h.when fun h => .ite h.emit h.setSeal.emit

theorem Canonical.dropHosts (h : Canonical s) : Canonical (dropHosts s) := .same (h.pcieDown.ceaseAll.eachRing fun h => .ite h.transportLost h.forfeit)
theorem Canonical.lastNotices (h : Canonical s) : Canonical (lastNotices s) := h.eachRing .deliverAll
theorem Canonical.upOff (h : Canonical s) : Canonical (upOff s) := .ite h.gateOff h
theorem Canonical.returnEntry (h : Canonical s) : Canonical (returnEntry s) :=
  h.same.enterMode.applyPortModes.upOff.lastNotices.dropHosts.persistEverything.same.marker.setSeal.setApplied.same

theorem Canonical.returnRelease (h : Canonical s) : Canonical (returnRelease s) := h.same.marker
theorem Canonical.execGateVerifyDone {t signed} (h : Canonical s) : CanonicalNext (execGateVerifyDone t signed s) := h.act fun h => by
  split
  · exact h
  · exact h.when fun h => .ite h.setSeal.returnEntry (.ite h.setSeal.returnRelease h.setSeal.setSeal.faultReport)

theorem Canonical.execGateNonceExpiry {t} (h : Canonical s) : CanonicalNext (execGateNonceExpiry t s) := h.act fun h => h.when .setSeal

/-! ### Operations and commands of Machine/Hub.lean -/

theorem Canonical.hubSay {c r} (h : Canonical s) : Canonical (hubSay s c r) := h.emit
theorem Canonical.portReq {c n f g} (h : Canonical s) (hf : Canonical s → Canonical (f s)) (hg : Canonical s → Canonical (g s)) :
    Canonical (portReq s c n f g) := .ite (.hubSay (.ite (hf h) (hg h))) h.hubSay

theorem Canonical.ownView {n f} (h : Canonical s) : Canonical (ownView s n f) := by
  unfold Machine.ownView
  split
  · exact h.setView
  · exact h

theorem Canonical.holdPaths {c n} (h : Canonical s) : Canonical (holdPaths s c n) := h.setView.setCPort.emit.setNib
theorem Canonical.clearPowers {c} (h : Canonical s) : Canonical (clearPowers s c) := h.eachPort fun h => .ite (.ite h.holdPaths h.setView) h
theorem Canonical.hubReset2 {c n} (h : Canonical s) : Canonical (hubReset2 s c n) := .ite h.setCPort.setView.same h.setCPort.setView.emit
theorem Canonical.hubResetS {c n warm} (h : Canonical s) : Canonical (hubResetS s c n warm) := .ite h.setCPort.setView.same h.setCPort.setView.setNib.emit
theorem Canonical.hubResetSDone {n ok} (h : Canonical s) : Canonical (hubResetSDone s n ok) := by
  unfold Machine.hubResetSDone
  split
  · exact h
  · exact h.setCPort.ownView

theorem Canonical.hubResumed {n} (h : Canonical s) : Canonical (hubResumed s n) := h.ownView
theorem Canonical.upstreamReset {c ss} (h : Canonical s) : Canonical (upstreamReset s c ss) := h.forfeit.clearPowers.setCvi
theorem Canonical.upstreamClaims {c} (h : Canonical s) : Canonical (upstreamClaims s c) :=
  .homeStamp (.ite (h.setCvi.eachPort fun h => .ite h.stampP4 h) h.setCvi)

theorem Canonical.setLig {n f} (h : Canonical s) : Canonical (setLig s n f) := h.same
theorem Canonical.ligXact {n periodic addr ep isIn r} (h : Canonical s) : Canonical (ligXact s n periodic addr ep isIn r) := h.when .setLig
theorem Canonical.setFunc {f} (h : Canonical s) : Canonical (setFunc s f) := h.same
theorem Canonical.funcPop {reply} (h : Canonical s) : Canonical (funcPop s reply) := h.setFunc
theorem Canonical.funcDrain : ∀ {k s}, Canonical s → Canonical (funcDrain k s)
  | 0, _, h => h
  | _ + 1, _, h => by
    unfold Machine.funcDrain
    split
    · exact h
    · exact .ite h.funcPop.funcDrain (.ite h.funcPop.funcDrain h)

theorem Canonical.funcInToken (h : Canonical s) : Canonical (funcInToken s) := by
  unfold Machine.funcInToken
  split
  · exact h
  · exact .ite h.hubSay (.ite h.setFunc.hubSay (.ite h.hubSay h.setFunc.hubSay))

/-! ### Operations and commands of Machine/HubCmds.lean -/

theorem Canonical.execGetHubStatus {t c} (h : Canonical s) : CanonicalNext (execGetHubStatus t c s) := h.act fun h => h.when .hubSay
theorem Canonical.execClearHubFeature {t c feature} (h : Canonical s) : CanonicalNext (execClearHubFeature t c feature s) :=
  h.act fun h => h.when fun h => .ite h.setCvi.hubSay (.ite h.setCvi.hubSay h.hubSay)

theorem Canonical.execSetHubFeature {t c} (h : Canonical s) : CanonicalNext (execSetHubFeature t c s) := h.act fun h => h.when .hubSay
theorem Canonical.execGetPortStatus {t c n ss} (h : Canonical s) : CanonicalNext (execGetPortStatus t c n ss s) := h.act fun h => h.when .hubSay
theorem Canonical.execSetPortReset {t c n ss} (h : Canonical s) : CanonicalNext (execSetPortReset t c n ss s) :=
  h.act fun h => h.when fun h => h.portReq (fun h => .ite h.hubResetS h.hubReset2) fun h => h

theorem Canonical.execClassicPortResetEnd {t n} (h : Canonical s) : CanonicalNext (execClassicPortResetEnd t n s) := h.act fun h => by
  split
  · exact h
  · exact h.when fun h => .ownView (.ite h.setCPort h.setCPort.setNib)

theorem Canonical.execSetBhPortReset {t c n} (h : Canonical s) : CanonicalNext (execSetBhPortReset t c n s) :=
  h.act fun h => h.when fun h => h.portReq .hubResetS fun h => h

theorem Canonical.execSsPortResetTimeout {t n} (h : Canonical s) : CanonicalNext (execSsPortResetTimeout t n s) := h.act fun h => by
  split
  · exact h
  · exact h.when fun h => h.setNib.hubResetSDone

theorem Canonical.execSetPortSuspend {t c n} (h : Canonical s) : CanonicalNext (execSetPortSuspend t c n s) :=
  h.act fun h => h.when fun h => h.portReq (fun h => .ite h.setView.setNib.emit h) fun h => h

theorem Canonical.execClearPortSuspend {t c n} (h : Canonical s) : CanonicalNext (execClearPortSuspend t c n s) :=
  h.act fun h => h.when fun h => h.portReq (fun h => .ite h.setNib.emit h) fun h => h

theorem Canonical.execClearPortEnable {t c n} (h : Canonical s) : CanonicalNext (execClearPortEnable t c n s) :=
  h.act fun h => h.when fun h => h.portReq (fun h => h.setView.emit) fun h => h

theorem Canonical.execSetPortPower {t c n} (h : Canonical s) : CanonicalNext (execSetPortPower t c n s) :=
  h.act fun h => h.when fun h => h.portReq (fun h => .ite h h.setView.viewConnect.viewConnect) .setView

theorem Canonical.execClearPortPower {t c n} (h : Canonical s) : CanonicalNext (execClearPortPower t c n s) :=
  h.act fun h => h.when fun h => h.portReq .holdPaths .setView

theorem Canonical.execSetPortTest {t c n} (h : Canonical s) : CanonicalNext (execSetPortTest t c n s) :=
  h.act fun h => h.when fun h => h.portReq (fun h => h.setView.setCPort.emit) fun h => h

theorem Canonical.execSetPortIndicator {t c _n} (h : Canonical s) : CanonicalNext (execSetPortIndicator t c _n s) := h.act fun h => h.when .hubSay
theorem Canonical.execSetPortLinkState {t c n state} (h : Canonical s) : CanonicalNext (execSetPortLinkState t c n state s) :=
  h.act fun h => h.when fun h => .ite (h.portReq (fun h => .ite (.ite h.setNib.emit.setView h.setNib.emit) h) fun h => h) <|
    .ite (h.portReq (fun h => .ite h.setNib.emit h) fun h => h) <|
    .ite (h.portReq (fun h => h.setNib.setView.emit) fun h => h) <|
    .ite (h.portReq (fun h => .ite h h.setNib.emit) fun h => h) h.hubSay

theorem Canonical.execSetPortLinkPmFeature {t c n feature value} (h : Canonical s) : CanonicalNext (execSetPortLinkPmFeature t c n feature value s) :=
  h.act fun h => h.when fun h => h.portReq .setView .setView

theorem Canonical.execClearPortChange {t c n ss bit} (h : Canonical s) : CanonicalNext (execClearPortChange t c n ss bit s) :=
  h.act fun h => h.when fun h => .ite (h.portReq .setView .setView) h.hubSay

theorem Canonical.execGetPortErrCount {t c n} (h : Canonical s) : CanonicalNext (execGetPortErrCount t c n s) :=
  h.act fun h => h.when fun h => .ite h.hubSay (.ite h.draw.hubSay h.hubSay)

theorem Canonical.execSetHubDepth {t c depth} (h : Canonical s) : CanonicalNext (execSetHubDepth t c depth s) :=
  h.act fun h => h.when fun h => .ite h.setCvi.hubSay h.hubSay

theorem Canonical.execClearTtBuffer {t c n addr ep type isIn} (h : Canonical s) : CanonicalNext (execClearTtBuffer t c n addr ep type isIn s) :=
  h.act fun h => h.when fun h => .hubSay (h.foldl fun h => h.setLig.rcCount)

theorem Canonical.execResetTt {t c n} (h : Canonical s) : CanonicalNext (execResetTt t c n s) :=
  h.act fun h => h.when fun h => .hubSay (h.foldl fun h => h.emptyLig.rcCount)

theorem Canonical.execStopTt {t c n} (h : Canonical s) : CanonicalNext (execStopTt t c n s) := h.act fun h => h.when fun h => .hubSay (h.foldl .setLig)
theorem Canonical.execGetTtState {t c _n} (h : Canonical s) : CanonicalNext (execGetTtState t c _n s) := h.act fun h => h.when .hubSay
theorem Canonical.execGetDescriptor {t c half type index len} (h : Canonical s) :
    CanonicalNext (execGetDescriptor t c half type index len s) := h.act fun h => h.when fun h => by
  refine .ite h.hubSay ?_
  split <;> exact h.hubSay

theorem Canonical.execSetDescriptor {t c} (h : Canonical s) : CanonicalNext (execSetDescriptor t c s) := h.act fun h => h.when .hubSay
theorem Canonical.execSetConfiguration {t c half value} (h : Canonical s) :
    CanonicalNext (execSetConfiguration t c half value s) := h.act fun h => h.when fun h => by
  refine .ite h.hubSay ?_
  split
  · exact h.setCvi.clearPowers.hubSay
  · exact h.setCvi.clearPowers.hubSay
  · exact h.setFunc.hubSay

theorem Canonical.execSetInterface {t c half alt} (h : Canonical s) : CanonicalNext (execSetInterface t c half alt s) :=
  h.act fun h => h.when fun h => .ite h.hubSay (.ite h.setCvi.hubSay h.hubSay)

theorem Canonical.execUpstreamResetRecognised {t c ss} (h : Canonical s) : CanonicalNext (execUpstreamResetRecognised t c ss s) :=
  h.act fun h => h.when fun h => .ite h.upstreamReset h.upstreamReset.setCvi.emit

theorem Canonical.execHsIdleReversion {t c} (h : Canonical s) : CanonicalNext (execHsIdleReversion t c s) := h.act fun h => h.when fun h => h.setCvi.emit
theorem Canonical.execChirpKEnd {t c} (h : Canonical s) : CanonicalNext (execChirpKEnd t c s) := h.act fun h => by
  split
  · exact h.when fun h => h.setCvi.emit
  · exact h

theorem Canonical.execHostChirpSixth {t c} (h : Canonical s) : CanonicalNext (execHostChirpSixth t c s) := h.act fun h => by
  split
  · exact h.when fun h => h.setCvi.emit
  · exact h

theorem Canonical.execHostChirpTimeout {t c} (h : Canonical s) : CanonicalNext (execHostChirpTimeout t c s) := h.act fun h => by
  split
  · exact h.when .setCvi
  · exact h

theorem Canonical.execUpstreamResetEnd {t c ss} (h : Canonical s) : CanonicalNext (execUpstreamResetEnd t c ss s) :=
  h.act fun h => h.when fun h => .upstreamClaims (.ite h h.setCvi)

theorem Canonical.execUpstreamSuspend {t c} (h : Canonical s) : CanonicalNext (execUpstreamSuspend t c s) :=
  h.act fun h => h.when fun h => h.setCvi.eachPort fun h => .ite h.treeSuspend h

theorem Canonical.execUpstreamResume {t c} (h : Canonical s) : CanonicalNext (execUpstreamResume t c s) :=
  h.act fun h => h.when fun h => h.setCvi.wakeSource.eachPort fun h => .ite h.treeResume h

theorem Canonical.execUpstreamLpmToken {t c} (h : Canonical s) : CanonicalNext (execUpstreamLpmToken t c s) := h.act fun h => h.when .hubSay
theorem Canonical.execUpstreamSsLinkChange {t c up} (h : Canonical s) : CanonicalNext (execUpstreamSsLinkChange t c up s) :=
  h.act fun h => h.when fun h => .ite h.setCvi.viewDisconnect.viewDisconnect.viewConnectBoth h.setCvi

theorem Canonical.execSsplitReceived {t n split} (h : Canonical s) : CanonicalNext (execSsplitReceived t n split s) := h.act fun h => by
  split
  · exact h
  · exact h.when fun h => .ite (.ite h.setLig h.setLig.rcCount) (.ite h.rcCount.hubSay h.setLig.hubSay)

theorem Canonical.execCsplitReceived {t n split} (h : Canonical s) : CanonicalNext (execCsplitReceived t n split s) := h.act fun h => by
  split
  · exact h
  · refine h.when fun h => ?_
    refine .ite ?_ ?_
    · split
      · exact h.hubSay
      · refine .ite h.hubSay ?_
        split
        · exact h.setLig.hubSay
        · exact h.hubSay
    · split
      · exact h.hubSay
      · split
        · exact h.setLig.hubSay
        · exact h.hubSay

theorem Canonical.execLigatureResultExpiry {t n} (h : Canonical s) : CanonicalNext (execLigatureResultExpiry t n s) :=
  h.act fun h => h.when fun h => h.foldl fun h => h.setLig.rcCount

theorem Canonical.execPeriodicResultDiscard {t n frame uf} (h : Canonical s) : CanonicalNext (execPeriodicResultDiscard t n frame uf s) :=
  h.act fun h => h.when fun h => h.foldl fun h => .ite h.setLig.rcCount h.setLig

theorem Canonical.execFuncOutPacket {t bytes} (h : Canonical s) : CanonicalNext (execFuncOutPacket t bytes s) := h.act fun h => by
  split
  · exact h
  · exact h.when fun h => .ite h.hubSay (.ite h.setFunc.hubSay h.setFunc.funcDrain.hubSay)

theorem Canonical.execFuncEcho {t} (h : Canonical s) : CanonicalNext (execFuncEcho t s) := h.act fun h => by
  split
  · exact h.when fun h => h.funcPop.funcDrain
  · exact h

theorem Canonical.execFuncClearHalt {t isIn} (h : Canonical s) : CanonicalNext (execFuncClearHalt t isIn s) := h.act fun h => by
  split
  · exact h
  · exact h.when fun h => h.setFunc.hubSay

/-! ### Operations and commands of Machine/Pd.lean -/

theorem Canonical.sendMsg {n m next} (h : Canonical s) : Canonical (sendMsg s n m next) := h.setPd.emit
theorem Canonical.sendPrime {n m} (h : Canonical s) : Canonical (sendPrime s n m) := h.setPd.emit
theorem Canonical.sendCaps {n} (h : Canonical s) : Canonical (sendCaps s n) := h.setPd.sendMsg
theorem Canonical.enterCaps {n} (h : Canonical s) : Canonical (enterCaps s n) := .ite h.setPd.pdState.sendCaps h.setPd.pdState
theorem Canonical.toReady {n} (h : Canonical s) : Canonical (toReady s n) := h.pdState.presentRp.kickOwn
theorem Canonical.pdInfo {n code type} (h : Canonical s) : Canonical (pdInfo s n code type) := h.record
theorem Canonical.notSupported {n type} (h : Canonical s) : Canonical (notSupported s n type) := h.pdInfo.sendMsg
theorem Canonical.replyExt {n type m} (h : Canonical s) : Canonical (replyExt s n type m) := .ite h.notSupported h.sendMsg
theorem Canonical.protocolError {n} (h : Canonical s) : Canonical (protocolError s n) := .ite h.startHardReset (.ite h.rcCount.setPd.sendMsg h)
theorem Canonical.heard {n id f} (h : Canonical s) (hf : ∀ {u}, Canonical u → Canonical (f u)) : Canonical (heard s n id f) :=
  h.when fun h => .ite h.emit (.ite h.emit.setPd.startHardReset (hf h.emit.setPd))

theorem Canonical.unreclaim {n} (h : Canonical s) : Canonical (unreclaim s n) := .ite h.setPd.recomputeShares.markShare h
theorem Canonical.pdiWork {n} (h : Canonical s) : Canonical (pdiWork s n) := .ite h (.ite h.presentRp.setPd.enterCaps h.presentRp.setPd.kickOwn)
theorem Canonical.psRdy {n} (h : Canonical s) : Canonical (psRdy s n) := by
  unfold Machine.psRdy
  split
  · exact h
  · exact h.sendMsg.setPd.powerNotice.toReady

theorem Canonical.judgeRequest {n rdo allowed} (h : Canonical s) : Canonical (judgeRequest s n rdo allowed) := by
  unfold Machine.judgeRequest
  dsimp only
  split
  · exact (Canonical.ite h.setPd.pdInfo h.setPd).setPd.pdState.sendMsg
  · exact .ite h.setPd.rcCount.setPd.pdState.sendMsg (.ite h.setPd.rcCount.pdState.sendMsg h.setPd.rcCount.sendMsg)

theorem Canonical.takeRequest {n rdo rev2} (h : Canonical s) : Canonical (takeRequest s n rdo rev2) := .ite (.judgeRequest (.ite h.setPd h)) h
theorem Canonical.takeEprRequest {n rdo pdo} (h : Canonical s) : Canonical (takeEprRequest s n rdo pdo) := .ite h.judgeRequest h
theorem Canonical.eprDecide {n} (h : Canonical s) : Canonical (eprDecide s n) := .ite h.setPd.rcCount.sendMsg h.setPd.setPd.markCaps.sendMsg
theorem Canonical.eprAcked {n} (h : Canonical s) : Canonical (eprAcked s n) := .ite h.setPd h.setPd.eprDecide
theorem Canonical.eprExit {n own} (h : Canonical s) : Canonical (eprExit s n own) := .ite h.startHardReset h.setPd.markCaps.kickOwn
theorem Canonical.discoveryEnd {n} (h : Canonical s) : Canonical (discoveryEnd s n) := .ite h.setPd.eprDecide h.setPd
theorem Canonical.discover {n} (h : Canonical s) : Canonical (discover s n) := h.setPd.sendPrime
theorem Canonical.acknowledged {n} (h : Canonical s) : Canonical (acknowledged s n) := by
  unfold Machine.acknowledged
  dsimp only
  split
  · exact h.setPd.kickOwn
  · exact .ite h.setPd.pdState h.setPd.kickOwn
  · split
    · exact .ite h.setPd.psRdy h.setPd.setPd
    · exact h.setPd
  · exact h.setPd.startHardReset
  · exact h.setPd.enterCaps
  · exact h.setPd.setPd
  · exact h.setPd.eprAcked
  · exact h.setPd.setPd.kickOwn
  · exact h.setPd.setPd

theorem Canonical.swapRefused {n answer} (h : Canonical s) : Canonical (swapRefused s n answer) := h.setPd.record.kickOwn
theorem Canonical.messageFailed {n} (h : Canonical s) : Canonical (messageFailed s n) := by
  unfold Machine.messageFailed
  dsimp only
  split
  · exact .ite h.setPd.rcCount.startHardReset (.ite h.setPd.rcCount.pdState.presentRp.pdInfo h.setPd.rcCount)
  · exact h.setPd.rcCount.startHardReset
  · exact h.setPd.rcCount.startHardReset
  · exact h.setPd.rcCount.startHardReset
  · exact h.setPd.rcCount.startHardReset
  · exact h.setPd.rcCount.setPd.kickOwn
  · exact h.setPd.rcCount.swapRefused
  · exact h.setPd.rcCount.protocolError
  · exact h.setPd.rcCount.protocolError

theorem Canonical.becomeUfp {n c} (h : Canonical s) : Canonical (becomeUfp s n c) := h.setPd.createClassic.emit
theorem Canonical.swapOnUp (h : Canonical s) : Canonical (swapOnUp s) := .ite h.sendMsg.setPd.dropRole h.sendMsg.becomeUfp
theorem Canonical.swapOnDp {n} (h : Canonical s) : Canonical (swapOnDp s n) := by
  refine .ite h.sendMsg.dropRole ?_
  refine .ite ?_ h.sendMsg.pdInfo
  split
  · exact h.sendMsg.becomeUfp
  · exact h

theorem Canonical.attachSink {n} (h : Canonical s) : Canonical (attachSink s n) := h.wakeSource.clearPd.setPd.presentRp.switchOn.recomputeShares
theorem Canonical.attachAccessory {n audio} (h : Canonical s) : Canonical (attachAccessory s n audio) :=
  h.wakeSource.clearPd.setPd.presentRp.recordRes.recomputeShares

theorem Canonical.attachDebugUp (h : Canonical s) : Canonical (attachDebugUp s) := by
  unfold Machine.attachDebugUp
  exact .via (fun h => .ite h.switchOn h.setPower) h.same.clearPd.setPd.presentRp.recomputeShares

theorem Canonical.tryAttach {n} (h : Canonical s) : Canonical (tryAttach s n) :=
  .ite (.ite h.attachSink h.setPd) (.ite h.attachAccessory (.ite h.attachAccessory (.ite h.attachDebugUp h.setPd)))

theorem Canonical.toUnattached {n} (h : Canonical s) : Canonical (toUnattached s n) := h.clearPd.presentRp
theorem Canonical.detach {n} (h : Canonical s) : Canonical (detach s n) :=
  .recomputeShares <| .via (fun h => .ite h.toUnattached h) <| .viewOverCurrent <| .via (fun h => .ite h.busGone h) <|
    (Canonical.ite h.wakeSource.gateOff h.wakeSource).dropRole.detachPower.clearPd.setPd.presentRp

theorem Canonical.vconnFault {n} (h : Canonical s) : Canonical (vconnFault s n) :=
  .via (fun h => .ite h.startHardReset (.ite h.markCaps.eprDecide h.markCaps)) h.vconnOff.setPd.rcCount.recordRes.powerNotice

/-! ### Operations and commands of Machine/PdCmds.lean -/

theorem Canonical.execUpDrSwapSend {t} (h : Canonical s) : CanonicalNext (execUpDrSwapSend t s) := h.act fun h => h.when fun h => h.setPd.sendMsg
theorem Canonical.swapRetryTx {w} (h : Canonical s) : Canonical (swapRetryTx s w) := .ite h h.setPd.presentRp
theorem Canonical.execDrSwapRetry {t} (h : Canonical s) : CanonicalNext (execDrSwapRetry t s) := h.act fun h => by
  dsimp only
  split
  · exact h.when fun h => h.swapRetryTx.setPd.sendMsg
  · exact h

theorem Canonical.execDrSwapAnswer {t id answer} (h : Canonical s) : CanonicalNext (execDrSwapAnswer t id answer s) := h.act fun h => h.heard fun h => by
  refine .ite h.protocolError ?_
  split
  · exact h.becomeUfp.kickOwn
  · exact .ite h.setPd.kickOwn h.swapRefused
  · exact h.swapRefused
  · exact h.swapRefused

theorem Canonical.execDrSwap {t port id} (h : Canonical s) : CanonicalNext (execDrSwap t port id s) :=
  h.act fun h => h.heard fun h => .ite (.ite h.swapOnUp h.swapOnDp) h.protocolError

theorem Canonical.execCcPatternAppear {t port cc1 cc2} (h : Canonical s) : CanonicalNext (execCcPatternAppear t port cc1 cc2 s) :=
  h.act fun h => .ite (.ite h.setPd.setPd h.setPd.setPd) <|
    .ite (.ite h.clearPd.setPd.setPd h.setPd) (.ite (.ite h (.ite h.setPd.setPd h)) (.ite (.ite h.setPd.setPd h) h))

theorem Canonical.execCcPatternLost {t port cc1 cc2} (h : Canonical s) : CanonicalNext (execCcPatternLost t port cc1 cc2 s) :=
  h.act fun h => h.when fun h => h.toUnattached.setPd

theorem Canonical.execDetachDebounceStart {t port cc1 cc2} (h : Canonical s) : CanonicalNext (execDetachDebounceStart t port cc1 cc2 s) :=
  h.act fun h => h.when .setPd

theorem Canonical.execCcDetach {t port} (h : Canonical s) : CanonicalNext (execCcDetach t port s) := h.act fun h => by
  split
  · exact h.when .detach
  · exact h

theorem Canonical.execVsafe0vReached {t port vbus} (h : Canonical s) : CanonicalNext (execVsafe0vReached t port vbus s) :=
  h.act fun h => h.when fun h => .via (fun h => .ite h.toUnattached (.ite h.setPd h)) h.setPower.setPd

theorem Canonical.execAttachDebounceEnd {t port} (h : Canonical s) : CanonicalNext (execAttachDebounceEnd t port s) :=
  h.act fun h => h.when fun h => .ite h.tryAttach (.ite h.setPd h)

theorem Canonical.execVsafe5vReached {t port vbus} (h : Canonical s) : CanonicalNext (execVsafe5vReached t port vbus s) :=
  h.act fun h => h.when fun h => .ite (.ite h.setPower.setPd.setPd.pdState h.setPower.setPd.setPd.pdState.presentRp) h.setPower.setPd

theorem Canonical.execSourceCapsSend {t port} (h : Canonical s) : CanonicalNext (execSourceCapsSend t port s) := h.act fun h => h.when .sendCaps
theorem Canonical.execSourceCapsRetry {t port} (h : Canonical s) : CanonicalNext (execSourceCapsRetry t port s) := h.act fun h => h.when .sendCaps
theorem Canonical.execGoodcrcReceived {t port prime} (h : Canonical s) : CanonicalNext (execGoodcrcReceived t port prime s) :=
  h.act fun h => .ite (h.when .setPd) (h.when .acknowledged)

theorem Canonical.execGoodcrcTimeout {t port prime} (h : Canonical s) : CanonicalNext (execGoodcrcTimeout t port prime s) := h.act fun h => by
  refine .ite ?_ ?_
  · split
    · exact h
    · exact .ite h.setPd.emit h.setPd.rcCount
  · split
    · exact h
    · exact .ite h.setPd.emit h.messageFailed

theorem Canonical.execSenderResponseTimeout {t port} (h : Canonical s) : CanonicalNext (execSenderResponseTimeout t port s) := h.act fun h => by
  dsimp only
  split
  · exact h.when fun h => h.setPd.startHardReset
  · exact h.when .swapRefused
  · exact h.when .startHardReset

theorem Canonical.execRequest {t port id rdo rev2} (h : Canonical s) : CanonicalNext (execRequest t port id rdo rev2 s) :=
  h.act fun h => h.heard .takeRequest

theorem Canonical.execEprRequest {t port id rdo pdo} (h : Canonical s) : CanonicalNext (execEprRequest t port id rdo pdo s) :=
  h.act fun h => h.heard .takeEprRequest

theorem Canonical.execTransitionStart {t port} (h : Canonical s) : CanonicalNext (execTransitionStart t port s) := h.act fun h => by
  dsimp only
  split
  · exact h
  · exact h.when fun h => h.setPd.setPower

theorem Canonical.execPsRdySend {t port vbus} (h : Canonical s) : CanonicalNext (execPsRdySend t port vbus s) := h.act fun h => by
  dsimp only
  split
  · exact h.when fun h => h.setPower.psRdy
  · exact h

theorem Canonical.execTransitionBoundMissed {t port} (h : Canonical s) : CanonicalNext (execTransitionBoundMissed t port s) := h.act fun h => by
  dsimp only
  split
  · exact h.when fun h => h.rcCount.record.startHardReset
  · exact h

theorem Canonical.execSinkTxWaitEnd {t port} (h : Canonical s) : CanonicalNext (execSinkTxWaitEnd t port s) :=
  h.act fun h => h.when fun h => .ite h.setPd.sendMsg h.enterCaps

theorem Canonical.execGetSourceCap {t port id} (h : Canonical s) : CanonicalNext (execGetSourceCap t port id s) :=
  h.act fun h => h.heard fun h => h.unreclaim.enterCaps

theorem Canonical.execSoftReset {t port} (h : Canonical s) : CanonicalNext (execSoftReset t port s) :=
  h.act fun h => h.when fun h => .ite h.emit.setPd.startHardReset h.emit.setPd.rcCount.sendMsg

theorem Canonical.execPdMessageUnexpected {t port id msg} (h : Canonical s) : CanonicalNext (execPdMessageUnexpected t port id msg s) :=
  h.act fun h => h.heard fun h => .ite h.setPd.enterCaps h.protocolError

theorem Canonical.execEprModeEnter {t port id} (h : Canonical s) : CanonicalNext (execEprModeEnter t port id s) :=
  h.act fun h => h.heard fun h => .ite h.protocolError (.ite h.sendMsg h.sendMsg)

theorem Canonical.execEprModeExit {t port id} (h : Canonical s) : CanonicalNext (execEprModeExit t port id s) :=
  h.act fun h => h.heard fun h => .ite h.eprExit h.protocolError

theorem Canonical.execEprKeepalive {t port id} (h : Canonical s) : CanonicalNext (execEprKeepalive t port id s) := h.act fun h => h.heard .sendMsg
theorem Canonical.execEprGetSourceCap {t port id} (h : Canonical s) : CanonicalNext (execEprGetSourceCap t port id s) :=
  h.act fun h => h.heard fun h => .ite h.unreclaim.notSupported (.ite h.unreclaim.enterCaps h.unreclaim.setPd.sendMsg)

theorem Canonical.keepAliveOut {n} (h : Canonical s) : Canonical (keepAliveOut s n) := h.rcCount.record.startHardReset
theorem Canonical.execEprKeepaliveTimeout {t port} (h : Canonical s) : CanonicalNext (execEprKeepaliveTimeout t port s) :=
  h.act fun h => h.when .keepAliveOut

theorem Canonical.execPpsTimeout {t port} (h : Canonical s) : CanonicalNext (execPpsTimeout t port s) := h.act fun h => h.when .keepAliveOut
theorem Canonical.execGetStatus {t port id} (h : Canonical s) : CanonicalNext (execGetStatus t port id s) := h.act fun h => h.heard .replyExt
theorem Canonical.execGetPpsStatus {t port id} (h : Canonical s) : CanonicalNext (execGetPpsStatus t port id s) :=
  h.act fun h => h.heard fun h => .ite h.replyExt h.notSupported

theorem Canonical.execGetSourceInfo {t port id} (h : Canonical s) : CanonicalNext (execGetSourceInfo t port id s) := h.act fun h => h.heard .sendMsg
theorem Canonical.execGetRevision {t port id} (h : Canonical s) : CanonicalNext (execGetRevision t port id s) := h.act fun h => h.heard .sendMsg
theorem Canonical.execGetSourceCapExtended {t port id} (h : Canonical s) : CanonicalNext (execGetSourceCapExtended t port id s) :=
  h.act fun h => h.heard .replyExt

theorem Canonical.execGetManufacturerInfo {t port id} (h : Canonical s) : CanonicalNext (execGetManufacturerInfo t port id s) :=
  h.act fun h => h.heard .replyExt

theorem Canonical.execUnsupportedMessage {t port id type} (h : Canonical s) : CanonicalNext (execUnsupportedMessage t port id type s) :=
  h.act fun h => h.heard .notSupported

theorem Canonical.execIgnoredMessage {t port id kind} (h : Canonical s) :
    CanonicalNext (execIgnoredMessage t port id kind s) := h.act fun h => h.heard fun h => by
  split
  · exact h.pdInfo
  · exact h.pdInfo
  · exact h

theorem Canonical.execBist {t port id mode} (h : Canonical s) : CanonicalNext (execBist t port id mode s) := h.act fun h => h.heard fun h => h.when .emit
theorem Canonical.execDiscoverIdentity {t port id} (h : Canonical s) : CanonicalNext (execDiscoverIdentity t port id s) := h.act fun h => h.heard .sendMsg
theorem Canonical.execStructuredVdmNak {t port id} (h : Canonical s) : CanonicalNext (execStructuredVdmNak t port id s) := h.act fun h => h.heard .sendMsg
theorem Canonical.execVconnStable {t port} (h : Canonical s) : CanonicalNext (execVconnStable t port s) := h.act fun h => h.when .discover
theorem Canonical.execCableDiscoveryRetry {t port} (h : Canonical s) : CanonicalNext (execCableDiscoveryRetry t port s) :=
  h.act fun h => h.when fun h => .ite h.discoveryEnd (h.when .discover)

theorem Canonical.execCableIdentityAck {t port id vdo} (h : Canonical s) : CanonicalNext (execCableIdentityAck t port id vdo s) :=
  h.act fun h => h.when fun h => .ite h.emit (.ite h.emit.setPd.markCaps.discoveryEnd.eprExit h.emit.setPd.markCaps.discoveryEnd)

theorem Canonical.execHardResetReceived {t port} (h : Canonical s) : CanonicalNext (execHardResetReceived t port s) :=
  h.act fun h => h.when .startHardReset

theorem Canonical.execHardResetVbusOff {t port} (h : Canonical s) : CanonicalNext (execHardResetVbusOff t port s) :=
  h.act fun h => h.when fun h => h.gateOff.vconnOff.setPd.busGone

theorem Canonical.execSrcRecoverEnd {t port} (h : Canonical s) : CanonicalNext (execSrcRecoverEnd t port s) :=
  h.act fun h => h.when fun h => .ite h.setPd.restorePath h.setPd.setPower.pdState.presentRp

theorem Canonical.execErrorRecoveryEnd {t port} (h : Canonical s) : CanonicalNext (execErrorRecoveryEnd t port s) :=
  h.act fun h => h.when fun h => h.toUnattached.recomputeShares

theorem Canonical.execAlertSend {t port} (h : Canonical s) : CanonicalNext (execAlertSend t port s) := h.act fun h => h.when fun h => h.setPd.sendMsg
theorem Canonical.execReclaimTimer {t port} (h : Canonical s) : CanonicalNext (execReclaimTimer t port s) := h.act fun h => by
  dsimp only
  split
  · exact h.when fun h => h.setPd.recomputeShares.markShare
  · exact h

theorem Canonical.execReclaimRestore {t port} (h : Canonical s) : CanonicalNext (execReclaimRestore t port s) := h.act fun h => by
  split
  · exact h.when .unreclaim
  · exact h

theorem Canonical.pdSendCaps {n} (h : Canonical s) : Canonical (pdSendCaps s n) := h.markCaps
theorem Canonical.pdHardReset {n} (h : Canonical s) : Canonical (pdHardReset s n) := h.when .startHardReset
theorem Canonical.pdErrorRecovery {n} (h : Canonical s) : Canonical (pdErrorRecovery s n) := .ite h h.errorRecovery.recomputeShares
theorem Canonical.execPdSendCaps {t path port} (h : Canonical s) : CanonicalNext (execPdSendCaps t path port s) := h.privCmd .pdSendCaps
theorem Canonical.execPdHardReset {t path port} (h : Canonical s) : CanonicalNext (execPdHardReset t path port s) := h.privCmd .pdHardReset
theorem Canonical.execPdErrorRecovery {t path port} (h : Canonical s) : CanonicalNext (execPdErrorRecovery t path port s) := h.privCmd .pdErrorRecovery
theorem Canonical.execCcShortProbe {t port pin2 shorted} (h : Canonical s) : CanonicalNext (execCcShortProbe t port pin2 shorted s) :=
  h.act fun h => h.when fun h => .ite h.setPd (.ite h.setPd (.ite h.setPd.vconnOff.setPd.recordRes h.setPd.ccFault))

theorem Canonical.execCcOvervoltage {t port pin2} (h : Canonical s) : CanonicalNext (execCcOvervoltage t port pin2 s) :=
  h.act fun h => h.when fun h => h.setPd.ccFault

theorem Canonical.execCcFaultRetest {t port cc1 cc2} (h : Canonical s) : CanonicalNext (execCcFaultRetest t port cc1 cc2 s) :=
  h.act fun h => h.when fun h => .ite h.setPd.detachPower.toUnattached.recomputeShares h.setPd

theorem Canonical.execVconnFault {t port ma} (h : Canonical s) : CanonicalNext (execVconnFault t port ma s) :=
  h.act fun h => h.when fun h => h.setPd.vconnFault

/-! ### Operations and commands of Machine/Applied.lean -/

theorem Canonical.disableOpen {n} (h : Canonical s) : Canonical (disableOpen s n) := h.draw.disablePort
theorem Canonical.barCheck {n} (h : Canonical s) : Canonical (barCheck s n) :=
  .ite h (.ite h.loseOutright.disableOpen (.ite (.ite h.setOwn.stampP4 h.setOwn.stampP4.enablePort) h))

theorem Canonical.afterPort {n off} (h : Canonical s) : Canonical (afterPort s n off) :=
  .barCheck (.ite (.ite h h.setNib) (.ite h.recomputeShares (.ite h.markCaps.presentRp.recomputeShares h)))

theorem Canonical.dp15Changed (h : Canonical s) : Canonical (dp15Changed s) := by
  refine .ite ?_ (.ite h.same.viewDisconnect.viewDisconnect h.same.viewDisconnect.viewDisconnect.enablePort)
  dsimp only
  split
  · exact h.same.disableOpen.viewConnectBoth
  · exact h.same.disableOpen

theorem Canonical.ptpChanged (h : Canonical s) : Canonical (ptpChanged s) := .ite h.same h.same.ptpUnlock
theorem Canonical.afterBlock {old a} (h : Canonical s) : Canonical (afterBlock s old a) :=
  .ite (.ite h h.discOff) <|
    .ite h.recomputeShares <|
    .ite h.evalMinOver (.ite (.ite h h.setEth) (.ite (.ite h h.setEth) (.ite h.ptpChanged (.ite (.ite h h.dp15Changed) h))))

theorem Canonical.afterApply {old a} (h : Canonical s) : Canonical (afterApply s old a) := .ite h.afterPort (.ite h.afterBlock h)
theorem Canonical.applyReg {p a v} (h : Canonical s) : Canonical (applyReg s p a v) :=
  .dite (fun _ => h.viBindWrite) (fun _ => .dite (fun _ => h.setSeal) (fun _ => .ite h.same.setApplied h.setApplied.afterApply))

theorem Canonical.stageWrite {a v} (h : Canonical s) : Canonical (stageWrite s a v) := h.same
theorem Canonical.takeRw {p r a value} (h : Canonical s) : Canonical (takeRw s p r a value) := by
  refine .ite h.writeIgnored ?_
  split
  · exact h.applyReg
  · exact h.stageWrite
  · exact h.same

theorem Canonical.boundaryApply {pick} (h : Canonical s) : Canonical (boundaryApply s pick) := h.same.foldl .applyReg
theorem Canonical.setCurveBad {p b} (h : Canonical s) : Canonical (setCurveBad s p b) := by
  unfold Machine.setCurveBad
  split
  · exact h.setInput
  · exact h.setPower

theorem Canonical.curveRefused {p} (h : Canonical s) : Canonical (curveRefused s p) := by
  unfold Machine.curveRefused
  dsimp only
  split <;> exact h.setCurveBad.recordAt

theorem Canonical.applyCurve {ws p} (h : Canonical s) : Canonical (applyCurve ws s p) := .ite h (.ite (.setCurveBad (h.foldl .setReg)) h.curveRefused)
theorem Canonical.applyClassV {ws} (h : Canonical s) : Canonical (applyClassV s ws) := .foldl (h.foldl .setReg) .applyCurve
theorem Canonical.setRubric {f} (h : Canonical s) : Canonical (setRubric s f) := h.same
theorem Canonical.publish (h : Canonical s) : Canonical (publish s) := by
  unfold Machine.publish
  exact h.setRubric

theorem Canonical.updateDomain {d} (h : Canonical s) : Canonical (updateDomain s d) := by
  unfold Machine.updateDomain
  exact h.setRubric

theorem Canonical.serviceCheck (h : Canonical s) : Canonical (serviceCheck s) := h.foldl fun h => .ite h.record h
theorem Canonical.acceptCommit {p} (h : Canonical s) : Canonical (acceptCommit s p) :=
  .eachPort (.serviceCheck (.foldl (.setRubric (.same (h.foldl .setReg))) .afterApply)) .barCheck

theorem Canonical.rubricCommit {p} (h : Canonical s) : Canonical (rubricCommit s p) := .ite h.setRubric (.ite h.setRubric h.acceptCommit)
theorem Canonical.rubricAbort (h : Canonical s) : Canonical (rubricAbort s) := h.same.setRubric
theorem Canonical.commitComplete (h : Canonical s) : Canonical (commitComplete s) := h.publish.record
theorem Canonical.brkCommit (h : Canonical s) : Canonical (brkCommit s) := .ite h.applyClassV.setRubric h

/-! ### Operations and commands of Machine/Images.lean -/

theorem Canonical.setImg {f} (h : Canonical s) : Canonical (setImg s f) := h.same
theorem Canonical.editSlot {f} (h : Canonical s) : Canonical (editSlot s f) := h.same
theorem Canonical.imgOpen {cfg} (h : Canonical s) : Canonical (imgOpen s cfg) := .ite h.setImg.editSlot h.setImg
theorem Canonical.execImgOpenFw {t path} (h : Canonical s) : CanonicalNext (execImgOpenFw t path s) := h.privCmd .imgOpen
theorem Canonical.execImgOpenCfg {t path} (h : Canonical s) : CanonicalNext (execImgOpenCfg t path s) := h.privCmd .imgOpen
theorem Canonical.imgEnd {result} (h : Canonical s) : Canonical (imgEnd s result) := h.setImg
theorem Canonical.execImgEraseDone {t ok} (h : Canonical s) : CanonicalNext (execImgEraseDone t ok s) :=
  h.act fun h => h.when fun h => .ite h.editSlot.setImg h.imgEnd

theorem Canonical.imgData {value} (h : Canonical s) : Canonical (imgData s value) := .ite h.setReg (.ite h.setReg.setImg h.setReg.setImg.editSlot)
theorem Canonical.execImgDataWrite {t path value} (h : Canonical s) : CanonicalNext (execImgDataWrite t path value s) := h.privCmd .imgData
theorem Canonical.imgProgram {v} (h : Canonical s) : Canonical (imgProgram s v) := by
  unfold Machine.imgProgram
  exact h.editSlot

theorem Canonical.imgCommit {v} (h : Canonical s) : Canonical (imgCommit s v) :=
  .ite h (.ite h.setImg (.ite h.imgEnd (.ite h.imgEnd.faultReport (.ite h.imgEnd h.imgProgram.imgEnd))))

theorem Canonical.execImgCommit {t path verdict} (h : Canonical s) : CanonicalNext (execImgCommit t path verdict s) := h.privCmd .imgCommit
theorem Canonical.imgCommitFree (h : Canonical s) : Canonical (imgCommitFree s) := h.same.imgCommit
theorem Canonical.execImgAbandon {t path} (h : Canonical s) : CanonicalNext (execImgAbandon t path s) := h.privCmd .abandonImage

/-! ### Operations and commands of Machine/Boot.lean -/

theorem keepRc_wf {warm c} (h : RcCopy.Wf c) : (keepRc warm c).Wf :=
  ⟨filter_wf _ _ _ h.1, filter_wf _ _ _ h.2⟩

theorem Canonical.folioReset {warm} (h : Canonical s) : Canonical (folioReset s warm) :=
  .heatCause ⟨filter_wf _ _ _ h.regs, keepRc_wf h.rcSpi, keepRc_wf h.rcPf⟩

theorem Canonical.takeDirectory {d copy1} (h : Canonical s) : Canonical (takeDirectory s d copy1) := h.setReg.setReg.same
theorem Canonical.reportRefusal (h : Canonical s) : Canonical (reportRefusal s) := h.faultReport
theorem Canonical.reportRefusals : ∀ {k s}, Canonical s → Canonical (reportRefusals k s)
  | 0, _, h => h
  | _ + 1, _, h => h.reportRefusal.reportRefusals

theorem Canonical.bootHold {code} (h : Canonical s) : Canonical (bootHold s code) := h.same
theorem Canonical.bootEngine {e} (h : Canonical s) : Canonical (bootEngine s e) := .ite h.faultReport h.clusterFail
theorem Canonical.bootEngines {bad} (h : Canonical s) : Canonical (bootEngines s bad) := h.foldl .bootEngine
theorem Canonical.bootKeys (h : Canonical s) : Canonical (bootKeys s) := by
  unfold Machine.bootKeys
  dsimp only
  split
  · exact h.reportRefusals.setSeal
  · exact h.reportRefusals

theorem Canonical.applySetting {e} (h : Canonical s) : Canonical (applySetting s e) := by
  unfold Machine.applySetting
  split
  · exact .ite h.setReg h
  · exact h

theorem Canonical.bootCurve {old xs p} (h : Canonical s) : Canonical (bootCurve old xs s p) :=
  .ite h.setCurveBad (.ite (.setCurveBad (h.foldl .setReg)) (.curveRefused (h.foldl .setReg)))

theorem Canonical.applySettings {xs} (h : Canonical s) : Canonical (applySettings s xs) := (h.regsFilter.foldl .applySetting).foldl .bootCurve
theorem Canonical.commitEpochOne (h : Canonical s) : Canonical (commitEpochOne s) :=
  .record (.same (.draw (.publish (h.setRubric.evalMinOver.serviceCheck.eachPort .barCheck))))

theorem Canonical.bootConfig (h : Canonical s) : Canonical (bootConfig s) := by
  unfold Machine.bootConfig
  dsimp only
  split
  · exact h.reportRefusals.same.applySettings.commitEpochOne
  · exact h.reportRefusals.same.applySettings.marker.commitEpochOne

theorem Canonical.bootLoad (h : Canonical s) : Canonical (bootLoad s) := by
  unfold Machine.bootLoad
  split
  · exact h.bootHold
  · dsimp only
    split
    · exact h.takeDirectory.reportRefusals.same.same.bootHold.bootScan
    · exact h.takeDirectory.reportRefusals.same.same.setSeal.bootEngines.bootKeys.bootConfig.bootScan

theorem Canonical.takeNor {nor} (h : Canonical s) : Canonical (takeNor s nor) := by
  unfold Machine.takeNor
  split
  · exact h.same
  · exact h

theorem Canonical.execFolioResetRelease {t nor} (h : Canonical s) : CanonicalNext (execFolioResetRelease t nor s) :=
  h.act fun h => h.when fun h => h.folioReset.enterMode.takeNor.bootLoad

theorem Canonical.linkCause (h : Canonical s) : Canonical (linkCause s) := .ite h.same h
theorem Canonical.warmBoot {persist nor} (h : Canonical s) : Canonical (warmBoot s persist nor) := by
  unfold Machine.warmBoot
  extract_lets s0 s1 src s2 s3
  have h1 : Canonical s1 := .ite h.abandonImage.persistEverything h.abandonImage
  have h2 : Canonical s2 := (h1.same.dropHosts.eachPort .disableOpen).decideNow
  have h3 : Canonical s3 := h2.folioReset.rcCount.enterMode
  exact (h3.foldl .pushRecord).linkCause.takeNor.bootLoad

theorem Canonical.fillBuckets (h : Canonical s) : Canonical (fillBuckets s) := h.same.foldl .pushRecord
theorem Canonical.releaseHeld {x} (h : Canonical s) : Canonical (releaseHeld s x) := by
  unfold Machine.releaseHeld
  split
  · exact h.recordAt.reportPortFet
  · exact h.recordAt.reportInputFet
  · exact h.faultReport.enterQuarantine

theorem Canonical.startPeriods (h : Canonical s) : Canonical (startPeriods s) := h.same
theorem Canonical.leaveBoot (h : Canonical s) : Canonical (leaveBoot s) := by
  unfold Machine.leaveBoot
  extract_lets target src1 s1 src2 s2 s3
  have h1 : Canonical s1 := h.same.heatCause.passCause
  have h2 : Canonical s2 := .ite h1.enterMode h1.same.enterMode
  have h3 : Canonical s3 := h2.applyPortModes.recomputeShares.homeStampAll.eachPort .presentRp
  exact .ite h3 (.ite h3.enterBrownout.brownoutSheds.flushAfterSheds h3.brownoutSheds.flushAfterSheds)

theorem Canonical.bootEnd (h : Canonical s) : Canonical (bootEnd s) := .leaveBoot (h.draw.same.fillBuckets.startPeriods.same.foldl .releaseHeld)
theorem Canonical.execBootEnd {t} (h : Canonical s) : CanonicalNext (execBootEnd t s) := h.act fun h => h.when .bootEnd

/-! ### Operations and commands of Machine/Admission.lean -/

theorem Canonical.allocCtx (h : Canonical s) : Canonical (allocCtx s).1 := h.draw
theorem Canonical.refuseAdmission {n v resource ctx} (h : Canonical s) : Canonical (refuseAdmission s n v resource ctx) := h.rcCount.record

/-! ### Operations and commands of Machine/HostCmds.lean -/

theorem Canonical.markStarted {v slot} (h : Canonical s) : Canonical (markStarted s v slot) := h.setVi
theorem Canonical.startOn {v e f} (h : Canonical s) (hf : ∀ {u e n}, Canonical u → Canonical (f u e n)) : Canonical (startOn s v e f) :=
  .ite h.markStarted.finishCmd (.ite h.markStarted.finishCmd (.ite h.markStarted.finishCmd (hf h.markStarted)))

/-- The frame of a ring command (R108, R110). -/
theorem Canonical.runCmd {t v slot type pick f} (h : Canonical s) (hf : ∀ {u e n}, Canonical u → Canonical (f u e n)) :
    CanonicalNext (runCmd t v slot type pick s f) := h.act fun h => by
  split
  · exact h.when fun h => h.startOn hf
  · exact h

theorem Canonical.execNoopCmd {t v slot} (h : Canonical s) : CanonicalNext (execNoopCmd t v slot s) := h.runCmd .finishCmd
theorem Canonical.execClaim {t v slot} (h : Canonical s) : CanonicalNext (execClaim t v slot s) := h.runCmd fun h => .ite h.finishCmd h.stampP4
theorem Canonical.execRelease {t v slot} (h : Canonical s) : CanonicalNext (execRelease t v slot s) := h.runCmd .stampP4
theorem Canonical.execRenewLease {t v slot} (h : Canonical s) : CanonicalNext (execRenewLease t v slot s) := h.runCmd fun h => h.renewLeases.finishCmd
theorem Canonical.resetPort {v e n warm} (h : Canonical s) : Canonical (resetPort s v e n warm) := .ite h.finishCmd h.releaseTree.setNib.resetBoth
theorem Canonical.execResetPort {t v slot} (h : Canonical s) : CanonicalNext (execResetPort t v slot s) := h.runCmd .resetPort
theorem Canonical.execResetPortWarm {t v slot} (h : Canonical s) : CanonicalNext (execResetPortWarm t v slot s) := h.runCmd .resetPort
theorem Canonical.execResetPortTimeout {t port} (h : Canonical s) : CanonicalNext (execResetPortTimeout t port s) := h.act fun h => h.when .finishReset
theorem Canonical.suspendPort {v e n} (h : Canonical s) : Canonical (suspendPort s v e n) := by
  refine .ite h.finishCmd ?_
  split
  · exact h.setNib.treeSuspend
  · exact h.setNib
  · exact h.finishCmd
  · exact h.setNib

theorem Canonical.execSuspendPort {t v slot} (h : Canonical s) : CanonicalNext (execSuspendPort t v slot s) := h.runCmd .suspendPort
theorem Canonical.execResumePort {t v slot} (h : Canonical s) : CanonicalNext (execResumePort t v slot s) := h.runCmd fun h => by
  refine .ite h.finishCmd ?_
  split
  · exact h.finishCmd
  · exact h.setNib
  · exact h.setNib
  · exact h.setNib.treeResume

theorem Canonical.suspendDone {n u3} (h : Canonical s) : Canonical (suspendDone s n u3) := by
  unfold Machine.suspendDone
  dsimp only
  split
  · exact h.setNib.finishCmd.portStateNotice
  · exact h.setNib

theorem Canonical.execSuspendComplete {t port u3} (h : Canonical s) : CanonicalNext (execSuspendComplete t port u3 s) := h.act fun h => by
  split
  · exact h.when .suspendDone
  · exact h

theorem Canonical.execResumeSignalEnd {t port} (h : Canonical s) : CanonicalNext (execResumeSignalEnd t port s) := h.act fun h => by
  split
  · exact h.when fun h => .ite h.setNib.emit.emit h.setNib
  · exact h

theorem Canonical.resumeDone {n} (h : Canonical s) : Canonical (resumeDone s n) := by
  unfold Machine.resumeDone
  extract_lets b s1 s2 s3
  have h2 : Canonical s2 := by
    dsimp only [s2]
    split
    · exact h.setNib.finishCmd.portStateNotice
    · exact .ite h.setNib.notice h.setNib
  split
  · exact h2.hubResumed.refreshAges.setNib.treeSuspend
  · exact h2.hubResumed.refreshAges

theorem Canonical.execResumeComplete {t port} (h : Canonical s) : CanonicalNext (execResumeComplete t port s) := h.act fun h => by
  split
  · exact h.when .resumeDone
  · exact h

theorem Canonical.execAddressDevice {t v slot} (h : Canonical s) : CanonicalNext (execAddressDevice t v slot s) := h.runCmd fun h => by
  refine .ite h.finishCmd ?_
  split
  · exact h.finishCmd
  · dsimp only
    split
    · exact h.allocCtx.setNib.emit
    · exact h.allocCtx.finishCmd

theorem Canonical.addressDone {n a} (h : Canonical s) : Canonical (addressDone s n a) := h.same.setNib.finishCmd
theorem Canonical.execSetAddressRecovery {t port} (h : Canonical s) : CanonicalNext (execSetAddressRecovery t port s) := h.act fun h => by
  split
  · split
    · exact h.when .addressDone
    · exact h
  · exact h

theorem Canonical.execDisableDevice {t v slot} (h : Canonical s) : CanonicalNext (execDisableDevice t v slot s) :=
  h.runCmd fun h => .ite (.refreshAges (.finishCmd (.releaseDevice (h.foldl .abandonSplit)))) h.finishCmd

theorem Canonical.configureEp {v e n} (h : Canonical s) : Canonical (configureEp s v e n) := by
  refine .ite h.finishCmd ?_
  refine .ite h.finishCmd ?_
  refine .ite ?_ ?_
  · split
    · exact h.allocCtx.same.finishCmd
    · exact h.allocCtx.finishCmd
  · dsimp only
    split
    · exact h.allocCtx.refuseAdmission.finishCmd
    · exact h.allocCtx.refuseAdmission.finishCmd
    · exact h.allocCtx.same.finishCmd

theorem Canonical.execConfigureEndpoint {t v slot} (h : Canonical s) : CanonicalNext (execConfigureEndpoint t v slot s) := h.runCmd .configureEp
theorem Canonical.execBindEndpointRing {t v slot} (h : Canonical s) : CanonicalNext (execBindEndpointRing t v slot s) :=
  h.runCmd fun h => .ite h.finishCmd (.ite h.finishCmd h.setEp.finishCmd)

theorem Canonical.settleIdle {ctx} (h : Canonical s) : Canonical (settleIdle s ctx) := by
  unfold Machine.settleIdle
  split
  · exact .ite h.settleCtx h
  · exact h

theorem Canonical.stopNow {v slot ctx n} (h : Canonical s) : Canonical (stopNow s v slot ctx n) := by
  unfold Machine.stopNow
  extract_lets s1 s2 s3
  have h1 : Canonical s1 := by
    dsimp only [s1]
    split
    · exact h.abandonSplit.endAndSettle
    · exact h
  have h3 : Canonical s3 := h1.stopEp.setEp.settleIdle.refreshAges
  split
  · exact h3.finishCmd
  · exact h3.draw.finishCmd

theorem Canonical.execStopEndpoint {t v slot onWire} (h : Canonical s) : CanonicalNext (execStopEndpoint t v slot onWire s) :=
  h.runCmd fun h => .ite h.setEp h.stopNow

theorem Canonical.execResetEndpoint {t v slot} (h : Canonical s) : CanonicalNext (execResetEndpoint t v slot s) := h.runCmd fun h => h.setEp.finishCmd
theorem Canonical.execDisableEndpoint {t v slot} (h : Canonical s) : CanonicalNext (execDisableEndpoint t v slot s) :=
  h.runCmd fun h => h.abandonSplit.releaseEp.finishCmd.refreshAges

theorem Canonical.execSetReadAhead {t v slot} (h : Canonical s) : CanonicalNext (execSetReadAhead t v slot s) :=
  h.runCmd fun h => .ite h.finishCmd h.setEp.claimRoom.finishCmd

theorem Canonical.execReadAheadOff {t v slot} (h : Canonical s) : CanonicalNext (execReadAheadOff t v slot s) :=
  h.runCmd fun h => h.setEp.settleIdle.finishCmd

theorem Canonical.execQueryPort {t v slot} (h : Canonical s) : CanonicalNext (execQueryPort t v slot s) :=
  h.runCmd fun h => .ite h.finishCmd (.ite h.hostWrite.finishCmd h.finishCmd)

theorem Canonical.execQueryVi {t v slot} (h : Canonical s) : CanonicalNext (execQueryVi t v slot s) :=
  h.runCmd fun h => .ite h.hostWrite.finishCmd h.finishCmd

theorem Canonical.replayOne {v c} (h : Canonical s) : Canonical (replayOne s v c) := .pushDue (h.foldl .hostWrite)
theorem Canonical.replayAll {v cs} (h : Canonical s) : Canonical (replayAll s v cs) := h.foldl .replayOne
theorem Canonical.execReplay {t v slot} (h : Canonical s) : CanonicalNext (execReplay t v slot s) := h.runCmd fun h => h.earlierNotices.replayAll.finishCmd
theorem Canonical.endResync {v} (h : Canonical s) : Canonical (endResync s v) := h.setVi.deliverAll.same.kickFetch.refreshAges
theorem Canonical.execResume {t v slot} (h : Canonical s) : CanonicalNext (execResume t v slot s) :=
  h.runCmd fun h => .ite h.finishCmd h.setVi.replayAll.finishCmd.endResync

/-! ### Operations and commands of Machine/Bus.lean -/

theorem Canonical.observe {e x} (h : Canonical s) : Canonical (observe s e x) := h.same
theorem Canonical.countBusError {n} (h : Canonical s) : Canonical (countBusError s n) := h.rcCount
theorem Canonical.xferError {e x} (h : Canonical s) : Canonical (xferError s e x) := .ite h.countBusError.setXfer.concludeXfer h.countBusError.setXfer
theorem Canonical.xferWaits {e x r} (h : Canonical s) : Canonical (xferWaits s e x r) := by
  unfold Machine.xferWaits
  dsimp only
  split
  · exact h.setXfer.setEp
  · exact h.setXfer.setEp
  · exact h.setXfer.setEp
  · exact .ite h.setXfer h.setXfer.setEp
  · exact h.setXfer.setEp

theorem Canonical.bumpToggle {e} (h : Canonical s) : Canonical (bumpToggle s e) := h.setEp
theorem Canonical.takeIn {e x bs} (h : Canonical s) : Canonical (takeIn s e x bs).1 := h.writeIn.setXfer.settleCtx
theorem Canonical.bulkIn {e x bs ok} (h : Canonical s) : Canonical (bulkIn s e x bs ok) :=
  .ite h.setXfer <|
    .ite h.takeIn.bumpToggle.concludeXfer <|
    .ite h.takeIn.bumpToggle.concludeXfer (.ite h.takeIn.bumpToggle.concludeXfer h.takeIn.bumpToggle)

theorem Canonical.takeOut {e x} (h : Canonical s) : Canonical (takeOut s e x).1 := h.setXfer.settleCtx
theorem Canonical.bulkOut {e x nyet} (h : Canonical s) : Canonical (bulkOut s e x nyet) :=
  .ite h.setXfer.setEp (.ite h.takeOut.bumpToggle.setEp.concludeXfer h.takeOut.bumpToggle.setEp)

theorem Canonical.bulkXact {e x r} (h : Canonical s) : Canonical (bulkXact s e x r) := by
  unfold Machine.bulkXact
  split
  · exact h.concludeXfer
  · exact h.xferError
  · exact .ite h.takeIn.concludeXfer h
  · exact .ite h.bulkIn h
  · exact .ite h h.bulkOut
  · exact .ite h.xferWaits h.bulkOut
  · exact h.xferWaits

theorem Canonical.controlDone {e x} (h : Canonical s) : Canonical (controlDone s e x) := .ite h.concludeXfer h.observe.concludeXfer
theorem Canonical.controlMoves {e x data} (h : Canonical s) : Canonical (controlMoves s e x data) := by
  unfold Machine.controlMoves
  dsimp only
  split
  · exact h.setEp.setXfer
  · exact .ite h (.ite h.setEp.takeIn.concludeXfer (.ite h.setEp.takeIn.setXfer h.setEp.takeIn))
  · exact .ite h (.ite h.setEp.takeOut.setXfer h.setEp.takeOut)
  · exact .ite h.setEp.setXfer.controlDone h
  · exact .ite h h.setEp.setXfer.controlDone
  · exact h

theorem Canonical.controlXact {e x r} (h : Canonical s) : Canonical (controlXact s e x r) := by
  unfold Machine.controlXact
  split
  · exact h.concludeXfer
  · exact h.xferError
  · exact .ite h.takeIn.concludeXfer h
  · exact .ite h.controlMoves h.setXfer
  · exact h.controlMoves
  · exact .ite h.xferWaits h.controlMoves
  · exact h.xferWaits

theorem Canonical.isochWrite {e x} (h : Canonical s) : Canonical (isochWrite s e x).1 := h.writeIn.setXfer
theorem Canonical.isochEnd {e x code} (h : Canonical s) : Canonical (isochEnd s e x code) := .ite h.isochWrite.concludeXfer h.concludeXfer
theorem Canonical.isochXact {e x r} (h : Canonical s) : Canonical (isochXact s e x r) := by
  unfold Machine.isochXact
  dsimp only
  split
  · exact .ite (.ite h.setXfer h.setXfer) h
  · exact .ite (.ite h.setXfer h.setXfer) h
  · exact h.countBusError.isochEnd
  · exact .ite h h.setXfer
  · exact h

theorem Canonical.isochBegin {e x} (h : Canonical s) : Canonical (isochBegin s e x) := .ite h.setXfer (.ite h.emit.concludeXfer h.setXfer)
theorem Canonical.isochStep {ctx} : ∀ {k s}, Canonical s → Canonical (isochStep k s ctx)
  | 0, _, h => h
  | _ + 1, _, h => by
    unfold Machine.isochStep
    split
    · exact h
    · split
      · exact h
      · refine .ite h ?_
        split
        · split
          · exact h.concludeXfer.isochStep
          · exact h
        · exact .ite h.isochEnd.isochStep (.ite h.isochBegin h)

theorem Canonical.isochBoundary {n} (h : Canonical s) : Canonical (isochBoundary s n) := by
  unfold Machine.isochBoundary
  split
  · exact h
  · exact .ite h (h.foldl .isochStep)

theorem Canonical.raXact {e r} (h : Canonical s) : Canonical (raXact s e r) := by
  unfold Machine.raXact
  dsimp only
  split
  · exact .ite h.setEp (.ite h.setEp h.setEp.bumpToggle.setEp.settleCtx)
  · exact h.setEp
  · exact h.setEp
  · exact .ite h.countBusError.setEp.abandonSplit.setEp h.countBusError.setEp
  · exact h.setEp.setEp
  · exact h.setEp.setEp
  · exact h.setEp
  · exact h.setEp.setEp

theorem Canonical.busActive {n ss} (h : Canonical s) : Canonical (busActive s n ss) := h.setNib
theorem Canonical.resetAge {ctx} (h : Canonical s) : Canonical (resetAge s ctx) := h.setEp
theorem Canonical.epXact {e r} (h : Canonical s) : Canonical (epXact s e r) := by
  unfold Machine.epXact
  extract_lets s1 s2
  have h1 : Canonical s1 := h.busActive.resetAge
  have h2 : Canonical s2 := by
    dsimp only [s2]
    split
    · refine .ite ?_ (.ite h1.raXact h)
      have h0 {b : Bool} {o} : Canonical (if b then Machine.emit s1 o else s1) := .ite h1.emit h1
      split
      · exact .ite h0.controlXact (.ite h0.isochXact h0.bulkXact)
      · exact h0
    · exact .ite h1.raXact (.ite h.setEp h)
  split
  · exact h2.stopNow
  · exact h2.advance

theorem Canonical.previewXact {n r} (h : Canonical s) : Canonical (previewXact s n r) := by
  unfold Machine.previewXact
  dsimp only
  split
  · exact h
  · split
    · exact .ite h.setNib.endPreview (.ite h.setNib.previewSend h.setNib.endPreview)
    · exact h.endPreview
    · exact h.endPreview
    · exact .ite h.countBusError.setNib.endPreview h.countBusError.setNib.previewSend
    · exact h

theorem Canonical.addressXact {n r} (h : Canonical s) : Canonical (addressXact s n r) := by
  unfold Machine.addressXact
  split
  · exact h
  · refine .ite h ?_
    split
    · exact h.setNib
    · exact h.setNib
    · exact h.setNib.finishCmd
    · exact .ite h.countBusError.setNib.rcCount.setNib.finishCmd h.countBusError.setNib.emit
    · exact h

theorem Canonical.busXact {n who r} (h : Canonical s) : Canonical (busXact s n who r) := by
  unfold Machine.busXact
  split
  · exact h.when .previewXact
  · exact h.addressXact
  · exact h.ligXact
  · exact h.when .funcInToken
  · split
    · exact h.when .epXact
    · exact h

/-! ### Operations and commands of Machine/BusCmds.lean -/

theorem Canonical.execBusTransaction {t port who result} (h : Canonical s) : CanonicalNext (execBusTransaction t port who result s) :=
  h.act fun h => h.when .busXact

theorem Canonical.execTurnaroundTimeout {t port who} (h : Canonical s) : CanonicalNext (execTurnaroundTimeout t port who s) :=
  h.act fun h => h.when .busXact

theorem Canonical.execPreviewTimeLimit {t port} (h : Canonical s) : CanonicalNext (execPreviewTimeLimit t port s) := h.act fun h => by
  split
  · exact h.when .endPreview
  · exact h

theorem Canonical.execEndpointPromotion {t ctx} (h : Canonical s) : CanonicalNext (execEndpointPromotion t ctx s) := h.act fun h => by
  split
  · split
    · exact h.when .setEp
    · exact h
  · exact h

theorem Canonical.outArrived {v ctx data failed} (h : Canonical s) : Canonical (outArrived s v ctx data failed) := by
  unfold Machine.outArrived
  split
  · exact h
  · split
    · exact h
    · exact .ite (.ite h.setXfer.concludeXfer h.setXfer.advance) h.setXfer.settleCtx.advance

theorem Canonical.readArrived {v what data failed} (h : Canonical s) : Canonical (readArrived s v what data failed) := by
  unfold Machine.readArrived
  split
  · exact h.when .fetchComplete
  · exact h.outArrived

theorem Canonical.execRdmaReadResponse {t v what data} (h : Canonical s) : CanonicalNext (execRdmaReadResponse t v what data s) :=
  h.act fun h => h.when .readArrived

theorem Canonical.execDmaReadCompletion {t v what data failed} (h : Canonical s) : CanonicalNext (execDmaReadCompletion t v what data failed s) :=
  h.act fun h => h.when fun h => .readArrived (.ite h.rcCount h)

theorem Canonical.execIsochDataFetch {t ctx} (h : Canonical s) : CanonicalNext (execIsochDataFetch t ctx s) := h.act fun h => h.when fun h => by
  split
  · exact h
  · exact h.when fun h => h.foldl .askOut

theorem Canonical.rootConnected {n ss} (h : Canonical s) : Canonical (rootConnected s n ss) := by
  unfold Machine.rootConnected
  dsimp only
  split
  · exact .ite (.ite h.setNib h.setNib.attachRoot) (.reset2 (.ite h.setNib.setNib h.setNib))
  · exact .ite h.setNib h.setNib.viewConnect
  · exact .ite h.setNib.notice h.setNib

theorem Canonical.execUsb2ConnectDebounced {t port low} (h : Canonical s) : CanonicalNext (execUsb2ConnectDebounced t port low s) :=
  h.act fun h => h.when fun h => h.setNib.rootConnected

theorem Canonical.execReceiverDetect {t port found gen2} (h : Canonical s) : CanonicalNext (execReceiverDetect t port found gen2 s) :=
  h.act fun h => h.when fun h => .ite h.emit.setNib.emit h.emit.setNib

theorem Canonical.pathReset {n ss fresh} (h : Canonical s) : Canonical (pathReset s n ss fresh) := by
  refine .ite h.setNib.finishReset ?_
  refine .ite h.setNib.rootConnected ?_
  split
  · exact .ite h.setNib h.setNib.attachRoot
  · exact h.setNib

theorem Canonical.execSsU0Entry {t port gen2} (h : Canonical s) : CanonicalNext (execSsU0Entry t port gen2 s) := h.act fun h => h.when fun h => by
  dsimp only
  split
  · exact h.setNib.pathReset
  · exact .ite h.setNib.hubResetSDone h.setNib.pathReset
  · exact h.setNib
  · exact h.setNib
  · exact h.when .setNib
  · exact h

theorem Canonical.execSsTrainingTimeout {t port} (h : Canonical s) : CanonicalNext (execSsTrainingTimeout t port s) := h.act fun h => by
  split
  · exact h.when fun h => h.setNib.rcCount.portStateNotice.finishReset
  · exact h

theorem Canonical.execDeviceChirpSeen {t port startUs tenths} (h : Canonical s) :
    CanonicalNext (execDeviceChirpSeen t port startUs tenths s) := h.act fun h => h.when fun h => by
  split
  · exact h.when fun h => h.setCPort.emit
  · exact h.when fun h => h.setNib.emit
  · exact h

theorem Canonical.alignBus {n} (h : Canonical s) : Canonical (alignBus s n) := by
  unfold Machine.alignBus
  split
  · exact h.setNib
  · exact h

theorem Canonical.execRootResetEnd {t port} (h : Canonical s) : CanonicalNext (execRootResetEnd t port s) := h.act fun h => by
  split
  · exact h.when fun h => h.setNib.emit.alignBus.pathReset
  · exact h

theorem Canonical.execResetRecoveryEnd {t port} (h : Canonical s) : CanonicalNext (execResetRecoveryEnd t port s) := h.act fun h => by
  split
  · exact h.when fun h => .ite h.setNib.previewSend h.setNib.refreshAges
  · exact h

theorem Canonical.breakEp {ctx code} (h : Canonical s) : Canonical (breakEp s ctx code) := by
  unfold Machine.breakEp
  split
  · exact h
  · exact .ite h (.ite h.abandonSplit.endQueue.haltEp h.abandonSplit.endQueue)

theorem Canonical.execBabbleDetected {t port ctx} (h : Canonical s) : CanonicalNext (execBabbleDetected t port ctx s) := h.act fun h => h.when fun h => by
  extract_lets s1 s2 s3 s4
  have h1 : Canonical s1 := h.setNib.rcCount
  have h2 : Canonical s2 := by
    dsimp only [s2]
    split
    · refine .ite ?_ h1
      split
      · exact h1.concludeXfer
      · exact h1
    · exact h1
  have h3 : Canonical s3 := h2.foldl .breakEp
  have h4 : Canonical s4 := by
    dsimp only [s4]
    split
    · exact h3.setView
    · exact h3
  exact h4.portStateNotice.refreshAges

theorem Canonical.settleSusp {n} (h : Canonical s) : Canonical (settleSusp s n) := h.setNib
theorem Canonical.execUsb2Disconnect {t port} (h : Canonical s) : CanonicalNext (execUsb2Disconnect t port s) :=
  h.act fun h => h.when fun h => h.pathGone.settleSusp.finishReset

theorem Canonical.execSsLinkLost {t port} (h : Canonical s) : CanonicalNext (execSsLinkLost t port s) :=
  h.act fun h => h.when fun h => h.pathGone.settleSusp.finishReset

theorem Canonical.execClearTtBufferDone {t port ok} (h : Canonical s) : CanonicalNext (execClearTtBufferDone t port ok s) := h.act fun h => by
  split
  · exact h
  · exact h.when fun h => .ite h.setNib.setEp.advance h.setNib.record

theorem Canonical.execL1Entry {t port acked} (h : Canonical s) : CanonicalNext (execL1Entry t port acked s) := h.act fun h => h.when fun h => h.emit.setNib
theorem Canonical.execU1Entry {t port byDevice} (h : Canonical s) : CanonicalNext (execU1Entry t port byDevice s) :=
  h.act fun h => h.when fun h => .setNib (.ite h h.emit)

theorem Canonical.execU2Entry {t port byDevice} (h : Canonical s) : CanonicalNext (execU2Entry t port byDevice s) :=
  h.act fun h => h.when fun h => .setNib (.ite h h.emit)

theorem Canonical.execLpmRefusalHoldExpiry {t port} (h : Canonical s) : CanonicalNext (execLpmRefusalHoldExpiry t port s) := h.act fun h => by
  split
  · exact h.when .setNib
  · exact h

theorem Canonical.execRemoteWake {t port ss} (h : Canonical s) : CanonicalNext (execRemoteWake t port ss s) := h.act fun h => h.when fun h => by
  dsimp only
  split
  · exact .ite h.wakeSource.setNib.treeResume h.wakeSource
  · exact .ite (.ite h.wakeSource.treeResume.emit h.wakeSource.treeResume) h.wakeSource
  · exact .ite h.wakeSource.record.notice h.wakeSource

theorem Canonical.stuckNotice {n} (h : Canonical s) : Canonical (stuckNotice s n) := h.notice
theorem Canonical.stuckWait {n k} (h : Canonical s) : Canonical (stuckWait s n k) := h.setNib.stuckNotice
theorem Canonical.declareStuck {n} (h : Canonical s) : Canonical (declareStuck s n) := h.releasePath.viewDisconnect.setNib.rcCount.record.stuckWait
theorem Canonical.execStuckProbe {t port failed connects} (h : Canonical s) : CanonicalNext (execStuckProbe t port failed connects s) :=
  h.act fun h => h.when fun h => .via (fun h => .ite h.setNib (.ite h.setNib h.declareStuck)) (.ite h h.emit)

theorem Canonical.execStuckRetest {t port passed} (h : Canonical s) : CanonicalNext (execStuckRetest t port passed s) :=
  h.act fun h => h.when fun h => .ite h.emit.setNib h.emit.stuckWait

/-! ### Operations and commands of Machine/MarginCmds.lean -/

theorem Canonical.execHeartbeat {t} (h : Canonical s) : CanonicalNext (execHeartbeat t s) := h.act fun h => h.when fun h => .same (h.foldl .heartbeatInto)
theorem Canonical.bcGate {p f} (h : Canonical s) (hf : Canonical s → Canonical (f s)) : Canonical (bcGate s p f) := .ite (hf h) h.recordAt
theorem Canonical.openHead (h : Canonical s) : Canonical (openHead s) := by
  unfold Machine.openHead
  split
  · exact h
  · split
    · exact h
    · exact h.setQueue.same

theorem Canonical.bcHeadRead {p which} (h : Canonical s) : Canonical (bcHeadRead s p which).1 := .iteFst h.openHead (h.bcGate fun h => h)
theorem Canonical.execBcHeadRead {t path which} (h : Canonical s) : CanonicalNext (execBcHeadRead t path which s) :=
  h.act fun h => h.when fun h => .ite h.bcHeadRead.emit h.privDenied.emit

theorem Canonical.popWord (h : Canonical s) : Canonical (popWord s) := by
  unfold Machine.popWord
  dsimp only
  split
  · exact h
  · exact .ite h.openHead.same h.openHead.same

theorem Canonical.skipNotice (h : Canonical s) : Canonical (skipNotice s) := h.same
theorem Canonical.execBcPop {t path} (h : Canonical s) : CanonicalNext (execBcPop t path s) := h.privCmd fun h => h.bcGate .popWord
theorem Canonical.execBcSkip {t path} (h : Canonical s) : CanonicalNext (execBcSkip t path s) := h.privCmd fun h => h.bcGate .skipNotice
theorem Canonical.flushBoard (h : Canonical s) : Canonical (flushBoard s) := h.setQueue.same
theorem Canonical.execBcFlush {t path} (h : Canonical s) : CanonicalNext (execBcFlush t path s) := h.privCmd fun h => h.bcGate .flushBoard
theorem Canonical.irqAck (h : Canonical s) : Canonical (irqAck s) := h.same
theorem Canonical.execBcIrqAck {t path} (h : Canonical s) : CanonicalNext (execBcIrqAck t path s) := h.privCmd .irqAck
theorem Canonical.execIrqLineSample {t low} (h : Canonical s) : CanonicalNext (execIrqLineSample t low s) :=
  h.act fun h => h.when fun h => h.same.recordLimited .record

theorem Canonical.execIrqLineHigh {t} (h : Canonical s) : CanonicalNext (execIrqLineHigh t s) := h.act .same

/-! ### Operations and commands of Machine/Modes.lean -/

theorem Canonical.bootPath {n} (h : Canonical s) : Canonical (bootPath s n) := .converterOff (.ite h.gateOff h)
theorem Canonical.copyLocal {e} (h : Canonical s) : Canonical (copyLocal s e) := h.pushRecord
theorem Canonical.countLocal {e} (h : Canonical s) : Canonical (countLocal s e) := .ite h.rcCount (.ite h.rcCount (.ite h.rcCount h))
theorem Canonical.linkFirstUp (h : Canonical s) : Canonical (linkFirstUp s) := .eachPort (h.same.marker.foldl fun h => h.copyLocal.countLocal) .bootPath
theorem Canonical.execD2dLinkFirstUp {t} (h : Canonical s) : CanonicalNext (execD2dLinkFirstUp t s) := h.act fun h => h.when .linkFirstUp
theorem Canonical.execD2dFrame {t payload crc} (h : Canonical s) : CanonicalNext (execD2dFrame t payload crc s) :=
  h.act fun h => h.when fun h => .ite h.same h.emit

theorem Canonical.stopSwitchOn {n} (h : Canonical s) : Canonical (stopSwitchOn s n) := .ite (.ite h.setPower.powerOffPort h.setPower) h
theorem Canonical.linkLost (h : Canonical s) : Canonical (linkLost s) :=
  .via (fun h => .ite h.faultReport h.faultReport.same.enterQuarantine) (h.same.eachPort .stopSwitchOn)

theorem Canonical.execD2dLinkLost {t} (h : Canonical s) : CanonicalNext (execD2dLinkLost t s) := h.act fun h => h.when .linkLost
theorem Canonical.linkHoldExpiry (h : Canonical s) : Canonical (linkHoldExpiry s) :=
  h.same.eachPort fun h => .ite (.ite h.quarantineOff (.ite h.gateOff h.gateOff.converterOff)) h

theorem Canonical.execLinkLossHoldExpiry {t} (h : Canonical s) : CanonicalNext (execLinkLossHoldExpiry t s) := h.act fun h => h.when .linkHoldExpiry
theorem Canonical.linkRestored (h : Canonical s) : Canonical (linkRestored s) := h.same.eachPort fun h => .ite h.quarantineOff h
theorem Canonical.execD2dLinkRestored {t} (h : Canonical s) : CanonicalNext (execD2dLinkRestored t s) := h.act fun h => h.when .linkRestored
theorem Canonical.railFail (h : Canonical s) : Canonical (railFail s) :=
  .followInput (.same (h.folioReset.eachPort fun h => .ite h h.setPower.converterOff))

theorem Canonical.execFolioRailFail {t} (h : Canonical s) : CanonicalNext (execFolioRailFail t s) := h.act fun h => h.when .railFail
theorem Canonical.execResetNPulse {t nor} (h : Canonical s) : CanonicalNext (execResetNPulse t nor s) := h.act fun h => h.when .warmBoot
theorem Canonical.execHoldupFlushComplete {t} (h : Canonical s) : CanonicalNext (execHoldupFlushComplete t s) :=
  h.act fun h => h.when fun h => .ite h.warmBoot h.same

theorem Canonical.execParkedInputRestored {t} (h : Canonical s) : CanonicalNext (execParkedInputRestored t s) := h.act fun h => h.when .warmBoot
theorem Canonical.answerMode {code} (h : Canonical s) : Canonical (answerMode s code) := h.same
theorem Canonical.modeManaged (h : Canonical s) : Canonical (modeManaged s) := .ite h.answerMode.enterMode.homeStampAll h.refuseMode
theorem Canonical.execModeManaged {t path} (h : Canonical s) : CanonicalNext (execModeManaged t path s) := h.privCmd .modeManaged
theorem Canonical.startSuspend (h : Canonical s) : Canonical (startSuspend s) := h.same.eachPort fun h => .ite h.treeSuspend h
theorem Canonical.modeSuspend (h : Canonical s) : Canonical (modeSuspend s) := .ite h.refuseMode (.ite h.answerMode (.ite h.answerMode h.startSuspend))
theorem Canonical.execModeSuspend {t path} (h : Canonical s) : CanonicalNext (execModeSuspend t path s) := h.privCmd .modeSuspend
theorem Canonical.execSuspendReached {t} (h : Canonical s) : CanonicalNext (execSuspendReached t s) :=
  h.act fun h => h.when fun h => h.same.answerMode.enterMode

theorem Canonical.enterStandby (h : Canonical s) : Canonical (enterStandby s) :=
  .same (.decideNow (.dropHosts (.lastNotices (h.abandonImage.same.enterMode.eachPort .disableOpen))))

theorem Canonical.modeStandby (h : Canonical s) : Canonical (modeStandby s) := .ite h.refuseMode (.ite h.answerMode h.enterStandby)
theorem Canonical.execModeStandby {t path} (h : Canonical s) : CanonicalNext (execModeStandby t path s) := h.privCmd .modeStandby
theorem Canonical.execStandbyReached {t} (h : Canonical s) : CanonicalNext (execStandbyReached t s) :=
  h.act fun h => h.when fun h => h.same.applyPortModes.eachPort .converterOff

theorem Canonical.modeWake (h : Canonical s) : Canonical (modeWake s) := .ite h.answerMode.wakeSource (.ite h.answerMode.warmBoot h.refuseMode)
theorem Canonical.execModeWake {t path} (h : Canonical s) : CanonicalNext (execModeWake t path s) := h.privCmd .modeWake
theorem Canonical.modeReboot (h : Canonical s) : Canonical (modeReboot s) := .ite h.refuseMode h.answerMode.warmBoot
theorem Canonical.execModeReboot {t path} (h : Canonical s) : CanonicalNext (execModeReboot t path s) := h.privCmd .modeReboot
theorem Canonical.execStandbyWakeAttach {t port} (h : Canonical s) : CanonicalNext (execStandbyWakeAttach t port s) := h.act fun h => h.when .warmBoot

/-! ### Operations and commands of Machine/SetupSpace.lean -/

theorem Canonical.readLow {p a} (h : Canonical s) : Canonical (readLow s p a).1 := h.same
theorem Canonical.readHigh {p a} (h : Canonical s) : Canonical (readHigh s p a).1 := by
  unfold Machine.readHigh
  split
  · exact h.same
  · exact h

theorem Canonical.readStatus {p a} (h : Canonical s) : Canonical (readStatus s p a).1 :=
  .iteFst h.bcHeadRead (.iteFst h.bcHeadRead (.iteFst h.bcHeadRead (.iteFst h.readLow (.iteFst h.readHigh h))))

theorem Canonical.readReg {p a} (h : Canonical s) : Canonical (readReg s p a).1 := by
  unfold Machine.readReg
  split
  · exact h
  · refine .iteFst h.privDenied ?_
    refine .iteFst h.accessFault ?_
    split
    · exact h
    · exact h
    · exact h.rcClear
    · exact h.readStatus

/-- One bit of a write-1 register: its action where the bit is set. -/
theorem Canonical.bit {b : Bool} {f : State → State} (h : Canonical s) (hf : Canonical s → Canonical (f s)) : Canonical (if b then f s else s) :=
  .ite (hf h) h

theorem Canonical.modeCtrl {w} (h : Canonical s) : Canonical (modeCtrl s w) :=
  .ite h.refuseMode (.bit (.bit (.bit (.bit (h.bit .modeManaged) .modeSuspend) .modeStandby) .modeWake) .modeReboot)

theorem Canonical.w1pGlobal {p a w} (h : Canonical s) : Canonical (w1pGlobal s p a w) :=
  .ite (.ite h.rubricAbort (.ite h.rubricCommit h)) <|
    .ite (h.bit .timeSample) <|
    .ite h.modeCtrl <|
    .ite (.bit (.bit (.bit (h.bit .imgOpen) .imgOpen) .imgCommitFree) .abandonImage) <|
    .ite (h.bit .quarExit) <|
    .ite (.bit (.bit (h.bit .advanceFloor) .returnArm) .returnDisarm) <|
    .ite (.bit (.bit (h.bit .keyLoad) .keyWithdraw) .fuseOwner) h

theorem Canonical.w1pBlock {p a w} (h : Canonical s) : Canonical (w1pBlock s p a w) :=
  .ite (.bit (h.bit .inputClear) .inputFetClear) <|
    .ite (.bit (.bit (h.bit .palFreeze) .palUnfreeze) .palVerify) <|
    .ite (.ite h (.bit (.bit (h.bit .startLoad) .palNext) .palPrev)) <|
    .ite (h.bit .irqAck) <|
    .ite (.bit (h.bit fun h => h.bcGate .popWord) fun h => h.bcGate .skipNotice) <|
    .ite (h.bit fun h => h.bcGate .flushBoard) (.dite (fun _ => h.bit .qpReset) (fun _ => h.w1pGlobal))

theorem Canonical.w1pPort {p n off w} (h : Canonical s) : Canonical (w1pPort s p n off w) :=
  .ite h.ownAssign <|
    .ite (.bit (.bit (h.bit .pdSendCaps) .pdHardReset) .pdErrorRecovery) (.ite (.bit (h.bit .portClearLatch) .portFetClear) h)

theorem Canonical.takeW1p {p a w} (h : Canonical s) : Canonical (takeW1p s p a w) := .ite h.w1pPort h.w1pBlock
theorem Canonical.pageWrite {p v a w} (h : Canonical s) : Canonical (pageWrite s p v a w) :=
  .ite h (.ite (h.when fun h => .ite h.doorbell h.writePage) h.accessFault.accessRecord)

theorem Canonical.setupWrite {p a w} (h : Canonical s) : Canonical (setupWrite s p a w) := by
  unfold Machine.setupWrite
  split
  · exact h.pageWrite
  · split
    · exact h
    · refine .ite h.privDenied ?_
      split
      · exact h
      · exact h
      · exact h.takeW1p
      · exact .ite h.imgData h.takeRw

/-! ### Operations and commands of Machine/RegisterCmds.lean -/

theorem Canonical.execSpiReadFrame {t addr} (h : Canonical s) : CanonicalNext (execSpiReadFrame t addr s) :=
  h.act fun h => h.when fun h => .ite h.accessFault.emit (.ite h.accessTimeout.emit h.readReg.emit)

theorem Canonical.execSpiWriteFrame {t addr data crc} (h : Canonical s) : CanonicalNext (execSpiWriteFrame t addr data crc s) :=
  h.act fun h => h.when fun h => .ite h.accessFault.rcCount.emit (.ite h.accessFault.emit (.ite h.accessTimeout.emit h.setupWrite.emit))

theorem Canonical.execSpiUnknownCommand {t first} (h : Canonical s) : CanonicalNext (execSpiUnknownCommand t first s) :=
  h.act fun h => h.when fun h => h.accessFault.emit

theorem Canonical.execSpiCsRelease {t} (h : Canonical s) : CanonicalNext (execSpiCsRelease t s) := h.act fun h => h
theorem Canonical.execBarRead {t win offset lanes} (h : Canonical s) :
    CanonicalNext (execBarRead t win offset lanes s) := h.act fun h => h.when fun h => by
  split
  · exact h.emit
  · exact .ite h.accessTimeout.emit h.readReg.emit

theorem Canonical.execBarWrite {t win offset data lanes} (h : Canonical s) :
    CanonicalNext (execBarWrite t win offset data lanes s) := h.act fun h => h.when fun h => by
  split
  · exact h
  · exact .ite h.accessFault.accessRecord (.ite h.accessTimeout h.setupWrite)

theorem Canonical.failReply {p a isWrite} (h : Canonical s) : Canonical (failReply s p a isWrite) := by
  unfold Machine.failReply
  split
  · exact h.emit
  · exact .ite h h.emit
  · exact .ite h h.emit
  · exact h
  · split
    · exact h.funcPop.funcDrain
    · exact h

theorem Canonical.execAccessTimeout {t path addr isWrite} (h : Canonical s) : CanonicalNext (execAccessTimeout t path addr isWrite s) :=
  h.act fun h => h.when fun h => h.accessTimeout.failReply

theorem Canonical.execRegisterWrite {t path addr value} (h : Canonical s) : CanonicalNext (execRegisterWrite t path addr value s) :=
  h.act fun h => h.when fun h => .ite h.accessFault (.ite h.accessTimeout h.setupWrite)

theorem Canonical.execRcRead {t path addr} (h : Canonical s) : CanonicalNext (execRcRead t path addr s) := h.act fun h => h.when fun h => h.readReg.emit
theorem Canonical.execPairLowRead {t path addr} (h : Canonical s) : CanonicalNext (execPairLowRead t path addr s) :=
  h.act fun h => h.when fun h => h.readReg.emit

theorem Canonical.execPfTrustWrite {t path value} (h : Canonical s) : CanonicalNext (execPfTrustWrite t path value s) := h.privCmd .setupWrite
theorem Canonical.execUfBoundary {t port} (h : Canonical s) : CanonicalNext (execUfBoundary t port s) :=
  h.act fun h => h.when fun h => .ite h.setNib.boundaryApply.isochBoundary h.setNib.boundaryApply

theorem Canonical.execFrBoundary {t port} (h : Canonical s) : CanonicalNext (execFrBoundary t port s) := h.act fun h => h.when .boundaryApply
theorem Canonical.applyDerate (h : Canonical s) : Canonical (applyDerate s) := h.same
theorem Canonical.execBrkBoundary {t} (h : Canonical s) : CanonicalNext (execBrkBoundary t s) :=
  h.act fun h => h.when fun h => h.applyDerate.boundaryApply.brkCommit

theorem Canonical.execPktBoundary {t eth} (h : Canonical s) : CanonicalNext (execPktBoundary t eth s) := h.act fun h => h.when .boundaryApply
theorem Canonical.execPdIdlePoint {t port} (h : Canonical s) : CanonicalNext (execPdIdlePoint t port s) :=
  h.act fun h => h.when fun h => .pdiWork (.ite h.boundaryApply.applyIncrease h.boundaryApply)

theorem Canonical.execEpochStageWrite {t path addr value} (h : Canonical s) : CanonicalNext (execEpochStageWrite t path addr value s) :=
  h.privCmd fun h => h.when .setupWrite

theorem Canonical.execRubricCommit {t path} (h : Canonical s) : CanonicalNext (execRubricCommit t path s) := h.privCmd .rubricCommit
theorem Canonical.execRubricAbort {t path} (h : Canonical s) : CanonicalNext (execRubricAbort t path s) := h.privCmd .rubricAbort
theorem Canonical.execCommitComplete {t} (h : Canonical s) : CanonicalNext (execCommitComplete t s) := h.act fun h => h.when .commitComplete
theorem Canonical.execDomainCrcUpdate {t domain} (h : Canonical s) : CanonicalNext (execDomainCrcUpdate t domain s) := h.act fun h => h.when .updateDomain
theorem Canonical.execFuncRead {t} (h : Canonical s) : CanonicalNext (execFuncRead t s) := h.act fun h => by
  split
  · exact h.when fun h => h.readReg.funcPop.funcDrain
  · exact h

theorem Canonical.execFuncWrite {t} (h : Canonical s) : CanonicalNext (execFuncWrite t s) := h.act fun h => by
  split
  · exact h.when fun h => h.setupWrite.funcPop.funcDrain
  · exact h

/-! ### Every command -/

/-- A command keeps the stores canonical, whatever it is. -/
theorem Canonical.exec (h : Canonical s) : ∀ c, CanonicalNext (exec c s)
  | .vinPreRise .. => h.execVinPreRise
  | .vinPreCollapse .. => h.execVinPreCollapse
  | .seatStable .. => h.execSeatStable
  | .seatRelease .. => h.execSeatRelease
  | .inrushDone .. => h.execInrushDone
  | .inrushTimerExpiry .. => h.execInrushTimerExpiry
  | .inputLoss .. => h.execInputLoss
  | .inputReturn .. => h.execInputReturn
  | .inputRetryWaitExpiry .. => h.execInputRetryWaitExpiry
  | .inputRetryClear .. => h.execInputRetryClear
  | .inClear .. => h.execInClear
  | .inClearFetFail .. => h.execInClearFetFail
  | .pgRelease .. => h.execPgRelease
  | .pgFall .. => h.execPgFall
  | .earlyWarning .. => h.execEarlyWarning
  | .earlyWarningClear .. => h.execEarlyWarningClear
  | .shedWaitExpiry .. => h.execShedWaitExpiry
  | .holdupFlushComplete .. => h.execHoldupFlushComplete
  | .parkedInputRestored .. => h.execParkedInputRestored
  | .vauxFall .. => h.execVauxFall
  | .vauxRecover .. => h.execVauxRecover
  | .folioRailFail .. => h.execFolioRailFail
  | .folioResetRelease .. => h.execFolioResetRelease
  | .resetNPulse .. => h.execResetNPulse
  | .d2dLinkFirstUp .. => h.execD2dLinkFirstUp
  | .d2dFrame .. => h.execD2dFrame
  | .strokeResync .. => h.execStrokeResync
  | .d2dLinkLost .. => h.execD2dLinkLost
  | .linkLossHoldExpiry .. => h.execLinkLossHoldExpiry
  | .d2dLinkRestored .. => h.execD2dLinkRestored
  | .bootEnd .. => h.execBootEnd
  | .gapScanComplete .. => h.execGapScanComplete
  | .modeManaged .. => h.execModeManaged
  | .modeSuspend .. => h.execModeSuspend
  | .suspendReached .. => h.execSuspendReached
  | .modeStandby .. => h.execModeStandby
  | .standbyReached .. => h.execStandbyReached
  | .modeWake .. => h.execModeWake
  | .modeReboot .. => h.execModeReboot
  | .standbyWakeAttach .. => h.execStandbyWakeAttach
  | .imgOpenFw .. => h.execImgOpenFw
  | .imgOpenCfg .. => h.execImgOpenCfg
  | .imgEraseDone .. => h.execImgEraseDone
  | .imgDataWrite .. => h.execImgDataWrite
  | .imgCommit .. => h.execImgCommit
  | .imgAbandon .. => h.execImgAbandon
  | .spiReadFrame .. => h.execSpiReadFrame
  | .spiWriteFrame .. => h.execSpiWriteFrame
  | .spiUnknownCommand .. => h.execSpiUnknownCommand
  | .spiCsRelease .. => h.execSpiCsRelease
  | .barRead .. => h.execBarRead
  | .barWrite .. => h.execBarWrite
  | .accessTimeout .. => h.execAccessTimeout
  | .registerWrite .. => h.execRegisterWrite
  | .rcRead .. => h.execRcRead
  | .pairLowRead .. => h.execPairLowRead
  | .pfTrustWrite .. => h.execPfTrustWrite
  | .ufBoundary .. => h.execUfBoundary
  | .frBoundary .. => h.execFrBoundary
  | .brkBoundary .. => h.execBrkBoundary
  | .pktBoundary .. => h.execPktBoundary
  | .pdIdlePoint .. => h.execPdIdlePoint
  | .epochStageWrite .. => h.execEpochStageWrite
  | .rubricCommit .. => h.execRubricCommit
  | .rubricAbort .. => h.execRubricAbort
  | .commitComplete .. => h.execCommitComplete
  | .domainCrcUpdate .. => h.execDomainCrcUpdate
  | .ownAssign .. => h.execOwnAssign
  | .portDecision .. => h.execPortDecision
  | .leaseExpiry .. => h.execLeaseExpiry
  | .handoverComplete .. => h.execHandoverComplete
  | .orphanKeptEntry .. => h.execOrphanKeptEntry
  | .orphanOffEntry .. => h.execOrphanOffEntry
  | .resettingComplete .. => h.execResettingComplete
  | .viEnable .. => h.execViEnable
  | .viDisable .. => h.execViDisable
  | .viConfigSend .. => h.execViConfigSend
  | .cmdDb .. => h.execCmdDb
  | .evtDb .. => h.execEvtDb
  | .leaseDb .. => h.execLeaseDb
  | .transferDb .. => h.execTransferDb
  | .reservedDoorbell .. => h.execReservedDoorbell
  | .ringFetchComplete .. => h.execRingFetchComplete
  | .noopCmd .. => h.execNoopCmd
  | .claim .. => h.execClaim
  | .release .. => h.execRelease
  | .renewLease .. => h.execRenewLease
  | .resetPort .. => h.execResetPort
  | .resetPortWarm .. => h.execResetPortWarm
  | .resetPortTimeout .. => h.execResetPortTimeout
  | .suspendPort .. => h.execSuspendPort
  | .suspendComplete .. => h.execSuspendComplete
  | .resumePort .. => h.execResumePort
  | .resumeSignalEnd .. => h.execResumeSignalEnd
  | .resumeComplete .. => h.execResumeComplete
  | .addressDevice .. => h.execAddressDevice
  | .setAddressRecovery .. => h.execSetAddressRecovery
  | .disableDevice .. => h.execDisableDevice
  | .configureEndpoint .. => h.execConfigureEndpoint
  | .bindEndpointRing .. => h.execBindEndpointRing
  | .stopEndpoint .. => h.execStopEndpoint
  | .resetEndpoint .. => h.execResetEndpoint
  | .disableEndpoint .. => h.execDisableEndpoint
  | .setReadAhead .. => h.execSetReadAhead
  | .readAheadOff .. => h.execReadAheadOff
  | .queryPort .. => h.execQueryPort
  | .queryVi .. => h.execQueryVi
  | .replay .. => h.execReplay
  | .resume .. => h.execResume
  | .busTransaction .. => h.execBusTransaction
  | .turnaroundTimeout .. => h.execTurnaroundTimeout
  | .msixIntervalExpiry .. => h.execMsixIntervalExpiry
  | .rdmaAckReceived .. => h.execRdmaAckReceived
  | .rdmaReadResponse .. => h.execRdmaReadResponse
  | .dmaReadCompletion .. => h.execDmaReadCompletion
  | .previewTimeLimit .. => h.execPreviewTimeLimit
  | .viBindWrite .. => h.execViBindWrite
  | .flr .. => h.execFlr
  | .vfEnableClear .. => h.execVfEnableClear
  | .pcieLinkDown .. => h.execPcieLinkDown
  | .bmeClear .. => h.execBmeClear
  | .bmeSet .. => h.execBmeSet
  | .ptmRequest .. => h.execPtmRequest
  | .ethFrameReceived .. => h.execEthFrameReceived
  | .prpEntryExpiry .. => h.execPrpEntryExpiry
  | .prpSupervisionSend .. => h.execPrpSupervisionSend
  | .lanDown .. => h.execLanDown
  | .cmReq .. => h.execCmReq
  | .repRetryTimeout .. => h.execRepRetryTimeout
  | .cmRtu .. => h.execCmRtu
  | .cmDreq .. => h.execCmDreq
  | .roceDoorbellWrite .. => h.execRoceDoorbellWrite
  | .ackTimeout .. => h.execAckTimeout
  | .nakReceived .. => h.execNakReceived
  | .psnSequenceNak .. => h.execPsnSequenceNak
  | .unreachableHoldExpiry .. => h.execUnreachableHoldExpiry
  | .qpReset .. => h.execQpReset
  | .cnpReceived .. => h.execCnpReceived
  | .ccRateIncrease .. => h.execCcRateIncrease
  | .pfcFrameReceived .. => h.execPfcFrameReceived
  | .ptpSyncAccepted .. => h.execPtpSyncAccepted
  | .ptpLockTimeout .. => h.execPtpLockTimeout
  | .freeRunSet .. => h.execFreeRunSet
  | .portSlewComplete .. => h.execPortSlewComplete
  | .endpointPromotion .. => h.execEndpointPromotion
  | .isochDataFetch .. => h.execIsochDataFetch
  | .usb2ConnectDebounced .. => h.execUsb2ConnectDebounced
  | .receiverDetect .. => h.execReceiverDetect
  | .ssU0Entry .. => h.execSsU0Entry
  | .ssTrainingTimeout .. => h.execSsTrainingTimeout
  | .deviceChirpSeen .. => h.execDeviceChirpSeen
  | .rootResetEnd .. => h.execRootResetEnd
  | .resetRecoveryEnd .. => h.execResetRecoveryEnd
  | .babbleDetected .. => h.execBabbleDetected
  | .usb2Disconnect .. => h.execUsb2Disconnect
  | .ssLinkLost .. => h.execSsLinkLost
  | .clearTtBufferDone .. => h.execClearTtBufferDone
  | .l1Entry .. => h.execL1Entry
  | .u1Entry .. => h.execU1Entry
  | .u2Entry .. => h.execU2Entry
  | .lpmRefusalHoldExpiry .. => h.execLpmRefusalHoldExpiry
  | .remoteWake .. => h.execRemoteWake
  | .stuckProbe .. => h.execStuckProbe
  | .stuckRetest .. => h.execStuckRetest
  | .getHubStatus .. => h.execGetHubStatus
  | .clearHubFeature .. => h.execClearHubFeature
  | .setHubFeature .. => h.execSetHubFeature
  | .getPortStatus .. => h.execGetPortStatus
  | .setPortReset .. => h.execSetPortReset
  | .classicPortResetEnd .. => h.execClassicPortResetEnd
  | .setBhPortReset .. => h.execSetBhPortReset
  | .ssPortResetTimeout .. => h.execSsPortResetTimeout
  | .setPortSuspend .. => h.execSetPortSuspend
  | .clearPortSuspend .. => h.execClearPortSuspend
  | .clearPortEnable .. => h.execClearPortEnable
  | .setPortPower .. => h.execSetPortPower
  | .clearPortPower .. => h.execClearPortPower
  | .setPortTest .. => h.execSetPortTest
  | .setPortIndicator _ _ n => h.execSetPortIndicator (_n := n)
  | .setPortLinkState .. => h.execSetPortLinkState
  | .setPortLinkPmFeature .. => h.execSetPortLinkPmFeature
  | .clearPortChange .. => h.execClearPortChange
  | .getPortErrCount .. => h.execGetPortErrCount
  | .setHubDepth .. => h.execSetHubDepth
  | .clearTtBuffer .. => h.execClearTtBuffer
  | .resetTt .. => h.execResetTt
  | .stopTt .. => h.execStopTt
  | .getTtState _ _ n => h.execGetTtState (_n := n)
  | .getDescriptor .. => h.execGetDescriptor
  | .setDescriptor .. => h.execSetDescriptor
  | .setConfiguration .. => h.execSetConfiguration
  | .setInterface .. => h.execSetInterface
  | .upstreamResetRecognised .. => h.execUpstreamResetRecognised
  | .hsIdleReversion .. => h.execHsIdleReversion
  | .chirpKEnd .. => h.execChirpKEnd
  | .hostChirpSixth .. => h.execHostChirpSixth
  | .hostChirpTimeout .. => h.execHostChirpTimeout
  | .upstreamResetEnd .. => h.execUpstreamResetEnd
  | .ssplitReceived .. => h.execSsplitReceived
  | .csplitReceived .. => h.execCsplitReceived
  | .ligatureResultExpiry .. => h.execLigatureResultExpiry
  | .periodicResultDiscard .. => h.execPeriodicResultDiscard
  | .upDrSwapSend .. => h.execUpDrSwapSend
  | .drSwapRetry .. => h.execDrSwapRetry
  | .drSwapAnswer .. => h.execDrSwapAnswer
  | .drSwap .. => h.execDrSwap
  | .funcOutPacket .. => h.execFuncOutPacket
  | .funcRead .. => h.execFuncRead
  | .funcWrite .. => h.execFuncWrite
  | .funcEcho .. => h.execFuncEcho
  | .funcClearHalt .. => h.execFuncClearHalt
  | .blockGrant .. => h.execBlockGrant
  | .bankWindow .. => h.execBankWindow
  | .conflictWindow .. => h.execConflictWindow
  | .heartbeat .. => h.execHeartbeat
  | .noticeDelivery .. => h.execNoticeDelivery
  | .bcHeadRead .. => h.execBcHeadRead
  | .bcPop .. => h.execBcPop
  | .bcSkip .. => h.execBcSkip
  | .bcFlush .. => h.execBcFlush
  | .bcIrqAck .. => h.execBcIrqAck
  | .irqLineSample .. => h.execIrqLineSample
  | .irqLineHigh .. => h.execIrqLineHigh
  | .ccPatternAppear .. => h.execCcPatternAppear
  | .ccPatternLost .. => h.execCcPatternLost
  | .attachDebounceEnd .. => h.execAttachDebounceEnd
  | .vbusSwitchOn .. => h.execVbusSwitchOn
  | .vsafe5vReached .. => h.execVsafe5vReached
  | .vconnStable .. => h.execVconnStable
  | .cableDiscoveryRetry .. => h.execCableDiscoveryRetry
  | .sourceCapsSend .. => h.execSourceCapsSend
  | .sourceCapsRetry .. => h.execSourceCapsRetry
  | .goodcrcReceived .. => h.execGoodcrcReceived
  | .goodcrcTimeout .. => h.execGoodcrcTimeout
  | .senderResponseTimeout .. => h.execSenderResponseTimeout
  | .request .. => h.execRequest
  | .eprRequest .. => h.execEprRequest
  | .transitionStart .. => h.execTransitionStart
  | .psRdySend .. => h.execPsRdySend
  | .transitionBoundMissed .. => h.execTransitionBoundMissed
  | .sinkTxWaitEnd .. => h.execSinkTxWaitEnd
  | .getSourceCap .. => h.execGetSourceCap
  | .softReset .. => h.execSoftReset
  | .pdMessageUnexpected .. => h.execPdMessageUnexpected
  | .hardResetReceived .. => h.execHardResetReceived
  | .hardResetVbusOff .. => h.execHardResetVbusOff
  | .srcRecoverEnd .. => h.execSrcRecoverEnd
  | .errorRecoveryEnd .. => h.execErrorRecoveryEnd
  | .eprModeEnter .. => h.execEprModeEnter
  | .eprModeExit .. => h.execEprModeExit
  | .eprKeepalive .. => h.execEprKeepalive
  | .eprGetSourceCap .. => h.execEprGetSourceCap
  | .eprKeepaliveTimeout .. => h.execEprKeepaliveTimeout
  | .ppsTimeout .. => h.execPpsTimeout
  | .getStatus .. => h.execGetStatus
  | .getPpsStatus .. => h.execGetPpsStatus
  | .getSourceInfo .. => h.execGetSourceInfo
  | .getRevision .. => h.execGetRevision
  | .getSourceCapExtended .. => h.execGetSourceCapExtended
  | .getManufacturerInfo .. => h.execGetManufacturerInfo
  | .unsupportedMessage .. => h.execUnsupportedMessage
  | .ignoredMessage .. => h.execIgnoredMessage
  | .bist .. => h.execBist
  | .discoverIdentity .. => h.execDiscoverIdentity
  | .structuredVdmNak .. => h.execStructuredVdmNak
  | .cableIdentityAck .. => h.execCableIdentityAck
  | .alertSend .. => h.execAlertSend
  | .reclaimTimer .. => h.execReclaimTimer
  | .reclaimRestore .. => h.execReclaimRestore
  | .pdSendCaps .. => h.execPdSendCaps
  | .pdHardReset .. => h.execPdHardReset
  | .pdErrorRecovery .. => h.execPdErrorRecovery
  | .detachDebounceStart .. => h.execDetachDebounceStart
  | .ccDetach .. => h.execCcDetach
  | .vsafe0vReached .. => h.execVsafe0vReached
  | .ccShortProbe .. => h.execCcShortProbe
  | .ccOvervoltage .. => h.execCcOvervoltage
  | .ccFaultRetest .. => h.execCcFaultRetest
  | .vconnFault .. => h.execVconnFault
  | .converterReady .. => h.execConverterReady
  | .preswitchCheckDone .. => h.execPreswitchCheckDone
  | .vsetTrim .. => h.execVsetTrim
  | .breakerEval .. => h.execBreakerEval
  | .fastTrip .. => h.execFastTrip
  | .ppsCurrentLimitStep .. => h.execPpsCurrentLimitStep
  | .thermalUpdate .. => h.execThermalUpdate
  | .passDeviceFault .. => h.execPassDeviceFault
  | .clearFetFail .. => h.execClearFetFail
  | .fetClearCheckEnd .. => h.execFetClearCheckEnd
  | .clearLatch .. => h.execClearLatch
  | .portRetry .. => h.execPortRetry
  | .portRetryClear .. => h.execPortRetryClear
  | .shareIncreaseApply .. => h.execShareIncreaseApply
  | .shedRestore .. => h.execShedRestore
  | .timeSample .. => h.execTimeSample
  | .dvfsUpdate .. => h.execDvfsUpdate
  | .dvfsVoltageDown .. => h.execDvfsVoltageDown
  | .regionTempCap .. => h.execRegionTempCap
  | .regionTempUncap .. => h.execRegionTempUncap
  | .eqAdaptStep .. => h.execEqAdaptStep
  | .recordCommit .. => h.execRecordCommit
  | .sectorRecycle .. => h.execSectorRecycle
  | .bucketRefill .. => h.execBucketRefill
  | .summaryPeriodClose .. => h.execSummaryPeriodClose
  | .palFreeze .. => h.execPalFreeze
  | .palUnfreeze .. => h.execPalUnfreeze
  | .palVerify .. => h.execPalVerify
  | .palVerifyDone .. => h.execPalVerifyDone
  | .palLoad .. => h.execPalLoad
  | .palNext .. => h.execPalNext
  | .palPrev .. => h.execPalPrev
  | .recordLoadReady .. => h.execRecordLoadReady
  | .eccWindow .. => h.execEccWindow
  | .eccUncorrectable .. => h.execEccUncorrectable
  | .watchdogExpiry .. => h.execWatchdogExpiry
  | .engineRestartComplete .. => h.execEngineRestartComplete
  | .temperatureExceeded .. => h.execTemperatureExceeded
  | .temperatureCleared .. => h.execTemperatureCleared
  | .quarExit .. => h.execQuarExit
  | .advanceFloor .. => h.execAdvanceFloor
  | .returnArm .. => h.execReturnArm
  | .returnDisarm .. => h.execReturnDisarm
  | .returnArmLapse .. => h.execReturnArmLapse
  | .keyLoad .. => h.execKeyLoad
  | .keyWithdraw .. => h.execKeyWithdraw
  | .fuseOwner .. => h.execFuseOwner
  | .keySetCommitted .. => h.execKeySetCommitted
  | .gateNonceRead .. => h.execGateNonceRead
  | .gateAuthorisation .. => h.execGateAuthorisation
  | .gateVerifyDone .. => h.execGateVerifyDone
  | .gateNonceExpiry .. => h.execGateNonceExpiry
  | .upstreamSuspend .. => h.execUpstreamSuspend
  | .upstreamResume .. => h.execUpstreamResume
  | .upstreamLpmToken .. => h.execUpstreamLpmToken
  | .upstreamSsLinkChange .. => h.execUpstreamSsLinkChange
  | .vfEnableSet .. => h.execVfEnableSet
  | .flrComplete .. => h.execFlrComplete
  | .pcieLinkUp .. => h.execPcieLinkUp
  | .eccCorrected .. => h.execEccCorrected
  | .fetClearWindowTimeout .. => h.execFetClearWindowTimeout
  | .descriptorStoreReloaded .. => h.execDescriptorStoreReloaded
  | .keyReloaded .. => h.execKeyReloaded

end Sys2Proof.Machine

namespace Sys2Proof.Safety

open Sys2Proof.Machine

theorem canonical_iff {s : State} : Canonical s ↔ CanonicalStores s :=
  ⟨fun ⟨hr, ⟨hs, hs'⟩, ⟨hp, hp'⟩⟩ => ⟨hr, hs, hs', hp, hp'⟩, fun ⟨hr, hs, hs', hp, hp'⟩ => ⟨hr, ⟨hs, hs'⟩, ⟨hp, hp'⟩⟩⟩

/-- A step keeps the stores canonical: the front command does, and with none waiting nothing changes. -/
theorem step_canonical {s t : State} (h : Canonical s) (ht : step s = .next t) : Canonical t := by
  unfold step at ht
  split at ht
  · cases ht
    exact h
  case _ c rest _ =>
    obtain ⟨u, hu, hc⟩ := h.same.exec c
    rw [hu] at ht
    cases ht
    exact hc

/-- Settles O5: every operation on the stores keeps the canonical form, and every command is made of such operations and of changes elsewhere.
The form is the model's own representation of the registers of R6 and of the two copies of R48. -/
theorem stepKeepsTheRegisterStoresCanonical : Obligations.StepKeepsTheRegisterStoresCanonical :=
  fun _ _ h ht => canonical_iff.mp (step_canonical (canonical_iff.mpr h) ht)

end Sys2Proof.Safety
end

section
/-! The commands of the die-to-die link and of the modes complete with their effects (R16–R18, R384–R386, R393, R398–R400).

First how a guarded event and a privileged command complete, then what each operation of the link and of the modes does to the fields its claim speaks of
(Laws/ says what it leaves as it was), then each command. -/

namespace Sys2Proof.Machine

/-! ### The link (R16–R18) -/

@[simp] theorem linkFirstUp_link (s : State) : (linkFirstUp s).link = { phase := .up, lostAt := s.link.lostAt, holding := false, lastFrame := s.now } := by
  simp [linkFirstUp, bootPath_keeps _ _, copyLocal_keeps _ _, countLocal_keeps _ _, marker_keeps _ _ _ _]

@[simp] theorem linkFirstUp_localEvents (s : State) : (linkFirstUp s).localEvents = [] := by
  simp [linkFirstUp, bootPath_keeps _ _, copyLocal_keeps _ _, countLocal_keeps _ _, marker_keeps _ _ _ _]

@[simp] theorem linkFirstUp_blot (s : State) : (linkFirstUp s).blot = { s.blot with causeLink := false } := by
  simp [linkFirstUp, bootPath_keeps _ _, copyLocal_keeps _ _, countLocal_keeps _ _, marker_keeps _ _ _ _]

@[simp] theorem linkLost_link (s : State) : (linkLost s).link = { s.link with phase := .lost, lostAt := s.now, holding := true } := by
  simp [linkLost, enterQuarantine_keeps _ _ _, faultReport_keeps _ _ _ _ _, stopSwitchOn_keeps _ _]

@[simp] theorem linkHoldExpiry_link (s : State) : (linkHoldExpiry s).link = { s.link with holding := false } := by
  simp [linkHoldExpiry, converterOff_keeps _ _, gateOff_keeps _ _ _ _, quarantineOff_keeps _ _]

@[simp] theorem linkRestored_link (s : State) : (linkRestored s).link = { s.link with phase := .up, holding := false, lastFrame := s.now } := by
  simp [linkRestored, quarantineOff_keeps _ _]

@[simp] theorem folioReset_vis (s : State) (warm : Bool) : (folioReset s warm).vis = State.reset.vis := by
  simp [folioReset, heatCause_keeps _]

/-- A failed rail leaves Folio off, the link lost and every ring VI as after reset (R381, R433). -/
theorem railFail_folio (s : State) : (railFail s).folioOn = false ∧ (railFail s).link.phase = .lost ∧ (railFail s).vis = State.reset.vis := by
  simp [railFail, followInput_keeps _, converterOff_keeps _ _, setPower_keeps _ _ _]

/-! ### The modes (R384–R386, R393, R398–R400) -/

@[simp] theorem answerMode_modes (s : State) (code : Nat) : (answerMode s code).modes = { s.modes with lastReq := code } := rfl

@[simp] theorem refuseMode_modes (s : State) (code : Nat) : (refuseMode s code).modes = { s.modes with lastReq := code } := by
  simp [refuseMode, rcCount_keeps _ _ _]

/-- A mode change moves MODE, and PREV where the mode was another, and nothing else of the mode unit (R384). -/
@[simp] theorem enterMode_modes (s : State) (m : Mode) :
    (enterMode s m).modes = { s.modes with mode := m, prev := if s.modes.mode = m then s.modes.prev else s.modes.mode } := by
  by_cases h : s.modes.mode = m
  · simp [enterMode, ← h]
  · simp [enterMode, h, viewLocalPower_keeps _, notice_keeps _ _ _ _ _ _ _, record_keeps _ _ _ _ _ _ _]

theorem modeManaged_modes {s : State} (h : s.modes.mode = .standalone) :
    (modeManaged s).modes = { s.modes with mode := .managed, prev := .standalone, lastReq := 1 } := by
  simp [modeManaged, h, homeStampAll_keeps _]

theorem modeManaged_of_ne {s : State} (h : s.modes.mode ≠ .standalone) : modeManaged s = refuseMode s 2 := if_neg h

/-- Where the mode admits SUSPEND, no wake source falls in the tick and every classic upstream is suspended, the entry begins (R386, R398). -/
theorem modeSuspend_admitted {s : State} (hm : s.modes.mode = .standalone ∨ s.modes.mode = .managed) (hw : wokenNow s = false)
    (hc : ∀ c : Fin 5, (s.cvis.get c).exists_ = true → (s.cvis.get c).suspended = true) : modeSuspend s = startSuspend s := by
  have hidle : (List.finRange 5).any (fun c => (s.cvis.get c).exists_ && !(s.cvis.get c).suspended) = false := by
    simpa using hc
  rw [modeSuspend, if_neg (fun h => h hm), hw, hidle]
  rfl

/-- MODE stays while the trees are being suspended (assumption 38). -/
theorem startSuspend_modes (s : State) : (startSuspend s).modes.suspending = true ∧ (startSuspend s).modes.mode = s.modes.mode := by
  simp [startSuspend, treeSuspend_keeps _ _]

/-- Where the mode admits STANDBY and no wake source falls in the tick, Standby is entered (R386, R400). -/
theorem modeStandby_admitted {s : State} (hm : s.modes.mode = .standalone ∨ s.modes.mode = .managed ∨ s.modes.mode = .suspend)
    (hw : wokenNow s = false) : modeStandby s = enterStandby s := by
  rw [modeStandby, if_neg (fun h => h hm), hw]
  rfl

@[simp] theorem decideNow_modes (s : State) : (decideNow s).modes = s.modes := by simp [decideNow_keeps _]
@[simp] theorem dropHosts_modes (s : State) : (dropHosts s).modes = s.modes := by simp [dropHosts_keeps _]
@[simp] theorem lastNotices_modes (s : State) : (lastNotices s).modes = s.modes := by simp [lastNotices_keeps _]
@[simp] theorem disableOpen_modes (s : State) (n : PortId) : (disableOpen s n).modes = s.modes := by simp [disableOpen_keeps _ _]
@[simp] theorem treeResume_modes (s : State) (n : PortId) : (treeResume s n).modes = s.modes := by simp [treeResume_keeps _ _]

theorem enterStandby_modes (s : State) : (enterStandby s).modes.mode = .standby ∧ (enterStandby s).modes.standingBy = true := by
  simp [enterStandby]

@[simp] theorem resumeOwn_modes (s : State) : (resumeOwn s).modes = { s.modes with selfSuspended := 0 } := by
  simp only [resumeOwn, eachPort_modes, ite_modes, treeResume_modes, ite_self, implies_true]

/-- A wake source in Suspend with no entry in progress returns to the mode before it (R399). -/
theorem wakeSource_suspend {s : State} (hm : s.modes.mode = .suspend) (hs : s.modes.suspending = false) :
    (wakeSource s).modes.mode = s.modes.beforeSuspend ∧ (wakeSource s).modes.lastReq = s.modes.lastReq := by
  simp [wakeSource, hm, hs]

theorem modeWake_of_suspend {s : State} (hm : s.modes.mode = .suspend) : modeWake s = wakeSource (answerMode s 1) := if_pos hm

end Sys2Proof.Machine

namespace Sys2Proof.Safety

open Sys2Proof.Machine

/-! ### How a command completes -/

/-- An event whose guard holds completes with its effect at its moment, settled. -/
theorem completes_event {c : Instr} {t : Nat} {s : State} {g : State → Bool} {f : State → State} {post : State → Prop}
    (meaning : Host.Outcome State Fault Refusal) (hc : exec c s = meaning) (hm : meaning = act t s fun u => when (g u) u f) (hg : g (begin t s) = true)
    (h : post { settle (f (begin t s)) with now := max s.now t, pending := s.pending }) : Completes c s post :=
  ⟨_, by rw [hc, hm, act_next, hg, when_true], h⟩

/-- A command of a privileged master completes with its effect at its moment, settled, where Folio runs. -/
theorem completes_privCmd {c : Instr} {t a : Nat} {p : Path} {s : State} {f : State → State} {post : State → Prop}
    (meaning : Host.Outcome State Fault Refusal) (hc : exec c s = meaning) (hm : meaning = privCmd t p a s f) (hon : s.folioOn = true) (hp : privileged s p = true)
    (h : post { settle (f (begin t s)) with now := max s.now t, pending := s.pending }) : Completes c s post :=
  completes_event meaning hc hm (by simpa using hon) (by simpa [hp] using h)

variable {t : Nat} {p : Path} {s : State}

/-! ### The link's events complete (R16–R18, R433) -/

theorem d2dLinkFirstUp_completes (hon : s.folioOn = true) (hm : s.modes.mode = .boot) (hl : s.link.phase ≠ .up) :
    Completes (.d2dLinkFirstUp t) s fun u => u.link.phase = .up ∧ u.link.lastFrame = max s.now t ∧ u.localEvents = [] ∧ u.blot.causeLink = false ∧ u.regs = s.regs ∧ u.own = s.own :=
  completes_event (execD2dLinkFirstUp t s) rfl rfl (by simp [hon, hm, hl]) (by simp [linkFirstUp_keeps _])

theorem d2dFrame_good_completes {payload : List Byte} (hi : s.input.state ≠ .off) (hl : s.link.phase = .up) (hlen : payload.length = 8) :
    Completes (.d2dFrame t payload (crc8 payload)) s fun u => u.link = { s.link with lastFrame := max s.now t } ∧ u.power = s.power ∧ u.out = [] :=
  completes_event (execD2dFrame t payload (crc8 payload) s) rfl rfl (by simp [hi, hl, hlen]) (by simp)

theorem d2dFrame_bad_completes {payload : List Byte} {crc : Byte} (hi : s.input.state ≠ .off) (hl : s.link.phase = .up) (hlen : payload.length = 8)
    (hcrc : crc8 payload ≠ crc) : Completes (.d2dFrame t payload crc) s fun u => u.link = s.link ∧ u.out = [.d2dRetry] :=
  completes_event (execD2dFrame t payload crc s) rfl rfl (by simp [hi, hl, hlen]) (by simp [hcrc, emit])

theorem d2dLinkLost_completes (hon : s.folioOn = true) (hm : s.modes.mode ≠ .standby) (hl : s.link.phase = .up)
    (ht : s.link.lastFrame + ticksUs 20 ≤ max s.now t) :
    Completes (.d2dLinkLost t) s fun u => u.link.phase = .lost ∧ u.link.lostAt = max s.now t ∧ u.link.holding = true ∧ u.regs = s.regs ∧ u.input = s.input :=
  completes_event (execD2dLinkLost t s) rfl rfl (by simpa [hon, hm, hl] using ht) (by simp [linkLost_keeps _])

theorem linkLossHoldExpiry_completes (hh : s.link.holding = true) (hl : s.link.phase ≠ .up) (ht : s.link.lostAt + ticksMs 50 ≤ max s.now t) :
    Completes (.linkLossHoldExpiry t) s fun u => u.link = { s.link with holding := false } ∧ u.regs = s.regs ∧ u.input = s.input :=
  completes_event (execLinkLossHoldExpiry t s) rfl rfl (by simpa [hh, hl] using ht) (by simp [linkHoldExpiry_keeps _])

theorem d2dLinkRestored_completes (hon : s.folioOn = true) (hl : s.link.phase = .lost) :
    Completes (.d2dLinkRestored t) s fun u => u.link.phase = .up ∧ u.link.holding = false ∧ u.regs = s.regs ∧ u.input = s.input :=
  completes_event (execD2dLinkRestored t s) rfl rfl (by simp [hon, hl]) (by simp [linkRestored_keeps _])

theorem folioRailFail_completes (hon : s.folioOn = true) :
    Completes (.folioRailFail t) s fun u => u.folioOn = false ∧ u.link.phase = .lost ∧ u.input = s.input ∧ u.vis = State.reset.vis :=
  completes_event (execFolioRailFail t s) rfl rfl (by simp [hon]) (by simp [railFail_folio _, railFail_keeps _])

/-! ### The mode requests complete (R384–R386, R393, R398–R400) -/

theorem modeManaged_completes (hon : s.folioOn = true) (hp : privileged s p = true) (hm : s.modes.mode = .standalone) :
    Completes (.modeManaged t p) s fun u => u.modes.mode = .managed ∧ u.modes.prev = .standalone ∧ u.modes.lastReq = 1 ∧ u.power = s.power :=
  completes_privCmd (execModeManaged t p s) rfl rfl hon hp (by simp [modeManaged_modes, modeManaged_keeps _, hm])

theorem modeManaged_refused (hon : s.folioOn = true) (hp : privileged s p = true) (hm : s.modes.mode ≠ .standalone) :
    Completes (.modeManaged t p) s fun u => u.modes = { s.modes with lastReq := 2 } ∧ u.own = s.own :=
  completes_privCmd (execModeManaged t p s) rfl rfl hon hp (by simp [modeManaged_of_ne, refuseMode_keeps _ _, hm])

theorem modeSuspend_completes (hon : s.folioOn = true) (hp : privileged s p = true) (hm : s.modes.mode = .standalone ∨ s.modes.mode = .managed)
    (hw : wokenNow (begin t s) = false) (hc : ∀ c : Fin 5, (s.cvis.get c).exists_ = true → (s.cvis.get c).suspended = true) :
    Completes (.modeSuspend t p) s fun u => u.modes.suspending = true ∧ u.modes.mode = s.modes.mode ∧ u.regs = s.regs ∧ u.own = s.own := by
  have hadmit : modeSuspend (begin t s) = startSuspend (begin t s) := modeSuspend_admitted (by simpa using hm) hw (by simpa using hc)
  exact completes_privCmd (execModeSuspend t p s) rfl rfl hon hp (by simp [hadmit, startSuspend_modes _, startSuspend_keeps _])

theorem modeStandby_completes (hon : s.folioOn = true) (hp : privileged s p = true)
    (hm : s.modes.mode = .standalone ∨ s.modes.mode = .managed ∨ s.modes.mode = .suspend) (hw : wokenNow (begin t s) = false) :
    Completes (.modeStandby t p) s fun u => u.modes.mode = .standby ∧ u.modes.standingBy = true ∧ u.input = s.input ∧ u.pal.flushing = true := by
  have hadmit : modeStandby (begin t s) = enterStandby (begin t s) := modeStandby_admitted (by simpa using hm) hw
  have hflush : (enterStandby (begin t s)).pal.flushing = true := rfl
  exact completes_privCmd (execModeStandby t p s) rfl rfl hon hp (by simp [hadmit, hflush, enterStandby_modes _, enterStandby_keeps _])

theorem modeWake_completes (hon : s.folioOn = true) (hp : privileged s p = true) (hm : s.modes.mode = .suspend) (hs : s.modes.suspending = false) :
    Completes (.modeWake t p) s fun u => u.modes.mode = s.modes.beforeSuspend ∧ u.modes.lastReq = 1 ∧ u.own = s.own := by
  have hwake : (wakeSource (answerMode (begin t s) 1)).modes.mode = s.modes.beforeSuspend ∧ (wakeSource (answerMode (begin t s) 1)).modes.lastReq = 1 := by
    simpa using wakeSource_suspend (s := answerMode (begin t s) 1) (by simpa using hm) (by simpa using hs)
  exact completes_privCmd (execModeWake t p s) rfl rfl hon hp (by simp [modeWake_of_suspend, hm, hwake, wakeSource_keeps _, answerMode_keeps _ _])

/-! ### The entries to Suspend and Standby end (R398, R400) -/

theorem suspendReached_completes (hon : s.folioOn = true) (hs : s.modes.suspending = true)
    (hdone : ∀ n : PortId, maskBit s.modes.selfSuspended n.val = true → ∀ x, (s.nibs.get n).susp ≠ .entering x) :
    Completes (.suspendReached t) s fun u => u.modes.mode = .suspend ∧ u.modes.beforeSuspend = s.modes.mode ∧ u.modes.lastReq = 1 ∧ u.modes.suspending = false ∧ u.own = s.own := by
  refine completes_event (execSuspendReached t s) rfl rfl ?_ (by simp [enterMode_keeps _ _, answerMode_keeps _ _])
  simp only [begin_folioOn, begin_modes, begin_nibs, hon, hs, Bool.true_and, List.all_eq_true]
  intro n _
  split
  · next x hx => simpa using fun hb => hdone n hb x hx
  · rfl

theorem standbyReached_completes (hon : s.folioOn = true) (hm : s.modes.mode = .standby) (hs : s.modes.standingBy = true)
    (hf : flushDone (begin t s) = true) :
    Completes (.standbyReached t) s fun u => u.modes.standingBy = false ∧ u.modes.lastReq = 1 ∧ u.modes.mode = .standby ∧ u.input = s.input :=
  completes_event (execStandbyReached t s) rfl rfl (by simpa [hon, hm, hs] using hf) (by simp [converterOff_keeps _ _, applyPortModes_keeps _ _ _, hm])

/-- Settles O14: each clause is one command's completion, proved above.
The bytes a frame's CRC covers rest on assumption 24, and MODE staying until SUSPEND_REACHED on assumption 38; the refusal with code 2 is MANAGED's. -/
theorem linkAndModeCommandsComplete : Obligations.LinkAndModeCommandsComplete :=
  ⟨fun _ _ => d2dLinkFirstUp_completes, fun _ _ _ => d2dFrame_good_completes, fun _ _ _ _ => d2dFrame_bad_completes, fun _ _ => d2dLinkLost_completes,
    fun _ _ => linkLossHoldExpiry_completes, fun _ _ => d2dLinkRestored_completes, fun _ _ => folioRailFail_completes,
    fun _ _ _ => modeManaged_completes, fun _ _ _ => modeManaged_refused, fun _ _ _ => modeSuspend_completes, fun _ _ hon hs _ => suspendReached_completes hon hs,
    fun _ _ _ => modeStandby_completes, fun _ _ => standbyReached_completes, fun _ _ _ hon hp hm hs _ => modeWake_completes hon hp hm hs⟩

end Sys2Proof.Safety
end

section
/-! The check code of the SPI target (R37): Machine/Crc.lean computes it on numbers, and here it is read as the register of eight bits that R37 describes. -/

namespace Sys2Proof.Machine

/-- One step of the CRC-8 register of R37, most significant bit first. -/
def crc8Step (r : Byte) : Byte := if r.msb then (r <<< 1) ^^^ 0x07 else r <<< 1

/-- A byte folded into the top of the CRC-8 register, and eight steps. -/
def crc8Byte (r b : Byte) : Byte := (List.range 8).foldl (fun r _ => crc8Step r) (r ^^^ b)

/-- The step on numbers is the step of the register. -/
theorem crcStep_toNat (r : Byte) : crcStep 8 0x07 r.toNat = (crc8Step r).toNat := by
  have hshift : (r <<< 1).toNat = r.toNat * 2 % 2 ^ 8 := by rw [BitVec.toNat_shiftLeft, Nat.shiftLeft_eq]
  have hmsb : (r.toNat / 2 ^ 7 % 2 = 1) ↔ r.msb = true := by rw [BitVec.msb_eq_decide, decide_eq_true_iff]; omega
  unfold crcStep crc8Step
  by_cases h : r.msb = true
  · rw [if_pos (hmsb.mpr h), if_pos h, BitVec.toNat_xor, hshift]; rfl
  · rw [if_neg (mt hmsb.mp h), if_neg h, hshift]

theorem crcByte_toNat (r b : Byte) : crcByte 8 0x07 r.toNat b = (crc8Byte r b).toNat := by
  have hfold : Nat.xor r.toNat (b.toNat * 2 ^ (8 - 8)) = (r ^^^ b).toNat := by simp [BitVec.toNat_xor]
  simp only [crcByte, hfold, crcStep_toNat]
  rfl

theorem crc8_eq_foldl (bs : List Byte) : crc8 bs = bs.foldl crc8Byte 0 := by
  have h : bs.foldl (crcByte 8 0x07) (0 : Byte).toNat = (bs.foldl crc8Byte 0).toNat := List.foldl_hom BitVec.toNat crcByte_toNat
  exact (congrArg (BitVec.ofNat 8) h).trans (by simp)

theorem crc8_append (bs : List Byte) (b : Byte) : crc8 (bs ++ [b]) = crc8Byte (crc8 bs) b := by
  simp only [crc8_eq_foldl, List.foldl_append, List.foldl_cons, List.foldl_nil]

end Sys2Proof.Machine

namespace Sys2Proof.Safety

open Sys2Proof.Machine

/-- Settles O51: the register of eight bits takes a byte as R37 says, and the check value is computed. -/
theorem crcEightFollowsItsPolynomial : Obligations.CrcEightFollowsItsPolynomial :=
  ⟨rfl, crc8_append, by decide +kernel⟩

end Sys2Proof.Safety
end

section
/-! The copies of the RC registers (R48): what a fold of a copy reads as, what a read of it leaves, and how packed counters accumulate. Then the rules for
reads and writes by class (R6, R7, R44, R48, R49, R58), and the RC read they give. -/

namespace Sys2Proof.Machine

/-! ### The copies of the RC registers (R48) -/

/-- Folding a canonical list of stamped values into a canonical store merges, at each address, what is stamped there into what is held. -/
theorem get_foldl_rcMerge (l f : RegFile) (lo : Option Nat) (hl : RegFile.wfFrom (fun _ => 0) lo l = true) (hf : f.wf (fun _ => 0) = true) (b : Nat) :
    (l.foldl (fun f e => RegFile.put e.1 (rcMerge (rcKind e.1) (f.get e.1 0) e.2) 0 f) f).get b 0 = (l.find b).elim (f.get b 0) (rcMerge (rcKind b) (f.get b 0)) := by
  induction l generalizing f lo with
  | nil => rfl
  | cons e rest ih =>
    obtain ⟨a, v⟩ := e
    have hrest : RegFile.wfFrom (fun _ => 0) (some a) rest = true := by
      simp only [RegFile.wfFrom, Bool.and_eq_true] at hl; exact hl.2
    have hput := get_put (fun _ => 0) a b (rcMerge (rcKind a) (f.get a 0) v) f hf
    rw [List.foldl_cons, ih _ (some a) hrest (put_wf (fun _ => 0) a _ f hf), hput]
    by_cases hb : b = a
    · subst hb
      have hhead : RegFile.find ((b, v) :: rest) b = some v := by simp [RegFile.find]
      rw [if_pos rfl, find_above (fun _ => 0) rest b b (Nat.le_refl b) hrest, hhead]
      rfl
    · have hfind : RegFile.find ((a, v) :: rest) b = RegFile.find rest b := by
        simp [RegFile.find, Ne.symm hb]
      rw [if_neg hb, hfind]

/-- What a copy reads as once time has moved on: what was stamped, folded into what was held. -/
theorem RcCopy.fold_get {c : RcCopy} (h : c.Wf) (b : Nat) :
    c.fold.settled.get b 0 = (c.fresh.find b).elim (c.settled.get b 0) (rcMerge (rcKind b) (c.settled.get b 0)) :=
  get_foldl_rcMerge c.fresh c.settled none h.2 h.1 b

theorem rcValue_rcAdd (s : State) (p : Path) (a b : Nat) (v : Word) : rcValue (rcAdd s a v) p b = rcValue s p b := by
  cases p <;> rfl

theorem begin_of_not_lt {t : Nat} {s : State} (h : ¬ s.now < t) : begin t s = { s with out := [] } := if_neg h

theorem begin_of_lt {t : Nat} {s : State} (h : s.now < t) :
    begin t s = { s with now := t, out := [], rcSpi := s.rcSpi.fold, rcPf := s.rcPf.fold } := if_pos h

theorem rcValue_begin_of_not_lt {t : Nat} {s : State} (h : ¬ s.now < t) (p : Path) (b : Nat) : rcValue (begin t s) p b = rcValue s p b := by
  rw [begin_of_not_lt h]; cases p <;> rfl

/-- A cleared register of a path's copy reads zero, the others as before. -/
theorem rcValue_rcClear {s : State} (hspi : s.rcSpi.Wf) (hpf : s.rcPf.Wf) (p : Path) (a b : Nat) :
    rcValue (rcClear s p a) p b = if b = a then 0 else rcValue s p b := by
  cases p with
  | spi => exact get_put (fun _ => 0) a b 0 _ hspi.1
  | pf => exact get_put (fun _ => 0) a b 0 _ hpf.1
  | viPage v => exact (ite_self _).symm
  | qp v => exact (ite_self _).symm
  | scribe => exact (ite_self _).symm

theorem rcValue_congr {u s : State} (hspi : u.rcSpi = s.rcSpi) (hpf : u.rcPf = s.rcPf) (p : Path) (a : Nat) : rcValue u p a = rcValue s p a := by
  cases p <;> simp [rcValue, hspi, hpf]

/-- A clear leaves what the current tick has stamped. -/
theorem rcClear_fresh (s : State) (p : Path) (a : Nat) : (rcClear s p a).rcSpi.fresh = s.rcSpi.fresh ∧ (rcClear s p a).rcPf.fresh = s.rcPf.fresh := by
  cases p <;> exact ⟨rfl, rfl⟩

/-! ### Packed counters (R48) -/

theorem fld_lt (w : Word) (lo n : Nat) : fld w lo n < 2 ^ n := Nat.mod_lt _ (Nat.two_pow_pos n)

theorem satN_lt (n x : Nat) : satN n x < 2 ^ n := by
  have := Nat.two_pow_pos n
  unfold satN; omega

theorem dvd_addCounts (ws : List Nat) (lo : Nat) (x y : Word) : 2 ^ lo ∣ addCounts ws lo x y := by
  induction ws generalizing lo with
  | nil => exact Nat.dvd_zero _
  | cons n rest ih => exact Nat.dvd_add (Nat.dvd_mul_left _ _) (Nat.dvd_trans (Nat.pow_dvd_pow 2 (Nat.le_add_right lo n)) (ih (lo + n)))

/-- The fields from bit `lo` up stay below the end of the last. -/
theorem addCounts_add_le (ws : List Nat) (lo : Nat) (x y : Word) : addCounts ws lo x y + 2 ^ lo ≤ 2 ^ (lo + ws.sum) := by
  induction ws generalizing lo with
  | nil => simp [addCounts]
  | cons n rest ih =>
    have hrest := ih (lo + n)
    have hfirst : (satN n (fld x lo n + fld y lo n) + 1) * 2 ^ lo ≤ 2 ^ n * 2 ^ lo := Nat.mul_le_mul_right _ (satN_lt _ _)
    rw [List.sum_cons, ← Nat.add_assoc]
    simp only [addCounts]
    rw [← Nat.pow_add, Nat.add_comm n lo, Nat.succ_mul] at hfirst
    omega

/-- Each field of the sum is the saturated sum of that field. -/
theorem addCounts_field (ws : List Nat) (i : Nat) (h : i < ws.length) (lo : Nat) (x y : Word) :
    addCounts ws lo x y / 2 ^ (lo + (ws.take i).sum) % 2 ^ ws[i]
      = satN ws[i] (fld x (lo + (ws.take i).sum) ws[i] + fld y (lo + (ws.take i).sum) ws[i]) := by
  induction ws generalizing lo i with
  | nil => exact absurd h (Nat.not_lt_zero i)
  | cons n rest ih =>
    obtain ⟨k, hk⟩ := dvd_addCounts rest (lo + n) x y
    have hsat := satN_lt n (fld x lo n + fld y lo n)
    have hsum : addCounts (n :: rest) lo x y = 2 ^ lo * (satN n (fld x lo n + fld y lo n) + 2 ^ n * k) := by
      rw [addCounts, hk, Nat.mul_add, ← Nat.mul_assoc, ← Nat.pow_add, Nat.mul_comm (2 ^ lo)]
    cases i with
    | zero =>
      simp only [List.take_zero, List.sum_nil, Nat.add_zero, List.getElem_cons_zero]
      rw [hsum, Nat.mul_div_cancel_left _ (Nat.two_pow_pos lo), Nat.add_mul_mod_self_left, Nat.mod_eq_of_lt hsat]
    | succ j =>
      simp only [List.take_succ_cons, List.sum_cons, List.getElem_cons_succ, ← Nat.add_assoc]
      rw [← ih j (Nat.lt_of_succ_lt_succ h) (lo + n), hsum, hk, Nat.pow_add 2 (lo + n), Nat.pow_add 2 lo, ← Nat.div_div_eq_div_mul, ← Nat.div_div_eq_div_mul,
        Nat.mul_div_cancel_left _ (Nat.two_pow_pos lo), Nat.add_mul_div_left _ _ (Nat.two_pow_pos n), Nat.div_eq_of_lt hsat, Nat.zero_add,
        ← Nat.div_div_eq_div_mul, Nat.mul_div_cancel_left _ (Nat.mul_pos (Nat.two_pow_pos lo) (Nat.two_pow_pos n))]

theorem fld_rcMerge_counts {ws : List Nat} {i : Nat} (h : i < ws.length) (x y : Word) (hw : ws.sum ≤ 32) :
    fld (rcMerge (.counts ws) x y) (ws.take i).sum ws[i] = min (2 ^ ws[i] - 1) (fld x (ws.take i).sum ws[i] + fld y (ws.take i).sum ws[i]) := by
  have hfit : addCounts ws 0 x y < 2 ^ 32 := by
    have hle := addCounts_add_le ws 0 x y
    have hpow : 2 ^ (0 + ws.sum) ≤ 2 ^ 32 := Nat.pow_le_pow_right (by decide) (by omega)
    omega
  have hfield := addCounts_field ws i h 0 x y
  rw [Nat.zero_add, satN, Nat.min_comm] at hfield
  simpa only [fld, rcMerge, BitVec.toNat_ofNat, Nat.mod_eq_of_lt hfit] using hfield

end Sys2Proof.Machine

namespace Sys2Proof.Machine

/-! ### What the conditions of an access read at its moment -/

@[simp] theorem denied_begin (t : Nat) (s : State) (p : Path) (a : Nat) : denied (begin t s) p a = denied s p a := by simp [denied]
@[simp] theorem unreachedV_begin (t : Nat) (s : State) (a : Nat) : unreachedV (begin t s) a = unreachedV s a := by simp [unreachedV]
@[simp] theorem bootRefused_begin (t : Nat) (s : State) (a : Nat) : bootRefused (begin t s) a = bootRefused s a := by simp [bootRefused]
@[simp] theorem domainOff_begin (t : Nat) (s : State) (a : Nat) : domainOff (begin t s) a = domainOff s a := by simp [domainOff]
@[simp] theorem barOpen_begin (t : Nat) (s : State) : barOpen (begin t s) = barOpen s := by simp [barOpen]
@[simp] theorem windowOn_begin (t : Nat) (s : State) (w : BarWindow) : windowOn (begin t s) w = windowOn s w := by cases w <;> simp [windowOn, fnEnabled]
@[simp] theorem scribeRuns_begin (t : Nat) (s : State) : scribeRuns (begin t s) = scribeRuns s := by simp [scribeRuns, scribeSound]
/-- The SPI target is always privileged, so that no access of its is denied (R44). -/
@[simp] theorem denied_spi (s : State) (a : Nat) : denied s .spi a = false := by unfold denied; split <;> simp [privileged]

theorem takesWrite_begin {t : Nat} {s : State} {p : Path} {a : Nat} {r : RegRow} {v : Word} (h : takesWrite s p a r v) : takesWrite (begin t s) p a r v := by
  simpa [takesWrite] using h

/-! ### Reads by class (R6, R44, R48, R49) -/

variable {s : State} {p : Path} {a : Nat} {r : RegRow}

theorem readReg_rw (hf : findRow a = some r) (hr : r.acc = .rw) (hd : denied s p a = false) : readReg s p a = (s, regView s a) := by
  simp [readReg, hf, hr, hd]

theorem readReg_rc (hf : findRow a = some r) (hr : r.acc = .rc) (hd : denied s p a = false) (ho : domainOff s a = false) :
    readReg s p a = (rcClear s p a, rcValue s p a) := by
  simp [readReg, hf, hr, hd, ho]

/-- No low word of a pair is a head register of the board queue. -/
theorem readStatus_pairLow (h : pairLow a = true) : readStatus s p a = readLow s p a := by
  have hhead : a ≠ 0x50020 ∧ a ≠ 0x50024 ∧ a ≠ 0x50028 := by
    refine ⟨?_, ?_, ?_⟩ <;> rintro rfl <;> exact absurd h (by decide)
  simp [readStatus, h, hhead]

theorem readReg_pairLow (hl : pairLow a = true) (hf : findRow a = some r) (hr : r.acc = .ro) (hd : denied s p a = false) (ho : domainOff s a = false) :
    readReg s p a = readLow s p a := by
  simp [readReg, hf, hr, hd, ho, readStatus_pairLow hl]

theorem hasAccess_of_findRow (hf : findRow a = some r) : hasAccess a r.acc = true := by simp [hasAccess, hf]

/-! ### Writes by class (R6, R7, R44, R58) -/

theorem setupWrite_takeRw {v : Word} (h : takesWrite s p a r v) : setupWrite s p a v = takeRw s p r a v := by
  obtain ⟨hf, hacc, hpage, himg, hd, -, -⟩ := h
  simp [setupWrite, hpage, hf, hd, hacc, himg]

theorem setupWrite_epoch {v : Word} (h : takesWrite s p a r v) (he : r.applies = .epoch) : setupWrite s p a v = stageWrite s a (v &&& r.mask) := by
  rw [setupWrite_takeRw h]
  obtain ⟨-, -, -, -, -, -, hallow⟩ := h
  simp [takeRw, hallow, he]

/-- A buffered write waits for its boundary. -/
theorem setupWrite_buffered {v : Word} (h : takesWrite s p a r v) (he : r.applies ≠ .epoch) (hi : r.applies ≠ .imm) :
    setupWrite s p a v = { s with writes := s.writes ++ [{ addr := a, value := v &&& r.mask, accepted := s.now, taken := s.now }] } := by
  rw [setupWrite_takeRw h]
  obtain ⟨-, -, -, -, -, -, hallow⟩ := h
  rw [takeRw, if_neg (not_not_intro hallow)]
  split
  · exact absurd ‹_› hi
  · exact absurd ‹_› he
  · rfl

theorem setupWrite_denied {v : Word} (hpage : pageVi a = none) (hd : denied s p a = true) : setupWrite s p a v = privDenied s p a := by
  cases hf : findRow a with
  | none => simp [denied, hf] at hd
  | some r => simp [setupWrite, hpage, hf, hd]

theorem setupWrite_ro {v : Word} (hpage : pageVi a = none) (hf : findRow a = some r) (hr : r.acc = .ro) (hd : denied s p a = false) : setupWrite s p a v = s := by
  simp [setupWrite, hpage, hf, hd, hr]

/-- The row of PF_TRUST_CTRL (R50). -/
theorem findRow_pfTrust : findRow 0x30 = some ⟨.block, 0x30, 4, 1, .rw, true, 0x1, 0x0, .imm, true⟩ := rfl

/-- PF_TRUST_CTRL applies at once and remembers who wrote it (R44, R52). -/
theorem setupWrite_pfTrust {v : Word} (hp : privileged s p = true) : setupWrite s p 0x30 v = setApplied { s with trustBySpi := p == .spi } 0x30 (v &&& 1) := by
  have hd : denied s p 0x30 = false := by simp [denied, findRow_pfTrust, hp]
  have hw : takesWrite s p 0x30 _ v := ⟨findRow_pfTrust, rfl, rfl, by decide, hd, rfl, rfl⟩
  rw [setupWrite_takeRw hw]
  rfl

theorem reg_setApplied {v : Word} (h : s.regs.wf mapReset = true) : reg (setApplied s a v) a = v := by
  unfold setApplied
  split
  · exact (reg_setReg _ a a v h).trans (if_pos rfl)
  · exact (reg_setReg _ a a v h).trans (if_pos rfl)

/-! ### The Scribe function's queue (R244) -/

@[simp] theorem funcPop_queue (reply : List Byte) : (funcPop s reply).func.queue = s.func.queue.drop 1 := rfl

theorem funcDrain_queue_le (k : Nat) (s : State) : (funcDrain k s).func.queue.length ≤ s.func.queue.length := by
  fun_induction funcDrain k s with
  | case1 => exact Nat.le_refl _
  | case2 => exact Nat.le_refl _
  | case3 _ _ _ _ _ _ ih => exact Nat.le_trans ih (by simp)
  | case4 _ _ _ _ _ _ _ ih => exact Nat.le_trans ih (by simp)
  | case5 => exact Nat.le_refl _

/-- The head request is answered: one request fewer waits, or less. -/
theorem funcDrain_funcPop_queue_le (k : Nat) (reply : List Byte) {q : FuncReq} {rest : List FuncReq} (h : s.func.queue = q :: rest) :
    (funcDrain k (funcPop s reply)).func.queue.length ≤ rest.length := by
  simpa [h] using funcDrain_queue_le k (funcPop s reply)

end Sys2Proof.Machine

namespace Sys2Proof.Safety

open Sys2Proof.Machine

variable {t : Nat} {p : Path} {a : BitVec 24} {r : RegRow} {v : Word} {s : State}

/-! ### RC reads complete (R48) -/

theorem rcRead_completes (hon : s.folioOn = true) (hf : findRow a.toNat = some r) (hr : r.acc = .rc) (hd : denied s p a.toNat = false)
    (hv : unreachedV s a.toNat = false) (ho : domainOff s a.toNat = false) :
    Completes (.rcRead t p a) s fun u => u.out = [.regData p (rcValue (begin t s) p a.toNat)] ∧ u.rcSpi = (rcClear (begin t s) p a.toNat).rcSpi ∧
      u.rcPf = (rcClear (begin t s) p a.toNat).rcPf ∧ u.regs = s.regs := by
  have hacc : hasAccess a.toNat .rc = true := hr ▸ hasAccess_of_findRow hf
  have hread := readReg_rc (s := begin t s) hf hr (by simpa using hd) (by simpa using ho)
  exact completes_event (execRcRead t p a s) rfl rfl (by simp [hon, hacc, hv]) (by simp [hread, emit, rcClear_keeps _ _ _])

/-- From canonical stores a read clears its own register in the reader's copy, and neither the other registers nor what its own tick stamped. -/
theorem rcRead_clears (hw : CanonicalStores s) (hon : s.folioOn = true) (hf : findRow a.toNat = some r) (hr : r.acc = .rc)
    (hd : denied s p a.toNat = false) (hv : unreachedV s a.toNat = false) (ho : domainOff s a.toNat = false) :
    Completes (.rcRead t p a) s fun u => u.out = [.regData p (rcValue (begin t s) p a.toNat)] ∧ rcValue u p a.toNat = 0 ∧
      u.rcSpi.fresh = (begin t s).rcSpi.fresh ∧ u.rcPf.fresh = (begin t s).rcPf.fresh ∧ (∀ b, b ≠ a.toNat → rcValue u p b = rcValue (begin t s) p b) := by
  obtain ⟨-, hsettledSpi, hfreshSpi, hsettledPf, hfreshPf⟩ := hw
  obtain ⟨hspi, hpf⟩ := begin_rc_wf t s ⟨⟨hsettledSpi, hfreshSpi⟩, ⟨hsettledPf, hfreshPf⟩⟩
  obtain ⟨u, hu, hout, hcSpi, hcPf, -⟩ := rcRead_completes (t := t) hon hf hr hd hv ho
  have hval : ∀ b, rcValue u p b = if b = a.toNat then 0 else rcValue (begin t s) p b := fun b => by
    rw [← rcValue_rcClear hspi hpf, rcValue_congr hcSpi hcPf p b]
  obtain ⟨hkSpi, hkPf⟩ := rcClear_fresh (begin t s) p a.toNat
  exact ⟨u, hu, hout, by rw [hval, if_pos rfl], by rw [hcSpi, hkSpi], by rw [hcPf, hkPf], fun b hb => by rw [hval, if_neg hb]⟩

/-- Settles O52: what a read returns is what the folds of earlier ticks left, and the packed counters saturate field by field. -/
theorem rcReadsReturnWhatEarlierTicksStamped : Obligations.RcReadsReturnWhatEarlierTicksStamped := by
  refine ⟨rcValue_rcAdd, fun _ _ p b h => rcValue_begin_of_not_lt h p b, fun t s b hw hlt => ?_, fun _ _ _ _ _ => rcRead_clears,
    fun _ _ h x y hw => fld_rcMerge_counts h x y hw⟩
  obtain ⟨-, hsettledSpi, hfreshSpi, hsettledPf, hfreshPf⟩ := hw
  rw [begin_of_lt hlt]
  constructor
  · refine (RcCopy.fold_get ⟨hsettledSpi, hfreshSpi⟩ b).trans ?_
    cases s.rcSpi.fresh.find b <;> rfl
  · refine (RcCopy.fold_get ⟨hsettledPf, hfreshPf⟩ b).trans ?_
    cases s.rcPf.fresh.find b <;> rfl

end Sys2Proof.Safety
end

section
/-! The accesses to set-up space complete: the frames of the SPI target, the BAR accesses, register accesses by class, and those of the Scribe function
(R36–R53, R58, R244). Each is one command's completion by the rules for reads and writes above. -/

namespace Sys2Proof.Safety

open Sys2Proof.Machine

variable {t : Nat} {p : Path} {a : BitVec 24} {r : RegRow} {v : Word} {s : State}

/-! ### SPI frames (R36, R38, R40, R41, R45, R53) -/

theorem spiReadFrame_completes (hon : s.folioOn = true) (hb : bootRefused s a.toNat = false) (hv : unreachedV s a.toNat = false)
    (hf : findRow a.toNat = some r) (hr : r.acc = .rw) :
    Completes (.spiReadFrame t a) s fun u => u.out = [.spi (spiReadReply 0x5A a (regView (begin t s) a.toNat))] ∧ u.regs = s.regs ∧ u.rcSpi = (begin t s).rcSpi := by
  have hread := readReg_rw (s := begin t s) (p := .spi) hf hr (denied_spi _ _)
  exact completes_event (execSpiReadFrame t a s) rfl rfl (by simpa using hon) (by simp [hb, hv, hread, emit])

theorem spiReadFrame_refused (hon : s.folioOn = true) (hb : bootRefused s a.toNat = true) :
    Completes (.spiReadFrame t a) s fun u => u.out = [.spi (spiReadReply 0xA5 a 0xFFFFFFFF)] ∧ u.regs = s.regs :=
  completes_event (execSpiReadFrame t a s) rfl rfl (by simpa using hon) (by simp [hb, emit, accessFault_keeps _ _ _])

theorem spiWriteFrame_completes (hon : s.folioOn = true) (hb : bootRefused s a.toNat = false) (hw : takesWrite s .spi a.toNat r v) (he : r.applies = .epoch) :
    Completes (.spiWriteFrame t a v (spiWriteCrc a v)) s fun u =>
      u.out = [.spi [0x5A]] ∧ u.staged = s.staged ++ [{ addr := a.toNat, value := v &&& r.mask, tick := max s.now t }] ∧ u.regs = s.regs := by
  have hwrite := setupWrite_epoch (takesWrite_begin (t := t) hw) he
  obtain ⟨-, -, -, -, -, hv, -⟩ := hw
  exact completes_event (execSpiWriteFrame t a v (spiWriteCrc a v) s) rfl rfl (by simpa using hon) (by simp [hb, hv, hwrite, emit, stageWrite])

theorem spiWriteFrame_badCrc {crc : Byte} (hon : s.folioOn = true) (hcrc : crc ≠ spiWriteCrc a v) :
    Completes (.spiWriteFrame t a v crc) s fun u => u.out = [.spi [0xC3]] ∧ u.regs = s.regs ∧ u.staged = s.staged ∧ u.writes = s.writes :=
  completes_event (execSpiWriteFrame t a v crc s) rfl rfl (by simpa using hon) (by simp [hcrc, emit, accessFault_keeps _ _ _, rcCount_keeps _ _ _])

theorem spiUnknownCommand_completes {b : Byte} (hon : s.folioOn = true) (hread : b ≠ 0x3B) (hwrite : b ≠ 0xD2) :
    Completes (.spiUnknownCommand t b) s fun u => u.out = [.spi [0x3C]] ∧ u.regs = s.regs ∧ u.staged = s.staged :=
  completes_event (execSpiUnknownCommand t b s) rfl rfl (by simpa [hon] using And.intro hread hwrite) (by simp [emit, accessFault_keeps _ _ _])

theorem spiCsRelease_completes : Completes (.spiCsRelease t) s fun u => u.out = [] ∧ u.regs = s.regs ∧ u.staged = s.staged ∧ u.writes = s.writes :=
  ⟨_, act_next t s id, by simp⟩

theorem accessTimeout_spi_completes {isWrite : Bool} (hon : s.folioOn = true) :
    Completes (.accessTimeout t .spi a isWrite) s fun u =>
      u.out = [.spi (if isWrite then [0xA5] else spiReadReply 0xA5 a 0xFFFFFFFF)] ∧ u.regs = s.regs ∧ u.writes = s.writes ∧ u.staged = s.staged :=
  completes_event (execAccessTimeout t .spi a isWrite s) rfl rfl (by simpa using hon) (by simp [failReply, emit, accessTimeout_keeps _ _ _])

/-! ### BAR accesses (R42, R43, R45) -/

section Bar

variable {off : BitVec 22} {lanes : BitVec 4}

theorem barRead_completes (hopen : barOpen s = true) (hwin : windowOn s .bar0 = true) (hl : lanes ≠ 0) (hf : findRow (off.toNat / 4 * 4) = some r)
    (hr : r.acc = .rw) (hd : denied s .pf (off.toNat / 4 * 4) = false) (hv : unreachedV s (off.toNat / 4 * 4) = false) :
    Completes (.barRead t .bar0 off lanes) s fun u => u.out = [.barData (laneWord (regView (begin t s) (off.toNat / 4 * 4)) lanes)] ∧ u.regs = s.regs := by
  have hread := readReg_rw (s := begin t s) hf hr (by simpa using hd)
  exact completes_event (execBarRead t .bar0 off lanes s) rfl rfl (by simpa [hopen, hwin] using hl) (by simp [windowTarget, hv, hread, emit])

theorem barWrite_completes (hopen : barOpen s = true) (hwin : windowOn s .bar0 = true) (hw : takesWrite s .pf (off.toNat / 4 * 4) r v) (he : r.applies = .epoch) :
    Completes (.barWrite t .bar0 off v 15) s fun u =>
      u.staged = s.staged ++ [{ addr := off.toNat / 4 * 4, value := v &&& r.mask, tick := max s.now t }] ∧ u.regs = s.regs ∧ u.out = [] := by
  have hwrite := setupWrite_epoch (takesWrite_begin (t := t) hw) he
  obtain ⟨-, -, -, -, -, hv, -⟩ := hw
  exact completes_event (execBarWrite t .bar0 off v 15 s) rfl rfl (by simp [hopen, hwin]) (by simp [windowTarget, hv, hwrite, stageWrite])

theorem barWrite_partial (hopen : barOpen s = true) (hwin : windowOn s .bar0 = true) (hl : lanes ≠ 0) (hpart : lanes ≠ 15) :
    Completes (.barWrite t .bar0 off v lanes) s fun u => u.regs = s.regs ∧ u.staged = s.staged ∧ u.writes = s.writes := by
  have hlanes : ¬lanes = 15#4 := hpart
  exact completes_event (execBarWrite t .bar0 off v lanes s) rfl rfl (by simpa [hopen, hwin] using hl)
    (by simp [windowTarget, hlanes, accessFault_keeps _ _ _, accessRecord_keeps _ _ _ _ _])

end Bar

/-- Settles O17: each clause is one access's completion, proved above.
That a released chip select finds nothing in progress rests on assumption 23, and when a BAR answers on assumption 20. -/
theorem spiFramesAndBarAccessesComplete : Obligations.SpiFramesAndBarAccessesComplete :=
  ⟨fun _ _ _ _ => spiReadFrame_completes, fun _ _ _ => spiReadFrame_refused, fun _ _ _ _ _ => spiWriteFrame_completes,
    fun _ _ _ _ _ => spiWriteFrame_badCrc, fun _ _ _ => spiUnknownCommand_completes, fun _ _ => spiCsRelease_completes,
    fun _ _ _ _ => accessTimeout_spi_completes, fun _ _ _ _ _ => barRead_completes, fun _ _ _ _ _ => barWrite_completes,
    fun _ _ _ _ _ => barWrite_partial⟩

/-! ### Register accesses by class (R7, R44, R46, R48, R49, R52, R58) -/

theorem registerWrite_epoch_completes (hon : s.folioOn = true) (hb : p = .spi → bootRefused s a.toNat = false) (hw : takesWrite s p a.toNat r v)
    (he : r.applies = .epoch) :
    Completes (.registerWrite t p a v) s fun u =>
      u.staged = s.staged ++ [{ addr := a.toNat, value := v &&& r.mask, tick := max s.now t }] ∧ u.regs = s.regs ∧ u.writes = s.writes := by
  have hwrite := setupWrite_epoch (takesWrite_begin (t := t) hw) he
  obtain ⟨-, -, -, -, -, hv, -⟩ := hw
  exact completes_event (execRegisterWrite t p a v s) rfl rfl (by simpa using hon) (by simp +contextual [hb, hv, hwrite, stageWrite])

theorem registerWrite_buffered_completes (hon : s.folioOn = true) (hb : p = .spi → bootRefused s a.toNat = false) (hw : takesWrite s p a.toNat r v)
    (he : r.applies ≠ .epoch) (hi : r.applies ≠ .imm) :
    Completes (.registerWrite t p a v) s fun u =>
      u.writes = s.writes ++ [{ addr := a.toNat, value := v &&& r.mask, accepted := max s.now t, taken := max s.now t }] ∧ u.regs = s.regs ∧ u.staged = s.staged := by
  have hwrite := setupWrite_buffered (takesWrite_begin (t := t) hw) he hi
  obtain ⟨-, -, -, -, -, hv, -⟩ := hw
  exact completes_event (execRegisterWrite t p a v s) rfl rfl (by simpa using hon) (by simp +contextual [hb, hv, hwrite])

theorem registerWrite_denied_completes (hon : s.folioOn = true) (hb : p = .spi → bootRefused s a.toNat = false) (hpage : pageVi a.toNat = none)
    (hd : denied s p a.toNat = true) : Completes (.registerWrite t p a v) s fun u => u.regs = s.regs ∧ u.writes = s.writes ∧ u.staged = s.staged := by
  have hwrite := setupWrite_denied (s := begin t s) (p := p) (v := v) hpage (by simpa using hd)
  exact completes_event (execRegisterWrite t p a v s) rfl rfl (by simpa using hon) (by simp +contextual [hb, hd, hwrite, privDenied_keeps _ _ _])

theorem epochStageWrite_completes (hon : s.folioOn = true) (hp : privileged s p = true) (hw : takesWrite s p a.toNat r v) (he : r.applies = .epoch) :
    Completes (.epochStageWrite t p a v) s fun u => u.staged = s.staged ++ [{ addr := a.toNat, value := v &&& r.mask, tick := max s.now t }] ∧ u.regs = s.regs := by
  have hwrite := setupWrite_epoch (takesWrite_begin (t := t) hw) he
  obtain ⟨hf, hacc, -, -, -, hv, -⟩ := hw
  exact completes_privCmd (execEpochStageWrite t p a v s) rfl rfl hon hp (by simp [isEpoch, hf, hacc, he, hv, when_true, hwrite, stageWrite])

theorem pairLowRead_completes (hon : s.folioOn = true) (hl : pairLow a.toNat = true) (hf : findRow a.toNat = some r) (hr : r.acc = .ro)
    (hd : denied s p a.toNat = false) (ho : domainOff s a.toNat = false) :
    Completes (.pairLowRead t p a) s fun u => u.out = [.regData p (regView (begin t s) a.toNat)] ∧
      { path := p, addr := a.toNat + 4, value := regView (begin t s) (a.toNat + 4) : PairLatch } ∈ u.pairs ∧ u.regs = s.regs := by
  have hread := readReg_pairLow (s := begin t s) hl hf hr (by simpa using hd) (by simpa using ho)
  exact completes_event (execPairLowRead t p a s) rfl rfl (by simp [hon, hl]) (by simp [hread, readLow, emit])

theorem pfTrustWrite_completes (hon : s.folioOn = true) (hp : privileged s p = true) (hw : RegFile.wf mapReset s.regs = true) :
    Completes (.pfTrustWrite t p v) s fun u => reg u 0x30 = v &&& 1 ∧ u.trustBySpi = (p == .spi) ∧ u.staged = s.staged := by
  have hwrite := setupWrite_pfTrust (s := begin t s) (v := v) (by simpa using hp)
  have hreg := reg_setApplied (s := { begin t s with trustBySpi := p == .spi }) (a := 0x30) (v := v &&& 1) (by simpa using hw)
  refine completes_privCmd (execPfTrustWrite t p v s) rfl rfl hon hp ⟨?_, by simp [hwrite, setApplied_keeps _ _ _], by simp [hwrite, setApplied_keeps _ _ _]⟩
  simpa [reg, hwrite] using hreg

/-! ### The Scribe function's accesses (R244) -/

section Function

variable {q : FuncReq} {rest : List FuncReq}

/-- With a sound head request the guarded access runs, and its answer takes the request's place (R244). -/
theorem execFuncRead_head (hq : s.func.queue = q :: rest) (hrun : scribeRuns s = true) (hok : q.ok = true) (hop : q.op = 1) :
    execFuncRead t s = .next { settle (funcDrain 32 (funcPop (readReg (begin t s) .scribe q.addr).1
      (funcReply q (bnat (denied s .scribe q.addr)) (readReg (begin t s) .scribe q.addr).2))) with now := max s.now t, pending := s.pending } := by
  simp [execFuncRead, act_next, hq, hrun, hok, hop, when_true]

theorem execFuncWrite_head (hq : s.func.queue = q :: rest) (hrun : scribeRuns s = true) (hok : q.ok = true) (hop : q.op = 2) :
    execFuncWrite t s = .next { settle (funcDrain 32 (funcPop (setupWrite (begin t s) .scribe q.addr q.data)
      (funcReply q (bnat (denied s .scribe q.addr)) q.data))) with now := max s.now t, pending := s.pending } := by
  simp [execFuncWrite, act_next, hq, hrun, hok, hop, when_true]

theorem funcRead_completes (hq : s.func.queue = q :: rest) (hrun : scribeRuns s = true) (hok : q.ok = true) (hop : q.op = 1) :
    Completes (.funcRead t) s fun u => u.regs = s.regs ∧ u.staged = s.staged ∧ u.writes = s.writes ∧ u.func.queue.length ≤ rest.length := by
  refine ⟨_, execFuncRead_head hq hrun hok hop, ?_⟩
  have hlen := funcDrain_funcPop_queue_le 32 (funcReply q (bnat (denied s .scribe q.addr)) (readReg (begin t s) .scribe q.addr).2)
    (s := (readReg (begin t s) .scribe q.addr).1) (q := q) (rest := rest) (by simp [readReg_keeps _ _ _, hq])
  simpa [funcDrain_keeps _ _, funcPop_keeps _ _, readReg_keeps _ _ _] using hlen

theorem funcWrite_denied_completes (hq : s.func.queue = q :: rest) (hrun : scribeRuns s = true) (hok : q.ok = true) (hop : q.op = 2)
    (hpage : pageVi q.addr = none) (hd : denied s .scribe q.addr = true) :
    Completes (.funcWrite t) s fun u => u.regs = s.regs ∧ u.staged = s.staged ∧ u.writes = s.writes ∧ u.func.queue.length ≤ rest.length := by
  refine ⟨_, execFuncWrite_head hq hrun hok hop, ?_⟩
  rw [setupWrite_denied hpage (by simpa using hd)]
  have hlen := funcDrain_funcPop_queue_le 32 (funcReply q (bnat (denied s .scribe q.addr)) q.data)
    (s := privDenied (begin t s) .scribe q.addr) (q := q) (rest := rest) (by simp [privDenied_keeps _ _ _, hq])
  simpa [funcDrain_keeps _ _, funcPop_keeps _ _, privDenied_keeps _ _ _] using hlen

theorem funcWrite_ro_completes (hq : s.func.queue = q :: rest) (hrun : scribeRuns s = true) (hok : q.ok = true) (hop : q.op = 2)
    (hpage : pageVi q.addr = none) (hf : findRow q.addr = some r) (hr : r.acc = .ro) (hd : denied s .scribe q.addr = false) :
    Completes (.funcWrite t) s fun u => u.regs = s.regs ∧ u.staged = s.staged ∧ u.writes = s.writes ∧ u.rcSpi = (begin t s).rcSpi ∧
      u.func.queue.length ≤ rest.length := by
  refine ⟨_, execFuncWrite_head hq hrun hok hop, ?_⟩
  rw [setupWrite_ro hpage hf hr (by simpa using hd)]
  have hlen := funcDrain_funcPop_queue_le 32 (funcReply q (bnat (denied s .scribe q.addr)) q.data)
    (s := begin t s) (q := q) (rest := rest) (by simp [hq])
  simpa [funcDrain_keeps _ _, funcPop_keeps _ _] using hlen

end Function

/-- Settles O19: each clause is one access's completion, proved above. That the Scribe function reaches what needs no privilege, and nothing else, rests
on assumption 25. -/
theorem registerAndFunctionAccessesComplete : Obligations.RegisterAndFunctionAccessesComplete :=
  ⟨fun _ _ _ _ _ _ => registerWrite_epoch_completes, fun _ _ _ _ _ _ => registerWrite_buffered_completes, fun _ _ _ _ _ => registerWrite_denied_completes,
    fun _ _ _ _ _ _ => epochStageWrite_completes, fun _ _ _ _ _ => rcRead_completes, fun _ _ _ _ _ => pairLowRead_completes,
    fun _ _ _ _ => pfTrustWrite_completes, fun _ _ _ _ => funcRead_completes, fun _ _ _ _ => funcWrite_denied_completes,
    fun _ _ _ _ _ => funcWrite_ro_completes⟩

end Sys2Proof.Safety
end

section
/-! A denial is itself a record, and a record can be suppressed (R44, R370). -/

namespace Sys2Proof.Safety

open Sys2Proof.Machine

/-- Folio runs, and the bucket of the records of denials holds no token. -/
def deniedOutOfTokens : State :=
  { State.reset with
    folioOn := true
    pal := { State.reset.pal with buckets := [{ code := 0x0101, port := 0, sev := .warning, tokens := 0, nextGain := 1, suppressed := 0, first := 0, last := 0 }] } }

/-- The denied command counts in PRIV_DENY_COUNT (0x108), and its suppressed record in the recorder's count of suppressed records (0x4002C, R370). -/
theorem denied_counts_suppressed_record : ∃ u, exec (.rubricAbort 0 .pf) deniedOutOfTokens = .next u ∧ u.rcSpi.fresh = [(0x108, 1), (0x4002C, 1)] :=
  ⟨_, rfl, by decide +kernel⟩

/-- Refutes O58: it has each copy of the RC registers take PRIV_DENY_COUNT's addition alone, and where the denial's record is suppressed for want of a token
the recorder counts that in an RC register too (R370). A record that displaces another or is lost to a full RAM is counted likewise (R368). -/
theorem not_deniedCommandsHaveNoEffect : ¬ Obligations.DeniedCommandsHaveNoEffect := by
  rintro ⟨-, h⟩
  obtain ⟨u, hu, hfresh⟩ := denied_counts_suppressed_record
  obtain ⟨-, -, hspi, -, -⟩ := h (.rubricAbort 0 .pf) 0 .pf 0x200 deniedOutOfTokens u rfl rfl (by decide +kernel) hu
  rw [hspi] at hfresh
  exact absurd hfresh (by decide +kernel)

end Sys2Proof.Safety
end

section
/-! The operations that change ownership's other facts and leave every port's owner as it was: stashes discarded, trees released, ports shed and reset. What a
decision gives a port is then its verdict (R70, R75). -/

namespace Sys2Proof.Machine

/-! ### The owner of a port through the forms a definition takes -/

@[simp] theorem vmod_get_owner {v : Vector Own 16} {f : Own → Own} (h : ∀ o, (f o).owner = o.owner) (i j : Fin 16) :
    ((vmod v i f).get j).owner = (v.get j).owner := by
  rw [vmod_get]
  split
  · next hij => rw [h, hij]
  · rfl

@[simp] theorem ite_get_owner (c : Prop) [Decidable c] (v w : Vector Own 16) (i : Fin 16) :
    ((if c then v else w).get i).owner = if c then (v.get i).owner else (w.get i).owner :=
  apply_ite (fun x : Vector Own 16 => (x.get i).owner) c v w

@[simp] theorem foldl_owner {β : Type} (g : State → β → State) (m : PortId) (h : ∀ u x, ((g u x).own.get m).owner = (u.own.get m).owner) (l : List β) (s : State) :
    ((l.foldl g s).own.get m).owner = (s.own.get m).owner :=
  foldl_proj (fun u => (u.own.get m).owner) g h l s

@[simp] theorem foldlPair_owner {β γ : Type} (g : State × γ → β → State × γ) (m : PortId) (h : ∀ u x, ((g u x).1.own.get m).owner = (u.1.own.get m).owner)
    (l : List β) (s : State × γ) : ((l.foldl g s).1.own.get m).owner = (s.1.own.get m).owner :=
  foldlPair_proj (fun u => (u.own.get m).owner) g h l s

@[simp] theorem eachPort_owner (g : State → PortId → State) (m : PortId) (h : ∀ u x, ((g u x).own.get m).owner = (u.own.get m).owner) (s : State) :
    ((eachPort s g).own.get m).owner = (s.own.get m).owner := foldl_owner g m h _ s

/-! ### Trees released and buses gone (R121, R191, R206) -/

@[simp] theorem noteDiscard_owner (s : State) (e : Endpoint) (bytes reason : Nat) (m : PortId) :
    ((noteDiscard s e bytes reason).own.get m).owner = (s.own.get m).owner := by
  unfold noteDiscard
  split
  · rfl
  · simp [notice_keeps _ _ _ _ _ _ _, setEp_keeps _ _ _]

@[simp] theorem dropStash_owner (s : State) (ctx reason : Nat) (m : PortId) : ((dropStash s ctx reason).own.get m).owner = (s.own.get m).owner := by
  unfold dropStash
  split
  · rfl
  · simp [settleCtx_keeps _ _ _ _, setEp_keeps _ _ _]

@[simp] theorem releaseEp_owner (s : State) (ctx code reason : Nat) (m : PortId) : ((releaseEp s ctx code reason).1.own.get m).owner = (s.own.get m).owner := by
  simp [releaseEp, settleCtx_keeps _ _ _ _, endQueue_keeps _ _ _ _]

@[simp] theorem releaseEps_owner (s : State) (pick : Endpoint → Bool) (code reason : Nat) (m : PortId) :
    ((releaseEps s pick code reason).1.own.get m).owner = (s.own.get m).owner := by
  simp [releaseEps]

@[simp] theorem releasePath_owner (s : State) (n : PortId) (ss : Bool) (code reason : Nat) (m : PortId) :
    ((releasePath s n ss code reason).1.own.get m).owner = (s.own.get m).owner := by
  simp [releasePath]

@[simp] theorem releaseTree_owner (s : State) (n : PortId) (code reason : Nat) (m : PortId) :
    ((releaseTree s n code reason).1.own.get m).owner = (s.own.get m).owner := by
  simp [releaseTree]

@[simp] theorem pathGone_owner (s : State) (n : PortId) (ss : Bool) (reason : Nat) (m : PortId) :
    ((pathGone s n ss reason).own.get m).owner = (s.own.get m).owner := by
  unfold pathGone
  dsimp only
  (repeat' split) <;>
    simp [detachNotice_keeps _ _ _ _ _, setNib_keeps _ _ _, viewDisconnect_keeps _ _ _, finishCmd_keeps _ _ _ _ _ _]

@[simp] theorem busGone_owner (s : State) (n : PortId) (reason : Nat) (m : PortId) : ((busGone s n reason).own.get m).owner = (s.own.get m).owner := by
  unfold busGone
  dsimp only
  split <;> simp [detachNotice_keeps _ _ _ _ _, setNib_keeps _ _ _, setCPort_keeps _ _ _, abortCmds_keeps _ _]

/-! ### Shares and sheds (R337) -/

@[simp] theorem powerOffPort_owner (s : State) (n : PortId) (reason : Nat) (m : PortId) :
    ((powerOffPort s n reason).own.get m).owner = (s.own.get m).owner := by
  simp [powerOffPort, presentRp_keeps _ _, endContract_keeps _ _, pdState_keeps _ _ _, vconnOff_keeps _ _]

@[simp] theorem shedOff_owner (s : State) (n : PortId) (hard : Bool) (m : PortId) : ((shedOff s n hard).own.get m).owner = (s.own.get m).owner := by
  simp [shedOff, noteShed_keeps _ _, setPower_keeps _ _ _, gateOff_keeps _ _ _ _]

@[simp] theorem recomputeShares_owner (s : State) (m : PortId) : ((recomputeShares s).own.get m).owner = (s.own.get m).owner := by
  simp [recomputeShares, clearShed_keeps _ _, applyIncrease_keeps _ _, markShare_keeps _ _, setPower_keeps _ _ _]

/-! ### The transition of a decision (R75, R77, R89) -/

@[simp] theorem startLease_owner (s : State) (n m : PortId) : ((startLease s n).own.get m).owner = (s.own.get m).owner := by
  unfold startLease
  split <;> simp

@[simp] theorem settleOld_owner (s : State) (n m : PortId) : ((settleOld s n).own.get m).owner = (s.own.get m).owner := by
  unfold settleOld
  dsimp only
  (repeat' split) <;> simp [endOldWork_keeps _ _ _, ownerLostNotice_keeps _ _ _ _]

@[simp] theorem beginResetting_owner (s : State) (n m : PortId) : ((beginResetting s n).own.get m).owner = (s.own.get m).owner := by
  unfold beginResetting
  dsimp only
  split <;> simp [emptyLig_keeps _ _, resetBoth_keeps _ _ _, abortCmds_keeps _ _, setNib_keeps _ _ _]

@[simp] theorem changeOwner_owner (s : State) (n : PortId) (next : Owner) (st : OwnState) (cause : Nat) :
    ((changeOwner s n next st cause).own.get n).owner = next := by
  simp [changeOwner, ownerChangeNotice_keeps _ _ _, record_keeps _ _ _ _ _ _ _]

/-- A transition gives the port the verdict's owner. -/
@[simp] theorem transition_owner (s : State) (n : PortId) (v : Verdict) : ((transition s n v).own.get n).owner = v.next := by
  unfold transition
  dsimp only
  (repeat' split) <;> simp [dropOwnerCmds_keeps _ _, setApplied_keeps _ _ _, enablePort_keeps _ _]

end Sys2Proof.Machine
end

section
/-! The verdict of a decision (R70): the owner it comes to, and that the decision gives the port that owner. -/

namespace Sys2Proof.Machine

/-! ### What a verdict reads -/

/-- A verdict does not read who owns what. -/
theorem judge_setOwn (s : State) (n m : PortId) (f : Own → Own) (holder : Owner) (evs : List P4Event) :
    judge (setOwn s n f) m holder evs = judge s m holder evs := rfl

@[simp] theorem claimRank_begin (t : Nat) (s : State) (w : Owner) : claimRank (begin t s) w = claimRank s w := by
  cases w <;> simp [claimRank, ownPolicy]

@[simp] theorem ownSuccessor_begin (t : Nat) (s : State) (n : PortId) : ownSuccessor (begin t s) n = ownSuccessor s n := by simp [ownSuccessor]
@[simp] theorem ownHome_begin (t : Nat) (s : State) (n : PortId) : ownHome (begin t s) n = ownHome s n := by simp [ownHome]
@[simp] theorem reclaimHome_begin (t : Nat) (s : State) (n : PortId) : reclaimHome (begin t s) n = reclaimHome s n := by simp [reclaimHome]

/-- Nobody's claim is never valid: it has no right to claim. -/
theorem claimReason_none (s : State) (n : PortId) : claimReason s n .none = 1 := by
  simp [claimReason, claimRight, ownPolicy, bitOf, fld]

/-! ### The comparison of claims -/

/-- One claim beats another: its rank is higher, or equal with a lower owner code. -/
abbrev beats (s : State) (w x : Owner) : Prop := claimRank s x < claimRank s w ∨ (claimRank s x = claimRank s w ∧ w.code < x.code)

theorem beats.asymm {s : State} {w x : Owner} (h : beats s w x) : ¬ beats s x w := by
  omega

/-- The better of the best claim so far and another. -/
def pickClaim (s : State) (best : Option Owner) (w : Owner) : Option Owner :=
  match best with
  | none => some w
  | some b => if beats s w b then some w else some b

theorem bestClaim_eq_foldl (s : State) (ws : List Owner) : bestClaim s ws = ws.foldl (pickClaim s) none := rfl

theorem pickClaim_of_beats {s : State} {w x : Owner} (h : beats s w x) : pickClaim s (some x) w = some w := if_pos h

theorem pickClaim_of_not_beats {s : State} {w x : Owner} (h : ¬ beats s w x) : pickClaim s (some x) w = some x := if_neg h

/-- The best claim so far stays or the new one takes its place. -/
theorem pickClaim_cases (s : State) (best : Option Owner) (w : Owner) : pickClaim s best w = some w ∨ pickClaim s best w = best := by
  cases best with
  | none => exact .inl rfl
  | some b => exact (Classical.em (beats s w b)).imp pickClaim_of_beats pickClaim_of_not_beats

/-- Comparing claims one after another ends with the one that beats every other, wherever it stands. -/
theorem foldl_pickClaim {s : State} {w : Owner} (ws : List Owner) (best : Option Owner) (hw : best = some w ∨ w ∈ ws) (hbest : ∀ b ∈ best, b ≠ w → beats s w b)
    (hws : ∀ x ∈ ws, x ≠ w → beats s w x) : ws.foldl (pickClaim s) best = some w := by
  induction ws generalizing best with
  | nil => simpa using hw
  | cons x xs ih =>
    have hx : x ≠ w → beats s w x := hws x List.mem_cons_self
    refine ih (pickClaim s best x) ?_ ?_ (fun y hy => hws y (List.mem_cons_of_mem x hy))
    · obtain rfl | hw := hw
      · left
        exact pickClaim_of_not_beats fun h => h.asymm (hx fun he => h.asymm (he ▸ h))
      obtain rfl | hw := List.mem_cons.mp hw
      · left
        cases best with
        | none => rfl
        | some b =>
          by_cases hb : b = w
          · subst hb
            exact (pickClaim_cases s (some b) b).elim id id
          · exact pickClaim_of_beats (hbest b rfl hb)
      · exact .inr hw
    · intro b hb hne
      obtain h | h := pickClaim_cases s best x
      · rw [h, Option.mem_some] at hb
        exact hb ▸ hx (hb ▸ hne)
      · exact hbest b (h ▸ hb) hne

/-- A claim that beats every other one wins. -/
theorem bestClaim_eq_some {s : State} {ws : List Owner} {w : Owner} (hw : w ∈ ws) (hbest : ∀ x ∈ ws, x ≠ w → beats s w x) : bestClaim s ws = some w :=
  foldl_pickClaim ws none (.inr hw) (by simp) hbest

/-! ### The verdict's owner -/

/-- Who stands against the claims: the holder, or where it lost the port in this tick its eligible SUCCESSOR. -/
def standing (s : State) (n : PortId) (holder : Owner) (evs : List P4Event) : Owner :=
  if (lossOf evs holder).isNone then holder
  else if ownSuccessor s n ≠ .none ∧ ownSuccessor s n ≠ holder ∧ eligibleFor s (ownSuccessor s n) n = true then ownSuccessor s n else .none

/-- The claims that are compared: none by a holder who keeps the port, and none refused beforehand. -/
def validClaims (s : State) (n : PortId) (holder : Owner) (evs : List P4Event) : List Owner :=
  (claimsOf evs).filter (fun w => !(w == holder && (lossOf evs holder).isNone) && claimReason s n w == 0)

theorem mem_validClaims {s : State} {n : PortId} {holder x : Owner} {evs : List P4Event} :
    x ∈ validClaims s n holder evs ↔ x ∈ claimsOf evs ∧ ¬ (x = holder ∧ (lossOf evs holder).isNone = true) ∧ claimReason s n x = 0 := by
  cases hl : lossOf evs holder <;> simp [validClaims, hl]

theorem judge_assigned {s : State} {n : PortId} {holder w : Owner} {evs : List P4Event} (ha : (assignsOf evs).getLast? = some w) :
    (judge s n holder evs).next = if w = .none ∨ eligibleFor s w n = true then w else holder := by
  simp only [judge, ha]
  by_cases hw : w = .none <;> by_cases he : eligibleFor s w n = true <;> simp [hw, he]

theorem validClaims_eq (s : State) (n : PortId) (holder : Owner) (evs : List P4Event) :
    ((((claimsOf evs).filter (fun w => !(w == holder && (lossOf evs holder).isNone))).map (fun w => (w, claimReason s n w))).filter
      (fun x => x.2 == 0)).map (·.1) = validClaims s n holder evs := by
  simp [validClaims, List.filter_map, Function.comp_def, List.filter_filter, Bool.and_comm]

/-- The owner once the claims are compared: the best of them where nobody stands or it ranks higher. -/
def afterClaims (s : State) (stands : Owner) (best : Option Owner) : Owner :=
  match best with
  | none => stands
  | some w => if stands = .none ∨ claimRank s stands < claimRank s w then w else stands

/-- A port left without an owner returns home where RECLAIM_HOME asks for it and HOME is eligible. -/
def afterHome (s : State) (n : PortId) (owner : Owner) : Owner :=
  if owner = .none ∧ reclaimHome s n = true ∧ eligibleFor s (ownHome s n) n = true then ownHome s n else owner

theorem afterClaims_ne_none {s : State} {stands w : Owner} (hw : w ≠ .none) : afterClaims s stands (some w) ≠ .none := by
  show (if stands = .none ∨ claimRank s stands < claimRank s w then w else stands) ≠ .none
  split
  · exact hw
  · next h => exact fun hnone => h (.inl hnone)

theorem afterHome_of_ne_none {s : State} {n : PortId} {owner : Owner} (h : owner ≠ .none) : afterHome s n owner = owner := if_neg fun hhome => h hhome.1

theorem judge_unassigned {s : State} {n : PortId} {holder : Owner} {evs : List P4Event} (ha : assignsOf evs = []) :
    (judge s n holder evs).next = afterHome s n (afterClaims s (standing s n holder evs) (bestClaim s (validClaims s n holder evs))) := by
  unfold judge
  extract_lets claims _ loss suc base judged bad valid after
  split
  · next h => simp [ha] at h
  have hbase : base.next = standing s n holder evs := by
    cases hl : lossOf evs holder <;> simp [base, loss, suc, standing, hl, and_assoc, apply_ite Verdict.next]
  have hvalid : valid = validClaims s n holder evs := validClaims_eq s n holder evs
  have hafter : after.next = afterClaims s base.next (bestClaim s valid) := by
    cases hb : bestClaim s valid <;> simp [after, afterClaims, hb, apply_ite Verdict.next]
  rw [← hbase, ← hvalid, ← hafter]
  simp [afterHome, and_assoc, apply_ite Verdict.next]

end Sys2Proof.Machine
end

section
/-! A decision gives the port its verdict's owner (R70). -/

namespace Sys2Proof.Machine

variable {s : State} {n : PortId}

/-- A port in SERVICE or BARRED keeps what it has. -/
theorem decidePort_owner_of_barred (h : (s.own.get n).state = .service ∨ (s.own.get n).state = .barred) :
    ((decidePort s n).own.get n).owner = (s.own.get n).owner := by
  simp [decidePort, h, answerClaims_keeps _ _ _ _, refuseClaim_keeps _ _ _ _]

/-- Any other port gets the verdict's owner, whether it changes or stays. -/
theorem decidePort_owner (hs : (s.own.get n).state ≠ .service) (hb : (s.own.get n).state ≠ .barred) :
    ((decidePort s n).own.get n).owner = (judge s n (s.own.get n).owner (s.own.get n).events).next := by
  have hfree : ¬ ((s.own.get n).state = .service ∨ (s.own.get n).state = .barred) := by simp [hs, hb]
  by_cases hsame : (judge s n (s.own.get n).owner (s.own.get n).events).next = (s.own.get n).owner <;>
    simp [decidePort, hfree, judge_setOwn, answerClaims_keeps _ _ _ _, refuseClaim_keeps _ _ _ _, hsame]

end Sys2Proof.Machine

namespace Sys2Proof.Safety

open Sys2Proof.Machine

section Decision
variable {t : Nat} {n : PortId} {s : State} {w : Owner}

theorem portDecision_completes (hrun : scribeRuns s = true) (hev : (s.own.get n).events ≠ []) (h : ((decidePort (begin t s) n).own.get n).owner = w) :
    Completes (.portDecision t n) s fun u => (u.own.get n).owner = w :=
  completes_event (execPortDecision t n s) rfl rfl (by simpa [hrun] using hev) (by simpa using h)

/-- A decision of a port that can have an owner gives it the owner of the verdict. -/
theorem portDecision_judges (hrun : scribeRuns s = true) (hev : (s.own.get n).events ≠ []) (hs : (s.own.get n).state ≠ .service)
    (hb : (s.own.get n).state ≠ .barred) (h : (judge (begin t s) n (s.own.get n).owner (s.own.get n).events).next = w) :
    Completes (.portDecision t n) s fun u => (u.own.get n).owner = w :=
  portDecision_completes hrun hev (by rw [decidePort_owner (by simpa using hs) (by simpa using hb)]; simpa using h)

theorem portDecision_barred (hrun : scribeRuns s = true) (hev : (s.own.get n).events ≠ []) (hst : (s.own.get n).state = .service ∨ (s.own.get n).state = .barred) :
    Completes (.portDecision t n) s fun u => (u.own.get n).owner = (s.own.get n).owner :=
  portDecision_completes hrun hev (by rw [decidePort_owner_of_barred (by simpa using hst)]; simp)

theorem portDecision_assigned (hrun : scribeRuns s = true) (hs : (s.own.get n).state ≠ .service) (hb : (s.own.get n).state ≠ .barred)
    (ha : (assignsOf (s.own.get n).events).getLast? = some w) :
    Completes (.portDecision t n) s fun u => (u.own.get n).owner = if w = .none ∨ eligibleFor (begin t s) w n = true then w else (s.own.get n).owner :=
  portDecision_judges hrun (fun h => by simp [h, assignsOf] at ha) hs hb (judge_assigned ha)

theorem standing_begin (t : Nat) (s : State) (n : PortId) : standing (begin t s) n (s.own.get n).owner (s.own.get n).events =
    (if (lossOf (s.own.get n).events (s.own.get n).owner).isNone then (s.own.get n).owner
      else if ownSuccessor s n ≠ .none ∧ ownSuccessor s n ≠ (s.own.get n).owner ∧ eligibleFor (begin t s) (ownSuccessor s n) n = true then ownSuccessor s n
      else .none) := by
  simp only [standing, ownSuccessor_begin]

theorem portDecision_unclaimed {stays : Owner} (hrun : scribeRuns s = true) (hev : (s.own.get n).events ≠ []) (hs : (s.own.get n).state ≠ .service)
    (hb : (s.own.get n).state ≠ .barred) (ha : assignsOf (s.own.get n).events = [])
    (hstays : stays = standing (begin t s) n (s.own.get n).owner (s.own.get n).events)
    (hc : validClaims (begin t s) n (s.own.get n).owner (s.own.get n).events = []) :
    Completes (.portDecision t n) s fun u =>
      (u.own.get n).owner = if stays = .none ∧ reclaimHome s n = true ∧ eligibleFor (begin t s) (ownHome s n) n = true then ownHome s n else stays :=
  portDecision_judges hrun hev hs hb (by simp [judge_unassigned ha, hc, hstays, bestClaim, afterClaims, afterHome])

/-- A valid claim is somebody's, so the winner's port does not return home. -/
theorem portDecision_claimed {stays : Owner} (hrun : scribeRuns s = true) (hev : (s.own.get n).events ≠ []) (hs : (s.own.get n).state ≠ .service)
    (hb : (s.own.get n).state ≠ .barred) (ha : assignsOf (s.own.get n).events = [])
    (hstays : stays = standing (begin t s) n (s.own.get n).owner (s.own.get n).events)
    (hw : claimReason (begin t s) n w = 0) (hc : bestClaim (begin t s) (validClaims (begin t s) n (s.own.get n).owner (s.own.get n).events) = some w) :
    Completes (.portDecision t n) s fun u => (u.own.get n).owner = if stays = .none ∨ claimRank s stays < claimRank s w then w else stays := by
  have hsome : w ≠ .none := by
    rintro rfl
    simp [claimReason_none] at hw
  refine portDecision_judges hrun hev hs hb ?_
  rw [judge_unassigned ha, hc, ← hstays, afterHome_of_ne_none (afterClaims_ne_none hsome)]
  simp only [afterClaims, claimRank_begin]

end Decision

/-- Settles O57: the port gets the verdict's owner (`decidePort_owner`), and the verdict is the last assignment or, without one, what becomes of who stands
against the best valid claim and of the return home (`judge_assigned`, `judge_unassigned`). -/
theorem decisionsGiveThePortToItsOwner : Obligations.DecisionsGiveThePortToItsOwner := by
  refine ⟨fun _ _ _ => portDecision_barred, fun _ _ _ _ => portDecision_assigned, fun t n s stays hrun hev hs hb ha hstays hc => ?_,
    fun t n s w stays hrun hs hb ha hstays hw hreason hnew hbest => ?_⟩
  · refine portDecision_unclaimed hrun hev hs hb ha (hstays.trans (standing_begin t s n).symm) (List.eq_nil_iff_forall_not_mem.mpr fun x hx => ?_)
    obtain ⟨hx, hother, hvalid⟩ := mem_validClaims.mp hx
    exact (hc x hx).elim hother (absurd hvalid)
  · refine portDecision_claimed hrun (fun h => ?_) hs hb ha (hstays.trans (standing_begin t s n).symm) hreason
      (bestClaim_eq_some (mem_validClaims.mpr ⟨hw, hnew, hreason⟩) fun x hx hne => ?_)
    · simp [h, claimsOf] at hw
    · obtain ⟨hx, hother, hvalid⟩ := mem_validClaims.mp hx
      simpa [beats] using hbest x hx hne hvalid hother

end Sys2Proof.Safety
end

section
/-! The doorbells of a ring VI and the arrival of fetched entries (R73, R100–R102, R106): what a doorbell at each offset means, which leases a lease doorbell
starts, what a fetch that brings nothing leaves; then each command's completion. -/

namespace Sys2Proof.Machine

variable {s : State} {v : RingId} {w : Word} {off : Nat}

/-! ### What a doorbell at each offset means (R100–R102) -/

@[simp] theorem ignoreDb_dbIgnored (s : State) (v : RingId) : ((ignoreDb s v).vis.get v).dbIgnored = (s.vis.get v).dbIgnored + 1 := by simp [ignoreDb]

@[simp] theorem ignoreDb_evtUsed (s : State) (v : RingId) : ((ignoreDb s v).vis.get v).evtUsed = (s.vis.get v).evtUsed := by simp [ignoreDb]

theorem doorbell_of_disabled (h : (s.vis.get v).enabled = false) : doorbell s v off w = ignoreDb s v := by simp [doorbell, h]

theorem doorbell_cmd (h : (s.vis.get v).enabled = true) : doorbell s v 0 w = cmdDb s v w := by simp [doorbell, h]

theorem doorbell_evt (h : (s.vis.get v).enabled = true) : doorbell s v 4 w = evtDb s v w := by simp [doorbell, h]

theorem doorbell_lease (h : (s.vis.get v).enabled = true) : doorbell s v 8 w = (renewLeases s v (fld w 0 16)).1 := by simp [doorbell, h]

theorem doorbell_transfer (i : Fin 48) (h : (s.vis.get v).enabled = true) : doorbell s v (0x40 + 4 * i.val) w = transferDb s v w := by
  have hrange : 0x40 + 4 * i.val ≠ 4 ∧ 0x40 + 4 * i.val ≠ 8 ∧ 0x40 + 4 * i.val < 0x100 := by omega
  simp [doorbell, h, hrange]

theorem doorbell_reserved (hlo : 0x0C ≤ off) (hhi : off < 0x40) : doorbell s v off w = ignoreDb s v := by
  have hnone : off ≠ 0 ∧ off ≠ 4 ∧ off ≠ 8 ∧ ¬ (0x40 ≤ off ∧ off < 0x100) := by omega
  simp [doorbell, hnone]

/-- A HEAD beyond the ring names no slot (assumption 47). -/
theorem evtDb_beyond (h : evtSlots s v ≤ fld w 0 16) : evtDb s v w = ignoreDb s v := by simp [evtDb, h]

theorem transferDb_unknown (h : findEp s (fld w 0 16) = none) : transferDb s v w = ignoreDb s v := by simp [transferDb, h]

theorem doorbell_transfer_unknown (i : Fin 48) (h : findEp s (fld w 0 16) = none) : doorbell s v (0x40 + 4 * i.val) w = ignoreDb s v := by
  cases he : (s.vis.get v).enabled with
  | false => exact doorbell_of_disabled he
  | true => rw [doorbell_transfer i he, transferDb_unknown h]

/-! ### Leases (R72, R73) -/

@[simp] theorem leasePeriod_begin (t : Nat) (s : State) (v : RingId) : leasePeriod (begin t s) v = leasePeriod s v := by simp [leasePeriod]

@[simp] theorem leasePeriod_startLease (s : State) (n : PortId) (v : RingId) : leasePeriod (startLease s n) v = leasePeriod s v := by
  simp [leasePeriod, rfld, reg, startLease_keeps _ _]

theorem startLease_expiry {n : PortId} (h : (s.own.get n).owner = .ring v) : ((startLease s n).own.get n).expiry = some (s.now + 5000 * leasePeriod s v) := by
  simp [startLease, h]

theorem startLease_own_of_ne {n m : PortId} (h : m ≠ n) : (startLease s n).own.get m = s.own.get m := by
  unfold startLease
  split
  · simp [vmod_get, h]
  · rfl

/-- Leases started one after another now: that of each port among them runs its period from now. -/
theorem foldl_startLease_expiry {n : PortId} (ns : List PortId) (hown : (s.own.get n).owner = .ring v)
    (h : n ∈ ns ∨ (s.own.get n).expiry = some (s.now + 5000 * leasePeriod s v)) :
    ((ns.foldl startLease s).own.get n).expiry = some (s.now + 5000 * leasePeriod s v) := by
  induction ns generalizing s with
  | nil => simpa using h
  | cons m ms ih =>
    have hstarted : n ∈ ms ∨ ((startLease s m).own.get n).expiry = some (s.now + 5000 * leasePeriod s v) := by
      by_cases hm : n = m
      · exact .inr (hm ▸ startLease_expiry (hm ▸ hown))
      · rw [startLease_own_of_ne hm]
        simpa [hm] using h
    simpa [startLease_keeps _ _] using ih (s := startLease s m) (by simpa using hown) (by simpa [startLease_keeps _ _] using hstarted)

@[simp] theorem renewLeases_owner (s : State) (v : RingId) (mask : Nat) (m : PortId) : ((renewLeases s v mask).1.own.get m).owner = (s.own.get m).owner := by
  simp [renewLeases]

/-- A lease that the VI's mask names and that has not run out is renewed. -/
theorem renewLeases_expiry {n : PortId} {mask e : Nat} (hn : n.val ≠ 0) (hmask : maskBit mask n.val = true) (hown : (s.own.get n).owner = .ring v)
    (hexp : (s.own.get n).expiry = some e) (he : s.now < e) :
    ((renewLeases s v mask).1.own.get n).expiry = some (s.now + 5000 * leasePeriod s v) :=
  foldl_startLease_expiry _ hown (.inl (by simp [hn, hmask, viOwns, hown, hexp, he]))

/-! ### Fetches that bring nothing (R101, R106) -/

theorem fetchFailed_cmd_freeCtr (s : State) (v : RingId) : (fetchFailed s v .cmd).freeCtr = s.freeCtr + 1 := by
  simp [fetchFailed, complete_keeps _ _ _ _, draw, stopFetch_keeps _ _ _]

/-- Nothing is asked of a command ring from which no doorbell asks for an entry. -/
theorem startFetch_cmd_of_none (h : (s.vis.get v).cmdFetch = 0) : startFetch s v .cmd = s := by
  simp [startFetch, fetchPlan, h]

/-- An entry of the other lap is none of the ring's: fetching stops, and the entry is not taken (R103). -/
theorem fetchComplete_cmd_otherLap {bs : List Byte} (hf : 0 < (s.vis.get v).cmdFetch) (hlap : entryLap bs ≠ (s.vis.get v).cmdLap) :
    fetchComplete s v .cmd [bs] false = setVi (setBusy s v .cmd false) v (fun x => { x with cmdFetch := 0 }) := by
  have htake : takeEntries (setBusy s v .cmd false) v .cmd [bs] = setVi (setBusy s v .cmd false) v (fun x => { x with cmdFetch := 0 }) := by
    simp [takeEntries, takeCmd, setBusy, Nat.ne_of_gt hf, hlap]
  rw [fetchComplete, if_neg Bool.false_ne_true, List.take_of_length_le (by simp), htake]
  exact startFetch_cmd_of_none (by simp)

end Sys2Proof.Machine

namespace Sys2Proof.Safety

open Sys2Proof.Machine

section Doorbell
variable {t : Nat} {v : RingId} {w : Word} {s : State}

/-! ### Doorbells complete (R73, R100–R102) -/

theorem cmdDb_completes (hink : inkOn s = true) (hen : (s.vis.get v).enabled = true) :
    Completes (.cmdDb t v w) s fun u => u.vis = (cmdDb (begin t s) v w).vis ∧ u.out = (cmdDb (begin t s) v w).out ∧ u.own = s.own := by
  refine completes_event (execCmdDb t v w s) rfl rfl (by simpa using hink) ?_
  rw [doorbell_cmd (by simpa using hen)]
  simp [cmdDb_keeps _ _ _]

theorem cmdDb_ignored (hink : inkOn s = true) (hen : (s.vis.get v).enabled = false) :
    Completes (.cmdDb t v w) s fun u => (u.vis.get v).dbIgnored = (s.vis.get v).dbIgnored + 1 ∧ u.out = [] := by
  refine completes_event (execCmdDb t v w s) rfl rfl (by simpa using hink) ?_
  rw [doorbell_of_disabled (by simpa using hen)]
  simp [ignoreDb_keeps _ _]

theorem evtDb_ignored (hink : inkOn s = true) (hen : (s.vis.get v).enabled = true) (hhead : evtSlots s v ≤ fld w 0 16) :
    Completes (.evtDb t v w) s fun u => (u.vis.get v).dbIgnored = (s.vis.get v).dbIgnored + 1 ∧ (u.vis.get v).evtUsed = (s.vis.get v).evtUsed := by
  refine completes_event (execEvtDb t v w s) rfl rfl (by simpa using hink) ?_
  rw [doorbell_evt (by simpa using hen), evtDb_beyond (by simpa using hhead)]
  simp

theorem evtDb_completes (hink : inkOn s = true) (hen : (s.vis.get v).enabled = true) :
    Completes (.evtDb t v w) s fun u => u.vis = (evtDb (begin t s) v w).vis ∧ u.out = (evtDb (begin t s) v w).out ∧ u.own = s.own := by
  refine completes_event (execEvtDb t v w s) rfl rfl (by simpa using hink) ?_
  rw [doorbell_evt (by simpa using hen)]
  simp [evtDb_keeps _ _ _]

theorem leaseDb_completes {n : PortId} {e : Nat} (hink : inkOn s = true) (hen : (s.vis.get v).enabled = true) (hn : n.val ≠ 0)
    (hmask : maskBit (fld w 0 16) n.val = true) (hown : (s.own.get n).owner = .ring v) (hexp : (s.own.get n).expiry = some e) (he : max s.now t < e) :
    Completes (.leaseDb t v w) s fun u => (u.own.get n).expiry = some (max s.now t + 5000 * leasePeriod s v) ∧ (u.own.get n).owner = .ring v ∧ u.vis = s.vis := by
  refine completes_event (execLeaseDb t v w s) rfl rfl (by simpa using hink) ?_
  rw [doorbell_lease (by simpa using hen)]
  have hrenew := renewLeases_expiry (s := begin t s) hn hmask (by simpa using hown) (by simpa using hexp) (by simpa using he)
  simpa [renewLeases_keeps _ _ _, hown] using hrenew

theorem transferDb_ignored {i : Fin 48} (hink : inkOn s = true) (hep : findEp s (fld w 0 16) = none) :
    Completes (.transferDb t v i w) s fun u => (u.vis.get v).dbIgnored = (s.vis.get v).dbIgnored + 1 ∧ u.eps = s.eps ∧ u.out = [] := by
  refine completes_event (execTransferDb t v i w s) rfl rfl (by simpa using hink) ?_
  rw [doorbell_transfer_unknown i (by simpa using hep)]
  simp [ignoreDb_keeps _ _]

theorem transferDb_completes {i : Fin 48} (hink : inkOn s = true) (hen : (s.vis.get v).enabled = true) :
    Completes (.transferDb t v i w) s fun u =>
      u.eps = (transferDb (begin t s) v w).eps ∧ u.out = (transferDb (begin t s) v w).out ∧ u.vis = (transferDb (begin t s) v w).vis := by
  refine completes_event (execTransferDb t v i w s) rfl rfl (by simpa using hink) ?_
  rw [doorbell_transfer i (by simpa using hen)]
  simp

theorem reservedDoorbell_completes {off : Nat} (hink : inkOn s = true) (hlo : 0x0C ≤ off) (hhi : off < 0x40) :
    Completes (.reservedDoorbell t v off) s fun u => (u.vis.get v).dbIgnored = (s.vis.get v).dbIgnored + 1 ∧ u.out = [] := by
  refine completes_event (execReservedDoorbell t v off s) rfl rfl (by simp [hink, hlo, hhi]) ?_
  rw [doorbell_reserved hlo hhi]
  simp [ignoreDb_keeps _ _]

/-! ### Fetches of the command ring complete (R101, R106) -/

theorem ringFetchComplete_failed {es : List (List Byte)} (hink : inkOn s = true) (hen : (s.vis.get v).enabled = true)
    (hun : (s.vis.get v).unreachable = false) (hbusy : (s.vis.get v).cmdBusy = true) :
    Completes (.ringFetchComplete t v .cmd es true) s fun u => u.vis = (fetchFailed (begin t s) v .cmd).vis ∧ u.freeCtr = s.freeCtr + 1 ∧ u.own = s.own :=
  completes_event (execRingFetchComplete t v .cmd es true s) rfl rfl (by simp [hink, hen, hun, hbusy, fetchBusy])
    (by simp [fetchComplete, fetchFailed_cmd_freeCtr, fetchFailed_keeps _ _ _])

theorem ringFetchComplete_otherLap {bs : List Byte} (hink : inkOn s = true) (hen : (s.vis.get v).enabled = true)
    (hun : (s.vis.get v).unreachable = false) (hbusy : (s.vis.get v).cmdBusy = true) (hf : 0 < (s.vis.get v).cmdFetch)
    (hlap : entryLap bs ≠ (s.vis.get v).cmdLap) :
    Completes (.ringFetchComplete t v .cmd [bs] false) s fun u =>
      (u.vis.get v).cmdFetch = 0 ∧ (u.vis.get v).cmds = (s.vis.get v).cmds ∧ (u.vis.get v).cmdHead = (s.vis.get v).cmdHead := by
  refine completes_event (execRingFetchComplete t v .cmd [bs] false s) rfl rfl (by simp [hink, hen, hun, hbusy, fetchBusy]) ?_
  rw [fetchComplete_cmd_otherLap (by simpa using hf) (by simpa using hlap)]
  simp [setBusy]

end Doorbell

/-- Settles O22: each clause is one command's completion, proved above. A HEAD beyond the event ring being ignored rests on assumption 47, and the free TYPE of
a command that did not arrive on assumption 48. -/
theorem doorbellCommandsComplete : Obligations.DoorbellCommandsComplete :=
  ⟨fun _ _ _ _ => cmdDb_completes, fun _ _ _ _ => cmdDb_ignored, fun _ _ _ _ => evtDb_ignored, fun _ _ _ _ hink hen _ => evtDb_completes hink hen,
    fun _ _ _ _ _ _ => leaseDb_completes, fun _ _ _ _ _ => transferDb_ignored, fun _ _ _ _ _ _ _ hink hen _ _ _ _ _ => transferDb_completes hink hen,
    fun _ _ _ _ => reservedDoorbell_completes, fun _ _ _ _ => ringFetchComplete_failed, fun _ _ _ _ => ringFetchComplete_otherLap⟩

end Sys2Proof.Safety
end

section
/-! The ring commands about ports (R71–R73, R109, R167, R186): how a fetched command that passes every check runs, what each operation on a port's buses does to
what its claim speaks of, then each command's completion. -/

namespace Sys2Proof.Machine

variable {s : State} {v : RingId} {n : PortId} {e : CmdEntry} {type : Nat}

/-! ### A command that runs (R108–R110) -/

/-- A command that passes the checks starts, and does what it is for. -/
theorem startOn_of_commandRuns (h : commandRuns s v e type) (f : State → CmdEntry → PortId → State) :
    startOn s v e f = f (markStarted s v e.slot) e (cmdPort s e) := by
  obtain ⟨-, -, -, hresync, hctx, howner⟩ := h
  simp only [startOn, hresync, hctx, howner, Bool.false_and, Bool.false_eq_true, if_false]

/-- A command that must own its port, and runs, is for a port other than UP. -/
theorem cmdPort_ne_zero_of_commandRuns (h : commandRuns s v e type) (hneeds : needsOwner type = true) : (cmdPort s e).val ≠ 0 := by
  obtain ⟨-, -, rfl, -, -, howner⟩ := h
  rw [hneeds] at howner
  simp only [Bool.true_and, Bool.not_eq_false', Bool.and_eq_true, bne_iff_ne] at howner
  exact howner.1

@[simp] theorem portLit_markStarted (s : State) (v : RingId) (slot : Nat) (n : PortId) : portLit (markStarted s v slot) n = portLit s n := by
  simp [portLit, sinkAttached, vbusOn, markStarted_keeps _ _ _]

/-! ### P4 events (R70) -/

theorem stampP4_events (h : n.val ≠ 0) (ev : P4Event) : ((stampP4 s n ev).own.get n).events = (s.own.get n).events ++ [ev] := by
  simp [stampP4, h]

/-! ### Root resets (R165, R167) -/

/-- Both paths of a port are being reset for the command that asked, and the USB 2.0 path is waited for. -/
theorem resetBoth_nib (s : State) (n : PortId) (warm : Bool) :
    ((resetBoth s n warm).nibs.get n).resetCmd = (s.nibs.get n).resetCmd ∧ ((resetBoth s n warm).nibs.get n).resetAt = (s.nibs.get n).resetAt ∧
      ((resetBoth s n warm).nibs.get n).wait2 = true := by
  have h2 (u : State) : ((reset2 u n).nibs.get n).resetCmd = (u.nibs.get n).resetCmd ∧ ((reset2 u n).nibs.get n).resetAt = (u.nibs.get n).resetAt := by
    simp [reset2, emit_keeps _ _]
  have hS (u : State) : ((resetS u n warm).nibs.get n).resetCmd = (u.nibs.get n).resetCmd ∧ ((resetS u n warm).nibs.get n).resetAt = (u.nibs.get n).resetAt := by
    unfold resetS
    dsimp only
    (repeat' split) <;> simp [emit_keeps _ _]
  simp [resetBoth, h2, hS, clearStuck]

theorem resetPort_lit (h : portLit s n = true) (warm : Bool) :
    ((resetPort s v e n warm).nibs.get n).resetCmd = some (v, e.slot) ∧ ((resetPort s v e n warm).nibs.get n).resetAt = s.now ∧
      ((resetPort s v e n warm).nibs.get n).wait2 = true := by
  simp [resetPort, h, resetBoth_nib _ _ _, releaseTree_keeps _ _ _ _]

theorem resetPort_dark (h : portLit s n = false) (warm : Bool) : resetPort s v e n warm = finishCmd s v e.slot ccPortGone 0 n := by
  simp [resetPort, h]

theorem finishReset_nib {c : RingId × Nat} (h : (s.nibs.get n).resetCmd = some c) :
    ((finishReset s n true).nibs.get n).resetCmd = none ∧ ((finishReset s n true).nibs.get n).wait2 = false ∧ ((finishReset s n true).nibs.get n).waitS = false := by
  simp [finishReset, h, portStateNotice_keeps _ _ _ _ _, finishCmd_keeps _ _ _ _ _ _]

/-! ### Suspension and resume (R186) -/

theorem treeSuspend_nib (s : State) (n : PortId) :
    ((treeSuspend s n).nibs.get n).susp = .entering s.now ∧ ((treeSuspend s n).nibs.get n).suspCmd = (s.nibs.get n).suspCmd := by
  simp [treeSuspend, refreshAges_keeps _, emit_keeps _ _]

theorem treeResume_nib (s : State) (n : PortId) :
    ((treeResume s n).nibs.get n).susp = .resumeK s.now ∧ ((treeResume s n).nibs.get n).suspCmd = (s.nibs.get n).suspCmd := by
  simp [treeResume, emit_keeps _ _]

theorem suspendPort_of_suspended (hlit : portLit s n = true) (htree : treeThere (s.nibs.get n) = true) (h : (s.nibs.get n).susp = .suspended) :
    suspendPort s v e n = finishCmd s v e.slot ccSuccess 0 n := by
  simp [suspendPort, hlit, htree, h]

theorem suspendPort_of_awake (hlit : portLit s n = true) (htree : treeThere (s.nibs.get n) = true) (h : (s.nibs.get n).susp = .awake) :
    suspendPort s v e n = treeSuspend (setNib s n (fun x => { x with suspCmd := some (v, e.slot) })) n := by
  simp [suspendPort, hlit, htree, h]

theorem suspendDone_nib (s : State) (n : PortId) (u3 : Bool) :
    ((suspendDone s n u3).nibs.get n).susp = .suspended ∧ ((suspendDone s n u3).nibs.get n).suspCmd = none := by
  unfold suspendDone
  dsimp only
  split <;> simp [portStateNotice_keeps _ _ _ _ _, finishCmd_keeps _ _ _ _ _ _]

theorem resumeDone_nib (h : (s.nibs.get n).suspNext = none) :
    ((resumeDone s n).nibs.get n).susp = .awake ∧ ((resumeDone s n).nibs.get n).suspCmd = none ∧ ((resumeDone s n).nibs.get n).waking = false := by
  unfold resumeDone
  simp only [h, refreshAges_keeps _, hubResumed_keeps _ _]
  (repeat' split) <;> simp [portStateNotice_keeps _ _ _ _ _, finishCmd_keeps _ _ _ _ _ _, notice_keeps _ _ _ _ _ _ _]

end Sys2Proof.Machine

namespace Sys2Proof.Safety

open Sys2Proof.Machine

/-! ### How a ring command and an event of a port complete -/

/-- A command completes with its effect at its moment, settled. -/
theorem completes_act {c : Instr} {t : Nat} {s : State} {f : State → State} {post : State → Prop}
    (meaning : Host.Outcome State Fault Refusal) (hc : exec c s = meaning) (hm : meaning = act t s f)
    (h : post { settle (f (begin t s)) with now := max s.now t, pending := s.pending }) : Completes c s post :=
  ⟨_, by rw [hc, hm, act_next], h⟩

/-- A fetched command that runs completes with its effect on the state in which it is marked as started. -/
theorem completes_runCmd {c : Instr} {t type : Nat} {v : RingId} {e : CmdEntry} {pick : CmdEntry → Bool} {s : State} {f : State → CmdEntry → PortId → State}
    {post : State → Prop} (meaning : Host.Outcome State Fault Refusal) (hc : exec c s = meaning) (hm : meaning = runCmd t v e.slot type pick s f)
    (hr : commandRuns (begin t s) v e type) (hpick : pick e = true)
    (h : post { settle (f (markStarted (begin t s) v e.slot) e (cmdPort (begin t s) e)) with now := max s.now t, pending := s.pending }) : Completes c s post := by
  refine completes_act meaning hc (hm.trans rfl) ?_
  have hrun := startOn_of_commandRuns hr f
  obtain ⟨hink, hfirst, htype, -⟩ := hr
  simpa only [hfirst, hink, htype, hpick, beq_self_eq_true, Bool.and_self, when_true, hrun] using h

section PortCommand
variable {t : Nat} {v : RingId} {n : PortId} {e : CmdEntry} {s : State}

/-! ### Ownership and leases (R71–R73, R109) -/

theorem noopCmd_completes (hr : commandRuns (begin t s) v e 0x20) :
    Completes (.noopCmd t v e.slot) s fun u => u.vis = (finishCmd (markStarted (begin t s) v e.slot) v e.slot ccSuccess 0 0).vis ∧ u.own = s.own :=
  completes_runCmd (execNoopCmd t v e.slot s) rfl rfl hr rfl (by simp [finishCmd_keeps _ _ _ _ _ _, markStarted_keeps _ _ _])

theorem claim_completes (hr : commandRuns (begin t s) v e 0x21) (hn : (cmdPort (begin t s) e).val ≠ 0) :
    Completes (.claim t v e.slot) s fun u =>
      (u.own.get (cmdPort (begin t s) e)).events = (s.own.get (cmdPort (begin t s) e)).events ++ [.claim (.ring v)] :=
  completes_runCmd (execClaim t v e.slot s) rfl rfl hr rfl (by simp [hn, stampP4_events hn, markStarted_keeps _ _ _])

theorem release_completes (hr : commandRuns (begin t s) v e 0x22) :
    Completes (.release t v e.slot) s fun u =>
      (u.own.get (cmdPort (begin t s) e)).events = (s.own.get (cmdPort (begin t s) e)).events ++ [.release (.ring v)] := by
  have hn := cmdPort_ne_zero_of_commandRuns hr rfl
  exact completes_runCmd (execRelease t v e.slot s) rfl rfl hr rfl (by simp [stampP4_events hn, markStarted_keeps _ _ _])

theorem renewLease_completes (hr : commandRuns (begin t s) v e 0x23) :
    Completes (.renewLease t v e.slot) s fun u => u.own = (renewLeases (markStarted (begin t s) v e.slot) v (argF e 2 0 16)).1.own ∧
      u.vis = (finishCmd (renewLeases (markStarted (begin t s) v e.slot) v (argF e 2 0 16)).1 v e.slot ccSuccess
        (renewLeases (markStarted (begin t s) v e.slot) v (argF e 2 0 16)).2 0).vis :=
  completes_runCmd (execRenewLease t v e.slot s) rfl rfl hr rfl (by simp [finishCmd_keeps _ _ _ _ _ _])

/-! ### Root resets (R167) -/

theorem resetPort_completes (hr : commandRuns (begin t s) v e 0x24) (hw : argF e 2 8 1 = 0) (hlit : portLit s (cmdPort (begin t s) e) = true) :
    Completes (.resetPort t v e.slot) s fun u => (u.nibs.get (cmdPort (begin t s) e)).resetCmd = some (v, e.slot) ∧
      (u.nibs.get (cmdPort (begin t s) e)).resetAt = max s.now t ∧ (u.nibs.get (cmdPort (begin t s) e)).wait2 = true :=
  completes_runCmd (execResetPort t v e.slot s) rfl rfl hr (by simp [hw]) (by simp [resetPort_lit, hlit, markStarted_keeps _ _ _])

theorem resetPortWarm_completes (hr : commandRuns (begin t s) v e 0x24) (hw : argF e 2 8 1 = 1) (hlit : portLit s (cmdPort (begin t s) e) = true) :
    Completes (.resetPortWarm t v e.slot) s fun u => (u.nibs.get (cmdPort (begin t s) e)).resetCmd = some (v, e.slot) ∧
      (u.nibs.get (cmdPort (begin t s) e)).resetAt = max s.now t ∧ (u.nibs.get (cmdPort (begin t s) e)).wait2 = true :=
  completes_runCmd (execResetPortWarm t v e.slot s) rfl rfl hr (by simp [hw]) (by simp [resetPort_lit, hlit, markStarted_keeps _ _ _])

theorem resetPort_portGone (hr : commandRuns (begin t s) v e 0x24) (hw : argF e 2 8 1 = 0) (hlit : portLit s (cmdPort (begin t s) e) = false) :
    Completes (.resetPort t v e.slot) s fun u =>
      u.vis = (finishCmd (markStarted (begin t s) v e.slot) v e.slot ccPortGone 0 (cmdPort (begin t s) e)).vis ∧ u.nibs = s.nibs :=
  completes_runCmd (execResetPort t v e.slot s) rfl rfl hr (by simp [hw])
    (by simp [resetPort_dark, hlit, finishCmd_keeps _ _ _ _ _ _, markStarted_keeps _ _ _])

theorem resetPortTimeout_completes {c : RingId × Nat} (hon : s.folioOn = true) (hc : (s.nibs.get n).resetCmd = some c)
    (ht : (s.nibs.get n).resetAt + ticksMs 500 ≤ max s.now t) :
    Completes (.resetPortTimeout t n) s fun u => (u.nibs.get n).resetCmd = none ∧ (u.nibs.get n).wait2 = false ∧ (u.nibs.get n).waitS = false :=
  completes_event (execResetPortTimeout t n s) rfl rfl (by simpa [hon, hc] using ht) (by simpa using finishReset_nib (s := begin t s) (by simpa using hc))

/-! ### Suspension (R186) -/

theorem suspendPort_already (hr : commandRuns (begin t s) v e 0x25) (hw : argF e 2 8 1 = 0) (hlit : portLit s (cmdPort (begin t s) e) = true)
    (htree : treeThere (s.nibs.get (cmdPort (begin t s) e)) = true) (hs : (s.nibs.get (cmdPort (begin t s) e)).susp = .suspended) :
    Completes (.suspendPort t v e.slot) s fun u =>
      u.vis = (finishCmd (markStarted (begin t s) v e.slot) v e.slot ccSuccess 0 (cmdPort (begin t s) e)).vis ∧ u.nibs = s.nibs :=
  completes_runCmd (execSuspendPort t v e.slot s) rfl rfl hr (by simp [hw])
    (by simp [suspendPort_of_suspended, hlit, htree, hs, finishCmd_keeps _ _ _ _ _ _, markStarted_keeps _ _ _])

theorem suspendPort_completes (hr : commandRuns (begin t s) v e 0x25) (hw : argF e 2 8 1 = 0) (hlit : portLit s (cmdPort (begin t s) e) = true)
    (htree : treeThere (s.nibs.get (cmdPort (begin t s) e)) = true) (hs : (s.nibs.get (cmdPort (begin t s) e)).susp = .awake) :
    Completes (.suspendPort t v e.slot) s fun u => (u.nibs.get (cmdPort (begin t s) e)).suspCmd = some (v, e.slot) ∧
      (u.nibs.get (cmdPort (begin t s) e)).susp = .entering (max s.now t) :=
  completes_runCmd (execSuspendPort t v e.slot s) rfl rfl hr (by simp [hw])
    (by simp [suspendPort_of_awake, treeSuspend_nib _ _, hlit, htree, hs, setNib_keeps _ _ _, markStarted_keeps _ _ _])

theorem resumePort_already (hr : commandRuns (begin t s) v e 0x25) (hw : argF e 2 8 1 = 1) (hlit : portLit s (cmdPort (begin t s) e) = true)
    (htree : treeThere (s.nibs.get (cmdPort (begin t s) e)) = true) (hs : (s.nibs.get (cmdPort (begin t s) e)).susp = .awake) :
    Completes (.resumePort t v e.slot) s fun u =>
      u.vis = (finishCmd (markStarted (begin t s) v e.slot) v e.slot ccSuccess 0 (cmdPort (begin t s) e)).vis ∧ u.nibs = s.nibs :=
  completes_runCmd (execResumePort t v e.slot s) rfl rfl hr (by simp [hw])
    (by simp [hlit, htree, hs, finishCmd_keeps _ _ _ _ _ _, markStarted_keeps _ _ _])

theorem resumePort_completes (hr : commandRuns (begin t s) v e 0x25) (hw : argF e 2 8 1 = 1) (hlit : portLit s (cmdPort (begin t s) e) = true)
    (htree : treeThere (s.nibs.get (cmdPort (begin t s) e)) = true) (hs : (s.nibs.get (cmdPort (begin t s) e)).susp = .suspended) :
    Completes (.resumePort t v e.slot) s fun u => (u.nibs.get (cmdPort (begin t s) e)).suspCmd = some (v, e.slot) ∧
      (u.nibs.get (cmdPort (begin t s) e)).susp = .resumeK (max s.now t) :=
  completes_runCmd (execResumePort t v e.slot s) rfl rfl hr (by simp [hw])
    (by simp [hlit, htree, hs, treeResume_nib _ _, setNib_keeps _ _ _, markStarted_keeps _ _ _])

theorem suspendComplete_completes {b : Bool} {since : Nat} (hon : s.folioOn = true) (hs : (s.nibs.get n).susp = .entering since)
    (ht : since + ticksMs 10 ≤ max s.now t) :
    Completes (.suspendComplete t n b) s fun u => (u.nibs.get n).susp = .suspended ∧ (u.nibs.get n).suspCmd = none := by
  refine completes_act (execSuspendComplete t n b s) rfl rfl ?_
  simp only [begin_nibs, hs]
  simp [when, hon, ht, suspendDone_nib _ _ _]

theorem resumeSignalEnd_completes {since : Nat} (hon : s.folioOn = true) (hs : (s.nibs.get n).susp = .resumeK since) (ht : since + ticksMs 20 ≤ max s.now t) :
    Completes (.resumeSignalEnd t n) s fun u => (u.nibs.get n).susp = .resuming (max s.now t) ∧
      u.out = (if (s.nibs.get n).connect then [.line n .eop, .line n .sofStart] else []) := by
  refine completes_act (execResumeSignalEnd t n s) rfl rfl ?_
  simp only [begin_nibs, hs]
  cases hconn : (s.nibs.get n).connect <;> simp [when, hon, ht, hconn, emit, setNib_keeps _ _ _]

theorem resumeComplete_completes {since : Nat} (hon : s.folioOn = true) (hs : (s.nibs.get n).susp = .resuming since) (ht : since + ticksMs 10 ≤ max s.now t)
    (hnext : (s.nibs.get n).suspNext = none) :
    Completes (.resumeComplete t n) s fun u => (u.nibs.get n).susp = .awake ∧ (u.nibs.get n).suspCmd = none ∧ (u.nibs.get n).waking = false := by
  refine completes_act (execResumeComplete t n s) rfl rfl ?_
  simp only [begin_nibs, hs]
  simp [when, hon, ht, hnext, resumeDone_nib]

end PortCommand

/-- Settles O23: each clause is one command's completion, proved above. PORT_GONE is RESET_PORT's; that SUSPEND_PORT answers it too rests on assumption 57 and
is in no clause. -/
theorem portRingCommandsComplete : Obligations.PortRingCommandsComplete :=
  ⟨fun _ _ _ _ => noopCmd_completes, fun _ _ _ _ => claim_completes, fun _ _ _ _ => release_completes, fun _ _ _ _ => renewLease_completes,
    fun _ _ _ _ => resetPort_completes, fun _ _ _ _ => resetPortWarm_completes, fun _ _ _ _ => resetPort_portGone, fun _ _ _ _ => resetPortTimeout_completes,
    fun _ _ _ _ => suspendPort_already, fun _ _ _ _ => suspendPort_completes, fun _ _ _ _ => resumePort_already, fun _ _ _ _ => resumePort_completes,
    fun _ _ _ _ _ => suspendComplete_completes, fun _ _ _ _ => resumeSignalEnd_completes, fun _ _ _ _ => resumeComplete_completes⟩

end Sys2Proof.Safety
end

section
/-! The device commands of a ring VI complete with their effects (R109, R171): what the end of SET_ADDRESS and the release of a device do to the records, then
each command's completion. -/

namespace Sys2Proof.Machine

@[simp] theorem portDevices_markStarted (s : State) (v : RingId) (slot : Nat) (n : PortId) :
    portDevices (markStarted s v slot) n = portDevices s n := by
  simp [portDevices, markStarted_keeps _ _ _]

/-! ### Addressing (R171) -/

/-- The search for a context takes one free value, found or not (assumption 54). -/
@[simp] theorem allocCtx_freeCtr (s : State) : (allocCtx s).1.freeCtr = s.freeCtr + 1 := rfl

@[simp] theorem addressDone_devices (s : State) (n : PortId) (a : Addressing) : (addressDone s n a).devices = s.devices ++ [a.device] := by
  simp [addressDone, finishCmd_keeps _ _ _ _ _ _, setNib_keeps _ _ _]

/-- The port addresses no device any more, and the next search for an address starts after the one assigned. -/
theorem addressDone_nib (s : State) (n : PortId) (a : Addressing) :
    ((addressDone s n a).nibs.get n).addressing = none ∧ ((addressDone s n a).nibs.get n).lastAddr = a.device.addr := by
  simp [addressDone, finishCmd_keeps _ _ _ _ _ _]

/-! ### Release (R109) -/

@[simp] theorem releaseDevice_devices (s : State) (n : PortId) (addr code reason : Nat) :
    (releaseDevice s n addr code reason).devices = s.devices.filter (fun d => !(d.port == n && d.addr == addr)) := by
  simp [releaseDevice, releaseEps_keeps _ _ _ _]

/-- A released device has no record. -/
theorem not_at_of_mem_releaseDevice {s : State} {n : PortId} {addr code reason : Nat} {d : Device} (h : d ∈ (releaseDevice s n addr code reason).devices) :
    ¬ (d.port = n ∧ d.addr = addr) := by
  rw [releaseDevice_devices, List.mem_filter] at h
  obtain ⟨-, hkept⟩ := h
  rintro ⟨rfl, rfl⟩
  simp only [beq_self_eq_true, Bool.and_self, Bool.not_true, Bool.false_eq_true] at hkept

end Sys2Proof.Machine

namespace Sys2Proof.Safety

open Sys2Proof.Machine

section DeviceCommand
variable {t : Nat} {v : RingId} {n : PortId} {e : CmdEntry} {s : State}

/-! ### ADDRESS_DEVICE and the recovery after it (R171) -/

theorem addressDevice_completes {d : Device} {a c : Nat} (hr : commandRuns (begin t s) v e 0x26) (hlit : portLit s (cmdPort (begin t s) e) = true)
    (hd : addressRecord (markStarted (begin t s) v e.slot) e (cmdPort (begin t s) e) = some d)
    (ha : freeAddr (markStarted (begin t s) v e.slot) (cmdPort (begin t s) e) = some a)
    (hc : (allocCtx (markStarted (begin t s) v e.slot)).2 = some c) :
    Completes (.addressDevice t v e.slot) s fun u => u.out = [.control (cmdPort (begin t s) e) 0 (setAddressSetup a)] ∧ u.freeCtr = s.freeCtr + 1 ∧
      ((u.nibs.get (cmdPort (begin t s) e)).addressing.map (fun x => (x.v, x.slot, x.device.addr, x.ctx))) = some (v, e.slot, a, c) ∧
      u.devices = s.devices :=
  completes_runCmd (execAddressDevice t v e.slot s) rfl rfl hr rfl
    (by simp [hlit, hd, ha, hc, emit, setNib_keeps _ _ _, allocCtx_keeps _, markStarted_keeps _ _ _])

theorem addressDevice_wrongParameter (hr : commandRuns (begin t s) v e 0x26) (hlit : portLit s (cmdPort (begin t s) e) = true)
    (hd : addressRecord (markStarted (begin t s) v e.slot) e (cmdPort (begin t s) e) = none) :
    Completes (.addressDevice t v e.slot) s fun u =>
      u.vis = (finishCmd (markStarted (begin t s) v e.slot) v e.slot ccParam 0 (cmdPort (begin t s) e)).vis ∧ u.devices = s.devices ∧ u.nibs = s.nibs :=
  completes_runCmd (execAddressDevice t v e.slot s) rfl rfl hr rfl (by simp [hlit, hd, finishCmd_keeps _ _ _ _ _ _, markStarted_keeps _ _ _])

theorem setAddressRecovery_completes {a : Addressing} {r : Nat} (hon : s.folioOn = true) (ha : (s.nibs.get n).addressing = some a) (hat : a.recoverAt = some r)
    (ht : r + ticksMs 2 ≤ max s.now t) :
    Completes (.setAddressRecovery t n) s fun u =>
      u.devices = s.devices ++ [a.device] ∧ (u.nibs.get n).addressing = none ∧ (u.nibs.get n).lastAddr = a.device.addr := by
  refine completes_act (execSetAddressRecovery t n s) rfl rfl ?_
  simp only [begin_nibs, ha, hat]
  simp [when, hon, ht, addressDone_nib _ _ _]

/-! ### DISABLE_DEVICE (R109) -/

theorem disableDevice_unknown (hr : commandRuns (begin t s) v e 0x27)
    (hd : (portDevices s (cmdPort (begin t s) e)).any (fun d => d.addr == argF e 2 0 7) = false) :
    Completes (.disableDevice t v e.slot) s fun u =>
      u.vis = (finishCmd (markStarted (begin t s) v e.slot) v e.slot ccUnknown 0 (cmdPort (begin t s) e)).vis ∧ u.devices = s.devices ∧ u.eps = s.eps :=
  completes_runCmd (execDisableDevice t v e.slot s) rfl rfl hr rfl (by simp [hd, finishCmd_keeps _ _ _ _ _ _, markStarted_keeps _ _ _])

theorem disableDevice_completes (hr : commandRuns (begin t s) v e 0x27)
    (hd : (portDevices s (cmdPort (begin t s) e)).any (fun d => d.addr == argF e 2 0 7) = true) :
    Completes (.disableDevice t v e.slot) s fun u => ∀ d ∈ u.devices, ¬ (d.port = cmdPort (begin t s) e ∧ d.addr = argF e 2 0 7) := by
  refine completes_runCmd (execDisableDevice t v e.slot s) rfl rfl hr rfl ?_
  simp only [portDevices_markStarted, portDevices_begin, hd, if_true, settle_devices, refreshAges_keeps _, finishCmd_keeps _ _ _ _ _ _]
  exact fun d => not_at_of_mem_releaseDevice

end DeviceCommand

/-- Settles O24: each clause is one command's completion, proved above. The context ADDRESS_DEVICE takes, and the free value it takes for it, rest on
assumption 54; the answer to a lack of addresses is in no clause. -/
theorem deviceRingCommandsComplete : Obligations.DeviceRingCommandsComplete :=
  ⟨fun _ _ _ _ _ _ _ => addressDevice_completes, fun _ _ _ _ => addressDevice_wrongParameter, fun _ _ _ _ _ => setAddressRecovery_completes,
    fun _ _ _ _ => disableDevice_unknown, fun _ _ _ _ => disableDevice_completes⟩

end Sys2Proof.Safety
end

section
/-! The commands of the PCIe endpoint and of a VI's binding complete with their effects (R127, R129, R132, R133): what each operation on the endpoint does to
what its claim speaks of, then each command's completion. -/

namespace Sys2Proof.Machine

/-! ### The bits of a mask -/

/-- A bit reads as it was put. -/
@[simp] theorem maskBit_putBit (m i : Nat) (b : Bool) : maskBit (putBit m i b) i = b := by
  have hpos := Nat.two_pow_pos i
  have hadd : (m + 2 ^ i) / 2 ^ i = m / 2 ^ i + 1 := Nat.add_div_right m hpos
  have hsub : (m - 2 ^ i) / 2 ^ i = m / 2 ^ i - 1 := by simpa using Nat.sub_mul_div m (2 ^ i) 1
  by_cases h : m / 2 ^ i % 2 = 1 <;> cases b <;> simp [putBit, maskBit, h, hadd, hsub] <;> omega

variable {s : State} {v : RingId} {f : Fin 16}

/-! ### Bindings (R126, R127) -/

@[simp] theorem viFn_begin (t : Nat) (s : State) (v : RingId) : viFn (begin t s) v = viFn s v := by simp [viFn]
@[simp] theorem fnVi_begin (t : Nat) (s : State) (f : Fin 16) : fnVi (begin t s) f = fnVi s f := by simp [fnVi]

/-- KIND 0 takes no function. -/
theorem bindOf_eq_of_kind_zero {w : Word} (h : (bindOf w).1 = 0) : bindOf w = (0, 0) := by
  simp only [bindOf] at h ⊢
  simp [h]

/-- A VI that stays unbound takes the value as written. -/
theorem viBindWrite_unbound {p : Path} {w : Word} (hnew : (bindOf (w &&& 0xFF0001F3)).1 = 0) (hold : (bindOf (reg s (bindAddr v))).1 = 0) :
    viBindWrite s p v w = setApplied s (bindAddr v) (w &&& 0xFF0001F3) := by
  unfold viBindWrite
  generalize w &&& 0xFF0001F3 = new at hnew ⊢
  simp [bindOf_eq_of_kind_zero hnew, bindOf_eq_of_kind_zero hold]

/-- A binding to a function another VI has is ignored (R127). -/
theorem viBindWrite_taken {p : Path} {x : RingId} {w : Word} (hnew : (bindOf (w &&& 0xFF0001F3)).1 = 1) (hx : x ≠ v) (hk : viKind s x = 1)
    (hf : (viFn s x).val = (bindOf (w &&& 0xFF0001F3)).2) : viBindWrite s p v w = writeIgnored s p (bindAddr v) w := by
  have htaken : (List.finRange 64).any (fun u => u != v && viKind s u == 1 && (viFn s u).val == (bindOf (w &&& 0xFF0001F3)).2) = true :=
    List.any_eq_true.mpr ⟨x, List.mem_finRange x, by simp [hx, hk, hf]⟩
  exact if_pos ⟨hnew, htaken⟩

/-! ### The PCIe endpoint (R129, R132, R133) -/

@[simp] theorem fnEnabled_begin (t : Nat) (s : State) (f : Fin 16) : fnEnabled (begin t s) f = fnEnabled s f := by simp [fnEnabled]
@[simp] theorem ptmMs_begin (t : Nat) (s : State) : ptmMs (begin t s) = ptmMs s := by simp [ptmMs]
@[simp] theorem setPcie_pcie (s : State) (g : Pcie → Pcie) : (setPcie s g).pcie = g s.pcie := rfl

/-- A reset of a function clears its Bus Master Enable (assumption 5). -/
@[simp] theorem resetFn_bme (s : State) (f : Fin 16) : (resetFn s f).pcie.bme = putBit s.pcie.bme f.val false := rfl

@[simp] theorem pcieDown_pcie (s : State) : (pcieDown s).pcie = pcie0 := rfl

/-- A VI is reachable once it leaves UNREACHABLE. -/
@[simp] theorem leaveUnreachable_unreachable (s : State) (v : RingId) (cause : Nat) : ((leaveUnreachable s v cause).vis.get v).unreachable = false := by
  unfold leaveUnreachable
  split
  · next h => simpa using h
  · simp [refreshAges_keeps _, homeStamp_keeps _ _, reachNotice_keeps _ _ _ _]

end Sys2Proof.Machine

namespace Sys2Proof.Safety

open Sys2Proof.Machine

section Pcie
variable {t : Nat} {p : Path} {v : RingId} {f : Fin 16} {w : Word} {s : State}

/-! ### Bindings complete (R127) -/

theorem viBindWrite_completes (hon : s.folioOn = true) (hp : privileged s p = true) (hnew : (bindOf (w &&& 0xFF0001F3)).1 = 0)
    (hold : (bindOf (reg s (bindAddr v))).1 = 0) :
    Completes (.viBindWrite t p v w) s fun u => u.regs = (setApplied (begin t s) (bindAddr v) (w &&& 0xFF0001F3)).regs :=
  completes_privCmd (execViBindWrite t p v w s) rfl rfl hon hp (by rw [viBindWrite_unbound hnew (by simpa using hold)]; simp)

theorem viBindWrite_ignored {x : RingId} (hon : s.folioOn = true) (hp : privileged s p = true) (hnew : (bindOf (w &&& 0xFF0001F3)).1 = 1) (hx : x ≠ v)
    (hk : viKind s x = 1) (hf : (viFn s x).val = (bindOf (w &&& 0xFF0001F3)).2) :
    Completes (.viBindWrite t p v w) s fun u => u.regs = s.regs ∧ u.own = s.own ∧ u.vis = s.vis := by
  refine completes_privCmd (execViBindWrite t p v w s) rfl rfl hon hp ?_
  rw [viBindWrite_taken hnew hx (by simpa using hk) (by simpa using hf)]
  simp [writeIgnored_keeps _ _ _ _]

/-! ### Resets of the functions, and the link (R85, R129, R132) -/

theorem flr_completes (hon : s.folioOn = true) (hf : fnEnabled s f = true) :
    Completes (.flr t f) s fun u => maskBit u.pcie.flr f.val = true ∧ u.pcie.flrAt = max s.now t ∧ maskBit u.pcie.bme f.val = false := by
  refine completes_event (execFlr t f s) rfl rfl (by simp [hon, hf]) ?_
  by_cases h0 : f.val = 0
  · simp [h0, trustRestored_keeps _, vfsLost_keeps _ _, fnLost_keeps _ _]
  · simp [h0, fnLost_keeps _ _]

theorem flrComplete_completes {b : Bool} (hon : s.folioOn = true) (hf : maskBit s.pcie.flr f.val = true) :
    Completes (.flrComplete t f b) s fun u => maskBit u.pcie.flr f.val = false ∧ maskBit u.pcie.msixOn f.val = b ∧ u.vis = s.vis :=
  completes_event (execFlrComplete t f b s) rfl rfl (by simp [hon, hf]) (by simp [fnHome_keeps _ _, setPcie_keeps _ _])

theorem vfEnableClear_completes (hon : s.folioOn = true) (hv : s.pcie.vfEnable = true) :
    Completes (.vfEnableClear t 0) s fun u => u.pcie.vfEnable = false ∧ u.pcie.link = s.pcie.link :=
  completes_event (execVfEnableClear t 0 s) rfl rfl (by simp [hon, hv]) (by simp [vfsLost_keeps _ _])

theorem vfEnableClear_lower {k : Nat} (hon : s.folioOn = true) (hv : s.pcie.vfEnable = true) (hk : 0 < k) (hlow : k < s.pcie.numVfs) :
    Completes (.vfEnableClear t k) s fun u => u.pcie.numVfs = k ∧ u.pcie.vfEnable = true :=
  completes_event (execVfEnableClear t k s) rfl rfl (by simp [hon, hv, hlow]) (by simp [vfsLost_keeps _ _, hv, Nat.ne_of_gt hk])

theorem vfEnableSet_completes {k : Nat} (hon : s.folioOn = true) (hl : s.pcie.link = true) (hf : maskBit s.pcie.flr 0 = false) (hlo : 1 ≤ k) (hhi : k ≤ 15)
    (hv : s.pcie.vfEnable = false) : Completes (.vfEnableSet t k) s fun u => u.pcie.vfEnable = true ∧ u.pcie.numVfs = k :=
  completes_event (execVfEnableSet t k s) rfl rfl (by simp [hon, hl, hf, hlo, hhi, hv]) (by simp [fnHome_keeps _ _])

theorem pcieLinkDown_completes (hon : s.folioOn = true) (hl : s.pcie.link = true) : Completes (.pcieLinkDown t) s fun u => u.pcie = pcie0 :=
  completes_event (execPcieLinkDown t s) rfl rfl (by simp [hon, hl]) (by simp)

theorem pcieLinkUp_completes {speed width bme msixOn : Nat} {ptm : Bool} (hon : s.folioOn = true) (hl : s.pcie.link = false) (hlo : 1 ≤ speed) (hhi : speed ≤ 4)
    (hw : width = 1 ∨ width = 2 ∨ width = 4) :
    Completes (.pcieLinkUp t speed width bme msixOn ptm) s fun u =>
      u.pcie.link = true ∧ u.pcie.speed = speed ∧ u.pcie.width = width ∧ u.pcie.vfEnable = false ∧ u.pcie.ptmEnable = ptm :=
  completes_event (execPcieLinkUp t speed width bme msixOn ptm s) rfl rfl (by simpa [hon, hl, hlo, hhi, or_assoc] using hw) (by simp [fnHome_keeps _ _, pcie0])

/-! ### Bus Master Enable (R132, R154, R156) -/

theorem bmeClear_unbound (hon : s.folioOn = true) (hf : fnEnabled s f = true) (hb : maskBit s.pcie.bme f.val = true) (hv : fnVi s f = none) :
    Completes (.bmeClear t f) s fun u => maskBit u.pcie.bme f.val = false ∧ u.vis = s.vis :=
  completes_event (execBmeClear t f s) rfl rfl (by simp [hon, hf, hb]) (by simp [hv, setPcie_keeps _ _])

theorem bmeClear_completes (hon : s.folioOn = true) (hf : fnEnabled s f = true) (hb : maskBit s.pcie.bme f.val = true) (hv : fnVi s f = some v) :
    Completes (.bmeClear t f) s fun u =>
      u.vis = (enterUnreachable (setPcie (begin t s) (fun p => { p with bme := putBit p.bme f.val false })) v 2).vis ∧
      u.pcie = (enterUnreachable (setPcie (begin t s) (fun p => { p with bme := putBit p.bme f.val false })) v 2).pcie :=
  completes_event (execBmeClear t f s) rfl rfl (by simp [hon, hf, hb]) (by simp [hv])

theorem bmeSet_completes (hon : s.folioOn = true) (hf : fnEnabled s f = true) (hb : maskBit s.pcie.bme f.val = false) :
    Completes (.bmeSet t f) s fun u => maskBit u.pcie.bme f.val = true ∧ ∀ v, fnVi s f = some v → (u.vis.get v).unreachable = false := by
  refine completes_event (execBmeSet t f s) rfl rfl (by simp [hon, hf, hb]) ?_
  cases hv : fnVi s f with
  | none => simp [hv]
  | some x => simp [hv, leaveUnreachable_keeps _ _ _]

/-! ### PTM (R133) -/

section Ptm
variable {ownerNs : Nat} {phase : Vector Int 64} (hon : s.folioOn = true) (hl : s.pcie.link = true) (he : s.pcie.ptmEnable = true)
  (ht : s.pcie.ptmLast + ticksMs (ptmMs s) ≤ max s.now t)
include hon hl he ht

theorem ptmRequest_completes :
    Completes (.ptmRequest t true ownerNs phase) s fun u => u.pcie.ptmValid = true ∧ u.pcie.ptmFails = 0 ∧ u.pcie.ptmLast = max s.now t :=
  completes_event (execPtmRequest t true ownerNs phase s) rfl rfl (by simpa [hon, hl, he] using ht) (by simp [clockUpdate_keeps _ _ _ _ _, emit])

/-- The third failure in a row, and every one after it, leaves the reference not valid. -/
theorem ptmRequest_fails (hk : 2 ≤ s.pcie.ptmFails) :
    Completes (.ptmRequest t false ownerNs phase) s fun u => u.pcie.ptmValid = false ∧ u.pcie.ptmFails = s.pcie.ptmFails + 1 := by
  refine completes_event (execPtmRequest t false ownerNs phase s) rfl rfl (by simpa [hon, hl, he] using ht) ?_
  have hthird : 3 ≤ s.pcie.ptmFails + 1 := by omega
  cases hv : s.pcie.ptmValid <;> simp [hv, hthird, emit, clockLost_keeps _ _]

end Ptm

end Pcie

/-- Settles O30: each clause is one command's completion, proved above. That resets of the endpoint clear Bus Master Enable and MSI-X rests on assumption 5, and
what the link's training sets on assumption 65; the forfeitures are in no clause. -/
theorem pcieCommandsComplete : Obligations.PcieCommandsComplete :=
  ⟨fun _ _ _ _ _ => viBindWrite_completes, fun _ _ _ _ _ _ => viBindWrite_ignored, fun _ _ _ => flr_completes, fun _ _ _ _ => flrComplete_completes,
    fun _ _ => vfEnableClear_completes, fun _ _ _ => vfEnableClear_lower, fun _ _ _ => vfEnableSet_completes, fun _ _ => pcieLinkDown_completes,
    fun _ _ _ _ _ _ _ => pcieLinkUp_completes, fun _ _ _ => bmeClear_unbound, fun _ _ _ _ => bmeClear_completes, fun _ _ _ => bmeSet_completes,
    fun _ _ _ _ => ptmRequest_completes, fun _ _ _ _ => ptmRequest_fails⟩

end Sys2Proof.Safety
end

section
/-! The commands of the Ethernet ports complete with their effects (R137–R139, R150, R151): what the operations on a port and on a frame do to what the claim
speaks of, then each command's completion. -/

namespace Sys2Proof.Machine

/-! ### What the conditions of the transport read at a command's moment -/

@[simp] theorem ethEn_begin (t : Nat) (s : State) (b : Bool) : ethEn (begin t s) b = ethEn s b := by simp [ethEn]
@[simp] theorem eth25_begin (t : Nat) (s : State) (b : Bool) : eth25 (begin t s) b = eth25 s b := by simp [eth25]
@[simp] theorem prpEn_begin (t : Nat) (s : State) : prpEn (begin t s) = prpEn s := by simp [prpEn]
@[simp] theorem lifeCheckMs_begin (t : Nat) (s : State) : lifeCheckMs (begin t s) = lifeCheckMs s := by simp [lifeCheckMs]
@[simp] theorem ethUsed_begin (t : Nat) (s : State) (b : Bool) : ethUsed (begin t s) b = ethUsed s b := by simp [ethUsed]
@[simp] theorem ccEn_begin (t : Nat) (s : State) : ccEn (begin t s) = ccEn s := by simp [ccEn]
@[simp] theorem ccShift_begin (t : Nat) (s : State) : ccShift (begin t s) = ccShift s := by simp [ccShift]
@[simp] theorem ccInc_begin (t : Nat) (s : State) : ccInc (begin t s) = ccInc s := by simp [ccInc]
@[simp] theorem ccMin_begin (t : Nat) (s : State) : ccMin (begin t s) = ccMin s := by simp [ccMin]
@[simp] theorem lineRate_begin (t : Nat) (s : State) (q : Fin 128) : lineRate (begin t s) q = lineRate s q := by simp [lineRate]

/-! ### LANs (R137, R139) -/

@[simp] theorem setEth_eth (s : State) (b : Bool) (f : EthPort → EthPort) : (setEth s b f).eth = vmod s.eth (ethIdx b) f := rfl

@[simp] theorem lanChange_eth (s : State) (b up : Bool) : (lanChange s b up).eth = vmod s.eth (ethIdx b) (fun e => { e with lanUp := up }) := by
  simp [lanChange, notice_keeps _ _ _ _ _ _ _, record_keeps _ _ _ _ _ _ _]

/-! ### Frames (R138, R142, R151) -/

/-- The duplicate table does not depend on the state of a port. -/
@[simp] theorem dupCheck_setEth (s : State) (b : Bool) (f : EthPort → EthPort) (mac seqno : Nat) : dupCheck (setEth s b f) mac seqno = dupCheck s mac seqno := rfl

/-- A buffer's level asks the peer to stop or to go on, and moves nothing else of the port. -/
@[simp] theorem bufferLevel_link (s : State) (b : Bool) (prio fill : Nat) : ((bufferLevel s b prio fill).eth.get (ethIdx b)).link = (s.eth.get (ethIdx b)).link := by
  unfold bufferLevel
  dsimp only
  (repeat' split) <;> simp [emit]

theorem mem_out_bufferLevel {s : State} {o : Out} (h : o ∈ s.out) (b : Bool) (prio fill : Nat) : o ∈ (bufferLevel s b prio fill).out := by
  unfold bufferLevel
  dsimp only
  (repeat' split) <;> simp [emit, h, setEth_keeps _ _ _]

/-- A delivered frame reaches its host, whatever its slot and its priority bring about. -/
theorem deliverFrame_delivers (s : State) (b : Bool) (f : EthFrame) : .deliver f.bytes ∈ (deliverFrame s b f).out :=
  mem_out_bufferLevel (by simp [emit]) b f.prio.val f.fill

@[simp] theorem deliverFrame_link (s : State) (b : Bool) (f : EthFrame) : ((deliverFrame s b f).eth.get (ethIdx b)).link = (s.eth.get (ethIdx b)).link := by
  unfold deliverFrame
  dsimp only
  (repeat' split) <;> simp [emit_keeps _ _, markedCe_keeps _ _, setQp_keeps _ _ _]

end Sys2Proof.Machine

namespace Sys2Proof.Safety

open Sys2Proof.Machine

/-- An event whose guard holds completes with its effect at its moment, settled, where the effect also looks back at what its moment found. -/
theorem completes_eventAt {c : Instr} {t : Nat} {s : State} {g : State → Bool} {f : State → State → State} {post : State → Prop}
    (meaning : Host.Outcome State Fault Refusal) (hc : exec c s = meaning) (hm : meaning = act t s fun u => when (g u) u (f u)) (hg : g (begin t s) = true)
    (h : post { settle (f (begin t s) (begin t s)) with now := max s.now t, pending := s.pending }) : Completes c s post :=
  completes_act meaning hc hm (by rw [hg, when_true]; exact h)

section Ethernet
variable {t : Nat} {b : Bool} {f : EthFrame} {q : Fin 128} {s : State}

/-! ### Frames complete (R137, R138) -/

theorem ethFrameReceived_badCheck (hu : ethUsed s b = true) (hf : f.fcsOk = false) :
    Completes (.ethFrameReceived t b f) s fun u =>
      u.prp = s.prp ∧ u.qps = s.qps ∧ u.out = [] ∧ (u.eth.get (ethIdx b)).lanUp = (s.eth.get (ethIdx b)).lanUp :=
  completes_event (execEthFrameReceived t b f s) rfl rfl (by simpa using hu) (by simp [hf, rcCount_keeps _ _ _, setEth_keeps _ _ _])

theorem ethFrameReceived_duplicate {seqno : Nat} {l : Bool} (hu : ethUsed s b = true) (hf : f.fcsOk = true) (hvid : f.vid = none) (hbuf : f.buffered = true)
    (hrct : f.rct = some (seqno, l)) (hprp : prpEn s = true) (hl : l ≠ b) (hdup : dupCheck (begin t s) f.src seqno = true) :
    Completes (.ethFrameReceived t b f) s fun u => u.prp = s.prp ∧ u.out = [] ∧ u.qps = s.qps :=
  completes_event (execEthFrameReceived t b f s) rfl rfl (by simpa using hu)
    (by simp [hf, hvid, hbuf, hrct, hprp, hl, hdup, rcCount_keeps _ _ _, setEth_keeps _ _ _])

theorem ethFrameReceived_delivered (hu : ethUsed s b = true) (hf : f.fcsOk = true) (hvid : f.vid = none) (hbuf : f.buffered = true) (hrct : f.rct = none)
    (hsup : f.supervision = false) :
    Completes (.ethFrameReceived t b f) s fun u => .deliver f.bytes ∈ u.out ∧ (u.eth.get (ethIdx b)).link = true ∧ u.prp = s.prp :=
  completes_event (execEthFrameReceived t b f s) rfl rfl (by simpa using hu)
    (by simp [hf, hvid, hbuf, hrct, hsup, deliverFrame_delivers _ _ _, deliverFrame_keeps _ _ _, setEth_keeps _ _ _])

/-! ### The duplicate table, supervision and the LANs (R137–R139, R151) -/

theorem prpEntryExpiry_completes (hon : s.folioOn = true) :
    Completes (.prpEntryExpiry t) s fun u => u.prp = { s.prp with table := s.prp.table.filter (fun e => decide (max s.now t < e.at_ + ticksMs 400)) } :=
  completes_event (execPrpEntryExpiry t s) rfl rfl (by simpa using hon) (by simp)

theorem prpSupervisionSend_completes (hon : s.folioOn = true) (hprp : prpEn s = true) (ht : s.prp.lastSupervision + ticksMs (lifeCheckMs s) ≤ max s.now t) :
    Completes (.prpSupervisionSend t) s fun u =>
      u.out = [.supervision false s.prp.seqno, .supervision true s.prp.seqno] ∧ u.prp.seqno = (s.prp.seqno + 1) % 65536 ∧
      u.prp.lastSupervision = max s.now t :=
  completes_event (execPrpSupervisionSend t s) rfl rfl (by simpa [hon, hprp] using ht) (by simp [emit])

theorem lanDown_lockLost (hon : s.folioOn = true) (hup : (s.eth.get (ethIdx b)).lanUp = true) :
    Completes (.lanDown t b true) s fun u => (u.eth.get (ethIdx b)).lanUp = false ∧ (u.eth.get (ethIdx b)).lock = false :=
  completes_eventAt (execLanDown t b true s) rfl rfl (by simp [hon]) (by simp [hup])

theorem lanDown_silent (hon : s.folioOn = true) (hup : (s.eth.get (ethIdx b)).lanUp = true)
    (ht : (s.eth.get (ethIdx b)).lastFrame + 3 * ticksMs (lifeCheckMs s) ≤ max s.now t) :
    Completes (.lanDown t b false) s fun u => (u.eth.get (ethIdx b)).lanUp = false ∧ (u.eth.get (ethIdx b)).link = (s.eth.get (ethIdx b)).link :=
  completes_eventAt (execLanDown t b false s) rfl rfl (by simpa [hon, hup] using ht) (by simp [hup])

theorem pfcFrameReceived_completes {enable xoff : Nat} (hu : ethUsed s b = true) :
    Completes (.pfcFrameReceived t b enable xoff) s fun u => (u.eth.get (ethIdx b)).xoff = (s.eth.get (ethIdx b)).xoff ∧ u.prp = s.prp ∧
      (u.eth.get (ethIdx b)).paused = (List.range 8).foldl
        (fun k i => if maskBit (Nat.land (enable % 256) (rfld s 0x80220 16 8)) i then putBit k i (maskBit xoff i) else k) (s.eth.get (ethIdx b)).paused :=
  completes_event (execPfcFrameReceived t b enable xoff s) rfl rfl (by simpa using hu) (by simp [setEth_keeps _ _ _])

/-! ### Congestion (R150) -/

theorem cnpReceived_first (hon : s.folioOn = true) (hcc : ccEn s = true) (hq : (s.qps.get q).state = .ready) (hdec : (s.qps.get q).lastDec = none) :
    Completes (.cnpReceived t q) s fun u =>
      (u.qps.get q).rate = max ((s.qps.get q).rate - (s.qps.get q).rate / 2 ^ ccShift s) (ccMin s) ∧ (u.qps.get q).lastDec = some (max s.now t) :=
  completes_eventAt (execCnpReceived t q s) rfl rfl (by simp [hon, hcc, hq]) (by simp [hdec])

theorem cnpReceived_early {k : Nat} (hon : s.folioOn = true) (hcc : ccEn s = true) (hq : (s.qps.get q).state = .ready) (hdec : (s.qps.get q).lastDec = some k)
    (ht : max s.now t < k + ticksUs 50) :
    Completes (.cnpReceived t q) s fun u => (u.qps.get q).rate = (s.qps.get q).rate ∧ (u.qps.get q).lastInc = max s.now t :=
  completes_eventAt (execCnpReceived t q s) rfl rfl (by simp [hon, hcc, hq]) (by simp [hdec, Nat.not_le.mpr ht])

theorem ccRateIncrease_completes (hon : s.folioOn = true) (hcc : ccEn s = true) (hq : (s.qps.get q).state = .ready)
    (ht : (s.qps.get q).lastInc + ticksUs 55 ≤ max s.now t) :
    Completes (.ccRateIncrease t q) s fun u =>
      (u.qps.get q).rate = min ((s.qps.get q).rate + ccInc s) (lineRate s q) ∧ (u.qps.get q).lastInc = max s.now t :=
  completes_event (execCcRateIncrease t q s) rfl rfl (by simpa [hon, hcc, hq] using ht) (by simp)

end Ethernet

/-- Settles O31: each clause is one command's completion, proved above. That a delivered frame shows its link up rests on assumption 62; what a bad check and a
duplicate count is in no clause. -/
theorem ethernetCommandsComplete : Obligations.EthernetCommandsComplete :=
  ⟨fun _ _ _ _ => ethFrameReceived_badCheck, fun _ _ _ _ _ _ => ethFrameReceived_duplicate, fun _ _ _ _ => ethFrameReceived_delivered,
    fun _ _ => prpEntryExpiry_completes, fun _ _ => prpSupervisionSend_completes, fun _ _ _ => lanDown_lockLost, fun _ _ _ => lanDown_silent,
    fun _ _ _ _ _ => pfcFrameReceived_completes, fun _ _ _ => cnpReceived_first, fun _ _ _ _ => cnpReceived_early, fun _ _ _ => ccRateIncrease_completes⟩

end Sys2Proof.Safety
end

section
/-! The RoCEv2 commands complete with their effects (R135, R140, R143–R149, R157): what becomes of a connection slot that is freed, disconnected, in error or bound,
then each command's completion. -/

namespace Sys2Proof.Machine

/-! ### What the conditions of the slots read at a command's moment -/

@[simp] theorem authReq_begin (t : Nat) (s : State) (v : RingId) : authReq (begin t s) v = authReq s v := by simp [authReq]
@[simp] theorem roceEn_begin (t : Nat) (s : State) : roceEn (begin t s) = roceEn s := by simp [roceEn]
@[simp] theorem rejReasons_begin (t : Nat) (s : State) (r : CmReq) : rejReasons (begin t s) r = rejReasons s r := by simp [rejReasons]
@[simp] theorem slotBound_begin (t : Nat) (s : State) (q : Fin 128) : slotBound (begin t s) q = slotBound s q := by simp [slotBound]
@[simp] theorem viOwns_begin (t : Nat) (s : State) (v : RingId) (n : PortId) : viOwns (begin t s) v n = viOwns s v n := by simp [viOwns]
@[simp] theorem holdS_begin (t : Nat) (s : State) (v : RingId) : holdS (begin t s) v = holdS s v := by simp [holdS]

/-! ### A free choice (assumption 52) -/

/-- What a free value picks from a list stands in the list. -/
theorem getD_mod_mem (k : Nat) (rest : List Nat) (i : Nat) : (k :: rest).getD (i % (rest.length + 1)) k ∈ k :: rest := by
  have hlt : i % (rest.length + 1) < (k :: rest).length := Nat.mod_lt i (Nat.succ_pos _)
  rw [List.getD_eq_getElem?_getD, List.getElem?_eq_getElem hlt, Option.getD_some]
  exact List.getElem_mem hlt

variable {s : State} {q : Fin 128} {cause : Nat}

/-! ### A slot that is freed, disconnected or in error (R85, R135, R149) -/

@[simp] theorem freeSlot_qps (s : State) (q : Fin 128) (cause : Nat) : (freeSlot s q cause).qps = vmod s.qps q (fun _ => { qp0 with cause := cause }) := rfl

/-- A disconnected slot is as after reset, but for its cause. -/
theorem disconnectSlot_qp (s : State) (q : Fin 128) (cause : Nat) : (disconnectSlot s q cause).qps.get q = { qp0 with cause := cause } := by
  unfold disconnectSlot
  dsimp only
  split <;> simp

/-- The VI of a bound slot that is disconnected has no slot. -/
theorem disconnectSlot_bound (h : slotBound s q = true) : ((disconnectSlot s q cause).vis.get (s.qps.get q).vi).qp = none := by
  simp [disconnectSlot, h, freeSlot_keeps _ _ _]

theorem slotError_qp (s : State) (q : Fin 128) (cause : Nat) :
    ((slotError s q cause).qps.get q).state = .error ∧ ((slotError s q cause).qps.get q).cause = cause := by
  unfold slotError
  dsimp only
  split <;> simp [transportLost_keeps _ _]

theorem qpReset_qp (s : State) (q : Fin 128) : ((qpReset s q).qps.get q).state = .reset := by
  unfold qpReset
  split
  · assumption
  · simp [disconnectSlot_qp, qp0]

/-! ### A slot that is bound (R143, R156) -/

/-- The slot bound to a VI that is reachable is READY, and the VI's. -/
theorem bindSlot_reachable (h : (s.vis.get (s.qps.get q).vi).unreachable = false) :
    ((bindSlot s q).qps.get q).state = .ready ∧ ((bindSlot s q).vis.get (s.qps.get q).vi).qp = some q := by
  simp [bindSlot, h, homeStamp_keeps _ _, setVi_keeps _ _ _]

end Sys2Proof.Machine

namespace Sys2Proof.Safety

open Sys2Proof.Machine

section Roce
variable {t : Nat} {b : Bool} {r : CmReq} {q : Fin 128} {v : RingId} {p : Path} {since : Nat} {s : State}

/-! ### A REQ is answered (R143, R146) -/

section Req
variable {k : Nat} (hu : ethUsed s b = true) (hid : r.serviceId.toNat = (reg s 0x80408).toNat + (reg s 0x8040C).toNat * 2 ^ 32)
include hu hid

theorem cmReq_rejected (hr : rejReasons s r = [k]) : Completes (.cmReq t b r) s fun u => u.out = [.cm none (.rej k)] ∧ u.qps = s.qps :=
  completes_event (execCmReq t b r s) rfl rfl (by simp [hu, hid]) (by simp [hr, emit])

/-- Where several reasons hold, the device's free choice falls on one of them (assumption 52). -/
theorem cmReq_rejectedFreely (hr : 2 ≤ (rejReasons s r).length) :
    Completes (.cmReq t b r) s fun u => (∃ k ∈ rejReasons s r, u.out = [.cm none (.rej k)]) ∧ u.qps = s.qps ∧ u.freeCtr = s.freeCtr + 1 := by
  refine completes_event (execCmReq t b r s) rfl rfl (by simp [hu, hid]) ?_
  match hks : rejReasons s r with
  | [] => simp [hks] at hr
  | [_] => simp [hks] at hr
  | k :: l :: rest =>
    have hchoice := getD_mod_mem k (l :: rest) (Config.freeWord s.freeCtr).toNat
    simp only [rejReasons_begin, hks]
    exact ⟨⟨_, by simpa [draw] using hchoice, by simp [draw, emit]⟩, by simp [draw, emit]⟩

theorem cmReq_accepted (hr : rejReasons s r = []) :
    Completes (.cmReq t b r) s fun u => u.qps = (acceptReq (begin t s) b r).qps ∧ u.out = (acceptReq (begin t s) b r).out :=
  completes_event (execCmReq t b r s) rfl rfl (by simp [hu, hid]) (by simp [hr])

end Req

/-! ### A connecting slot (R143, R145) -/

section Connecting
variable {mac : List Byte} (hon : s.folioOn = true) (hq : (s.qps.get q).state = .connecting)
include hon hq

theorem repRetryTimeout_again (ht : (s.qps.get q).repAt + ticksMs 100 ≤ max s.now t) (hk : (s.qps.get q).repSends < 4) :
    Completes (.repRetryTimeout t q) s fun u =>
      (u.qps.get q).repSends = (s.qps.get q).repSends + 1 ∧ (u.qps.get q).repAt = max s.now t ∧ (u.qps.get q).state = .connecting :=
  completes_eventAt (execRepRetryTimeout t q s) rfl rfl (by simpa [hon, hq] using ht) (by simp [hk, hq, emit])

theorem repRetryTimeout_givenUp (ht : (s.qps.get q).repAt + ticksMs 100 ≤ max s.now t) (hk : 4 ≤ (s.qps.get q).repSends) :
    Completes (.repRetryTimeout t q) s fun u => (u.qps.get q).state = .reset ∧ u.out = [] :=
  completes_eventAt (execRepRetryTimeout t q s) rfl rfl (by simpa [hon, hq] using ht)
    (by simp [Nat.not_lt.mpr hk, record_keeps _ _ _ _ _ _ _, freeSlot_keeps _ _ _, qp0])

theorem cmRtu_completes (ha : authReq s (s.qps.get q).vi = false) (hv : (s.vis.get (s.qps.get q).vi).unreachable = false) :
    Completes (.cmRtu t q mac) s fun u => (u.qps.get q).state = .ready ∧ (u.vis.get (s.qps.get q).vi).qp = some q := by
  have hbind := bindSlot_reachable (s := begin t s) (q := q) (by simpa using hv)
  exact completes_eventAt (execCmRtu t q mac s) rfl rfl (by simp [hon, hq]) (by simpa [ha] using hbind)

/-- Without a key of its VI no RTU is authenticated. -/
theorem cmRtu_refused (ha : authReq s (s.qps.get q).vi = true) (hkey : s.sealUnit.keys.get (s.qps.get q).vi = none) :
    Completes (.cmRtu t q mac) s fun u => (u.qps.get q).state = .reset ∧ u.out = [.cm (some q) .dreq] ∧ u.vis = s.vis :=
  completes_eventAt (execCmRtu t q mac s) rfl rfl (by simp [hon, hq])
    (by simp [ha, hkey, record_keeps _ _ _ _ _ _ _, freeSlot_keeps _ _ _, emit, qp0])

end Connecting

/-! ### A bound slot (R143, R148) -/

theorem cmDreq_completes (hon : s.folioOn = true) (hbound : slotBound s q = true) :
    Completes (.cmDreq t q) s fun u => (u.qps.get q).state = .reset ∧ (u.qps.get q).cause = 5 ∧ (u.vis.get (s.qps.get q).vi).qp = none := by
  have hvi := disconnectSlot_bound (s := emit (begin t s) (.cm (some q) .drep)) (q := q) (cause := 5) (by simpa [slotBound, emit] using hbound)
  exact completes_event (execCmDreq t q s) rfl rfl (by simp [hon, hbound]) (by simpa [disconnectSlot_qp, qp0, emit_keeps _ _] using hvi)

section Write
variable {k : Word} {a : Nat} {bs : List Byte} (hink : inkOn s = true) (hbound : slotBound s q = true) (hq : (s.qps.get q).state = .ready)
include hink hbound hq

theorem roceDoorbellWrite_refused (hk : k ≠ (s.qps.get q).rkey) :
    Completes (.roceDoorbellWrite t q k a bs) s fun u => (u.qps.get q).state = .error ∧ (u.qps.get q).cause = 4 :=
  completes_eventAt (execRoceDoorbellWrite t q k a bs s) rfl rfl (by simp [hink, hbound, hq]) (by simp [hk, refuseRequest, slotError_qp])

theorem roceDoorbellWrite_completes (ha : a % 4 = 0) (hlen : bs.length = 4) (hend : a + 4 ≤ 256) :
    Completes (.roceDoorbellWrite t q (s.qps.get q).rkey a bs) s fun u =>
      u.vis = (doorbell (emit (begin t s) (.ack q)) (s.qps.get q).vi a (BitVec.ofNat 32 (bytesToNatLE bs))).vis ∧
      u.out = (doorbell (emit (begin t s) (.ack q)) (s.qps.get q).vi a (BitVec.ofNat 32 (bytesToNatLE bs))).out :=
  completes_eventAt (execRoceDoorbellWrite t q (s.qps.get q).rkey a bs s) rfl rfl (by simp [hink, hbound, hq])
    (by simp [ha, hlen, hend, List.take_of_length_le (Nat.le_of_eq hlen)])

end Write

/-! ### A slot in READY, its timers and its NAKs (R140, R149) -/

section Ready
variable (hon : s.folioOn = true) (hq : (s.qps.get q).state = .ready)
include hon hq

section Timeout
variable (hold : (s.qps.get q).oldestAt = some since) (ht : since + ackTicks (s.qps.get q).ackExp ≤ max s.now t)
include hold ht

theorem ackTimeout_resends (hk : 0 < (s.qps.get q).retryLeft) :
    Completes (.ackTimeout t q) s fun u => u.out = [.resend q] ∧ (u.qps.get q).retryLeft = (s.qps.get q).retryLeft - 1 ∧ (u.qps.get q).state = .ready := by
  refine completes_act (execAckTimeout t q s) rfl rfl ?_
  simp only [begin_qps, hold]
  simp [when, hon, hq, ht, hk, emit, setQp_keeps _ _ _]

theorem ackTimeout_unbound (hk : (s.qps.get q).retryLeft = 0) (hfree : slotBound s q = false) :
    Completes (.ackTimeout t q) s fun u => (u.qps.get q).state = .error ∧ (u.qps.get q).cause = 1 ∧ u.vis = s.vis := by
  refine completes_act (execAckTimeout t q s) rfl rfl ?_
  simp only [begin_qps, hold]
  simp [when, hon, hq, ht, hk, hfree, setQp_keeps _ _ _]

end Timeout

theorem nakReceived_completes : Completes (.nakReceived t q) s fun u => (u.qps.get q).state = .error ∧ (u.qps.get q).cause = 2 :=
  completes_event (execNakReceived t q s) rfl rfl (by simp [hon, hq]) (by simp [slotError_qp])

theorem psnSequenceNak_completes (hold : (s.qps.get q).oldestAt = some since) :
    Completes (.psnSequenceNak t q) s fun u => u.out = [.resend q] ∧ (u.qps.get q).oldestAt = some (max s.now t) ∧ (u.qps.get q).state = .ready :=
  completes_event (execPsnSequenceNak t q s) rfl rfl (by simp [hon, hq, hold]) (by simp [hq, emit, setQp_keeps _ _ _])

end Ready

/-! ### QP_RESET, and the data held for an Unreachable VI (R135, R157) -/

theorem qpReset_completes (hon : s.folioOn = true) (hp : privileged s p = true) : Completes (.qpReset t p q) s fun u => (u.qps.get q).state = .reset :=
  completes_privCmd (execQpReset t p q s) rfl rfl hon hp (by simp [qpReset_qp])

theorem unreachableHoldExpiry_completes (hon : s.folioOn = true) (hv : (s.vis.get v).unreachable = true) (hd : (s.vis.get v).dataReleased = false)
    (hown : ∀ n, viOwns s v n = false) (ht : (s.vis.get v).unreachableAt + ticksS (holdS s v) ≤ max s.now t) :
    Completes (.unreachableHoldExpiry t v) s fun u => (u.vis.get v).dataReleased = true :=
  completes_eventAt (execUnreachableHoldExpiry t v s) rfl rfl (by simpa [hon, hv, hd, hown] using ht) (by simp)

end Roce

/-- Settles O32: each clause is one command's completion, proved above. Which of several reasons a REQ is rejected with is a free choice (assumption 52); an RTU that is
authenticated is in no clause. -/
theorem roceCommandsComplete : Obligations.RoceCommandsComplete :=
  ⟨fun _ _ _ _ _ => cmReq_rejected, fun _ _ _ _ => cmReq_rejectedFreely, fun _ _ _ _ => cmReq_accepted, fun _ _ _ => repRetryTimeout_again,
    fun _ _ _ => repRetryTimeout_givenUp, fun _ _ _ _ => cmRtu_completes, fun _ _ _ _ => cmRtu_refused, fun _ _ _ => cmDreq_completes,
    fun _ _ _ _ _ _ => roceDoorbellWrite_refused, fun _ _ _ _ _ => roceDoorbellWrite_completes, fun _ _ _ _ => ackTimeout_resends,
    fun _ _ _ _ => ackTimeout_unbound, fun _ _ _ => nakReceived_completes, fun _ _ _ _ => psnSequenceNak_completes, fun _ _ _ _ => qpReset_completes,
    fun _ _ _ => unreachableHoldExpiry_completes⟩

end Sys2Proof.Safety
end

section
/-! The PTP commands and the slew of a port complete with their effects (R152, R213, R351): what an end of the lock leaves of PTP, then each command's completion. -/

namespace Sys2Proof.Machine

@[simp] theorem ptpEn_begin (t : Nat) (s : State) : ptpEn (begin t s) = ptpEn s := by simp [ptpEn]
@[simp] theorem ptpFailover_begin (t : Nat) (s : State) : ptpFailover (begin t s) = ptpFailover s := by simp [ptpFailover]

/-- PTP that is not locked any more keeps its port and its last offset (R152). -/
@[simp] theorem ptpUnlock_ptp (s : State) : (ptpUnlock s).ptp = { s.ptp with locked := false } := by
  simp [ptpUnlock, discLost_keeps _, clockLost_keeps _ _]

end Sys2Proof.Machine

namespace Sys2Proof.Safety

open Sys2Proof.Machine

section Clock
variable {t : Nat} {n : PortId} {s : State}

theorem ptpSyncAccepted_completes {timeNs masters : Nat} {offset : Int} {phase : Vector Int 64} (hon : s.folioOn = true) (hen : ptpEn s = true)
    (hport : ethEn s s.ptp.portB = true) :
    Completes (.ptpSyncAccepted t timeNs offset masters phase) s fun u =>
      u.ptp.locked = true ∧ u.ptp.offset = offset ∧ u.ptp.lastSync = max s.now t ∧ u.ptp.timeNs = timeNs :=
  completes_event (execPtpSyncAccepted t timeNs offset masters phase s) rfl rfl (by simp [hon, hen, hport])
    (by simp [discSync_keeps _ _ _, clockUpdate_keeps _ _ _ _ _])

theorem ptpLockTimeout_failsOver (hon : s.folioOn = true) (hl : s.ptp.locked = true) (ht : s.ptp.lastSync + ticksS 4 ≤ max s.now t) (hf : ptpFailover s = true) :
    Completes (.ptpLockTimeout t) s fun u => u.ptp.locked = false ∧ u.ptp.portB = !s.ptp.portB ∧ u.ptp.failedOver = true :=
  completes_event (execPtpLockTimeout t s) rfl rfl (by simpa [hon, hl] using ht) (by simp [hf, record_keeps _ _ _ _ _ _ _])

theorem ptpLockTimeout_stays (hon : s.folioOn = true) (hl : s.ptp.locked = true) (ht : s.ptp.lastSync + ticksS 4 ≤ max s.now t) (hf : ptpFailover s = false) :
    Completes (.ptpLockTimeout t) s fun u => u.ptp = { s.ptp with locked := false } :=
  completes_event (execPtpLockTimeout t s) rfl rfl (by simpa [hon, hl] using ht) (by simp [hf])

/-- SLEWING clears on a port that a ring VI owns and on one that none owns alike. -/
theorem portSlewComplete_completes (hon : s.folioOn = true) (hs : (s.nibs.get n).slewing = true) :
    Completes (.portSlewComplete t n) s fun u => (u.nibs.get n).slewing = false ∧ (u.nibs.get n).offsetUf = (s.nibs.get n).offsetUf := by
  refine completes_event (execPortSlewComplete t n s) rfl rfl (by simp [hon, hs]) ?_
  cases hv : ringOwner s n <;> simp [hv]

end Clock

/-- Settles O33: each clause is one command's completion, proved above. That the offset and the times come with the command rests on assumption 66. -/
theorem clockCommandsComplete : Obligations.ClockCommandsComplete :=
  ⟨fun _ _ _ _ _ _ => ptpSyncAccepted_completes, fun _ _ => ptpLockTimeout_failsOver, fun _ _ => ptpLockTimeout_stays,
    fun _ _ _ => portSlewComplete_completes⟩

end Sys2Proof.Safety
end

section
/-! The events of a port's root buses complete with their effects (R164–R167, R191): what each operation on a path does to what its claim speaks of, then each
event's completion. -/

namespace Sys2Proof.Machine

/-- The connection, the speed and the state of both paths of a port are as they were. -/
@[simp, reducible] def KeepsPaths (b c : Nib) : Prop :=
  b.connect = c.connect ∧ b.speed2 = c.speed2 ∧ b.phase2 = c.phase2 ∧ b.speedS = c.speedS ∧ b.phaseS = c.phaseS

variable {s : State} {n : PortId}

/-! ### A path that comes up (R164, R165, R167) -/

/-- A bus that is aligned to a timeline keeps its paths, and what waits for their reset (R208). -/
theorem alignBus_nib (s : State) (n : PortId) :
    KeepsPaths ((alignBus s n).nibs.get n) (s.nibs.get n) ∧ ((alignBus s n).nibs.get n).resetCmd = (s.nibs.get n).resetCmd ∧
      ((alignBus s n).nibs.get n).waitS = (s.nibs.get n).waitS := by
  unfold alignBus
  split <;> simp

/-- A reset of the USB 2.0 path alone does not end a command that waits for the SuperSpeed path too (R167). -/
theorem pathReset_usb2_waiting {c : RingId × Nat} (hcmd : (s.nibs.get n).resetCmd = some c) (hw : (s.nibs.get n).waitS = true) (fresh : Bool) :
    pathReset s n false fresh = setNib s n (fun b => { b with wait2 := false, default2 := b.connect }) := by
  simp [pathReset, finishReset, hcmd, hw]

/-- A reset of a USB 2.0 path with nothing connected, which no command waits for, brings nothing up. -/
theorem pathReset_usb2_disconnected (hcmd : (s.nibs.get n).resetCmd = none) (hc : (s.nibs.get n).connect = false) :
    pathReset s n false false = setNib s n (fun b => { b with wait2 := false, default2 := b.connect }) := by
  simp only [pathReset, setNib_nibs, vmod_get_self, Bool.false_eq_true, if_false, hcmd, Option.isSome_none, hc, Bool.not_false, or_true, if_true]
  split <;> rfl

/-- A USB 2.0 connection counts an attachment, and keeps its speed through the reset that follows for a ring VI. -/
theorem rootConnected_usb2 (h : (s.nibs.get n).connect = true) :
    ((rootConnected s n false).nibs.get n).connect = true ∧ ((rootConnected s n false).nibs.get n).speed2 = (s.nibs.get n).speed2 ∧
      ((rootConnected s n false).nibs.get n).attachCount = ((s.nibs.get n).attachCount + 1) % 65536 := by
  simp only [rootConnected, Bool.false_eq_true, if_false]
  (repeat' split) <;> simp [h, reset2, emit_keeps _ _, viewConnect_keeps _ _ _, notice_keeps _ _ _ _ _ _ _]

/-! ### A path that ends (R191) -/

theorem dropPreview_keepsPaths (b : Nib) (ss : Bool) : KeepsPaths (dropPreview b ss) b := by
  unfold dropPreview
  (repeat' split) <;> simp

theorem settleSusp_keepsPaths (s : State) (n : PortId) : KeepsPaths ((settleSusp s n).nibs.get n) (s.nibs.get n) := by
  simp only [settleSusp, setNib_nibs, vmod_get_self]
  split <;> simp

/-- The end of a wait for a reset (R167). -/
theorem finishReset_keepsPaths (s : State) (n : PortId) (force : Bool) : KeepsPaths ((finishReset s n force).nibs.get n) (s.nibs.get n) := by
  unfold finishReset
  dsimp only
  (repeat' split) <;> simp [portStateNotice_keeps _ _ _ _ _, finishCmd_keeps _ _ _ _ _ _]

/-- A path that is gone leaves its side of the port down, and the state of the USB 2.0 path as it found it where the other path goes. -/
theorem pathGone_nib (s : State) (n : PortId) (ss : Bool) (reason : Nat) :
    ∃ b : Nib, b.phase2 = (s.nibs.get n).phase2 ∧ (pathGone s n ss reason).nibs.get n = dropPreview (if ss then nibDownS b else nibDown2 b) ss := by
  simp only [pathGone, ite_nibs, detachNotice_keeps _ _ _ _ _, ite_self, setNib_nibs, vmod_get_self]
  refine ⟨_, ?_, rfl⟩
  split
  · split <;> simp [viewDisconnect_keeps _ _ _, releasePath_keeps _ _ _ _ _, finishCmd_keeps _ _ _ _ _ _]
  · simp [viewDisconnect_keeps _ _ _, releasePath_keeps _ _ _ _ _]

theorem pathGone_usb2 (h : (s.nibs.get n).phase2 ≠ .stuck) (reason : Nat) :
    ((pathGone s n false reason).nibs.get n).connect = false ∧ ((pathGone s n false reason).nibs.get n).speed2 = 0 ∧
      ((pathGone s n false reason).nibs.get n).phase2 = .idle := by
  obtain ⟨b, hphase, hb⟩ := pathGone_nib s n false reason
  simp [hb, nibDown2, dropPreview_keepsPaths _ _, hphase, h]

theorem pathGone_ss (s : State) (n : PortId) (reason : Nat) :
    ((pathGone s n true reason).nibs.get n).phaseS = .off ∧ ((pathGone s n true reason).nibs.get n).speedS = 0 := by
  obtain ⟨b, -, hb⟩ := pathGone_nib s n true reason
  simp [hb, nibDownS, dropPreview_keepsPaths _ _]

/-! ### Babble (R179) -/

/-- A field that a change of one entry leaves as it was. -/
theorem vmod_get_proj {α β : Type} {k : Nat} (p : α → β) {f : α → α} (h : ∀ x, p (f x) = p x) (v : Vector α k) (i j : Fin k) :
    p ((vmod v i f).get j) = p (v.get j) := by
  rw [vmod_get]
  split
  · next hij => rw [h, hij]
  · rfl

/-- A split that is abandoned adds to a port's queue of repairs, and leaves the state of its USB 2.0 path and its L1 (R181). -/
theorem abandonSplit_usb2 (s : State) (ctx : Nat) (n : PortId) :
    ((abandonSplit s ctx).nibs.get n).phase2 = (s.nibs.get n).phase2 ∧ ((abandonSplit s ctx).nibs.get n).l1 = (s.nibs.get n).l1 := by
  unfold abandonSplit
  split
  · exact ⟨rfl, rfl⟩
  · split
    · exact ⟨rfl, rfl⟩
    · dsimp only
      split
      · simp only [emit_keeps _ _, setNib_nibs, rcCount_keeps _ _ _, setEp_keeps _ _ _]
        exact ⟨vmod_get_proj Nib.phase2 (fun _ => by rfl) _ _ _, vmod_get_proj Nib.l1 (fun _ => by rfl) _ _ _⟩
      · simp [setEp_keeps _ _ _]

theorem breakEp_usb2 (s : State) (ctx code : Nat) (n : PortId) :
    ((breakEp s ctx code).nibs.get n).phase2 = (s.nibs.get n).phase2 ∧ ((breakEp s ctx code).nibs.get n).l1 = (s.nibs.get n).l1 := by
  unfold breakEp
  dsimp only
  (repeat' split) <;> simp [abandonSplit_usb2 _ _ _, endQueue_keeps _ _ _ _, haltEp_keeps _ _]

theorem breakEps_usb2 (es : List Endpoint) (s : State) (code : Nat) (n : PortId) :
    ((es.foldl (fun u e => breakEp u e.ctx code) s).nibs.get n).phase2 = (s.nibs.get n).phase2 ∧
      ((es.foldl (fun u e => breakEp u e.ctx code) s).nibs.get n).l1 = (s.nibs.get n).l1 :=
  ⟨foldl_proj (fun u => (u.nibs.get n).phase2) _ (fun u e => (breakEp_usb2 u e.ctx code n).1) es s,
    foldl_proj (fun u => (u.nibs.get n).l1) _ (fun u e => (breakEp_usb2 u e.ctx code n).2) es s⟩

end Sys2Proof.Machine

namespace Sys2Proof.Safety

open Sys2Proof.Machine

section RootBus
variable {t : Nat} {n : PortId} {since : Nat} {c : RingId × Nat} {s : State}

/-! ### The USB 2.0 path (R164, R165, R179, R191) -/

theorem usb2ConnectDebounced_completes {low : Bool} (hon : s.folioOn = true) (hn : n.val ≠ 0) (hsink : sinkAttached s n = true) (hvbus : vbusOn s n = true)
    (hc : (s.nibs.get n).connect = false) (hp : (s.nibs.get n).phase2 = .idle ∨ (s.nibs.get n).phase2 = .disabled) :
    Completes (.usb2ConnectDebounced t n low) s fun u => (u.nibs.get n).connect = true ∧ (u.nibs.get n).speed2 = (if low then 1 else 2) ∧
      (u.nibs.get n).attachCount = ((s.nibs.get n).attachCount + 1) % 65536 :=
  completes_event (execUsb2ConnectDebounced t n low s) rfl rfl (by simp [hon, hn, hsink, hvbus, hc, hp]) (by simp [rootConnected_usb2])

theorem deviceChirpSeen_completes {a b : Nat} (hon : s.folioOn = true) (hlow : (s.nibs.get n).speed2 ≠ 1) (hmax : 3 ≤ maxSpeed s n) (ha : a ≤ 7000)
    (hb : 25 ≤ b) (hup : (s.cports.get n).reset2 = none) (hp : (s.nibs.get n).phase2 = .reset since) (hstart : since + ticksUs a ≤ max s.now t)
    (hend : max s.now t < since + ticksMs 50) :
    Completes (.deviceChirpSeen t n a b) s fun u => (u.nibs.get n).chirp = 2 ∧ u.out = [.line n .chirpKJ] := by
  refine completes_eventAt (execDeviceChirpSeen t n a b s) rfl rfl (by simp [hon, hlow, hmax, ha, hb]) ?_
  simp only [begin_nibs, begin_cports, hup, hp]
  simp [when, hstart, hend, emit, setNib_keeps _ _ _]

section ResetEnd
variable (hon : s.folioOn = true) (hp : (s.nibs.get n).phase2 = .reset since) (ht : since + ticksMs 50 ≤ max s.now t)
include hon hp ht

theorem rootResetEnd_disconnected (hc : (s.nibs.get n).connect = false) (hcmd : (s.nibs.get n).resetCmd = none) :
    Completes (.rootResetEnd t n) s fun u => (u.nibs.get n).phase2 = .idle ∧ (u.nibs.get n).speed2 = 0 ∧ (u.nibs.get n).wait2 = false := by
  refine completes_act (execRootResetEnd t n s) rfl rfl ?_
  simp only [begin_nibs, hp, begin_folioOn, hon, begin_now, ht, decide_true, Bool.and_self, when_true]
  rw [pathReset_usb2_disconnected (by simp [alignBus_nib _ _, emit_keeps _ _, hcmd]) (by simp [alignBus_nib _ _, emit_keeps _ _, hc])]
  simp [alignBus_nib _ _, emit_keeps _ _, hc]

theorem rootResetEnd_highSpeed (hc : (s.nibs.get n).connect = true) (hchirp : (s.nibs.get n).chirp = 2)
    (hcmd : (s.nibs.get n).resetCmd = some c) (hw : (s.nibs.get n).waitS = true) :
    Completes (.rootResetEnd t n) s fun u => (u.nibs.get n).phase2 = .recovery (max s.now t) ∧ (u.nibs.get n).speed2 = 3 ∧
      (u.nibs.get n).default2 = true ∧ .line n .sofStart ∈ u.out := by
  refine completes_act (execRootResetEnd t n s) rfl rfl ?_
  simp only [begin_nibs, hp, begin_folioOn, hon, begin_now, ht, decide_true, Bool.and_self, when_true]
  rw [pathReset_usb2_waiting (c := c) (by simp [alignBus_nib _ _, emit_keeps _ _, hcmd]) (by simp [alignBus_nib _ _, emit_keeps _ _, hw])]
  simp [alignBus_nib _ _, alignBus_keeps _ _, setNib_keeps _ _ _, emit, hc, hchirp]

end ResetEnd

theorem resetRecoveryEnd_completes (hon : s.folioOn = true) (hp : (s.nibs.get n).phase2 = .recovery since) (ht : since + ticksMs 10 ≤ max s.now t) :
    Completes (.resetRecoveryEnd t n) s fun u => (u.nibs.get n).phase2 = .active ∧ (u.nibs.get n).idleSince = max s.now t := by
  refine completes_act (execResetRecoveryEnd t n s) rfl rfl ?_
  simp only [begin_nibs, hp, begin_folioOn, hon, begin_now, ht, decide_true, Bool.and_self, when_true]
  split <;> simp [previewSend_keeps _ _, refreshAges_keeps _]

theorem babbleDetected_completes (hon : s.folioOn = true) (hc : (s.nibs.get n).connect = true) (hp : (s.nibs.get n).phase2 = .active) :
    Completes (.babbleDetected t n none) s fun u => (u.nibs.get n).phase2 = .disabled ∧ (u.nibs.get n).l1 = false := by
  refine completes_event (execBabbleDetected t n none s) rfl rfl (by simp [hon, hc, hp]) ?_
  simp only [Option.bind_none]
  split <;> simp [refreshAges_keeps _, portStateNotice_keeps _ _ _ _ _, setView_keeps _ _ _ _, breakEps_usb2 _ _ _ _, rcCount_keeps _ _ _]

theorem usb2Disconnect_completes (hon : s.folioOn = true) (hc : (s.nibs.get n).connect = true) (hp : (s.nibs.get n).phase2 ≠ .stuck) :
    Completes (.usb2Disconnect t n) s fun u => (u.nibs.get n).connect = false ∧ (u.nibs.get n).speed2 = 0 ∧ (u.nibs.get n).phase2 = .idle :=
  completes_event (execUsb2Disconnect t n s) rfl rfl (by simp [hon, hc])
    (by simp [finishReset_keepsPaths _ _ _, settleSusp_keepsPaths _ _, pathGone_usb2, hp])

/-! ### The SuperSpeed path (R164, R191) -/

section Detect
variable {gen2 : Bool} (hon : s.folioOn = true) (hn : n.val ≠ 0) (hmax : 4 ≤ maxSpeed s n) (hsink : sinkAttached s n = true) (hvbus : vbusOn s n = true)
  (hheld : pathsHeld s n = false) (hp : (s.nibs.get n).phaseS = .off ∨ (s.nibs.get n).phaseS = .detect)
include hon hn hmax hsink hvbus hheld hp

theorem receiverDetect_found :
    Completes (.receiverDetect t n true gen2) s fun u => (u.nibs.get n).phaseS = .training (max s.now t) ∧
      (u.nibs.get n).speedS = (if gen2 && maxSpeed s n == 5 then 5 else 4) :=
  completes_event (execReceiverDetect t n true gen2 s) rfl rfl (by simp [hon, hn, hmax, hsink, hvbus, hheld, hp]) (by simp [emit_keeps _ _])

theorem receiverDetect_none :
    Completes (.receiverDetect t n false gen2) s fun u => (u.nibs.get n).phaseS = .detect ∧ u.out = [.line n .receiverDetect] :=
  completes_event (execReceiverDetect t n false gen2 s) rfl rfl (by simp [hon, hn, hmax, hsink, hvbus, hheld, hp]) (by simp [emit, setNib_keeps _ _ _])

end Detect

section U0
variable {gen2 : Bool} (hon : s.folioOn = true) (hlit : portLit s n = true)
include hon hlit

theorem ssU0Entry_resumed (hp : (s.nibs.get n).phaseS = .u1 ∨ (s.nibs.get n).phaseS = .u2) :
    Completes (.ssU0Entry t n gen2) s fun u =>
      (u.nibs.get n).phaseS = .u0 ∧ (u.nibs.get n).idleSince = max s.now t ∧ (u.nibs.get n).speedS = (s.nibs.get n).speedS := by
  refine completes_event (execSsU0Entry t n gen2 s) rfl rfl (by simp [hon, hlit]) ?_
  rcases hp with hp | hp <;> simp [hp]

theorem ssU0Entry_trained (hp : (s.nibs.get n).phaseS = .training since) :
    Completes (.ssU0Entry t n gen2) s fun u => u.nibs =
      (pathReset (setNib (begin t s) n (fun x => { x with phaseS := .u0, speedS := if gen2 then 5 else 4, idleSince := max s.now t })) n true
        (!rootRecord s n true)).nibs :=
  completes_event (execSsU0Entry t n gen2 s) rfl rfl (by simp [hon, hlit]) (by simp [hp])

end U0

theorem ssTrainingTimeout_completes (hon : s.folioOn = true) (hp : (s.nibs.get n).phaseS = .training since) (ht : since + ticksMs 400 ≤ max s.now t) :
    Completes (.ssTrainingTimeout t n) s fun u => (u.nibs.get n).phaseS = .failed ∧ (u.nibs.get n).speedS = 0 := by
  refine completes_act (execSsTrainingTimeout t n s) rfl rfl ?_
  simp only [begin_nibs, hp, begin_folioOn, hon, begin_now, ht, decide_true, Bool.and_self, when_true]
  simp [finishReset_keepsPaths _ _ _, portStateNotice_keeps _ _ _ _ _, rcCount_keeps _ _ _]

theorem ssLinkLost_completes (hon : s.folioOn = true) (hup : ssUp (s.nibs.get n) = true) :
    Completes (.ssLinkLost t n) s fun u => (u.nibs.get n).phaseS = .off ∧ (u.nibs.get n).speedS = 0 :=
  completes_event (execSsLinkLost t n s) rfl rfl (by simp [hon, hup])
    (by simp [finishReset_keepsPaths _ _ _, settleSusp_keepsPaths _ _, pathGone_ss _ _ _])

end RootBus

/-- Settles O27: each clause is one event's completion, proved above. That babble disables its port rests on R179; what U0 after training brings up is said by
`pathReset`. -/
theorem rootPortCommandsComplete : Obligations.RootPortCommandsComplete :=
  ⟨fun _ _ _ _ => usb2ConnectDebounced_completes, fun _ _ _ _ => receiverDetect_found, fun _ _ _ _ => receiverDetect_none, fun _ _ _ _ => ssU0Entry_resumed,
    fun _ _ _ _ _ => ssU0Entry_trained, fun _ _ _ _ => ssTrainingTimeout_completes, fun _ _ _ _ _ _ => deviceChirpSeen_completes,
    fun _ _ _ _ => rootResetEnd_disconnected, fun _ _ _ _ _ => rootResetEnd_highSpeed, fun _ _ _ _ => resetRecoveryEnd_completes,
    fun _ _ _ => babbleDetected_completes, fun _ _ _ => usb2Disconnect_completes, fun _ _ _ => ssLinkLost_completes⟩

end Sys2Proof.Safety
end

section
/-! Split repair, low power, remote wake and stuck lines complete (R181, R185, R187–R190): what becomes of a line that is declared stuck and of its wait, then
each event's completion. -/

namespace Sys2Proof.Machine

@[simp] theorem portIdle_begin (t : Nat) (s : State) (n : PortId) : portIdle (begin t s) n = portIdle s n := by
  unfold begin
  split <;> rfl

/-! ### Stuck lines (R189, R190) -/

/-- A wait for a retest sets its length and its end, and leaves the state of the line. -/
theorem stuckWait_nib (s : State) (n : PortId) (k : Nat) :
    ((stuckWait s n k).nibs.get n).phase2 = (s.nibs.get n).phase2 ∧ ((stuckWait s n k).nibs.get n).backoff = k ∧
      ((stuckWait s n k).nibs.get n).retestAt = s.now + ticksS (backoffS k) := by
  simp [stuckWait, stuckNotice_keeps _ _]

/-- A line that is declared stuck waits one second for its first retest. -/
theorem declareStuck_nib (s : State) (n : PortId) :
    ((declareStuck s n).nibs.get n).phase2 = .stuck ∧ ((declareStuck s n).nibs.get n).backoff = 1 ∧
      ((declareStuck s n).nibs.get n).retestAt = s.now + ticksS 1 := by
  simp [declareStuck, stuckWait_nib _ _ _, record_keeps _ _ _ _ _ _ _, rcCount_keeps _ _ _, setNib_keeps _ _ _, viewDisconnect_keeps _ _ _,
    releasePath_keeps _ _ _ _ _, backoffS]

end Sys2Proof.Machine

namespace Sys2Proof.Safety

open Sys2Proof.Machine

section LinePower
variable {t : Nat} {n : PortId} {ack ss connects : Bool} {since : Nat} {v : RingId} {j : TtJob} {rest : List TtJob} {s : State}

/-! ### Split repair (R181) -/

section SplitRepair
variable (hink : inkOn s = true) (htt : (s.nibs.get n).tt = j :: rest)
include hink htt

theorem clearTtBufferDone_failed : Completes (.clearTtBufferDone t n false) s fun u => (u.nibs.get n).tt = rest ∧ u.eps = s.eps := by
  refine completes_act (execClearTtBufferDone t n false s) rfl rfl ?_
  simp only [begin_nibs, htt, inkOn_begin, hink, when_true]
  simp [record_keeps _ _ _ _ _ _ _, setNib_keeps _ _ _]

theorem clearTtBufferDone_succeeded :
    Completes (.clearTtBufferDone t n true) s fun u =>
      u.eps = (advance (setEp (setNib (begin t s) n (fun b => { b with tt := rest })) j.ctx (fun e => { e with ttWait := false })) j.ctx).eps := by
  refine completes_act (execClearTtBufferDone t n true s) rfl rfl ?_
  simp only [begin_nibs, htt, inkOn_begin, hink, when_true]
  simp

end SplitRepair

/-! ### Low power (R185) -/

/-- The LPM request is sent, and its answer enters L1 or holds it off. -/
theorem l1Entry_completes (hon : s.folioOn = true) (hen : l1En s n = true)
    (hlpm : (portDevices s n).any (fun d => d.tier == 1 && decide (d.speed ≤ 3) && d.lpm) = true) (hruns : busRuns s n false = true)
    (hl1 : (s.nibs.get n).l1 = false) (hhold : (s.nibs.get n).l1Hold = none) (hidle : portIdle s n = true) (hfor : idleFor (begin t s) n (l1Idle s n) = true) :
    Completes (.l1Entry t n ack) s fun u => (u.nibs.get n).l1 = ack ∧ (u.nibs.get n).l1Hold = (if ack then none else some (max s.now t)) ∧
      u.out = [.line n (.lpmToken (besl s n))] := by
  refine completes_event (execL1Entry t n ack s) rfl rfl ?_ ?_
  · simp only [begin_folioOn, l1En_begin, portDevices_begin, busRuns_begin, begin_nibs, portIdle_begin, l1Idle_begin, hon, hen, hlpm, hruns, hl1, hhold, hidle,
      hfor, Option.isNone_none, Bool.not_false, Bool.and_self]
  · cases ack <;> simp [emit, setNib_keeps _ _ _, hl1, hhold]

theorem lpmRefusalHoldExpiry_completes (hon : s.folioOn = true) (hhold : (s.nibs.get n).l1Hold = some since) (ht : since + ticksS 1 ≤ max s.now t) :
    Completes (.lpmRefusalHoldExpiry t n) s fun u => (u.nibs.get n).l1Hold = none := by
  refine completes_act (execLpmRefusalHoldExpiry t n s) rfl rfl ?_
  simp only [begin_nibs, hhold]
  simp [when, hon, ht]

theorem u1Entry_byDevice (hon : s.folioOn = true) (hen : u1En s n = true) (hp : (s.nibs.get n).phaseS = .u0) (hsusp : (s.nibs.get n).susp = .awake) :
    Completes (.u1Entry t n true) s fun u => (u.nibs.get n).phaseS = .u1 ∧ u.out = [] :=
  completes_event (execU1Entry t n true s) rfl rfl (by simp [hon, hen, hp, hsusp]) (by simp [setNib_keeps _ _ _])

theorem u2Entry_requested (hon : s.folioOn = true) (hen : u2En s n = true) (hp : (s.nibs.get n).phaseS = .u0) (hsusp : (s.nibs.get n).susp = .awake)
    (hidle : idleFor (begin t s) n (u2Idle s n) = true) :
    Completes (.u2Entry t n false) s fun u => (u.nibs.get n).phaseS = .u2 ∧ u.out = [.line n .requestU2] :=
  completes_event (execU2Entry t n false s) rfl rfl (by simp [hon, hen, hp, hsusp, hidle]) (by simp [emit, setNib_keeps _ _ _])

/-! ### Remote wake (R187) -/

theorem remoteWake_completes (hon : s.folioOn = true) (hsusp : (s.nibs.get n).susp = .suspended) (hlit : portLit s n = true)
    (hown : (s.own.get n).owner = .ring v) :
    Completes (.remoteWake t n ss) s fun u => u.nibs = (if ((wakeSource (begin t s)).nibs.get n).susp = .suspended then
      treeResume (setNib (wakeSource (begin t s)) n (fun b => { b with waking := true })) n else wakeSource (begin t s)).nibs :=
  completes_event (execRemoteWake t n ss s) rfl rfl (by simp [hon, hsusp, hlit]) (by simp [wakeSource_keeps _, hown])

/-! ### Stuck lines (R189, R190) -/

section Probe
variable (hon : s.folioOn = true) (hn : n.val ≠ 0) (hen : stuckEn s n = true) (hsink : sinkAttached s n = true) (hvbus : vbusOn s n = true)
include hon hn hen hsink hvbus

theorem stuckProbe_passed (hp : (s.nibs.get n).phase2 = .active) (hspeed : (s.nibs.get n).speed2 ≠ 3) :
    Completes (.stuckProbe t n false connects) s fun u => (u.nibs.get n).probeFails = 0 :=
  completes_eventAt (execStuckProbe t n false connects s) rfl rfl (by simp [hon, hn, hen, hsink, hvbus, hp, hspeed]) (by simp)

/-- The tenth probe in a row that fails declares the line stuck. -/
theorem stuckProbe_declared (hp : (s.nibs.get n).phase2 = .idle) (hc : (s.nibs.get n).connect = false) (hfails : 9 ≤ (s.nibs.get n).probeFails) :
    Completes (.stuckProbe t n true false) s fun u =>
      (u.nibs.get n).phase2 = .stuck ∧ (u.nibs.get n).backoff = 1 ∧ (u.nibs.get n).retestAt = max s.now t + ticksS 1 := by
  have htenth : ¬ (s.nibs.get n).probeFails + 1 < 10 := by omega
  exact completes_eventAt (execStuckProbe t n true false s) rfl rfl (by simp [hon, hn, hen, hsink, hvbus, hp, hc])
    (by simp [hc, htenth, declareStuck_nib _ _, emit_keeps _ _])

end Probe

section Retest
variable (hon : s.folioOn = true) (hp : (s.nibs.get n).phase2 = .stuck) (ht : (s.nibs.get n).retestAt + ticksMs 10 ≤ max s.now t)
include hon hp ht

theorem stuckRetest_passed : Completes (.stuckRetest t n true) s fun u => (u.nibs.get n).phase2 = .idle ∧ (u.nibs.get n).backoff = 0 :=
  completes_eventAt (execStuckRetest t n true s) rfl rfl (by simpa [hon, hp] using ht) (by simp [clearStuck, hp, emit_keeps _ _])

theorem stuckRetest_failed :
    Completes (.stuckRetest t n false) s fun u => (u.nibs.get n).backoff = satN 4 ((s.nibs.get n).backoff + 1) ∧
      (u.nibs.get n).retestAt = max s.now t + ticksS (backoffS (satN 4 ((s.nibs.get n).backoff + 1))) :=
  completes_eventAt (execStuckRetest t n false s) rfl rfl (by simpa [hon, hp] using ht) (by simp [stuckWait_nib _ _ _, emit_keeps _ _])

end Retest

end LinePower

/-- Settles O28: each clause is one event's completion, proved above. That a failed CLEAR_TT_BUFFER is recorded, and that probes short of the tenth are counted, is
in no clause; what a remote wake does is said by `wakeSource` and `treeResume`, and holds in every mode. -/
theorem linePowerCommandsComplete : Obligations.LinePowerCommandsComplete :=
  ⟨fun _ _ _ _ _ => clearTtBufferDone_failed, fun _ _ _ _ _ => clearTtBufferDone_succeeded, fun _ _ _ _ => l1Entry_completes, fun _ _ _ => u1Entry_byDevice,
    fun _ _ _ => u2Entry_requested, fun _ _ _ _ => lpmRefusalHoldExpiry_completes, fun _ _ _ _ _ hon _ => remoteWake_completes hon, fun _ _ _ _ => stuckProbe_passed,
    fun _ _ _ => stuckProbe_declared, fun _ _ _ => stuckRetest_passed, fun _ _ _ => stuckRetest_failed⟩

end Sys2Proof.Safety
end

section
/-! The requests of a classic host complete (R219–R226, R237, R243): what a port request does on each kind of port, what the operations on a hub port do to what
their claims speak of, then each request's completion. -/

namespace Sys2Proof.Machine

variable {s : State} {c : ClassicId} {n : PortId}

/-! ### What a hub half reads at its moment -/

@[simp] theorem dp15Function_begin (t : Nat) (s : State) : dp15Function (begin t s) = dp15Function s := by simp [dp15Function]
@[simp] theorem clsOn_begin (t : Nat) (s : State) (c : ClassicId) : clsOn (begin t s) c = clsOn s c := by simp [clsOn]
@[simp] theorem clsOwns_begin (t : Nat) (s : State) (c : ClassicId) (n : PortId) : clsOwns (begin t s) c n = clsOwns s c n := by simp [clsOwns]
@[simp] theorem ttPorts_begin (t : Nat) (s : State) (c : ClassicId) (n : PortId) : ttPorts (begin t s) c n = ttPorts s c n := by simp [ttPorts]
@[simp] theorem hubStatusBytes_begin (t : Nat) (s : State) (c : ClassicId) : hubStatusBytes (begin t s) c = hubStatusBytes s c := by
  simp [hubStatusBytes, hubLocalPower]
@[simp] theorem linkStateCode_begin (t : Nat) (s : State) (n : PortId) : linkStateCode (begin t s) n = linkStateCode s n := by
  simp [linkStateCode]
@[simp] theorem portStatusBytes_begin (t : Nat) (s : State) (c : ClassicId) (n : PortId) (ss : Bool) :
    portStatusBytes (begin t s) c n ss = portStatusBytes s c n ss := by simp [portStatusBytes]
@[simp] theorem deviceDescriptor_begin (t : Nat) (s : State) (c : ClassicId) (h : HubHalf) :
    deviceDescriptor (begin t s) c h = deviceDescriptor s c h := by simp [deviceDescriptor]
@[simp] theorem configDescriptor_begin (t : Nat) (s : State) (c : ClassicId) (h : HubHalf) :
    configDescriptor (begin t s) c h = configDescriptor s c h := by cases h <;> simp [configDescriptor, funcConfig]
@[simp] theorem hubDescriptor_begin (t : Nat) (s : State) (ss : Bool) : hubDescriptor (begin t s) ss = hubDescriptor s ss := by simp [hubDescriptor]
@[simp] theorem hubString_begin (t : Nat) (s : State) (c : ClassicId) (k : Nat) : hubString (begin t s) c k = hubString s c k := by
  simp only [hubString, begin_modes, begin_nor]
@[simp] theorem descriptor_begin (t : Nat) (s : State) (c : ClassicId) (h : HubHalf) (k i : Nat) :
    descriptor (begin t s) c h k i = descriptor s c h k i := by
  simp only [descriptor, deviceDescriptor_begin, configDescriptor_begin, hubString_begin, hubDescriptor_begin]

/-! ### A request for a port (R223) -/

@[simp] theorem hubSay_out (s : State) (c : ClassicId) (r : HubReply) : (hubSay s c r).out = s.out ++ [.hub c r] := rfl
@[simp] theorem emit_out (s : State) (o : Out) : (emit s o).out = s.out ++ [o] := rfl
@[simp] theorem setView_cviews (s : State) (c : ClassicId) (n : PortId) (f : CView → CView) :
    (setView s c n f).cviews = vmod s.cviews (viewIdx c n) f := rfl

theorem hubPort_iff : hubPort n = true ↔ n.val ≠ 0 := bne_iff_ne

/-- No classic VI owns UP: it is no port of its hub. -/
theorem hubPort_of_clsOwns (h : clsOwns s c n = true) : hubPort n = true := by
  simp only [clsOwns, Bool.and_eq_true] at h
  exact h.1.1

theorem portReq_owned {f g : State → State} (h : clsOwns s c n = true) : portReq s c n f g = hubSay (f s) c .ack := by
  simp [portReq, hubPort_of_clsOwns h, h]

theorem portReq_other {f g : State → State} (hn : n.val ≠ 0) (h : clsOwns s c n = false) : portReq s c n f g = hubSay (g s) c .ack := by
  simp [portReq, hubPort_iff.mpr hn, h]

/-- A setting of the view is kept whether the port is owned or not. -/
theorem portReq_view {f : State → State} (hn : n.val ≠ 0) : portReq s c n f f = hubSay (f s) c .ack := by
  simp [portReq, hubPort_iff.mpr hn]

/-! ### The bits of a port's status -/

theorem bit16_eq_testBit (w : BitVec 16) (i : Nat) : bit16 w i = w.toNat.testBit i :=
  Nat.testBit_eq_decide_div_mod_eq.symm

/-- A bit that is set reads 1. -/
theorem bit16_put16_set (w : BitVec 16) {i : Nat} (h : i < 16) : bit16 (put16 w i true) i = true := by
  have hor : (w.toNat ||| 2 ^ i).testBit i = true := by simp
  rw [bit16_eq_testBit, put16, if_pos rfl, BitVec.toNat_ofNat, Nat.testBit_mod_two_pow]
  exact Bool.and_eq_true_iff.mpr ⟨decide_eq_true h, hor⟩

/-- Clearing a lower bit leaves a bit as it was. -/
theorem bit16_put16_clear (w : BitVec 16) {i j : Nat} (h : j < i) : bit16 (put16 w j false) i = bit16 w i := by
  obtain ⟨k, rfl⟩ : ∃ k, i = j + 1 + k := ⟨i - j - 1, by omega⟩
  by_cases hj : w.toNat / 2 ^ j % 2 = 1
  · have hhalf : ∀ q, q % 2 = 1 → (q - 1) / 2 = q / 2 := by omega
    have hsub : (w.toNat - 2 ^ j) / 2 ^ j = w.toNat / 2 ^ j - 1 := by simpa using Nat.sub_mul_div w.toNat (2 ^ j) 1
    have hmod : (w.toNat - 2 ^ j) % 65536 = w.toNat - 2 ^ j := Nat.mod_eq_of_lt (Nat.lt_of_le_of_lt (Nat.sub_le _ _) w.isLt)
    simp [bit16, put16, hj, hmod, Nat.pow_add, ← Nat.div_div_eq_div_mul, hsub, hhalf _ hj]
  · simp [bit16, put16, hj]

/-! ### Hub ports (R225, R232) -/

/-- A USB 2.0 reset begins: the hub port waits for its end, and PORT_RESET shows. -/
theorem hubReset2_begins (s : State) (c : ClassicId) (n : PortId) :
    ((hubReset2 s c n).cports.get n).reset2 = some s.now ∧ bit16 ((hubReset2 s c n).cviews.get (viewIdx c n)).status2 4 = true := by
  unfold hubReset2
  dsimp only
  split <;> simp [emit_keeps _ _, setView_keeps _ _ _ _, setCPort_keeps _ _ _, bit16_put16_clear, bit16_put16_set]

/-- A hot or warm reset begins: the hub port waits for its end, and PORT_RESET shows. -/
theorem hubResetS_begins (s : State) (c : ClassicId) (n : PortId) (warm : Bool) :
    ((hubResetS s c n warm).cports.get n).resetS = some (s.now, warm) ∧ bit16 ((hubResetS s c n warm).cviews.get (viewIdx c n)).statusS 4 = true := by
  unfold hubResetS
  dsimp only
  split <;> simp [emit_keeps _ _, setNib_keeps _ _ _, setView_keeps _ _ _ _, setCPort_keeps _ _ _, bit16_put16_clear, bit16_put16_set]

theorem hubResetSDone_resetS (s : State) (n : PortId) (ok : Bool) : ((hubResetSDone s n ok).cports.get n).resetS = none := by
  unfold hubResetSDone
  split
  · assumption
  · simp [ownView_keeps _ _ _]

theorem holdPaths_off (s : State) (c : ClassicId) (n : PortId) :
    ((holdPaths s c n).cviews.get (viewIdx c n)).power = false ∧ ((holdPaths s c n).nibs.get n).phaseS = .off := by
  simp [holdPaths, setNib_keeps _ _ _, emit_keeps _ _, setCPort_keeps _ _ _]

end Sys2Proof.Machine

namespace Sys2Proof.Safety

open Sys2Proof.Machine

/-- A request of a classic host completes with its effect at its moment, settled, where the VI answers its host. -/
theorem completes_hubRequest {i : Instr} {t : Nat} {c : ClassicId} {s : State} {f : State → State} {post : State → Prop}
    (meaning : Host.Outcome State Fault Refusal) (hc : exec i s = meaning) (hm : meaning = act t s fun u => when (clsOn u c) u f) (hon : clsOn s c = true)
    (h : post { settle (f (begin t s)) with now := max s.now t, pending := s.pending }) : Completes i s post :=
  completes_event meaning hc hm (by simpa using hon) h

section HubRequest
variable {t : Nat} {c : ClassicId} {n : PortId} {h : HubHalf} {k i len : Nat} {bs : List Byte} {s : State} (hon : clsOn s c = true)
include hon

/-! ### Requests for the hub (R223, R225) -/

theorem getHubStatus_completes :
    Completes (.getHubStatus t c) s fun u => u.out = [.hub c (.data (hubStatusBytes s c))] ∧ u.cviews = s.cviews :=
  completes_hubRequest (execGetHubStatus t c s) rfl rfl hon (by simp [hubSay_keeps _ _ _])

theorem clearHubFeature_localPower :
    Completes (.clearHubFeature t c 0) s fun u => (u.cvis.get c).changePower = false ∧ u.out = [.hub c .ack] :=
  completes_hubRequest (execClearHubFeature t c 0 s) rfl rfl hon (by simp [hubSay_keeps _ _ _, setCvi_keeps _ _ _])

theorem clearHubFeature_overCurrent :
    Completes (.clearHubFeature t c 1) s fun u => (u.cvis.get c).changeOver = false ∧ u.out = [.hub c .ack] :=
  completes_hubRequest (execClearHubFeature t c 1 s) rfl rfl hon (by simp [hubSay_keeps _ _ _, setCvi_keeps _ _ _])

theorem setHubFeature_completes : Completes (.setHubFeature t c) s fun u => u.out = [.hub c .stall] ∧ u.cvis = s.cvis :=
  completes_hubRequest (execSetHubFeature t c s) rfl rfl hon (by simp [hubSay_keeps _ _ _])

theorem setHubDepth_taken (hk : k ≤ 4) : Completes (.setHubDepth t c k) s fun u => (u.cvis.get c).depth = k ∧ u.out = [.hub c .ack] :=
  completes_hubRequest (execSetHubDepth t c k s) rfl rfl hon (by simp [hk, hubSay_keeps _ _ _, setCvi_keeps _ _ _])

theorem setHubDepth_refused (hk : 4 < k) : Completes (.setHubDepth t c k) s fun u => u.cvis = s.cvis ∧ u.out = [.hub c .stall] :=
  completes_hubRequest (execSetHubDepth t c k s) rfl rfl hon (by simp [Nat.not_le.mpr hk, hubSay_keeps _ _ _])

/-! ### Requests for any port of the hub (R223, R224) -/

theorem getPortStatus_upstream (ss : Bool) : Completes (.getPortStatus t c 0 ss) s fun u => u.out = [.hub c .stall] :=
  completes_hubRequest (execGetPortStatus t c 0 ss s) rfl rfl hon (by simp [hubPort])

theorem setPortIndicator_completes : Completes (.setPortIndicator t c n) s fun u => u.out = [.hub c .stall] ∧ u.cviews = s.cviews :=
  completes_hubRequest (execSetPortIndicator t c n s) rfl rfl hon (by simp [hubSay_keeps _ _ _])

theorem setPortLinkState_unsupported (hk : k = 1 ∨ k = 2 ∨ 6 ≤ k) :
    Completes (.setPortLinkState t c n k) s fun u => u.out = [.hub c .stall] ∧ u.nibs = s.nibs := by
  have hnone : k ≠ 0 ∧ k ≠ 3 ∧ k ≠ 4 ∧ k ≠ 5 := by omega
  exact completes_hubRequest (execSetPortLinkState t c n k s) rfl rfl hon (by simp [hnone, hubSay_keeps _ _ _])

section HubPort
variable (hn : n.val ≠ 0)
include hn

theorem getPortStatus_completes (ss : Bool) :
    Completes (.getPortStatus t c n ss) s fun u => u.out = [.hub c (.data (portStatusBytes s c n ss))] ∧ u.cviews = s.cviews :=
  completes_hubRequest (execGetPortStatus t c n ss s) rfl rfl hon (by simp [hubPort_iff.mpr hn, hubSay_keeps _ _ _])

theorem setPortLinkPmFeature_u1Timeout :
    Completes (.setPortLinkPmFeature t c n .u1Timeout k) s fun u => (u.cviews.get (viewIdx c n)).u1 = k % 256 ∧ u.out = [.hub c .ack] :=
  completes_hubRequest (execSetPortLinkPmFeature t c n .u1Timeout k s) rfl rfl hon
    (by simp [portReq_view hn, hubSay_keeps _ _ _, setView_keeps _ _ _ _])

theorem clearPortChange_usb2 (hk : k ≤ 4) : Completes (.clearPortChange t c n false k) s fun u =>
    (u.cviews.get (viewIdx c n)).change2 = put16 (s.cviews.get (viewIdx c n)).change2 k false ∧ u.out = [.hub c .ack] :=
  completes_hubRequest (execClearPortChange t c n false k s) rfl rfl hon
    (by simp [hk, portReq_view hn, hubSay_keeps _ _ _, setView_keeps _ _ _ _])

variable (hown : clsOwns s c n = false)
include hown

theorem setPortPower_other :
    Completes (.setPortPower t c n) s fun u => (u.cviews.get (viewIdx c n)).power = true ∧ u.out = [.hub c .ack] :=
  completes_hubRequest (execSetPortPower t c n s) rfl rfl hon (by simp [portReq_other hn, hown, hubSay_keeps _ _ _, setView_keeps _ _ _ _])

theorem clearPortPower_other :
    Completes (.clearPortPower t c n) s fun u => (u.cviews.get (viewIdx c n)).power = false ∧ u.nibs = s.nibs :=
  completes_hubRequest (execClearPortPower t c n s) rfl rfl hon (by simp [portReq_other hn, hown, hubSay_keeps _ _ _, setView_keeps _ _ _ _])

theorem getPortErrCount_other :
    Completes (.getPortErrCount t c n) s fun u => u.out = [.hub c (.data [0, 0])] ∧ u.freeCtr = s.freeCtr :=
  completes_hubRequest (execGetPortErrCount t c n s) rfl rfl hon (by simp [hubPort_iff.mpr hn, hown, natBytesLE, hubSay_keeps _ _ _])

end HubPort

/-! ### Requests for a port the VI owns (R223, R225, R232) -/

section OwnedPort
variable (hown : clsOwns s c n = true)
include hown

theorem setPortReset_usb2 :
    Completes (.setPortReset t c n false) s fun u => (u.cports.get n).reset2 = some (max s.now t) ∧
      bit16 (u.cviews.get (viewIdx c n)).status2 4 = true ∧ u.out.getLast? = some (.hub c .ack) :=
  completes_hubRequest (execSetPortReset t c n false s) rfl rfl hon (by simp [portReq_owned, hown, hubReset2_begins _ _ _, hubSay_keeps _ _ _])

theorem setPortReset_ss :
    Completes (.setPortReset t c n true) s fun u => (u.cports.get n).resetS = some (max s.now t, false) ∧
      bit16 (u.cviews.get (viewIdx c n)).statusS 4 = true :=
  completes_hubRequest (execSetPortReset t c n true s) rfl rfl hon (by simp [portReq_owned, hown, hubResetS_begins _ _ _ _, hubSay_keeps _ _ _])

theorem setBhPortReset_completes :
    Completes (.setBhPortReset t c n) s fun u => (u.cports.get n).resetS = some (max s.now t, true) ∧
      bit16 (u.cviews.get (viewIdx c n)).statusS 4 = true :=
  completes_hubRequest (execSetBhPortReset t c n s) rfl rfl hon (by simp [portReq_owned, hown, hubResetS_begins _ _ _ _, hubSay_keeps _ _ _])

theorem setPortSuspend_completes (hen : bit16 (s.cviews.get (viewIdx c n)).status2 1 = true) (hsusp : bit16 (s.cviews.get (viewIdx c n)).status2 2 = false) :
    Completes (.setPortSuspend t c n) s fun u => (u.nibs.get n).susp = .entering (max s.now t) ∧ u.out = [.line n .sofStop, .hub c .ack] :=
  completes_hubRequest (execSetPortSuspend t c n s) rfl rfl hon
    (by simp [portReq_owned, hown, hen, hsusp, hubSay_keeps _ _ _, emit_keeps _ _, setNib_keeps _ _ _, setView_keeps _ _ _ _])

theorem clearPortSuspend_completes (hsusp : bit16 (s.cviews.get (viewIdx c n)).status2 2 = true) :
    Completes (.clearPortSuspend t c n) s fun u => (u.nibs.get n).susp = .resumeK (max s.now t) ∧ u.out = [.line n .resumeK, .hub c .ack] :=
  completes_hubRequest (execClearPortSuspend t c n s) rfl rfl hon
    (by simp [portReq_owned, hown, hsusp, hubSay_keeps _ _ _, emit_keeps _ _, setNib_keeps _ _ _])

theorem clearPortEnable_completes :
    Completes (.clearPortEnable t c n) s fun u => u.out = [.line n .sofStop, .hub c .ack] ∧
      (u.cviews.get (viewIdx c n)).status2 = put16 (s.cviews.get (viewIdx c n)).status2 1 false :=
  completes_hubRequest (execClearPortEnable t c n s) rfl rfl hon
    (by simp [portReq_owned, hown, hubSay_keeps _ _ _, emit_keeps _ _, setView_keeps _ _ _ _])

theorem clearPortPower_owned :
    Completes (.clearPortPower t c n) s fun u => (u.cviews.get (viewIdx c n)).power = false ∧ (u.nibs.get n).phaseS = .off :=
  completes_hubRequest (execClearPortPower t c n s) rfl rfl hon (by simp [portReq_owned, hown, holdPaths_off _ _ _, hubSay_keeps _ _ _])

theorem setPortTest_completes :
    Completes (.setPortTest t c n) s fun u => (u.cports.get n).test = true ∧ u.out = [.line n .testMode, .hub c .ack] :=
  completes_hubRequest (execSetPortTest t c n s) rfl rfl hon
    (by simp [portReq_owned, hown, hubSay_keeps _ _ _, emit_keeps _ _, setCPort_keeps _ _ _, setView_keeps _ _ _ _])

theorem setPortLinkState_u3 (hup : ssUp (s.nibs.get n) = true) :
    Completes (.setPortLinkState t c n 3) s fun u => (u.nibs.get n).phaseS = .u3 ∧ u.out = [.line n .toU3, .hub c .ack] :=
  completes_hubRequest (execSetPortLinkState t c n 3 s) rfl rfl hon
    (by simp [portReq_owned, hown, hup, hubSay_keeps _ _ _, emit_keeps _ _, setNib_keeps _ _ _])

theorem getPortErrCount_owned :
    Completes (.getPortErrCount t c n) s fun u =>
      u.out = [.hub c (.data (natBytesLE 2 (Config.freeWord s.freeCtr).toNat))] ∧ u.freeCtr = s.freeCtr + 1 :=
  completes_hubRequest (execGetPortErrCount t c n s) rfl rfl hon (by simp [hubPort_of_clsOwns hown, hown, draw, hubSay_keeps _ _ _])

end OwnedPort

/-! ### TT requests (R237) -/

section TtRequest
variable (hports : ttPorts s c n = [n])
include hports

theorem clearTtBuffer_completes (a e k : Nat) (i : Bool) :
    Completes (.clearTtBuffer t c n a e k i) s fun u =>
      (u.ligs.get n).bufs = (s.ligs.get n).bufs.filter (fun b => !(b.addr == a && b.ep == e && b.type == k && b.isIn == i)) ∧ u.out = [.hub c .ack] :=
  completes_hubRequest (execClearTtBuffer t c n a e k i s) rfl rfl hon (by simp [hports, hubSay_keeps _ _ _, rcCount_keeps _ _ _, setLig_keeps _ _ _])

theorem resetTt_completes : Completes (.resetTt t c n) s fun u => u.ligs.get n = lig0 ∧ u.out = [.hub c .ack] :=
  completes_hubRequest (execResetTt t c n s) rfl rfl hon (by simp [hports, emptyLig, hubSay_keeps _ _ _, rcCount_keeps _ _ _])

theorem stopTt_completes : Completes (.stopTt t c n) s fun u => (u.ligs.get n).stopped = true ∧ u.out = [.hub c .ack] :=
  completes_hubRequest (execStopTt t c n s) rfl rfl hon (by simp [hports, hubSay_keeps _ _ _, setLig_keeps _ _ _])

end TtRequest

theorem getTtState_completes : Completes (.getTtState t c n) s fun u => u.out = [.hub c .stall] ∧ u.ligs = s.ligs :=
  completes_hubRequest (execGetTtState t c n s) rfl rfl hon (by simp [hubSay_keeps _ _ _])

/-! ### Standard requests (R219–R222, R226, R243) -/

theorem getDescriptor_returned (hh : h ≠ .func) (hload : s.blot.descriptorsReloading = false) (hd : descriptor s c h k i = some bs) :
    Completes (.getDescriptor t c h k i len) s fun u => u.out = [.hub c (.data (bs.take len))] ∧ u.cvis = s.cvis :=
  completes_event (execGetDescriptor t c h k i len s) rfl rfl (by simp [hon, hh]) (by simp [hload, hd, hubSay_keeps _ _ _])

theorem getDescriptor_refused (hh : h ≠ .func) (hd : descriptor s c h k i = none) :
    Completes (.getDescriptor t c h k i len) s fun u => u.out = [.hub c .stall] :=
  completes_event (execGetDescriptor t c h k i len s) rfl rfl (by simp [hon, hh]) (by simp [hd])

theorem setDescriptor_completes : Completes (.setDescriptor t c) s fun u => u.out = [.hub c .stall] ∧ u.cvis = s.cvis :=
  completes_hubRequest (execSetDescriptor t c s) rfl rfl hon (by simp [hubSay_keeps _ _ _])

theorem setConfiguration_ss (hk : k ≤ 1) :
    Completes (.setConfiguration t c .ss k) s fun u => (u.cvis.get c).configS = k ∧ u.out.getLast? = some (.hub c .ack) :=
  completes_event (execSetConfiguration t c .ss k s) rfl rfl (by simp [hon])
    (by simp [Nat.not_lt.mpr hk, hubSay_keeps _ _ _, clearPowers_keeps _ _])

theorem setConfiguration_refused (hh : h ≠ .func) (hk : 1 < k) :
    Completes (.setConfiguration t c h k) s fun u => u.out = [.hub c .stall] ∧ u.cvis = s.cvis ∧ u.cviews = s.cviews :=
  completes_event (execSetConfiguration t c h k s) rfl rfl (by simp [hon, hh]) (by simp [hk, hubSay_keeps _ _ _])

theorem setInterface_multiTt (hs : (s.cvis.get c).speed2 = 3) :
    Completes (.setInterface t c .usb2 1) s fun u => (u.cvis.get c).multiTt = true ∧ u.out = [.hub c .ack] :=
  completes_event (execSetInterface t c .usb2 1 s) rfl rfl (by simp [hon]) (by simp [hs, hubSay_keeps _ _ _, setCvi_keeps _ _ _])

theorem setInterface_refused (hk : 0 < k) : Completes (.setInterface t c .ss k) s fun u => u.out = [.hub c .stall] ∧ u.cvis = s.cvis :=
  completes_event (execSetInterface t c .ss k s) rfl rfl (by simp [hon]) (by simp [hk, hubSay_keeps _ _ _])

end HubRequest

/-! ### The ends of a hub port's resets (R232) -/

section ResetEnds
variable {t since : Nat} {n : PortId} {w : Bool} {s : State} (hon : s.folioOn = true)
include hon

theorem classicPortResetEnd_completes (hr : (s.cports.get n).reset2 = some since) (ht : since + ticksMs 15 ≤ max s.now t) :
    Completes (.classicPortResetEnd t n) s fun u => (u.cports.get n).reset2 = none ∧ (u.cports.get n).chirp = false :=
  completes_act (execClassicPortResetEnd t n s) rfl rfl (by simp [hr, hon, ht, when_true, ownView_keeps _ _ _, setNib_keeps _ _ _])

theorem ssPortResetTimeout_completes (hr : (s.cports.get n).resetS = some (since, w)) (ht : since + ticksMs 100 ≤ max s.now t) :
    Completes (.ssPortResetTimeout t n) s fun u => (u.cports.get n).resetS = none :=
  completes_act (execSsPortResetTimeout t n s) rfl rfl (by simp [hr, hon, ht, when_true, hubResetSDone_resetS _ _ _])

end ResetEnds

/-- Settles O34: each clause is one request's completion, proved above. The link error count of an owned port is a free value (assumption 69), and the places of
the bits of a port's status rest on assumption 70; what SET_PORT_FEATURE(PORT_POWER) shows on an owned port is in no clause. -/
theorem hubRequestsComplete : Obligations.HubRequestsComplete :=
  ⟨fun _ _ _ => getHubStatus_completes, fun _ _ _ => clearHubFeature_localPower, fun _ _ _ => clearHubFeature_overCurrent,
    fun _ _ _ => setHubFeature_completes, fun _ _ _ ss _ hon hn => getPortStatus_completes hon hn ss, fun _ _ ss _ hon => getPortStatus_upstream hon ss,
    fun _ _ _ _ => setPortReset_usb2, fun _ _ _ _ => setPortReset_ss, fun _ _ _ _ => setBhPortReset_completes,
    fun _ _ _ _ => classicPortResetEnd_completes, fun _ _ _ _ _ => ssPortResetTimeout_completes,
    fun _ _ _ _ => setPortSuspend_completes, fun _ _ _ _ => clearPortSuspend_completes, fun _ _ _ _ => clearPortEnable_completes,
    fun _ _ _ _ => setPortPower_other, fun _ _ _ _ => clearPortPower_other, fun _ _ _ _ => clearPortPower_owned,
    fun _ _ _ _ => setPortTest_completes, fun _ _ _ _ => setPortIndicator_completes, fun _ _ _ _ => setPortLinkState_u3,
    fun _ _ _ _ _ => setPortLinkState_unsupported, fun _ _ _ _ _ => setPortLinkPmFeature_u1Timeout, fun _ _ _ _ _ => clearPortChange_usb2,
    fun _ _ _ _ => getPortErrCount_other, fun _ _ _ _ => getPortErrCount_owned, fun _ _ _ _ => setHubDepth_taken, fun _ _ _ _ => setHubDepth_refused,
    fun _ _ _ a e k i _ hon hports => clearTtBuffer_completes hon hports a e k i, fun _ _ _ _ => resetTt_completes,
    fun _ _ _ _ => stopTt_completes, fun _ _ _ _ => getTtState_completes,
    fun _ _ _ _ _ _ _ _ => getDescriptor_returned, fun _ _ _ _ _ _ _ => getDescriptor_refused, fun _ _ _ => setDescriptor_completes,
    fun _ _ _ _ => setConfiguration_ss, fun _ _ _ _ _ => setConfiguration_refused, fun _ _ _ => setInterface_multiTt, fun _ _ _ _ => setInterface_refused⟩

end Sys2Proof.Safety
end

section
/-! The events of a classic upstream complete (R218, R229, R233, R241): what a reset of the upstream, its end and a change of its link do to the classic VI, then
each event's completion. -/

namespace Sys2Proof.Machine

variable {s : State}

/-! ### Resets of the upstream (R85, R226, R241) -/

/-- A classic VI that forfeits keeps everything but the moment it did. -/
theorem forfeit_classic_cvis (s : State) (c : ClassicId) :
    (forfeit s (.classic c)).cvis = vmod s.cvis c (fun x => { x with forfeitAt := some s.now }) := by
  simp [forfeit, stampP4_keeps _ _ _]

theorem upstreamReset_usb2 (s : State) (c : ClassicId) :
    (upstreamReset s c false).cvis.get c =
      { s.cvis.get c with forfeitAt := some s.now, inReset := true, config2 := 0, addr2 := 0, multiTt := false, suspended := false } := by
  simp [upstreamReset, clearPowers_keeps _ _, forfeit_classic_cvis _ _]

theorem upstreamReset_ss (s : State) (c : ClassicId) :
    (upstreamReset s c true).cvis.get c = { s.cvis.get c with forfeitAt := some s.now, inReset := true, configS := 0, addrS := 0, depth := 0 } := by
  simp [upstreamReset, clearPowers_keeps _ _, forfeit_classic_cvis _ _]

@[simp] theorem upstreamClaims_cvis (s : State) (c : ClassicId) : (upstreamClaims s c).cvis = vmod s.cvis c (fun x => { x with inReset := false }) := by
  simp [upstreamClaims, homeStamp_keeps _ _, stampP4_keeps _ _ _]

/-- Outside Suspend, and with no entry to it in progress, a wake source only notes its moment (R399). -/
theorem wakeSource_awake (hm : s.modes.mode ≠ .suspend) (hs : s.modes.suspending = false) :
    wakeSource s = { s with modes := { s.modes with wokenAt := some s.now } } := by
  simp [wakeSource, hm, hs]

end Sys2Proof.Machine

namespace Sys2Proof.Safety

open Sys2Proof.Machine

section Upstream
variable {t since : Nat} {c : ClassicId} {s : State}

/-! ### Reset and the handshake of speeds (R233, R241) -/

theorem upstreamResetRecognised_usb2 (hon : s.folioOn = true) (hx : (s.cvis.get c).exists_ = true) (hr : (s.cvis.get c).inReset = false)
    (hup : (s.cvis.get c).up = .run) :
    Completes (.upstreamResetRecognised t c false) s fun u => (u.cvis.get c).inReset = true ∧ (u.cvis.get c).up = .chirpK (max s.now t) ∧
      (u.cvis.get c).config2 = 0 ∧ (u.cvis.get c).forfeitAt = some (max s.now t) :=
  completes_eventAt (execUpstreamResetRecognised t c false s) rfl rfl (by simp [hon, hx, hr, hup])
    (by simp [emit_keeps _ _, upstreamReset_usb2 _ _])

theorem upstreamResetRecognised_ss (hon : s.folioOn = true) (hx : (s.cvis.get c).exists_ = true) (hr : (s.cvis.get c).inReset = false) :
    Completes (.upstreamResetRecognised t c true) s fun u => (u.cvis.get c).inReset = true ∧ (u.cvis.get c).configS = 0 ∧ (u.cvis.get c).depth = 0 :=
  completes_eventAt (execUpstreamResetRecognised t c true s) rfl rfl (by simp [hon, hx, hr]) (by simp [upstreamReset_ss _ _])

theorem hsIdleReversion_completes (hon : clsOn s c = true) (hup : (s.cvis.get c).up = .hs) (hs : (s.cvis.get c).suspended = false) :
    Completes (.hsIdleReversion t c) s fun u => (u.cvis.get c).up = .reverted (max s.now t) ∧ u.out = [.upLine c .pullUp] :=
  completes_event (execHsIdleReversion t c s) rfl rfl (by simp [hon, hup, hs]) (by simp [emit_keeps _ _, setCvi_keeps _ _ _])

section Handshake
variable (hon : s.folioOn = true)
include hon

theorem chirpKEnd_completes (hup : (s.cvis.get c).up = .chirpK since) (ht : since + ticksMs 2 ≤ max s.now t) :
    Completes (.chirpKEnd t c) s fun u => (u.cvis.get c).up = .watch (max s.now t) ∧ u.out = [.upLine c .fsIdle] :=
  completes_act (execChirpKEnd t c s) rfl rfl (by simp [hup, hon, ht, when_true, emit_keeps _ _, setCvi_keeps _ _ _])

theorem hostChirpSixth_completes (hup : (s.cvis.get c).up = .watch since) (ht : max s.now t ≤ since + ticksMs 2) :
    Completes (.hostChirpSixth t c) s fun u => (u.cvis.get c).up = .hs ∧ (u.cvis.get c).speed2 = 3 ∧ u.out = [.upLine c .hsTerminations] :=
  completes_act (execHostChirpSixth t c s) rfl rfl (by simp [hup, hon, ht, when_true, emit_keeps _ _, setCvi_keeps _ _ _])

theorem hostChirpTimeout_completes (hup : (s.cvis.get c).up = .watch since) (ht : since + ticksMs 2 ≤ max s.now t) :
    Completes (.hostChirpTimeout t c) s fun u => (u.cvis.get c).up = .fs ∧ (u.cvis.get c).speed2 = 2 :=
  completes_act (execHostChirpTimeout t c s) rfl rfl (by simp [hup, hon, ht, when_true])

theorem upstreamResetEnd_highSpeed (hx : (s.cvis.get c).exists_ = true) (hr : (s.cvis.get c).inReset = true) (hup : (s.cvis.get c).up = .hs) :
    Completes (.upstreamResetEnd t c false) s fun u => (u.cvis.get c).inReset = false ∧ (u.cvis.get c).speed2 = 3 :=
  completes_event (execUpstreamResetEnd t c false s) rfl rfl (by simp [hon, hx, hr]) (by simp [hup])

end Handshake

/-! ### Suspend, resume and link power management (R229) -/

theorem upstreamSuspend_completes (hon : clsOn s c = true) (hs : (s.cvis.get c).suspended = false) :
    Completes (.upstreamSuspend t c) s fun u => (u.cvis.get c).suspended = true ∧ u.own = s.own :=
  completes_event (execUpstreamSuspend t c s) rfl rfl (by simp [hon, hs]) (by simp [treeSuspend_keeps _ _, setCvi_keeps _ _ _])

theorem upstreamResume_completes (hon : clsOn s c = true) (hs : (s.cvis.get c).suspended = true) (hm : s.modes.mode ≠ .suspend)
    (hsusp : s.modes.suspending = false) : Completes (.upstreamResume t c) s fun u => (u.cvis.get c).suspended = false :=
  completes_event (execUpstreamResume t c s) rfl rfl (by simp [hon, hs])
    (by simp [treeResume_keeps _ _, wakeSource_awake, hm, hsusp, setCvi_keeps _ _ _])

/-- With no port owned there is nothing awake below the hub, and the token is acknowledged. -/
theorem upstreamLpmToken_unowned (hon : clsOn s c = true) (hs : (s.cvis.get c).suspended = false) (hown : ∀ n, clsOwns s c n = false) :
    Completes (.upstreamLpmToken t c) s fun u => u.out = [.hub c .ack] ∧ u.cvis = s.cvis :=
  completes_event (execUpstreamLpmToken t c s) rfl rfl (by simp [hon, hs]) (by simp [hown, hubSay_keeps _ _ _])

theorem upstreamSsLinkChange_completes {b : Bool} (hon : s.folioOn = true) (hx : (s.cvis.get c).exists_ = true) (hl : (s.cvis.get c).ssLink = !b) :
    Completes (.upstreamSsLinkChange t c b) s fun u => (u.cvis.get c).ssLink = b :=
  completes_event (execUpstreamSsLinkChange t c b s) rfl rfl (by simp [hon, hx, hl])
    (by simp [viewConnectBoth_keeps _ _, viewDisconnect_keeps _ _ _])

end Upstream

/-- Settles O35: each clause is one event's completion, proved above. That the VI forfeits as its reset is recognised rests on assumption 71; the token is
answered with no port owned. -/
theorem upstreamCommandsComplete : Obligations.UpstreamCommandsComplete :=
  ⟨fun _ _ _ => upstreamResetRecognised_usb2, fun _ _ _ => upstreamResetRecognised_ss, fun _ _ _ => hsIdleReversion_completes,
    fun _ _ _ _ => chirpKEnd_completes, fun _ _ _ _ => hostChirpSixth_completes, fun _ _ _ _ => hostChirpTimeout_completes,
    fun _ _ _ => upstreamResetEnd_highSpeed, fun _ _ _ => upstreamSuspend_completes, fun _ _ _ => upstreamResume_completes,
    fun _ _ _ => upstreamLpmToken_unowned, fun _ _ _ _ => upstreamSsLinkChange_completes⟩

end Sys2Proof.Safety
end

section
/-! Splits and the packets of the Scribe function complete (R235, R236, R244, R245): what a split does with the buffers of its Ligature and a request with the
function's queue, then each command's completion. -/

namespace Sys2Proof.Machine

variable {s : State} {q : FuncReq}

@[simp] theorem ligActive_begin (t : Nat) (s : State) (n : PortId) : ligActive (begin t s) n = ligActive s n := by simp [ligActive]
@[simp] theorem funcOwner_begin (t : Nat) (s : State) : funcOwner (begin t s) = funcOwner s := by simp [funcOwner]
@[simp] theorem setFunc_func (s : State) (f : Func → Func) : (setFunc s f).func = f s.func := rfl

/-! ### The Scribe function's queue (R244) -/

/-- An empty queue has nothing to answer. -/
theorem funcDrain_empty (k : Nat) (h : s.func.queue = []) : funcDrain k s = s := by
  cases k <;> simp [funcDrain, h]

/-- A request that is sound and known waits to be performed. -/
theorem funcDrain_waits {rest : List FuncReq} (k : Nat) (h : s.func.queue = q :: rest) (hok : q.ok = true) (hlo : 1 ≤ q.op) (hhi : q.op ≤ 3) :
    funcDrain k s = s := by
  cases k with
  | zero => rfl
  | succ k =>
    have hop : ¬ (q.op < 1 ∨ 3 < q.op) := by omega
    simp only [funcDrain, h, hok, not_true, if_false, hop]

end Sys2Proof.Machine

namespace Sys2Proof.Safety

open Sys2Proof.Machine

/-! ### Splits (R235, R236) -/

section Split
variable {t : Nat} {n : PortId} {sp : Split} {c : ClassicId} {b : LigBuf} {r : HubReply} {s : State} (hc : classicOwner s n = some c)
  (hon : clsOn s c = true) (hlig : ligActive s n = true) (hper : sp.periodic = false)
include hc hon hlig hper

theorem ssplitReceived_buffered (hbufs : (s.ligs.get n).bufs = []) :
    Completes (.ssplitReceived t n sp) s fun u => u.out = [.hub c .ack] ∧
      (u.ligs.get n).bufs = [{ addr := sp.addr, ep := sp.ep, type := sp.type, isIn := sp.isIn, result := none, heldAt := 0 }] :=
  completes_act (execSsplitReceived t n sp s) rfl rfl (by simp [hc, hon, hlig, when_true, hper, hbufs, hubSay_keeps _ _ _, setLig_keeps _ _ _])

theorem ssplitReceived_full (hbufs : 16 ≤ (s.ligs.get n).bufs.length) :
    Completes (.ssplitReceived t n sp) s fun u => u.out = [.hub c .nak] ∧ u.ligs = s.ligs :=
  completes_act (execSsplitReceived t n sp s) rfl rfl (by simp [hc, hon, hlig, when_true, hper, hbufs, hubSay_keeps _ _ _, rcCount_keeps _ _ _])

theorem csplitReceived_unmatched (hbufs : (s.ligs.get n).bufs = []) :
    Completes (.csplitReceived t n sp) s fun u => u.out = [.hub c .silent] ∧ u.ligs = s.ligs :=
  completes_act (execCsplitReceived t n sp s) rfl rfl (by simp [hc, hon, hlig, when_true, hper, hbufs, hubSay_keeps _ _ _])

theorem csplitReceived_fetched (hbufs : (s.ligs.get n).bufs = [b]) (ha : b.addr = sp.addr) (he : b.ep = sp.ep) (hty : b.type = sp.type)
    (hi : b.isIn = sp.isIn) (hr : b.result = some r) :
    Completes (.csplitReceived t n sp) s fun u => u.out = [.hub c r] ∧ (u.ligs.get n).bufs = [] :=
  completes_act (execCsplitReceived t n sp s) rfl rfl (by simp [hc, hon, hlig, when_true, hper, hbufs, ha, he, hty, hi, hr, hubSay_keeps _ _ _, setLig_keeps _ _ _])

end Split

section Results
variable {t f k : Nat} {n : PortId} {b : LigBuf} {e : LigPer} {s : State} (hon : s.folioOn = true) (hn : n.val ≠ 0)
include hon hn

theorem ligatureResultExpiry_completes (hbufs : (s.ligs.get n).bufs = [b]) (hr : b.result.isSome = true)
    (ht : b.heldAt + ticksMs 10 ≤ max s.now t) : Completes (.ligatureResultExpiry t n) s fun u => (u.ligs.get n).bufs = [] := by
  have hold : [b].filter (fun b => b.result.isSome && decide (b.heldAt + ticksMs 10 ≤ max s.now t)) = [b] := by simpa [hr] using ht
  refine completes_event (execLigatureResultExpiry t n s) rfl rfl (by simp [hon, hubPort_iff.mpr hn]) ?_
  simp only [begin_ligs, hbufs, begin_now, hold]
  simp [hbufs, rcCount_keeps _ _ _]

theorem periodicResultDiscard_completes (hpers : (s.ligs.get n).per = [e]) (hpast : e.y + 3 < k) :
    Completes (.periodicResultDiscard t n f k) s fun u => (u.ligs.get n).per = [] := by
  refine completes_event (execPeriodicResultDiscard t n f k s) rfl rfl (by simp [hon, hubPort_iff.mpr hn]) ?_
  simp [hpers, hpast, rcCount_keeps _ _ _]

end Results

/-! ### The Scribe function (R244, R245) -/

section Function
variable {t : Nat} {bs : List Byte} {c : ClassicId} {q : FuncReq} {s : State}

section OutPacket
variable (hc : funcOwner s = some c) (hon : clsOn s c = true) (hink : inkOn s = true) (hst : s.func.state = 3)
include hc hon hink hst

theorem funcOutPacket_halted (hhalt : s.func.outHalt = true) : Completes (.funcOutPacket t bs) s fun u => u.out = [.hub c .stall] ∧ u.func = s.func :=
  completes_act (execFuncOutPacket t bs s) rfl rfl (by simp [hc, hon, hink, hst, when_true, hhalt, hubSay_keeps _ _ _])

theorem funcOutPacket_malformed (hhalt : s.func.outHalt = false) (hlen : bs.length % 16 ≠ 0) :
    Completes (.funcOutPacket t bs) s fun u => u.out = [.hub c .stall] ∧ u.func = { s.func with outHalt := true } :=
  completes_act (execFuncOutPacket t bs s) rfl rfl (by simp [hc, hon, hink, hst, when_true, hhalt, hlen, hubSay_keeps _ _ _, setFunc_keeps _ _])

theorem funcOutPacket_queued (hhalt : s.func.outHalt = false) (hlen : bs.length = 16) (hq : s.func.queue = [])
    (heng : ∀ i : Fin 4, (s.engines.get ⟨84 + i.val, by omega⟩).restarting = false) (hok : (funcReq bs).ok = true) (hlo : 1 ≤ (funcReq bs).op)
    (hhi : (funcReq bs).op ≤ 3) : Completes (.funcOutPacket t bs) s fun u => u.out = [.hub c .ack] ∧ u.func.queue = [funcReq bs] := by
  refine completes_act (execFuncOutPacket t bs s) rfl rfl ?_
  have hwhole : bs.take 16 = bs := List.take_of_length_le (by omega)
  have hwaits : ∀ k u, u.func.queue = [funcReq bs] → funcDrain k u = u := fun k _ h => funcDrain_waits k h hok hlo hhi
  simp [hc, hon, hink, hst, when_true, hhalt, hlen, hq, heng, hwhole, hwaits, hubSay_keeps _ _ _, setFunc_keeps _ _]

end OutPacket

theorem funcEcho_completes (hq : s.func.queue = [q]) (hon : scribeRuns s = true) (hok : q.ok = true) (hop : q.op = 3) :
    Completes (.funcEcho t) s fun u => u.func.queue = [] ∧ u.func.replies = s.func.replies ++ [funcReply q 0 q.data] := by
  refine completes_act (execFuncEcho t s) rfl rfl ?_
  simp only [begin_func, hq, scribeRuns_begin, hon, hok, hop, beq_self_eq_true, Bool.and_self, when_true]
  rw [funcDrain_empty 32 (by simp [hq])]
  simp [funcPop, hq]

theorem funcClearHalt_completes (hc : funcOwner s = some c) (hon : clsOn s c = true) (b : Bool) :
    Completes (.funcClearHalt t b) s fun u => u.out = [.hub c .ack] ∧ u.func.inHalt = (if b then false else s.func.inHalt) ∧
      u.func.outHalt = (if b then s.func.outHalt else false) := by
  refine completes_act (execFuncClearHalt t b s) rfl rfl ?_
  cases b <;> simp [hc, hon, when_true, hubSay_keeps _ _ _, setFunc_keeps _ _]

end Function

/-- Settles O36: each clause is one command's completion, proved above. -/
theorem splitAndFunctionCommandsComplete : Obligations.SplitAndFunctionCommandsComplete :=
  ⟨fun _ _ _ _ _ => ssplitReceived_buffered, fun _ _ _ _ _ => ssplitReceived_full, fun _ _ _ _ _ => csplitReceived_unmatched,
    fun _ _ _ _ _ _ _ => csplitReceived_fetched, fun _ _ _ _ => ligatureResultExpiry_completes, fun _ _ _ _ _ _ => periodicResultDiscard_completes,
    fun _ _ _ _ => funcOutPacket_halted, fun _ _ _ _ => funcOutPacket_malformed, fun _ _ _ _ => funcOutPacket_queued,
    fun _ _ _ => funcEcho_completes, fun _ b _ _ hc hon => funcClearHalt_completes hc hon b⟩

end Sys2Proof.Safety
end

section
/-! Cables, swaps, resets, alerts and PD_CTRL complete (R238, R239, R278, R294, R295, R301–R305, R307): what a message of the partner, the end of the device's own
swap and the start of a hard reset do to a port's PD state, then each command's completion. -/

namespace Sys2Proof.Machine

variable {s : State} {n : PortId}

/-! ### What a port's policy reads at its moment -/

@[simp] theorem pdEn_begin (t : Nat) (s : State) (n : PortId) : pdEn (begin t s) n = pdEn s n := by simp [pdEn]
@[simp] theorem hears_begin (t : Nat) (s : State) (n : PortId) : hears (begin t s) n = hears s n := by simp [hears]
@[simp] theorem mayStart_begin (t : Nat) (s : State) (n : PortId) : mayStart (begin t s) n = mayStart s n := by simp [mayStart]
@[simp] theorem reclaimS_begin (t : Nat) (s : State) (n : PortId) : reclaimS (begin t s) n = reclaimS s n := by simp [reclaimS]
@[simp] theorem explicitContract_begin (t : Nat) (s : State) (n : PortId) : explicitContract (begin t s) n = explicitContract s n := by
  simp [explicitContract]
@[simp] theorem sendsAlert_begin (t : Nat) (s : State) (n : PortId) : sendsAlert (begin t s) n = sendsAlert s n := by simp [sendsAlert, alertEn]
@[simp] theorem serviceSlot_begin (t : Nat) (s : State) (n : PortId) : serviceSlot (begin t s) n = serviceSlot s n := by simp [serviceSlot]

/-! ### A message of the partner (R289) -/

/-- A new message on SOP is acknowledged and noted, before it is handled. -/
def takeMessage (s : State) (n : PortId) (id : Fin 8) : State :=
  setPd (emit s (.pd n .goodCrc)) n (fun d => { d with msgIdRx := some id.val, msgSeen := true, hardResets := 0, lastMsg := s.now })

theorem takeMessage_keeps (s : State) (n : PortId) (id : Fin 8) :
    (takeMessage s n id).out = s.out ++ [.pd n .goodCrc] ∧ (takeMessage s n id).cvis = s.cvis ∧
      serviceSlot (takeMessage s n id) n = serviceSlot s n := ⟨rfl, rfl, rfl⟩

@[simp] theorem takeMessage_pd (s : State) (n : PortId) (id : Fin 8) : (takeMessage s n id).pd =
    vmod s.pd n (fun d => { d with msgIdRx := some id.val, msgSeen := true, hardResets := 0, lastMsg := s.now }) := rfl

/-- Outside TRANSITION a message that is no repeat is handled. -/
theorem heard_new {id : Fin 8} {f : State → State} (h : hears s n = true) (hid : (s.pd.get n).msgIdRx ≠ some id.val) (hst : (s.pd.get n).state ≠ .transition) :
    heard s n id f = f (takeMessage s n id) := by
  simp only [heard, h, when_true, hid, if_false, hst]
  rfl

/-- A port that hears messages is in no reset, and neither disabled nor faulty. -/
theorem state_of_hears (h : hears s n = true) :
    (s.pd.get n).state ≠ .hardReset ∧ (s.pd.get n).state ≠ .errorRecovery ∧ (s.pd.get n).state ≠ .disabled ∧ (s.pd.get n).state ≠ .ccFault := by
  refine ⟨?_, ?_, ?_, ?_⟩ <;> intro hst <;> simp [hears, hst] at h

/-! ### The device's own sequences (R238, R291) -/

/-- What Rp shows says nothing of a swap. -/
theorem kickOwn_swap (s : State) (n : PortId) :
    ((kickOwn s n).pd.get n).swapOver = (s.pd.get n).swapOver ∧ ((kickOwn s n).pd.get n).swapAt = (s.pd.get n).swapAt := by
  unfold kickOwn
  dsimp only
  (repeat' split) <;> simp [presentRp]

theorem swapRefused_over (s : State) (n : PortId) (answer : Nat) :
    ((swapRefused s n answer).pd.get n).swapOver = true ∧ ((swapRefused s n answer).pd.get n).swapAt = none := by
  simp [swapRefused, kickOwn_swap _ _, record_keeps _ _ _ _ _ _ _]

/-- Where the device may start a sequence of its own, Rp already shows what its DR_Swap asks. -/
theorem swapRetryTx_of_mayStartOwn (h : mayStartOwn s 0 = true) (w : Nat) : swapRetryTx s w = s := by
  refine if_pos ?_
  simp only [mayStartOwn, Bool.and_eq_true, Bool.or_eq_true] at h
  obtain ⟨-, hfree | htx⟩ := h
  · exact .inr (by simpa using hfree)
  · refine .inl ?_
    split at htx
    · next hx => simp [hx]
    · cases htx

/-- A port that no service slot names refuses the swap by the second row (R239). -/
theorem swapRow_two_iff : swapRow s n = 2 ↔ (s.pd.get n).ufp = false ∧ serviceSlot s n = none := by
  cases hufp : (s.pd.get n).ufp with
  | true => simp [swapRow, hufp]
  | false =>
    cases hslot : serviceSlot s n with
    | none => simp [swapRow, hufp, hslot]
    | some c =>
      have hlater : 3 ≤ swapRow s n := by
        unfold swapRow
        simp only [hufp, hslot, Bool.false_eq_true, if_false]
        (repeat' split) <;> omega
      simp only [reduceCtorEq, and_false, iff_false]
      omega

/-! ### Resets (R240, R307) -/

@[simp] theorem dropRole_pd (s : State) (n : PortId) : (dropRole s n).pd = vmod s.pd n (fun d => { d with ufp := false }) := by
  simp [dropRole, endUpstream_keeps _ _]

/-- The first hard reset since a message starts with its 30 ms of VBUS, and ends the contract and EPR mode. -/
theorem startHardReset_first {received : Bool} (h : (s.pd.get n).state ≠ .hardReset ∧ (s.pd.get n).state ≠ .errorRecovery ∧ (s.pd.get n).state ≠ .disabled ∧
      (s.pd.get n).state ≠ .ccFault) (hfirst : (s.pd.get n).hardResets = 0) :
    ((startHardReset s n received).pd.get n).state = .hardReset ∧ ((startHardReset s n received).pd.get n).hrPhase = .waitOff ∧
      ((startHardReset s n received).pd.get n).hardResets = 1 ∧ ((startHardReset s n received).pd.get n).contract = .none ∧
      ((startHardReset s n received).pd.get n).eprMode = false := by
  obtain ⟨hreset, hrecover, hdisabled, hfault⟩ := h
  cases received <;>
    simp [startHardReset, hreset, hrecover, hdisabled, hfault, hfirst, presentRp, pdState, endContract, emit_keeps _ _, record_keeps _ _ _ _ _ _ _,
      rcCount_keeps _ _ _]

/-- Software's hard reset of a port in READY (R278). -/
theorem pdHardReset_ready (hsink : sinkAttached s n = true) (hen : pdEn s n = true) (hst : (s.pd.get n).state = .ready) :
    pdHardReset s n = startHardReset s n false :=
  if_pos (by simp [hsink, hen, hst])

/-- A timeout of the keep-alive or of PPS starts a hard reset (R302). -/
theorem keepAliveOut_first (h : hears s n = true) (hfirst : (s.pd.get n).hardResets = 0) :
    ((keepAliveOut s n).pd.get n).state = .hardReset ∧ ((keepAliveOut s n).pd.get n).contract = .none ∧ ((keepAliveOut s n).pd.get n).eprMode = false := by
  have hstart := startHardReset_first (s := record (rcCount s (portReg n 0x4018) 0) 0x0407 .notice n (s.own.get n).owner .c []) (n := n) (received := false)
    (by simpa [record_keeps _ _ _ _ _ _ _, rcCount_keeps _ _ _] using state_of_hears h)
    (by simpa [record_keeps _ _ _ _ _ _ _, rcCount_keeps _ _ _] using hfirst)
  obtain ⟨hst, -, -, hcontract, hepr⟩ := hstart
  exact ⟨hst, hcontract, hepr⟩

end Sys2Proof.Machine

namespace Sys2Proof.Safety

open Sys2Proof.Machine

/-- A message that is no repeat completes with what it calls for, after its GoodCRC. -/
theorem completes_heard {i : Instr} {t : Nat} {n : PortId} {id : Fin 8} {s : State} {f : State → State} {post : State → Prop}
    (meaning : Host.Outcome State Fault Refusal) (hc : exec i s = meaning) (hm : meaning = act t s fun u => heard u n id f) (hnew : hearsNew s n id)
    (h : post { settle (f (takeMessage (begin t s) n id)) with now := max s.now t, pending := s.pending }) : Completes i s post := by
  obtain ⟨hhears, hid, hst⟩ := hnew
  exact completes_act meaning hc hm (by rw [heard_new (by simpa using hhears) (by simpa using hid) (by simpa using hst)]; exact h)

section PdSequence
variable {t k : Nat} {n : PortId} {id : Fin 8} {p : Path} {vdo : Word} {s : State}

/-! ### Cables (R294, R295) -/

theorem vconnStable_completes (hon : s.folioOn = true) (hv : (s.pd.get n).vconnOn = true) (hra : (s.pd.get n).raSeen = true)
    (hd : (s.pd.get n).discoveries = 0) (ht : (s.pd.get n).vconnSince + ticksMs 50 ≤ max s.now t) :
    Completes (.vconnStable t n) s fun u => (u.pd.get n).discovering = true ∧ (u.pd.get n).discoveries = 1 ∧ u.out = [.pd n .discoverIdentityCable] :=
  completes_event (execVconnStable t n s) rfl rfl (by simpa [hon, hv, hra, hd] using ht) (by simp [discover, sendPrime, hd, emit_keeps _ _, setPd_keeps _ _ _])

theorem cableDiscoveryRetry_over (hd : (s.pd.get n).discovering = true) (hv : (s.pd.get n).vconnOn = true) (ha : (s.pd.get n).awaitP = none)
    (ht : (s.pd.get n).discAt + ticksMs 45 ≤ max s.now t) (hmax : 20 ≤ (s.pd.get n).discoveries) (hepr : (s.pd.get n).eprAt = none) :
    Completes (.cableDiscoveryRetry t n) s fun u => (u.pd.get n).discovering = false ∧ u.out = [] :=
  completes_eventAt (execCableDiscoveryRetry t n s) rfl rfl (by simpa [hd, hv, ha] using ht)
    (by simp [hmax, hepr, discoveryEnd, setPd_keeps _ _ _])

theorem cableIdentityAck_completes (hon : s.folioOn = true) (hv : (s.pd.get n).vconnOn = true) (hd : (s.pd.get n).discovering = true)
    (hid : (s.pd.get n).msgIdRxP ≠ some id.val) (hepr : (s.pd.get n).eprAt = none) (hmode : (s.pd.get n).eprMode = false) :
    Completes (.cableIdentityAck t n id vdo) s fun u => (u.pd.get n).cable = classify vdo ∧ (u.pd.get n).cableVdo = vdo ∧
      (u.pd.get n).discovering = false ∧ u.out = [.pd n .goodCrc] :=
  completes_event (execCableIdentityAck t n id vdo s) rfl rfl (by simp [hon, hv, hd])
    (by simp [hid, hepr, hmode, discoveryEnd, markCaps, emit_keeps _ _, setPd_keeps _ _ _])

/-! ### Swaps of the data role (R238, R239) -/

theorem upDrSwapSend_completes (hdue : (s.pd.get 0).swapDue = true) (htries : (s.pd.get 0).swapTries = 0) (hufp : (s.pd.get 0).ufp = false)
    (hover : (s.pd.get 0).swapOver = false) (hmay : mayStartOwn (begin t s) 0 = true) :
    Completes (.upDrSwapSend t) s fun u => u.out = [.pd 0 .drSwap] ∧ (u.pd.get 0).swapTries = 1 ∧ (u.pd.get 0).thenDo = .swap :=
  completes_event (execUpDrSwapSend t s) rfl rfl (by simp [hdue, htries, hufp, hover, hmay]) (by simp [sendMsg, emit_keeps _ _, setPd_keeps _ _ _])

theorem drSwapRetry_completes (hwait : (s.pd.get 0).swapWait = some k) (ht : k + ticksMs 100 ≤ max s.now t) (htries : (s.pd.get 0).swapTries < 10)
    (hufp : (s.pd.get 0).ufp = false) (hover : (s.pd.get 0).swapOver = false) (hmay : mayStartOwn (begin t s) 0 = true) :
    Completes (.drSwapRetry t) s fun u => u.out = [.pd 0 .drSwap] ∧ (u.pd.get 0).swapTries = (s.pd.get 0).swapTries + 1 ∧ (u.pd.get 0).swapWait = none :=
  completes_act (execDrSwapRetry t s) rfl rfl
    (by simp [hwait, ht, htries, hufp, hover, hmay, when_true, swapRetryTx_of_mayStartOwn, sendMsg, emit_keeps _ _, setPd_keeps _ _ _])

theorem drSwapAnswer_reject (hnew : hearsNew s 0 id) (hat : (s.pd.get 0).swapAt = some k) :
    Completes (.drSwapAnswer t id .reject) s fun u => (u.pd.get 0).swapOver = true ∧ (u.pd.get 0).swapAt = none ∧ u.cvis = s.cvis :=
  completes_heard (execDrSwapAnswer t id .reject s) rfl rfl hnew
    (by simp [hat, swapRefused_over _ _ _, swapRefused_keeps _ _ _, takeMessage_keeps _ _ _])

/-- A sink on a port that is no service port is refused the swap. -/
theorem drSwap_noService (hn : n.val ≠ 0) (hnew : hearsNew s n id) (hst : (s.pd.get n).state = .ready) (hrow : swapRow s n = 2) :
    Completes (.drSwap t n id) s fun u => u.out = [.pd n .goodCrc, .pd n .reject] ∧ (u.pd.get n).ufp = (s.pd.get n).ufp := by
  obtain ⟨hufp, hslot⟩ := swapRow_two_iff.mp hrow
  have hrow' : swapRow (takeMessage (begin t s) n id) n = 2 := swapRow_two_iff.mpr (by simp [hufp, hslot, takeMessage_keeps _ _ _])
  exact completes_heard (execDrSwap t n id s) rfl rfl hnew
    (by simp [hst, hn, swapOnDp, hrow', sendMsg, pdInfo_keeps _ _ _ _, emit_keeps _ _, setPd_keeps _ _ _, takeMessage_keeps _ _ _])

/-! ### A hard reset and its phases (R307) -/

section HardReset
variable (hsink : sinkAttached s n = true) (hen : pdEn s n = true) (hst : (s.pd.get n).state = .ready) (hfirst : (s.pd.get n).hardResets = 0)
include hsink hen hst hfirst

theorem hardResetReceived_completes : Completes (.hardResetReceived t n) s fun u => (u.pd.get n).state = .hardReset ∧
    (u.pd.get n).hrPhase = .waitOff ∧ (u.pd.get n).hardResets = 1 ∧ (u.pd.get n).contract = .none :=
  completes_event (execHardResetReceived t n s) rfl rfl (by simp [hsink, hen, hst]) (by simp [startHardReset_first, hst, hfirst])

theorem pdHardReset_completes (hon : s.folioOn = true) (hp : privileged s p = true) : Completes (.pdHardReset t p n) s fun u =>
    (u.pd.get n).state = .hardReset ∧ (u.pd.get n).hrPhase = .waitOff ∧ (u.pd.get n).contract = .none :=
  completes_privCmd (execPdHardReset t p n s) rfl rfl hon hp (by simp [pdHardReset_ready, hsink, hen, startHardReset_first, hst, hfirst])

end HardReset

theorem hardResetVbusOff_completes (hst : (s.pd.get n).state = .hardReset) (hphase : (s.pd.get n).hrPhase = .waitOff)
    (ht : (s.pd.get n).hrSince + ticksMs 30 ≤ max s.now t) (hsafe : (s.pd.get n).safe0 = false) :
    Completes (.hardResetVbusOff t n) s fun u => (u.pd.get n).hrPhase = .waitSafe0 ∧ (u.pd.get n).vconnOn = false ∧ (u.power.get n).gateOn = false :=
  completes_event (execHardResetVbusOff t n s) rfl rfl (by simpa [hst, hphase] using ht)
    (by simp [hsafe, busGone_keeps _ _ _, vconnOff, gateOff, setPd_keeps _ _ _, setPower_keeps _ _ _])

section Recover
variable (hst : (s.pd.get n).state = .hardReset) (hphase : (s.pd.get n).hrPhase = .recover) (ht : (s.pd.get n).hrSince + ticksMs 800 ≤ max s.now t)
include hst hphase ht

theorem srcRecoverEnd_waits (hmay : mayStart s n = false) : Completes (.srcRecoverEnd t n) s fun u =>
    (u.pd.get n).state = .powerOff ∧ (u.pd.get n).hrPhase = .idle ∧ (u.power.get n).shedOff = true := by
  have hnot : mayStart (setPd (begin t s) n (fun d => { d with hrPhase := .idle, sendings := 0 })) n = false := (mayStart_begin t s n).trans hmay
  exact completes_event (execSrcRecoverEnd t n s) rfl rfl (by simpa [hst, hphase] using ht)
    (by simp [hnot, presentRp, pdState, setPd_keeps _ _ _, setPower_keeps _ _ _])

theorem srcRecoverEnd_restores (hmay : mayStart s n = true) (hshare : 10 ≤ (s.power.get n).share) : Completes (.srcRecoverEnd t n) s fun u =>
    u.pd = (restorePath (setPd (begin t s) n (fun d => { d with hrPhase := .idle, sendings := 0 })) n).pd ∧
      u.power = (restorePath (setPd (begin t s) n (fun d => { d with hrPhase := .idle, sendings := 0 })) n).power := by
  have hmay' : mayStart (setPd (begin t s) n (fun d => { d with hrPhase := .idle, sendings := 0 })) n = true := (mayStart_begin t s n).trans hmay
  exact completes_event (execSrcRecoverEnd t n s) rfl rfl (by simpa [hst, hphase] using ht) (by simp [hmay', hshare, setPd_keeps _ _ _])

end Recover

theorem errorRecoveryEnd_completes (hst : (s.pd.get n).state = .errorRecovery) (ht : (s.pd.get n).stateSince + ticksMs 30 ≤ max s.now t) :
    Completes (.errorRecoveryEnd t n) s fun u =>
      u.pd = (recomputeShares (toUnattached (begin t s) n)).pd ∧ u.power = (recomputeShares (toUnattached (begin t s) n)).power :=
  completes_event (execErrorRecoveryEnd t n s) rfl rfl (by simpa [hst] using ht) (by simp)

/-! ### Keep-alive and PPS (R302) -/

section KeepAlive
variable (hh : hears s n = true) (hfirst : (s.pd.get n).hardResets = 0)
include hh hfirst

theorem eprKeepaliveTimeout_completes (hepr : (s.pd.get n).eprMode = true) (ht : (s.pd.get n).lastMsg + ticksMs 900 ≤ max s.now t) :
    Completes (.eprKeepaliveTimeout t n) s fun u => (u.pd.get n).state = .hardReset ∧ (u.pd.get n).eprMode = false :=
  completes_event (execEprKeepaliveTimeout t n s) rfl rfl (by simpa [hh, hepr] using ht) (by simp [keepAliveOut_first, hh, hfirst])

theorem ppsTimeout_completes (hkind : (s.pd.get n).contract.kind = 2) (ht : (s.pd.get n).lastRequest + ticksMs 13500 ≤ max s.now t) :
    Completes (.ppsTimeout t n) s fun u => (u.pd.get n).state = .hardReset ∧ (u.pd.get n).contract = .none :=
  completes_event (execPpsTimeout t n s) rfl rfl (by simpa [hh, hkind] using ht) (by simp [keepAliveOut_first, hh, hfirst])

end KeepAlive

/-! ### Alerts and reclaim (R304, R305) -/

theorem alertSend_completes (ha : (s.pd.get n).alert = .waiting) (hsend : sendsAlert s n = true) (hmay : mayStartOwn (begin t s) n = true) :
    Completes (.alertSend t n) s fun u => u.out = [.pd n (.alert 0x20000000)] ∧ (u.pd.get n).alert = .sent ∧ (u.pd.get n).thenDo = .alert :=
  completes_event (execAlertSend t n s) rfl rfl (by simp [ha, hsend, hmay]) (by simp [ha, sendMsg, emit_keeps _ _, setPd_keeps _ _ _])

theorem reclaimTimer_completes (hlow : (s.pd.get n).lowSince = some k) (hs : 0 < reclaimS s n) (hcontract : explicitContract s n = true)
    (hnot : (s.pd.get n).reclaim = false) (ht : k + ticksS (reclaimS s n) ≤ max s.now t) : Completes (.reclaimTimer t n) s fun u =>
      u.pd = (markShare (recomputeShares (setPd (begin t s) n (fun d => { d with reclaim := true, highSince := none }))) n).pd ∧
        u.power = (recomputeShares (setPd (begin t s) n (fun d => { d with reclaim := true, highSince := none }))).power :=
  completes_act (execReclaimTimer t n s) rfl rfl (by simp [hlow, hs, hcontract, hnot, ht, when_true, markShare_keeps _ _])

theorem reclaimRestore_completes (hhigh : (s.pd.get n).highSince = some k) (hr : (s.pd.get n).reclaim = true) (ht : k + ticksS 1 ≤ max s.now t) :
    Completes (.reclaimRestore t n) s fun u => u.pd = (unreclaim (begin t s) n).pd ∧ u.power = (unreclaim (begin t s) n).power :=
  completes_act (execReclaimRestore t n s) rfl rfl (by simp [hhigh, hr, ht, when_true])

/-! ### PD_CTRL (R278) -/

section Control
variable (hon : s.folioOn = true) (hp : privileged s p = true)
include hon hp

theorem pdSendCaps_completes :
    Completes (.pdSendCaps t p n) s fun u => (u.pd.get n).capsPending = true ∧ (u.pd.get n).capsForced = true ∧ u.power = s.power :=
  completes_privCmd (execPdSendCaps t p n s) rfl rfl hon hp (by simp [pdSendCaps, markCaps, setPd_keeps _ _ _])

theorem pdErrorRecovery_completes (hd : (s.pd.get n).state ≠ .disabled) (hf : (s.pd.get n).state ≠ .ccFault) :
    Completes (.pdErrorRecovery t p n) s fun u =>
      u.pd = (recomputeShares (errorRecovery (begin t s) n)).pd ∧ u.power = (recomputeShares (errorRecovery (begin t s) n)).power :=
  completes_privCmd (execPdErrorRecovery t p n s) rfl rfl hon hp (by simp [pdErrorRecovery, hd, hf])

end Control
end PdSequence

/-- Settles O40: each clause is one command's completion, proved above. A swap on UP is answered by the rows of R238 (assumption 98), a port that may not start
waits for its restoration (assumption 99), and the fields of messages and objects rest on assumption 91; of the partner's swaps the Reject stands in a clause. -/
theorem pdSequencesComplete : Obligations.PdSequencesComplete :=
  ⟨fun _ _ _ => vconnStable_completes, fun _ _ _ => cableDiscoveryRetry_over, fun _ _ _ _ _ => cableIdentityAck_completes,
    fun _ _ => upDrSwapSend_completes, fun _ _ _ => drSwapRetry_completes, fun _ _ _ _ => drSwapAnswer_reject, fun _ _ _ _ => drSwap_noService,
    fun _ _ _ => hardResetReceived_completes, fun _ _ _ => hardResetVbusOff_completes, fun _ _ _ => srcRecoverEnd_waits,
    fun _ _ _ => srcRecoverEnd_restores, fun _ _ _ => errorRecoveryEnd_completes,
    fun _ _ _ hh hepr ht hfirst => eprKeepaliveTimeout_completes hh hfirst hepr ht, fun _ _ _ hh hkind ht hfirst => ppsTimeout_completes hh hfirst hkind ht,
    fun _ _ _ => alertSend_completes, fun _ _ _ _ => reclaimTimer_completes, fun _ _ _ _ => reclaimRestore_completes, fun _ _ _ _ => pdSendCaps_completes,
    fun _ _ _ _ hon hp hsink hen hst hfirst => pdHardReset_completes hsink hen hst hfirst hon hp, fun _ _ _ _ => pdErrorRecovery_completes⟩

end Sys2Proof.Safety
end

section
/-! The notice queues of Margin (R261, R264, R268, R269): a queue after a change to it, the words in use in it, and the head of the board queue; then what becomes of
the queues when a notice is dropped, and at a reset. -/

namespace Sys2Proof.Machine

/-! ### A queue after a change to one (R261) -/

theorem setQueue_get (s : State) (q j : Fin 65) (f : NoticeQueue → NoticeQueue) :
    (setQueue s q f).margin.queues.get j = if j = q then f (s.margin.queues.get q) else s.margin.queues.get j := vmod_get _ _ _ _

@[simp] theorem setQueue_get_self (s : State) (q : Fin 65) (f : NoticeQueue → NoticeQueue) :
    (setQueue s q f).margin.queues.get q = f (s.margin.queues.get q) := vmod_get_self _ _ _

@[simp] theorem setQueue_opened (s : State) (q : Fin 65) (f : NoticeQueue → NoticeQueue) : (setQueue s q f).margin.opened = s.margin.opened := rfl
@[simp] theorem setQueue_wordIndex (s : State) (q : Fin 65) (f : NoticeQueue → NoticeQueue) : (setQueue s q f).margin.wordIndex = s.margin.wordIndex := rfl

/-! ### The words in use (R261, R269) -/

/-- The words of the open notice that have not been popped; it stands in the board queue alone. -/
def openWords (m : Margin) (q : Fin 65) : Nat :=
  if q = boardQueue then match m.opened with
    | some n => n.words - m.wordIndex
    | none => 0
  else 0

/-- The words in use in a queue are those of its open notice and those of its waiting ones. -/
theorem queueWords_eq (s : State) (q : Fin 65) :
    queueWords s q = openWords s.margin q + ((s.margin.queues.get q).notices.map Notice.words).sum := by
  by_cases hq : q = boardQueue
  · subst hq
    rfl
  · have hv : q.val ≠ 64 := fun hv => hq (Fin.ext hv)
    simp [queueWords, openWords, hq, hv]

theorem sum_words_le_of_sublist {l l' : List Notice} (h : l.Sublist l') : (l.map Notice.words).sum ≤ (l'.map Notice.words).sum := by
  induction h with
  | slnil => exact Nat.le_refl _
  | cons n _ ih =>
    rw [List.map_cons, List.sum_cons]
    exact Nat.le_trans ih (Nat.le_add_left _ _)
  | cons_cons n _ ih =>
    rw [List.map_cons, List.map_cons, List.sum_cons, List.sum_cons]
    exact Nat.add_le_add_left ih _

/-- A queue whose waiting notices are among those of before has no more words in use. -/
theorem queueWords_le_of_sublist {s t : State} {q : Fin 65} (hopen : openWords t.margin q ≤ openWords s.margin q)
    (hsub : (t.margin.queues.get q).notices.Sublist (s.margin.queues.get q).notices) : queueWords t q ≤ queueWords s q := by
  rw [queueWords_eq, queueWords_eq]
  exact Nat.add_le_add hopen (sum_words_le_of_sublist hsub)

theorem openWords_closed_le {m m' : Margin} (h : m'.opened = none := by rfl) (q : Fin 65) : openWords m' q ≤ openWords m q := by
  simp [openWords, h]

theorem openWords_popped_le {m m' : Margin} {n : Notice} (ho : m.opened = some n) (ho' : m'.opened = some n) (hi : m.wordIndex ≤ m'.wordIndex) (q : Fin 65) :
    openWords m' q ≤ openWords m q := by
  simp only [openWords, ho, ho']
  split
  · exact Nat.sub_le_sub_left hi _
  · exact Nat.le_refl _

theorem queueWords_append (s : State) (q : Fin 65) (n : Notice) :
    queueWords (setQueue s q fun x => { x with notices := x.notices ++ [n] }) q = queueWords s q + n.words := by
  simp [queueWords_eq, openWords, Nat.add_assoc]

/-! ### The head notice (R268) -/

/-- The better of the best notice so far and a later one: the later only where its priority is higher. -/
def higher (best : Option Notice) (n : Notice) : Option Notice :=
  match best with
  | none => some n
  | some b => if b.prio.code < n.prio.code then some n else some b

theorem topNotice_eq (l : List Notice) : topNotice l = l.foldl higher none := rfl

theorem higher_eq_some {best : Option Notice} {n b : Notice} (h : higher best n = some b) : best = some b ∨ b = n := by
  cases best with
  | none => exact .inr (Option.some.inj h).symm
  | some a =>
    by_cases hlt : a.prio.code < n.prio.code
    · exact .inr (Option.some.inj ((if_pos hlt).symm.trans h)).symm
    · exact .inl ((if_neg hlt).symm.trans h)

theorem foldl_higher_mem {l : List Notice} {best : Option Notice} {b : Notice} (h : l.foldl higher best = some b) : best = some b ∨ b ∈ l := by
  induction l generalizing best with
  | nil => exact .inl h
  | cons n l ih =>
    rcases ih h with hn | hl
    · rcases higher_eq_some hn with hbest | rfl
      · exact .inl hbest
      · exact .inr List.mem_cons_self
    · exact .inr (List.mem_cons_of_mem _ hl)

theorem topNotice_mem {l : List Notice} {n : Notice} (h : topNotice l = some n) : n ∈ l := (foldl_higher_mem h).resolve_left (by simp)

/-- No notice of the best one's priority or a lower one replaces it. -/
theorem foldl_higher_of_le {l : List Notice} {b : Notice} (h : ∀ m ∈ l, m.prio.code ≤ b.prio.code) : l.foldl higher (some b) = some b := by
  induction l with
  | nil => rfl
  | cons m l ih =>
    have hm : higher (some b) m = some b := if_neg (Nat.not_lt.mpr (h m List.mem_cons_self))
    rw [List.foldl_cons, hm]
    exact ih fun x hx => h x (List.mem_cons_of_mem _ hx)

/-- The oldest notice of the highest priority is the top one. -/
theorem topNotice_append_cons {older newer : List Notice} {n : Notice} (ho : ∀ m ∈ older, m.prio.code < n.prio.code)
    (hn : ∀ m ∈ newer, m.prio.code ≤ n.prio.code) : topNotice (older ++ n :: newer) = some n := by
  have hbest : higher (topNotice older) n = some n := by
    cases h : topNotice older with
    | none => rfl
    | some b => exact if_pos (ho b (topNotice_mem h))
  rw [topNotice_eq, List.foldl_append, List.foldl_cons, ← topNotice_eq, hbest, foldl_higher_of_le hn]

theorem boardHead_of_opened {s : State} {n : Notice} (h : s.margin.opened = some n) : boardHead s = some (n, s.margin.wordIndex) := by
  simp only [boardHead, h]

theorem boardHead_of_closed {s : State} (h : s.margin.opened = none) :
    boardHead s = (topNotice (s.margin.queues.get boardQueue).notices).map fun n => (n, 0) := by
  simp only [boardHead, h]
  rfl

theorem openHead_of_opened {s : State} {n : Notice} (h : s.margin.opened = some n) : openHead s = s := by
  simp only [openHead, h]

theorem openHead_of_empty {s : State} (h : s.margin.opened = none) (ht : topNotice (s.margin.queues.get boardQueue).notices = none) : openHead s = s := by
  have ht' : topNotice (s.margin.queues.get 64).notices = none := ht
  simp only [openHead, h, ht']

/-- The top notice leaves the queue as it is opened. -/
theorem openHead_of_top {s : State} {n : Notice} (h : s.margin.opened = none) (ht : topNotice (s.margin.queues.get boardQueue).notices = some n) :
    openHead s = { s with margin := { s.margin with
      queues := vmod s.margin.queues boardQueue fun x => { x with notices := x.notices.erase n }, opened := some n, wordIndex := 0 } } := by
  have ht' : topNotice (s.margin.queues.get 64).notices = some n := ht
  simp only [openHead, h, ht']
  rfl

/-- Opening the head notice keeps the words in use: they pass from the waiting notices to the open one (R269). -/
theorem queueWords_openHead {s : State} (q : Fin 65) : queueWords (openHead s) q = queueWords s q := by
  cases ho : s.margin.opened with
  | some n => rw [openHead_of_opened ho]
  | none =>
    cases ht : topNotice (s.margin.queues.get boardQueue).notices with
    | none => rw [openHead_of_empty ho ht]
    | some n =>
      rw [openHead_of_top ho ht, queueWords_eq, queueWords_eq, vmod_get]
      by_cases hq : q = boardQueue
      · have hperm := ((List.perm_cons_erase (topNotice_mem ht)).map Notice.words).sum_nat
        simp [openWords, ho, hq, hperm]
      · simp [openWords, hq]

/-! ### What is left after a notice is dropped, and after a reset (R275, R394) -/

theorem dropAt_sublist {α : Type} (xs : List α) (i : Nat) : (dropAt xs i).Sublist xs := by
  rw [dropAt, ← List.eraseIdx_eq_take_drop_succ]
  exact List.eraseIdx_sublist xs i

/-- A cold reset starts Margin anew; a warm one keeps the board queue and empties the others. -/
theorem folioReset_margin (s : State) (warm : Bool) : (folioReset s warm).margin =
    if warm then { s.margin with queues := Vector.ofFn fun q => if q.val = 64 then s.margin.queues.get 64 else { notices := [], lostSinceHb := 0 } }
    else margin0 := by
  simp [folioReset, heatCause_keeps _]

theorem ofFn_get {α : Type} {n : Nat} (f : Fin n → α) (i : Fin n) : (Vector.ofFn f).get i = f i := Vector.getElem_ofFn i.isLt

theorem openWords_folioReset_le (s : State) (warm : Bool) (q : Fin 65) : openWords (folioReset s warm).margin q ≤ openWords s.margin q := by
  cases warm with
  | false =>
    have hclosed : (folioReset s false).margin.opened = none := by simp [folioReset_margin, margin0]
    exact openWords_closed_le hclosed q
  | true => simp [folioReset_margin, openWords]

theorem folioReset_notices_sublist (s : State) (warm : Bool) (q : Fin 65) :
    ((folioReset s warm).margin.queues.get q).notices.Sublist (s.margin.queues.get q).notices := by
  rw [folioReset_margin]
  cases warm with
  | false =>
    have hempty : (margin0.queues.get q).notices = [] := by simp [margin0, Vector.get]
    exact hempty ▸ List.nil_sublist _
  | true =>
    rw [if_pos rfl, ofFn_get]
    split
    case isTrue hq =>
      obtain rfl : q = 64 := Fin.ext hq
      exact .refl _
    case isFalse => exact List.nil_sublist _

end Sys2Proof.Machine
end

section
/-! Every step keeps the notice queues within their words (R261).

One lemma for each operation of the model, `Fits.op`, in the order of the model's files: from queues within their words it leads to such queues; `EffectFits.execX`
says it of a command's effect. Where Laws/ says that an operation leaves Margin as it was, that is the proof (`h.frame`); otherwise a proof follows the definition
it is about. `h.f.g` says that the state passes through `f` and then `g`; `.ite a b` and `split` are its choices; `h.same` is a change of other fields of the state;
a loop takes the lemma about its body. Notices enter by `Fits.enterLoop` alone, and leave by `Fits.setQueue`. -/

namespace Sys2Proof.Machine

/-- No notice queue holds more words than it has (R261). -/
structure Fits (s : State) : Prop where
  within : ∀ q, queueWords s q ≤ queueSize q

/-- A command is an effect at its moment, and the effect keeps the notice queues within their words. -/
def EffectFits (s : State) (o : Host.Outcome State Fault Refusal) : Prop := ∃ t f, o = act t s f ∧ ∀ u, Fits u → Fits (f u)

variable {s : State}

/-! ### How queues stay within their words through the forms a definition takes -/

/-- What neither adds to a queue nor to the words of the open notice leaves every queue within its words. -/
theorem Fits.shrink {s t : State} (h : Fits s) (ho : ∀ q, openWords t.margin q ≤ openWords s.margin q)
    (hq : ∀ q, (t.margin.queues.get q).notices.Sublist (s.margin.queues.get q).notices) : Fits t :=
  ⟨fun q => Nat.le_trans (queueWords_le_of_sublist (ho q) (hq q)) (h.within q)⟩

theorem Fits.frame {s t : State} (h : Fits s) (hm : t.margin = s.margin) : Fits t := h.shrink (fun _ => hm ▸ Nat.le_refl _) fun _ => hm ▸ .refl _

/-- Closing the open notice, popping a word of it or moving the interrupt's bits: the waiting notices stay. -/
theorem Fits.sameQueues {s t : State} (h : Fits s) (hq : t.margin.queues = s.margin.queues) (ho : ∀ q, openWords t.margin q ≤ openWords s.margin q) : Fits t :=
  h.shrink ho fun _ => hq ▸ .refl _

/-- A state with the Margin of one whose queues are within their words, whatever else it holds. -/
theorem Fits.same
    {now pending out freeCtr limits folioOn strokeBase resyncAt regs rcSpi rcPf pairs writes staged rubric trustBySpi trustConfigured link localEvents localLost
     pal disc clusters engines regionTemp lanes modes img nor blot sealUnit input vauxOk power pd ptp own vis devices eps nibs qps eth prp pcie timelines ink
     cvis cviews cports ligs func pins} (h : Fits s) :
    Fits (.mk now pending out freeCtr limits folioOn strokeBase resyncAt regs rcSpi rcPf pairs writes staged rubric trustBySpi trustConfigured link
      localEvents localLost pal s.margin disc clusters engines regionTemp lanes modes img nor blot sealUnit input vauxOk power pd ptp own vis devices eps nibs
      qps eth prp pcie timelines ink cvis cviews cports ligs func pins) := h.frame rfl

theorem Fits.ite {c : Prop} [Decidable c] {a b : State} (ha : Fits a) (hb : Fits b) : Fits (if c then a else b) := by
  split
  · exact ha
  · exact hb

theorem Fits.dite {c : Prop} [Decidable c] {a : c → State} {b : ¬c → State} (ha : ∀ x, Fits (a x)) (hb : ∀ x, Fits (b x)) :
    Fits (if x : c then a x else b x) := by
  split
  · exact ha _
  · exact hb _

theorem Fits.iteFst {γ : Type} {c : Prop} [Decidable c] {a b : State × γ} (ha : Fits a.1) (hb : Fits b.1) : Fits (if c then a else b).1 := by
  split
  · exact ha
  · exact hb

/-- What follows from an intermediate state: the use first, which names the state, then the state itself. -/
theorem Fits.via {a b : State} (hb : Fits a → Fits b) (ha : Fits a) : Fits b := hb ha

theorem Fits.foldl {β : Type} {g : State → β → State} {l : List β} (h : Fits s) (hg : ∀ {u x}, Fits u → Fits (g u x)) : Fits (l.foldl g s) := by
  induction l generalizing s with
  | nil => exact h
  | cons x l ih => exact ih (hg h)

theorem Fits.foldlFst {β γ : Type} {g : State × γ → β → State × γ} {l : List β} {k : γ} (h : Fits s)
    (hg : ∀ {u x}, Fits u.1 → Fits (g u x).1) : Fits (l.foldl g (s, k)).1 :=
  List.foldlRecOn (motive := fun r => Fits r.1) l g h fun _ hr _ _ => hg hr

/-! ### Operations and commands of Machine/Regs.lean -/

theorem Fits.setReg {a v} (h : Fits s) : Fits (setReg s a v) := h.frame rfl
theorem Fits.rcAdd {a v} (h : Fits s) : Fits (rcAdd s a v) := h.frame rfl
theorem Fits.rcCount {a lo} (h : Fits s) : Fits (rcCount s a lo) := h.frame rfl
theorem Fits.rcClear {p a} (h : Fits s) : Fits (rcClear s p a) := h.frame (by simp [rcClear_keeps _ _ _])

/-! ### Operations and commands of Machine/Ops.lean -/

theorem Fits.draw (h : Fits s) : Fits (draw s).2 := h.frame rfl
theorem Fits.drawMany {k} (h : Fits s) : Fits (drawMany k s).2 := h.frame (by simp [drawMany_keeps _ _])
theorem Fits.emit {o} (h : Fits s) : Fits (emit s o) := h.frame rfl
theorem Fits.limitMark {key} (h : Fits s) : Fits (limitMark s key) := h.frame rfl
theorem Fits.begin {t} (h : Fits s) : Fits (begin t s) := h.frame (by simp)
theorem Fits.settleIrq (h : Fits s) : Fits (settleIrq s) :=
  .ite h (.ite (h.sameQueues rfl fun _ => Nat.le_refl _) (.ite (h.sameQueues rfl fun _ => Nat.le_refl _) h))

theorem Fits.settle (h : Fits s) : Fits (settle s) := h.settleIrq.same
/-- What the effect of a command keeps, the command keeps. -/
theorem EffectFits.next {o} (ho : EffectFits s o) (h : Fits s) : ∃ u, o = .next u ∧ Fits u := by
  obtain ⟨t, f, rfl, hf⟩ := ho
  exact ⟨_, rfl, (hf _ h.begin).settle.same⟩

theorem EffectFits.act {t f} (hf : ∀ {u}, Fits u → Fits (f u)) : EffectFits s (act t s f) := ⟨t, f, rfl, fun _ => hf⟩

theorem Fits.when {g f} (h : Fits s) (hf : Fits s → Fits (f s)) : Fits (when g s f) := .ite (hf h) h
theorem Fits.eachPort {f} (h : Fits s) (hf : ∀ {u x}, Fits u → Fits (f u x)) : Fits (eachPort s f) := h.foldl hf
theorem Fits.eachRing {f} (h : Fits s) (hf : ∀ {u x}, Fits u → Fits (f u x)) : Fits (eachRing s f) := h.foldl hf
theorem Fits.setApplied {a v} (h : Fits s) : Fits (setApplied s a v) := h.frame (by simp [setApplied_keeps _ _ _])

/-! ### Operations and commands of Machine/Recorder.lean -/

theorem Fits.pushRecord {r} (h : Fits s) : Fits (pushRecord s r) := h.frame (by simp [pushRecord_keeps _ _])
theorem Fits.marker {code sev ps} (h : Fits s) : Fits (marker s code sev ps) := h.frame (by simp [marker_keeps _ _ _ _])
theorem Fits.recordAt {place code sev n subject set ps} (h : Fits s) : Fits (recordAt s place code sev n subject set ps) :=
  h.frame (by simp [recordAt_keeps _ _ _ _ _ _ _ _])

theorem Fits.record {code sev n subject set ps} (h : Fits s) : Fits (record s code sev n subject set ps) := h.frame (by simp [record_keeps _ _ _ _ _ _ _])
theorem Fits.recordRes {place code sev n set ps} (h : Fits s) : Fits (recordRes s place code sev n set ps) := h.frame (by simp [recordRes_keeps _ _ _ _ _ _ _])
theorem Fits.recordLimited {key f} (h : Fits s) (hf : ∀ {u}, Fits u → Fits (f u)) : Fits (recordLimited s key f) :=
  .ite (hf h.limitMark) h

/-! ### Operations and commands of Machine/Notices.lean -/

/-- A queue changed to one within its words. -/
theorem Fits.putQueue {q f} (h : Fits s) (hq : queueWords (setQueue s q f) q ≤ queueSize q) : Fits (setQueue s q f) := ⟨fun j => by
  by_cases hj : j = q
  · exact hj ▸ hq
  · rw [queueWords_eq, setQueue_get, if_neg hj]
    exact queueWords_eq s j ▸ h.within j⟩

/-- Notices leave a queue, or only its count of lost ones moves. -/
theorem Fits.setQueue {q f} (h : Fits s) (hf : (f (s.margin.queues.get q)).notices.Sublist (s.margin.queues.get q).notices) : Fits (setQueue s q f) :=
  have hsub : ((Machine.setQueue s q f).margin.queues.get q).notices.Sublist (s.margin.queues.get q).notices := by rwa [setQueue_get_self]
  h.putQueue (Nat.le_trans (queueWords_le_of_sublist (s := s) (t := Machine.setQueue s q f) (Nat.le_refl _) hsub) (h.within q))

theorem Fits.lostNotice {q p} (h : Fits s) : Fits (lostNotice s q p) := (h.setQueue (.refl _)).rcCount.recordLimited .record

/-- A notice enters only where its words fit, and what is displaced for it leaves (R267). -/
theorem Fits.enterLoop {q n} : ∀ {k s}, Fits s → Fits (enterLoop k s q n).1
  | 0, _, h => h
  | k + 1, s, h => by
    unfold Machine.enterLoop
    split
    case isTrue hfit => exact h.putQueue (queueWords_append s q n ▸ hfit)
    case isFalse =>
      split
      · exact h.lostNotice
      · exact .iteFst h.lostNotice (h.setQueue List.erase_sublist).lostNotice.enterLoop

theorem Fits.enterQueue {q n} (h : Fits s) : Fits (enterQueue s q n).1 := by
  unfold Machine.enterQueue
  split
  · exact .iteFst h.enterLoop h
  · exact .iteFst (h.enterLoop.sameQueues rfl fun _ => Nat.le_refl _) h.enterLoop

theorem Fits.notice {type prio n subject body dest} (h : Fits s) : Fits (notice s type prio n subject body dest) :=
  .ite h (h.foldl .enterQueue)

theorem Fits.powerNotice {n event} (h : Fits s) : Fits (powerNotice s n event) := h.notice
theorem Fits.detachNotice {n reason path ended} (h : Fits s) : Fits (detachNotice s n reason path ended) := h.notice
theorem Fits.portStateNotice {n event link speed} (h : Fits s) : Fits (portStateNotice s n event link speed) := h.notice
theorem Fits.heartbeatInto {q} (h : Fits s) : Fits (heartbeatInto s q) :=
  have hentered := (h.setQueue (q := q) (f := fun x => { x with notices := x.notices.filter fun n => n.type != 0x01 }) List.filter_sublist).enterQueue
  .ite (hentered.setQueue (.refl _)) (hentered.setQueue (.refl _))

/-! ### Operations and commands of Machine/Store.lean -/

theorem Fits.setRing {r xs} (h : Fits s) : Fits (setRing s r xs) := h.frame (by simp [setRing_keeps _ _ _])
theorem Fits.norFailure {r i op} (h : Fits s) : Fits (norFailure s r i op) := h.frame (by simp [norFailure_keeps _ _ _ _])
theorem Fits.programRecord {r steps} (h : Fits s) : Fits (programRecord s r steps) := h.frame (by simp [programRecord_keeps _ _ _])
theorem Fits.persistEverything (h : Fits s) : Fits (persistEverything s) := h.frame (by simp [persistEverything_keeps _])
theorem Fits.closeSummaries {qs} (h : Fits s) : Fits (closeSummaries s qs) := h.frame (by simp [closeSummaries_keeps _ _])
theorem Fits.bootScan (h : Fits s) : Fits (bootScan s) := .same (h.same.marker.foldl .pushRecord)

/-! ### Operations and commands of Machine/Access.lean -/

theorem Fits.accessRecord {code p a more} (h : Fits s) : Fits (accessRecord s code p a more) := h.frame (by simp [accessRecord_keeps _ _ _ _ _])
theorem Fits.privDenied {p a} (h : Fits s) : Fits (privDenied s p a) := h.frame (by simp [privDenied_keeps _ _ _])
theorem Fits.writeIgnored {p a v} (h : Fits s) : Fits (writeIgnored s p a v) := h.frame (by simp [writeIgnored_keeps _ _ _ _])
theorem Fits.accessFault {p bit} (h : Fits s) : Fits (accessFault s p bit) := h.frame (by simp [accessFault_keeps _ _ _])
theorem Fits.accessTimeout {p a} (h : Fits s) : Fits (accessTimeout s p a) := h.frame (by simp [accessTimeout_keeps _ _ _])
/-- A command through a PRIV register: its effect or the denial of R44. -/
theorem EffectFits.privCmd {t p a f} (hf : ∀ {u}, Fits u → Fits (f u)) : EffectFits s (privCmd t p a s f) :=
  .act fun h => h.when fun h => .ite (hf h) h.privDenied

/-! ### Operations and commands of Machine/PalimpsestCmds.lean -/

theorem EffectFits.execRecordCommit {t result} : EffectFits s (execRecordCommit t result s) := .act fun h => by
  split
  · exact h.same
  · refine h.when fun h => ?_
    split
    · exact h.programRecord
    · exact h.programRecord
    · dsimp only
      split
      · exact h.setRing.norFailure
      · exact h.same

theorem EffectFits.execSectorRecycle {t ring ok} : EffectFits s (execSectorRecycle t ring ok s) := .act fun h => h.when fun h => by
  split
  · exact h
  · refine .via (fun h => .ite h.setRing.same h.setRing.norFailure) ?_
    split
    · exact .ite h.marker.programRecord h.marker
    · exact h.marker

theorem EffectFits.execBucketRefill {t code port} : EffectFits s (execBucketRefill t code port s) := .act fun h => by
  split
  · exact h
  · exact h.when fun h => .ite h.same (.ite h.same h.same.pushRecord)

theorem EffectFits.execSummaryPeriodClose {t} : EffectFits s (execSummaryPeriodClose t s) :=
  .act fun h => h.when fun h => .same (.closeSummaries (.ite h.marker.same h))

theorem Fits.palFreeze {p} (h : Fits s) : Fits (palFreeze s p) := h.same.marker
theorem EffectFits.execPalFreeze {t path} : EffectFits s (execPalFreeze t path s) := .privCmd .palFreeze
theorem Fits.palUnfreeze {p} (h : Fits s) : Fits (palUnfreeze s p) := h.same.marker
theorem EffectFits.execPalUnfreeze {t path} : EffectFits s (execPalUnfreeze t path s) := .privCmd .palUnfreeze
theorem Fits.palVerify (h : Fits s) : Fits (palVerify s) := h.frame rfl
theorem EffectFits.execPalVerify {t path} : EffectFits s (execPalVerify t path s) := .privCmd .palVerify
theorem EffectFits.execPalVerifyDone {t} : EffectFits s (execPalVerifyDone t s) := .act fun h => h.when .same
theorem Fits.startLoad (h : Fits s) : Fits (startLoad s) := h.frame rfl
theorem EffectFits.execPalLoad {t path} : EffectFits s (execPalLoad t path s) := .privCmd .startLoad
theorem Fits.palNext (h : Fits s) : Fits (palNext s) := h.frame (by simp [palNext_keeps _])
theorem Fits.palPrev (h : Fits s) : Fits (palPrev s) := h.frame (by simp [palPrev_keeps _])
theorem EffectFits.execPalNext {t path} : EffectFits s (execPalNext t path s) := .privCmd .palNext
theorem EffectFits.execPalPrev {t path} : EffectFits s (execPalPrev t path s) := .privCmd .palPrev
theorem EffectFits.execRecordLoadReady {t} : EffectFits s (execRecordLoadReady t s) := .act fun h => h.when fun h => by
  dsimp only
  split
  · exact h.same
  · refine h.when fun hw => ?_
    split <;> exact h.same

theorem EffectFits.execGapScanComplete {t} : EffectFits s (execGapScanComplete t s) := .act fun h => h.when fun h => h.same.marker

/-! ### Operations and commands of Machine/Inkwell.lean -/

theorem Fits.keyNow (h : Fits s) : Fits (keyNow s) := h.frame (by simp [keyNow_keeps _])
theorem Fits.settleCtx {before x ctx} (h : Fits s) : Fits (settleCtx before s x ctx) := h.frame (by simp [settleCtx_keeps _ _ _ _])
theorem Fits.requestBlocks {x ctx need} (h : Fits s) : Fits (requestBlocks s x ctx need) := h.frame (by simp [requestBlocks_keeps _ _ _ _])
theorem EffectFits.execBankWindow {t} : EffectFits s (execBankWindow t s) := .act fun h => h.when .same
theorem Fits.conflictTrip {bank} (h : Fits s) : Fits (conflictTrip s bank) := .notice (.record (.ite h.same.rcAdd h.same.rcAdd.draw.same))
theorem EffectFits.execConflictWindow {t grants demands} :
    EffectFits s (execConflictWindow t grants demands s) := .act fun h => h.when fun h => by
  dsimp only
  split
  · exact h.keyNow.same
  · exact .ite h.keyNow.conflictTrip h.keyNow.same

theorem Fits.evalMinOver (h : Fits s) : Fits (evalMinOver s) := h.frame (by simp [evalMinOver_keeps _])

/-! ### Operations and commands of Machine/Rings.lean -/

theorem Fits.setVi {v f} (h : Fits s) : Fits (setVi s v f) := h.frame rfl
theorem Fits.setEp {ctx f} (h : Fits s) : Fits (setEp s ctx f) := h.frame rfl
theorem Fits.setNib {n f} (h : Fits s) : Fits (setNib s n f) := h.frame rfl
theorem Fits.setOwn {n f} (h : Fits s) : Fits (setOwn s n f) := h.frame rfl
theorem Fits.setQp {q f} (h : Fits s) : Fits (setQp s q f) := h.frame rfl
theorem Fits.noteSent {v} (h : Fits s) : Fits (noteSent s v) := h.frame (by simp [noteSent_keeps _ _])
theorem Fits.hostWrite {v addr bytes} (h : Fits s) : Fits (hostWrite s v addr bytes) := h.frame (by simp [hostWrite_keeps _ _ _ _])
theorem Fits.raiseMsix {v} (h : Fits s) : Fits (raiseMsix s v) := h.frame (by simp [raiseMsix_keeps _ _])
theorem Fits.eventFull {v} (h : Fits s) : Fits (eventFull s v) := h.frame (by simp [eventFull_keeps _ _])
theorem Fits.flushEvents {v} (h : Fits s) : Fits (flushEvents s v) := h.frame (by simp [flushEvents_keeps _ _])
theorem Fits.pushDue {v ds} (h : Fits s) : Fits (pushDue s v ds) := h.frame (by simp [pushDue_keeps _ _ _])
theorem Fits.deliverNotice {v} (h : Fits s) : Fits (deliverNotice s v) := by
  unfold Machine.deliverNotice
  dsimp only
  split
  · exact h
  next n rest hq =>
    have hrest : rest.Sublist (s.margin.queues.get (viQueue v)).notices := hq ▸ List.sublist_cons_self n rest
    exact .ite (h.setQueue hrest).setVi.pushDue (.ite h.eventFull h)

theorem Fits.deliverEarlier {v} : ∀ {k s}, Fits s → Fits (deliverEarlier k s v)
  | 0, _, h => h
  | _ + 1, _, h => by
    unfold Machine.deliverEarlier
    split
    · exact h
    · exact .ite h.deliverNotice.deliverEarlier h

theorem Fits.deliverAll {v} : ∀ {k s}, Fits s → Fits (deliverAll k s v)
  | 0, _, h => h
  | _ + 1, _, h => .ite h h.deliverNotice.deliverAll

theorem Fits.earlierNotices {v} (h : Fits s) : Fits (earlierNotices s v) := h.deliverEarlier
theorem Fits.windowPush {v c} (h : Fits s) : Fits (windowPush s v c) := h.frame (by simp [windowPush_keeps _ _ _])
theorem Fits.complete {v c needAck} (h : Fits s) : Fits (complete s v c needAck) :=
  .ite h (.ite h.setVi.windowPush h.setVi.windowPush.earlierNotices.pushDue)

theorem Fits.completeCmd {v slot type code result n} (h : Fits s) : Fits (completeCmd s v slot type code result n) := h.setVi.complete
theorem Fits.finishCmd {v slot code result n} (h : Fits s) : Fits (finishCmd s v slot code result n) := by
  unfold Machine.finishCmd
  split
  · exact h.completeCmd
  · exact h

theorem Fits.endTransfer {ctx x code len} (h : Fits s) : Fits (endTransfer s ctx x code len) := by
  unfold Machine.endTransfer
  split
  · exact h
  · exact .via (fun h => .ite (.ite h.setVi h) (.complete (.ite h.setVi h))) (.ite h.setEp.rcCount (.ite h.setEp.rcCount h.setEp))

theorem Fits.endAndSettle {ctx x code len} (h : Fits s) : Fits (endAndSettle s ctx x code len) := h.endTransfer.settleCtx
theorem Fits.endQueue {ctx pick code} (h : Fits s) : Fits (endQueue s ctx pick code).1 := by
  unfold Machine.endQueue
  split
  · exact h
  · exact h.foldl .endAndSettle

theorem Fits.refreshAges (h : Fits s) : Fits (refreshAges s) := h.frame rfl
theorem EffectFits.execNoticeDelivery {t v} : EffectFits s (execNoticeDelivery t v s) := .act fun h => h.when .deliverNotice
theorem EffectFits.execMsixIntervalExpiry {t v} : EffectFits s (execMsixIntervalExpiry t v s) := .act fun h => h.when .raiseMsix
theorem EffectFits.execRdmaAckReceived {t v upTo all} :
    EffectFits s (execRdmaAckReceived t v upTo all s) := .act fun h => h.when fun h => by
  refine .flushEvents ?_
  split
  · exact h.setVi.setQp
  · exact h.setVi

/-! ### Operations and commands of Machine/Trees.lean -/

theorem Fits.setView {c n f} (h : Fits s) : Fits (setView s c n f) := h.frame rfl
theorem Fits.setCvi {c f} (h : Fits s) : Fits (setCvi s c f) := h.frame rfl
theorem Fits.setCPort {n f} (h : Fits s) : Fits (setCPort s n f) := h.frame rfl
theorem Fits.viewDisconnect {n ss} (h : Fits s) : Fits (viewDisconnect s n ss) := h.frame (by simp [viewDisconnect_keeps _ _ _])
theorem Fits.viewOverCurrent {n on} (h : Fits s) : Fits (viewOverCurrent s n on) := h.frame (by simp [viewOverCurrent_keeps _ _ _])
theorem Fits.viewLocalPower (h : Fits s) : Fits (viewLocalPower s) := h.frame (by simp [viewLocalPower_keeps _])
theorem Fits.emptyLig {n} (h : Fits s) : Fits (emptyLig s n) := h.frame rfl
theorem Fits.noteDiscard {e bytes reason} (h : Fits s) : Fits (noteDiscard s e bytes reason) := .ite h h.setEp.setOwn.notice
theorem Fits.dropStash {ctx reason} (h : Fits s) : Fits (dropStash s ctx reason) := by
  unfold Machine.dropStash
  split
  · exact h
  · exact h.setEp.settleCtx.noteDiscard

theorem Fits.releaseEp {ctx code reason} (h : Fits s) : Fits (releaseEp s ctx code reason).1 := h.endQueue.dropStash.same.settleCtx
theorem Fits.releaseEps {pick code reason} (h : Fits s) : Fits (releaseEps s pick code reason).1 := h.foldlFst .releaseEp
theorem Fits.releaseDevice {n addr code reason} (h : Fits s) : Fits (releaseDevice s n addr code reason) := h.releaseEps.same
theorem Fits.releasePath {n ss code reason} (h : Fits s) : Fits (releasePath s n ss code reason).1 := h.releaseEps.same
theorem Fits.releaseTree {n code reason} (h : Fits s) : Fits (releaseTree s n code reason).1 := h.releaseEps.same
theorem Fits.finishOpt {c code result n} (h : Fits s) : Fits (finishOpt s c code result n) := by
  unfold Machine.finishOpt
  split
  · exact h.finishCmd
  · exact h

theorem Fits.abortCmds {n} (h : Fits s) : Fits (abortCmds s n) := h.finishOpt.finishOpt.finishOpt.finishOpt.setNib
theorem Fits.pathGone {n ss reason} (h : Fits s) : Fits (pathGone s n ss reason) := by
  refine .via (fun h => .ite h.viewDisconnect.setNib.detachNotice h.viewDisconnect.setNib) ?_
  split
  · exact .ite h.releasePath.finishCmd.setNib h.releasePath
  · exact h.releasePath

theorem Fits.busGone {n reason} (h : Fits s) : Fits (busGone s n reason) :=
  .ite h.abortCmds.pathGone.pathGone.setNib.setCPort.detachNotice h.abortCmds.pathGone.pathGone.setNib.setCPort

theorem Fits.attachNotice {n ss written result} (h : Fits s) : Fits (attachNotice s n ss written result) := h.notice

/-! ### Operations and commands of Machine/Owners.lean -/

theorem Fits.stampP4 {n e} (h : Fits s) : Fits (stampP4 s n e) := h.frame (by simp [stampP4_keeps _ _ _])
theorem Fits.homeStamp {w} (h : Fits s) : Fits (homeStamp s w) := h.frame (by simp [homeStamp_keeps _ _])
theorem Fits.homeStampAll (h : Fits s) : Fits (homeStampAll s) := h.frame (by simp [homeStampAll_keeps _])
theorem Fits.forfeit {w} (h : Fits s) : Fits (forfeit s w) := h.frame (by simp [forfeit_keeps _ _])
theorem Fits.ringsGone {v} (h : Fits s) : Fits (ringsGone s v) :=
  .setVi (.foldl (.setQueue (.ite h h.record) (List.nil_sublist _)) fun h => .ite h h.setVi.settleCtx)

theorem Fits.abandonSplit {ctx} (h : Fits s) : Fits (abandonSplit s ctx) := h.frame (by simp [abandonSplit_keeps _ _])
theorem Fits.handoverEp {x ctx} {acc : State × Nat} (h : Fits acc.1) : Fits (handoverEp x acc ctx).1 := by
  unfold Machine.handoverEp
  split
  · exact h
  · exact h.setEp.abandonSplit.endQueue.setEp.same.settleCtx

theorem Fits.endOldWork {n x} (h : Fits s) : Fits (endOldWork s n x).1 := .emptyLig (h.foldlFst .handoverEp)
theorem Fits.dropOwnerCmds {n} (h : Fits s) : Fits (dropOwnerCmds s n) := h.finishOpt.finishOpt.finishOpt.finishOpt.setNib
theorem Fits.ownerChangeNotice {n old} (h : Fits s) : Fits (ownerChangeNotice s n old) := h.notice
theorem Fits.ownerLostNotice {n old ended} (h : Fits s) : Fits (ownerLostNotice s n old ended) := by
  unfold Machine.ownerLostNotice
  dsimp only
  split
  · exact h.notice
  · exact h

theorem Fits.changeOwner {n next st cause} (h : Fits s) : Fits (changeOwner s n next st cause) := h.setOwn.record.ownerChangeNotice
theorem Fits.loseOutright {n st cause} (h : Fits s) : Fits (loseOutright s n st cause) :=
  .ite h.setOwn h.changeOwner.endOldWork.dropOwnerCmds.setOwn.ownerLostNotice

theorem Fits.createClassic {c up} (h : Fits s) : Fits (createClassic s c up) :=
  .homeStamp (.ite (.eachPort (.ite h.setCvi.same h.setCvi.same.loseOutright) fun h => .ite h.stampP4 h) (.ite h.setCvi.same h.setCvi.same.loseOutright))

/-! ### Operations and commands of Machine/Ports.lean -/

theorem Fits.setPower {n f} (h : Fits s) : Fits (setPower s n f) := h.frame rfl
theorem Fits.setPd {n f} (h : Fits s) : Fits (setPd s n f) := h.frame rfl
theorem Fits.pdState {n st} (h : Fits s) : Fits (pdState s n st) := h.frame rfl
theorem Fits.presentRp {n} (h : Fits s) : Fits (presentRp s n) := h.frame rfl
theorem Fits.kickOwn {n} (h : Fits s) : Fits (kickOwn s n) := h.frame (by simp [kickOwn_keeps _ _])
theorem Fits.markCaps {n force} (h : Fits s) : Fits (markCaps s n force) := h.frame rfl
theorem Fits.markShare {n} (h : Fits s) : Fits (markShare s n) := h.frame (by simp [markShare_keeps _ _])
theorem Fits.endContract {n} (h : Fits s) : Fits (endContract s n) := h.frame rfl
theorem Fits.clearPd {n st} (h : Fits s) : Fits (clearPd s n st) := h.frame rfl
theorem Fits.vconnOff {n} (h : Fits s) : Fits (vconnOff s n) := h.frame rfl
theorem Fits.gateOff {n hard phase} (h : Fits s) : Fits (gateOff s n hard phase) := h.frame rfl
theorem Fits.converterOff {n} (h : Fits s) : Fits (converterOff s n) := h.frame rfl
theorem Fits.switchOn {n} (h : Fits s) : Fits (switchOn s n) := h.frame (by simp [switchOn_keeps _ _])
theorem Fits.clearShed {n} (h : Fits s) : Fits (clearShed s n) := .ite h.setPower.powerNotice h
theorem Fits.applyIncrease {n} (h : Fits s) : Fits (applyIncrease s n) := .ite (.ite h.setPower.markShare.clearShed h) h
theorem Fits.noteShed {n} (h : Fits s) : Fits (noteShed s n) := h.setPower.rcCount.rcCount.record.powerNotice
theorem Fits.powerOffPort {n reason} (h : Fits s) : Fits (powerOffPort s n reason) := h.vconnOff.pdState.endContract.presentRp.busGone
theorem Fits.shedOff {n hard} (h : Fits s) : Fits (shedOff s n hard) := h.gateOff.setPower.powerOffPort.noteShed
theorem Fits.recomputeShares (h : Fits s) : Fits (recomputeShares s) :=
  .eachPort (.eachPort (.foldl (h.eachPort fun h => .ite h.setPower.markShare h.setPower) .applyIncrease) fun h => .ite h.shedOff h) fun h => h.clearShed

theorem Fits.scheduleRetry {n} (h : Fits s) : Fits (scheduleRetry s n) :=
  .ite h (.ite h.setPower h.setPower.record.powerNotice.recomputeShares)

theorem Fits.tripPort {n cause place} (h : Fits s) : Fits (tripPort s n cause place) :=
  h.rcCount.recordRes.gateOff.setPower.powerOffPort.viewOverCurrent.powerNotice.scheduleRetry

theorem Fits.dropRole {n} (h : Fits s) : Fits (dropRole s n) := h.frame (by simp [dropRole_keeps _ _])
theorem Fits.errorRecovery {n} (h : Fits s) : Fits (errorRecovery s n) :=
  .via (fun h => .ite h.busGone h) (Fits.ite h.gateOff h).vconnOff.pdState.endContract.presentRp.setPd.dropRole

theorem Fits.startHardReset {n received} (h : Fits s) : Fits (startHardReset s n received) :=
  .ite h <| .via (fun h => .ite h.errorRecovery h.pdState.setPd.presentRp) <|
    (Fits.ite h.rcCount.record h.rcCount.record.emit).setPd.endContract.dropRole

theorem Fits.disablePort {n hard reason} (h : Fits s) : Fits (disablePort s n hard reason) :=
  .ite h <|
    .via (fun h => .ite h.busGone h) <|
    .presentRp (.clearPd (.ite h.gateOff.converterOff.setPower h.gateOff.converterOff.setPower.dropRole))

theorem Fits.enablePort {n} (h : Fits s) : Fits (enablePort s n) := h.frame (by simp [enablePort_keeps _ _])
theorem Fits.applyPortModes {hard reason} (h : Fits s) : Fits (applyPortModes s hard reason) :=
  h.eachPort fun h => .ite h.disablePort h.enablePort

theorem Fits.ccFault {n} (h : Fits s) : Fits (ccFault s n) :=
  .recomputeShares <| .powerNotice <| .via (fun h => .ite h.busGone h) <|
    (Fits.ite h.gateOff h).vconnOff.pdState.endContract.presentRp.rcCount.recordRes.setPd.dropRole

theorem Fits.detachPower {n} (h : Fits s) : Fits (detachPower s n) := h.frame rfl

/-! ### Operations and commands of Machine/Board.lean -/

theorem Fits.enterMode {m} (h : Fits s) : Fits (enterMode s m) := .ite h (.ite h.same.record.notice h.same.record.notice.viewLocalPower)
theorem Fits.followInput (h : Fits s) : Fits (followInput s) := h.frame (by simp [followInput_keeps _])
theorem Fits.refuseMode {code} (h : Fits s) : Fits (refuseMode s code) := h.frame (by simp [refuseMode_keeps _ _])
theorem Fits.treeSuspend {n} (h : Fits s) : Fits (treeSuspend s n) := h.frame (by simp [treeSuspend_keeps _ _])
theorem Fits.treeResume {n} (h : Fits s) : Fits (treeResume s n) := h.frame (by simp [treeResume_keeps _ _])
theorem Fits.resumeOwn (h : Fits s) : Fits (resumeOwn s) := h.frame (by simp [resumeOwn_keeps _])
theorem Fits.wakeSource (h : Fits s) : Fits (wakeSource s) := .ite h.same.same.resumeOwn (.ite h.same.enterMode.resumeOwn h.same)
theorem Fits.faultReport {place cls sv n} (h : Fits s) : Fits (faultReport s place cls sv n) := .ite h h.recordAt.notice.same
theorem Fits.quarantineOff {n} (h : Fits s) : Fits (quarantineOff s n) := .ite h (.powerNotice (.ite h.gateOff h.gateOff.powerOffPort))
theorem Fits.quarantinePorts {old defer} (h : Fits s) : Fits (quarantinePorts s old defer) :=
  .recomputeShares (h.eachPort fun h => .ite (.ite h.setPower.quarantineOff (.ite h.setPower.setPower h.setPower)) h)

theorem Fits.enterQuarantine {mask defer} (h : Fits s) : Fits (enterQuarantine s mask defer) :=
  .quarantinePorts (.ite h.same.same.enterMode h.same)

theorem Fits.forfeitRings (h : Fits s) : Fits (forfeitRings s) := h.frame (by simp [forfeitRings_keeps _])
theorem Fits.ceaseAll (h : Fits s) : Fits (ceaseAll s) := h.frame (by simp [ceaseAll_keeps _])
theorem Fits.clusterFail {c cls place} (h : Fits s) : Fits (clusterFail s c cls place) :=
  .ite h <| .via (fun h => .ite h.enterQuarantine (.ite h.same.enterQuarantine.forfeitRings
    (.ite h.same.enterQuarantine.ceaseAll h.enterQuarantine))) h.same.faultReport

theorem Fits.passCause (h : Fits s) : Fits (passCause s) := h.frame rfl
theorem Fits.shedPort {n} (h : Fits s) : Fits (shedPort s n) := .ite h.shedOff h.noteShed.markShare
theorem Fits.brownoutSheds (h : Fits s) : Fits (brownoutSheds s) :=
  .eachPort (.recomputeShares (h.eachPort fun h => .ite h.setPd.kickOwn h)) fun h => .ite (.ite h (.ite h h.shedPort)) (.ite h.setPd h)

theorem Fits.enterBrownout (h : Fits s) : Fits (enterBrownout s) := h.same.rcCount.enterMode
theorem Fits.leaveBrownout (h : Fits s) : Fits (leaveBrownout s) := h.enterMode.resumeOwn
theorem Fits.abandonImage (h : Fits s) : Fits (abandonImage s) := h.frame (by simp [abandonImage_keeps _])
theorem Fits.startFlush (h : Fits s) : Fits (startFlush s) := h.frame (by simp [startFlush_keeps _])
theorem Fits.enterHoldup (h : Fits s) : Fits (enterHoldup s) :=
  .ite h (.ite h h.same.abandonImage.rcCount.enterMode.applyPortModes.startFlush)

/-! ### Operations and commands of Machine/InputCmds.lean -/

theorem Fits.setInput {f} (h : Fits s) : Fits (setInput s f) := h.frame rfl
theorem Fits.powerEvent {lo} (h : Fits s) : Fits (powerEvent s lo) := h.frame (by simp [powerEvent_keeps _ _])
theorem Fits.startInrush {vin} (h : Fits s) : Fits (startInrush s vin) := h.frame (by simp [startInrush_keeps _ _])
theorem Fits.reseat (h : Fits s) : Fits (reseat s) := h.frame (by simp [reseat_keeps _])
theorem Fits.loseInput {cause} (h : Fits s) : Fits (loseInput s cause) := h.setInput.powerEvent.recordRes.followInput.enterHoldup
theorem Fits.tripInput {cause} (h : Fits s) : Fits (tripInput s cause) := h.setInput.powerEvent.recordRes.followInput.enterHoldup
theorem EffectFits.execVinPreRise {t vin} : EffectFits s (execVinPreRise t vin s) :=
  .act fun h => h.when fun h => h.setInput.followInput

theorem Fits.heatCause (h : Fits s) : Fits (heatCause s) := h.frame rfl
theorem Fits.collapseReservoir (h : Fits s) : Fits (collapseReservoir s) := h.frame (by simp [collapseReservoir_keeps _])
theorem EffectFits.execVinPreCollapse {t} : EffectFits s (execVinPreCollapse t s) := .act fun h => h.when .collapseReservoir
theorem EffectFits.execSeatStable {t vin} : EffectFits s (execSeatStable t vin s) :=
  .act fun h => h.when fun h => h.setInput.when .startInrush

theorem EffectFits.execSeatRelease {t pinB} : EffectFits s (execSeatRelease t pinB s) := .act fun h => h.when fun h => by
  dsimp only
  split
  · exact h.setInput
  · exact h.setInput.setInput
  · exact h.setInput.loseInput
  · exact h.setInput.loseInput
  · exact h.setInput.reseat
  · exact h.setInput.reseat
  · exact h.setInput.reseat

theorem EffectFits.execInrushDone {t vin vout} : EffectFits s (execInrushDone t vin vout s) :=
  .act fun h => h.when fun h => h.setInput.followInput

theorem EffectFits.execInrushTimerExpiry {t} : EffectFits s (execInrushTimerExpiry t s) := .act fun h => h.when .tripInput
theorem EffectFits.execInputLoss {t cause vin amps} : EffectFits s (execInputLoss t cause vin amps s) :=
  .act fun h => h.when fun h => h.setInput.loseInput

theorem EffectFits.execInputReturn {t vin} : EffectFits s (execInputReturn t vin s) := .act fun h => h.when .startInrush
theorem EffectFits.execInputRetryWaitExpiry {t vin} : EffectFits s (execInputRetryWaitExpiry t vin s) :=
  .act fun h => h.when fun h => .ite (h.when fun h => h.setInput.startInrush) h.setInput.recordRes

theorem EffectFits.execInputRetryClear {t} : EffectFits s (execInputRetryClear t s) := .act fun h => h.when .setInput
theorem Fits.inputClear (h : Fits s) : Fits (inputClear s) := h.frame (by simp [inputClear_keeps _])
theorem EffectFits.execInClear {t path} : EffectFits s (execInClear t path s) := .privCmd .inputClear
theorem Fits.inputFetClear (h : Fits s) : Fits (inputFetClear s) := h.frame (by simp [inputFetClear_keeps _])
theorem EffectFits.execInClearFetFail {t path} : EffectFits s (execInClearFetFail t path s) := .privCmd .inputFetClear
theorem EffectFits.execPgRelease {t vout} : EffectFits s (execPgRelease t vout s) := .act fun h => h.when .setInput
theorem EffectFits.execPgFall {t vout} : EffectFits s (execPgFall t vout s) := .act fun h => h.when .setInput
theorem Fits.flushAfterSheds (h : Fits s) : Fits (flushAfterSheds s) := h.frame (by simp [flushAfterSheds_keeps _])
theorem EffectFits.execEarlyWarning {t vin} : EffectFits s (execEarlyWarning t vin s) := .act fun h => h.when fun h => by
  dsimp only
  split
  · exact h.setInput.powerEvent.recordRes.wakeSource.enterBrownout.brownoutSheds.flushAfterSheds
  · exact h.setInput.powerEvent.recordRes.wakeSource.enterBrownout.brownoutSheds.flushAfterSheds
  · exact h.setInput.powerEvent.recordRes.enterBrownout.brownoutSheds.flushAfterSheds
  · exact h.setInput.powerEvent.recordRes.brownoutSheds.flushAfterSheds
  · exact h.setInput.powerEvent.recordRes

theorem EffectFits.execEarlyWarningClear {t vin} : EffectFits s (execEarlyWarningClear t vin s) := .act fun h => h.when fun h => by
  dsimp only
  split
  · exact .recomputeShares (h.setInput.same.leaveBrownout.eachPort fun h => .ite h.setPd.kickOwn h)
  · exact h.setInput.same.recomputeShares
  · exact h.setInput.same

theorem EffectFits.execShedWaitExpiry {t port} : EffectFits s (execShedWaitExpiry t port s) :=
  .act fun h => h.when fun h => .flushAfterSheds (.ite h.setPd.shedOff (.ite h.setPd.shedPort h.setPd))

theorem EffectFits.execVauxFall {t} : EffectFits s (execVauxFall t s) :=
  .act fun h => h.when fun h => h.same.recordRes.eachPort fun h => .ite (.ite h.gateOff (.ite h.gateOff.setPower h.shedOff)) h

theorem EffectFits.execVauxRecover {t} : EffectFits s (execVauxRecover t s) := .act fun h => h.when .same

/-! ### Operations and commands of Machine/PathCmds.lean -/

theorem Fits.gateDrive {n} (h : Fits s) : Fits (gateDrive s n) := h.frame (by simp [gateDrive_keeps _ _])
theorem EffectFits.execConverterReady {t port isp} : EffectFits s (execConverterReady t port isp s) := .act fun h => h.when fun h => by
  dsimp only
  split
  · exact h.setPower.setPower
  · exact h.setPower.when .setPower

theorem EffectFits.execPreswitchCheckDone {t port isp mid} : EffectFits s (execPreswitchCheckDone t port isp mid s) :=
  .act fun h => h.when fun h => h.setPower.gateDrive

theorem EffectFits.execVbusSwitchOn {t port isp} : EffectFits s (execVbusSwitchOn t port isp s) :=
  .act fun h => h.when fun h => h.setPower.gateDrive

theorem EffectFits.execVsetTrim {t port isp} : EffectFits s (execVsetTrim t port isp s) := .act fun h => h.when .setPower
theorem Fits.summed {ch q x} (h : Fits s) : Fits (summed s ch q x) := h.frame (by simp [summed_keeps _ _ _ _])
theorem Fits.samplePort {n i vbus isp mid} (h : Fits s) : Fits (samplePort s n i vbus isp mid) := h.frame (by simp [samplePort_keeps _ _ _ _ _ _])
theorem Fits.tripPath {n cause place} (h : Fits s) : Fits (tripPath s n cause place) := .ite h.tripPort h.gateOff.recordRes.setPower
theorem EffectFits.execBreakerEval {t path sample v1 v2 v3} :
    EffectFits s (execBreakerEval t path sample v1 v2 v3 s) := .act fun h => h.when fun h => by
  split
  · exact .ite h.samplePort.tripPath h.samplePort
  · exact .ite h.setInput.summed.summed.summed.tripInput h.setInput.summed.summed.summed

theorem EffectFits.execFastTrip {t path} : EffectFits s (execFastTrip t path s) := .act fun h => by
  split
  · exact h.when .tripPath
  · exact h.when .tripInput

theorem EffectFits.execPpsCurrentLimitStep {t port amps} : EffectFits s (execPpsCurrentLimitStep t port amps s) :=
  .act fun h => h.when .setPower

theorem Fits.takeTemp {n temp direct} (h : Fits s) : Fits (takeTemp s n temp direct) := .ite h.setPower.summed.tripPath h.setPower.summed
theorem EffectFits.execThermalUpdate {t port reading meanSquare dieTemp} :
    EffectFits s (execThermalUpdate t port reading meanSquare dieTemp s) :=
  .act fun h => h.when fun h => .ite h.takeTemp (.when (.ite h.setPower.recordRes h) fun h => h.setPower.takeTemp)

theorem Fits.holdFault {f} (h : Fits s) : Fits (holdFault s f) := h.frame rfl
theorem Fits.reportPortFet {n} (h : Fits s) : Fits (reportPortFet s n) := h.powerNotice.faultReport.enterQuarantine
theorem Fits.reportInputFet (h : Fits s) : Fits (reportInputFet s) := h.same.faultReport.enterQuarantine
theorem Fits.portFetFault {n} (h : Fits s) : Fits (portFetFault s n) :=
  .ite h.setPower.passCause.holdFault <|
    .via (fun h => .ite h (.reportPortFet (.ite h.powerOffPort h))) h.recordRes.setPower.passCause

theorem Fits.inputFetFault (h : Fits s) : Fits (inputFetFault s) :=
  .via (fun h => .ite h.holdFault (.ite h.recordRes h.recordRes.reportInputFet)) h.draw.setInput.passCause

theorem EffectFits.execPassDeviceFault {t path check} :
    EffectFits s (execPassDeviceFault t path check s) := .act fun h => h.when fun h => by
  split
  · exact h.when .portFetFault
  · exact h.when .inputFetFault

theorem Fits.portFetClear {n} (h : Fits s) : Fits (portFetClear s n) := h.frame (by simp [portFetClear_keeps _ _])
theorem EffectFits.execClearFetFail {t path port} : EffectFits s (execClearFetFail t path port s) := .privCmd .portFetClear
theorem Fits.fetClearFails {n} (h : Fits s) : Fits (fetClearFails s n) := h.frame rfl
theorem EffectFits.execFetClearCheckEnd {t path failed} : EffectFits s (execFetClearCheckEnd t path failed s) := .act fun h => by
  split
  · split
    · exact h.when fun h => .ite h.fetClearFails (.recomputeShares (.ite h.setPower.passCause.converterOff h.setPower.passCause))
    · exact h
  · split
    · exact h.when fun h => .ite h.setInput h.setInput.passCause
    · exact h

theorem EffectFits.execFetClearWindowTimeout {t port} : EffectFits s (execFetClearWindowTimeout t port s) := .act fun h => by
  split
  · exact h.when .fetClearFails
  · exact h

theorem Fits.restorePath {n} (h : Fits s) : Fits (restorePath s n) := h.frame (by simp [restorePath_keeps _ _])
theorem Fits.portClearLatch {n} (h : Fits s) : Fits (portClearLatch s n) :=
  .ite (.restorePath (.ite h.setPower.recomputeShares.viewOverCurrent h.setPower)) <|
    .ite h.setPower.recomputeShares.viewOverCurrent h.setPower

theorem EffectFits.execClearLatch {t path port} : EffectFits s (execClearLatch t path port s) := .privCmd .portClearLatch
theorem EffectFits.execPortRetry {t port} : EffectFits s (execPortRetry t port s) := .act fun h => by
  split
  · exact h
  · exact h.when fun h => .restorePath (.powerNotice (.ite h.rcCount h.rcCount.setPower))

theorem EffectFits.execPortRetryClear {t port} : EffectFits s (execPortRetryClear t port s) := .act fun h => h.when .setPower
theorem EffectFits.execShareIncreaseApply {t port} : EffectFits s (execShareIncreaseApply t port s) :=
  .act fun h => h.when .applyIncrease

theorem EffectFits.execShedRestore {t port} : EffectFits s (execShedRestore t port s) :=
  .act fun h => h.when fun h => h.restorePath.clearShed

/-! ### Operations and commands of Machine/Nibs.lean -/

theorem Fits.viewConnect {n ss} (h : Fits s) : Fits (viewConnect s n ss) := h.frame (by simp [viewConnect_keeps _ _ _])
theorem Fits.viewConnectBoth {n} (h : Fits s) : Fits (viewConnectBoth s n) := h.frame (by simp [viewConnectBoth_keeps _ _])
theorem Fits.reset2 {n} (h : Fits s) : Fits (reset2 s n) := h.frame rfl
theorem Fits.resetBoth {n warm} (h : Fits s) : Fits (resetBoth s n warm) := h.frame (by simp [resetBoth_keeps _ _ _])
theorem Fits.finishReset {n force} (h : Fits s) : Fits (finishReset s n force) := by
  unfold Machine.finishReset
  dsimp only
  split
  · exact h
  · exact .ite h.setNib.finishCmd.portStateNotice h

theorem Fits.previewSend {n} (h : Fits s) : Fits (previewSend s n) := h.frame (by simp [previewSend_keeps _ _])
theorem Fits.startPreview {n ss} (h : Fits s) : Fits (startPreview s n ss) := h.frame (by simp [startPreview_keeps _ _ _])
theorem Fits.endPreview {n result} (h : Fits s) : Fits (endPreview s n result) := by
  unfold Machine.endPreview
  dsimp only
  split
  · exact h
  · split
    · exact .ite h.setNib.hostWrite.attachNotice h.setNib.attachNotice
    · exact h.setNib

theorem Fits.attachRoot {n ss} (h : Fits s) : Fits (attachRoot s n ss) := by
  unfold Machine.attachRoot
  split
  · exact h
  · exact .ite h.startPreview h.attachNotice

theorem Fits.foundAttached {n} (h : Fits s) : Fits (foundAttached s n) := h.frame (by simp [foundAttached_keeps _ _])
theorem Fits.takeover {n v treeReset} (h : Fits s) : Fits (takeover s n v treeReset) := .notice (.ite h.hostWrite h)

/-! ### Operations and commands of Machine/OwnershipCmds.lean -/

theorem Fits.ownAssign {p n value} (h : Fits s) : Fits (ownAssign s p n value) := h.frame (by simp [ownAssign_keeps _ _ _ _])
theorem EffectFits.execOwnAssign {t path port value} : EffectFits s (execOwnAssign t path port value s) := .privCmd .ownAssign
theorem EffectFits.execLeaseExpiry {t port} : EffectFits s (execLeaseExpiry t port s) := .act fun h => by
  dsimp only
  split
  · exact h.when .stampP4
  · exact h

theorem Fits.refuseClaim {n who reason} (h : Fits s) : Fits (refuseClaim s n who reason) := h.frame rfl
theorem Fits.startLease {n} (h : Fits s) : Fits (startLease s n) := h.frame (by simp [startLease_keeps _ _])
theorem Fits.viewLost {n} (h : Fits s) : Fits (viewLost s n) := h.frame (by simp [viewLost_keeps _ _])
theorem Fits.settleOld {n} (h : Fits s) : Fits (settleOld s n) := .ite h (.ite h.endOldWork.setOwn h.endOldWork.setOwn.ownerLostNotice)
theorem Fits.beginResetting {n} (h : Fits s) : Fits (beginResetting s n) :=
  (Fits.ite h.settleOld.releaseTree.same h.settleOld.releaseTree).setNib.abortCmds.resetBoth.emptyLig

theorem Fits.transition {n v} (h : Fits s) : Fits (transition s n v) :=
  .via (fun h => .ite h.beginResetting h) <| .via (fun h => .ite h.enablePort.recomputeShares h) <|
    .dropOwnerCmds <| .ite h.viewLost.changeOwner.setApplied h.viewLost.changeOwner

theorem Fits.answerClaims {n holder refused} (h : Fits s) : Fits (answerClaims s n holder refused) :=
  h.eachRing fun h => h.foldl fun h => .ite h.completeCmd h.completeCmd

theorem Fits.decidePort {n} (h : Fits s) : Fits (decidePort s n) :=
  .ite (.answerClaims (h.setOwn.foldl .refuseClaim)) <|
    .via (fun h => .answerClaims (.ite h.transition (.ite h.startLease h))) (h.setOwn.foldl .refuseClaim)

theorem Fits.decideNow (h : Fits s) : Fits (decideNow s) := .ite (h.eachPort fun h => .ite h h.decidePort) h
theorem EffectFits.execPortDecision {t port} : EffectFits s (execPortDecision t port s) := .act fun h => h.when .decidePort
theorem Fits.followTimeline {n} (h : Fits s) : Fits (followTimeline s n) := h.frame (by simp [followTimeline_keeps _ _])
theorem Fits.clearDiscards {n} (h : Fits s) : Fits (clearDiscards s n) := h.frame rfl
theorem Fits.becomeOwned {n} (h : Fits s) : Fits (becomeOwned s n) := h.frame rfl
theorem Fits.completeHandover {n} (h : Fits s) : Fits (completeHandover s n) := by
  unfold Machine.completeHandover
  split
  · exact h.settleOld.becomeOwned.followTimeline.takeover.clearDiscards.foundAttached
  · exact h

theorem EffectFits.execHandoverComplete {t port} : EffectFits s (execHandoverComplete t port s) :=
  .act fun h => h.when .completeHandover

theorem Fits.keepOrphan {n} (h : Fits s) : Fits (keepOrphan s n) :=
  .ite (.treeSuspend (.followTimeline (.same (h.foldl .dropStash)))) (.followTimeline (.same (h.foldl .dropStash)))

theorem Fits.dropOrphan {n} (h : Fits s) : Fits (dropOrphan s n) := h.releaseTree.setNib.followTimeline.disablePort.recomputeShares
theorem EffectFits.execOrphanKeptEntry {t port} : EffectFits s (execOrphanKeptEntry t port s) :=
  .act fun h => h.when fun h => h.settleOld.keepOrphan

theorem EffectFits.execOrphanOffEntry {t port} : EffectFits s (execOrphanOffEntry t port s) :=
  .act fun h => h.when fun h => h.settleOld.dropOrphan

theorem Fits.reportAttached {n v ssFirst} (h : Fits s) : Fits (reportAttached s n v ssFirst) :=
  .via (fun h => .ite h (.ite h.startPreview h.attachNotice)) <|
    .ite h (.ite h.startPreview h.attachNotice)

theorem Fits.completeResetting {n ssFirst} (h : Fits s) : Fits (completeResetting s n ssFirst) := by
  unfold Machine.completeResetting
  dsimp only
  split
  · exact h.settleOld.setNib.becomeOwned.followTimeline.takeover.clearDiscards.reportAttached
  · exact h.settleOld.setNib.becomeOwned.followTimeline.clearDiscards.viewConnectBoth
  · exact .ite h.settleOld.setNib.setOwn.dropOrphan h.settleOld.setNib.setOwn.keepOrphan

theorem EffectFits.execResettingComplete {t port ssFirst} : EffectFits s (execResettingComplete t port ssFirst s) :=
  .act fun h => h.when .completeResetting

/-! ### Operations and commands of Machine/Timelines.lean -/

theorem Fits.setTl {v f} (h : Fits s) : Fits (setTl s v f) := h.frame rfl
theorem Fits.tlNotice {v reanchor oldFn} (h : Fits s) : Fits (tlNotice s v reanchor oldFn) := h.notice
theorem Fits.tlMove {v st} (h : Fits s) : Fits (tlMove s v st) := h.setTl.tlNotice
theorem Fits.tlFreeRun {v} (h : Fits s) : Fits (tlFreeRun s v) := .ite h h.setTl.tlMove
theorem Fits.tlReference {v ownerNs e} (h : Fits s) : Fits (tlReference s v ownerNs e) := by
  unfold Machine.tlReference
  dsimp only
  split
  · exact .ite h.setTl h.setTl.setTl.tlMove
  · exact .ite h.setTl.tlMove h.setTl.setTl.tlNotice
  · exact h.setTl

theorem Fits.tlLost {v} (h : Fits s) : Fits (tlLost s v) := by
  unfold Machine.tlLost
  dsimp only
  split
  · exact h.setTl.setTl.tlMove
  · exact h.setTl.setTl.tlMove
  · exact h.setTl

theorem Fits.tlUpdate {v ownerNs m e} (h : Fits s) : Fits (tlUpdate s v ownerNs m e) :=
  .ite h <|
    .ite h.setTl.setTl <|
    .ite h.setTl.tlReference <|
    .ite h.setTl.tlReference.setTl.tlMove (.ite h.setTl.tlReference.setTl.tlMove h.setTl.tlReference.setTl)

theorem EffectFits.execFreeRunSet {t v} : EffectFits s (execFreeRunSet t v s) := .act fun h => h.when fun h => h.setReg.tlFreeRun

/-! ### Operations and commands of Machine/Transfers.lean -/

theorem Fits.setBusy {v ring b} (h : Fits s) : Fits (setBusy s v ring b) := h.frame (by simp [setBusy_keeps _ _ _ _])
theorem Fits.stopFetch {v ring} (h : Fits s) : Fits (stopFetch s v ring) := h.frame (by simp [stopFetch_keeps _ _ _])
theorem Fits.fetchFailed {v ring} (h : Fits s) : Fits (fetchFailed s v ring) := by
  unfold Machine.fetchFailed
  dsimp only
  split
  · exact h.stopFetch.draw.complete
  · split
    · exact h.stopFetch.complete
    · exact h.stopFetch

theorem Fits.startFetch {v ring} (h : Fits s) : Fits (startFetch s v ring) :=
  .ite h (.ite (.ite h.setBusy.emit.noteSent h.setBusy.emit) h.fetchFailed)

theorem Fits.kickFetch {v} (h : Fits s) : Fits (kickFetch s v) := h.startFetch.foldl .startFetch
theorem Fits.stopEp {ctx} (h : Fits s) : Fits (stopEp s ctx) := h.frame rfl
theorem Fits.haltEp {ctx} (h : Fits s) : Fits (haltEp s ctx) := h.frame rfl
theorem Fits.setXfer {ctx x y} (h : Fits s) : Fits (setXfer s ctx x y) := h.frame rfl
theorem Fits.writeIn {x bs} (h : Fits s) : Fits (writeIn s x bs).1 := h.frame (by simp [writeIn_keeps _ _ _])
theorem Fits.askOut {ctx x} (h : Fits s) : Fits (askOut s ctx x) := h.frame (by simp [askOut_keeps _ _ _])
theorem Fits.concludeXfer {ctx x code} (h : Fits s) : Fits (concludeXfer s ctx x code) := by
  unfold Machine.concludeXfer
  split
  · exact h
  · exact .via (fun h => .ite h.endAndSettle.haltEp (.ite h.endAndSettle.stopEp.setEp (.ite h.endAndSettle.stopEp h.endAndSettle))) <|
      .ite h.abandonSplit h.setEp

theorem Fits.takeStash {ctx x} (h : Fits s) : Fits (takeStash s ctx x).1 := by
  unfold Machine.takeStash
  split
  · exact h
  · split
    · exact h
    · exact h.setXfer.setEp.concludeXfer.haltEp
    · extract_lets room before s1 w src y s2
      have hw : Fits w.1 := h.setEp.writeIn
      have h2 : Fits s2 := hw.setXfer.settleCtx
      clear_value y s2
      refine .iteFst ?_ (.iteFst h2.concludeXfer (.iteFst h2.concludeXfer h2))
      dsimp only
      split
      · exact h2.endAndSettle.noteDiscard
      · exact h2.endAndSettle

theorem Fits.runHead {ctx} : ∀ {k s}, Fits s → Fits (runHead k s ctx)
  | 0, _, h => h
  | _ + 1, _, h => by
    unfold Machine.runHead
    split
    · exact h
    · split
      · exact h
      · refine .ite h ?_
        split
        · exact h.concludeXfer.runHead
        · exact .ite h.concludeXfer.runHead (.ite (.ite h.takeStash.runHead h) (.ite h.concludeXfer.runHead (.ite h h.askOut)))

theorem Fits.claimRoom {ctx} (h : Fits s) : Fits (claimRoom s ctx) := h.frame (by simp [claimRoom_keeps _ _])
theorem Fits.advance {ctx} (h : Fits s) : Fits (advance s ctx) := by
  unfold Machine.advance
  split
  · exact h
  · refine .refreshAges ?_
    split
    · exact .kickFetch (.ite h.runHead.settleCtx h.runHead.claimRoom.runHead)
    · exact .ite h.runHead.settleCtx h.runHead.claimRoom.runHead

theorem Fits.placeIsoch {ctx x} (h : Fits s) : Fits (placeIsoch s ctx x) := by
  unfold Machine.placeIsoch
  split
  · dsimp only
    split
    · exact h.setEp.setXfer
    · exact h.setEp.endAndSettle
  · exact h

theorem Fits.pathDrained {owner} (h : Fits s) : Fits (pathDrained s owner) := h.frame rfl
theorem EffectFits.execBlockGrant {t owner ctx need} :
    EffectFits s (execBlockGrant t owner ctx need s) := .act fun h => h.when fun h => by
  split
  · exact h.when fun h => h.requestBlocks.advance
  · exact h.pathDrained.requestBlocks

/-! ### Operations and commands of Machine/Vis.lean -/

theorem Fits.setPage {v off w} (h : Fits s) : Fits (setPage s v off w) := h.frame rfl
theorem Fits.resetPage {v} (h : Fits s) : Fits (resetPage s v) := h.frame rfl
theorem Fits.clearWindow {v} (h : Fits s) : Fits (clearWindow s v) := h.frame (by simp [clearWindow_keeps _ _])
theorem Fits.enableVi {v} (h : Fits s) : Fits (enableVi s v) := (h.clearWindow.setVi.setQueue (List.nil_sublist _)).setTl.homeStamp
theorem Fits.dropNibCmds {v} (h : Fits s) : Fits (dropNibCmds s v) := h.frame (by simp [dropNibCmds_keeps _ _])
theorem Fits.disableVi {v} (h : Fits s) : Fits (disableVi s v) :=
  .refreshAges (.setVi (.eachPort (.foldl (h.dropNibCmds.foldl fun h => h.abandonSplit.endQueue.stopEp) .completeCmd) fun h => .ite h.stampP4 h))

theorem Fits.writeViCtrl {p v value} (h : Fits s) : Fits (writeViCtrl s p v value) :=
  .ite (.ite (.setPage (.ite h h.writeIgnored)) (.disableVi (.setPage (.ite h h.writeIgnored)))) <|
    .ite h.setPage (.ite h.setPage.enableVi h.setPage.setPage.setVi)

theorem Fits.writePage {p v off value} (h : Fits s) : Fits (writePage s p v off value) := by
  unfold Machine.writePage
  split
  · exact h
  · exact .ite h (.ite h.writeViCtrl (.ite h.writeIgnored (.ite (.ite h.setPage.tlFreeRun h.setPage) h.setPage)))

theorem Fits.ignoreDb {v} (h : Fits s) : Fits (ignoreDb s v) := h.frame rfl
theorem Fits.cmdDb {v value} (h : Fits s) : Fits (cmdDb s v value) := h.setVi.startFetch
theorem Fits.releasePassed {v} (h : Fits s) : Fits (releasePassed s v) := h.frame (by simp [releasePassed_keeps _ _])
theorem Fits.evtDb {v value} (h : Fits s) : Fits (evtDb s v value) :=
  .ite h.ignoreDb (.kickFetch (.flushEvents (.ite h.setVi.releasePassed.setVi h.setVi.releasePassed)))

theorem Fits.renewLeases {v mask} (h : Fits s) : Fits (renewLeases s v mask).1 := h.frame (by simp [renewLeases_keeps _ _ _])
theorem Fits.transferDb {v value} (h : Fits s) : Fits (transferDb s v value) := by
  unfold Machine.transferDb
  dsimp only
  split
  · exact h.ignoreDb
  · split
    · exact h.ignoreDb
    · exact .ite h.ignoreDb h.wakeSource.setEp.startFetch.advance

theorem Fits.doorbell {v off value} (h : Fits s) : Fits (doorbell s v off value) :=
  .ite h.ignoreDb (.ite h.cmdDb (.ite h.evtDb (.ite h.renewLeases (.ite h.transferDb h.ignoreDb))))

theorem Fits.reachNotice {v entered cause} (h : Fits s) : Fits (reachNotice s v entered cause) := h.notice
theorem Fits.enterUnreachable {v cause} (h : Fits s) : Fits (enterUnreachable s v cause) :=
  .ite h (.refreshAges (h.setVi.same.record.reachNotice.foldl .runHead))

theorem Fits.leaveUnreachable {v cause} (h : Fits s) : Fits (leaveUnreachable s v cause) := .ite h h.setVi.reachNotice.homeStamp.refreshAges
theorem Fits.transportLost {v} (h : Fits s) : Fits (transportLost s v) := h.forfeit.dropNibCmds.ringsGone.resetPage.setVi
theorem Fits.freeSlot {q cause} (h : Fits s) : Fits (freeSlot s q cause) := h.frame rfl
theorem Fits.slotError {q cause} (h : Fits s) : Fits (slotError s q cause) := .ite h.setQp.transportLost h.setQp
theorem Fits.disconnectSlot {q cause} (h : Fits s) : Fits (disconnectSlot s q cause) := .ite h.transportLost.setVi.freeSlot h.freeSlot
theorem Fits.unbindVi {v} (h : Fits s) : Fits (unbindVi s v) := by
  unfold Machine.unbindVi
  dsimp only
  split
  · exact h.transportLost.tlFreeRun.emit.setVi.freeSlot
  · exact h.transportLost.tlFreeRun

/-! ### Operations and commands of Machine/RingCmds.lean -/

theorem EffectFits.execViEnable {t v value} : EffectFits s (execViEnable t v value s) := .act fun h => h.when .writeViCtrl
theorem EffectFits.execViDisable {t v value} : EffectFits s (execViDisable t v value s) := .act fun h => h.when .writeViCtrl
theorem Fits.applyBlockWord {v bytes off} (h : Fits s) : Fits (applyBlockWord s v bytes off) := .ite h h.writePage
theorem Fits.applyBlock {v bytes} (h : Fits s) : Fits (applyBlock s v bytes) := .writePage (h.foldl .applyBlockWord)
theorem Fits.refuseRequest {q nak cause} (h : Fits s) : Fits (refuseRequest s q nak cause) := h.emit.slotError
theorem EffectFits.execViConfigSend {t q bytes} : EffectFits s (execViConfigSend t q bytes s) :=
  .act fun h => h.when fun h => .ite h.applyBlock.emit h.refuseRequest

theorem EffectFits.execCmdDb {t v value} : EffectFits s (execCmdDb t v value s) := .act fun h => h.when .doorbell
theorem EffectFits.execEvtDb {t v value} : EffectFits s (execEvtDb t v value s) := .act fun h => h.when .doorbell
theorem EffectFits.execLeaseDb {t v value} : EffectFits s (execLeaseDb t v value s) := .act fun h => h.when .doorbell
theorem EffectFits.execTransferDb {t v slot value} : EffectFits s (execTransferDb t v slot value s) := .act fun h => h.when .doorbell
theorem EffectFits.execReservedDoorbell {t v offset} : EffectFits s (execReservedDoorbell t v offset s) :=
  .act fun h => h.when .doorbell

theorem Fits.startChain {v ctx tds} (h : Fits s) : Fits (startChain s v ctx tds) := by
  unfold Machine.startChain
  split
  · exact h
  · exact .ite (.ite h.setEp.concludeXfer h.setEp) (.ite h.setEp.placeIsoch h.setEp)

theorem Fits.takeTd {v ctx bs} (h : Fits s) : Fits (takeTd s v ctx bs).1 := by
  unfold Machine.takeTd
  split
  · exact h
  · split
    · exact h
    · exact .iteFst h (.iteFst h.setEp (.iteFst h.setEp h.setEp.startChain))

theorem Fits.takeCmd {v bs} (h : Fits s) : Fits (takeCmd s v bs).1 :=
  .iteFst h <|
    .iteFst h.setVi (.iteFst h.setVi.completeCmd (.iteFst h.setVi.completeCmd (.setVi (.ite h.setVi h.setVi.wakeSource))))

theorem Fits.takeEntries {v ring} : ∀ {bss s}, Fits s → Fits (takeEntries s v ring bss)
  | [], _, h => h
  | _ :: _, _, h => by
    cases ring with
    | cmd => exact .ite h.takeCmd.takeEntries h.takeCmd
    | xfer ctx => exact .ite h.takeTd.takeEntries h.takeTd

theorem Fits.fetchComplete {v ring entries failed} (h : Fits s) : Fits (fetchComplete s v ring entries failed) := by
  refine .ite h.fetchFailed ?_
  dsimp only
  split
  · exact h.setBusy.takeEntries.startFetch
  · exact h.setBusy.takeEntries.startFetch.advance

theorem EffectFits.execRingFetchComplete {t v ring entries failed} : EffectFits s (execRingFetchComplete t v ring entries failed s) :=
  .act fun h => h.when .fetchComplete

/-! ### Operations and commands of Machine/StrokeCmds.lean -/

theorem EffectFits.execStrokeResync {t} : EffectFits s (execStrokeResync t s) := .act fun h => h.when .same
theorem Fits.timeSample (h : Fits s) : Fits (timeSample s) := h.frame rfl
theorem EffectFits.execTimeSample {t path} : EffectFits s (execTimeSample t path s) := .privCmd .timeSample
theorem Fits.setCluster {c f} (h : Fits s) : Fits (setCluster s c f) := h.frame rfl
theorem Fits.setEngine {e f} (h : Fits s) : Fits (setEngine s e f) := h.frame rfl
theorem Fits.loopEngine {c slack k need} (h : Fits s) : Fits (loopEngine c slack s k need) := h.frame rfl
theorem EffectFits.execDvfsUpdate {t cluster need0 need1 need2 need3 slack stretches} :
    EffectFits s (execDvfsUpdate t cluster need0 need1 need2 need3 slack stretches s) :=
  .act fun h => h.when fun h => .ite (h.rcAdd.setCluster.foldl .setEngine) <|
    .ite (.setCluster (h.rcAdd.setCluster.foldl .loopEngine)) (h.rcAdd.setCluster.foldl .loopEngine)

theorem EffectFits.execDvfsVoltageDown {t cluster slack overV temp} : EffectFits s (execDvfsVoltageDown t cluster slack overV temp s) :=
  .act fun h => h.when fun h => .ite (.ite h.setCluster.setCluster.rcCount.recordAt h.setCluster) (.ite h.setCluster.setCluster h.setCluster)

theorem Fits.setRegionTemp {q temp} (h : Fits s) : Fits (setRegionTemp s q temp) := h.frame rfl
theorem EffectFits.execRegionTempCap {t region temp other} : EffectFits s (execRegionTempCap t region temp other s) :=
  .act fun h => h.setRegionTemp.when fun h => h.foldl fun h => .ite (h.setCluster.foldl .setEngine) (.recordAt (h.setCluster.foldl .setEngine))

theorem EffectFits.execRegionTempUncap {t region temp} : EffectFits s (execRegionTempUncap t region temp s) :=
  .act fun h => h.when fun h => h.setRegionTemp.foldl .setCluster

theorem EffectFits.execEqAdaptStep {t lane coef up height width} : EffectFits s (execEqAdaptStep t lane coef up height width s) :=
  .act fun h => h.when fun h => .ite h.same (.ite h.same h.same)

/-! ### Operations and commands of Machine/Transport.lean -/

theorem Fits.viBindWrite {p v value} (h : Fits s) : Fits (viBindWrite s p v value) :=
  .ite h.writeIgnored (.ite h.setApplied (.homeStamp (.setApplied (.ite h.tlFreeRun h.unbindVi))))

theorem EffectFits.execViBindWrite {t path v value} : EffectFits s (execViBindWrite t path v value s) := .privCmd .viBindWrite
theorem Fits.setPcie {f} (h : Fits s) : Fits (setPcie s f) := h.frame rfl
theorem Fits.resetFn {f} (h : Fits s) : Fits (resetFn s f) := h.frame rfl
theorem Fits.fnLost {f} (h : Fits s) : Fits (fnLost s f) := by
  unfold Machine.fnLost
  split
  · exact h.transportLost
  · exact h

theorem Fits.vfsLost {k} (h : Fits s) : Fits (vfsLost s k) := h.foldl fun h => .ite h.fnLost h
theorem Fits.trustRestored (h : Fits s) : Fits (trustRestored s) := h.frame (by simp [trustRestored_keeps _])
theorem EffectFits.execFlr {t fn} : EffectFits s (execFlr t fn s) :=
  .act fun h => h.when fun h => .ite h.fnLost.resetFn.setPcie.vfsLost.setPcie.trustRestored h.fnLost.resetFn.setPcie

theorem Fits.fnHome {f} (h : Fits s) : Fits (fnHome s f) := h.frame (by simp [fnHome_keeps _ _])
theorem EffectFits.execFlrComplete {t fn msixOn} : EffectFits s (execFlrComplete t fn msixOn s) :=
  .act fun h => h.when fun h => h.setPcie.fnHome

theorem EffectFits.execVfEnableClear {t numVfs} : EffectFits s (execVfEnableClear t numVfs s) :=
  .act fun h => h.when fun h => h.vfsLost.setPcie

theorem EffectFits.execVfEnableSet {t numVfs} : EffectFits s (execVfEnableSet t numVfs s) :=
  .act fun h => h.when fun h => h.setPcie.foldl fun h => .ite h.fnHome h

theorem Fits.pcieDown (h : Fits s) : Fits (pcieDown s) := by
  unfold Machine.pcieDown
  exact .setPcie (h.foldl .fnLost)

theorem EffectFits.execPcieLinkDown {t} : EffectFits s (execPcieLinkDown t s) := .act fun h => h.when .pcieDown
theorem EffectFits.execPcieLinkUp {t speed width bme msixOn ptm} : EffectFits s (execPcieLinkUp t speed width bme msixOn ptm s) :=
  .act fun h => h.when fun h => h.setPcie.foldl .fnHome

theorem EffectFits.execBmeClear {t fn} : EffectFits s (execBmeClear t fn s) := .act fun h => h.when fun h => by
  dsimp only
  split
  · exact h.setPcie.enterUnreachable
  · exact h.setPcie

theorem EffectFits.execBmeSet {t fn} : EffectFits s (execBmeSet t fn s) := .act fun h => h.when fun h => by
  dsimp only
  split
  · exact h.setPcie.leaveUnreachable
  · exact h.setPcie

theorem Fits.clockUpdate {kind ownerNs m phase} (h : Fits s) : Fits (clockUpdate s kind ownerNs m phase) := h.foldl .tlUpdate
theorem Fits.clockLost {kind} (h : Fits s) : Fits (clockLost s kind) := h.foldl .tlLost
theorem EffectFits.execPtmRequest {t ok ownerNs phase} : EffectFits s (execPtmRequest t ok ownerNs phase s) :=
  .act fun h => h.when fun h => .via (fun h => .ite h.setPcie.clockUpdate (.ite h.setPcie.setPcie.clockLost h.setPcie)) h.setPcie.emit

theorem Fits.setEth {b f} (h : Fits s) : Fits (setEth s b f) := h.frame rfl
theorem Fits.lanChange {b up} (h : Fits s) : Fits (lanChange s b up) := h.setEth.record.notice
theorem Fits.lanHeard {b} (h : Fits s) : Fits (lanHeard s b) := .ite h.setEth h.setEth.lanChange
theorem Fits.deliverFrame {b f} (h : Fits s) : Fits (deliverFrame s b f) := h.frame (by simp [deliverFrame_keeps _ _ _])
theorem Fits.dupEnter {mac seqno} (h : Fits s) : Fits (dupEnter s mac seqno) := h.frame (by simp [dupEnter_keeps _ _ _])
theorem EffectFits.execEthFrameReceived {t portB frame} :
    EffectFits s (execEthFrameReceived t portB frame s) := .act fun h => h.when fun h => by
  refine .ite h.setEth.rcCount ?_
  split
  · exact .via (fun h => .ite h.deliverFrame (.ite h.rcCount (.ite h.dupEnter.same h.dupEnter.deliverFrame))) <|
      .ite h.setEth.lanHeard h.setEth
  · exact .ite h.setEth.same h.setEth.deliverFrame

theorem EffectFits.execPrpEntryExpiry {t} : EffectFits s (execPrpEntryExpiry t s) := .act fun h => h.when .same
theorem EffectFits.execPrpSupervisionSend {t} : EffectFits s (execPrpSupervisionSend t s) :=
  .act fun h => h.when fun h => h.emit.emit.same

theorem EffectFits.execLanDown {t portB lockLost} : EffectFits s (execLanDown t portB lockLost s) :=
  .act fun h => h.when fun h => .ite (.lanChange (.ite h.setEth h)) (.ite h.setEth h)

theorem EffectFits.execPfcFrameReceived {t portB enable xoff} : EffectFits s (execPfcFrameReceived t portB enable xoff s) :=
  .act fun h => h.when .setEth

theorem Fits.acceptReq {portB r} (h : Fits s) : Fits (acceptReq s portB r) := h.frame (by simp [acceptReq_keeps _ _ _])
theorem EffectFits.execCmReq {t portB req} : EffectFits s (execCmReq t portB req s) := .act fun h => h.when fun h => by
  split
  · exact h.acceptReq
  · exact h.emit
  · exact h.draw.emit

theorem EffectFits.execRepRetryTimeout {t q} : EffectFits s (execRepRetryTimeout t q s) :=
  .act fun h => h.when fun h => .ite h.setQp.emit h.freeSlot.record

theorem Fits.bindSlot {q} (h : Fits s) : Fits (bindSlot s q) := by
  refine .via (fun h => .ite h.setVi.leaveUnreachable h.setVi.homeStamp) ?_
  refine .ite ?_ h.setQp
  split
  · exact .ite h.setQp h.setQp.freeSlot
  · exact h.setQp

theorem EffectFits.execCmRtu {t q hostMac} : EffectFits s (execCmRtu t q hostMac s) :=
  .act fun h => h.when fun h => .ite h.bindSlot h.emit.freeSlot.record

theorem EffectFits.execCmDreq {t q} : EffectFits s (execCmDreq t q s) := .act fun h => h.when fun h => h.emit.disconnectSlot
theorem EffectFits.execRoceDoorbellWrite {t q rkey addr bytes} : EffectFits s (execRoceDoorbellWrite t q rkey addr bytes s) :=
  .act fun h => h.when fun h => .ite (h.emit.foldl .doorbell) h.refuseRequest

theorem EffectFits.execAckTimeout {t q} : EffectFits s (execAckTimeout t q s) := .act fun h => by
  dsimp only
  split
  · exact h
  · exact h.when fun h => .ite h.setQp.emit (.ite h.setQp.enterUnreachable h.setQp)

theorem EffectFits.execNakReceived {t q} : EffectFits s (execNakReceived t q s) := .act fun h => h.when .slotError
theorem EffectFits.execPsnSequenceNak {t q} : EffectFits s (execPsnSequenceNak t q s) := .act fun h => h.when fun h => h.setQp.emit
theorem Fits.qpReset {q} (h : Fits s) : Fits (qpReset s q) := .ite h h.disconnectSlot
theorem EffectFits.execQpReset {t path q} : EffectFits s (execQpReset t path q s) := .privCmd .qpReset
theorem EffectFits.execUnreachableHoldExpiry {t v} : EffectFits s (execUnreachableHoldExpiry t v s) :=
  .act fun h => h.when fun h => .setVi (h.foldl fun h => h.setVi.settleCtx)

theorem EffectFits.execCnpReceived {t q} : EffectFits s (execCnpReceived t q s) := .act fun h => h.when .setQp
theorem EffectFits.execCcRateIncrease {t q} : EffectFits s (execCcRateIncrease t q s) := .act fun h => h.when .setQp
theorem Fits.setDisc {f} (h : Fits s) : Fits (setDisc s f) := h.frame rfl
theorem Fits.discMove {st} (h : Fits s) : Fits (discMove s st) := h.setDisc.record
theorem Fits.discAnchor {timeNs} (h : Fits s) : Fits (discAnchor s timeNs) := h.frame rfl
theorem Fits.discUpdate {timeNs e i} (h : Fits s) : Fits (discUpdate s timeNs e i) :=
  .ite (.ite h.setDisc.discAnchor.record h.setDisc) (.setDisc (.ite h.setDisc.discAnchor.record h.setDisc))

theorem Fits.discJudge {e} (h : Fits s) : Fits (discJudge s e) := .ite h.setDisc.discMove (.ite h.setDisc.discMove h.setDisc)
theorem Fits.discSync {timeNs i} (h : Fits s) : Fits (discSync s timeNs i) :=
  .ite h (.ite (.ite h h.setDisc.discAnchor.discMove) (.ite h.discUpdate (.discJudge (.discUpdate (.ite h.discMove h)))))

theorem Fits.discLost (h : Fits s) : Fits (discLost s) := .ite h (.ite h.setDisc.discMove h)
theorem Fits.discOff (h : Fits s) : Fits (discOff s) := .ite h h.setDisc.discMove
theorem EffectFits.execPtpSyncAccepted {t timeNs offset masters phase} :
    EffectFits s (execPtpSyncAccepted t timeNs offset masters phase s) :=
  .act fun h => h.when fun h => h.same.clockUpdate.discSync

theorem Fits.ptpUnlock (h : Fits s) : Fits (ptpUnlock s) := h.same.clockLost.discLost
theorem EffectFits.execPtpLockTimeout {t} : EffectFits s (execPtpLockTimeout t s) :=
  .act fun h => h.when fun h => .ite h.ptpUnlock.same.record h.ptpUnlock

theorem EffectFits.execPortSlewComplete {t port} : EffectFits s (execPortSlewComplete t port s) := .act fun h => h.when fun h => by
  split <;> exact h.setNib

/-! ### Operations and commands of Machine/FaultCmds.lean -/

theorem Fits.eccCorrected {site} (h : Fits s) : Fits (eccCorrected s site) :=
  .via (fun h => .ite h (.ite h.same.faultReport h.same)) (.ite h.rcCount.rcCount h.rcCount)

theorem EffectFits.execEccCorrected {t site} : EffectFits s (execEccCorrected t site s) := .act fun h => h.when .eccCorrected
theorem EffectFits.execEccWindow {t} : EffectFits s (execEccWindow t s) := .act fun h => h.when .same
theorem Fits.failFlight {ctx} (h : Fits s) : Fits (failFlight s ctx) := by
  unfold Machine.failFlight
  split
  · exact h
  · split
    · exact .ite h.concludeXfer h
    · exact h

theorem Fits.engineRestart {e} (h : Fits s) : Fits (engineRestart s e) := h.rcCount.same.foldl .failFlight
theorem EffectFits.execWatchdogExpiry {t engine} : EffectFits s (execWatchdogExpiry t engine s) :=
  .act fun h => h.when fun h => .ite h.clusterFail h.faultReport.engineRestart

theorem EffectFits.execEngineRestartComplete {t engine} : EffectFits s (execEngineRestartComplete t engine s) :=
  .act fun h => h.when .same

theorem Fits.dropNotice {q i} (h : Fits s) : Fits (dropNotice s q i) :=
  .ite (.ite (h.rcCount.sameQueues rfl openWords_closed_le) (h.rcCount.setQueue (dropAt_sublist _ _))) (h.rcCount.setQueue (dropAt_sublist _ _))

theorem Fits.dropRam {seq} (h : Fits s) : Fits (dropRam s seq) := h.frame (by simp [dropRam_keeps _ _])
theorem Fits.contain {x} (h : Fits s) : Fits (contain s x) := by
  unfold Machine.contain
  split
  · split
    · exact h
    · exact h.failFlight.dropStash.haltEp
  · exact h.releaseDevice
  · exact h.unbindVi
  · exact .ite h.unbindVi h.freeSlot
  · exact .ite h (.ite h.clusterFail h.engineRestart)
  · exact .ite h h.emptyLig
  · exact h.dropNotice
  · exact h.dropRam
  · exact h.same
  · exact .ite h.same.rcCount h
  · exact h.same

theorem EffectFits.execEccUncorrectable {t site} : EffectFits s (execEccUncorrectable t site s) :=
  .act fun h => h.when fun h => h.rcCount.faultReport.contain

theorem EffectFits.execDescriptorStoreReloaded {t} : EffectFits s (execDescriptorStoreReloaded t s) := .act fun h => h.when .same
theorem EffectFits.execKeyReloaded {t v} : EffectFits s (execKeyReloaded t v s) := .act fun h => h.when .same
theorem Fits.holdRegion {q on} (h : Fits s) : Fits (holdRegion s q on) := h.frame (by simp [holdRegion_keeps _ _ _])
theorem Fits.setHot {place} (h : Fits s) : Fits (setHot s place) := h.frame rfl
theorem Fits.regionHot {q hot} (h : Fits s) : Fits (regionHot s q hot) :=
  .ite (.ite h.holdRegion h.holdRegion.setHot.faultReport.enterQuarantine) (.ite h.holdRegion h.holdRegion.faultReport)

theorem Fits.reservoirHot (h : Fits s) : Fits (reservoirHot s) :=
  .ite h (.ite (h.setHot.eachPort fun h => .ite h.gateOff h) (.ite h.setHot.holdFault h.setHot.faultReport.enterQuarantine))

theorem EffectFits.execTemperatureExceeded {t place temp} : EffectFits s (execTemperatureExceeded t place temp s) :=
  .act fun h => .ite (h.when .reservoirHot) (h.when .regionHot)

theorem EffectFits.execTemperatureCleared {t place temp} : EffectFits s (execTemperatureCleared t place temp s) :=
  .act fun h => h.when fun h => .ite h.same.heatCause h.same.heatCause.holdRegion

theorem Fits.releasePorts (h : Fits s) : Fits (releasePorts s) := .recomputeShares (h.same.eachPort fun h => .ite h.setPower h)
theorem Fits.quarExit (h : Fits s) : Fits (quarExit s) := .ite h.refuseMode (.releasePorts (.enterMode (.ite h.same.rcCount h)))
theorem EffectFits.execQuarExit {t path} : EffectFits s (execQuarExit t path s) := .privCmd .quarExit
theorem Fits.advanceFloor (h : Fits s) : Fits (advanceFloor s) := h.frame rfl
theorem Fits.returnArm (h : Fits s) : Fits (returnArm s) := h.frame rfl
theorem Fits.returnDisarm (h : Fits s) : Fits (returnDisarm s) := h.frame rfl
theorem EffectFits.execAdvanceFloor {t path} : EffectFits s (execAdvanceFloor t path s) := .privCmd .advanceFloor
theorem EffectFits.execReturnArm {t path} : EffectFits s (execReturnArm t path s) := .privCmd .returnArm
theorem EffectFits.execReturnDisarm {t path} : EffectFits s (execReturnDisarm t path s) := .privCmd .returnDisarm
theorem EffectFits.execReturnArmLapse {t} : EffectFits s (execReturnArmLapse t s) := .act fun h => h.when .returnDisarm
theorem Fits.setSeal {f} (h : Fits s) : Fits (setSeal s f) := h.frame rfl
theorem Fits.keyLoad {v} (h : Fits s) : Fits (keyLoad s v) := h.frame (by simp [keyLoad_keeps _ _])
theorem Fits.keyWithdraw {v} (h : Fits s) : Fits (keyWithdraw s v) := h.frame (by simp [keyWithdraw_keeps _ _])
theorem Fits.fuseOwner (h : Fits s) : Fits (fuseOwner s) := h.frame (by simp [fuseOwner_keeps _])
theorem EffectFits.execKeyLoad {t path v} : EffectFits s (execKeyLoad t path v s) := .privCmd .keyLoad
theorem EffectFits.execKeyWithdraw {t path v} : EffectFits s (execKeyWithdraw t path v s) := .privCmd .keyWithdraw
theorem EffectFits.execFuseOwner {t path} : EffectFits s (execFuseOwner t path s) := .privCmd .fuseOwner
theorem Fits.writeKeySector {k} (h : Fits s) : Fits (writeKeySector s k) := h.frame (by simp [writeKeySector_keeps _ _])
theorem Fits.lapseAuth {v} (h : Fits s) : Fits (lapseAuth s v) := by
  refine .ite ?_ h
  split
  · exact h.emit.disconnectSlot
  · exact h.forfeit.setVi

theorem Fits.keysCommitted {op} (h : Fits s) : Fits (keysCommitted s op) := h.writeKeySector.setSeal.lapseAuth
theorem EffectFits.execKeySetCommitted {t ok} : EffectFits s (execKeySetCommitted t ok s) := .act fun h => by
  split
  · exact h
  · exact h.when fun h => .ite h.keysCommitted h.writeKeySector.setSeal

theorem EffectFits.execGateNonceRead {t} : EffectFits s (execGateNonceRead t s) :=
  .act fun h => h.when fun h => .ite h.emit h.drawMany.setSeal.emit

theorem EffectFits.execGateAuthorisation {t nonce uid scope} : EffectFits s (execGateAuthorisation t nonce uid scope s) :=
  .act fun h => h.when fun h => .ite h.emit h.setSeal.emit

theorem Fits.dropHosts (h : Fits s) : Fits (dropHosts s) := .same (h.pcieDown.ceaseAll.eachRing fun h => .ite h.transportLost h.forfeit)
theorem Fits.lastNotices (h : Fits s) : Fits (lastNotices s) := h.eachRing .deliverAll
theorem Fits.upOff (h : Fits s) : Fits (upOff s) := h.frame (by simp [upOff_keeps _])
theorem Fits.returnEntry (h : Fits s) : Fits (returnEntry s) :=
  h.same.enterMode.applyPortModes.upOff.lastNotices.dropHosts.persistEverything.same.marker.setSeal.setApplied.same

theorem Fits.returnRelease (h : Fits s) : Fits (returnRelease s) := h.same.marker
theorem EffectFits.execGateVerifyDone {t signed} : EffectFits s (execGateVerifyDone t signed s) := .act fun h => by
  split
  · exact h
  · exact h.when fun h => .ite h.setSeal.returnEntry (.ite h.setSeal.returnRelease h.setSeal.setSeal.faultReport)

theorem EffectFits.execGateNonceExpiry {t} : EffectFits s (execGateNonceExpiry t s) := .act fun h => h.when .setSeal

/-! ### Operations and commands of Machine/Hub.lean -/

theorem Fits.hubSay {c r} (h : Fits s) : Fits (hubSay s c r) := h.frame rfl
theorem Fits.portReq {c n f g} (h : Fits s) (hf : Fits s → Fits (f s)) (hg : Fits s → Fits (g s)) :
    Fits (portReq s c n f g) := .ite (.hubSay (.ite (hf h) (hg h))) h.hubSay

theorem Fits.ownView {n f} (h : Fits s) : Fits (ownView s n f) := h.frame (by simp [ownView_keeps _ _ _])
theorem Fits.holdPaths {c n} (h : Fits s) : Fits (holdPaths s c n) := h.frame rfl
theorem Fits.clearPowers {c} (h : Fits s) : Fits (clearPowers s c) := h.frame (by simp [clearPowers_keeps _ _])
theorem Fits.hubReset2 {c n} (h : Fits s) : Fits (hubReset2 s c n) := h.frame (by simp [hubReset2_keeps _ _ _])
theorem Fits.hubResetS {c n warm} (h : Fits s) : Fits (hubResetS s c n warm) := h.frame (by simp [hubResetS_keeps _ _ _ _])
theorem Fits.hubResetSDone {n ok} (h : Fits s) : Fits (hubResetSDone s n ok) := h.frame (by simp [hubResetSDone_keeps _ _ _])
theorem Fits.hubResumed {n} (h : Fits s) : Fits (hubResumed s n) := h.frame (by simp [hubResumed_keeps _ _])
theorem Fits.upstreamReset {c ss} (h : Fits s) : Fits (upstreamReset s c ss) := h.frame (by simp [upstreamReset_keeps _ _ _])
theorem Fits.upstreamClaims {c} (h : Fits s) : Fits (upstreamClaims s c) := h.frame (by simp [upstreamClaims_keeps _ _])
theorem Fits.setLig {n f} (h : Fits s) : Fits (setLig s n f) := h.frame rfl
theorem Fits.ligXact {n periodic addr ep isIn r} (h : Fits s) : Fits (ligXact s n periodic addr ep isIn r) := h.frame (by simp [ligXact_keeps _ _ _ _ _ _ _])
theorem Fits.setFunc {f} (h : Fits s) : Fits (setFunc s f) := h.frame rfl
theorem Fits.funcPop {reply} (h : Fits s) : Fits (funcPop s reply) := h.frame rfl
theorem Fits.funcDrain {k} (h : Fits s) : Fits (funcDrain k s) := h.frame (by simp [funcDrain_keeps _ _])
theorem Fits.funcInToken (h : Fits s) : Fits (funcInToken s) := h.frame (by simp [funcInToken_keeps _])

/-! ### Operations and commands of Machine/HubCmds.lean -/

theorem EffectFits.execGetHubStatus {t c} : EffectFits s (execGetHubStatus t c s) := .act fun h => h.when .hubSay
theorem EffectFits.execClearHubFeature {t c feature} : EffectFits s (execClearHubFeature t c feature s) :=
  .act fun h => h.when fun h => .ite h.setCvi.hubSay (.ite h.setCvi.hubSay h.hubSay)

theorem EffectFits.execSetHubFeature {t c} : EffectFits s (execSetHubFeature t c s) := .act fun h => h.when .hubSay
theorem EffectFits.execGetPortStatus {t c n ss} : EffectFits s (execGetPortStatus t c n ss s) := .act fun h => h.when .hubSay
theorem EffectFits.execSetPortReset {t c n ss} : EffectFits s (execSetPortReset t c n ss s) :=
  .act fun h => h.when fun h => h.portReq (fun h => .ite h.hubResetS h.hubReset2) fun h => h

theorem EffectFits.execClassicPortResetEnd {t n} : EffectFits s (execClassicPortResetEnd t n s) := .act fun h => by
  split
  · exact h
  · exact h.when fun h => .ownView (.ite h.setCPort h.setCPort.setNib)

theorem EffectFits.execSetBhPortReset {t c n} : EffectFits s (execSetBhPortReset t c n s) :=
  .act fun h => h.when fun h => h.portReq .hubResetS fun h => h

theorem EffectFits.execSsPortResetTimeout {t n} : EffectFits s (execSsPortResetTimeout t n s) := .act fun h => by
  split
  · exact h
  · exact h.when fun h => h.setNib.hubResetSDone

theorem EffectFits.execSetPortSuspend {t c n} : EffectFits s (execSetPortSuspend t c n s) :=
  .act fun h => h.when fun h => h.portReq (fun h => .ite h.setView.setNib.emit h) fun h => h

theorem EffectFits.execClearPortSuspend {t c n} : EffectFits s (execClearPortSuspend t c n s) :=
  .act fun h => h.when fun h => h.portReq (fun h => .ite h.setNib.emit h) fun h => h

theorem EffectFits.execClearPortEnable {t c n} : EffectFits s (execClearPortEnable t c n s) :=
  .act fun h => h.when fun h => h.portReq (fun h => h.setView.emit) fun h => h

theorem EffectFits.execSetPortPower {t c n} : EffectFits s (execSetPortPower t c n s) :=
  .act fun h => h.when fun h => h.portReq (fun h => .ite h h.setView.viewConnect.viewConnect) .setView

theorem EffectFits.execClearPortPower {t c n} : EffectFits s (execClearPortPower t c n s) :=
  .act fun h => h.when fun h => h.portReq .holdPaths .setView

theorem EffectFits.execSetPortTest {t c n} : EffectFits s (execSetPortTest t c n s) :=
  .act fun h => h.when fun h => h.portReq (fun h => h.setView.setCPort.emit) fun h => h

theorem EffectFits.execSetPortIndicator {t c _n} : EffectFits s (execSetPortIndicator t c _n s) := .act fun h => h.when .hubSay
theorem EffectFits.execSetPortLinkState {t c n state} : EffectFits s (execSetPortLinkState t c n state s) :=
  .act fun h => h.when fun h => .ite (h.portReq (fun h => .ite (.ite h.setNib.emit.setView h.setNib.emit) h) fun h => h) <|
    .ite (h.portReq (fun h => .ite h.setNib.emit h) fun h => h) <|
    .ite (h.portReq (fun h => h.setNib.setView.emit) fun h => h) <|
    .ite (h.portReq (fun h => .ite h h.setNib.emit) fun h => h) h.hubSay

theorem EffectFits.execSetPortLinkPmFeature {t c n feature value} : EffectFits s (execSetPortLinkPmFeature t c n feature value s) :=
  .act fun h => h.when fun h => h.portReq .setView .setView

theorem EffectFits.execClearPortChange {t c n ss bit} : EffectFits s (execClearPortChange t c n ss bit s) :=
  .act fun h => h.when fun h => .ite (h.portReq .setView .setView) h.hubSay

theorem EffectFits.execGetPortErrCount {t c n} : EffectFits s (execGetPortErrCount t c n s) :=
  .act fun h => h.when fun h => .ite h.hubSay (.ite h.draw.hubSay h.hubSay)

theorem EffectFits.execSetHubDepth {t c depth} : EffectFits s (execSetHubDepth t c depth s) :=
  .act fun h => h.when fun h => .ite h.setCvi.hubSay h.hubSay

theorem EffectFits.execClearTtBuffer {t c n addr ep type isIn} : EffectFits s (execClearTtBuffer t c n addr ep type isIn s) :=
  .act fun h => h.when fun h => .hubSay (h.foldl fun h => h.setLig.rcCount)

theorem EffectFits.execResetTt {t c n} : EffectFits s (execResetTt t c n s) :=
  .act fun h => h.when fun h => .hubSay (h.foldl fun h => h.emptyLig.rcCount)

theorem EffectFits.execStopTt {t c n} : EffectFits s (execStopTt t c n s) := .act fun h => h.when fun h => .hubSay (h.foldl .setLig)
theorem EffectFits.execGetTtState {t c _n} : EffectFits s (execGetTtState t c _n s) := .act fun h => h.when .hubSay
theorem EffectFits.execGetDescriptor {t c half type index len} :
    EffectFits s (execGetDescriptor t c half type index len s) := .act fun h => h.when fun h => by
  refine .ite h.hubSay ?_
  split <;> exact h.hubSay

theorem EffectFits.execSetDescriptor {t c} : EffectFits s (execSetDescriptor t c s) := .act fun h => h.when .hubSay
theorem EffectFits.execSetConfiguration {t c half value} :
    EffectFits s (execSetConfiguration t c half value s) := .act fun h => h.when fun h => by
  refine .ite h.hubSay ?_
  split
  · exact h.setCvi.clearPowers.hubSay
  · exact h.setCvi.clearPowers.hubSay
  · exact h.setFunc.hubSay

theorem EffectFits.execSetInterface {t c half alt} : EffectFits s (execSetInterface t c half alt s) :=
  .act fun h => h.when fun h => .ite h.hubSay (.ite h.setCvi.hubSay h.hubSay)

theorem EffectFits.execUpstreamResetRecognised {t c ss} : EffectFits s (execUpstreamResetRecognised t c ss s) :=
  .act fun h => h.when fun h => .ite h.upstreamReset h.upstreamReset.setCvi.emit

theorem EffectFits.execHsIdleReversion {t c} : EffectFits s (execHsIdleReversion t c s) := .act fun h => h.when fun h => h.setCvi.emit
theorem EffectFits.execChirpKEnd {t c} : EffectFits s (execChirpKEnd t c s) := .act fun h => by
  split
  · exact h.when fun h => h.setCvi.emit
  · exact h

theorem EffectFits.execHostChirpSixth {t c} : EffectFits s (execHostChirpSixth t c s) := .act fun h => by
  split
  · exact h.when fun h => h.setCvi.emit
  · exact h

theorem EffectFits.execHostChirpTimeout {t c} : EffectFits s (execHostChirpTimeout t c s) := .act fun h => by
  split
  · exact h.when .setCvi
  · exact h

theorem EffectFits.execUpstreamResetEnd {t c ss} : EffectFits s (execUpstreamResetEnd t c ss s) :=
  .act fun h => h.when fun h => .upstreamClaims (.ite h h.setCvi)

theorem EffectFits.execUpstreamSuspend {t c} : EffectFits s (execUpstreamSuspend t c s) :=
  .act fun h => h.when fun h => h.setCvi.eachPort fun h => .ite h.treeSuspend h

theorem EffectFits.execUpstreamResume {t c} : EffectFits s (execUpstreamResume t c s) :=
  .act fun h => h.when fun h => h.setCvi.wakeSource.eachPort fun h => .ite h.treeResume h

theorem EffectFits.execUpstreamLpmToken {t c} : EffectFits s (execUpstreamLpmToken t c s) := .act fun h => h.when .hubSay
theorem EffectFits.execUpstreamSsLinkChange {t c up} : EffectFits s (execUpstreamSsLinkChange t c up s) :=
  .act fun h => h.when fun h => .ite h.setCvi.viewDisconnect.viewDisconnect.viewConnectBoth h.setCvi

theorem EffectFits.execSsplitReceived {t n split} : EffectFits s (execSsplitReceived t n split s) := .act fun h => by
  split
  · exact h
  · exact h.when fun h => .ite (.ite h.setLig h.setLig.rcCount) (.ite h.rcCount.hubSay h.setLig.hubSay)

theorem EffectFits.execCsplitReceived {t n split} : EffectFits s (execCsplitReceived t n split s) := .act fun h => by
  split
  · exact h
  · refine h.when fun h => ?_
    refine .ite ?_ ?_
    · split
      · exact h.hubSay
      · refine .ite h.hubSay ?_
        split
        · exact h.setLig.hubSay
        · exact h.hubSay
    · split
      · exact h.hubSay
      · split
        · exact h.setLig.hubSay
        · exact h.hubSay

theorem EffectFits.execLigatureResultExpiry {t n} : EffectFits s (execLigatureResultExpiry t n s) :=
  .act fun h => h.when fun h => h.foldl fun h => h.setLig.rcCount

theorem EffectFits.execPeriodicResultDiscard {t n frame uf} : EffectFits s (execPeriodicResultDiscard t n frame uf s) :=
  .act fun h => h.when fun h => h.foldl fun h => .ite h.setLig.rcCount h.setLig

theorem EffectFits.execFuncOutPacket {t bytes} : EffectFits s (execFuncOutPacket t bytes s) := .act fun h => by
  split
  · exact h
  · exact h.when fun h => .ite h.hubSay (.ite h.setFunc.hubSay h.setFunc.funcDrain.hubSay)

theorem EffectFits.execFuncEcho {t} : EffectFits s (execFuncEcho t s) := .act fun h => by
  split
  · exact h.when fun h => h.funcPop.funcDrain
  · exact h

theorem EffectFits.execFuncClearHalt {t isIn} : EffectFits s (execFuncClearHalt t isIn s) := .act fun h => by
  split
  · exact h
  · exact h.when fun h => h.setFunc.hubSay

/-! ### Operations and commands of Machine/Pd.lean -/

theorem Fits.sendMsg {n m next} (h : Fits s) : Fits (sendMsg s n m next) := h.frame rfl
theorem Fits.sendCaps {n} (h : Fits s) : Fits (sendCaps s n) := h.frame rfl
theorem Fits.enterCaps {n} (h : Fits s) : Fits (enterCaps s n) := h.frame (by simp [enterCaps_keeps _ _])
theorem Fits.toReady {n} (h : Fits s) : Fits (toReady s n) := h.frame (by simp [toReady_keeps _ _])
theorem Fits.pdInfo {n code type} (h : Fits s) : Fits (pdInfo s n code type) := h.frame (by simp [pdInfo_keeps _ _ _ _])
theorem Fits.notSupported {n type} (h : Fits s) : Fits (notSupported s n type) := h.frame (by simp [notSupported_keeps _ _ _])
theorem Fits.replyExt {n type m} (h : Fits s) : Fits (replyExt s n type m) := h.frame (by simp [replyExt_keeps _ _ _ _])
theorem Fits.protocolError {n} (h : Fits s) : Fits (protocolError s n) := .ite h.startHardReset (.ite h.rcCount.setPd.sendMsg h)
theorem Fits.heard {n id f} (h : Fits s) (hf : ∀ {u}, Fits u → Fits (f u)) : Fits (heard s n id f) :=
  h.when fun h => .ite h.emit (.ite h.emit.setPd.startHardReset (hf h.emit.setPd))

theorem Fits.unreclaim {n} (h : Fits s) : Fits (unreclaim s n) := .ite h.setPd.recomputeShares.markShare h
theorem Fits.pdiWork {n} (h : Fits s) : Fits (pdiWork s n) := h.frame (by simp [pdiWork_keeps _ _])
theorem Fits.psRdy {n} (h : Fits s) : Fits (psRdy s n) := by
  unfold Machine.psRdy
  split
  · exact h
  · exact h.sendMsg.setPd.powerNotice.toReady

theorem Fits.judgeRequest {n rdo allowed} (h : Fits s) : Fits (judgeRequest s n rdo allowed) := by
  unfold Machine.judgeRequest
  dsimp only
  split
  · exact (Fits.ite h.setPd.pdInfo h.setPd).setPd.pdState.sendMsg
  · exact .ite h.setPd.rcCount.setPd.pdState.sendMsg (.ite h.setPd.rcCount.pdState.sendMsg h.setPd.rcCount.sendMsg)

theorem Fits.takeRequest {n rdo rev2} (h : Fits s) : Fits (takeRequest s n rdo rev2) := .ite (.judgeRequest (.ite h.setPd h)) h
theorem Fits.takeEprRequest {n rdo pdo} (h : Fits s) : Fits (takeEprRequest s n rdo pdo) := .ite h.judgeRequest h
theorem Fits.eprDecide {n} (h : Fits s) : Fits (eprDecide s n) := h.frame (by simp [eprDecide_keeps _ _])
theorem Fits.eprAcked {n} (h : Fits s) : Fits (eprAcked s n) := h.frame (by simp [eprAcked_keeps _ _])
theorem Fits.eprExit {n own} (h : Fits s) : Fits (eprExit s n own) := .ite h.startHardReset h.setPd.markCaps.kickOwn
theorem Fits.discoveryEnd {n} (h : Fits s) : Fits (discoveryEnd s n) := h.frame (by simp [discoveryEnd_keeps _ _])
theorem Fits.discover {n} (h : Fits s) : Fits (discover s n) := h.frame rfl
theorem Fits.acknowledged {n} (h : Fits s) : Fits (acknowledged s n) := by
  unfold Machine.acknowledged
  dsimp only
  split
  · exact h.setPd.kickOwn
  · exact .ite h.setPd.pdState h.setPd.kickOwn
  · split
    · exact .ite h.setPd.psRdy h.setPd.setPd
    · exact h.setPd
  · exact h.setPd.startHardReset
  · exact h.setPd.enterCaps
  · exact h.setPd.setPd
  · exact h.setPd.eprAcked
  · exact h.setPd.setPd.kickOwn
  · exact h.setPd.setPd

theorem Fits.swapRefused {n answer} (h : Fits s) : Fits (swapRefused s n answer) := h.setPd.record.kickOwn
theorem Fits.messageFailed {n} (h : Fits s) : Fits (messageFailed s n) := by
  unfold Machine.messageFailed
  dsimp only
  split
  · exact .ite h.setPd.rcCount.startHardReset (.ite h.setPd.rcCount.pdState.presentRp.pdInfo h.setPd.rcCount)
  · exact h.setPd.rcCount.startHardReset
  · exact h.setPd.rcCount.startHardReset
  · exact h.setPd.rcCount.startHardReset
  · exact h.setPd.rcCount.startHardReset
  · exact h.setPd.rcCount.setPd.kickOwn
  · exact h.setPd.rcCount.swapRefused
  · exact h.setPd.rcCount.protocolError
  · exact h.setPd.rcCount.protocolError

theorem Fits.becomeUfp {n c} (h : Fits s) : Fits (becomeUfp s n c) := h.setPd.createClassic.emit
theorem Fits.swapOnUp (h : Fits s) : Fits (swapOnUp s) := .ite h.sendMsg.setPd.dropRole h.sendMsg.becomeUfp
theorem Fits.swapOnDp {n} (h : Fits s) : Fits (swapOnDp s n) := by
  refine .ite h.sendMsg.dropRole ?_
  refine .ite ?_ h.sendMsg.pdInfo
  split
  · exact h.sendMsg.becomeUfp
  · exact h

theorem Fits.attachSink {n} (h : Fits s) : Fits (attachSink s n) := h.wakeSource.clearPd.setPd.presentRp.switchOn.recomputeShares
theorem Fits.attachAccessory {n audio} (h : Fits s) : Fits (attachAccessory s n audio) :=
  h.wakeSource.clearPd.setPd.presentRp.recordRes.recomputeShares

theorem Fits.attachDebugUp (h : Fits s) : Fits (attachDebugUp s) := by
  unfold Machine.attachDebugUp
  exact .via (fun h => .ite h.switchOn h.setPower) h.same.clearPd.setPd.presentRp.recomputeShares

theorem Fits.tryAttach {n} (h : Fits s) : Fits (tryAttach s n) :=
  .ite (.ite h.attachSink h.setPd) (.ite h.attachAccessory (.ite h.attachAccessory (.ite h.attachDebugUp h.setPd)))

theorem Fits.toUnattached {n} (h : Fits s) : Fits (toUnattached s n) := h.frame rfl
theorem Fits.detach {n} (h : Fits s) : Fits (detach s n) :=
  .recomputeShares <| .via (fun h => .ite h.toUnattached h) <| .viewOverCurrent <| .via (fun h => .ite h.busGone h) <|
    (Fits.ite h.wakeSource.gateOff h.wakeSource).dropRole.detachPower.clearPd.setPd.presentRp

theorem Fits.vconnFault {n} (h : Fits s) : Fits (vconnFault s n) :=
  .via (fun h => .ite h.startHardReset (.ite h.markCaps.eprDecide h.markCaps)) h.vconnOff.setPd.rcCount.recordRes.powerNotice

/-! ### Operations and commands of Machine/PdCmds.lean -/

theorem EffectFits.execUpDrSwapSend {t} : EffectFits s (execUpDrSwapSend t s) := .act fun h => h.when fun h => h.setPd.sendMsg
theorem Fits.swapRetryTx {w} (h : Fits s) : Fits (swapRetryTx s w) := h.frame (by simp [swapRetryTx_keeps _ _])
theorem EffectFits.execDrSwapRetry {t} : EffectFits s (execDrSwapRetry t s) := .act fun h => by
  dsimp only
  split
  · exact h.when fun h => h.swapRetryTx.setPd.sendMsg
  · exact h

theorem EffectFits.execDrSwapAnswer {t id answer} : EffectFits s (execDrSwapAnswer t id answer s) := .act fun h => h.heard fun h => by
  refine .ite h.protocolError ?_
  split
  · exact h.becomeUfp.kickOwn
  · exact .ite h.setPd.kickOwn h.swapRefused
  · exact h.swapRefused
  · exact h.swapRefused

theorem EffectFits.execDrSwap {t port id} : EffectFits s (execDrSwap t port id s) :=
  .act fun h => h.heard fun h => .ite (.ite h.swapOnUp h.swapOnDp) h.protocolError

theorem EffectFits.execCcPatternAppear {t port cc1 cc2} : EffectFits s (execCcPatternAppear t port cc1 cc2 s) :=
  .act fun h => .ite (.ite h.setPd.setPd h.setPd.setPd) <|
    .ite (.ite h.clearPd.setPd.setPd h.setPd) (.ite (.ite h (.ite h.setPd.setPd h)) (.ite (.ite h.setPd.setPd h) h))

theorem EffectFits.execCcPatternLost {t port cc1 cc2} : EffectFits s (execCcPatternLost t port cc1 cc2 s) :=
  .act fun h => h.when fun h => h.toUnattached.setPd

theorem EffectFits.execDetachDebounceStart {t port cc1 cc2} : EffectFits s (execDetachDebounceStart t port cc1 cc2 s) :=
  .act fun h => h.when .setPd

theorem EffectFits.execCcDetach {t port} : EffectFits s (execCcDetach t port s) := .act fun h => by
  split
  · exact h.when .detach
  · exact h

theorem EffectFits.execVsafe0vReached {t port vbus} : EffectFits s (execVsafe0vReached t port vbus s) :=
  .act fun h => h.when fun h => .via (fun h => .ite h.toUnattached (.ite h.setPd h)) h.setPower.setPd

theorem EffectFits.execAttachDebounceEnd {t port} : EffectFits s (execAttachDebounceEnd t port s) :=
  .act fun h => h.when fun h => .ite h.tryAttach (.ite h.setPd h)

theorem EffectFits.execVsafe5vReached {t port vbus} : EffectFits s (execVsafe5vReached t port vbus s) :=
  .act fun h => h.when fun h => .ite (.ite h.setPower.setPd.setPd.pdState h.setPower.setPd.setPd.pdState.presentRp) h.setPower.setPd

theorem EffectFits.execSourceCapsSend {t port} : EffectFits s (execSourceCapsSend t port s) := .act fun h => h.when .sendCaps
theorem EffectFits.execSourceCapsRetry {t port} : EffectFits s (execSourceCapsRetry t port s) := .act fun h => h.when .sendCaps
theorem EffectFits.execGoodcrcReceived {t port prime} : EffectFits s (execGoodcrcReceived t port prime s) :=
  .act fun h => .ite (h.when .setPd) (h.when .acknowledged)

theorem EffectFits.execGoodcrcTimeout {t port prime} : EffectFits s (execGoodcrcTimeout t port prime s) := .act fun h => by
  refine .ite ?_ ?_
  · split
    · exact h
    · exact .ite h.setPd.emit h.setPd.rcCount
  · split
    · exact h
    · exact .ite h.setPd.emit h.messageFailed

theorem EffectFits.execSenderResponseTimeout {t port} : EffectFits s (execSenderResponseTimeout t port s) := .act fun h => by
  dsimp only
  split
  · exact h.when fun h => h.setPd.startHardReset
  · exact h.when .swapRefused
  · exact h.when .startHardReset

theorem EffectFits.execRequest {t port id rdo rev2} : EffectFits s (execRequest t port id rdo rev2 s) :=
  .act fun h => h.heard .takeRequest

theorem EffectFits.execEprRequest {t port id rdo pdo} : EffectFits s (execEprRequest t port id rdo pdo s) :=
  .act fun h => h.heard .takeEprRequest

theorem EffectFits.execTransitionStart {t port} : EffectFits s (execTransitionStart t port s) := .act fun h => by
  dsimp only
  split
  · exact h
  · exact h.when fun h => h.setPd.setPower

theorem EffectFits.execPsRdySend {t port vbus} : EffectFits s (execPsRdySend t port vbus s) := .act fun h => by
  dsimp only
  split
  · exact h.when fun h => h.setPower.psRdy
  · exact h

theorem EffectFits.execTransitionBoundMissed {t port} : EffectFits s (execTransitionBoundMissed t port s) := .act fun h => by
  dsimp only
  split
  · exact h.when fun h => h.rcCount.record.startHardReset
  · exact h

theorem EffectFits.execSinkTxWaitEnd {t port} : EffectFits s (execSinkTxWaitEnd t port s) :=
  .act fun h => h.when fun h => .ite h.setPd.sendMsg h.enterCaps

theorem EffectFits.execGetSourceCap {t port id} : EffectFits s (execGetSourceCap t port id s) :=
  .act fun h => h.heard fun h => h.unreclaim.enterCaps

theorem EffectFits.execSoftReset {t port} : EffectFits s (execSoftReset t port s) :=
  .act fun h => h.when fun h => .ite h.emit.setPd.startHardReset h.emit.setPd.rcCount.sendMsg

theorem EffectFits.execPdMessageUnexpected {t port id msg} : EffectFits s (execPdMessageUnexpected t port id msg s) :=
  .act fun h => h.heard fun h => .ite h.setPd.enterCaps h.protocolError

theorem EffectFits.execEprModeEnter {t port id} : EffectFits s (execEprModeEnter t port id s) :=
  .act fun h => h.heard fun h => .ite h.protocolError (.ite h.sendMsg h.sendMsg)

theorem EffectFits.execEprModeExit {t port id} : EffectFits s (execEprModeExit t port id s) :=
  .act fun h => h.heard fun h => .ite h.eprExit h.protocolError

theorem EffectFits.execEprKeepalive {t port id} : EffectFits s (execEprKeepalive t port id s) := .act fun h => h.heard .sendMsg
theorem EffectFits.execEprGetSourceCap {t port id} : EffectFits s (execEprGetSourceCap t port id s) :=
  .act fun h => h.heard fun h => .ite h.unreclaim.notSupported (.ite h.unreclaim.enterCaps h.unreclaim.setPd.sendMsg)

theorem Fits.keepAliveOut {n} (h : Fits s) : Fits (keepAliveOut s n) := h.rcCount.record.startHardReset
theorem EffectFits.execEprKeepaliveTimeout {t port} : EffectFits s (execEprKeepaliveTimeout t port s) :=
  .act fun h => h.when .keepAliveOut

theorem EffectFits.execPpsTimeout {t port} : EffectFits s (execPpsTimeout t port s) := .act fun h => h.when .keepAliveOut
theorem EffectFits.execGetStatus {t port id} : EffectFits s (execGetStatus t port id s) := .act fun h => h.heard .replyExt
theorem EffectFits.execGetPpsStatus {t port id} : EffectFits s (execGetPpsStatus t port id s) :=
  .act fun h => h.heard fun h => .ite h.replyExt h.notSupported

theorem EffectFits.execGetSourceInfo {t port id} : EffectFits s (execGetSourceInfo t port id s) := .act fun h => h.heard .sendMsg
theorem EffectFits.execGetRevision {t port id} : EffectFits s (execGetRevision t port id s) := .act fun h => h.heard .sendMsg
theorem EffectFits.execGetSourceCapExtended {t port id} : EffectFits s (execGetSourceCapExtended t port id s) :=
  .act fun h => h.heard .replyExt

theorem EffectFits.execGetManufacturerInfo {t port id} : EffectFits s (execGetManufacturerInfo t port id s) :=
  .act fun h => h.heard .replyExt

theorem EffectFits.execUnsupportedMessage {t port id type} : EffectFits s (execUnsupportedMessage t port id type s) :=
  .act fun h => h.heard .notSupported

theorem EffectFits.execIgnoredMessage {t port id kind} :
    EffectFits s (execIgnoredMessage t port id kind s) := .act fun h => h.heard fun h => by
  split
  · exact h.pdInfo
  · exact h.pdInfo
  · exact h

theorem EffectFits.execBist {t port id mode} : EffectFits s (execBist t port id mode s) := .act fun h => h.heard fun h => h.when .emit
theorem EffectFits.execDiscoverIdentity {t port id} : EffectFits s (execDiscoverIdentity t port id s) := .act fun h => h.heard .sendMsg
theorem EffectFits.execStructuredVdmNak {t port id} : EffectFits s (execStructuredVdmNak t port id s) := .act fun h => h.heard .sendMsg
theorem EffectFits.execVconnStable {t port} : EffectFits s (execVconnStable t port s) := .act fun h => h.when .discover
theorem EffectFits.execCableDiscoveryRetry {t port} : EffectFits s (execCableDiscoveryRetry t port s) :=
  .act fun h => h.when fun h => .ite h.discoveryEnd (h.when .discover)

theorem EffectFits.execCableIdentityAck {t port id vdo} : EffectFits s (execCableIdentityAck t port id vdo s) :=
  .act fun h => h.when fun h => .ite h.emit (.ite h.emit.setPd.markCaps.discoveryEnd.eprExit h.emit.setPd.markCaps.discoveryEnd)

theorem EffectFits.execHardResetReceived {t port} : EffectFits s (execHardResetReceived t port s) :=
  .act fun h => h.when .startHardReset

theorem EffectFits.execHardResetVbusOff {t port} : EffectFits s (execHardResetVbusOff t port s) :=
  .act fun h => h.when fun h => h.gateOff.vconnOff.setPd.busGone

theorem EffectFits.execSrcRecoverEnd {t port} : EffectFits s (execSrcRecoverEnd t port s) :=
  .act fun h => h.when fun h => .ite h.setPd.restorePath h.setPd.setPower.pdState.presentRp

theorem EffectFits.execErrorRecoveryEnd {t port} : EffectFits s (execErrorRecoveryEnd t port s) :=
  .act fun h => h.when fun h => h.toUnattached.recomputeShares

theorem EffectFits.execAlertSend {t port} : EffectFits s (execAlertSend t port s) := .act fun h => h.when fun h => h.setPd.sendMsg
theorem EffectFits.execReclaimTimer {t port} : EffectFits s (execReclaimTimer t port s) := .act fun h => by
  dsimp only
  split
  · exact h.when fun h => h.setPd.recomputeShares.markShare
  · exact h

theorem EffectFits.execReclaimRestore {t port} : EffectFits s (execReclaimRestore t port s) := .act fun h => by
  split
  · exact h.when .unreclaim
  · exact h

theorem Fits.pdSendCaps {n} (h : Fits s) : Fits (pdSendCaps s n) := h.frame rfl
theorem Fits.pdHardReset {n} (h : Fits s) : Fits (pdHardReset s n) := h.when .startHardReset
theorem Fits.pdErrorRecovery {n} (h : Fits s) : Fits (pdErrorRecovery s n) := .ite h h.errorRecovery.recomputeShares
theorem EffectFits.execPdSendCaps {t path port} : EffectFits s (execPdSendCaps t path port s) := .privCmd .pdSendCaps
theorem EffectFits.execPdHardReset {t path port} : EffectFits s (execPdHardReset t path port s) := .privCmd .pdHardReset
theorem EffectFits.execPdErrorRecovery {t path port} : EffectFits s (execPdErrorRecovery t path port s) := .privCmd .pdErrorRecovery
theorem EffectFits.execCcShortProbe {t port pin2 shorted} : EffectFits s (execCcShortProbe t port pin2 shorted s) :=
  .act fun h => h.when fun h => .ite h.setPd (.ite h.setPd (.ite h.setPd.vconnOff.setPd.recordRes h.setPd.ccFault))

theorem EffectFits.execCcOvervoltage {t port pin2} : EffectFits s (execCcOvervoltage t port pin2 s) :=
  .act fun h => h.when fun h => h.setPd.ccFault

theorem EffectFits.execCcFaultRetest {t port cc1 cc2} : EffectFits s (execCcFaultRetest t port cc1 cc2 s) :=
  .act fun h => h.when fun h => .ite h.setPd.detachPower.toUnattached.recomputeShares h.setPd

theorem EffectFits.execVconnFault {t port ma} : EffectFits s (execVconnFault t port ma s) :=
  .act fun h => h.when fun h => h.setPd.vconnFault

/-! ### Operations and commands of Machine/Applied.lean -/

theorem Fits.disableOpen {n} (h : Fits s) : Fits (disableOpen s n) := h.draw.disablePort
theorem Fits.barCheck {n} (h : Fits s) : Fits (barCheck s n) :=
  .ite h (.ite h.loseOutright.disableOpen (.ite (.ite h.setOwn.stampP4 h.setOwn.stampP4.enablePort) h))

theorem Fits.afterPort {n off} (h : Fits s) : Fits (afterPort s n off) :=
  .barCheck (.ite (.ite h h.setNib) (.ite h.recomputeShares (.ite h.markCaps.presentRp.recomputeShares h)))

theorem Fits.dp15Changed (h : Fits s) : Fits (dp15Changed s) := by
  refine .ite ?_ (.ite h.same.viewDisconnect.viewDisconnect h.same.viewDisconnect.viewDisconnect.enablePort)
  dsimp only
  split
  · exact h.same.disableOpen.viewConnectBoth
  · exact h.same.disableOpen

theorem Fits.ptpChanged (h : Fits s) : Fits (ptpChanged s) := .ite h.same h.same.ptpUnlock
theorem Fits.afterBlock {old a} (h : Fits s) : Fits (afterBlock s old a) :=
  .ite (.ite h h.discOff) <|
    .ite h.recomputeShares <|
    .ite h.evalMinOver (.ite (.ite h h.setEth) (.ite (.ite h h.setEth) (.ite h.ptpChanged (.ite (.ite h h.dp15Changed) h))))

theorem Fits.afterApply {old a} (h : Fits s) : Fits (afterApply s old a) := .ite h.afterPort (.ite h.afterBlock h)
theorem Fits.applyReg {p a v} (h : Fits s) : Fits (applyReg s p a v) :=
  .dite (fun _ => h.viBindWrite) (fun _ => .dite (fun _ => h.setSeal) (fun _ => .ite h.same.setApplied h.setApplied.afterApply))

theorem Fits.stageWrite {a v} (h : Fits s) : Fits (stageWrite s a v) := h.frame rfl
theorem Fits.takeRw {p r a value} (h : Fits s) : Fits (takeRw s p r a value) := by
  refine .ite h.writeIgnored ?_
  split
  · exact h.applyReg
  · exact h.stageWrite
  · exact h.same

theorem Fits.boundaryApply {pick} (h : Fits s) : Fits (boundaryApply s pick) := h.same.foldl .applyReg
theorem Fits.setRubric {f} (h : Fits s) : Fits (setRubric s f) := h.frame rfl
theorem Fits.publish (h : Fits s) : Fits (publish s) := h.frame rfl
theorem Fits.updateDomain {d} (h : Fits s) : Fits (updateDomain s d) := h.frame rfl
theorem Fits.serviceCheck (h : Fits s) : Fits (serviceCheck s) := h.frame (by simp [serviceCheck_keeps _])
theorem Fits.acceptCommit {p} (h : Fits s) : Fits (acceptCommit s p) :=
  .eachPort (.serviceCheck (.foldl (.setRubric (.same (h.foldl .setReg))) .afterApply)) .barCheck

theorem Fits.rubricCommit {p} (h : Fits s) : Fits (rubricCommit s p) := .ite h.setRubric (.ite h.setRubric h.acceptCommit)
theorem Fits.rubricAbort (h : Fits s) : Fits (rubricAbort s) := h.frame rfl
theorem Fits.commitComplete (h : Fits s) : Fits (commitComplete s) := h.frame (by simp [commitComplete_keeps _])
theorem Fits.brkCommit (h : Fits s) : Fits (brkCommit s) := h.frame (by simp [brkCommit_keeps _])

/-! ### Operations and commands of Machine/Images.lean -/

theorem Fits.setImg {f} (h : Fits s) : Fits (setImg s f) := h.frame rfl
theorem Fits.editSlot {f} (h : Fits s) : Fits (editSlot s f) := h.frame rfl
theorem Fits.imgOpen {cfg} (h : Fits s) : Fits (imgOpen s cfg) := h.frame (by simp [imgOpen_keeps _ _])
theorem EffectFits.execImgOpenFw {t path} : EffectFits s (execImgOpenFw t path s) := .privCmd .imgOpen
theorem EffectFits.execImgOpenCfg {t path} : EffectFits s (execImgOpenCfg t path s) := .privCmd .imgOpen
theorem Fits.imgEnd {result} (h : Fits s) : Fits (imgEnd s result) := h.frame rfl
theorem EffectFits.execImgEraseDone {t ok} : EffectFits s (execImgEraseDone t ok s) :=
  .act fun h => h.when fun h => .ite h.editSlot.setImg h.imgEnd

theorem Fits.imgData {value} (h : Fits s) : Fits (imgData s value) := h.frame (by simp [imgData_keeps _ _])
theorem EffectFits.execImgDataWrite {t path value} : EffectFits s (execImgDataWrite t path value s) := .privCmd .imgData
theorem Fits.imgProgram {v} (h : Fits s) : Fits (imgProgram s v) := h.frame rfl
theorem Fits.imgCommit {v} (h : Fits s) : Fits (imgCommit s v) :=
  .ite h (.ite h.setImg (.ite h.imgEnd (.ite h.imgEnd.faultReport (.ite h.imgEnd h.imgProgram.imgEnd))))

theorem EffectFits.execImgCommit {t path verdict} : EffectFits s (execImgCommit t path verdict s) := .privCmd .imgCommit
theorem Fits.imgCommitFree (h : Fits s) : Fits (imgCommitFree s) := h.same.imgCommit
theorem EffectFits.execImgAbandon {t path} : EffectFits s (execImgAbandon t path s) := .privCmd .abandonImage

/-! ### Operations and commands of Machine/Boot.lean -/

theorem Fits.folioReset {warm} (h : Fits s) : Fits (folioReset s warm) :=
  h.shrink (openWords_folioReset_le s warm) (folioReset_notices_sublist s warm)

theorem Fits.takeDirectory {d copy1} (h : Fits s) : Fits (takeDirectory s d copy1) := h.frame rfl
theorem Fits.reportRefusal (h : Fits s) : Fits (reportRefusal s) := h.faultReport
theorem Fits.reportRefusals : ∀ {k s}, Fits s → Fits (reportRefusals k s)
  | 0, _, h => h
  | _ + 1, _, h => h.reportRefusal.reportRefusals

theorem Fits.bootHold {code} (h : Fits s) : Fits (bootHold s code) := h.frame rfl
theorem Fits.bootEngine {e} (h : Fits s) : Fits (bootEngine s e) := .ite h.faultReport h.clusterFail
theorem Fits.bootEngines {bad} (h : Fits s) : Fits (bootEngines s bad) := h.foldl .bootEngine
theorem Fits.bootKeys (h : Fits s) : Fits (bootKeys s) := by
  unfold Machine.bootKeys
  dsimp only
  split
  · exact h.reportRefusals.setSeal
  · exact h.reportRefusals

theorem Fits.applySettings {xs} (h : Fits s) : Fits (applySettings s xs) := h.frame (by simp [applySettings_keeps _ _])
theorem Fits.commitEpochOne (h : Fits s) : Fits (commitEpochOne s) :=
  .record (.same (.draw (.publish (h.setRubric.evalMinOver.serviceCheck.eachPort .barCheck))))

theorem Fits.bootConfig (h : Fits s) : Fits (bootConfig s) := by
  unfold Machine.bootConfig
  dsimp only
  split
  · exact h.reportRefusals.same.applySettings.commitEpochOne
  · exact h.reportRefusals.same.applySettings.marker.commitEpochOne

theorem Fits.bootLoad (h : Fits s) : Fits (bootLoad s) := by
  unfold Machine.bootLoad
  split
  · exact h.bootHold
  · dsimp only
    split
    · exact h.takeDirectory.reportRefusals.same.same.bootHold.bootScan
    · exact h.takeDirectory.reportRefusals.same.same.setSeal.bootEngines.bootKeys.bootConfig.bootScan

theorem Fits.takeNor {nor} (h : Fits s) : Fits (takeNor s nor) := h.frame (by simp [takeNor_keeps _ _])
theorem EffectFits.execFolioResetRelease {t nor} : EffectFits s (execFolioResetRelease t nor s) :=
  .act fun h => h.when fun h => h.folioReset.enterMode.takeNor.bootLoad

theorem Fits.linkCause (h : Fits s) : Fits (linkCause s) := h.frame (by simp [linkCause_keeps _])
theorem Fits.warmBoot {persist nor} (h : Fits s) : Fits (warmBoot s persist nor) := by
  unfold Machine.warmBoot
  extract_lets s0 s1 src s2 s3
  have h1 : Fits s1 := .ite h.abandonImage.persistEverything h.abandonImage
  have h2 : Fits s2 := (h1.same.dropHosts.eachPort .disableOpen).decideNow
  have h3 : Fits s3 := h2.folioReset.rcCount.enterMode
  exact (h3.foldl .pushRecord).linkCause.takeNor.bootLoad

theorem Fits.fillBuckets (h : Fits s) : Fits (fillBuckets s) := h.frame (by simp [fillBuckets_keeps _])
theorem Fits.releaseHeld {x} (h : Fits s) : Fits (releaseHeld s x) := by
  unfold Machine.releaseHeld
  split
  · exact h.recordAt.reportPortFet
  · exact h.recordAt.reportInputFet
  · exact h.faultReport.enterQuarantine

theorem Fits.startPeriods (h : Fits s) : Fits (startPeriods s) := h.sameQueues rfl fun _ => Nat.le_refl _
theorem Fits.leaveBoot (h : Fits s) : Fits (leaveBoot s) := by
  unfold Machine.leaveBoot
  extract_lets target src1 s1 src2 s2 s3
  have h1 : Fits s1 := h.same.heatCause.passCause
  have h2 : Fits s2 := .ite h1.enterMode h1.same.enterMode
  have h3 : Fits s3 := h2.applyPortModes.recomputeShares.homeStampAll.eachPort .presentRp
  exact .ite h3 (.ite h3.enterBrownout.brownoutSheds.flushAfterSheds h3.brownoutSheds.flushAfterSheds)

theorem Fits.bootEnd (h : Fits s) : Fits (bootEnd s) := .leaveBoot (h.draw.same.fillBuckets.startPeriods.same.foldl .releaseHeld)
theorem EffectFits.execBootEnd {t} : EffectFits s (execBootEnd t s) := .act fun h => h.when .bootEnd

/-! ### Operations and commands of Machine/Admission.lean -/

theorem Fits.allocCtx (h : Fits s) : Fits (allocCtx s).1 := h.frame rfl
theorem Fits.refuseAdmission {n v resource ctx} (h : Fits s) : Fits (refuseAdmission s n v resource ctx) := h.frame (by simp [refuseAdmission_keeps _ _ _ _ _])

/-! ### Operations and commands of Machine/HostCmds.lean -/

theorem Fits.markStarted {v slot} (h : Fits s) : Fits (markStarted s v slot) := h.frame rfl
theorem Fits.startOn {v e f} (h : Fits s) (hf : ∀ {u e n}, Fits u → Fits (f u e n)) : Fits (startOn s v e f) :=
  .ite h.markStarted.finishCmd (.ite h.markStarted.finishCmd (.ite h.markStarted.finishCmd (hf h.markStarted)))

/-- The frame of a ring command (R108, R110). -/
theorem EffectFits.runCmd {t v slot type pick f} (hf : ∀ {u e n}, Fits u → Fits (f u e n)) :
    EffectFits s (runCmd t v slot type pick s f) := .act fun h => by
  split
  · exact h.when fun h => h.startOn hf
  · exact h

theorem EffectFits.execNoopCmd {t v slot} : EffectFits s (execNoopCmd t v slot s) := .runCmd .finishCmd
theorem EffectFits.execClaim {t v slot} : EffectFits s (execClaim t v slot s) := .runCmd fun h => .ite h.finishCmd h.stampP4
theorem EffectFits.execRelease {t v slot} : EffectFits s (execRelease t v slot s) := .runCmd .stampP4
theorem EffectFits.execRenewLease {t v slot} : EffectFits s (execRenewLease t v slot s) := .runCmd fun h => h.renewLeases.finishCmd
theorem Fits.resetPort {v e n warm} (h : Fits s) : Fits (resetPort s v e n warm) := .ite h.finishCmd h.releaseTree.setNib.resetBoth
theorem EffectFits.execResetPort {t v slot} : EffectFits s (execResetPort t v slot s) := .runCmd .resetPort
theorem EffectFits.execResetPortWarm {t v slot} : EffectFits s (execResetPortWarm t v slot s) := .runCmd .resetPort
theorem EffectFits.execResetPortTimeout {t port} : EffectFits s (execResetPortTimeout t port s) := .act fun h => h.when .finishReset
theorem Fits.suspendPort {v e n} (h : Fits s) : Fits (suspendPort s v e n) := by
  refine .ite h.finishCmd ?_
  split
  · exact h.setNib.treeSuspend
  · exact h.setNib
  · exact h.finishCmd
  · exact h.setNib

theorem EffectFits.execSuspendPort {t v slot} : EffectFits s (execSuspendPort t v slot s) := .runCmd .suspendPort
theorem EffectFits.execResumePort {t v slot} : EffectFits s (execResumePort t v slot s) := .runCmd fun h => by
  refine .ite h.finishCmd ?_
  split
  · exact h.finishCmd
  · exact h.setNib
  · exact h.setNib
  · exact h.setNib.treeResume

theorem Fits.suspendDone {n u3} (h : Fits s) : Fits (suspendDone s n u3) := by
  unfold Machine.suspendDone
  dsimp only
  split
  · exact h.setNib.finishCmd.portStateNotice
  · exact h.setNib

theorem EffectFits.execSuspendComplete {t port u3} : EffectFits s (execSuspendComplete t port u3 s) := .act fun h => by
  split
  · exact h.when .suspendDone
  · exact h

theorem EffectFits.execResumeSignalEnd {t port} : EffectFits s (execResumeSignalEnd t port s) := .act fun h => by
  split
  · exact h.when fun h => .ite h.setNib.emit.emit h.setNib
  · exact h

theorem Fits.resumeDone {n} (h : Fits s) : Fits (resumeDone s n) := by
  unfold Machine.resumeDone
  extract_lets b s1 s2 s3
  have h2 : Fits s2 := by
    dsimp only [s2]
    split
    · exact h.setNib.finishCmd.portStateNotice
    · exact .ite h.setNib.notice h.setNib
  split
  · exact h2.hubResumed.refreshAges.setNib.treeSuspend
  · exact h2.hubResumed.refreshAges

theorem EffectFits.execResumeComplete {t port} : EffectFits s (execResumeComplete t port s) := .act fun h => by
  split
  · exact h.when .resumeDone
  · exact h

theorem EffectFits.execAddressDevice {t v slot} : EffectFits s (execAddressDevice t v slot s) := .runCmd fun h => by
  refine .ite h.finishCmd ?_
  split
  · exact h.finishCmd
  · dsimp only
    split
    · exact h.allocCtx.setNib.emit
    · exact h.allocCtx.finishCmd

theorem Fits.addressDone {n a} (h : Fits s) : Fits (addressDone s n a) := h.same.setNib.finishCmd
theorem EffectFits.execSetAddressRecovery {t port} : EffectFits s (execSetAddressRecovery t port s) := .act fun h => by
  split
  · split
    · exact h.when .addressDone
    · exact h
  · exact h

theorem EffectFits.execDisableDevice {t v slot} : EffectFits s (execDisableDevice t v slot s) :=
  .runCmd fun h => .ite (.refreshAges (.finishCmd (.releaseDevice (h.foldl .abandonSplit)))) h.finishCmd

theorem Fits.configureEp {v e n} (h : Fits s) : Fits (configureEp s v e n) := by
  refine .ite h.finishCmd ?_
  refine .ite h.finishCmd ?_
  refine .ite ?_ ?_
  · split
    · exact h.allocCtx.same.finishCmd
    · exact h.allocCtx.finishCmd
  · dsimp only
    split
    · exact h.allocCtx.refuseAdmission.finishCmd
    · exact h.allocCtx.refuseAdmission.finishCmd
    · exact h.allocCtx.same.finishCmd

theorem EffectFits.execConfigureEndpoint {t v slot} : EffectFits s (execConfigureEndpoint t v slot s) := .runCmd .configureEp
theorem EffectFits.execBindEndpointRing {t v slot} : EffectFits s (execBindEndpointRing t v slot s) :=
  .runCmd fun h => .ite h.finishCmd (.ite h.finishCmd h.setEp.finishCmd)

theorem Fits.settleIdle {ctx} (h : Fits s) : Fits (settleIdle s ctx) := h.frame (by simp [settleIdle_keeps _ _])
theorem Fits.stopNow {v slot ctx n} (h : Fits s) : Fits (stopNow s v slot ctx n) := by
  unfold Machine.stopNow
  extract_lets s1 s2 s3
  have h1 : Fits s1 := by
    dsimp only [s1]
    split
    · exact h.abandonSplit.endAndSettle
    · exact h
  have h3 : Fits s3 := h1.stopEp.setEp.settleIdle.refreshAges
  split
  · exact h3.finishCmd
  · exact h3.draw.finishCmd

theorem EffectFits.execStopEndpoint {t v slot onWire} : EffectFits s (execStopEndpoint t v slot onWire s) :=
  .runCmd fun h => .ite h.setEp h.stopNow

theorem EffectFits.execResetEndpoint {t v slot} : EffectFits s (execResetEndpoint t v slot s) := .runCmd fun h => h.setEp.finishCmd
theorem EffectFits.execDisableEndpoint {t v slot} : EffectFits s (execDisableEndpoint t v slot s) :=
  .runCmd fun h => h.abandonSplit.releaseEp.finishCmd.refreshAges

theorem EffectFits.execSetReadAhead {t v slot} : EffectFits s (execSetReadAhead t v slot s) :=
  .runCmd fun h => .ite h.finishCmd h.setEp.claimRoom.finishCmd

theorem EffectFits.execReadAheadOff {t v slot} : EffectFits s (execReadAheadOff t v slot s) :=
  .runCmd fun h => h.setEp.settleIdle.finishCmd

theorem EffectFits.execQueryPort {t v slot} : EffectFits s (execQueryPort t v slot s) :=
  .runCmd fun h => .ite h.finishCmd (.ite h.hostWrite.finishCmd h.finishCmd)

theorem EffectFits.execQueryVi {t v slot} : EffectFits s (execQueryVi t v slot s) :=
  .runCmd fun h => .ite h.hostWrite.finishCmd h.finishCmd

theorem Fits.replayAll {v cs} (h : Fits s) : Fits (replayAll s v cs) := h.frame (by simp [replayAll_keeps _ _ _])
theorem EffectFits.execReplay {t v slot} : EffectFits s (execReplay t v slot s) := .runCmd fun h => h.earlierNotices.replayAll.finishCmd
theorem Fits.endResync {v} (h : Fits s) : Fits (endResync s v) := h.setVi.deliverAll.same.kickFetch.refreshAges
theorem EffectFits.execResume {t v slot} : EffectFits s (execResume t v slot s) :=
  .runCmd fun h => .ite h.finishCmd h.setVi.replayAll.finishCmd.endResync

/-! ### Operations and commands of Machine/Bus.lean -/

theorem Fits.observe {e x} (h : Fits s) : Fits (observe s e x) := h.frame rfl
theorem Fits.countBusError {n} (h : Fits s) : Fits (countBusError s n) := h.frame rfl
theorem Fits.xferError {e x} (h : Fits s) : Fits (xferError s e x) := .ite h.countBusError.setXfer.concludeXfer h.countBusError.setXfer
theorem Fits.xferWaits {e x r} (h : Fits s) : Fits (xferWaits s e x r) := h.frame (by simp [xferWaits_keeps _ _ _ _])
theorem Fits.bumpToggle {e} (h : Fits s) : Fits (bumpToggle s e) := h.frame rfl
theorem Fits.takeIn {e x bs} (h : Fits s) : Fits (takeIn s e x bs).1 := h.frame (by simp [takeIn_keeps _ _ _ _])
theorem Fits.bulkIn {e x bs ok} (h : Fits s) : Fits (bulkIn s e x bs ok) :=
  .ite h.setXfer <|
    .ite h.takeIn.bumpToggle.concludeXfer <|
    .ite h.takeIn.bumpToggle.concludeXfer (.ite h.takeIn.bumpToggle.concludeXfer h.takeIn.bumpToggle)

theorem Fits.takeOut {e x} (h : Fits s) : Fits (takeOut s e x).1 := h.frame (by simp [takeOut_keeps _ _ _])
theorem Fits.bulkOut {e x nyet} (h : Fits s) : Fits (bulkOut s e x nyet) :=
  .ite h.setXfer.setEp (.ite h.takeOut.bumpToggle.setEp.concludeXfer h.takeOut.bumpToggle.setEp)

theorem Fits.bulkXact {e x r} (h : Fits s) : Fits (bulkXact s e x r) := by
  unfold Machine.bulkXact
  split
  · exact h.concludeXfer
  · exact h.xferError
  · exact .ite h.takeIn.concludeXfer h
  · exact .ite h.bulkIn h
  · exact .ite h h.bulkOut
  · exact .ite h.xferWaits h.bulkOut
  · exact h.xferWaits

theorem Fits.controlDone {e x} (h : Fits s) : Fits (controlDone s e x) := .ite h.concludeXfer h.observe.concludeXfer
theorem Fits.controlMoves {e x data} (h : Fits s) : Fits (controlMoves s e x data) := by
  unfold Machine.controlMoves
  dsimp only
  split
  · exact h.setEp.setXfer
  · exact .ite h (.ite h.setEp.takeIn.concludeXfer (.ite h.setEp.takeIn.setXfer h.setEp.takeIn))
  · exact .ite h (.ite h.setEp.takeOut.setXfer h.setEp.takeOut)
  · exact .ite h.setEp.setXfer.controlDone h
  · exact .ite h h.setEp.setXfer.controlDone
  · exact h

theorem Fits.controlXact {e x r} (h : Fits s) : Fits (controlXact s e x r) := by
  unfold Machine.controlXact
  split
  · exact h.concludeXfer
  · exact h.xferError
  · exact .ite h.takeIn.concludeXfer h
  · exact .ite h.controlMoves h.setXfer
  · exact h.controlMoves
  · exact .ite h.xferWaits h.controlMoves
  · exact h.xferWaits

theorem Fits.isochWrite {e x} (h : Fits s) : Fits (isochWrite s e x).1 := h.frame (by simp [isochWrite_keeps _ _ _])
theorem Fits.isochEnd {e x code} (h : Fits s) : Fits (isochEnd s e x code) := .ite h.isochWrite.concludeXfer h.concludeXfer
theorem Fits.isochXact {e x r} (h : Fits s) : Fits (isochXact s e x r) := by
  unfold Machine.isochXact
  dsimp only
  split
  · exact .ite (.ite h.setXfer h.setXfer) h
  · exact .ite (.ite h.setXfer h.setXfer) h
  · exact h.countBusError.isochEnd
  · exact .ite h h.setXfer
  · exact h

theorem Fits.isochBegin {e x} (h : Fits s) : Fits (isochBegin s e x) := .ite h.setXfer (.ite h.emit.concludeXfer h.setXfer)
theorem Fits.isochStep {ctx} : ∀ {k s}, Fits s → Fits (isochStep k s ctx)
  | 0, _, h => h
  | _ + 1, _, h => by
    unfold Machine.isochStep
    split
    · exact h
    · split
      · exact h
      · refine .ite h ?_
        split
        · split
          · exact h.concludeXfer.isochStep
          · exact h
        · exact .ite h.isochEnd.isochStep (.ite h.isochBegin h)

theorem Fits.isochBoundary {n} (h : Fits s) : Fits (isochBoundary s n) := by
  unfold Machine.isochBoundary
  split
  · exact h
  · exact .ite h (h.foldl .isochStep)

theorem Fits.raXact {e r} (h : Fits s) : Fits (raXact s e r) := h.frame (by simp [raXact_keeps _ _ _])
theorem Fits.busActive {n ss} (h : Fits s) : Fits (busActive s n ss) := h.frame rfl
theorem Fits.resetAge {ctx} (h : Fits s) : Fits (resetAge s ctx) := h.frame rfl
theorem Fits.epXact {e r} (h : Fits s) : Fits (epXact s e r) := by
  unfold Machine.epXact
  extract_lets s1 s2
  have h1 : Fits s1 := h.busActive.resetAge
  have h2 : Fits s2 := by
    dsimp only [s2]
    split
    · refine .ite ?_ (.ite h1.raXact h)
      have h0 {b : Bool} {o} : Fits (if b then Machine.emit s1 o else s1) := .ite h1.emit h1
      split
      · exact .ite h0.controlXact (.ite h0.isochXact h0.bulkXact)
      · exact h0
    · exact .ite h1.raXact (.ite h.setEp h)
  split
  · exact h2.stopNow
  · exact h2.advance

theorem Fits.previewXact {n r} (h : Fits s) : Fits (previewXact s n r) := by
  unfold Machine.previewXact
  dsimp only
  split
  · exact h
  · split
    · exact .ite h.setNib.endPreview (.ite h.setNib.previewSend h.setNib.endPreview)
    · exact h.endPreview
    · exact h.endPreview
    · exact .ite h.countBusError.setNib.endPreview h.countBusError.setNib.previewSend
    · exact h

theorem Fits.addressXact {n r} (h : Fits s) : Fits (addressXact s n r) := by
  unfold Machine.addressXact
  split
  · exact h
  · refine .ite h ?_
    split
    · exact h.setNib
    · exact h.setNib
    · exact h.setNib.finishCmd
    · exact .ite h.countBusError.setNib.rcCount.setNib.finishCmd h.countBusError.setNib.emit
    · exact h

theorem Fits.busXact {n who r} (h : Fits s) : Fits (busXact s n who r) := by
  unfold Machine.busXact
  split
  · exact h.when .previewXact
  · exact h.addressXact
  · exact h.ligXact
  · exact h.when .funcInToken
  · split
    · exact h.when .epXact
    · exact h

/-! ### Operations and commands of Machine/BusCmds.lean -/

theorem EffectFits.execBusTransaction {t port who result} : EffectFits s (execBusTransaction t port who result s) :=
  .act fun h => h.when .busXact

theorem EffectFits.execTurnaroundTimeout {t port who} : EffectFits s (execTurnaroundTimeout t port who s) :=
  .act fun h => h.when .busXact

theorem EffectFits.execPreviewTimeLimit {t port} : EffectFits s (execPreviewTimeLimit t port s) := .act fun h => by
  split
  · exact h.when .endPreview
  · exact h

theorem EffectFits.execEndpointPromotion {t ctx} : EffectFits s (execEndpointPromotion t ctx s) := .act fun h => by
  split
  · split
    · exact h.when .setEp
    · exact h
  · exact h

theorem Fits.outArrived {v ctx data failed} (h : Fits s) : Fits (outArrived s v ctx data failed) := by
  unfold Machine.outArrived
  split
  · exact h
  · split
    · exact h
    · exact .ite (.ite h.setXfer.concludeXfer h.setXfer.advance) h.setXfer.settleCtx.advance

theorem Fits.readArrived {v what data failed} (h : Fits s) : Fits (readArrived s v what data failed) := by
  unfold Machine.readArrived
  split
  · exact h.when .fetchComplete
  · exact h.outArrived

theorem EffectFits.execRdmaReadResponse {t v what data} : EffectFits s (execRdmaReadResponse t v what data s) :=
  .act fun h => h.when .readArrived

theorem EffectFits.execDmaReadCompletion {t v what data failed} : EffectFits s (execDmaReadCompletion t v what data failed s) :=
  .act fun h => h.when fun h => .readArrived (.ite h.rcCount h)

theorem EffectFits.execIsochDataFetch {t ctx} : EffectFits s (execIsochDataFetch t ctx s) := .act fun h => h.when fun h => by
  split
  · exact h
  · exact h.when fun h => h.foldl .askOut

theorem Fits.rootConnected {n ss} (h : Fits s) : Fits (rootConnected s n ss) := by
  unfold Machine.rootConnected
  dsimp only
  split
  · exact .ite (.ite h.setNib h.setNib.attachRoot) (.reset2 (.ite h.setNib.setNib h.setNib))
  · exact .ite h.setNib h.setNib.viewConnect
  · exact .ite h.setNib.notice h.setNib

theorem EffectFits.execUsb2ConnectDebounced {t port low} : EffectFits s (execUsb2ConnectDebounced t port low s) :=
  .act fun h => h.when fun h => h.setNib.rootConnected

theorem EffectFits.execReceiverDetect {t port found gen2} : EffectFits s (execReceiverDetect t port found gen2 s) :=
  .act fun h => h.when fun h => .ite h.emit.setNib.emit h.emit.setNib

theorem Fits.pathReset {n ss fresh} (h : Fits s) : Fits (pathReset s n ss fresh) := by
  refine .ite h.setNib.finishReset ?_
  refine .ite h.setNib.rootConnected ?_
  split
  · exact .ite h.setNib h.setNib.attachRoot
  · exact h.setNib

theorem EffectFits.execSsU0Entry {t port gen2} : EffectFits s (execSsU0Entry t port gen2 s) := .act fun h => h.when fun h => by
  dsimp only
  split
  · exact h.setNib.pathReset
  · exact .ite h.setNib.hubResetSDone h.setNib.pathReset
  · exact h.setNib
  · exact h.setNib
  · exact h.when .setNib
  · exact h

theorem EffectFits.execSsTrainingTimeout {t port} : EffectFits s (execSsTrainingTimeout t port s) := .act fun h => by
  split
  · exact h.when fun h => h.setNib.rcCount.portStateNotice.finishReset
  · exact h

theorem EffectFits.execDeviceChirpSeen {t port startUs tenths} :
    EffectFits s (execDeviceChirpSeen t port startUs tenths s) := .act fun h => h.when fun h => by
  split
  · exact h.when fun h => h.setCPort.emit
  · exact h.when fun h => h.setNib.emit
  · exact h

theorem Fits.alignBus {n} (h : Fits s) : Fits (alignBus s n) := h.frame (by simp [alignBus_keeps _ _])
theorem EffectFits.execRootResetEnd {t port} : EffectFits s (execRootResetEnd t port s) := .act fun h => by
  split
  · exact h.when fun h => h.setNib.emit.alignBus.pathReset
  · exact h

theorem EffectFits.execResetRecoveryEnd {t port} : EffectFits s (execResetRecoveryEnd t port s) := .act fun h => by
  split
  · exact h.when fun h => .ite h.setNib.previewSend h.setNib.refreshAges
  · exact h

theorem Fits.breakEp {ctx code} (h : Fits s) : Fits (breakEp s ctx code) := by
  unfold Machine.breakEp
  split
  · exact h
  · exact .ite h (.ite h.abandonSplit.endQueue.haltEp h.abandonSplit.endQueue)

theorem EffectFits.execBabbleDetected {t port ctx} : EffectFits s (execBabbleDetected t port ctx s) := .act fun h => h.when fun h => by
  extract_lets s1 s2 s3 s4
  have h1 : Fits s1 := h.setNib.rcCount
  have h2 : Fits s2 := by
    dsimp only [s2]
    split
    · refine .ite ?_ h1
      split
      · exact h1.concludeXfer
      · exact h1
    · exact h1
  have h3 : Fits s3 := h2.foldl .breakEp
  have h4 : Fits s4 := by
    dsimp only [s4]
    split
    · exact h3.setView
    · exact h3
  exact h4.portStateNotice.refreshAges

theorem Fits.settleSusp {n} (h : Fits s) : Fits (settleSusp s n) := h.frame rfl
theorem EffectFits.execUsb2Disconnect {t port} : EffectFits s (execUsb2Disconnect t port s) :=
  .act fun h => h.when fun h => h.pathGone.settleSusp.finishReset

theorem EffectFits.execSsLinkLost {t port} : EffectFits s (execSsLinkLost t port s) :=
  .act fun h => h.when fun h => h.pathGone.settleSusp.finishReset

theorem EffectFits.execClearTtBufferDone {t port ok} : EffectFits s (execClearTtBufferDone t port ok s) := .act fun h => by
  split
  · exact h
  · exact h.when fun h => .ite h.setNib.setEp.advance h.setNib.record

theorem EffectFits.execL1Entry {t port acked} : EffectFits s (execL1Entry t port acked s) := .act fun h => h.when fun h => h.emit.setNib
theorem EffectFits.execU1Entry {t port byDevice} : EffectFits s (execU1Entry t port byDevice s) :=
  .act fun h => h.when fun h => .setNib (.ite h h.emit)

theorem EffectFits.execU2Entry {t port byDevice} : EffectFits s (execU2Entry t port byDevice s) :=
  .act fun h => h.when fun h => .setNib (.ite h h.emit)

theorem EffectFits.execLpmRefusalHoldExpiry {t port} : EffectFits s (execLpmRefusalHoldExpiry t port s) := .act fun h => by
  split
  · exact h.when .setNib
  · exact h

theorem EffectFits.execRemoteWake {t port ss} : EffectFits s (execRemoteWake t port ss s) := .act fun h => h.when fun h => by
  dsimp only
  split
  · exact .ite h.wakeSource.setNib.treeResume h.wakeSource
  · exact .ite (.ite h.wakeSource.treeResume.emit h.wakeSource.treeResume) h.wakeSource
  · exact .ite h.wakeSource.record.notice h.wakeSource

theorem Fits.stuckNotice {n} (h : Fits s) : Fits (stuckNotice s n) := h.notice
theorem Fits.stuckWait {n k} (h : Fits s) : Fits (stuckWait s n k) := h.setNib.stuckNotice
theorem Fits.declareStuck {n} (h : Fits s) : Fits (declareStuck s n) := h.releasePath.viewDisconnect.setNib.rcCount.record.stuckWait
theorem EffectFits.execStuckProbe {t port failed connects} : EffectFits s (execStuckProbe t port failed connects s) :=
  .act fun h => h.when fun h => .via (fun h => .ite h.setNib (.ite h.setNib h.declareStuck)) (.ite h h.emit)

theorem EffectFits.execStuckRetest {t port passed} : EffectFits s (execStuckRetest t port passed s) :=
  .act fun h => h.when fun h => .ite h.emit.setNib h.emit.stuckWait

/-! ### Operations and commands of Machine/MarginCmds.lean -/

theorem EffectFits.execHeartbeat {t} : EffectFits s (execHeartbeat t s) := 
  .act fun h => h.when fun h => (h.foldl .heartbeatInto).sameQueues rfl fun _ => Nat.le_refl _

theorem Fits.bcGate {p f} (h : Fits s) (hf : Fits s → Fits (f s)) : Fits (bcGate s p f) := .ite (hf h) h.recordAt
theorem Fits.openHead (h : Fits s) : Fits (openHead s) := ⟨fun q => Nat.le_trans (Nat.le_of_eq (queueWords_openHead q)) (h.within q)⟩

theorem Fits.bcHeadRead {p which} (h : Fits s) : Fits (bcHeadRead s p which).1 := .iteFst h.openHead (h.bcGate fun h => h)
theorem EffectFits.execBcHeadRead {t path which} : EffectFits s (execBcHeadRead t path which s) :=
  .act fun h => h.when fun h => .ite h.bcHeadRead.emit h.privDenied.emit

theorem Fits.popWord (h : Fits s) : Fits (popWord s) := by
  unfold Machine.popWord
  dsimp only
  split
  · exact h
  · exact .ite (h.openHead.sameQueues rfl (openWords_popped_le ‹_› ‹_› (Nat.le_succ _))) (h.openHead.sameQueues rfl openWords_closed_le)

theorem Fits.skipNotice (h : Fits s) : Fits (skipNotice s) := h.sameQueues rfl openWords_closed_le
theorem EffectFits.execBcPop {t path} : EffectFits s (execBcPop t path s) := .privCmd fun h => h.bcGate .popWord
theorem EffectFits.execBcSkip {t path} : EffectFits s (execBcSkip t path s) := .privCmd fun h => h.bcGate .skipNotice
theorem Fits.flushBoard (h : Fits s) : Fits (flushBoard s) :=
  (h.setQueue (q := boardQueue) (f := fun x => { x with notices := [] }) (List.nil_sublist _)).sameQueues rfl openWords_closed_le

theorem EffectFits.execBcFlush {t path} : EffectFits s (execBcFlush t path s) := .privCmd fun h => h.bcGate .flushBoard
theorem Fits.irqAck (h : Fits s) : Fits (irqAck s) := h.sameQueues rfl fun _ => Nat.le_refl _
theorem EffectFits.execBcIrqAck {t path} : EffectFits s (execBcIrqAck t path s) := .privCmd .irqAck
theorem EffectFits.execIrqLineSample {t low} : EffectFits s (execIrqLineSample t low s) :=
  .act fun h => h.when fun h => .recordLimited (h.sameQueues rfl fun _ => Nat.le_refl _) .record

theorem EffectFits.execIrqLineHigh {t} : EffectFits s (execIrqLineHigh t s) :=
  .act fun h => h.sameQueues rfl fun _ => Nat.le_refl _

/-! ### Operations and commands of Machine/Modes.lean -/

theorem Fits.linkFirstUp (h : Fits s) : Fits (linkFirstUp s) := h.frame (by simp [linkFirstUp_keeps _])
theorem EffectFits.execD2dLinkFirstUp {t} : EffectFits s (execD2dLinkFirstUp t s) := .act fun h => h.when .linkFirstUp
theorem EffectFits.execD2dFrame {t payload crc} : EffectFits s (execD2dFrame t payload crc s) :=
  .act fun h => h.when fun h => .ite h.same h.emit

theorem Fits.stopSwitchOn {n} (h : Fits s) : Fits (stopSwitchOn s n) := .ite (.ite h.setPower.powerOffPort h.setPower) h
theorem Fits.linkLost (h : Fits s) : Fits (linkLost s) :=
  .via (fun h => .ite h.faultReport h.faultReport.same.enterQuarantine) (h.same.eachPort .stopSwitchOn)

theorem EffectFits.execD2dLinkLost {t} : EffectFits s (execD2dLinkLost t s) := .act fun h => h.when .linkLost
theorem Fits.linkHoldExpiry (h : Fits s) : Fits (linkHoldExpiry s) :=
  h.same.eachPort fun h => .ite (.ite h.quarantineOff (.ite h.gateOff h.gateOff.converterOff)) h

theorem EffectFits.execLinkLossHoldExpiry {t} : EffectFits s (execLinkLossHoldExpiry t s) := .act fun h => h.when .linkHoldExpiry
theorem Fits.linkRestored (h : Fits s) : Fits (linkRestored s) := h.same.eachPort fun h => .ite h.quarantineOff h
theorem EffectFits.execD2dLinkRestored {t} : EffectFits s (execD2dLinkRestored t s) := .act fun h => h.when .linkRestored
theorem Fits.railFail (h : Fits s) : Fits (railFail s) :=
  .followInput (.same (h.folioReset.eachPort fun h => .ite h h.setPower.converterOff))

theorem EffectFits.execFolioRailFail {t} : EffectFits s (execFolioRailFail t s) := .act fun h => h.when .railFail
theorem EffectFits.execResetNPulse {t nor} : EffectFits s (execResetNPulse t nor s) := .act fun h => h.when .warmBoot
theorem EffectFits.execHoldupFlushComplete {t} : EffectFits s (execHoldupFlushComplete t s) :=
  .act fun h => h.when fun h => .ite h.warmBoot h.same

theorem EffectFits.execParkedInputRestored {t} : EffectFits s (execParkedInputRestored t s) := .act fun h => h.when .warmBoot
theorem Fits.answerMode {code} (h : Fits s) : Fits (answerMode s code) := h.frame rfl
theorem Fits.modeManaged (h : Fits s) : Fits (modeManaged s) := .ite h.answerMode.enterMode.homeStampAll h.refuseMode
theorem EffectFits.execModeManaged {t path} : EffectFits s (execModeManaged t path s) := .privCmd .modeManaged
theorem Fits.modeSuspend (h : Fits s) : Fits (modeSuspend s) := h.frame (by simp [modeSuspend_keeps _])
theorem EffectFits.execModeSuspend {t path} : EffectFits s (execModeSuspend t path s) := .privCmd .modeSuspend
theorem EffectFits.execSuspendReached {t} : EffectFits s (execSuspendReached t s) :=
  .act fun h => h.when fun h => h.same.answerMode.enterMode

theorem Fits.enterStandby (h : Fits s) : Fits (enterStandby s) :=
  .same (.decideNow (.dropHosts (.lastNotices (h.abandonImage.same.enterMode.eachPort .disableOpen))))

theorem Fits.modeStandby (h : Fits s) : Fits (modeStandby s) := .ite h.refuseMode (.ite h.answerMode h.enterStandby)
theorem EffectFits.execModeStandby {t path} : EffectFits s (execModeStandby t path s) := .privCmd .modeStandby
theorem EffectFits.execStandbyReached {t} : EffectFits s (execStandbyReached t s) :=
  .act fun h => h.when fun h => h.same.applyPortModes.eachPort .converterOff

theorem Fits.modeWake (h : Fits s) : Fits (modeWake s) := .ite h.answerMode.wakeSource (.ite h.answerMode.warmBoot h.refuseMode)
theorem EffectFits.execModeWake {t path} : EffectFits s (execModeWake t path s) := .privCmd .modeWake
theorem Fits.modeReboot (h : Fits s) : Fits (modeReboot s) := .ite h.refuseMode h.answerMode.warmBoot
theorem EffectFits.execModeReboot {t path} : EffectFits s (execModeReboot t path s) := .privCmd .modeReboot
theorem EffectFits.execStandbyWakeAttach {t port} : EffectFits s (execStandbyWakeAttach t port s) := .act fun h => h.when .warmBoot

/-! ### Operations and commands of Machine/SetupSpace.lean -/

theorem Fits.readLow {p a} (h : Fits s) : Fits (readLow s p a).1 := h.frame rfl
theorem Fits.readHigh {p a} (h : Fits s) : Fits (readHigh s p a).1 := h.frame (by simp [readHigh_keeps _ _ _])
theorem Fits.readStatus {p a} (h : Fits s) : Fits (readStatus s p a).1 :=
  .iteFst h.bcHeadRead (.iteFst h.bcHeadRead (.iteFst h.bcHeadRead (.iteFst h.readLow (.iteFst h.readHigh h))))

theorem Fits.readReg {p a} (h : Fits s) : Fits (readReg s p a).1 := by
  unfold Machine.readReg
  split
  · exact h
  · refine .iteFst h.privDenied ?_
    refine .iteFst h.accessFault ?_
    split
    · exact h
    · exact h
    · exact h.rcClear
    · exact h.readStatus

/-- One bit of a write-1 register: its action where the bit is set. -/
theorem Fits.bit {b : Bool} {f : State → State} (h : Fits s) (hf : Fits s → Fits (f s)) : Fits (if b then f s else s) :=
  .ite (hf h) h

theorem Fits.modeCtrl {w} (h : Fits s) : Fits (modeCtrl s w) :=
  .ite h.refuseMode (.bit (.bit (.bit (.bit (h.bit .modeManaged) .modeSuspend) .modeStandby) .modeWake) .modeReboot)

theorem Fits.w1pGlobal {p a w} (h : Fits s) : Fits (w1pGlobal s p a w) :=
  .ite (.ite h.rubricAbort (.ite h.rubricCommit h)) <|
    .ite (h.bit .timeSample) <|
    .ite h.modeCtrl <|
    .ite (.bit (.bit (.bit (h.bit .imgOpen) .imgOpen) .imgCommitFree) .abandonImage) <|
    .ite (h.bit .quarExit) <|
    .ite (.bit (.bit (h.bit .advanceFloor) .returnArm) .returnDisarm) <|
    .ite (.bit (.bit (h.bit .keyLoad) .keyWithdraw) .fuseOwner) h

theorem Fits.w1pBlock {p a w} (h : Fits s) : Fits (w1pBlock s p a w) :=
  .ite (.bit (h.bit .inputClear) .inputFetClear) <|
    .ite (.bit (.bit (h.bit .palFreeze) .palUnfreeze) .palVerify) <|
    .ite (.ite h (.bit (.bit (h.bit .startLoad) .palNext) .palPrev)) <|
    .ite (h.bit .irqAck) <|
    .ite (.bit (h.bit fun h => h.bcGate .popWord) fun h => h.bcGate .skipNotice) <|
    .ite (h.bit fun h => h.bcGate .flushBoard) (.dite (fun _ => h.bit .qpReset) (fun _ => h.w1pGlobal))

theorem Fits.w1pPort {p n off w} (h : Fits s) : Fits (w1pPort s p n off w) :=
  .ite h.ownAssign <|
    .ite (.bit (.bit (h.bit .pdSendCaps) .pdHardReset) .pdErrorRecovery) (.ite (.bit (h.bit .portClearLatch) .portFetClear) h)

theorem Fits.takeW1p {p a w} (h : Fits s) : Fits (takeW1p s p a w) := .ite h.w1pPort h.w1pBlock
theorem Fits.pageWrite {p v a w} (h : Fits s) : Fits (pageWrite s p v a w) :=
  .ite h (.ite (h.when fun h => .ite h.doorbell h.writePage) h.accessFault.accessRecord)

theorem Fits.setupWrite {p a w} (h : Fits s) : Fits (setupWrite s p a w) := by
  unfold Machine.setupWrite
  split
  · exact h.pageWrite
  · split
    · exact h
    · refine .ite h.privDenied ?_
      split
      · exact h
      · exact h
      · exact h.takeW1p
      · exact .ite h.imgData h.takeRw

/-! ### Operations and commands of Machine/RegisterCmds.lean -/

theorem EffectFits.execSpiReadFrame {t addr} : EffectFits s (execSpiReadFrame t addr s) :=
  .act fun h => h.when fun h => .ite h.accessFault.emit (.ite h.accessTimeout.emit h.readReg.emit)

theorem EffectFits.execSpiWriteFrame {t addr data crc} : EffectFits s (execSpiWriteFrame t addr data crc s) :=
  .act fun h => h.when fun h => .ite h.accessFault.rcCount.emit (.ite h.accessFault.emit (.ite h.accessTimeout.emit h.setupWrite.emit))

theorem EffectFits.execSpiUnknownCommand {t first} : EffectFits s (execSpiUnknownCommand t first s) :=
  .act fun h => h.when fun h => h.accessFault.emit

theorem EffectFits.execSpiCsRelease {t} : EffectFits s (execSpiCsRelease t s) := .act fun h => h
theorem EffectFits.execBarRead {t win offset lanes} :
    EffectFits s (execBarRead t win offset lanes s) := .act fun h => h.when fun h => by
  split
  · exact h.emit
  · exact .ite h.accessTimeout.emit h.readReg.emit

theorem EffectFits.execBarWrite {t win offset data lanes} :
    EffectFits s (execBarWrite t win offset data lanes s) := .act fun h => h.when fun h => by
  split
  · exact h
  · exact .ite h.accessFault.accessRecord (.ite h.accessTimeout h.setupWrite)

theorem Fits.failReply {p a isWrite} (h : Fits s) : Fits (failReply s p a isWrite) := h.frame (by simp [failReply_keeps _ _ _ _])
theorem EffectFits.execAccessTimeout {t path addr isWrite} : EffectFits s (execAccessTimeout t path addr isWrite s) :=
  .act fun h => h.when fun h => h.accessTimeout.failReply

theorem EffectFits.execRegisterWrite {t path addr value} : EffectFits s (execRegisterWrite t path addr value s) :=
  .act fun h => h.when fun h => .ite h.accessFault (.ite h.accessTimeout h.setupWrite)

theorem EffectFits.execRcRead {t path addr} : EffectFits s (execRcRead t path addr s) := .act fun h => h.when fun h => h.readReg.emit
theorem EffectFits.execPairLowRead {t path addr} : EffectFits s (execPairLowRead t path addr s) :=
  .act fun h => h.when fun h => h.readReg.emit

theorem EffectFits.execPfTrustWrite {t path value} : EffectFits s (execPfTrustWrite t path value s) := .privCmd .setupWrite
theorem EffectFits.execUfBoundary {t port} : EffectFits s (execUfBoundary t port s) :=
  .act fun h => h.when fun h => .ite h.setNib.boundaryApply.isochBoundary h.setNib.boundaryApply

theorem EffectFits.execFrBoundary {t port} : EffectFits s (execFrBoundary t port s) := .act fun h => h.when .boundaryApply
theorem Fits.applyDerate (h : Fits s) : Fits (applyDerate s) := h.frame rfl
theorem EffectFits.execBrkBoundary {t} : EffectFits s (execBrkBoundary t s) :=
  .act fun h => h.when fun h => h.applyDerate.boundaryApply.brkCommit

theorem EffectFits.execPktBoundary {t eth} : EffectFits s (execPktBoundary t eth s) := .act fun h => h.when .boundaryApply
theorem EffectFits.execPdIdlePoint {t port} : EffectFits s (execPdIdlePoint t port s) :=
  .act fun h => h.when fun h => .pdiWork (.ite h.boundaryApply.applyIncrease h.boundaryApply)

theorem EffectFits.execEpochStageWrite {t path addr value} : EffectFits s (execEpochStageWrite t path addr value s) :=
  .privCmd fun h => h.when .setupWrite

theorem EffectFits.execRubricCommit {t path} : EffectFits s (execRubricCommit t path s) := .privCmd .rubricCommit
theorem EffectFits.execRubricAbort {t path} : EffectFits s (execRubricAbort t path s) := .privCmd .rubricAbort
theorem EffectFits.execCommitComplete {t} : EffectFits s (execCommitComplete t s) := .act fun h => h.when .commitComplete
theorem EffectFits.execDomainCrcUpdate {t domain} : EffectFits s (execDomainCrcUpdate t domain s) := .act fun h => h.when .updateDomain
theorem EffectFits.execFuncRead {t} : EffectFits s (execFuncRead t s) := .act fun h => by
  split
  · exact h.when fun h => h.readReg.funcPop.funcDrain
  · exact h

theorem EffectFits.execFuncWrite {t} : EffectFits s (execFuncWrite t s) := .act fun h => by
  split
  · exact h.when fun h => h.setupWrite.funcPop.funcDrain
  · exact h

/-! ### Every command -/

/-- A command keeps the notice queues within their words, whatever it is. -/
theorem exec_effectFits (s : State) : ∀ c, EffectFits s (exec c s)
  | .vinPreRise .. => .execVinPreRise
  | .vinPreCollapse .. => .execVinPreCollapse
  | .seatStable .. => .execSeatStable
  | .seatRelease .. => .execSeatRelease
  | .inrushDone .. => .execInrushDone
  | .inrushTimerExpiry .. => .execInrushTimerExpiry
  | .inputLoss .. => .execInputLoss
  | .inputReturn .. => .execInputReturn
  | .inputRetryWaitExpiry .. => .execInputRetryWaitExpiry
  | .inputRetryClear .. => .execInputRetryClear
  | .inClear .. => .execInClear
  | .inClearFetFail .. => .execInClearFetFail
  | .pgRelease .. => .execPgRelease
  | .pgFall .. => .execPgFall
  | .earlyWarning .. => .execEarlyWarning
  | .earlyWarningClear .. => .execEarlyWarningClear
  | .shedWaitExpiry .. => .execShedWaitExpiry
  | .holdupFlushComplete .. => .execHoldupFlushComplete
  | .parkedInputRestored .. => .execParkedInputRestored
  | .vauxFall .. => .execVauxFall
  | .vauxRecover .. => .execVauxRecover
  | .folioRailFail .. => .execFolioRailFail
  | .folioResetRelease .. => .execFolioResetRelease
  | .resetNPulse .. => .execResetNPulse
  | .d2dLinkFirstUp .. => .execD2dLinkFirstUp
  | .d2dFrame .. => .execD2dFrame
  | .strokeResync .. => .execStrokeResync
  | .d2dLinkLost .. => .execD2dLinkLost
  | .linkLossHoldExpiry .. => .execLinkLossHoldExpiry
  | .d2dLinkRestored .. => .execD2dLinkRestored
  | .bootEnd .. => .execBootEnd
  | .gapScanComplete .. => .execGapScanComplete
  | .modeManaged .. => .execModeManaged
  | .modeSuspend .. => .execModeSuspend
  | .suspendReached .. => .execSuspendReached
  | .modeStandby .. => .execModeStandby
  | .standbyReached .. => .execStandbyReached
  | .modeWake .. => .execModeWake
  | .modeReboot .. => .execModeReboot
  | .standbyWakeAttach .. => .execStandbyWakeAttach
  | .imgOpenFw .. => .execImgOpenFw
  | .imgOpenCfg .. => .execImgOpenCfg
  | .imgEraseDone .. => .execImgEraseDone
  | .imgDataWrite .. => .execImgDataWrite
  | .imgCommit .. => .execImgCommit
  | .imgAbandon .. => .execImgAbandon
  | .spiReadFrame .. => .execSpiReadFrame
  | .spiWriteFrame .. => .execSpiWriteFrame
  | .spiUnknownCommand .. => .execSpiUnknownCommand
  | .spiCsRelease .. => .execSpiCsRelease
  | .barRead .. => .execBarRead
  | .barWrite .. => .execBarWrite
  | .accessTimeout .. => .execAccessTimeout
  | .registerWrite .. => .execRegisterWrite
  | .rcRead .. => .execRcRead
  | .pairLowRead .. => .execPairLowRead
  | .pfTrustWrite .. => .execPfTrustWrite
  | .ufBoundary .. => .execUfBoundary
  | .frBoundary .. => .execFrBoundary
  | .brkBoundary .. => .execBrkBoundary
  | .pktBoundary .. => .execPktBoundary
  | .pdIdlePoint .. => .execPdIdlePoint
  | .epochStageWrite .. => .execEpochStageWrite
  | .rubricCommit .. => .execRubricCommit
  | .rubricAbort .. => .execRubricAbort
  | .commitComplete .. => .execCommitComplete
  | .domainCrcUpdate .. => .execDomainCrcUpdate
  | .ownAssign .. => .execOwnAssign
  | .portDecision .. => .execPortDecision
  | .leaseExpiry .. => .execLeaseExpiry
  | .handoverComplete .. => .execHandoverComplete
  | .orphanKeptEntry .. => .execOrphanKeptEntry
  | .orphanOffEntry .. => .execOrphanOffEntry
  | .resettingComplete .. => .execResettingComplete
  | .viEnable .. => .execViEnable
  | .viDisable .. => .execViDisable
  | .viConfigSend .. => .execViConfigSend
  | .cmdDb .. => .execCmdDb
  | .evtDb .. => .execEvtDb
  | .leaseDb .. => .execLeaseDb
  | .transferDb .. => .execTransferDb
  | .reservedDoorbell .. => .execReservedDoorbell
  | .ringFetchComplete .. => .execRingFetchComplete
  | .noopCmd .. => .execNoopCmd
  | .claim .. => .execClaim
  | .release .. => .execRelease
  | .renewLease .. => .execRenewLease
  | .resetPort .. => .execResetPort
  | .resetPortWarm .. => .execResetPortWarm
  | .resetPortTimeout .. => .execResetPortTimeout
  | .suspendPort .. => .execSuspendPort
  | .suspendComplete .. => .execSuspendComplete
  | .resumePort .. => .execResumePort
  | .resumeSignalEnd .. => .execResumeSignalEnd
  | .resumeComplete .. => .execResumeComplete
  | .addressDevice .. => .execAddressDevice
  | .setAddressRecovery .. => .execSetAddressRecovery
  | .disableDevice .. => .execDisableDevice
  | .configureEndpoint .. => .execConfigureEndpoint
  | .bindEndpointRing .. => .execBindEndpointRing
  | .stopEndpoint .. => .execStopEndpoint
  | .resetEndpoint .. => .execResetEndpoint
  | .disableEndpoint .. => .execDisableEndpoint
  | .setReadAhead .. => .execSetReadAhead
  | .readAheadOff .. => .execReadAheadOff
  | .queryPort .. => .execQueryPort
  | .queryVi .. => .execQueryVi
  | .replay .. => .execReplay
  | .resume .. => .execResume
  | .busTransaction .. => .execBusTransaction
  | .turnaroundTimeout .. => .execTurnaroundTimeout
  | .msixIntervalExpiry .. => .execMsixIntervalExpiry
  | .rdmaAckReceived .. => .execRdmaAckReceived
  | .rdmaReadResponse .. => .execRdmaReadResponse
  | .dmaReadCompletion .. => .execDmaReadCompletion
  | .previewTimeLimit .. => .execPreviewTimeLimit
  | .viBindWrite .. => .execViBindWrite
  | .flr .. => .execFlr
  | .vfEnableClear .. => .execVfEnableClear
  | .pcieLinkDown .. => .execPcieLinkDown
  | .bmeClear .. => .execBmeClear
  | .bmeSet .. => .execBmeSet
  | .ptmRequest .. => .execPtmRequest
  | .ethFrameReceived .. => .execEthFrameReceived
  | .prpEntryExpiry .. => .execPrpEntryExpiry
  | .prpSupervisionSend .. => .execPrpSupervisionSend
  | .lanDown .. => .execLanDown
  | .cmReq .. => .execCmReq
  | .repRetryTimeout .. => .execRepRetryTimeout
  | .cmRtu .. => .execCmRtu
  | .cmDreq .. => .execCmDreq
  | .roceDoorbellWrite .. => .execRoceDoorbellWrite
  | .ackTimeout .. => .execAckTimeout
  | .nakReceived .. => .execNakReceived
  | .psnSequenceNak .. => .execPsnSequenceNak
  | .unreachableHoldExpiry .. => .execUnreachableHoldExpiry
  | .qpReset .. => .execQpReset
  | .cnpReceived .. => .execCnpReceived
  | .ccRateIncrease .. => .execCcRateIncrease
  | .pfcFrameReceived .. => .execPfcFrameReceived
  | .ptpSyncAccepted .. => .execPtpSyncAccepted
  | .ptpLockTimeout .. => .execPtpLockTimeout
  | .freeRunSet .. => .execFreeRunSet
  | .portSlewComplete .. => .execPortSlewComplete
  | .endpointPromotion .. => .execEndpointPromotion
  | .isochDataFetch .. => .execIsochDataFetch
  | .usb2ConnectDebounced .. => .execUsb2ConnectDebounced
  | .receiverDetect .. => .execReceiverDetect
  | .ssU0Entry .. => .execSsU0Entry
  | .ssTrainingTimeout .. => .execSsTrainingTimeout
  | .deviceChirpSeen .. => .execDeviceChirpSeen
  | .rootResetEnd .. => .execRootResetEnd
  | .resetRecoveryEnd .. => .execResetRecoveryEnd
  | .babbleDetected .. => .execBabbleDetected
  | .usb2Disconnect .. => .execUsb2Disconnect
  | .ssLinkLost .. => .execSsLinkLost
  | .clearTtBufferDone .. => .execClearTtBufferDone
  | .l1Entry .. => .execL1Entry
  | .u1Entry .. => .execU1Entry
  | .u2Entry .. => .execU2Entry
  | .lpmRefusalHoldExpiry .. => .execLpmRefusalHoldExpiry
  | .remoteWake .. => .execRemoteWake
  | .stuckProbe .. => .execStuckProbe
  | .stuckRetest .. => .execStuckRetest
  | .getHubStatus .. => .execGetHubStatus
  | .clearHubFeature .. => .execClearHubFeature
  | .setHubFeature .. => .execSetHubFeature
  | .getPortStatus .. => .execGetPortStatus
  | .setPortReset .. => .execSetPortReset
  | .classicPortResetEnd .. => .execClassicPortResetEnd
  | .setBhPortReset .. => .execSetBhPortReset
  | .ssPortResetTimeout .. => .execSsPortResetTimeout
  | .setPortSuspend .. => .execSetPortSuspend
  | .clearPortSuspend .. => .execClearPortSuspend
  | .clearPortEnable .. => .execClearPortEnable
  | .setPortPower .. => .execSetPortPower
  | .clearPortPower .. => .execClearPortPower
  | .setPortTest .. => .execSetPortTest
  | .setPortIndicator _ _ n => .execSetPortIndicator (_n := n)
  | .setPortLinkState .. => .execSetPortLinkState
  | .setPortLinkPmFeature .. => .execSetPortLinkPmFeature
  | .clearPortChange .. => .execClearPortChange
  | .getPortErrCount .. => .execGetPortErrCount
  | .setHubDepth .. => .execSetHubDepth
  | .clearTtBuffer .. => .execClearTtBuffer
  | .resetTt .. => .execResetTt
  | .stopTt .. => .execStopTt
  | .getTtState _ _ n => .execGetTtState (_n := n)
  | .getDescriptor .. => .execGetDescriptor
  | .setDescriptor .. => .execSetDescriptor
  | .setConfiguration .. => .execSetConfiguration
  | .setInterface .. => .execSetInterface
  | .upstreamResetRecognised .. => .execUpstreamResetRecognised
  | .hsIdleReversion .. => .execHsIdleReversion
  | .chirpKEnd .. => .execChirpKEnd
  | .hostChirpSixth .. => .execHostChirpSixth
  | .hostChirpTimeout .. => .execHostChirpTimeout
  | .upstreamResetEnd .. => .execUpstreamResetEnd
  | .ssplitReceived .. => .execSsplitReceived
  | .csplitReceived .. => .execCsplitReceived
  | .ligatureResultExpiry .. => .execLigatureResultExpiry
  | .periodicResultDiscard .. => .execPeriodicResultDiscard
  | .upDrSwapSend .. => .execUpDrSwapSend
  | .drSwapRetry .. => .execDrSwapRetry
  | .drSwapAnswer .. => .execDrSwapAnswer
  | .drSwap .. => .execDrSwap
  | .funcOutPacket .. => .execFuncOutPacket
  | .funcRead .. => .execFuncRead
  | .funcWrite .. => .execFuncWrite
  | .funcEcho .. => .execFuncEcho
  | .funcClearHalt .. => .execFuncClearHalt
  | .blockGrant .. => .execBlockGrant
  | .bankWindow .. => .execBankWindow
  | .conflictWindow .. => .execConflictWindow
  | .heartbeat .. => .execHeartbeat
  | .noticeDelivery .. => .execNoticeDelivery
  | .bcHeadRead .. => .execBcHeadRead
  | .bcPop .. => .execBcPop
  | .bcSkip .. => .execBcSkip
  | .bcFlush .. => .execBcFlush
  | .bcIrqAck .. => .execBcIrqAck
  | .irqLineSample .. => .execIrqLineSample
  | .irqLineHigh .. => .execIrqLineHigh
  | .ccPatternAppear .. => .execCcPatternAppear
  | .ccPatternLost .. => .execCcPatternLost
  | .attachDebounceEnd .. => .execAttachDebounceEnd
  | .vbusSwitchOn .. => .execVbusSwitchOn
  | .vsafe5vReached .. => .execVsafe5vReached
  | .vconnStable .. => .execVconnStable
  | .cableDiscoveryRetry .. => .execCableDiscoveryRetry
  | .sourceCapsSend .. => .execSourceCapsSend
  | .sourceCapsRetry .. => .execSourceCapsRetry
  | .goodcrcReceived .. => .execGoodcrcReceived
  | .goodcrcTimeout .. => .execGoodcrcTimeout
  | .senderResponseTimeout .. => .execSenderResponseTimeout
  | .request .. => .execRequest
  | .eprRequest .. => .execEprRequest
  | .transitionStart .. => .execTransitionStart
  | .psRdySend .. => .execPsRdySend
  | .transitionBoundMissed .. => .execTransitionBoundMissed
  | .sinkTxWaitEnd .. => .execSinkTxWaitEnd
  | .getSourceCap .. => .execGetSourceCap
  | .softReset .. => .execSoftReset
  | .pdMessageUnexpected .. => .execPdMessageUnexpected
  | .hardResetReceived .. => .execHardResetReceived
  | .hardResetVbusOff .. => .execHardResetVbusOff
  | .srcRecoverEnd .. => .execSrcRecoverEnd
  | .errorRecoveryEnd .. => .execErrorRecoveryEnd
  | .eprModeEnter .. => .execEprModeEnter
  | .eprModeExit .. => .execEprModeExit
  | .eprKeepalive .. => .execEprKeepalive
  | .eprGetSourceCap .. => .execEprGetSourceCap
  | .eprKeepaliveTimeout .. => .execEprKeepaliveTimeout
  | .ppsTimeout .. => .execPpsTimeout
  | .getStatus .. => .execGetStatus
  | .getPpsStatus .. => .execGetPpsStatus
  | .getSourceInfo .. => .execGetSourceInfo
  | .getRevision .. => .execGetRevision
  | .getSourceCapExtended .. => .execGetSourceCapExtended
  | .getManufacturerInfo .. => .execGetManufacturerInfo
  | .unsupportedMessage .. => .execUnsupportedMessage
  | .ignoredMessage .. => .execIgnoredMessage
  | .bist .. => .execBist
  | .discoverIdentity .. => .execDiscoverIdentity
  | .structuredVdmNak .. => .execStructuredVdmNak
  | .cableIdentityAck .. => .execCableIdentityAck
  | .alertSend .. => .execAlertSend
  | .reclaimTimer .. => .execReclaimTimer
  | .reclaimRestore .. => .execReclaimRestore
  | .pdSendCaps .. => .execPdSendCaps
  | .pdHardReset .. => .execPdHardReset
  | .pdErrorRecovery .. => .execPdErrorRecovery
  | .detachDebounceStart .. => .execDetachDebounceStart
  | .ccDetach .. => .execCcDetach
  | .vsafe0vReached .. => .execVsafe0vReached
  | .ccShortProbe .. => .execCcShortProbe
  | .ccOvervoltage .. => .execCcOvervoltage
  | .ccFaultRetest .. => .execCcFaultRetest
  | .vconnFault .. => .execVconnFault
  | .converterReady .. => .execConverterReady
  | .preswitchCheckDone .. => .execPreswitchCheckDone
  | .vsetTrim .. => .execVsetTrim
  | .breakerEval .. => .execBreakerEval
  | .fastTrip .. => .execFastTrip
  | .ppsCurrentLimitStep .. => .execPpsCurrentLimitStep
  | .thermalUpdate .. => .execThermalUpdate
  | .passDeviceFault .. => .execPassDeviceFault
  | .clearFetFail .. => .execClearFetFail
  | .fetClearCheckEnd .. => .execFetClearCheckEnd
  | .clearLatch .. => .execClearLatch
  | .portRetry .. => .execPortRetry
  | .portRetryClear .. => .execPortRetryClear
  | .shareIncreaseApply .. => .execShareIncreaseApply
  | .shedRestore .. => .execShedRestore
  | .timeSample .. => .execTimeSample
  | .dvfsUpdate .. => .execDvfsUpdate
  | .dvfsVoltageDown .. => .execDvfsVoltageDown
  | .regionTempCap .. => .execRegionTempCap
  | .regionTempUncap .. => .execRegionTempUncap
  | .eqAdaptStep .. => .execEqAdaptStep
  | .recordCommit .. => .execRecordCommit
  | .sectorRecycle .. => .execSectorRecycle
  | .bucketRefill .. => .execBucketRefill
  | .summaryPeriodClose .. => .execSummaryPeriodClose
  | .palFreeze .. => .execPalFreeze
  | .palUnfreeze .. => .execPalUnfreeze
  | .palVerify .. => .execPalVerify
  | .palVerifyDone .. => .execPalVerifyDone
  | .palLoad .. => .execPalLoad
  | .palNext .. => .execPalNext
  | .palPrev .. => .execPalPrev
  | .recordLoadReady .. => .execRecordLoadReady
  | .eccWindow .. => .execEccWindow
  | .eccUncorrectable .. => .execEccUncorrectable
  | .watchdogExpiry .. => .execWatchdogExpiry
  | .engineRestartComplete .. => .execEngineRestartComplete
  | .temperatureExceeded .. => .execTemperatureExceeded
  | .temperatureCleared .. => .execTemperatureCleared
  | .quarExit .. => .execQuarExit
  | .advanceFloor .. => .execAdvanceFloor
  | .returnArm .. => .execReturnArm
  | .returnDisarm .. => .execReturnDisarm
  | .returnArmLapse .. => .execReturnArmLapse
  | .keyLoad .. => .execKeyLoad
  | .keyWithdraw .. => .execKeyWithdraw
  | .fuseOwner .. => .execFuseOwner
  | .keySetCommitted .. => .execKeySetCommitted
  | .gateNonceRead .. => .execGateNonceRead
  | .gateAuthorisation .. => .execGateAuthorisation
  | .gateVerifyDone .. => .execGateVerifyDone
  | .gateNonceExpiry .. => .execGateNonceExpiry
  | .upstreamSuspend .. => .execUpstreamSuspend
  | .upstreamResume .. => .execUpstreamResume
  | .upstreamLpmToken .. => .execUpstreamLpmToken
  | .upstreamSsLinkChange .. => .execUpstreamSsLinkChange
  | .vfEnableSet .. => .execVfEnableSet
  | .flrComplete .. => .execFlrComplete
  | .pcieLinkUp .. => .execPcieLinkUp
  | .eccCorrected .. => .execEccCorrected
  | .fetClearWindowTimeout .. => .execFetClearWindowTimeout
  | .descriptorStoreReloaded .. => .execDescriptorStoreReloaded
  | .keyReloaded .. => .execKeyReloaded
end Sys2Proof.Machine

namespace Sys2Proof.Safety

open Sys2Proof.Machine

/-- A step keeps the notice queues within their words: the front command does, and with none waiting nothing changes. -/
theorem step_fits {s t : State} (h : Fits s) (ht : step s = .next t) : Fits t := by
  unfold step at ht
  split at ht
  · cases ht
    exact h
  case _ c rest _ =>
    obtain ⟨u, hu, hf⟩ := (exec_effectFits _ c).next h.same
    rw [hu] at ht
    cases ht
    exact hf

/-- Settles O6: a notice enters a queue only where its words fit (`Fits.enterLoop`), opening the head moves its words without adding any (`queueWords_openHead`),
and every other change of a queue takes notices away. -/
theorem stepKeepsTheNoticeQueuesWithinTheirWords : Obligations.StepKeepsTheNoticeQueuesWithinTheirWords :=
  fun _ _ h ht => (step_fits ⟨h⟩ ht).within

end Sys2Proof.Safety
end

section
/-! The head of the board queue follows priority and age unless a notice is open (R268): what enters the queue stands behind those that wait, and a read opens the
top notice. -/

namespace Sys2Proof.Machine

/-! ### What enters a queue (R265–R267, R273) -/

/-- A notice that fits enters at the end, and nothing is displaced for it. -/
theorem enterLoop_of_fits {s : State} {q : Fin 65} {n : Notice} (k : Nat) (h : queueWords s q + n.words ≤ queueSize q) :
    enterLoop (k + 1) s q n = (setQueue s q fun x => { x with notices := x.notices ++ [n] }, true) := if_pos h

/-- The board asks for no ENABLE, and a CRITICAL notice that enters its queue raises IRQ_PENDING. -/
theorem enterQueue_board (s : State) (n : Notice) : enterQueue s boardQueue n =
    let r := enterLoop ((s.margin.queues.get boardQueue).notices.length + 1) s boardQueue n
    if r.2 && n.prio == .critical then ({ r.1 with margin := { r.1.margin with irqPending := true } }, true) else r := rfl

/-- A notice that fits stands behind those that wait, and the open one stays open. -/
theorem enterQueue_board_of_fits {s : State} {n : Notice} (h : queueWords s boardQueue + n.words ≤ queueSize boardQueue) :
    ((enterQueue s boardQueue n).1.margin.queues.get boardQueue).notices = (s.margin.queues.get boardQueue).notices ++ [n] ∧
      (enterQueue s boardQueue n).1.margin.opened = s.margin.opened ∧ (enterQueue s boardQueue n).1.margin.wordIndex = s.margin.wordIndex := by
  rw [enterQueue_board, enterLoop_of_fits _ h]
  dsimp only
  split <;> simp

theorem enterQueue_critical {s : State} {n : Notice} (hp : n.prio = .critical) (h : (enterQueue s boardQueue n).2 = true) :
    (enterQueue s boardQueue n).1.margin.irqPending = true := by
  rw [enterQueue_board] at h ⊢
  dsimp only at h ⊢
  split
  · rfl
  next hno =>
    rw [if_neg hno] at h
    simp [h, hp] at hno

/-- The open notice stays the head, whatever enters. -/
theorem boardHead_enterQueue_of_opened {s : State} {n : Notice} (h : queueWords s boardQueue + n.words ≤ queueSize boardQueue)
    (ho : s.margin.opened.isSome = true) : boardHead (enterQueue s boardQueue n).1 = boardHead s := by
  obtain ⟨m, hm⟩ := Option.isSome_iff_exists.mp ho
  obtain ⟨-, hopen, hindex⟩ := enterQueue_board_of_fits h
  rw [boardHead_of_opened (hopen.trans hm), boardHead_of_opened hm, hindex]

/-- With none open, a notice of a higher priority than all that wait becomes the head. -/
theorem boardHead_enterQueue_of_higher {s : State} {n : Notice} (h : queueWords s boardQueue + n.words ≤ queueSize boardQueue)
    (ho : s.margin.opened = none) (hn : ∀ m ∈ (s.margin.queues.get boardQueue).notices, m.prio.code < n.prio.code) :
    boardHead (enterQueue s boardQueue n).1 = some (n, 0) := by
  obtain ⟨hwait, hopen, -⟩ := enterQueue_board_of_fits h
  rw [boardHead_of_closed (hopen.trans ho), hwait, topNotice_append_cons hn (by simp)]
  rfl

end Sys2Proof.Machine

namespace Sys2Proof.Safety

open Sys2Proof.Machine

/-! ### Reads of the head (R264, R268) -/

section Head
variable {t : Nat} {p : Path} {w : HeadWord} {n : Notice} {s : State} (hon : s.folioOn = true) (hp : privileged s p = true)
include hon hp

/-- A read by the reader's path opens the head notice and answers with what its register then shows. -/
theorem bcHeadRead_completes {post : State → Prop} (hr : p = bcReader s)
    (h : post { settle (emit (openHead (begin t s)) (.regData p (regView (openHead (begin t s)) (headAddr w)))) with now := max s.now t, pending := s.pending }) :
    Completes (.bcHeadRead t p w) s post := by
  have hread : bcHeadRead (begin t s) p w = (openHead (begin t s), regView (openHead (begin t s)) (headAddr w)) := if_pos (by simpa using hr)
  exact completes_event (execBcHeadRead t p w s) rfl rfl (by simpa using hon) (by simpa [hp, hread] using h)

theorem bcHeadRead_opened (hr : p = bcReader s) (ho : s.margin.opened = some n) : Completes (.bcHeadRead t p w) s fun u =>
    u.margin.opened = some n ∧ u.margin.wordIndex = s.margin.wordIndex ∧ u.margin.queues = s.margin.queues ∧ ∃ x, u.out = [.regData p x] := by
  have hopen : openHead (begin t s) = begin t s := openHead_of_opened (by simpa using ho)
  exact bcHeadRead_completes hon hp hr (by simp [hopen, emit, ho])

theorem bcHeadRead_opens (hr : p = bcReader s) (ho : s.margin.opened = none) (ht : topNotice (s.margin.queues.get boardQueue).notices = some n) :
    Completes (.bcHeadRead t p w) s fun u => u.margin.opened = some n ∧ u.margin.wordIndex = 0 ∧
      (u.margin.queues.get boardQueue).notices = (s.margin.queues.get boardQueue).notices.erase n := by
  refine bcHeadRead_completes hon hp hr ?_
  rw [openHead_of_top (n := n) (by simpa using ho) (by simpa using ht)]
  simp [emit]

end Head

/-- Settles O54: the head is the open notice or the top one (`topNotice_append_cons`), and what enters stands behind those that wait. -/
theorem theBoardQueueHasOneHead : Obligations.TheBoardQueueHasOneHead :=
  ⟨fun _ _ => boardHead_of_opened,
    fun _ ho hempty => by rw [boardHead_of_closed ho, hempty]; rfl,
    fun _ _ _ _ ho hwait hold hnew => by rw [boardHead_of_closed ho, hwait, topNotice_append_cons hold hnew]; rfl,
    fun _ _ h => ⟨boardHead_enterQueue_of_opened h, boardHead_enterQueue_of_higher h⟩,
    fun _ _ _ n s hon hp hr ho hhead => by
      have ht : topNotice (s.margin.queues.get boardQueue).notices = some n := by simpa [boardHead_of_closed ho] using hhead
      obtain ⟨u, hu, hopen, hindex, -⟩ := bcHeadRead_opens hon hp hr ho ht
      exact ⟨u, hu, hopen, hindex⟩⟩

end Sys2Proof.Safety
end

section
/-! The board interrupt (R273): what the settling at a command's end does in each of its cases, and that every command ends with it. -/

namespace Sys2Proof.Machine

/-! ### The settling of the board interrupt (R273) -/

theorem settleIrq_of_below {s : State} (hon : s.folioOn = true) (h : irqCount s < irqThreshold s) :
    (settleIrq s).margin = { s.margin with irqArmed := true } := by
  simp [settleIrq, hon, h]

theorem settleIrq_of_reached {s : State} (hon : s.folioOn = true) (ha : s.margin.irqArmed = true) (h : irqThreshold s ≤ irqCount s) :
    (settleIrq s).margin = { s.margin with irqArmed := false, irqPending := true } := by
  simp [settleIrq, hon, ha, Nat.not_lt.mpr h]

theorem settleIrq_of_unarmed {s : State} (ha : s.margin.irqArmed = false) (h : irqThreshold s ≤ irqCount s) : settleIrq s = s := by
  simp [settleIrq, ha, Nat.not_lt.mpr h]

/-- After the settling the interrupt is armed exactly below the threshold. -/
theorem settleIrq_armed {s : State} (hon : s.folioOn = true) : (settleIrq s).margin.irqArmed = decide (irqCount s < irqThreshold s) := by
  rcases Nat.lt_or_ge (irqCount s) (irqThreshold s) with hlt | hge
  · rw [settleIrq_of_below hon hlt, decide_eq_true hlt]
  · rw [decide_eq_false (Nat.not_lt.mpr hge)]
    cases ha : s.margin.irqArmed with
    | false => rw [settleIrq_of_unarmed ha hge, ha]
    | true => rw [settleIrq_of_reached hon ha hge]

theorem irqCount_congr {s t : State} (hr : t.regs = s.regs) (hq : t.margin.queues = s.margin.queues) (ho : t.margin.opened = s.margin.opened) :
    irqCount t = irqCount s := by
  rw [irqCount, irqCount, rfld, rfld, reg, reg, hr, hq, ho]

theorem irqThreshold_congr {s t : State} (hr : t.regs = s.regs) : irqThreshold t = irqThreshold s := by
  simp only [irqThreshold, rfld, reg, hr]

theorem settle_margin_eq (s : State) : (settle s).margin = (settleIrq s).margin := rfl

/-- The settling reads the count and the threshold that it leaves. -/
theorem settle_armed {s : State} (hon : s.folioOn = true) : (settle s).margin.irqArmed = decide (irqCount (settle s) < irqThreshold (settle s)) := by
  obtain ⟨hqueues, hopened, -⟩ := settle_margin s
  rw [irqCount_congr (settle_regs s) hqueues hopened, irqThreshold_congr (settle_regs s)]
  exact settleIrq_armed hon

/-- What every command leaves: IRQ_N follows from the interrupt's bits, and the interrupt is armed exactly below the threshold. -/
theorem exec_irq {c : Instr} {s u : State} (hu : exec c s = .next u) :
    u.pins.irqN = (u.folioOn && u.margin.irqPending && rfld u 0x50004 18 1 == 1) ∧
      (u.folioOn = true → u.margin.irqArmed = decide (irqCount u < irqThreshold u)) := by
  obtain ⟨t, f, hact, -⟩ := exec_effectFits s c
  rw [hact, act_next] at hu
  cases hu
  exact ⟨rfl, fun hon => settle_armed ((settle_folioOn _).symm.trans hon)⟩

end Sys2Proof.Machine

namespace Sys2Proof.Safety

open Sys2Proof.Machine

/-- Settles O55: what the settling does in each of its cases, that every command ends with it (`exec_irq`), and what a CRITICAL notice and an acknowledgement do. -/
theorem theBoardInterruptFollowsItsRules : Obligations.TheBoardInterruptFollowsItsRules :=
  ⟨fun _ hon ha h => by rw [settle_margin_eq, settleIrq_of_reached hon ha h]; exact ⟨rfl, rfl⟩,
    fun _ hon h => by rw [settle_margin_eq, settleIrq_of_below hon h]; exact ⟨rfl, rfl⟩,
    fun _ ha h => by rw [settle_margin_eq, settleIrq_of_unarmed ha h],
    fun _ _ _ => exec_irq, fun _ _ => enterQueue_critical, fun _ => ⟨rfl, rfl⟩, by decide +kernel⟩

end Sys2Proof.Safety
end

section
/-! The Margin commands complete with their effects (R264, R268, R269, R271, R273, R274, R276): what a request of the board does to an open notice and to the
interrupt, then each command. -/

namespace Sys2Proof.Machine

/-! ### The acknowledgement and POP (R269, R273) -/

theorem bcGate_reader {s : State} {p : Path} {f : State → State} (h : p = bcReader s) : bcGate s p f = f s := if_pos h

/-- POP on an open notice moves to its next word, and closes it at its END. -/
theorem popWord_of_opened {s : State} {n : Notice} (h : s.margin.opened = some n) : popWord s =
    if s.margin.wordIndex + 1 < n.words then { s with margin := { s.margin with wordIndex := s.margin.wordIndex + 1, aborted := false } }
    else { s with margin := { s.margin with opened := none, wordIndex := 0, aborted := false } } := by
  simp [popWord, openHead_of_opened h, h]

/-- Below the threshold or unarmed, the settling raises nothing. -/
theorem settleIrq_pending {s : State} (h : s.margin.irqArmed = false ∨ irqCount s < irqThreshold s) :
    (settleIrq s).margin.irqPending = s.margin.irqPending := by
  unfold settleIrq
  rcases h with ha | hlt
  · simp only [ha, Bool.false_eq_true, if_false]
    (repeat' split) <;> rfl
  · simp only [if_pos hlt]
    split <;> rfl

@[simp] theorem irqAck_armed (s : State) : (irqAck s).margin.irqArmed = s.margin.irqArmed := rfl
@[simp] theorem irqCount_irqAck (s : State) : irqCount (irqAck s) = irqCount s := irqCount_congr rfl rfl rfl
@[simp] theorem irqThreshold_irqAck (s : State) : irqThreshold (irqAck s) = irqThreshold s := irqThreshold_congr rfl

end Sys2Proof.Machine

namespace Sys2Proof.Safety

open Sys2Proof.Machine

section Margin
variable {t : Nat} {p : Path} {w : HeadWord} {n : Notice} {s : State} (hon : s.folioOn = true)
include hon

/-! ### Heartbeats (R276) -/

theorem heartbeat_completes (hb : s.modes.booted = true) (hd : s.margin.hbDue ≤ max s.now t) : Completes (.heartbeat t) s fun u =>
    u.margin.hbDue = s.margin.hbDue + ticksMs (hbMs s) ∧ u.own = s.own ∧
      u.margin.queues = ((boardQueue :: toEnabled s).foldl heartbeatInto (begin t s)).margin.queues :=
  completes_event (execHeartbeat t s) rfl rfl (by simpa [hon, hb] using hd) (by simp [heartbeatInto_keeps _ _])

/-! ### The board's requests (R264, R269, R271, R273) -/

section Privileged
variable (hp : privileged s p = true)
include hp

theorem bcHeadRead_other (hr : p ≠ bcReader s) : Completes (.bcHeadRead t p w) s fun u =>
    u.out = [.regData p 0] ∧ u.margin.queues = s.margin.queues ∧ u.margin.opened = s.margin.opened :=
  completes_event (execBcHeadRead t p w s) rfl rfl (by simpa using hon) (by simp [hp, bcHeadRead, hr, emit, bcGate, recordAt_keeps _ _ _ _ _ _ _ _])

theorem bcPop_next (hr : p = bcReader s) (ho : s.margin.opened = some n) (hw : s.margin.wordIndex + 1 < n.words) : Completes (.bcPop t p) s fun u =>
    u.margin.opened = some n ∧ u.margin.wordIndex = s.margin.wordIndex + 1 ∧ u.margin.aborted = false ∧ u.margin.queues = s.margin.queues := by
  have hpop := popWord_of_opened (s := begin t s) (by simpa using ho)
  exact completes_privCmd (execBcPop t p s) rfl rfl hon hp (by simp [bcGate_reader, ← hr, hpop, hw, ho])

theorem bcPop_end (hr : p = bcReader s) (ho : s.margin.opened = some n) (hw : n.words ≤ s.margin.wordIndex + 1) : Completes (.bcPop t p) s fun u =>
    u.margin.opened = none ∧ u.margin.wordIndex = 0 ∧ u.margin.aborted = false ∧ u.margin.queues = s.margin.queues := by
  have hpop := popWord_of_opened (s := begin t s) (by simpa using ho)
  exact completes_privCmd (execBcPop t p s) rfl rfl hon hp (by simp [bcGate_reader, ← hr, hpop, Nat.not_lt.mpr hw])

theorem bcSkip_completes (hr : p = bcReader s) : Completes (.bcSkip t p) s fun u =>
    u.margin.opened = none ∧ u.margin.queues = s.margin.queues ∧ u.margin.aborted = s.margin.aborted :=
  completes_privCmd (execBcSkip t p s) rfl rfl hon hp (by simp [bcGate_reader, ← hr, skipNotice])

theorem bcFlush_completes (hr : p = bcReader s) : Completes (.bcFlush t p) s fun u =>
    (u.margin.queues.get boardQueue).notices = [] ∧ u.margin.opened = none ∧ u.margin.aborted = (s.margin.aborted || s.margin.opened.isSome) ∧
      (u.margin.queues.get boardQueue).lostSinceHb = (s.margin.queues.get boardQueue).lostSinceHb ∧ u.rcPf = (begin t s).rcPf :=
  completes_privCmd (execBcFlush t p s) rfl rfl hon hp (by simp [bcGate_reader, ← hr, flushBoard, setQueue_keeps _ _ _])

theorem bcIrqAck_completes (h : s.margin.irqArmed = false ∨ irqCount s < irqThreshold s) : Completes (.bcIrqAck t p) s fun u =>
    u.margin.irqPending = false ∧ u.pins.irqN = false ∧ u.margin.queues = s.margin.queues := by
  have hpending : (settleIrq (irqAck (begin t s))).margin.irqPending = false :=
    settleIrq_pending (s := irqAck (begin t s)) (by simpa using h)
  exact completes_privCmd (execBcIrqAck t p s) rfl rfl hon hp ⟨hpending, by simp [pinsOf, hpending], by simp [irqAck]⟩

end Privileged

/-! ### The line (R274) -/

theorem irqLineSample_low (hn : s.pins.irqN = false) :
    Completes (.irqLineSample t true) s fun u => u.margin.lineHeld = true ∧ u.margin.queues = s.margin.queues :=
  completes_event (execIrqLineSample t true s) rfl rfl (by simp [hon, hn]) (by simp [record_keeps _ _ _ _ _ _ _])

end Margin

theorem irqLineHigh_completes {t : Nat} {s : State} :
    Completes (.irqLineHigh t) s fun u => u.margin.lineHeld = false ∧ u.margin.queues = s.margin.queues ∧ u.pal = s.pal :=
  ⟨_, rfl, by simp⟩

/-- Settles O41: each clause is one command's completion, proved above and, for the reads that open the head, with the rules of the head. A POP with
no notice to open and a sample of the line that reads high stand in no clause. -/
theorem marginCommandsComplete : Obligations.MarginCommandsComplete :=
  ⟨fun _ _ => heartbeat_completes, fun _ _ _ _ _ => bcHeadRead_opened, fun _ _ _ _ _ => bcHeadRead_opens, fun _ _ _ _ => bcHeadRead_other,
    fun _ _ _ _ => bcPop_next, fun _ _ _ _ => bcPop_end, fun _ _ _ => bcSkip_completes, fun _ _ _ => bcFlush_completes,
    fun _ _ _ => bcIrqAck_completes, fun _ _ => irqLineSample_low, fun _ _ => irqLineHigh_completes⟩

end Sys2Proof.Safety
end

section
/-! A port's switch-on, trim and current limit complete with their effects (R284, R322, R323, R328): what the gate drive does to the power path and to VCONN, then
each command's completion. -/

namespace Sys2Proof.Machine

variable {s : State} {n : PortId}

@[simp] theorem ferruleRuns_begin (t : Nat) (s : State) (n : PortId) : ferruleRuns (begin t s) n = ferruleRuns s n := by simp [ferruleRuns]
@[simp] theorem vconnDue_begin (t : Nat) (s : State) (n : PortId) : vconnDue (begin t s) n = vconnDue s n := by simp [vconnDue, vconnEn]

/-! ### The gate drive (R284, R323) -/

@[simp] theorem gateDrive_power (s : State) (n : PortId) : (gateDrive s n).power =
    vmod s.power n (fun p => { p with step := .ramp, gateOn := true, hardOff := false, discharge := false, gateStart := s.now }) := by
  simp [gateDrive, vconnWith_keeps _ _]

/-- VCONN that is due comes on in STARTUP, in the tick of the gate drive (R284 step 3). -/
theorem gateDrive_vconnOn (hdue : vconnDue s n = true) (hst : (s.pd.get n).state = .startup) : ((gateDrive s n).pd.get n).vconnOn = true := by
  have hwith {u : State} (hd : vconnDue u n = true) (hs : (u.pd.get n).state = .startup) : ((vconnWith u n).pd.get n).vconnOn = true := by
    simp [vconnWith, hd, hs]
  exact hwith hdue hst

end Sys2Proof.Machine

namespace Sys2Proof.Safety

open Sys2Proof.Machine

section SwitchOn
variable {t x isp mid : Nat} {amps : Int} {n : PortId} {s : State}

/-! ### Switch-on (R284, R323, R332) -/

theorem converterReady_starts (hwin : inWindow isp = true) (hstep : (s.power.get n).step = .converter) (hclear : ∀ x, (s.power.get n).clear ≠ .waiting x)
    (hmay : mayStart (begin t s) n = true) : Completes (.converterReady t n isp) s fun u =>
      (u.power.get n).step = .checks ∧ (u.power.get n).gateStart = max s.now t ∧ (u.power.get n).gateOn = (s.power.get n).gateOn ∧ u.pd = s.pd :=
  completes_event (execConverterReady t n isp s) rfl rfl hwin (by simp [hstep, hmay, when_true, setPower_keeps _ _ _])

theorem converterReady_clears (hwin : inWindow isp = true) (hclear : (s.power.get n).clear = .waiting x) :
    Completes (.converterReady t n isp) s fun u => (u.power.get n).clear = .checking (max s.now t) ∧ u.pd = s.pd :=
  completes_event (execConverterReady t n isp s) rfl rfl hwin (by simp [hclear, setPower_keeps _ _ _])

theorem preswitchCheckDone_completes (hstep : (s.power.get n).step = .checks) (hmay : mayStart (begin t s) n = true) (hmid : 2 * mid < isp) :
    Completes (.preswitchCheckDone t n isp mid) s fun u =>
      (u.power.get n).step = .ramp ∧ (u.power.get n).gateOn = true ∧ (u.power.get n).discharge = false ∧ u.regs = s.regs :=
  completes_event (execPreswitchCheckDone t n isp mid s) rfl rfl (by simp [hstep, hmay, hmid]) (by simp [gateDrive_keeps _ _, setPower_keeps _ _ _])

theorem vbusSwitchOn_completes (hstep : (s.power.get n).step = .checks) (hwin : inWindow isp = true) (hmay : mayStart (begin t s) n = true)
    (ht : (s.power.get n).gateStart + ticksMs 1 ≤ max s.now t) : Completes (.vbusSwitchOn t n isp) s fun u =>
      (u.power.get n).step = .ramp ∧ (u.power.get n).gateOn = true ∧ u.regs = s.regs ∧
        (vconnDue s n = true → (s.pd.get n).state = .startup → (u.pd.get n).vconnOn = true) := by
  have hvconn (hdue : vconnDue s n = true) (hst : (s.pd.get n).state = .startup) :
      ((gateDrive (setPower (begin t s) n (fun p => { p with ispMv := isp })) n).pd.get n).vconnOn = true :=
    gateDrive_vconnOn ((vconnDue_begin t s n).trans hdue) (by simpa [setPower_keeps _ _ _] using hst)
  exact completes_event (execVbusSwitchOn t n isp s) rfl rfl (by simpa [hstep, hwin, hmay] using ht)
    (by simpa [gateDrive_keeps _ _, setPower_keeps _ _ _] using hvconn)

/-! ### Trim and current limit (R322, R328) -/

theorem vsetTrim_completes (hphase : (s.power.get n).phase = .on) (hcontract : explicitContract s n = true) (htrans : (s.pd.get n).transitionStart = none)
    (hruns : ferruleRuns s n = true) : Completes (.vsetTrim t n isp) s fun u => u.pd = s.pd ∧ (u.power.get n).nominal = (s.power.get n).nominal ∧
      (isp = 20 * (s.power.get n).nominal → (u.power.get n).vset = (s.power.get n).vset) ∧
      (20 * (s.power.get n).nominal < isp →
        (u.power.get n).vset = max ((s.power.get n).nominal - 2 * (s.power.get n).nominal / 100) ((s.power.get n).vset - 1)) :=
  completes_event (execVsetTrim t n isp s) rfl rfl (by simp [hphase, hcontract, htrans, hruns])
    ⟨by simp [setPower_keeps _ _ _], by simp, fun heq => by simp [heq], fun habove => by simp [habove, habove.le]⟩

theorem ppsCurrentLimitStep_completes (hgate : (s.power.get n).gateOn = true) (hkind : (s.pd.get n).contract.kind = 2) :
    Completes (.ppsCurrentLimitStep t n amps) s fun u => u.pd = s.pd ∧
      ((10 * (s.pd.get n).contract.ma10 + 150 : Int) < amps → (u.power.get n).vset = max 165 ((s.power.get n).vset - 1)) ∧
      (amps < (10 * (s.pd.get n).contract.ma10 + 150 : Int) → (u.power.get n).vset = min (s.power.get n).nominal ((s.power.get n).vset + 1)) :=
  completes_eventAt (execPpsCurrentLimitStep t n amps s) rfl rfl (by simp [hgate, hkind])
    ⟨by simp [setPower_keeps _ _ _], fun habove => by simp [habove], fun hbelow => by simp [hbelow, hbelow.le]⟩

end SwitchOn

/-- Settles O12: each clause is one command's completion, proved above. An upward step of the trim, and that nothing moves in another port's path or, at a
switch-on, in the PD side but VCONN, stand in no clause. -/
theorem switchOnCommandsComplete : Obligations.SwitchOnCommandsComplete :=
  ⟨fun _ _ _ _ => converterReady_starts, fun _ _ _ _ _ => converterReady_clears, fun _ _ _ _ _ => preswitchCheckDone_completes,
    fun _ _ _ _ => vbusSwitchOn_completes, fun _ _ _ _ => vsetTrim_completes, fun _ _ _ _ => ppsCurrentLimitStep_completes⟩

end Sys2Proof.Safety
end

section
/-! Capabilities, requests and transitions complete with their effects (R284, R287, R289, R299, R300): what sending, an acknowledgement, the judgement of a request
and PS_RDY do to a port's PD state, then each command's completion. -/

namespace Sys2Proof.Machine

variable {s : State} {n : PortId} {c : Contract} {rdo : Word}

/-! ### What a port offers, at its moment (R279, R296, R297) -/

@[simp] theorem maxW_begin (t : Nat) (s : State) (n : PortId) : maxW (begin t s) n = maxW s n := by simp [maxW]
@[simp] theorem eprEn_begin (t : Nat) (s : State) (n : PortId) : eprEn (begin t s) n = eprEn s n := by simp [eprEn]
@[simp] theorem capsPdp_begin (t : Nat) (s : State) (n : PortId) : capsPdp (begin t s) n = capsPdp s n := by simp [capsPdp, shareW]
@[simp] theorem firstFlags_begin (t : Nat) (s : State) (n : PortId) : firstFlags (begin t s) n = firstFlags s n := by simp [firstFlags, unconstrained]
@[simp] theorem sprCaps_begin (t : Nat) (s : State) (n : PortId) : sprCaps (begin t s) n = sprCaps s n := by simp [sprCaps, ppsEn]
@[simp] theorem eprCaps_begin (t : Nat) (s : State) (n : PortId) : eprCaps (begin t s) n = eprCaps s n := by simp [eprCaps, avsEn]
@[simp] theorem buildCaps_begin (t : Nat) (s : State) (n : PortId) (epr : Bool) : buildCaps (begin t s) n epr = buildCaps s n epr := by simp [buildCaps]

/-! ### Sending (R284, R289, R307) -/

@[simp] theorem sendMsg_pd (s : State) (n : PortId) (m : PdMsg) (next : PdThen) :
    (sendMsg s n m next).pd = vmod s.pd n (fun d => { d with awaiting := some m, tries := 1, thenDo := next }) := rfl
@[simp] theorem sendMsg_out (s : State) (n : PortId) (m : PdMsg) (next : PdThen) : (sendMsg s n m next).out = s.out ++ [.pd n m] := rfl
@[simp] theorem pdState_pd (s : State) (n : PortId) (st : PdState) :
    (pdState s n st).pd = vmod s.pd n (fun d => { d with state := st, stateSince := s.now }) := rfl

/-- The capabilities sent are those built, one sending more; they are awaited, and the policy goes on to NEGOTIATE. -/
theorem sendCaps_pd (s : State) (n : PortId) : ((sendCaps s n).pd.get n).sendings = (s.pd.get n).sendings + 1 ∧ ((sendCaps s n).pd.get n).capsAt = s.now ∧
    ((sendCaps s n).pd.get n).thenDo = .negotiate ∧ ((sendCaps s n).pd.get n).sent = buildCaps s n (s.pd.get n).capsEpr ∧
    ((sendCaps s n).pd.get n).awaiting.isSome = true ∧ ((sendCaps s n).pd.get n).state = (s.pd.get n).state ∧
    ((sendCaps s n).pd.get n).softAt = (s.pd.get n).softAt := by
  simp [sendCaps]

/-- From a share of 5 W, entering SEND_CAPS sends the capabilities for the first time; a Soft_Reset of the device's own is over. -/
theorem enterCaps_sends (hshare : 10 ≤ (s.power.get n).share) : ((enterCaps s n).pd.get n).state = .sendCaps ∧ ((enterCaps s n).pd.get n).sendings = 1 ∧
    ((enterCaps s n).pd.get n).awaiting.isSome = true ∧ ((enterCaps s n).pd.get n).softAt = none := by
  simp [enterCaps, hshare, sendCaps_pd _ _]

/-- A share that is not reclaimed is not asked back. -/
theorem unreclaim_of_not (h : (s.pd.get n).reclaim = false) : unreclaim s n = s := if_neg (by simp [h])

/-- Of the PD state, what the device's own sequences do to Rp changes only what Rp shows (R291). -/
theorem kickOwn_pd (s : State) (n : PortId) : ∃ level ng, (kickOwn s n).pd.get n = { s.pd.get n with rpNow := level, sinkTxNg := ng } := by
  unfold kickOwn
  dsimp only
  split
  · exact ⟨_, _, rfl⟩
  · split
    · split
      · exact ⟨_, _, rfl⟩
      · exact ⟨_, _, by rw [presentRp, setPd_pd, vmod_get_self, setPd_pd, vmod_get_self]⟩
    · exact ⟨_, _, by rw [presentRp, setPd_pd, vmod_get_self, setPd_pd, vmod_get_self]⟩

/-- The GoodCRC of the capabilities leads from SEND_CAPS to NEGOTIATE (R284, R287). -/
theorem acknowledged_caps (hthen : (s.pd.get n).thenDo = .negotiate) (hst : (s.pd.get n).state = .sendCaps) :
    ((acknowledged s n).pd.get n).state = .negotiate ∧ ((acknowledged s n).pd.get n).awaiting = none ∧
      ((acknowledged s n).pd.get n).msgIdTx = ((s.pd.get n).msgIdTx + 1) % 8 := by
  simp [acknowledged, hthen, hst]

/-! ### Requests (R299) -/

/-- A request is judged on the capabilities sent and the revision alone. -/
theorem requested_congr {d e : PortPd} (hsent : d.sent = e.sent) (hrev : d.rev2 = e.rev2) (rdo : Word) : requested d rdo = requested e rdo := by
  simp only [requested, hsent, hrev]

theorem judgeRequest_accepts (h : requested (s.pd.get n) rdo = some c) : ((judgeRequest s n rdo true).pd.get n).state = .transition ∧
    ((judgeRequest s n rdo true).pd.get n).next = some c ∧ ((judgeRequest s n rdo true).pd.get n).awaiting = some .accept ∧
    ((judgeRequest s n rdo true).pd.get n).lastRequest = s.now := by
  have hreq : requested { s.pd.get n with lastRequest := s.now, firstReq := true } rdo = some c := (requested_congr rfl rfl rdo).trans h
  simp only [judgeRequest, setPd_pd, vmod_get_self, if_true, hreq]
  split <;> simp [pdInfo_keeps _ _ _ _]

theorem judgeRequest_rejects (h : requested (s.pd.get n) rdo = none) (hkind : (s.pd.get n).contract.kind = 0) :
    ((judgeRequest s n rdo true).pd.get n).state = .sendCaps ∧ ((judgeRequest s n rdo true).pd.get n).awaiting = some .reject := by
  have hreq : requested { s.pd.get n with lastRequest := s.now, firstReq := true } rdo = none := (requested_congr rfl rfl rdo).trans h
  simp [judgeRequest, hreq, hkind]

/-- Outside EPR mode a Request of the revision in force is judged (R289, R299). -/
theorem takeRequest_spr (hst : (s.pd.get n).state = .negotiate) (hepr : (s.pd.get n).eprMode = false) :
    takeRequest s n rdo false = judgeRequest s n rdo true := by
  simp [takeRequest, hst, hepr]

/-- In EPR mode an EPR_Request whose copy is the object sent is judged (R299). -/
theorem takeEprRequest_epr {pdo : Word} (hst : (s.pd.get n).state = .ready) (hepr : (s.pd.get n).eprMode = true) (hpos : fld rdo 28 4 ≠ 0)
    (hcopy : (s.pd.get n).sent.getD (fld rdo 28 4 - 1) 0 = pdo) : takeEprRequest s n rdo pdo = judgeRequest s n rdo true := by
  have hpos' : (fld rdo 28 4 != 0) = true := bne_iff_ne.mpr hpos
  simp [takeEprRequest, hst, hepr, hpos', ← hcopy]

/-! ### A message that is taken (R289, R299, R304) -/

@[simp] theorem takeMessage_power (s : State) (n : PortId) (id : Fin 8) : (takeMessage s n id).power = s.power := rfl
@[simp] theorem takeMessage_out (s : State) (n : PortId) (id : Fin 8) : (takeMessage s n id).out = s.out ++ [.pd n .goodCrc] := rfl
@[simp] theorem takeMessage_now (s : State) (n : PortId) (id : Fin 8) : (takeMessage s n id).now = s.now := rfl

theorem requested_takeMessage (t : Nat) (s : State) (n : PortId) (id : Fin 8) (rdo : Word) :
    requested ((takeMessage (begin t s) n id).pd.get n) rdo = requested (s.pd.get n) rdo := requested_congr (by simp) (by simp) rdo

theorem unreclaim_takeMessage {t : Nat} {id : Fin 8} (h : (s.pd.get n).reclaim = false) :
    unreclaim (takeMessage (begin t s) n id) n = takeMessage (begin t s) n id := unreclaim_of_not (by simpa using h)

/-! ### PS_RDY (R300) -/

theorem toReady_pd (s : State) (n : PortId) : ((toReady s n).pd.get n).state = .ready ∧ ((toReady s n).pd.get n).contract = (s.pd.get n).contract ∧
    ((toReady s n).pd.get n).next = (s.pd.get n).next := by
  obtain ⟨_, _, hkick⟩ := kickOwn_pd (presentRp (pdState s n .ready) n) n
  rw [toReady, hkick]
  simp [presentRp]

theorem psRdy_contract (hnext : (s.pd.get n).next = some c) : ((psRdy s n).pd.get n).state = .ready ∧ ((psRdy s n).pd.get n).contract = c ∧
    ((psRdy s n).pd.get n).next = none ∧ (psRdy s n).power = s.power := by
  simp [psRdy, hnext, toReady_pd _ _, toReady_keeps _ _, powerNotice_keeps _ _ _, setPd_keeps _ _ _, sendMsg_keeps _ _ _ _]

end Sys2Proof.Machine

namespace Sys2Proof.Safety

open Sys2Proof.Machine

section Contracts
variable {t k v : Nat} {n : PortId} {id : Fin 8} {rdo pdo : Word} {m : PdMsg} {c : Contract} {s : State}

/-! ### Capabilities go out (R284, R287, R292) -/

section SendCaps
variable (hst : (s.pd.get n).state = .sendCaps) (hdet : (s.pd.get n).detaching = false)
include hst hdet

theorem sourceCapsSend_completes (hsend : (s.pd.get n).sendings = 0) (hreq : (s.pd.get n).firstReq = false) (hawait : (s.pd.get n).awaiting = none)
    (hshare : 10 ≤ (s.power.get n).share) : Completes (.sourceCapsSend t n) s fun u => (u.pd.get n).sendings = 1 ∧ (u.pd.get n).capsAt = max s.now t ∧
      (u.pd.get n).thenDo = .negotiate ∧ (u.pd.get n).sent = buildCaps s n (s.pd.get n).capsEpr ∧ (u.pd.get n).awaiting.isSome = true :=
  completes_event (execSourceCapsSend t n s) rfl rfl (by simp [hst, hdet, hsend, hreq, hawait, hshare]) (by simp [sendCaps_pd _ _, hsend])

theorem sourceCapsRetry_completes (hsend : 0 < (s.pd.get n).sendings) (hmax : (s.pd.get n).sendings < 50) (hawait : (s.pd.get n).awaiting = none)
    (ht : (s.pd.get n).capsAt + ticksMs 150 ≤ max s.now t) (hshare : 10 ≤ (s.power.get n).share) : Completes (.sourceCapsRetry t n) s fun u =>
      (u.pd.get n).sendings = (s.pd.get n).sendings + 1 ∧ (u.pd.get n).capsAt = max s.now t ∧ (u.pd.get n).state = .sendCaps :=
  completes_event (execSourceCapsRetry t n s) rfl rfl (by simpa [hst, hdet, hsend, hmax, hawait, hshare] using ht) (by simp [sendCaps_pd _ _, hst])

end SendCaps

theorem getSourceCap_completes (hnew : hearsNew s n id) (hreclaim : (s.pd.get n).reclaim = false) (hshare : 10 ≤ (s.power.get n).share) :
    Completes (.getSourceCap t n id) s fun u => (u.pd.get n).state = .sendCaps ∧ (u.pd.get n).sendings = 1 ∧ (u.pd.get n).awaiting.isSome = true := by
  have hsends := enterCaps_sends (s := takeMessage (begin t s) n id) (n := n) (by simpa using hshare)
  exact completes_heard (execGetSourceCap t n id s) rfl rfl hnew (by simp [unreclaim_takeMessage hreclaim, hsends])

theorem sinkTxWaitEnd_exits (hmay : mayStartOwn (begin t s) n = true) (hexit : (s.pd.get n).exitDue = true) :
    Completes (.sinkTxWaitEnd t n) s fun u => u.out = [.pd n (.eprMode 5 0)] ∧ (u.pd.get n).exitDue = false ∧ (u.pd.get n).capsReady = true :=
  completes_event (execSinkTxWaitEnd t n s) rfl rfl (by simp [hmay, hexit]) (by simp [hexit, setPd_keeps _ _ _])

/-! ### GoodCRC and its absence (R289) -/

theorem goodcrcReceived_caps (hawait : (s.pd.get n).awaiting = some m) (hthen : (s.pd.get n).thenDo = .negotiate) (hst : (s.pd.get n).state = .sendCaps) :
    Completes (.goodcrcReceived t n false) s fun u =>
      (u.pd.get n).state = .negotiate ∧ (u.pd.get n).awaiting = none ∧ (u.pd.get n).msgIdTx = ((s.pd.get n).msgIdTx + 1) % 8 :=
  completes_act (execGoodcrcReceived t n false s) rfl rfl (by simp [hawait, when_true, acknowledged_caps, hthen, hst])

theorem goodcrcReceived_prime (hawait : (s.pd.get n).awaitP = some m) : Completes (.goodcrcReceived t n true) s fun u =>
    (u.pd.get n).awaitP = none ∧ (u.pd.get n).msgIdTxP = ((s.pd.get n).msgIdTxP + 1) % 8 ∧ u.out = [] :=
  completes_act (execGoodcrcReceived t n true s) rfl rfl (by simp [hawait, when_true, setPd_keeps _ _ _])

theorem goodcrcTimeout_resends (hawait : (s.pd.get n).awaiting = some m) (htries : (s.pd.get n).tries < 3) : Completes (.goodcrcTimeout t n false) s fun u =>
    (u.pd.get n).tries = (s.pd.get n).tries + 1 ∧ u.out = [.pd n m] ∧ (u.pd.get n).awaiting = some m :=
  completes_act (execGoodcrcTimeout t n false s) rfl rfl (by simp [hawait, htries, setPd_keeps _ _ _, emit_keeps _ _])

theorem goodcrcTimeout_prime_ends (hawait : (s.pd.get n).awaitP = some m) (htries : 3 ≤ (s.pd.get n).triesP) :
    Completes (.goodcrcTimeout t n true) s fun u => (u.pd.get n).awaitP = none ∧ u.out = [] :=
  completes_act (execGoodcrcTimeout t n true s) rfl rfl (by simp [hawait, Nat.not_lt.mpr htries, setPd_keeps _ _ _, rcCount_keeps _ _ _])

/-- No Request within 30 ms of the capabilities is a hard reset (R287, R307). -/
theorem senderResponseTimeout_negotiate (hsoft : (s.pd.get n).softAt = none) (hswap : (s.pd.get n).swapAt = none) (hst : (s.pd.get n).state = .negotiate)
    (hdet : (s.pd.get n).detaching = false) (hawait : (s.pd.get n).awaiting = none) (ht : (s.pd.get n).stateSince + ticksMs 30 ≤ max s.now t)
    (hfirst : (s.pd.get n).hardResets = 0) :
    Completes (.senderResponseTimeout t n) s fun u => (u.pd.get n).state = .hardReset ∧ (u.pd.get n).hardResets = 1 :=
  completes_act (execSenderResponseTimeout t n s) rfl rfl
    (by simp [hsoft, hswap, hst, hdet, hawait, ht, hfirst, when_true, startHardReset_first])

/-! ### Requests (R299) -/

theorem request_accepted (hnew : hearsNew s n id) (hst : (s.pd.get n).state = .negotiate) (hepr : (s.pd.get n).eprMode = false)
    (hreq : requested (s.pd.get n) rdo = some c) : Completes (.request t n id rdo false) s fun u =>
      (u.pd.get n).state = .transition ∧ (u.pd.get n).next = some c ∧ (u.pd.get n).awaiting = some .accept ∧ (u.pd.get n).lastRequest = max s.now t := by
  have htake : takeRequest (takeMessage (begin t s) n id) n rdo false = judgeRequest (takeMessage (begin t s) n id) n rdo true :=
    takeRequest_spr (by simpa using hst) (by simpa using hepr)
  have hjudge := judgeRequest_accepts ((requested_takeMessage t s n id rdo).trans hreq)
  exact completes_heard (execRequest t n id rdo false s) rfl rfl hnew (by simp [htake, hjudge])

theorem request_rejected (hnew : hearsNew s n id) (hst : (s.pd.get n).state = .negotiate) (hepr : (s.pd.get n).eprMode = false)
    (hkind : (s.pd.get n).contract.kind = 0) (hreq : requested (s.pd.get n) rdo = none) :
    Completes (.request t n id rdo false) s fun u => (u.pd.get n).state = .sendCaps ∧ (u.pd.get n).awaiting = some .reject := by
  have htake : takeRequest (takeMessage (begin t s) n id) n rdo false = judgeRequest (takeMessage (begin t s) n id) n rdo true :=
    takeRequest_spr (by simpa using hst) (by simpa using hepr)
  have hjudge := judgeRequest_rejects ((requested_takeMessage t s n id rdo).trans hreq) (by simpa using hkind)
  exact completes_heard (execRequest t n id rdo false s) rfl rfl hnew (by simp [htake, hjudge])

theorem eprRequest_accepted (hnew : hearsNew s n id) (hst : (s.pd.get n).state = .ready) (hepr : (s.pd.get n).eprMode = true) (hpos : fld rdo 28 4 ≠ 0)
    (hcopy : (s.pd.get n).sent.getD (fld rdo 28 4 - 1) 0 = pdo) (hreq : requested (s.pd.get n) rdo = some c) :
    Completes (.eprRequest t n id rdo pdo) s fun u =>
      (u.pd.get n).state = .transition ∧ (u.pd.get n).next = some c ∧ (u.pd.get n).awaiting = some .accept := by
  have htake : takeEprRequest (takeMessage (begin t s) n id) n rdo pdo = judgeRequest (takeMessage (begin t s) n id) n rdo true :=
    takeEprRequest_epr (by simpa using hst) (by simpa using hepr) hpos (by simpa using hcopy)
  have hjudge := judgeRequest_accepts ((requested_takeMessage t s n id rdo).trans hreq)
  exact completes_heard (execEprRequest t n id rdo pdo s) rfl rfl hnew (by simp [htake, hjudge])

/-! ### Transitions (R300) -/

theorem transitionStart_completes (hnext : (s.pd.get n).next = some c) (hst : (s.pd.get n).state = .transition) (hawait : (s.pd.get n).awaiting = none)
    (hstart : (s.pd.get n).transitionStart = none) (ht : (s.pd.get n).acceptAcked + ticksMs 30 ≤ max s.now t) :
    Completes (.transitionStart t n) s fun u =>
      (u.pd.get n).transitionStart = some (max s.now t) ∧ (u.power.get n).vset = c.mv / 20 ∧ (u.power.get n).nominal = c.mv / 20 :=
  completes_act (execTransitionStart t n s) rfl rfl
    (by simp [hnext, hst, hawait, hstart, ht, when_true, setPower_keeps _ _ _, setPd_keeps _ _ _])

section Transition
variable (hnext : (s.pd.get n).next = some c) (hstart : (s.pd.get n).transitionStart = some k) (hst : (s.pd.get n).state = .transition)
include hnext hstart hst

theorem psRdySend_completes (hwin : inContractWindow c v = true) (ht : k + ticksMs 1 ≤ max s.now t) : Completes (.psRdySend t n v) s fun u =>
    (u.pd.get n).state = .ready ∧ (u.pd.get n).contract = c ∧ (u.pd.get n).next = none ∧ (u.power.get n).vbusMv = v := by
  have hready := psRdy_contract (s := setPower (begin t s) n (fun p => { p with vbusMv := v, discharge := false })) (n := n) (c := c)
    (by simpa [setPower_keeps _ _ _] using hnext)
  exact completes_act (execPsRdySend t n v s) rfl rfl (by simp [hnext, hstart, hst, hwin, ht, when_true, hready])

/-- A transition that misses its bound is a hard reset (R287, R300). -/
theorem transitionBoundMissed_completes (ht : k + ticksMs (transitionBound (s.pd.get n) c) ≤ max s.now t) (hfirst : (s.pd.get n).hardResets = 0) :
    Completes (.transitionBoundMissed t n) s fun u => (u.pd.get n).state = .hardReset ∧ (u.pd.get n).contract = .none :=
  completes_act (execTransitionBoundMissed t n s) rfl rfl
    (by simp [hnext, hstart, hst, ht, hfirst, when_true, startHardReset_first, record_keeps _ _ _ _ _ _ _, rcCount_keeps _ _ _])

end Transition
end Contracts

/-- Settles O38: each clause is one command's completion, proved above. That Get_Source_Cap leads to SEND_CAPS rests on assumption 84, the window of a contract on
assumption 92, and that VSET takes its new code at once on assumption 93. -/
theorem contractCommandsComplete : Obligations.ContractCommandsComplete :=
  ⟨fun _ _ _ => sourceCapsSend_completes, fun _ _ _ => sourceCapsRetry_completes, fun _ _ _ _ => goodcrcReceived_caps,
    fun _ _ _ _ => goodcrcReceived_prime, fun _ _ _ _ => goodcrcTimeout_resends, fun _ _ _ _ => goodcrcTimeout_prime_ends,
    fun _ _ _ => senderResponseTimeout_negotiate, fun _ _ _ _ _ _ hnew hst hepr _ => request_accepted hnew hst hepr,
    fun _ _ _ _ _ => request_rejected, fun _ _ _ _ _ _ _ => eprRequest_accepted, fun _ _ _ _ => transitionStart_completes,
    fun _ _ _ _ _ _ => psRdySend_completes, fun _ _ _ _ _ => transitionBoundMissed_completes, fun _ _ _ => sinkTxWaitEnd_exits,
    fun _ _ _ _ => getSourceCap_completes⟩

end Sys2Proof.Safety
end

section
/-! The replies to a sink's messages complete (R292, R293, R301, R302, R306): what the answers read is not moved by the message's arrival, then each message's
completion. -/

namespace Sys2Proof.Machine

variable {s : State} {n : PortId}

/-! ### What an answer reads once its message is taken (R292, R293, R306) -/

@[simp] theorem maxW_takeMessage (s : State) (n m : PortId) (id : Fin 8) : maxW (takeMessage s n id) m = maxW s m := rfl
@[simp] theorem eprEn_takeMessage (s : State) (n m : PortId) (id : Fin 8) : eprEn (takeMessage s n id) m = eprEn s m := rfl
@[simp] theorem usbVid_takeMessage (t : Nat) (s : State) (n : PortId) (id : Fin 8) : usbVid (takeMessage (begin t s) n id) = usbVid s := rfld_begin t s _ _ _
@[simp] theorem usbPid_takeMessage (t : Nat) (s : State) (n : PortId) (id : Fin 8) : usbPid (takeMessage (begin t s) n id) = usbPid s := rfld_begin t s _ _ _

theorem powerStatusByte_takeMessage (t : Nat) (s : State) (n : PortId) (id : Fin 8) :
    powerStatusByte (takeMessage (begin t s) n id) n = powerStatusByte s n := by
  have hmodes : (takeMessage (begin t s) n id).modes = s.modes := begin_modes t s
  simp [powerStatusByte, hmodes]

theorem identityVdos_takeMessage (t : Nat) (s : State) (n : PortId) (id : Fin 8) : identityVdos (takeMessage (begin t s) n id) n = identityVdos s n := by
  have hreg (a lo k : Nat) : rfld (takeMessage (begin t s) n id) a lo k = rfld s a lo k := rfld_begin t s a lo k
  have hseal : (takeMessage (begin t s) n id).sealUnit = s.sealUnit := begin_sealUnit t s
  simp [identityVdos, hreg, hseal]

/-! ### Extended replies and the end of EPR mode (R289, R301) -/

/-- A partner of Revision 3 gets an extended reply (R289). -/
theorem replyExt_of_rev3 {type : Nat} {m : PdMsg} (h : (s.pd.get n).rev2 = false) : replyExt s n type m = sendMsg s n m .nothing := if_neg (by simp [h])

/-- From a contract of the SPR list EPR mode ends, and the contract stands (R301). -/
theorem eprExit_spr {own : Bool} (hpos : (s.pd.get n).contract.pos < 8) :
    ((eprExit s n own).pd.get n).eprMode = false ∧ ((eprExit s n own).pd.get n).contract = (s.pd.get n).contract := by
  obtain ⟨_, _, hkick⟩ := kickOwn_pd (markCaps (setPd s n (fun d => { d with eprMode := false, exitDue := d.exitDue || own })) n true) n
  rw [eprExit, if_neg (Nat.not_le.mpr hpos), hkick]
  simp [markCaps]

end Sys2Proof.Machine

namespace Sys2Proof.Safety

open Sys2Proof.Machine

/-- A port answers with its GoodCRC and a message, and awaits that message's GoodCRC. -/
def Answers (n : PortId) (m : PdMsg) (u : State) : Prop := u.out = [.pd n .goodCrc, .pd n m] ∧ (u.pd.get n).awaiting = some m

/-- A message that is no repeat, and that calls for a reply and nothing else, completes with the reply after its GoodCRC. -/
theorem completes_reply {i : Instr} {t : Nat} {n : PortId} {id : Fin 8} {s v : State} {m : PdMsg} {f : State → State}
    (meaning : Host.Outcome State Fault Refusal) (hc : exec i s = meaning) (hm : meaning = act t s fun u => heard u n id f) (hnew : hearsNew s n id)
    (hf : f (takeMessage (begin t s) n id) = sendMsg v n m .nothing) (hout : v.out = [.pd n .goodCrc]) : Completes i s (Answers n m) :=
  completes_heard meaning hc hm hnew (by rw [hf]; simp [Answers, hout])

section Replies
variable {t type : Nat} {n : PortId} {id : Fin 8} {s : State}

/-! ### Soft_Reset (R289, R307) -/

theorem softReset_completes (hh : hears s n = true) (hst : (s.pd.get n).state ≠ .transition) : Completes (.softReset t n) s fun u =>
    Answers n .accept u ∧ (u.pd.get n).msgIdTx = 0 ∧ (u.pd.get n).thenDo = .caps :=
  completes_event (execSoftReset t n s) rfl rfl (by simpa using hh) (by simp [hst, Answers, rcCount_keeps _ _ _, setPd_keeps _ _ _])

section NewMessage
variable (hnew : hearsNew s n id)
include hnew

theorem accept_of_softReset (hsoft : (s.pd.get n).softAt.isSome = true) (hshare : 10 ≤ (s.power.get n).share) :
    Completes (.pdMessageUnexpected t n id .accept) s fun u => (u.pd.get n).softAt = none ∧ (u.pd.get n).state = .sendCaps :=
  completes_heard (execPdMessageUnexpected t n id .accept s) rfl rfl hnew
    (by simp [hsoft, enterCaps_sends, hshare, setPd_keeps _ _ _])

/-! ### EPR mode (R292, R301, R302) -/

theorem eprModeEnter_acknowledged (hst : (s.pd.get n).state = .ready) (hrev : (s.pd.get n).rev2 = false) (hkind : (s.pd.get n).contract.kind ≠ 0)
    (hpos : (s.pd.get n).contract.pos < 8) (hepr : (s.pd.get n).eprMode = false) (hen : eprEn s n = true) (hw : 100 < maxW s n) :
    Completes (.eprModeEnter t n id) s fun u => Answers n (.eprMode 2 0) u ∧ (u.pd.get n).thenDo = .eprDecide :=
  completes_heard (execEprModeEnter t n id s) rfl rfl hnew
    (by simp [Answers, hst, hrev, hkind, Nat.not_le.mpr hpos, hepr, hen, Nat.not_le.mpr hw])

theorem eprModeExit_spr (hepr : (s.pd.get n).eprMode = true) (hpos : (s.pd.get n).contract.pos < 8) :
    Completes (.eprModeExit t n id) s fun u => (u.pd.get n).eprMode = false ∧ (u.pd.get n).contract = (s.pd.get n).contract :=
  completes_heard (execEprModeExit t n id s) rfl rfl hnew (by simp [hepr, eprExit_spr, hpos])

theorem eprKeepalive_acknowledged :
    Completes (.eprKeepalive t n id) s fun u => Answers n .eprKeepAliveAck u ∧ (u.pd.get n).lastMsg = max s.now t :=
  completes_heard (execEprKeepalive t n id s) rfl rfl hnew (by simp [Answers])

theorem eprGetSourceCap_notSupported (hreclaim : (s.pd.get n).reclaim = false) (hen : eprEn s n = false) :
    Completes (.eprGetSourceCap t n id) s (Answers n .notSupported) :=
  completes_reply (v := pdInfo (takeMessage (begin t s) n id) n 0x040A 17) (execEprGetSourceCap t n id s) rfl rfl hnew
    (by simp [unreclaim_takeMessage hreclaim, hen, notSupported]) (by simp [pdInfo_keeps _ _ _ _])

/-- In SPR mode the EPR capabilities go out, and the port stays in its state. -/
theorem eprGetSourceCap_sends (hreclaim : (s.pd.get n).reclaim = false) (hen : eprEn s n = true) (hepr : (s.pd.get n).eprMode = false) :
    Completes (.eprGetSourceCap t n id) s fun u => (∃ caps, Answers n (.eprSourceCaps caps) u) ∧ (u.pd.get n).state = (s.pd.get n).state :=
  completes_heard (execEprGetSourceCap t n id s) rfl rfl hnew (by simp [Answers, unreclaim_takeMessage hreclaim, hen, hepr, setPd_keeps _ _ _])

/-! ### What the sink asks for (R292, R306) -/

theorem getStatus_replies (hrev : (s.pd.get n).rev2 = false) : Completes (.getStatus t n id) s (Answers n (.status (powerStatusByte s n))) :=
  completes_reply (execGetStatus t n id s) rfl rfl hnew (by rw [replyExt_of_rev3 (by simpa using hrev), powerStatusByte_takeMessage]) (by simp)

theorem getPpsStatus_notSupported (hkind : (s.pd.get n).contract.kind < 2) : Completes (.getPpsStatus t n id) s (Answers n .notSupported) :=
  completes_reply (execGetPpsStatus t n id s) rfl rfl hnew (if_neg (by simpa using hkind)) (by simp [pdInfo_keeps _ _ _ _])

theorem getPpsStatus_replies (hrev : (s.pd.get n).rev2 = false) (hkind : 2 ≤ (s.pd.get n).contract.kind) :
    Completes (.getPpsStatus t n id) s (Answers n (.ppsStatus (s.power.get n).vbusMv (s.power.get n).ampsMa)) :=
  completes_reply (execGetPpsStatus t n id s) rfl rfl hnew
    (by rw [if_pos (by simpa using hkind), replyExt_of_rev3 (by simpa using hrev), takeMessage_power, begin_power]) (by simp)

theorem getSourceInfo_replies : Completes (.getSourceInfo t n id) s (Answers n (.sourceInfo (maxW s n) (s.pd.get n).pdp (s.pd.get n).pdp)) :=
  completes_reply (v := takeMessage (begin t s) n id) (execGetSourceInfo t n id s) rfl rfl hnew (by simp) (by simp)

theorem getRevision_replies : Completes (.getRevision t n id) s (Answers n (.revision 0x32100000)) :=
  completes_reply (execGetRevision t n id s) rfl rfl hnew rfl (by simp)

theorem getSourceCapExtended_replies (hrev : (s.pd.get n).rev2 = false) :
    Completes (.getSourceCapExtended t n id) s fun u => u.out.length = 2 ∧ (u.pd.get n).awaiting.isSome = true :=
  completes_heard (execGetSourceCapExtended t n id s) rfl rfl hnew (by simp [replyExt, hrev])

theorem getManufacturerInfo_replies (hrev : (s.pd.get n).rev2 = false) :
    Completes (.getManufacturerInfo t n id) s (Answers n (.manufacturerInfo (usbVid s) (usbPid s))) :=
  completes_reply (execGetManufacturerInfo t n id s) rfl rfl hnew
    (by rw [replyExt_of_rev3 (by simpa using hrev), usbVid_takeMessage, usbPid_takeMessage]) (by simp)

/-! ### Messages with no reply of their own (R292) -/

theorem unsupportedMessage_notSupported : Completes (.unsupportedMessage t n id type) s (Answers n .notSupported) :=
  completes_reply (execUnsupportedMessage t n id type s) rfl rfl hnew rfl (by simp [pdInfo_keeps _ _ _ _])

theorem ignoredMessage_plain :
    Completes (.ignoredMessage t n id .plain) s fun u => u.out = [.pd n .goodCrc] ∧ (u.pd.get n).awaiting = (s.pd.get n).awaiting :=
  completes_heard (execIgnoredMessage t n id .plain s) rfl rfl hnew (by simp)

theorem bist_carrier (hlow : 4750 ≤ (s.power.get n).vbusMv) (hhigh : (s.power.get n).vbusMv ≤ 5500) :
    Completes (.bist t n id .carrier) s fun u => u.out = [.pd n .goodCrc, .bist n true] ∧ (u.pd.get n).state = (s.pd.get n).state :=
  completes_heard (execBist t n id .carrier s) rfl rfl hnew (by simp [show (BistMode.carrier != .other) = true from rfl, hlow, hhigh, when_true, emit_keeps _ _])

/-! ### Structured VDMs (R293) -/

theorem discoverIdentity_acknowledged : Completes (.discoverIdentity t n id) s (Answers n (.vdmAck (identityVdos s n))) :=
  completes_reply (execDiscoverIdentity t n id s) rfl rfl hnew (by rw [identityVdos_takeMessage]) (by simp)

theorem structuredVdmNak_refused : Completes (.structuredVdmNak t n id) s (Answers n .vdmNak) :=
  completes_reply (execStructuredVdmNak t n id s) rfl rfl hnew rfl (by simp)

end NewMessage
end Replies

/-- Settles O39: each clause is one message's completion, proved above. That EPR_Get_Source_Cap leaves the state as it is rests on assumption 84, which BIST modes
are taken on assumption 101, and the identities and the fields of messages on assumptions 28 and 91; of Get_Source_Cap_Extended's reply only that it goes out and
is awaited stands in a clause. -/
theorem pdRepliesComplete : Obligations.PdRepliesComplete :=
  ⟨fun _ _ _ => softReset_completes, fun _ _ _ _ => accept_of_softReset, fun _ _ _ _ => eprModeEnter_acknowledged, fun _ _ _ _ => eprModeExit_spr,
    fun _ _ _ _ => eprKeepalive_acknowledged, fun _ _ _ _ => eprGetSourceCap_notSupported, fun _ _ _ _ => eprGetSourceCap_sends,
    fun _ _ _ _ => getStatus_replies, fun _ _ _ _ => getPpsStatus_notSupported, fun _ _ _ _ => getPpsStatus_replies,
    fun _ _ _ _ => getSourceInfo_replies, fun _ _ _ _ => getRevision_replies, fun _ _ _ _ => getSourceCapExtended_replies,
    fun _ _ _ _ => getManufacturerInfo_replies, fun _ _ _ _ _ => unsupportedMessage_notSupported, fun _ _ _ _ => ignoredMessage_plain,
    fun _ _ _ _ => bist_carrier, fun _ _ _ _ => discoverIdentity_acknowledged, fun _ _ _ _ => structuredVdmNak_refused⟩

end Sys2Proof.Safety
end

section
/-! While Folio stays powered every command leaves the tick at which the Stroke counter was 0 (R341), and every command answers a next state.

One lemma for each command, `KeepsStrokeBase.execX`, in the order of the model's files: Laws/ says that the operations the effect is made of leave the field as
it was, and here is said that of the choices and loops between them. A reset of Folio alone writes the field: a warm one, which every warm Boot passes through,
writes back what stands there; a cold one happens where Folio was not powered or does not stay powered. -/

namespace Sys2Proof.Machine

/-- A command is an effect at its moment, and while Folio stays powered the effect leaves the tick at which the Stroke counter was 0 (R341). -/
def KeepsStrokeBase (s : State) (o : Host.Outcome State Fault Refusal) : Prop :=
  ∃ t f, o = act t s f ∧ ∀ u, u.folioOn = true → (f u).folioOn = true → (f u).strokeBase = u.strokeBase

variable {s : State}

/-! ### The forms a command takes -/

theorem KeepsStrokeBase.act {t f} (hf : ∀ u, (f u).strokeBase = u.strokeBase) : KeepsStrokeBase s (act t s f) := ⟨t, f, rfl, fun u _ _ => hf u⟩

/-- An event under its condition; the effect may read the state the condition was read in. -/
theorem KeepsStrokeBase.event {t} {g : State → Bool} {f : State → State → State} (hf : ∀ u v, (f u v).strokeBase = v.strokeBase) :
    KeepsStrokeBase s (Machine.act t s fun u => when (g u) u (f u)) := .act fun u => when_strokeBase _ _ _ (hf u u)

/-- A command through a PRIV register: its effect or the denial of R44. -/
theorem KeepsStrokeBase.privCmd {t p a f} (hf : ∀ u, (f u).strokeBase = u.strokeBase) : KeepsStrokeBase s (privCmd t p a s f) :=
  .event fun _ v => by simp [hf v, privDenied_keeps _ _ _]

/-- A command of a ring: its effect on the port it names, once it passes the checks of every command. -/
theorem KeepsStrokeBase.runCmd {t v slot type pick f} (hf : ∀ u e n, (f u e n).strokeBase = u.strokeBase) :
    KeepsStrokeBase s (runCmd t v slot type pick s f) := .act fun _ => by
  split
  · exact when_strokeBase _ _ _ (startOn_strokeBase _ _ _ _ hf)
  · rfl

/-- A message of the partner: its effect, once it is new. -/
theorem KeepsStrokeBase.heard {t n id} {f : State → State} (hf : ∀ u, (f u).strokeBase = u.strokeBase) :
    KeepsStrokeBase s (Machine.act t s fun u => heard u n id f) := .act fun _ => heard_strokeBase _ _ _ _ hf

/-! ### Resets of Folio (R341, R387, R394, R433) -/

theorem folioReset_warm_strokeBase (s : State) : (folioReset s true).strokeBase = s.strokeBase := by simp [folioReset, heatCause_keeps _]

theorem folioReset_cold_strokeBase (s : State) : (folioReset s false).strokeBase = s.now := by simp [folioReset, heatCause_keeps _]

@[simp] theorem warmBoot_strokeBase (s : State) (persist : Bool) (nor : Option NorView) : (warmBoot s persist nor).strokeBase = s.strokeBase := by
  simp [warmBoot, bootLoad_keeps _, takeNor_keeps _ _, linkCause_keeps _, pushRecord_keeps _ _, enterMode_keeps _ _, rcCount_keeps _ _ _,
    folioReset_warm_strokeBase, decideNow_keeps _, disableOpen_keeps _ _, dropHosts_keeps _, persistEverything_keeps _, abandonImage_keeps _]

theorem railFail_folioOn (s : State) : (railFail s).folioOn = false := by simp [railFail, followInput_keeps _]

/-! ### Writes that may reboot (R6, R382, R394, R399) -/

@[simp] theorem modeWake_strokeBase (s : State) : (modeWake s).strokeBase = s.strokeBase := by
  simp [modeWake, refuseMode_keeps _ _, answerMode_keeps _ _, wakeSource_keeps _]

@[simp] theorem modeReboot_strokeBase (s : State) : (modeReboot s).strokeBase = s.strokeBase := by
  simp [modeReboot, refuseMode_keeps _ _, answerMode_keeps _ _]

@[simp] theorem modeCtrl_strokeBase (s : State) (w : Word) : (modeCtrl s w).strokeBase = s.strokeBase := by
  simp [modeCtrl, refuseMode_keeps _ _, modeManaged_keeps _, modeSuspend_keeps _, modeStandby_keeps _]

@[simp] theorem w1pGlobal_strokeBase (s : State) (p : Path) (a : Nat) (w : Word) : (w1pGlobal s p a w).strokeBase = s.strokeBase := by
  simp [w1pGlobal, rubricAbort_keeps _, rubricCommit_keeps _ _, timeSample_keeps _, imgOpen_keeps _ _, imgCommitFree_keeps _, abandonImage_keeps _,
    quarExit_keeps _, advanceFloor_keeps _, returnArm_keeps _, returnDisarm_keeps _, keyLoad_keeps _ _, keyWithdraw_keeps _ _, fuseOwner_keeps _]

@[simp] theorem w1pBlock_strokeBase (s : State) (p : Path) (a : Nat) (w : Word) : (w1pBlock s p a w).strokeBase = s.strokeBase := by
  unfold w1pBlock
  (repeat' split) <;> simp [inputClear_keeps _, inputFetClear_keeps _, palFreeze_keeps _ _, palUnfreeze_keeps _ _, palVerify_keeps _, startLoad_keeps _,
    palNext_keeps _, palPrev_keeps _, irqAck_keeps _, popWord_keeps _, skipNotice_keeps _, flushBoard_keeps _, qpReset_keeps _ _]

@[simp] theorem takeW1p_strokeBase (s : State) (p : Path) (a : Nat) (w : Word) : (takeW1p s p a w).strokeBase = s.strokeBase := by
  simp [takeW1p, w1pPort_keeps _ _ _ _ _]

@[simp] theorem setupWrite_strokeBase (s : State) (p : Path) (a : Nat) (w : Word) : (setupWrite s p a w).strokeBase = s.strokeBase := by
  unfold setupWrite
  (repeat' split) <;> simp [pageWrite_keeps _ _ _ _ _, privDenied_keeps _ _ _, imgData_keeps _ _, takeRw_keeps _ _ _ _ _]

/-! ### Commands of Machine/PalimpsestCmds.lean -/

theorem KeepsStrokeBase.execRecordCommit {t result} : KeepsStrokeBase s (execRecordCommit t result s) := .act fun _ => by
  split
  · rfl
  · refine when_strokeBase _ _ _ ?_
    split
    · simp [programRecord_keeps _ _ _]
    · simp [programRecord_keeps _ _ _]
    · dsimp only
      split <;> simp [norFailure_keeps _ _ _ _, setRing_keeps _ _ _]
theorem KeepsStrokeBase.execSectorRecycle {t ring ok} : KeepsStrokeBase s (execSectorRecycle t ring ok s) := .event fun _ _ => by
  dsimp only
  (repeat' split) <;> simp [marker_keeps _ _ _ _, programRecord_keeps _ _ _, setRing_keeps _ _ _, norFailure_keeps _ _ _ _]
theorem KeepsStrokeBase.execBucketRefill {t code port} : KeepsStrokeBase s (execBucketRefill t code port s) := .act fun _ => by
  split <;> simp [pushRecord_keeps _ _]
theorem KeepsStrokeBase.execSummaryPeriodClose {t} : KeepsStrokeBase s (execSummaryPeriodClose t s) :=
  .event fun _ _ => by simp [marker_keeps _ _ _ _, closeSummaries_keeps _ _]
theorem KeepsStrokeBase.execPalFreeze {t path} : KeepsStrokeBase s (execPalFreeze t path s) := .privCmd fun _ => by simp [palFreeze_keeps _ _]
theorem KeepsStrokeBase.execPalUnfreeze {t path} : KeepsStrokeBase s (execPalUnfreeze t path s) := .privCmd fun _ => by simp [palUnfreeze_keeps _ _]
theorem KeepsStrokeBase.execPalVerify {t path} : KeepsStrokeBase s (execPalVerify t path s) := .privCmd fun _ => rfl
theorem KeepsStrokeBase.execPalVerifyDone {t} : KeepsStrokeBase s (execPalVerifyDone t s) := .event fun _ _ => rfl
theorem KeepsStrokeBase.execPalLoad {t path} : KeepsStrokeBase s (execPalLoad t path s) := .privCmd fun _ => rfl
theorem KeepsStrokeBase.execPalNext {t path} : KeepsStrokeBase s (execPalNext t path s) := .privCmd fun _ => by simp [palNext_keeps _]
theorem KeepsStrokeBase.execPalPrev {t path} : KeepsStrokeBase s (execPalPrev t path s) := .privCmd fun _ => by simp [palPrev_keeps _]
theorem KeepsStrokeBase.execRecordLoadReady {t} : KeepsStrokeBase s (execRecordLoadReady t s) := .event fun _ _ => by
  dsimp only
  split
  · rfl
  · refine when_strokeBase _ _ _ ?_
    split <;> rfl
theorem KeepsStrokeBase.execGapScanComplete {t} : KeepsStrokeBase s (execGapScanComplete t s) := .event fun _ _ => by simp [marker_keeps _ _ _ _]

/-! ### Commands of Machine/Inkwell.lean -/

theorem KeepsStrokeBase.execBankWindow {t} : KeepsStrokeBase s (execBankWindow t s) := .event fun _ _ => rfl
theorem KeepsStrokeBase.execConflictWindow {t grants demands} : KeepsStrokeBase s (execConflictWindow t grants demands s) := .event fun _ _ => by
  dsimp only
  split <;> simp [keyNow_keeps _, conflictTrip_keeps _ _]

/-! ### Commands of Machine/Rings.lean -/

theorem KeepsStrokeBase.execNoticeDelivery {t v} : KeepsStrokeBase s (execNoticeDelivery t v s) := .event fun _ _ => by simp [deliverNotice_keeps _ _]
theorem KeepsStrokeBase.execMsixIntervalExpiry {t v} : KeepsStrokeBase s (execMsixIntervalExpiry t v s) := .event fun _ _ => by simp [raiseMsix_keeps _ _]
theorem KeepsStrokeBase.execRdmaAckReceived {t v upTo all} : KeepsStrokeBase s (execRdmaAckReceived t v upTo all s) := .event fun _ _ => by
  dsimp only
  split <;> simp [setVi_keeps _ _ _, setQp_keeps _ _ _, flushEvents_keeps _ _]

/-! ### Commands of Machine/InputCmds.lean -/

theorem KeepsStrokeBase.execVinPreRise {t vin} : KeepsStrokeBase s (execVinPreRise t vin s) :=
  .event fun _ _ => by simp [followInput_keeps _, setInput_keeps _ _]
theorem KeepsStrokeBase.execVinPreCollapse {t} : KeepsStrokeBase s (execVinPreCollapse t s) := .event fun _ _ => by simp [collapseReservoir_keeps _]
theorem KeepsStrokeBase.execSeatStable {t vin} : KeepsStrokeBase s (execSeatStable t vin s) :=
  .event fun _ _ => by simp [setInput_keeps _ _, startInrush_keeps _ _]
theorem KeepsStrokeBase.execSeatRelease {t pinB} : KeepsStrokeBase s (execSeatRelease t pinB s) := .event fun _ _ => by
  (repeat' split) <;> simp [setInput_keeps _ _, loseInput_keeps _ _, reseat_keeps _]
theorem KeepsStrokeBase.execInrushDone {t vin vout} : KeepsStrokeBase s (execInrushDone t vin vout s) :=
  .event fun _ _ => by simp [followInput_keeps _, setInput_keeps _ _]
theorem KeepsStrokeBase.execInrushTimerExpiry {t} : KeepsStrokeBase s (execInrushTimerExpiry t s) := .event fun _ _ => by simp [tripInput_keeps _ _]
theorem KeepsStrokeBase.execInputLoss {t cause vin amps} : KeepsStrokeBase s (execInputLoss t cause vin amps s) :=
  .event fun _ _ => by simp [loseInput_keeps _ _, setInput_keeps _ _]
theorem KeepsStrokeBase.execInputReturn {t vin} : KeepsStrokeBase s (execInputReturn t vin s) := .event fun _ _ => by simp [startInrush_keeps _ _]
theorem KeepsStrokeBase.execInputRetryWaitExpiry {t vin} : KeepsStrokeBase s (execInputRetryWaitExpiry t vin s) :=
  .event fun _ _ => by simp [startInrush_keeps _ _, setInput_keeps _ _, recordRes_keeps _ _ _ _ _ _ _]
theorem KeepsStrokeBase.execInputRetryClear {t} : KeepsStrokeBase s (execInputRetryClear t s) := .event fun _ _ => rfl
theorem KeepsStrokeBase.execInClear {t path} : KeepsStrokeBase s (execInClear t path s) := .privCmd fun _ => by simp [inputClear_keeps _]
theorem KeepsStrokeBase.execInClearFetFail {t path} : KeepsStrokeBase s (execInClearFetFail t path s) := .privCmd fun _ => by simp [inputFetClear_keeps _]
theorem KeepsStrokeBase.execPgRelease {t vout} : KeepsStrokeBase s (execPgRelease t vout s) := .event fun _ _ => rfl
theorem KeepsStrokeBase.execPgFall {t vout} : KeepsStrokeBase s (execPgFall t vout s) := .event fun _ _ => rfl
theorem KeepsStrokeBase.execEarlyWarning {t vin} : KeepsStrokeBase s (execEarlyWarning t vin s) := .event fun _ _ => by
  split <;> simp [recordRes_keeps _ _ _ _ _ _ _, powerEvent_keeps _ _, setInput_keeps _ _, flushAfterSheds_keeps _, brownoutSheds_keeps _,
    enterBrownout_keeps _, wakeSource_keeps _]
theorem KeepsStrokeBase.execEarlyWarningClear {t vin} : KeepsStrokeBase s (execEarlyWarningClear t vin s) := .event fun _ _ => by
  split <;> simp [setInput_keeps _ _, kickOwn_keeps _ _, setPd_keeps _ _ _, recomputeShares_keeps _, leaveBrownout_keeps _]
theorem KeepsStrokeBase.execShedWaitExpiry {t port} : KeepsStrokeBase s (execShedWaitExpiry t port s) :=
  .event fun _ _ => by simp [setPd_keeps _ _ _, shedOff_keeps _ _ _, shedPort_keeps _ _, flushAfterSheds_keeps _]
theorem KeepsStrokeBase.execVauxFall {t} : KeepsStrokeBase s (execVauxFall t s) :=
  .event fun _ _ => by simp [recordRes_keeps _ _ _ _ _ _ _, gateOff_keeps _ _ _ _, setPower_keeps _ _ _, shedOff_keeps _ _ _]
theorem KeepsStrokeBase.execVauxRecover {t} : KeepsStrokeBase s (execVauxRecover t s) := .event fun _ _ => rfl

/-! ### Commands of Machine/PathCmds.lean -/

theorem KeepsStrokeBase.execConverterReady {t port isp} : KeepsStrokeBase s (execConverterReady t port isp s) := .event fun _ _ => by
  split <;> simp [setPower_keeps _ _ _]
theorem KeepsStrokeBase.execPreswitchCheckDone {t port isp mid} : KeepsStrokeBase s (execPreswitchCheckDone t port isp mid s) :=
  .event fun _ _ => by simp [gateDrive_keeps _ _, setPower_keeps _ _ _]
theorem KeepsStrokeBase.execVbusSwitchOn {t port isp} : KeepsStrokeBase s (execVbusSwitchOn t port isp s) :=
  .event fun _ _ => by simp [gateDrive_keeps _ _, setPower_keeps _ _ _]
theorem KeepsStrokeBase.execVsetTrim {t port isp} : KeepsStrokeBase s (execVsetTrim t port isp s) := .event fun _ _ => rfl
theorem KeepsStrokeBase.execBreakerEval {t path sample v1 v2 v3} : KeepsStrokeBase s (execBreakerEval t path sample v1 v2 v3 s) := .event fun _ _ => by
  split <;> simp [samplePort_keeps _ _ _ _ _ _, tripPath_keeps _ _ _ _, setInput_keeps _ _, summed_keeps _ _ _ _, tripInput_keeps _ _]
theorem KeepsStrokeBase.execFastTrip {t path} : KeepsStrokeBase s (execFastTrip t path s) := .act fun _ => by
  split <;> simp [tripPath_keeps _ _ _ _, tripInput_keeps _ _]
theorem KeepsStrokeBase.execPpsCurrentLimitStep {t port amps} : KeepsStrokeBase s (execPpsCurrentLimitStep t port amps s) := .event fun _ _ => rfl
theorem KeepsStrokeBase.execThermalUpdate {t port reading meanSquare dieTemp} : KeepsStrokeBase s (execThermalUpdate t port reading meanSquare dieTemp s) :=
  .event fun _ _ => by simp [takeTemp_keeps _ _ _ _, recordRes_keeps _ _ _ _ _ _ _, setPower_keeps _ _ _]
theorem KeepsStrokeBase.execPassDeviceFault {t path check} : KeepsStrokeBase s (execPassDeviceFault t path check s) := .event fun _ _ => by
  split <;> simp [portFetFault_keeps _ _, inputFetFault_keeps _]
theorem KeepsStrokeBase.execClearFetFail {t path port} : KeepsStrokeBase s (execClearFetFail t path port s) :=
  .privCmd fun _ => by simp [portFetClear_keeps _ _]
theorem KeepsStrokeBase.execFetClearCheckEnd {t path failed} : KeepsStrokeBase s (execFetClearCheckEnd t path failed s) := .act fun _ => by
  (repeat' split) <;> simp [fetClearFails_keeps _ _, passCause_keeps _, setPower_keeps _ _ _, recomputeShares_keeps _, converterOff_keeps _ _,
    setInput_keeps _ _]
theorem KeepsStrokeBase.execFetClearWindowTimeout {t port} : KeepsStrokeBase s (execFetClearWindowTimeout t port s) := .act fun _ => by
  split <;> simp [fetClearFails_keeps _ _]
theorem KeepsStrokeBase.execClearLatch {t path port} : KeepsStrokeBase s (execClearLatch t path port s) := .privCmd fun _ => by simp [portClearLatch_keeps _ _]
theorem KeepsStrokeBase.execPortRetry {t port} : KeepsStrokeBase s (execPortRetry t port s) := .act fun _ => by
  split <;> simp [rcCount_keeps _ _ _, setPower_keeps _ _ _, restorePath_keeps _ _, powerNotice_keeps _ _ _]
theorem KeepsStrokeBase.execPortRetryClear {t port} : KeepsStrokeBase s (execPortRetryClear t port s) := .event fun _ _ => rfl
theorem KeepsStrokeBase.execShareIncreaseApply {t port} : KeepsStrokeBase s (execShareIncreaseApply t port s) :=
  .event fun _ _ => by simp [applyIncrease_keeps _ _]
theorem KeepsStrokeBase.execShedRestore {t port} : KeepsStrokeBase s (execShedRestore t port s) :=
  .event fun _ _ => by simp [clearShed_keeps _ _, restorePath_keeps _ _]

/-! ### Commands of Machine/OwnershipCmds.lean -/

theorem KeepsStrokeBase.execOwnAssign {t path port value} : KeepsStrokeBase s (execOwnAssign t path port value s) :=
  .privCmd fun _ => by simp [ownAssign_keeps _ _ _ _]
theorem KeepsStrokeBase.execLeaseExpiry {t port} : KeepsStrokeBase s (execLeaseExpiry t port s) := .act fun _ => by
  dsimp only
  split <;> simp [stampP4_keeps _ _ _]
theorem KeepsStrokeBase.execPortDecision {t port} : KeepsStrokeBase s (execPortDecision t port s) := .event fun _ _ => by simp [decidePort_keeps _ _]
theorem KeepsStrokeBase.execHandoverComplete {t port} : KeepsStrokeBase s (execHandoverComplete t port s) :=
  .event fun _ _ => by simp [completeHandover_keeps _ _]
theorem KeepsStrokeBase.execOrphanKeptEntry {t port} : KeepsStrokeBase s (execOrphanKeptEntry t port s) :=
  .event fun _ _ => by simp [keepOrphan_keeps _ _, settleOld_keeps _ _]
theorem KeepsStrokeBase.execOrphanOffEntry {t port} : KeepsStrokeBase s (execOrphanOffEntry t port s) :=
  .event fun _ _ => by simp [dropOrphan_keeps _ _, settleOld_keeps _ _]
theorem KeepsStrokeBase.execResettingComplete {t port ssFirst} : KeepsStrokeBase s (execResettingComplete t port ssFirst s) :=
  .event fun _ _ => by simp [completeResetting_keeps _ _ _]

/-! ### Commands of Machine/Timelines.lean -/

theorem KeepsStrokeBase.execFreeRunSet {t v} : KeepsStrokeBase s (execFreeRunSet t v s) := .event fun _ _ => by simp [tlFreeRun_keeps _ _, setReg_keeps _ _ _]

/-! ### Commands of Machine/Transfers.lean -/

theorem KeepsStrokeBase.execBlockGrant {t owner ctx need} : KeepsStrokeBase s (execBlockGrant t owner ctx need s) := .event fun _ _ => by
  split <;> simp [advance_keeps _ _, requestBlocks_keeps _ _ _ _, pathDrained_keeps _ _]

/-! ### Commands of Machine/RingCmds.lean -/

theorem KeepsStrokeBase.execViEnable {t v value} : KeepsStrokeBase s (execViEnable t v value s) := .event fun _ _ => by simp [writeViCtrl_keeps _ _ _ _]
theorem KeepsStrokeBase.execViDisable {t v value} : KeepsStrokeBase s (execViDisable t v value s) := .event fun _ _ => by simp [writeViCtrl_keeps _ _ _ _]
theorem KeepsStrokeBase.execViConfigSend {t q bytes} : KeepsStrokeBase s (execViConfigSend t q bytes s) :=
  .event fun _ _ => by simp [emit_keeps _ _, applyBlock_keeps _ _ _, refuseRequest_keeps _ _ _ _]
theorem KeepsStrokeBase.execCmdDb {t v value} : KeepsStrokeBase s (execCmdDb t v value s) := .event fun _ _ => by simp [doorbell_keeps _ _ _ _]
theorem KeepsStrokeBase.execEvtDb {t v value} : KeepsStrokeBase s (execEvtDb t v value s) := .event fun _ _ => by simp [doorbell_keeps _ _ _ _]
theorem KeepsStrokeBase.execLeaseDb {t v value} : KeepsStrokeBase s (execLeaseDb t v value s) := .event fun _ _ => by simp [doorbell_keeps _ _ _ _]
theorem KeepsStrokeBase.execTransferDb {t v slot value} : KeepsStrokeBase s (execTransferDb t v slot value s) :=
  .event fun _ _ => by simp [doorbell_keeps _ _ _ _]
theorem KeepsStrokeBase.execReservedDoorbell {t v offset} : KeepsStrokeBase s (execReservedDoorbell t v offset s) :=
  .event fun _ _ => by simp [doorbell_keeps _ _ _ _]
theorem KeepsStrokeBase.execRingFetchComplete {t v ring entries failed} : KeepsStrokeBase s (execRingFetchComplete t v ring entries failed s) :=
  .event fun _ _ => by simp [fetchComplete_keeps _ _ _ _ _]

/-! ### Commands of Machine/StrokeCmds.lean -/

theorem KeepsStrokeBase.execStrokeResync {t} : KeepsStrokeBase s (execStrokeResync t s) := .event fun _ _ => rfl
theorem KeepsStrokeBase.execTimeSample {t path} : KeepsStrokeBase s (execTimeSample t path s) := .privCmd fun _ => rfl
theorem KeepsStrokeBase.execDvfsUpdate {t cluster need0 need1 need2 need3 slack stretches} :
    KeepsStrokeBase s (execDvfsUpdate t cluster need0 need1 need2 need3 slack stretches s) :=
  .event fun _ _ => by simp [rcAdd_keeps _ _ _, setCluster_keeps _ _ _, setEngine_keeps _ _ _, loopEngine_keeps _ _ _ _ _]
theorem KeepsStrokeBase.execDvfsVoltageDown {t cluster slack overV temp} : KeepsStrokeBase s (execDvfsVoltageDown t cluster slack overV temp s) :=
  .event fun _ _ => by simp [setCluster_keeps _ _ _, rcCount_keeps _ _ _, recordAt_keeps _ _ _ _ _ _ _ _]
theorem KeepsStrokeBase.execRegionTempCap {t region temp other} : KeepsStrokeBase s (execRegionTempCap t region temp other s) :=
  .act fun _ => by simp [setRegionTemp_keeps _ _ _, setCluster_keeps _ _ _, setEngine_keeps _ _ _, recordAt_keeps _ _ _ _ _ _ _ _]
theorem KeepsStrokeBase.execRegionTempUncap {t region temp} : KeepsStrokeBase s (execRegionTempUncap t region temp s) :=
  .event fun _ _ => by simp [setCluster_keeps _ _ _, setRegionTemp_keeps _ _ _]
theorem KeepsStrokeBase.execEqAdaptStep {t lane coef up height width} : KeepsStrokeBase s (execEqAdaptStep t lane coef up height width s) :=
  .event fun _ _ => by simp

/-! ### Commands of Machine/Transport.lean -/

theorem KeepsStrokeBase.execViBindWrite {t path v value} : KeepsStrokeBase s (execViBindWrite t path v value s) :=
  .privCmd fun _ => by simp [viBindWrite_keeps _ _ _ _]
theorem KeepsStrokeBase.execFlr {t fn} : KeepsStrokeBase s (execFlr t fn s) :=
  .event fun _ _ => by simp [resetFn_keeps _ _, fnLost_keeps _ _, setPcie_keeps _ _, trustRestored_keeps _, vfsLost_keeps _ _]
theorem KeepsStrokeBase.execFlrComplete {t fn msixOn} : KeepsStrokeBase s (execFlrComplete t fn msixOn s) :=
  .event fun _ _ => by simp [fnHome_keeps _ _, setPcie_keeps _ _]
theorem KeepsStrokeBase.execVfEnableClear {t numVfs} : KeepsStrokeBase s (execVfEnableClear t numVfs s) :=
  .event fun _ _ => by simp [setPcie_keeps _ _, vfsLost_keeps _ _]
theorem KeepsStrokeBase.execVfEnableSet {t numVfs} : KeepsStrokeBase s (execVfEnableSet t numVfs s) :=
  .event fun _ _ => by simp [setPcie_keeps _ _, fnHome_keeps _ _]
theorem KeepsStrokeBase.execPcieLinkDown {t} : KeepsStrokeBase s (execPcieLinkDown t s) := .event fun _ _ => by simp [pcieDown_keeps _]
theorem KeepsStrokeBase.execPcieLinkUp {t speed width bme msixOn ptm} : KeepsStrokeBase s (execPcieLinkUp t speed width bme msixOn ptm s) :=
  .event fun _ _ => by simp [setPcie_keeps _ _, fnHome_keeps _ _]
theorem KeepsStrokeBase.execBmeClear {t fn} : KeepsStrokeBase s (execBmeClear t fn s) := .event fun _ _ => by
  split <;> simp [setPcie_keeps _ _, enterUnreachable_keeps _ _ _]
theorem KeepsStrokeBase.execBmeSet {t fn} : KeepsStrokeBase s (execBmeSet t fn s) := .event fun _ _ => by
  split <;> simp [setPcie_keeps _ _, leaveUnreachable_keeps _ _ _]
theorem KeepsStrokeBase.execPtmRequest {t ok ownerNs phase} : KeepsStrokeBase s (execPtmRequest t ok ownerNs phase s) :=
  .event fun _ _ => by simp [emit_keeps _ _, setPcie_keeps _ _, clockUpdate_keeps _ _ _ _ _, clockLost_keeps _ _]
theorem KeepsStrokeBase.execEthFrameReceived {t portB frame} : KeepsStrokeBase s (execEthFrameReceived t portB frame s) := .act fun _ => by
  (repeat' split) <;> simp [rcCount_keeps _ _ _, setEth_keeps _ _ _, lanHeard_keeps _ _, deliverFrame_keeps _ _ _, dupEnter_keeps _ _ _]
theorem KeepsStrokeBase.execPrpEntryExpiry {t} : KeepsStrokeBase s (execPrpEntryExpiry t s) := .event fun _ _ => rfl
theorem KeepsStrokeBase.execPrpSupervisionSend {t} : KeepsStrokeBase s (execPrpSupervisionSend t s) := .event fun _ _ => rfl
theorem KeepsStrokeBase.execLanDown {t portB lockLost} : KeepsStrokeBase s (execLanDown t portB lockLost s) :=
  .event fun _ _ => by simp [setEth_keeps _ _ _, lanChange_keeps _ _ _]
theorem KeepsStrokeBase.execPfcFrameReceived {t portB enable xoff} : KeepsStrokeBase s (execPfcFrameReceived t portB enable xoff s) := .event fun _ _ => rfl
theorem KeepsStrokeBase.execCmReq {t portB req} : KeepsStrokeBase s (execCmReq t portB req s) := .event fun _ _ => by
  split <;> simp [acceptReq_keeps _ _ _, emit_keeps _ _, draw_keeps _]
theorem KeepsStrokeBase.execRepRetryTimeout {t q} : KeepsStrokeBase s (execRepRetryTimeout t q s) :=
  .event fun _ _ => by simp [setQp_keeps _ _ _, emit_keeps _ _, record_keeps _ _ _ _ _ _ _, freeSlot_keeps _ _ _]
theorem KeepsStrokeBase.execCmRtu {t q hostMac} : KeepsStrokeBase s (execCmRtu t q hostMac s) :=
  .event fun _ _ => by simp [bindSlot_keeps _ _, record_keeps _ _ _ _ _ _ _, freeSlot_keeps _ _ _, emit_keeps _ _]
theorem KeepsStrokeBase.execCmDreq {t q} : KeepsStrokeBase s (execCmDreq t q s) := .event fun _ _ => by simp [disconnectSlot_keeps _ _ _, emit_keeps _ _]
theorem KeepsStrokeBase.execRoceDoorbellWrite {t q rkey addr bytes} : KeepsStrokeBase s (execRoceDoorbellWrite t q rkey addr bytes s) :=
  .event fun _ _ => by simp [doorbell_keeps _ _ _ _, emit_keeps _ _, refuseRequest_keeps _ _ _ _]
theorem KeepsStrokeBase.execAckTimeout {t q} : KeepsStrokeBase s (execAckTimeout t q s) := .act fun _ => by
  dsimp only
  split <;> simp [emit_keeps _ _, setQp_keeps _ _ _, enterUnreachable_keeps _ _ _]
theorem KeepsStrokeBase.execNakReceived {t q} : KeepsStrokeBase s (execNakReceived t q s) := .event fun _ _ => by simp [slotError_keeps _ _ _]
theorem KeepsStrokeBase.execPsnSequenceNak {t q} : KeepsStrokeBase s (execPsnSequenceNak t q s) := .event fun _ _ => rfl
theorem KeepsStrokeBase.execQpReset {t path q} : KeepsStrokeBase s (execQpReset t path q s) := .privCmd fun _ => by simp [qpReset_keeps _ _]
theorem KeepsStrokeBase.execUnreachableHoldExpiry {t v} : KeepsStrokeBase s (execUnreachableHoldExpiry t v s) :=
  .event fun _ _ => by simp [settleCtx_keeps _ _ _ _, setVi_keeps _ _ _]
theorem KeepsStrokeBase.execCnpReceived {t q} : KeepsStrokeBase s (execCnpReceived t q s) := .event fun _ _ => rfl
theorem KeepsStrokeBase.execCcRateIncrease {t q} : KeepsStrokeBase s (execCcRateIncrease t q s) := .event fun _ _ => rfl
theorem KeepsStrokeBase.execPtpSyncAccepted {t timeNs offset masters phase} : KeepsStrokeBase s (execPtpSyncAccepted t timeNs offset masters phase s) :=
  .event fun _ _ => by simp [discSync_keeps _ _ _, clockUpdate_keeps _ _ _ _ _]
theorem KeepsStrokeBase.execPtpLockTimeout {t} : KeepsStrokeBase s (execPtpLockTimeout t s) :=
  .event fun _ _ => by simp [ptpUnlock_keeps _, record_keeps _ _ _ _ _ _ _]
theorem KeepsStrokeBase.execPortSlewComplete {t port} : KeepsStrokeBase s (execPortSlewComplete t port s) := .event fun _ _ => by
  split <;> simp [setNib_keeps _ _ _]

/-! ### Commands of Machine/FaultCmds.lean -/

theorem KeepsStrokeBase.execEccCorrected {t site} : KeepsStrokeBase s (execEccCorrected t site s) := .event fun _ _ => by simp [eccCorrected_keeps _ _]
theorem KeepsStrokeBase.execEccWindow {t} : KeepsStrokeBase s (execEccWindow t s) := .event fun _ _ => rfl
theorem KeepsStrokeBase.execWatchdogExpiry {t engine} : KeepsStrokeBase s (execWatchdogExpiry t engine s) :=
  .event fun _ _ => by simp [clusterFail_keeps _ _ _ _, engineRestart_keeps _ _, faultReport_keeps _ _ _ _ _]
theorem KeepsStrokeBase.execEngineRestartComplete {t engine} : KeepsStrokeBase s (execEngineRestartComplete t engine s) := .event fun _ _ => rfl
theorem KeepsStrokeBase.execEccUncorrectable {t site} : KeepsStrokeBase s (execEccUncorrectable t site s) :=
  .event fun _ _ => by simp [rcCount_keeps _ _ _, contain_keeps _ _, faultReport_keeps _ _ _ _ _]
theorem KeepsStrokeBase.execDescriptorStoreReloaded {t} : KeepsStrokeBase s (execDescriptorStoreReloaded t s) := .event fun _ _ => rfl
theorem KeepsStrokeBase.execKeyReloaded {t v} : KeepsStrokeBase s (execKeyReloaded t v s) := .event fun _ _ => rfl
theorem KeepsStrokeBase.execTemperatureExceeded {t place temp} : KeepsStrokeBase s (execTemperatureExceeded t place temp s) :=
  .act fun _ => by simp [reservoirHot_keeps _, regionHot_keeps _ _ _]
theorem KeepsStrokeBase.execTemperatureCleared {t place temp} : KeepsStrokeBase s (execTemperatureCleared t place temp s) :=
  .event fun _ _ => by simp [heatCause_keeps _, holdRegion_keeps _ _ _]
theorem KeepsStrokeBase.execQuarExit {t path} : KeepsStrokeBase s (execQuarExit t path s) := .privCmd fun _ => by simp [quarExit_keeps _]
theorem KeepsStrokeBase.execAdvanceFloor {t path} : KeepsStrokeBase s (execAdvanceFloor t path s) := .privCmd fun _ => rfl
theorem KeepsStrokeBase.execReturnArm {t path} : KeepsStrokeBase s (execReturnArm t path s) := .privCmd fun _ => rfl
theorem KeepsStrokeBase.execReturnDisarm {t path} : KeepsStrokeBase s (execReturnDisarm t path s) := .privCmd fun _ => rfl
theorem KeepsStrokeBase.execReturnArmLapse {t} : KeepsStrokeBase s (execReturnArmLapse t s) := .event fun _ _ => rfl
theorem KeepsStrokeBase.execKeyLoad {t path v} : KeepsStrokeBase s (execKeyLoad t path v s) := .privCmd fun _ => by simp [keyLoad_keeps _ _]
theorem KeepsStrokeBase.execKeyWithdraw {t path v} : KeepsStrokeBase s (execKeyWithdraw t path v s) := .privCmd fun _ => by simp [keyWithdraw_keeps _ _]
theorem KeepsStrokeBase.execFuseOwner {t path} : KeepsStrokeBase s (execFuseOwner t path s) := .privCmd fun _ => by simp [fuseOwner_keeps _]
theorem KeepsStrokeBase.execKeySetCommitted {t ok} : KeepsStrokeBase s (execKeySetCommitted t ok s) := .act fun _ => by
  split <;> simp [keysCommitted_keeps _ _, setSeal_keeps _ _, writeKeySector_keeps _ _]
theorem KeepsStrokeBase.execGateNonceRead {t} : KeepsStrokeBase s (execGateNonceRead t s) :=
  .event fun _ _ => by simp [emit_keeps _ _, drawMany_keeps _ _, setSeal_keeps _ _]
theorem KeepsStrokeBase.execGateAuthorisation {t nonce uid scope} : KeepsStrokeBase s (execGateAuthorisation t nonce uid scope s) :=
  .event fun _ _ => by simp [emit_keeps _ _, setSeal_keeps _ _]
theorem KeepsStrokeBase.execGateVerifyDone {t signed} : KeepsStrokeBase s (execGateVerifyDone t signed s) := .act fun _ => by
  split <;> simp [setSeal_keeps _ _, returnEntry_keeps _, returnRelease_keeps _, faultReport_keeps _ _ _ _ _]
theorem KeepsStrokeBase.execGateNonceExpiry {t} : KeepsStrokeBase s (execGateNonceExpiry t s) := .event fun _ _ => rfl

/-! ### Commands of Machine/HubCmds.lean -/

theorem KeepsStrokeBase.execGetHubStatus {t c} : KeepsStrokeBase s (execGetHubStatus t c s) := .event fun _ _ => rfl
theorem KeepsStrokeBase.execClearHubFeature {t c feature} : KeepsStrokeBase s (execClearHubFeature t c feature s) :=
  .event fun _ _ => by simp [hubSay_keeps _ _ _, setCvi_keeps _ _ _]
theorem KeepsStrokeBase.execSetHubFeature {t c} : KeepsStrokeBase s (execSetHubFeature t c s) := .event fun _ _ => rfl
theorem KeepsStrokeBase.execGetPortStatus {t c n ss} : KeepsStrokeBase s (execGetPortStatus t c n ss s) := .event fun _ _ => rfl
theorem KeepsStrokeBase.execSetPortReset {t c n ss} : KeepsStrokeBase s (execSetPortReset t c n ss s) :=
  .event fun _ _ => by simp [hubResetS_keeps _ _ _ _, hubReset2_keeps _ _ _]
theorem KeepsStrokeBase.execClassicPortResetEnd {t n} : KeepsStrokeBase s (execClassicPortResetEnd t n s) := .act fun _ => by
  split <;> simp [setCPort_keeps _ _ _, setNib_keeps _ _ _, ownView_keeps _ _ _]
theorem KeepsStrokeBase.execSetBhPortReset {t c n} : KeepsStrokeBase s (execSetBhPortReset t c n s) := .event fun _ _ => by simp [hubResetS_keeps _ _ _ _]
theorem KeepsStrokeBase.execSsPortResetTimeout {t n} : KeepsStrokeBase s (execSsPortResetTimeout t n s) := .act fun _ => by
  split <;> simp [hubResetSDone_keeps _ _ _, setNib_keeps _ _ _]
theorem KeepsStrokeBase.execSetPortSuspend {t c n} : KeepsStrokeBase s (execSetPortSuspend t c n s) :=
  .event fun _ _ => by simp [setView_keeps _ _ _ _, emit_keeps _ _, setNib_keeps _ _ _]
theorem KeepsStrokeBase.execClearPortSuspend {t c n} : KeepsStrokeBase s (execClearPortSuspend t c n s) :=
  .event fun _ _ => by simp [emit_keeps _ _, setNib_keeps _ _ _]
theorem KeepsStrokeBase.execClearPortEnable {t c n} : KeepsStrokeBase s (execClearPortEnable t c n s) :=
  .event fun _ _ => by simp [emit_keeps _ _, setView_keeps _ _ _ _]
theorem KeepsStrokeBase.execSetPortPower {t c n} : KeepsStrokeBase s (execSetPortPower t c n s) :=
  .event fun _ _ => by simp [setView_keeps _ _ _ _, viewConnect_keeps _ _ _]
theorem KeepsStrokeBase.execClearPortPower {t c n} : KeepsStrokeBase s (execClearPortPower t c n s) :=
  .event fun _ _ => by simp [holdPaths_keeps _ _ _, setView_keeps _ _ _ _]
theorem KeepsStrokeBase.execSetPortTest {t c n} : KeepsStrokeBase s (execSetPortTest t c n s) :=
  .event fun _ _ => by simp [emit_keeps _ _, setCPort_keeps _ _ _, setView_keeps _ _ _ _]
theorem KeepsStrokeBase.execSetPortIndicator {t c _n} : KeepsStrokeBase s (execSetPortIndicator t c _n s) := .event fun _ _ => rfl
theorem KeepsStrokeBase.execSetPortLinkState {t c n state} : KeepsStrokeBase s (execSetPortLinkState t c n state s) :=
  .event fun _ _ => by simp [emit_keeps _ _, setNib_keeps _ _ _, setView_keeps _ _ _ _, hubSay_keeps _ _ _]
theorem KeepsStrokeBase.execSetPortLinkPmFeature {t c n feature value} : KeepsStrokeBase s (execSetPortLinkPmFeature t c n feature value s) :=
  .event fun _ _ => by simp [setView_keeps _ _ _ _]
theorem KeepsStrokeBase.execClearPortChange {t c n ss bit} : KeepsStrokeBase s (execClearPortChange t c n ss bit s) :=
  .event fun _ _ => by simp [setView_keeps _ _ _ _, hubSay_keeps _ _ _]
theorem KeepsStrokeBase.execGetPortErrCount {t c n} : KeepsStrokeBase s (execGetPortErrCount t c n s) :=
  .event fun _ _ => by simp [hubSay_keeps _ _ _, draw_keeps _]
theorem KeepsStrokeBase.execSetHubDepth {t c depth} : KeepsStrokeBase s (execSetHubDepth t c depth s) :=
  .event fun _ _ => by simp [hubSay_keeps _ _ _, setCvi_keeps _ _ _]
theorem KeepsStrokeBase.execClearTtBuffer {t c n addr ep type isIn} : KeepsStrokeBase s (execClearTtBuffer t c n addr ep type isIn s) :=
  .event fun _ _ => by simp [hubSay_keeps _ _ _, rcCount_keeps _ _ _, setLig_keeps _ _ _]
theorem KeepsStrokeBase.execResetTt {t c n} : KeepsStrokeBase s (execResetTt t c n s) :=
  .event fun _ _ => by simp [hubSay_keeps _ _ _, rcCount_keeps _ _ _, emptyLig_keeps _ _]
theorem KeepsStrokeBase.execStopTt {t c n} : KeepsStrokeBase s (execStopTt t c n s) := .event fun _ _ => by simp [hubSay_keeps _ _ _, setLig_keeps _ _ _]
theorem KeepsStrokeBase.execGetTtState {t c _n} : KeepsStrokeBase s (execGetTtState t c _n s) := .event fun _ _ => rfl
theorem KeepsStrokeBase.execGetDescriptor {t c half type index len} : KeepsStrokeBase s (execGetDescriptor t c half type index len s) := .event fun _ _ => by
  (repeat' split) <;> simp [hubSay_keeps _ _ _]
theorem KeepsStrokeBase.execSetDescriptor {t c} : KeepsStrokeBase s (execSetDescriptor t c s) := .event fun _ _ => rfl
theorem KeepsStrokeBase.execSetConfiguration {t c half value} : KeepsStrokeBase s (execSetConfiguration t c half value s) := .event fun _ _ => by
  (repeat' split) <;> simp [hubSay_keeps _ _ _, clearPowers_keeps _ _, setCvi_keeps _ _ _, setFunc_keeps _ _]
theorem KeepsStrokeBase.execSetInterface {t c half alt} : KeepsStrokeBase s (execSetInterface t c half alt s) :=
  .event fun _ _ => by simp [hubSay_keeps _ _ _, setCvi_keeps _ _ _]
theorem KeepsStrokeBase.execUpstreamResetRecognised {t c ss} : KeepsStrokeBase s (execUpstreamResetRecognised t c ss s) :=
  .event fun _ _ => by simp [upstreamReset_keeps _ _ _, emit_keeps _ _, setCvi_keeps _ _ _]
theorem KeepsStrokeBase.execHsIdleReversion {t c} : KeepsStrokeBase s (execHsIdleReversion t c s) := .event fun _ _ => rfl
theorem KeepsStrokeBase.execChirpKEnd {t c} : KeepsStrokeBase s (execChirpKEnd t c s) := .act fun _ => by
  split <;> simp [emit_keeps _ _, setCvi_keeps _ _ _]
theorem KeepsStrokeBase.execHostChirpSixth {t c} : KeepsStrokeBase s (execHostChirpSixth t c s) := .act fun _ => by
  split <;> simp [emit_keeps _ _, setCvi_keeps _ _ _]
theorem KeepsStrokeBase.execHostChirpTimeout {t c} : KeepsStrokeBase s (execHostChirpTimeout t c s) := .act fun _ => by
  split <;> simp [setCvi_keeps _ _ _]
theorem KeepsStrokeBase.execUpstreamResetEnd {t c ss} : KeepsStrokeBase s (execUpstreamResetEnd t c ss s) :=
  .event fun _ _ => by simp [setCvi_keeps _ _ _, upstreamClaims_keeps _ _]
theorem KeepsStrokeBase.execUpstreamSuspend {t c} : KeepsStrokeBase s (execUpstreamSuspend t c s) :=
  .event fun _ _ => by simp [setCvi_keeps _ _ _, treeSuspend_keeps _ _]
theorem KeepsStrokeBase.execUpstreamResume {t c} : KeepsStrokeBase s (execUpstreamResume t c s) :=
  .event fun _ _ => by simp [wakeSource_keeps _, setCvi_keeps _ _ _, treeResume_keeps _ _]
theorem KeepsStrokeBase.execUpstreamLpmToken {t c} : KeepsStrokeBase s (execUpstreamLpmToken t c s) := .event fun _ _ => rfl
theorem KeepsStrokeBase.execUpstreamSsLinkChange {t c up} : KeepsStrokeBase s (execUpstreamSsLinkChange t c up s) :=
  .event fun _ _ => by simp [setCvi_keeps _ _ _, viewConnectBoth_keeps _ _, viewDisconnect_keeps _ _ _]
theorem KeepsStrokeBase.execSsplitReceived {t n split} : KeepsStrokeBase s (execSsplitReceived t n split s) := .act fun _ => by
  split <;> simp [setLig_keeps _ _ _, rcCount_keeps _ _ _, hubSay_keeps _ _ _]
theorem KeepsStrokeBase.execCsplitReceived {t n split} : KeepsStrokeBase s (execCsplitReceived t n split s) := .act fun _ => by
  split
  · rfl
  · refine when_strokeBase _ _ _ ?_
    dsimp only
    (repeat' split) <;> simp [hubSay_keeps _ _ _, setLig_keeps _ _ _]
theorem KeepsStrokeBase.execLigatureResultExpiry {t n} : KeepsStrokeBase s (execLigatureResultExpiry t n s) :=
  .event fun _ _ => by simp [rcCount_keeps _ _ _, setLig_keeps _ _ _]
theorem KeepsStrokeBase.execPeriodicResultDiscard {t n frame uf} : KeepsStrokeBase s (execPeriodicResultDiscard t n frame uf s) :=
  .event fun _ _ => by simp [setLig_keeps _ _ _, rcCount_keeps _ _ _]
theorem KeepsStrokeBase.execFuncOutPacket {t bytes} : KeepsStrokeBase s (execFuncOutPacket t bytes s) := .act fun _ => by
  split <;> simp [hubSay_keeps _ _ _, setFunc_keeps _ _, funcDrain_keeps _ _]
theorem KeepsStrokeBase.execFuncEcho {t} : KeepsStrokeBase s (execFuncEcho t s) := .act fun _ => by
  split <;> simp [funcDrain_keeps _ _, funcPop_keeps _ _]
theorem KeepsStrokeBase.execFuncClearHalt {t isIn} : KeepsStrokeBase s (execFuncClearHalt t isIn s) := .act fun _ => by
  split <;> simp [hubSay_keeps _ _ _, setFunc_keeps _ _]

/-! ### Commands of Machine/PdCmds.lean -/

theorem KeepsStrokeBase.execUpDrSwapSend {t} : KeepsStrokeBase s (execUpDrSwapSend t s) := .event fun _ _ => rfl
theorem KeepsStrokeBase.execDrSwapRetry {t} : KeepsStrokeBase s (execDrSwapRetry t s) := .act fun _ => by
  dsimp only
  split <;> simp [swapRetryTx_keeps _ _, sendMsg_keeps _ _ _ _, setPd_keeps _ _ _]
theorem KeepsStrokeBase.execDrSwapAnswer {t id answer} : KeepsStrokeBase s (execDrSwapAnswer t id answer s) := .heard fun _ => by
  split <;> simp [protocolError_keeps _ _, kickOwn_keeps _ _, becomeUfp_keeps _ _ _, setPd_keeps _ _ _, swapRefused_keeps _ _ _]
theorem KeepsStrokeBase.execDrSwap {t port id} : KeepsStrokeBase s (execDrSwap t port id s) :=
  .heard fun _ => by simp [swapOnUp_keeps _, swapOnDp_keeps _ _, protocolError_keeps _ _]
theorem KeepsStrokeBase.execCcPatternAppear {t port cc1 cc2} : KeepsStrokeBase s (execCcPatternAppear t port cc1 cc2 s) :=
  .act fun _ => by simp [setPd_keeps _ _ _, clearPd_keeps _ _ _]
theorem KeepsStrokeBase.execCcPatternLost {t port cc1 cc2} : KeepsStrokeBase s (execCcPatternLost t port cc1 cc2 s) := .event fun _ _ => rfl
theorem KeepsStrokeBase.execDetachDebounceStart {t port cc1 cc2} : KeepsStrokeBase s (execDetachDebounceStart t port cc1 cc2 s) := .event fun _ _ => rfl
theorem KeepsStrokeBase.execCcDetach {t port} : KeepsStrokeBase s (execCcDetach t port s) := .act fun _ => by
  split <;> simp [detach_keeps _ _]
theorem KeepsStrokeBase.execVsafe0vReached {t port vbus} : KeepsStrokeBase s (execVsafe0vReached t port vbus s) :=
  .event fun _ _ => by simp [setPd_keeps _ _ _, setPower_keeps _ _ _, toUnattached_keeps _ _]
theorem KeepsStrokeBase.execAttachDebounceEnd {t port} : KeepsStrokeBase s (execAttachDebounceEnd t port s) :=
  .event fun _ _ => by simp [tryAttach_keeps _ _, setPd_keeps _ _ _]
theorem KeepsStrokeBase.execVsafe5vReached {t port vbus} : KeepsStrokeBase s (execVsafe5vReached t port vbus s) :=
  .event fun _ _ => by simp [setPower_keeps _ _ _, setPd_keeps _ _ _, pdState_keeps _ _ _, presentRp_keeps _ _]
theorem KeepsStrokeBase.execSourceCapsSend {t port} : KeepsStrokeBase s (execSourceCapsSend t port s) := .event fun _ _ => rfl
theorem KeepsStrokeBase.execSourceCapsRetry {t port} : KeepsStrokeBase s (execSourceCapsRetry t port s) := .event fun _ _ => rfl
theorem KeepsStrokeBase.execGoodcrcReceived {t port prime} : KeepsStrokeBase s (execGoodcrcReceived t port prime s) :=
  .act fun _ => by simp [setPd_keeps _ _ _, acknowledged_keeps _ _]
theorem KeepsStrokeBase.execGoodcrcTimeout {t port prime} : KeepsStrokeBase s (execGoodcrcTimeout t port prime s) := .act fun _ => by
  dsimp only
  (repeat' split) <;> simp [emit_keeps _ _, setPd_keeps _ _ _, rcCount_keeps _ _ _, messageFailed_keeps _ _]
theorem KeepsStrokeBase.execSenderResponseTimeout {t port} : KeepsStrokeBase s (execSenderResponseTimeout t port s) := .act fun _ => by
  dsimp only
  split <;> simp [startHardReset_keeps _ _ _, setPd_keeps _ _ _, swapRefused_keeps _ _ _]
theorem KeepsStrokeBase.execRequest {t port id rdo rev2} : KeepsStrokeBase s (execRequest t port id rdo rev2 s) :=
  .heard fun _ => by simp [takeRequest_keeps _ _ _ _]
theorem KeepsStrokeBase.execEprRequest {t port id rdo pdo} : KeepsStrokeBase s (execEprRequest t port id rdo pdo s) :=
  .heard fun _ => by simp [takeEprRequest_keeps _ _ _ _]
theorem KeepsStrokeBase.execTransitionStart {t port} : KeepsStrokeBase s (execTransitionStart t port s) := .act fun _ => by
  dsimp only
  split <;> simp [setPd_keeps _ _ _, setPower_keeps _ _ _]
theorem KeepsStrokeBase.execPsRdySend {t port vbus} : KeepsStrokeBase s (execPsRdySend t port vbus s) := .act fun _ => by
  dsimp only
  split <;> simp [psRdy_keeps _ _, setPower_keeps _ _ _]
theorem KeepsStrokeBase.execTransitionBoundMissed {t port} : KeepsStrokeBase s (execTransitionBoundMissed t port s) := .act fun _ => by
  dsimp only
  split <;> simp [startHardReset_keeps _ _ _, record_keeps _ _ _ _ _ _ _, rcCount_keeps _ _ _]
theorem KeepsStrokeBase.execSinkTxWaitEnd {t port} : KeepsStrokeBase s (execSinkTxWaitEnd t port s) :=
  .event fun _ _ => by simp [sendMsg_keeps _ _ _ _, setPd_keeps _ _ _, enterCaps_keeps _ _]
theorem KeepsStrokeBase.execGetSourceCap {t port id} : KeepsStrokeBase s (execGetSourceCap t port id s) :=
  .heard fun _ => by simp [enterCaps_keeps _ _, unreclaim_keeps _ _]
theorem KeepsStrokeBase.execSoftReset {t port} : KeepsStrokeBase s (execSoftReset t port s) :=
  .event fun _ _ => by simp [setPd_keeps _ _ _, emit_keeps _ _, startHardReset_keeps _ _ _, sendMsg_keeps _ _ _ _, rcCount_keeps _ _ _]
theorem KeepsStrokeBase.execPdMessageUnexpected {t port id msg} : KeepsStrokeBase s (execPdMessageUnexpected t port id msg s) :=
  .heard fun _ => by simp [enterCaps_keeps _ _, setPd_keeps _ _ _, protocolError_keeps _ _]
theorem KeepsStrokeBase.execEprModeEnter {t port id} : KeepsStrokeBase s (execEprModeEnter t port id s) :=
  .heard fun _ => by simp [protocolError_keeps _ _, sendMsg_keeps _ _ _ _]
theorem KeepsStrokeBase.execEprModeExit {t port id} : KeepsStrokeBase s (execEprModeExit t port id s) :=
  .heard fun _ => by simp [eprExit_keeps _ _ _, protocolError_keeps _ _]
theorem KeepsStrokeBase.execEprKeepalive {t port id} : KeepsStrokeBase s (execEprKeepalive t port id s) := .heard fun _ => rfl
theorem KeepsStrokeBase.execEprGetSourceCap {t port id} : KeepsStrokeBase s (execEprGetSourceCap t port id s) :=
  .heard fun _ => by simp [unreclaim_keeps _ _, notSupported_keeps _ _ _, enterCaps_keeps _ _, sendMsg_keeps _ _ _ _, setPd_keeps _ _ _]
theorem KeepsStrokeBase.execEprKeepaliveTimeout {t port} : KeepsStrokeBase s (execEprKeepaliveTimeout t port s) :=
  .event fun _ _ => by simp [keepAliveOut_keeps _ _]
theorem KeepsStrokeBase.execPpsTimeout {t port} : KeepsStrokeBase s (execPpsTimeout t port s) := .event fun _ _ => by simp [keepAliveOut_keeps _ _]
theorem KeepsStrokeBase.execGetStatus {t port id} : KeepsStrokeBase s (execGetStatus t port id s) := .heard fun _ => by simp [replyExt_keeps _ _ _ _]
theorem KeepsStrokeBase.execGetPpsStatus {t port id} : KeepsStrokeBase s (execGetPpsStatus t port id s) :=
  .heard fun _ => by simp [replyExt_keeps _ _ _ _, notSupported_keeps _ _ _]
theorem KeepsStrokeBase.execGetSourceInfo {t port id} : KeepsStrokeBase s (execGetSourceInfo t port id s) := .heard fun _ => rfl
theorem KeepsStrokeBase.execGetRevision {t port id} : KeepsStrokeBase s (execGetRevision t port id s) := .heard fun _ => rfl
theorem KeepsStrokeBase.execGetSourceCapExtended {t port id} : KeepsStrokeBase s (execGetSourceCapExtended t port id s) :=
  .heard fun _ => by simp [replyExt_keeps _ _ _ _]
theorem KeepsStrokeBase.execGetManufacturerInfo {t port id} : KeepsStrokeBase s (execGetManufacturerInfo t port id s) :=
  .heard fun _ => by simp [replyExt_keeps _ _ _ _]
theorem KeepsStrokeBase.execUnsupportedMessage {t port id type} : KeepsStrokeBase s (execUnsupportedMessage t port id type s) :=
  .heard fun _ => by simp [notSupported_keeps _ _ _]
theorem KeepsStrokeBase.execIgnoredMessage {t port id kind} : KeepsStrokeBase s (execIgnoredMessage t port id kind s) := .heard fun _ => by
  split <;> simp [pdInfo_keeps _ _ _ _]
theorem KeepsStrokeBase.execBist {t port id mode} : KeepsStrokeBase s (execBist t port id mode s) := .heard fun _ => by simp [emit_keeps _ _]
theorem KeepsStrokeBase.execDiscoverIdentity {t port id} : KeepsStrokeBase s (execDiscoverIdentity t port id s) := .heard fun _ => rfl
theorem KeepsStrokeBase.execStructuredVdmNak {t port id} : KeepsStrokeBase s (execStructuredVdmNak t port id s) := .heard fun _ => rfl
theorem KeepsStrokeBase.execVconnStable {t port} : KeepsStrokeBase s (execVconnStable t port s) := .event fun _ _ => rfl
theorem KeepsStrokeBase.execCableDiscoveryRetry {t port} : KeepsStrokeBase s (execCableDiscoveryRetry t port s) :=
  .event fun _ _ => by simp [discoveryEnd_keeps _ _, discover_keeps _ _]
theorem KeepsStrokeBase.execCableIdentityAck {t port id vdo} : KeepsStrokeBase s (execCableIdentityAck t port id vdo s) :=
  .event fun _ _ => by simp [emit_keeps _ _, markCaps_keeps _ _ _, setPd_keeps _ _ _, discoveryEnd_keeps _ _, eprExit_keeps _ _ _]
theorem KeepsStrokeBase.execHardResetReceived {t port} : KeepsStrokeBase s (execHardResetReceived t port s) :=
  .event fun _ _ => by simp [startHardReset_keeps _ _ _]
theorem KeepsStrokeBase.execHardResetVbusOff {t port} : KeepsStrokeBase s (execHardResetVbusOff t port s) :=
  .event fun _ _ => by simp [vconnOff_keeps _ _, gateOff_keeps _ _ _ _, setPd_keeps _ _ _, busGone_keeps _ _ _]
theorem KeepsStrokeBase.execSrcRecoverEnd {t port} : KeepsStrokeBase s (execSrcRecoverEnd t port s) :=
  .event fun _ _ => by simp [setPd_keeps _ _ _, restorePath_keeps _ _, presentRp_keeps _ _, pdState_keeps _ _ _, setPower_keeps _ _ _]
theorem KeepsStrokeBase.execErrorRecoveryEnd {t port} : KeepsStrokeBase s (execErrorRecoveryEnd t port s) :=
  .event fun _ _ => by simp [recomputeShares_keeps _, toUnattached_keeps _ _]
theorem KeepsStrokeBase.execAlertSend {t port} : KeepsStrokeBase s (execAlertSend t port s) := .event fun _ _ => rfl
theorem KeepsStrokeBase.execReclaimTimer {t port} : KeepsStrokeBase s (execReclaimTimer t port s) := .act fun _ => by
  dsimp only
  split <;> simp [markShare_keeps _ _, recomputeShares_keeps _, setPd_keeps _ _ _]
theorem KeepsStrokeBase.execReclaimRestore {t port} : KeepsStrokeBase s (execReclaimRestore t port s) := .act fun _ => by
  split <;> simp [unreclaim_keeps _ _]
theorem KeepsStrokeBase.execPdSendCaps {t path port} : KeepsStrokeBase s (execPdSendCaps t path port s) := .privCmd fun _ => rfl
theorem KeepsStrokeBase.execPdHardReset {t path port} : KeepsStrokeBase s (execPdHardReset t path port s) := .privCmd fun _ => by simp [pdHardReset_keeps _ _]
theorem KeepsStrokeBase.execPdErrorRecovery {t path port} : KeepsStrokeBase s (execPdErrorRecovery t path port s) :=
  .privCmd fun _ => by simp [pdErrorRecovery_keeps _ _]
theorem KeepsStrokeBase.execCcShortProbe {t port pin2 shorted} : KeepsStrokeBase s (execCcShortProbe t port pin2 shorted s) :=
  .event fun _ _ => by simp [setPd_keeps _ _ _, recordRes_keeps _ _ _ _ _ _ _, vconnOff_keeps _ _, ccFault_keeps _ _]
theorem KeepsStrokeBase.execCcOvervoltage {t port pin2} : KeepsStrokeBase s (execCcOvervoltage t port pin2 s) :=
  .event fun _ _ => by simp [ccFault_keeps _ _, setPd_keeps _ _ _]
theorem KeepsStrokeBase.execCcFaultRetest {t port cc1 cc2} : KeepsStrokeBase s (execCcFaultRetest t port cc1 cc2 s) :=
  .event fun _ _ => by simp [setPd_keeps _ _ _, recomputeShares_keeps _, toUnattached_keeps _ _, detachPower_keeps _ _]
theorem KeepsStrokeBase.execVconnFault {t port ma} : KeepsStrokeBase s (execVconnFault t port ma s) :=
  .event fun _ _ => by simp [vconnFault_keeps _ _, setPd_keeps _ _ _]

/-! ### Commands of Machine/Images.lean -/

theorem KeepsStrokeBase.execImgOpenFw {t path} : KeepsStrokeBase s (execImgOpenFw t path s) := .privCmd fun _ => by simp [imgOpen_keeps _ _]
theorem KeepsStrokeBase.execImgOpenCfg {t path} : KeepsStrokeBase s (execImgOpenCfg t path s) := .privCmd fun _ => by simp [imgOpen_keeps _ _]
theorem KeepsStrokeBase.execImgEraseDone {t ok} : KeepsStrokeBase s (execImgEraseDone t ok s) :=
  .event fun _ _ => by simp [setImg_keeps _ _, editSlot_keeps _ _, imgEnd_keeps _ _]
theorem KeepsStrokeBase.execImgDataWrite {t path value} : KeepsStrokeBase s (execImgDataWrite t path value s) := .privCmd fun _ => by simp [imgData_keeps _ _]
theorem KeepsStrokeBase.execImgCommit {t path verdict} : KeepsStrokeBase s (execImgCommit t path verdict s) := .privCmd fun _ => by simp [imgCommit_keeps _ _]
theorem KeepsStrokeBase.execImgAbandon {t path} : KeepsStrokeBase s (execImgAbandon t path s) := .privCmd fun _ => by simp [abandonImage_keeps _]

/-! ### Commands of Machine/Boot.lean -/

/-- Where Folio is powered it is not in power-on reset, and nothing happens. -/
theorem KeepsStrokeBase.execFolioResetRelease {t nor} : KeepsStrokeBase s (execFolioResetRelease t nor s) :=
  ⟨t, _, rfl, fun u hon _ => by simp [hon, when_false]⟩
theorem KeepsStrokeBase.execBootEnd {t} : KeepsStrokeBase s (execBootEnd t s) := .event fun _ _ => by simp [bootEnd_keeps _]

/-! ### Commands of Machine/HostCmds.lean -/

theorem KeepsStrokeBase.execNoopCmd {t v slot} : KeepsStrokeBase s (execNoopCmd t v slot s) := .runCmd fun _ _ _ => by simp [finishCmd_keeps _ _ _ _ _ _]
theorem KeepsStrokeBase.execClaim {t v slot} : KeepsStrokeBase s (execClaim t v slot s) :=
  .runCmd fun _ _ _ => by simp [finishCmd_keeps _ _ _ _ _ _, stampP4_keeps _ _ _]
theorem KeepsStrokeBase.execRelease {t v slot} : KeepsStrokeBase s (execRelease t v slot s) := .runCmd fun _ _ _ => by simp [stampP4_keeps _ _ _]
theorem KeepsStrokeBase.execRenewLease {t v slot} : KeepsStrokeBase s (execRenewLease t v slot s) :=
  .runCmd fun _ _ _ => by simp [renewLeases_keeps _ _ _, finishCmd_keeps _ _ _ _ _ _]
theorem KeepsStrokeBase.execResetPort {t v slot} : KeepsStrokeBase s (execResetPort t v slot s) := .runCmd fun _ _ _ => by simp [resetPort_keeps _ _ _ _ _]
theorem KeepsStrokeBase.execResetPortWarm {t v slot} : KeepsStrokeBase s (execResetPortWarm t v slot s) :=
  .runCmd fun _ _ _ => by simp [resetPort_keeps _ _ _ _ _]
theorem KeepsStrokeBase.execResetPortTimeout {t port} : KeepsStrokeBase s (execResetPortTimeout t port s) := .event fun _ _ => by simp [finishReset_keeps _ _ _]
theorem KeepsStrokeBase.execSuspendPort {t v slot} : KeepsStrokeBase s (execSuspendPort t v slot s) := .runCmd fun _ _ _ => by simp [suspendPort_keeps _ _ _ _]
theorem KeepsStrokeBase.execResumePort {t v slot} : KeepsStrokeBase s (execResumePort t v slot s) := .runCmd fun _ _ _ => by
  dsimp only
  (repeat' split) <;> simp [finishCmd_keeps _ _ _ _ _ _, setNib_keeps _ _ _, treeResume_keeps _ _]
theorem KeepsStrokeBase.execSuspendComplete {t port u3} : KeepsStrokeBase s (execSuspendComplete t port u3 s) := .act fun _ => by
  split <;> simp [suspendDone_keeps _ _ _]
theorem KeepsStrokeBase.execResumeSignalEnd {t port} : KeepsStrokeBase s (execResumeSignalEnd t port s) := .act fun _ => by
  split <;> simp [setNib_keeps _ _ _, emit_keeps _ _]
theorem KeepsStrokeBase.execResumeComplete {t port} : KeepsStrokeBase s (execResumeComplete t port s) := .act fun _ => by
  split <;> simp [resumeDone_keeps _ _]
theorem KeepsStrokeBase.execAddressDevice {t v slot} : KeepsStrokeBase s (execAddressDevice t v slot s) := .runCmd fun _ _ _ => by
  dsimp only
  (repeat' split) <;> simp [finishCmd_keeps _ _ _ _ _ _, allocCtx_keeps _, emit_keeps _ _, setNib_keeps _ _ _]
theorem KeepsStrokeBase.execSetAddressRecovery {t port} : KeepsStrokeBase s (execSetAddressRecovery t port s) := .act fun _ => by
  (repeat' split) <;> simp [addressDone_keeps _ _ _]
theorem KeepsStrokeBase.execDisableDevice {t v slot} : KeepsStrokeBase s (execDisableDevice t v slot s) :=
  .runCmd fun _ _ _ => by simp [abandonSplit_keeps _ _, refreshAges_keeps _, finishCmd_keeps _ _ _ _ _ _, releaseDevice_keeps _ _ _ _ _]
theorem KeepsStrokeBase.execConfigureEndpoint {t v slot} : KeepsStrokeBase s (execConfigureEndpoint t v slot s) :=
  .runCmd fun _ _ _ => by simp [configureEp_keeps _ _ _ _]
theorem KeepsStrokeBase.execBindEndpointRing {t v slot} : KeepsStrokeBase s (execBindEndpointRing t v slot s) :=
  .runCmd fun _ _ _ => by simp [finishCmd_keeps _ _ _ _ _ _, setEp_keeps _ _ _]
theorem KeepsStrokeBase.execStopEndpoint {t v slot onWire} : KeepsStrokeBase s (execStopEndpoint t v slot onWire s) :=
  .runCmd fun _ _ _ => by simp [setEp_keeps _ _ _, stopNow_keeps _ _ _ _ _]
theorem KeepsStrokeBase.execResetEndpoint {t v slot} : KeepsStrokeBase s (execResetEndpoint t v slot s) :=
  .runCmd fun _ _ _ => by simp [finishCmd_keeps _ _ _ _ _ _, setEp_keeps _ _ _]
theorem KeepsStrokeBase.execDisableEndpoint {t v slot} : KeepsStrokeBase s (execDisableEndpoint t v slot s) :=
  .runCmd fun _ _ _ => by simp [refreshAges_keeps _, finishCmd_keeps _ _ _ _ _ _, releaseEp_keeps _ _ _ _, abandonSplit_keeps _ _]
theorem KeepsStrokeBase.execSetReadAhead {t v slot} : KeepsStrokeBase s (execSetReadAhead t v slot s) :=
  .runCmd fun _ _ _ => by simp [finishCmd_keeps _ _ _ _ _ _, claimRoom_keeps _ _, setEp_keeps _ _ _]
theorem KeepsStrokeBase.execReadAheadOff {t v slot} : KeepsStrokeBase s (execReadAheadOff t v slot s) :=
  .runCmd fun _ _ _ => by simp [finishCmd_keeps _ _ _ _ _ _, settleIdle_keeps _ _, setEp_keeps _ _ _]
theorem KeepsStrokeBase.execQueryPort {t v slot} : KeepsStrokeBase s (execQueryPort t v slot s) :=
  .runCmd fun _ _ _ => by simp [finishCmd_keeps _ _ _ _ _ _, hostWrite_keeps _ _ _ _]
theorem KeepsStrokeBase.execQueryVi {t v slot} : KeepsStrokeBase s (execQueryVi t v slot s) :=
  .runCmd fun _ _ _ => by simp [finishCmd_keeps _ _ _ _ _ _, hostWrite_keeps _ _ _ _]

/-- REPLAY's effect: the completions its plan names are rewritten (R123). -/
def replayEffect (v : RingId) (s : State) (e : CmdEntry) (_ : PortId) : State :=
  finishCmd (replayAll (earlierNotices s v) v (replayPlan s v (argW e 2).toNat).2.2) v e.slot (replayPlan s v (argW e 2).toNat).1
    (replayPlan s v (argW e 2).toNat).2.1 0

/-- The effect under its name: written out in `runCmd`'s place, the kernel would run the plan's arithmetic to compare it. -/
theorem execReplay_eq {t v slot} : execReplay t v slot s = runCmd t v slot 0x30 anyArgs s (replayEffect v) := rfl

theorem replayEffect_strokeBase (v : RingId) (s : State) (e : CmdEntry) (n : PortId) : (replayEffect v s e n).strokeBase = s.strokeBase := by
  simp [replayEffect, finishCmd_keeps _ _ _ _ _ _, replayAll_keeps _ _ _, earlierNotices_keeps _ _]

theorem KeepsStrokeBase.execReplay {t v slot} : KeepsStrokeBase s (execReplay t v slot s) := execReplay_eq ▸ .runCmd (replayEffect_strokeBase v)

theorem KeepsStrokeBase.execResume {t v slot} : KeepsStrokeBase s (execResume t v slot s) :=
  .runCmd fun _ _ _ => by simp [finishCmd_keeps _ _ _ _ _ _, setVi_keeps _ _ _, endResync_keeps _ _, replayAll_keeps _ _ _]

/-! ### Commands of Machine/BusCmds.lean -/

theorem KeepsStrokeBase.execBusTransaction {t port who result} : KeepsStrokeBase s (execBusTransaction t port who result s) :=
  .event fun _ _ => by simp [busXact_keeps _ _ _ _]
theorem KeepsStrokeBase.execTurnaroundTimeout {t port who} : KeepsStrokeBase s (execTurnaroundTimeout t port who s) :=
  .event fun _ _ => by simp [busXact_keeps _ _ _ _]
theorem KeepsStrokeBase.execPreviewTimeLimit {t port} : KeepsStrokeBase s (execPreviewTimeLimit t port s) := .act fun _ => by
  split <;> simp [endPreview_keeps _ _ _]
theorem KeepsStrokeBase.execEndpointPromotion {t ctx} : KeepsStrokeBase s (execEndpointPromotion t ctx s) := .act fun _ => by
  (repeat' split) <;> simp [setEp_keeps _ _ _]
theorem KeepsStrokeBase.execRdmaReadResponse {t v what data} : KeepsStrokeBase s (execRdmaReadResponse t v what data s) :=
  .event fun _ _ => by simp [readArrived_keeps _ _ _ _ _]
theorem KeepsStrokeBase.execDmaReadCompletion {t v what data failed} : KeepsStrokeBase s (execDmaReadCompletion t v what data failed s) :=
  .event fun _ _ => by simp [readArrived_keeps _ _ _ _ _, rcCount_keeps _ _ _]
theorem KeepsStrokeBase.execIsochDataFetch {t ctx} : KeepsStrokeBase s (execIsochDataFetch t ctx s) := .event fun _ _ => by
  split <;> simp [askOut_keeps _ _ _]
theorem KeepsStrokeBase.execUsb2ConnectDebounced {t port low} : KeepsStrokeBase s (execUsb2ConnectDebounced t port low s) :=
  .event fun _ _ => by simp [rootConnected_keeps _ _ _, setNib_keeps _ _ _]
theorem KeepsStrokeBase.execReceiverDetect {t port found gen2} : KeepsStrokeBase s (execReceiverDetect t port found gen2 s) :=
  .event fun _ _ => by simp [emit_keeps _ _, setNib_keeps _ _ _]
theorem KeepsStrokeBase.execSsU0Entry {t port gen2} : KeepsStrokeBase s (execSsU0Entry t port gen2 s) := .event fun _ _ => by
  (repeat' split) <;> simp [setNib_keeps _ _ _, pathReset_keeps _ _ _ _, hubResetSDone_keeps _ _ _]
theorem KeepsStrokeBase.execSsTrainingTimeout {t port} : KeepsStrokeBase s (execSsTrainingTimeout t port s) := .act fun _ => by
  split <;> simp [rcCount_keeps _ _ _, setNib_keeps _ _ _, finishReset_keeps _ _ _, portStateNotice_keeps _ _ _ _ _]
theorem KeepsStrokeBase.execDeviceChirpSeen {t port startUs tenths} : KeepsStrokeBase s (execDeviceChirpSeen t port startUs tenths s) := .event fun _ _ => by
  split <;> simp [emit_keeps _ _, setCPort_keeps _ _ _, setNib_keeps _ _ _]
theorem KeepsStrokeBase.execRootResetEnd {t port} : KeepsStrokeBase s (execRootResetEnd t port s) := .act fun _ => by
  split <;> simp [setNib_keeps _ _ _, pathReset_keeps _ _ _ _, alignBus_keeps _ _, emit_keeps _ _]
theorem KeepsStrokeBase.execResetRecoveryEnd {t port} : KeepsStrokeBase s (execResetRecoveryEnd t port s) := .act fun _ => by
  split <;> simp [setNib_keeps _ _ _, previewSend_keeps _ _, refreshAges_keeps _]
theorem KeepsStrokeBase.execBabbleDetected {t port ctx} : KeepsStrokeBase s (execBabbleDetected t port ctx s) := .event fun _ _ => by
  dsimp only
  (repeat' split) <;> simp [rcCount_keeps _ _ _, setNib_keeps _ _ _, concludeXfer_keeps _ _ _ _, breakEp_keeps _ _ _, setView_keeps _ _ _ _,
    refreshAges_keeps _, portStateNotice_keeps _ _ _ _ _]
theorem KeepsStrokeBase.execUsb2Disconnect {t port} : KeepsStrokeBase s (execUsb2Disconnect t port s) :=
  .event fun _ _ => by simp [finishReset_keeps _ _ _, settleSusp_keeps _ _, pathGone_keeps _ _ _ _]
theorem KeepsStrokeBase.execSsLinkLost {t port} : KeepsStrokeBase s (execSsLinkLost t port s) :=
  .event fun _ _ => by simp [finishReset_keeps _ _ _, settleSusp_keeps _ _, pathGone_keeps _ _ _ _]
theorem KeepsStrokeBase.execClearTtBufferDone {t port ok} : KeepsStrokeBase s (execClearTtBufferDone t port ok s) := .act fun _ => by
  split <;> simp [setNib_keeps _ _ _, advance_keeps _ _, setEp_keeps _ _ _, record_keeps _ _ _ _ _ _ _]
theorem KeepsStrokeBase.execL1Entry {t port acked} : KeepsStrokeBase s (execL1Entry t port acked s) := .event fun _ _ => rfl
theorem KeepsStrokeBase.execU1Entry {t port byDevice} : KeepsStrokeBase s (execU1Entry t port byDevice s) :=
  .event fun _ _ => by simp [setNib_keeps _ _ _, emit_keeps _ _]
theorem KeepsStrokeBase.execU2Entry {t port byDevice} : KeepsStrokeBase s (execU2Entry t port byDevice s) :=
  .event fun _ _ => by simp [setNib_keeps _ _ _, emit_keeps _ _]
theorem KeepsStrokeBase.execLpmRefusalHoldExpiry {t port} : KeepsStrokeBase s (execLpmRefusalHoldExpiry t port s) := .act fun _ => by
  split <;> simp [setNib_keeps _ _ _]
theorem KeepsStrokeBase.execRemoteWake {t port ss} : KeepsStrokeBase s (execRemoteWake t port ss s) := .event fun _ _ => by
  dsimp only
  split <;> simp [wakeSource_keeps _, treeResume_keeps _ _, setNib_keeps _ _ _, emit_keeps _ _, notice_keeps _ _ _ _ _ _ _, record_keeps _ _ _ _ _ _ _]
theorem KeepsStrokeBase.execStuckProbe {t port failed connects} : KeepsStrokeBase s (execStuckProbe t port failed connects s) :=
  .event fun _ _ => by simp [emit_keeps _ _, setNib_keeps _ _ _, declareStuck_keeps _ _]
theorem KeepsStrokeBase.execStuckRetest {t port passed} : KeepsStrokeBase s (execStuckRetest t port passed s) :=
  .event fun _ _ => by simp [emit_keeps _ _, setNib_keeps _ _ _, stuckWait_keeps _ _ _]

/-! ### Commands of Machine/MarginCmds.lean -/

theorem KeepsStrokeBase.execHeartbeat {t} : KeepsStrokeBase s (execHeartbeat t s) := .event fun _ _ => by simp [heartbeatInto_keeps _ _]
theorem KeepsStrokeBase.execBcHeadRead {t path which} : KeepsStrokeBase s (execBcHeadRead t path which s) :=
  .event fun _ _ => by simp [bcHeadRead_keeps _ _ _, emit_keeps _ _, privDenied_keeps _ _ _]
theorem KeepsStrokeBase.execBcPop {t path} : KeepsStrokeBase s (execBcPop t path s) := .privCmd fun _ => by simp [popWord_keeps _]
theorem KeepsStrokeBase.execBcSkip {t path} : KeepsStrokeBase s (execBcSkip t path s) := .privCmd fun _ => by simp [skipNotice_keeps _]
theorem KeepsStrokeBase.execBcFlush {t path} : KeepsStrokeBase s (execBcFlush t path s) := .privCmd fun _ => by simp [flushBoard_keeps _]
theorem KeepsStrokeBase.execBcIrqAck {t path} : KeepsStrokeBase s (execBcIrqAck t path s) := .privCmd fun _ => rfl
theorem KeepsStrokeBase.execIrqLineSample {t low} : KeepsStrokeBase s (execIrqLineSample t low s) := .event fun _ _ => by simp [record_keeps _ _ _ _ _ _ _]
theorem KeepsStrokeBase.execIrqLineHigh {t} : KeepsStrokeBase s (execIrqLineHigh t s) := .act fun _ => rfl

/-! ### Commands of Machine/Modes.lean -/

theorem KeepsStrokeBase.execD2dLinkFirstUp {t} : KeepsStrokeBase s (execD2dLinkFirstUp t s) := .event fun _ _ => by simp [linkFirstUp_keeps _]
theorem KeepsStrokeBase.execD2dFrame {t payload crc} : KeepsStrokeBase s (execD2dFrame t payload crc s) := .event fun _ _ => by simp [emit_keeps _ _]
theorem KeepsStrokeBase.execD2dLinkLost {t} : KeepsStrokeBase s (execD2dLinkLost t s) := .event fun _ _ => by simp [linkLost_keeps _]
theorem KeepsStrokeBase.execLinkLossHoldExpiry {t} : KeepsStrokeBase s (execLinkLossHoldExpiry t s) := .event fun _ _ => by simp [linkHoldExpiry_keeps _]
theorem KeepsStrokeBase.execD2dLinkRestored {t} : KeepsStrokeBase s (execD2dLinkRestored t s) := .event fun _ _ => by simp [linkRestored_keeps _]
/-- Where a rail fails Folio does not stay powered. -/
theorem KeepsStrokeBase.execFolioRailFail {t} : KeepsStrokeBase s (execFolioRailFail t s) :=
  ⟨t, _, rfl, fun u hon h => by simp [hon, when_true, railFail_folioOn] at h⟩
theorem KeepsStrokeBase.execResetNPulse {t nor} : KeepsStrokeBase s (execResetNPulse t nor s) := .event fun _ _ => by simp
theorem KeepsStrokeBase.execHoldupFlushComplete {t} : KeepsStrokeBase s (execHoldupFlushComplete t s) := .event fun _ _ => by simp
theorem KeepsStrokeBase.execParkedInputRestored {t} : KeepsStrokeBase s (execParkedInputRestored t s) := .event fun _ _ => by simp
theorem KeepsStrokeBase.execModeManaged {t path} : KeepsStrokeBase s (execModeManaged t path s) := .privCmd fun _ => by simp [modeManaged_keeps _]
theorem KeepsStrokeBase.execModeSuspend {t path} : KeepsStrokeBase s (execModeSuspend t path s) := .privCmd fun _ => by simp [modeSuspend_keeps _]
theorem KeepsStrokeBase.execSuspendReached {t} : KeepsStrokeBase s (execSuspendReached t s) :=
  .event fun _ _ => by simp [enterMode_keeps _ _, answerMode_keeps _ _]
theorem KeepsStrokeBase.execModeStandby {t path} : KeepsStrokeBase s (execModeStandby t path s) := .privCmd fun _ => by simp [modeStandby_keeps _]
theorem KeepsStrokeBase.execStandbyReached {t} : KeepsStrokeBase s (execStandbyReached t s) :=
  .event fun _ _ => by simp [applyPortModes_keeps _ _ _, converterOff_keeps _ _]
theorem KeepsStrokeBase.execModeWake {t path} : KeepsStrokeBase s (execModeWake t path s) := .privCmd fun _ => by simp
theorem KeepsStrokeBase.execModeReboot {t path} : KeepsStrokeBase s (execModeReboot t path s) := .privCmd fun _ => by simp
theorem KeepsStrokeBase.execStandbyWakeAttach {t port} : KeepsStrokeBase s (execStandbyWakeAttach t port s) := .event fun _ _ => by simp

/-! ### Commands of Machine/RegisterCmds.lean -/

theorem KeepsStrokeBase.execSpiReadFrame {t addr} : KeepsStrokeBase s (execSpiReadFrame t addr s) :=
  .event fun _ _ => by simp [emit_keeps _ _, accessFault_keeps _ _ _, accessTimeout_keeps _ _ _, readReg_keeps _ _ _]
theorem KeepsStrokeBase.execSpiWriteFrame {t addr data crc} : KeepsStrokeBase s (execSpiWriteFrame t addr data crc s) :=
  .event fun _ _ => by simp [emit_keeps _ _, rcCount_keeps _ _ _, accessFault_keeps _ _ _, accessTimeout_keeps _ _ _]
theorem KeepsStrokeBase.execSpiUnknownCommand {t first} : KeepsStrokeBase s (execSpiUnknownCommand t first s) := .event fun _ _ => rfl
theorem KeepsStrokeBase.execSpiCsRelease {t} : KeepsStrokeBase s (execSpiCsRelease t s) := .act fun _ => rfl
theorem KeepsStrokeBase.execBarRead {t win offset lanes} : KeepsStrokeBase s (execBarRead t win offset lanes s) := .event fun _ _ => by
  split <;> simp [emit_keeps _ _, accessTimeout_keeps _ _ _, readReg_keeps _ _ _]
theorem KeepsStrokeBase.execBarWrite {t win offset data lanes} : KeepsStrokeBase s (execBarWrite t win offset data lanes s) := .event fun _ _ => by
  split <;> simp [accessRecord_keeps _ _ _ _ _, accessFault_keeps _ _ _, accessTimeout_keeps _ _ _]
theorem KeepsStrokeBase.execAccessTimeout {t path addr isWrite} : KeepsStrokeBase s (execAccessTimeout t path addr isWrite s) :=
  .event fun _ _ => by simp [failReply_keeps _ _ _ _, accessTimeout_keeps _ _ _]
theorem KeepsStrokeBase.execRegisterWrite {t path addr value} : KeepsStrokeBase s (execRegisterWrite t path addr value s) :=
  .event fun _ _ => by simp [accessFault_keeps _ _ _, accessTimeout_keeps _ _ _]
theorem KeepsStrokeBase.execRcRead {t path addr} : KeepsStrokeBase s (execRcRead t path addr s) :=
  .event fun _ _ => by simp [readReg_keeps _ _ _, emit_keeps _ _]
theorem KeepsStrokeBase.execPairLowRead {t path addr} : KeepsStrokeBase s (execPairLowRead t path addr s) :=
  .event fun _ _ => by simp [readReg_keeps _ _ _, emit_keeps _ _]
theorem KeepsStrokeBase.execPfTrustWrite {t path value} : KeepsStrokeBase s (execPfTrustWrite t path value s) := .privCmd fun _ => by simp
theorem KeepsStrokeBase.execUfBoundary {t port} : KeepsStrokeBase s (execUfBoundary t port s) :=
  .event fun _ _ => by simp [setNib_keeps _ _ _, boundaryApply_keeps _ _, isochBoundary_keeps _ _]
theorem KeepsStrokeBase.execFrBoundary {t port} : KeepsStrokeBase s (execFrBoundary t port s) := .event fun _ _ => by simp [boundaryApply_keeps _ _]
theorem KeepsStrokeBase.execBrkBoundary {t} : KeepsStrokeBase s (execBrkBoundary t s) :=
  .event fun _ _ => by simp [brkCommit_keeps _, boundaryApply_keeps _ _, applyDerate_keeps _]
theorem KeepsStrokeBase.execPktBoundary {t eth} : KeepsStrokeBase s (execPktBoundary t eth s) := .event fun _ _ => by simp [boundaryApply_keeps _ _]
theorem KeepsStrokeBase.execPdIdlePoint {t port} : KeepsStrokeBase s (execPdIdlePoint t port s) :=
  .event fun _ _ => by simp [boundaryApply_keeps _ _, pdiWork_keeps _ _, applyIncrease_keeps _ _]
theorem KeepsStrokeBase.execEpochStageWrite {t path addr value} : KeepsStrokeBase s (execEpochStageWrite t path addr value s) := .privCmd fun _ => by simp
theorem KeepsStrokeBase.execRubricCommit {t path} : KeepsStrokeBase s (execRubricCommit t path s) := .privCmd fun _ => by simp [rubricCommit_keeps _ _]
theorem KeepsStrokeBase.execRubricAbort {t path} : KeepsStrokeBase s (execRubricAbort t path s) := .privCmd fun _ => rfl
theorem KeepsStrokeBase.execCommitComplete {t} : KeepsStrokeBase s (execCommitComplete t s) := .event fun _ _ => by simp [commitComplete_keeps _]
theorem KeepsStrokeBase.execDomainCrcUpdate {t domain} : KeepsStrokeBase s (execDomainCrcUpdate t domain s) := .event fun _ _ => rfl
theorem KeepsStrokeBase.execFuncRead {t} : KeepsStrokeBase s (execFuncRead t s) := .act fun _ => by
  split <;> simp [readReg_keeps _ _ _, funcDrain_keeps _ _, funcPop_keeps _ _]
theorem KeepsStrokeBase.execFuncWrite {t} : KeepsStrokeBase s (execFuncWrite t s) := .act fun _ => by
  split <;> simp [funcDrain_keeps _ _, funcPop_keeps _ _]

/-! ### Every command -/

/-- While Folio stays powered no command moves the tick at which the Stroke counter was 0, whatever it is. -/
theorem exec_keepsStrokeBase (s : State) : ∀ c, KeepsStrokeBase s (exec c s)
  | .vinPreRise .. => .execVinPreRise
  | .vinPreCollapse .. => .execVinPreCollapse
  | .seatStable .. => .execSeatStable
  | .seatRelease .. => .execSeatRelease
  | .inrushDone .. => .execInrushDone
  | .inrushTimerExpiry .. => .execInrushTimerExpiry
  | .inputLoss .. => .execInputLoss
  | .inputReturn .. => .execInputReturn
  | .inputRetryWaitExpiry .. => .execInputRetryWaitExpiry
  | .inputRetryClear .. => .execInputRetryClear
  | .inClear .. => .execInClear
  | .inClearFetFail .. => .execInClearFetFail
  | .pgRelease .. => .execPgRelease
  | .pgFall .. => .execPgFall
  | .earlyWarning .. => .execEarlyWarning
  | .earlyWarningClear .. => .execEarlyWarningClear
  | .shedWaitExpiry .. => .execShedWaitExpiry
  | .holdupFlushComplete .. => .execHoldupFlushComplete
  | .parkedInputRestored .. => .execParkedInputRestored
  | .vauxFall .. => .execVauxFall
  | .vauxRecover .. => .execVauxRecover
  | .folioRailFail .. => .execFolioRailFail
  | .folioResetRelease .. => .execFolioResetRelease
  | .resetNPulse .. => .execResetNPulse
  | .d2dLinkFirstUp .. => .execD2dLinkFirstUp
  | .d2dFrame .. => .execD2dFrame
  | .strokeResync .. => .execStrokeResync
  | .d2dLinkLost .. => .execD2dLinkLost
  | .linkLossHoldExpiry .. => .execLinkLossHoldExpiry
  | .d2dLinkRestored .. => .execD2dLinkRestored
  | .bootEnd .. => .execBootEnd
  | .gapScanComplete .. => .execGapScanComplete
  | .modeManaged .. => .execModeManaged
  | .modeSuspend .. => .execModeSuspend
  | .suspendReached .. => .execSuspendReached
  | .modeStandby .. => .execModeStandby
  | .standbyReached .. => .execStandbyReached
  | .modeWake .. => .execModeWake
  | .modeReboot .. => .execModeReboot
  | .standbyWakeAttach .. => .execStandbyWakeAttach
  | .imgOpenFw .. => .execImgOpenFw
  | .imgOpenCfg .. => .execImgOpenCfg
  | .imgEraseDone .. => .execImgEraseDone
  | .imgDataWrite .. => .execImgDataWrite
  | .imgCommit .. => .execImgCommit
  | .imgAbandon .. => .execImgAbandon
  | .spiReadFrame .. => .execSpiReadFrame
  | .spiWriteFrame .. => .execSpiWriteFrame
  | .spiUnknownCommand .. => .execSpiUnknownCommand
  | .spiCsRelease .. => .execSpiCsRelease
  | .barRead .. => .execBarRead
  | .barWrite .. => .execBarWrite
  | .accessTimeout .. => .execAccessTimeout
  | .registerWrite .. => .execRegisterWrite
  | .rcRead .. => .execRcRead
  | .pairLowRead .. => .execPairLowRead
  | .pfTrustWrite .. => .execPfTrustWrite
  | .ufBoundary .. => .execUfBoundary
  | .frBoundary .. => .execFrBoundary
  | .brkBoundary .. => .execBrkBoundary
  | .pktBoundary .. => .execPktBoundary
  | .pdIdlePoint .. => .execPdIdlePoint
  | .epochStageWrite .. => .execEpochStageWrite
  | .rubricCommit .. => .execRubricCommit
  | .rubricAbort .. => .execRubricAbort
  | .commitComplete .. => .execCommitComplete
  | .domainCrcUpdate .. => .execDomainCrcUpdate
  | .ownAssign .. => .execOwnAssign
  | .portDecision .. => .execPortDecision
  | .leaseExpiry .. => .execLeaseExpiry
  | .handoverComplete .. => .execHandoverComplete
  | .orphanKeptEntry .. => .execOrphanKeptEntry
  | .orphanOffEntry .. => .execOrphanOffEntry
  | .resettingComplete .. => .execResettingComplete
  | .viEnable .. => .execViEnable
  | .viDisable .. => .execViDisable
  | .viConfigSend .. => .execViConfigSend
  | .cmdDb .. => .execCmdDb
  | .evtDb .. => .execEvtDb
  | .leaseDb .. => .execLeaseDb
  | .transferDb .. => .execTransferDb
  | .reservedDoorbell .. => .execReservedDoorbell
  | .ringFetchComplete .. => .execRingFetchComplete
  | .noopCmd .. => .execNoopCmd
  | .claim .. => .execClaim
  | .release .. => .execRelease
  | .renewLease .. => .execRenewLease
  | .resetPort .. => .execResetPort
  | .resetPortWarm .. => .execResetPortWarm
  | .resetPortTimeout .. => .execResetPortTimeout
  | .suspendPort .. => .execSuspendPort
  | .suspendComplete .. => .execSuspendComplete
  | .resumePort .. => .execResumePort
  | .resumeSignalEnd .. => .execResumeSignalEnd
  | .resumeComplete .. => .execResumeComplete
  | .addressDevice .. => .execAddressDevice
  | .setAddressRecovery .. => .execSetAddressRecovery
  | .disableDevice .. => .execDisableDevice
  | .configureEndpoint .. => .execConfigureEndpoint
  | .bindEndpointRing .. => .execBindEndpointRing
  | .stopEndpoint .. => .execStopEndpoint
  | .resetEndpoint .. => .execResetEndpoint
  | .disableEndpoint .. => .execDisableEndpoint
  | .setReadAhead .. => .execSetReadAhead
  | .readAheadOff .. => .execReadAheadOff
  | .queryPort .. => .execQueryPort
  | .queryVi .. => .execQueryVi
  | .replay .. => .execReplay
  | .resume .. => .execResume
  | .busTransaction .. => .execBusTransaction
  | .turnaroundTimeout .. => .execTurnaroundTimeout
  | .msixIntervalExpiry .. => .execMsixIntervalExpiry
  | .rdmaAckReceived .. => .execRdmaAckReceived
  | .rdmaReadResponse .. => .execRdmaReadResponse
  | .dmaReadCompletion .. => .execDmaReadCompletion
  | .previewTimeLimit .. => .execPreviewTimeLimit
  | .viBindWrite .. => .execViBindWrite
  | .flr .. => .execFlr
  | .vfEnableClear .. => .execVfEnableClear
  | .pcieLinkDown .. => .execPcieLinkDown
  | .bmeClear .. => .execBmeClear
  | .bmeSet .. => .execBmeSet
  | .ptmRequest .. => .execPtmRequest
  | .ethFrameReceived .. => .execEthFrameReceived
  | .prpEntryExpiry .. => .execPrpEntryExpiry
  | .prpSupervisionSend .. => .execPrpSupervisionSend
  | .lanDown .. => .execLanDown
  | .cmReq .. => .execCmReq
  | .repRetryTimeout .. => .execRepRetryTimeout
  | .cmRtu .. => .execCmRtu
  | .cmDreq .. => .execCmDreq
  | .roceDoorbellWrite .. => .execRoceDoorbellWrite
  | .ackTimeout .. => .execAckTimeout
  | .nakReceived .. => .execNakReceived
  | .psnSequenceNak .. => .execPsnSequenceNak
  | .unreachableHoldExpiry .. => .execUnreachableHoldExpiry
  | .qpReset .. => .execQpReset
  | .cnpReceived .. => .execCnpReceived
  | .ccRateIncrease .. => .execCcRateIncrease
  | .pfcFrameReceived .. => .execPfcFrameReceived
  | .ptpSyncAccepted .. => .execPtpSyncAccepted
  | .ptpLockTimeout .. => .execPtpLockTimeout
  | .freeRunSet .. => .execFreeRunSet
  | .portSlewComplete .. => .execPortSlewComplete
  | .endpointPromotion .. => .execEndpointPromotion
  | .isochDataFetch .. => .execIsochDataFetch
  | .usb2ConnectDebounced .. => .execUsb2ConnectDebounced
  | .receiverDetect .. => .execReceiverDetect
  | .ssU0Entry .. => .execSsU0Entry
  | .ssTrainingTimeout .. => .execSsTrainingTimeout
  | .deviceChirpSeen .. => .execDeviceChirpSeen
  | .rootResetEnd .. => .execRootResetEnd
  | .resetRecoveryEnd .. => .execResetRecoveryEnd
  | .babbleDetected .. => .execBabbleDetected
  | .usb2Disconnect .. => .execUsb2Disconnect
  | .ssLinkLost .. => .execSsLinkLost
  | .clearTtBufferDone .. => .execClearTtBufferDone
  | .l1Entry .. => .execL1Entry
  | .u1Entry .. => .execU1Entry
  | .u2Entry .. => .execU2Entry
  | .lpmRefusalHoldExpiry .. => .execLpmRefusalHoldExpiry
  | .remoteWake .. => .execRemoteWake
  | .stuckProbe .. => .execStuckProbe
  | .stuckRetest .. => .execStuckRetest
  | .getHubStatus .. => .execGetHubStatus
  | .clearHubFeature .. => .execClearHubFeature
  | .setHubFeature .. => .execSetHubFeature
  | .getPortStatus .. => .execGetPortStatus
  | .setPortReset .. => .execSetPortReset
  | .classicPortResetEnd .. => .execClassicPortResetEnd
  | .setBhPortReset .. => .execSetBhPortReset
  | .ssPortResetTimeout .. => .execSsPortResetTimeout
  | .setPortSuspend .. => .execSetPortSuspend
  | .clearPortSuspend .. => .execClearPortSuspend
  | .clearPortEnable .. => .execClearPortEnable
  | .setPortPower .. => .execSetPortPower
  | .clearPortPower .. => .execClearPortPower
  | .setPortTest .. => .execSetPortTest
  | .setPortIndicator _ _ n => .execSetPortIndicator (_n := n)
  | .setPortLinkState .. => .execSetPortLinkState
  | .setPortLinkPmFeature .. => .execSetPortLinkPmFeature
  | .clearPortChange .. => .execClearPortChange
  | .getPortErrCount .. => .execGetPortErrCount
  | .setHubDepth .. => .execSetHubDepth
  | .clearTtBuffer .. => .execClearTtBuffer
  | .resetTt .. => .execResetTt
  | .stopTt .. => .execStopTt
  | .getTtState _ _ n => .execGetTtState (_n := n)
  | .getDescriptor .. => .execGetDescriptor
  | .setDescriptor .. => .execSetDescriptor
  | .setConfiguration .. => .execSetConfiguration
  | .setInterface .. => .execSetInterface
  | .upstreamResetRecognised .. => .execUpstreamResetRecognised
  | .hsIdleReversion .. => .execHsIdleReversion
  | .chirpKEnd .. => .execChirpKEnd
  | .hostChirpSixth .. => .execHostChirpSixth
  | .hostChirpTimeout .. => .execHostChirpTimeout
  | .upstreamResetEnd .. => .execUpstreamResetEnd
  | .ssplitReceived .. => .execSsplitReceived
  | .csplitReceived .. => .execCsplitReceived
  | .ligatureResultExpiry .. => .execLigatureResultExpiry
  | .periodicResultDiscard .. => .execPeriodicResultDiscard
  | .upDrSwapSend .. => .execUpDrSwapSend
  | .drSwapRetry .. => .execDrSwapRetry
  | .drSwapAnswer .. => .execDrSwapAnswer
  | .drSwap .. => .execDrSwap
  | .funcOutPacket .. => .execFuncOutPacket
  | .funcRead .. => .execFuncRead
  | .funcWrite .. => .execFuncWrite
  | .funcEcho .. => .execFuncEcho
  | .funcClearHalt .. => .execFuncClearHalt
  | .blockGrant .. => .execBlockGrant
  | .bankWindow .. => .execBankWindow
  | .conflictWindow .. => .execConflictWindow
  | .heartbeat .. => .execHeartbeat
  | .noticeDelivery .. => .execNoticeDelivery
  | .bcHeadRead .. => .execBcHeadRead
  | .bcPop .. => .execBcPop
  | .bcSkip .. => .execBcSkip
  | .bcFlush .. => .execBcFlush
  | .bcIrqAck .. => .execBcIrqAck
  | .irqLineSample .. => .execIrqLineSample
  | .irqLineHigh .. => .execIrqLineHigh
  | .ccPatternAppear .. => .execCcPatternAppear
  | .ccPatternLost .. => .execCcPatternLost
  | .attachDebounceEnd .. => .execAttachDebounceEnd
  | .vbusSwitchOn .. => .execVbusSwitchOn
  | .vsafe5vReached .. => .execVsafe5vReached
  | .vconnStable .. => .execVconnStable
  | .cableDiscoveryRetry .. => .execCableDiscoveryRetry
  | .sourceCapsSend .. => .execSourceCapsSend
  | .sourceCapsRetry .. => .execSourceCapsRetry
  | .goodcrcReceived .. => .execGoodcrcReceived
  | .goodcrcTimeout .. => .execGoodcrcTimeout
  | .senderResponseTimeout .. => .execSenderResponseTimeout
  | .request .. => .execRequest
  | .eprRequest .. => .execEprRequest
  | .transitionStart .. => .execTransitionStart
  | .psRdySend .. => .execPsRdySend
  | .transitionBoundMissed .. => .execTransitionBoundMissed
  | .sinkTxWaitEnd .. => .execSinkTxWaitEnd
  | .getSourceCap .. => .execGetSourceCap
  | .softReset .. => .execSoftReset
  | .pdMessageUnexpected .. => .execPdMessageUnexpected
  | .hardResetReceived .. => .execHardResetReceived
  | .hardResetVbusOff .. => .execHardResetVbusOff
  | .srcRecoverEnd .. => .execSrcRecoverEnd
  | .errorRecoveryEnd .. => .execErrorRecoveryEnd
  | .eprModeEnter .. => .execEprModeEnter
  | .eprModeExit .. => .execEprModeExit
  | .eprKeepalive .. => .execEprKeepalive
  | .eprGetSourceCap .. => .execEprGetSourceCap
  | .eprKeepaliveTimeout .. => .execEprKeepaliveTimeout
  | .ppsTimeout .. => .execPpsTimeout
  | .getStatus .. => .execGetStatus
  | .getPpsStatus .. => .execGetPpsStatus
  | .getSourceInfo .. => .execGetSourceInfo
  | .getRevision .. => .execGetRevision
  | .getSourceCapExtended .. => .execGetSourceCapExtended
  | .getManufacturerInfo .. => .execGetManufacturerInfo
  | .unsupportedMessage .. => .execUnsupportedMessage
  | .ignoredMessage .. => .execIgnoredMessage
  | .bist .. => .execBist
  | .discoverIdentity .. => .execDiscoverIdentity
  | .structuredVdmNak .. => .execStructuredVdmNak
  | .cableIdentityAck .. => .execCableIdentityAck
  | .alertSend .. => .execAlertSend
  | .reclaimTimer .. => .execReclaimTimer
  | .reclaimRestore .. => .execReclaimRestore
  | .pdSendCaps .. => .execPdSendCaps
  | .pdHardReset .. => .execPdHardReset
  | .pdErrorRecovery .. => .execPdErrorRecovery
  | .detachDebounceStart .. => .execDetachDebounceStart
  | .ccDetach .. => .execCcDetach
  | .vsafe0vReached .. => .execVsafe0vReached
  | .ccShortProbe .. => .execCcShortProbe
  | .ccOvervoltage .. => .execCcOvervoltage
  | .ccFaultRetest .. => .execCcFaultRetest
  | .vconnFault .. => .execVconnFault
  | .converterReady .. => .execConverterReady
  | .preswitchCheckDone .. => .execPreswitchCheckDone
  | .vsetTrim .. => .execVsetTrim
  | .breakerEval .. => .execBreakerEval
  | .fastTrip .. => .execFastTrip
  | .ppsCurrentLimitStep .. => .execPpsCurrentLimitStep
  | .thermalUpdate .. => .execThermalUpdate
  | .passDeviceFault .. => .execPassDeviceFault
  | .clearFetFail .. => .execClearFetFail
  | .fetClearCheckEnd .. => .execFetClearCheckEnd
  | .clearLatch .. => .execClearLatch
  | .portRetry .. => .execPortRetry
  | .portRetryClear .. => .execPortRetryClear
  | .shareIncreaseApply .. => .execShareIncreaseApply
  | .shedRestore .. => .execShedRestore
  | .timeSample .. => .execTimeSample
  | .dvfsUpdate .. => .execDvfsUpdate
  | .dvfsVoltageDown .. => .execDvfsVoltageDown
  | .regionTempCap .. => .execRegionTempCap
  | .regionTempUncap .. => .execRegionTempUncap
  | .eqAdaptStep .. => .execEqAdaptStep
  | .recordCommit .. => .execRecordCommit
  | .sectorRecycle .. => .execSectorRecycle
  | .bucketRefill .. => .execBucketRefill
  | .summaryPeriodClose .. => .execSummaryPeriodClose
  | .palFreeze .. => .execPalFreeze
  | .palUnfreeze .. => .execPalUnfreeze
  | .palVerify .. => .execPalVerify
  | .palVerifyDone .. => .execPalVerifyDone
  | .palLoad .. => .execPalLoad
  | .palNext .. => .execPalNext
  | .palPrev .. => .execPalPrev
  | .recordLoadReady .. => .execRecordLoadReady
  | .eccWindow .. => .execEccWindow
  | .eccUncorrectable .. => .execEccUncorrectable
  | .watchdogExpiry .. => .execWatchdogExpiry
  | .engineRestartComplete .. => .execEngineRestartComplete
  | .temperatureExceeded .. => .execTemperatureExceeded
  | .temperatureCleared .. => .execTemperatureCleared
  | .quarExit .. => .execQuarExit
  | .advanceFloor .. => .execAdvanceFloor
  | .returnArm .. => .execReturnArm
  | .returnDisarm .. => .execReturnDisarm
  | .returnArmLapse .. => .execReturnArmLapse
  | .keyLoad .. => .execKeyLoad
  | .keyWithdraw .. => .execKeyWithdraw
  | .fuseOwner .. => .execFuseOwner
  | .keySetCommitted .. => .execKeySetCommitted
  | .gateNonceRead .. => .execGateNonceRead
  | .gateAuthorisation .. => .execGateAuthorisation
  | .gateVerifyDone .. => .execGateVerifyDone
  | .gateNonceExpiry .. => .execGateNonceExpiry
  | .upstreamSuspend .. => .execUpstreamSuspend
  | .upstreamResume .. => .execUpstreamResume
  | .upstreamLpmToken .. => .execUpstreamLpmToken
  | .upstreamSsLinkChange .. => .execUpstreamSsLinkChange
  | .vfEnableSet .. => .execVfEnableSet
  | .flrComplete .. => .execFlrComplete
  | .pcieLinkUp .. => .execPcieLinkUp
  | .eccCorrected .. => .execEccCorrected
  | .fetClearWindowTimeout .. => .execFetClearWindowTimeout
  | .descriptorStoreReloaded .. => .execDescriptorStoreReloaded
  | .keyReloaded .. => .execKeyReloaded

end Sys2Proof.Machine
end

section
/-! Steps, time and the Stroke counter (R341, R345): a step runs the command at the front of the queue, every command answers a next state at its moment, and the
counter follows time. -/

namespace Sys2Proof.Machine

/-! ### Steps (R345) -/

theorem step_of_pending {s : State} {c : Instr} {rest : List Instr} (h : s.pending = c :: rest) : step s = exec c { s with pending := rest } := by
  rw [step, h]

theorem step_of_idle {s : State} (h : s.pending = []) : step s = .next s := by
  rw [step, h]

/-- Every command answers a next state, with the queue as it was and a time no earlier. -/
theorem exec_answers (c : Instr) (s : State) : ∃ u, exec c s = .next u ∧ u.pending = s.pending ∧ s.now ≤ u.now := by
  obtain ⟨t, f, hact, -⟩ := exec_keepsStrokeBase s c
  exact ⟨_, hact.trans (act_next t s f), rfl, Nat.le_max_left ..⟩

/-! ### The Stroke counter (R341) -/

/-- While Folio stays powered a command leaves the tick at which the Stroke counter was 0. -/
theorem exec_strokeBase {c : Instr} {s u : State} (hu : exec c s = .next u) (hs : s.folioOn = true) (hon : u.folioOn = true) :
    u.strokeBase = s.strokeBase := by
  obtain ⟨t, f, hact, hkeeps⟩ := exec_keepsStrokeBase s c
  rw [hact, act_next] at hu
  cases hu
  have hbase := hkeeps (begin t s) (by simpa using hs) (by simpa using hon)
  simpa using hbase

theorem exec_now_le {c : Instr} {s u : State} (hu : exec c s = .next u) : s.now ≤ u.now := by
  obtain ⟨v, hv, -, hle⟩ := exec_answers c s
  cases hu.symm.trans hv
  exact hle

/-- Counted from the same tick, the Stroke counter advances by one for each tick that time advances. -/
theorem stroke_of_same_base {s u : State} (hbase : u.strokeBase = s.strokeBase) (hstart : s.strokeBase ≤ s.now) (hle : s.now ≤ u.now) :
    stroke u = (stroke s + (u.now - s.now)) % 2 ^ 64 := by
  have hticks : u.now - s.strokeBase = s.now - s.strokeBase + (u.now - s.now) := by omega
  rw [stroke, stroke, hbase, hticks, Nat.mod_add_mod]

/-- As power-on reset ends, the Stroke counter is at 0. -/
theorem execFolioResetRelease_stroke {t : Nat} {nor : Option NorView} {s u : State} (hon : s.folioOn = false) (hmode : s.modes.mode = .inrush)
    (hu : exec (.folioResetRelease t nor) s = .next u) : stroke u = 0 := by
  have hact : exec (.folioResetRelease t nor) s = execFolioResetRelease t nor s := rfl
  rw [hact, execFolioResetRelease, act_next] at hu
  cases hu
  simp [stroke, hon, hmode, when_true, bootLoad_keeps _, takeNor_keeps _ _, enterMode_keeps _ _, folioReset_cold_strokeBase]

end Sys2Proof.Machine

namespace Sys2Proof.Safety

open Sys2Proof.Machine

/-- Settles O2: the command at the front answers a next state (`exec_answers`), and with none waiting nothing changes. That a command answers one where its
conditions fail rests on assumption 7, that time moves on to the command's stamp and never back on assumption 6, and that the block idles on assumption 1. -/
theorem everyStepAnswersANextState : Obligations.EveryStepAnswersANextState := fun s => by
  cases hp : s.pending with
  | nil => exact ⟨s, step_of_idle hp, hp, Nat.le_refl _, fun _ => rfl⟩
  | cons c rest =>
    obtain ⟨u, hu, hpending, hle⟩ := exec_answers c { s with pending := rest }
    exact ⟨u, (step_of_pending hp).trans hu, hpending, hle, nofun⟩

/-- Settles O9: power-on reset ends with the counter at 0 (`execFolioResetRelease_stroke`), and while Folio stays powered no command moves the tick it is counted
from (`exec_strokeBase`). That the counter is model time less that tick is assumption 6. -/
theorem strokeCounterAdvancesWithTime : Obligations.StrokeCounterAdvancesWithTime :=
  ⟨fun _ _ _ _ => execFolioResetRelease_stroke, fun _ _ _ hu hs hon hstart =>
    have hbase := exec_strokeBase hu hs hon
    ⟨hbase, stroke_of_same_base hbase hstart (exec_now_le hu)⟩⟩

/-- Settles O1: with a command waiting, that is what a step is. The order of the queue is the order of events (R345, assumption 120). -/
theorem stepRunsTheFrontCommand : Obligations.StepRunsTheFrontCommand := fun _ _ _ => step_of_pending

end Sys2Proof.Safety
end

section
/-! What every command leaves as it was (the parts of `Piece`, against `touches`).

A command is an effect at its moment, and an effect is made of operations. First, for each operation that a command is made of, the parts it may change, from what Laws/
says that it keeps; then, for each command in the order of the model's files, `OnlyTouches.execX`: its effect leaves every part but the ones named. The lemmas on operations
are rewrite rules, which take an operation off the end of an effect where its parts are among those named; `+decide` evaluates that check on closed lists. -/

namespace Sys2Proof.Machine

open Sys2Proof.Safety

/-- A part that the list does not name, as a check that evaluates. -/
def spared (ps : List Piece) (p : Piece) : Bool := !ps.contains p

/-- One list of parts within another, as a check that evaluates. -/
def within (qs ps : List Piece) : Bool := qs.all ps.contains

/-- Within an effect a part is as it was: its fields are the same. -/
def Piece.kept (s u : State) : Piece → Prop
  | .out => u.out = s.out
  | .rc => u.rcSpi = s.rcSpi ∧ u.rcPf = s.rcPf
  | .margin => u.margin = s.margin
  | p => p.same s u

/-- An effect from `s` to `u` leaves every part but these as it was. -/
def Leaves (ps : List Piece) (s u : State) : Prop := ∀ p, spared ps p = true → Piece.kept s u p

/-- A command is an effect at its moment, and the effect leaves every part but these as it was. -/
def OnlyTouches (ps : List Piece) (s : State) (o : Host.Outcome State Fault Refusal) : Prop := ∃ t f, o = act t s f ∧ ∀ u, Leaves ps u (f u)

variable {s u v : State} {ps qs : List Piece}

/-! ### The parts by the groups of Laws/State.lean -/

def LeavesBoard (ps : List Piece) (s u : State) : Prop :=
  (spared ps .folioOn = true → u.folioOn = s.folioOn) ∧ (spared ps .strokeBase = true → u.strokeBase = s.strokeBase) ∧
  (spared ps .resyncAt = true → u.resyncAt = s.resyncAt) ∧ (spared ps .pairs = true → u.pairs = s.pairs) ∧ (spared ps .writes = true → u.writes = s.writes) ∧
  (spared ps .staged = true → u.staged = s.staged) ∧ (spared ps .rubric = true → u.rubric = s.rubric) ∧
  (spared ps .trustBySpi = true → u.trustBySpi = s.trustBySpi) ∧ (spared ps .trustConfigured = true → u.trustConfigured = s.trustConfigured) ∧
  (spared ps .link = true → u.link = s.link) ∧ (spared ps .localEvents = true → u.localEvents = s.localEvents) ∧
  (spared ps .localLost = true → u.localLost = s.localLost) ∧ (spared ps .disc = true → u.disc = s.disc) ∧ (spared ps .clusters = true → u.clusters = s.clusters) ∧
  (spared ps .engines = true → u.engines = s.engines) ∧ (spared ps .regionTemp = true → u.regionTemp = s.regionTemp) ∧
  (spared ps .lanes = true → u.lanes = s.lanes) ∧ (spared ps .img = true → u.img = s.img) ∧ (spared ps .nor = true → u.nor = s.nor) ∧
  (spared ps .sealUnit = true → u.sealUnit = s.sealUnit) ∧ (spared ps .input = true → u.input = s.input) ∧ (spared ps .vauxOk = true → u.vauxOk = s.vauxOk) ∧
  (spared ps .ptp = true → u.ptp = s.ptp) ∧ (spared ps .eth = true → u.eth = s.eth) ∧ (spared ps .prp = true → u.prp = s.prp) ∧
  (spared ps .timelines = true → u.timelines = s.timelines)

def LeavesPorts (ps : List Piece) (s u : State) : Prop :=
  (spared ps .freeCtr = true → u.freeCtr = s.freeCtr) ∧ (spared ps .regs = true → u.regs = s.regs) ∧ (spared ps .modes = true → u.modes = s.modes) ∧
  (spared ps .blot = true → u.blot = s.blot) ∧ (spared ps .power = true → u.power = s.power) ∧ (spared ps .pd = true → u.pd = s.pd) ∧
  (spared ps .devices = true → u.devices = s.devices) ∧ (spared ps .cvis = true → u.cvis = s.cvis) ∧ (spared ps .cviews = true → u.cviews = s.cviews) ∧
  (spared ps .cports = true → u.cports = s.cports) ∧ (spared ps .ligs = true → u.ligs = s.ligs) ∧ (spared ps .func = true → u.func = s.func)

def LeavesHosts (ps : List Piece) (s u : State) : Prop :=
  (spared ps .own = true → u.own = s.own) ∧ (spared ps .vis = true → u.vis = s.vis) ∧ (spared ps .eps = true → u.eps = s.eps) ∧
  (spared ps .nibs = true → u.nibs = s.nibs) ∧ (spared ps .qps = true → u.qps = s.qps) ∧ (spared ps .ink = true → u.ink = s.ink)

/-- The parts in none of the groups. -/
def LeavesRest (ps : List Piece) (s u : State) : Prop :=
  (spared ps .out = true → u.out = s.out) ∧ (spared ps .limits = true → u.limits = s.limits) ∧
  (spared ps .rc = true → u.rcSpi = s.rcSpi ∧ u.rcPf = s.rcPf) ∧ (spared ps .pal = true → u.pal = s.pal) ∧ (spared ps .margin = true → u.margin = s.margin) ∧
  (spared ps .pcie = true → u.pcie = s.pcie)

theorem leaves_iff : Leaves ps s u ↔ LeavesBoard ps s u ∧ LeavesPorts ps s u ∧ LeavesHosts ps s u ∧ LeavesRest ps s u := by
  constructor
  · exact fun h => ⟨⟨h .folioOn, h .strokeBase, h .resyncAt, h .pairs, h .writes, h .staged, h .rubric, h .trustBySpi, h .trustConfigured, h .link,
      h .localEvents, h .localLost, h .disc, h .clusters, h .engines, h .regionTemp, h .lanes, h .img, h .nor, h .sealUnit, h .input, h .vauxOk, h .ptp,
      h .eth, h .prp, h .timelines⟩,
      ⟨h .freeCtr, h .regs, h .modes, h .blot, h .power, h .pd, h .devices, h .cvis, h .cviews, h .cports, h .ligs, h .func⟩,
      ⟨h .own, h .vis, h .eps, h .nibs, h .qps, h .ink⟩, h .out, h .limits, h .rc, h .pal, h .margin, h .pcie⟩
  · rintro ⟨hb, hp, hh, hr⟩ p hs
    simp only [LeavesBoard, LeavesPorts, LeavesHosts, LeavesRest] at hb hp hh hr
    cases p <;> simp only [Piece.kept, Piece.same, hb, hp, hh, hr, hs, and_self]

theorem KeepsBoard.leaves (h : KeepsBoard u s) : LeavesBoard ps s u := by simp only [LeavesBoard, h, implies_true, and_self]
theorem KeepsPorts.leaves (h : KeepsPorts u s) : LeavesPorts ps s u := by simp only [LeavesPorts, h, implies_true, and_self]
theorem KeepsHosts.leaves (h : KeepsHosts u s) : LeavesHosts ps s u := by simp only [LeavesHosts, h, implies_true, and_self]

/-! ### Effects one after another -/

@[simp] theorem Leaves.refl : Leaves ps s s :=
  leaves_iff.2 ⟨KeepsBoard.leaves (by simp), KeepsPorts.leaves (by simp), KeepsHosts.leaves (by simp), by simp only [LeavesRest, implies_true, and_self]⟩

theorem Piece.kept_trans {p : Piece} (h : Piece.kept s u p) (h' : Piece.kept u v p) : Piece.kept s v p := by
  cases p
  case rc => exact ⟨h'.1.trans h.1, h'.2.trans h.2⟩
  all_goals exact Eq.trans h' h

theorem Piece.kept_symm {p : Piece} (h : Piece.kept s u p) : Piece.kept u s p := by
  cases p
  case rc => exact ⟨h.1.symm, h.2.symm⟩
  all_goals exact Eq.symm h

theorem Leaves.trans (h : Leaves ps s u) (h' : Leaves ps u v) : Leaves ps s v := fun p hp => Piece.kept_trans (h p hp) (h' p hp)

theorem spared_of_within (hps : within qs ps = true) (p : Piece) (hp : spared ps p = true) : spared qs p = true := by
  simp only [within, List.all_eq_true, List.contains_iff_mem, spared, Bool.not_eq_true', ← Bool.not_eq_true] at hps hp ⊢
  exact fun hq => hp (hps p hq)

/-- An operation that leaves more comes off the end of an effect. -/
theorem leaves_after (hps : within qs ps = true) (h : Leaves qs u v) : Leaves ps s v ↔ Leaves ps s u :=
  ⟨fun hv p hp => Piece.kept_trans (hv p hp) (Piece.kept_symm (h p (spared_of_within hps p hp))),
    fun hu p hp => Piece.kept_trans (hu p hp) (h p (spared_of_within hps p hp))⟩

/-! ### The forms of an effect -/

@[simp] theorem leaves_ite {c : Prop} [Decidable c] {a b : State} : Leaves ps s (if c then a else b) ↔ (c → Leaves ps s a) ∧ (¬c → Leaves ps s b) := by
  split <;> simp_all

@[simp] theorem leaves_when {c : Bool} {g : State → State} : Leaves ps s (when c u g) ↔ (c = true → Leaves ps s (g u)) ∧ (c = false → Leaves ps s u) := by
  cases c <;> simp [when]

@[simp] theorem Leaves.foldl {β : Type} {g : State → β → State} {l : List β} (h : Leaves ps s u) (hg : ∀ w x, Leaves ps w (g w x)) :
    Leaves ps s (l.foldl g u) :=
  List.foldlRecOn (motive := Leaves ps s) l g h fun _ hw _ _ => hw.trans (hg _ _)

@[simp] theorem Leaves.eachPort {g : State → PortId → State} (h : Leaves ps s u) (hg : ∀ w x, Leaves ps w (g w x)) : Leaves ps s (eachPort u g) := h.foldl hg

@[simp] theorem Leaves.eachRing {g : State → RingId → State} (h : Leaves ps s u) (hg : ∀ w x, Leaves ps w (g w x)) : Leaves ps s (eachRing u g) := h.foldl hg

@[simp] theorem Leaves.eachClassic {g : State → ClassicId → State} (h : Leaves ps s u) (hg : ∀ w x, Leaves ps w (g w x)) : Leaves ps s (eachClassic u g) :=
  h.foldl hg


/-! ### The operations -/

/-! #### Of Machine/Regs.lean -/

@[simp] theorem leaves_setReg {a r} (hps : within [.regs] ps = true) : Leaves ps s (setReg u a r) ↔ Leaves ps s u :=
  leaves_after hps <| by
    obtain ⟨hb, hh, h⟩ := setReg_keeps u a r
    simp +decide [leaves_iff, hb.leaves, LeavesPorts, hh.leaves, LeavesRest, h]
@[simp] theorem leaves_rcAdd {a r} (hps : within [.rc] ps = true) : Leaves ps s (rcAdd u a r) ↔ Leaves ps s u :=
  leaves_after hps <| by
    obtain ⟨hb, hp, hh, h⟩ := rcAdd_keeps u a r
    simp +decide [leaves_iff, hb.leaves, hp.leaves, hh.leaves, LeavesRest, h]
@[simp] theorem leaves_rcCount {a lo} (hps : within [.rc] ps = true) : Leaves ps s (rcCount u a lo) ↔ Leaves ps s u :=
  leaves_after hps <| by
    obtain ⟨hb, hp, hh, h⟩ := rcCount_keeps u a lo
    simp +decide [leaves_iff, hb.leaves, hp.leaves, hh.leaves, LeavesRest, h]

/-! #### Of Machine/Ops.lean -/

@[simp] theorem leaves_draw (hps : within [.freeCtr] ps = true) : Leaves ps s (draw u).2 ↔ Leaves ps s u :=
  leaves_after hps <| by
    obtain ⟨hb, hh, h⟩ := draw_keeps u
    simp +decide [leaves_iff, hb.leaves, LeavesPorts, hh.leaves, LeavesRest, h]
@[simp] theorem leaves_drawMany {a0} (hps : within [.freeCtr] ps = true) : Leaves ps s (drawMany a0 u).2 ↔ Leaves ps s u :=
  leaves_after hps <| by
    obtain ⟨hb, hh, h⟩ := drawMany_keeps a0 u
    simp +decide [leaves_iff, hb.leaves, LeavesPorts, hh.leaves, LeavesRest, h]
@[simp] theorem leaves_emit {o} (hps : within [.out] ps = true) : Leaves ps s (emit u o) ↔ Leaves ps s u :=
  leaves_after hps <| by
    obtain ⟨hb, hp, hh, h⟩ := emit_keeps u o
    simp +decide [leaves_iff, hb.leaves, hp.leaves, hh.leaves, LeavesRest, h]

/-! #### Of Machine/Recorder.lean -/

@[simp] theorem leaves_pushRecord {r} (hps : within [.rc, .pal] ps = true) : Leaves ps s (pushRecord u r) ↔ Leaves ps s u :=
  leaves_after hps <| by
    obtain ⟨hb, hp, hh, h⟩ := pushRecord_keeps u r
    simp +decide [leaves_iff, hb.leaves, hp.leaves, hh.leaves, LeavesRest, h]
@[simp] theorem leaves_marker {code sev xs} (hps : within [.rc, .pal] ps = true) : Leaves ps s (marker u code sev xs) ↔ Leaves ps s u :=
  leaves_after hps <| by
    obtain ⟨hb, hp, hh, h⟩ := marker_keeps u code sev xs
    simp +decide [leaves_iff, hb.leaves, hp.leaves, hh.leaves, LeavesRest, h]
@[simp] theorem leaves_recordAt {place code sev n subject set xs} (hps : within [.rc, .pal] ps = true) :
    Leaves ps s (recordAt u place code sev n subject set xs) ↔ Leaves ps s u :=
  leaves_after hps <| by
    obtain ⟨hb, hp, hh, h⟩ := recordAt_keeps u place code sev n subject set xs
    simp +decide [leaves_iff, hb.leaves, hp.leaves, hh.leaves, LeavesRest, h]
@[simp] theorem leaves_record {code sev n subject set xs} (hps : within [.rc, .pal] ps = true) :
    Leaves ps s (record u code sev n subject set xs) ↔ Leaves ps s u :=
  leaves_after hps <| by
    obtain ⟨hb, hp, hh, h⟩ := record_keeps u code sev n subject set xs
    simp +decide [leaves_iff, hb.leaves, hp.leaves, hh.leaves, LeavesRest, h]
@[simp] theorem leaves_recordRes {place code sev n set xs} (hps : within [.rc, .localEvents, .localLost, .pal] ps = true) :
    Leaves ps s (recordRes u place code sev n set xs) ↔ Leaves ps s u :=
  leaves_after hps <| by
    obtain ⟨hp, hh, h⟩ := recordRes_keeps u place code sev n set xs
    simp +decide [leaves_iff, LeavesBoard, hp.leaves, hh.leaves, LeavesRest, h]

/-! #### Of Machine/Notices.lean -/

@[simp] theorem leaves_notice {type prio n subject body dest} (hps : within [.limits, .rc, .pal, .margin] ps = true) :
    Leaves ps s (notice u type prio n subject body dest) ↔ Leaves ps s u :=
  leaves_after hps <| by
    obtain ⟨hb, hp, hh, h⟩ := notice_keeps u type prio n subject body dest
    simp +decide [leaves_iff, hb.leaves, hp.leaves, hh.leaves, LeavesRest, h]
@[simp] theorem leaves_powerNotice {n event} (hps : within [.limits, .rc, .pal, .margin] ps = true) : Leaves ps s (powerNotice u n event) ↔ Leaves ps s u :=
  leaves_after hps <| by
    obtain ⟨hb, hp, hh, h⟩ := powerNotice_keeps u n event
    simp +decide [leaves_iff, hb.leaves, hp.leaves, hh.leaves, LeavesRest, h]
@[simp] theorem leaves_portStateNotice {n event link speed} (hps : within [.limits, .rc, .pal, .margin] ps = true) :
    Leaves ps s (portStateNotice u n event link speed) ↔ Leaves ps s u :=
  leaves_after hps <| by
    obtain ⟨hb, hp, hh, h⟩ := portStateNotice_keeps u n event link speed
    simp +decide [leaves_iff, hb.leaves, hp.leaves, hh.leaves, LeavesRest, h]
@[simp] theorem leaves_heartbeatInto {q} (hps : within [.limits, .rc, .pal, .margin] ps = true) : Leaves ps s (heartbeatInto u q) ↔ Leaves ps s u :=
  leaves_after hps <| by
    obtain ⟨hb, hp, hh, h⟩ := heartbeatInto_keeps u q
    simp +decide [leaves_iff, hb.leaves, hp.leaves, hh.leaves, LeavesRest, h]

/-! #### Of Machine/Store.lean -/

@[simp] theorem leaves_setRing {r xs} (hps : within [.pal] ps = true) : Leaves ps s (setRing u r xs) ↔ Leaves ps s u :=
  leaves_after hps <| by
    obtain ⟨hb, hp, hh, h⟩ := setRing_keeps u r xs
    simp +decide [leaves_iff, hb.leaves, hp.leaves, hh.leaves, LeavesRest, h]
@[simp] theorem leaves_norFailure {r i op} (hps : within [.rc, .pal] ps = true) : Leaves ps s (norFailure u r i op) ↔ Leaves ps s u :=
  leaves_after hps <| by
    obtain ⟨hb, hp, hh, h⟩ := norFailure_keeps u r i op
    simp +decide [leaves_iff, hb.leaves, hp.leaves, hh.leaves, LeavesRest, h]
@[simp] theorem leaves_programRecord {r steps} (hps : within [.pal] ps = true) : Leaves ps s (programRecord u r steps) ↔ Leaves ps s u :=
  leaves_after hps <| by
    obtain ⟨hb, hp, hh, h⟩ := programRecord_keeps u r steps
    simp +decide [leaves_iff, hb.leaves, hp.leaves, hh.leaves, LeavesRest, h]
@[simp] theorem leaves_persistEverything (hps : within [.pal] ps = true) : Leaves ps s (persistEverything u) ↔ Leaves ps s u :=
  leaves_after hps <| by
    obtain ⟨hb, hp, hh, h⟩ := persistEverything_keeps u
    simp +decide [leaves_iff, hb.leaves, hp.leaves, hh.leaves, LeavesRest, h]
@[simp] theorem leaves_sample {ch q x ms} (hps : within [.pal] ps = true) : Leaves ps s (sample u ch q x ms) ↔ Leaves ps s u :=
  leaves_after hps <| by
    obtain ⟨hb, hp, hh, h⟩ := sample_keeps u ch q x ms
    simp +decide [leaves_iff, hb.leaves, hp.leaves, hh.leaves, LeavesRest, h]
@[simp] theorem leaves_closeSummaries {ys} (hps : within [.rc, .pal] ps = true) : Leaves ps s (closeSummaries u ys) ↔ Leaves ps s u :=
  leaves_after hps <| by
    obtain ⟨hb, hp, hh, h⟩ := closeSummaries_keeps u ys
    simp +decide [leaves_iff, hb.leaves, hp.leaves, hh.leaves, LeavesRest, h]

/-! #### Of Machine/Access.lean -/

@[simp] theorem leaves_accessRecord {code p a more} (hps : within [.rc, .pal] ps = true) : Leaves ps s (accessRecord u code p a more) ↔ Leaves ps s u :=
  leaves_after hps <| by
    obtain ⟨hb, hp, hh, h⟩ := accessRecord_keeps u code p a more
    simp +decide [leaves_iff, hb.leaves, hp.leaves, hh.leaves, LeavesRest, h]
@[simp] theorem leaves_privDenied {p a} (hps : within [.rc, .pal] ps = true) : Leaves ps s (privDenied u p a) ↔ Leaves ps s u :=
  leaves_after hps <| by
    obtain ⟨hb, hp, hh, h⟩ := privDenied_keeps u p a
    simp +decide [leaves_iff, hb.leaves, hp.leaves, hh.leaves, LeavesRest, h]
@[simp] theorem leaves_accessFault {p bit} (hps : within [.rc] ps = true) : Leaves ps s (accessFault u p bit) ↔ Leaves ps s u :=
  leaves_after hps <| by
    obtain ⟨hb, hp, hh, h⟩ := accessFault_keeps u p bit
    simp +decide [leaves_iff, hb.leaves, hp.leaves, hh.leaves, LeavesRest, h]
@[simp] theorem leaves_accessTimeout {p a} (hps : within [.rc, .pal] ps = true) : Leaves ps s (accessTimeout u p a) ↔ Leaves ps s u :=
  leaves_after hps <| by
    obtain ⟨hb, hp, hh, h⟩ := accessTimeout_keeps u p a
    simp +decide [leaves_iff, hb.leaves, hp.leaves, hh.leaves, LeavesRest, h]

/-! #### Of Machine/Inkwell.lean -/

@[simp] theorem leaves_keyNow (hps : within [.ink] ps = true) : Leaves ps s (keyNow u) ↔ Leaves ps s u :=
  leaves_after hps <| by
    obtain ⟨hb, hp, h⟩ := keyNow_keeps u
    simp +decide [leaves_iff, hb.leaves, hp.leaves, LeavesHosts, LeavesRest, h]
@[simp] theorem leaves_settleCtx {before x ctx} (hps : within [.ink] ps = true) : Leaves ps s (settleCtx before u x ctx) ↔ Leaves ps s u :=
  leaves_after hps <| by
    obtain ⟨hb, hp, h⟩ := settleCtx_keeps before u x ctx
    simp +decide [leaves_iff, hb.leaves, hp.leaves, LeavesHosts, LeavesRest, h]
@[simp] theorem leaves_requestBlocks {x ctx need} (hps : within [.limits, .rc, .vis, .ink] ps = true) :
    Leaves ps s (requestBlocks u x ctx need) ↔ Leaves ps s u :=
  leaves_after hps <| by
    obtain ⟨hb, hp, h⟩ := requestBlocks_keeps u x ctx need
    simp +decide [leaves_iff, hb.leaves, hp.leaves, LeavesHosts, LeavesRest, h]
@[simp] theorem leaves_conflictTrip {bank} (hps : within [.freeCtr, .limits, .rc, .pal, .margin, .ink] ps = true) :
    Leaves ps s (conflictTrip u bank) ↔ Leaves ps s u :=
  leaves_after hps <| by
    obtain ⟨hb, h⟩ := conflictTrip_keeps u bank
    simp +decide [leaves_iff, hb.leaves, LeavesPorts, LeavesHosts, LeavesRest, h]

/-! #### Of Machine/Rings.lean -/

@[simp] theorem leaves_setVi {r f} (hps : within [.vis] ps = true) : Leaves ps s (setVi u r f) ↔ Leaves ps s u :=
  leaves_after hps <| by
    obtain ⟨hb, hp, h⟩ := setVi_keeps u r f
    simp +decide [leaves_iff, hb.leaves, hp.leaves, LeavesHosts, LeavesRest, h]
@[simp] theorem leaves_setEp {ctx f} (hps : within [.eps] ps = true) : Leaves ps s (setEp u ctx f) ↔ Leaves ps s u :=
  leaves_after hps <| by
    obtain ⟨hb, hp, h⟩ := setEp_keeps u ctx f
    simp +decide [leaves_iff, hb.leaves, hp.leaves, LeavesHosts, LeavesRest, h]
@[simp] theorem leaves_setNib {n f} (hps : within [.nibs] ps = true) : Leaves ps s (setNib u n f) ↔ Leaves ps s u :=
  leaves_after hps <| by
    obtain ⟨hb, hp, h⟩ := setNib_keeps u n f
    simp +decide [leaves_iff, hb.leaves, hp.leaves, LeavesHosts, LeavesRest, h]
@[simp] theorem leaves_setQp {q f} (hps : within [.qps] ps = true) : Leaves ps s (setQp u q f) ↔ Leaves ps s u :=
  leaves_after hps <| by
    obtain ⟨hb, hp, h⟩ := setQp_keeps u q f
    simp +decide [leaves_iff, hb.leaves, hp.leaves, LeavesHosts, LeavesRest, h]
@[simp] theorem leaves_hostWrite {r addr bytes} (hps : within [.out, .rc, .vis, .qps] ps = true) : Leaves ps s (hostWrite u r addr bytes) ↔ Leaves ps s u :=
  leaves_after hps <| by
    obtain ⟨hb, hp, h⟩ := hostWrite_keeps u r addr bytes
    simp +decide [leaves_iff, hb.leaves, hp.leaves, LeavesHosts, LeavesRest, h]
@[simp] theorem leaves_raiseMsix {r} (hps : within [.out, .vis, .pcie] ps = true) : Leaves ps s (raiseMsix u r) ↔ Leaves ps s u :=
  leaves_after hps <| by
    obtain ⟨hb, hp, h⟩ := raiseMsix_keeps u r
    simp +decide [leaves_iff, hb.leaves, hp.leaves, LeavesHosts, LeavesRest, h]
@[simp] theorem leaves_flushEvents {r} (hps : within [.out, .limits, .rc, .pal, .vis, .qps, .pcie] ps = true) :
    Leaves ps s (flushEvents u r) ↔ Leaves ps s u :=
  leaves_after hps <| by
    obtain ⟨hb, hp, h⟩ := flushEvents_keeps u r
    simp +decide [leaves_iff, hb.leaves, hp.leaves, LeavesHosts, LeavesRest, h]
@[simp] theorem leaves_deliverNotice {r} (hps : within [.out, .limits, .rc, .pal, .margin, .vis, .qps, .pcie] ps = true) :
    Leaves ps s (deliverNotice u r) ↔ Leaves ps s u :=
  leaves_after hps <| by
    obtain ⟨hb, hp, h⟩ := deliverNotice_keeps u r
    simp +decide [leaves_iff, hb.leaves, hp.leaves, LeavesHosts, LeavesRest, h]
@[simp] theorem leaves_earlierNotices {r} (hps : within [.out, .limits, .rc, .pal, .margin, .vis, .qps, .pcie] ps = true) :
    Leaves ps s (earlierNotices u r) ↔ Leaves ps s u :=
  leaves_after hps <| by
    obtain ⟨hb, hp, h⟩ := earlierNotices_keeps u r
    simp +decide [leaves_iff, hb.leaves, hp.leaves, LeavesHosts, LeavesRest, h]
@[simp] theorem leaves_finishCmd {r slot code result n} (hps : within [.out, .limits, .rc, .pal, .margin, .vis, .qps, .pcie, .ink] ps = true) :
    Leaves ps s (finishCmd u r slot code result n) ↔ Leaves ps s u :=
  leaves_after hps <| by
    obtain ⟨hb, hp, h⟩ := finishCmd_keeps u r slot code result n
    simp +decide [leaves_iff, hb.leaves, hp.leaves, LeavesHosts, LeavesRest, h]
@[simp] theorem leaves_refreshAges (hps : within [.eps] ps = true) : Leaves ps s (refreshAges u) ↔ Leaves ps s u :=
  leaves_after hps <| by
    obtain ⟨hb, hp, h⟩ := refreshAges_keeps u
    simp +decide [leaves_iff, hb.leaves, hp.leaves, LeavesHosts, LeavesRest, h]

/-! #### Of Machine/Trees.lean -/

@[simp] theorem leaves_setView {c n f} (hps : within [.cviews] ps = true) : Leaves ps s (setView u c n f) ↔ Leaves ps s u :=
  leaves_after hps <| by
    obtain ⟨hb, hh, h⟩ := setView_keeps u c n f
    simp +decide [leaves_iff, hb.leaves, LeavesPorts, hh.leaves, LeavesRest, h]
@[simp] theorem leaves_setCvi {c f} (hps : within [.cvis] ps = true) : Leaves ps s (setCvi u c f) ↔ Leaves ps s u :=
  leaves_after hps <| by
    obtain ⟨hb, hh, h⟩ := setCvi_keeps u c f
    simp +decide [leaves_iff, hb.leaves, LeavesPorts, hh.leaves, LeavesRest, h]
@[simp] theorem leaves_setCPort {n f} (hps : within [.cports] ps = true) : Leaves ps s (setCPort u n f) ↔ Leaves ps s u :=
  leaves_after hps <| by
    obtain ⟨hb, hh, h⟩ := setCPort_keeps u n f
    simp +decide [leaves_iff, hb.leaves, LeavesPorts, hh.leaves, LeavesRest, h]
@[simp] theorem leaves_viewDisconnect {n ss} (hps : within [.cviews] ps = true) : Leaves ps s (viewDisconnect u n ss) ↔ Leaves ps s u :=
  leaves_after hps <| by
    obtain ⟨hb, hh, h⟩ := viewDisconnect_keeps u n ss
    simp +decide [leaves_iff, hb.leaves, LeavesPorts, hh.leaves, LeavesRest, h]
@[simp] theorem leaves_emptyLig {n} (hps : within [.ligs] ps = true) : Leaves ps s (emptyLig u n) ↔ Leaves ps s u :=
  leaves_after hps <| by
    obtain ⟨hb, hh, h⟩ := emptyLig_keeps u n
    simp +decide [leaves_iff, hb.leaves, LeavesPorts, hh.leaves, LeavesRest, h]
@[simp] theorem leaves_releaseEp {ctx code reason} (hps : within [.out, .limits, .rc, .pal, .margin, .own, .vis, .eps, .qps, .pcie, .ink] ps = true) :
    Leaves ps s (releaseEp u ctx code reason).1 ↔ Leaves ps s u :=
  leaves_after hps <| by
    obtain ⟨hb, hp, h⟩ := releaseEp_keeps u ctx code reason
    simp +decide [leaves_iff, hb.leaves, hp.leaves, LeavesHosts, LeavesRest, h]
@[simp] theorem leaves_releaseDevice {n addr code reason} (hps : within [.out, .limits, .rc, .pal, .margin, .own, .vis, .devices, .eps, .qps, .pcie,
      .ink] ps = true) :
    Leaves ps s (releaseDevice u n addr code reason) ↔ Leaves ps s u :=
  leaves_after hps <| by
    obtain ⟨hb, h⟩ := releaseDevice_keeps u n addr code reason
    simp +decide [leaves_iff, hb.leaves, LeavesPorts, LeavesHosts, LeavesRest, h]
@[simp] theorem leaves_pathGone {n ss reason} (hps : within [.out, .limits, .rc, .pal, .margin, .own, .vis, .devices, .eps, .nibs, .qps, .pcie,
      .ink, .cviews] ps = true) :
    Leaves ps s (pathGone u n ss reason) ↔ Leaves ps s u :=
  leaves_after hps <| by
    obtain ⟨hb, h⟩ := pathGone_keeps u n ss reason
    simp +decide [leaves_iff, hb.leaves, LeavesPorts, LeavesHosts, LeavesRest, h]
@[simp] theorem leaves_busGone {n reason} (hps : within [.out, .limits, .rc, .pal, .margin, .own, .vis, .devices, .eps, .nibs, .qps, .pcie, .ink,
      .cviews, .cports] ps = true) :
    Leaves ps s (busGone u n reason) ↔ Leaves ps s u :=
  leaves_after hps <| by
    obtain ⟨hb, h⟩ := busGone_keeps u n reason
    simp +decide [leaves_iff, hb.leaves, LeavesPorts, LeavesHosts, LeavesRest, h]

/-! #### Of Machine/Owners.lean -/

@[simp] theorem leaves_stampP4 {n e} (hps : within [.own] ps = true) : Leaves ps s (stampP4 u n e) ↔ Leaves ps s u :=
  leaves_after hps <| by
    obtain ⟨hb, hp, h⟩ := stampP4_keeps u n e
    simp +decide [leaves_iff, hb.leaves, hp.leaves, LeavesHosts, LeavesRest, h]
@[simp] theorem leaves_abandonSplit {ctx} (hps : within [.out, .rc, .eps, .nibs] ps = true) : Leaves ps s (abandonSplit u ctx) ↔ Leaves ps s u :=
  leaves_after hps <| by
    obtain ⟨hb, hp, h⟩ := abandonSplit_keeps u ctx
    simp +decide [leaves_iff, hb.leaves, hp.leaves, LeavesHosts, LeavesRest, h]

/-! #### Of Machine/Ports.lean -/

@[simp] theorem leaves_setPower {n f} (hps : within [.power] ps = true) : Leaves ps s (setPower u n f) ↔ Leaves ps s u :=
  leaves_after hps <| by
    obtain ⟨hb, hh, h⟩ := setPower_keeps u n f
    simp +decide [leaves_iff, hb.leaves, LeavesPorts, hh.leaves, LeavesRest, h]
@[simp] theorem leaves_setPd {n f} (hps : within [.pd] ps = true) : Leaves ps s (setPd u n f) ↔ Leaves ps s u :=
  leaves_after hps <| by
    obtain ⟨hb, hh, h⟩ := setPd_keeps u n f
    simp +decide [leaves_iff, hb.leaves, LeavesPorts, hh.leaves, LeavesRest, h]
@[simp] theorem leaves_pdState {n st} (hps : within [.pd] ps = true) : Leaves ps s (pdState u n st) ↔ Leaves ps s u :=
  leaves_after hps <| by
    obtain ⟨hb, hh, h⟩ := pdState_keeps u n st
    simp +decide [leaves_iff, hb.leaves, LeavesPorts, hh.leaves, LeavesRest, h]
@[simp] theorem leaves_presentRp {n} (hps : within [.pd] ps = true) : Leaves ps s (presentRp u n) ↔ Leaves ps s u :=
  leaves_after hps <| by
    obtain ⟨hb, hh, h⟩ := presentRp_keeps u n
    simp +decide [leaves_iff, hb.leaves, LeavesPorts, hh.leaves, LeavesRest, h]
@[simp] theorem leaves_kickOwn {n} (hps : within [.pd] ps = true) : Leaves ps s (kickOwn u n) ↔ Leaves ps s u :=
  leaves_after hps <| by
    obtain ⟨hb, hh, h⟩ := kickOwn_keeps u n
    simp +decide [leaves_iff, hb.leaves, LeavesPorts, hh.leaves, LeavesRest, h]
@[simp] theorem leaves_markCaps {n force} (hps : within [.pd] ps = true) : Leaves ps s (markCaps u n force) ↔ Leaves ps s u :=
  leaves_after hps <| by
    obtain ⟨hb, hh, h⟩ := markCaps_keeps u n force
    simp +decide [leaves_iff, hb.leaves, LeavesPorts, hh.leaves, LeavesRest, h]
@[simp] theorem leaves_markShare {n} (hps : within [.pd] ps = true) : Leaves ps s (markShare u n) ↔ Leaves ps s u :=
  leaves_after hps <| by
    obtain ⟨hb, hh, h⟩ := markShare_keeps u n
    simp +decide [leaves_iff, hb.leaves, LeavesPorts, hh.leaves, LeavesRest, h]
@[simp] theorem leaves_clearPd {n st} (hps : within [.pd] ps = true) : Leaves ps s (clearPd u n st) ↔ Leaves ps s u :=
  leaves_after hps <| by
    obtain ⟨hb, hh, h⟩ := clearPd_keeps u n st
    simp +decide [leaves_iff, hb.leaves, LeavesPorts, hh.leaves, LeavesRest, h]
@[simp] theorem leaves_vconnOff {n} (hps : within [.pd] ps = true) : Leaves ps s (vconnOff u n) ↔ Leaves ps s u :=
  leaves_after hps <| by
    obtain ⟨hb, hh, h⟩ := vconnOff_keeps u n
    simp +decide [leaves_iff, hb.leaves, LeavesPorts, hh.leaves, LeavesRest, h]
@[simp] theorem leaves_gateOff {n hard phase} (hps : within [.power] ps = true) : Leaves ps s (gateOff u n hard phase) ↔ Leaves ps s u :=
  leaves_after hps <| by
    obtain ⟨hb, hh, h⟩ := gateOff_keeps u n hard phase
    simp +decide [leaves_iff, hb.leaves, LeavesPorts, hh.leaves, LeavesRest, h]
@[simp] theorem leaves_converterOff {n} (hps : within [.power] ps = true) : Leaves ps s (converterOff u n) ↔ Leaves ps s u :=
  leaves_after hps <| by
    obtain ⟨hb, hh, h⟩ := converterOff_keeps u n
    simp +decide [leaves_iff, hb.leaves, LeavesPorts, hh.leaves, LeavesRest, h]
@[simp] theorem leaves_clearShed {n} (hps : within [.limits, .rc, .pal, .margin, .power] ps = true) : Leaves ps s (clearShed u n) ↔ Leaves ps s u :=
  leaves_after hps <| by
    obtain ⟨hb, hh, h⟩ := clearShed_keeps u n
    simp +decide [leaves_iff, hb.leaves, LeavesPorts, hh.leaves, LeavesRest, h]
@[simp] theorem leaves_applyIncrease {n} (hps : within [.limits, .rc, .pal, .margin, .power, .pd] ps = true) :
    Leaves ps s (applyIncrease u n) ↔ Leaves ps s u :=
  leaves_after hps <| by
    obtain ⟨hb, hh, h⟩ := applyIncrease_keeps u n
    simp +decide [leaves_iff, hb.leaves, LeavesPorts, hh.leaves, LeavesRest, h]
@[simp] theorem leaves_shedOff {n hard} (hps : within [.out, .limits, .rc, .pal, .margin, .power, .pd, .own, .vis, .devices, .eps, .nibs, .qps,
      .pcie, .ink, .cviews, .cports] ps = true) :
    Leaves ps s (shedOff u n hard) ↔ Leaves ps s u :=
  leaves_after hps <| by
    obtain ⟨hb, h⟩ := shedOff_keeps u n hard
    simp +decide [leaves_iff, hb.leaves, LeavesPorts, LeavesHosts, LeavesRest, h]
@[simp] theorem leaves_recomputeShares (hps : within [.out, .limits, .rc, .pal, .margin, .power, .pd, .own, .vis, .devices, .eps, .nibs, .qps,
      .pcie, .ink, .cviews, .cports] ps = true) :
    Leaves ps s (recomputeShares u) ↔ Leaves ps s u :=
  leaves_after hps <| by
    obtain ⟨hb, h⟩ := recomputeShares_keeps u
    simp +decide [leaves_iff, hb.leaves, LeavesPorts, LeavesHosts, LeavesRest, h]
@[simp] theorem leaves_errorRecovery {n} (hps : within [.out, .limits, .rc, .pal, .margin, .power, .pd, .own, .vis, .devices, .eps, .nibs, .qps,
      .pcie, .ink, .cvis, .cviews, .cports, .func] ps = true) :
    Leaves ps s (errorRecovery u n) ↔ Leaves ps s u :=
  leaves_after hps <| by
    obtain ⟨hb, h⟩ := errorRecovery_keeps u n
    simp +decide [leaves_iff, hb.leaves, LeavesPorts, LeavesHosts, LeavesRest, h]
@[simp] theorem leaves_startHardReset {n received} (hps : within [.out, .limits, .rc, .localEvents, .localLost, .pal, .margin, .power, .pd, .own,
      .vis, .devices, .eps, .nibs, .qps, .pcie, .ink, .cvis, .cviews, .cports, .func] ps = true) :
    Leaves ps s (startHardReset u n received) ↔ Leaves ps s u :=
  leaves_after hps <| by
    have h := startHardReset_keeps u n received
    simp +decide [leaves_iff, LeavesBoard, LeavesPorts, LeavesHosts, LeavesRest, h]
@[simp] theorem leaves_applyPortModes {hard reason} (hps : within [.out, .limits, .rc, .pal, .margin, .power, .pd, .own, .vis, .devices, .eps,
      .nibs, .qps, .pcie, .ink, .cvis, .cviews, .cports, .func] ps = true) :
    Leaves ps s (applyPortModes u hard reason) ↔ Leaves ps s u :=
  leaves_after hps <| by
    obtain ⟨hb, h⟩ := applyPortModes_keeps u hard reason
    simp +decide [leaves_iff, hb.leaves, LeavesPorts, LeavesHosts, LeavesRest, h]
@[simp] theorem leaves_ccFault {n} (hps : within [.out, .limits, .rc, .localEvents, .localLost, .pal, .margin, .power, .pd, .own, .vis, .devices,
      .eps, .nibs, .qps, .pcie, .ink, .cvis, .cviews, .cports, .func] ps = true) :
    Leaves ps s (ccFault u n) ↔ Leaves ps s u :=
  leaves_after hps <| by
    have h := ccFault_keeps u n
    simp +decide [leaves_iff, LeavesBoard, LeavesPorts, LeavesHosts, LeavesRest, h]
@[simp] theorem leaves_detachPower {n} (hps : within [.power] ps = true) : Leaves ps s (detachPower u n) ↔ Leaves ps s u :=
  leaves_after hps <| by
    obtain ⟨hb, hh, h⟩ := detachPower_keeps u n
    simp +decide [leaves_iff, hb.leaves, LeavesPorts, hh.leaves, LeavesRest, h]

/-! #### Of Machine/Board.lean -/

@[simp] theorem leaves_enterMode {m} (hps : within [.limits, .rc, .pal, .margin, .modes, .cvis] ps = true) : Leaves ps s (enterMode u m) ↔ Leaves ps s u :=
  leaves_after hps <| by
    obtain ⟨hb, hh, h⟩ := enterMode_keeps u m
    simp +decide [leaves_iff, hb.leaves, LeavesPorts, hh.leaves, LeavesRest, h]
@[simp] theorem leaves_followInput (hps : within [.modes] ps = true) : Leaves ps s (followInput u) ↔ Leaves ps s u :=
  leaves_after hps <| by
    obtain ⟨hb, hh, h⟩ := followInput_keeps u
    simp +decide [leaves_iff, hb.leaves, LeavesPorts, hh.leaves, LeavesRest, h]
@[simp] theorem leaves_refuseMode {code} (hps : within [.rc, .modes] ps = true) : Leaves ps s (refuseMode u code) ↔ Leaves ps s u :=
  leaves_after hps <| by
    obtain ⟨hb, hh, h⟩ := refuseMode_keeps u code
    simp +decide [leaves_iff, hb.leaves, LeavesPorts, hh.leaves, LeavesRest, h]
@[simp] theorem leaves_treeSuspend {n} (hps : within [.out, .eps, .nibs] ps = true) : Leaves ps s (treeSuspend u n) ↔ Leaves ps s u :=
  leaves_after hps <| by
    obtain ⟨hb, hp, h⟩ := treeSuspend_keeps u n
    simp +decide [leaves_iff, hb.leaves, hp.leaves, LeavesHosts, LeavesRest, h]
@[simp] theorem leaves_treeResume {n} (hps : within [.out, .nibs] ps = true) : Leaves ps s (treeResume u n) ↔ Leaves ps s u :=
  leaves_after hps <| by
    obtain ⟨hb, hp, h⟩ := treeResume_keeps u n
    simp +decide [leaves_iff, hb.leaves, hp.leaves, LeavesHosts, LeavesRest, h]
@[simp] theorem leaves_wakeSource (hps : within [.out, .limits, .rc, .pal, .margin, .modes, .nibs, .cvis] ps = true) :
    Leaves ps s (wakeSource u) ↔ Leaves ps s u :=
  leaves_after hps <| by
    obtain ⟨hb, h⟩ := wakeSource_keeps u
    simp +decide [leaves_iff, hb.leaves, LeavesPorts, LeavesHosts, LeavesRest, h]
@[simp] theorem leaves_faultReport {place cls sv n} (hps : within [.limits, .rc, .pal, .margin, .blot] ps = true) :
    Leaves ps s (faultReport u place cls sv n) ↔ Leaves ps s u :=
  leaves_after hps <| by
    obtain ⟨hb, hh, h⟩ := faultReport_keeps u place cls sv n
    simp +decide [leaves_iff, hb.leaves, LeavesPorts, hh.leaves, LeavesRest, h]
@[simp] theorem leaves_clusterFail {c cls place} (hps : within [.out, .limits, .rc, .pal, .margin, .clusters, .engines, .modes, .blot, .power, .pd,
      .own, .vis, .devices, .eps, .nibs, .qps, .pcie, .ink, .cvis, .cviews, .cports, .func] ps = true) :
    Leaves ps s (clusterFail u c cls place) ↔ Leaves ps s u :=
  leaves_after hps <| by
    have h := clusterFail_keeps u c cls place
    simp +decide [leaves_iff, LeavesBoard, LeavesPorts, LeavesHosts, LeavesRest, h]
@[simp] theorem leaves_passCause (hps : within [.blot] ps = true) : Leaves ps s (passCause u) ↔ Leaves ps s u :=
  leaves_after hps <| by
    obtain ⟨hb, hh, h⟩ := passCause_keeps u
    simp +decide [leaves_iff, hb.leaves, LeavesPorts, hh.leaves, LeavesRest, h]
@[simp] theorem leaves_shedPort {n} (hps : within [.out, .limits, .rc, .pal, .margin, .power, .pd, .own, .vis, .devices, .eps, .nibs, .qps, .pcie,
      .ink, .cviews, .cports] ps = true) :
    Leaves ps s (shedPort u n) ↔ Leaves ps s u :=
  leaves_after hps <| by
    obtain ⟨hb, h⟩ := shedPort_keeps u n
    simp +decide [leaves_iff, hb.leaves, LeavesPorts, LeavesHosts, LeavesRest, h]
@[simp] theorem leaves_brownoutSheds (hps : within [.out, .limits, .rc, .pal, .margin, .power, .pd, .own, .vis, .devices, .eps, .nibs, .qps, .pcie,
      .ink, .cviews, .cports] ps = true) :
    Leaves ps s (brownoutSheds u) ↔ Leaves ps s u :=
  leaves_after hps <| by
    obtain ⟨hb, h⟩ := brownoutSheds_keeps u
    simp +decide [leaves_iff, hb.leaves, LeavesPorts, LeavesHosts, LeavesRest, h]
@[simp] theorem leaves_enterBrownout (hps : within [.limits, .rc, .pal, .margin, .modes, .cvis] ps = true) : Leaves ps s (enterBrownout u) ↔ Leaves ps s u :=
  leaves_after hps <| by
    obtain ⟨hb, hh, h⟩ := enterBrownout_keeps u
    simp +decide [leaves_iff, hb.leaves, LeavesPorts, hh.leaves, LeavesRest, h]
@[simp] theorem leaves_leaveBrownout (hps : within [.out, .limits, .rc, .pal, .margin, .modes, .nibs, .cvis] ps = true) :
    Leaves ps s (leaveBrownout u) ↔ Leaves ps s u :=
  leaves_after hps <| by
    obtain ⟨hb, h⟩ := leaveBrownout_keeps u
    simp +decide [leaves_iff, hb.leaves, LeavesPorts, LeavesHosts, LeavesRest, h]
@[simp] theorem leaves_abandonImage (hps : within [.img] ps = true) : Leaves ps s (abandonImage u) ↔ Leaves ps s u :=
  leaves_after hps <| by
    obtain ⟨hp, hh, h⟩ := abandonImage_keeps u
    simp +decide [leaves_iff, LeavesBoard, hp.leaves, hh.leaves, LeavesRest, h]

/-! #### Of Machine/Nibs.lean -/

@[simp] theorem leaves_viewConnect {n ss} (hps : within [.cviews] ps = true) : Leaves ps s (viewConnect u n ss) ↔ Leaves ps s u :=
  leaves_after hps <| by
    obtain ⟨hb, hh, h⟩ := viewConnect_keeps u n ss
    simp +decide [leaves_iff, hb.leaves, LeavesPorts, hh.leaves, LeavesRest, h]
@[simp] theorem leaves_viewConnectBoth {n} (hps : within [.cviews, .func] ps = true) : Leaves ps s (viewConnectBoth u n) ↔ Leaves ps s u :=
  leaves_after hps <| by
    obtain ⟨hb, hh, h⟩ := viewConnectBoth_keeps u n
    simp +decide [leaves_iff, hb.leaves, LeavesPorts, hh.leaves, LeavesRest, h]
@[simp] theorem leaves_reset2 {n} (hps : within [.out, .nibs] ps = true) : Leaves ps s (reset2 u n) ↔ Leaves ps s u :=
  leaves_after hps <| by
    obtain ⟨hb, hp, h⟩ := reset2_keeps u n
    simp +decide [leaves_iff, hb.leaves, hp.leaves, LeavesHosts, LeavesRest, h]
@[simp] theorem leaves_resetS {n warm} (hps : within [.out, .nibs] ps = true) : Leaves ps s (resetS u n warm) ↔ Leaves ps s u :=
  leaves_after hps <| by
    obtain ⟨hb, hp, h⟩ := resetS_keeps u n warm
    simp +decide [leaves_iff, hb.leaves, hp.leaves, LeavesHosts, LeavesRest, h]
@[simp] theorem leaves_finishReset {n force} (hps : within [.out, .limits, .rc, .pal, .margin, .vis, .nibs, .qps, .pcie, .ink] ps = true) :
    Leaves ps s (finishReset u n force) ↔ Leaves ps s u :=
  leaves_after hps <| by
    obtain ⟨hb, hp, h⟩ := finishReset_keeps u n force
    simp +decide [leaves_iff, hb.leaves, hp.leaves, LeavesHosts, LeavesRest, h]
@[simp] theorem leaves_previewSend {n} (hps : within [.out] ps = true) : Leaves ps s (previewSend u n) ↔ Leaves ps s u :=
  leaves_after hps <| by
    obtain ⟨hb, hp, hh, h⟩ := previewSend_keeps u n
    simp +decide [leaves_iff, hb.leaves, hp.leaves, hh.leaves, LeavesRest, h]
@[simp] theorem leaves_endPreview {n result} (hps : within [.out, .limits, .rc, .pal, .margin, .vis, .nibs, .qps] ps = true) :
    Leaves ps s (endPreview u n result) ↔ Leaves ps s u :=
  leaves_after hps <| by
    obtain ⟨hb, hp, h⟩ := endPreview_keeps u n result
    simp +decide [leaves_iff, hb.leaves, hp.leaves, LeavesHosts, LeavesRest, h]

/-! #### Of Machine/OwnershipCmds.lean -/

@[simp] theorem leaves_ownAssign {p n value} (hps : within [.rc, .pal, .own] ps = true) : Leaves ps s (ownAssign u p n value) ↔ Leaves ps s u :=
  leaves_after hps <| by
    obtain ⟨hb, hp, h⟩ := ownAssign_keeps u p n value
    simp +decide [leaves_iff, hb.leaves, hp.leaves, LeavesHosts, LeavesRest, h]
@[simp] theorem leaves_settleOld {n} (hps : within [.out, .limits, .rc, .pal, .margin, .own, .vis, .eps, .nibs, .qps, .pcie, .ink, .ligs] ps = true) :
    Leaves ps s (settleOld u n) ↔ Leaves ps s u :=
  leaves_after hps <| by
    obtain ⟨hb, h⟩ := settleOld_keeps u n
    simp +decide [leaves_iff, hb.leaves, LeavesPorts, LeavesHosts, LeavesRest, h]
@[simp] theorem leaves_transition {n r} (hps : within [.out, .limits, .regs, .rc, .rubric, .pal, .margin, .power, .pd, .own, .vis, .devices, .eps,
      .nibs, .qps, .pcie, .ink, .cviews, .cports, .ligs, .func] ps = true) :
    Leaves ps s (transition u n r) ↔ Leaves ps s u :=
  leaves_after hps <| by
    have h := transition_keeps u n r
    simp +decide [leaves_iff, LeavesBoard, LeavesPorts, LeavesHosts, LeavesRest, h]
@[simp] theorem leaves_decidePort {n} (hps : within [.out, .limits, .regs, .rc, .rubric, .pal, .margin, .power, .pd, .own, .vis, .devices, .eps,
      .nibs, .qps, .pcie, .ink, .cviews, .cports, .ligs, .func] ps = true) :
    Leaves ps s (decidePort u n) ↔ Leaves ps s u :=
  leaves_after hps <| by
    have h := decidePort_keeps u n
    simp +decide [leaves_iff, LeavesBoard, LeavesPorts, LeavesHosts, LeavesRest, h]
@[simp] theorem leaves_decideNow (hps : within [.out, .limits, .regs, .rc, .rubric, .pal, .margin, .power, .pd, .own, .vis, .devices, .eps, .nibs,
      .qps, .pcie, .ink, .cviews, .cports, .ligs, .func] ps = true) :
    Leaves ps s (decideNow u) ↔ Leaves ps s u :=
  leaves_after hps <| by
    have h := decideNow_keeps u
    simp +decide [leaves_iff, LeavesBoard, LeavesPorts, LeavesHosts, LeavesRest, h]
@[simp] theorem leaves_completeHandover {n} (hps : within [.out, .limits, .rc, .pal, .margin, .own, .vis, .eps, .nibs, .qps, .pcie, .ink, .ligs] ps = true) :
    Leaves ps s (completeHandover u n) ↔ Leaves ps s u :=
  leaves_after hps <| by
    obtain ⟨hb, h⟩ := completeHandover_keeps u n
    simp +decide [leaves_iff, hb.leaves, LeavesPorts, LeavesHosts, LeavesRest, h]
@[simp] theorem leaves_keepOrphan {n} (hps : within [.out, .limits, .rc, .pal, .margin, .own, .eps, .nibs, .ink] ps = true) :
    Leaves ps s (keepOrphan u n) ↔ Leaves ps s u :=
  leaves_after hps <| by
    obtain ⟨hb, hp, h⟩ := keepOrphan_keeps u n
    simp +decide [leaves_iff, hb.leaves, hp.leaves, LeavesHosts, LeavesRest, h]
@[simp] theorem leaves_dropOrphan {n} (hps : within [.out, .limits, .rc, .pal, .margin, .power, .pd, .own, .vis, .devices, .eps, .nibs, .qps, .pcie,
      .ink, .cvis, .cviews, .cports, .func] ps = true) :
    Leaves ps s (dropOrphan u n) ↔ Leaves ps s u :=
  leaves_after hps <| by
    obtain ⟨hb, h⟩ := dropOrphan_keeps u n
    simp +decide [leaves_iff, hb.leaves, LeavesPorts, LeavesHosts, LeavesRest, h]
@[simp] theorem leaves_completeResetting {n ssFirst} (hps : within [.out, .limits, .rc, .pal, .margin, .power, .pd, .own, .vis, .devices, .eps,
      .nibs, .qps, .pcie, .ink, .cvis, .cviews, .cports, .ligs, .func] ps = true) :
    Leaves ps s (completeResetting u n ssFirst) ↔ Leaves ps s u :=
  leaves_after hps <| by
    obtain ⟨hb, h⟩ := completeResetting_keeps u n ssFirst
    simp +decide [leaves_iff, hb.leaves, LeavesPorts, LeavesHosts, LeavesRest, h]

/-! #### Of Machine/Timelines.lean -/

@[simp] theorem leaves_tlFreeRun {r} (hps : within [.limits, .rc, .pal, .margin, .timelines] ps = true) : Leaves ps s (tlFreeRun u r) ↔ Leaves ps s u :=
  leaves_after hps <| by
    obtain ⟨hp, hh, h⟩ := tlFreeRun_keeps u r
    simp +decide [leaves_iff, LeavesBoard, hp.leaves, hh.leaves, LeavesRest, h]

/-! #### Of Machine/Transfers.lean -/

@[simp] theorem leaves_askOut {ctx x} (hps : within [.out, .eps, .qps] ps = true) : Leaves ps s (askOut u ctx x) ↔ Leaves ps s u :=
  leaves_after hps <| by
    obtain ⟨hb, hp, h⟩ := askOut_keeps u ctx x
    simp +decide [leaves_iff, hb.leaves, hp.leaves, LeavesHosts, LeavesRest, h]
@[simp] theorem leaves_concludeXfer {ctx x code} (hps : within [.out, .limits, .rc, .pal, .margin, .vis, .eps, .nibs, .qps, .pcie, .ink] ps = true) :
    Leaves ps s (concludeXfer u ctx x code) ↔ Leaves ps s u :=
  leaves_after hps <| by
    obtain ⟨hb, hp, h⟩ := concludeXfer_keeps u ctx x code
    simp +decide [leaves_iff, hb.leaves, hp.leaves, LeavesHosts, LeavesRest, h]
@[simp] theorem leaves_claimRoom {ctx} (hps : within [.limits, .rc, .vis, .ink] ps = true) : Leaves ps s (claimRoom u ctx) ↔ Leaves ps s u :=
  leaves_after hps <| by
    obtain ⟨hb, hp, h⟩ := claimRoom_keeps u ctx
    simp +decide [leaves_iff, hb.leaves, hp.leaves, LeavesHosts, LeavesRest, h]
@[simp] theorem leaves_advance {ctx} (hps : within [.out, .freeCtr, .limits, .rc, .pal, .margin, .own, .vis, .eps, .nibs, .qps, .pcie, .ink] ps = true) :
    Leaves ps s (advance u ctx) ↔ Leaves ps s u :=
  leaves_after hps <| by
    obtain ⟨hb, h⟩ := advance_keeps u ctx
    simp +decide [leaves_iff, hb.leaves, LeavesPorts, LeavesHosts, LeavesRest, h]
@[simp] theorem leaves_pathDrained {owner} (hps : within [.ink] ps = true) : Leaves ps s (pathDrained u owner) ↔ Leaves ps s u :=
  leaves_after hps <| by
    obtain ⟨hb, hp, h⟩ := pathDrained_keeps u owner
    simp +decide [leaves_iff, hb.leaves, hp.leaves, LeavesHosts, LeavesRest, h]

/-! #### Of Machine/Vis.lean -/

@[simp] theorem leaves_writeViCtrl {p r value} (hps : within [.out, .limits, .regs, .rc, .pal, .margin, .own, .vis, .eps, .nibs, .qps, .pcie,
      .timelines, .ink] ps = true) :
    Leaves ps s (writeViCtrl u p r value) ↔ Leaves ps s u :=
  leaves_after hps <| by
    have h := writeViCtrl_keeps u p r value
    simp +decide [leaves_iff, LeavesBoard, LeavesPorts, LeavesHosts, LeavesRest, h]
@[simp] theorem leaves_renewLeases {r mask} (hps : within [.own] ps = true) : Leaves ps s (renewLeases u r mask).1 ↔ Leaves ps s u :=
  leaves_after hps <| by
    obtain ⟨hb, hp, h⟩ := renewLeases_keeps u r mask
    simp +decide [leaves_iff, hb.leaves, hp.leaves, LeavesHosts, LeavesRest, h]
@[simp] theorem leaves_doorbell {r off value} (hps : within [.out, .freeCtr, .limits, .rc, .pal, .margin, .modes, .own, .vis, .eps, .nibs, .qps,
      .pcie, .ink, .cvis] ps = true) :
    Leaves ps s (doorbell u r off value) ↔ Leaves ps s u :=
  leaves_after hps <| by
    obtain ⟨hb, h⟩ := doorbell_keeps u r off value
    simp +decide [leaves_iff, hb.leaves, LeavesPorts, LeavesHosts, LeavesRest, h]
@[simp] theorem leaves_enterUnreachable {r cause} (hps : within [.out, .limits, .rc, .pal, .margin, .own, .vis, .eps, .nibs, .qps, .pcie, .ink] ps = true) :
    Leaves ps s (enterUnreachable u r cause) ↔ Leaves ps s u :=
  leaves_after hps <| by
    obtain ⟨hb, hp⟩ := enterUnreachable_keeps u r cause
    simp +decide [leaves_iff, hb.leaves, hp.leaves, LeavesHosts, LeavesRest]
@[simp] theorem leaves_leaveUnreachable {r cause} (hps : within [.limits, .rc, .pal, .margin, .own, .vis, .eps] ps = true) :
    Leaves ps s (leaveUnreachable u r cause) ↔ Leaves ps s u :=
  leaves_after hps <| by
    obtain ⟨hb, hp, h⟩ := leaveUnreachable_keeps u r cause
    simp +decide [leaves_iff, hb.leaves, hp.leaves, LeavesHosts, LeavesRest, h]
@[simp] theorem leaves_freeSlot {q cause} (hps : within [.qps] ps = true) : Leaves ps s (freeSlot u q cause) ↔ Leaves ps s u :=
  leaves_after hps <| by
    obtain ⟨hb, hp, h⟩ := freeSlot_keeps u q cause
    simp +decide [leaves_iff, hb.leaves, hp.leaves, LeavesHosts, LeavesRest, h]
@[simp] theorem leaves_slotError {q cause} (hps : within [.limits, .regs, .rc, .pal, .margin, .own, .vis, .nibs, .qps, .ink, .cvis] ps = true) :
    Leaves ps s (slotError u q cause) ↔ Leaves ps s u :=
  leaves_after hps <| by
    obtain ⟨hb, h⟩ := slotError_keeps u q cause
    simp +decide [leaves_iff, hb.leaves, LeavesPorts, LeavesHosts, LeavesRest, h]
@[simp] theorem leaves_disconnectSlot {q cause} (hps : within [.limits, .regs, .rc, .pal, .margin, .own, .vis, .nibs, .qps, .ink, .cvis] ps = true) :
    Leaves ps s (disconnectSlot u q cause) ↔ Leaves ps s u :=
  leaves_after hps <| by
    obtain ⟨hb, h⟩ := disconnectSlot_keeps u q cause
    simp +decide [leaves_iff, hb.leaves, LeavesPorts, LeavesHosts, LeavesRest, h]

/-! #### Of Machine/Admission.lean -/

@[simp] theorem leaves_allocCtx (hps : within [.freeCtr] ps = true) : Leaves ps s (allocCtx u).1 ↔ Leaves ps s u :=
  leaves_after hps <| by
    obtain ⟨hb, hh, h⟩ := allocCtx_keeps u
    simp +decide [leaves_iff, hb.leaves, LeavesPorts, hh.leaves, LeavesRest, h]

/-! #### Of Machine/PalimpsestCmds.lean -/

@[simp] theorem leaves_palFreeze {p} (hps : within [.limits, .rc, .pal, .margin] ps = true) : Leaves ps s (palFreeze u p) ↔ Leaves ps s u :=
  leaves_after hps <| by
    obtain ⟨hb, hp, hh, h⟩ := palFreeze_keeps u p
    simp +decide [leaves_iff, hb.leaves, hp.leaves, hh.leaves, LeavesRest, h]
@[simp] theorem leaves_palUnfreeze {p} (hps : within [.limits, .rc, .pal, .margin] ps = true) : Leaves ps s (palUnfreeze u p) ↔ Leaves ps s u :=
  leaves_after hps <| by
    obtain ⟨hb, hp, hh, h⟩ := palUnfreeze_keeps u p
    simp +decide [leaves_iff, hb.leaves, hp.leaves, hh.leaves, LeavesRest, h]
@[simp] theorem leaves_palVerify (hps : within [.pal] ps = true) : Leaves ps s (palVerify u) ↔ Leaves ps s u :=
  leaves_after hps <| by
    obtain ⟨hb, hp, hh, h⟩ := palVerify_keeps u
    simp +decide [leaves_iff, hb.leaves, hp.leaves, hh.leaves, LeavesRest, h]
@[simp] theorem leaves_startLoad (hps : within [.pal] ps = true) : Leaves ps s (startLoad u) ↔ Leaves ps s u :=
  leaves_after hps <| by
    obtain ⟨hb, hp, hh, h⟩ := startLoad_keeps u
    simp +decide [leaves_iff, hb.leaves, hp.leaves, hh.leaves, LeavesRest, h]
@[simp] theorem leaves_palNext (hps : within [.regs, .pal] ps = true) : Leaves ps s (palNext u) ↔ Leaves ps s u :=
  leaves_after hps <| by
    obtain ⟨hb, hh, h⟩ := palNext_keeps u
    simp +decide [leaves_iff, hb.leaves, LeavesPorts, hh.leaves, LeavesRest, h]
@[simp] theorem leaves_palPrev (hps : within [.regs, .pal] ps = true) : Leaves ps s (palPrev u) ↔ Leaves ps s u :=
  leaves_after hps <| by
    obtain ⟨hb, hh, h⟩ := palPrev_keeps u
    simp +decide [leaves_iff, hb.leaves, LeavesPorts, hh.leaves, LeavesRest, h]

/-! #### Of Machine/InputCmds.lean -/

@[simp] theorem leaves_setInput {f} (hps : within [.input] ps = true) : Leaves ps s (setInput u f) ↔ Leaves ps s u :=
  leaves_after hps <| by
    obtain ⟨hp, hh, h⟩ := setInput_keeps u f
    simp +decide [leaves_iff, LeavesBoard, hp.leaves, hh.leaves, LeavesRest, h]
@[simp] theorem leaves_powerEvent {lo} (hps : within [.rc] ps = true) : Leaves ps s (powerEvent u lo) ↔ Leaves ps s u :=
  leaves_after hps <| by
    obtain ⟨hb, hp, hh, h⟩ := powerEvent_keeps u lo
    simp +decide [leaves_iff, hb.leaves, hp.leaves, hh.leaves, LeavesRest, h]
@[simp] theorem leaves_startInrush {vin} (hps : within [.modes, .input] ps = true) : Leaves ps s (startInrush u vin) ↔ Leaves ps s u :=
  leaves_after hps <| by
    obtain ⟨hh, h⟩ := startInrush_keeps u vin
    simp +decide [leaves_iff, LeavesBoard, LeavesPorts, hh.leaves, LeavesRest, h]
@[simp] theorem leaves_reseat (hps : within [.modes, .input] ps = true) : Leaves ps s (reseat u) ↔ Leaves ps s u :=
  leaves_after hps <| by
    obtain ⟨hh, h⟩ := reseat_keeps u
    simp +decide [leaves_iff, LeavesBoard, LeavesPorts, hh.leaves, LeavesRest, h]
@[simp] theorem leaves_loseInput {cause} (hps : within [.out, .limits, .rc, .localEvents, .localLost, .pal, .margin, .modes, .img, .input, .power,
      .pd, .own, .vis, .devices, .eps, .nibs, .qps, .pcie, .ink, .cvis, .cviews, .cports, .func] ps = true) :
    Leaves ps s (loseInput u cause) ↔ Leaves ps s u :=
  leaves_after hps <| by
    have h := loseInput_keeps u cause
    simp +decide [leaves_iff, LeavesBoard, LeavesPorts, LeavesHosts, LeavesRest, h]
@[simp] theorem leaves_tripInput {cause} (hps : within [.out, .limits, .rc, .localEvents, .localLost, .pal, .margin, .modes, .img, .input, .power,
      .pd, .own, .vis, .devices, .eps, .nibs, .qps, .pcie, .ink, .cvis, .cviews, .cports, .func] ps = true) :
    Leaves ps s (tripInput u cause) ↔ Leaves ps s u :=
  leaves_after hps <| by
    have h := tripInput_keeps u cause
    simp +decide [leaves_iff, LeavesBoard, LeavesPorts, LeavesHosts, LeavesRest, h]
@[simp] theorem leaves_heatCause (hps : within [.blot] ps = true) : Leaves ps s (heatCause u) ↔ Leaves ps s u :=
  leaves_after hps <| by
    obtain ⟨hb, hh, h⟩ := heatCause_keeps u
    simp +decide [leaves_iff, hb.leaves, LeavesPorts, hh.leaves, LeavesRest, h]
@[simp] theorem leaves_collapseReservoir (hps : within [.regs, .localEvents, .localLost, .modes, .blot, .input, .vauxOk, .power] ps = true) :
    Leaves ps s (collapseReservoir u) ↔ Leaves ps s u :=
  leaves_after hps <| by
    obtain ⟨hh, h⟩ := collapseReservoir_keeps u
    simp +decide [leaves_iff, LeavesBoard, LeavesPorts, hh.leaves, LeavesRest, h]
@[simp] theorem leaves_inputClear (hps : within [.modes, .input] ps = true) : Leaves ps s (inputClear u) ↔ Leaves ps s u :=
  leaves_after hps <| by
    obtain ⟨hh, h⟩ := inputClear_keeps u
    simp +decide [leaves_iff, LeavesBoard, LeavesPorts, hh.leaves, LeavesRest, h]
@[simp] theorem leaves_inputFetClear (hps : within [.input] ps = true) : Leaves ps s (inputFetClear u) ↔ Leaves ps s u :=
  leaves_after hps <| by
    obtain ⟨hp, hh, h⟩ := inputFetClear_keeps u
    simp +decide [leaves_iff, LeavesBoard, hp.leaves, hh.leaves, LeavesRest, h]
@[simp] theorem leaves_flushAfterSheds (hps : within [.rc, .pal] ps = true) : Leaves ps s (flushAfterSheds u) ↔ Leaves ps s u :=
  leaves_after hps <| by
    obtain ⟨hb, hp, hh, h⟩ := flushAfterSheds_keeps u
    simp +decide [leaves_iff, hb.leaves, hp.leaves, hh.leaves, LeavesRest, h]

/-! #### Of Machine/PathCmds.lean -/

@[simp] theorem leaves_gateDrive {n} (hps : within [.power, .pd] ps = true) : Leaves ps s (gateDrive u n) ↔ Leaves ps s u :=
  leaves_after hps <| by
    obtain ⟨hb, hh, h⟩ := gateDrive_keeps u n
    simp +decide [leaves_iff, hb.leaves, LeavesPorts, hh.leaves, LeavesRest, h]
@[simp] theorem leaves_summed {ch q x} (hps : within [.pal] ps = true) : Leaves ps s (summed u ch q x) ↔ Leaves ps s u :=
  leaves_after hps <| by
    obtain ⟨hb, hp, hh, h⟩ := summed_keeps u ch q x
    simp +decide [leaves_iff, hb.leaves, hp.leaves, hh.leaves, LeavesRest, h]
@[simp] theorem leaves_samplePort {n i vbus isp mid} (hps : within [.pal, .power, .pd] ps = true) :
    Leaves ps s (samplePort u n i vbus isp mid) ↔ Leaves ps s u :=
  leaves_after hps <| by
    obtain ⟨hb, hh, h⟩ := samplePort_keeps u n i vbus isp mid
    simp +decide [leaves_iff, hb.leaves, LeavesPorts, hh.leaves, LeavesRest, h]
@[simp] theorem leaves_tripPath {n cause place} (hps : within [.out, .limits, .rc, .localEvents, .localLost, .pal, .margin, .power, .pd, .own, .vis,
      .devices, .eps, .nibs, .qps, .pcie, .ink, .cviews, .cports] ps = true) :
    Leaves ps s (tripPath u n cause place) ↔ Leaves ps s u :=
  leaves_after hps <| by
    have h := tripPath_keeps u n cause place
    simp +decide [leaves_iff, LeavesBoard, LeavesPorts, LeavesHosts, LeavesRest, h]
@[simp] theorem leaves_takeTemp {n temp direct} (hps : within [.out, .limits, .rc, .localEvents, .localLost, .pal, .margin, .power, .pd, .own, .vis,
      .devices, .eps, .nibs, .qps, .pcie, .ink, .cviews, .cports] ps = true) :
    Leaves ps s (takeTemp u n temp direct) ↔ Leaves ps s u :=
  leaves_after hps <| by
    have h := takeTemp_keeps u n temp direct
    simp +decide [leaves_iff, LeavesBoard, LeavesPorts, LeavesHosts, LeavesRest, h]
@[simp] theorem leaves_portFetFault {n} (hps : within [.out, .limits, .rc, .localEvents, .localLost, .pal, .margin, .modes, .blot, .power, .pd,
      .own, .vis, .devices, .eps, .nibs, .qps, .pcie, .ink, .cvis, .cviews, .cports] ps = true) :
    Leaves ps s (portFetFault u n) ↔ Leaves ps s u :=
  leaves_after hps <| by
    have h := portFetFault_keeps u n
    simp +decide [leaves_iff, LeavesBoard, LeavesPorts, LeavesHosts, LeavesRest, h]
@[simp] theorem leaves_inputFetFault (hps : within [.out, .freeCtr, .limits, .rc, .localEvents, .localLost, .pal, .margin, .modes, .blot, .input,
      .power, .pd, .own, .vis, .devices, .eps, .nibs, .qps, .pcie, .ink, .cvis, .cviews, .cports] ps = true) :
    Leaves ps s (inputFetFault u) ↔ Leaves ps s u :=
  leaves_after hps <| by
    have h := inputFetFault_keeps u
    simp +decide [leaves_iff, LeavesBoard, LeavesPorts, LeavesHosts, LeavesRest, h]
@[simp] theorem leaves_portFetClear {n} (hps : within [.power] ps = true) : Leaves ps s (portFetClear u n) ↔ Leaves ps s u :=
  leaves_after hps <| by
    obtain ⟨hb, hh, h⟩ := portFetClear_keeps u n
    simp +decide [leaves_iff, hb.leaves, LeavesPorts, hh.leaves, LeavesRest, h]
@[simp] theorem leaves_fetClearFails {n} (hps : within [.power] ps = true) : Leaves ps s (fetClearFails u n) ↔ Leaves ps s u :=
  leaves_after hps <| by
    obtain ⟨hb, hh, h⟩ := fetClearFails_keeps u n
    simp +decide [leaves_iff, hb.leaves, LeavesPorts, hh.leaves, LeavesRest, h]
@[simp] theorem leaves_restorePath {n} (hps : within [.power, .pd, .cviews] ps = true) : Leaves ps s (restorePath u n) ↔ Leaves ps s u :=
  leaves_after hps <| by
    obtain ⟨hb, hh, h⟩ := restorePath_keeps u n
    simp +decide [leaves_iff, hb.leaves, LeavesPorts, hh.leaves, LeavesRest, h]
@[simp] theorem leaves_portClearLatch {n} (hps : within [.out, .limits, .rc, .pal, .margin, .power, .pd, .own, .vis, .devices, .eps, .nibs, .qps,
      .pcie, .ink, .cviews, .cports] ps = true) :
    Leaves ps s (portClearLatch u n) ↔ Leaves ps s u :=
  leaves_after hps <| by
    obtain ⟨hb, h⟩ := portClearLatch_keeps u n
    simp +decide [leaves_iff, hb.leaves, LeavesPorts, LeavesHosts, LeavesRest, h]

/-! #### Of Machine/RingCmds.lean -/

@[simp] theorem leaves_applyBlock {r bytes} (hps : within [.out, .limits, .regs, .rc, .pal, .margin, .own, .vis, .eps, .nibs, .qps, .pcie,
      .timelines, .ink] ps = true) :
    Leaves ps s (applyBlock u r bytes) ↔ Leaves ps s u :=
  leaves_after hps <| by
    have h := applyBlock_keeps u r bytes
    simp +decide [leaves_iff, LeavesBoard, LeavesPorts, LeavesHosts, LeavesRest, h]
@[simp] theorem leaves_refuseRequest {q nak cause} (hps : within [.out, .limits, .regs, .rc, .pal, .margin, .own, .vis, .nibs, .qps, .ink, .cvis] ps = true) :
    Leaves ps s (refuseRequest u q nak cause) ↔ Leaves ps s u :=
  leaves_after hps <| by
    obtain ⟨hb, h⟩ := refuseRequest_keeps u q nak cause
    simp +decide [leaves_iff, hb.leaves, LeavesPorts, LeavesHosts, LeavesRest, h]
@[simp] theorem leaves_fetchComplete {r ring entries failed} (hps : within [.out, .freeCtr, .limits, .rc, .pal, .margin, .modes, .own, .vis, .eps,
      .nibs, .qps, .pcie, .ink, .cvis] ps = true) :
    Leaves ps s (fetchComplete u r ring entries failed) ↔ Leaves ps s u :=
  leaves_after hps <| by
    obtain ⟨hb, h⟩ := fetchComplete_keeps u r ring entries failed
    simp +decide [leaves_iff, hb.leaves, LeavesPorts, LeavesHosts, LeavesRest, h]

/-! #### Of Machine/StrokeCmds.lean -/

@[simp] theorem leaves_timeSample (hps : within [.disc] ps = true) : Leaves ps s (timeSample u) ↔ Leaves ps s u :=
  leaves_after hps <| by
    obtain ⟨hp, hh, h⟩ := timeSample_keeps u
    simp +decide [leaves_iff, LeavesBoard, hp.leaves, hh.leaves, LeavesRest, h]
@[simp] theorem leaves_setCluster {c f} (hps : within [.clusters] ps = true) : Leaves ps s (setCluster u c f) ↔ Leaves ps s u :=
  leaves_after hps <| by
    obtain ⟨hp, hh, h⟩ := setCluster_keeps u c f
    simp +decide [leaves_iff, LeavesBoard, hp.leaves, hh.leaves, LeavesRest, h]
@[simp] theorem leaves_setEngine {e f} (hps : within [.engines] ps = true) : Leaves ps s (setEngine u e f) ↔ Leaves ps s u :=
  leaves_after hps <| by
    obtain ⟨hp, hh, h⟩ := setEngine_keeps u e f
    simp +decide [leaves_iff, LeavesBoard, hp.leaves, hh.leaves, LeavesRest, h]
@[simp] theorem leaves_loopEngine {c slack k need} (hps : within [.engines] ps = true) : Leaves ps s (loopEngine c slack u k need) ↔ Leaves ps s u :=
  leaves_after hps <| by
    obtain ⟨hp, hh, h⟩ := loopEngine_keeps c slack u k need
    simp +decide [leaves_iff, LeavesBoard, hp.leaves, hh.leaves, LeavesRest, h]
@[simp] theorem leaves_setRegionTemp {q temp} (hps : within [.regionTemp] ps = true) : Leaves ps s (setRegionTemp u q temp) ↔ Leaves ps s u :=
  leaves_after hps <| by
    obtain ⟨hp, hh, h⟩ := setRegionTemp_keeps u q temp
    simp +decide [leaves_iff, LeavesBoard, hp.leaves, hh.leaves, LeavesRest, h]

/-! #### Of Machine/Transport.lean -/

@[simp] theorem leaves_viBindWrite {p r value} (hps : within [.out, .limits, .regs, .rc, .rubric, .pal, .margin, .own, .vis, .nibs, .qps,
      .timelines, .ink, .cvis] ps = true) :
    Leaves ps s (viBindWrite u p r value) ↔ Leaves ps s u :=
  leaves_after hps <| by
    have h := viBindWrite_keeps u p r value
    simp +decide [leaves_iff, LeavesBoard, LeavesPorts, LeavesHosts, LeavesRest, h]
@[simp] theorem leaves_setPcie {f} (hps : within [.pcie] ps = true) : Leaves ps s (setPcie u f) ↔ Leaves ps s u :=
  leaves_after hps <| by
    obtain ⟨hb, hp, hh, h⟩ := setPcie_keeps u f
    simp +decide [leaves_iff, hb.leaves, hp.leaves, hh.leaves, LeavesRest, h]
@[simp] theorem leaves_resetFn {f} (hps : within [.pcie] ps = true) : Leaves ps s (resetFn u f) ↔ Leaves ps s u :=
  leaves_after hps <| by
    obtain ⟨hb, hp, hh, h⟩ := resetFn_keeps u f
    simp +decide [leaves_iff, hb.leaves, hp.leaves, hh.leaves, LeavesRest, h]
@[simp] theorem leaves_fnLost {f} (hps : within [.limits, .regs, .rc, .pal, .margin, .own, .vis, .nibs, .ink, .cvis] ps = true) :
    Leaves ps s (fnLost u f) ↔ Leaves ps s u :=
  leaves_after hps <| by
    obtain ⟨hb, h⟩ := fnLost_keeps u f
    simp +decide [leaves_iff, hb.leaves, LeavesPorts, LeavesHosts, LeavesRest, h]
@[simp] theorem leaves_vfsLost {k} (hps : within [.limits, .regs, .rc, .pal, .margin, .own, .vis, .nibs, .ink, .cvis] ps = true) :
    Leaves ps s (vfsLost u k) ↔ Leaves ps s u :=
  leaves_after hps <| by
    obtain ⟨hb, h⟩ := vfsLost_keeps u k
    simp +decide [leaves_iff, hb.leaves, LeavesPorts, LeavesHosts, LeavesRest, h]
@[simp] theorem leaves_trustRestored (hps : within [.regs, .rubric, .trustBySpi] ps = true) : Leaves ps s (trustRestored u) ↔ Leaves ps s u :=
  leaves_after hps <| by
    obtain ⟨hh, h⟩ := trustRestored_keeps u
    simp +decide [leaves_iff, LeavesBoard, LeavesPorts, hh.leaves, LeavesRest, h]
@[simp] theorem leaves_fnHome {f} (hps : within [.own] ps = true) : Leaves ps s (fnHome u f) ↔ Leaves ps s u :=
  leaves_after hps <| by
    obtain ⟨hb, hp, h⟩ := fnHome_keeps u f
    simp +decide [leaves_iff, hb.leaves, hp.leaves, LeavesHosts, LeavesRest, h]
@[simp] theorem leaves_pcieDown (hps : within [.limits, .regs, .rc, .pal, .margin, .own, .vis, .nibs, .pcie, .ink, .cvis] ps = true) :
    Leaves ps s (pcieDown u) ↔ Leaves ps s u :=
  leaves_after hps <| by
    obtain ⟨hb, h⟩ := pcieDown_keeps u
    simp +decide [leaves_iff, hb.leaves, LeavesPorts, LeavesHosts, LeavesRest, h]
@[simp] theorem leaves_clockUpdate {kind ownerNs m phase} (hps : within [.limits, .rc, .pal, .margin, .timelines] ps = true) :
    Leaves ps s (clockUpdate u kind ownerNs m phase) ↔ Leaves ps s u :=
  leaves_after hps <| by
    obtain ⟨hp, hh, h⟩ := clockUpdate_keeps u kind ownerNs m phase
    simp +decide [leaves_iff, LeavesBoard, hp.leaves, hh.leaves, LeavesRest, h]
@[simp] theorem leaves_clockLost {kind} (hps : within [.limits, .rc, .pal, .margin, .timelines] ps = true) : Leaves ps s (clockLost u kind) ↔ Leaves ps s u :=
  leaves_after hps <| by
    obtain ⟨hp, hh, h⟩ := clockLost_keeps u kind
    simp +decide [leaves_iff, LeavesBoard, hp.leaves, hh.leaves, LeavesRest, h]
@[simp] theorem leaves_setEth {b f} (hps : within [.eth] ps = true) : Leaves ps s (setEth u b f) ↔ Leaves ps s u :=
  leaves_after hps <| by
    obtain ⟨hp, hh, h⟩ := setEth_keeps u b f
    simp +decide [leaves_iff, LeavesBoard, hp.leaves, hh.leaves, LeavesRest, h]
@[simp] theorem leaves_lanChange {b up} (hps : within [.limits, .rc, .pal, .margin, .eth] ps = true) : Leaves ps s (lanChange u b up) ↔ Leaves ps s u :=
  leaves_after hps <| by
    obtain ⟨hp, hh, h⟩ := lanChange_keeps u b up
    simp +decide [leaves_iff, LeavesBoard, hp.leaves, hh.leaves, LeavesRest, h]
@[simp] theorem leaves_lanHeard {b} (hps : within [.limits, .rc, .pal, .margin, .eth] ps = true) : Leaves ps s (lanHeard u b) ↔ Leaves ps s u :=
  leaves_after hps <| by
    obtain ⟨hp, hh, h⟩ := lanHeard_keeps u b
    simp +decide [leaves_iff, LeavesBoard, hp.leaves, hh.leaves, LeavesRest, h]
@[simp] theorem leaves_deliverFrame {b f} (hps : within [.out, .qps, .eth] ps = true) : Leaves ps s (deliverFrame u b f) ↔ Leaves ps s u :=
  leaves_after hps <| by
    obtain ⟨hp, h⟩ := deliverFrame_keeps u b f
    simp +decide [leaves_iff, LeavesBoard, hp.leaves, LeavesHosts, LeavesRest, h]
@[simp] theorem leaves_dupEnter {mac seqno} (hps : within [.rc, .prp] ps = true) : Leaves ps s (dupEnter u mac seqno) ↔ Leaves ps s u :=
  leaves_after hps <| by
    obtain ⟨hp, hh, h⟩ := dupEnter_keeps u mac seqno
    simp +decide [leaves_iff, LeavesBoard, hp.leaves, hh.leaves, LeavesRest, h]
@[simp] theorem leaves_acceptReq {portB r} (hps : within [.out, .freeCtr, .qps] ps = true) : Leaves ps s (acceptReq u portB r) ↔ Leaves ps s u :=
  leaves_after hps <| by
    obtain ⟨hb, h⟩ := acceptReq_keeps u portB r
    simp +decide [leaves_iff, hb.leaves, LeavesPorts, LeavesHosts, LeavesRest, h]
@[simp] theorem leaves_bindSlot {q} (hps : within [.limits, .rc, .pal, .margin, .own, .vis, .eps, .qps] ps = true) :
    Leaves ps s (bindSlot u q) ↔ Leaves ps s u :=
  leaves_after hps <| by
    obtain ⟨hb, hp, h⟩ := bindSlot_keeps u q
    simp +decide [leaves_iff, hb.leaves, hp.leaves, LeavesHosts, LeavesRest, h]
@[simp] theorem leaves_qpReset {q} (hps : within [.limits, .regs, .rc, .pal, .margin, .own, .vis, .nibs, .qps, .ink, .cvis] ps = true) :
    Leaves ps s (qpReset u q) ↔ Leaves ps s u :=
  leaves_after hps <| by
    obtain ⟨hb, h⟩ := qpReset_keeps u q
    simp +decide [leaves_iff, hb.leaves, LeavesPorts, LeavesHosts, LeavesRest, h]
@[simp] theorem leaves_discSync {timeNs i} (hps : within [.limits, .rc, .pal, .margin, .disc] ps = true) :
    Leaves ps s (discSync u timeNs i) ↔ Leaves ps s u :=
  leaves_after hps <| by
    obtain ⟨hp, hh, h⟩ := discSync_keeps u timeNs i
    simp +decide [leaves_iff, LeavesBoard, hp.leaves, hh.leaves, LeavesRest, h]
@[simp] theorem leaves_ptpUnlock (hps : within [.limits, .rc, .pal, .margin, .disc, .ptp, .timelines] ps = true) :
    Leaves ps s (ptpUnlock u) ↔ Leaves ps s u :=
  leaves_after hps <| by
    obtain ⟨hp, hh, h⟩ := ptpUnlock_keeps u
    simp +decide [leaves_iff, LeavesBoard, hp.leaves, hh.leaves, LeavesRest, h]

/-! #### Of Machine/FaultCmds.lean -/

@[simp] theorem leaves_eccCorrected {site} (hps : within [.limits, .rc, .pal, .margin, .blot] ps = true) :
    Leaves ps s (eccCorrected u site) ↔ Leaves ps s u :=
  leaves_after hps <| by
    obtain ⟨hb, hh, h⟩ := eccCorrected_keeps u site
    simp +decide [leaves_iff, hb.leaves, LeavesPorts, hh.leaves, LeavesRest, h]
@[simp] theorem leaves_engineRestart {e} (hps : within [.out, .limits, .rc, .pal, .margin, .clusters, .engines, .vis, .eps, .nibs, .qps, .pcie,
      .ink] ps = true) :
    Leaves ps s (engineRestart u e) ↔ Leaves ps s u :=
  leaves_after hps <| by
    obtain ⟨hp, h⟩ := engineRestart_keeps u e
    simp +decide [leaves_iff, LeavesBoard, hp.leaves, LeavesHosts, LeavesRest, h]
@[simp] theorem leaves_contain {a0} (hps : within [.out, .limits, .regs, .rc, .pal, .margin, .clusters, .engines, .modes, .blot, .power, .pd, .own,
      .vis, .devices, .eps, .nibs, .qps, .prp, .pcie, .timelines, .ink, .cvis, .cviews, .cports, .ligs, .func] ps = true) :
    Leaves ps s (contain u a0) ↔ Leaves ps s u :=
  leaves_after hps <| by
    have h := contain_keeps u a0
    simp +decide [leaves_iff, LeavesBoard, LeavesPorts, LeavesHosts, LeavesRest, h]
@[simp] theorem leaves_holdRegion {q on} (hps : within [.clusters] ps = true) : Leaves ps s (holdRegion u q on) ↔ Leaves ps s u :=
  leaves_after hps <| by
    obtain ⟨hp, hh, h⟩ := holdRegion_keeps u q on
    simp +decide [leaves_iff, LeavesBoard, hp.leaves, hh.leaves, LeavesRest, h]
@[simp] theorem leaves_regionHot {q hot} (hps : within [.out, .limits, .rc, .pal, .margin, .clusters, .modes, .blot, .power, .pd, .own, .vis,
      .devices, .eps, .nibs, .qps, .pcie, .ink, .cvis, .cviews, .cports] ps = true) :
    Leaves ps s (regionHot u q hot) ↔ Leaves ps s u :=
  leaves_after hps <| by
    have h := regionHot_keeps u q hot
    simp +decide [leaves_iff, LeavesBoard, LeavesPorts, LeavesHosts, LeavesRest, h]
@[simp] theorem leaves_reservoirHot (hps : within [.out, .limits, .rc, .pal, .margin, .modes, .blot, .power, .pd, .own, .vis, .devices, .eps, .nibs,
      .qps, .pcie, .ink, .cvis, .cviews, .cports] ps = true) :
    Leaves ps s (reservoirHot u) ↔ Leaves ps s u :=
  leaves_after hps <| by
    obtain ⟨hb, h⟩ := reservoirHot_keeps u
    simp +decide [leaves_iff, hb.leaves, LeavesPorts, LeavesHosts, LeavesRest, h]
@[simp] theorem leaves_quarExit (hps : within [.out, .limits, .rc, .pal, .margin, .modes, .blot, .power, .pd, .own, .vis, .devices, .eps, .nibs,
      .qps, .pcie, .ink, .cvis, .cviews, .cports] ps = true) :
    Leaves ps s (quarExit u) ↔ Leaves ps s u :=
  leaves_after hps <| by
    obtain ⟨hb, h⟩ := quarExit_keeps u
    simp +decide [leaves_iff, hb.leaves, LeavesPorts, LeavesHosts, LeavesRest, h]
@[simp] theorem leaves_advanceFloor (hps : within [.sealUnit] ps = true) : Leaves ps s (advanceFloor u) ↔ Leaves ps s u :=
  leaves_after hps <| by
    obtain ⟨hp, hh, h⟩ := advanceFloor_keeps u
    simp +decide [leaves_iff, LeavesBoard, hp.leaves, hh.leaves, LeavesRest, h]
@[simp] theorem leaves_returnArm (hps : within [.sealUnit] ps = true) : Leaves ps s (returnArm u) ↔ Leaves ps s u :=
  leaves_after hps <| by
    obtain ⟨hp, hh, h⟩ := returnArm_keeps u
    simp +decide [leaves_iff, LeavesBoard, hp.leaves, hh.leaves, LeavesRest, h]
@[simp] theorem leaves_returnDisarm (hps : within [.sealUnit] ps = true) : Leaves ps s (returnDisarm u) ↔ Leaves ps s u :=
  leaves_after hps <| by
    obtain ⟨hp, hh, h⟩ := returnDisarm_keeps u
    simp +decide [leaves_iff, LeavesBoard, hp.leaves, hh.leaves, LeavesRest, h]
@[simp] theorem leaves_setSeal {f} (hps : within [.sealUnit] ps = true) : Leaves ps s (setSeal u f) ↔ Leaves ps s u :=
  leaves_after hps <| by
    obtain ⟨hp, hh, h⟩ := setSeal_keeps u f
    simp +decide [leaves_iff, LeavesBoard, hp.leaves, hh.leaves, LeavesRest, h]
@[simp] theorem leaves_keyLoad {r} (hps : within [.sealUnit] ps = true) : Leaves ps s (keyLoad u r) ↔ Leaves ps s u :=
  leaves_after hps <| by
    obtain ⟨hp, hh, h⟩ := keyLoad_keeps u r
    simp +decide [leaves_iff, LeavesBoard, hp.leaves, hh.leaves, LeavesRest, h]
@[simp] theorem leaves_keyWithdraw {r} (hps : within [.sealUnit] ps = true) : Leaves ps s (keyWithdraw u r) ↔ Leaves ps s u :=
  leaves_after hps <| by
    obtain ⟨hp, hh, h⟩ := keyWithdraw_keeps u r
    simp +decide [leaves_iff, LeavesBoard, hp.leaves, hh.leaves, LeavesRest, h]
@[simp] theorem leaves_fuseOwner (hps : within [.sealUnit] ps = true) : Leaves ps s (fuseOwner u) ↔ Leaves ps s u :=
  leaves_after hps <| by
    obtain ⟨hp, hh, h⟩ := fuseOwner_keeps u
    simp +decide [leaves_iff, LeavesBoard, hp.leaves, hh.leaves, LeavesRest, h]
@[simp] theorem leaves_writeKeySector {k} (hps : within [.nor] ps = true) : Leaves ps s (writeKeySector u k) ↔ Leaves ps s u :=
  leaves_after hps <| by
    obtain ⟨hp, hh, h⟩ := writeKeySector_keeps u k
    simp +decide [leaves_iff, LeavesBoard, hp.leaves, hh.leaves, LeavesRest, h]
@[simp] theorem leaves_keysCommitted {op} (hps : within [.out, .limits, .regs, .rc, .pal, .margin, .nor, .sealUnit, .own, .vis, .nibs, .qps, .ink,
      .cvis] ps = true) :
    Leaves ps s (keysCommitted u op) ↔ Leaves ps s u :=
  leaves_after hps <| by
    have h := keysCommitted_keeps u op
    simp +decide [leaves_iff, LeavesBoard, LeavesPorts, LeavesHosts, LeavesRest, h]
@[simp] theorem leaves_dropHosts (hps : within [.limits, .regs, .rc, .pal, .margin, .own, .vis, .nibs, .qps, .eth, .pcie, .ink, .cvis, .func] ps = true) :
    Leaves ps s (dropHosts u) ↔ Leaves ps s u :=
  leaves_after hps <| by
    have h := dropHosts_keeps u
    simp +decide [leaves_iff, LeavesBoard, LeavesPorts, LeavesHosts, LeavesRest, h]
@[simp] theorem leaves_returnEntry (hps : within [.out, .limits, .regs, .rc, .rubric, .pal, .margin, .modes, .nor, .sealUnit, .power, .pd, .own,
      .vis, .devices, .eps, .nibs, .qps, .eth, .pcie, .ink, .cvis, .cviews, .cports, .func] ps = true) :
    Leaves ps s (returnEntry u) ↔ Leaves ps s u :=
  leaves_after hps <| by
    have h := returnEntry_keeps u
    simp +decide [leaves_iff, LeavesBoard, LeavesPorts, LeavesHosts, LeavesRest, h]
@[simp] theorem leaves_returnRelease (hps : within [.limits, .rc, .pal, .margin] ps = true) : Leaves ps s (returnRelease u) ↔ Leaves ps s u :=
  leaves_after hps <| by
    obtain ⟨hb, hp, hh, h⟩ := returnRelease_keeps u
    simp +decide [leaves_iff, hb.leaves, hp.leaves, hh.leaves, LeavesRest, h]

/-! #### Of Machine/Hub.lean -/

@[simp] theorem leaves_hubSay {c r} (hps : within [.out] ps = true) : Leaves ps s (hubSay u c r) ↔ Leaves ps s u :=
  leaves_after hps <| by
    obtain ⟨hb, hp, hh, h⟩ := hubSay_keeps u c r
    simp +decide [leaves_iff, hb.leaves, hp.leaves, hh.leaves, LeavesRest, h]
@[simp] theorem leaves_ownView {n f} (hps : within [.cviews] ps = true) : Leaves ps s (ownView u n f) ↔ Leaves ps s u :=
  leaves_after hps <| by
    obtain ⟨hb, hh, h⟩ := ownView_keeps u n f
    simp +decide [leaves_iff, hb.leaves, LeavesPorts, hh.leaves, LeavesRest, h]
@[simp] theorem leaves_holdPaths {c n} (hps : within [.out, .power, .nibs, .cviews, .cports] ps = true) : Leaves ps s (holdPaths u c n) ↔ Leaves ps s u :=
  leaves_after hps <| by
    obtain ⟨hb, h⟩ := holdPaths_keeps u c n
    simp +decide [leaves_iff, hb.leaves, LeavesPorts, LeavesHosts, LeavesRest, h]
@[simp] theorem leaves_clearPowers {c} (hps : within [.out, .power, .nibs, .cviews, .cports] ps = true) : Leaves ps s (clearPowers u c) ↔ Leaves ps s u :=
  leaves_after hps <| by
    obtain ⟨hb, h⟩ := clearPowers_keeps u c
    simp +decide [leaves_iff, hb.leaves, LeavesPorts, LeavesHosts, LeavesRest, h]
@[simp] theorem leaves_hubReset2 {c n} (hps : within [.out, .cviews, .cports, .func] ps = true) : Leaves ps s (hubReset2 u c n) ↔ Leaves ps s u :=
  leaves_after hps <| by
    obtain ⟨hb, hh, h⟩ := hubReset2_keeps u c n
    simp +decide [leaves_iff, hb.leaves, LeavesPorts, hh.leaves, LeavesRest, h]
@[simp] theorem leaves_hubResetS {c n warm} (hps : within [.out, .nibs, .cviews, .cports, .func] ps = true) :
    Leaves ps s (hubResetS u c n warm) ↔ Leaves ps s u :=
  leaves_after hps <| by
    obtain ⟨hb, h⟩ := hubResetS_keeps u c n warm
    simp +decide [leaves_iff, hb.leaves, LeavesPorts, LeavesHosts, LeavesRest, h]
@[simp] theorem leaves_hubResetSDone {n ok} (hps : within [.out, .nibs, .cviews, .cports] ps = true) : Leaves ps s (hubResetSDone u n ok) ↔ Leaves ps s u :=
  leaves_after hps <| by
    obtain ⟨hb, h⟩ := hubResetSDone_keeps u n ok
    simp +decide [leaves_iff, hb.leaves, LeavesPorts, LeavesHosts, LeavesRest, h]
@[simp] theorem leaves_upstreamReset {c ss} (hps : within [.out, .power, .own, .vis, .nibs, .cvis, .cviews, .cports] ps = true) :
    Leaves ps s (upstreamReset u c ss) ↔ Leaves ps s u :=
  leaves_after hps <| by
    obtain ⟨hb, h⟩ := upstreamReset_keeps u c ss
    simp +decide [leaves_iff, hb.leaves, LeavesPorts, LeavesHosts, LeavesRest, h]
@[simp] theorem leaves_upstreamClaims {c} (hps : within [.own, .cvis] ps = true) : Leaves ps s (upstreamClaims u c) ↔ Leaves ps s u :=
  leaves_after hps <| by
    obtain ⟨hb, h⟩ := upstreamClaims_keeps u c
    simp +decide [leaves_iff, hb.leaves, LeavesPorts, LeavesHosts, LeavesRest, h]
@[simp] theorem leaves_setLig {n f} (hps : within [.ligs] ps = true) : Leaves ps s (setLig u n f) ↔ Leaves ps s u :=
  leaves_after hps <| by
    obtain ⟨hb, hh, h⟩ := setLig_keeps u n f
    simp +decide [leaves_iff, hb.leaves, LeavesPorts, hh.leaves, LeavesRest, h]
@[simp] theorem leaves_setFunc {f} (hps : within [.func] ps = true) : Leaves ps s (setFunc u f) ↔ Leaves ps s u :=
  leaves_after hps <| by
    obtain ⟨hb, hh, h⟩ := setFunc_keeps u f
    simp +decide [leaves_iff, hb.leaves, LeavesPorts, hh.leaves, LeavesRest, h]
@[simp] theorem leaves_funcPop {reply} (hps : within [.func] ps = true) : Leaves ps s (funcPop u reply) ↔ Leaves ps s u :=
  leaves_after hps <| by
    obtain ⟨hb, hh, h⟩ := funcPop_keeps u reply
    simp +decide [leaves_iff, hb.leaves, LeavesPorts, hh.leaves, LeavesRest, h]
@[simp] theorem leaves_funcDrain {a0} (hps : within [.func] ps = true) : Leaves ps s (funcDrain a0 u) ↔ Leaves ps s u :=
  leaves_after hps <| by
    obtain ⟨hb, hh, h⟩ := funcDrain_keeps a0 u
    simp +decide [leaves_iff, hb.leaves, LeavesPorts, hh.leaves, LeavesRest, h]

/-! #### Of Machine/Pd.lean -/

@[simp] theorem leaves_sendMsg {n m next} (hps : within [.out, .pd] ps = true) : Leaves ps s (sendMsg u n m next) ↔ Leaves ps s u :=
  leaves_after hps <| by
    obtain ⟨hb, hh, h⟩ := sendMsg_keeps u n m next
    simp +decide [leaves_iff, hb.leaves, LeavesPorts, hh.leaves, LeavesRest, h]
@[simp] theorem leaves_sendCaps {n} (hps : within [.out, .pd] ps = true) : Leaves ps s (sendCaps u n) ↔ Leaves ps s u :=
  leaves_after hps <| by
    obtain ⟨hb, hh, h⟩ := sendCaps_keeps u n
    simp +decide [leaves_iff, hb.leaves, LeavesPorts, hh.leaves, LeavesRest, h]
@[simp] theorem leaves_enterCaps {n} (hps : within [.out, .pd] ps = true) : Leaves ps s (enterCaps u n) ↔ Leaves ps s u :=
  leaves_after hps <| by
    obtain ⟨hb, hh, h⟩ := enterCaps_keeps u n
    simp +decide [leaves_iff, hb.leaves, LeavesPorts, hh.leaves, LeavesRest, h]
@[simp] theorem leaves_pdInfo {n code type} (hps : within [.rc, .pal] ps = true) : Leaves ps s (pdInfo u n code type) ↔ Leaves ps s u :=
  leaves_after hps <| by
    obtain ⟨hb, hp, hh, h⟩ := pdInfo_keeps u n code type
    simp +decide [leaves_iff, hb.leaves, hp.leaves, hh.leaves, LeavesRest, h]
@[simp] theorem leaves_notSupported {n type} (hps : within [.out, .rc, .pal, .pd] ps = true) : Leaves ps s (notSupported u n type) ↔ Leaves ps s u :=
  leaves_after hps <| by
    obtain ⟨hb, hh, h⟩ := notSupported_keeps u n type
    simp +decide [leaves_iff, hb.leaves, LeavesPorts, hh.leaves, LeavesRest, h]
@[simp] theorem leaves_replyExt {n type m} (hps : within [.out, .rc, .pal, .pd] ps = true) : Leaves ps s (replyExt u n type m) ↔ Leaves ps s u :=
  leaves_after hps <| by
    obtain ⟨hb, hh, h⟩ := replyExt_keeps u n type m
    simp +decide [leaves_iff, hb.leaves, LeavesPorts, hh.leaves, LeavesRest, h]
@[simp] theorem leaves_protocolError {n} (hps : within [.out, .limits, .regs, .rc, .rubric, .localEvents, .localLost, .pal, .margin, .power, .pd,
      .own, .vis, .devices, .eps, .nibs, .qps, .pcie, .ink, .cvis, .cviews, .cports, .ligs, .func] ps = true) :
    Leaves ps s (protocolError u n) ↔ Leaves ps s u :=
  leaves_after hps <| by
    have h := protocolError_keeps u n
    simp +decide [leaves_iff, LeavesBoard, LeavesPorts, LeavesHosts, LeavesRest, h]
@[simp] theorem leaves_unreclaim {n} (hps : within [.out, .limits, .rc, .pal, .margin, .power, .pd, .own, .vis, .devices, .eps, .nibs, .qps, .pcie,
      .ink, .cviews, .cports] ps = true) :
    Leaves ps s (unreclaim u n) ↔ Leaves ps s u :=
  leaves_after hps <| by
    obtain ⟨hb, h⟩ := unreclaim_keeps u n
    simp +decide [leaves_iff, hb.leaves, LeavesPorts, LeavesHosts, LeavesRest, h]
@[simp] theorem leaves_pdiWork {n} (hps : within [.out, .pd] ps = true) : Leaves ps s (pdiWork u n) ↔ Leaves ps s u :=
  leaves_after hps <| by
    obtain ⟨hb, hh, h⟩ := pdiWork_keeps u n
    simp +decide [leaves_iff, hb.leaves, LeavesPorts, hh.leaves, LeavesRest, h]
@[simp] theorem leaves_psRdy {n} (hps : within [.out, .limits, .rc, .pal, .margin, .pd] ps = true) : Leaves ps s (psRdy u n) ↔ Leaves ps s u :=
  leaves_after hps <| by
    obtain ⟨hb, hh, h⟩ := psRdy_keeps u n
    simp +decide [leaves_iff, hb.leaves, LeavesPorts, hh.leaves, LeavesRest, h]
@[simp] theorem leaves_takeRequest {n rdo rev2} (hps : within [.out, .limits, .regs, .rc, .rubric, .pal, .margin, .power, .pd, .own, .vis, .devices,
      .eps, .nibs, .qps, .pcie, .ink, .cviews, .cports, .ligs, .func] ps = true) :
    Leaves ps s (takeRequest u n rdo rev2) ↔ Leaves ps s u :=
  leaves_after hps <| by
    have h := takeRequest_keeps u n rdo rev2
    simp +decide [leaves_iff, LeavesBoard, LeavesPorts, LeavesHosts, LeavesRest, h]
@[simp] theorem leaves_takeEprRequest {n rdo pdo} (hps : within [.out, .limits, .regs, .rc, .rubric, .pal, .margin, .power, .pd, .own, .vis,
      .devices, .eps, .nibs, .qps, .pcie, .ink, .cviews, .cports, .ligs, .func] ps = true) :
    Leaves ps s (takeEprRequest u n rdo pdo) ↔ Leaves ps s u :=
  leaves_after hps <| by
    have h := takeEprRequest_keeps u n rdo pdo
    simp +decide [leaves_iff, LeavesBoard, LeavesPorts, LeavesHosts, LeavesRest, h]
@[simp] theorem leaves_eprDecide {n} (hps : within [.out, .rc, .pd] ps = true) : Leaves ps s (eprDecide u n) ↔ Leaves ps s u :=
  leaves_after hps <| by
    obtain ⟨hb, hh, h⟩ := eprDecide_keeps u n
    simp +decide [leaves_iff, hb.leaves, LeavesPorts, hh.leaves, LeavesRest, h]
@[simp] theorem leaves_eprExit {n own} (hps : within [.out, .limits, .rc, .localEvents, .localLost, .pal, .margin, .power, .pd, .own, .vis,
      .devices, .eps, .nibs, .qps, .pcie, .ink, .cvis, .cviews, .cports, .func] ps = true) :
    Leaves ps s (eprExit u n own) ↔ Leaves ps s u :=
  leaves_after hps <| by
    have h := eprExit_keeps u n own
    simp +decide [leaves_iff, LeavesBoard, LeavesPorts, LeavesHosts, LeavesRest, h]
@[simp] theorem leaves_discoveryEnd {n} (hps : within [.out, .rc, .pd] ps = true) : Leaves ps s (discoveryEnd u n) ↔ Leaves ps s u :=
  leaves_after hps <| by
    obtain ⟨hb, hh, h⟩ := discoveryEnd_keeps u n
    simp +decide [leaves_iff, hb.leaves, LeavesPorts, hh.leaves, LeavesRest, h]
@[simp] theorem leaves_discover {n} (hps : within [.out, .pd] ps = true) : Leaves ps s (discover u n) ↔ Leaves ps s u :=
  leaves_after hps <| by
    obtain ⟨hb, hh, h⟩ := discover_keeps u n
    simp +decide [leaves_iff, hb.leaves, LeavesPorts, hh.leaves, LeavesRest, h]
@[simp] theorem leaves_acknowledged {n} (hps : within [.out, .limits, .regs, .rc, .rubric, .localEvents, .localLost, .pal, .margin, .power, .pd,
      .own, .vis, .devices, .eps, .nibs, .qps, .pcie, .ink, .cvis, .cviews, .cports, .ligs, .func] ps = true) :
    Leaves ps s (acknowledged u n) ↔ Leaves ps s u :=
  leaves_after hps <| by
    have h := acknowledged_keeps u n
    simp +decide [leaves_iff, LeavesBoard, LeavesPorts, LeavesHosts, LeavesRest, h]
@[simp] theorem leaves_swapRefused {n answer} (hps : within [.limits, .rc, .pal, .margin, .pd] ps = true) :
    Leaves ps s (swapRefused u n answer) ↔ Leaves ps s u :=
  leaves_after hps <| by
    obtain ⟨hb, hh, h⟩ := swapRefused_keeps u n answer
    simp +decide [leaves_iff, hb.leaves, LeavesPorts, hh.leaves, LeavesRest, h]
@[simp] theorem leaves_messageFailed {n} (hps : within [.out, .limits, .regs, .rc, .rubric, .localEvents, .localLost, .pal, .margin, .power, .pd,
      .own, .vis, .devices, .eps, .nibs, .qps, .pcie, .ink, .cvis, .cviews, .cports, .ligs, .func] ps = true) :
    Leaves ps s (messageFailed u n) ↔ Leaves ps s u :=
  leaves_after hps <| by
    have h := messageFailed_keeps u n
    simp +decide [leaves_iff, LeavesBoard, LeavesPorts, LeavesHosts, LeavesRest, h]
@[simp] theorem leaves_becomeUfp {n c} (hps : within [.out, .limits, .rc, .pal, .margin, .pd, .own, .vis, .eps, .nibs, .qps, .pcie, .ink, .cvis,
      .cviews, .ligs] ps = true) :
    Leaves ps s (becomeUfp u n c) ↔ Leaves ps s u :=
  leaves_after hps <| by
    obtain ⟨hb, h⟩ := becomeUfp_keeps u n c
    simp +decide [leaves_iff, hb.leaves, LeavesPorts, LeavesHosts, LeavesRest, h]
@[simp] theorem leaves_swapOnUp (hps : within [.out, .limits, .rc, .pal, .margin, .pd, .own, .vis, .eps, .nibs, .qps, .pcie, .ink, .cvis, .cviews,
      .ligs, .func] ps = true) :
    Leaves ps s (swapOnUp u) ↔ Leaves ps s u :=
  leaves_after hps <| by
    obtain ⟨hb, h⟩ := swapOnUp_keeps u
    simp +decide [leaves_iff, hb.leaves, LeavesPorts, LeavesHosts, LeavesRest, h]
@[simp] theorem leaves_swapOnDp {n} (hps : within [.out, .limits, .rc, .pal, .margin, .pd, .own, .vis, .eps, .nibs, .qps, .pcie, .ink, .cvis,
      .cviews, .ligs, .func] ps = true) :
    Leaves ps s (swapOnDp u n) ↔ Leaves ps s u :=
  leaves_after hps <| by
    obtain ⟨hb, h⟩ := swapOnDp_keeps u n
    simp +decide [leaves_iff, hb.leaves, LeavesPorts, LeavesHosts, LeavesRest, h]
@[simp] theorem leaves_tryAttach {n} (hps : within [.out, .limits, .rc, .localEvents, .localLost, .pal, .margin, .modes, .sealUnit, .power, .pd,
      .own, .vis, .devices, .eps, .nibs, .qps, .pcie, .ink, .cvis, .cviews, .cports] ps = true) :
    Leaves ps s (tryAttach u n) ↔ Leaves ps s u :=
  leaves_after hps <| by
    have h := tryAttach_keeps u n
    simp +decide [leaves_iff, LeavesBoard, LeavesPorts, LeavesHosts, LeavesRest, h]
@[simp] theorem leaves_toUnattached {n} (hps : within [.pd] ps = true) : Leaves ps s (toUnattached u n) ↔ Leaves ps s u :=
  leaves_after hps <| by
    obtain ⟨hb, hh, h⟩ := toUnattached_keeps u n
    simp +decide [leaves_iff, hb.leaves, LeavesPorts, hh.leaves, LeavesRest, h]
@[simp] theorem leaves_detach {n} (hps : within [.out, .limits, .rc, .pal, .margin, .modes, .power, .pd, .own, .vis, .devices, .eps, .nibs, .qps,
      .pcie, .ink, .cvis, .cviews, .cports, .func] ps = true) :
    Leaves ps s (detach u n) ↔ Leaves ps s u :=
  leaves_after hps <| by
    obtain ⟨hb, h⟩ := detach_keeps u n
    simp +decide [leaves_iff, hb.leaves, LeavesPorts, LeavesHosts, LeavesRest, h]
@[simp] theorem leaves_vconnFault {n} (hps : within [.out, .limits, .rc, .localEvents, .localLost, .pal, .margin, .power, .pd, .own, .vis, .devices,
      .eps, .nibs, .qps, .pcie, .ink, .cvis, .cviews, .cports, .func] ps = true) :
    Leaves ps s (vconnFault u n) ↔ Leaves ps s u :=
  leaves_after hps <| by
    have h := vconnFault_keeps u n
    simp +decide [leaves_iff, LeavesBoard, LeavesPorts, LeavesHosts, LeavesRest, h]

/-! #### Of Machine/PdCmds.lean -/

@[simp] theorem leaves_swapRetryTx {w} (hps : within [.pd] ps = true) : Leaves ps s (swapRetryTx u w) ↔ Leaves ps s u :=
  leaves_after hps <| by
    obtain ⟨hb, hh, h⟩ := swapRetryTx_keeps u w
    simp +decide [leaves_iff, hb.leaves, LeavesPorts, hh.leaves, LeavesRest, h]
@[simp] theorem leaves_keepAliveOut {n} (hps : within [.out, .limits, .rc, .localEvents, .localLost, .pal, .margin, .power, .pd, .own, .vis,
      .devices, .eps, .nibs, .qps, .pcie, .ink, .cvis, .cviews, .cports, .func] ps = true) :
    Leaves ps s (keepAliveOut u n) ↔ Leaves ps s u :=
  leaves_after hps <| by
    have h := keepAliveOut_keeps u n
    simp +decide [leaves_iff, LeavesBoard, LeavesPorts, LeavesHosts, LeavesRest, h]
@[simp] theorem leaves_pdSendCaps {n} (hps : within [.pd] ps = true) : Leaves ps s (pdSendCaps u n) ↔ Leaves ps s u :=
  leaves_after hps <| by
    obtain ⟨hb, hh, h⟩ := pdSendCaps_keeps u n
    simp +decide [leaves_iff, hb.leaves, LeavesPorts, hh.leaves, LeavesRest, h]
@[simp] theorem leaves_pdHardReset {n} (hps : within [.out, .limits, .rc, .localEvents, .localLost, .pal, .margin, .power, .pd, .own, .vis,
      .devices, .eps, .nibs, .qps, .pcie, .ink, .cvis, .cviews, .cports, .func] ps = true) :
    Leaves ps s (pdHardReset u n) ↔ Leaves ps s u :=
  leaves_after hps <| by
    have h := pdHardReset_keeps u n
    simp +decide [leaves_iff, LeavesBoard, LeavesPorts, LeavesHosts, LeavesRest, h]
@[simp] theorem leaves_pdErrorRecovery {n} (hps : within [.out, .limits, .rc, .localEvents, .localLost, .pal, .margin, .power, .pd, .own, .vis,
      .devices, .eps, .nibs, .qps, .pcie, .ink, .cvis, .cviews, .cports, .func] ps = true) :
    Leaves ps s (pdErrorRecovery u n) ↔ Leaves ps s u :=
  leaves_after hps <| by
    have h := pdErrorRecovery_keeps u n
    simp +decide [leaves_iff, LeavesBoard, LeavesPorts, LeavesHosts, LeavesRest, h]

/-! #### Of Machine/Applied.lean -/

@[simp] theorem leaves_disableOpen {n} (hps : within [.out, .freeCtr, .limits, .rc, .pal, .margin, .power, .pd, .own, .vis, .devices, .eps, .nibs,
      .qps, .pcie, .ink, .cvis, .cviews, .cports, .func] ps = true) :
    Leaves ps s (disableOpen u n) ↔ Leaves ps s u :=
  leaves_after hps <| by
    obtain ⟨hb, h⟩ := disableOpen_keeps u n
    simp +decide [leaves_iff, hb.leaves, LeavesPorts, LeavesHosts, LeavesRest, h]
@[simp] theorem leaves_takeRw {p r a value} (hps : within [.out, .freeCtr, .limits, .regs, .rc, .writes, .staged, .rubric, .trustBySpi, .pal,
      .margin, .disc, .sealUnit, .power, .pd, .ptp, .own, .vis, .devices, .eps, .nibs, .qps, .eth, .pcie, .timelines, .ink, .cvis, .cviews, .cports, .ligs, .func] ps = true) :
    Leaves ps s (takeRw u p r a value) ↔ Leaves ps s u :=
  leaves_after hps <| by
    have h := takeRw_keeps u p r a value
    simp +decide [leaves_iff, LeavesBoard, LeavesPorts, LeavesHosts, LeavesRest, h]
@[simp] theorem leaves_boundaryApply {pick} (hps : within [.out, .freeCtr, .limits, .regs, .rc, .writes, .rubric, .trustBySpi, .pal, .margin, .disc,
      .sealUnit, .power, .pd, .ptp, .own, .vis, .devices, .eps, .nibs, .qps, .eth, .pcie, .timelines, .ink, .cvis, .cviews, .cports, .ligs, .func] ps = true) :
    Leaves ps s (boundaryApply u pick) ↔ Leaves ps s u :=
  leaves_after hps <| by
    have h := boundaryApply_keeps u pick
    simp +decide [leaves_iff, LeavesBoard, LeavesPorts, LeavesHosts, LeavesRest, h]
@[simp] theorem leaves_updateDomain {d} (hps : within [.rubric] ps = true) : Leaves ps s (updateDomain u d) ↔ Leaves ps s u :=
  leaves_after hps <| by
    obtain ⟨hp, hh, h⟩ := updateDomain_keeps u d
    simp +decide [leaves_iff, LeavesBoard, hp.leaves, hh.leaves, LeavesRest, h]
@[simp] theorem leaves_rubricCommit {p} (hps : within [.out, .freeCtr, .limits, .regs, .rc, .staged, .rubric, .pal, .margin, .disc, .power, .pd,
      .ptp, .own, .vis, .devices, .eps, .nibs, .qps, .eth, .pcie, .timelines, .ink, .cvis, .cviews, .cports, .ligs, .func] ps = true) :
    Leaves ps s (rubricCommit u p) ↔ Leaves ps s u :=
  leaves_after hps <| by
    have h := rubricCommit_keeps u p
    simp +decide [leaves_iff, LeavesBoard, LeavesPorts, LeavesHosts, LeavesRest, h]
@[simp] theorem leaves_rubricAbort (hps : within [.staged, .rubric] ps = true) : Leaves ps s (rubricAbort u) ↔ Leaves ps s u :=
  leaves_after hps <| by
    obtain ⟨hp, hh, h⟩ := rubricAbort_keeps u
    simp +decide [leaves_iff, LeavesBoard, hp.leaves, hh.leaves, LeavesRest, h]
@[simp] theorem leaves_commitComplete (hps : within [.rc, .rubric, .pal] ps = true) : Leaves ps s (commitComplete u) ↔ Leaves ps s u :=
  leaves_after hps <| by
    obtain ⟨hp, hh, h⟩ := commitComplete_keeps u
    simp +decide [leaves_iff, LeavesBoard, hp.leaves, hh.leaves, LeavesRest, h]
@[simp] theorem leaves_brkCommit (hps : within [.regs, .rc, .rubric, .pal, .input, .power] ps = true) : Leaves ps s (brkCommit u) ↔ Leaves ps s u :=
  leaves_after hps <| by
    obtain ⟨hh, h⟩ := brkCommit_keeps u
    simp +decide [leaves_iff, LeavesBoard, LeavesPorts, hh.leaves, LeavesRest, h]

/-! #### Of Machine/Images.lean -/

@[simp] theorem leaves_setImg {f} (hps : within [.img] ps = true) : Leaves ps s (setImg u f) ↔ Leaves ps s u :=
  leaves_after hps <| by
    obtain ⟨hp, hh, h⟩ := setImg_keeps u f
    simp +decide [leaves_iff, LeavesBoard, hp.leaves, hh.leaves, LeavesRest, h]
@[simp] theorem leaves_editSlot {f} (hps : within [.nor] ps = true) : Leaves ps s (editSlot u f) ↔ Leaves ps s u :=
  leaves_after hps <| by
    obtain ⟨hp, hh, h⟩ := editSlot_keeps u f
    simp +decide [leaves_iff, LeavesBoard, hp.leaves, hh.leaves, LeavesRest, h]
@[simp] theorem leaves_imgOpen {cfg} (hps : within [.img, .nor] ps = true) : Leaves ps s (imgOpen u cfg) ↔ Leaves ps s u :=
  leaves_after hps <| by
    obtain ⟨hp, hh, h⟩ := imgOpen_keeps u cfg
    simp +decide [leaves_iff, LeavesBoard, hp.leaves, hh.leaves, LeavesRest, h]
@[simp] theorem leaves_imgEnd {result} (hps : within [.img] ps = true) : Leaves ps s (imgEnd u result) ↔ Leaves ps s u :=
  leaves_after hps <| by
    obtain ⟨hp, hh, h⟩ := imgEnd_keeps u result
    simp +decide [leaves_iff, LeavesBoard, hp.leaves, hh.leaves, LeavesRest, h]
@[simp] theorem leaves_imgData {value} (hps : within [.regs, .img, .nor] ps = true) : Leaves ps s (imgData u value) ↔ Leaves ps s u :=
  leaves_after hps <| by
    obtain ⟨hh, h⟩ := imgData_keeps u value
    simp +decide [leaves_iff, LeavesBoard, LeavesPorts, hh.leaves, LeavesRest, h]
@[simp] theorem leaves_imgCommit {r} (hps : within [.limits, .rc, .pal, .margin, .img, .nor, .blot] ps = true) :
    Leaves ps s (imgCommit u r) ↔ Leaves ps s u :=
  leaves_after hps <| by
    obtain ⟨hh, h⟩ := imgCommit_keeps u r
    simp +decide [leaves_iff, LeavesBoard, LeavesPorts, hh.leaves, LeavesRest, h]
@[simp] theorem leaves_imgCommitFree (hps : within [.freeCtr, .limits, .rc, .pal, .margin, .img, .nor, .blot] ps = true) :
    Leaves ps s (imgCommitFree u) ↔ Leaves ps s u :=
  leaves_after hps <| by
    obtain ⟨hh, h⟩ := imgCommitFree_keeps u
    simp +decide [leaves_iff, LeavesBoard, LeavesPorts, hh.leaves, LeavesRest, h]

/-! #### Of Machine/Boot.lean -/

@[simp] theorem leaves_folioReset {warm} (hps : within [.folioOn, .strokeBase, .resyncAt, .regs, .rc, .pairs, .writes, .staged, .rubric,
      .trustBySpi, .trustConfigured, .link, .pal, .margin, .disc, .clusters, .engines, .regionTemp, .lanes, .modes, .img, .blot, .sealUnit, .power, .pd, .ptp, .own, .vis, .devices, .eps, .nibs, .qps, .eth, .prp, .pcie, .timelines, .ink, .cvis, .cviews, .cports, .ligs, .func] ps = true) :
    Leaves ps s (folioReset u warm) ↔ Leaves ps s u :=
  leaves_after hps <| by
    have h := folioReset_keeps u warm
    simp +decide [leaves_iff, LeavesBoard, LeavesPorts, LeavesHosts, LeavesRest, h]
@[simp] theorem leaves_bootLoad (hps : within [.out, .freeCtr, .limits, .regs, .rc, .rubric, .trustConfigured, .pal, .margin, .clusters, .engines,
      .modes, .blot, .sealUnit, .input, .power, .pd, .ptp, .own, .vis, .devices, .eps, .nibs, .qps, .pcie, .ink, .cvis, .cviews, .cports, .ligs, .func] ps = true) :
    Leaves ps s (bootLoad u) ↔ Leaves ps s u :=
  leaves_after hps <| by
    have h := bootLoad_keeps u
    simp +decide [leaves_iff, LeavesBoard, LeavesPorts, LeavesHosts, LeavesRest, h]
@[simp] theorem leaves_takeNor {nor} (hps : within [.nor] ps = true) : Leaves ps s (takeNor u nor) ↔ Leaves ps s u :=
  leaves_after hps <| by
    obtain ⟨hp, hh, h⟩ := takeNor_keeps u nor
    simp +decide [leaves_iff, LeavesBoard, hp.leaves, hh.leaves, LeavesRest, h]
@[simp] theorem leaves_linkCause (hps : within [.blot] ps = true) : Leaves ps s (linkCause u) ↔ Leaves ps s u :=
  leaves_after hps <| by
    obtain ⟨hb, hh, h⟩ := linkCause_keeps u
    simp +decide [leaves_iff, hb.leaves, LeavesPorts, hh.leaves, LeavesRest, h]
@[simp] theorem leaves_warmBoot {persist nor} (hps : within [.out, .freeCtr, .limits, .folioOn, .strokeBase, .resyncAt, .regs, .rc, .pairs, .writes,
      .staged, .rubric, .trustBySpi, .trustConfigured, .link, .pal, .margin, .disc, .clusters, .engines, .regionTemp, .lanes, .modes, .img, .nor, .blot, .sealUnit, .input, .power, .pd, .ptp, .own, .vis, .devices, .eps, .nibs, .qps, .eth, .prp, .pcie, .timelines, .ink, .cvis, .cviews, .cports, .ligs, .func] ps = true) :
    Leaves ps s (warmBoot u persist nor) ↔ Leaves ps s u :=
  leaves_after hps <| by
    have h := warmBoot_keeps u persist nor
    simp +decide [leaves_iff, LeavesBoard, LeavesPorts, LeavesHosts, LeavesRest, h]
@[simp] theorem leaves_bootEnd (hps : within [.out, .freeCtr, .limits, .rc, .pal, .margin, .modes, .blot, .power, .pd, .own, .vis, .devices, .eps,
      .nibs, .qps, .pcie, .ink, .cvis, .cviews, .cports, .func] ps = true) :
    Leaves ps s (bootEnd u) ↔ Leaves ps s u :=
  leaves_after hps <| by
    obtain ⟨hb, h⟩ := bootEnd_keeps u
    simp +decide [leaves_iff, hb.leaves, LeavesPorts, LeavesHosts, LeavesRest, h]

/-! #### Of Machine/HostCmds.lean -/

@[simp] theorem leaves_markStarted {r slot} (hps : within [.vis] ps = true) : Leaves ps s (markStarted u r slot) ↔ Leaves ps s u :=
  leaves_after hps <| by
    obtain ⟨hb, hp, h⟩ := markStarted_keeps u r slot
    simp +decide [leaves_iff, hb.leaves, hp.leaves, LeavesHosts, LeavesRest, h]
@[simp] theorem leaves_resetPort {r e n warm} (hps : within [.out, .limits, .rc, .pal, .margin, .own, .vis, .devices, .eps, .nibs, .qps, .pcie,
      .ink] ps = true) :
    Leaves ps s (resetPort u r e n warm) ↔ Leaves ps s u :=
  leaves_after hps <| by
    obtain ⟨hb, h⟩ := resetPort_keeps u r e n warm
    simp +decide [leaves_iff, hb.leaves, LeavesPorts, LeavesHosts, LeavesRest, h]
@[simp] theorem leaves_suspendPort {r e n} (hps : within [.out, .limits, .rc, .pal, .margin, .vis, .eps, .nibs, .qps, .pcie, .ink] ps = true) :
    Leaves ps s (suspendPort u r e n) ↔ Leaves ps s u :=
  leaves_after hps <| by
    obtain ⟨hb, hp, h⟩ := suspendPort_keeps u r e n
    simp +decide [leaves_iff, hb.leaves, hp.leaves, LeavesHosts, LeavesRest, h]
@[simp] theorem leaves_suspendDone {n u3} (hps : within [.out, .limits, .rc, .pal, .margin, .vis, .nibs, .qps, .pcie, .ink] ps = true) :
    Leaves ps s (suspendDone u n u3) ↔ Leaves ps s u :=
  leaves_after hps <| by
    obtain ⟨hb, hp, h⟩ := suspendDone_keeps u n u3
    simp +decide [leaves_iff, hb.leaves, hp.leaves, LeavesHosts, LeavesRest, h]
@[simp] theorem leaves_resumeDone {n} (hps : within [.out, .limits, .rc, .pal, .margin, .vis, .eps, .nibs, .qps, .pcie, .ink, .cviews] ps = true) :
    Leaves ps s (resumeDone u n) ↔ Leaves ps s u :=
  leaves_after hps <| by
    obtain ⟨hb, h⟩ := resumeDone_keeps u n
    simp +decide [leaves_iff, hb.leaves, LeavesPorts, LeavesHosts, LeavesRest, h]
@[simp] theorem leaves_addressDone {n a} (hps : within [.out, .limits, .rc, .pal, .margin, .vis, .devices, .eps, .nibs, .qps, .pcie, .ink] ps = true) :
    Leaves ps s (addressDone u n a) ↔ Leaves ps s u :=
  leaves_after hps <| by
    obtain ⟨hb, h⟩ := addressDone_keeps u n a
    simp +decide [leaves_iff, hb.leaves, LeavesPorts, LeavesHosts, LeavesRest, h]
@[simp] theorem leaves_configureEp {r e n} (hps : within [.out, .freeCtr, .limits, .rc, .pal, .margin, .vis, .eps, .qps, .pcie, .ink] ps = true) :
    Leaves ps s (configureEp u r e n) ↔ Leaves ps s u :=
  leaves_after hps <| by
    obtain ⟨hb, h⟩ := configureEp_keeps u r e n
    simp +decide [leaves_iff, hb.leaves, LeavesPorts, LeavesHosts, LeavesRest, h]
@[simp] theorem leaves_settleIdle {ctx} (hps : within [.ink] ps = true) : Leaves ps s (settleIdle u ctx) ↔ Leaves ps s u :=
  leaves_after hps <| by
    obtain ⟨hb, hp, h⟩ := settleIdle_keeps u ctx
    simp +decide [leaves_iff, hb.leaves, hp.leaves, LeavesHosts, LeavesRest, h]
@[simp] theorem leaves_stopNow {r slot ctx n} (hps : within [.out, .freeCtr, .limits, .rc, .pal, .margin, .vis, .eps, .nibs, .qps, .pcie, .ink] ps = true) :
    Leaves ps s (stopNow u r slot ctx n) ↔ Leaves ps s u :=
  leaves_after hps <| by
    obtain ⟨hb, h⟩ := stopNow_keeps u r slot ctx n
    simp +decide [leaves_iff, hb.leaves, LeavesPorts, LeavesHosts, LeavesRest, h]
@[simp] theorem leaves_replayAll {r cs} (hps : within [.out, .limits, .rc, .pal, .vis, .qps, .pcie] ps = true) :
    Leaves ps s (replayAll u r cs) ↔ Leaves ps s u :=
  leaves_after hps <| by
    obtain ⟨hb, hp, h⟩ := replayAll_keeps u r cs
    simp +decide [leaves_iff, hb.leaves, hp.leaves, LeavesHosts, LeavesRest, h]
@[simp] theorem leaves_endResync {r} (hps : within [.out, .freeCtr, .limits, .rc, .pal, .margin, .vis, .eps, .qps, .pcie, .ink] ps = true) :
    Leaves ps s (endResync u r) ↔ Leaves ps s u :=
  leaves_after hps <| by
    obtain ⟨hb, h⟩ := endResync_keeps u r
    simp +decide [leaves_iff, hb.leaves, LeavesPorts, LeavesHosts, LeavesRest, h]

/-! #### Of Machine/Bus.lean -/

@[simp] theorem leaves_isochBoundary {n} (hps : within [.out, .limits, .rc, .pal, .margin, .vis, .eps, .nibs, .qps, .pcie, .ink] ps = true) :
    Leaves ps s (isochBoundary u n) ↔ Leaves ps s u :=
  leaves_after hps <| by
    obtain ⟨hb, hp, h⟩ := isochBoundary_keeps u n
    simp +decide [leaves_iff, hb.leaves, hp.leaves, LeavesHosts, LeavesRest, h]
@[simp] theorem leaves_busXact {n who r} (hps : within [.out, .freeCtr, .limits, .rc, .pal, .margin, .own, .vis, .devices, .eps, .nibs, .qps, .pcie,
      .ink, .ligs, .func] ps = true) :
    Leaves ps s (busXact u n who r) ↔ Leaves ps s u :=
  leaves_after hps <| by
    obtain ⟨hb, h⟩ := busXact_keeps u n who r
    simp +decide [leaves_iff, hb.leaves, LeavesPorts, LeavesHosts, LeavesRest, h]

/-! #### Of Machine/BusCmds.lean -/

@[simp] theorem leaves_readArrived {r what data failed} (hps : within [.out, .freeCtr, .limits, .rc, .pal, .margin, .modes, .own, .vis, .eps, .nibs,
      .qps, .pcie, .ink, .cvis] ps = true) :
    Leaves ps s (readArrived u r what data failed) ↔ Leaves ps s u :=
  leaves_after hps <| by
    obtain ⟨hb, h⟩ := readArrived_keeps u r what data failed
    simp +decide [leaves_iff, hb.leaves, LeavesPorts, LeavesHosts, LeavesRest, h]
@[simp] theorem leaves_rootConnected {n ss} (hps : within [.out, .limits, .rc, .pal, .margin, .nibs, .cviews] ps = true) :
    Leaves ps s (rootConnected u n ss) ↔ Leaves ps s u :=
  leaves_after hps <| by
    obtain ⟨hb, h⟩ := rootConnected_keeps u n ss
    simp +decide [leaves_iff, hb.leaves, LeavesPorts, LeavesHosts, LeavesRest, h]
@[simp] theorem leaves_pathReset {n ss fresh} (hps : within [.out, .limits, .rc, .pal, .margin, .vis, .nibs, .qps, .pcie, .ink, .cviews] ps = true) :
    Leaves ps s (pathReset u n ss fresh) ↔ Leaves ps s u :=
  leaves_after hps <| by
    obtain ⟨hb, h⟩ := pathReset_keeps u n ss fresh
    simp +decide [leaves_iff, hb.leaves, LeavesPorts, LeavesHosts, LeavesRest, h]
@[simp] theorem leaves_alignBus {n} (hps : within [.nibs] ps = true) : Leaves ps s (alignBus u n) ↔ Leaves ps s u :=
  leaves_after hps <| by
    obtain ⟨hb, hp, h⟩ := alignBus_keeps u n
    simp +decide [leaves_iff, hb.leaves, hp.leaves, LeavesHosts, LeavesRest, h]
@[simp] theorem leaves_breakEp {ctx code} (hps : within [.out, .limits, .rc, .pal, .margin, .vis, .eps, .nibs, .qps, .pcie, .ink] ps = true) :
    Leaves ps s (breakEp u ctx code) ↔ Leaves ps s u :=
  leaves_after hps <| by
    obtain ⟨hb, hp, h⟩ := breakEp_keeps u ctx code
    simp +decide [leaves_iff, hb.leaves, hp.leaves, LeavesHosts, LeavesRest, h]
@[simp] theorem leaves_settleSusp {n} (hps : within [.nibs] ps = true) : Leaves ps s (settleSusp u n) ↔ Leaves ps s u :=
  leaves_after hps <| by
    obtain ⟨hb, hp, h⟩ := settleSusp_keeps u n
    simp +decide [leaves_iff, hb.leaves, hp.leaves, LeavesHosts, LeavesRest, h]
@[simp] theorem leaves_stuckWait {n k} (hps : within [.limits, .rc, .pal, .margin, .nibs] ps = true) : Leaves ps s (stuckWait u n k) ↔ Leaves ps s u :=
  leaves_after hps <| by
    obtain ⟨hb, hp, h⟩ := stuckWait_keeps u n k
    simp +decide [leaves_iff, hb.leaves, hp.leaves, LeavesHosts, LeavesRest, h]
@[simp] theorem leaves_declareStuck {n} (hps : within [.out, .limits, .rc, .pal, .margin, .own, .vis, .devices, .eps, .nibs, .qps, .pcie, .ink,
      .cviews] ps = true) :
    Leaves ps s (declareStuck u n) ↔ Leaves ps s u :=
  leaves_after hps <| by
    obtain ⟨hb, h⟩ := declareStuck_keeps u n
    simp +decide [leaves_iff, hb.leaves, LeavesPorts, LeavesHosts, LeavesRest, h]

/-! #### Of Machine/MarginCmds.lean -/

@[simp] theorem leaves_bcHeadRead {p which} (hps : within [.rc, .pal, .margin] ps = true) : Leaves ps s (bcHeadRead u p which).1 ↔ Leaves ps s u :=
  leaves_after hps <| by
    obtain ⟨hb, hp, hh, h⟩ := bcHeadRead_keeps u p which
    simp +decide [leaves_iff, hb.leaves, hp.leaves, hh.leaves, LeavesRest, h]
@[simp] theorem leaves_popWord (hps : within [.margin] ps = true) : Leaves ps s (popWord u) ↔ Leaves ps s u :=
  leaves_after hps <| by
    obtain ⟨hb, hp, hh, h⟩ := popWord_keeps u
    simp +decide [leaves_iff, hb.leaves, hp.leaves, hh.leaves, LeavesRest, h]
@[simp] theorem leaves_skipNotice (hps : within [.margin] ps = true) : Leaves ps s (skipNotice u) ↔ Leaves ps s u :=
  leaves_after hps <| by
    obtain ⟨hb, hp, hh, h⟩ := skipNotice_keeps u
    simp +decide [leaves_iff, hb.leaves, hp.leaves, hh.leaves, LeavesRest, h]
@[simp] theorem leaves_flushBoard (hps : within [.margin] ps = true) : Leaves ps s (flushBoard u) ↔ Leaves ps s u :=
  leaves_after hps <| by
    obtain ⟨hb, hp, hh, h⟩ := flushBoard_keeps u
    simp +decide [leaves_iff, hb.leaves, hp.leaves, hh.leaves, LeavesRest, h]
@[simp] theorem leaves_irqAck (hps : within [.margin] ps = true) : Leaves ps s (irqAck u) ↔ Leaves ps s u :=
  leaves_after hps <| by
    obtain ⟨hb, hp, hh, h⟩ := irqAck_keeps u
    simp +decide [leaves_iff, hb.leaves, hp.leaves, hh.leaves, LeavesRest, h]

/-! #### Of Machine/Modes.lean -/

@[simp] theorem leaves_linkFirstUp (hps : within [.rc, .link, .localEvents, .localLost, .pal, .blot, .power] ps = true) :
    Leaves ps s (linkFirstUp u) ↔ Leaves ps s u :=
  leaves_after hps <| by
    obtain ⟨hh, h⟩ := linkFirstUp_keeps u
    simp +decide [leaves_iff, LeavesBoard, LeavesPorts, hh.leaves, LeavesRest, h]
@[simp] theorem leaves_linkLost (hps : within [.out, .limits, .rc, .link, .pal, .margin, .modes, .blot, .power, .pd, .own, .vis, .devices, .eps,
      .nibs, .qps, .pcie, .ink, .cvis, .cviews, .cports] ps = true) :
    Leaves ps s (linkLost u) ↔ Leaves ps s u :=
  leaves_after hps <| by
    have h := linkLost_keeps u
    simp +decide [leaves_iff, LeavesBoard, LeavesPorts, LeavesHosts, LeavesRest, h]
@[simp] theorem leaves_linkHoldExpiry (hps : within [.out, .limits, .rc, .link, .pal, .margin, .power, .pd, .own, .vis, .devices, .eps, .nibs, .qps,
      .pcie, .ink, .cviews, .cports] ps = true) :
    Leaves ps s (linkHoldExpiry u) ↔ Leaves ps s u :=
  leaves_after hps <| by
    have h := linkHoldExpiry_keeps u
    simp +decide [leaves_iff, LeavesBoard, LeavesPorts, LeavesHosts, LeavesRest, h]
@[simp] theorem leaves_linkRestored (hps : within [.out, .limits, .rc, .link, .pal, .margin, .blot, .power, .pd, .own, .vis, .devices, .eps, .nibs,
      .qps, .pcie, .ink, .cviews, .cports] ps = true) :
    Leaves ps s (linkRestored u) ↔ Leaves ps s u :=
  leaves_after hps <| by
    have h := linkRestored_keeps u
    simp +decide [leaves_iff, LeavesBoard, LeavesPorts, LeavesHosts, LeavesRest, h]
@[simp] theorem leaves_railFail (hps : within [.folioOn, .strokeBase, .resyncAt, .regs, .rc, .pairs, .writes, .staged, .rubric, .trustBySpi,
      .trustConfigured, .link, .pal, .margin, .disc, .clusters, .engines, .regionTemp, .lanes, .modes, .img, .blot, .sealUnit, .power, .pd, .ptp, .own, .vis, .devices, .eps, .nibs, .qps, .eth, .prp, .pcie, .timelines, .ink, .cvis, .cviews, .cports, .ligs, .func] ps = true) :
    Leaves ps s (railFail u) ↔ Leaves ps s u :=
  leaves_after hps <| by
    have h := railFail_keeps u
    simp +decide [leaves_iff, LeavesBoard, LeavesPorts, LeavesHosts, LeavesRest, h]
@[simp] theorem leaves_answerMode {code} (hps : within [.modes] ps = true) : Leaves ps s (answerMode u code) ↔ Leaves ps s u :=
  leaves_after hps <| by
    obtain ⟨hb, hh, h⟩ := answerMode_keeps u code
    simp +decide [leaves_iff, hb.leaves, LeavesPorts, hh.leaves, LeavesRest, h]
@[simp] theorem leaves_modeManaged (hps : within [.limits, .rc, .pal, .margin, .modes, .own, .cvis] ps = true) :
    Leaves ps s (modeManaged u) ↔ Leaves ps s u :=
  leaves_after hps <| by
    obtain ⟨hb, h⟩ := modeManaged_keeps u
    simp +decide [leaves_iff, hb.leaves, LeavesPorts, LeavesHosts, LeavesRest, h]
@[simp] theorem leaves_modeSuspend (hps : within [.out, .rc, .modes, .eps, .nibs] ps = true) : Leaves ps s (modeSuspend u) ↔ Leaves ps s u :=
  leaves_after hps <| by
    obtain ⟨hb, h⟩ := modeSuspend_keeps u
    simp +decide [leaves_iff, hb.leaves, LeavesPorts, LeavesHosts, LeavesRest, h]
@[simp] theorem leaves_modeStandby (hps : within [.out, .freeCtr, .limits, .regs, .rc, .rubric, .pal, .margin, .modes, .img, .power, .pd, .own,
      .vis, .devices, .eps, .nibs, .qps, .eth, .pcie, .ink, .cvis, .cviews, .cports, .ligs, .func] ps = true) :
    Leaves ps s (modeStandby u) ↔ Leaves ps s u :=
  leaves_after hps <| by
    have h := modeStandby_keeps u
    simp +decide [leaves_iff, LeavesBoard, LeavesPorts, LeavesHosts, LeavesRest, h]
@[simp] theorem leaves_modeWake (hps : within [.out, .freeCtr, .limits, .folioOn, .strokeBase, .resyncAt, .regs, .rc, .pairs, .writes, .staged,
      .rubric, .trustBySpi, .trustConfigured, .link, .pal, .margin, .disc, .clusters, .engines, .regionTemp, .lanes, .modes, .img, .nor, .blot, .sealUnit, .input, .power, .pd, .ptp, .own, .vis, .devices, .eps, .nibs, .qps, .eth, .prp, .pcie, .timelines, .ink, .cvis, .cviews, .cports, .ligs, .func] ps = true) :
    Leaves ps s (modeWake u) ↔ Leaves ps s u :=
  leaves_after hps <| by
    have h := modeWake_keeps u
    simp +decide [leaves_iff, LeavesBoard, LeavesPorts, LeavesHosts, LeavesRest, h]
@[simp] theorem leaves_modeReboot (hps : within [.out, .freeCtr, .limits, .folioOn, .strokeBase, .resyncAt, .regs, .rc, .pairs, .writes, .staged,
      .rubric, .trustBySpi, .trustConfigured, .link, .pal, .margin, .disc, .clusters, .engines, .regionTemp, .lanes, .modes, .img, .nor, .blot, .sealUnit, .input, .power, .pd, .ptp, .own, .vis, .devices, .eps, .nibs, .qps, .eth, .prp, .pcie, .timelines, .ink, .cvis, .cviews, .cports, .ligs, .func] ps = true) :
    Leaves ps s (modeReboot u) ↔ Leaves ps s u :=
  leaves_after hps <| by
    have h := modeReboot_keeps u
    simp +decide [leaves_iff, LeavesBoard, LeavesPorts, LeavesHosts, LeavesRest, h]

/-! #### Of Machine/SetupSpace.lean -/

@[simp] theorem leaves_readReg {p a} (hps : within [.rc, .pairs, .pal, .margin] ps = true) : Leaves ps s (readReg u p a).1 ↔ Leaves ps s u :=
  leaves_after hps <| by
    obtain ⟨hp, hh, h⟩ := readReg_keeps u p a
    simp +decide [leaves_iff, LeavesBoard, hp.leaves, hh.leaves, LeavesRest, h]
@[simp] theorem leaves_w1pPort {p n off w} (hps : within [.out, .limits, .rc, .localEvents, .localLost, .pal, .margin, .power, .pd, .own, .vis,
      .devices, .eps, .nibs, .qps, .pcie, .ink, .cvis, .cviews, .cports, .func] ps = true) :
    Leaves ps s (w1pPort u p n off w) ↔ Leaves ps s u :=
  leaves_after hps <| by
    have h := w1pPort_keeps u p n off w
    simp +decide [leaves_iff, LeavesBoard, LeavesPorts, LeavesHosts, LeavesRest, h]
@[simp] theorem leaves_pageWrite {p r a w} (hps : within [.out, .freeCtr, .limits, .regs, .rc, .pal, .margin, .modes, .own, .vis, .eps, .nibs, .qps,
      .pcie, .timelines, .ink, .cvis] ps = true) :
    Leaves ps s (pageWrite u p r a w) ↔ Leaves ps s u :=
  leaves_after hps <| by
    have h := pageWrite_keeps u p r a w
    simp +decide [leaves_iff, LeavesBoard, LeavesPorts, LeavesHosts, LeavesRest, h]
@[simp] theorem leaves_setupWrite {p a w} (hps : within [.out, .freeCtr, .limits, .folioOn, .strokeBase, .resyncAt, .regs, .rc, .pairs, .writes,
      .staged, .rubric, .trustBySpi, .trustConfigured, .link, .localEvents, .localLost, .pal, .margin, .disc, .clusters, .engines, .regionTemp, .lanes, .modes, .img, .nor, .blot, .sealUnit, .input, .power, .pd, .ptp, .own, .vis, .devices, .eps, .nibs, .qps, .eth, .prp, .pcie, .timelines, .ink, .cvis, .cviews, .cports, .ligs, .func] ps = true) :
    Leaves ps s (setupWrite u p a w) ↔ Leaves ps s u :=
  leaves_after hps <| by
    have h := setupWrite_keeps u p a w
    simp +decide [leaves_iff, LeavesBoard, LeavesPorts, LeavesHosts, LeavesRest, h]

/-! #### Of Machine/RegisterCmds.lean -/

@[simp] theorem leaves_failReply {p a isWrite} (hps : within [.out, .func] ps = true) : Leaves ps s (failReply u p a isWrite) ↔ Leaves ps s u :=
  leaves_after hps <| by
    obtain ⟨hb, hh, h⟩ := failReply_keeps u p a isWrite
    simp +decide [leaves_iff, hb.leaves, LeavesPorts, hh.leaves, LeavesRest, h]
@[simp] theorem leaves_applyDerate (hps : within [.power] ps = true) : Leaves ps s (applyDerate u) ↔ Leaves ps s u :=
  leaves_after hps <| by
    obtain ⟨hb, hh, h⟩ := applyDerate_keeps u
    simp +decide [leaves_iff, hb.leaves, LeavesPorts, hh.leaves, LeavesRest, h]

/-! ### Writes of one field

They are met as pre-rules (`↓`), before the record of a state falls into its fields. -/

theorem leaves_pal {x} (hps : within [.pal] ps = true) : Leaves ps s { u with pal := x } ↔ Leaves ps s u :=
  leaves_after hps (by simp +decide [leaves_iff, LeavesBoard, LeavesPorts, LeavesHosts, LeavesRest])
theorem leaves_ink {x} (hps : within [.ink] ps = true) : Leaves ps s { u with ink := x } ↔ Leaves ps s u :=
  leaves_after hps (by simp +decide [leaves_iff, LeavesBoard, LeavesPorts, LeavesHosts, LeavesRest])
theorem leaves_vauxOk {x} (hps : within [.vauxOk] ps = true) : Leaves ps s { u with vauxOk := x } ↔ Leaves ps s u :=
  leaves_after hps (by simp +decide [leaves_iff, LeavesBoard, LeavesPorts, LeavesHosts, LeavesRest])
theorem leaves_resyncAt {x} (hps : within [.resyncAt] ps = true) : Leaves ps s { u with resyncAt := x } ↔ Leaves ps s u :=
  leaves_after hps (by simp +decide [leaves_iff, LeavesBoard, LeavesPorts, LeavesHosts, LeavesRest])
theorem leaves_lanes {x} (hps : within [.lanes] ps = true) : Leaves ps s { u with lanes := x } ↔ Leaves ps s u :=
  leaves_after hps (by simp +decide [leaves_iff, LeavesBoard, LeavesPorts, LeavesHosts, LeavesRest])
theorem leaves_link {x} (hps : within [.link] ps = true) : Leaves ps s { u with link := x } ↔ Leaves ps s u :=
  leaves_after hps (by simp +decide [leaves_iff, LeavesBoard, LeavesPorts, LeavesHosts, LeavesRest])
theorem leaves_prp {x} (hps : within [.prp] ps = true) : Leaves ps s { u with prp := x } ↔ Leaves ps s u :=
  leaves_after hps (by simp +decide [leaves_iff, LeavesBoard, LeavesPorts, LeavesHosts, LeavesRest])
theorem leaves_ptp {x} (hps : within [.ptp] ps = true) : Leaves ps s { u with ptp := x } ↔ Leaves ps s u :=
  leaves_after hps (by simp +decide [leaves_iff, LeavesBoard, LeavesPorts, LeavesHosts, LeavesRest])
theorem leaves_blot {x} (hps : within [.blot] ps = true) : Leaves ps s { u with blot := x } ↔ Leaves ps s u :=
  leaves_after hps (by simp +decide [leaves_iff, LeavesBoard, LeavesPorts, LeavesHosts, LeavesRest])
theorem leaves_engines {x} (hps : within [.engines] ps = true) : Leaves ps s { u with engines := x } ↔ Leaves ps s u :=
  leaves_after hps (by simp +decide [leaves_iff, LeavesBoard, LeavesPorts, LeavesHosts, LeavesRest])
theorem leaves_margin {x} (hps : within [.margin] ps = true) : Leaves ps s { u with margin := x } ↔ Leaves ps s u :=
  leaves_after hps (by simp +decide [leaves_iff, LeavesBoard, LeavesPorts, LeavesHosts, LeavesRest])
theorem leaves_modes {x} (hps : within [.modes] ps = true) : Leaves ps s { u with modes := x } ↔ Leaves ps s u :=
  leaves_after hps (by simp +decide [leaves_iff, LeavesBoard, LeavesPorts, LeavesHosts, LeavesRest])
@[simp] theorem leaves_limitMark {k} (hps : within [.limits] ps = true) : Leaves ps s (limitMark u k) ↔ Leaves ps s u :=
  leaves_after hps (by simp +decide [leaves_iff, LeavesBoard, LeavesPorts, LeavesHosts, LeavesRest, limitMark])
theorem leaves_modes_pal {x y} (hps : within [.modes, .pal] ps = true) : Leaves ps s { u with modes := x, pal := y } ↔ Leaves ps s u :=
  leaves_after hps (by simp +decide [leaves_iff, LeavesBoard, LeavesPorts, LeavesHosts, LeavesRest])

/-! ### The forms of a command -/

/-- The parts that a hard reset and the GoodCRC before it may change (R287, R289). -/
def heardParts : List Piece :=
  [.out, .limits, .rc, .localEvents, .localLost, .pal, .margin, .power, .pd, .own, .vis, .devices, .eps, .nibs, .qps, .pcie, .ink, .cvis, .cviews, .cports, .func]

/-- The parts that the checks of a ring's command and its completion may change (R108–R110). -/
def startParts : List Piece := [.out, .limits, .rc, .pal, .margin, .vis, .qps, .pcie, .ink]

theorem Leaves.widen (h : Leaves qs s u) (hps : within qs ps = true) : Leaves ps s u := fun p hp => h p (spared_of_within hps p hp)

theorem Leaves.ite {c : Prop} [Decidable c] {a b : State} (ha : Leaves ps s a) (hb : Leaves ps s b) : Leaves ps s (if c then a else b) :=
  leaves_ite.2 ⟨fun _ => ha, fun _ => hb⟩

theorem Leaves.when {c : Bool} {g : State → State} (h : Leaves ps s u) (hg : Leaves ps s (g u)) : Leaves ps s (when c u g) :=
  leaves_when.2 ⟨fun _ => hg, fun _ => h⟩

/-- A message of the partner: what its own effect leaves, if a hard reset leaves it. -/
theorem Leaves.heard {n id} {f : State → State} (hps : within heardParts ps = true) (hf : ∀ u, Leaves ps u (f u)) : Leaves ps s (heard s n id f) := by
  have hack : Leaves heardParts s (emit s (.pd n .goodCrc)) := by simp +decide [heardParts]
  have hnew (g : PortPd → PortPd) : Leaves heardParts s (setPd (emit s (.pd n .goodCrc)) n g) := by simp +decide [heardParts]
  have hreset (w : State) : Leaves heardParts w (startHardReset w n false) := by simp +decide [heardParts]
  exact .when .refl (.ite (hack.widen hps) (.ite ((hnew _).trans (hreset _) |>.widen hps) (((hnew _).widen hps).trans (hf _))))

/-- A command of a ring: what its own effect leaves, if its completion leaves it. -/
theorem Leaves.startOn {r e} {f : State → CmdEntry → PortId → State} (hps : within startParts ps = true) (hf : ∀ u e n, Leaves ps u (f u e n)) :
    Leaves ps s (startOn s r e f) := by
  have hmark : Leaves startParts s (markStarted s r e.slot) := by simp +decide [startParts]
  have hfail (code n) : Leaves ps s (finishCmd (markStarted s r e.slot) r e.slot code 0 n) := .widen (by simp +decide [startParts]) hps
  exact .ite (hfail _ _) (.ite (hfail _ _) (.ite (hfail _ _) ((hmark.widen hps).trans (hf _ _ _))))

theorem OnlyTouches.act {t f} (hf : ∀ u, Leaves ps u (f u)) : OnlyTouches ps s (act t s f) := ⟨t, f, rfl, hf⟩

/-- An event under its condition; the effect may read the state the condition was read in. -/
theorem OnlyTouches.event {t} {g : State → Bool} {f : State → State → State} (hf : ∀ u v, Leaves ps v (f u v)) :
    OnlyTouches ps s (Machine.act t s fun u => when (g u) u (f u)) := .act fun u => .when .refl (hf u u)

/-- A command through a PRIV register: its effect or the denial of R44. -/
theorem OnlyTouches.privCmd {t p a f} (hps : within [.rc, .pal] ps = true) (hf : ∀ u, Leaves ps u (f u)) : OnlyTouches ps s (privCmd t p a s f) :=
  .event fun _ w => .ite (hf w) ((leaves_privDenied hps).2 .refl)

/-- A command of a ring: its effect on the port it names, once it passes the checks of every command. -/
theorem OnlyTouches.runCmd {t r slot type pick f} (hps : within startParts ps = true) (hf : ∀ u e n, Leaves ps u (f u e n)) :
    OnlyTouches ps s (runCmd t r slot type pick s f) := .act fun _ => by
  split
  · exact .when .refl (.startOn hps hf)
  · exact .refl

/-- A message of the partner: its effect, once it is new. -/
theorem OnlyTouches.heard {t n id} {f : State → State} (hps : within heardParts ps = true) (hf : ∀ u, Leaves ps u (f u)) :
    OnlyTouches ps s (Machine.act t s fun u => heard u n id f) := .act fun _ => .heard hps hf

/-! ### Commands of Machine/PalimpsestCmds.lean -/

theorem OnlyTouches.execRecordCommit {t result} : OnlyTouches [.rc, .pal] s (execRecordCommit t result s) := .act fun _ => by
  split
  · simp +decide [↓leaves_pal]
  · refine .when .refl ?_
    split
    · simp +decide
    · simp +decide
    · dsimp only
      split <;> simp +decide [↓leaves_pal]
theorem OnlyTouches.execSectorRecycle {t ring ok} : OnlyTouches [.rc, .pal] s (execSectorRecycle t ring ok s) := .event fun _ _ => by
  dsimp only
  (repeat' split) <;> simp +decide [↓leaves_pal]
theorem OnlyTouches.execBucketRefill {t code port} : OnlyTouches [.rc, .pal] s (execBucketRefill t code port s) := .act fun _ => by
  split <;> simp +decide [↓leaves_pal]
theorem OnlyTouches.execSummaryPeriodClose {t} : OnlyTouches [.rc, .pal] s (execSummaryPeriodClose t s) := .event fun _ _ => by simp +decide [↓leaves_pal]
theorem OnlyTouches.execPalFreeze {t path} : OnlyTouches [.limits, .rc, .pal, .margin] s (execPalFreeze t path s) := .privCmd rfl fun _ => by simp +decide
theorem OnlyTouches.execPalUnfreeze {t path} : OnlyTouches [.limits, .rc, .pal, .margin] s (execPalUnfreeze t path s) := .privCmd rfl fun _ => by simp +decide
theorem OnlyTouches.execPalVerify {t path} : OnlyTouches [.rc, .pal] s (execPalVerify t path s) := .privCmd rfl fun _ => by simp +decide
theorem OnlyTouches.execPalVerifyDone {t} : OnlyTouches [.pal] s (execPalVerifyDone t s) := .event fun _ _ => by simp +decide [↓leaves_pal]
theorem OnlyTouches.execPalLoad {t path} : OnlyTouches [.rc, .pal] s (execPalLoad t path s) := .privCmd rfl fun _ => by simp +decide
theorem OnlyTouches.execPalNext {t path} : OnlyTouches [.regs, .rc, .pal] s (execPalNext t path s) := .privCmd rfl fun _ => by simp +decide
theorem OnlyTouches.execPalPrev {t path} : OnlyTouches [.regs, .rc, .pal] s (execPalPrev t path s) := .privCmd rfl fun _ => by simp +decide
theorem OnlyTouches.execRecordLoadReady {t} : OnlyTouches [.pal] s (execRecordLoadReady t s) := .event fun _ _ => by
  dsimp only
  split
  · simp +decide [↓leaves_pal]
  · refine .when .refl ?_
    split <;> simp +decide [↓leaves_pal]
theorem OnlyTouches.execGapScanComplete {t} :
    OnlyTouches [.limits, .rc, .pal, .margin] s (execGapScanComplete t s) := .event fun _ _ => by simp +decide [↓leaves_pal]

/-! ### Commands of Machine/Inkwell.lean -/

theorem OnlyTouches.execBankWindow {t} : OnlyTouches [.ink] s (execBankWindow t s) := .event fun _ _ => by simp +decide [↓leaves_ink]
theorem OnlyTouches.execConflictWindow {t grants demands} :
    OnlyTouches [.freeCtr, .limits, .rc, .pal, .margin, .ink] s (execConflictWindow t grants demands s) := .event fun _ _ => by
  dsimp only
  split <;> simp +decide [↓leaves_ink]

/-! ### Commands of Machine/Rings.lean -/

theorem OnlyTouches.execNoticeDelivery {t v} :
    OnlyTouches [.out, .limits, .rc, .pal, .margin, .vis, .qps, .pcie] s (execNoticeDelivery t v s) := .event fun _ _ => by simp +decide
theorem OnlyTouches.execMsixIntervalExpiry {t v} : OnlyTouches [.out, .vis, .pcie] s (execMsixIntervalExpiry t v s) := .event fun _ _ => by simp +decide
theorem OnlyTouches.execRdmaAckReceived {t v upTo all} :
    OnlyTouches [.out, .limits, .rc, .pal, .vis, .qps, .pcie] s (execRdmaAckReceived t v upTo all s) := .event fun _ _ => by
  dsimp only
  split <;> simp +decide

/-! ### Commands of Machine/InputCmds.lean -/

theorem OnlyTouches.execVinPreRise {t vin} : OnlyTouches [.modes, .input] s (execVinPreRise t vin s) := .event fun _ _ => by simp +decide
theorem OnlyTouches.execVinPreCollapse {t} :
    OnlyTouches [.regs, .localEvents, .localLost, .modes, .blot, .input, .vauxOk, .power] s (execVinPreCollapse t s) := .event fun _ _ => by simp +decide
theorem OnlyTouches.execSeatStable {t vin} : OnlyTouches [.modes, .input] s (execSeatStable t vin s) := .event fun _ _ => by simp +decide
theorem OnlyTouches.execSeatRelease {t pinB} :
    OnlyTouches [.out, .limits, .rc, .localEvents, .localLost, .pal, .margin, .modes, .img, .input, .power, .pd, .own, .vis, .devices, .eps, .nibs,
      .qps, .pcie, .ink, .cvis, .cviews, .cports, .func] s (execSeatRelease t pinB s) :=
  .event fun _ _ => by
  (repeat' split) <;> simp +decide
theorem OnlyTouches.execInrushDone {t vin vout} : OnlyTouches [.modes, .input] s (execInrushDone t vin vout s) := .event fun _ _ => by simp +decide
theorem OnlyTouches.execInrushTimerExpiry {t} :
    OnlyTouches [.out, .limits, .rc, .localEvents, .localLost, .pal, .margin, .modes, .img, .input, .power, .pd, .own, .vis, .devices, .eps, .nibs,
      .qps, .pcie, .ink, .cvis, .cviews, .cports, .func] s (execInrushTimerExpiry t s) :=
  .event fun _ _ => by simp +decide
theorem OnlyTouches.execInputLoss {t cause vin amps} :
    OnlyTouches [.out, .limits, .rc, .localEvents, .localLost, .pal, .margin, .modes, .img, .input, .power, .pd, .own, .vis, .devices, .eps, .nibs,
      .qps, .pcie, .ink, .cvis, .cviews, .cports, .func] s (execInputLoss t cause vin amps s) :=
  .event fun _ _ => by simp +decide
theorem OnlyTouches.execInputReturn {t vin} : OnlyTouches [.modes, .input] s (execInputReturn t vin s) := .event fun _ _ => by simp +decide
theorem OnlyTouches.execInputRetryWaitExpiry {t vin} :
    OnlyTouches [.rc, .localEvents, .localLost, .pal, .modes, .input] s (execInputRetryWaitExpiry t vin s) :=
  .event fun _ _ => by simp +decide
theorem OnlyTouches.execInputRetryClear {t} : OnlyTouches [.input] s (execInputRetryClear t s) := .event fun _ _ => by simp +decide
theorem OnlyTouches.execInClear {t path} : OnlyTouches [.rc, .pal, .modes, .input] s (execInClear t path s) := .privCmd rfl fun _ => by simp +decide
theorem OnlyTouches.execInClearFetFail {t path} : OnlyTouches [.rc, .pal, .input] s (execInClearFetFail t path s) := .privCmd rfl fun _ => by simp +decide
theorem OnlyTouches.execPgRelease {t vout} : OnlyTouches [.input] s (execPgRelease t vout s) := .event fun _ _ => by simp +decide
theorem OnlyTouches.execPgFall {t vout} : OnlyTouches [.input] s (execPgFall t vout s) := .event fun _ _ => by simp +decide
theorem OnlyTouches.execEarlyWarning {t vin} :
    OnlyTouches [.out, .limits, .rc, .localEvents, .localLost, .pal, .margin, .modes, .input, .power, .pd, .own, .vis, .devices, .eps, .nibs, .qps,
      .pcie, .ink, .cvis, .cviews, .cports] s (execEarlyWarning t vin s) :=
  .event fun _ _ => by
  split <;> simp +decide
theorem OnlyTouches.execEarlyWarningClear {t vin} :
    OnlyTouches [.out, .limits, .rc, .pal, .margin, .modes, .input, .power, .pd, .own, .vis, .devices, .eps, .nibs, .qps, .pcie, .ink, .cvis,
      .cviews, .cports] s (execEarlyWarningClear t vin s) :=
  .event fun _ _ => by
  split <;> simp +decide [↓leaves_pal]
theorem OnlyTouches.execShedWaitExpiry {t port} :
    OnlyTouches [.out, .limits, .rc, .pal, .margin, .power, .pd, .own, .vis, .devices, .eps, .nibs, .qps, .pcie, .ink, .cviews,
      .cports] s (execShedWaitExpiry t port s) :=
  .event fun _ _ => by simp +decide
theorem OnlyTouches.execVauxFall {t} :
    OnlyTouches [.out, .limits, .rc, .localEvents, .localLost, .pal, .margin, .vauxOk, .power, .pd, .own, .vis, .devices, .eps, .nibs, .qps, .pcie,
      .ink, .cviews, .cports] s (execVauxFall t s) :=
  .event fun _ _ => by simp +decide [↓leaves_vauxOk]
theorem OnlyTouches.execVauxRecover {t} : OnlyTouches [.vauxOk] s (execVauxRecover t s) := .event fun _ _ => by simp +decide [↓leaves_vauxOk]

/-! ### Commands of Machine/PathCmds.lean -/

theorem OnlyTouches.execConverterReady {t port isp} : OnlyTouches [.power] s (execConverterReady t port isp s) := .event fun _ _ => by
  split <;> simp +decide
theorem OnlyTouches.execPreswitchCheckDone {t port isp mid} : OnlyTouches [.power, .pd] s (execPreswitchCheckDone t port isp mid s) :=
  .event fun _ _ => by simp +decide
theorem OnlyTouches.execVbusSwitchOn {t port isp} : OnlyTouches [.power, .pd] s (execVbusSwitchOn t port isp s) := .event fun _ _ => by simp +decide
theorem OnlyTouches.execVsetTrim {t port isp} : OnlyTouches [.power] s (execVsetTrim t port isp s) := .event fun _ _ => by simp +decide
theorem OnlyTouches.execBreakerEval {t path sample v1 v2 v3} :
    OnlyTouches [.out, .limits, .rc, .localEvents, .localLost, .pal, .margin, .modes, .img, .input, .power, .pd, .own, .vis, .devices, .eps, .nibs,
      .qps, .pcie, .ink, .cvis, .cviews, .cports, .func] s (execBreakerEval t path sample v1 v2 v3 s) :=
  .event fun _ _ => by
  split <;> simp +decide
theorem OnlyTouches.execFastTrip {t path} :
    OnlyTouches [.out, .limits, .rc, .localEvents, .localLost, .pal, .margin, .modes, .img, .input, .power, .pd, .own, .vis, .devices, .eps, .nibs,
      .qps, .pcie, .ink, .cvis, .cviews, .cports, .func] s (execFastTrip t path s) :=
  .act fun _ => by
  split <;> simp +decide
theorem OnlyTouches.execPpsCurrentLimitStep {t port amps} :
    OnlyTouches [.power] s (execPpsCurrentLimitStep t port amps s) := .event fun _ _ => by simp +decide
theorem OnlyTouches.execThermalUpdate {t port reading meanSquare dieTemp} :
    OnlyTouches [.out, .limits, .rc, .localEvents, .localLost, .pal, .margin, .power, .pd, .own, .vis, .devices, .eps, .nibs, .qps, .pcie, .ink,
      .cviews, .cports] s (execThermalUpdate t port reading meanSquare dieTemp s) :=
  .event fun _ _ => by simp +decide
theorem OnlyTouches.execPassDeviceFault {t path check} :
    OnlyTouches [.out, .freeCtr, .limits, .rc, .localEvents, .localLost, .pal, .margin, .modes, .blot, .input, .power, .pd, .own, .vis, .devices,
      .eps, .nibs, .qps, .pcie, .ink, .cvis, .cviews, .cports] s (execPassDeviceFault t path check s) :=
  .event fun _ _ => by
  split <;> simp +decide
theorem OnlyTouches.execClearFetFail {t path port} : OnlyTouches [.rc, .pal, .power] s (execClearFetFail t path port s) :=
  .privCmd rfl fun _ => by simp +decide
theorem OnlyTouches.execFetClearCheckEnd {t path failed} :
    OnlyTouches [.out, .limits, .rc, .pal, .margin, .blot, .input, .power, .pd, .own, .vis, .devices, .eps, .nibs, .qps, .pcie, .ink, .cviews,
      .cports] s (execFetClearCheckEnd t path failed s) :=
  .act fun _ => by
  (repeat' split) <;> simp +decide
theorem OnlyTouches.execFetClearWindowTimeout {t port} : OnlyTouches [.power] s (execFetClearWindowTimeout t port s) := .act fun _ => by
  split <;> simp +decide
theorem OnlyTouches.execClearLatch {t path port} :
    OnlyTouches [.out, .limits, .rc, .pal, .margin, .power, .pd, .own, .vis, .devices, .eps, .nibs, .qps, .pcie, .ink, .cviews,
      .cports] s (execClearLatch t path port s) :=
  .privCmd rfl fun _ => by simp +decide
theorem OnlyTouches.execPortRetry {t port} : OnlyTouches [.limits, .rc, .pal, .margin, .power, .pd, .cviews] s (execPortRetry t port s) := .act fun _ => by
  split <;> simp +decide
theorem OnlyTouches.execPortRetryClear {t port} : OnlyTouches [.power] s (execPortRetryClear t port s) := .event fun _ _ => by simp +decide
theorem OnlyTouches.execShareIncreaseApply {t port} : OnlyTouches [.limits, .rc, .pal, .margin, .power, .pd] s (execShareIncreaseApply t port s) :=
  .event fun _ _ => by simp +decide
theorem OnlyTouches.execShedRestore {t port} : OnlyTouches [.limits, .rc, .pal, .margin, .power, .pd, .cviews] s (execShedRestore t port s) :=
  .event fun _ _ => by simp +decide

/-! ### Commands of Machine/OwnershipCmds.lean -/

theorem OnlyTouches.execOwnAssign {t path port value} : OnlyTouches [.rc, .pal, .own] s (execOwnAssign t path port value s) :=
  .privCmd rfl fun _ => by simp +decide
theorem OnlyTouches.execLeaseExpiry {t port} : OnlyTouches [.own] s (execLeaseExpiry t port s) := .act fun _ => by
  dsimp only
  split <;> simp +decide
theorem OnlyTouches.execPortDecision {t port} :
    OnlyTouches [.out, .limits, .regs, .rc, .rubric, .pal, .margin, .power, .pd, .own, .vis, .devices, .eps, .nibs, .qps, .pcie, .ink, .cviews,
      .cports, .ligs, .func] s (execPortDecision t port s) :=
  .event fun _ _ => by simp +decide
theorem OnlyTouches.execHandoverComplete {t port} :
    OnlyTouches [.out, .limits, .rc, .pal, .margin, .own, .vis, .eps, .nibs, .qps, .pcie, .ink, .ligs] s (execHandoverComplete t port s) :=
  .event fun _ _ => by simp +decide
theorem OnlyTouches.execOrphanKeptEntry {t port} :
    OnlyTouches [.out, .limits, .rc, .pal, .margin, .own, .vis, .eps, .nibs, .qps, .pcie, .ink, .ligs] s (execOrphanKeptEntry t port s) :=
  .event fun _ _ => by simp +decide
theorem OnlyTouches.execOrphanOffEntry {t port} :
    OnlyTouches [.out, .limits, .rc, .pal, .margin, .power, .pd, .own, .vis, .devices, .eps, .nibs, .qps, .pcie, .ink, .cvis, .cviews, .cports,
      .ligs, .func] s (execOrphanOffEntry t port s) :=
  .event fun _ _ => by simp +decide
theorem OnlyTouches.execResettingComplete {t port ssFirst} :
    OnlyTouches [.out, .limits, .rc, .pal, .margin, .power, .pd, .own, .vis, .devices, .eps, .nibs, .qps, .pcie, .ink, .cvis, .cviews, .cports,
      .ligs, .func] s (execResettingComplete t port ssFirst s) :=
  .event fun _ _ => by simp +decide

/-! ### Commands of Machine/Timelines.lean -/

theorem OnlyTouches.execFreeRunSet {t v} :
    OnlyTouches [.limits, .regs, .rc, .pal, .margin, .timelines] s (execFreeRunSet t v s) := .event fun _ _ => by simp +decide

/-! ### Commands of Machine/Transfers.lean -/

theorem OnlyTouches.execBlockGrant {t owner ctx need} :
    OnlyTouches [.out, .freeCtr, .limits, .rc, .pal, .margin, .own, .vis, .eps, .nibs, .qps, .pcie, .ink] s (execBlockGrant t owner ctx need s) :=
  .event fun _ _ => by
  split <;> simp +decide

/-! ### Commands of Machine/RingCmds.lean -/

theorem OnlyTouches.execViEnable {t v value} :
    OnlyTouches [.out, .limits, .regs, .rc, .pal, .margin, .own, .vis, .eps, .nibs, .qps, .pcie, .timelines, .ink] s (execViEnable t v value s) :=
  .event fun _ _ => by simp +decide
theorem OnlyTouches.execViDisable {t v value} :
    OnlyTouches [.out, .limits, .regs, .rc, .pal, .margin, .own, .vis, .eps, .nibs, .qps, .pcie, .timelines, .ink] s (execViDisable t v value s) :=
  .event fun _ _ => by simp +decide
theorem OnlyTouches.execViConfigSend {t q bytes} :
    OnlyTouches [.out, .limits, .regs, .rc, .pal, .margin, .own, .vis, .eps, .nibs, .qps, .pcie, .timelines, .ink, .cvis] s (execViConfigSend t q bytes s) :=
  .event fun _ _ => by simp +decide
theorem OnlyTouches.execCmdDb {t v value} :
    OnlyTouches [.out, .freeCtr, .limits, .rc, .pal, .margin, .modes, .own, .vis, .eps, .nibs, .qps, .pcie, .ink, .cvis] s (execCmdDb t v value s) :=
  .event fun _ _ => by simp +decide
theorem OnlyTouches.execEvtDb {t v value} :
    OnlyTouches [.out, .freeCtr, .limits, .rc, .pal, .margin, .modes, .own, .vis, .eps, .nibs, .qps, .pcie, .ink, .cvis] s (execEvtDb t v value s) :=
  .event fun _ _ => by simp +decide
theorem OnlyTouches.execLeaseDb {t v value} :
    OnlyTouches [.out, .freeCtr, .limits, .rc, .pal, .margin, .modes, .own, .vis, .eps, .nibs, .qps, .pcie, .ink, .cvis] s (execLeaseDb t v value s) :=
  .event fun _ _ => by simp +decide
theorem OnlyTouches.execTransferDb {t v slot value} :
    OnlyTouches [.out, .freeCtr, .limits, .rc, .pal, .margin, .modes, .own, .vis, .eps, .nibs, .qps, .pcie, .ink,
      .cvis] s (execTransferDb t v slot value s) :=
  .event fun _ _ => by simp +decide
theorem OnlyTouches.execReservedDoorbell {t v offset} :
    OnlyTouches [.out, .freeCtr, .limits, .rc, .pal, .margin, .modes, .own, .vis, .eps, .nibs, .qps, .pcie, .ink,
      .cvis] s (execReservedDoorbell t v offset s) :=
  .event fun _ _ => by simp +decide
theorem OnlyTouches.execRingFetchComplete {t v ring entries failed} :
    OnlyTouches [.out, .freeCtr, .limits, .rc, .pal, .margin, .modes, .own, .vis, .eps, .nibs, .qps, .pcie, .ink,
      .cvis] s (execRingFetchComplete t v ring entries failed s) :=
  .event fun _ _ => by simp +decide

/-! ### Commands of Machine/StrokeCmds.lean -/

theorem OnlyTouches.execStrokeResync {t} : OnlyTouches [.resyncAt] s (execStrokeResync t s) := .event fun _ _ => by simp +decide [↓leaves_resyncAt]
theorem OnlyTouches.execTimeSample {t path} : OnlyTouches [.rc, .pal, .disc] s (execTimeSample t path s) := .privCmd rfl fun _ => by simp +decide
theorem OnlyTouches.execDvfsUpdate {t cluster need0 need1 need2 need3 slack stretches} :
    OnlyTouches [.rc, .clusters, .engines] s (execDvfsUpdate t cluster need0 need1 need2 need3 slack stretches s) :=
  .event fun _ _ => by simp +decide
theorem OnlyTouches.execDvfsVoltageDown {t cluster slack overV temp} :
    OnlyTouches [.rc, .pal, .clusters] s (execDvfsVoltageDown t cluster slack overV temp s) :=
  .event fun _ _ => by simp +decide
theorem OnlyTouches.execRegionTempCap {t region temp other} :
    OnlyTouches [.rc, .pal, .clusters, .engines, .regionTemp] s (execRegionTempCap t region temp other s) :=
  .act fun _ => by simp +decide
theorem OnlyTouches.execRegionTempUncap {t region temp} : OnlyTouches [.clusters, .regionTemp] s (execRegionTempUncap t region temp s) :=
  .event fun _ _ => by simp +decide
theorem OnlyTouches.execEqAdaptStep {t lane coef up height width} : OnlyTouches [.lanes] s (execEqAdaptStep t lane coef up height width s) :=
  .event fun _ _ => by simp +decide [↓leaves_lanes]

/-! ### Commands of Machine/Transport.lean -/

theorem OnlyTouches.execViBindWrite {t path v value} :
    OnlyTouches [.out, .limits, .regs, .rc, .rubric, .pal, .margin, .own, .vis, .nibs, .qps, .timelines, .ink, .cvis] s (execViBindWrite t path v value s) :=
  .privCmd rfl fun _ => by simp +decide
theorem OnlyTouches.execFlr {t fn} :
    OnlyTouches [.limits, .regs, .rc, .rubric, .trustBySpi, .pal, .margin, .own, .vis, .nibs, .pcie, .ink, .cvis] s (execFlr t fn s) :=
  .event fun _ _ => by simp +decide
theorem OnlyTouches.execFlrComplete {t fn msixOn} : OnlyTouches [.own, .pcie] s (execFlrComplete t fn msixOn s) := .event fun _ _ => by simp +decide
theorem OnlyTouches.execVfEnableClear {t numVfs} :
    OnlyTouches [.limits, .regs, .rc, .pal, .margin, .own, .vis, .nibs, .pcie, .ink, .cvis] s (execVfEnableClear t numVfs s) :=
  .event fun _ _ => by simp +decide
theorem OnlyTouches.execVfEnableSet {t numVfs} : OnlyTouches [.own, .pcie] s (execVfEnableSet t numVfs s) := .event fun _ _ => by simp +decide
theorem OnlyTouches.execPcieLinkDown {t} :
    OnlyTouches [.limits, .regs, .rc, .pal, .margin, .own, .vis, .nibs, .pcie, .ink, .cvis] s (execPcieLinkDown t s) := .event fun _ _ => by simp +decide
theorem OnlyTouches.execPcieLinkUp {t speed width bme msixOn ptm} : OnlyTouches [.link, .own, .pcie] s (execPcieLinkUp t speed width bme msixOn ptm s) :=
  .event fun _ _ => by simp +decide
theorem OnlyTouches.execBmeClear {t fn} :
    OnlyTouches [.out, .limits, .rc, .pal, .margin, .own, .vis, .eps, .nibs, .qps, .pcie, .ink] s (execBmeClear t fn s) := .event fun _ _ => by
  split <;> simp +decide
theorem OnlyTouches.execBmeSet {t fn} : OnlyTouches [.limits, .rc, .pal, .margin, .own, .vis, .eps, .pcie] s (execBmeSet t fn s) := .event fun _ _ => by
  split <;> simp +decide
theorem OnlyTouches.execPtmRequest {t ok ownerNs phase} :
    OnlyTouches [.out, .limits, .rc, .pal, .margin, .pcie, .timelines] s (execPtmRequest t ok ownerNs phase s) :=
  .event fun _ _ => by simp +decide
theorem OnlyTouches.execEthFrameReceived {t portB frame} :
    OnlyTouches [.out, .limits, .rc, .link, .pal, .margin, .qps, .eth, .prp] s (execEthFrameReceived t portB frame s) :=
  .event fun _ _ => by
  refine .ite (by simp +decide) ?_
  split
  · simp +decide [↓leaves_prp]
  · exact .ite ((leaves_prp rfl).2 (by simp +decide)) (by simp +decide)
theorem OnlyTouches.execPrpEntryExpiry {t} : OnlyTouches [.prp] s (execPrpEntryExpiry t s) := .event fun _ _ => by simp +decide [↓leaves_prp]
theorem OnlyTouches.execPrpSupervisionSend {t} : OnlyTouches [.out, .prp] s (execPrpSupervisionSend t s) := .event fun _ _ => by simp +decide [↓leaves_prp]
theorem OnlyTouches.execLanDown {t portB lockLost} : OnlyTouches [.limits, .rc, .link, .pal, .margin, .eth] s (execLanDown t portB lockLost s) :=
  .event fun _ _ => by simp +decide
theorem OnlyTouches.execPfcFrameReceived {t portB enable xoff} :
    OnlyTouches [.eth] s (execPfcFrameReceived t portB enable xoff s) := .event fun _ _ => by simp +decide
theorem OnlyTouches.execCmReq {t portB req} : OnlyTouches [.out, .freeCtr, .qps] s (execCmReq t portB req s) := .event fun _ _ => by
  split <;> simp +decide
theorem OnlyTouches.execRepRetryTimeout {t q} : OnlyTouches [.out, .rc, .pal, .qps] s (execRepRetryTimeout t q s) := .event fun _ _ => by simp +decide
theorem OnlyTouches.execCmRtu {t q hostMac} : OnlyTouches [.out, .limits, .rc, .pal, .margin, .own, .vis, .eps, .qps] s (execCmRtu t q hostMac s) :=
  .event fun _ _ => by simp +decide
theorem OnlyTouches.execCmDreq {t q} :
    OnlyTouches [.out, .limits, .regs, .rc, .pal, .margin, .own, .vis, .nibs, .qps, .ink, .cvis] s (execCmDreq t q s) := .event fun _ _ => by simp +decide
theorem OnlyTouches.execRoceDoorbellWrite {t q rkey addr bytes} :
    OnlyTouches [.out, .freeCtr, .limits, .regs, .rc, .pal, .margin, .modes, .own, .vis, .eps, .nibs, .qps, .pcie, .ink,
      .cvis] s (execRoceDoorbellWrite t q rkey addr bytes s) :=
  .event fun _ _ => by simp +decide
theorem OnlyTouches.execAckTimeout {t q} :
    OnlyTouches [.out, .limits, .rc, .pal, .margin, .own, .vis, .eps, .nibs, .qps, .pcie, .ink] s (execAckTimeout t q s) := .act fun _ => by
  dsimp only
  split <;> simp +decide
theorem OnlyTouches.execNakReceived {t q} :
    OnlyTouches [.limits, .regs, .rc, .pal, .margin, .own, .vis, .nibs, .qps, .ink, .cvis] s (execNakReceived t q s) := .event fun _ _ => by simp +decide
theorem OnlyTouches.execPsnSequenceNak {t q} : OnlyTouches [.out, .qps] s (execPsnSequenceNak t q s) := .event fun _ _ => by simp +decide
theorem OnlyTouches.execQpReset {t path q} :
    OnlyTouches [.limits, .regs, .rc, .pal, .margin, .own, .vis, .nibs, .qps, .ink, .cvis] s (execQpReset t path q s) := .privCmd rfl fun _ => by simp +decide
theorem OnlyTouches.execUnreachableHoldExpiry {t v} : OnlyTouches [.vis, .ink] s (execUnreachableHoldExpiry t v s) := .event fun _ _ => by simp +decide
theorem OnlyTouches.execCnpReceived {t q} : OnlyTouches [.qps] s (execCnpReceived t q s) := .event fun _ _ => by simp +decide
theorem OnlyTouches.execCcRateIncrease {t q} : OnlyTouches [.qps] s (execCcRateIncrease t q s) := .event fun _ _ => by simp +decide
theorem OnlyTouches.execPtpSyncAccepted {t timeNs offset masters phase} :
    OnlyTouches [.limits, .rc, .pal, .margin, .disc, .ptp, .timelines] s (execPtpSyncAccepted t timeNs offset masters phase s) :=
  .event fun _ _ => by simp +decide [↓leaves_ptp]
theorem OnlyTouches.execPtpLockTimeout {t} : OnlyTouches [.limits, .rc, .pal, .margin, .disc, .ptp, .timelines] s (execPtpLockTimeout t s) :=
  .event fun _ _ => by simp +decide [↓leaves_ptp]
theorem OnlyTouches.execPortSlewComplete {t port} : OnlyTouches [.nibs] s (execPortSlewComplete t port s) := .event fun _ _ => by
  split <;> simp +decide

/-! ### Commands of Machine/FaultCmds.lean -/

theorem OnlyTouches.execEccCorrected {t site} :
    OnlyTouches [.limits, .rc, .pal, .margin, .blot] s (execEccCorrected t site s) := .event fun _ _ => by simp +decide
theorem OnlyTouches.execEccWindow {t} : OnlyTouches [.blot] s (execEccWindow t s) := .event fun _ _ => by simp +decide [↓leaves_blot]
theorem OnlyTouches.execWatchdogExpiry {t engine} :
    OnlyTouches [.out, .limits, .rc, .pal, .margin, .clusters, .engines, .modes, .blot, .power, .pd, .own, .vis, .devices, .eps, .nibs, .qps, .pcie,
      .ink, .cvis, .cviews, .cports, .func] s (execWatchdogExpiry t engine s) :=
  .event fun _ _ => by simp +decide
theorem OnlyTouches.execEngineRestartComplete {t engine} :
    OnlyTouches [.engines] s (execEngineRestartComplete t engine s) := .event fun _ _ => by simp +decide [↓leaves_engines]
theorem OnlyTouches.execEccUncorrectable {t site} :
    OnlyTouches [.out, .limits, .regs, .rc, .pal, .margin, .clusters, .engines, .modes, .blot, .power, .pd, .own, .vis, .devices, .eps, .nibs, .qps,
      .prp, .pcie, .timelines, .ink, .cvis, .cviews, .cports, .ligs, .func] s (execEccUncorrectable t site s) :=
  .event fun _ _ => by simp +decide
theorem OnlyTouches.execDescriptorStoreReloaded {t} :
    OnlyTouches [.blot] s (execDescriptorStoreReloaded t s) := .event fun _ _ => by simp +decide [↓leaves_blot]
theorem OnlyTouches.execKeyReloaded {t v} : OnlyTouches [.blot] s (execKeyReloaded t v s) := .event fun _ _ => by simp +decide [↓leaves_blot]
theorem OnlyTouches.execTemperatureExceeded {t place temp} :
    OnlyTouches [.out, .limits, .rc, .pal, .margin, .clusters, .modes, .blot, .power, .pd, .own, .vis, .devices, .eps, .nibs, .qps, .pcie, .ink,
      .cvis, .cviews, .cports] s (execTemperatureExceeded t place temp s) :=
  .act fun _ => by simp +decide
theorem OnlyTouches.execTemperatureCleared {t place temp} : OnlyTouches [.clusters, .blot] s (execTemperatureCleared t place temp s) :=
  .event fun _ _ => by simp +decide [↓leaves_blot]
theorem OnlyTouches.execQuarExit {t path} :
    OnlyTouches [.out, .limits, .rc, .pal, .margin, .modes, .blot, .power, .pd, .own, .vis, .devices, .eps, .nibs, .qps, .pcie, .ink, .cvis,
      .cviews, .cports] s (execQuarExit t path s) :=
  .privCmd rfl fun _ => by simp +decide
theorem OnlyTouches.execAdvanceFloor {t path} : OnlyTouches [.rc, .pal, .sealUnit] s (execAdvanceFloor t path s) := .privCmd rfl fun _ => by simp +decide
theorem OnlyTouches.execReturnArm {t path} : OnlyTouches [.rc, .pal, .sealUnit] s (execReturnArm t path s) := .privCmd rfl fun _ => by simp +decide
theorem OnlyTouches.execReturnDisarm {t path} : OnlyTouches [.rc, .pal, .sealUnit] s (execReturnDisarm t path s) := .privCmd rfl fun _ => by simp +decide
theorem OnlyTouches.execReturnArmLapse {t} : OnlyTouches [.sealUnit] s (execReturnArmLapse t s) := .event fun _ _ => by simp +decide
theorem OnlyTouches.execKeyLoad {t path v} : OnlyTouches [.rc, .pal, .sealUnit] s (execKeyLoad t path v s) := .privCmd rfl fun _ => by simp +decide
theorem OnlyTouches.execKeyWithdraw {t path v} : OnlyTouches [.rc, .pal, .sealUnit] s (execKeyWithdraw t path v s) := .privCmd rfl fun _ => by simp +decide
theorem OnlyTouches.execFuseOwner {t path} : OnlyTouches [.rc, .pal, .sealUnit] s (execFuseOwner t path s) := .privCmd rfl fun _ => by simp +decide
theorem OnlyTouches.execKeySetCommitted {t ok} :
    OnlyTouches [.out, .limits, .regs, .rc, .pal, .margin, .nor, .sealUnit, .own, .vis, .nibs, .qps, .ink, .cvis] s (execKeySetCommitted t ok s) :=
  .act fun _ => by
  split <;> simp +decide
theorem OnlyTouches.execGateNonceRead {t} : OnlyTouches [.out, .freeCtr, .sealUnit] s (execGateNonceRead t s) := .event fun _ _ => by simp +decide
theorem OnlyTouches.execGateAuthorisation {t nonce uid scope} : OnlyTouches [.out, .sealUnit] s (execGateAuthorisation t nonce uid scope s) :=
  .event fun _ _ => by simp +decide
theorem OnlyTouches.execGateVerifyDone {t signed} :
    OnlyTouches [.out, .limits, .regs, .rc, .rubric, .pal, .margin, .modes, .nor, .blot, .sealUnit, .power, .pd, .own, .vis, .devices, .eps, .nibs,
      .qps, .eth, .pcie, .ink, .cvis, .cviews, .cports, .func] s (execGateVerifyDone t signed s) :=
  .act fun _ => by
  split <;> simp +decide
theorem OnlyTouches.execGateNonceExpiry {t} : OnlyTouches [.sealUnit] s (execGateNonceExpiry t s) := .event fun _ _ => by simp +decide

/-! ### Commands of Machine/HubCmds.lean -/

theorem OnlyTouches.execGetHubStatus {t c} : OnlyTouches [.out] s (execGetHubStatus t c s) := .event fun _ _ => by simp +decide
theorem OnlyTouches.execClearHubFeature {t c feature} : OnlyTouches [.out, .cvis] s (execClearHubFeature t c feature s) := .event fun _ _ => by simp +decide
theorem OnlyTouches.execSetHubFeature {t c} : OnlyTouches [.out] s (execSetHubFeature t c s) := .event fun _ _ => by simp +decide
theorem OnlyTouches.execGetPortStatus {t c n ss} : OnlyTouches [.out] s (execGetPortStatus t c n ss s) := .event fun _ _ => by simp +decide
theorem OnlyTouches.execSetPortReset {t c n ss} : OnlyTouches [.out, .nibs, .cviews, .cports, .func] s (execSetPortReset t c n ss s) :=
  .event fun _ _ => by simp +decide [portReq]
theorem OnlyTouches.execClassicPortResetEnd {t n} : OnlyTouches [.out, .nibs, .cviews, .cports, .func] s (execClassicPortResetEnd t n s) := .act fun _ => by
  split <;> simp +decide
theorem OnlyTouches.execSetBhPortReset {t c n} :
    OnlyTouches [.out, .nibs, .cviews, .cports, .func] s (execSetBhPortReset t c n s) := .event fun _ _ => by simp +decide [portReq]
theorem OnlyTouches.execSsPortResetTimeout {t n} : OnlyTouches [.out, .nibs, .cviews, .cports] s (execSsPortResetTimeout t n s) := .act fun _ => by
  split <;> simp +decide
theorem OnlyTouches.execSetPortSuspend {t c n} : OnlyTouches [.out, .nibs, .cviews] s (execSetPortSuspend t c n s) :=
  .event fun _ _ => by simp +decide [portReq]
theorem OnlyTouches.execClearPortSuspend {t c n} : OnlyTouches [.out, .nibs] s (execClearPortSuspend t c n s) := .event fun _ _ => by simp +decide [portReq]
theorem OnlyTouches.execClearPortEnable {t c n} : OnlyTouches [.out, .cviews] s (execClearPortEnable t c n s) := .event fun _ _ => by simp +decide [portReq]
theorem OnlyTouches.execSetPortPower {t c n} : OnlyTouches [.out, .power, .cviews] s (execSetPortPower t c n s) := .event fun _ _ => by simp +decide [portReq]
theorem OnlyTouches.execClearPortPower {t c n} : OnlyTouches [.out, .power, .nibs, .cviews, .cports] s (execClearPortPower t c n s) :=
  .event fun _ _ => by simp +decide [portReq]
theorem OnlyTouches.execSetPortTest {t c n} : OnlyTouches [.out, .cviews, .cports] s (execSetPortTest t c n s) := .event fun _ _ => by simp +decide [portReq]
theorem OnlyTouches.execSetPortIndicator {t c _n} : OnlyTouches [.out] s (execSetPortIndicator t c _n s) := .event fun _ _ => by simp +decide
theorem OnlyTouches.execSetPortLinkState {t c n state} : OnlyTouches [.out, .nibs, .cviews] s (execSetPortLinkState t c n state s) :=
  .event fun _ _ => by simp +decide [portReq]
theorem OnlyTouches.execSetPortLinkPmFeature {t c n feature value} : OnlyTouches [.out, .cviews] s (execSetPortLinkPmFeature t c n feature value s) :=
  .event fun _ _ => by simp +decide [portReq]
theorem OnlyTouches.execClearPortChange {t c n ss bit} : OnlyTouches [.out, .cviews] s (execClearPortChange t c n ss bit s) :=
  .event fun _ _ => by simp +decide [portReq]
theorem OnlyTouches.execGetPortErrCount {t c n} : OnlyTouches [.out, .freeCtr] s (execGetPortErrCount t c n s) := .event fun _ _ => by simp +decide
theorem OnlyTouches.execSetHubDepth {t c depth} : OnlyTouches [.out, .cvis] s (execSetHubDepth t c depth s) := .event fun _ _ => by simp +decide
theorem OnlyTouches.execClearTtBuffer {t c n addr ep type isIn} : OnlyTouches [.out, .rc, .ligs] s (execClearTtBuffer t c n addr ep type isIn s) :=
  .event fun _ _ => by simp +decide
theorem OnlyTouches.execResetTt {t c n} : OnlyTouches [.out, .rc, .ligs] s (execResetTt t c n s) := .event fun _ _ => by simp +decide
theorem OnlyTouches.execStopTt {t c n} : OnlyTouches [.out, .ligs] s (execStopTt t c n s) := .event fun _ _ => by simp +decide
theorem OnlyTouches.execGetTtState {t c _n} : OnlyTouches [.out] s (execGetTtState t c _n s) := .event fun _ _ => by simp +decide
theorem OnlyTouches.execGetDescriptor {t c half type index len} : OnlyTouches [.out] s (execGetDescriptor t c half type index len s) := .event fun _ _ => by
  (repeat' split) <;> simp +decide
theorem OnlyTouches.execSetDescriptor {t c} : OnlyTouches [.out] s (execSetDescriptor t c s) := .event fun _ _ => by simp +decide
theorem OnlyTouches.execSetConfiguration {t c half value} :
    OnlyTouches [.out, .power, .nibs, .cvis, .cviews, .cports, .func] s (execSetConfiguration t c half value s) := .event fun _ _ => by
  (repeat' split) <;> simp +decide
theorem OnlyTouches.execSetInterface {t c half alt} : OnlyTouches [.out, .cvis] s (execSetInterface t c half alt s) := .event fun _ _ => by simp +decide
theorem OnlyTouches.execUpstreamResetRecognised {t c ss} :
    OnlyTouches [.out, .power, .own, .vis, .nibs, .cvis, .cviews, .cports] s (execUpstreamResetRecognised t c ss s) :=
  .event fun _ _ => by simp +decide
theorem OnlyTouches.execHsIdleReversion {t c} : OnlyTouches [.out, .cvis] s (execHsIdleReversion t c s) := .event fun _ _ => by simp +decide
theorem OnlyTouches.execChirpKEnd {t c} : OnlyTouches [.out, .cvis] s (execChirpKEnd t c s) := .act fun _ => by
  split <;> simp +decide
theorem OnlyTouches.execHostChirpSixth {t c} : OnlyTouches [.out, .cvis] s (execHostChirpSixth t c s) := .act fun _ => by
  split <;> simp +decide
theorem OnlyTouches.execHostChirpTimeout {t c} : OnlyTouches [.cvis] s (execHostChirpTimeout t c s) := .act fun _ => by
  split <;> simp +decide
theorem OnlyTouches.execUpstreamResetEnd {t c ss} : OnlyTouches [.own, .cvis] s (execUpstreamResetEnd t c ss s) := .event fun _ _ => by simp +decide
theorem OnlyTouches.execUpstreamSuspend {t c} : OnlyTouches [.out, .eps, .nibs, .cvis] s (execUpstreamSuspend t c s) := .event fun _ _ => by simp +decide
theorem OnlyTouches.execUpstreamResume {t c} : OnlyTouches [.out, .limits, .rc, .pal, .margin, .modes, .nibs, .cvis] s (execUpstreamResume t c s) :=
  .event fun _ _ => by simp +decide
theorem OnlyTouches.execUpstreamLpmToken {t c} : OnlyTouches [.out] s (execUpstreamLpmToken t c s) := .event fun _ _ => by simp +decide
theorem OnlyTouches.execUpstreamSsLinkChange {t c up} : OnlyTouches [.cvis, .cviews, .func] s (execUpstreamSsLinkChange t c up s) :=
  .event fun _ _ => by simp +decide
theorem OnlyTouches.execSsplitReceived {t n split} : OnlyTouches [.out, .rc, .ligs] s (execSsplitReceived t n split s) := .act fun _ => by
  split <;> simp +decide
theorem OnlyTouches.execCsplitReceived {t n split} : OnlyTouches [.out, .ligs] s (execCsplitReceived t n split s) := .act fun _ => by
  split
  · exact .refl
  · refine .when .refl ?_
    dsimp only
    (repeat' split) <;> simp +decide
theorem OnlyTouches.execLigatureResultExpiry {t n} : OnlyTouches [.rc, .ligs] s (execLigatureResultExpiry t n s) := .event fun _ _ => by simp +decide
theorem OnlyTouches.execPeriodicResultDiscard {t n frame uf} : OnlyTouches [.rc, .ligs] s (execPeriodicResultDiscard t n frame uf s) :=
  .event fun _ _ => by simp +decide
theorem OnlyTouches.execFuncOutPacket {t bytes} : OnlyTouches [.out, .func] s (execFuncOutPacket t bytes s) := .act fun _ => by
  split <;> simp +decide
theorem OnlyTouches.execFuncEcho {t} : OnlyTouches [.func] s (execFuncEcho t s) := .act fun _ => by
  split <;> simp +decide
theorem OnlyTouches.execFuncClearHalt {t isIn} : OnlyTouches [.out, .func] s (execFuncClearHalt t isIn s) := .act fun _ => by
  split <;> simp +decide

/-! ### Commands of Machine/PdCmds.lean -/

theorem OnlyTouches.execUpDrSwapSend {t} : OnlyTouches [.out, .pd] s (execUpDrSwapSend t s) := .event fun _ _ => by simp +decide
theorem OnlyTouches.execDrSwapRetry {t} : OnlyTouches [.out, .pd] s (execDrSwapRetry t s) := .act fun _ => by
  dsimp only
  split <;> simp +decide
theorem OnlyTouches.execDrSwapAnswer {t id answer} :
    OnlyTouches [.out, .limits, .regs, .rc, .rubric, .localEvents, .localLost, .pal, .margin, .power, .pd, .own, .vis, .devices, .eps, .nibs, .qps,
      .pcie, .ink, .cvis, .cviews, .cports, .ligs, .func] s (execDrSwapAnswer t id answer s) :=
  .heard rfl fun _ => by
  split <;> simp +decide
theorem OnlyTouches.execDrSwap {t port id} :
    OnlyTouches [.out, .limits, .regs, .rc, .rubric, .localEvents, .localLost, .pal, .margin, .power, .pd, .own, .vis, .devices, .eps, .nibs, .qps,
      .pcie, .ink, .cvis, .cviews, .cports, .ligs, .func] s (execDrSwap t port id s) :=
  .heard rfl fun _ => by simp +decide
theorem OnlyTouches.execCcPatternAppear {t port cc1 cc2} : OnlyTouches [.pd] s (execCcPatternAppear t port cc1 cc2 s) := .act fun _ => by simp +decide
theorem OnlyTouches.execCcPatternLost {t port cc1 cc2} : OnlyTouches [.pd] s (execCcPatternLost t port cc1 cc2 s) := .event fun _ _ => by simp +decide
theorem OnlyTouches.execDetachDebounceStart {t port cc1 cc2} :
    OnlyTouches [.pd] s (execDetachDebounceStart t port cc1 cc2 s) := .event fun _ _ => by simp +decide
theorem OnlyTouches.execCcDetach {t port} :
    OnlyTouches [.out, .limits, .rc, .pal, .margin, .modes, .power, .pd, .own, .vis, .devices, .eps, .nibs, .qps, .pcie, .ink, .cvis, .cviews,
      .cports, .func] s (execCcDetach t port s) :=
  .act fun _ => by
  split <;> simp +decide
theorem OnlyTouches.execVsafe0vReached {t port vbus} : OnlyTouches [.power, .pd] s (execVsafe0vReached t port vbus s) := .event fun _ _ => by simp +decide
theorem OnlyTouches.execAttachDebounceEnd {t port} :
    OnlyTouches [.out, .limits, .rc, .localEvents, .localLost, .pal, .margin, .modes, .sealUnit, .power, .pd, .own, .vis, .devices, .eps, .nibs,
      .qps, .pcie, .ink, .cvis, .cviews, .cports] s (execAttachDebounceEnd t port s) :=
  .event fun _ _ => by simp +decide
theorem OnlyTouches.execVsafe5vReached {t port vbus} : OnlyTouches [.out, .power, .pd] s (execVsafe5vReached t port vbus s) :=
  .event fun _ _ => by simp +decide
theorem OnlyTouches.execSourceCapsSend {t port} : OnlyTouches [.out, .pd] s (execSourceCapsSend t port s) := .event fun _ _ => by simp +decide
theorem OnlyTouches.execSourceCapsRetry {t port} : OnlyTouches [.out, .pd] s (execSourceCapsRetry t port s) := .event fun _ _ => by simp +decide
theorem OnlyTouches.execGoodcrcReceived {t port prime} :
    OnlyTouches [.out, .limits, .regs, .rc, .rubric, .localEvents, .localLost, .pal, .margin, .power, .pd, .own, .vis, .devices, .eps, .nibs, .qps,
      .pcie, .ink, .cvis, .cviews, .cports, .ligs, .func] s (execGoodcrcReceived t port prime s) :=
  .act fun _ => by simp +decide
theorem OnlyTouches.execGoodcrcTimeout {t port prime} :
    OnlyTouches [.out, .limits, .regs, .rc, .rubric, .localEvents, .localLost, .pal, .margin, .power, .pd, .own, .vis, .devices, .eps, .nibs, .qps,
      .pcie, .ink, .cvis, .cviews, .cports, .ligs, .func] s (execGoodcrcTimeout t port prime s) :=
  .act fun _ => by
  dsimp only
  (repeat' split) <;> simp +decide
theorem OnlyTouches.execSenderResponseTimeout {t port} :
    OnlyTouches [.out, .limits, .rc, .localEvents, .localLost, .pal, .margin, .power, .pd, .own, .vis, .devices, .eps, .nibs, .qps, .pcie, .ink,
      .cvis, .cviews, .cports, .func] s (execSenderResponseTimeout t port s) :=
  .act fun _ => by
  dsimp only
  split <;> simp +decide
theorem OnlyTouches.execRequest {t port id rdo rev2} :
    OnlyTouches [.out, .limits, .regs, .rc, .rubric, .localEvents, .localLost, .pal, .margin, .power, .pd, .own, .vis, .devices, .eps, .nibs, .qps,
      .pcie, .ink, .cvis, .cviews, .cports, .ligs, .func] s (execRequest t port id rdo rev2 s) :=
  .heard rfl fun _ => by simp +decide
theorem OnlyTouches.execEprRequest {t port id rdo pdo} :
    OnlyTouches [.out, .limits, .regs, .rc, .rubric, .localEvents, .localLost, .pal, .margin, .power, .pd, .own, .vis, .devices, .eps, .nibs, .qps,
      .pcie, .ink, .cvis, .cviews, .cports, .ligs, .func] s (execEprRequest t port id rdo pdo s) :=
  .heard rfl fun _ => by simp +decide
theorem OnlyTouches.execTransitionStart {t port} :
    OnlyTouches [.out, .limits, .regs, .rc, .rubric, .pal, .margin, .power, .pd, .own, .vis, .devices, .eps, .nibs, .qps, .pcie, .ink, .cviews,
      .cports, .ligs, .func] s (execTransitionStart t port s) :=
  .act fun _ => by
  dsimp only
  split <;> simp +decide
theorem OnlyTouches.execPsRdySend {t port vbus} :
    OnlyTouches [.out, .limits, .regs, .rc, .rubric, .pal, .margin, .power, .pd, .own, .vis, .devices, .eps, .nibs, .qps, .pcie, .ink, .cviews,
      .cports, .ligs, .func] s (execPsRdySend t port vbus s) :=
  .act fun _ => by
  dsimp only
  split <;> simp +decide
theorem OnlyTouches.execTransitionBoundMissed {t port} :
    OnlyTouches [.out, .limits, .regs, .rc, .rubric, .localEvents, .localLost, .pal, .margin, .power, .pd, .own, .vis, .devices, .eps, .nibs, .qps,
      .pcie, .ink, .cvis, .cviews, .cports, .ligs, .func] s (execTransitionBoundMissed t port s) :=
  .act fun _ => by
  dsimp only
  split <;> simp +decide
theorem OnlyTouches.execSinkTxWaitEnd {t port} : OnlyTouches [.out, .pd] s (execSinkTxWaitEnd t port s) := .event fun _ _ => by simp +decide
theorem OnlyTouches.execGetSourceCap {t port id} :
    OnlyTouches [.out, .limits, .regs, .rc, .rubric, .localEvents, .localLost, .pal, .margin, .power, .pd, .own, .vis, .devices, .eps, .nibs, .qps,
      .pcie, .ink, .cvis, .cviews, .cports, .ligs, .func] s (execGetSourceCap t port id s) :=
  .heard rfl fun _ => by simp +decide
theorem OnlyTouches.execSoftReset {t port} :
    OnlyTouches [.out, .limits, .regs, .rc, .rubric, .localEvents, .localLost, .pal, .margin, .power, .pd, .own, .vis, .devices, .eps, .nibs, .qps,
      .pcie, .ink, .cvis, .cviews, .cports, .ligs, .func] s (execSoftReset t port s) :=
  .event fun _ _ => by simp +decide
theorem OnlyTouches.execPdMessageUnexpected {t port id msg} :
    OnlyTouches [.out, .limits, .regs, .rc, .rubric, .localEvents, .localLost, .pal, .margin, .power, .pd, .own, .vis, .devices, .eps, .nibs, .qps,
      .pcie, .ink, .cvis, .cviews, .cports, .ligs, .func] s (execPdMessageUnexpected t port id msg s) :=
  .heard rfl fun _ => by simp +decide
theorem OnlyTouches.execEprModeEnter {t port id} :
    OnlyTouches [.out, .limits, .regs, .rc, .rubric, .localEvents, .localLost, .pal, .margin, .power, .pd, .own, .vis, .devices, .eps, .nibs, .qps,
      .pcie, .ink, .cvis, .cviews, .cports, .ligs, .func] s (execEprModeEnter t port id s) :=
  .heard rfl fun _ => by simp +decide
theorem OnlyTouches.execEprModeExit {t port id} :
    OnlyTouches [.out, .limits, .regs, .rc, .rubric, .localEvents, .localLost, .pal, .margin, .power, .pd, .own, .vis, .devices, .eps, .nibs, .qps,
      .pcie, .ink, .cvis, .cviews, .cports, .ligs, .func] s (execEprModeExit t port id s) :=
  .heard rfl fun _ => by simp +decide
theorem OnlyTouches.execEprKeepalive {t port id} :
    OnlyTouches [.out, .limits, .regs, .rc, .rubric, .localEvents, .localLost, .pal, .margin, .power, .pd, .own, .vis, .devices, .eps, .nibs, .qps,
      .pcie, .ink, .cvis, .cviews, .cports, .ligs, .func] s (execEprKeepalive t port id s) :=
  .heard rfl fun _ => by simp +decide
theorem OnlyTouches.execEprGetSourceCap {t port id} :
    OnlyTouches [.out, .limits, .regs, .rc, .rubric, .localEvents, .localLost, .pal, .margin, .power, .pd, .own, .vis, .devices, .eps, .nibs, .qps,
      .pcie, .ink, .cvis, .cviews, .cports, .ligs, .func] s (execEprGetSourceCap t port id s) :=
  .heard rfl fun _ => by simp +decide
theorem OnlyTouches.execEprKeepaliveTimeout {t port} :
    OnlyTouches [.out, .limits, .rc, .localEvents, .localLost, .pal, .margin, .power, .pd, .own, .vis, .devices, .eps, .nibs, .qps, .pcie, .ink,
      .cvis, .cviews, .cports, .func] s (execEprKeepaliveTimeout t port s) :=
  .event fun _ _ => by simp +decide
theorem OnlyTouches.execPpsTimeout {t port} :
    OnlyTouches [.out, .limits, .rc, .localEvents, .localLost, .pal, .margin, .power, .pd, .own, .vis, .devices, .eps, .nibs, .qps, .pcie, .ink,
      .cvis, .cviews, .cports, .func] s (execPpsTimeout t port s) :=
  .event fun _ _ => by simp +decide
theorem OnlyTouches.execGetStatus {t port id} :
    OnlyTouches [.out, .limits, .regs, .rc, .rubric, .localEvents, .localLost, .pal, .margin, .power, .pd, .own, .vis, .devices, .eps, .nibs, .qps,
      .pcie, .ink, .cvis, .cviews, .cports, .ligs, .func] s (execGetStatus t port id s) :=
  .heard rfl fun _ => by simp +decide
theorem OnlyTouches.execGetPpsStatus {t port id} :
    OnlyTouches [.out, .limits, .regs, .rc, .rubric, .localEvents, .localLost, .pal, .margin, .power, .pd, .own, .vis, .devices, .eps, .nibs, .qps,
      .pcie, .ink, .cvis, .cviews, .cports, .ligs, .func] s (execGetPpsStatus t port id s) :=
  .heard rfl fun _ => by simp +decide
theorem OnlyTouches.execGetSourceInfo {t port id} :
    OnlyTouches [.out, .limits, .regs, .rc, .rubric, .localEvents, .localLost, .pal, .margin, .power, .pd, .own, .vis, .devices, .eps, .nibs, .qps,
      .pcie, .ink, .cvis, .cviews, .cports, .ligs, .func] s (execGetSourceInfo t port id s) :=
  .heard rfl fun _ => by simp +decide
theorem OnlyTouches.execGetRevision {t port id} :
    OnlyTouches [.out, .limits, .regs, .rc, .rubric, .localEvents, .localLost, .pal, .margin, .power, .pd, .own, .vis, .devices, .eps, .nibs, .qps,
      .pcie, .ink, .cvis, .cviews, .cports, .ligs, .func] s (execGetRevision t port id s) :=
  .heard rfl fun _ => by simp +decide
theorem OnlyTouches.execGetSourceCapExtended {t port id} :
    OnlyTouches [.out, .limits, .regs, .rc, .rubric, .localEvents, .localLost, .pal, .margin, .power, .pd, .own, .vis, .devices, .eps, .nibs, .qps,
      .pcie, .ink, .cvis, .cviews, .cports, .ligs, .func] s (execGetSourceCapExtended t port id s) :=
  .heard rfl fun _ => by simp +decide
theorem OnlyTouches.execGetManufacturerInfo {t port id} :
    OnlyTouches [.out, .limits, .regs, .rc, .rubric, .localEvents, .localLost, .pal, .margin, .power, .pd, .own, .vis, .devices, .eps, .nibs, .qps,
      .pcie, .ink, .cvis, .cviews, .cports, .ligs, .func] s (execGetManufacturerInfo t port id s) :=
  .heard rfl fun _ => by simp +decide
theorem OnlyTouches.execUnsupportedMessage {t port id type} :
    OnlyTouches [.out, .limits, .regs, .rc, .rubric, .localEvents, .localLost, .pal, .margin, .power, .pd, .own, .vis, .devices, .eps, .nibs, .qps,
      .pcie, .ink, .cvis, .cviews, .cports, .ligs, .func] s (execUnsupportedMessage t port id type s) :=
  .heard rfl fun _ => by simp +decide
theorem OnlyTouches.execIgnoredMessage {t port id kind} :
    OnlyTouches [.out, .limits, .regs, .rc, .rubric, .localEvents, .localLost, .pal, .margin, .power, .pd, .own, .vis, .devices, .eps, .nibs, .qps,
      .pcie, .ink, .cvis, .cviews, .cports, .ligs, .func] s (execIgnoredMessage t port id kind s) :=
  .heard rfl fun _ => by
  split <;> simp +decide
theorem OnlyTouches.execBist {t port id mode} :
    OnlyTouches [.out, .limits, .regs, .rc, .rubric, .localEvents, .localLost, .pal, .margin, .power, .pd, .own, .vis, .devices, .eps, .nibs, .qps,
      .pcie, .ink, .cvis, .cviews, .cports, .ligs, .func] s (execBist t port id mode s) :=
  .heard rfl fun _ => by simp +decide
theorem OnlyTouches.execDiscoverIdentity {t port id} :
    OnlyTouches [.out, .limits, .regs, .rc, .rubric, .localEvents, .localLost, .pal, .margin, .power, .pd, .own, .vis, .devices, .eps, .nibs, .qps,
      .pcie, .ink, .cvis, .cviews, .cports, .ligs, .func] s (execDiscoverIdentity t port id s) :=
  .heard rfl fun _ => by simp +decide
theorem OnlyTouches.execStructuredVdmNak {t port id} :
    OnlyTouches [.out, .limits, .regs, .rc, .rubric, .localEvents, .localLost, .pal, .margin, .power, .pd, .own, .vis, .devices, .eps, .nibs, .qps,
      .pcie, .ink, .cvis, .cviews, .cports, .ligs, .func] s (execStructuredVdmNak t port id s) :=
  .heard rfl fun _ => by simp +decide
theorem OnlyTouches.execVconnStable {t port} : OnlyTouches [.out, .pd] s (execVconnStable t port s) := .event fun _ _ => by simp +decide
theorem OnlyTouches.execCableDiscoveryRetry {t port} : OnlyTouches [.out, .rc, .pd] s (execCableDiscoveryRetry t port s) := .event fun _ _ => by simp +decide
theorem OnlyTouches.execCableIdentityAck {t port id vdo} :
    OnlyTouches [.out, .limits, .rc, .localEvents, .localLost, .pal, .margin, .power, .pd, .own, .vis, .devices, .eps, .nibs, .qps, .pcie, .ink,
      .cvis, .cviews, .cports, .func] s (execCableIdentityAck t port id vdo s) :=
  .event fun _ _ => by simp +decide
theorem OnlyTouches.execHardResetReceived {t port} :
    OnlyTouches [.out, .limits, .rc, .localEvents, .localLost, .pal, .margin, .power, .pd, .own, .vis, .devices, .eps, .nibs, .qps, .pcie, .ink,
      .cvis, .cviews, .cports, .func] s (execHardResetReceived t port s) :=
  .event fun _ _ => by simp +decide
theorem OnlyTouches.execHardResetVbusOff {t port} :
    OnlyTouches [.out, .limits, .rc, .pal, .margin, .power, .pd, .own, .vis, .devices, .eps, .nibs, .qps, .pcie, .ink, .cviews,
      .cports] s (execHardResetVbusOff t port s) :=
  .event fun _ _ => by simp +decide
theorem OnlyTouches.execSrcRecoverEnd {t port} : OnlyTouches [.power, .pd, .cviews] s (execSrcRecoverEnd t port s) := .event fun _ _ => by simp +decide
theorem OnlyTouches.execErrorRecoveryEnd {t port} :
    OnlyTouches [.out, .limits, .rc, .pal, .margin, .power, .pd, .own, .vis, .devices, .eps, .nibs, .qps, .pcie, .ink, .cvis, .cviews, .cports,
      .func] s (execErrorRecoveryEnd t port s) :=
  .event fun _ _ => by simp +decide
theorem OnlyTouches.execAlertSend {t port} : OnlyTouches [.out, .pd] s (execAlertSend t port s) := .event fun _ _ => by simp +decide
theorem OnlyTouches.execReclaimTimer {t port} :
    OnlyTouches [.out, .limits, .rc, .pal, .margin, .power, .pd, .own, .vis, .devices, .eps, .nibs, .qps, .pcie, .ink, .cviews,
      .cports] s (execReclaimTimer t port s) :=
  .act fun _ => by
  dsimp only
  split <;> simp +decide
theorem OnlyTouches.execReclaimRestore {t port} :
    OnlyTouches [.out, .limits, .rc, .pal, .margin, .power, .pd, .own, .vis, .devices, .eps, .nibs, .qps, .pcie, .ink, .cviews,
      .cports] s (execReclaimRestore t port s) :=
  .act fun _ => by
  split <;> simp +decide
theorem OnlyTouches.execPdSendCaps {t path port} : OnlyTouches [.rc, .pal, .pd] s (execPdSendCaps t path port s) := .privCmd rfl fun _ => by simp +decide
theorem OnlyTouches.execPdHardReset {t path port} :
    OnlyTouches [.out, .limits, .rc, .localEvents, .localLost, .pal, .margin, .power, .pd, .own, .vis, .devices, .eps, .nibs, .qps, .pcie, .ink,
      .cvis, .cviews, .cports, .func] s (execPdHardReset t path port s) :=
  .privCmd rfl fun _ => by simp +decide
theorem OnlyTouches.execPdErrorRecovery {t path port} :
    OnlyTouches [.out, .limits, .rc, .localEvents, .localLost, .pal, .margin, .power, .pd, .own, .vis, .devices, .eps, .nibs, .qps, .pcie, .ink,
      .cvis, .cviews, .cports, .func] s (execPdErrorRecovery t path port s) :=
  .privCmd rfl fun _ => by simp +decide
theorem OnlyTouches.execCcShortProbe {t port pin2 shorted} :
    OnlyTouches [.out, .limits, .rc, .localEvents, .localLost, .pal, .margin, .power, .pd, .own, .vis, .devices, .eps, .nibs, .qps, .pcie, .ink,
      .cvis, .cviews, .cports, .func] s (execCcShortProbe t port pin2 shorted s) :=
  .event fun _ _ => by simp +decide
theorem OnlyTouches.execCcOvervoltage {t port pin2} :
    OnlyTouches [.out, .limits, .rc, .localEvents, .localLost, .pal, .margin, .power, .pd, .own, .vis, .devices, .eps, .nibs, .qps, .pcie, .ink,
      .cvis, .cviews, .cports, .func] s (execCcOvervoltage t port pin2 s) :=
  .event fun _ _ => by simp +decide
theorem OnlyTouches.execCcFaultRetest {t port cc1 cc2} :
    OnlyTouches [.out, .limits, .rc, .localEvents, .localLost, .pal, .margin, .power, .pd, .own, .vis, .devices, .eps, .nibs, .qps, .pcie, .ink,
      .cvis, .cviews, .cports, .func] s (execCcFaultRetest t port cc1 cc2 s) :=
  .event fun _ _ => by simp +decide
theorem OnlyTouches.execVconnFault {t port ma} :
    OnlyTouches [.out, .limits, .rc, .localEvents, .localLost, .pal, .margin, .power, .pd, .own, .vis, .devices, .eps, .nibs, .qps, .pcie, .ink,
      .cvis, .cviews, .cports, .func] s (execVconnFault t port ma s) :=
  .event fun _ _ => by simp +decide

/-! ### Commands of Machine/Images.lean -/

theorem OnlyTouches.execImgOpenFw {t path} : OnlyTouches [.rc, .pal, .img, .nor] s (execImgOpenFw t path s) := .privCmd rfl fun _ => by simp +decide
theorem OnlyTouches.execImgOpenCfg {t path} : OnlyTouches [.rc, .pal, .img, .nor] s (execImgOpenCfg t path s) := .privCmd rfl fun _ => by simp +decide
theorem OnlyTouches.execImgEraseDone {t ok} : OnlyTouches [.img, .nor] s (execImgEraseDone t ok s) := .event fun _ _ => by simp +decide
theorem OnlyTouches.execImgDataWrite {t path value} :
    OnlyTouches [.regs, .rc, .pal, .img, .nor] s (execImgDataWrite t path value s) := .privCmd rfl fun _ => by simp +decide
theorem OnlyTouches.execImgCommit {t path verdict} :
    OnlyTouches [.limits, .rc, .pal, .margin, .img, .nor, .blot] s (execImgCommit t path verdict s) := .privCmd rfl fun _ => by simp +decide
theorem OnlyTouches.execImgAbandon {t path} : OnlyTouches [.rc, .pal, .img] s (execImgAbandon t path s) := .privCmd rfl fun _ => by simp +decide

/-! ### Commands of Machine/Boot.lean -/

theorem OnlyTouches.execFolioResetRelease {t nor} :
    OnlyTouches (Piece.allBut [.localEvents, .localLost, .vauxOk]) s (execFolioResetRelease t nor s) := .event fun _ _ => by simp +decide
theorem OnlyTouches.execBootEnd {t} :
    OnlyTouches [.out, .freeCtr, .limits, .rc, .pal, .margin, .modes, .blot, .power, .pd, .own, .vis, .devices, .eps, .nibs, .qps, .pcie, .ink,
      .cvis, .cviews, .cports, .func] s (execBootEnd t s) :=
  .event fun _ _ => by simp +decide

/-! ### Commands of Machine/HostCmds.lean -/

theorem OnlyTouches.execNoopCmd {t v slot} : OnlyTouches startParts s (execNoopCmd t v slot s) := .runCmd rfl fun _ _ _ => by simp +decide
theorem OnlyTouches.execClaim {t v slot} : OnlyTouches [.out, .limits, .rc, .pal, .margin, .own, .vis, .qps, .pcie, .ink] s (execClaim t v slot s) :=
  .runCmd rfl fun _ _ _ => by simp +decide
theorem OnlyTouches.execRelease {t v slot} :
    OnlyTouches [.out, .limits, .rc, .pal, .margin, .own, .vis, .qps, .pcie, .ink] s (execRelease t v slot s) := .runCmd rfl fun _ _ _ => by simp +decide
theorem OnlyTouches.execRenewLease {t v slot} :
    OnlyTouches [.out, .limits, .rc, .pal, .margin, .own, .vis, .qps, .pcie, .ink] s (execRenewLease t v slot s) :=
  .runCmd rfl fun _ _ _ => by simp +decide
theorem OnlyTouches.execResetPort {t v slot} :
    OnlyTouches [.out, .limits, .rc, .pal, .margin, .own, .vis, .devices, .eps, .nibs, .qps, .pcie, .ink] s (execResetPort t v slot s) :=
  .runCmd rfl fun _ _ _ => by simp +decide
theorem OnlyTouches.execResetPortWarm {t v slot} :
    OnlyTouches [.out, .limits, .rc, .pal, .margin, .own, .vis, .devices, .eps, .nibs, .qps, .pcie, .ink] s (execResetPortWarm t v slot s) :=
  .runCmd rfl fun _ _ _ => by simp +decide
theorem OnlyTouches.execResetPortTimeout {t port} :
    OnlyTouches [.out, .limits, .rc, .pal, .margin, .vis, .nibs, .qps, .pcie, .ink] s (execResetPortTimeout t port s) := .event fun _ _ => by simp +decide
theorem OnlyTouches.execSuspendPort {t v slot} :
    OnlyTouches [.out, .limits, .rc, .pal, .margin, .vis, .eps, .nibs, .qps, .pcie, .ink] s (execSuspendPort t v slot s) :=
  .runCmd rfl fun _ _ _ => by simp +decide
theorem OnlyTouches.execResumePort {t v slot} :
    OnlyTouches [.out, .limits, .rc, .pal, .margin, .vis, .nibs, .qps, .pcie, .ink] s (execResumePort t v slot s) := .runCmd rfl fun _ _ _ => by
  dsimp only
  (repeat' split) <;> simp +decide
theorem OnlyTouches.execSuspendComplete {t port u3} :
    OnlyTouches [.out, .limits, .rc, .pal, .margin, .vis, .nibs, .qps, .pcie, .ink] s (execSuspendComplete t port u3 s) := .act fun _ => by
  split <;> simp +decide
theorem OnlyTouches.execResumeSignalEnd {t port} : OnlyTouches [.out, .nibs] s (execResumeSignalEnd t port s) := .act fun _ => by
  split <;> simp +decide
theorem OnlyTouches.execResumeComplete {t port} :
    OnlyTouches [.out, .limits, .rc, .pal, .margin, .vis, .eps, .nibs, .qps, .pcie, .ink, .cviews] s (execResumeComplete t port s) := .act fun _ => by
  split <;> simp +decide
theorem OnlyTouches.execAddressDevice {t v slot} :
    OnlyTouches [.out, .freeCtr, .limits, .rc, .pal, .margin, .vis, .nibs, .qps, .pcie, .ink] s (execAddressDevice t v slot s) := .runCmd rfl fun _ _ _ => by
  dsimp only
  (repeat' split) <;> simp +decide
theorem OnlyTouches.execSetAddressRecovery {t port} :
    OnlyTouches [.out, .limits, .rc, .pal, .margin, .vis, .devices, .eps, .nibs, .qps, .pcie, .ink] s (execSetAddressRecovery t port s) := .act fun _ => by
  (repeat' split) <;> simp +decide
theorem OnlyTouches.execDisableDevice {t v slot} :
    OnlyTouches [.out, .limits, .rc, .pal, .margin, .own, .vis, .devices, .eps, .nibs, .qps, .pcie, .ink] s (execDisableDevice t v slot s) :=
  .runCmd rfl fun _ _ _ => by simp +decide
theorem OnlyTouches.execConfigureEndpoint {t v slot} :
    OnlyTouches [.out, .freeCtr, .limits, .rc, .pal, .margin, .vis, .eps, .qps, .pcie, .ink] s (execConfigureEndpoint t v slot s) :=
  .runCmd rfl fun _ _ _ => by simp +decide
theorem OnlyTouches.execBindEndpointRing {t v slot} :
    OnlyTouches [.out, .limits, .rc, .pal, .margin, .vis, .eps, .qps, .pcie, .ink] s (execBindEndpointRing t v slot s) :=
  .runCmd rfl fun _ _ _ => by simp +decide
theorem OnlyTouches.execStopEndpoint {t v slot onWire} :
    OnlyTouches [.out, .freeCtr, .limits, .rc, .pal, .margin, .vis, .eps, .nibs, .qps, .pcie, .ink] s (execStopEndpoint t v slot onWire s) :=
  .runCmd rfl fun _ _ _ => by simp +decide
theorem OnlyTouches.execResetEndpoint {t v slot} :
    OnlyTouches [.out, .limits, .rc, .pal, .margin, .vis, .eps, .qps, .pcie, .ink] s (execResetEndpoint t v slot s) :=
  .runCmd rfl fun _ _ _ => by simp +decide
theorem OnlyTouches.execDisableEndpoint {t v slot} :
    OnlyTouches [.out, .limits, .rc, .pal, .margin, .own, .vis, .eps, .nibs, .qps, .pcie, .ink] s (execDisableEndpoint t v slot s) :=
  .runCmd rfl fun _ _ _ => by simp +decide
theorem OnlyTouches.execSetReadAhead {t v slot} :
    OnlyTouches [.out, .limits, .rc, .pal, .margin, .vis, .eps, .qps, .pcie, .ink] s (execSetReadAhead t v slot s) :=
  .runCmd rfl fun _ _ _ => by simp +decide
theorem OnlyTouches.execReadAheadOff {t v slot} :
    OnlyTouches [.out, .limits, .rc, .pal, .margin, .vis, .eps, .qps, .pcie, .ink] s (execReadAheadOff t v slot s) :=
  .runCmd rfl fun _ _ _ => by simp +decide
theorem OnlyTouches.execQueryPort {t v slot} : OnlyTouches startParts s (execQueryPort t v slot s) := .runCmd rfl fun _ _ _ => by simp +decide
theorem OnlyTouches.execQueryVi {t v slot} : OnlyTouches startParts s (execQueryVi t v slot s) := .runCmd rfl fun _ _ _ => by simp +decide

theorem OnlyTouches.execReplay {t v slot} : OnlyTouches startParts s (execReplay t v slot s) := execReplay_eq ▸ .runCmd rfl fun _ _ _ => by
  simp +decide [startParts, replayEffect]
theorem OnlyTouches.execResume {t v slot} :
    OnlyTouches [.out, .freeCtr, .limits, .rc, .pal, .margin, .vis, .eps, .qps, .pcie, .ink] s (execResume t v slot s) :=
  .runCmd rfl fun _ _ _ => by simp +decide

/-! ### Commands of Machine/BusCmds.lean -/

theorem OnlyTouches.execBusTransaction {t port who result} :
    OnlyTouches [.out, .freeCtr, .limits, .rc, .pal, .margin, .own, .vis, .devices, .eps, .nibs, .qps, .pcie, .ink, .ligs,
      .func] s (execBusTransaction t port who result s) :=
  .event fun _ _ => by simp +decide
theorem OnlyTouches.execTurnaroundTimeout {t port who} :
    OnlyTouches [.out, .freeCtr, .limits, .rc, .pal, .margin, .own, .vis, .devices, .eps, .nibs, .qps, .pcie, .ink, .ligs,
      .func] s (execTurnaroundTimeout t port who s) :=
  .event fun _ _ => by simp +decide
theorem OnlyTouches.execPreviewTimeLimit {t port} :
    OnlyTouches [.out, .limits, .rc, .pal, .margin, .vis, .nibs, .qps] s (execPreviewTimeLimit t port s) := .act fun _ => by
  split <;> simp +decide
theorem OnlyTouches.execEndpointPromotion {t ctx} : OnlyTouches [.eps] s (execEndpointPromotion t ctx s) := .act fun _ => by
  (repeat' split) <;> simp +decide
theorem OnlyTouches.execRdmaReadResponse {t v what data} :
    OnlyTouches [.out, .freeCtr, .limits, .rc, .pal, .margin, .modes, .own, .vis, .eps, .nibs, .qps, .pcie, .ink,
      .cvis] s (execRdmaReadResponse t v what data s) :=
  .event fun _ _ => by simp +decide
theorem OnlyTouches.execDmaReadCompletion {t v what data failed} :
    OnlyTouches [.out, .freeCtr, .limits, .rc, .pal, .margin, .modes, .own, .vis, .eps, .nibs, .qps, .pcie, .ink,
      .cvis] s (execDmaReadCompletion t v what data failed s) :=
  .event fun _ _ => by simp +decide
theorem OnlyTouches.execIsochDataFetch {t ctx} : OnlyTouches [.out, .eps, .qps] s (execIsochDataFetch t ctx s) := .event fun _ _ => by
  split <;> simp +decide
theorem OnlyTouches.execUsb2ConnectDebounced {t port low} :
    OnlyTouches [.out, .limits, .rc, .pal, .margin, .nibs, .cviews] s (execUsb2ConnectDebounced t port low s) :=
  .event fun _ _ => by simp +decide
theorem OnlyTouches.execReceiverDetect {t port found gen2} : OnlyTouches [.out, .nibs] s (execReceiverDetect t port found gen2 s) :=
  .event fun _ _ => by simp +decide
theorem OnlyTouches.execSsU0Entry {t port gen2} :
    OnlyTouches [.out, .limits, .rc, .pal, .margin, .vis, .nibs, .qps, .pcie, .ink, .cviews, .cports] s (execSsU0Entry t port gen2 s) := .event fun _ _ => by
  (repeat' split) <;> simp +decide
theorem OnlyTouches.execSsTrainingTimeout {t port} :
    OnlyTouches [.out, .limits, .rc, .pal, .margin, .vis, .nibs, .qps, .pcie, .ink] s (execSsTrainingTimeout t port s) := .act fun _ => by
  split <;> simp +decide
theorem OnlyTouches.execDeviceChirpSeen {t port startUs tenths} :
    OnlyTouches [.out, .nibs, .cports] s (execDeviceChirpSeen t port startUs tenths s) := .event fun _ _ => by
  split <;> simp +decide
theorem OnlyTouches.execRootResetEnd {t port} :
    OnlyTouches [.out, .limits, .rc, .pal, .margin, .vis, .nibs, .qps, .pcie, .ink, .cviews] s (execRootResetEnd t port s) := .act fun _ => by
  split <;> simp +decide
theorem OnlyTouches.execResetRecoveryEnd {t port} : OnlyTouches [.out, .eps, .nibs] s (execResetRecoveryEnd t port s) := .act fun _ => by
  split <;> simp +decide
theorem OnlyTouches.execBabbleDetected {t port ctx} :
    OnlyTouches [.out, .limits, .rc, .pal, .margin, .vis, .eps, .nibs, .qps, .pcie, .ink, .cviews] s (execBabbleDetected t port ctx s) := .event fun _ _ => by
  dsimp only
  (repeat' split) <;> simp +decide
theorem OnlyTouches.execUsb2Disconnect {t port} :
    OnlyTouches [.out, .limits, .rc, .pal, .margin, .own, .vis, .devices, .eps, .nibs, .qps, .pcie, .ink, .cviews] s (execUsb2Disconnect t port s) :=
  .event fun _ _ => by simp +decide
theorem OnlyTouches.execSsLinkLost {t port} :
    OnlyTouches [.out, .limits, .rc, .pal, .margin, .own, .vis, .devices, .eps, .nibs, .qps, .pcie, .ink, .cviews] s (execSsLinkLost t port s) :=
  .event fun _ _ => by simp +decide
theorem OnlyTouches.execClearTtBufferDone {t port ok} :
    OnlyTouches [.out, .freeCtr, .limits, .rc, .pal, .margin, .own, .vis, .eps, .nibs, .qps, .pcie, .ink] s (execClearTtBufferDone t port ok s) :=
  .act fun _ => by
  split <;> simp +decide
theorem OnlyTouches.execL1Entry {t port acked} : OnlyTouches [.out, .nibs] s (execL1Entry t port acked s) := .event fun _ _ => by simp +decide
theorem OnlyTouches.execU1Entry {t port byDevice} : OnlyTouches [.out, .nibs] s (execU1Entry t port byDevice s) := .event fun _ _ => by simp +decide
theorem OnlyTouches.execU2Entry {t port byDevice} : OnlyTouches [.out, .nibs] s (execU2Entry t port byDevice s) := .event fun _ _ => by simp +decide
theorem OnlyTouches.execLpmRefusalHoldExpiry {t port} : OnlyTouches [.nibs] s (execLpmRefusalHoldExpiry t port s) := .act fun _ => by
  split <;> simp +decide
theorem OnlyTouches.execRemoteWake {t port ss} :
    OnlyTouches [.out, .limits, .rc, .pal, .margin, .modes, .nibs, .cvis] s (execRemoteWake t port ss s) := .event fun _ _ => by
  dsimp only
  split <;> simp +decide
theorem OnlyTouches.execStuckProbe {t port failed connects} :
    OnlyTouches [.out, .limits, .rc, .pal, .margin, .own, .vis, .devices, .eps, .nibs, .qps, .pcie, .ink,
      .cviews] s (execStuckProbe t port failed connects s) :=
  .event fun _ _ => by simp +decide
theorem OnlyTouches.execStuckRetest {t port passed} : OnlyTouches [.out, .limits, .rc, .pal, .margin, .nibs] s (execStuckRetest t port passed s) :=
  .event fun _ _ => by simp +decide

/-! ### Commands of Machine/MarginCmds.lean -/

theorem OnlyTouches.execHeartbeat {t} : OnlyTouches [.limits, .rc, .pal, .margin] s (execHeartbeat t s) := .event fun _ _ => by simp +decide [↓leaves_margin]
theorem OnlyTouches.execBcHeadRead {t path which} : OnlyTouches [.out, .rc, .pal, .margin] s (execBcHeadRead t path which s) :=
  .event fun _ _ => by simp +decide
theorem OnlyTouches.execBcPop {t path} : OnlyTouches [.rc, .pal, .margin] s (execBcPop t path s) := .privCmd rfl fun _ => by simp +decide [bcGate]
theorem OnlyTouches.execBcSkip {t path} : OnlyTouches [.rc, .pal, .margin] s (execBcSkip t path s) := .privCmd rfl fun _ => by simp +decide [bcGate]
theorem OnlyTouches.execBcFlush {t path} : OnlyTouches [.rc, .pal, .margin] s (execBcFlush t path s) := .privCmd rfl fun _ => by simp +decide [bcGate]
theorem OnlyTouches.execBcIrqAck {t path} : OnlyTouches [.rc, .pal, .margin] s (execBcIrqAck t path s) := .privCmd rfl fun _ => by simp +decide
theorem OnlyTouches.execIrqLineSample {t low} :
    OnlyTouches [.limits, .rc, .pal, .margin] s (execIrqLineSample t low s) := .event fun _ _ => by simp +decide [↓leaves_margin, recordLimited]
theorem OnlyTouches.execIrqLineHigh {t} : OnlyTouches [.margin] s (execIrqLineHigh t s) := .act fun _ => by simp +decide [↓leaves_margin]

/-! ### Commands of Machine/Modes.lean -/

theorem OnlyTouches.execD2dLinkFirstUp {t} :
    OnlyTouches [.rc, .link, .localEvents, .localLost, .pal, .blot, .power] s (execD2dLinkFirstUp t s) := .event fun _ _ => by simp +decide
theorem OnlyTouches.execD2dFrame {t payload crc} :
    OnlyTouches [.out, .link] s (execD2dFrame t payload crc s) := .event fun _ _ => by simp +decide [↓leaves_link]
theorem OnlyTouches.execD2dLinkLost {t} :
    OnlyTouches [.out, .limits, .rc, .link, .pal, .margin, .modes, .blot, .power, .pd, .own, .vis, .devices, .eps, .nibs, .qps, .pcie, .ink, .cvis,
      .cviews, .cports] s (execD2dLinkLost t s) :=
  .event fun _ _ => by simp +decide
theorem OnlyTouches.execLinkLossHoldExpiry {t} :
    OnlyTouches [.out, .limits, .rc, .link, .pal, .margin, .power, .pd, .own, .vis, .devices, .eps, .nibs, .qps, .pcie, .ink, .cviews,
      .cports] s (execLinkLossHoldExpiry t s) :=
  .event fun _ _ => by simp +decide
theorem OnlyTouches.execD2dLinkRestored {t} :
    OnlyTouches [.out, .limits, .rc, .link, .pal, .margin, .blot, .power, .pd, .own, .vis, .devices, .eps, .nibs, .qps, .pcie, .ink, .cviews,
      .cports] s (execD2dLinkRestored t s) :=
  .event fun _ _ => by simp +decide
theorem OnlyTouches.execFolioRailFail {t} :
    OnlyTouches (Piece.allBut [.out, .freeCtr, .limits, .localEvents, .localLost, .nor, .input, .vauxOk]) s (execFolioRailFail t s) :=
  .event fun _ _ => by simp +decide
theorem OnlyTouches.execResetNPulse {t nor} :
    OnlyTouches (Piece.allBut [.localEvents, .localLost, .vauxOk]) s (execResetNPulse t nor s) := .event fun _ _ => by simp +decide
theorem OnlyTouches.execHoldupFlushComplete {t} :
    OnlyTouches (Piece.allBut [.localEvents, .localLost, .vauxOk]) s (execHoldupFlushComplete t s) := .event fun _ _ => by simp +decide [↓leaves_modes_pal]
theorem OnlyTouches.execParkedInputRestored {t} :
    OnlyTouches (Piece.allBut [.localEvents, .localLost, .vauxOk]) s (execParkedInputRestored t s) := .event fun _ _ => by simp +decide
theorem OnlyTouches.execModeManaged {t path} :
    OnlyTouches [.limits, .rc, .pal, .margin, .modes, .own, .cvis] s (execModeManaged t path s) := .privCmd rfl fun _ => by simp +decide
theorem OnlyTouches.execModeSuspend {t path} :
    OnlyTouches [.out, .rc, .pal, .modes, .eps, .nibs] s (execModeSuspend t path s) := .privCmd rfl fun _ => by simp +decide
theorem OnlyTouches.execSuspendReached {t} : OnlyTouches [.limits, .rc, .pal, .margin, .modes, .cvis] s (execSuspendReached t s) :=
  .event fun _ _ => by simp +decide [↓leaves_modes]
theorem OnlyTouches.execModeStandby {t path} :
    OnlyTouches [.out, .freeCtr, .limits, .regs, .rc, .rubric, .pal, .margin, .modes, .img, .power, .pd, .own, .vis, .devices, .eps, .nibs, .qps,
      .eth, .pcie, .ink, .cvis, .cviews, .cports, .ligs, .func] s (execModeStandby t path s) :=
  .privCmd rfl fun _ => by simp +decide
theorem OnlyTouches.execStandbyReached {t} :
    OnlyTouches [.out, .limits, .rc, .pal, .margin, .modes, .power, .pd, .own, .vis, .devices, .eps, .nibs, .qps, .pcie, .ink, .cvis, .cviews,
      .cports, .func] s (execStandbyReached t s) :=
  .event fun _ _ => by simp +decide [↓leaves_modes_pal]
theorem OnlyTouches.execModeWake {t path} :
    OnlyTouches (Piece.allBut [.localEvents, .localLost, .vauxOk]) s (execModeWake t path s) := .privCmd rfl fun _ => by simp +decide
theorem OnlyTouches.execModeReboot {t path} :
    OnlyTouches (Piece.allBut [.localEvents, .localLost, .vauxOk]) s (execModeReboot t path s) := .privCmd rfl fun _ => by simp +decide
theorem OnlyTouches.execStandbyWakeAttach {t port} :
    OnlyTouches (Piece.allBut [.localEvents, .localLost, .vauxOk]) s (execStandbyWakeAttach t port s) := .event fun _ _ => by simp +decide

/-! ### Commands of Machine/RegisterCmds.lean -/

theorem OnlyTouches.execSpiReadFrame {t addr} : OnlyTouches [.out, .rc, .pairs, .pal, .margin] s (execSpiReadFrame t addr s) :=
  .event fun _ _ => by simp +decide
theorem OnlyTouches.execSpiWriteFrame {t addr data crc} : OnlyTouches (Piece.allBut [.vauxOk]) s (execSpiWriteFrame t addr data crc s) :=
  .event fun _ _ => by simp +decide
theorem OnlyTouches.execSpiUnknownCommand {t first} : OnlyTouches [.out, .rc] s (execSpiUnknownCommand t first s) := .event fun _ _ => by simp +decide
theorem OnlyTouches.execSpiCsRelease {t} : OnlyTouches [] s (execSpiCsRelease t s) := .act fun _ => by simp +decide
theorem OnlyTouches.execBarRead {t win offset lanes} :
    OnlyTouches [.out, .rc, .pairs, .pal, .margin] s (execBarRead t win offset lanes s) := .event fun _ _ => by
  split <;> simp +decide
theorem OnlyTouches.execBarWrite {t win offset data lanes} :
    OnlyTouches (Piece.allBut [.vauxOk]) s (execBarWrite t win offset data lanes s) := .event fun _ _ => by
  split <;> simp +decide
theorem OnlyTouches.execAccessTimeout {t path addr isWrite} : OnlyTouches [.out, .rc, .pal, .func] s (execAccessTimeout t path addr isWrite s) :=
  .event fun _ _ => by simp +decide
theorem OnlyTouches.execRegisterWrite {t path addr value} : OnlyTouches (Piece.allBut [.vauxOk]) s (execRegisterWrite t path addr value s) :=
  .event fun _ _ => by simp +decide
theorem OnlyTouches.execRcRead {t path addr} : OnlyTouches [.out, .rc, .pairs, .pal, .margin] s (execRcRead t path addr s) :=
  .event fun _ _ => by simp +decide
theorem OnlyTouches.execPairLowRead {t path addr} : OnlyTouches [.out, .rc, .pairs, .pal, .margin] s (execPairLowRead t path addr s) :=
  .event fun _ _ => by simp +decide
theorem OnlyTouches.execPfTrustWrite {t path value} :
    OnlyTouches (Piece.allBut [.vauxOk]) s (execPfTrustWrite t path value s) := .privCmd rfl fun _ => by simp +decide
theorem OnlyTouches.execUfBoundary {t port} :
    OnlyTouches [.out, .freeCtr, .limits, .regs, .rc, .writes, .rubric, .trustBySpi, .pal, .margin, .disc, .sealUnit, .power, .pd, .ptp, .own, .vis,
      .devices, .eps, .nibs, .qps, .eth, .pcie, .timelines, .ink, .cvis, .cviews, .cports, .ligs, .func] s (execUfBoundary t port s) :=
  .event fun _ _ => by simp +decide
theorem OnlyTouches.execFrBoundary {t port} :
    OnlyTouches [.out, .freeCtr, .limits, .regs, .rc, .writes, .rubric, .trustBySpi, .pal, .margin, .disc, .sealUnit, .power, .pd, .ptp, .own, .vis,
      .devices, .eps, .nibs, .qps, .eth, .pcie, .timelines, .ink, .cvis, .cviews, .cports, .ligs, .func] s (execFrBoundary t port s) :=
  .event fun _ _ => by simp +decide
theorem OnlyTouches.execBrkBoundary {t} :
    OnlyTouches [.out, .freeCtr, .limits, .regs, .rc, .writes, .rubric, .trustBySpi, .pal, .margin, .disc, .sealUnit, .input, .power, .pd, .ptp,
      .own, .vis, .devices, .eps, .nibs, .qps, .eth, .pcie, .timelines, .ink, .cvis, .cviews, .cports, .ligs, .func] s (execBrkBoundary t s) :=
  .event fun _ _ => by simp +decide
theorem OnlyTouches.execPktBoundary {t eth} :
    OnlyTouches [.out, .freeCtr, .limits, .regs, .rc, .writes, .rubric, .trustBySpi, .pal, .margin, .disc, .sealUnit, .power, .pd, .ptp, .own, .vis,
      .devices, .eps, .nibs, .qps, .eth, .pcie, .timelines, .ink, .cvis, .cviews, .cports, .ligs, .func] s (execPktBoundary t eth s) :=
  .event fun _ _ => by simp +decide
theorem OnlyTouches.execPdIdlePoint {t port} :
    OnlyTouches [.out, .freeCtr, .limits, .regs, .rc, .writes, .rubric, .trustBySpi, .pal, .margin, .disc, .sealUnit, .power, .pd, .ptp, .own, .vis,
      .devices, .eps, .nibs, .qps, .eth, .pcie, .timelines, .ink, .cvis, .cviews, .cports, .ligs, .func] s (execPdIdlePoint t port s) :=
  .event fun _ _ => by simp +decide
theorem OnlyTouches.execEpochStageWrite {t path addr value} :
    OnlyTouches (Piece.allBut [.vauxOk]) s (execEpochStageWrite t path addr value s) := .privCmd rfl fun _ => by simp +decide
theorem OnlyTouches.execRubricCommit {t path} :
    OnlyTouches [.out, .freeCtr, .limits, .regs, .rc, .staged, .rubric, .pal, .margin, .disc, .power, .pd, .ptp, .own, .vis, .devices, .eps, .nibs,
      .qps, .eth, .pcie, .timelines, .ink, .cvis, .cviews, .cports, .ligs, .func] s (execRubricCommit t path s) :=
  .privCmd rfl fun _ => by simp +decide
theorem OnlyTouches.execRubricAbort {t path} : OnlyTouches [.rc, .staged, .rubric, .pal] s (execRubricAbort t path s) := .privCmd rfl fun _ => by simp +decide
theorem OnlyTouches.execCommitComplete {t} : OnlyTouches [.rc, .rubric, .pal] s (execCommitComplete t s) := .event fun _ _ => by simp +decide
theorem OnlyTouches.execDomainCrcUpdate {t domain} : OnlyTouches [.rubric] s (execDomainCrcUpdate t domain s) := .event fun _ _ => by simp +decide
theorem OnlyTouches.execFuncRead {t} : OnlyTouches [.rc, .pairs, .pal, .margin, .func] s (execFuncRead t s) := .act fun _ => by
  split <;> simp +decide
theorem OnlyTouches.execFuncWrite {t} : OnlyTouches (Piece.allBut [.vauxOk]) s (execFuncWrite t s) := .act fun _ => by
  split <;> simp +decide


/-! ### Every command -/

theorem exec_onlyTouches (s : State) : (c : Instr) → OnlyTouches (touches c) s (exec c s)
  | .vinPreRise .. => .execVinPreRise
  | .vinPreCollapse .. => .execVinPreCollapse
  | .seatStable .. => .execSeatStable
  | .seatRelease .. => .execSeatRelease
  | .inrushDone .. => .execInrushDone
  | .inrushTimerExpiry .. => .execInrushTimerExpiry
  | .inputLoss .. => .execInputLoss
  | .inputReturn .. => .execInputReturn
  | .inputRetryWaitExpiry .. => .execInputRetryWaitExpiry
  | .inputRetryClear .. => .execInputRetryClear
  | .inClear .. => .execInClear
  | .inClearFetFail .. => .execInClearFetFail
  | .pgRelease .. => .execPgRelease
  | .pgFall .. => .execPgFall
  | .earlyWarning .. => .execEarlyWarning
  | .earlyWarningClear .. => .execEarlyWarningClear
  | .shedWaitExpiry .. => .execShedWaitExpiry
  | .holdupFlushComplete .. => .execHoldupFlushComplete
  | .parkedInputRestored .. => .execParkedInputRestored
  | .vauxFall .. => .execVauxFall
  | .vauxRecover .. => .execVauxRecover
  | .folioRailFail .. => .execFolioRailFail
  | .folioResetRelease .. => .execFolioResetRelease
  | .resetNPulse .. => .execResetNPulse
  | .d2dLinkFirstUp .. => .execD2dLinkFirstUp
  | .d2dFrame .. => .execD2dFrame
  | .strokeResync .. => .execStrokeResync
  | .d2dLinkLost .. => .execD2dLinkLost
  | .linkLossHoldExpiry .. => .execLinkLossHoldExpiry
  | .d2dLinkRestored .. => .execD2dLinkRestored
  | .bootEnd .. => .execBootEnd
  | .gapScanComplete .. => .execGapScanComplete
  | .modeManaged .. => .execModeManaged
  | .modeSuspend .. => .execModeSuspend
  | .suspendReached .. => .execSuspendReached
  | .modeStandby .. => .execModeStandby
  | .standbyReached .. => .execStandbyReached
  | .modeWake .. => .execModeWake
  | .modeReboot .. => .execModeReboot
  | .standbyWakeAttach .. => .execStandbyWakeAttach
  | .imgOpenFw .. => .execImgOpenFw
  | .imgOpenCfg .. => .execImgOpenCfg
  | .imgEraseDone .. => .execImgEraseDone
  | .imgDataWrite .. => .execImgDataWrite
  | .imgCommit .. => .execImgCommit
  | .imgAbandon .. => .execImgAbandon
  | .spiReadFrame .. => .execSpiReadFrame
  | .spiWriteFrame .. => .execSpiWriteFrame
  | .spiUnknownCommand .. => .execSpiUnknownCommand
  | .spiCsRelease .. => .execSpiCsRelease
  | .barRead .. => .execBarRead
  | .barWrite .. => .execBarWrite
  | .accessTimeout .. => .execAccessTimeout
  | .registerWrite .. => .execRegisterWrite
  | .rcRead .. => .execRcRead
  | .pairLowRead .. => .execPairLowRead
  | .pfTrustWrite .. => .execPfTrustWrite
  | .ufBoundary .. => .execUfBoundary
  | .frBoundary .. => .execFrBoundary
  | .brkBoundary .. => .execBrkBoundary
  | .pktBoundary .. => .execPktBoundary
  | .pdIdlePoint .. => .execPdIdlePoint
  | .epochStageWrite .. => .execEpochStageWrite
  | .rubricCommit .. => .execRubricCommit
  | .rubricAbort .. => .execRubricAbort
  | .commitComplete .. => .execCommitComplete
  | .domainCrcUpdate .. => .execDomainCrcUpdate
  | .ownAssign .. => .execOwnAssign
  | .portDecision .. => .execPortDecision
  | .leaseExpiry .. => .execLeaseExpiry
  | .handoverComplete .. => .execHandoverComplete
  | .orphanKeptEntry .. => .execOrphanKeptEntry
  | .orphanOffEntry .. => .execOrphanOffEntry
  | .resettingComplete .. => .execResettingComplete
  | .viEnable .. => .execViEnable
  | .viDisable .. => .execViDisable
  | .viConfigSend .. => .execViConfigSend
  | .cmdDb .. => .execCmdDb
  | .evtDb .. => .execEvtDb
  | .leaseDb .. => .execLeaseDb
  | .transferDb .. => .execTransferDb
  | .reservedDoorbell .. => .execReservedDoorbell
  | .ringFetchComplete .. => .execRingFetchComplete
  | .noopCmd .. => .execNoopCmd
  | .claim .. => .execClaim
  | .release .. => .execRelease
  | .renewLease .. => .execRenewLease
  | .resetPort .. => .execResetPort
  | .resetPortWarm .. => .execResetPortWarm
  | .resetPortTimeout .. => .execResetPortTimeout
  | .suspendPort .. => .execSuspendPort
  | .suspendComplete .. => .execSuspendComplete
  | .resumePort .. => .execResumePort
  | .resumeSignalEnd .. => .execResumeSignalEnd
  | .resumeComplete .. => .execResumeComplete
  | .addressDevice .. => .execAddressDevice
  | .setAddressRecovery .. => .execSetAddressRecovery
  | .disableDevice .. => .execDisableDevice
  | .configureEndpoint .. => .execConfigureEndpoint
  | .bindEndpointRing .. => .execBindEndpointRing
  | .stopEndpoint .. => .execStopEndpoint
  | .resetEndpoint .. => .execResetEndpoint
  | .disableEndpoint .. => .execDisableEndpoint
  | .setReadAhead .. => .execSetReadAhead
  | .readAheadOff .. => .execReadAheadOff
  | .queryPort .. => .execQueryPort
  | .queryVi .. => .execQueryVi
  | .replay .. => .execReplay
  | .resume .. => .execResume
  | .busTransaction .. => .execBusTransaction
  | .turnaroundTimeout .. => .execTurnaroundTimeout
  | .msixIntervalExpiry .. => .execMsixIntervalExpiry
  | .rdmaAckReceived .. => .execRdmaAckReceived
  | .rdmaReadResponse .. => .execRdmaReadResponse
  | .dmaReadCompletion .. => .execDmaReadCompletion
  | .previewTimeLimit .. => .execPreviewTimeLimit
  | .viBindWrite .. => .execViBindWrite
  | .flr .. => .execFlr
  | .vfEnableClear .. => .execVfEnableClear
  | .pcieLinkDown .. => .execPcieLinkDown
  | .bmeClear .. => .execBmeClear
  | .bmeSet .. => .execBmeSet
  | .ptmRequest .. => .execPtmRequest
  | .ethFrameReceived .. => .execEthFrameReceived
  | .prpEntryExpiry .. => .execPrpEntryExpiry
  | .prpSupervisionSend .. => .execPrpSupervisionSend
  | .lanDown .. => .execLanDown
  | .cmReq .. => .execCmReq
  | .repRetryTimeout .. => .execRepRetryTimeout
  | .cmRtu .. => .execCmRtu
  | .cmDreq .. => .execCmDreq
  | .roceDoorbellWrite .. => .execRoceDoorbellWrite
  | .ackTimeout .. => .execAckTimeout
  | .nakReceived .. => .execNakReceived
  | .psnSequenceNak .. => .execPsnSequenceNak
  | .unreachableHoldExpiry .. => .execUnreachableHoldExpiry
  | .qpReset .. => .execQpReset
  | .cnpReceived .. => .execCnpReceived
  | .ccRateIncrease .. => .execCcRateIncrease
  | .pfcFrameReceived .. => .execPfcFrameReceived
  | .ptpSyncAccepted .. => .execPtpSyncAccepted
  | .ptpLockTimeout .. => .execPtpLockTimeout
  | .freeRunSet .. => .execFreeRunSet
  | .portSlewComplete .. => .execPortSlewComplete
  | .endpointPromotion .. => .execEndpointPromotion
  | .isochDataFetch .. => .execIsochDataFetch
  | .usb2ConnectDebounced .. => .execUsb2ConnectDebounced
  | .receiverDetect .. => .execReceiverDetect
  | .ssU0Entry .. => .execSsU0Entry
  | .ssTrainingTimeout .. => .execSsTrainingTimeout
  | .deviceChirpSeen .. => .execDeviceChirpSeen
  | .rootResetEnd .. => .execRootResetEnd
  | .resetRecoveryEnd .. => .execResetRecoveryEnd
  | .babbleDetected .. => .execBabbleDetected
  | .usb2Disconnect .. => .execUsb2Disconnect
  | .ssLinkLost .. => .execSsLinkLost
  | .clearTtBufferDone .. => .execClearTtBufferDone
  | .l1Entry .. => .execL1Entry
  | .u1Entry .. => .execU1Entry
  | .u2Entry .. => .execU2Entry
  | .lpmRefusalHoldExpiry .. => .execLpmRefusalHoldExpiry
  | .remoteWake .. => .execRemoteWake
  | .stuckProbe .. => .execStuckProbe
  | .stuckRetest .. => .execStuckRetest
  | .getHubStatus .. => .execGetHubStatus
  | .clearHubFeature .. => .execClearHubFeature
  | .setHubFeature .. => .execSetHubFeature
  | .getPortStatus .. => .execGetPortStatus
  | .setPortReset .. => .execSetPortReset
  | .classicPortResetEnd .. => .execClassicPortResetEnd
  | .setBhPortReset .. => .execSetBhPortReset
  | .ssPortResetTimeout .. => .execSsPortResetTimeout
  | .setPortSuspend .. => .execSetPortSuspend
  | .clearPortSuspend .. => .execClearPortSuspend
  | .clearPortEnable .. => .execClearPortEnable
  | .setPortPower .. => .execSetPortPower
  | .clearPortPower .. => .execClearPortPower
  | .setPortTest .. => .execSetPortTest
  | .setPortLinkState .. => .execSetPortLinkState
  | .setPortLinkPmFeature .. => .execSetPortLinkPmFeature
  | .clearPortChange .. => .execClearPortChange
  | .getPortErrCount .. => .execGetPortErrCount
  | .setHubDepth .. => .execSetHubDepth
  | .clearTtBuffer .. => .execClearTtBuffer
  | .resetTt .. => .execResetTt
  | .stopTt .. => .execStopTt
  | .getDescriptor .. => .execGetDescriptor
  | .setDescriptor .. => .execSetDescriptor
  | .setConfiguration .. => .execSetConfiguration
  | .setInterface .. => .execSetInterface
  | .upstreamResetRecognised .. => .execUpstreamResetRecognised
  | .hsIdleReversion .. => .execHsIdleReversion
  | .chirpKEnd .. => .execChirpKEnd
  | .hostChirpSixth .. => .execHostChirpSixth
  | .hostChirpTimeout .. => .execHostChirpTimeout
  | .upstreamResetEnd .. => .execUpstreamResetEnd
  | .ssplitReceived .. => .execSsplitReceived
  | .csplitReceived .. => .execCsplitReceived
  | .ligatureResultExpiry .. => .execLigatureResultExpiry
  | .periodicResultDiscard .. => .execPeriodicResultDiscard
  | .upDrSwapSend .. => .execUpDrSwapSend
  | .drSwapRetry .. => .execDrSwapRetry
  | .drSwapAnswer .. => .execDrSwapAnswer
  | .drSwap .. => .execDrSwap
  | .funcOutPacket .. => .execFuncOutPacket
  | .funcRead .. => .execFuncRead
  | .funcWrite .. => .execFuncWrite
  | .funcEcho .. => .execFuncEcho
  | .funcClearHalt .. => .execFuncClearHalt
  | .blockGrant .. => .execBlockGrant
  | .bankWindow .. => .execBankWindow
  | .conflictWindow .. => .execConflictWindow
  | .heartbeat .. => .execHeartbeat
  | .noticeDelivery .. => .execNoticeDelivery
  | .bcHeadRead .. => .execBcHeadRead
  | .bcPop .. => .execBcPop
  | .bcSkip .. => .execBcSkip
  | .bcFlush .. => .execBcFlush
  | .bcIrqAck .. => .execBcIrqAck
  | .irqLineSample .. => .execIrqLineSample
  | .irqLineHigh .. => .execIrqLineHigh
  | .ccPatternAppear .. => .execCcPatternAppear
  | .ccPatternLost .. => .execCcPatternLost
  | .attachDebounceEnd .. => .execAttachDebounceEnd
  | .vbusSwitchOn .. => .execVbusSwitchOn
  | .vsafe5vReached .. => .execVsafe5vReached
  | .vconnStable .. => .execVconnStable
  | .cableDiscoveryRetry .. => .execCableDiscoveryRetry
  | .sourceCapsSend .. => .execSourceCapsSend
  | .sourceCapsRetry .. => .execSourceCapsRetry
  | .goodcrcReceived .. => .execGoodcrcReceived
  | .goodcrcTimeout .. => .execGoodcrcTimeout
  | .senderResponseTimeout .. => .execSenderResponseTimeout
  | .request .. => .execRequest
  | .eprRequest .. => .execEprRequest
  | .transitionStart .. => .execTransitionStart
  | .psRdySend .. => .execPsRdySend
  | .transitionBoundMissed .. => .execTransitionBoundMissed
  | .sinkTxWaitEnd .. => .execSinkTxWaitEnd
  | .getSourceCap .. => .execGetSourceCap
  | .softReset .. => .execSoftReset
  | .pdMessageUnexpected .. => .execPdMessageUnexpected
  | .hardResetReceived .. => .execHardResetReceived
  | .hardResetVbusOff .. => .execHardResetVbusOff
  | .srcRecoverEnd .. => .execSrcRecoverEnd
  | .errorRecoveryEnd .. => .execErrorRecoveryEnd
  | .eprModeEnter .. => .execEprModeEnter
  | .eprModeExit .. => .execEprModeExit
  | .eprKeepalive .. => .execEprKeepalive
  | .eprGetSourceCap .. => .execEprGetSourceCap
  | .eprKeepaliveTimeout .. => .execEprKeepaliveTimeout
  | .ppsTimeout .. => .execPpsTimeout
  | .getStatus .. => .execGetStatus
  | .getPpsStatus .. => .execGetPpsStatus
  | .getSourceInfo .. => .execGetSourceInfo
  | .getRevision .. => .execGetRevision
  | .getSourceCapExtended .. => .execGetSourceCapExtended
  | .getManufacturerInfo .. => .execGetManufacturerInfo
  | .unsupportedMessage .. => .execUnsupportedMessage
  | .ignoredMessage .. => .execIgnoredMessage
  | .bist .. => .execBist
  | .discoverIdentity .. => .execDiscoverIdentity
  | .structuredVdmNak .. => .execStructuredVdmNak
  | .cableIdentityAck .. => .execCableIdentityAck
  | .alertSend .. => .execAlertSend
  | .reclaimTimer .. => .execReclaimTimer
  | .reclaimRestore .. => .execReclaimRestore
  | .pdSendCaps .. => .execPdSendCaps
  | .pdHardReset .. => .execPdHardReset
  | .pdErrorRecovery .. => .execPdErrorRecovery
  | .detachDebounceStart .. => .execDetachDebounceStart
  | .ccDetach .. => .execCcDetach
  | .vsafe0vReached .. => .execVsafe0vReached
  | .ccShortProbe .. => .execCcShortProbe
  | .ccOvervoltage .. => .execCcOvervoltage
  | .ccFaultRetest .. => .execCcFaultRetest
  | .vconnFault .. => .execVconnFault
  | .converterReady .. => .execConverterReady
  | .preswitchCheckDone .. => .execPreswitchCheckDone
  | .vsetTrim .. => .execVsetTrim
  | .breakerEval .. => .execBreakerEval
  | .fastTrip .. => .execFastTrip
  | .ppsCurrentLimitStep .. => .execPpsCurrentLimitStep
  | .thermalUpdate .. => .execThermalUpdate
  | .passDeviceFault .. => .execPassDeviceFault
  | .clearFetFail .. => .execClearFetFail
  | .fetClearCheckEnd .. => .execFetClearCheckEnd
  | .clearLatch .. => .execClearLatch
  | .portRetry .. => .execPortRetry
  | .portRetryClear .. => .execPortRetryClear
  | .shareIncreaseApply .. => .execShareIncreaseApply
  | .shedRestore .. => .execShedRestore
  | .timeSample .. => .execTimeSample
  | .dvfsUpdate .. => .execDvfsUpdate
  | .dvfsVoltageDown .. => .execDvfsVoltageDown
  | .regionTempCap .. => .execRegionTempCap
  | .regionTempUncap .. => .execRegionTempUncap
  | .eqAdaptStep .. => .execEqAdaptStep
  | .recordCommit .. => .execRecordCommit
  | .sectorRecycle .. => .execSectorRecycle
  | .bucketRefill .. => .execBucketRefill
  | .summaryPeriodClose .. => .execSummaryPeriodClose
  | .palFreeze .. => .execPalFreeze
  | .palUnfreeze .. => .execPalUnfreeze
  | .palVerify .. => .execPalVerify
  | .palVerifyDone .. => .execPalVerifyDone
  | .palLoad .. => .execPalLoad
  | .palNext .. => .execPalNext
  | .palPrev .. => .execPalPrev
  | .recordLoadReady .. => .execRecordLoadReady
  | .eccWindow .. => .execEccWindow
  | .eccUncorrectable .. => .execEccUncorrectable
  | .watchdogExpiry .. => .execWatchdogExpiry
  | .engineRestartComplete .. => .execEngineRestartComplete
  | .temperatureExceeded .. => .execTemperatureExceeded
  | .temperatureCleared .. => .execTemperatureCleared
  | .quarExit .. => .execQuarExit
  | .advanceFloor .. => .execAdvanceFloor
  | .returnArm .. => .execReturnArm
  | .returnDisarm .. => .execReturnDisarm
  | .returnArmLapse .. => .execReturnArmLapse
  | .keyLoad .. => .execKeyLoad
  | .keyWithdraw .. => .execKeyWithdraw
  | .fuseOwner .. => .execFuseOwner
  | .keySetCommitted .. => .execKeySetCommitted
  | .gateNonceRead .. => .execGateNonceRead
  | .gateAuthorisation .. => .execGateAuthorisation
  | .gateVerifyDone .. => .execGateVerifyDone
  | .gateNonceExpiry .. => .execGateNonceExpiry
  | .upstreamSuspend .. => .execUpstreamSuspend
  | .upstreamResume .. => .execUpstreamResume
  | .upstreamLpmToken .. => .execUpstreamLpmToken
  | .upstreamSsLinkChange .. => .execUpstreamSsLinkChange
  | .vfEnableSet .. => .execVfEnableSet
  | .flrComplete .. => .execFlrComplete
  | .pcieLinkUp .. => .execPcieLinkUp
  | .eccCorrected .. => .execEccCorrected
  | .fetClearWindowTimeout .. => .execFetClearWindowTimeout
  | .descriptorStoreReloaded .. => .execDescriptorStoreReloaded
  | .keyReloaded .. => .execKeyReloaded
  | .setPortIndicator _ _ n => .execSetPortIndicator (_n := n)
  | .getTtState _ _ n => .execGetTtState (_n := n)

theorem not_spared {p : Piece} (hp : p ∉ ps) : spared ps p = true := by
  simp [spared, hp]

/-- The frame of a command: as time moves on only the copies of the RC registers fold, and the settling at the end moves only Margin's interrupt and the pins. -/
theorem OnlyTouches.same {o : Host.Outcome State Fault Refusal} (h : OnlyTouches ps s o) (hu : o = .next u) {p : Piece} (hp : p ∉ ps) : p.same s u := by
  obtain ⟨t, f, rfl, hkeeps⟩ := h
  have hkept := hkeeps (begin t s) p (not_spared hp)
  rw [act_next] at hu
  cases hu
  cases p
  case rc =>
    obtain ⟨hspi, hpf⟩ := hkept
    simpa [Piece.same, hspi, hpf] using begin_rc t s
  case margin => simp [Piece.same, show (f (begin t s)).margin = s.margin from hkept.trans (by simp)]
  all_goals simpa [Piece.kept, Piece.same] using hkept

/-- A command leaves every part that it does not touch as it was. -/
theorem exec_same {c : Instr} (hu : exec c s = .next u) {p : Piece} (hp : p ∉ touches c) : p.same s u := (exec_onlyTouches s c).same hu hp

end Sys2Proof.Machine

namespace Sys2Proof.Safety

open Sys2Proof.Machine

/-- Settles O45: the rule of every command (`exec_same`), here for this group. -/
theorem powerCommandsFrame : Obligations.PowerCommandsFrame := fun _ _ _ _ hu _ => exec_same hu

/-- Settles O46: the rule of every command (`exec_same`), here for this group. -/
theorem boardCommandsFrame : Obligations.BoardCommandsFrame := fun _ _ _ _ hu _ => exec_same hu

/-- Settles O47: the rule of every command (`exec_same`), here for this group. -/
theorem hostCommandsFrame : Obligations.HostCommandsFrame := fun _ _ _ _ hu _ => exec_same hu

/-- Settles O48: the rule of every command (`exec_same`), here for this group. -/
theorem busCommandsFrame : Obligations.BusCommandsFrame := fun _ _ _ _ hu _ => exec_same hu

/-- Settles O49: the rule of every command (`exec_same`), here for this group. -/
theorem hubAndContractCommandsFrame : Obligations.HubAndContractCommandsFrame := fun _ _ _ _ hu _ => exec_same hu

end Sys2Proof.Safety
end

section
/-! A command about one port, slot, lane or engine leaves its neighbours as they were: its effect writes only the entry it is about. -/

namespace Sys2Proof.Machine

variable {α : Type} {read : State → α} {s u : State} {o : Host.Outcome State Fault Refusal} {m n : PortId} {t : Nat}

/-- A command is an effect at its moment, and the effect leaves what is read as it was. -/
def EffectKeeps (read : State → α) (s : State) (o : Host.Outcome State Fault Refusal) : Prop := ∃ t f, o = act t s f ∧ ∀ v, read (f v) = read v

theorem read_when {c : Bool} {g : State → State} (hg : ∀ w, read (g w) = read w) : read (when c s g) = read s := by
  unfold when
  split
  · exact hg s
  · rfl

theorem EffectKeeps.act {f} (hf : ∀ v, read (f v) = read v) : EffectKeeps read s (act t s f) := ⟨t, f, rfl, hf⟩

/-- An event under its condition; the effect may read the state the condition was read in. -/
theorem EffectKeeps.event {g : State → Bool} {f : State → State → State} (hf : ∀ v w, read (f v w) = read w) :
    EffectKeeps read s (Machine.act t s fun v => when (g v) v (f v)) := .act fun v => read_when (hf v)

/-- What neither time moving on nor the settling moves, the command then leaves as it was. -/
theorem EffectKeeps.next (h : EffectKeeps read s o) (hbegin : ∀ t, read (begin t s) = read s)
    (hsettle : ∀ v k p, read { settle v with now := k, pending := p } = read v) (hu : o = .next u) : read u = read s := by
  obtain ⟨t, f, rfl, hf⟩ := h
  rw [act_next] at hu
  cases hu
  rw [hsettle, hf, hbegin]

/-! ### The power path and the contract of a port -/

/-- The power path and the contract of a port. -/
def portPath (m : PortId) (s : State) : PortPower × PortPd := (s.power.get m, s.pd.get m)

theorem portPath_ite {c : Prop} [Decidable c] {a b : State} : portPath m (if c then a else b) = if c then portPath m a else portPath m b := apply_ite ..

section
variable (h : m ≠ n)
include h

theorem portPath_setPower {f : PortPower → PortPower} : portPath m (setPower s n f) = portPath m s := by
  simp [portPath, setPower_keeps _ _ _, vmod_get, h]

theorem portPath_setPd {f : PortPd → PortPd} : portPath m (setPd s n f) = portPath m s := by
  simp [portPath, setPd_keeps _ _ _, vmod_get, h]

theorem portPath_clearPd {st : PdState} : portPath m (clearPd s n st) = portPath m s := portPath_setPd h

theorem portPath_toUnattached : portPath m (toUnattached s n) = portPath m s := (portPath_setPd h).trans (portPath_clearPd h)

theorem portPath_fetClearFails : portPath m (fetClearFails s n) = portPath m s := portPath_setPower h

theorem portPath_gateDrive : portPath m (gateDrive s n) = portPath m s := by
  rw [gateDrive, vconnWith, portPath_ite, portPath_setPd h, ite_self, portPath_setPower h]

theorem EffectKeeps.execVbusSwitchOn {isp} : EffectKeeps (portPath m) s (execVbusSwitchOn t n isp s) := .event fun _ _ => by
  rw [portPath_gateDrive h, portPath_setPower h]

theorem EffectKeeps.execVsafe0vReached {vbus} : EffectKeeps (portPath m) s (execVsafe0vReached t n vbus s) := .event fun _ _ => by
  simp [portPath_ite, portPath_toUnattached h, portPath_setPd h, portPath_setPower h]

theorem EffectKeeps.execPreswitchCheckDone {isp mid} : EffectKeeps (portPath m) s (execPreswitchCheckDone t n isp mid s) := .event fun _ _ => by
  rw [portPath_gateDrive h, portPath_setPower h]

theorem EffectKeeps.execCcPatternAppear {cc1 cc2} : EffectKeeps (portPath m) s (execCcPatternAppear t n cc1 cc2 s) := .act fun _ => by
  simp [portPath_ite, portPath_clearPd h, portPath_setPd h]

theorem EffectKeeps.execCcPatternLost {cc1 cc2} : EffectKeeps (portPath m) s (execCcPatternLost t n cc1 cc2 s) := .event fun _ _ => by
  rw [portPath_setPd h, portPath_toUnattached h]

theorem EffectKeeps.execDetachDebounceStart {cc1 cc2} : EffectKeeps (portPath m) s (execDetachDebounceStart t n cc1 cc2 s) :=
  .event fun _ _ => portPath_setPd h

theorem EffectKeeps.execConverterReady {isp} : EffectKeeps (portPath m) s (execConverterReady t n isp s) := .event fun _ _ => by
  split
  · rw [portPath_setPower h, portPath_setPower h]
  · rw [read_when fun _ => portPath_setPower h, portPath_setPower h]

theorem EffectKeeps.execVsetTrim {isp} : EffectKeeps (portPath m) s (execVsetTrim t n isp s) := .event fun _ _ => portPath_setPower h

theorem EffectKeeps.execPpsCurrentLimitStep {amps} : EffectKeeps (portPath m) s (execPpsCurrentLimitStep t n amps s) :=
  .event fun _ _ => portPath_setPower h

theorem EffectKeeps.execPortRetryClear : EffectKeeps (portPath m) s (execPortRetryClear t n s) := .event fun _ _ => portPath_setPower h

theorem EffectKeeps.execFetClearWindowTimeout : EffectKeeps (portPath m) s (execFetClearWindowTimeout t n s) := .act fun _ => by
  split
  · exact read_when fun _ => portPath_fetClearFails h
  · rfl

end

theorem EffectKeeps.portPath (h : EffectKeeps (portPath m) s o) (hu : o = .next u) : u.power.get m = s.power.get m ∧ u.pd.get m = s.pd.get m :=
  Prod.mk.inj (h.next (by simp [Machine.portPath]) (by simp [Machine.portPath]) hu)

/-! ### The other tables -/

theorem EffectKeeps.execPortSlewComplete (h : m ≠ n) : EffectKeeps (·.nibs.get m) s (execPortSlewComplete t n s) := .event fun _ _ => by
  split <;> simp [vmod_get, h]

theorem EffectKeeps.execLpmRefusalHoldExpiry (h : m ≠ n) : EffectKeeps (·.nibs.get m) s (execLpmRefusalHoldExpiry t n s) := .act fun _ => by
  split
  · exact read_when (read := (·.nibs.get m)) fun _ => by simp [vmod_get, h]
  · rfl

theorem stampP4_own_get {e} (h : m ≠ n) : (stampP4 s n e).own.get m = s.own.get m := by
  unfold stampP4
  split
  · rfl
  · simp [vmod_get, h]

theorem EffectKeeps.execLeaseExpiry (h : m ≠ n) : EffectKeeps (·.own.get m) s (execLeaseExpiry t n s) := .act fun _ => by
  dsimp only
  split
  · exact read_when (read := (·.own.get m)) fun _ => stampP4_own_get h
  · rfl

theorem EffectKeeps.execCnpReceived {q r : Fin 128} (h : r ≠ q) : EffectKeeps (·.qps.get r) s (execCnpReceived t q s) :=
  .event fun _ _ => by simp [vmod_get, h]

theorem EffectKeeps.execCcRateIncrease {q r : Fin 128} (h : r ≠ q) : EffectKeeps (·.qps.get r) s (execCcRateIncrease t q s) :=
  .event fun _ _ => by simp [vmod_get, h]

theorem EffectKeeps.execEqAdaptStep {l k : Fin 23} {coef up height width} (h : k ≠ l) :
    EffectKeeps (·.lanes.get k) s (execEqAdaptStep t l coef up height width s) := .event fun _ _ => by
  simp only [apply_ite State.lanes, apply_ite (Vector.get · k), vset_get, h, if_false, ite_self]

theorem EffectKeeps.execEngineRestartComplete {e k : Fin 96} (h : k ≠ e) : EffectKeeps (·.engines.get k) s (execEngineRestartComplete t e s) :=
  .event fun _ _ => by simp [vmod_get, h]

end Sys2Proof.Machine

namespace Sys2Proof.Safety

open Sys2Proof.Machine

/-- Settles O50: each of these commands writes only the entry it is about. -/
theorem neighboursStayApart : Obligations.NeighboursStayApart := by
  refine ⟨fun t n m isp mid cc1 cc2 vbus amps s u h hu => ?_, fun t n m s u h hu => ?_,
    fun _ _ _ _ _ h hu => (EffectKeeps.execLeaseExpiry h).next (by simp) (by simp) hu, fun t q r s u h hu => ?_,
    fun _ _ _ _ _ _ _ _ _ h hu => (EffectKeeps.execEqAdaptStep h).next (by simp) (by simp) hu,
    fun _ _ _ _ _ h hu => (EffectKeeps.execEngineRestartComplete h).next (by simp) (by simp) hu⟩
  · rcases hu with hu | hu | hu | hu | hu | hu | hu | hu | hu | hu | hu
    · exact (EffectKeeps.execVbusSwitchOn h).portPath hu
    · exact (EffectKeeps.execVsafe0vReached h).portPath hu
    · exact (EffectKeeps.execPreswitchCheckDone h).portPath hu
    · exact (EffectKeeps.execCcPatternAppear h).portPath hu
    · exact (EffectKeeps.execCcPatternLost h).portPath hu
    · exact (EffectKeeps.execDetachDebounceStart h).portPath hu
    · exact (EffectKeeps.execConverterReady h).portPath hu
    · exact (EffectKeeps.execVsetTrim h).portPath hu
    · exact (EffectKeeps.execPpsCurrentLimitStep h).portPath hu
    · exact (EffectKeeps.execPortRetryClear h).portPath hu
    · exact (EffectKeeps.execFetClearWindowTimeout h).portPath hu
  · rcases hu with hu | hu
    · exact (EffectKeeps.execPortSlewComplete h).next (by simp) (by simp) hu
    · exact (EffectKeeps.execLpmRefusalHoldExpiry h).next (by simp) (by simp) hu
  · rcases hu with hu | hu
    · exact (EffectKeeps.execCnpReceived h).next (by simp) (by simp) hu
    · exact (EffectKeeps.execCcRateIncrease h).next (by simp) (by simp) hu

end Sys2Proof.Safety
end

section
/-! The recorder's rings (R369): programming a record writes the ring of its severity only and loses none of its records, and recycling erases a sector of one ring. -/

namespace Sys2Proof.Machine

variable {s u : State} {r : RamRec} {g : Ring} {xs ys : List Sector} {i k : Nat} {f : Sector → Sector}

/-! ### The rings -/

/-- The sectors of the two rings. -/
def rings (s : State) : List Sector × List Sector := (s.pal.high, s.pal.low)

theorem ringSectors_of_rings (h : rings u = rings s) : ringSectors u g = ringSectors s g := by
  obtain ⟨hhigh, hlow⟩ := Prod.mk.inj h
  cases g
  · exact hhigh
  · exact hlow

@[simp] theorem ringSectors_setRing : ringSectors (setRing s g xs) g = xs := by
  cases g <;> rfl

theorem ringSectors_setRing_other {g' : Ring} (h : g' ≠ g) : ringSectors (setRing s g xs) g' = ringSectors s g' := by
  cases g <;> cases g'
  · exact absurd rfl h
  · rfl
  · rfl
  · exact absurd rfl h

/-! ### A record enters the RAM of the recorder, and the rest stands apart -/

/-- What is read of the recorder apart from its RAM, its losses and its next number. -/
structure ApartFromRam {α : Type} (read : Pal → α) : Prop where
  ram : ∀ p x, read { p with ram := x } = read p
  losses : ∀ p x, read { p with losses := x } = read p
  nextSeq : ∀ p x, read { p with nextSeq := x } = read p

variable {α : Type} {read : Pal → α}

theorem ApartFromRam.countLoss (h : ApartFromRam read) {sv : Sev} : read (countLoss s sv).pal = read s.pal := by
  simpa [Machine.countLoss, rcCount_keeps _ _ _] using h.losses s.pal _

theorem ApartFromRam.makeRoom (h : ApartFromRam read) {sv : Sev} {size : Nat} : read (makeRoom k s sv size).1.pal = read s.pal := by
  induction k generalizing s with
  | zero => rfl
  | succ k ih =>
    unfold Machine.makeRoom
    split
    · rfl
    · split
      · exact h.countLoss
      · split
        · exact h.countLoss
        · exact ih.trans (h.countLoss.trans (h.ram ..))

theorem ApartFromRam.pushRecord (h : ApartFromRam read) {rec : Rec} : read (pushRecord s rec).pal = read s.pal := by
  unfold Machine.pushRecord
  dsimp only
  split
  · split
    · exact ((h.nextSeq ..).trans (h.ram ..)).trans h.makeRoom
    · exact (h.ram ..).trans h.makeRoom
  · exact h.makeRoom

theorem ApartFromRam.marker (h : ApartFromRam read) {code sev ps} : read (marker s code sev ps).pal = read s.pal := h.pushRecord

theorem apartFromRam_rings : ApartFromRam fun p => (p.high, p.low) := ⟨fun _ _ => rfl, fun _ _ => rfl, fun _ _ => rfl⟩

theorem rings_marker {code sev ps} : rings (marker s code sev ps) = rings s := apartFromRam_rings.marker

/-! ### Records of a ring -/

theorem ringRecs_subset_modify (hf : ∀ x, (f x).condemned = x.condemned ∧ x.slots ⊆ (f x).slots) : ringRecs xs ⊆ ringRecs (xs.modify i f) := by
  induction xs generalizing i with
  | nil => simp
  | cons x xs ih =>
    obtain ⟨hcond, hslots⟩ := hf x
    have hx : (if x.condemned then [] else x.slots) ⊆ if (f x).condemned then [] else (f x).slots := by
      rw [hcond]
      split
      · exact List.Subset.refl _
      · exact hslots
    cases i with
    | zero => simpa [ringRecs] using List.append_subset.2 ⟨List.Subset.trans hx (List.subset_append_left ..), List.subset_append_right ..⟩
    | succ i =>
      have htail := ih (i := i)
      simp only [ringRecs, List.modify_succ_cons, List.flatMap_cons] at htail ⊢
      exact List.append_subset.2 ⟨List.subset_append_left .., List.Subset.trans htail (List.subset_append_right ..)⟩

/-- The sector that a record goes to is found without loss: a full one is closed, a blank one taken into use. -/
theorem ringRecs_subset_of_sectorFor {size seq : Nat} (h : sectorFor s g size seq = some (i, ys)) : ringRecs (ringSectors s g) ⊆ ringRecs ys := by
  have htake {zs : List Sector} {from_ : Nat} (hzs : ringRecs (ringSectors s g) ⊆ ringRecs zs)
      (hz : (if s.pal.frozen && s.modes.mode != .holdup && decide (blankCount zs ≤ 1) then none else
        (nextBlank zs from_).map fun j => (j, zs.modify j fun x => { x with inUse := true, blank := false, ring := some g, firstSeq := seq })) = some (i, ys)) :
      ringRecs (ringSectors s g) ⊆ ringRecs ys := by
    split at hz
    · cases hz
    · obtain ⟨j, -, hj⟩ := Option.map_eq_some_iff.1 hz
      cases hj
      exact List.Subset.trans hzs (ringRecs_subset_modify fun _ => ⟨rfl, List.Subset.refl _⟩)
  unfold sectorFor at h
  dsimp only at h
  split at h
  · rcases ite_eq_iff.1 h with ⟨-, h⟩ | ⟨-, h⟩
    · cases h
      exact List.Subset.refl _
    · exact htake (ringRecs_subset_modify (f := closeSector) fun _ => ⟨rfl, List.Subset.refl _⟩) h
  · exact htake (List.Subset.refl _) h

/-! ### Programming and failing -/

/-- Programming a record sets at most the ring of its severity, to sectors with at least its records. -/
theorem programRecord_rings : rings (programRecord s r k) = rings s ∨
    ∃ ys, rings (programRecord s r k) = rings (setRing s (ringOf r.record.sev) ys) ∧ ringRecs (ringSectors s (ringOf r.record.sev)) ⊆ ringRecs ys := by
  unfold programRecord
  dsimp only
  split
  · exact .inl rfl
  next i _ hsec =>
    have hfound := ringRecs_subset_of_sectorFor hsec
    have hslot {x : NorRec} := List.Subset.trans hfound
      (ringRecs_subset_modify (i := i) (f := fun y => { y with slots := y.slots ++ [x] }) fun _ => ⟨rfl, List.subset_append_left ..⟩)
    split
    · exact .inr ⟨_, rfl, hfound⟩
    · split
      · exact .inr ⟨_, rfl, hslot⟩
      · exact .inr ⟨_, rfl, hslot⟩

theorem programRecord_low (h : 2 ≤ r.record.sev.code) : (programRecord s r k).pal.low = s.pal.low := by
  rcases programRecord_rings (s := s) (r := r) (k := k) with hr | ⟨ys, hr, -⟩
  · exact (Prod.mk.inj hr).2
  · simpa [ringOf, h, setRing] using (Prod.mk.inj hr).2

theorem programRecord_high (h : r.record.sev.code < 2) : (programRecord s r k).pal.high = s.pal.high := by
  rcases programRecord_rings (s := s) (r := r) (k := k) with hr | ⟨ys, hr, -⟩
  · exact (Prod.mk.inj hr).1
  · simpa [ringOf, Nat.not_le.2 h, setRing] using (Prod.mk.inj hr).1

theorem ringRecs_subset_programRecord : ringRecs s.pal.low ⊆ ringRecs (programRecord s r k).pal.low := by
  rcases programRecord_rings (s := s) (r := r) (k := k) with hr | ⟨ys, hr, hsub⟩ <;> rw [(Prod.mk.inj hr).2]
  · exact List.Subset.refl _
  · cases hring : ringOf r.record.sev <;> rw [hring] at hsub
    · exact List.Subset.refl _
    · exact hsub

/-- A failed write or erase marks a sector of its own ring only. -/
theorem norFailure_rings {op : Nat} :
    rings (norFailure s g i op) = rings (setRing s g ((ringSectors s g).modify i fun x => { x with bad := true })) :=
  rings_marker.trans (by simp [rings, rcCount_keeps _ _ _])

theorem norFailure_other {g' : Ring} {op : Nat} (h : g' ≠ g) : ringSectors (norFailure s g i op) g' = ringSectors s g' :=
  (ringSectors_of_rings norFailure_rings).trans (ringSectors_setRing_other h)

/-! ### Recycling a sector (R370) -/

/-- The marker of a recycling. -/
def markRecycling (s : State) (g : Ring) (i : Nat) : State :=
  marker s 0x0008 .info [loW (storeIndex s g i), loW (match g with
    | .high => 1
    | .low => 2)]

/-- The marker, programmed at once where it stands next in the RAM. -/
def noteRecycling (s : State) (g : Ring) (i : Nat) : State :=
  match (markRecycling s g i).pal.ram.getLast? with
  | some r => if r.record.code = 0x0008 ∧ r.record.sev = .info ∧ r.persisted = false then programRecord (markRecycling s g i) r 3 else markRecycling s g i
  | none => markRecycling s g i

theorem noteRecycling_rings : (noteRecycling s g i).pal.high = s.pal.high ∧ ringRecs s.pal.low ⊆ ringRecs (noteRecycling s g i).pal.low := by
  obtain ⟨hhigh, hlow⟩ := Prod.mk.inj (rings_marker : rings (markRecycling s g i) = rings s)
  unfold noteRecycling
  split
  · split
    next h =>
      obtain ⟨-, hinfo, -⟩ := h
      exact ⟨(programRecord_high (by rw [hinfo]; decide)).trans hhigh, hlow ▸ ringRecs_subset_programRecord⟩
    · exact ⟨hhigh, hlow ▸ List.Subset.refl _⟩
  · exact ⟨hhigh, hlow ▸ List.Subset.refl _⟩

/-- A sector erased, or condemned with the failure that its erasing met. -/
def recycleSector (s : State) (g : Ring) (i : Nat) (ok : Bool) : State :=
  if ok then
    let s1 := setRing s g ((ringSectors s g).modify i erasedSector)
    { s1 with pal := { s1.pal with full := false } }
  else norFailure (setRing s g ((ringSectors s g).modify i fun x => { x with condemned := true })) g i 1

theorem recycleSector_other {g' : Ring} {ok : Bool} (h : g' ≠ g) : ringSectors (recycleSector s g i ok) g' = ringSectors s g' := by
  unfold recycleSector
  split
  · exact (ringSectors_of_rings rfl).trans (ringSectors_setRing_other h)
  · exact (norFailure_other h).trans (ringSectors_setRing_other h)

theorem exec_sectorRecycle_eq {t : Nat} {ok : Bool} : exec (.sectorRecycle t g ok) s = act t s fun v =>
    when (canPersist v && !v.pal.frozen && v.modes.mode != .brownout && v.modes.mode != .holdup && decide (blankCount (ringSectors v g) ≤ 1)) v fun v =>
      match oldestClosed (ringSectors v g) with
      | none => v
      | some i => recycleSector (noteRecycling v g i) g i ok := rfl

theorem rings_of_act {t : Nat} {f : State → State} (hu : act t s f = .next u) : rings u = rings (f (begin t s)) := by
  rw [act_next] at hu
  cases hu
  simp [rings]

/-- Recycling a sector of one ring leaves the other as its marker left it. -/
theorem sectorRecycle_other {t : Nat} {ok : Bool} (hu : exec (.sectorRecycle t g ok) s = .next u) :
    rings u = rings s ∨ ∃ i, ∀ g' ≠ g, ringSectors u g' = ringSectors (noteRecycling (begin t s) g i) g' := by
  have hr := rings_of_act (exec_sectorRecycle_eq.symm.trans hu)
  unfold when at hr
  split at hr
  · dsimp only at hr
    split at hr
    · exact .inl (hr.trans (by simp [rings]))
    next i _ => exact .inr ⟨i, fun g' h => (ringSectors_of_rings hr).trans (recycleSector_other h)⟩
  · exact .inl (hr.trans (by simp [rings]))

theorem sectorRecycle_low_high {t : Nat} {ok : Bool} (hu : exec (.sectorRecycle t .low ok) s = .next u) : u.pal.high = s.pal.high := by
  rcases sectorRecycle_other hu with hr | ⟨i, hr⟩
  · exact (Prod.mk.inj hr).1
  · exact (hr .high nofun).trans (noteRecycling_rings.1.trans (by simp))

theorem sectorRecycle_high_low {t : Nat} {ok : Bool} (hu : exec (.sectorRecycle t .high ok) s = .next u) : ringRecs s.pal.low ⊆ ringRecs u.pal.low := by
  rcases sectorRecycle_other hu with hr | ⟨i, hr⟩
  · exact (Prod.mk.inj hr).2 ▸ List.Subset.refl _
  · have hlow : u.pal.low = (noteRecycling (begin t s) .high i).pal.low := hr .low nofun
    have hsub := (noteRecycling_rings (s := begin t s) (g := .high) (i := i)).2
    rwa [← hlow, begin_pal] at hsub

end Sys2Proof.Machine

namespace Sys2Proof.Safety

open Sys2Proof.Machine

/-- Settles O56: programming a record sets the ring of its severity (`programRecord_rings`), and what recycling a sector does to the other ring is to program the
INFO marker that says so (`noteRecycling_rings`, `sectorRecycle_other`). -/
theorem eachRingRecyclesOnlyItsOwn : Obligations.EachRingRecyclesOnlyItsOwn :=
  ⟨fun _ _ _ => programRecord_low, fun _ _ _ => programRecord_high, fun _ _ _ _ => sectorRecycle_low_high,
    fun _ _ _ _ hu _ hx => sectorRecycle_high_low hu hx⟩

end Sys2Proof.Safety
end

section
/-! The block right after reset (R5, R381): Off with every store empty, and in order. -/

namespace Sys2Proof.Machine

open Sys2Proof.Safety

theorem reg_reset (a : Nat) : reg State.reset a = mapReset a := rfl

theorem rcValue_reset (p : Path) (a : Nat) : rcValue State.reset p a = 0 := by
  cases p <;> rfl

theorem power_reset (n : PortId) : State.reset.power.get n = power0 := by
  simp [State.reset, Vector.get]

theorem own_reset (n : PortId) : State.reset.own.get n = own0 := by
  simp [State.reset, Vector.get]

/-- Every queue of Margin is empty: it holds no notice and no word. -/
theorem queues_reset (q : Fin 65) : (State.reset.margin.queues.get q).notices = [] ∧ queueWords State.reset q = 0 := by
  revert q
  decide +kernel

/-- Each field of the pins is read from a state that is small after reset: the input path Off, every port off, no interrupt. -/
theorem pins_reset : State.reset.pins = pinsOf State.reset := by decide +kernel

theorem canonicalStores_reset : CanonicalStores State.reset := ⟨rfl, rfl, rfl, rfl, rfl⟩

theorem noticesFit_reset : NoticesFit State.reset := fun q => (queues_reset q).2 ▸ Nat.zero_le _

theorem modesInOrder_reset : ModesInOrder State.reset where
  unpowered _ := rfl
  powered := nofun
  suspended := nofun
  brownout := nofun
  quarantined := nofun
  suspending := nofun

end Sys2Proof.Machine

namespace Sys2Proof.Safety

open Sys2Proof.Machine

/-- Settles O3: the fields of the reset state, with the register store empty (`reg_reset`). What the map gives as CFG or as a hyphen is what assumptions 3 and 4
name. -/
theorem resetLeavesTheBlockOff : Obligations.ResetLeavesTheBlockOff :=
  ⟨rfl, rfl, rfl, rfl, rfl, fun n => ⟨by rw [power_reset]; rfl, by rw [own_reset]; rfl⟩, fun q => (queues_reset q).1, rfl, rfl, rfl, rfl, reg_reset,
    rcValue_reset, pins_reset⟩

/-- Settles O4: empty stores are canonical, empty queues fit, and the mode is Off with the input path. -/
theorem resetHoldsTheInvariants : Obligations.ResetHoldsTheInvariants := ⟨canonicalStores_reset, noticesFit_reset, modesInOrder_reset⟩

end Sys2Proof.Safety
end

section
/-! The writing of an image completes (R382, R395): what each operation does to the write in progress and to the slot that it writes, then each command. -/

namespace Sys2Proof.Machine

variable {s : State} {cfg : Bool}

/-! ### Slots and the write in progress -/

@[simp] theorem imgSlot_setSlot_same (v : NorView) (cfg slotB : Bool) (x : ImgSlot) : imgSlot (setSlot v cfg slotB x) cfg slotB = x := by
  cases cfg <;> cases slotB <;> rfl

@[simp] theorem imgSlot_setSlot_not (v : NorView) (cfg slotB : Bool) (x : ImgSlot) : imgSlot (setSlot v cfg (!slotB) x) cfg slotB = imgSlot v cfg slotB := by
  cases cfg <;> cases slotB <;> rfl

@[simp] theorem setImg_img (s : State) (f : ImgWrite → ImgWrite) : (setImg s f).img = f s.img := rfl
@[simp] theorem setImg_nor (s : State) (f : ImgWrite → ImgWrite) : (setImg s f).nor = s.nor := rfl
@[simp] theorem editSlot_img (s : State) (f : ImgSlot → ImgSlot) : (editSlot s f).img = s.img := rfl
@[simp] theorem editSlot_nor (s : State) (f : ImgSlot → ImgSlot) :
    (editSlot s f).nor = setSlot s.nor s.img.cfg s.img.slotB (f (imgSlot s.nor s.img.cfg s.img.slotB)) := rfl

@[simp] theorem imgEnd_nor (s : State) (result : Nat) : (imgEnd s result).nor = s.nor := rfl
@[simp] theorem imgEnd_img (s : State) (result : Nat) :
    (imgEnd s result).img = { s.img with opened := false, busy := false, waiting := [], result := result } := rfl

@[simp] theorem sealAccepts_begin (t : Nat) (s : State) (cfg signed : Bool) (svn : Nat) :
    sealAccepts (begin t s) cfg signed svn = sealAccepts s cfg signed svn := by
  simp [sealAccepts]

/-! ### The operations (R395) -/

/-- An open erases the slot not in use and leaves the slot in use (R395). -/
theorem imgOpen_admitted (hm : s.modes.mode = .standalone ∨ s.modes.mode = .managed) (ho : s.img.opened = false) :
    (imgOpen s cfg).img = { opened := true, busy := true, cfg := cfg, slotB := !slotInUse s cfg, result := 0, words := [], waiting := [] } ∧
    imgSlot (imgOpen s cfg).nor cfg (!slotInUse s cfg) = .erased ∧ imgSlot (imgOpen s cfg).nor cfg (slotInUse s cfg) = imgSlot s.nor cfg (slotInUse s cfg) := by
  simp [imgOpen, hm, ho]

theorem imgOpen_refused (ho : s.img.opened = true) : (imgOpen s cfg).img = { s.img with result := 5 } ∧ (imgOpen s cfg).nor = s.nor := by
  simp [imgOpen, ho]

theorem imgData_programmed {w : Word} (ho : s.img.opened = true) (hb : s.img.busy = false) :
    (imgData s w).img.words = s.img.words ++ [w] ∧
    (imgSlot (imgData s w).nor s.img.cfg s.img.slotB).body = (imgSlot s.nor s.img.cfg s.img.slotB).body ++ [w] := by
  simp [imgData, ho, hb, setReg_keeps _ _ _]

theorem imgData_waits {w : Word} (ho : s.img.opened = true) (hb : s.img.busy = true) :
    (imgData s w).img.waiting = s.img.waiting ++ [w] ∧ (imgData s w).img.words = s.img.words ∧ (imgData s w).nor = s.nor := by
  simp [imgData, ho, hb, setReg_keeps _ _ _]

/-- A commit of an intact body that Seal accepts ends the write with RESULT 1. -/
theorem imgCommit_accepted {v : ImgVerdict} (ho : s.img.opened = true) (hb : s.img.busy = false) (hi : v.intact = true) (hw : v.written = true)
    (ha : sealAccepts s s.img.cfg v.signed v.svn = true) : imgCommit s v = imgEnd (imgProgram s v) 1 := by
  simp [imgCommit, ho, hb, hi, hw, ha]

theorem imgCommit_bad {v : ImgVerdict} (ho : s.img.opened = true) (hb : s.img.busy = false) (hi : v.intact = false) : imgCommit s v = imgEnd s 2 := by
  simp [imgCommit, ho, hb, hi]

/-- The slot programmed takes the generation after the other's (R389). -/
theorem imgProgram_slot {v : ImgVerdict} : (imgSlot (imgProgram s v).nor s.img.cfg s.img.slotB).commit = true ∧
    (imgSlot (imgProgram s v).nor s.img.cfg s.img.slotB).generation = (imgSlot s.nor s.img.cfg (!s.img.slotB)).generation + 1 ∧
    (imgSlot (imgProgram s v).nor s.img.cfg s.img.slotB).body = s.img.words := by
  simp [imgProgram]

theorem abandonImage_open (ho : s.img.opened = true) :
    (abandonImage s).img.opened = false ∧ (abandonImage s).img.result = 3 ∧ (abandonImage s).nor = s.nor := by
  simp [abandonImage, ho]

end Sys2Proof.Machine

namespace Sys2Proof.Safety

open Sys2Proof.Machine

variable {t : Nat} {p : Path} {s : State}

/-! ### The commands complete (R382, R395) -/

theorem imgOpenFw_completes (hon : s.folioOn = true) (hp : privileged s p = true) (hm : s.modes.mode = .standalone ∨ s.modes.mode = .managed)
    (ho : s.img.opened = false) :
    Completes (.imgOpenFw t p) s fun u =>
      u.img = { opened := true, busy := true, cfg := false, slotB := !s.modes.fwSlotB, result := 0, words := [], waiting := [] } ∧
      imgSlot u.nor false (!s.modes.fwSlotB) = .erased ∧ imgSlot u.nor false s.modes.fwSlotB = imgSlot s.nor false s.modes.fwSlotB := by
  have h := imgOpen_admitted (s := begin t s) (cfg := false) (by simpa using hm) (by simpa using ho)
  simp only [slotInUse, begin_modes, begin_nor] at h
  exact completes_privCmd (execImgOpenFw t p s) rfl rfl hon hp (by simpa using h)

theorem imgOpenCfg_completes (hon : s.folioOn = true) (hp : privileged s p = true) (hm : s.modes.mode = .standalone ∨ s.modes.mode = .managed)
    (ho : s.img.opened = false) :
    Completes (.imgOpenCfg t p) s fun u =>
      u.img = { opened := true, busy := true, cfg := true, slotB := !s.modes.cfgSlotB, result := 0, words := [], waiting := [] } ∧
      imgSlot u.nor true (!s.modes.cfgSlotB) = .erased ∧ imgSlot u.nor true s.modes.cfgSlotB = imgSlot s.nor true s.modes.cfgSlotB := by
  have h := imgOpen_admitted (s := begin t s) (cfg := true) (by simpa using hm) (by simpa using ho)
  simp only [slotInUse, begin_modes, begin_nor] at h
  exact completes_privCmd (execImgOpenCfg t p s) rfl rfl hon hp (by simpa using h)

theorem imgOpenFw_refused (hon : s.folioOn = true) (hp : privileged s p = true) (ho : s.img.opened = true) :
    Completes (.imgOpenFw t p) s fun u => u.img = { s.img with result := 5 } ∧ u.nor = s.nor :=
  completes_privCmd (execImgOpenFw t p s) rfl rfl hon hp (by simp [imgOpen_refused, ho])

theorem imgEraseDone_completes (hon : s.folioOn = true) (ho : s.img.opened = true) (hb : s.img.busy = true) (hm : s.modes.mode ≠ .brownout) :
    Completes (.imgEraseDone t true) s fun u => u.img = { s.img with busy := false, words := s.img.waiting, waiting := [] } ∧
      (imgSlot u.nor s.img.cfg s.img.slotB).body = s.img.waiting ∧ (imgSlot u.nor s.img.cfg s.img.slotB).eraseOk = true :=
  completes_event (execImgEraseDone t true s) rfl rfl (by simp [hon, ho, hb, hm]) (by simp)

theorem imgEraseDone_failed (hon : s.folioOn = true) (ho : s.img.opened = true) (hb : s.img.busy = true) (hm : s.modes.mode ≠ .brownout) :
    Completes (.imgEraseDone t false) s fun u => u.img.opened = false ∧ u.img.result = 4 ∧ u.nor = s.nor :=
  completes_event (execImgEraseDone t false s) rfl rfl (by simp [hon, ho, hb, hm]) (by simp)

theorem imgDataWrite_completes {w : Word} (hon : s.folioOn = true) (hp : privileged s p = true) (ho : s.img.opened = true) (hb : s.img.busy = false) :
    Completes (.imgDataWrite t p w) s fun u => u.img.words = s.img.words ++ [w] ∧
      (imgSlot u.nor s.img.cfg s.img.slotB).body = (imgSlot s.nor s.img.cfg s.img.slotB).body ++ [w] := by
  have h := imgData_programmed (s := begin t s) (w := w) (by simpa using ho) (by simpa using hb)
  exact completes_privCmd (execImgDataWrite t p w s) rfl rfl hon hp (by simpa using h)

theorem imgDataWrite_waits {w : Word} (hon : s.folioOn = true) (hp : privileged s p = true) (ho : s.img.opened = true) (hb : s.img.busy = true) :
    Completes (.imgDataWrite t p w) s fun u => u.img.waiting = s.img.waiting ++ [w] ∧ u.img.words = s.img.words ∧ u.nor = s.nor :=
  completes_privCmd (execImgDataWrite t p w s) rfl rfl hon hp (by simp [imgData_waits, ho, hb])

theorem imgCommit_completes {v : ImgVerdict} (hon : s.folioOn = true) (hp : privileged s p = true) (ho : s.img.opened = true) (hb : s.img.busy = false)
    (hi : v.intact = true) (hw : v.written = true) (ha : sealAccepts s s.img.cfg v.signed v.svn = true) :
    Completes (.imgCommit t p v) s fun u => u.img.opened = false ∧ u.img.result = 1 ∧ (imgSlot u.nor s.img.cfg s.img.slotB).commit = true ∧
      (imgSlot u.nor s.img.cfg s.img.slotB).generation = (imgSlot s.nor s.img.cfg (!s.img.slotB)).generation + 1 ∧
      (imgSlot u.nor s.img.cfg s.img.slotB).body = s.img.words := by
  have hslot := imgProgram_slot (s := begin t s) (v := v)
  simp only [begin_img, begin_nor] at hslot
  exact completes_privCmd (execImgCommit t p v s) rfl rfl hon hp (by simp [imgCommit_accepted, ho, hb, hi, hw, ha, hslot])

theorem imgCommit_rejected {v : ImgVerdict} (hon : s.folioOn = true) (hp : privileged s p = true) (ho : s.img.opened = true) (hb : s.img.busy = false)
    (hi : v.intact = false) : Completes (.imgCommit t p v) s fun u => u.img.opened = false ∧ u.img.result = 2 ∧ u.nor = s.nor :=
  completes_privCmd (execImgCommit t p v s) rfl rfl hon hp (by simp [imgCommit_bad, ho, hb, hi])

theorem imgAbandon_completes (hon : s.folioOn = true) (hp : privileged s p = true) (ho : s.img.opened = true) :
    Completes (.imgAbandon t p) s fun u => u.img.opened = false ∧ u.img.result = 3 ∧ u.nor = s.nor :=
  completes_privCmd (execImgAbandon t p s) rfl rfl hon hp (by simp [abandonImage_open, ho])

/-- Settles O16: each clause is one command's completion, proved above. -/
theorem imageCommandsComplete : Obligations.ImageCommandsComplete :=
  ⟨fun _ _ _ => imgOpenFw_completes, fun _ _ _ => imgOpenCfg_completes, fun _ _ _ => imgOpenFw_refused, fun _ _ => imgEraseDone_completes,
    fun _ _ => imgEraseDone_failed, fun _ _ _ _ => imgDataWrite_completes, fun _ _ _ _ => imgDataWrite_waits, fun _ _ _ _ => imgCommit_completes,
    fun _ _ _ _ => imgCommit_rejected, fun _ _ _ => imgAbandon_completes⟩

end Sys2Proof.Safety
end

section
/-! The Blotter commands complete (R404–R409, R412): what each operation does to Blotter and the clusters, then each command. -/

namespace Sys2Proof.Machine

open Sys2Proof.Safety

variable {s : State}

/-! ### Reports and quarantine (R402, R408, R410) -/

/-- A report loads BLOT_FAULT where Folio runs, whatever its severity (R402). -/
theorem faultReport_blot {place cls sv n} : (faultReport s place cls sv n).blot =
    if s.folioOn then { s.blot with faultLoc := place.1, faultLevel := place.2, faultClass := cls, faultValid := true } else s.blot := by
  unfold faultReport
  split <;> simp_all [notice_keeps _ _ _ _ _ _ _, recordAt_keeps _ _ _ _ _ _ _ _]

/-- Quarantine widens its scope, and of Blotter moves nothing else (R410). -/
theorem enterQuarantine_blot {mask defer} : (enterQuarantine s mask defer).blot = { s.blot with portMask := Nat.lor s.blot.portMask (mask % 65536) } := by
  simp [enterQuarantine, quarantinePorts_keeps _ _ _, enterMode_keeps _ _]

theorem enterQuarantine_clusters {mask defer} : (enterQuarantine s mask defer).clusters = s.clusters := by
  simp [enterQuarantine_keeps _ _ _]

/-- The failure of a running cluster stops it, sets the cluster cause and is reported under its class (R408). -/
theorem clusterFail_running {c cls place} (hon : s.folioOn = true) (hf : (s.clusters.get c).failed = false) :
    ((clusterFail s c cls place).clusters.get c).failed = true ∧ (clusterFail s c cls place).blot.causeCluster = true ∧
    (clusterFail s c cls place).blot.faultClass = cls := by
  simp only [clusterFail, hf, Bool.false_eq_true, if_false, ite_clusters, ite_blot, enterQuarantine_clusters, enterQuarantine_blot, faultReport_blot,
    forfeitRings_keeps _, ceaseAll_keeps _, faultReport_keeps _ _ _ _ _, vmod_get_self, ite_self, hon, if_true]
  (repeat' split) <;> simp

/-- What a cluster's failure leaves in Blotter follows from Blotter, the clusters and Folio's power alone. -/
theorem clusterFail_blot_congr {a b : State} {c cls place} (hblot : a.blot = b.blot) (hclusters : a.clusters = b.clusters) (hfolio : a.folioOn = b.folioOn) :
    (clusterFail a c cls place).blot = (clusterFail b c cls place).blot := by
  simp only [clusterFail, ite_blot, enterQuarantine_blot, faultReport_blot, forfeitRings_keeps _, ceaseAll_keeps _, hblot, hclusters, hfolio]

/-! ### Memory errors (R405, R406) -/

theorem engineRestart_blot {e} : (engineRestart s e).blot = s.blot := by
  simp [engineRestart_keeps _ _]

/-- Whether the containment of an error in a word touches Blotter: where a whole cluster may fail, and where a store is to be reloaded. -/
def containsInBlotter : EccSite → Bool
  | .engine _ _ | .descriptors _ | .keySram _ _ => true
  | _ => false

theorem contain_blot {x : EccSite} (h : containsInBlotter x = false) : (contain s x).blot = s.blot := by
  cases x with
  | engine | descriptors | keySram => cases h
  | context ctx _ =>
    simp only [contain]
    split <;> simp [haltEp_keeps _ _, dropStash_keeps _ _ _, failFlight_keeps _ _]
  | device => simp [contain, releaseDevice_keeps _ _ _ _ _]
  | viContext => simp [contain, unbindVi_keeps _ _]
  | qpContext => simp [contain, unbindVi_keeps _ _, freeSlot_keeps _ _ _]
  | ligature => simp [contain, emptyLig_keeps _ _]
  | margin => simp [contain, dropNotice_keeps _ _ _]
  | palRam => simp [contain, dropRam_keeps _ _]
  | prpTable => simp [contain, rcCount_keeps _ _ _]

/-- What the containment of an error leaves in Blotter follows from Blotter, the clusters, the engines, time and Folio's power alone. -/
theorem contain_blot_congr {a b : State} {x : EccSite} (hblot : a.blot = b.blot) (hclusters : a.clusters = b.clusters) (hengines : a.engines = b.engines)
    (hnow : a.now = b.now) (hfolio : a.folioOn = b.folioOn) : (contain a x).blot = (contain b x).blot := by
  cases x with
  | engine e _ =>
    have hon : engineOn a e = engineOn b e := by simp only [engineOn, hclusters, hengines]
    have hthird : thirdRestart a e = thirdRestart b e := by rw [thirdRestart, thirdRestart, recentRestarts, recentRestarts, hclusters, hnow]
    simp only [contain, ite_blot, engineRestart_blot]
    rw [hon, hthird, hblot, clusterFail_blot_congr hblot hclusters hfolio]
  | descriptors | keySram => simp only [contain, hblot]
  | _ => rw [contain_blot rfl, contain_blot rfl, hblot]

/-- What a report and the containment after it leave in Blotter does not depend on the severity that was reported. -/
theorem contain_faultReport_blot {place cls sv sv' n} {x : EccSite} :
    (contain (faultReport s place cls sv n) x).blot = (contain (faultReport s place cls sv' n) x).blot :=
  contain_blot_congr (by simp [faultReport_blot]) (by simp [faultReport_keeps _ _ _ _ _]) (by simp [faultReport_keeps _ _ _ _ _])
    (by simp [faultReport_keeps _ _ _ _ _]) (by simp [faultReport_keeps _ _ _ _ _])

theorem vmod_id {α : Type} {n : Nat} (v : Vector α n) (i : Fin n) : vmod v i (fun x => x) = v := by
  simp [vmod, Vector.get]

/-- Until the threshold is passed a correction only counts in the window (R405). -/
theorem eccCorrected_counts {x : EccSite} (hb : s.modes.booted = true) (hn : s.blot.window.get (eccBlock x) + 1 ≤ eccThresh s) :
    (eccCorrected s x).blot.window = vmod s.blot.window (eccBlock x) (· + 1) ∧ (eccCorrected s x).blot.reported = s.blot.reported ∧
    (eccCorrected s x).blot.faultValid = s.blot.faultValid := by
  have hn' : ¬ eccThresh s ≤ s.blot.window.get (eccBlock x) := by omega
  simp [eccCorrected, hb, hn', rcCount_keeps _ _ _, vmod]
  exact vmod_id s.blot.reported (eccBlock x)

/-- The correction that passes the threshold is reported as class 1 at the level of its tile (R405). -/
theorem eccCorrected_reports {x : EccSite} (hon : s.folioOn = true) (hb : s.modes.booted = true) (hn : eccThresh s < s.blot.window.get (eccBlock x) + 1)
    (hr : s.blot.reported.get (eccBlock x) = false) :
    (eccCorrected s x).blot.reported.get (eccBlock x) = true ∧ (eccCorrected s x).blot.faultClass = 1 ∧ (eccCorrected s x).blot.faultLevel = 3 ∧
    (eccCorrected s x).blot.faultValid = true := by
  have hn' : eccThresh s ≤ s.blot.window.get (eccBlock x) := by omega
  simp [eccCorrected, hb, hn', hr, hon, rcCount_keeps _ _ _, faultReport_blot]

@[simp] theorem eccPort_begin (t : Nat) (s : State) (x : EccSite) : eccPort (begin t s) x = eccPort s x := by
  cases x <;> simp [eccPort]

/-! ### Watchdogs (R407, R408) -/

/-- The restart of an engine is counted in its cluster, and the engine is out of work until it completes (R407). -/
theorem engineRestart_engines {e : Fin 96} : ((engineRestart s e).engines.get e).restarting = true ∧
    s.now ∈ ((engineRestart s e).clusters.get (engineCluster e)).restarts := by
  simp [engineRestart, failFlight_keeps _ _]

/-! ### Temperature (R409) -/

theorem holdRegion_clusters {q : Nat} {on : Bool} {c : Fin 24} (h : clusterRegion c.val = q) : ((holdRegion s q on).clusters.get c).heldMin = on := by
  simp [holdRegion, Vector.get_ofFn, h]

/-- Above 115 °C the region is held, and that is reported once as class 7 (R409). -/
theorem regionHot_warm {q : Nat} (hon : s.folioOn = true) :
    (∀ c : Fin 24, clusterRegion c.val = q → ((regionHot s q false).clusters.get c).heldMin = true) ∧
    (regionHeld s q = false → (regionHot s q false).blot.faultClass = 7) ∧ (regionHot s q false).blot.causeTemp = s.blot.causeTemp := by
  refine ⟨fun c hc => ?_, fun hq => ?_, ?_⟩
  · simp [regionHot, faultReport_keeps _ _ _ _ _, holdRegion_clusters hc]
  · simp [regionHot, hq, faultReport_blot, holdRegion_keeps _ _ _, hon]
  · simp only [regionHot, Bool.false_eq_true, if_false, ite_blot, faultReport_blot, holdRegion_keeps _ _ _]
    (repeat' split) <;> rfl

/-! ### The exit from Quarantine (R412) -/

theorem releasePorts_blot : (releasePorts s).blot = { s.blot with portMask := 0, inputQ := false, hosts := false, classic := false } := by
  simp [releasePorts, recomputeShares_keeps _, setPower_keeps _ _ _]

theorem quarExit_leaves (hm : s.modes.mode = .quarantine) (hc : noCause s = true) :
    (quarExit s).modes.mode = afterQuarantine s ∧ (quarExit s).blot = { s.blot with portMask := 0, inputQ := false, hosts := false, classic := false } := by
  simp [quarExit, hm, hc, releasePorts_keeps _, releasePorts_blot, enterMode_keeps _ _, rcCount_keeps _ _ _]

theorem quarExit_refused (h : s.modes.mode ≠ .quarantine ∨ noCause s = false) :
    (quarExit s).modes = { s.modes with lastReq := 2 } ∧ (quarExit s).blot = s.blot := by
  rcases h with h | h <;> simp [quarExit, h, refuseMode_keeps _ _]

end Sys2Proof.Machine

namespace Sys2Proof.Safety

open Sys2Proof.Machine

variable {t : Nat} {p : Path} {s : State}

/-! ### The commands complete (R404–R409, R412) -/

theorem eccCorrected_completes {x : EccSite} (hon : s.folioOn = true) (hb : s.modes.booted = true)
    (hn : s.blot.window.get (eccBlock x) + 1 ≤ eccThresh s) :
    Completes (.eccCorrected t x) s fun u => u.blot.window = vmod s.blot.window (eccBlock x) (· + 1) ∧ u.blot.reported = s.blot.reported ∧
      u.blot.faultValid = s.blot.faultValid ∧ u.own = s.own ∧ u.power = s.power := by
  have h := eccCorrected_counts (s := begin t s) (x := x) (by simpa using hb) (by simpa using hn)
  exact completes_event (execEccCorrected t x s) rfl rfl (by simpa using hon) (by simpa [eccCorrected_keeps _ _] using h)

theorem eccCorrected_passes {x : EccSite} (hon : s.folioOn = true) (hb : s.modes.booted = true)
    (hn : eccThresh s < s.blot.window.get (eccBlock x) + 1) (hr : s.blot.reported.get (eccBlock x) = false) :
    Completes (.eccCorrected t x) s fun u => u.blot.reported.get (eccBlock x) = true ∧ u.blot.faultClass = 1 ∧ u.blot.faultLevel = 3 ∧
      u.blot.faultValid = true ∧ u.own = s.own := by
  have h := eccCorrected_reports (s := begin t s) (x := x) (by simpa using hon) (by simpa using hb) (by simpa using hn) (by simpa using hr)
  exact completes_event (execEccCorrected t x s) rfl rfl (by simpa using hon) (by simpa [eccCorrected_keeps _ _] using h)

theorem eccWindow_completes (hon : s.folioOn = true) (hb : s.modes.booted = true) (ht : s.blot.windowEnd ≤ max s.now t) :
    Completes (.eccWindow t) s fun u =>
      u.blot = { s.blot with window := Vector.replicate 8 0, reported := Vector.replicate 8 false, windowEnd := s.blot.windowEnd + ticksS 3600 } :=
  completes_event (execEccWindow t s) rfl rfl (by simpa [hon, hb] using ht) (by simp)

theorem eccUncorrectable_descriptors {loc : Nat} (hon : s.folioOn = true) :
    Completes (.eccUncorrectable t (.descriptors loc)) s fun u => u.blot.descriptorsReloading = true ∧ u.blot.faultClass = 2 ∧ u.blot.faultLevel = 1 ∧
      u.blot.faultLoc = wordOf (loc % 2 ^ 40) ∧ u.own = s.own :=
  completes_event (execEccUncorrectable t (.descriptors loc) s) rfl rfl (by simpa using hon)
    (by simp [contain, faultReport_blot, faultReport_keeps _ _ _ _ _, rcCount_keeps _ _ _, hon, eccLoc])

theorem eccUncorrectable_keySram {v : RingId} {loc : Nat} (hon : s.folioOn = true) :
    Completes (.eccUncorrectable t (.keySram v loc)) s fun u => v.val ∈ u.blot.keysReloading ∧ u.blot.faultClass = 2 ∧ u.sealUnit = s.sealUnit :=
  completes_event (execEccUncorrectable t (.keySram v loc) s) rfl rfl (by simpa using hon)
    (by simp [contain, faultReport_blot, faultReport_keeps _ _ _ _ _, rcCount_keeps _ _ _, hon])

theorem eccUncorrectable_completes {x : EccSite} (hon : s.folioOn = true) :
    Completes (.eccUncorrectable t x) s fun u => u.blot =
      (contain (faultReport (rcCount (begin t s) (eccReg (eccBlock x)) 16) (wordOf (eccLoc x), 1) 2 (if failsCluster s x then .critical else .warning) (eccPort s x)) x).blot :=
  completes_event (execEccUncorrectable t x s) rfl rfl (by simpa using hon) (by
    rw [eccPort_begin]
    exact (settle_blot _).trans contain_faultReport_blot)

theorem descriptorStoreReloaded_completes (hon : s.folioOn = true) :
    Completes (.descriptorStoreReloaded t) s fun u => u.blot = { s.blot with descriptorsReloading := false } :=
  completes_event (execDescriptorStoreReloaded t s) rfl rfl (by simpa using hon) (by simp)

theorem keyReloaded_completes {v : RingId} (hon : s.folioOn = true) :
    Completes (.keyReloaded t v) s fun u => v.val ∉ u.blot.keysReloading ∧ u.blot.faultLoc = s.blot.faultLoc :=
  completes_event (execKeyReloaded t v s) rfl rfl (by simpa using hon) (by simp)

theorem watchdogExpiry_restarts {e : Fin 96} (hon : s.folioOn = true) (hm : s.modes.mode ≠ .standby) (he : engineOn s e = true)
    (h3 : thirdRestart (begin t s) e = false) :
    Completes (.watchdogExpiry t e) s fun u => (u.engines.get e).restarting = true ∧ max s.now t ∈ (u.clusters.get (engineCluster e)).restarts ∧
      u.blot.faultClass = 3 := by
  refine completes_event (execWatchdogExpiry t e s) rfl rfl (by simp [hon, hm, he]) ?_
  have h := engineRestart_engines (s := faultReport (begin t s) (engineTile (e.val / 4) (e.val % 4)) 3 .warning (enginePort e)) (e := e)
  simpa [h3, engineRestart_blot, faultReport_blot, faultReport_keeps _ _ _ _ _, hon] using h

theorem watchdogExpiry_fails {e : Fin 96} (hon : s.folioOn = true) (hm : s.modes.mode ≠ .standby) (he : engineOn s e = true)
    (h3 : thirdRestart (begin t s) e = true) :
    Completes (.watchdogExpiry t e) s fun u => (u.clusters.get (engineCluster e)).failed = true ∧ u.blot.causeCluster = true ∧ u.blot.faultClass = 5 := by
  have hrun : (s.clusters.get (engineCluster e)).failed = false := by
    simp only [engineOn, Bool.and_eq_true, Bool.not_eq_true'] at he
    exact he.2
  have h := clusterFail_running (s := begin t s) (c := engineCluster e) (cls := 5) (place := clusterPlace (engineCluster e).val) (by simpa using hon)
    (by simpa using hrun)
  exact completes_event (execWatchdogExpiry t e s) rfl rfl (by simp [hon, hm, he]) (by simpa [h3] using h)

theorem engineRestartComplete_completes {e : Fin 96} (hon : s.folioOn = true) (he : (s.engines.get e).restarting = true) :
    Completes (.engineRestartComplete t e) s fun u => (u.engines.get e).restarting = false ∧ u.clusters = s.clusters :=
  completes_event (execEngineRestartComplete t e s) rfl rfl (by simp [hon, he]) (by simp)

theorem temperatureExceeded_eq {q : Fin 5} {temp : Int} (hq : q.val ≠ 4) : execTemperatureExceeded t q temp s =
    act t s fun u => when (u.folioOn && u.modes.mode != .standby && decide (1840 < temp)) u fun u => regionHot u q.val (decide (2000 < temp)) := by
  simp [execTemperatureExceeded, hq]

theorem temperatureExceeded_warm {q : Fin 5} {temp : Int} (hon : s.folioOn = true) (hm : s.modes.mode ≠ .standby) (hq : q.val ≠ 4) (hlo : 1840 < temp)
    (hhi : temp ≤ 2000) :
    Completes (.temperatureExceeded t q temp) s fun u => (∀ c : Fin 24, clusterRegion c.val = q.val → (u.clusters.get c).heldMin = true) ∧
      (regionHeld s q.val = false → u.blot.faultClass = 7) ∧ u.blot.causeTemp = s.blot.causeTemp := by
  have h := regionHot_warm (s := begin t s) (q := q.val) (by simpa using hon)
  exact completes_event (execTemperatureExceeded t q temp s) rfl (temperatureExceeded_eq hq) (by simp [hon, hm, hlo])
    (by simpa [Int.not_lt.2 hhi] using h)

theorem temperatureExceeded_hot {q : Fin 5} {temp : Int} (hon : s.folioOn = true) (hm : s.modes.mode ≠ .standby) (hq : q.val ≠ 4) (hhi : 2000 < temp) :
    Completes (.temperatureExceeded t q temp) s fun u =>
      u.blot = (regionHot (begin t s) q.val true).blot ∧ u.modes = (regionHot (begin t s) q.val true).modes :=
  completes_event (execTemperatureExceeded t q temp s) rfl (temperatureExceeded_eq hq) (by simp [hon, hm, show 1840 < temp by omega]) (by simp [hhi])

theorem temperatureExceeded_reservoir {temp : Int} (hi : s.input.state ≠ .off) (hhi : 2000 < temp) :
    Completes (.temperatureExceeded t 4 temp) s fun u => u.blot = (reservoirHot (begin t s)).blot ∧ u.power = (reservoirHot (begin t s)).power :=
  completes_event (execTemperatureExceeded t 4 temp s) rfl rfl (by simp [hi, hhi]) (by simp)

theorem temperatureCleared_region {q : Fin 5} {temp : Int} (hq : q.val ≠ 4) (hlo : temp < 1680) :
    Completes (.temperatureCleared t q temp) s fun u => (∀ c : Fin 24, clusterRegion c.val = q.val → (u.clusters.get c).heldMin = false) ∧
      u.blot.hotMask = putBit s.blot.hotMask q.val false ∧ u.blot.causeTemp = decide (putBit s.blot.hotMask q.val false ≠ 0) :=
  completes_event (execTemperatureCleared t q temp s) rfl rfl (by simp [hlo])
    (by simp +contextual [hq, holdRegion_clusters, holdRegion_keeps _ _ _, heatCause])

theorem temperatureCleared_reservoir {temp : Int} (hlo : temp < 1680) :
    Completes (.temperatureCleared t 4 temp) s fun u => u.blot.hotMask = putBit s.blot.hotMask 4 false ∧ u.clusters = s.clusters :=
  completes_event (execTemperatureCleared t 4 temp s) rfl rfl (by simp [hlo]) (by simp [heatCause])

theorem quarExit_completes (hon : s.folioOn = true) (hp : privileged s p = true) (hm : s.modes.mode = .quarantine) (hc : noCause s = true) :
    Completes (.quarExit t p) s fun u => u.modes.mode = afterQuarantine s ∧ u.blot.portMask = 0 ∧ u.blot.inputQ = false ∧ u.blot.hosts = false ∧
      u.blot.classic = false :=
  completes_privCmd (execQuarExit t p s) rfl rfl hon hp (by simp [quarExit_leaves, hm, hc])

theorem quarExit_refused_completes (hon : s.folioOn = true) (hp : privileged s p = true) (h : s.modes.mode ≠ .quarantine ∨ noCause s = false) :
    Completes (.quarExit t p) s fun u => u.modes = { s.modes with lastReq := 2 } ∧ u.blot = s.blot :=
  completes_privCmd (execQuarExit t p s) rfl rfl hon hp (by simp [quarExit_refused, h])

/-- Settles O43: each clause is one command's completion, proved above. The level of a report's location rests on assumption 104, the windows of the counts on
assumption 105, the edge of the 600 s on assumption 103, and the one report of a hot region on assumption 106. -/
theorem blotterCommandsComplete : Obligations.BlotterCommandsComplete :=
  ⟨fun _ _ _ => eccCorrected_completes, fun _ _ _ => eccCorrected_passes, fun _ _ => eccWindow_completes, fun _ _ _ => eccUncorrectable_descriptors,
    fun _ _ _ _ => eccUncorrectable_keySram, fun _ _ _ => eccUncorrectable_completes, fun _ _ => descriptorStoreReloaded_completes,
    fun _ _ _ => keyReloaded_completes, fun _ _ _ => watchdogExpiry_restarts, fun _ _ _ => watchdogExpiry_fails,
    fun _ _ _ => engineRestartComplete_completes, fun _ _ _ _ => temperatureExceeded_warm,
    fun _ _ _ _ hon hm hq hhi _ => temperatureExceeded_hot hon hm hq hhi, fun _ _ _ => temperatureExceeded_reservoir,
    fun _ _ _ _ => temperatureCleared_region, fun _ _ _ => temperatureCleared_reservoir, fun _ _ _ => quarExit_completes,
    fun _ _ _ => quarExit_refused_completes⟩

end Sys2Proof.Safety
end

section
/-! The Seal commands and the Return gate complete (R414–R421): what each operation does to Seal, the recorder and the modes, then each command. -/

namespace Sys2Proof.Machine

variable {s : State}

/-! ### Keys (R416–R418) -/

@[simp] theorem setSeal_sealUnit (s : State) (f : Seal → Seal) : (setSeal s f).sealUnit = f s.sealUnit := rfl

@[simp] theorem keyAnswer_sealUnit (s : State) (code : Nat) : (keyAnswer s code).sealUnit = { s.sealUnit with keyResult := code } := rfl

/-- A committed set takes effect with its operation over, and SEAL_KEY_DATA clears (R417). -/
theorem keysCommitted_sealUnit {op : KeyOp} : (keysCommitted s op).sealUnit = { s.sealUnit with
    keys := (keysAfter s.sealUnit op).2, keyGeneration := s.sealUnit.keyGeneration + 1, keyOp := none, keyResult := 1, keyData := Vector.replicate 8 0 } := by
  simp [keysCommitted, lapseAuth_keeps _ _, writeKeySector_keeps _ _]

/-! ### The Return gate (R419–R421) -/

/-- The gate's nonce is of as many words as were drawn, each of them free. -/
theorem drawMany_length {k : Nat} : (drawMany k s).1.length = k ∧ (drawMany k s).2.freeCtr = s.freeCtr + k := by
  induction k generalizing s with
  | zero => exact ⟨rfl, rfl⟩
  | succ k ih =>
    obtain ⟨hlength, hctr⟩ := ih (s := (draw s).2)
    exact ⟨congrArg (· + 1) hlength, hctr.trans (by simp [draw]; omega)⟩

theorem apartFromRam_locks : ApartFromRam fun p => (p.returnLock, p.frozen) := ⟨fun _ _ => rfl, fun _ _ => rfl, fun _ _ => rfl⟩

/-- A marker leaves the locks of the recorder's store as they were. -/
theorem marker_locks {code sev ps} :
    (marker s code sev ps).pal.returnLock = s.pal.returnLock ∧ (marker s code sev ps).pal.frozen = s.pal.frozen :=
  Prod.mk.inj apartFromRam_locks.marker

/-- Return is entered with the store locked and frozen, and every key erased (R421). -/
theorem returnEntry_leaves (hm : s.modes.mode ≠ .ret) : (returnEntry s).pal.returnLock = true ∧ (returnEntry s).pal.frozen = true ∧
    (returnEntry s).sealUnit.keys = Vector.replicate 64 none ∧ (returnEntry s).nor.keys0 = none ∧ (returnEntry s).nor.keys1 = none ∧
    (returnEntry s).modes.mode = .ret ∧ (returnEntry s).modes.prev = s.modes.mode := by
  simp [returnEntry, setApplied_keeps _ _ _, setSeal_keeps _ _, marker_locks, marker_keeps _ _ _ _, persistEverything_keeps _, upOff_keeps _,
    applyPortModes_keeps _ _ _, hm]

theorem ne_ret_of_returnOpen (h : returnOpen s = true) : s.modes.mode ≠ .ret := by
  intro hm
  simp [returnOpen, hm] at h

theorem returnRelease_leaves : (returnRelease s).pal.returnLock = false ∧ (returnRelease s).pal.frozen = false ∧ (returnRelease s).modes = s.modes ∧
    (returnRelease s).sealUnit = s.sealUnit := by
  simp [returnRelease, marker_locks, marker_keeps _ _ _ _]

end Sys2Proof.Machine

namespace Sys2Proof.Safety

open Sys2Proof.Machine

variable {t : Nat} {p : Path} {v : RingId} {s : State}

/-! ### The floor and the arming of Return (R415, R419) -/

theorem advanceFloor_completes (hon : s.folioOn = true) (hp : privileged s p = true) :
    Completes (.advanceFloor t p) s fun u => u.sealUnit = { s.sealUnit with floor := min 63 (max s.sealUnit.floor s.sealUnit.svn) } :=
  completes_privCmd (execAdvanceFloor t p s) rfl rfl hon hp (by simp [advanceFloor])

theorem returnArm_completes (hon : s.folioOn = true) (hp : privileged s p = true) :
    Completes (.returnArm t p) s fun u => u.sealUnit = { s.sealUnit with armed := true, armedAt := max s.now t } :=
  completes_privCmd (execReturnArm t p s) rfl rfl hon hp (by simp [returnArm])

theorem returnDisarm_completes (hon : s.folioOn = true) (hp : privileged s p = true) :
    Completes (.returnDisarm t p) s fun u => u.sealUnit = { s.sealUnit with armed := false } :=
  completes_privCmd (execReturnDisarm t p s) rfl rfl hon hp (by simp [returnDisarm])

theorem returnArmLapse_completes (hon : s.folioOn = true) (ha : s.sealUnit.armed = true) (ht : s.sealUnit.armedAt + ticksS 600 ≤ max s.now t) :
    Completes (.returnArmLapse t) s fun u => u.sealUnit = { s.sealUnit with armed := false } :=
  completes_event (execReturnArmLapse t s) rfl rfl (by simpa [hon, ha] using ht) (by simp [returnDisarm])

/-! ### The key store (R416–R418) -/

theorem keyLoad_completes (hon : s.folioOn = true) (hp : privileged s p = true) (ho : s.sealUnit.keyOp = none) :
    Completes (.keyLoad t p v) s fun u => u.sealUnit = { s.sealUnit with keyOp := some (.load v s.sealUnit.keyData.toList), keyResult := 0 } :=
  completes_privCmd (execKeyLoad t p v s) rfl rfl hon hp (by simp [keyLoad, ho])

theorem keyWithdraw_completes (hon : s.folioOn = true) (hp : privileged s p = true) (ho : s.sealUnit.keyOp = none) :
    Completes (.keyWithdraw t p v) s fun u => u.sealUnit = { s.sealUnit with keyOp := some (.withdraw v), keyResult := 0 } :=
  completes_privCmd (execKeyWithdraw t p v s) rfl rfl hon hp (by simp [keyWithdraw, ho])

theorem keyLoad_refused {o : KeyOp} (hon : s.folioOn = true) (hp : privileged s p = true) (ho : s.sealUnit.keyOp = some o) :
    Completes (.keyLoad t p v) s fun u => u.sealUnit = { s.sealUnit with keyResult := 2 } :=
  completes_privCmd (execKeyLoad t p v s) rfl rfl hon hp (by simp [keyLoad, ho])

theorem fuseOwner_completes (hon : s.folioOn = true) (hp : privileged s p = true) (ho : s.sealUnit.keyOp = none) (hk : s.sealUnit.ownerKey = none) :
    Completes (.fuseOwner t p) s fun u => u.sealUnit = { s.sealUnit with ownerKey := some s.sealUnit.keyData.toList, keyResult := 1 } :=
  completes_privCmd (execFuseOwner t p s) rfl rfl hon hp (by simp [fuseOwner, ho, hk])

theorem fuseOwner_refused {k : List Word} (hon : s.folioOn = true) (hp : privileged s p = true) (ho : s.sealUnit.keyOp = none)
    (hk : s.sealUnit.ownerKey = some k) : Completes (.fuseOwner t p) s fun u => u.sealUnit = { s.sealUnit with keyResult := 4 } :=
  completes_privCmd (execFuseOwner t p s) rfl rfl hon hp (by simp [fuseOwner, ho, hk])

/-- With a key operation in progress, its end is an event that runs where Folio and Seal do. -/
theorem completes_keyOp {ok : Bool} {op : KeyOp} {post : State → Prop} (ho : s.sealUnit.keyOp = some op) (hon : s.folioOn = true) (hs : sealOn s = true)
    (h : post { settle (if ok then keysCommitted (begin t s) op
      else setSeal (writeKeySector (begin t s) none) fun x => { x with keyOp := none, keyResult := 3 }) with now := max s.now t, pending := s.pending }) :
    Completes (.keySetCommitted t ok) s post :=
  completes_act (execKeySetCommitted t ok s) rfl rfl (by simpa [ho, hon, hs, when] using h)

theorem keySetCommitted_load {k : List Word} (ho : s.sealUnit.keyOp = some (.load v k)) (hon : s.folioOn = true) (hs : sealOn s = true) :
    Completes (.keySetCommitted t true) s fun u => u.sealUnit.keys = vmod s.sealUnit.keys v (fun _ => some k) ∧ u.sealUnit.keyResult = 1 ∧
      u.sealUnit.keyOp = none ∧ u.sealUnit.keyGeneration = s.sealUnit.keyGeneration + 1 ∧ u.sealUnit.keyData = Vector.replicate 8 0 :=
  completes_keyOp ho hon hs (by simp [keysCommitted_sealUnit, keysAfter])

theorem keySetCommitted_withdraw (ho : s.sealUnit.keyOp = some (.withdraw v)) (hon : s.folioOn = true) (hs : sealOn s = true) :
    Completes (.keySetCommitted t true) s fun u => u.sealUnit.keys = vmod s.sealUnit.keys v (fun _ => none) ∧ u.sealUnit.keyResult = 1 :=
  completes_keyOp ho hon hs (by simp [keysCommitted_sealUnit, keysAfter])

theorem keySetCommitted_failed {o : KeyOp} (ho : s.sealUnit.keyOp = some o) (hon : s.folioOn = true) (hs : sealOn s = true) :
    Completes (.keySetCommitted t false) s fun u => u.sealUnit = { s.sealUnit with keyOp := none, keyResult := 3 } ∧ u.vis = s.vis :=
  completes_keyOp ho hon hs (by simp [writeKeySector_keeps _ _, setSeal_keeps _ _])

/-! ### The Return gate (R419–R421) -/

theorem gateNonceRead_completes (hg : gateOn s = true) (hs : sealOn s = true) (hst : s.sealUnit.gateStalled = false) :
    Completes (.gateNonceRead t) s fun u => ∃ k, u.sealUnit = { s.sealUnit with nonce := some k, nonceAt := max s.now t } ∧ k.length = 8 ∧
      u.out = [.gate k s.sealUnit.uniqueId s.sealUnit.armed] ∧ u.freeCtr = s.freeCtr + 8 := by
  obtain ⟨hlength, hctr⟩ := drawMany_length (s := begin t s) (k := 8)
  exact completes_event (execGateNonceRead t s) rfl rfl (by simp [hg, hs])
    ⟨(drawMany 8 (begin t s)).1, by simp [hst, emit, drawMany_keeps _ _], hlength, by simp [hst, emit, drawMany_keeps _ _, setSeal_keeps _ _],
      by simp [hst, emit_keeps _ _, setSeal_keeps _ _, hctr]⟩

theorem gateNonceRead_stalls (hg : gateOn s = true) (hs : sealOn s = true) (hst : s.sealUnit.gateStalled = true) :
    Completes (.gateNonceRead t) s fun u => u.out = [.gateStall] ∧ u.sealUnit = s.sealUnit :=
  completes_event (execGateNonceRead t s) rfl rfl (by simp [hg, hs]) (by simp [hst, emit])

theorem gateAuthorisation_completes {k : List Word} {i : DWord} {c : Nat} (hg : gateOn s = true) (ha : s.sealUnit.auth = none)
    (hst : s.sealUnit.gateStalled = false) :
    Completes (.gateAuthorisation t k i c) s fun u => u.sealUnit.nonce = none ∧ u.out = [.gateAck] ∧
      u.sealUnit.auth = some (s.sealUnit.nonce == some k && decide (max s.now t < s.sealUnit.nonceAt + ticksS 60), i, c) :=
  completes_event (execGateAuthorisation t k i c s) rfl rfl (by simp [hg, ha]) (by simp [hst, emit, setSeal_keeps _ _])

/-- The verification of an authorisation: it takes effect where it is valid for its scope, and else the gate stalls (R420). -/
def gateVerdict (s : State) (signed fresh : Bool) (uid : DWord) (scope : Nat) : State :=
  let s1 := setSeal s (fun u => { u with auth := none })
  let valid := signed && fresh && uid == s.sealUnit.uniqueId
  if valid && scope == 1 && returnOpen s then returnEntry s1
  else if valid && scope == 2 then returnRelease s1
  else faultReport (setSeal s1 (fun u => { u with gateStalled := true, nonce := none })) (engineTile 22 0) 9 .warning 0

/-- With an authorisation to verify, the end of the verification is an event that runs where the gate and Seal do. -/
theorem completes_gate {signed fresh : Bool} {i : DWord} {c : Nat} {post : State → Prop} (ha : s.sealUnit.auth = some (fresh, i, c)) (hg : gateOn s = true)
    (hs : sealOn s = true) (h : post { settle (gateVerdict (begin t s) signed fresh i c) with now := max s.now t, pending := s.pending }) :
    Completes (.gateVerifyDone t signed) s post :=
  completes_act (execGateVerifyDone t signed s) rfl rfl (by simpa [ha, hg, hs, when, gateVerdict] using h)

theorem gateVerifyDone_enters {i : DWord} (ha : s.sealUnit.auth = some (true, i, 1)) (hg : gateOn s = true) (hs : sealOn s = true)
    (hi : i = s.sealUnit.uniqueId) (ho : returnOpen s = true) :
    Completes (.gateVerifyDone t true) s fun u => u.pal.returnLock = true ∧ u.pal.frozen = true ∧ u.sealUnit.keys = Vector.replicate 64 none ∧
      u.nor.keys0 = none ∧ u.nor.keys1 = none ∧ u.modes.mode = .ret ∧ u.modes.prev = s.modes.mode := by
  have h := returnEntry_leaves (s := setSeal (begin t s) fun u => { u with auth := none }) (by simpa [setSeal_keeps _ _] using ne_ret_of_returnOpen ho)
  exact completes_gate ha hg hs (by simpa [gateVerdict, hi, ho, setSeal_keeps _ _] using h)

theorem gateVerifyDone_releases {i : DWord} (ha : s.sealUnit.auth = some (true, i, 2)) (hg : gateOn s = true) (hs : sealOn s = true)
    (hi : i = s.sealUnit.uniqueId) :
    Completes (.gateVerifyDone t true) s fun u => u.pal.returnLock = false ∧ u.pal.frozen = false ∧ u.modes = s.modes ∧
      u.sealUnit = { s.sealUnit with auth := none } :=
  completes_gate ha hg hs (by simp [gateVerdict, hi, returnRelease_leaves, setSeal_keeps _ _])

theorem gateVerifyDone_stalls {a : Bool × DWord × Nat} (ha : s.sealUnit.auth = some a) (hg : gateOn s = true) (hs : sealOn s = true) :
    Completes (.gateVerifyDone t false) s fun u => u.sealUnit = { s.sealUnit with auth := none, gateStalled := true, nonce := none } ∧
      u.blot.faultClass = 9 ∧ u.modes = s.modes := by
  have hon : s.folioOn = true := by
    simp only [gateOn, Bool.and_eq_true] at hg
    exact hg.1.1
  exact completes_gate ha hg hs (by simp [gateVerdict, faultReport_blot, faultReport_keeps _ _ _ _ _, setSeal_keeps _ _, hon])

theorem gateNonceExpiry_completes {k : List Word} (hn : s.sealUnit.nonce = some k) (ht : s.sealUnit.nonceAt + ticksS 60 ≤ max s.now t) :
    Completes (.gateNonceExpiry t) s fun u => u.sealUnit = { s.sealUnit with nonce := none } ∧ u.out = [] :=
  completes_event (execGateNonceExpiry t s) rfl rfl (by simpa [hn] using ht) (by simp [setSeal_keeps _ _])

/-- Settles O44: each clause is one command's completion, proved above. That the result reads 0 while an operation is in progress rests on assumption 107, that an
authorisation spends the nonce and a failed one stalls the gate on assumption 108, and the markers of the lock on assumption 109. -/
theorem sealCommandsComplete : Obligations.SealCommandsComplete :=
  ⟨fun _ _ _ => advanceFloor_completes, fun _ _ _ => returnArm_completes, fun _ _ _ => returnDisarm_completes, fun _ _ => returnArmLapse_completes,
    fun _ _ _ _ => keyLoad_completes, fun _ _ _ _ => keyWithdraw_completes, fun _ _ _ _ _ => keyLoad_refused, fun _ _ _ => fuseOwner_completes,
    fun _ _ _ _ => fuseOwner_refused, fun _ _ _ _ => keySetCommitted_load, fun _ _ _ => keySetCommitted_withdraw,
    fun _ _ _ => keySetCommitted_failed, fun _ _ => gateNonceRead_completes, fun _ _ => gateNonceRead_stalls,
    fun _ _ _ _ _ => gateAuthorisation_completes, fun _ _ _ => gateVerifyDone_enters, fun _ _ _ => gateVerifyDone_releases,
    fun _ _ _ => gateVerifyDone_stalls, fun _ _ _ => gateNonceExpiry_completes⟩

end Sys2Proof.Safety
end

section
/-! The modes move along R384's table (R381, R384–R386, R398, R412). What the order of the modes speaks of is gathered into `ModeView`; each operation that moves it is
one of a few transitions of that view, and every transition follows the table from a view in order. -/

namespace Sys2Proof.Machine

open Sys2Proof.Safety

/-! ### The view and its order -/

/-- The mode, what it remembers of the mode before it, and what it follows while Folio is unpowered. -/
structure ModeView where
  mode : Mode
  beforeBrownout : Mode
  beforeSuspend : Mode
  beforeQuarantine : Mode
  suspending : Bool
  powered : Bool
  input : InState

def modeView (s : State) : ModeView :=
  { mode := s.modes.mode, beforeBrownout := s.modes.beforeBrownout, beforeSuspend := s.modes.beforeSuspend,
    beforeQuarantine := s.modes.beforeQuarantine, suspending := s.modes.suspending, powered := s.folioOn, input := s.input.state }

namespace ModeView

/-- `ModesInOrder`, of the view. -/
structure Ordered (v : ModeView) : Prop where
  unpowered : v.powered = false → v.mode = unpoweredMode v.input
  powered : v.powered = true → 3 ≤ v.mode.code
  suspended : v.mode = .suspend → ordinary v.beforeSuspend
  brownout : v.mode = .brownout → ordinary v.beforeBrownout
  quarantined : v.mode = .quarantine → ordinary v.beforeQuarantine ∨ (v.beforeQuarantine = .brownout ∧ ordinary v.beforeBrownout)
    ∨ (v.beforeQuarantine = .suspend ∧ ordinary v.beforeSuspend)
  suspending : v.suspending = true → ordinary v.mode

/-- From `v` the modes move in order, along the table, and not into Return. -/
def Follows (v w : ModeView) : Prop := w.Ordered ∧ (w.mode = v.mode ∨ w.mode ∈ modesAfter v.mode) ∧ (w.mode = .ret → v.mode = .ret)

theorem Ordered.follows_self {v : ModeView} (h : v.Ordered) : v.Follows v := ⟨h, .inl rfl, id⟩

/-! ### The transitions -/

/-- While Folio is unpowered the mode is the one of the input path (R381). -/
def followed (v : ModeView) : ModeView := if v.powered then v else { v with mode := unpoweredMode v.input }

/-- Hold-up, but from Standby (R339, R396, R400). -/
def heldUp (v : ModeView) : ModeView :=
  if v.powered = true ∧ v.mode ≠ .standby ∧ v.mode ≠ .holdup then { v with mode := .holdup, suspending := false } else v

/-- Quarantine from the modes that work (R410). -/
def quarantined (v : ModeView) : ModeView :=
  if v.mode = .standalone ∨ v.mode = .managed ∨ v.mode = .brownout ∨ v.mode = .suspend then
    { v with mode := .quarantine, beforeQuarantine := v.mode, suspending := false }
  else v

/-- A wake ends a Suspend entry, or Suspend (R399). -/
def woken (v : ModeView) : ModeView :=
  if v.suspending then { v with suspending := false } else if v.mode = .suspend then { v with mode := v.beforeSuspend } else v

/-- Brownout, with the mode to return to (R384). -/
def dimmed (v : ModeView) : ModeView :=
  { v with mode := .brownout, beforeBrownout := if v.mode = .suspend then v.beforeSuspend else v.mode, suspending := false }

/-- A mode that needs nothing remembered. -/
def entered (v : ModeView) (m : Mode) : ModeView := { v with mode := m, suspending := false }

/-- Folio restarts: a Boot remembers nothing (R387, R394). -/
def rebooted (v : ModeView) : ModeView :=
  { mode := .boot, beforeBrownout := .off, beforeSuspend := .off, beforeQuarantine := .off, suspending := false, powered := true, input := v.input }

/-- Folio loses a rail, with what it remembers (R433). -/
def lost (v : ModeView) : ModeView := { v.rebooted with mode := unpoweredMode v.input, powered := false }

/-- Quarantine is left: for Brownout under the early warning, else for the mode before it (R412). -/
def released (v : ModeView) (ew : Bool) : ModeView :=
  let m := if ew then .brownout else if v.beforeQuarantine = .brownout then v.beforeBrownout else v.beforeQuarantine
  { v with mode := m, beforeBrownout := if m = .brownout ∧ v.beforeQuarantine ≠ .brownout then
      (if v.beforeQuarantine = .suspend then v.beforeSuspend else v.beforeQuarantine) else v.beforeBrownout }

variable {v w : ModeView}

theorem Ordered.followed (h : v.Ordered) : v.followed = v := by
  unfold ModeView.followed
  split
  · rfl
  · rw [← h.unpowered (by simp_all)]

/-- The modes of a powered Folio. -/
theorem Ordered.mode_of_powered (h : v.Ordered) (hp : v.powered = true) : v.mode ≠ .off ∧ v.mode ≠ .seating ∧ v.mode ≠ .inrush := by
  have := h.powered hp
  refine ⟨?_, ?_, ?_⟩ <;> intro hm <;> simp [hm, Mode.code] at this

theorem Ordered.powered_of_mode (h : v.Ordered) (hm : 3 ≤ v.mode.code) : v.powered = true := by
  by_contra hp
  rw [h.unpowered (by simpa using hp)] at hm
  cases hi : v.input <;> simp [hi, unpoweredMode, Mode.code] at hm

theorem Ordered.not_suspending (h : v.Ordered) (hm : ¬ordinary v.mode) : v.suspending = false := by
  by_contra hs
  exact hm (h.suspending (by simpa using hs))

theorem follows_heldUp (h : v.Ordered) : v.Follows v.heldUp := by
  unfold heldUp
  split
  next hc =>
    obtain ⟨hp, hs, hh⟩ := hc
    have hm := h.mode_of_powered hp
    refine ⟨⟨by simp [hp], by simp [Mode.code], by simp, by simp, by simp, by simp⟩, .inr ?_, by simp⟩
    cases hv : v.mode <;> simp_all [modesAfter]
  next => exact h.follows_self

theorem follows_quarantined (h : v.Ordered) : v.Follows v.quarantined := by
  unfold quarantined
  split
  next hc =>
    have hp : v.powered = true := h.powered_of_mode (by rcases hc with hm | hm | hm | hm <;> simp [hm, Mode.code])
    refine ⟨⟨by simp [hp], by simp [Mode.code], by simp, by simp, fun _ => ?_, by simp⟩, .inr ?_, by simp⟩
    · rcases hc with hm | hm | hm | hm
      · exact .inl (.inl hm)
      · exact .inl (.inr hm)
      · exact .inr (.inl ⟨hm, h.brownout hm⟩)
      · exact .inr (.inr ⟨hm, h.suspended hm⟩)
    · rcases hc with hm | hm | hm | hm <;> simp [hm, modesAfter]
  next => exact h.follows_self

theorem quarantined_quarantined : v.quarantined.quarantined = v.quarantined := by
  unfold quarantined
  split <;> simp [*]

theorem follows_woken (h : v.Ordered) : v.Follows v.woken := by
  unfold woken
  split
  next hs => exact ⟨⟨h.unpowered, h.powered, h.suspended, h.brownout, h.quarantined, by simp⟩, .inl rfl, id⟩
  next hs =>
    split
    next hm =>
      have hp : v.powered = true := h.powered_of_mode (by simp [hm, Mode.code])
      have hb := h.suspended hm
      refine ⟨⟨by simp [hp], fun _ => ?_, ?_, ?_, ?_, by simp [hs]⟩, .inr ?_, ?_⟩ <;> rcases hb with hb | hb <;> simp [hb, hm, Mode.code, modesAfter]
    next => exact h.follows_self

theorem woken_woken (h : v.Ordered) : v.woken.woken = v.woken := by
  unfold woken
  by_cases hs : v.suspending
  · rcases h.suspending hs with hm | hm <;> simp [hs, hm]
  · by_cases hm : v.mode = .suspend
    · rcases h.suspended hm with hb | hb <;> simp [hs, hm, hb]
    · simp [hs, hm]

theorem follows_dimmed (h : v.Ordered) (hm : ordinary v.mode ∨ v.mode = .suspend) : v.Follows v.dimmed := by
  have hp : v.powered = true := h.powered_of_mode (by rcases hm with (hm | hm) | hm <;> simp [hm, Mode.code])
  refine ⟨⟨by simp [dimmed, hp], by simp [dimmed, Mode.code], by simp [dimmed], fun _ => ?_, by simp [dimmed], by simp [dimmed]⟩, .inr ?_, by simp [dimmed]⟩
  · rcases hm with (hm | hm) | hm
    · simp [dimmed, hm, ordinary]
    · simp [dimmed, hm, ordinary]
    · simpa [dimmed, hm] using h.suspended hm
  · rcases hm with (hm | hm) | hm <;> simp [dimmed, hm, modesAfter]

theorem follows_lost (h : v.Ordered) (hp : v.powered = true) : v.Follows v.lost := by
  have hm := h.mode_of_powered hp
  have hu : unpoweredMode v.input = .off ∨ unpoweredMode v.input = .seating ∨ unpoweredMode v.input = .inrush := by cases v.input <;> simp [unpoweredMode]
  refine ⟨⟨fun _ => rfl, by simp [lost], ?_, ?_, ?_, by simp [lost, rebooted]⟩, .inr ?_, ?_⟩
  case refine_4 => rcases hu with hu | hu | hu <;> cases hv : v.mode <;> simp_all [lost, modesAfter]
  all_goals rcases hu with hu | hu | hu <;> simp [lost, hu]

theorem follows_rebooted (h : v.Ordered) (hm : v.powered = true ∧ v.mode ≠ .ret ∨ v.mode = .inrush) : v.Follows v.rebooted := by
  refine ⟨⟨by simp [rebooted], by simp [rebooted, Mode.code], by simp [rebooted], by simp [rebooted], by simp [rebooted], by simp [rebooted]⟩, ?_,
    by simp [rebooted]⟩
  rcases hm with ⟨hp, hr⟩ | hm
  · have := h.mode_of_powered hp
    cases hv : v.mode <;> simp_all [rebooted, modesAfter]
  · simp [rebooted, hm, modesAfter]

/-- Brownout ends (R384). -/
theorem follows_undimmed (h : v.Ordered) (hm : v.mode = .brownout) : v.Follows { v with mode := v.beforeBrownout } := by
  have hp : v.powered = true := h.powered_of_mode (by simp [hm, Mode.code])
  have hs := h.not_suspending (by simp [hm, ordinary])
  refine ⟨⟨by simp [hp], fun _ => ?_, ?_, ?_, ?_, by simp [hs]⟩, .inr ?_, ?_⟩ <;> rcases h.brownout hm with hb | hb <;> simp [hb, hm, Mode.code, modesAfter]

/-- A move after one that leaves the mode as it stands. -/
theorem Follows.of_same_mode {x : ModeView} (hm : w.mode = v.mode) (h' : w.Follows x) : v.Follows x := by
  obtain ⟨ho, hx, hr⟩ := h'
  exact ⟨ho, hm ▸ hx, hm ▸ hr⟩

theorem follows_released {ew : Bool} (h : v.Ordered) (hm : v.mode = .quarantine) : v.Follows (v.released ew) := by
  have hp : v.powered = true := h.powered_of_mode (by simp [hm, Mode.code])
  have hs := h.not_suspending (by simp [hm, ordinary])
  refine ⟨⟨by simp [released, hp], fun _ => ?_, ?_, ?_, ?_, by simp [released, hs]⟩, .inr ?_, ?_⟩
  all_goals rcases h.quarantined hm with (hq | hq) | ⟨hq, hb | hb⟩ | ⟨hq, hb | hb⟩ <;> cases ew <;> simp [released, *, Mode.code, ordinary, modesAfter]

/-- A mode that nothing is remembered for is entered, in order where the table has the row. -/
theorem follows_entered {m : Mode} (hp : v.powered = true) (hc : 3 ≤ m.code) (hm : m ≠ .suspend ∧ m ≠ .brownout ∧ m ≠ .quarantine ∧ m ≠ .ret)
    (ha : m ∈ modesAfter v.mode) : v.Follows (v.entered m) := by
  obtain ⟨hs, hb, hq, hr⟩ := hm
  exact ⟨⟨by simp [entered, hp], fun _ => hc, by simp [entered, hs], by simp [entered, hb], by simp [entered, hq], by simp [entered]⟩, .inr ha,
    by simp [entered, hr]⟩

/-- MANAGED from Standalone, with a Suspend entry that may be in progress (R393). -/
theorem follows_managed (h : v.Ordered) (hm : v.mode = .standalone) : v.Follows { v with mode := .managed } := by
  have hp : v.powered = true := h.powered_of_mode (by simp [hm, Mode.code])
  exact ⟨⟨by simp [hp], by simp [Mode.code], by simp, by simp, by simp, fun _ => .inr rfl⟩, .inr (by simp [hm, modesAfter]), by simp⟩

/-- Suspend entry begins (R398). -/
theorem follows_suspending (h : v.Ordered) (hm : ordinary v.mode) : v.Follows { v with suspending := true } :=
  ⟨⟨h.unpowered, h.powered, h.suspended, h.brownout, h.quarantined, fun _ => hm⟩, .inl rfl, id⟩

/-- Suspend is reached (R398). -/
theorem follows_suspended (h : v.Ordered) (hs : v.suspending = true) : v.Follows { v with mode := .suspend, beforeSuspend := v.mode, suspending := false } := by
  have hm := h.suspending hs
  have hp : v.powered = true := h.powered_of_mode (by rcases hm with hm | hm <;> simp [hm, Mode.code])
  refine ⟨⟨by simp [hp], by simp [Mode.code], fun _ => hm, by simp, by simp, by simp⟩, .inr ?_, by simp⟩
  rcases hm with hm | hm <;> simp [hm, modesAfter]

/-- The path of the input moves while Folio is unpowered, or moves what Folio does not follow. -/
def inputMoved (v : ModeView) (i : InState) : ModeView := { v with input := i }.followed

theorem follows_inputMoved {i : InState} (h : v.Ordered)
    (hi : unpoweredMode i = unpoweredMode v.input ∨ unpoweredMode i ∈ modesAfter (unpoweredMode v.input)) : v.Follows (v.inputMoved i) := by
  unfold inputMoved followed
  by_cases hp : v.powered
  · rw [if_pos hp]
    exact ⟨⟨by simp [hp], h.powered, h.suspended, h.brownout, h.quarantined, h.suspending⟩, .inl rfl, id⟩
  · have hm := h.unpowered (by simpa using hp)
    have hs := h.not_suspending (by cases hv : v.input <;> simp [hm, hv, unpoweredMode, ordinary])
    rw [if_neg hp]
    refine ⟨⟨fun _ => rfl, by simp [hp], ?_, ?_, ?_, by simp [hs]⟩, by simpa [hm] using hi, ?_⟩ <;> cases i <;> simp [unpoweredMode]

/-- An input that is lost: Hold-up where Folio runs, SEATING where it does not (R317, R339). -/
theorem follows_inputLost {i : InState} (h : v.Ordered)
    (hi : unpoweredMode i = unpoweredMode v.input ∨ unpoweredMode i ∈ modesAfter (unpoweredMode v.input)) : v.Follows (v.inputMoved i).heldUp := by
  have hf := follows_inputMoved h hi
  by_cases hp : v.powered
  · exact .of_same_mode (by simp [inputMoved, followed, hp]) (follows_heldUp hf.1)
  · rwa [show (v.inputMoved i).heldUp = v.inputMoved i by simp [inputMoved, followed, heldUp, hp]]

end ModeView
end Sys2Proof.Machine
end

section
/-! A step of the modes, and what it is made of: operations that move nothing of the view, transitions that settle (Quarantine and wakes, which an effect may meet more than
once), and moves along the table. Then what the operations that move the modes do to the view. -/

namespace Sys2Proof.Machine

open Sys2Proof.Safety

variable {s u v : State} {f : ModeView → ModeView}

/-! ### Steps of the modes -/

theorem modesInOrder_iff : ModesInOrder s ↔ (modeView s).Ordered :=
  ⟨fun ⟨a, b, c, d, e, g⟩ => ⟨a, b, c, d, e, g⟩, fun ⟨a, b, c, d, e, g⟩ => ⟨a, b, c, d, e, g⟩⟩

/-- From a mode unit in order, the modes stay in order and move along the table, into Return only where it is armed. -/
def ModeStep (s u : State) : Prop :=
  ModesInOrder s → ModesInOrder u ∧ (u.modes.mode = s.modes.mode ∨ u.modes.mode ∈ modesAfter s.modes.mode) ∧
    (u.modes.mode = .ret → s.modes.mode = .ret ∨ s.sealUnit.armed = true)

/-- The modes move in order, along the table, and not into Return. -/
def AlongTable (s u : State) : Prop := (modeView s).Ordered → (modeView s).Follows (modeView u)

theorem AlongTable.still (h : modeView u = modeView s) : AlongTable s u := fun hs => h ▸ hs.follows_self
theorem AlongTable.refl : AlongTable s s := .still rfl

theorem AlongTable.modeStep (h : AlongTable s u) : ModeStep s u := fun hs => by
  obtain ⟨ho, hm, hr⟩ := h (modesInOrder_iff.1 hs)
  exact ⟨modesInOrder_iff.2 ho, hm, fun hu => .inl (hr hu)⟩

/-- What moves nothing of the modes may come after. -/
theorem AlongTable.then (h : AlongTable s u) (hv : modeView v = modeView u) : AlongTable s v := fun hs => hv ▸ h hs

/-- What moves nothing of the modes may come before. -/
theorem AlongTable.after (hu : modeView u = modeView s) (h : AlongTable u v) : AlongTable s v := fun hs => hu ▸ h (hu ▸ hs)

theorem AlongTable.ite {c : Prop} [Decidable c] (h : c → AlongTable s u) (h' : ¬c → AlongTable s v) : AlongTable s (if c then u else v) := by
  split <;> simp_all

theorem AlongTable.when {c : Bool} {g : State → State} (h : AlongTable s (g s)) : AlongTable s (when c s g) := .ite (fun _ => h) fun _ => .refl

/-- The modes stand still, or one transition moves them, which moves them no further when it is done again. -/
def Moves (f : ModeView → ModeView) (s u : State) : Prop := (modeView s).Ordered → modeView u = modeView s ∨ modeView u = f (modeView s)

/-- A transition along the table that moves the modes no further when it is done again. -/
structure Settled (f : ModeView → ModeView) : Prop where
  follows : ∀ {v : ModeView}, v.Ordered → v.Follows (f v)
  again : ∀ {v : ModeView}, v.Ordered → f (f v) = f v

theorem settled_quarantined : Settled ModeView.quarantined := ⟨ModeView.follows_quarantined, fun _ => ModeView.quarantined_quarantined⟩
theorem settled_woken : Settled ModeView.woken := ⟨ModeView.follows_woken, ModeView.woken_woken⟩

theorem Moves.once (h : modeView u = f (modeView s)) : Moves f s u := fun _ => .inr h
theorem Moves.still (h : modeView u = modeView s) : Moves f s u := fun _ => .inl h
theorem Moves.refl : Moves f s s := .still rfl

theorem Moves.alongTable (hf : Settled f) (h : Moves f s u) : AlongTable s u := fun hs => by
  rcases h hs with h | h <;> rw [h]
  · exact hs.follows_self
  · exact hf.follows hs

theorem Moves.trans (hf : Settled f) (h : Moves f s u) (h' : Moves f u v) : Moves f s v := fun hs => by
  rcases h hs with hu | hu
  · simpa [hu] using h' (hu ▸ hs)
  · have hv := h' (hu ▸ (hf.follows hs).1)
    rw [hu, hf.again hs, or_self] at hv
    exact .inr hv

theorem Moves.foldl {β : Type} {g : State → β → State} (hf : Settled f) (l : List β) (h : Moves f s u) (hg : ∀ w x, Moves f w (g w x)) :
    Moves f s (l.foldl g u) :=
  List.foldlRecOn (motive := Moves f s) l g h fun _ hw _ _ => hw.trans hf (hg _ _)

/-- What moves nothing of the modes may come after. -/
theorem Moves.then (h : Moves f s u) (hv : modeView v = modeView u) : Moves f s v := fun hs => hv ▸ h hs

/-- What moves nothing of the modes may come before. -/
theorem Moves.after (hu : modeView u = modeView s) (h : Moves f u v) : Moves f s v := fun hs => hu ▸ h (hu ▸ hs)

theorem Moves.ite {c : Prop} [Decidable c] (h : c → Moves f s u) (h' : ¬c → Moves f s v) : Moves f s (if c then u else v) := by
  split <;> simp_all

theorem Moves.when {c : Bool} {g : State → State} (h : Moves f s (g s)) : Moves f s (when c s g) := .ite (fun _ => h) fun _ => .refl

/-! ### Commands -/

/-- A command is an effect that moves the modes along the table. -/
def ModesFollow (s : State) (o : Host.Outcome State Fault Refusal) : Prop := ∃ t g, o = act t s g ∧ ∀ u, ModeStep u (g u)

theorem ModesFollow.act {t g} (h : ∀ u, ModeStep u (g u)) : ModesFollow s (act t s g) := ⟨t, g, rfl, h⟩

theorem ModesFollow.event {t} {c : State → Bool} {g : State → State → State} (h : ∀ u, c u = true → AlongTable u (g u u)) :
    ModesFollow s (Machine.act t s fun u => when (c u) u (g u)) := .act fun u => by
  refine AlongTable.modeStep ?_
  cases hc : c u
  · exact .refl
  · exact h u hc

theorem modeView_of_keeps (hm : u.modes = s.modes) (hf : u.folioOn = s.folioOn) (hi : u.input = s.input) : modeView u = modeView s := by
  simp only [modeView, hm, hf, hi]

/-- The parts that the view does not read. -/
def besideModes : List Piece := Piece.allBut [.modes, .folioOn, .input]

theorem Leaves.modeView (h : Leaves besideModes s u) : modeView u = modeView s :=
  modeView_of_keeps (h .modes (by decide)) (h .folioOn (by decide)) (h .input (by decide))

/-- A command that touches nothing of the modes leaves them as they are. -/
theorem OnlyTouches.modesFollow {ps o} (h : OnlyTouches ps s o) (hps : within ps besideModes = true) : ModesFollow s o := by
  obtain ⟨t, g, rfl, hg⟩ := h
  exact .act fun u => AlongTable.modeStep (.still (Leaves.modeView fun p hp => hg u p (spared_of_within hps p hp)))

theorem ModesFollow.privCmd {t p a g} (h : ∀ u, u.folioOn = true → AlongTable u (g u)) : ModesFollow s (privCmd t p a s g) := .event fun u hu => by
  split
  · exact h u hu
  · exact .still (Leaves.modeView (by simp +decide))

theorem ModesFollow.modeStep {o} (h : ModesFollow s o) (hu : o = .next u) : ModeStep s u := by
  obtain ⟨t, g, rfl, hg⟩ := h
  have hb := hg (begin t s)
  rw [act_next] at hu
  cases hu
  simpa [ModeStep, modesInOrder_iff, modeView] using hb

/-! ### The operations that move the modes -/

theorem modeView_enterMode {m} : modeView (enterMode s m) = { modeView s with mode := m } := by
  simp [modeView, enterMode_keeps _ _]

theorem modeView_resumeOwn : modeView (resumeOwn s) = modeView s := by
  simp [modeView, resumeOwn_keeps _]

theorem modeView_wakeSource : modeView (wakeSource s) = (modeView s).woken := by
  unfold wakeSource ModeView.woken
  by_cases hs : s.modes.suspending
  · rw [if_pos hs, modeView_resumeOwn]
    simp [modeView, hs]
  · by_cases hm : s.modes.mode = .suspend
    · rw [if_neg hs, if_pos hm, modeView_resumeOwn, modeView_enterMode]
      simp [modeView, hs, hm]
    · simp [modeView, hs, hm]

theorem modeView_enterQuarantine {mask defer} : modeView (enterQuarantine s mask defer) = (modeView s).quarantined := by
  have h : ∀ w, modeView (quarantinePorts w s.blot.portMask defer) = modeView w := fun w => by simp [modeView, quarantinePorts_keeps _ _ _]
  simp only [enterQuarantine, h, apply_ite modeView, modeView_enterMode]
  cases hm : s.modes.mode <;> simp [working, ModeView.quarantined, hm, modeView]

theorem modeView_followInput : modeView (followInput s) = (modeView s).followed := by
  unfold followInput ModeView.followed
  by_cases hp : s.folioOn
  · simp [modeView, hp]
  · cases hi : s.input.state <;> simp [modeView, hp, hi, unpoweredMode] <;> split <;> simp_all

theorem modeView_enterHoldup : modeView (enterHoldup s) = (modeView s).heldUp := by
  unfold enterHoldup ModeView.heldUp
  by_cases hp : s.folioOn
  · by_cases hm : s.modes.mode = .standby ∨ s.modes.mode = .holdup
    · rcases hm with hm | hm <;> simp [modeView, hp, hm]
    · have ⟨h1, h2⟩ := not_or.1 hm
      simp [modeView, hp, h1, h2, startFlush_keeps _, applyPortModes_keeps _ _ _, enterMode_keeps _ _, rcCount_keeps _ _ _, abandonImage_keeps _]
  · simp [modeView, hp]

theorem modeView_setInput {g : InputPath → InputPath} : modeView (setInput s g) = { modeView s with input := (g s.input).state } := rfl

end Sys2Proof.Machine
end

section
/-! Each operation that moves the modes, as a move along the table. -/

namespace Sys2Proof.Machine

open Sys2Proof.Safety

variable {s u v : State}

/-! ### The card input (R314–R318, R338) -/

theorem modeView_startInrush {vin} : modeView (startInrush s vin) = (modeView s).inputMoved .inrush := by
  rw [startInrush, modeView_followInput, modeView_setInput]; rfl

theorem modeView_reseat : modeView (reseat s) = (modeView s).inputMoved .seating := by
  rw [reseat, modeView_followInput, modeView_setInput]; rfl

theorem modeView_powerRecorded {lo place code sev n set xs} : modeView (recordRes (powerEvent s lo) place code sev n set xs) = modeView s :=
  Leaves.modeView (by simp +decide)

theorem modeView_loseInput {cause} : modeView (loseInput s cause) = ((modeView s).inputMoved .lost).heldUp := by
  rw [loseInput, modeView_enterHoldup, modeView_followInput, modeView_powerRecorded]; rfl

theorem modeView_tripInput {cause} : modeView (tripInput s cause) = ((modeView s).inputMoved .retryWait).heldUp := by
  rw [tripInput, modeView_enterHoldup, modeView_followInput, modeView_powerRecorded]; rfl

theorem modeView_collapseReservoir : modeView (collapseReservoir s) = (modeView s).inputMoved .off := by
  rw [collapseReservoir, modeView_followInput]; rfl

theorem alongTable_startInrush {vin} (hi : s.input.state ≠ .off) : AlongTable s (startInrush s vin) := fun hs => by
  rw [modeView_startInrush]
  exact ModeView.follows_inputMoved hs (by cases hv : s.input.state <;> simp_all [modeView, unpoweredMode, modesAfter])

theorem alongTable_reseat (hi : s.input.state ≠ .off) : AlongTable s (reseat s) := fun hs => by
  rw [modeView_reseat]
  exact ModeView.follows_inputMoved hs (by cases hv : s.input.state <;> simp_all [modeView, unpoweredMode, modesAfter])

theorem alongTable_loseInput {cause} (hi : s.input.state ≠ .off) : AlongTable s (loseInput s cause) := fun hs => by
  rw [modeView_loseInput]
  exact ModeView.follows_inputLost hs (by cases hv : s.input.state <;> simp_all [modeView, unpoweredMode, modesAfter])

theorem alongTable_tripInput {cause} (hi : s.input.state ≠ .off) : AlongTable s (tripInput s cause) := fun hs => by
  rw [modeView_tripInput]
  exact ModeView.follows_inputLost hs (by cases hv : s.input.state <;> simp_all [modeView, unpoweredMode, modesAfter])

theorem alongTable_inputClear : AlongTable s (inputClear s) := .ite (fun h => alongTable_reseat (by simp [h])) fun _ => .refl

theorem modeView_inputFetClear : modeView (inputFetClear s) = modeView s := by
  unfold inputFetClear
  split <;> rfl

theorem modeView_enterBrownout : modeView (enterBrownout s) = (modeView s).dimmed := by
  rw [enterBrownout, modeView_enterMode]
  simp [modeView, rcCount_keeps _ _ _, ModeView.dimmed]
  rfl

theorem modeView_leaveBrownout : modeView (leaveBrownout s) = { modeView s with mode := (modeView s).beforeBrownout } := by
  rw [leaveBrownout, modeView_resumeOwn, modeView_enterMode]; rfl

/-! ### Wakes (R399) -/

theorem moves_wakeSource : Moves ModeView.woken s (wakeSource s) := .once modeView_wakeSource

theorem moves_transferDb {r value} : Moves ModeView.woken s (transferDb s r value) := by
  unfold transferDb
  dsimp only
  split
  · exact .still (by simp [modeView, ignoreDb_keeps _ _])
  · split
    · exact .still (by simp [modeView, ignoreDb_keeps _ _])
    · refine .ite (fun _ => .still (by simp [modeView, ignoreDb_keeps _ _])) fun _ => moves_wakeSource.then ?_
      simp [modeView, advance_keeps _ _, startFetch_keeps _ _ _, setEp_keeps _ _ _]

theorem moves_doorbell {r off value} : Moves ModeView.woken s (doorbell s r off value) := by
  unfold doorbell
  refine .ite (fun _ => .still ?_) fun _ => .ite (fun _ => .still ?_) fun _ => .ite (fun _ => .still ?_) fun _ => .ite (fun _ => .still ?_) fun _ =>
    .ite (fun _ => moves_transferDb) fun _ => .still ?_
  all_goals simp [modeView, ignoreDb_keeps _ _, cmdDb_keeps _ _ _, evtDb_keeps _ _ _, renewLeases_keeps _ _ _]

theorem Moves.setVi {f r g} (h : Moves f s u) : Moves f s (setVi u r g) := h.then (Leaves.modeView (by simp +decide))

theorem moves_takeCmd {r bs} : Moves ModeView.woken s (takeCmd s r bs).1 := by
  unfold takeCmd
  dsimp only
  split
  · exact .refl
  · split
    · exact .still (by simp [modeView, setVi_keeps _ _ _])
    · split
      · exact .still (by simp [modeView, setVi_keeps _ _ _, completeCmd_keeps _ _ _ _ _ _ _])
      · split
        · exact .still (by simp [modeView, setVi_keeps _ _ _, completeCmd_keeps _ _ _ _ _ _ _])
        · exact Moves.setVi (.ite (fun _ => Moves.refl.setVi) fun _ => Moves.refl.setVi.trans settled_woken moves_wakeSource)

theorem moves_takeEntries {r ring} (bss : List (List Byte)) : Moves ModeView.woken s (takeEntries s r ring bss) := by
  induction bss generalizing s with
  | nil => exact .refl
  | cons bs rest ih =>
    have hone : Moves ModeView.woken s (match ring with | .cmd => takeCmd s r bs | .xfer ctx => takeTd s r ctx bs).1 := by
      cases ring
      · exact moves_takeCmd
      · exact .still (by simp [modeView, takeTd_keeps _ _ _ _])
    exact .ite (fun _ => hone.trans settled_woken ih) fun _ => hone

theorem moves_fetchComplete {r ring entries failed} : Moves ModeView.woken s (fetchComplete s r ring entries failed) := by
  refine .ite (fun _ => .still (by simp [modeView, fetchFailed_keeps _ _ _])) fun _ => ?_
  have h : Moves ModeView.woken s (takeEntries (setBusy s r ring false) r ring (entries.take 8)) :=
    .after (by simp [modeView, setBusy_keeps _ _ _ _]) (moves_takeEntries _)
  cases ring <;> exact h.then (by simp [modeView, startFetch_keeps _ _ _, advance_keeps _ _])

theorem moves_readArrived {r what data failed} : Moves ModeView.woken s (readArrived s r what data failed) := by
  cases what
  · exact .when moves_fetchComplete
  · exact .still (by simp [readArrived, modeView, outArrived_keeps _ _ _ _ _])

theorem moves_attachSink {n} : Moves ModeView.woken s (attachSink s n) := moves_wakeSource.then <| by
  simp [attachSink, modeView, recomputeShares_keeps _, switchOn_keeps _ _, presentRp_keeps _ _, setPd_keeps _ _ _, clearPd_keeps _ _ _]

theorem moves_attachAccessory {n audio} : Moves ModeView.woken s (attachAccessory s n audio) :=
  moves_wakeSource.then (Leaves.modeView (by simp +decide [attachAccessory]))

theorem moves_tryAttach {n} : Moves ModeView.woken s (tryAttach s n) := by
  refine .ite (fun _ => .ite (fun _ => moves_attachSink) fun _ => .still ?_) fun _ => .ite (fun _ => moves_attachAccessory) fun _ =>
    .ite (fun _ => moves_attachAccessory) fun _ => .ite (fun _ => .still ?_) fun _ => .still ?_
  all_goals simp [modeView, setPd_keeps _ _ _, attachDebugUp_keeps _]

theorem moves_detach {n} : Moves ModeView.woken s (detach s n) := moves_wakeSource.then <| by
  simp [detach, modeView, recomputeShares_keeps _, toUnattached_keeps _ _, viewOverCurrent_keeps _ _ _, busGone_keeps _ _ _, presentRp_keeps _ _,
    setPd_keeps _ _ _, clearPd_keeps _ _ _, detachPower_keeps _ _, dropRole_keeps _ _, gateOff_keeps _ _ _ _]

/-! ### Faults (R408–R411) -/

theorem Moves.enterQuarantine {mask defer} (h : Moves ModeView.quarantined s u) : Moves ModeView.quarantined s (enterQuarantine u mask defer) :=
  h.trans settled_quarantined (.once modeView_enterQuarantine)

theorem Moves.faultReport {f place cls sev n} (h : Moves f s u) : Moves f s (faultReport u place cls sev n) := h.then (Leaves.modeView (by simp +decide))

theorem Moves.blot {f x} (h : Moves f s u) : Moves f s { u with blot := x } := h.then (modeView_of_keeps rfl rfl rfl)
theorem Moves.forfeitRings {f} (h : Moves f s u) : Moves f s (forfeitRings u) := h.then (by simp [modeView, forfeitRings_keeps _])
theorem Moves.ceaseAll {f} (h : Moves f s u) : Moves f s (ceaseAll u) := h.then (by simp [modeView, ceaseAll_keeps _])

theorem moves_clusterFail {c cls place} : Moves ModeView.quarantined s (clusterFail s c cls place) := by
  unfold clusterFail
  split
  · exact .refl
  · dsimp only
    generalize hw : ({ s with clusters := _, engines := _, blot := _ } : State) = w
    have hfail : Moves ModeView.quarantined s (Machine.faultReport w place cls .critical (clusterPort c)) :=
      Moves.faultReport (.still (hw ▸ modeView_of_keeps rfl rfl rfl))
    split
    · exact hfail.enterQuarantine
    · split
      · exact hfail.blot.enterQuarantine.forfeitRings
      · split
        · exact hfail.blot.enterQuarantine.ceaseAll
        · exact hfail.enterQuarantine

theorem moves_reportPortFet {n} : Moves ModeView.quarantined s (reportPortFet s n) := by
  unfold reportPortFet
  exact Moves.enterQuarantine (.faultReport (.still (Leaves.modeView (by simp +decide))))

theorem Moves.reportPortFet {n} (h : Moves ModeView.quarantined s u) : Moves ModeView.quarantined s (reportPortFet u n) :=
  h.trans settled_quarantined moves_reportPortFet

theorem moves_reportInputFet : Moves ModeView.quarantined s (reportInputFet s) := by
  unfold reportInputFet
  exact Moves.enterQuarantine (.faultReport (.still (modeView_of_keeps rfl rfl rfl)))

theorem modeView_holdFault {x} : modeView (holdFault s x) = modeView s := modeView_of_keeps rfl rfl rfl
theorem modeView_setHot {q} : modeView (setHot s q) = modeView s := by simp [modeView, setHot_keeps _ _]

theorem moves_portFetFault {n} : Moves ModeView.quarantined s (portFetFault s n) := by
  unfold portFetFault
  dsimp only
  generalize hl : passCause (setPower (recordRes s _ _ _ _ _ _) n _) = w
  have hw : modeView w = modeView s := hl ▸ Leaves.modeView (by simp +decide)
  split
  · refine .still ?_
    rw [modeView_holdFault]
    exact Leaves.modeView (by simp +decide)
  · split
    · exact .still hw
    · refine Moves.reportPortFet (.ite (fun _ => .still ?_) fun _ => .still hw)
      rw [← hw]
      simp [modeView, powerOffPort_keeps _ _ _]

theorem moves_inputFetFault : Moves ModeView.quarantined s (inputFetFault s) := by
  unfold inputFetFault
  dsimp only
  generalize hl : passCause (setInput _ _) = w
  have hw : modeView w = modeView s := by
    rw [← hl]
    simp [modeView, passCause_keeps _, setInput, draw_keeps _]
  split
  · exact .still hw
  · split
    · exact .still ((Leaves.modeView (by simp +decide)).trans hw)
    · exact .after ((Leaves.modeView (by simp +decide)).trans hw) moves_reportInputFet

theorem moves_contain {site} : Moves ModeView.quarantined s (contain s site) := by
  cases site with
  | engine e w =>
    refine .ite (fun _ => .refl) fun _ => .ite (fun _ => moves_clusterFail) fun _ => .still (Leaves.modeView (by simp +decide))
  | context ctx w =>
    simp only [contain]
    split
    · exact .refl
    · exact .still (by simp [modeView, haltEp_keeps _ _, dropStash_keeps _ _ _, failFlight_keeps _ _])
  | _ =>
    refine .still ?_
    simp [contain, modeView, releaseDevice_keeps _ _ _ _ _, unbindVi_keeps _ _, freeSlot_keeps _ _ _, emptyLig_keeps _ _, dropNotice_keeps _ _ _, dropRam_keeps _ _,
      rcCount_keeps _ _ _]

theorem moves_regionHot {q hot} : Moves ModeView.quarantined s (regionHot s q hot) := by
  unfold regionHot
  dsimp only
  have hheld : modeView (holdRegion s q true) = modeView s := Leaves.modeView (by simp +decide)
  split
  · split
    · exact .still hheld
    · exact Moves.enterQuarantine (.faultReport (.still (modeView_setHot.trans hheld)))
  · split
    · exact .still hheld
    · exact Moves.faultReport (.still hheld)

theorem moves_reservoirHot : Moves ModeView.quarantined s (reservoirHot s) := by
  unfold reservoirHot
  dsimp only
  have hhot : modeView (setHot s 4) = modeView s := modeView_setHot
  split
  · exact .refl
  · split
    · exact .still ((Leaves.modeView (by simp +decide)).trans hhot)
    · split
      · exact .still hhot
      · exact Moves.enterQuarantine (.faultReport (.still hhot))

theorem moves_linkLost : Moves ModeView.quarantined s (linkLost s) := by
  unfold linkLost
  dsimp only
  generalize hl : eachPort _ stopSwitchOn = w
  have hw : Moves ModeView.quarantined s w := hl ▸ .still (by simp [modeView, stopSwitchOn_keeps _ _])
  split
  · exact hw.faultReport
  · exact hw.faultReport.blot.enterQuarantine

end Sys2Proof.Machine
end

section
/-! The modes as Folio boots, loses its power, and takes requests. -/

namespace Sys2Proof.Machine

open Sys2Proof.Safety

variable {s u v : State}

/-! ### Boot (R387–R394) -/

theorem modeView_setCurveBad {p b} : modeView (setCurveBad s p b) = modeView s := by
  cases p with
  | port n => exact Leaves.modeView (by simp +decide [setCurveBad])
  | input => rfl

theorem modeView_recordAt {place code sev n subject set xs} : modeView (recordAt s place code sev n subject set xs) = modeView s :=
  Leaves.modeView (by simp +decide)

theorem modeView_curveRefused {p} : modeView (curveRefused s p) = modeView s := by
  cases p <;> exact modeView_recordAt.trans modeView_setCurveBad

theorem modeView_setRegs {β : Type} {xs : List β} {a : β → Nat} {w : β → Word} : modeView (xs.foldl (fun u x => setReg u (a x) (w x)) s) = modeView s :=
  foldl_proj modeView _ (fun _ _ => Leaves.modeView (by simp +decide)) _ _

theorem modeView_bootCurve {old xs p} : modeView (bootCurve old xs s p) = modeView s := by
  unfold bootCurve
  dsimp only
  split
  · exact modeView_setCurveBad
  · split
    · exact modeView_setCurveBad.trans modeView_setRegs
    · exact modeView_curveRefused.trans modeView_setRegs

theorem modeView_applyCurve {ws p} : modeView (applyCurve ws s p) = modeView s := by
  unfold applyCurve
  dsimp only
  split
  · rfl
  · split
    · exact modeView_setCurveBad.trans modeView_setRegs
    · exact modeView_curveRefused

theorem modeView_brkCommit : modeView (brkCommit s) = modeView s := by
  unfold brkCommit applyClassV
  dsimp only
  split
  · exact (foldl_proj modeView _ (fun _ _ => modeView_applyCurve) _ _).trans modeView_setRegs
  · rfl

theorem modeView_applySettings {xs} : modeView (applySettings s xs) = modeView s := by
  unfold applySettings
  dsimp only
  refine (foldl_proj modeView _ (fun _ _ => modeView_bootCurve) _ _).trans ((foldl_proj modeView _ (fun w x => ?_) _ _).trans rfl)
  simp [modeView, applySetting_keeps _ _]

theorem modeView_bootConfig : modeView (bootConfig s) = modeView s := by
  have hcommit : ∀ w, modeView (commitEpochOne w) = modeView w := fun w => by simp [modeView, commitEpochOne_keeps _]
  have hmarker : ∀ w xs, modeView (marker w 0x000A .warning xs) = modeView w := fun w xs => by simp [modeView, marker_keeps _ _ _ _]
  unfold bootConfig
  dsimp only
  split
  · rw [hcommit, modeView_applySettings]
    simp [modeView, reportRefusals_keeps _ _]
  · rw [hcommit, hmarker, modeView_applySettings]
    simp [modeView, reportRefusals_keeps _ _]

theorem moves_bootEngine {e} : Moves ModeView.quarantined s (bootEngine s e) :=
  .ite (fun _ => Moves.refl.faultReport) fun _ => moves_clusterFail

theorem moves_bootLoad : Moves ModeView.quarantined s (bootLoad s) := by
  have hscan : ∀ w, modeView (bootScan w) = modeView w := fun w => by simp [modeView, bootScan_keeps _]
  have hkeys : ∀ w, modeView (bootKeys w) = modeView w := fun w => by simp [modeView, bootKeys_keeps _]
  unfold bootLoad
  split
  · exact .still rfl
  · dsimp only
    split
    · refine .still ((hscan _).trans ?_)
      simp [modeView, bootHold, reportRefusals_keeps _ _, takeDirectory, setReg_keeps _ _ _]
    · refine Moves.then (.foldl settled_quarantined _ (.still ?_) fun _ _ => moves_bootEngine) ((hscan _).trans (modeView_bootConfig.trans (hkeys _)))
      simp [modeView, setSeal, reportRefusals_keeps _ _, takeDirectory, setReg_keeps _ _ _]

/-- In Boot no cluster's failure moves the mode (R410). -/
theorem modeView_bootLoad (ho : (modeView s).Ordered) (hm : s.modes.mode = .boot) : modeView (bootLoad s) = modeView s := by
  rcases moves_bootLoad ho with h | h
  · exact h
  · rw [h]
    simp [ModeView.quarantined, modeView, hm]

theorem modeView_folioReset {warm} : modeView (folioReset s warm) = { (modeView s).rebooted with mode := s.modes.mode } := by
  cases warm <;> simp [folioReset, modeView, heatCause_keeps _, ModeView.rebooted, modes0]

theorem ordered_rebooted {w : ModeView} : w.rebooted.Ordered :=
  ⟨by simp [ModeView.rebooted], by simp [ModeView.rebooted, Mode.code], by simp [ModeView.rebooted], by simp [ModeView.rebooted],
    by simp [ModeView.rebooted], by simp [ModeView.rebooted]⟩

theorem modeView_boots (h : modeView u = (modeView s).rebooted) : modeView (bootLoad u) = (modeView s).rebooted := by
  have hm : (modeView u).mode = .boot := by rw [h]; rfl
  rw [modeView_bootLoad (h ▸ ordered_rebooted) hm, h]

theorem modeView_takeNor {nor} : modeView (takeNor s nor) = modeView s := by cases nor <;> rfl

theorem modeView_warmBoot {persist nor} : modeView (warmBoot s persist nor) = (modeView s).rebooted := by
  unfold warmBoot
  extract_lets s0 s1 src s2 s3
  have hinput : s2.input = s.input := by
    simp [s2, src, s1, s0, decideNow_keeps _, disableOpen_keeps _ _, dropHosts_keeps _, persistEverything_keeps _, abandonImage_keeps _]
  have h3 : modeView s3 = (modeView s).rebooted := by
    rw [modeView_enterMode, Leaves.modeView (s := folioReset s2 true) (by simp +decide), modeView_folioReset]
    simp [modeView, ModeView.rebooted, hinput]
  have hlink : ∀ w, modeView (linkCause w) = modeView w := fun w => by simp [modeView, linkCause_keeps _]
  refine modeView_boots ?_
  rw [modeView_takeNor, hlink, foldl_proj modeView _ (fun _ _ => Leaves.modeView (by simp +decide)), h3]

theorem alongTable_warmBoot {persist nor} (hp : s.folioOn = true) (hm : s.modes.mode ≠ .ret) : AlongTable s (warmBoot s persist nor) := fun hs => by
  rw [modeView_warmBoot]
  exact ModeView.follows_rebooted hs (.inl ⟨hp, hm⟩)

theorem alongTable_coldBoot {nor} (hm : s.modes.mode = .inrush) : AlongTable s (bootLoad (takeNor (enterMode (folioReset s false) .boot) nor)) := fun hs => by
  rw [modeView_boots (s := s)]
  · exact ModeView.follows_rebooted hs (.inr hm)
  · rw [modeView_takeNor, modeView_enterMode, modeView_folioReset]; rfl

theorem modeView_unpowered {l} : modeView { s with folioOn := false, link := l } = { modeView s with powered := false } := rfl

theorem alongTable_railFail (hp : s.folioOn = true) : AlongTable s (railFail s) := fun hs => by
  have h : modeView (railFail s) = (modeView s).lost := by
    unfold railFail
    extract_lets wasUp s1
    have h1 : modeView s1 = { (modeView s).rebooted with mode := s.modes.mode } := by
      rw [← modeView_folioReset (warm := false)]
      exact Leaves.modeView (by simp +decide [s1])
    rw [modeView_followInput, modeView_unpowered, h1]
    rfl
  rw [h]
  exact ModeView.follows_lost hs hp

end Sys2Proof.Machine
end

section
/-! The requests that move the modes, the end of Boot, and the writes of set-up space that reach them. -/

namespace Sys2Proof.Machine

open Sys2Proof.Safety

variable {s u v : State}

/-! ### The end of Boot (R384, R410) -/

namespace ModeView

variable {v : ModeView} {m : Mode}

theorem follows_ordinary_of_boot (h : v.Ordered) (hb : v.mode = .boot) (hm : ordinary m) : v.Follows { v with mode := m } := by
  have hp : v.powered = true := h.powered_of_mode (by simp [hb, Mode.code])
  have hs := h.not_suspending (by simp [hb, ordinary])
  refine ⟨⟨by simp [hp], fun _ => ?_, ?_, ?_, ?_, by simp [hs]⟩, .inr ?_, ?_⟩ <;> rcases hm with rfl | rfl <;> simp [hb, Mode.code, modesAfter]

theorem follows_quarantine_of_boot (h : v.Ordered) (hb : v.mode = .boot) (hm : ordinary m) : v.Follows { v with mode := .quarantine, beforeQuarantine := m } := by
  have hp : v.powered = true := h.powered_of_mode (by simp [hb, Mode.code])
  have hs := h.not_suspending (by simp [hb, ordinary])
  exact ⟨⟨by simp [hp], by simp [Mode.code], by simp, by simp, fun _ => .inl hm, by simp [hs]⟩, .inr (by simp [hb, modesAfter]), by simp⟩

theorem follows_brownout_of_boot (h : v.Ordered) (hb : v.mode = .boot) (hm : ordinary m) : v.Follows (dimmed { v with mode := m }) := by
  have ho := (follows_ordinary_of_boot h hb hm).1
  exact ⟨(follows_dimmed ho (.inl hm)).1, .inr (by simp [dimmed, hb, modesAfter]), by simp [dimmed]⟩

end ModeView

theorem alongTable_leaveBoot (hm : s.modes.mode = .boot) : AlongTable s (leaveBoot s) := fun hs => by
  have htarget : ordinary (bootTarget s) := by
    unfold bootTarget ordinary
    split <;> simp
  have hshed : ∀ w, modeView (flushAfterSheds (brownoutSheds w)) = modeView w := fun w => Leaves.modeView (by simp +decide)
  unfold leaveBoot
  extract_lets target src1 s1 src2 s2 s3
  have h1 : modeView s1 = modeView s := by simp [s1, src1, modeView, passCause_keeps _, heatCause_keeps _]
  have h3 : modeView s3 = modeView s2 := by simp [s3, modeView, presentRp_keeps _ _, homeStampAll_keeps _, recomputeShares_keeps _, applyPortModes_keeps _ _ _]
  by_cases hc : noCause s1
  · have h2 : modeView s3 = { modeView s with mode := target } := by rw [h3, ← h1]; simp [s2, hc, modeView_enterMode]
    simp only [hc, if_true]
    split
    · rw [h2]
      exact ModeView.follows_ordinary_of_boot hs hm htarget
    · rw [hshed, modeView_enterBrownout, h2]
      exact ModeView.follows_brownout_of_boot hs hm htarget
  · have h2 : modeView s3 = { modeView s with mode := .quarantine, beforeQuarantine := target } := by
      rw [h3, show s2 = enterMode { s1 with modes := { s1.modes with beforeQuarantine := target } } .quarantine from if_neg hc, modeView_enterMode, ← h1]
      rfl
    simp only [hc]
    split
    · rw [h2]
      exact ModeView.follows_quarantine_of_boot hs hm htarget
    · simp only [Bool.false_eq_true, if_false, hshed, h2]
      exact ModeView.follows_quarantine_of_boot hs hm htarget

theorem moves_releaseHeld {x} : Moves ModeView.quarantined s (releaseHeld s x) := by
  cases x with
  | portFet n => exact Moves.reportPortFet (.still modeView_recordAt)
  | inputFet check => exact .after modeView_recordAt moves_reportInputFet
  | heat => exact Moves.enterQuarantine (.faultReport .refl)

theorem alongTable_bootEnd (hm : s.modes.mode = .boot) : AlongTable s (bootEnd s) := fun hs => by
  unfold bootEnd
  extract_lets d drawn ink s1 s2 held blot
  have h2 : modeView s2 = modeView s := by simp [s2, s1, drawn, d, modeView, startPeriods, fillBuckets_keeps _, draw_keeps _]
  have hheld : Moves ModeView.quarantined s (held.foldl releaseHeld { s2 with blot := { s2.blot with held := [] } }) :=
    .foldl settled_quarantined _ (Moves.blot (.still h2)) fun _ _ => moves_releaseHeld
  generalize held.foldl releaseHeld _ = w at hheld
  have hw : modeView w = modeView s := by
    rcases hheld hs with h | h
    · exact h
    · rw [h]
      simp [ModeView.quarantined, modeView, hm]
  exact (AlongTable.after hw (alongTable_leaveBoot ((congrArg ModeView.mode hw).trans hm))) hs

/-! ### Requests (R384–R386, R393, R398–R400, R412) -/

theorem modeView_refuseMode {code} : modeView (refuseMode s code) = modeView s := by simp [modeView, refuseMode_keeps _ _]

theorem modeView_answerMode {code} : modeView (answerMode s code) = modeView s := rfl

theorem modeView_rcCount {a lo} : modeView (rcCount s a lo) = modeView s := by simp [modeView, rcCount_keeps _ _ _]

theorem alongTable_quarExit : AlongTable s (quarExit s) := fun hs => by
  unfold quarExit
  split
  next => exact AlongTable.still modeView_refuseMode hs
  next hc =>
    obtain ⟨hm, -⟩ : s.modes.mode = .quarantine ∧ noCause s = true := by simpa using hc
    extract_lets m from_ src s1
    have h1 : modeView s1 = { modeView s with beforeBrownout := ((modeView s).released s.input.ew).beforeBrownout } := by
      rw [show ((modeView s).released s.input.ew).beforeBrownout = if m = .brownout ∧ from_ ≠ .brownout then
        (if from_ = .suspend then s.modes.beforeSuspend else from_) else s.modes.beforeBrownout from rfl]
      by_cases hb : m = .brownout ∧ from_ ≠ .brownout
      · rw [show s1 = rcCount _ 0x1014 0 from if_pos hb, if_pos hb, modeView_rcCount]; rfl
      · rw [show s1 = s from if_neg hb, if_neg hb]; rfl
    have h : modeView (releasePorts (enterMode s1 m)) = (modeView s).released s.input.ew := by
      rw [show modeView (releasePorts (enterMode s1 m)) = modeView (enterMode s1 m) by simp [modeView, releasePorts_keeps _], modeView_enterMode, h1]
      rfl
    rw [h]
    exact ModeView.follows_released hs hm

theorem modeView_homeStampAll : modeView (homeStampAll s) = modeView s := by simp [modeView, homeStampAll_keeps _]

theorem alongTable_modeManaged : AlongTable s (modeManaged s) := by
  refine .ite (fun hm => AlongTable.then (fun hs => ?_) modeView_homeStampAll) fun _ => .still modeView_refuseMode
  rw [modeView_enterMode, modeView_answerMode]
  exact ModeView.follows_managed hs hm

theorem alongTable_startSuspend (hm : ordinary s.modes.mode) : AlongTable s (startSuspend s) := fun hs => by
  have h : modeView (startSuspend s) = { modeView s with suspending := true } := by
    simp [startSuspend, modeView, treeSuspend_keeps _ _]
  rw [h]
  exact ModeView.follows_suspending hs hm

theorem alongTable_modeSuspend : AlongTable s (modeSuspend s) :=
  .ite (fun _ => .still modeView_refuseMode) fun hm => .ite (fun _ => .still rfl) fun _ => .ite (fun _ => .still rfl) fun _ =>
    alongTable_startSuspend (not_not.1 hm)

theorem modeView_pal {x} : modeView { s with pal := x } = modeView s := rfl

theorem alongTable_enterStandby (hm : ordinary s.modes.mode ∨ s.modes.mode = .suspend) : AlongTable s (enterStandby s) := fun hs => by
  have h : modeView (enterStandby s) = (modeView s).entered .standby := by
    unfold enterStandby
    extract_lets image modes s1 s2 pal
    have h2 : modeView s2 = modeView s1 := by simp [s2, modeView, decideNow_keeps _, dropHosts_keeps _, lastNotices_keeps _, disableOpen_keeps _ _]
    rw [modeView_pal, h2, modeView_enterMode]
    simp [modeView, ModeView.entered, modes, image, abandonImage_keeps _]
  have hp : s.folioOn = true := hs.powered_of_mode (by rcases hm with (hm | hm) | hm <;> simp [modeView, hm, Mode.code])
  rw [h]
  refine ModeView.follows_entered hp (by simp [Mode.code]) (by simp) ?_
  rcases hm with (hm | hm) | hm <;> simp [modeView, hm, modesAfter]

theorem alongTable_modeStandby : AlongTable s (modeStandby s) :=
  .ite (fun _ => .still modeView_refuseMode) fun hm => .ite (fun _ => .still rfl) fun _ =>
    alongTable_enterStandby (or_assoc.2 (not_not.1 hm))

theorem alongTable_modeWake (hp : s.folioOn = true) : AlongTable s (modeWake s) :=
  .ite (fun _ => (Moves.after modeView_answerMode moves_wakeSource).alongTable settled_woken) fun _ =>
    .ite (fun hm => .after modeView_answerMode (alongTable_warmBoot hp (by simp [hm]))) fun _ => .still modeView_refuseMode

theorem alongTable_modeReboot (hp : s.folioOn = true) : AlongTable s (modeReboot s) :=
  .ite (fun _ => .still modeView_refuseMode) fun hm => .after modeView_answerMode (alongTable_warmBoot hp (by simpa using hm))

theorem alongTable_suspendReached (h : s.modes.suspending = true) :
    AlongTable s (enterMode (answerMode { s with modes := { s.modes with suspending := false, beforeSuspend := s.modes.mode } } 1) .suspend) := fun hs => by
  rw [modeView_enterMode, modeView_answerMode]
  exact ModeView.follows_suspended hs h

/-! ### Writes of set-up space (R6, R385) -/

/-- Where at most one bit of a request is set, at most one of its actions runs. -/
theorem modeCtrl_single {w : Word} (h : manyBits w 5 = false) :
    modeCtrl s w ∈ [s, modeManaged s, modeSuspend s, modeStandby s, modeWake s, modeReboot s] := by
  rw [modeCtrl, if_neg (by simp [h])]
  cases h0 : bitOf w 0 <;> cases h1 : bitOf w 1 <;> cases h2 : bitOf w 2 <;> cases h3 : bitOf w 3 <;> cases h4 : bitOf w 4 <;>
    simp_all [manyBits, bitsDo, List.range_succ]

theorem alongTable_modeCtrl {w} (hp : s.folioOn = true) : AlongTable s (modeCtrl s w) := by
  cases h : manyBits w 5
  · have hw := modeCtrl_single (s := s) h
    simp only [List.mem_cons, List.not_mem_nil, or_false] at hw
    rcases hw with hw | hw | hw | hw | hw | hw <;> rw [hw]
    · exact .refl
    · exact alongTable_modeManaged
    · exact alongTable_modeSuspend
    · exact alongTable_modeStandby
    · exact alongTable_modeWake hp
    · exact alongTable_modeReboot hp
  · rw [modeCtrl, if_pos h]
    exact .still modeView_refuseMode

/-- A request of one bit runs its action or nothing. -/
theorem alongTable_bit {w : Word} {g : State → State} (h : AlongTable s (g s)) : AlongTable s (bitsDo w [(0, g)] s) := .ite (fun _ => h) fun _ => .refl

theorem modeView_bitsDo {w acts} (h : ∀ a ∈ acts, ∀ u, modeView (a.2 u) = modeView u) : modeView (bitsDo w acts s) = modeView s := bitsDo_proj modeView w acts h s

theorem alongTable_w1pGlobal {p a w} (hp : s.folioOn = true) : AlongTable s (w1pGlobal s p a w) := by
  unfold w1pGlobal
  refine .ite (fun _ => .still ?_) fun _ => .ite (fun _ => .still (modeView_bitsDo ?_)) fun _ => .ite (fun _ => alongTable_modeCtrl hp) fun _ =>
    .ite (fun _ => .still (modeView_bitsDo ?_)) fun _ => .ite (fun _ => alongTable_bit alongTable_quarExit) fun _ =>
    .ite (fun _ => .still (modeView_bitsDo ?_)) fun _ => .ite (fun _ => .still (modeView_bitsDo ?_)) fun _ => .refl
  · exact Leaves.modeView (by simp +decide)
  all_goals
    simp only [List.forall_mem_cons, List.not_mem_nil, false_imp_iff, implies_true, and_true]
    (repeat' apply And.intro) <;> exact fun _ => Leaves.modeView (by simp +decide)

/-- IN_CTRL: a LATCHED path reseats, and the check of its pass device moves no mode (R315, R332). -/
theorem alongTable_inputClears {w : Word} : AlongTable s (bitsDo w [(0, inputClear), (1, inputFetClear)] s) := by
  refine AlongTable.ite (fun _ => AlongTable.then ?_ modeView_inputFetClear) fun _ => ?_
  all_goals exact .ite (fun _ => alongTable_inputClear) fun _ => .refl

theorem modeView_bcGate {p g} (h : modeView (g s) = modeView s) : modeView (bcGate s p g) = modeView s := by
  unfold bcGate
  split
  · exact h
  · exact modeView_recordAt

theorem alongTable_w1pBlock {p a w} (hp : s.folioOn = true) : AlongTable s (w1pBlock s p a w) := by
  unfold w1pBlock
  refine .ite (fun _ => alongTable_inputClears) fun _ => .ite (fun _ => .still (modeView_bitsDo ?_)) fun _ =>
    .ite (fun _ => .ite (fun _ => .refl) fun _ => .still (modeView_bitsDo ?_)) fun _ => .ite (fun _ => .still (modeView_bitsDo ?_)) fun _ =>
    .ite (fun _ => .still (modeView_bitsDo ?_)) fun _ => .ite (fun _ => .still (modeView_bitsDo ?_)) fun _ => ?_
  case refine_4 => simpa using ⟨fun _ => modeView_bcGate (Leaves.modeView (by simp +decide)), fun _ => modeView_bcGate (Leaves.modeView (by simp +decide))⟩
  case refine_5 => simpa using fun _ => modeView_bcGate (Leaves.modeView (by simp +decide))
  case refine_6 =>
    split
    · exact .still (modeView_bitsDo (by simpa using fun _ => Leaves.modeView (by simp +decide)))
    · exact alongTable_w1pGlobal hp
  all_goals
    simp only [List.forall_mem_cons, List.not_mem_nil, false_imp_iff, implies_true, and_true]
    (repeat' apply And.intro) <;> exact fun _ => Leaves.modeView (by simp +decide)

theorem moves_pageWrite {p r a w} : Moves ModeView.woken s (pageWrite s p r a w) := by
  unfold pageWrite
  refine .ite (fun _ => .refl) fun _ => .ite (fun _ => .when (.ite (fun _ => moves_doorbell) fun _ => .still ?_)) fun _ => .still ?_
  · simp [modeView, writePage_keeps _ _ _ _ _]
  · exact Leaves.modeView (by simp +decide)

theorem alongTable_setupWrite {p a w} (hp : s.folioOn = true) : AlongTable s (setupWrite s p a w) := by
  unfold setupWrite
  split
  · exact moves_pageWrite.alongTable settled_woken
  · split
    · exact .refl
    · refine .ite (fun _ => .still (Leaves.modeView (by simp +decide))) fun _ => ?_
      split
      · exact .refl
      · exact .refl
      · exact .ite (fun _ => .still (Leaves.modeView (by simp +decide))) fun _ => alongTable_w1pBlock hp
      · exact .ite (fun _ => .still (Leaves.modeView (by simp +decide))) fun _ => .still (Leaves.modeView (by simp +decide))

end Sys2Proof.Machine
end

section
/-! Every command moves the modes along the table: the commands that reach them, in the order of the model's files, then all (O7, O8). -/

namespace Sys2Proof.Machine

open Sys2Proof.Safety

variable {s u : State} {t : Nat} {path : Path}

/-! ### The card input (R314–R318, R326, R327, R332) -/

/-- What the input path reads may change; the state it is in does not. -/
theorem AlongTable.setInput {g : InputPath → InputPath} (h : AlongTable s u) (hg : (g u.input).state = u.input.state) : AlongTable s (setInput u g) :=
  h.then (by simp [modeView, Machine.setInput, hg])

theorem AlongTable.input_first {g : InputPath → InputPath} (hg : (g s.input).state = s.input.state) (h : AlongTable (Machine.setInput s g) u) : AlongTable s u :=
  h.after (by simp [modeView, Machine.setInput, hg])

/-- A path state that Folio, unpowered, follows in the same mode (R381). -/
theorem ModeView.follows_samePath {v : ModeView} {i : InState} (h : v.Ordered) (hi : unpoweredMode i = unpoweredMode v.input) :
    v.Follows { v with input := i } :=
  ⟨⟨fun hp => (h.unpowered hp).trans hi.symm, h.powered, h.suspended, h.brownout, h.quarantined, h.suspending⟩, .inl rfl, id⟩

theorem ModesFollow.execVinPreRise {vin} : ModesFollow s (execVinPreRise t vin s) := .event fun u hu hs => by
  have hi : u.input.state = .off := by simp_all
  rw [modeView_followInput]
  exact ModeView.follows_inputMoved (i := .seating) hs (by simp [modeView, hi, unpoweredMode, modesAfter])

theorem ModesFollow.execVinPreCollapse : ModesFollow s (execVinPreCollapse t s) := .event fun u hu hs => by
  rw [modeView_collapseReservoir]
  exact ModeView.follows_inputMoved hs (by cases hv : u.input.state <;> simp_all [modeView, unpoweredMode, modesAfter])

theorem ModesFollow.execSeatStable {vin} : ModesFollow s (execSeatStable t vin s) := .event fun u hu => by
  refine .input_first rfl (.when (alongTable_startInrush ?_))
  simp_all [setInput]

theorem ModesFollow.execSeatRelease {pinB} : ModesFollow s (execSeatRelease t pinB s) := .event fun u hu => by
  dsimp only
  refine .input_first (g := fun i => if pinB then { i with seatB := false } else { i with seatA := false }) (by split <;> rfl) ?_
  generalize hw : setInput u _ = w
  have hi : w.input.state = u.input.state := by
    rw [← hw]
    cases pinB <;> rfl
  split
  · exact .refl
  · exact AlongTable.refl.setInput rfl
  · exact alongTable_loseInput (by simp_all)
  · exact alongTable_loseInput (by simp_all)
  · exact alongTable_reseat (by simp_all)
  · exact alongTable_reseat (by simp_all)
  · exact alongTable_reseat (by simp_all)

theorem ModesFollow.execInrushDone {vin vout} : ModesFollow s (execInrushDone t vin vout s) := .event fun u hu hs => by
  have hi : u.input.state = .inrush := by simp_all
  rw [modeView_followInput]
  exact ModeView.follows_inputMoved (i := .on) hs (by simp [modeView, hi, unpoweredMode])

theorem ModesFollow.execInrushTimerExpiry : ModesFollow s (execInrushTimerExpiry t s) := .event fun u hu => alongTable_tripInput (by simp_all)

theorem ModesFollow.execInputLoss {cause vin amps} : ModesFollow s (execInputLoss t cause vin amps s) := .event fun u hu => by
  refine .input_first rfl (alongTable_loseInput ?_)
  intro hi
  simp_all [setInput]

theorem ModesFollow.execInputReturn {vin} : ModesFollow s (execInputReturn t vin s) := .event fun u hu => alongTable_startInrush (by simp_all)

theorem ModesFollow.execInputRetryWaitExpiry {vin} : ModesFollow s (execInputRetryWaitExpiry t vin s) := .event fun u hu => by
  have hi : u.input.state = .retryWait := by simp_all
  refine .ite (fun _ => .when (.input_first rfl (alongTable_startInrush (by simp [setInput, hi])))) fun _ => ?_
  refine AlongTable.then (u := setInput u fun i => { i with state := .latched, since := u.now }) (fun hs => ?_) (by simp [modeView, recordRes_keeps _ _ _ _ _ _ _])
  rw [modeView_setInput]
  exact ModeView.follows_samePath hs (by simp [modeView, hi, unpoweredMode])

theorem ModesFollow.execInputRetryClear : ModesFollow s (execInputRetryClear t s) := .event fun _ _ => AlongTable.refl.setInput rfl
theorem ModesFollow.execInClear : ModesFollow s (execInClear t path s) := .privCmd fun _ _ => alongTable_inputClear
theorem ModesFollow.execInClearFetFail : ModesFollow s (execInClearFetFail t path s) := .privCmd fun _ _ => .still modeView_inputFetClear
theorem ModesFollow.execPgRelease {vout} : ModesFollow s (execPgRelease t vout s) := .event fun _ _ => AlongTable.refl.setInput rfl
theorem ModesFollow.execPgFall {vout} : ModesFollow s (execPgFall t vout s) := .event fun _ _ => AlongTable.refl.setInput rfl

theorem modeView_sheds : modeView (flushAfterSheds (brownoutSheds s)) = modeView s := Leaves.modeView (by simp +decide)

/-- Brownout from an ordinary mode, with a Suspend entry abandoned first, or from Suspend (R384, R399). -/
theorem alongTable_enterBrownout (hm : ordinary s.modes.mode ∨ s.modes.mode = .suspend) : AlongTable s (enterBrownout s) := fun hs => by
  rw [modeView_enterBrownout]
  exact ModeView.follows_dimmed hs hm

theorem alongTable_wokenBrownout (hm : ordinary s.modes.mode) : AlongTable s (enterBrownout (wakeSource s)) := fun hs => by
  have hw : (modeView (wakeSource s)).mode = s.modes.mode := by
    rw [modeView_wakeSource]
    rcases hm with hm | hm <;> by_cases hsus : s.modes.suspending = true <;> simp [ModeView.woken, modeView, hm, hsus]
  have hmode : (wakeSource s).modes.mode = s.modes.mode := hw
  have ho : (modeView (wakeSource s)).Ordered := modeView_wakeSource ▸ (ModeView.follows_woken hs).1
  exact ModeView.Follows.of_same_mode hw (alongTable_enterBrownout (.inl (hmode ▸ hm)) ho)

theorem ModesFollow.execEarlyWarning {vin} : ModesFollow s (execEarlyWarning t vin s) := .event fun u hu => by
  dsimp only
  generalize hw : recordRes (powerEvent (setInput u _) 0) _ _ _ _ _ _ = w
  have hv : modeView w = modeView u := hw ▸ modeView_powerRecorded
  have hmode : w.modes.mode = u.modes.mode := congrArg ModeView.mode hv
  refine .after hv ?_
  split
  next hm => exact (alongTable_wokenBrownout (.inl (hmode.trans hm))).then modeView_sheds
  next hm => exact (alongTable_wokenBrownout (.inr (hmode.trans hm))).then modeView_sheds
  next hm => exact (alongTable_enterBrownout (.inr (hmode.trans hm))).then modeView_sheds
  next => exact .still modeView_sheds
  next => exact .refl

theorem ModesFollow.execEarlyWarningClear {vin} : ModesFollow s (execEarlyWarningClear t vin s) := .event fun u hu => by
  extract_lets s1 pal s2 again
  have h2 : modeView s2 = modeView u := rfl
  refine .after h2 ?_
  split
  next hm =>
    have hagain : modeView (recomputeShares (again (leaveBrownout s2))) = modeView (leaveBrownout s2) := Leaves.modeView (by simp +decide [again])
    refine AlongTable.then (fun hs => ?_) hagain
    rw [modeView_leaveBrownout]
    exact ModeView.follows_undimmed hs hm
  next => exact .still (Leaves.modeView (by simp +decide))
  next => exact .refl

theorem ModesFollow.execBreakerEval {p sample v1 v2 v3} : ModesFollow s (execBreakerEval t p sample v1 v2 v3 s) := .event fun u hu => by
  cases p with
  | port n => exact .still (Leaves.modeView (by simp +decide))
  | input =>
    extract_lets band acc s1 s2
    have h2 : modeView s2 = modeView u := (Leaves.modeView (by simp +decide [s2])).trans (show modeView s1 = modeView u from rfl)
    refine .after h2 (.ite (fun hc => alongTable_tripInput ?_) fun _ => .refl)
    simp_all

theorem ModesFollow.execFastTrip {p} : ModesFollow s (execFastTrip t p s) := .act fun u => AlongTable.modeStep <| by
  cases p with
  | port n => exact .still (Leaves.modeView (by simp +decide))
  | input =>
    refine .ite (fun hc => alongTable_tripInput ?_) fun _ => .refl
    simp_all

theorem ModesFollow.execPassDeviceFault {p check} : ModesFollow s (execPassDeviceFault t p check s) := .event fun u hu => by
  cases p with
  | port n => exact .when (moves_portFetFault.alongTable settled_quarantined)
  | input => exact .when (moves_inputFetFault.alongTable settled_quarantined)

theorem ModesFollow.execFetClearCheckEnd {p failed} : ModesFollow s (execFetClearCheckEnd t p failed s) := .act fun u => AlongTable.modeStep <| by
  cases p with
  | port n =>
    dsimp only
    split
    · exact .still (Leaves.modeView (by simp +decide))
    · exact .refl
  | input =>
    dsimp only
    split
    · refine .when (.ite (fun _ => AlongTable.refl.setInput rfl) fun _ => .still ?_)
      simp [modeView, passCause_keeps _, setInput]
    · exact .refl

/-! ### Doorbells, rings and buses (R100, R101, R130, R140, R187, R229) -/

theorem ModesFollow.execCmdDb {r value} : ModesFollow s (execCmdDb t r value s) := .event fun _ _ => moves_doorbell.alongTable settled_woken
theorem ModesFollow.execEvtDb {r value} : ModesFollow s (execEvtDb t r value s) := .event fun _ _ => moves_doorbell.alongTable settled_woken
theorem ModesFollow.execLeaseDb {r value} : ModesFollow s (execLeaseDb t r value s) := .event fun _ _ => moves_doorbell.alongTable settled_woken
theorem ModesFollow.execTransferDb {r slot value} : ModesFollow s (execTransferDb t r slot value s) :=
  .event fun _ _ => moves_doorbell.alongTable settled_woken
theorem ModesFollow.execReservedDoorbell {r offset} : ModesFollow s (execReservedDoorbell t r offset s) :=
  .event fun _ _ => moves_doorbell.alongTable settled_woken
theorem ModesFollow.execRingFetchComplete {r ring entries failed} : ModesFollow s (execRingFetchComplete t r ring entries failed s) :=
  .event fun _ _ => moves_fetchComplete.alongTable settled_woken

theorem ModesFollow.execRoceDoorbellWrite {q rkey addr bytes} : ModesFollow s (execRoceDoorbellWrite t q rkey addr bytes s) := .act fun u => AlongTable.modeStep <| by
  refine .when (.ite (fun _ => ?_) fun _ => .still (Leaves.modeView (by simp +decide)))
  exact (Moves.foldl settled_woken _ (.still (Leaves.modeView (by simp +decide))) fun _ _ => moves_doorbell).alongTable settled_woken

theorem ModesFollow.execRdmaReadResponse {r what data} : ModesFollow s (execRdmaReadResponse t r what data s) :=
  .event fun _ _ => moves_readArrived.alongTable settled_woken

theorem ModesFollow.execDmaReadCompletion {r what data failed} : ModesFollow s (execDmaReadCompletion t r what data failed s) := .event fun u _ =>
  (Moves.after (by split <;> simp [modeView_rcCount]) moves_readArrived).alongTable settled_woken

theorem ModesFollow.execUpstreamResume {c} : ModesFollow s (execUpstreamResume t c s) := .event fun u _ => by
  extract_lets s1
  have hw : Moves ModeView.woken u s1 := .after (Leaves.modeView (u := setCvi u c _) (by simp +decide)) moves_wakeSource
  clear_value s1
  exact (hw.then (Leaves.modeView (by simp +decide))).alongTable settled_woken

theorem ModesFollow.execRemoteWake {n ss} : ModesFollow s (execRemoteWake t n ss s) := .event fun u _ => by
  extract_lets s1
  have hw : Moves ModeView.woken u s1 := moves_wakeSource
  clear_value s1
  refine (hw.then ?_).alongTable settled_woken
  split <;> exact Leaves.modeView (by simp +decide)

/-! ### Attach, detach and faults (R284, R309, R405–R412) -/

theorem ModesFollow.execCcDetach {n} : ModesFollow s (execCcDetach t n s) := .act fun u => AlongTable.modeStep <| by
  split
  · exact .when (moves_detach.alongTable settled_woken)
  · exact .refl

theorem ModesFollow.execAttachDebounceEnd {n} : ModesFollow s (execAttachDebounceEnd t n s) := .act fun u => AlongTable.modeStep <|
  .when (.ite (fun _ => moves_tryAttach.alongTable settled_woken) fun _ => .ite (fun _ => .still (Leaves.modeView (by simp +decide))) fun _ => .refl)

theorem ModesFollow.execWatchdogExpiry {e} : ModesFollow s (execWatchdogExpiry t e s) := .event fun u _ =>
  .ite (fun _ => moves_clusterFail.alongTable settled_quarantined) fun _ => .still (Leaves.modeView (by simp +decide))

theorem ModesFollow.execEccUncorrectable {site} : ModesFollow s (execEccUncorrectable t site s) := .event fun u _ =>
  (Moves.after (Leaves.modeView (by simp +decide)) moves_contain).alongTable settled_quarantined

theorem ModesFollow.execTemperatureExceeded {place temp} : ModesFollow s (execTemperatureExceeded t place temp s) := .act fun _ => AlongTable.modeStep <|
  .ite (fun _ => .when (moves_reservoirHot.alongTable settled_quarantined)) fun _ => .when (moves_regionHot.alongTable settled_quarantined)

theorem ModesFollow.execQuarExit : ModesFollow s (execQuarExit t path s) := .privCmd fun _ _ => alongTable_quarExit

theorem ModesFollow.execD2dLinkLost : ModesFollow s (execD2dLinkLost t s) := .event fun _ _ => moves_linkLost.alongTable settled_quarantined

/-! ### Boot, rails and requests (R381, R384–R400, R433, R440) -/

theorem ModesFollow.execFolioResetRelease {nor} : ModesFollow s (execFolioResetRelease t nor s) := .event fun u hu => alongTable_coldBoot (by simp_all)
theorem ModesFollow.execFolioRailFail : ModesFollow s (execFolioRailFail t s) := .event fun _ hu => alongTable_railFail hu
theorem ModesFollow.execBootEnd : ModesFollow s (execBootEnd t s) := .event fun u hu => alongTable_bootEnd (by simp_all [bootReady])

theorem ModesFollow.execResetNPulse {nor} : ModesFollow s (execResetNPulse t nor s) := .event fun u hu => by
  simp only [Bool.and_eq_true, bne_iff_ne] at hu
  exact alongTable_warmBoot hu.1 hu.2

theorem ModesFollow.execHoldupFlushComplete : ModesFollow s (execHoldupFlushComplete t s) := .event fun u hu =>
  .ite (fun _ => alongTable_warmBoot (by simp_all) (by simp_all)) fun _ => .still rfl

theorem ModesFollow.execParkedInputRestored : ModesFollow s (execParkedInputRestored t s) :=
  .event fun u hu => alongTable_warmBoot (by simp_all) (by simp_all)

theorem ModesFollow.execStandbyWakeAttach {n} : ModesFollow s (execStandbyWakeAttach t n s) :=
  .event fun u hu => alongTable_warmBoot (by simp_all) (by simp_all)

theorem ModesFollow.execModeManaged : ModesFollow s (execModeManaged t path s) := .privCmd fun _ _ => alongTable_modeManaged
theorem ModesFollow.execModeSuspend : ModesFollow s (execModeSuspend t path s) := .privCmd fun _ _ => alongTable_modeSuspend
theorem ModesFollow.execModeStandby : ModesFollow s (execModeStandby t path s) := .privCmd fun _ _ => alongTable_modeStandby
theorem ModesFollow.execModeWake : ModesFollow s (execModeWake t path s) := .privCmd fun _ hp => alongTable_modeWake hp
theorem ModesFollow.execModeReboot : ModesFollow s (execModeReboot t path s) := .privCmd fun _ hp => alongTable_modeReboot hp
theorem ModesFollow.execSuspendReached : ModesFollow s (execSuspendReached t s) := .event fun u hu => alongTable_suspendReached (by simp_all)

theorem ModesFollow.execStandbyReached : ModesFollow s (execStandbyReached t s) := .event fun u _ => .still <| by
  simp [modeView, converterOff_keeps _ _, applyPortModes_keeps _ _ _]

/-! ### Set-up space and boundaries (R38, R45, R244, R447, R448) -/

theorem modeView_emit {o} : modeView (emit s o) = modeView s := rfl
theorem modeView_funcReplied {k x} : modeView (funcDrain k (funcPop s x)) = modeView s := Leaves.modeView (by simp +decide)

theorem ModesFollow.execSpiWriteFrame {addr data crc} : ModesFollow s (execSpiWriteFrame t addr data crc s) := .event fun u hu => by
  refine .ite (fun _ => .still ?_) fun _ => .ite (fun _ => .still ?_) fun _ => .ite (fun _ => .still ?_) fun _ =>
    (alongTable_setupWrite hu).then modeView_emit
  all_goals exact Leaves.modeView (by simp +decide)

theorem ModesFollow.execBarWrite {win offset data lanes} : ModesFollow s (execBarWrite t win offset data lanes s) := .event fun u hu => by
  have hp : u.folioOn = true := by simp_all [barOpen]
  split
  · exact .refl
  · refine .ite (fun _ => .still ?_) fun _ => .ite (fun _ => .still ?_) fun _ => alongTable_setupWrite hp
    all_goals exact Leaves.modeView (by simp +decide)

theorem ModesFollow.execRegisterWrite {addr value} : ModesFollow s (execRegisterWrite t path addr value s) := .event fun u hu => by
  refine .ite (fun _ => .still ?_) fun _ => .ite (fun _ => .still ?_) fun _ => alongTable_setupWrite hu
  all_goals exact Leaves.modeView (by simp +decide)

theorem ModesFollow.execPfTrustWrite {value} : ModesFollow s (execPfTrustWrite t path value s) := .privCmd fun _ hp => alongTable_setupWrite hp

theorem ModesFollow.execEpochStageWrite {addr value} : ModesFollow s (execEpochStageWrite t path addr value s) :=
  .privCmd fun _ hp => .when (alongTable_setupWrite hp)

theorem ModesFollow.execFuncWrite : ModesFollow s (execFuncWrite t s) := .act fun u => AlongTable.modeStep <| by
  split
  next q _ _ =>
    by_cases hp : u.folioOn = true
    · exact .when ((alongTable_setupWrite hp).then modeView_funcReplied)
    · simpa [when, scribeRuns, hp] using AlongTable.refl
  next => exact .refl

theorem ModesFollow.execBrkBoundary : ModesFollow s (execBrkBoundary t s) := .event fun u _ => .still <| by
  rw [modeView_brkCommit]
  exact Leaves.modeView (by simp +decide)

/-! ### Return (R419–R421) -/

theorem modeView_nor {x} : modeView { s with nor := x } = modeView s := rfl

theorem modeView_returnEntry : modeView (returnEntry s) = (modeView s).entered .ret := by
  unfold returnEntry
  extract_lets modes s0 s1 s2 pal s3 s4 s5 nor
  have h4 : modeView s5 = modeView s1 := by
    simp [s5, s4, s3, s2, pal, modeView, setApplied_keeps _ _ _, setSeal, marker_keeps _ _ _ _, persistEverything_keeps _]
  have h1 : modeView s1 = { modeView s0 with mode := .ret } := by
    rw [← modeView_enterMode]
    simp [s1, modeView, dropHosts_keeps _, lastNotices_keeps _, upOff_keeps _, applyPortModes_keeps _ _ _]
  rw [modeView_nor, h4, h1]
  simp [modes, s0, modeView, ModeView.entered]

/-- Return is entered from a mode that may, and only while it is armed. -/
theorem modeStep_returnEntry (ho : returnOpen s = true) (hu : modeView u = modeView s) : ModeStep s (returnEntry u) := fun hs => by
  obtain ⟨harm, hm⟩ : s.sealUnit.armed = true ∧ (s.modes.mode = .standalone ∨ s.modes.mode = .managed ∨ s.modes.mode = .quarantine) := by
    simpa [returnOpen, or_assoc] using ho
  have hv : modeView (returnEntry u) = (modeView s).entered .ret := (modeView_returnEntry (s := u)).trans (congrArg (ModeView.entered · .ret) hu)
  have hmode : (returnEntry u).modes.mode = .ret := by simpa only [modeView, ModeView.entered] using congrArg ModeView.mode hv
  have hp : s.folioOn = true := (modesInOrder_iff.1 hs).powered_of_mode (by rcases hm with hm | hm | hm <;> simp [modeView, hm, Mode.code])
  refine ⟨modesInOrder_iff.2 (hv ▸ ?_), .inr ?_, fun _ => .inr harm⟩
  · exact ⟨by simp [ModeView.entered, modeView, hp], by simp [ModeView.entered, Mode.code], by simp [ModeView.entered], by simp [ModeView.entered],
      by simp [ModeView.entered], by simp [ModeView.entered]⟩
  · rw [hmode]
    rcases hm with hm | hm | hm <;> simp [hm, modesAfter]

theorem ModesFollow.execGateVerifyDone {signed} : ModesFollow s (execGateVerifyDone t signed s) := .act fun u => by
  dsimp only
  split
  · exact AlongTable.refl.modeStep
  · unfold when
    split
    · dsimp only
      split
      next hc => exact modeStep_returnEntry (by simp_all) (Leaves.modeView (by simp +decide))
      next => exact AlongTable.modeStep (.ite (fun _ => .still (Leaves.modeView (by simp +decide))) fun _ => .still (Leaves.modeView (by simp +decide)))
    · exact AlongTable.refl.modeStep

/-! ### Every command -/

/-- The commands that may touch what the view reads. -/
def reachesModes (c : Instr) : Bool := !within (touches c) besideModes

theorem exec_modesFollow (s : State) (c : Instr) : ModesFollow s (exec c s) := by
  cases hc : reachesModes c
  · exact (exec_onlyTouches s c).modesFollow (by simpa [reachesModes] using hc)
  · revert hc
    cases c
    case vinPreRise => exact fun _ => .execVinPreRise
    case vinPreCollapse => exact fun _ => .execVinPreCollapse
    case seatStable => exact fun _ => .execSeatStable
    case seatRelease => exact fun _ => .execSeatRelease
    case inrushDone => exact fun _ => .execInrushDone
    case inrushTimerExpiry => exact fun _ => .execInrushTimerExpiry
    case inputLoss => exact fun _ => .execInputLoss
    case inputReturn => exact fun _ => .execInputReturn
    case inputRetryWaitExpiry => exact fun _ => .execInputRetryWaitExpiry
    case inputRetryClear => exact fun _ => .execInputRetryClear
    case inClear => exact fun _ => .execInClear
    case inClearFetFail => exact fun _ => .execInClearFetFail
    case pgRelease => exact fun _ => .execPgRelease
    case pgFall => exact fun _ => .execPgFall
    case earlyWarning => exact fun _ => .execEarlyWarning
    case earlyWarningClear => exact fun _ => .execEarlyWarningClear
    case breakerEval => exact fun _ => .execBreakerEval
    case fastTrip => exact fun _ => .execFastTrip
    case passDeviceFault => exact fun _ => .execPassDeviceFault
    case fetClearCheckEnd => exact fun _ => .execFetClearCheckEnd
    case cmdDb => exact fun _ => .execCmdDb
    case evtDb => exact fun _ => .execEvtDb
    case leaseDb => exact fun _ => .execLeaseDb
    case transferDb => exact fun _ => .execTransferDb
    case reservedDoorbell => exact fun _ => .execReservedDoorbell
    case ringFetchComplete => exact fun _ => .execRingFetchComplete
    case roceDoorbellWrite => exact fun _ => .execRoceDoorbellWrite
    case rdmaReadResponse => exact fun _ => .execRdmaReadResponse
    case dmaReadCompletion => exact fun _ => .execDmaReadCompletion
    case upstreamResume => exact fun _ => .execUpstreamResume
    case remoteWake => exact fun _ => .execRemoteWake
    case ccDetach => exact fun _ => .execCcDetach
    case attachDebounceEnd => exact fun _ => .execAttachDebounceEnd
    case watchdogExpiry => exact fun _ => .execWatchdogExpiry
    case eccUncorrectable => exact fun _ => .execEccUncorrectable
    case temperatureExceeded => exact fun _ => .execTemperatureExceeded
    case quarExit => exact fun _ => .execQuarExit
    case d2dLinkLost => exact fun _ => .execD2dLinkLost
    case folioResetRelease => exact fun _ => .execFolioResetRelease
    case folioRailFail => exact fun _ => .execFolioRailFail
    case bootEnd => exact fun _ => .execBootEnd
    case resetNPulse => exact fun _ => .execResetNPulse
    case holdupFlushComplete => exact fun _ => .execHoldupFlushComplete
    case parkedInputRestored => exact fun _ => .execParkedInputRestored
    case standbyWakeAttach => exact fun _ => .execStandbyWakeAttach
    case modeManaged => exact fun _ => .execModeManaged
    case modeSuspend => exact fun _ => .execModeSuspend
    case modeStandby => exact fun _ => .execModeStandby
    case modeWake => exact fun _ => .execModeWake
    case modeReboot => exact fun _ => .execModeReboot
    case suspendReached => exact fun _ => .execSuspendReached
    case standbyReached => exact fun _ => .execStandbyReached
    case spiWriteFrame => exact fun _ => .execSpiWriteFrame
    case barWrite => exact fun _ => .execBarWrite
    case registerWrite => exact fun _ => .execRegisterWrite
    case pfTrustWrite => exact fun _ => .execPfTrustWrite
    case epochStageWrite => exact fun _ => .execEpochStageWrite
    case funcWrite => exact fun _ => .execFuncWrite
    case brkBoundary => exact fun _ => .execBrkBoundary
    case gateVerifyDone => exact fun _ => .execGateVerifyDone
    all_goals exact fun h => absurd h Bool.false_ne_true

theorem exec_modeStep {c : Instr} (h : exec c s = .next u) : ModeStep s u := (exec_modesFollow s c).modeStep h

/-- A step runs the command at the front of the queue, which the modes do not read, or changes nothing. -/
theorem step_modesInOrder (hs : ModesInOrder s) (h : step s = .next u) : ModesInOrder u := by
  cases hp : s.pending with
  | nil =>
    rw [step_of_idle hp] at h
    cases h
    exact hs
  | cons c rest =>
    rw [step_of_pending hp] at h
    have hrest : ModesInOrder { s with pending := rest } := modesInOrder_iff.2 (show (modeView s).Ordered from modesInOrder_iff.1 hs)
    exact (exec_modeStep h hrest).1

end Sys2Proof.Machine

namespace Sys2Proof.Safety

open Sys2Proof.Machine

/-- Settles O7: every command keeps the mode unit in order (`exec_modesFollow`), each transition by the table. -/
theorem stepKeepsTheModesInOrder : Obligations.StepKeepsTheModesInOrder := fun _ _ hs h => step_modesInOrder hs h

/-- Settles O8: the same rule of every command, with the row of the table that it moves along and the arming that Return needs. -/
theorem modesChangeOnlyByTheTable : Obligations.ModesChangeOnlyByTheTable := fun _ _ _ hs h => (exec_modeStep h hs).2

end Sys2Proof.Safety
end
